-- ==== Sys2Proof/Word.lean ====
section
/-! DEFINITION. The word types of the TDX-8512, its processors and its origin codes. -/

namespace Sys2Proof

/-- A byte of memory. -/
abbrev Byte := BitVec 8

/-- A register word or an instruction word (R31, R411). -/
abbrev Word := BitVec 32

/-- A general register of a Wemon processor (R27). -/
abbrev Dword := BitVec 64

/-- A 5-bit register field of an instruction (R31). -/
abbrev RegNo := BitVec 5

/-- The Wemon processors: the two logical cores, the 512 engines and the 32 section
processors (the table at the head of 02_wemon.md). -/
inductive Proc where
  | core (c : Fin 2)
  | engine (e : Fin 512)
  | line (n : Fin 32)
deriving DecidableEq, Repr

/-- The three Wemon profiles. -/
inductive Profile where
  | c | e | s
deriving DecidableEq, Repr

/-- The profile a processor executes. -/
def Proc.profile : Proc → Profile
  | .core _ => .c
  | .engine _ => .e
  | .line _ => .s

/-- The origins of R12. `port` is the section hardware with the H-port and the V-port;
its member (section 0-31, 32 H-port, 33 V-port) is named in a record's detail. -/
inductive Origin where
  | lc (c : Fin 2)
  | examiner | interlocking | tamper | power | recorder | mailbox | fixity
  | yard (y : Fin 16)
  | pf0
  | inst (n : Nat)
  | i3c0 | i3c1 | smbus0 | smbus1
  | debug
  | port
deriving DecidableEq, Repr

/-- The 6-bit origin code (R12). -/
def Origin.code : Origin → Nat
  | .lc c => c.val
  | .examiner => 0x02
  | .interlocking => 0x03
  | .tamper => 0x04
  | .power => 0x05
  | .recorder => 0x06
  | .mailbox => 0x07
  | .fixity => 0x08
  | .yard y => 0x10 + y.val
  | .pf0 => 0x20
  | .inst _ => 0x21
  | .i3c0 => 0x28
  | .i3c1 => 0x29
  | .smbus0 => 0x2A
  | .smbus1 => 0x2B
  | .debug => 0x30
  | .port => 0x31

/-- The sideband agents a = 0-3 as origins (the table of R358). -/
def agentOrigin : Fin 4 → Origin
  | 0 => .i3c0
  | 1 => .i3c1
  | 2 => .smbus0
  | 3 => .smbus1

/-- The yard of an engine: yard y holds engines 32y to 32y + 31. -/
def yardOf (e : Fin 512) : Fin 16 := ⟨e.val / 32, by omega⟩

/-- The lane of an engine in its yard. -/
def laneOf (e : Fin 512) : Nat := e.val % 32

end Sys2Proof
end

