-- ==== Sys2Proof/Types.lean ====
section
/-! DEFINITION. The kinds of thing a command's operands name. -/

namespace Sys2Proof

/-- Who reads or writes a register (R410, R413): a logical core, an engine, an instance's page
(instance 0 is PF0), a sideband agent (0 I3C-0, 1 I3C-1, 2 SMBus-0, 3 SMBus-1), or debug. -/
inductive Party where
  | core (c : Fin 2)
  | engine (e : Fin 512)
  | inst (n : Fin 1025)
  | agent (a : Fin 4)
  | debug
deriving DecidableEq, Repr

/-- The origin of a party's writes (R12). -/
def Party.origin : Party → Origin
  | .core c => .lc c
  | .engine e => .yard (yardOf e)
  | .inst n => if n.val = 0 then .pf0 else .inst n.val
  | .agent a => agentOrigin a
  | .debug => .debug

/-- The member that a record's detail names for a party (R12). -/
def Party.member : Party → Nat
  | .engine e => e.val
  | .inst n => n.val
  | _ => 0

/-- Who sends a request (R207, R285, R322): a sideband agent by its mailbox channel or an instance by its
command ring (instance 0 is PF0). -/
inductive Sender where
  | agent (a : Fin 4)
  | inst (n : Fin 1025)
deriving DecidableEq, Repr

/-- The origin of a requester (R12). -/
def Sender.origin : Sender → Origin
  | .agent a => agentOrigin a
  | .inst n => if n.val = 0 then .pf0 else .inst n.val

/-- Where a component's select rises (R96): in the command or address phase, after it but
before the first data edge, or in the data phase after a whole number of units or mid-unit. -/
inductive Rise where
  | inCommand
  | noData
  | data (whole : Bool)
deriving DecidableEq, Repr

/-- How far a command frame goes within COMMAND_ROUTE: the instructions that its route executes, and the data edges that
come before the block's next command (R87, R92). -/
structure RouteRun where
  steps : Nat
  edges : Nat
deriving DecidableEq, Repr

/-- What a read of host memory brings: its bytes, or none where it ended in a DMA error (R284). -/
abbrev HostRead := Option (List Byte)

/-- A locator entry with what a read of its scatter list brings (R261): the list's address (0 skips the
record), its entry count, its bytes, and how the host answered where it brings none (R284). -/
structure Feed where
  addr : Nat
  count : Nat
  read : HostRead
  kind : Nat := 0
deriving DecidableEq, Repr

/-- A configuration request of the host (R276, R268, R293, R298): SR-IOV control, Bus Master Enable and the power
state of a function (0 PF0, n VF n), PASID Enable, a write of an MSI-X table entry, a DOE object with the
length its header declares and the dwords written. -/
inductive CfgReq where
  | vfs (enable : Bool) (num : Nat)
  | busMaster (fn : Nat) (on : Bool)
  | pasid (on : Bool)
  | power (fn : Nat) (d3hot : Bool)
  | msix (fn entry : Nat) (addr : Nat) (data : Nat) (masked : Bool)
  | doe (declared written : Nat)
deriving DecidableEq, Repr

end Sys2Proof
end

