-- ==== Sys2Proof/Wop.lean ====
section
/-! DEFINITION. A Wemon instruction word taken apart (R31, R34): one constructor per
mnemonic of the instruction table, its operands the fields of its format. -/

namespace Sys2Proof

/-- The instructions of the table of R34 with their operand fields. EXTR keeps pos and
len - 1 as encoded; FENCE keeps its three kind bits. -/
inductive Wop where
  | add (rd ra rb : RegNo) | sub (rd ra rb : RegNo) | and (rd ra rb : RegNo)
  | or (rd ra rb : RegNo) | xor (rd ra rb : RegNo) | shl (rd ra rb : RegNo)
  | shr (rd ra rb : RegNo) | sar (rd ra rb : RegNo) | slt (rd ra rb : RegNo)
  | sltu (rd ra rb : RegNo) | mul (rd ra rb : RegNo) | mulhu (rd ra rb : RegNo)
  | divu (rd ra rb : RegNo) | remu (rd ra rb : RegNo)
  | addi (rd ra : RegNo) (imm : BitVec 16) | andi (rd ra : RegNo) (imm : BitVec 16)
  | ori (rd ra : RegNo) (imm : BitVec 16) | xori (rd ra : RegNo) (imm : BitVec 16)
  | shli (rd ra : RegNo) (n : BitVec 6) | shri (rd ra : RegNo) (n : BitVec 6)
  | sari (rd ra : RegNo) (n : BitVec 6)
  | slti (rd ra : RegNo) (imm : BitVec 16) | sltui (rd ra : RegNo) (imm : BitVec 16)
  | seth (rd : RegNo) (hw : BitVec 2) (imm : BitVec 16)
  | insh (rd : RegNo) (hw : BitVec 2) (imm : BitVec 16)
  | extr (rd ra : RegNo) (pos lenM1 : BitVec 6)
  | ldb (rd ra : RegNo) (imm : BitVec 16) | ldh (rd ra : RegNo) (imm : BitVec 16)
  | ldw (rd ra : RegNo) (imm : BitVec 16) | ldd (rd ra : RegNo) (imm : BitVec 16)
  | stb (rs ra : RegNo) (imm : BitVec 16) | sth (rs ra : RegNo) (imm : BitVec 16)
  | stw (rs ra : RegNo) (imm : BitVec 16) | std (rs ra : RegNo) (imm : BitVec 16)
  | amoadd (rd ra rb : RegNo) | amoswap (rd ra rb : RegNo) | cas (rd ra rb : RegNo)
  | fence (kinds : BitVec 3)
  | beq (ra rb : RegNo) (off : BitVec 16) | bne (ra rb : RegNo) (off : BitVec 16)
  | blt (ra rb : RegNo) (off : BitVec 16) | bge (ra rb : RegNo) (off : BitVec 16)
  | bltu (ra rb : RegNo) (off : BitVec 16) | bgeu (ra rb : RegNo) (off : BitVec 16)
  | jmp (off : BitVec 26) | call (off : BitVec 26)
  | jr (rd ra : RegNo) (imm : BitVec 16)
  | mfs (rd : RegNo) (num : BitVec 12) | mts (rs : RegNo) (num : BitVec 12)
  | ident (rd : RegNo) (sel : BitVec 4)
  | trap (code : BitVec 5) | eret | park
  | topen (rd : RegNo) | tput (ra rb : RegNo) | tcommit (rd ra : RegNo) | tdrop (ra : RegNo)
  | pvset (ra rb : RegNo) | pvclr (ra rb : RegNo)
  | dinit (dc : BitVec 2) (ra : RegNo) | dfeed (dc : BitVec 2) (ra rb : RegNo)
  | dfin (dc : BitVec 2) (ra : RegNo) | dcmp (rd ra rb : RegNo) (dc : BitVec 2)
  | dsave (dc : BitVec 2) | dload (dc : BitVec 2)
  | sread (rd ra rb : RegNo) | dma (rd ra : RegNo) | swait (rd ra : RegNo)
  | wbtake (rd ra : RegNo) | wbdone (ra : RegNo)
  | barY (rd : RegNo) | barG (rd : RegNo)
  | pass (ra : RegNo) (reason : BitVec 8) | deny (ra : RegNo) (reason : BitVec 8)
  | stage (ra : RegNo) (reason : BitVec 8) | serve (ra : RegNo) (reason : BitVec 8)
  | check (ra : RegNo) (reason : BitVec 8)
  | fop (rd : RegNo) | faddr (rd : RegNo) | flen (rd : RegNo) | fmode (rd : RegNo)
  | fdata (rd ra : RegNo) | rlook (rd ra : RegNo) | cnt (k : RegNo)
deriving DecidableEq, Repr

end Sys2Proof
end

