-- ==== Sys2Proof/Syntax.lean ====
section
/-! DEFINITION. The commands of the TDX-8512: one constructor per row of the table of operations and events (opcode_table.json), in its order, with the row's operands. A processor's instruction names the processor that executes it; an event of the surroundings carries what the surroundings decide. -/

namespace Sys2Proof

/-- The commands. -/
inductive Instr where
  /-- ADD (R34): Wemon instruction: rd gets ra plus rb, modulo 2^64. -/
  | add (p : Proc) (rd ra rb : RegNo)
  /-- SUB (R34): Wemon instruction: rd gets ra minus rb. -/
  | sub (p : Proc) (rd ra rb : RegNo)
  /-- AND (R34): Wemon instruction: bitwise AND of two registers. -/
  | and (p : Proc) (rd ra rb : RegNo)
  /-- OR (R34): Wemon instruction: bitwise OR of two registers. -/
  | or (p : Proc) (rd ra rb : RegNo)
  /-- XOR (R34): Wemon instruction: bitwise XOR of two registers. -/
  | xor (p : Proc) (rd ra rb : RegNo)
  /-- SHL (R34): Wemon instruction: logical left shift by rb[5:0]. -/
  | shl (p : Proc) (rd ra rb : RegNo)
  /-- SHR (R34): Wemon instruction: logical right shift by rb[5:0]. -/
  | shr (p : Proc) (rd ra rb : RegNo)
  /-- SAR (R34): Wemon instruction: arithmetic right shift by rb[5:0]. -/
  | sar (p : Proc) (rd ra rb : RegNo)
  /-- SLT (R34): Wemon instruction: signed compare, rd gets 1 if ra is less than rb. -/
  | slt (p : Proc) (rd ra rb : RegNo)
  /-- SLTU (R34): Wemon instruction: unsigned compare, rd gets 1 if ra is less than rb. -/
  | sltu (p : Proc) (rd ra rb : RegNo)
  /-- MUL (R34): Wemon instruction: low 64 bits of the product. -/
  | mul (p : Proc) (rd ra rb : RegNo)
  /-- MULHU (R34): Wemon instruction: unsigned high 64 bits of the product. -/
  | mulhu (p : Proc) (rd ra rb : RegNo)
  /-- DIVU (R34): Wemon instruction: unsigned quotient, all ones when rb is 0. -/
  | divu (p : Proc) (rd ra rb : RegNo)
  /-- REMU (R34): Wemon instruction: unsigned remainder, ra when rb is 0. -/
  | remu (p : Proc) (rd ra rb : RegNo)
  /-- ADDI (R34): Wemon instruction: add a sign-extended immediate. -/
  | addi (p : Proc) (rd ra : RegNo) (imm : BitVec 16)
  /-- ANDI (R34): Wemon instruction: AND with a zero-extended immediate. -/
  | andi (p : Proc) (rd ra : RegNo) (imm : BitVec 16)
  /-- ORI (R34): Wemon instruction: OR with a zero-extended immediate. -/
  | ori (p : Proc) (rd ra : RegNo) (imm : BitVec 16)
  /-- XORI (R34): Wemon instruction: XOR with a zero-extended immediate. -/
  | xori (p : Proc) (rd ra : RegNo) (imm : BitVec 16)
  /-- SHLI (R34): Wemon instruction: left shift by an immediate. -/
  | shli (p : Proc) (rd ra : RegNo) (n : BitVec 6)
  /-- SHRI (R34): Wemon instruction: logical right shift by an immediate. -/
  | shri (p : Proc) (rd ra : RegNo) (n : BitVec 6)
  /-- SARI (R34): Wemon instruction: arithmetic right shift by an immediate. -/
  | sari (p : Proc) (rd ra : RegNo) (n : BitVec 6)
  /-- SLTI (R34): Wemon instruction: signed compare with an immediate. -/
  | slti (p : Proc) (rd ra : RegNo) (imm : BitVec 16)
  /-- SLTUI (R34): Wemon instruction: unsigned compare with a sign-extended immediate. -/
  | sltui (p : Proc) (rd ra : RegNo) (imm : BitVec 16)
  /-- SETH (R34): Wemon instruction: rd gets imm16 shifted to halfword hw. -/
  | seth (p : Proc) (rd : RegNo) (hw : BitVec 2) (imm : BitVec 16)
  /-- INSH (R34): Wemon instruction: inserts imm16 into halfword hw of rd and keeps the other bits. -/
  | insh (p : Proc) (rd : RegNo) (hw : BitVec 2) (imm : BitVec 16)
  /-- EXTR (R34): Wemon instruction: extracts a bit field of ra. -/
  | extr (p : Proc) (rd ra : RegNo) (pos lenM1 : BitVec 6)
  /-- LD_B (R34): Wemon instruction: loads 1 byte, zero-extended. -/
  | ldb (p : Proc) (rd ra : RegNo) (imm : BitVec 16)
  /-- LD_H (R34): Wemon instruction: loads 2 bytes, zero-extended. -/
  | ldh (p : Proc) (rd ra : RegNo) (imm : BitVec 16)
  /-- LD_W (R34): Wemon instruction: loads 4 bytes, zero-extended. -/
  | ldw (p : Proc) (rd ra : RegNo) (imm : BitVec 16)
  /-- LD_D (R34): Wemon instruction: loads 8 bytes. -/
  | ldd (p : Proc) (rd ra : RegNo) (imm : BitVec 16)
  /-- ST_B (R34): Wemon instruction: stores the low byte of a register. -/
  | stb (p : Proc) (rs ra : RegNo) (imm : BitVec 16)
  /-- ST_H (R34): Wemon instruction: stores the low 2 bytes of a register. -/
  | sth (p : Proc) (rs ra : RegNo) (imm : BitVec 16)
  /-- ST_W (R34): Wemon instruction: stores the low 4 bytes of a register. -/
  | stw (p : Proc) (rs ra : RegNo) (imm : BitVec 16)
  /-- ST_D (R34): Wemon instruction: stores 8 bytes. -/
  | std (p : Proc) (rs ra : RegNo) (imm : BitVec 16)
  /-- AMOADD (R34): Wemon instruction: atomic fetch and add on 64 bits. -/
  | amoadd (p : Proc) (rd ra rb : RegNo)
  /-- AMOSWAP (R34): Wemon instruction: atomic swap. -/
  | amoswap (p : Proc) (rd ra rb : RegNo)
  /-- CAS (R34): Wemon instruction: atomic compare and swap. -/
  | cas (p : Proc) (rd ra rb : RegNo)
  /-- FENCE (R47): Wemon instruction: orders the yard, host and IO memory kinds that imm[2:0] selects. -/
  | fence (p : Proc) (kinds : BitVec 3)
  /-- BEQ (R34): Wemon instruction: branches if equal. -/
  | beq (p : Proc) (ra rb : RegNo) (off : BitVec 16)
  /-- BNE (R34): Wemon instruction: branches if not equal. -/
  | bne (p : Proc) (ra rb : RegNo) (off : BitVec 16)
  /-- BLT (R34): Wemon instruction: branches if less, signed. -/
  | blt (p : Proc) (ra rb : RegNo) (off : BitVec 16)
  /-- BGE (R34): Wemon instruction: branches if greater or equal, signed. -/
  | bge (p : Proc) (ra rb : RegNo) (off : BitVec 16)
  /-- BLTU (R34): Wemon instruction: branches if less, unsigned. -/
  | bltu (p : Proc) (ra rb : RegNo) (off : BitVec 16)
  /-- BGEU (R34): Wemon instruction: branches if greater or equal, unsigned. -/
  | bgeu (p : Proc) (ra rb : RegNo) (off : BitVec 16)
  /-- JMP (R34): Wemon instruction: jumps PC-relative. -/
  | jmp (p : Proc) (off : BitVec 26)
  /-- CALL (R29): Wemon instruction: writes PC+4 to g31 and jumps. -/
  | call (p : Proc) (off : BitVec 26)
  /-- JR (R34): Wemon instruction: writes PC+4 to rd and jumps to ra+imm. -/
  | jr (p : Proc) (rd ra : RegNo) (imm : BitVec 16)
  /-- MFS (R30): Wemon instruction: reads a state register. -/
  | mfs (p : Proc) (rd : RegNo) (num : BitVec 12)
  /-- MTS (R30): Wemon instruction: writes a state register. -/
  | mts (p : Proc) (rs : RegNo) (num : BitVec 12)
  /-- IDENT (R50): Wemon instruction: reads a processor identity value. -/
  | ident (p : Proc) (rd : RegNo) (sel : BitVec 4)
  /-- TRAP (R39): Wemon instruction: raises the TRAP exception with a 5-bit code. -/
  | trap (p : Proc) (code : BitVec 5)
  /-- ERET (R39): Wemon-C instruction: returns from a trap handler. -/
  | eret (p : Proc)
  /-- PARK (R56): Wemon instruction: sleeps until a wake condition or a set wake latch. -/
  | park (p : Proc)
  /-- TOPEN (R61): Opens an Interlocking transaction in a free handle of the issuing core. -/
  | topen (p : Proc) (rd : RegNo)
  /-- TPUT (R63): Copies an action record and its payload into a transaction and checks it. -/
  | tput (p : Proc) (ra rb : RegNo)
  /-- TCOMMIT (R64): Submits a transaction for commit, arming or lodging, and returns its status. -/
  | tcommit (p : Proc) (rd ra : RegNo)
  /-- TDROP (R62): Abandons a transaction, and its partner where one exists. -/
  | tdrop (p : Proc) (ra : RegNo)
  /-- PVSET (R387): Sets a firmware vote bit of a power domain. -/
  | pvset (p : Proc) (ra rb : RegNo)
  /-- PVCLR (R387): Clears a firmware vote bit of a power domain, which may begin sleep entry. -/
  | pvclr (p : Proc) (ra rb : RegNo)
  /-- DINIT (R223): Makes a digest context live for an algorithm and an optional declared length. -/
  | dinit (p : Proc) (dc : BitVec 2) (ra : RegNo)
  /-- DFEED (R224): Feeds bytes from local memory to the live digest context. -/
  | dfeed (p : Proc) (dc : BitVec 2) (ra rb : RegNo)
  /-- DFIN (R225): Pads and finishes a digest context and publishes the result. -/
  | dfin (p : Proc) (dc : BitVec 2) (ra : RegNo)
  /-- DCMP (R226): Constant-time compare of two digests at the context's length. -/
  | dcmp (p : Proc) (rd ra rb : RegNo) (dc : BitVec 2)
  /-- DSAVE (R227): Saves the live context to its slot and scrubs the unit. -/
  | dsave (p : Proc) (dc : BitVec 2)
  /-- DLOAD (R227): Makes a saved context live again. -/
  | dload (p : Proc) (dc : BitVec 2)
  /-- SREAD (R59): Streams the next bytes of the work item's object to local memory under a tag. -/
  | sread (p : Proc) (rd ra rb : RegNo)
  /-- DMA (R246): Starts a copy described by a 16-byte descriptor under a tag. -/
  | dma (p : Proc) (rd ra : RegNo)
  /-- SWAIT (R48): Waits for a stream or DMA tag and returns the bytes moved. -/
  | swait (p : Proc) (rd ra : RegNo)
  /-- WBTAKE (R245): Takes a work item into local memory and clears the wake latch. -/
  | wbtake (p : Proc) (rd ra : RegNo)
  /-- WBDONE (R247): Posts the engine's results; the scheduler compares them and completes the item. -/
  | wbdone (p : Proc) (ra : RegNo)
  /-- BAR_Y (R51): Engine arrives at a yard barrier. -/
  | barY (p : Proc) (rd : RegNo)
  /-- BAR_G (R51): Engine arrives at a global barrier. -/
  | barG (p : Proc) (rd : RegNo)
  /-- BARRIER_RELEASE (R51): Releases all participants of a barrier after the last arrival, with a fence. -/
  | barrierRelease (y : Fin 16)
  /-- PASS (R112): Section verdict PASS ends the route. -/
  | pass (p : Proc) (ra : RegNo) (reason : BitVec 8)
  /-- DENY (R112): Section verdict DENY with a reason ends the route. -/
  | deny (p : Proc) (ra : RegNo) (reason : BitVec 8)
  /-- STAGE (R112): Section verdict STAGE queues a write-kind frame for judging. -/
  | stage (p : Proc) (ra : RegNo) (reason : BitVec 8)
  /-- SERVE (R113): Section verdict SERVE answers a read from the Depot. -/
  | serve (p : Proc) (ra : RegNo) (reason : BitVec 8)
  /-- CHECK (R113): Section verdict CHECK forwards a read with tag checking. -/
  | check (p : Proc) (ra : RegNo) (reason : BitVec 8)
  /-- FOP (R34): Wemon-S instruction: reads the current frame's opcode. -/
  | fop (p : Proc) (rd : RegNo)
  /-- FADDR (R118): Wemon-S instruction: reads the current frame's address. -/
  | faddr (p : Proc) (rd : RegNo)
  /-- FLEN (R121): Wemon-S instruction: reads the staged data length. -/
  | flen (p : Proc) (rd : RegNo)
  /-- FMODE (R84): Wemon-S instruction: reads the frame's phase descriptor. -/
  | fmode (p : Proc) (rd : RegNo)
  /-- FDATA (R34): Wemon-S instruction: reads 8 staged data bytes. -/
  | fdata (p : Proc) (rd ra : RegNo)
  /-- RLOOK (R36): Wemon-S instruction: looks up an address in the region map. -/
  | rlook (p : Proc) (rd ra : RegNo)
  /-- CNT (R115): Wemon-S instruction: increments a section program counter. -/
  | cnt (p : Proc) (k : RegNo)
  /-- INTERRUPT_TAKEN (R41): A pending enabled interrupt is taken by a Wemon-C core. -/
  | interruptTaken (c : Fin 2)
  /-- STEP_LIMIT (R57): A route reaches its step bound without a verdict and ends with DENY 0xFF. -/
  | stepLimit (n : Fin 32)
  /-- YARD_RUN_WRITE (R50): A write to YRD_y_CTL.run starts all engines of a yard at the entry vector or holds them in reset. -/
  | yardRunWrite (p : Party) (y : Fin 16) (run : Bool)
  /-- BAR_BREAK (R52): A write of YRD_y_CTL.bar_break breaks the yard's barriers. -/
  | barBreak (p : Party) (y : Fin 16)
  /-- DOORBELL (R56): A write to YRD_y_DOORBELL wakes the named engines from PARK. -/
  | doorbell (p : Party) (y : Fin 16) (m : Word)
  /-- FAULT_MAP_RESTART (R42): A write of 1 to a FAULT_MAP bit clears it and restarts that engine. -/
  | faultMapRestart (p : Party) (y : Fin 16) (m : Word)
  /-- BCAST_GO (R53): Starts or refuses a program broadcast into the engines of the target yards. -/
  | bcastGo (p : Party)
  /-- BCAST_DONE (R54): A broadcast completes and sets done. -/
  | bcastDone
  /-- YRD_KEY_GO (R228): Starts or refuses a key load into a key slot of the named yards. -/
  | yrdKeyGo (p : Party)
  /-- KEY_LOAD_DONE (R228): A key load completes and sets YRD_KEY_STAT.done. -/
  | keyLoadDone
  /-- VOTE_MISSING (R72): The arm timeout expires with no partner vote and both end VOTE_MISSING. -/
  | voteMissing (h : Fin 4)
  /-- ILK_ARM_WRITE (R73): A write of 1 to an ILK_ARM bit by the owning core disarms the principal and drops its mirror. -/
  | ilkArmWrite (p : Party) (m : Word)
  /-- COMMIT_SERVED (R69): A transaction waiting behind another reaches its commit checks, commit edge or abort. -/
  | commitServed
  /-- JOURNAL_RECORD_COMPLETE (R77): The commit record of a journaled transaction completes and the commit edge follows. -/
  | journalRecordComplete (ok : Bool)
  /-- JOURNAL_APPLIED (R78): Home writes finish and the applied marker is programmed. -/
  | journalApplied
  /-- JOURNAL_SECTOR_ERASE (R78): A fully applied journal sector finishes its background erase. -/
  | journalSectorErase (k : Fin 32)
  /-- SIGNAL_BOX_RESET (R446): The signal box resets and restarts at stage 0, with Interlocking and key-slot effects. -/
  | signalBoxReset (badRecs : BitVec 64) (badMin : Bool)
  /-- LOCKSTEP_MISMATCH (R212): A lockstep mismatch causes failover, a reset of the relief core, or a signal-box reset. -/
  | lockstepMismatch (c : Fin 2) (us : Word)
  /-- CORE_REJOINED (R213): A reset core completes its verification and shadows again as relief. -/
  | coreRejoined
  /-- STAGE2_READY (R169): Stage 2 signals ready once it holds duty with relief shadowing, and the tamper forcing ends. -/
  | stage2Ready (svn build : Word)
  /-- POWER_ON_RESET (R430): The always-on domain's power-on reset releases, PCC increments and the ROM starts. -/
  | powerOnReset (pfwHigh : Bool) (v33 : BitVec 5) (badRecs : BitVec 64) (badMin badLock canaryLost : Bool) (corruptLog : List Nat)
  /-- VIN_STBY_LOSS (R383): VIN_STBY leaves its range and the part enters BACKUP or loses power. -/
  | vinStbyLoss (cell : Bool)
  /-- TRST_N_ASSERT (R430): TRST_N resets the TAP only. -/
  | trstNAssert
  /-- SELECT_FALL (R91): A component select falls on a C-port and a frame begins under the section's points. -/
  | selectFall (n : Fin 32)
  /-- COMMAND_ROUTE (R87): Once command and address are received, the command route runs and the frame is decoded and answered. -/
  | commandRoute (n : Fin 32) (opcode ext : Byte) (addr : Word) (run : RouteRun)
  /-- LATE_VERDICT (R88): The verdict is not ready at clock A+6, so the replay does not begin and no data is driven. -/
  | lateVerdict (n : Fin 32) (period : Word)
  /-- SELECT_RISE (R96): A component select rises: the frame ends or tears, and a staged write's judge route runs. -/
  | selectRise (n : Fin 32) (early : Bool) (edges : Nat) (data : List Byte) (steps : Nat)
  /-- REPLAY_START (R122): A passed queued entry starts its replay on the F-port when its conditions hold. -/
  | replayStart (n : Fin 32)
  /-- REPLAY_END (R124): A replay frame ends; a CONTROL entry completes and polling starts for WRITE or ERASE. -/
  | replayEnd (n : Fin 32) (reads : List (Byte × Byte))
  /-- BUSY_POLL (R124): The poll period expires and the section polls the flash's busy status. -/
  | busyPoll (n : Fin 32) (value : Byte)
  /-- STAGE_ENTRY_COMPLETE (R124): The refresh reads end, shadows are stored and the queue entry completes. -/
  | stageEntryComplete (n : Fin 32) (reads : List (Byte × Byte))
  /-- FLASH_TIMEOUT (R128): The program or erase timeout expires with the flash still busy. -/
  | flashTimeout (n : Fin 32) (elapsed : Word) (reads : List (Byte × Byte))
  /-- SENSE_TIMEOUT (R98): SEC_n_F_SENSE_N stays low for 10 ms with a frame waiting. -/
  | senseTimeout (n : Fin 32)
  /-- MASTER_CONFLICT (R98): SEC_n_F_SENSE_N falls while the controller drives the F-port, and the F-port tri-states. -/
  | masterConflict (n : Fin 32)
  /-- C_RST_LOW (R100): Component flash reset low in ROUTED points resets the interface and address state and is forwarded. -/
  | cRstLow (n : Fin 32)
  /-- TAG_RESULT (R149): A page tag result arrives after the last data edge; a mismatch applies its response. -/
  | tagResult (n : Fin 32) (addr : Word) (page : List Byte)
  /-- GANGER_FRAME (R153): The Ganger starts a sweep or hint page frame within its budget. -/
  | gangerFrame (n : Fin 32) (clocks : Nat)
  /-- GANGER_PAGE_DONE (R157): A Ganger page check or compare completes, with a finding or without. -/
  | gangerPageDone (n : Fin 32) (page : List Byte) (fault : Option Bool)
  /-- GANGER_WINDOW (R154): The Ganger accounting window expires and the budget restarts. -/
  | gangerWindow
  /-- DEV_GO (R105): A write of SEC_n_DEV_GO.go issues DEVICE frames or ends REFUSED. -/
  | devGo (p : Party) (n : Fin 34)
  /-- DEV_BURST_DONE (R143): A DEVICE burst completes, feeding a FLASH job and Depot fills. -/
  | devBurstDone (n : Fin 34) (data : List Byte)
  /-- DEV_FRAME_DONE (R105): A DEVICE operation ends with its result. -/
  | devFrameDone (n : Fin 34) (data : List Byte)
  /-- PROF_CHECK (R102): A write of SEC_n_PROF_CHECK.go checks the installed profile and sets prof_ok. -/
  | profCheck (p : Party) (n : Fin 34)
  /-- PROFILE_WRITE (R103): A write to SEC_n_PROFILE_k or SEC_n_CFG is discarded and logged while ROUTED, and otherwise clears prof_ok. -/
  | profileWrite (p : Party) (n : Fin 34) (k : Option (Fin 128)) (v : Word) (be : BitVec 4)
  /-- POLICY_WRITE (R137): A write to a section policy register is discarded and logged while ROUTED. -/
  | policyWrite (p : Party) (n : Fin 34) (k : Fin 8) (v : Word) (be : BitVec 4)
  /-- PGM_LOAD (R132): A write of SEC_n_PGM_LOAD.go starts loading and checking the standby bank. -/
  | pgmLoad (p : Party) (n : Fin 32)
  /-- PROG_LOADED (R132): A bank load completes, accepted or refused. -/
  | progLoaded (n : Fin 32)
  /-- EXTENT_STATE_WRITE (R146): A write of DEP_EXT_x_CTL.state arms, re-arms or frees an extent, or is refused. -/
  | extentStateWrite (p : Party) (x : Fin 256) (v : Word) (be : BitVec 4)
  /-- HOLD_PEND_WRITE (R151): A write of 1 to a DEP_HOLD_PEND bit clears the hold bridge. -/
  | holdPendWrite (p : Party) (high : Bool) (m : Word)
  /-- REPORT_CHANGE (R162): A report input's filtered state changes. -/
  | reportChange (l : Fin 96) (ready : Bool) (samples : Nat)
  /-- HOLD_CFG_WRITE (R160): A write to HLD_LCFG_l or HLD_FILTER applies or is discarded and logged. -/
  | holdCfgWrite (p : Party) (l : Option (Fin 96)) (v : Word) (be : BitVec 4)
  /-- HOLD_LOCK_WRITE (R160): A write of 1 to HLD_LOCK locks the hold configuration. -/
  | holdLockWrite (p : Party)
  /-- REPORT_TIMEOUT (R187): A released component is not ready within its report timeout. -/
  | reportTimeout (c : Fin 64) (waited : Nat)
  /-- TRIAL_DEADLINE (R200): The trial deadline passes with TRIAL still set, and the revert follows. -/
  | trialDeadline (c : Fin 64)
  /-- UPDATE_BEGIN (R193): Request opening an announced update of a component. -/
  | updateBegin (q : Sender) (tag comp : Byte)
  /-- UPDATE_COMMIT (R195): Request carrying out take, prepare, verify and switch of an update. -/
  | updateCommit (q : Sender) (tag comp : Byte) (opts : Word)
  /-- TRIAL_CONFIRM (R199): Request confirming an open trial. -/
  | trialConfirm (q : Sender) (tag comp : Byte)
  /-- UPDATE_ABORT (R207): Request clearing an open update before its take. -/
  | updateAbort (q : Sender) (tag comp : Byte)
  /-- RECOVER (R204): Request recovering a component from the sources its mask names. -/
  | recover (q : Sender) (tag comp : Byte) (mask : Word)
  /-- PUSH_OPEN (R208): Request opening an image push into a held target slot. -/
  | pushOpen (q : Sender) (tag comp img : Byte) (total : Word) (slot : Byte)
  /-- PUSH_DATA (R208): Request carrying the next bytes of a pushed image. -/
  | pushData (q : Sender) (tag comp img : Byte) (off : Word) (addr : Dword) (data : HostRead) (kind : Fin 4)
  /-- PUSH_CLOSE (R208): Request closing a push and starting its verification. -/
  | pushClose (q : Sender) (tag comp img : Byte)
  /-- STATUS (R207): Request returning update, recovery and record status. -/
  | status (q : Sender) (tag comp : Byte)
  /-- LEDGER_OPEN (R260): Request opening the ledger over host areas checked against the committed root. -/
  | ledgerOpen (q : Sender) (tag : Byte) (leaf tree : Dword) (pages : Word) (nodes : Option (List (List Byte))) (kind : Fin 4)
  /-- LEDGER_COMMIT (R258): Request committing an epoch. -/
  | ledgerCommit (q : Sender) (tag : Byte)
  /-- LEDGER_RESUME (R259): Request resuming a HELD ledger. -/
  | ledgerResume (q : Sender) (tag : Byte)
  /-- LEDGER_REBUILD (R260): Request rebuilding every ledger node and committing a rebuilt epoch. -/
  | ledgerRebuild (q : Sender) (tag : Byte) (leaf tree : Dword) (pages : Word) (leaves : Option (List (Nat × List Byte))) (kind : Fin 4)
  /-- LEDGER_CLOSE (R264): Request committing an epoch and closing the ledger. -/
  | ledgerClose (q : Sender) (tag : Byte)
  /-- RECORD_RETIRE (R264): Request setting RETIRED on a ledger record. -/
  | recordRetire (q : Sender) (tag : Byte) (idx : Dword)
  /-- RECORD_READ (R264): Request returning an authenticated ledger record. -/
  | recordRead (q : Sender) (tag : Byte) (idx : Dword)
  /-- TT_SET (R261): Request setting a timetable entry. -/
  | ttSet (q : Sender) (tag : Byte) (k : BitVec 16) (addr : Dword) (entry : HostRead) (kind : Fin 4)
  /-- TT_CLEAR (R264): Request clearing a timetable entry. -/
  | ttClear (q : Sender) (tag : Byte) (k : BitVec 16)
  /-- AUDIT_RANGE (R264): Request running one audit pass over a ledger range. -/
  | auditRange (q : Sender) (tag : Byte) (first count table : Dword) (feeds : List (Nat × Feed))
  /-- REPORT (R264): Request writing a signed fixity report body to host memory. -/
  | report (q : Sender) (tag : Byte) (arg : BitVec 16) (addr : Dword)
  /-- LEDGER_PAGE_AUTH (R256): The digests of a leaf page and its path complete and are compared. -/
  | ledgerPageAuth (page : Word) (data : HostRead) (path : List (List Byte)) (kind : Fin 4)
  /-- LEDGER_WRITEBACK (R256): A changed buffered page is written back when its buffer is needed or 100 ms after its first change. -/
  | ledgerWriteback (page : Word)
  /-- EPOCH_TIMER (R258): epoch_s elapses and an epoch commit begins. -/
  | epochTimer
  /-- EPOCH_COMMITTED (R258): An epoch commit completes and the committed root changes. -/
  | epochCommitted
  /-- TT_PASS_START (R262): A timetable entry becomes due and a pass starts. -/
  | ttPassStart (k : Fin 64) (feeds : List (Nat × Feed))
  /-- PASS_DONE (R262): A timetable pass ends, commits an epoch and may make a report. -/
  | passDone (who : Option Sender) (k : Fin 64)
  /-- PASS_OVERDUE (R262): A running pass outruns its period. -/
  | passOverdue (k : Fin 64)
  /-- TT_PROGRESS_SAVE (R261): Timetable progress is saved every 60 s. -/
  | ttProgressSave
  /-- FIX_RATE_WINDOW (R23): A 10 s throughput window ends and FIX_RATE updates. -/
  | fixRateWindow
  /-- PF0_RESET (R270): PERST_N, hot reset or Data Link down resets PF0, destroys instances and closes the ledger. -/
  | pf0Reset (cause : Fin 3)
  /-- PF0_FLR (R270): A PF0 function-level reset acts as a PF0 reset with the link kept up. -/
  | pf0Flr
  /-- VF_FLR (R270): A VF function-level reset resets its instance. -/
  | vfFlr (vf : Fin 256)
  /-- D3HOT_TO_D0 (R270): A function returning from D3hot acts as its FLR. -/
  | d3hotToD0 (fn : Fin 256)
  /-- LINK_UP (R272): The PCIe link trains up. -/
  | linkUp (rate : Fin 7) (width : Fin 17) (flit : Bool)
  /-- LINK_DOWN (R272): The PCIe link goes down. -/
  | linkDown (cause : Fin 4)
  /-- INSTANCE_RESET_WRITE (R288): A write of 1 to VIN_n_CTL.reset starts an instance reset. -/
  | instanceResetWrite (p : Party) (n : Fin 1025)
  /-- INSTANCE_RESET_DONE (R288): The drain ends and the instance returns to CREATED. -/
  | instanceResetDone (n : Fin 1025) (us : Word)
  /-- ENABLE_WRITE (R281): A write of 1 to VIN_n_CTL.enable makes the instance ACTIVE or sets cfg_err. -/
  | enableWrite (p : Party) (n : Fin 1025)
  /-- FEATURES_OK_WRITE (R274): A write of 1 to features_ok starts feature evaluation. -/
  | featuresOkWrite (p : Party) (n : Fin 1025)
  /-- FEATURE_EVAL_DONE (R275): Feature evaluation ends, accepted or refused. -/
  | featureEvalDone (n : Fin 1025)
  /-- SQ_TAIL_DOORBELL (R282): The SQ producer doorbell is written and checked. -/
  | sqTailDoorbell (p : Party) (n : Fin 1025) (v : Word)
  /-- CMD_TAIL_DOORBELL (R282): The CMD producer doorbell is written and checked. -/
  | cmdTailDoorbell (p : Party) (n : Fin 1025) (v : Word)
  /-- CQ_HEAD_DOORBELL (R282): The CQ consumer doorbell is written and checked. -/
  | cqHeadDoorbell (p : Party) (n : Fin 1025) (v : Word)
  /-- RSP_HEAD_DOORBELL (R282): The RSP consumer doorbell is written and checked. -/
  | rspHeadDoorbell (p : Party) (n : Fin 1025) (v : Word)
  /-- DIRTY_DB (R291): PF0 releases dirty-log entries through VIN_0_DIRTY_DB. -/
  | dirtyDb (p : Party) (v : Word)
  /-- SQ_FETCH (R283): The device fetches a waybill from an SQ while it holds a free slot. -/
  | sqFetch (n : Fin 1025) (entry list block : HostRead) (kind : Fin 4)
  /-- CMD_FETCH (R285): The device fetches a command entry from a CMD ring. -/
  | cmdFetch (n : Fin 1025) (entry : HostRead) (kind : Fin 4)
  /-- CQ_POST (R283): A finished completion is written to the CQ once there is room. -/
  | cqPost (n : Fin 1025)
  /-- DMA_ERROR (R284): A DMA error fails the instance's ring or ends an item with READ_ERROR. -/
  | dmaError (n : Fin 1025) (ring : Fin 5) (e : Option (Fin 512)) (addr : Dword) (kind : Fin 4)
  /-- INT_COAL_TIMEOUT (R293): The oldest unsignalled entry waits delay_us and an MSI-X message is sent. -/
  | intCoalTimeout (n : Fin 1025) (src : Fin 4)
  /-- INST_CREATE (R280): Request creating an instance from a creation block. -/
  | instCreate (q : Sender) (tag : Byte) (n : BitVec 16) (addr : Dword) (block : HostRead) (kind : Fin 4)
  /-- INST_DESTROY (R280): Request resetting and destroying an instance. -/
  | instDestroy (q : Sender) (tag : Byte) (n : BitVec 16)
  /-- INST_RESET (R286): Request resetting an instance. -/
  | instReset (q : Sender) (tag : Byte) (n : BitVec 16)
  /-- INST_QUIESCE (R286): Request quiescing an active instance. -/
  | instQuiesce (q : Sender) (tag : Byte) (n : BitVec 16)
  /-- INST_RESUME (R286): Request resuming a quiesced instance. -/
  | instResume (q : Sender) (tag : Byte) (n : BitVec 16)
  /-- INST_QUERY (R286): Request returning an instance's state and indices. -/
  | instQuery (q : Sender) (tag : Byte) (n : BitVec 16)
  /-- DIRTY_START (R290): Request starting dirty logging of an instance. -/
  | dirtyStart (q : Sender) (tag : Byte) (n : BitVec 16) (base : Dword) (depth : Byte)
  /-- DIRTY_STOP (R292): Request stopping dirty logging and returning the window. -/
  | dirtyStop (q : Sender) (tag : Byte) (n : BitVec 16)
  /-- POOL_QUERY (R286): Request returning pool state and instances in use. -/
  | poolQuery (q : Sender) (tag : Byte)
  /-- SET_ENDPOINT_ID (R296): MCTP control message assigning the controller's endpoint ID. -/
  | setEndpointId (t : Fin 6) (src eid : Byte)
  /-- GET_ENDPOINT_ID (R296): MCTP control message returning the endpoint ID. -/
  | getEndpointId (t : Fin 6) (src : Byte)
  /-- GET_MCTP_VERSION_SUPPORT (R296): MCTP control message returning version support. -/
  | getMctpVersionSupport (t : Fin 6) (src type : Byte)
  /-- GET_MESSAGE_TYPE_SUPPORT (R296): MCTP control message returning message type support. -/
  | getMessageTypeSupport (t : Fin 6) (src : Byte)
  /-- GET_VERSION (R297): SPDM request reporting versions 1.2 and 1.3 and taking a requester context. -/
  | getVersion (t : Fin 6) (eid : Byte) (msg : List Byte) (us : Word)
  /-- GET_CAPABILITIES (R299): SPDM request returning capabilities. -/
  | getCapabilities (t : Fin 6) (eid : Byte) (ses : Option Word) (msg : List Byte) (us : Word)
  /-- NEGOTIATE_ALGORITHMS (R299): SPDM request selecting algorithms. -/
  | negotiateAlgorithms (t : Fin 6) (eid : Byte) (ses : Option Word) (msg : List Byte) (supported : Bool) (us : Word)
  /-- GET_DIGESTS (R299): SPDM request returning certificate digests. -/
  | getDigests (t : Fin 6) (eid : Byte) (ses : Option Word) (msg : List Byte) (us : Word)
  /-- GET_CERTIFICATE (R304): SPDM request returning the slot-0 ECDSA chain. -/
  | getCertificate (t : Fin 6) (eid : Byte) (ses : Option Word) (msg : List Byte) (us : Word)
  /-- CHALLENGE (R300): SPDM signed challenge. -/
  | challenge (t : Fin 6) (eid : Byte) (ses : Option Word) (msg : List Byte) (us : Word)
  /-- GET_MEASUREMENTS (R307): SPDM request returning measurement blocks from one snapshot. -/
  | getMeasurements (t : Fin 6) (eid : Byte) (ses : Option Word) (msg : List Byte) (us : Word)
  /-- KEY_EXCHANGE (R299): SPDM request starting a session handshake. -/
  | keyExchange (t : Fin 6) (eid : Byte) (ses : Option Word) (msg : List Byte) (us : Word)
  /-- FINISH (R299): SPDM request finishing a session handshake. -/
  | finish (t : Fin 6) (eid : Byte) (ses : Option Word) (msg : List Byte) (us : Word)
  /-- HEARTBEAT (R302): SPDM heartbeat keeping a session alive. -/
  | heartbeat (t : Fin 6) (eid : Byte) (ses : Option Word) (msg : List Byte) (us : Word)
  /-- END_SESSION (R302): SPDM request ending a session. -/
  | endSession (t : Fin 6) (eid : Byte) (ses : Option Word) (msg : List Byte) (us : Word)
  /-- RESPOND_IF_READY (R300): SPDM request collecting a prepared response. -/
  | respondIfReady (t : Fin 6) (eid : Byte) (ses : Option Word) (msg : List Byte) (us : Word)
  /-- SESSION_TIMEOUT (R302): Two heartbeat periods pass with no message and the session ends. -/
  | sessionTimeout (id : Word)
  /-- SECURED_MESSAGE (R302): A secured SPDM message is decrypted; a failure ends the session. -/
  | securedMessage (t : Fin 6) (eid : Byte) (id : Word) (declared : Nat) (cipher : List Byte)
  /-- PREPARED_RESPONSE_EXPIRY (R300): A prepared response is discarded 1 s after it became ready. -/
  | preparedResponseExpiry (t : Fin 6) (eid : Byte)
  /-- GET_PQC_CHAIN (R308): Vendor operation returning part of the ML-DSA chain. -/
  | getPqcChain (t : Fin 6) (eid : Byte) (ses : Option Word) (msg : List Byte) (us : Word)
  /-- PQC_ATTEST (R308): Vendor operation preparing a signed attestation object. -/
  | pqcAttest (t : Fin 6) (eid : Byte) (ses : Option Word) (msg : List Byte) (us : Word)
  /-- GET_REPORT (R308): Vendor operation preparing a signed fixity report object. -/
  | getReport (t : Fin 6) (eid : Byte) (ses : Option Word) (msg : List Byte) (us : Word)
  /-- CUSTODY_EXPORT (R311): Vendor operation flushing the log, committing and holding the ledger, and building a custody bundle. -/
  | custodyExport (t : Fin 6) (eid : Byte) (ses : Option Word) (msg : List Byte) (us : Word)
  /-- PUT_OBJECT (R308): Vendor operation uploading object bytes. -/
  | putObject (t : Fin 6) (eid : Byte) (ses : Option Word) (msg : List Byte) (us : Word)
  /-- CUSTODY_IMPORT (R311): Vendor operation checking an imported bundle, committing its root and storing a countersignature. -/
  | custodyImport (t : Fin 6) (eid : Byte) (ses : Option Word) (msg : List Byte) (us : Word)
  /-- GET_OBJECT (R308): Vendor operation reading object bytes. -/
  | getObject (t : Fin 6) (eid : Byte) (ses : Option Word) (msg : List Byte) (us : Word)
  /-- RELEASE_OBJECT (R309): Vendor operation freeing an object buffer. -/
  | releaseObject (t : Fin 6) (eid : Byte) (ses : Option Word) (msg : List Byte) (us : Word)
  /-- OBJECT_BUFFER_TIMEOUT (R309): An object buffer is freed 10 s after its last access. -/
  | objectBufferTimeout (handle : BitVec 16)
  /-- DS_SET (R312): Request writing a downstream table entry. -/
  | dsSet (q : Sender) (tag : Byte) (d : BitVec 16) (addr : Dword) (entry : HostRead) (kind : Fin 4)
  /-- DS_REFRESH (R312): Request or period timer refreshing a downstream peer's measurements. -/
  | dsRefresh (q : Option Sender) (tag : Byte) (d : BitVec 16)
  /-- MREG_EXTEND_GO (R306): A write of ATT_MREG_EXT_CTL.go starts or refuses a measurement extension. -/
  | mregExtendGo (p : Party) (v : Word)
  /-- MREG_EXTENDED (R306): An accepted measurement extension completes. -/
  | mregExtended
  /-- ECDSA_VERIFY (R234): Signature-unit job verifying an ECDSA P-384 signature. -/
  | ecdsaVerify (v : Fin 2)
  /-- ECDSA_SIGN (R234): Signature-unit job signing a digest with ECDSA P-384. -/
  | ecdsaSign
  /-- MLDSA_VERIFY (R234): Signature-unit job verifying an ML-DSA-87 signature. -/
  | mldsaVerify (v : Fin 2)
  /-- MLDSA_SIGN (R235): Signature-unit job signing with ML-DSA-87, possibly EXHAUSTED. -/
  | mldsaSign (v : Fin 1)
  /-- LMS_VERIFY (R234): Signature-unit job verifying an LMS signature. -/
  | lmsVerify (v : Fin 2)
  /-- EC_EPHEMERAL (R234): Signature-unit job generating an ephemeral ECDH key. -/
  | ecEphemeral
  /-- ECDH (R234): Signature-unit job deriving a shared secret. -/
  | ecdh
  /-- DERIVE (R234): Signature-unit job running HKDF into a slot or producing a MAC. -/
  | derive
  /-- AEAD_SEAL (R234): Signature-unit job encrypting with AES-256-GCM. -/
  | aeadSeal
  /-- AEAD_OPEN (R234): Signature-unit job decrypting and authenticating with AES-256-GCM. -/
  | aeadOpen
  /-- KEYGEN (R234): Signature-unit job deriving a deterministic key pair from a seed. -/
  | keygen
  /-- RANDOM (R234): Signature-unit job returning random bytes. -/
  | random
  /-- ERASE (R234): Signature-unit job emptying a key slot. -/
  | erase
  /-- SIG_JOB_DONE (R232): A signature job ends and raises interrupt source 3. -/
  | sigJobDone (p : Fin 3)
  /-- SIG_ABORT (R232): A write of SIG_ABORT.mine ends the writing core's unstarted jobs. -/
  | sigAbort (p : Party)
  /-- RBG_FAULT (R238): An entropy health test fails and jobs that need randomness end RBG_FAULT. -/
  | rbgFault (test : Byte)
  /-- EXM_SUBMIT (R218): A write to EXM_LANE_l_SUBMIT submits a digest job to a lane. -/
  | exmSubmit (p : Party) (l : Fin 34) (desc : Word)
  /-- EXM_JOB_DONE (R221): An Examiner job reaches its length, compares with two comparators and ends. -/
  | exmJobDone (l : Fin 34) (err : Bool) (fault : Option Bool)
  /-- EXM_ABORT_HOLDER (R222): A write of EXM_LANE_l_ABORT.holder ends the holder ABORTED. -/
  | exmAbortHolder (p : Party) (l : Fin 34)
  /-- EXM_ABORT_MINE (R222): A write of EXM_LANE_l_ABORT.mine ends the writer's queued jobs ABORTED. -/
  | exmAbortMine (p : Party) (l : Fin 34)
  /-- EXM_END (R220): A write of EXM_LANE_l_END ends a FLASH holder with LENGTH_MISMATCH. -/
  | exmEnd (p : Party) (l : Fin 34)
  /-- MBX_DATA_WRITE (R319): A write to a mailbox data word sets its WMASK bit, or is discarded while go is 1. -/
  | mbxDataWrite (p : Party) (n : Fin 64) (k : Fin 16) (v : Word) (be : BitVec 4)
  /-- MBX_GO (R319): A go write to MBX_n_CTL posts the message or rejects it with LEN_MISMATCH. -/
  | mbxGo (p : Party) (n : Fin 64) (len : BitVec 5)
  /-- MBX_TAKE (R320): The receiver reads MBX_n_CTL while go is 1 and takes the message. -/
  | mbxTake (p : Party) (n : Fin 64)
  /-- MBX_DONE (R320): The receiver writes MBX_n_DONE, clearing go and interrupting the sender. -/
  | mbxDone (p : Party) (n : Fin 64)
  /-- MBX_AGT_RESET (R325): A write to MBX_AGT_a_RESET declares a sideband agent reset. -/
  | mbxAgtReset (p : Party) (a : Fin 4)
  /-- I3C_TARGET_RESET (R325): The I3C Target Reset Pattern resets an I3C agent's identity. -/
  | i3cTargetReset (a : Fin 2)
  /-- CHANNEL_SHUTDOWN_DONE (R328): The reset of an identity's channels completes and held gos are decided. -/
  | channelShutdownDone (id : BitVec 6)
  /-- MBX_STALL (R324): Opposite channels stay posted and untaken for 10 ms. -/
  | mbxStall (n : Fin 64)
  /-- AGENT_RETURN (R326): A reset agent accesses the controller again and the post interrupt is raised again. -/
  | agentReturn (a : Fin 4)
  /-- KNOCK (R394): The wake pattern 0xC3 then 0x3C on I3C-0 within 1 ms wakes the signal box. -/
  | knock (ticks : Nat)
  /-- DETECTOR_EVENT (R332): A tamper detector raises an event, which is stamped, counted and may qualify its source. -/
  | detectorEvent (x : Fin 15) (det : Fin 2) (stamp : BitVec 48) (lasting : Bool) (extra : List Byte)
  /-- LOCKDOWN_RECORD_JOURNALED (R338): The lockdown record is journaled and the evidence counter is advanced. -/
  | lockdownRecordJournaled
  /-- BACKUP_SAMPLE (R341): In BACKUP, VBAT sources are sampled every 32 ticks and may set the lock and event latches. -/
  | backupSample (quiet : Nat) (seen : BitVec 30)
  /-- CELL_WINDOW_TIMEOUT (R344): A cell-service window reaches TMP_CELL_WIN seconds and closes. -/
  | cellWindowTimeout (cell : Bool)
  /-- TMP_LOCK_WRITE (R346): Setting TMP_CTL.lock copies the VBAT configuration and locks tamper configuration. -/
  | tmpLockWrite (p : Party)
  /-- UNLOCK (R340): Request ending lockdown with an UNLOCK ticket. -/
  | unlock (q : Sender) (tag : Byte) (ticket : Word)
  /-- CELL_SERVICE_OPEN (R344): Request opening a cell-service window. -/
  | cellServiceOpen (q : Sender) (tag : Byte) (ticket : Word)
  /-- CELL_SERVICE_CLOSE (R344): Request closing a cell-service window. -/
  | cellServiceClose (q : Sender) (tag : Byte) (cell : Bool)
  /-- FUSE_SOURCE (R335): Request blowing a source-disable fuse. -/
  | fuseSource (q : Sender) (tag : Byte) (src : BitVec 16) (ticket : Word)
  /-- TAMPER_STATUS (R347): Request returning tamper status registers. -/
  | tamperStatus (q : Sender) (tag : Byte)
  /-- EVR_WRITE_AGED (R352): The background writer writes records that have reached 100 ms of age. -/
  | evrWriteAged
  /-- EVR_FLUSH_DONE (R352): A flush of unflushed records to the eNVM log completes. -/
  | evrFlushDone (fails : Nat)
  /-- EVR_RECLAIM (R353): Reclamation of the tail sector completes its erase. -/
  | evrReclaim
  /-- NVM_FAULT_RETRY (R356): After nvm_fault, the writer retries once per second. -/
  | nvmFaultRetry (ok : Bool)
  /-- EVR_CURSOR_WRITE (R358): A write to a window cursor moves the window and increments its sequence value. -/
  | evrCursorWrite (p : Party) (k : Fin 6) (v : Word)
  /-- CORRELATE (R361): Request pairing a host time with a stamp. -/
  | correlate (q : Sender) (tag : Byte) (host : Dword) (format : Byte) (label : List Byte)
  /-- PFW_N_FALL (R401): Power-fail warning: pads held, power-fail transaction, flush started. -/
  | pfwNFall
  /-- PF_FLUSH (R355): The power-fail flush completes and the controller enters STANDBY. -/
  | pfFlush (us : Word)
  /-- PFW_N_RISE (R401): PFW_N rises and a platform start follows. -/
  | pfwNRise (us : Word)
  /-- STAFF_NONCE (R376): Request returning a fresh staff nonce. -/
  | staffNonce (q : Sender) (tag : Byte)
  /-- LCS_DATA (R381): Request uploading data to the life-cycle buffer. -/
  | lcsData (q : Sender) (tag : Byte) (off : Word) (data : List Byte)
  /-- STAFF_SUBMIT (R375): Request checking an uploaded staff and issuing a ticket. -/
  | staffSubmit (q : Sender) (tag : Byte) (len : Word)
  /-- LC_TRANSIT (R369): Request starting a life-cycle transition. -/
  | lcTransit (q : Sender) (tag : Byte) (target : BitVec 16) (ticket : Word)
  /-- ERASE_USER_SECRETS (R369): Request moving PROD to PROD_OPEN with its wipe. -/
  | eraseUserSecrets (q : Sender) (tag : Byte) (ticket : Word)
  /-- DEBUG_ARM (R379): Request recording a pending debug level. -/
  | debugArm (q : Sender) (tag : Byte) (ticket : Word)
  /-- OWNER_KEY_SET (R381): Request programming an owner key hash. -/
  | ownerKeySet (q : Sender) (tag : Byte) (slot : BitVec 16) (cosign : Word) (hash : List Byte)
  /-- LC_STATUS (R381): Request returning life-cycle status. -/
  | lcStatus (q : Sender) (tag : Byte)
  /-- KEYSTORE_LOAD (R381): Request staging certificate chains for the key store. -/
  | keystoreLoad (q : Sender) (tag : Byte) (len : Word)
  /-- MTM_MARCH (R380): MTM march memory test. -/
  | mtmMarch (p : Party) (target : Byte)
  /-- MTM_CHECKERBOARD (R380): MTM checkerboard memory test. -/
  | mtmCheckerboard (p : Party) (target : Byte)
  /-- MTM_RETENTION (R380): MTM retention memory test. -/
  | mtmRetention (p : Party) (target : Byte)
  /-- MTM_NVM_MARGIN_0 (R380): MTM eNVM margin 0 test. -/
  | mtmNvmMargin0 (p : Party) (target : Byte)
  /-- MTM_NVM_MARGIN_1 (R380): MTM eNVM margin 1 test. -/
  | mtmNvmMargin1 (p : Party) (target : Byte)
  /-- LC_ADVANCE (R369): MTM command moving BLANK to TEST. -/
  | lcAdvance (p : Party)
  /-- LC_EOL (R369): MTM command moving BLANK to EOL. -/
  | lcEol (p : Party)
  /-- MTM_DONE (R380): A memory test completes with done or fail. -/
  | mtmDone (fail : Option Word)
  /-- IDCODE (R378): JTAG instruction returning the ID code. -/
  | idcode
  /-- BYPASS (R378): JTAG bypass instruction. -/
  | bypass
  /-- EXTEST (R378): JTAG boundary-scan EXTEST. -/
  | extest
  /-- SAMPLE_PRELOAD (R378): JTAG boundary-scan SAMPLE/PRELOAD. -/
  | samplePreload
  /-- INTEST (R378): JTAG boundary-scan INTEST. -/
  | intest
  /-- DEBUG_HALT (R378): Level-3 debug halt of a processor. -/
  | debugHalt (p : Proc)
  /-- DEBUG_STEP (R378): Level-3 debug step of a processor. -/
  | debugStep (p : Proc) (w : Wop)
  /-- DEBUG_RESUME (R378): Level-3 debug resume of a processor. -/
  | debugResume (p : Proc)
  /-- PLATFORM_OFF (R385): Request holding and isolating the platform and entering STANDBY. -/
  | platformOff (q : Sender) (tag : Byte)
  /-- PLATFORM_ON (R384): Request starting the platform. -/
  | platformOn (q : Sender) (tag : Byte)
  /-- POWER_STATUS (R402): Request returning power status. -/
  | powerStatus (q : Sender) (tag : Byte)
  /-- SLEEP_PREPARE_DONE (R389): Sleep prepare ends by acknowledgement, refusal or 100 µs timeout. -/
  | sleepPrepareDone (d : Fin 25) (slow : Option Byte)
  /-- SLEEP_COMMIT_DONE (R390): A domain's sleep commit completes, and it bounces if a wake arrived. -/
  | sleepCommitDone (d : Fin 25)
  /-- SLEEP_RETRY (R388): A write of PWR_DOM_d_CFG.retry restarts sleep entry. -/
  | sleepRetry (p : Party) (d : Fin 25)
  /-- WAKE (R393): An enabled wake source wakes the SBOX domain. -/
  | wake (src : Fin 7)
  /-- DOMAIN_RUN (R391): A domain reaches RUN, applying held PENDING_ON enables. -/
  | domainRun (d : Fin 25)
  /-- RETENTION_CHECK_DONE (R397): A retained bank's seal is recomputed; a mismatch marks it LOST. -/
  | retentionCheckDone (kind : Fin 3) (bank : Fin 16) (upset : Bool)
  /-- YARD_OP_WRITE (R398): A write to PWR_YARD_y_OP changes voltage or divider, or is rejected. -/
  | yardOpWrite (p : Party) (y : Fin 16) (v : Word) (be : BitVec 4)
  /-- VOLT_GOOD (R398): A yard regulator settles and volt_good becomes 1. -/
  | voltGood (y : Fin 16)
  /-- CLK_CTL_WRITE (R400): A write to PWR_CLK_CTL enables PLLs or switches the core clock, or is rejected. -/
  | clkCtlWrite (p : Party) (v : Word) (be : BitVec 4)
  /-- PLL_LOCK (R400): A PLL achieves lock. -/
  | pllLock (p : Fin 3)
  /-- PLL_LOCK_LOSS (R400): PLL_SBX loses lock and the cores return to FIRC. -/
  | pllLockLoss (p : Fin 3) (refclk : Bool)
  /-- SBX_SNAP (R416): A write of SBX_SNAP.go latches every counter to the snapshot mirror. -/
  | sbxSnap (p : Party)
  /-- SNAPSHOT (R418): Request obtaining a counter latch. -/
  | snapshot (q : Sender) (tag : Byte) (us : Word)
  /-- NVC_PROGRAM (R407): NVC operation programming eNVM bytes. -/
  | nvcProgram (p : Party)
  /-- NVC_ERASE (R407): NVC operation erasing an eNVM sector. -/
  | nvcErase (p : Party)
  /-- NVC_DONE (R407): An NVC operation completes with done, or fails with a cause. -/
  | nvcDone (bad : Bool)
  /-- REGISTER_WRITE (R7): A write to a register with no row of its own takes effect under its access code. -/
  | registerWrite (p : Party) (a v : Word) (be : BitVec 4) (hi : Option Word)
  /-- ILLEGAL_WORD (R33): A processor executes a word that decodes to no instruction, such as the all-zero or all-ones word, and raises ILLEGAL. -/
  | illegalWord (p : Proc) (word : Word)
  /-- CS_TIMECMP_REACHED (R41): CS_CYCLE reaches CS_TIMECMP, so interrupt source 19 becomes pending, which can wake PARK and the signal box. -/
  | csTimecmpReached (c : Fin 2)
  /-- STREAM_TRANSFER_DONE (R48): An outstanding SREAD or DMA tag completes, or ends with an error, as host completions arrive; its bytes become valid and a stalled SWAIT or a ninth tag proceeds. -/
  | streamTransferDone (e : Fin 512) (k : Nat) (data : HostRead) (kind : Fin 4)
  /-- F_SENSE_N_CHANGE (R98): SEC_n_F_SENSE_N rises or falls while the controller is not driving the F-port, which blocks or unblocks waiting DEVICE, Ganger and replay frames. -/
  | fSenseNChange (n : Fin 32) (low : Bool)
  /-- MAIN_RAILS_FAIL (R401): The main rails fail while PFW_N is asserted, and SBOX goes OFF with no seals, so the later rise of PFW_N is a cold start. -/
  | mainRailsFail (us : Word)
  /-- PERST_N_RELEASE (R272): PERST_N rises, so WAKE_N is released, CLKREQ_N is driven low and the HOST domain's hardware vote is set, ready for link training. -/
  | perstNRelease
  /-- CONFIGURATION_REQUEST (R276): A PCIe configuration write changes VF Enable, NumVFs, Bus Master Enable, PASID Enable, the power state or DOE, destroying VF instances, stopping or resuming DMA, or delivering a DOE object. -/
  | configurationRequest (r : CfgReq)
  /-- MCTP_PACKET (R298): An MCTP packet arrives and joins a message assembly; a sequence gap, a missing start or a tag change discards the assembly. -/
  | mctpPacket (t : Fin 6) (src : Byte) (tag : BitVec 3) (seq : BitVec 2) (sof eof : Bool) (bytes : List Byte)
  /-- DOWNSTREAM_RESPONSE (R312): A downstream peer's SPDM response arrives on I3C-2 or I3C-3 during a refresh and advances it. -/
  | downstreamResponse (d : Fin 16) (msg : List Byte)
  /-- DOWNSTREAM_RESPONSE_TIMEOUT (R312): The 3 ms plus 2^CTExponent µs wait for a peer response expires, so the request is retried or the refresh fails. -/
  | downstreamResponseTimeout (d : Fin 16)
  /-- RBG_OK (R238): The entropy health tests pass again and SIG_STAT.rbg_ok returns to 1. -/
  | rbgOk
  /-- LOW_WORD_READ (R413): A read of the low word of a 64-bit pair copies the high word into the reader's holding register and tags it. -/
  | lowWordRead (p : Party) (a : Word)
  /-- CRYSTAL_START (R437): The 32.768 kHz crystal oscillator starts, xtal_ok first reads 1, the tick moves from the RC backup and crystal-stop watching begins. -/
  | crystalStart
  /-- I3C_DYNAMIC_ADDRESS (R436): The bus controller assigns or resets the target's I3C dynamic address and enables in-band interrupts, changing SBD_TGT_t_STAT. -/
  | i3cDynamicAddress (t : Fin 2) (addr : Option (BitVec 7)) (i2c ibi : Bool)
deriving DecidableEq, Repr

end Sys2Proof
end

