-- ==== Sys2Proof/Decode.lean ====
section
/-! DEFINITION. The words of the table of commands: no row of opcode_table.json gives bits, so no word spells a command.
The words of the Wemon instructions are decoded in Machine/WopCode.lean. -/

namespace Sys2Proof

/-- The command that a word spells by the bits of the table: none.
DESIGN CHOICE (log entry 3). -/
def decodeTableWord (_nbits _w : Nat) : Option Instr := none

end Sys2Proof
end

