-- ==== Sys2Proof/Config.lean ====
section
/-! DEFINITION. What the spec leaves open or takes from a standard: constants with no body,
so that nothing can lean on a value of theirs. -/

namespace Sys2Proof.Config

/-- Free values: what an instruction reads where the spec leaves the value undefined. Applied to
the state's counter of free values. -/
opaque freeWord : Nat → Dword

/-- Free bytes, as `freeWord`. -/
opaque freeByte : Nat → Byte

/-- The bytes of eNVM regions whose layout no rule gives (the Route Book's log, the life-cycle region,
the staff anti-replay region), by address and the state's counter of free values. -/
opaque envmByte : (address : Nat) → (draw : Nat) → Byte

/-- The unique device secret in OTP (R236). -/
opaque uds : List Byte

/-- The contents of the boot ROM (R404). -/
opaque romByte : Nat → Byte

/-- The event code of the FAULT record that R24 asks for, which the spec does not give. -/
opaque unavailableCode : BitVec 16

/-- The event code of the record that each request makes with its origin (R207, R264, R347, R381, R402), which the spec
does not give. -/
opaque requestCode : BitVec 16

/-- The silicon revision of SBX_REV (fixed per part). -/
opaque siliconRev : BitVec 8

/-- The private key of type `ty` (1 a P-384 scalar's 48 bytes, 2 an ML-DSA-87 seed's 32) that KEYGEN derives from a
secret (R234): the spec gives no rule for it. -/
opaque keyMaterial : (ty : Nat) → (secret : List Byte) → List Byte

/-- Random bytes of the entropy source, by the state's counter of free values. -/
opaque random : (draw : Nat) → (len : Nat) → List Byte

/-- The DER certificates at positions 0 to 2 of a chain, ECDSA or ML-DSA, in the bytes of the key store in eNVM (R304):
the layout of the key store is not in the spec. -/
opaque storedCerts : (mldsa : Bool) → (store : List (Nat × Byte)) → List (List Byte)

/-- The DER of an Alias certificate's content (R304): the DeviceID certificate that issues it, with its notBefore, its serial
number, its public key, and the fwids of its TcbInfo extension. Names and encodings are not in the spec. -/
opaque aliasContent : (issuer serial pub : List Byte) → (fwids : List (List Byte)) → List Byte

/-- The DER of a certificate with a content and its signature. -/
opaque certDer : (mldsa : Bool) → (content sig : List Byte) → List Byte

/-- Whether the certificates of a chain chain to Vellisen's root and every signature verifies, and the public
key of its Alias certificate (R304, R311). -/
opaque chainKey : (mldsa : Bool) → (chain : List Byte) → Option (List Byte)

/-- The public key of a downstream peer's leaf certificate, where every signature of its chain verifies (R312). -/
opaque peerKey : (chain : List Byte) → Option (List Byte)

/-- Whether the public keys in the DeviceID certificates that the key store holds are those of the keys derived from a
compound secret (R371). -/
opaque deviceIdMatches : (store : List (Nat × Byte)) → (cdi : List Byte) → Bool

end Sys2Proof.Config
end

