-- ==== Sys2Proof/Machine/Bytes.lean ====
section
/-! DEFINITION. Byte order (R6), bit fields and sign extension. -/

namespace Sys2Proof.Machine

/-- The low `n` bytes of `w`, least significant first (R6). -/
def leBytes : Nat → Nat → List Byte
  | 0, _ => []
  | n + 1, w => BitVec.ofNat 8 w :: leBytes n (w / 256)

/-- The number a little-endian byte string stands for (R6). -/
def leNat : List Byte → Nat
  | [] => 0
  | b :: bs => b.toNat + 256 * leNat bs

/-- The first `n` bytes of `bs`, filled with 0 where `bs` is shorter.
DESIGN CHOICE (log entry 11). -/
def takePad (n : Nat) (bs : List Byte) : List Byte :=
  bs.take n ++ List.replicate (n - bs.length) 0

/-- Bytes `off` to `off + n - 1` of `bs` as a little-endian number. -/
def leAt (bs : List Byte) (off n : Nat) : Nat := leNat ((bs.drop off).take n)

/-- Bits [hi:lo] of a number. -/
def bitsOf (w hi lo : Nat) : Nat := (w / 2 ^ lo) % 2 ^ (hi - lo + 1)

/-- Bit `i` of a number. -/
def bitOf (w i : Nat) : Bool := w.testBit i

/-- 1 or 0. -/
def b2n (b : Bool) : Nat := if b then 1 else 0

/-- The mask of bits [hi:lo] of a register word. -/
def fieldMask (hi lo : Nat) : Word := (BitVec.ofNat 32 (2 ^ (hi - lo + 1) - 1)) <<< lo

/-- The value of bits [hi:lo] of a register word. -/
def getBits (w : Word) (hi lo : Nat) : Nat := bitsOf w.toNat hi lo

/-- A register word with bits [hi:lo] replaced by `v`. -/
def setBits (w : Word) (hi lo v : Nat) : Word :=
  (w &&& ~~~(fieldMask hi lo)) ||| ((BitVec.ofNat 32 v <<< lo) &&& fieldMask hi lo)

/-- Sign extension of an immediate to 64 bits (R32). -/
def sext16 (i : BitVec 16) : Dword := i.signExtend 64

/-- Zero extension of an immediate to 64 bits (R32). -/
def zext16 (i : BitVec 16) : Dword := i.zeroExtend 64

/-- A 32-bit count that saturates at 0xFFFF_FFFF. -/
def satInc (w : Word) : Word := if w = 0xFFFFFFFF#32 then w else w + 1

/-- A count saturating at 0xFFFF_FFFF after `n` more. -/
def satAdd (w : Word) (n : Nat) : Word := BitVec.ofNat 32 (min (w.toNat + n) 0xFFFFFFFF)

/-- One bit step of the CRC-32 of IEEE 802.3. -/
def crcBit (c : Word) : Word :=
  if c.getLsbD 0 then (c >>> 1) ^^^ 0xEDB88320#32 else c >>> 1

/-- One byte of the CRC-32 of IEEE 802.3. -/
def crcByte (c : Word) (b : Byte) : Word :=
  crcBit (crcBit (crcBit (crcBit (crcBit (crcBit (crcBit (crcBit (c ^^^ b.zeroExtend 32))))))))

/-- The CRC-32 of IEEE 802.3 of a byte string (R349).
DEDUCED (log entry 78). -/
def crc32 (bs : List Byte) : Word := ~~~(bs.foldl crcByte 0xFFFFFFFF#32)

end Sys2Proof.Machine
end

