-- ==== Sys2Proof/Machine/Events.lean ====
section
/-! DEFINITION. The fixed severity of every event code (R350), from the event tables of the chapters. -/

namespace Sys2Proof.Machine

/-- The severities of R349. -/
inductive Sev where
  | info | notice | fault | security
deriving DecidableEq, Repr

/-- The two severity bits of byte 16 of a record (R349). -/
def Sev.code : Sev → Nat
  | .info => 0
  | .notice => 1
  | .fault => 2
  | .security => 3

/-- The event codes of severity NOTICE. -/
def noticeCodes : List Nat := [0x0142, 0x0202, 0x0205, 0x0206, 0x0208, 0x0302, 0x0312, 0x0315, 0x0317, 0x031A, 0x0402, 0x0403, 0x0501, 0x0503, 0x0505, 0x0601, 0x0607, 0x0703, 0x0806, 0x080A, 0x0902, 0x0905, 0x0907, 0x090A, 0x090B, 0x0A03, 0x0B01, 0x0B02, 0x1001, 0x1002, 0x1004, 0x1010, 0x1011, 0x1015, 0x1018, 0x1101, 0x1103, 0x2003, 0x2101, 0x2103, 0x2106, 0x3002, 0x3004, 0x3102, 0x3106, 0x3107, 0x3201, 0x320A]

/-- The event codes of severity FAULT. -/
def faultCodes : List Nat := [0x0140, 0x0152, 0x0153, 0x0156, 0x0207, 0x0314, 0x0319, 0x0502, 0x0705, 0x0706, 0x0804, 0x0906, 0x0A02, 0x0B03, 0x1003, 0x1005, 0x1012, 0x1013, 0x1014, 0x1202, 0x2001, 0x2002, 0x2102, 0x2104, 0x3005, 0x3103, 0x3205]

/-- The event codes of severity SECURITY. -/
def securityCodes : List Nat := [0x0141, 0x0155, 0x0203, 0x0303, 0x0305, 0x0306, 0x0308, 0x0309, 0x0401, 0x0602, 0x0603, 0x0604, 0x0605, 0x0606, 0x0608, 0x060A, 0x0802, 0x0803, 0x0805, 0x0808, 0x0809, 0x0A05, 0x1006, 0x1007, 0x1020, 0x1104, 0x1201, 0x2202, 0x2204, 0x3206, 0x3207, 0x320B, 0x320D]

/-- The fixed severity of an event code (R350); the codes of no list are INFO. What lies above 16 bits is the FAULT record
of R24, whose code is a free value. -/
def severityOf (code : Nat) : Sev :=
  if 0x10000 ≤ code then .fault
  else if securityCodes.contains code then .security
  else if faultCodes.contains code then .fault
  else if noticeCodes.contains code then .notice
  else .info


namespace Ev
/-- The FAULT record of R24: the spec gives it no code, so the 16 bits that a record shows are a free value.
DESIGN CHOICE (log entry 37). -/
def UNAVAILABLE : Nat := 0x10000 + Config.unavailableCode.toNat

/-- 0x0140 DOUBLE_TRAP (FAULT), 02_wemon.md. -/
def DOUBLE_TRAP : Nat := 0x0140
/-- 0x0141 PROGRAM_REFUSED (SECURITY), 02_wemon.md. -/
def PROGRAM_REFUSED : Nat := 0x0141
/-- 0x0142 VIEW_DENIED (NOTICE), 18_address_map.md. -/
def VIEW_DENIED : Nat := 0x0142
/-- 0x0143 STAGE2_READY (INFO), 07_holding_and_release.md. -/
def STAGE2_READY : Nat := 0x0143
/-- 0x0150 HANDOVER_ACCEPTED (INFO), 08_update_recovery.md. -/
def HANDOVER_ACCEPTED : Nat := 0x0150
/-- 0x0151 HANDOVER_DONE (INFO), 08_update_recovery.md. -/
def HANDOVER_DONE : Nat := 0x0151
/-- 0x0152 HANDOVER_REFUSED (FAULT), 08_update_recovery.md. -/
def HANDOVER_REFUSED : Nat := 0x0152
/-- 0x0153 FAILOVER (FAULT), 08_update_recovery.md. -/
def FAILOVER : Nat := 0x0153
/-- 0x0154 CORE_REJOINED (INFO), 08_update_recovery.md. -/
def CORE_REJOINED : Nat := 0x0154
/-- 0x0155 CORE_RETIRED (SECURITY), 08_update_recovery.md. -/
def CORE_RETIRED : Nat := 0x0155
/-- 0x0156 DUTY_LOST (FAULT), 08_update_recovery.md. -/
def DUTY_LOST : Nat := 0x0156
/-- 0x0201 COMMIT (INFO), 03_interlocking.md. -/
def COMMIT : Nat := 0x0201
/-- 0x0202 ABORT (NOTICE), 03_interlocking.md. -/
def ABORT : Nat := 0x0202
/-- 0x0203 VOTE_FAIL (SECURITY), 03_interlocking.md. -/
def VOTE_FAIL : Nat := 0x0203
/-- 0x0204 DROP (INFO), 03_interlocking.md. -/
def DROP : Nat := 0x0204
/-- 0x0205 REPLAY (NOTICE), 03_interlocking.md. -/
def REPLAY : Nat := 0x0205
/-- 0x0206 JOURNAL_DISCARD (NOTICE), 03_interlocking.md. -/
def JOURNAL_DISCARD : Nat := 0x0206
/-- 0x0207 JOURNAL_FAULT (FAULT), 03_interlocking.md. -/
def JOURNAL_FAULT : Nat := 0x0207
/-- 0x0208 BAD_HANDLE (NOTICE), 03_interlocking.md. -/
def BAD_HANDLE : Nat := 0x0208
/-- 0x0301 STAGE_ACCEPTED (INFO), 07_holding_and_release.md. -/
def STAGE_ACCEPTED : Nat := 0x0301
/-- 0x0302 SLOT_FAIL (NOTICE), 07_holding_and_release.md. -/
def SLOT_FAIL : Nat := 0x0302
/-- 0x0303 NO_STAGE (SECURITY), 07_holding_and_release.md. -/
def NO_STAGE : Nat := 0x0303
/-- 0x0304 CONSIST_ACCEPTED (INFO), 07_holding_and_release.md. -/
def CONSIST_ACCEPTED : Nat := 0x0304
/-- 0x0305 CONSIST_FAIL (SECURITY), 07_holding_and_release.md. -/
def CONSIST_FAIL : Nat := 0x0305
/-- 0x0306 SLOT_FAIL (SECURITY), 07_holding_and_release.md. -/
def SLOT_FAIL_COMP : Nat := 0x0306
/-- 0x0307 COMPONENT_ACCEPTED (INFO), 07_holding_and_release.md. -/
def COMPONENT_ACCEPTED : Nat := 0x0307
/-- 0x0308 RECORD_UNREADABLE (SECURITY), 07_holding_and_release.md. -/
def RECORD_UNREADABLE : Nat := 0x0308
/-- 0x0309 COMPONENT_HELD (SECURITY), 07_holding_and_release.md. -/
def COMPONENT_HELD : Nat := 0x0309
/-- 0x030A RELEASED (INFO), 07_holding_and_release.md. -/
def RELEASED : Nat := 0x030A
/-- 0x0310 UPDATE_BEGIN (INFO), 08_update_recovery.md. -/
def UPDATE_BEGIN : Nat := 0x0310
/-- 0x0311 UPDATE_COMMITTED (INFO), 08_update_recovery.md. -/
def UPDATE_COMMITTED : Nat := 0x0311
/-- 0x0312 UPDATE_REFUSED (NOTICE), 08_update_recovery.md. -/
def UPDATE_REFUSED : Nat := 0x0312
/-- 0x0313 TRIAL_CONFIRMED (INFO), 08_update_recovery.md. -/
def TRIAL_CONFIRMED : Nat := 0x0313
/-- 0x0314 TRIAL_REVERTED (FAULT), 08_update_recovery.md. -/
def TRIAL_REVERTED : Nat := 0x0314
/-- 0x0315 SIDING_SET (NOTICE), 08_update_recovery.md. -/
def SIDING_SET : Nat := 0x0315
/-- 0x0316 SIDING_CLEARED (INFO), 08_update_recovery.md. -/
def SIDING_CLEARED : Nat := 0x0316
/-- 0x0317 RECOVERY_START (NOTICE), 08_update_recovery.md. -/
def RECOVERY_START : Nat := 0x0317
/-- 0x0318 RECOVERY_DONE (INFO), 08_update_recovery.md. -/
def RECOVERY_DONE : Nat := 0x0318
/-- 0x0319 RECOVERY_FAIL (FAULT), 08_update_recovery.md. -/
def RECOVERY_FAIL : Nat := 0x0319
/-- 0x031A PUSH_REFUSED (NOTICE), 08_update_recovery.md. -/
def PUSH_REFUSED : Nat := 0x031A
/-- 0x0401 FLAG_PAIR_FAULT (SECURITY), 09_crypto_units.md. -/
def FLAG_PAIR_FAULT : Nat := 0x0401
/-- 0x0402 LENGTH_MISMATCH (NOTICE), 09_crypto_units.md. -/
def LENGTH_MISMATCH : Nat := 0x0402
/-- 0x0403 DIGEST_CLEARED (NOTICE), 09_crypto_units.md. -/
def DIGEST_CLEARED : Nat := 0x0403
/-- 0x0501 LEN_MISMATCH (NOTICE), 13_mailboxes.md. -/
def LEN_MISMATCH : Nat := 0x0501
/-- 0x0502 MBX_STALL (FAULT), 13_mailboxes.md. -/
def MBX_STALL : Nat := 0x0502
/-- 0x0503 SENDER_RESET_DISCARD (NOTICE), 13_mailboxes.md. -/
def SENDER_RESET_DISCARD : Nat := 0x0503
/-- 0x0505 BAD_WRITER (NOTICE), 13_mailboxes.md. -/
def BAD_WRITER : Nat := 0x0505
/-- 0x0506 BIND_LOCKED (INFO), 13_mailboxes.md. -/
def BIND_LOCKED : Nat := 0x0506
/-- 0x0601 DETECTOR_EVENT (NOTICE), 14_tamper.md. -/
def DETECTOR_EVENT : Nat := 0x0601
/-- 0x0602 ALARM (SECURITY), 14_tamper.md. -/
def ALARM : Nat := 0x0602
/-- 0x0603 LOCKDOWN_ENTERED (SECURITY), 14_tamper.md. -/
def LOCKDOWN_ENTERED : Nat := 0x0603
/-- 0x0604 LOCKDOWN_RELEASED (SECURITY), 14_tamper.md. -/
def LOCKDOWN_RELEASED : Nat := 0x0604
/-- 0x0605 VBAT_ALARM (SECURITY), 14_tamper.md. -/
def VBAT_ALARM : Nat := 0x0605
/-- 0x0606 EVIDENCE_FULL (SECURITY), 14_tamper.md. -/
def EVIDENCE_FULL : Nat := 0x0606
/-- 0x0607 CELL_WINDOW (NOTICE), 14_tamper.md. -/
def CELL_WINDOW : Nat := 0x0607
/-- 0x0608 SOURCE_FUSED (SECURITY), 14_tamper.md. -/
def SOURCE_FUSED : Nat := 0x0608
/-- 0x0609 FORCING_ENDED (INFO), 14_tamper.md. -/
def FORCING_ENDED : Nat := 0x0609
/-- 0x060A VLATCH_OVERFLOW (SECURITY), 14_tamper.md. -/
def VLATCH_OVERFLOW : Nat := 0x060A
/-- 0x0701 REG_CHANGE (INFO), 15_event_recorder.md. -/
def REG_CHANGE : Nat := 0x0701
/-- 0x0702 CORRELATION (INFO), 15_event_recorder.md. -/
def CORRELATION : Nat := 0x0702
/-- 0x0703 LOG_GAP (NOTICE), 15_event_recorder.md. -/
def LOG_GAP : Nat := 0x0703
/-- 0x0704 PF_FLUSH (INFO), 15_event_recorder.md. -/
def PF_FLUSH : Nat := 0x0704
/-- 0x0705 LOG_CORRUPT (FAULT), 15_event_recorder.md. -/
def LOG_CORRUPT : Nat := 0x0705
/-- 0x0706 NVM_FAULT (FAULT), 15_event_recorder.md. -/
def NVM_FAULT : Nat := 0x0706
/-- 0x0801 LC_STATE (INFO), 16_life_cycle.md. -/
def LC_STATE : Nat := 0x0801
/-- 0x0802 LC_TRANSIT_BEGIN (SECURITY), 16_life_cycle.md. -/
def LC_TRANSIT_BEGIN : Nat := 0x0802
/-- 0x0803 LC_TRANSIT_DONE (SECURITY), 16_life_cycle.md. -/
def LC_TRANSIT_DONE : Nat := 0x0803
/-- 0x0804 LC_COPY_BAD (FAULT), 16_life_cycle.md. -/
def LC_COPY_BAD : Nat := 0x0804
/-- 0x0805 STAFF_ACCEPTED (SECURITY), 16_life_cycle.md. -/
def STAFF_ACCEPTED : Nat := 0x0805
/-- 0x0806 STAFF_REFUSED (NOTICE), 16_life_cycle.md. -/
def STAFF_REFUSED : Nat := 0x0806
/-- 0x0807 TICKET_USED (INFO), 16_life_cycle.md. -/
def TICKET_USED : Nat := 0x0807
/-- 0x0808 DEBUG_LEVEL (SECURITY), 16_life_cycle.md. -/
def DEBUG_LEVEL : Nat := 0x0808
/-- 0x0809 OWNER_KEY_SET (SECURITY), 16_life_cycle.md. -/
def OWNER_KEY_SET : Nat := 0x0809
/-- 0x080A MTM_RUN (NOTICE), 16_life_cycle.md. -/
def MTM_RUN : Nat := 0x080A
/-- 0x0901 MODE_CHANGE (INFO), 17_power.md. -/
def MODE_CHANGE : Nat := 0x0901
/-- 0x0902 SLEEP_REFUSED (NOTICE), 17_power.md. -/
def SLEEP_REFUSED : Nat := 0x0902
/-- 0x0903 SLEEP_ABORTED (INFO), 17_power.md. -/
def SLEEP_ABORTED : Nat := 0x0903
/-- 0x0904 SLEEP_BOUNCED (INFO), 17_power.md. -/
def SLEEP_BOUNCED : Nat := 0x0904
/-- 0x0905 DVFS_ORDER (NOTICE), 17_power.md. -/
def DVFS_ORDER : Nat := 0x0905
/-- 0x0906 RET_LOST (FAULT), 17_power.md. -/
def RET_LOST : Nat := 0x0906
/-- 0x0907 VOTE_BAD (NOTICE), 17_power.md. -/
def VOTE_BAD : Nat := 0x0907
/-- 0x0908 WAKE (INFO), 17_power.md. -/
def WAKE : Nat := 0x0908
/-- 0x0909 KNOCK (INFO), 17_power.md. -/
def KNOCK : Nat := 0x0909
/-- 0x090A CLOCK_ORDER (NOTICE), 17_power.md. -/
def CLOCK_ORDER : Nat := 0x090A
/-- 0x090B PF_WARN (NOTICE), 17_power.md. -/
def PF_WARN : Nat := 0x090B
/-- 0x0A01 REPORT_READY (INFO), 07_holding_and_release.md. -/
def REPORT_READY : Nat := 0x0A01
/-- 0x0A02 REPORT_TIMEOUT (FAULT), 07_holding_and_release.md. -/
def REPORT_TIMEOUT : Nat := 0x0A02
/-- 0x0A03 REPORT_LOST (NOTICE), 07_holding_and_release.md. -/
def REPORT_LOST : Nat := 0x0A03
/-- 0x0A04 HOLD_CFG_LOCKED (INFO), 07_holding_and_release.md. -/
def HOLD_CFG_LOCKED : Nat := 0x0A04
/-- 0x0A05 HOLD_CFG_MISMATCH (SECURITY), 07_holding_and_release.md. -/
def HOLD_CFG_MISMATCH : Nat := 0x0A05
/-- 0x0B01 SIGN_EXHAUSTED (NOTICE), 09_crypto_units.md. -/
def SIGN_EXHAUSTED : Nat := 0x0B01
/-- 0x0B02 SESSION_KEYS_ZEROISED (NOTICE), 09_crypto_units.md. -/
def SESSION_KEYS_ZEROISED : Nat := 0x0B02
/-- 0x0B03 RBG_FAULT (FAULT), 09_crypto_units.md. -/
def RBG_FAULT : Nat := 0x0B03
/-- 0x1001 TORN_WRITE (NOTICE), 04_line_ports.md. -/
def TORN_WRITE : Nat := 0x1001
/-- 0x1002 SELECT_INTRUSION (NOTICE), 04_line_ports.md. -/
def SELECT_INTRUSION : Nat := 0x1002
/-- 0x1003 MASTER_CONFLICT (FAULT), 04_line_ports.md. -/
def MASTER_CONFLICT : Nat := 0x1003
/-- 0x1004 UNKNOWN_OPCODE (NOTICE), 04_line_ports.md. -/
def UNKNOWN_OPCODE : Nat := 0x1004
/-- 0x1005 LATE_VERDICT (FAULT), 04_line_ports.md. -/
def LATE_VERDICT : Nat := 0x1005
/-- 0x1006 PROFILE_BAD (SECURITY), 04_line_ports.md. -/
def PROFILE_BAD : Nat := 0x1006
/-- 0x1007 IDENTITY_MISMATCH (SECURITY), 04_line_ports.md. -/
def IDENTITY_MISMATCH : Nat := 0x1007
/-- 0x1008 IFACE_CHANGE (INFO), 04_line_ports.md. -/
def IFACE_CHANGE : Nat := 0x1008
/-- 0x1010 DENIED (NOTICE), 05_section_code.md. -/
def DENIED : Nat := 0x1010
/-- 0x1011 VERDICT_CONVERTED (NOTICE), 05_section_code.md. -/
def VERDICT_CONVERTED : Nat := 0x1011
/-- 0x1012 ROUTE_EXCEPTION (FAULT), 05_section_code.md. -/
def ROUTE_EXCEPTION : Nat := 0x1012
/-- 0x1013 FLASH_FAIL (FAULT), 05_section_code.md. -/
def FLASH_FAIL : Nat := 0x1013
/-- 0x1014 FLASH_TIMEOUT (FAULT), 05_section_code.md. -/
def FLASH_TIMEOUT : Nat := 0x1014
/-- 0x1015 STAGE_DISCARD (NOTICE), 05_section_code.md. -/
def STAGE_DISCARD : Nat := 0x1015
/-- 0x1016 PROG_LOADED (INFO), 05_section_code.md. -/
def PROG_LOADED : Nat := 0x1016
/-- 0x1017 ADDR_MODE (INFO), 05_section_code.md. -/
def ADDR_MODE : Nat := 0x1017
/-- 0x1018 FENCED (NOTICE), 08_update_recovery.md. -/
def FENCED : Nat := 0x1018
/-- 0x1020 TAG_MISMATCH (SECURITY), 06_read_verification.md. -/
def TAG_MISMATCH : Nat := 0x1020
/-- 0x1101 EXTENT_REFUSED (NOTICE), 06_read_verification.md. -/
def EXTENT_REFUSED : Nat := 0x1101
/-- 0x1102 EXTENT_READY (INFO), 06_read_verification.md. -/
def EXTENT_READY : Nat := 0x1102
/-- 0x1103 EXTENT_STALE (NOTICE), 06_read_verification.md. -/
def EXTENT_STALE : Nat := 0x1103
/-- 0x1104 REGION_BEYOND_IMAGE (SECURITY), 06_read_verification.md. -/
def REGION_BEYOND_IMAGE : Nat := 0x1104
/-- 0x1201 GANGER_TAG_MISMATCH (SECURITY), 06_read_verification.md. -/
def GANGER_TAG_MISMATCH : Nat := 0x1201
/-- 0x1202 DRIFT (FAULT), 06_read_verification.md. -/
def DRIFT : Nat := 0x1202
/-- 0x2001 ENGINE_FAULT (FAULT), 02_wemon.md. -/
def ENGINE_FAULT : Nat := 0x2001
/-- 0x2002 BARRIER_BROKEN (FAULT), 02_wemon.md. -/
def BARRIER_BROKEN : Nat := 0x2002
/-- 0x2003 BCAST_REFUSED (NOTICE), 02_wemon.md. -/
def BCAST_REFUSED : Nat := 0x2003
/-- 0x2004 BCAST_DONE (INFO), 02_wemon.md. -/
def BCAST_DONE : Nat := 0x2004
/-- 0x2101 WAYBILL_REJECTED (NOTICE), 10_fixity.md. -/
def WAYBILL_REJECTED : Nat := 0x2101
/-- 0x2102 OBJECT_FAIL (FAULT), 10_fixity.md. -/
def OBJECT_FAIL : Nat := 0x2102
/-- 0x2103 ITEM_ABORTED (NOTICE), 10_fixity.md. -/
def ITEM_ABORTED : Nat := 0x2103
/-- 0x2104 MATCH_DISAGREE (FAULT), 10_fixity.md. -/
def MATCH_DISAGREE : Nat := 0x2104
/-- 0x2105 PASS_DONE (INFO), 10_fixity.md. -/
def PASS_DONE : Nat := 0x2105
/-- 0x2106 PASS_OVERDUE (NOTICE), 10_fixity.md. -/
def PASS_OVERDUE : Nat := 0x2106
/-- 0x2107 REPORT_MADE (INFO), 10_fixity.md. -/
def REPORT_MADE : Nat := 0x2107
/-- 0x2201 LEDGER_OPENED (INFO), 10_fixity.md. -/
def LEDGER_OPENED : Nat := 0x2201
/-- 0x2202 LEDGER_AUTH_FAIL (SECURITY), 10_fixity.md. -/
def LEDGER_AUTH_FAIL : Nat := 0x2202
/-- 0x2203 EPOCH_COMMITTED (INFO), 10_fixity.md. -/
def EPOCH_COMMITTED : Nat := 0x2203
/-- 0x2204 LEDGER_REBUILT (SECURITY), 10_fixity.md. -/
def LEDGER_REBUILT : Nat := 0x2204
/-- 0x2205 LEDGER_CLOSED (INFO), 10_fixity.md. -/
def LEDGER_CLOSED : Nat := 0x2205
/-- 0x3001 LINK_UP (INFO), 11_host_link.md. -/
def LINK_UP : Nat := 0x3001
/-- 0x3002 LINK_DOWN (NOTICE), 11_host_link.md. -/
def LINK_DOWN : Nat := 0x3002
/-- 0x3003 FEATURES_ACCEPTED (INFO), 11_host_link.md. -/
def FEATURES_ACCEPTED : Nat := 0x3003
/-- 0x3004 FEATURES_REFUSED (NOTICE), 11_host_link.md. -/
def FEATURES_REFUSED : Nat := 0x3004
/-- 0x3005 DMA_ERROR (FAULT), 11_host_link.md. -/
def DMA_ERROR : Nat := 0x3005
/-- 0x3101 INSTANCE_CREATED (INFO), 11_host_link.md. -/
def INSTANCE_CREATED : Nat := 0x3101
/-- 0x3102 DOORBELL_BAD (NOTICE), 11_host_link.md. -/
def DOORBELL_BAD : Nat := 0x3102
/-- 0x3103 INSTANCE_FAILED (FAULT), 11_host_link.md. -/
def INSTANCE_FAILED : Nat := 0x3103
/-- 0x3104 INSTANCE_RESET (INFO), 11_host_link.md. -/
def INSTANCE_RESET : Nat := 0x3104
/-- 0x3105 INSTANCE_DESTROYED (INFO), 11_host_link.md. -/
def INSTANCE_DESTROYED : Nat := 0x3105
/-- 0x3106 CREATE_REFUSED (NOTICE), 11_host_link.md. -/
def CREATE_REFUSED : Nat := 0x3106
/-- 0x3107 DIRTY_FULL (NOTICE), 11_host_link.md. -/
def DIRTY_FULL : Nat := 0x3107
/-- 0x3201 MSG_DROPPED (NOTICE), 12_attestation.md. -/
def MSG_DROPPED : Nat := 0x3201
/-- 0x3203 SESSION_OPENED (INFO), 12_attestation.md. -/
def SESSION_OPENED : Nat := 0x3203
/-- 0x3204 SESSION_CLOSED (INFO), 12_attestation.md. -/
def SESSION_CLOSED : Nat := 0x3204
/-- 0x3205 LATE_RESPONSE (FAULT), 12_attestation.md. -/
def LATE_RESPONSE : Nat := 0x3205
/-- 0x3206 NO_IDENTITY (SECURITY), 12_attestation.md. -/
def NO_IDENTITY : Nat := 0x3206
/-- 0x3207 MREG_REFUSED (SECURITY), 12_attestation.md. -/
def MREG_REFUSED : Nat := 0x3207
/-- 0x3208 MREG_EXTENDED (INFO), 12_attestation.md. -/
def MREG_EXTENDED : Nat := 0x3208
/-- 0x3209 CUSTODY_EXPORTED (INFO), 12_attestation.md. -/
def CUSTODY_EXPORTED : Nat := 0x3209
/-- 0x320A CUSTODY_REFUSED (NOTICE), 12_attestation.md. -/
def CUSTODY_REFUSED : Nat := 0x320A
/-- 0x320B CUSTODY_IMPORTED (SECURITY), 12_attestation.md. -/
def CUSTODY_IMPORTED : Nat := 0x320B
/-- 0x320C DOWNSTREAM_OK (INFO), 12_attestation.md. -/
def DOWNSTREAM_OK : Nat := 0x320C
/-- 0x320D DOWNSTREAM_FAIL (SECURITY), 12_attestation.md. -/
def DOWNSTREAM_FAIL : Nat := 0x320D
end Ev

end Sys2Proof.Machine
end

