-- ==== Sys2Proof/Machine/Regs.lean ====
section
/-! DEFINITION. The address of every register of the TDX-8512, by its name in the register tables of spec/ (R420 names the chapter of each). -/

namespace Sys2Proof.Machine.Reg

/-- SBX_MPU_w_BASE, table of 02_wemon.md. -/
def SBX_MPU_BASE (w : Nat) : Nat := 0x20000400 + w * 0x10
/-- SBX_MPU_w_LIMIT, table of 02_wemon.md. -/
def SBX_MPU_LIMIT (w : Nat) : Nat := 0x20000404 + w * 0x10
/-- SBX_MPU_w_ATTR, table of 02_wemon.md. -/
def SBX_MPU_ATTR (w : Nat) : Nat := 0x20000408 + w * 0x10
/-- YRD_y_CTL, table of 02_wemon.md. -/
def YRD_CTL (y : Nat) : Nat := 0x20200000 + y * 0x1000
/-- YRD_y_ENTRY, table of 02_wemon.md. -/
def YRD_ENTRY (y : Nat) : Nat := 0x20200004 + y * 0x1000
/-- YRD_y_CODE, table of 02_wemon.md. -/
def YRD_CODE (y : Nat) : Nat := 0x20200008 + y * 0x1000
/-- YRD_y_BAR_MASK, table of 02_wemon.md. -/
def YRD_BAR_MASK (y : Nat) : Nat := 0x2020000C + y * 0x1000
/-- YRD_y_GBAR, table of 02_wemon.md. -/
def YRD_GBAR (y : Nat) : Nat := 0x20200010 + y * 0x1000
/-- YRD_y_DOORBELL, table of 02_wemon.md. -/
def YRD_DOORBELL (y : Nat) : Nat := 0x20200014 + y * 0x1000
/-- YRD_y_FAULT_MAP, table of 02_wemon.md. -/
def YRD_FAULT_MAP (y : Nat) : Nat := 0x20200020 + y * 0x1000
/-- YRD_y_FAULT_ENG, table of 02_wemon.md. -/
def YRD_FAULT_ENG (y : Nat) : Nat := 0x20200024 + y * 0x1000
/-- YRD_y_FAULT_PC, table of 02_wemon.md. -/
def YRD_FAULT_PC (y : Nat) : Nat := 0x20200028 + y * 0x1000
/-- YRD_y_FAULT_VAL, table of 02_wemon.md. -/
def YRD_FAULT_VAL (y : Nat) : Nat := 0x2020002C + y * 0x1000
/-- YRD_y_BAR_STAT, table of 02_wemon.md. -/
def YRD_BAR_STAT (y : Nat) : Nat := 0x20200030 + y * 0x1000
/-- YRD_BCAST_SRC, table of 02_wemon.md. -/
def YRD_BCAST_SRC : Nat := 0x20210000
/-- YRD_BCAST_LEN, table of 02_wemon.md. -/
def YRD_BCAST_LEN : Nat := 0x20210004
/-- YRD_BCAST_MASK, table of 02_wemon.md. -/
def YRD_BCAST_MASK : Nat := 0x20210008
/-- YRD_BCAST_GO, table of 02_wemon.md. -/
def YRD_BCAST_GO : Nat := 0x2021000C
/-- YRD_BCAST_STAT, table of 02_wemon.md. -/
def YRD_BCAST_STAT : Nat := 0x20210010
/-- ILK_CTL, table of 03_interlocking.md. -/
def ILK_CTL : Nat := 0x20010000
/-- ILK_STAT, table of 03_interlocking.md. -/
def ILK_STAT : Nat := 0x20010004
/-- ILK_ARM, table of 03_interlocking.md. -/
def ILK_ARM : Nat := 0x20010008
/-- ILK_SEQ, table of 03_interlocking.md. -/
def ILK_SEQ : Nat := 0x2001000C
/-- ILK_ABORT_COUNT, table of 03_interlocking.md. -/
def ILK_ABORT_COUNT : Nat := 0x20010010
/-- ILK_VOTE_FAIL_COUNT, table of 03_interlocking.md. -/
def ILK_VOTE_FAIL_COUNT : Nat := 0x20010014
/-- ILK_LAST_DIGEST_k, table of 03_interlocking.md. -/
def ILK_LAST_DIGEST (k : Nat) : Nat := 0x20010040 + k * 0x4
/-- ILK_H_h_STAT, table of 03_interlocking.md. -/
def ILK_H_STAT (h : Nat) : Nat := 0x20010100 + h * 0x10
/-- ILK_H_h_INFO, table of 03_interlocking.md. -/
def ILK_H_INFO (h : Nat) : Nat := 0x20010104 + h * 0x10
/-- SEC_n_CTL, table of 04_line_ports.md. -/
def SEC_CTL (n : Nat) : Nat := 0x20100000 + n * 0x1000
/-- SEC_n_CFG, table of 04_line_ports.md. -/
def SEC_CFG (n : Nat) : Nat := 0x20100004 + n * 0x1000
/-- SEC_n_PORT_STAT, table of 04_line_ports.md. -/
def SEC_PORT_STAT (n : Nat) : Nat := 0x20100008 + n * 0x1000
/-- SEC_n_FRAME, table of 04_line_ports.md. -/
def SEC_FRAME (n : Nat) : Nat := 0x2010000C + n * 0x1000
/-- SEC_n_FRAME_ADDR, table of 04_line_ports.md. -/
def SEC_FRAME_ADDR (n : Nat) : Nat := 0x20100010 + n * 0x1000
/-- SEC_n_CNT_FRAMES, table of 04_line_ports.md. -/
def SEC_CNT_FRAMES (n : Nat) : Nat := 0x20100020 + n * 0x1000
/-- SEC_n_CNT_VOID, table of 04_line_ports.md. -/
def SEC_CNT_VOID (n : Nat) : Nat := 0x20100024 + n * 0x1000
/-- SEC_n_CNT_TORN_WRITE, table of 04_line_ports.md. -/
def SEC_CNT_TORN_WRITE (n : Nat) : Nat := 0x20100028 + n * 0x1000
/-- SEC_n_CNT_TORN_READ, table of 04_line_ports.md. -/
def SEC_CNT_TORN_READ (n : Nat) : Nat := 0x2010002C + n * 0x1000
/-- SEC_n_CNT_ABANDONED, table of 04_line_ports.md. -/
def SEC_CNT_ABANDONED (n : Nat) : Nat := 0x20100030 + n * 0x1000
/-- SEC_n_CNT_INTRUSION, table of 04_line_ports.md. -/
def SEC_CNT_INTRUSION (n : Nat) : Nat := 0x20100034 + n * 0x1000
/-- SEC_n_CNT_UNKNOWN, table of 04_line_ports.md. -/
def SEC_CNT_UNKNOWN (n : Nat) : Nat := 0x20100038 + n * 0x1000
/-- SEC_n_CNT_LATE, table of 04_line_ports.md. -/
def SEC_CNT_LATE (n : Nat) : Nat := 0x2010003C + n * 0x1000
/-- SEC_n_CNT_CONFLICT, table of 04_line_ports.md. -/
def SEC_CNT_CONFLICT (n : Nat) : Nat := 0x20100040 + n * 0x1000
/-- SEC_n_CNT_PREEMPT, table of 04_line_ports.md. -/
def SEC_CNT_PREEMPT (n : Nat) : Nat := 0x20100044 + n * 0x1000
/-- SEC_n_CNT_ISOLATED, table of 04_line_ports.md. -/
def SEC_CNT_ISOLATED (n : Nat) : Nat := 0x20100048 + n * 0x1000
/-- SEC_n_DEV_OP, table of 04_line_ports.md. -/
def SEC_DEV_OP (n : Nat) : Nat := 0x20100100 + n * 0x1000
/-- SEC_n_DEV_ADDR, table of 04_line_ports.md. -/
def SEC_DEV_ADDR (n : Nat) : Nat := 0x20100104 + n * 0x1000
/-- SEC_n_DEV_LEN, table of 04_line_ports.md. -/
def SEC_DEV_LEN (n : Nat) : Nat := 0x20100108 + n * 0x1000
/-- SEC_n_DEV_BUF, table of 04_line_ports.md. -/
def SEC_DEV_BUF (n : Nat) : Nat := 0x2010010C + n * 0x1000
/-- SEC_n_DEV_GO, table of 04_line_ports.md. -/
def SEC_DEV_GO (n : Nat) : Nat := 0x20100110 + n * 0x1000
/-- SEC_n_DEV_STAT, table of 04_line_ports.md. -/
def SEC_DEV_STAT (n : Nat) : Nat := 0x20100114 + n * 0x1000
/-- SEC_n_PROF_CHECK, table of 04_line_ports.md. -/
def SEC_PROF_CHECK (n : Nat) : Nat := 0x20100200 + n * 0x1000
/-- SEC_n_PROF_FAULT, table of 04_line_ports.md. -/
def SEC_PROF_FAULT (n : Nat) : Nat := 0x20100204 + n * 0x1000
/-- SEC_n_PROFILE_k, table of 04_line_ports.md. -/
def SEC_PROFILE (n : Nat) (k : Nat) : Nat := 0x20100400 + n * 0x1000 + k * 0x4
/-- SEC_n_POL, table of 05_section_code.md. -/
def SEC_POL (n : Nat) : Nat := 0x20100060 + n * 0x1000
/-- SEC_n_TIMEOUT, table of 05_section_code.md. -/
def SEC_TIMEOUT (n : Nat) : Nat := 0x20100064 + n * 0x1000
/-- SEC_n_ADDR_OPS, table of 05_section_code.md. -/
def SEC_ADDR_OPS (n : Nat) : Nat := 0x20100068 + n * 0x1000
/-- SEC_n_WEL_OPS, table of 05_section_code.md. -/
def SEC_WEL_OPS (n : Nat) : Nat := 0x2010006C + n * 0x1000
/-- SEC_n_ADDR_STAT, table of 05_section_code.md. -/
def SEC_ADDR_STAT (n : Nat) : Nat := 0x20100070 + n * 0x1000
/-- SEC_n_STAGE_STAT, table of 05_section_code.md. -/
def SEC_STAGE_STAT (n : Nat) : Nat := 0x20100074 + n * 0x1000
/-- SEC_n_PCNT_k, table of 05_section_code.md. -/
def SEC_PCNT (n : Nat) (k : Nat) : Nat := 0x20100080 + n * 0x1000 + k * 0x4
/-- SEC_n_CNT_PASS, table of 05_section_code.md. -/
def SEC_CNT_PASS (n : Nat) : Nat := 0x201000C0 + n * 0x1000
/-- SEC_n_CNT_DENY, table of 05_section_code.md. -/
def SEC_CNT_DENY (n : Nat) : Nat := 0x201000C4 + n * 0x1000
/-- SEC_n_CNT_STAGE, table of 05_section_code.md. -/
def SEC_CNT_STAGE (n : Nat) : Nat := 0x201000C8 + n * 0x1000
/-- SEC_n_CNT_SERVE, table of 05_section_code.md. -/
def SEC_CNT_SERVE (n : Nat) : Nat := 0x201000CC + n * 0x1000
/-- SEC_n_CNT_CHECK, table of 05_section_code.md. -/
def SEC_CNT_CHECK (n : Nat) : Nat := 0x201000D0 + n * 0x1000
/-- SEC_n_CNT_REPLAY, table of 05_section_code.md. -/
def SEC_CNT_REPLAY (n : Nat) : Nat := 0x201000D4 + n * 0x1000
/-- SEC_n_CNT_UNAVAIL, table of 05_section_code.md. -/
def SEC_CNT_UNAVAIL (n : Nat) : Nat := 0x201000D8 + n * 0x1000
/-- SEC_n_CNT_CONVERTED, table of 05_section_code.md. -/
def SEC_CNT_CONVERTED (n : Nat) : Nat := 0x201000DC + n * 0x1000
/-- SEC_n_CNT_FLASH_FAIL, table of 05_section_code.md. -/
def SEC_CNT_FLASH_FAIL (n : Nat) : Nat := 0x201000F0 + n * 0x1000
/-- SEC_n_LAST_VERDICT, table of 05_section_code.md. -/
def SEC_LAST_VERDICT (n : Nat) : Nat := 0x201000E0 + n * 0x1000
/-- SEC_n_LAST_DENY, table of 05_section_code.md. -/
def SEC_LAST_DENY (n : Nat) : Nat := 0x201000E4 + n * 0x1000
/-- SEC_n_LAST_DENY_ADDR, table of 05_section_code.md. -/
def SEC_LAST_DENY_ADDR (n : Nat) : Nat := 0x201000E8 + n * 0x1000
/-- SEC_n_STATUS_k, table of 05_section_code.md. -/
def SEC_STATUS (n : Nat) (k : Nat) : Nat := 0x20100180 + n * 0x1000 + k * 0x4
/-- SEC_n_EMU_k, table of 05_section_code.md. -/
def SEC_EMU (n : Nat) (k : Nat) : Nat := 0x20100190 + n * 0x1000 + k * 0x4
/-- SEC_n_PGM_SRC, table of 05_section_code.md. -/
def SEC_PGM_SRC (n : Nat) : Nat := 0x20100300 + n * 0x1000
/-- SEC_n_PGM_MAP_SRC, table of 05_section_code.md. -/
def SEC_PGM_MAP_SRC (n : Nat) : Nat := 0x20100308 + n * 0x1000
/-- SEC_n_PGM_LEN, table of 05_section_code.md. -/
def SEC_PGM_LEN (n : Nat) : Nat := 0x20100304 + n * 0x1000
/-- SEC_n_PGM_MAP_CNT, table of 05_section_code.md. -/
def SEC_PGM_MAP_CNT (n : Nat) : Nat := 0x2010030C + n * 0x1000
/-- SEC_n_PGM_LOAD, table of 05_section_code.md. -/
def SEC_PGM_LOAD (n : Nat) : Nat := 0x20100310 + n * 0x1000
/-- SEC_n_PGM_STAT, table of 05_section_code.md. -/
def SEC_PGM_STAT (n : Nat) : Nat := 0x20100314 + n * 0x1000
/-- SEC_n_PGM_STBY_DIGEST_k, table of 05_section_code.md. -/
def SEC_PGM_STBY_DIGEST (n : Nat) (k : Nat) : Nat := 0x20100340 + n * 0x1000 + k * 0x4
/-- SEC_n_PGM_ACT_DIGEST_k, table of 05_section_code.md. -/
def SEC_PGM_ACT_DIGEST (n : Nat) (k : Nat) : Nat := 0x20100380 + n * 0x1000 + k * 0x4
/-- SEC_n_TAG_STAT, table of 06_read_verification.md. -/
def SEC_TAG_STAT (n : Nat) : Nat := 0x201000F4 + n * 0x1000
/-- SEC_n_TAG_LAST_ADDR, table of 06_read_verification.md. -/
def SEC_TAG_LAST_ADDR (n : Nat) : Nat := 0x201000F8 + n * 0x1000
/-- DEP_STAT, table of 06_read_verification.md. -/
def DEP_STAT : Nat := 0x20130000
/-- DEP_SERVED_FREE, table of 06_read_verification.md. -/
def DEP_SERVED_FREE : Nat := 0x20130004
/-- DEP_TAG_FREE, table of 06_read_verification.md. -/
def DEP_TAG_FREE : Nat := 0x20130008
/-- DEP_VMAP, table of 06_read_verification.md. -/
def DEP_VMAP : Nat := 0x20130010
/-- DEP_VMAP_SRC, table of 06_read_verification.md. -/
def DEP_VMAP_SRC : Nat := 0x20130014
/-- DEP_VMAP_DST, table of 06_read_verification.md. -/
def DEP_VMAP_DST : Nat := 0x20130018
/-- DEP_EXT_FAULT, table of 06_read_verification.md. -/
def DEP_EXT_FAULT : Nat := 0x20130020
/-- DEP_HOLD_PEND_LO, table of 06_read_verification.md. -/
def DEP_HOLD_PEND_LO : Nat := 0x20130030
/-- DEP_HOLD_PEND_HI, table of 06_read_verification.md. -/
def DEP_HOLD_PEND_HI : Nat := 0x20130034
/-- DEP_EXT_x_CTL, table of 06_read_verification.md. -/
def DEP_EXT_CTL (x : Nat) : Nat := 0x20131000 + x * 0x10
/-- DEP_EXT_x_START, table of 06_read_verification.md. -/
def DEP_EXT_START (x : Nat) : Nat := 0x20131004 + x * 0x10
/-- DEP_EXT_x_LEN, table of 06_read_verification.md. -/
def DEP_EXT_LEN (x : Nat) : Nat := 0x20131008 + x * 0x10
/-- DEP_EXT_x_BASE, table of 06_read_verification.md. -/
def DEP_EXT_BASE (x : Nat) : Nat := 0x2013100C + x * 0x10
/-- DEP_EXT_x_FILL, table of 06_read_verification.md. -/
def DEP_EXT_FILL (x : Nat) : Nat := 0x20132000 + x * 0x4
/-- GNG_CTL, table of 06_read_verification.md. -/
def GNG_CTL : Nat := 0x20140000
/-- GNG_BUDGET, table of 06_read_verification.md. -/
def GNG_BUDGET : Nat := 0x20140004
/-- GNG_STAT, table of 06_read_verification.md. -/
def GNG_STAT : Nat := 0x20140008
/-- GNG_n_CURSOR, table of 06_read_verification.md. -/
def GNG_CURSOR (n : Nat) : Nat := 0x20141000 + n * 0x40
/-- GNG_n_PASSES, table of 06_read_verification.md. -/
def GNG_PASSES (n : Nat) : Nat := 0x20141004 + n * 0x40
/-- GNG_n_PAGES, table of 06_read_verification.md. -/
def GNG_PAGES (n : Nat) : Nat := 0x20141008 + n * 0x40
/-- GNG_n_TAG_FAIL, table of 06_read_verification.md. -/
def GNG_TAG_FAIL (n : Nat) : Nat := 0x2014100C + n * 0x40
/-- GNG_n_DRIFT, table of 06_read_verification.md. -/
def GNG_DRIFT (n : Nat) : Nat := 0x20141010 + n * 0x40
/-- GNG_n_RETRY, table of 06_read_verification.md. -/
def GNG_RETRY (n : Nat) : Nat := 0x20141014 + n * 0x40
/-- GNG_n_HINT, table of 06_read_verification.md. -/
def GNG_HINT (n : Nat) : Nat := 0x20141018 + n * 0x40
/-- GNG_n_USED, table of 06_read_verification.md. -/
def GNG_USED (n : Nat) : Nat := 0x2014101C + n * 0x40
/-- GNG_n_CTL, table of 06_read_verification.md. -/
def GNG_SEC_CTL (n : Nat) : Nat := 0x20141020 + n * 0x40
/-- HLD_STATE_g, table of 07_holding_and_release.md. -/
def HLD_STATE (g : Nat) : Nat := 0x20090000 + g * 0x4
/-- HLD_PAD_g, table of 07_holding_and_release.md. -/
def HLD_PAD (g : Nat) : Nat := 0x20090010 + g * 0x4
/-- HLD_REPORT_g, table of 07_holding_and_release.md. -/
def HLD_REPORT (g : Nat) : Nat := 0x20090020 + g * 0x4
/-- HLD_RPT_CHG_g, table of 07_holding_and_release.md. -/
def HLD_RPT_CHG (g : Nat) : Nat := 0x20090030 + g * 0x4
/-- HLD_STAT, table of 07_holding_and_release.md. -/
def HLD_STAT : Nat := 0x20090040
/-- HLD_FILTER, table of 07_holding_and_release.md. -/
def HLD_FILTER : Nat := 0x20090044
/-- HLD_LOCK, table of 07_holding_and_release.md. -/
def HLD_LOCK : Nat := 0x20090048
/-- HLD_LCFG_l, table of 07_holding_and_release.md. -/
def HLD_LCFG (l : Nat) : Nat := 0x20090100 + l * 0x4
/-- RTB_REC_c_k, table of 07_holding_and_release.md. -/
def RTB_REC (c : Nat) (k : Nat) : Nat := 0x20020000 + c * 0x100 + k * 0x4
/-- RTB_MINVER_i, table of 07_holding_and_release.md. -/
def RTB_MINVER (i : Nat) : Nat := 0x20024000 + i * 0x4
/-- RTB_UNREAD_LO, table of 07_holding_and_release.md. -/
def RTB_UNREAD_LO : Nat := 0x20024010
/-- RTB_UNREAD_HI, table of 07_holding_and_release.md. -/
def RTB_UNREAD_HI : Nat := 0x20024014
/-- RTB_STAT, table of 07_holding_and_release.md. -/
def RTB_STAT : Nat := 0x20024018
/-- RTB_COMP_c, table of 07_holding_and_release.md. -/
def RTB_COMP (c : Nat) : Nat := 0x20025000 + c * 0x4
/-- SEC_n_FENCE_f_BASE, table of 08_update_recovery.md. -/
def SEC_FENCE_BASE (n : Nat) (f : Nat) : Nat := 0x20100600 + n * 0x1000 + f * 0x8
/-- SEC_n_FENCE_f_LEN, table of 08_update_recovery.md. -/
def SEC_FENCE_LEN (n : Nat) (f : Nat) : Nat := 0x20100604 + n * 0x1000 + f * 0x8
/-- RTB_UPD_CTL, table of 08_update_recovery.md. -/
def RTB_UPD_CTL : Nat := 0x20026000
/-- RTB_UPD_STAT, table of 08_update_recovery.md. -/
def RTB_UPD_STAT : Nat := 0x20026004
/-- RTB_TRIAL_LO, table of 08_update_recovery.md. -/
def RTB_TRIAL_LO : Nat := 0x20026010
/-- RTB_TRIAL_HI, table of 08_update_recovery.md. -/
def RTB_TRIAL_HI : Nat := 0x20026014
/-- RTB_SIDING_LO, table of 08_update_recovery.md. -/
def RTB_SIDING_LO : Nat := 0x20026018
/-- RTB_SIDING_HI, table of 08_update_recovery.md. -/
def RTB_SIDING_HI : Nat := 0x2002601C
/-- RTB_RCV_STAT, table of 08_update_recovery.md. -/
def RTB_RCV_STAT : Nat := 0x20026020
/-- RTB_RCV_PAGES, table of 08_update_recovery.md. -/
def RTB_RCV_PAGES : Nat := 0x20026024
/-- RTB_HND_STAT, table of 08_update_recovery.md. -/
def RTB_HND_STAT : Nat := 0x20026030
/-- RTB_FAILOVER, table of 08_update_recovery.md. -/
def RTB_FAILOVER : Nat := 0x20026034
/-- EXM_STAT, table of 09_crypto_units.md. -/
def EXM_STAT : Nat := 0x20030000
/-- EXM_FLAG_FAULT_COUNT, table of 09_crypto_units.md. -/
def EXM_FLAG_FAULT_COUNT : Nat := 0x20030004
/-- EXM_LANE_l_SUBMIT, table of 09_crypto_units.md. -/
def EXM_LANE_SUBMIT (l : Nat) : Nat := 0x20031000 + l * 0x100
/-- EXM_LANE_l_ABORT, table of 09_crypto_units.md. -/
def EXM_LANE_ABORT (l : Nat) : Nat := 0x20031004 + l * 0x100
/-- EXM_LANE_l_END, table of 09_crypto_units.md. -/
def EXM_LANE_END (l : Nat) : Nat := 0x20031008 + l * 0x100
/-- EXM_LANE_l_STAT, table of 09_crypto_units.md. -/
def EXM_LANE_STAT (l : Nat) : Nat := 0x2003100C + l * 0x100
/-- EXM_LANE_l_COUNT_LO, table of 09_crypto_units.md. -/
def EXM_LANE_COUNT_LO (l : Nat) : Nat := 0x20031010 + l * 0x100
/-- EXM_LANE_l_COUNT_HI, table of 09_crypto_units.md. -/
def EXM_LANE_COUNT_HI (l : Nat) : Nat := 0x20031014 + l * 0x100
/-- EXM_LANE_l_BUSY_COUNT, table of 09_crypto_units.md. -/
def EXM_LANE_BUSY_COUNT (l : Nat) : Nat := 0x20031018 + l * 0x100
/-- EXM_LANE_l_RES_k, table of 09_crypto_units.md. -/
def EXM_LANE_RES (l : Nat) (k : Nat) : Nat := 0x20031040 + l * 0x100 + k * 0x4
/-- YRD_y_KEYS, table of 09_crypto_units.md. -/
def YRD_KEYS (y : Nat) : Nat := 0x20200040 + y * 0x1000
/-- YRD_y_DSTAT_l, table of 09_crypto_units.md. -/
def YRD_DSTAT (y : Nat) (l : Nat) : Nat := 0x20200400 + y * 0x1000 + l * 0x4
/-- YRD_y_DRES_l_k, table of 09_crypto_units.md. -/
def YRD_DRES (y : Nat) (l : Nat) (k : Nat) : Nat := 0x20200800 + y * 0x1000 + l * 0x40 + k * 0x4
/-- YRD_KEY_SRC, table of 09_crypto_units.md. -/
def YRD_KEY_SRC : Nat := 0x20210020
/-- YRD_KEY_CTL, table of 09_crypto_units.md. -/
def YRD_KEY_CTL : Nat := 0x20210024
/-- YRD_KEY_MASK, table of 09_crypto_units.md. -/
def YRD_KEY_MASK : Nat := 0x20210028
/-- YRD_KEY_GO, table of 09_crypto_units.md. -/
def YRD_KEY_GO : Nat := 0x2021002C
/-- YRD_KEY_STAT, table of 09_crypto_units.md. -/
def YRD_KEY_STAT : Nat := 0x20210030
/-- SIG_SUBMIT, table of 09_crypto_units.md. -/
def SIG_SUBMIT : Nat := 0x20038000
/-- SIG_STAT, table of 09_crypto_units.md. -/
def SIG_STAT : Nat := 0x20038004
/-- SIG_EXHAUSTED, table of 09_crypto_units.md. -/
def SIG_EXHAUSTED : Nat := 0x2003800C
/-- SIG_ABORT, table of 09_crypto_units.md. -/
def SIG_ABORT : Nat := 0x20038010
/-- SIG_KEY_s_INFO, table of 09_crypto_units.md. -/
def SIG_KEY_INFO (s : Nat) : Nat := 0x20038100 + s * 0x4
/-- FIX_CTL, table of 10_fixity.md. -/
def FIX_CTL : Nat := 0x20300000
/-- FIX_YARDS, table of 10_fixity.md. -/
def FIX_YARDS : Nat := 0x20300004
/-- FIX_STAT, table of 10_fixity.md. -/
def FIX_STAT : Nat := 0x20300008
/-- FIX_INFLIGHT, table of 10_fixity.md. -/
def FIX_INFLIGHT : Nat := 0x2030000C
/-- FIX_BYTES_LO, table of 10_fixity.md. -/
def FIX_BYTES_LO : Nat := 0x20300010
/-- FIX_BYTES_HI, table of 10_fixity.md. -/
def FIX_BYTES_HI : Nat := 0x20300014
/-- FIX_RATE, table of 10_fixity.md. -/
def FIX_RATE : Nat := 0x20300018
/-- FIX_CNT_PASS, table of 10_fixity.md. -/
def FIX_CNT_PASS : Nat := 0x20300020
/-- FIX_CNT_FAIL, table of 10_fixity.md. -/
def FIX_CNT_FAIL : Nat := 0x20300024
/-- FIX_CNT_REJECT, table of 10_fixity.md. -/
def FIX_CNT_REJECT : Nat := 0x20300028
/-- FIX_CNT_LENGTH, table of 10_fixity.md. -/
def FIX_CNT_LENGTH : Nat := 0x2030002C
/-- FIX_CNT_ABORT, table of 10_fixity.md. -/
def FIX_CNT_ABORT : Nat := 0x20300030
/-- FIX_TT_k_STAT, table of 10_fixity.md. -/
def FIX_TT_STAT (k : Nat) : Nat := 0x20301000 + k * 0x20
/-- FIX_TT_k_CUR_LO, table of 10_fixity.md. -/
def FIX_TT_CUR_LO (k : Nat) : Nat := 0x20301004 + k * 0x20
/-- FIX_TT_k_CUR_HI, table of 10_fixity.md. -/
def FIX_TT_CUR_HI (k : Nat) : Nat := 0x20301008 + k * 0x20
/-- FIX_TT_k_AGE, table of 10_fixity.md. -/
def FIX_TT_AGE (k : Nat) : Nat := 0x2030100C + k * 0x20
/-- FIX_TT_k_FAILS, table of 10_fixity.md. -/
def FIX_TT_FAILS (k : Nat) : Nat := 0x20301010 + k * 0x20
/-- LDG_CTL, table of 10_fixity.md. -/
def LDG_CTL : Nat := 0x20310000
/-- LDG_STAT, table of 10_fixity.md. -/
def LDG_STAT : Nat := 0x20310004
/-- LDG_EPOCH_LO, table of 10_fixity.md. -/
def LDG_EPOCH_LO : Nat := 0x20310008
/-- LDG_EPOCH_HI, table of 10_fixity.md. -/
def LDG_EPOCH_HI : Nat := 0x2031000C
/-- LDG_LEAF_BASE_LO, table of 10_fixity.md. -/
def LDG_LEAF_BASE_LO : Nat := 0x20310010
/-- LDG_LEAF_BASE_HI, table of 10_fixity.md. -/
def LDG_LEAF_BASE_HI : Nat := 0x20310014
/-- LDG_TREE_BASE_LO, table of 10_fixity.md. -/
def LDG_TREE_BASE_LO : Nat := 0x20310018
/-- LDG_TREE_BASE_HI, table of 10_fixity.md. -/
def LDG_TREE_BASE_HI : Nat := 0x2031001C
/-- LDG_PAGES, table of 10_fixity.md. -/
def LDG_PAGES : Nat := 0x20310020
/-- LDG_CNT_AUTH, table of 10_fixity.md. -/
def LDG_CNT_AUTH : Nat := 0x20310024
/-- LDG_CNT_AUTH_FAIL, table of 10_fixity.md. -/
def LDG_CNT_AUTH_FAIL : Nat := 0x20310028
/-- LDG_CNT_UPDATE, table of 10_fixity.md. -/
def LDG_CNT_UPDATE : Nat := 0x2031002C
/-- LDG_RING, table of 10_fixity.md. -/
def LDG_RING : Nat := 0x20310030
/-- LDG_REBUILT_LO, table of 10_fixity.md. -/
def LDG_REBUILT_LO : Nat := 0x20310034
/-- LDG_REBUILT_HI, table of 10_fixity.md. -/
def LDG_REBUILT_HI : Nat := 0x20310038
/-- LDG_ROOT_k, table of 10_fixity.md. -/
def LDG_ROOT (k : Nat) : Nat := 0x20310040 + k * 0x4
/-- LDG_WROOT_k, table of 10_fixity.md. -/
def LDG_WROOT (k : Nat) : Nat := 0x20310060 + k * 0x4
/-- HST_DEV_FEATURES_k, table of 11_host_link.md. -/
def HST_DEV_FEATURES (k : Nat) : Nat := 0x20400000 + k * 0x4
/-- HST_DRV_FEATURES_k, table of 11_host_link.md. -/
def HST_DRV_FEATURES (k : Nat) : Nat := 0x20400010 + k * 0x4
/-- HST_LINK, table of 11_host_link.md. -/
def HST_LINK : Nat := 0x20400020
/-- HST_MODE, table of 11_host_link.md. -/
def HST_MODE : Nat := 0x20400024
/-- HST_POOL, table of 11_host_link.md. -/
def HST_POOL : Nat := 0x20400028
/-- HST_STAT, table of 11_host_link.md. -/
def HST_STAT : Nat := 0x2040002C
/-- HST_CTL, table of 11_host_link.md. -/
def HST_CTL : Nat := 0x20400030
/-- HST_CNT_DMA_ERR, table of 11_host_link.md. -/
def HST_CNT_DMA_ERR : Nat := 0x20400034
/-- VIN_n_CTL, table of 11_host_link.md. -/
def VIN_CTL (n : Nat) : Nat := 0x20410000 + n * 0x100
/-- VIN_n_STAT, table of 11_host_link.md. -/
def VIN_STAT (n : Nat) : Nat := 0x20410004 + n * 0x100
/-- VIN_n_RES, table of 11_host_link.md. -/
def VIN_RES (n : Nat) : Nat := 0x2041000C + n * 0x100
/-- VIN_n_PASID, table of 11_host_link.md. -/
def VIN_PASID (n : Nat) : Nat := 0x20410010 + n * 0x100
/-- VIN_n_VEC_BASE, table of 11_host_link.md. -/
def VIN_VEC_BASE (n : Nat) : Nat := 0x20410014 + n * 0x100
/-- VIN_n_INT_MAP, table of 11_host_link.md. -/
def VIN_INT_MAP (n : Nat) : Nat := 0x20410018 + n * 0x100
/-- VIN_n_INT_STAT, table of 11_host_link.md. -/
def VIN_INT_STAT (n : Nat) : Nat := 0x2041001C + n * 0x100
/-- VIN_n_SQ_BASE_LO, table of 11_host_link.md. -/
def VIN_SQ_BASE_LO (n : Nat) : Nat := 0x20410020 + n * 0x100
/-- VIN_n_SQ_BASE_HI, table of 11_host_link.md. -/
def VIN_SQ_BASE_HI (n : Nat) : Nat := 0x20410024 + n * 0x100
/-- VIN_n_CQ_BASE_LO, table of 11_host_link.md. -/
def VIN_CQ_BASE_LO (n : Nat) : Nat := 0x20410028 + n * 0x100
/-- VIN_n_CQ_BASE_HI, table of 11_host_link.md. -/
def VIN_CQ_BASE_HI (n : Nat) : Nat := 0x2041002C + n * 0x100
/-- VIN_n_CMD_BASE_LO, table of 11_host_link.md. -/
def VIN_CMD_BASE_LO (n : Nat) : Nat := 0x20410030 + n * 0x100
/-- VIN_n_CMD_BASE_HI, table of 11_host_link.md. -/
def VIN_CMD_BASE_HI (n : Nat) : Nat := 0x20410034 + n * 0x100
/-- VIN_n_RSP_BASE_LO, table of 11_host_link.md. -/
def VIN_RSP_BASE_LO (n : Nat) : Nat := 0x20410038 + n * 0x100
/-- VIN_n_RSP_BASE_HI, table of 11_host_link.md. -/
def VIN_RSP_BASE_HI (n : Nat) : Nat := 0x2041003C + n * 0x100
/-- VIN_n_DEV_FEAT_k, table of 11_host_link.md. -/
def VIN_DEV_FEAT (n : Nat) (k : Nat) : Nat := 0x20410040 + n * 0x100 + k * 0x4
/-- VIN_n_DRV_FEAT_k, table of 11_host_link.md. -/
def VIN_DRV_FEAT (n : Nat) (k : Nat) : Nat := 0x20410050 + n * 0x100 + k * 0x4
/-- VIN_n_SQ_TAIL, table of 11_host_link.md. -/
def VIN_SQ_TAIL (n : Nat) : Nat := 0x20410060 + n * 0x100
/-- VIN_n_CMD_TAIL, table of 11_host_link.md. -/
def VIN_CMD_TAIL (n : Nat) : Nat := 0x20410070 + n * 0x100
/-- VIN_n_CQ_HEAD, table of 11_host_link.md. -/
def VIN_CQ_HEAD (n : Nat) : Nat := 0x20410068 + n * 0x100
/-- VIN_n_RSP_HEAD, table of 11_host_link.md. -/
def VIN_RSP_HEAD (n : Nat) : Nat := 0x20410078 + n * 0x100
/-- VIN_n_SQ_HEAD, table of 11_host_link.md. -/
def VIN_SQ_HEAD (n : Nat) : Nat := 0x20410064 + n * 0x100
/-- VIN_n_CMD_HEAD, table of 11_host_link.md. -/
def VIN_CMD_HEAD (n : Nat) : Nat := 0x20410074 + n * 0x100
/-- VIN_n_CQ_TAIL, table of 11_host_link.md. -/
def VIN_CQ_TAIL (n : Nat) : Nat := 0x2041006C + n * 0x100
/-- VIN_n_RSP_TAIL, table of 11_host_link.md. -/
def VIN_RSP_TAIL (n : Nat) : Nat := 0x2041007C + n * 0x100
/-- VIN_n_LATE_DISCARD, table of 11_host_link.md. -/
def VIN_LATE_DISCARD (n : Nat) : Nat := 0x20410080 + n * 0x100
/-- VIN_n_SUBMITTED, table of 11_host_link.md. -/
def VIN_SUBMITTED (n : Nat) : Nat := 0x20410084 + n * 0x100
/-- VIN_n_COMPLETED, table of 11_host_link.md. -/
def VIN_COMPLETED (n : Nat) : Nat := 0x20410088 + n * 0x100
/-- VIN_n_DB_BAD, table of 11_host_link.md. -/
def VIN_DB_BAD (n : Nat) : Nat := 0x2041008C + n * 0x100
/-- VIN_n_DIRTY_BASE_LO, table of 11_host_link.md. -/
def VIN_DIRTY_BASE_LO (n : Nat) : Nat := 0x20410090 + n * 0x100
/-- VIN_n_DIRTY_BASE_HI, table of 11_host_link.md. -/
def VIN_DIRTY_BASE_HI (n : Nat) : Nat := 0x20410094 + n * 0x100
/-- VIN_n_DIRTY_IDX, table of 11_host_link.md. -/
def VIN_DIRTY_IDX (n : Nat) : Nat := 0x20410098 + n * 0x100
/-- VIN_n_INT_COAL, table of 11_host_link.md. -/
def VIN_INT_COAL (n : Nat) : Nat := 0x2041009C + n * 0x100
/-- VIN_0_EVR_CURSOR, table of 11_host_link.md. -/
def VIN_0_EVR_CURSOR : Nat := 0x204100A0
/-- VIN_0_EVR_SEQ, table of 11_host_link.md. -/
def VIN_0_EVR_SEQ : Nat := 0x204100A4
/-- VIN_0_EVR_WINDOW_k, table of 11_host_link.md. -/
def VIN_0_EVR_WINDOW (k : Nat) : Nat := 0x204100B0 + k * 0x4
/-- VIN_0_DIRTY_DB, table of 11_host_link.md. -/
def VIN_0_DIRTY_DB : Nat := 0x204100F0
/-- VIN_0_VIEW_SEL, table of 11_host_link.md. -/
def VIN_0_VIEW_SEL : Nat := 0x204100F4
/-- ATT_MREG_m_k, table of 12_attestation.md. -/
def ATT_MREG (m : Nat) (k : Nat) : Nat := 0x20500000 + m * 0x40 + k * 0x4
/-- ATT_MREG_EXT_SRC, table of 12_attestation.md. -/
def ATT_MREG_EXT_SRC : Nat := 0x20500400
/-- ATT_MREG_EXT_CTL, table of 12_attestation.md. -/
def ATT_MREG_EXT_CTL : Nat := 0x20500404
/-- ATT_MREG_EXT_STAT, table of 12_attestation.md. -/
def ATT_MREG_EXT_STAT : Nat := 0x20500408
/-- ATT_MREG_LOCK, table of 12_attestation.md. -/
def ATT_MREG_LOCK : Nat := 0x2050040C
/-- ATT_STAT, table of 12_attestation.md. -/
def ATT_STAT : Nat := 0x20500410
/-- ATT_CNT_RX, table of 12_attestation.md. -/
def ATT_CNT_RX : Nat := 0x20500420
/-- ATT_CNT_DROP, table of 12_attestation.md. -/
def ATT_CNT_DROP : Nat := 0x20500424
/-- ATT_CNT_ERR, table of 12_attestation.md. -/
def ATT_CNT_ERR : Nat := 0x20500428
/-- ATT_CNT_LATE, table of 12_attestation.md. -/
def ATT_CNT_LATE : Nat := 0x2050042C
/-- ATT_CNT_DS_FAIL, table of 12_attestation.md. -/
def ATT_CNT_DS_FAIL : Nat := 0x20500430
/-- ATT_DS_d_STAT, table of 12_attestation.md. -/
def ATT_DS_STAT (d : Nat) : Nat := 0x20500500 + d * 0x4
/-- MBX_n_DATA_k, table of 13_mailboxes.md. -/
def MBX_DATA (n : Nat) (k : Nat) : Nat := 0x20040000 + n * 0x100 + k * 0x4
/-- MBX_n_CTL, table of 13_mailboxes.md. -/
def MBX_CTL (n : Nat) : Nat := 0x20040040 + n * 0x100
/-- MBX_n_DONE, table of 13_mailboxes.md. -/
def MBX_DONE (n : Nat) : Nat := 0x20040044 + n * 0x100
/-- MBX_n_STAT, table of 13_mailboxes.md. -/
def MBX_STAT (n : Nat) : Nat := 0x20040048 + n * 0x100
/-- MBX_n_WMASK, table of 13_mailboxes.md. -/
def MBX_WMASK (n : Nat) : Nat := 0x2004004C + n * 0x100
/-- MBX_n_EPOCH, table of 13_mailboxes.md. -/
def MBX_EPOCH (n : Nat) : Nat := 0x20040050 + n * 0x100
/-- MBX_n_BIND, table of 13_mailboxes.md. -/
def MBX_BIND (n : Nat) : Nat := 0x20040054 + n * 0x100
/-- MBX_n_CNT_POSTED, table of 13_mailboxes.md. -/
def MBX_CNT_POSTED (n : Nat) : Nat := 0x20040058 + n * 0x100
/-- MBX_n_CNT_REJECT, table of 13_mailboxes.md. -/
def MBX_CNT_REJECT (n : Nat) : Nat := 0x2004005C + n * 0x100
/-- MBX_n_CNT_BAD, table of 13_mailboxes.md. -/
def MBX_CNT_BAD (n : Nat) : Nat := 0x20040060 + n * 0x100
/-- MBX_LOCK, table of 13_mailboxes.md. -/
def MBX_LOCK : Nat := 0x20044000
/-- MBX_POST_LO, table of 13_mailboxes.md. -/
def MBX_POST_LO : Nat := 0x20044010
/-- MBX_POST_HI, table of 13_mailboxes.md. -/
def MBX_POST_HI : Nat := 0x20044014
/-- MBX_DONE_LO, table of 13_mailboxes.md. -/
def MBX_DONE_LO : Nat := 0x20044018
/-- MBX_DONE_HI, table of 13_mailboxes.md. -/
def MBX_DONE_HI : Nat := 0x2004401C
/-- MBX_AGT_a_PEND_LO, table of 13_mailboxes.md. -/
def MBX_AGT_PEND_LO (a : Nat) : Nat := 0x20044100 + a * 0x10
/-- MBX_AGT_a_PEND_HI, table of 13_mailboxes.md. -/
def MBX_AGT_PEND_HI (a : Nat) : Nat := 0x20044104 + a * 0x10
/-- MBX_AGT_a_RESET, table of 13_mailboxes.md. -/
def MBX_AGT_RESET (a : Nat) : Nat := 0x20044108 + a * 0x10
/-- TMP_CTL, table of 14_tamper.md. -/
def TMP_CTL : Nat := 0x20050000
/-- TMP_STAT, table of 14_tamper.md. -/
def TMP_STAT : Nat := 0x20050004
/-- TMP_ALARM, table of 14_tamper.md. -/
def TMP_ALARM : Nat := 0x20050008
/-- TMP_ACTIVE, table of 14_tamper.md. -/
def TMP_ACTIVE : Nat := 0x2005000C
/-- TMP_FUSED, table of 14_tamper.md. -/
def TMP_FUSED : Nat := 0x20050010
/-- TMP_EVIDENCE, table of 14_tamper.md. -/
def TMP_EVIDENCE : Nat := 0x20050014
/-- TMP_VBAT_TICK_LO, table of 14_tamper.md. -/
def TMP_VBAT_TICK_LO : Nat := 0x20050018
/-- TMP_VBAT_TICK_HI, table of 14_tamper.md. -/
def TMP_VBAT_TICK_HI : Nat := 0x2005001C
/-- TMP_TEMP_LIM, table of 14_tamper.md. -/
def TMP_TEMP_LIM : Nat := 0x20050020
/-- TMP_CELL_WIN, table of 14_tamper.md. -/
def TMP_CELL_WIN : Nat := 0x20050024
/-- TMP_VLATCH_STAT, table of 14_tamper.md. -/
def TMP_VLATCH_STAT : Nat := 0x20050028
/-- TMP_SRC_s_CFG, table of 14_tamper.md. -/
def TMP_SRC_CFG (s : Nat) : Nat := 0x20050100 + s * 0x8
/-- TMP_SRC_s_CNT, table of 14_tamper.md. -/
def TMP_SRC_CNT (s : Nat) : Nat := 0x20050104 + s * 0x8
/-- TMP_EXT_e_CFG, table of 14_tamper.md. -/
def TMP_EXT_CFG (e : Nat) : Nat := 0x20050200 + e * 0x4
/-- TMP_VLATCH_i_LO, table of 14_tamper.md. -/
def TMP_VLATCH_LO (i : Nat) : Nat := 0x20050300 + i * 0x8
/-- TMP_VLATCH_i_HI, table of 14_tamper.md. -/
def TMP_VLATCH_HI (i : Nat) : Nat := 0x20050304 + i * 0x8
/-- EVR_CTL, table of 15_event_recorder.md. -/
def EVR_CTL : Nat := 0x20060000
/-- EVR_STAT, table of 15_event_recorder.md. -/
def EVR_STAT : Nat := 0x20060004
/-- EVR_SEQ_NEXT, table of 15_event_recorder.md. -/
def EVR_SEQ_NEXT : Nat := 0x20060008
/-- EVR_OLDEST, table of 15_event_recorder.md. -/
def EVR_OLDEST : Nat := 0x2006000C
/-- EVR_LIVE, table of 15_event_recorder.md. -/
def EVR_LIVE : Nat := 0x20060010
/-- EVR_DROPPED_n, table of 15_event_recorder.md. -/
def EVR_DROPPED (n : Nat) : Nat := 0x20060020 + n * 0x4
/-- EVR_REPLACED_n, table of 15_event_recorder.md. -/
def EVR_REPLACED (n : Nat) : Nat := 0x20060030 + n * 0x4
/-- EVR_BEHALF, table of 15_event_recorder.md. -/
def EVR_BEHALF : Nat := 0x20060040
/-- EVR_INT, table of 15_event_recorder.md. -/
def EVR_INT : Nat := 0x20060044
/-- EVR_CURSOR, table of 15_event_recorder.md. -/
def EVR_CURSOR : Nat := 0x20060100
/-- EVR_WINDOW_SEQ, table of 15_event_recorder.md. -/
def EVR_WINDOW_SEQ : Nat := 0x20060104
/-- EVR_WINDOW_k, table of 15_event_recorder.md. -/
def EVR_WINDOW (k : Nat) : Nat := 0x20060140 + k * 0x4
/-- EVR_AGT_a_CURSOR, table of 15_event_recorder.md. -/
def EVR_AGT_CURSOR (a : Nat) : Nat := 0x20060200 + a * 0x80
/-- EVR_AGT_a_WINDOW_SEQ, table of 15_event_recorder.md. -/
def EVR_AGT_WINDOW_SEQ (a : Nat) : Nat := 0x20060204 + a * 0x80
/-- EVR_AGT_a_WINDOW_k, table of 15_event_recorder.md. -/
def EVR_AGT_WINDOW (a : Nat) (k : Nat) : Nat := 0x20060240 + a * 0x80 + k * 0x4
/-- LCS_STATE, table of 16_life_cycle.md. -/
def LCS_STATE : Nat := 0x20070000
/-- LCS_COPY_k_LO, table of 16_life_cycle.md. -/
def LCS_COPY_LO (k : Nat) : Nat := 0x20070010 + k * 0x8
/-- LCS_COPY_k_HI, table of 16_life_cycle.md. -/
def LCS_COPY_HI (k : Nat) : Nat := 0x20070014 + k * 0x8
/-- LCS_OTP_KEYS, table of 16_life_cycle.md. -/
def LCS_OTP_KEYS : Nat := 0x20070030
/-- LCS_SERIAL_k, table of 16_life_cycle.md. -/
def LCS_SERIAL (k : Nat) : Nat := 0x20070040 + k * 0x4
/-- LCS_STAFF_COUNT, table of 16_life_cycle.md. -/
def LCS_STAFF_COUNT : Nat := 0x20070050
/-- LCS_TICKET_t, table of 16_life_cycle.md. -/
def LCS_TICKET (t : Nat) : Nat := 0x20070060 + t * 0x8
/-- LCS_TICKET_t_INFO, table of 16_life_cycle.md. -/
def LCS_TICKET_INFO (t : Nat) : Nat := 0x20070064 + t * 0x8
/-- LCS_NONCE_STAT, table of 16_life_cycle.md. -/
def LCS_NONCE_STAT : Nat := 0x20070080
/-- LCS_WIPE_STAT, table of 16_life_cycle.md. -/
def LCS_WIPE_STAT : Nat := 0x20070084
/-- OTP_VKEY_i_k, table of 16_life_cycle.md. -/
def OTP_VKEY (i : Nat) (k : Nat) : Nat := 0x200B0000 + i * 0x40 + k * 0x4
/-- OTP_OKEY_i_k, table of 16_life_cycle.md. -/
def OTP_OKEY (i : Nat) (k : Nat) : Nat := 0x200B0100 + i * 0x40 + k * 0x4
/-- MTM_KEY, table of 16_life_cycle.md. -/
def MTM_KEY : Nat := 0x20078000
/-- MTM_CTL, table of 16_life_cycle.md. -/
def MTM_CTL : Nat := 0x20078004
/-- MTM_ADDR, table of 16_life_cycle.md. -/
def MTM_ADDR : Nat := 0x20078008
/-- MTM_STAT, table of 16_life_cycle.md. -/
def MTM_STAT : Nat := 0x2007800C
/-- MTM_FAIL_ADDR, table of 16_life_cycle.md. -/
def MTM_FAIL_ADDR : Nat := 0x20078010
/-- PWR_MODE, table of 17_power.md. -/
def PWR_MODE : Nat := 0x20080000
/-- PWR_STAT, table of 17_power.md. -/
def PWR_STAT : Nat := 0x20080004
/-- PWR_WAKE_EN, table of 17_power.md. -/
def PWR_WAKE_EN : Nat := 0x20080010
/-- PWR_WAKE_CAUSE, table of 17_power.md. -/
def PWR_WAKE_CAUSE : Nat := 0x20080014
/-- PWR_WAKE_VEC_c, table of 17_power.md. -/
def PWR_WAKE_VEC (c : Nat) : Nat := 0x20080018 + c * 0x4
/-- PWR_RET_CFG, table of 17_power.md. -/
def PWR_RET_CFG : Nat := 0x20080020
/-- PWR_RET_LOST, table of 17_power.md. -/
def PWR_RET_LOST : Nat := 0x20080024
/-- PWR_CLK_CTL, table of 17_power.md. -/
def PWR_CLK_CTL : Nat := 0x20080030
/-- PWR_CLK_STAT, table of 17_power.md. -/
def PWR_CLK_STAT : Nat := 0x20080034
/-- PWR_YARD_y_OP, table of 17_power.md. -/
def PWR_YARD_OP (y : Nat) : Nat := 0x20080100 + y * 0x4
/-- PWR_VOTE_d, table of 17_power.md. -/
def PWR_VOTE (d : Nat) : Nat := 0x20081000 + d * 0x20
/-- PWR_DOM_d_CFG, table of 17_power.md. -/
def PWR_DOM_CFG (d : Nat) : Nat := 0x20081004 + d * 0x20
/-- PWR_DOM_d_STAT, table of 17_power.md. -/
def PWR_DOM_STAT (d : Nat) : Nat := 0x20081008 + d * 0x20
/-- PWR_REFUSE_COUNT_d, table of 17_power.md. -/
def PWR_REFUSE_COUNT (d : Nat) : Nat := 0x2008100C + d * 0x20
/-- PWR_LAST_REFUSER_d, table of 17_power.md. -/
def PWR_LAST_REFUSER (d : Nat) : Nat := 0x20081010 + d * 0x20
/-- PWR_ABORT_COUNT_d, table of 17_power.md. -/
def PWR_ABORT_COUNT (d : Nat) : Nat := 0x20081014 + d * 0x20
/-- PWR_BOUNCE_COUNT_d, table of 17_power.md. -/
def PWR_BOUNCE_COUNT (d : Nat) : Nat := 0x20081018 + d * 0x20
/-- SBX_CORE_ID, table of 18_address_map.md. -/
def SBX_CORE_ID : Nat := 0x20000000
/-- SBX_REV, table of 18_address_map.md. -/
def SBX_REV : Nat := 0x20000004
/-- SBX_SNAP, table of 18_address_map.md. -/
def SBX_SNAP : Nat := 0x20000100
/-- SBX_SNAP_SEQ, table of 18_address_map.md. -/
def SBX_SNAP_SEQ : Nat := 0x20000104
/-- SBX_SNAP_PCC, table of 18_address_map.md. -/
def SBX_SNAP_PCC : Nat := 0x20000108
/-- SBX_SNAP_OT_LO, table of 18_address_map.md. -/
def SBX_SNAP_OT_LO : Nat := 0x2000010C
/-- SBX_SNAP_OT_HI, table of 18_address_map.md. -/
def SBX_SNAP_OT_HI : Nat := 0x20000110
/-- SBX_VIEW_DENY, table of 18_address_map.md. -/
def SBX_VIEW_DENY : Nat := 0x20000120
/-- NVC_ADDR, table of 18_address_map.md. -/
def NVC_ADDR : Nat := 0x200A0000
/-- NVC_SRC, table of 18_address_map.md. -/
def NVC_SRC : Nat := 0x200A0004
/-- NVC_LEN, table of 18_address_map.md. -/
def NVC_LEN : Nat := 0x200A0008
/-- NVC_CTL, table of 18_address_map.md. -/
def NVC_CTL : Nat := 0x200A000C
/-- NVC_STAT, table of 18_address_map.md. -/
def NVC_STAT : Nat := 0x200A0010
/-- NVC_LOCK, table of 18_address_map.md. -/
def NVC_LOCK : Nat := 0x200A0014
/-- SBD_TGT_t_CFG, table of 18_address_map.md. -/
def SBD_TGT_CFG (t : Nat) : Nat := 0x20600000 + t * 0x10
/-- SBD_TGT_t_STAT, table of 18_address_map.md. -/
def SBD_TGT_STAT (t : Nat) : Nat := 0x20600004 + t * 0x10
/-- SBD_CTL_c_CFG, table of 18_address_map.md. -/
def SBD_CTL_CFG (c : Nat) : Nat := 0x20600040 + c * 0x10
/-- SBD_LOCK, table of 18_address_map.md. -/
def SBD_LOCK : Nat := 0x20600080
/-- SEC_n_CNT_TAG_OK, table of 06_read_verification.md. -/
def SEC_CNT_TAG_OK (n : Nat) : Nat := 0x2010004C + n * 0x1000
/-- SEC_n_CNT_TAG_FAIL, table of 06_read_verification.md. -/
def SEC_CNT_TAG_FAIL (n : Nat) : Nat := 0x20100050 + n * 0x1000
/-- SEC_n_CNT_UNCHECKED, table of 06_read_verification.md. -/
def SEC_CNT_UNCHECKED (n : Nat) : Nat := 0x20100054 + n * 0x1000
/-- SEC_n_CNT_SERVE_OVERRUN, table of 06_read_verification.md. -/
def SEC_CNT_SERVE_OVERRUN (n : Nat) : Nat := 0x20100058 + n * 0x1000
/-- SEC_n_CNT_DEPOT_MISS, table of 06_read_verification.md. -/
def SEC_CNT_DEPOT_MISS (n : Nat) : Nat := 0x2010005C + n * 0x1000
/-- SEC_n_CNT_FENCED, table of 08_update_recovery.md. -/
def SEC_CNT_FENCED (n : Nat) : Nat := 0x201000EC + n * 0x1000

end Sys2Proof.Machine.Reg
end

