-- ==== Sys2Proof/Machine/Sparse.lean ====
section
/-! DEFINITION. Sparse tables: a list of (key, value) pairs, keys strictly rising and no
entry equal to what an unlisted key reads as. Memories, register files and every indexed
group of units of the state are kept in this one canonical form. -/

namespace Sys2Proof.Machine

variable {α : Type}

/-- The value at `k`; `d k` where `k` is not listed. -/
def Sparse.get (d : Nat → α) : List (Nat × α) → Nat → α
  | [], k => d k
  | (j, v) :: l, k => if j = k then v else Sparse.get d l k

/-- The table without key `k`. -/
def Sparse.remove (l : List (Nat × α)) (k : Nat) : List (Nat × α) :=
  l.filter (fun p => !(p.1 == k))

/-- `(k, v)` put before the first larger key. -/
def Sparse.insert : List (Nat × α) → Nat → α → List (Nat × α)
  | [], k, v => [(k, v)]
  | (j, w) :: l, k, v => if k < j then (k, v) :: (j, w) :: l else (j, w) :: Sparse.insert l k v

/-- The table with `v` at `k`; a value equal to the default is not listed. -/
def Sparse.set [DecidableEq α] (d : Nat → α) (l : List (Nat × α)) (k : Nat) (v : α) :
    List (Nat × α) :=
  if v = d k then Sparse.remove l k else Sparse.insert (Sparse.remove l k) k v

/-- Keys strictly rising. -/
def Sparse.sorted : List (Nat × α) → Bool
  | [] => true
  | [_] => true
  | (a, _) :: (b, w) :: l => decide (a < b) && Sparse.sorted ((b, w) :: l)

/-- The canonical form: keys strictly rising, no entry equal to its default. -/
def Sparse.wf [DecidableEq α] (d : Nat → α) (l : List (Nat × α)) : Bool :=
  Sparse.sorted l && l.all (fun p => decide (p.2 ≠ d p.1))

end Sys2Proof.Machine
end

