-- ==== Sys2Proof/Machine/RegTable.lean ====
section
/-! DEFINITION. The register tables of spec/ as one table: for each register its address pattern, reset value, and the access code, log mark and view of each field (R7-R10, R416, R413). Bits that no field covers are Reserved and read 0 (R8). -/

namespace Sys2Proof.Machine

/-- The access codes of R7. The suffix +S does not change how a field is read or written. -/
inductive Acc where
  | ro | rw | rwl | rc | rs | w | wt
deriving DecidableEq, Repr

/-- The View column (R10): P privileged only, U both views, UI both views and writable unprivileged by the owner. -/
inductive View where
  | p | u | ui
deriving DecidableEq, Repr

/-- One field of a register: bits [hi:lo], access code, whether its changes are recorded (R9), and its view. -/
structure Field where
  hi : Nat
  lo : Nat
  acc : Acc
  log : Bool
  view : View
deriving DecidableEq, Repr

/-- One row of the register tables: the registers `base + i1 * stride1 + ...`, their reset value, whether the register is the low word of a 64-bit pair (R413), whether SBX_SNAP latches it (R416), and its fields. -/
structure RegRow where
  name : String
  base : Nat
  dims : List (Nat × Nat)
  reset : BitVec 32
  pairLow : Bool
  snap : Bool
  fields : List Field
deriving DecidableEq, Repr

/-- Register rows of the block at 0x2000_0000, part 0. -/
def rows2000_0 : List RegRow := [
  ⟨"SBX_MPU_w_BASE", 0x20000400, [(0x10, 16)], 0x0#32, false, false,
    [⟨31, 12, .rwl, true, .p⟩]⟩,
  ⟨"SBX_MPU_w_LIMIT", 0x20000404, [(0x10, 16)], 0x0#32, false, false,
    [⟨31, 12, .rwl, true, .p⟩]⟩,
  ⟨"SBX_MPU_w_ATTR", 0x20000408, [(0x10, 16)], 0x0#32, false, false,
    [⟨0, 0, .rwl, true, .p⟩, ⟨1, 1, .rwl, true, .p⟩, ⟨2, 2, .rwl, true, .p⟩, ⟨3, 3, .rwl, true, .p⟩, ⟨4, 4, .rs, true, .p⟩]⟩,
  ⟨"SBX_CORE_ID", 0x20000000, [], 0x0#32, false, false,
    [⟨0, 0, .ro, false, .p⟩]⟩,
  ⟨"SBX_REV", 0x20000004, [], 0x100#32, false, false,
    [⟨7, 0, .ro, false, .u⟩, ⟨15, 8, .ro, false, .u⟩]⟩,
  ⟨"SBX_SNAP", 0x20000100, [], 0x0#32, false, false,
    [⟨0, 0, .wt, false, .p⟩]⟩,
  ⟨"SBX_SNAP_SEQ", 0x20000104, [], 0x0#32, false, false,
    [⟨31, 0, .ro, false, .u⟩]⟩,
  ⟨"SBX_SNAP_PCC", 0x20000108, [], 0x0#32, false, false,
    [⟨31, 0, .ro, false, .u⟩]⟩,
  ⟨"SBX_SNAP_OT_LO", 0x2000010C, [], 0x0#32, false, false,
    [⟨31, 0, .ro, false, .u⟩]⟩,
  ⟨"SBX_SNAP_OT_HI", 0x20000110, [], 0x0#32, false, false,
    [⟨31, 0, .ro, false, .u⟩]⟩,
  ⟨"SBX_VIEW_DENY", 0x20000120, [], 0x0#32, false, true,
    [⟨31, 0, .ro, false, .u⟩]⟩]

/-- Register rows of the block at 0x2001_0000, part 0. -/
def rows2001_0 : List RegRow := [
  ⟨"ILK_CTL", 0x20010000, [], 0x64#32, false, false,
    [⟨9, 0, .rw, true, .p⟩]⟩,
  ⟨"ILK_STAT", 0x20010004, [], 0x0#32, false, false,
    [⟨5, 0, .ro, false, .u⟩, ⟨8, 8, .ro, false, .u⟩, ⟨9, 9, .ro, false, .u⟩, ⟨10, 10, .rc, false, .u⟩, ⟨11, 11, .rc, false, .u⟩]⟩,
  ⟨"ILK_ARM", 0x20010008, [], 0x0#32, false, false,
    [⟨3, 0, .rc, true, .p⟩]⟩,
  ⟨"ILK_SEQ", 0x2001000C, [], 0x0#32, false, false,
    [⟨31, 0, .ro, false, .u⟩]⟩,
  ⟨"ILK_ABORT_COUNT", 0x20010010, [], 0x0#32, false, false,
    [⟨31, 0, .ro, false, .u⟩]⟩,
  ⟨"ILK_VOTE_FAIL_COUNT", 0x20010014, [], 0x0#32, false, false,
    [⟨31, 0, .ro, false, .u⟩]⟩,
  ⟨"ILK_LAST_DIGEST_k", 0x20010040, [(0x4, 12)], 0x0#32, false, false,
    [⟨31, 0, .ro, false, .u⟩]⟩,
  ⟨"ILK_H_h_STAT", 0x20010100, [(0x10, 6)], 0x0#32, false, false,
    [⟨2, 0, .ro, false, .p⟩, ⟨4, 4, .ro, false, .p⟩, ⟨5, 5, .ro, false, .p⟩, ⟨6, 6, .ro, false, .p⟩, ⟨15, 8, .ro, false, .p⟩]⟩,
  ⟨"ILK_H_h_INFO", 0x20010104, [(0x10, 6)], 0x1FF0000#32, false, false,
    [⟨8, 0, .ro, false, .p⟩, ⟨24, 16, .ro, false, .p⟩]⟩]

/-- Register rows of the block at 0x2002_0000, part 0. -/
def rows2002_0 : List RegRow := [
  ⟨"RTB_REC_c_k", 0x20020000, [(0x100, 64), (0x4, 48)], 0x0#32, false, false,
    [⟨31, 0, .ro, false, .u⟩]⟩,
  ⟨"RTB_MINVER_i", 0x20024000, [(0x4, 3)], 0x0#32, false, false,
    [⟨31, 0, .ro, false, .u⟩]⟩,
  ⟨"RTB_UNREAD_LO", 0x20024010, [], 0x0#32, false, false,
    [⟨31, 0, .ro, false, .u⟩]⟩,
  ⟨"RTB_UNREAD_HI", 0x20024014, [], 0x0#32, false, false,
    [⟨31, 0, .ro, false, .u⟩]⟩,
  ⟨"RTB_STAT", 0x20024018, [], 0x0#32, false, false,
    [⟨0, 0, .ro, false, .u⟩, ⟨1, 1, .ro, false, .u⟩]⟩,
  ⟨"RTB_COMP_c", 0x20025000, [(0x4, 64)], 0x30#32, false, false,
    [⟨3, 0, .rw, true, .u⟩, ⟨5, 4, .rw, true, .u⟩, ⟨11, 8, .rw, false, .u⟩]⟩,
  ⟨"RTB_UPD_CTL", 0x20026000, [], 0xA#32, false, false,
    [⟨15, 0, .rw, true, .p⟩]⟩,
  ⟨"RTB_UPD_STAT", 0x20026004, [], 0x0#32, false, false,
    [⟨5, 0, .rw, true, .u⟩, ⟨6, 6, .rw, true, .u⟩, ⟨7, 7, .rw, true, .u⟩, ⟨10, 8, .rw, true, .u⟩]⟩,
  ⟨"RTB_TRIAL_LO", 0x20026010, [], 0x0#32, false, false,
    [⟨31, 0, .ro, false, .u⟩]⟩,
  ⟨"RTB_TRIAL_HI", 0x20026014, [], 0x0#32, false, false,
    [⟨31, 0, .ro, false, .u⟩]⟩,
  ⟨"RTB_SIDING_LO", 0x20026018, [], 0x0#32, false, false,
    [⟨31, 0, .ro, false, .u⟩]⟩,
  ⟨"RTB_SIDING_HI", 0x2002601C, [], 0x0#32, false, false,
    [⟨31, 0, .ro, false, .u⟩]⟩,
  ⟨"RTB_RCV_STAT", 0x20026020, [], 0x0#32, false, false,
    [⟨5, 0, .rw, true, .u⟩, ⟨6, 6, .rw, true, .u⟩, ⟨9, 8, .rw, true, .u⟩, ⟨10, 10, .rw, true, .u⟩, ⟨23, 16, .rw, true, .u⟩]⟩,
  ⟨"RTB_RCV_PAGES", 0x20026024, [], 0x0#32, false, false,
    [⟨31, 0, .rw, false, .u⟩]⟩,
  ⟨"RTB_HND_STAT", 0x20026030, [], 0x0#32, false, false,
    [⟨3, 0, .rw, true, .u⟩, ⟨7, 4, .rw, true, .u⟩, ⟨31, 16, .rw, false, .u⟩]⟩,
  ⟨"RTB_FAILOVER", 0x20026034, [], 0x0#32, false, false,
    [⟨3, 0, .ro, false, .u⟩, ⟨7, 4, .ro, false, .u⟩, ⟨8, 8, .ro, false, .u⟩, ⟨31, 16, .ro, false, .u⟩]⟩]

/-- Register rows of the block at 0x2003_0000, part 0. -/
def rows2003_0 : List RegRow := [
  ⟨"EXM_STAT", 0x20030000, [], 0x0#32, false, false,
    [⟨0, 0, .rc, false, .u⟩]⟩,
  ⟨"EXM_FLAG_FAULT_COUNT", 0x20030004, [], 0x0#32, false, true,
    [⟨31, 0, .ro, false, .u⟩]⟩,
  ⟨"EXM_LANE_l_SUBMIT", 0x20031000, [(0x100, 34)], 0x0#32, false, false,
    [⟨31, 6, .wt, false, .p⟩]⟩,
  ⟨"EXM_LANE_l_ABORT", 0x20031004, [(0x100, 34)], 0x0#32, false, false,
    [⟨0, 0, .wt, false, .p⟩, ⟨1, 1, .wt, false, .p⟩]⟩,
  ⟨"EXM_LANE_l_END", 0x20031008, [(0x100, 34)], 0x0#32, false, false,
    [⟨0, 0, .wt, false, .p⟩]⟩,
  ⟨"EXM_LANE_l_STAT", 0x2003100C, [(0x100, 34)], 0x0#32, false, false,
    [⟨0, 0, .ro, false, .u⟩, ⟨3, 1, .ro, false, .u⟩, ⟨5, 4, .ro, false, .u⟩, ⟨6, 6, .ro, false, .u⟩, ⟨7, 7, .ro, false, .u⟩, ⟨8, 8, .ro, false, .u⟩, ⟨9, 9, .ro, false, .u⟩, ⟨23, 16, .ro, false, .u⟩, ⟨31, 24, .ro, false, .u⟩]⟩,
  ⟨"EXM_LANE_l_COUNT_LO", 0x20031010, [(0x100, 34)], 0x0#32, true, false,
    [⟨31, 0, .ro, false, .u⟩]⟩,
  ⟨"EXM_LANE_l_COUNT_HI", 0x20031014, [(0x100, 34)], 0x0#32, false, false,
    [⟨31, 0, .ro, false, .u⟩]⟩,
  ⟨"EXM_LANE_l_BUSY_COUNT", 0x20031018, [(0x100, 34)], 0x0#32, false, true,
    [⟨31, 0, .ro, false, .u⟩]⟩,
  ⟨"EXM_LANE_l_RES_k", 0x20031040, [(0x100, 34), (0x4, 16)], 0x0#32, false, false,
    [⟨31, 0, .ro, false, .u⟩]⟩,
  ⟨"SIG_SUBMIT", 0x20038000, [], 0x0#32, false, false,
    [⟨31, 6, .wt, false, .p⟩]⟩,
  ⟨"SIG_STAT", 0x20038004, [], 0x0#32, false, false,
    [⟨3, 0, .ro, false, .u⟩, ⟨7, 4, .ro, false, .u⟩, ⟨8, 8, .ro, false, .u⟩, ⟨9, 9, .ro, false, .u⟩, ⟨10, 10, .ro, false, .u⟩, ⟨11, 11, .ro, false, .u⟩]⟩,
  ⟨"SIG_EXHAUSTED", 0x2003800C, [], 0x0#32, false, true,
    [⟨31, 0, .ro, false, .u⟩]⟩,
  ⟨"SIG_ABORT", 0x20038010, [], 0x0#32, false, false,
    [⟨0, 0, .wt, false, .p⟩]⟩,
  ⟨"SIG_KEY_s_INFO", 0x20038100, [(0x4, 16)], 0x0#32, false, false,
    [⟨2, 0, .ro, false, .u⟩, ⟨3, 3, .ro, false, .u⟩]⟩]

/-- Register rows of the block at 0x2004_0000, part 0. -/
def rows2004_0 : List RegRow := [
  ⟨"MBX_n_DATA_k", 0x20040000, [(0x100, 64), (0x4, 16)], 0x0#32, false, false,
    [⟨31, 0, .rw, false, .ui⟩]⟩,
  ⟨"MBX_n_CTL", 0x20040040, [(0x100, 64)], 0x0#32, false, false,
    [⟨0, 0, .rs, false, .ui⟩, ⟨12, 8, .rw, false, .ui⟩, ⟨31, 16, .ro, false, .ui⟩]⟩,
  ⟨"MBX_n_DONE", 0x20040044, [(0x100, 64)], 0x0#32, false, false,
    [⟨0, 0, .wt, false, .ui⟩]⟩,
  ⟨"MBX_n_STAT", 0x20040048, [(0x100, 64)], 0x0#32, false, false,
    [⟨0, 0, .ro, false, .u⟩, ⟨1, 1, .rc, false, .u⟩, ⟨2, 2, .rc, false, .u⟩, ⟨3, 3, .rc, false, .u⟩, ⟨4, 4, .ro, false, .u⟩, ⟨5, 5, .ro, false, .u⟩]⟩,
  ⟨"MBX_n_WMASK", 0x2004004C, [(0x100, 64)], 0x0#32, false, false,
    [⟨15, 0, .ro, false, .u⟩]⟩,
  ⟨"MBX_n_EPOCH", 0x20040050, [(0x100, 64)], 0x0#32, false, false,
    [⟨15, 0, .ro, false, .u⟩, ⟨31, 16, .ro, false, .u⟩]⟩,
  ⟨"MBX_n_BIND (channel 0)", 0x20040054, [(0x100, 1)], 0x1FE8#32, false, false,
    [⟨31, 0, .ro, true, .u⟩]⟩,
  ⟨"MBX_n_BIND (channel 1)", 0x20040154, [(0x100, 1)], 0x1A3F#32, false, false,
    [⟨31, 0, .ro, true, .u⟩]⟩,
  ⟨"MBX_n_BIND (channel 2)", 0x20040254, [(0x100, 1)], 0x1FE9#32, false, false,
    [⟨31, 0, .ro, true, .u⟩]⟩,
  ⟨"MBX_n_BIND (channel 3)", 0x20040354, [(0x100, 1)], 0x1A7F#32, false, false,
    [⟨31, 0, .ro, true, .u⟩]⟩,
  ⟨"MBX_n_BIND (channel 4)", 0x20040454, [(0x100, 1)], 0x1FEA#32, false, false,
    [⟨31, 0, .ro, true, .u⟩]⟩,
  ⟨"MBX_n_BIND (channel 5)", 0x20040554, [(0x100, 1)], 0x1ABF#32, false, false,
    [⟨31, 0, .ro, true, .u⟩]⟩,
  ⟨"MBX_n_BIND (channel 6)", 0x20040654, [(0x100, 1)], 0x1FEB#32, false, false,
    [⟨31, 0, .ro, true, .u⟩]⟩,
  ⟨"MBX_n_BIND (channel 7)", 0x20040754, [(0x100, 1)], 0x1AFF#32, false, false,
    [⟨31, 0, .ro, true, .u⟩]⟩,
  ⟨"MBX_n_BIND (channel 8)", 0x20040854, [(0x100, 1)], 0x3A3F#32, false, false,
    [⟨31, 0, .ro, true, .u⟩]⟩,
  ⟨"MBX_n_BIND (channel 9)", 0x20040954, [(0x100, 1)], 0x3A7F#32, false, false,
    [⟨31, 0, .ro, true, .u⟩]⟩,
  ⟨"MBX_n_BIND (channels 10-63)", 0x20040A54, [(0x100, 54)], 0x0#32, false, false,
    [⟨31, 0, .ro, true, .u⟩]⟩,
  ⟨"MBX_n_CNT_POSTED", 0x20040058, [(0x100, 64)], 0x0#32, false, true,
    [⟨31, 0, .ro, false, .u⟩]⟩,
  ⟨"MBX_n_CNT_REJECT", 0x2004005C, [(0x100, 64)], 0x0#32, false, true,
    [⟨31, 0, .ro, false, .u⟩]⟩,
  ⟨"MBX_n_CNT_BAD", 0x20040060, [(0x100, 64)], 0x0#32, false, true,
    [⟨31, 0, .ro, false, .u⟩]⟩,
  ⟨"MBX_LOCK", 0x20044000, [], 0x0#32, false, false,
    [⟨0, 0, .rs, true, .p⟩]⟩,
  ⟨"MBX_POST_LO", 0x20044010, [], 0x0#32, false, false,
    [⟨31, 0, .rc, false, .p⟩]⟩,
  ⟨"MBX_POST_HI", 0x20044014, [], 0x0#32, false, false,
    [⟨31, 0, .rc, false, .p⟩]⟩,
  ⟨"MBX_DONE_LO", 0x20044018, [], 0x0#32, false, false,
    [⟨31, 0, .rc, false, .p⟩]⟩,
  ⟨"MBX_DONE_HI", 0x2004401C, [], 0x0#32, false, false,
    [⟨31, 0, .rc, false, .p⟩]⟩,
  ⟨"MBX_AGT_a_PEND_LO", 0x20044100, [(0x10, 4)], 0x0#32, false, false,
    [⟨31, 0, .rc, false, .ui⟩]⟩,
  ⟨"MBX_AGT_a_PEND_HI", 0x20044104, [(0x10, 4)], 0x0#32, false, false,
    [⟨31, 0, .rc, false, .ui⟩]⟩,
  ⟨"MBX_AGT_a_RESET", 0x20044108, [(0x10, 4)], 0x0#32, false, false,
    [⟨0, 0, .wt, false, .ui⟩]⟩]

/-- Register rows of the block at 0x2005_0000, part 0. -/
def rows2005_0 : List RegRow := [
  ⟨"TMP_CTL", 0x20050000, [], 0x0#32, false, false,
    [⟨0, 0, .rs, true, .p⟩]⟩,
  ⟨"TMP_STAT", 0x20050004, [], 0x10#32, false, false,
    [⟨0, 0, .ro, true, .u⟩, ⟨1, 1, .ro, false, .u⟩, ⟨2, 2, .ro, false, .u⟩, ⟨3, 3, .ro, false, .u⟩, ⟨4, 4, .ro, false, .u⟩, ⟨5, 5, .ro, false, .u⟩, ⟨6, 6, .ro, false, .u⟩]⟩,
  ⟨"TMP_ALARM", 0x20050008, [], 0x0#32, false, false,
    [⟨14, 0, .rc, false, .u⟩]⟩,
  ⟨"TMP_ACTIVE", 0x2005000C, [], 0x0#32, false, false,
    [⟨29, 0, .ro, false, .u⟩]⟩,
  ⟨"TMP_FUSED", 0x20050010, [], 0x0#32, false, false,
    [⟨31, 0, .ro, false, .u⟩]⟩,
  ⟨"TMP_EVIDENCE", 0x20050014, [], 0x0#32, false, false,
    [⟨10, 0, .ro, false, .u⟩]⟩,
  ⟨"TMP_VBAT_TICK_LO", 0x20050018, [], 0x0#32, true, false,
    [⟨31, 0, .ro, false, .u⟩]⟩,
  ⟨"TMP_VBAT_TICK_HI", 0x2005001C, [], 0x0#32, false, false,
    [⟨31, 0, .ro, false, .u⟩]⟩,
  ⟨"TMP_TEMP_LIM", 0x20050020, [], 0x69F6#32, false, false,
    [⟨7, 0, .rwl, true, .p⟩, ⟨15, 8, .rwl, true, .p⟩]⟩,
  ⟨"TMP_CELL_WIN", 0x20050024, [], 0x258#32, false, false,
    [⟨11, 0, .rw, true, .p⟩]⟩,
  ⟨"TMP_VLATCH_STAT", 0x20050028, [], 0x0#32, false, false,
    [⟨4, 0, .ro, false, .u⟩, ⟨15, 8, .ro, false, .u⟩]⟩,
  ⟨"TMP_SRC_s_CFG (s = 0-4)", 0x20050100, [(0x8, 5)], 0x100B1#32, false, false,
    [⟨3, 0, .rwl, true, .p⟩, ⟨4, 4, .rwl, true, .p⟩, ⟨5, 5, .rwl, true, .p⟩, ⟨6, 6, .rwl, true, .p⟩, ⟨7, 7, .rwl, true, .p⟩, ⟨31, 16, .rwl, true, .p⟩]⟩,
  ⟨"TMP_SRC_s_CFG (s = 5-12, EXT)", 0x20050128, [(0x8, 8)], 0x10031#32, false, false,
    [⟨3, 0, .rwl, true, .p⟩, ⟨4, 4, .rwl, true, .p⟩, ⟨5, 5, .rwl, true, .p⟩, ⟨6, 6, .rwl, true, .p⟩, ⟨7, 7, .rwl, true, .p⟩, ⟨31, 16, .rwl, true, .p⟩]⟩,
  ⟨"TMP_SRC_s_CFG (s = 13-14)", 0x20050168, [(0x8, 2)], 0x100B1#32, false, false,
    [⟨3, 0, .rwl, true, .p⟩, ⟨4, 4, .rwl, true, .p⟩, ⟨5, 5, .rwl, true, .p⟩, ⟨6, 6, .rwl, true, .p⟩, ⟨7, 7, .rwl, true, .p⟩, ⟨31, 16, .rwl, true, .p⟩]⟩,
  ⟨"TMP_SRC_s_CNT", 0x20050104, [(0x8, 15)], 0x0#32, false, true,
    [⟨31, 0, .ro, false, .u⟩]⟩,
  ⟨"TMP_EXT_e_CFG", 0x20050200, [(0x4, 8)], 0x2#32, false, false,
    [⟨0, 0, .rwl, true, .p⟩, ⟨1, 1, .rwl, true, .p⟩]⟩,
  ⟨"TMP_VLATCH_i_LO", 0x20050300, [(0x8, 16)], 0x0#32, true, false,
    [⟨3, 0, .ro, false, .u⟩, ⟨5, 4, .ro, false, .u⟩, ⟨31, 16, .ro, false, .u⟩]⟩,
  ⟨"TMP_VLATCH_i_HI", 0x20050304, [(0x8, 16)], 0x0#32, false, false,
    [⟨31, 0, .ro, false, .u⟩]⟩]

/-- Register rows of the block at 0x2006_0000, part 0. -/
def rows2006_0 : List RegRow := [
  ⟨"EVR_CTL", 0x20060000, [], 0x7#32, false, false,
    [⟨0, 0, .rw, true, .p⟩, ⟨1, 1, .rw, true, .p⟩, ⟨2, 2, .rw, true, .p⟩]⟩,
  ⟨"EVR_STAT", 0x20060004, [], 0x0#32, false, false,
    [⟨9, 0, .ro, false, .u⟩, ⟨10, 10, .ro, false, .u⟩, ⟨11, 11, .ro, false, .u⟩, ⟨12, 12, .ro, false, .u⟩, ⟨13, 13, .ro, false, .u⟩, ⟨14, 14, .ro, false, .u⟩, ⟨15, 15, .ro, false, .u⟩]⟩,
  ⟨"EVR_SEQ_NEXT", 0x20060008, [], 0x1#32, false, false,
    [⟨31, 0, .ro, false, .u⟩]⟩,
  ⟨"EVR_OLDEST", 0x2006000C, [], 0x0#32, false, false,
    [⟨31, 0, .ro, false, .u⟩]⟩,
  ⟨"EVR_LIVE", 0x20060010, [], 0x0#32, false, false,
    [⟨31, 0, .ro, false, .u⟩]⟩,
  ⟨"EVR_DROPPED_n", 0x20060020, [(0x4, 4)], 0x0#32, false, true,
    [⟨31, 0, .ro, false, .u⟩]⟩,
  ⟨"EVR_REPLACED_n", 0x20060030, [(0x4, 4)], 0x0#32, false, true,
    [⟨31, 0, .ro, false, .u⟩]⟩,
  ⟨"EVR_BEHALF", 0x20060040, [], 0x0#32, false, false,
    [⟨5, 0, .rw, false, .p⟩, ⟨7, 7, .rw, false, .p⟩, ⟨31, 16, .rw, false, .p⟩]⟩,
  ⟨"EVR_INT", 0x20060044, [], 0x0#32, false, false,
    [⟨0, 0, .rc, false, .p⟩, ⟨1, 1, .rc, false, .p⟩, ⟨2, 2, .rc, false, .p⟩]⟩,
  ⟨"EVR_CURSOR", 0x20060100, [], 0x0#32, false, false,
    [⟨31, 0, .rw, false, .p⟩]⟩,
  ⟨"EVR_WINDOW_SEQ", 0x20060104, [], 0x0#32, false, false,
    [⟨31, 0, .ro, false, .p⟩]⟩,
  ⟨"EVR_WINDOW_k", 0x20060140, [(0x4, 16)], 0x0#32, false, false,
    [⟨31, 0, .ro, false, .p⟩]⟩,
  ⟨"EVR_AGT_a_CURSOR", 0x20060200, [(0x80, 4)], 0x0#32, false, false,
    [⟨31, 0, .rw, false, .ui⟩]⟩,
  ⟨"EVR_AGT_a_WINDOW_SEQ", 0x20060204, [(0x80, 4)], 0x0#32, false, false,
    [⟨31, 0, .ro, false, .u⟩]⟩,
  ⟨"EVR_AGT_a_WINDOW_k", 0x20060240, [(0x80, 4), (0x4, 16)], 0x0#32, false, false,
    [⟨31, 0, .ro, false, .u⟩]⟩]

/-- Register rows of the block at 0x2007_0000, part 0. -/
def rows2007_0 : List RegRow := [
  ⟨"LCS_STATE", 0x20070000, [], 0xF00#32, false, false,
    [⟨3, 0, .ro, true, .u⟩, ⟨6, 4, .ro, true, .u⟩, ⟨9, 8, .ro, true, .u⟩, ⟨10, 10, .ro, false, .u⟩, ⟨11, 11, .ro, false, .u⟩]⟩,
  ⟨"LCS_COPY_k_LO", 0x20070010, [(0x8, 3)], 0xFFFFFFFF#32, true, false,
    [⟨31, 0, .ro, false, .u⟩]⟩,
  ⟨"LCS_COPY_k_HI", 0x20070014, [(0x8, 3)], 0xFFFFFFFF#32, false, false,
    [⟨31, 0, .ro, false, .u⟩]⟩,
  ⟨"LCS_OTP_KEYS", 0x20070030, [], 0x0#32, false, false,
    [⟨3, 0, .ro, false, .u⟩, ⟨7, 4, .ro, false, .u⟩, ⟨11, 8, .ro, false, .u⟩, ⟨12, 12, .ro, false, .u⟩]⟩,
  ⟨"LCS_SERIAL_k", 0x20070040, [(0x4, 4)], 0xFFFFFFFF#32, false, false,
    [⟨31, 0, .ro, false, .u⟩]⟩,
  ⟨"LCS_STAFF_COUNT", 0x20070050, [], 0x0#32, false, false,
    [⟨31, 0, .ro, false, .u⟩]⟩,
  ⟨"LCS_TICKET_t", 0x20070060, [(0x8, 4)], 0x0#32, false, false,
    [⟨31, 0, .ro, false, .p⟩]⟩,
  ⟨"LCS_TICKET_t_INFO", 0x20070064, [(0x8, 4)], 0x0#32, false, false,
    [⟨5, 0, .ro, false, .p⟩, ⟨11, 6, .ro, false, .p⟩, ⟨12, 12, .ro, false, .p⟩]⟩,
  ⟨"LCS_NONCE_STAT", 0x20070080, [], 0x0#32, false, false,
    [⟨0, 0, .ro, false, .u⟩]⟩,
  ⟨"LCS_WIPE_STAT", 0x20070084, [], 0x0#32, false, false,
    [⟨12, 0, .ro, false, .u⟩, ⟨13, 13, .ro, false, .u⟩]⟩,
  ⟨"MTM_KEY", 0x20078000, [], 0x0#32, false, false,
    [⟨31, 0, .w, false, .p⟩]⟩,
  ⟨"MTM_CTL", 0x20078004, [], 0x0#32, false, false,
    [⟨3, 0, .rw, true, .p⟩, ⟨11, 4, .rw, true, .p⟩, ⟨31, 31, .wt, false, .p⟩]⟩,
  ⟨"MTM_ADDR", 0x20078008, [], 0x0#32, false, false,
    [⟨31, 0, .rw, false, .p⟩]⟩,
  ⟨"MTM_STAT", 0x2007800C, [], 0x0#32, false, false,
    [⟨0, 0, .ro, false, .p⟩, ⟨1, 1, .rc, false, .p⟩, ⟨2, 2, .rc, false, .p⟩, ⟨3, 3, .rc, false, .p⟩]⟩,
  ⟨"MTM_FAIL_ADDR", 0x20078010, [], 0x0#32, false, false,
    [⟨31, 0, .ro, false, .p⟩]⟩]

/-- Register rows of the block at 0x2008_0000, part 0. -/
def rows2008_0 : List RegRow := [
  ⟨"PWR_MODE", 0x20080000, [], 0x402#32, false, false,
    [⟨2, 0, .ro, false, .u⟩, ⟨15, 8, .ro, false, .u⟩]⟩,
  ⟨"PWR_STAT", 0x20080004, [], 0x10#32, false, false,
    [⟨0, 0, .ro, false, .u⟩, ⟨1, 1, .ro, false, .u⟩, ⟨2, 2, .ro, false, .u⟩, ⟨3, 3, .ro, true, .u⟩, ⟨4, 4, .ro, false, .u⟩]⟩,
  ⟨"PWR_WAKE_EN", 0x20080010, [], 0x7F#32, false, false,
    [⟨6, 0, .rw, true, .p⟩]⟩,
  ⟨"PWR_WAKE_CAUSE", 0x20080014, [], 0x0#32, false, false,
    [⟨6, 0, .rc, false, .u⟩]⟩,
  ⟨"PWR_WAKE_VEC_c", 0x20080018, [(0x4, 2)], 0x0#32, false, false,
    [⟨31, 2, .rw, true, .p⟩]⟩,
  ⟨"PWR_RET_CFG", 0x20080020, [], 0x0#32, false, false,
    [⟨0, 0, .rw, true, .p⟩, ⟨31, 16, .rw, true, .p⟩]⟩,
  ⟨"PWR_RET_LOST", 0x20080024, [], 0x0#32, false, false,
    [⟨11, 0, .rc, false, .u⟩, ⟨15, 12, .rc, false, .u⟩, ⟨31, 16, .rc, false, .u⟩]⟩,
  ⟨"PWR_CLK_CTL", 0x20080030, [], 0x10#32, false, false,
    [⟨4, 0, .rw, true, .p⟩, ⟨5, 5, .rw, true, .p⟩, ⟨6, 6, .rw, true, .p⟩, ⟨7, 7, .rw, true, .p⟩]⟩,
  ⟨"PWR_CLK_STAT", 0x20080034, [], 0x10#32, false, false,
    [⟨0, 0, .ro, false, .u⟩, ⟨1, 1, .ro, false, .u⟩, ⟨2, 2, .ro, false, .u⟩, ⟨3, 3, .ro, false, .u⟩, ⟨4, 4, .ro, false, .u⟩]⟩,
  ⟨"PWR_YARD_y_OP", 0x20080100, [(0x4, 16)], 0x15#32, false, false,
    [⟨1, 0, .rw, true, .p⟩, ⟨3, 2, .rw, true, .p⟩, ⟨4, 4, .ro, false, .u⟩, ⟨5, 5, .rc, false, .u⟩]⟩,
  ⟨"PWR_VOTE_d (d = 1, SBOX)", 0x20081020, [], 0x1#32, false, false,
    [⟨31, 0, .ro, false, .u⟩]⟩,
  ⟨"PWR_VOTE_d (d = 2-24)", 0x20081040, [(0x20, 23)], 0x0#32, false, false,
    [⟨31, 0, .ro, false, .u⟩]⟩,
  ⟨"PWR_DOM_d_CFG", 0x20081024, [(0x20, 24)], 0x0#32, false, false,
    [⟨1, 0, .rw, true, .p⟩, ⟨2, 2, .wt, false, .p⟩]⟩,
  ⟨"PWR_DOM_d_STAT (d = 1, SBOX)", 0x20081028, [], 0x0#32, false, false,
    [⟨1, 0, .ro, false, .u⟩, ⟨3, 2, .ro, false, .u⟩, ⟨4, 4, .ro, false, .u⟩]⟩,
  ⟨"PWR_DOM_d_STAT (d = 2-24)", 0x20081048, [(0x20, 23)], 0x3#32, false, false,
    [⟨1, 0, .ro, false, .u⟩, ⟨3, 2, .ro, false, .u⟩, ⟨4, 4, .ro, false, .u⟩]⟩,
  ⟨"PWR_REFUSE_COUNT_d", 0x2008102C, [(0x20, 24)], 0x0#32, false, true,
    [⟨31, 0, .ro, false, .u⟩]⟩,
  ⟨"PWR_LAST_REFUSER_d", 0x20081030, [(0x20, 24)], 0x0#32, false, false,
    [⟨7, 0, .ro, false, .u⟩, ⟨8, 8, .ro, false, .u⟩]⟩,
  ⟨"PWR_ABORT_COUNT_d", 0x20081034, [(0x20, 24)], 0x0#32, false, true,
    [⟨31, 0, .ro, false, .u⟩]⟩,
  ⟨"PWR_BOUNCE_COUNT_d", 0x20081038, [(0x20, 24)], 0x0#32, false, true,
    [⟨31, 0, .ro, false, .u⟩]⟩]

/-- Register rows of the block at 0x2009_0000, part 0. -/
def rows2009_0 : List RegRow := [
  ⟨"HLD_STATE_g", 0x20090000, [(0x4, 3)], 0xFFFFFFFF#32, false, false,
    [⟨31, 0, .ro, true, .u⟩]⟩,
  ⟨"HLD_PAD_g", 0x20090010, [(0x4, 3)], 0xFFFFFFFF#32, false, false,
    [⟨31, 0, .ro, false, .u⟩]⟩,
  ⟨"HLD_REPORT_g", 0x20090020, [(0x4, 3)], 0x0#32, false, false,
    [⟨31, 0, .ro, false, .u⟩]⟩,
  ⟨"HLD_RPT_CHG_g", 0x20090030, [(0x4, 3)], 0x0#32, false, false,
    [⟨31, 0, .rc, false, .p⟩]⟩,
  ⟨"HLD_STAT", 0x20090040, [], 0x0#32, false, false,
    [⟨0, 0, .ro, false, .u⟩, ⟨1, 1, .ro, false, .u⟩]⟩,
  ⟨"HLD_FILTER", 0x20090044, [], 0xA#32, false, false,
    [⟨7, 0, .rwl, true, .p⟩]⟩,
  ⟨"HLD_LOCK", 0x20090048, [], 0x0#32, false, false,
    [⟨0, 0, .rs, true, .p⟩]⟩,
  ⟨"HLD_LCFG_l", 0x20090100, [(0x4, 96)], 0x0#32, false, false,
    [⟨0, 0, .rwl, true, .p⟩, ⟨1, 1, .rwl, true, .p⟩, ⟨2, 2, .rwl, true, .p⟩, ⟨8, 8, .rwl, true, .p⟩, ⟨9, 9, .rwl, true, .p⟩]⟩]

/-- Register rows of the block at 0x200A_0000, part 0. -/
def rows200A_0 : List RegRow := [
  ⟨"NVC_ADDR", 0x200A0000, [], 0x0#32, false, false,
    [⟨23, 0, .rw, false, .p⟩]⟩,
  ⟨"NVC_SRC", 0x200A0004, [], 0x0#32, false, false,
    [⟨31, 3, .rw, false, .p⟩]⟩,
  ⟨"NVC_LEN", 0x200A0008, [], 0x0#32, false, false,
    [⟨11, 0, .rw, false, .p⟩]⟩,
  ⟨"NVC_CTL", 0x200A000C, [], 0x0#32, false, false,
    [⟨1, 0, .rw, false, .p⟩, ⟨31, 31, .wt, false, .p⟩]⟩,
  ⟨"NVC_STAT", 0x200A0010, [], 0x0#32, false, false,
    [⟨0, 0, .ro, false, .u⟩, ⟨1, 1, .rc, false, .u⟩, ⟨2, 2, .rc, false, .u⟩, ⟨5, 3, .ro, false, .u⟩]⟩,
  ⟨"NVC_LOCK", 0x200A0014, [], 0x0#32, false, false,
    [⟨0, 0, .rs, true, .p⟩, ⟨1, 1, .rs, true, .p⟩]⟩]

/-- Register rows of the block at 0x200B_0000, part 0. -/
def rows200B_0 : List RegRow := [
  ⟨"OTP_VKEY_i_k", 0x200B0000, [(0x40, 4), (0x4, 12)], 0xFFFFFFFF#32, false, false,
    [⟨31, 0, .ro, false, .u⟩]⟩,
  ⟨"OTP_OKEY_i_k", 0x200B0100, [(0x40, 4), (0x4, 12)], 0xFFFFFFFF#32, false, false,
    [⟨31, 0, .ro, false, .u⟩]⟩]

/-- Register rows of the block at 0x2010_0000, part 0. -/
def rows2010_0 : List RegRow := [
  ⟨"SEC_n_CTL", 0x20100000, [(0x1000, 34)], 0x0#32, false, false,
    [⟨1, 0, .ro, true, .u⟩]⟩,
  ⟨"SEC_n_CFG", 0x20100004, [(0x1000, 34)], 0x0#32, false, false,
    [⟨0, 0, .rw, true, .p⟩]⟩,
  ⟨"SEC_n_PORT_STAT", 0x20100008, [(0x1000, 34)], 0x0#32, false, false,
    [⟨1, 0, .ro, false, .u⟩, ⟨3, 2, .ro, false, .u⟩, ⟨4, 4, .ro, false, .u⟩, ⟨5, 5, .ro, false, .u⟩, ⟨6, 6, .ro, false, .u⟩, ⟨7, 7, .ro, false, .u⟩, ⟨8, 8, .ro, false, .u⟩, ⟨9, 9, .ro, false, .u⟩, ⟨10, 10, .rc, false, .u⟩]⟩,
  ⟨"SEC_n_FRAME", 0x2010000C, [(0x1000, 34)], 0x0#32, false, false,
    [⟨7, 0, .ro, false, .u⟩, ⟨10, 8, .ro, false, .u⟩, ⟨14, 11, .ro, false, .u⟩, ⟨15, 15, .ro, false, .u⟩]⟩,
  ⟨"SEC_n_FRAME_ADDR", 0x20100010, [(0x1000, 34)], 0x0#32, false, false,
    [⟨31, 0, .ro, false, .u⟩]⟩,
  ⟨"SEC_n_CNT_FRAMES", 0x20100020, [(0x1000, 34)], 0x0#32, false, true,
    [⟨31, 0, .ro, false, .u⟩]⟩,
  ⟨"SEC_n_CNT_VOID", 0x20100024, [(0x1000, 34)], 0x0#32, false, true,
    [⟨31, 0, .ro, false, .u⟩]⟩,
  ⟨"SEC_n_CNT_TORN_WRITE", 0x20100028, [(0x1000, 34)], 0x0#32, false, true,
    [⟨31, 0, .ro, false, .u⟩]⟩,
  ⟨"SEC_n_CNT_TORN_READ", 0x2010002C, [(0x1000, 34)], 0x0#32, false, true,
    [⟨31, 0, .ro, false, .u⟩]⟩,
  ⟨"SEC_n_CNT_ABANDONED", 0x20100030, [(0x1000, 34)], 0x0#32, false, true,
    [⟨31, 0, .ro, false, .u⟩]⟩,
  ⟨"SEC_n_CNT_INTRUSION", 0x20100034, [(0x1000, 34)], 0x0#32, false, true,
    [⟨31, 0, .ro, false, .u⟩]⟩,
  ⟨"SEC_n_CNT_UNKNOWN", 0x20100038, [(0x1000, 34)], 0x0#32, false, true,
    [⟨31, 0, .ro, false, .u⟩]⟩,
  ⟨"SEC_n_CNT_LATE", 0x2010003C, [(0x1000, 34)], 0x0#32, false, true,
    [⟨31, 0, .ro, false, .u⟩]⟩,
  ⟨"SEC_n_CNT_CONFLICT", 0x20100040, [(0x1000, 34)], 0x0#32, false, true,
    [⟨31, 0, .ro, false, .u⟩]⟩,
  ⟨"SEC_n_CNT_PREEMPT", 0x20100044, [(0x1000, 34)], 0x0#32, false, true,
    [⟨31, 0, .ro, false, .u⟩]⟩,
  ⟨"SEC_n_CNT_ISOLATED", 0x20100048, [(0x1000, 34)], 0x0#32, false, true,
    [⟨31, 0, .ro, false, .u⟩]⟩,
  ⟨"SEC_n_DEV_OP", 0x20100100, [(0x1000, 34)], 0x0#32, false, false,
    [⟨5, 0, .rw, false, .p⟩, ⟨8, 8, .rw, false, .p⟩, ⟨10, 9, .rw, false, .p⟩]⟩,
  ⟨"SEC_n_DEV_ADDR", 0x20100104, [(0x1000, 34)], 0x0#32, false, false,
    [⟨31, 0, .rw, false, .p⟩]⟩,
  ⟨"SEC_n_DEV_LEN", 0x20100108, [(0x1000, 34)], 0x0#32, false, false,
    [⟨29, 0, .rw, false, .p⟩]⟩,
  ⟨"SEC_n_DEV_BUF", 0x2010010C, [(0x1000, 34)], 0x0#32, false, false,
    [⟨31, 3, .rw, false, .p⟩]⟩,
  ⟨"SEC_n_DEV_GO", 0x20100110, [(0x1000, 34)], 0x0#32, false, false,
    [⟨0, 0, .wt, false, .p⟩]⟩,
  ⟨"SEC_n_DEV_STAT", 0x20100114, [(0x1000, 34)], 0x0#32, false, false,
    [⟨0, 0, .ro, false, .u⟩, ⟨1, 1, .rc, false, .u⟩, ⟨4, 2, .ro, false, .u⟩]⟩,
  ⟨"SEC_n_PROF_CHECK", 0x20100200, [(0x1000, 34)], 0x0#32, false, false,
    [⟨0, 0, .wt, false, .p⟩]⟩,
  ⟨"SEC_n_PROF_FAULT", 0x20100204, [(0x1000, 34)], 0xFF00#32, false, false,
    [⟨7, 0, .ro, false, .u⟩, ⟨15, 8, .ro, false, .u⟩]⟩,
  ⟨"SEC_n_PROFILE_k", 0x20100400, [(0x1000, 34), (0x4, 128)], 0x0#32, false, false,
    [⟨31, 0, .rw, true, .p⟩]⟩,
  ⟨"SEC_n_POL", 0x20100060, [(0x1000, 34)], 0x100FF#32, false, false,
    [⟨7, 0, .rw, true, .p⟩, ⟨8, 8, .rw, true, .p⟩, ⟨9, 9, .rw, true, .p⟩, ⟨23, 16, .rw, true, .p⟩]⟩,
  ⟨"SEC_n_TIMEOUT", 0x20100064, [(0x1000, 34)], 0xFFFFFFFF#32, false, false,
    [⟨15, 0, .rw, true, .p⟩, ⟨31, 16, .rw, true, .p⟩]⟩,
  ⟨"SEC_n_ADDR_OPS", 0x20100068, [(0x1000, 34)], 0x0#32, false, false,
    [⟨7, 0, .rw, true, .p⟩, ⟨15, 8, .rw, true, .p⟩, ⟨23, 16, .rw, true, .p⟩, ⟨31, 24, .rw, true, .p⟩]⟩,
  ⟨"SEC_n_WEL_OPS", 0x2010006C, [(0x1000, 34)], 0x0#32, false, false,
    [⟨7, 0, .rw, true, .p⟩, ⟨15, 8, .rw, true, .p⟩]⟩,
  ⟨"SEC_n_ADDR_STAT", 0x20100070, [(0x1000, 34)], 0x0#32, false, false,
    [⟨0, 0, .ro, false, .u⟩, ⟨15, 8, .ro, false, .u⟩]⟩]

/-- Register rows of the block at 0x2010_0000, part 1. -/
def rows2010_1 : List RegRow := [
  ⟨"SEC_n_STAGE_STAT", 0x20100074, [(0x1000, 34)], 0x0#32, false, false,
    [⟨1, 0, .ro, false, .u⟩, ⟨2, 2, .ro, false, .u⟩, ⟨3, 3, .ro, false, .u⟩, ⟨4, 4, .ro, false, .u⟩, ⟨5, 5, .ro, false, .u⟩, ⟨6, 6, .ro, false, .u⟩]⟩,
  ⟨"SEC_n_PCNT_k", 0x20100080, [(0x1000, 34), (0x4, 16)], 0x0#32, false, true,
    [⟨31, 0, .ro, false, .u⟩]⟩,
  ⟨"SEC_n_CNT_PASS", 0x201000C0, [(0x1000, 34)], 0x0#32, false, true,
    [⟨31, 0, .ro, false, .u⟩]⟩,
  ⟨"SEC_n_CNT_DENY", 0x201000C4, [(0x1000, 34)], 0x0#32, false, true,
    [⟨31, 0, .ro, false, .u⟩]⟩,
  ⟨"SEC_n_CNT_STAGE", 0x201000C8, [(0x1000, 34)], 0x0#32, false, true,
    [⟨31, 0, .ro, false, .u⟩]⟩,
  ⟨"SEC_n_CNT_SERVE", 0x201000CC, [(0x1000, 34)], 0x0#32, false, true,
    [⟨31, 0, .ro, false, .u⟩]⟩,
  ⟨"SEC_n_CNT_CHECK", 0x201000D0, [(0x1000, 34)], 0x0#32, false, true,
    [⟨31, 0, .ro, false, .u⟩]⟩,
  ⟨"SEC_n_CNT_REPLAY", 0x201000D4, [(0x1000, 34)], 0x0#32, false, true,
    [⟨31, 0, .ro, false, .u⟩]⟩,
  ⟨"SEC_n_CNT_UNAVAIL", 0x201000D8, [(0x1000, 34)], 0x0#32, false, true,
    [⟨31, 0, .ro, false, .u⟩]⟩,
  ⟨"SEC_n_CNT_CONVERTED", 0x201000DC, [(0x1000, 34)], 0x0#32, false, true,
    [⟨31, 0, .ro, false, .u⟩]⟩,
  ⟨"SEC_n_CNT_FLASH_FAIL", 0x201000F0, [(0x1000, 34)], 0x0#32, false, true,
    [⟨31, 0, .ro, false, .u⟩]⟩,
  ⟨"SEC_n_LAST_VERDICT", 0x201000E0, [(0x1000, 34)], 0x0#32, false, false,
    [⟨2, 0, .ro, false, .u⟩, ⟨3, 3, .ro, false, .u⟩, ⟨4, 4, .ro, false, .u⟩, ⟨15, 8, .ro, false, .u⟩, ⟨24, 16, .ro, false, .u⟩]⟩,
  ⟨"SEC_n_LAST_DENY", 0x201000E4, [(0x1000, 34)], 0x0#32, false, false,
    [⟨7, 0, .ro, false, .u⟩, ⟨15, 8, .ro, false, .u⟩, ⟨18, 16, .ro, false, .u⟩, ⟨19, 19, .ro, false, .u⟩, ⟨20, 20, .ro, false, .u⟩]⟩,
  ⟨"SEC_n_LAST_DENY_ADDR", 0x201000E8, [(0x1000, 34)], 0x0#32, false, false,
    [⟨31, 0, .ro, false, .u⟩]⟩,
  ⟨"SEC_n_STATUS_k", 0x20100180, [(0x1000, 34), (0x4, 4)], 0x0#32, false, false,
    [⟨31, 0, .rw, true, .p⟩]⟩,
  ⟨"SEC_n_EMU_k", 0x20100190, [(0x1000, 34), (0x4, 4)], 0x0#32, false, false,
    [⟨7, 0, .ro, false, .u⟩, ⟨15, 8, .ro, false, .u⟩]⟩,
  ⟨"SEC_n_PGM_SRC", 0x20100300, [(0x1000, 34)], 0x0#32, false, false,
    [⟨31, 3, .rw, false, .p⟩]⟩,
  ⟨"SEC_n_PGM_MAP_SRC", 0x20100308, [(0x1000, 34)], 0x0#32, false, false,
    [⟨31, 3, .rw, false, .p⟩]⟩,
  ⟨"SEC_n_PGM_LEN", 0x20100304, [(0x1000, 34)], 0x0#32, false, false,
    [⟨15, 0, .rw, false, .p⟩]⟩,
  ⟨"SEC_n_PGM_MAP_CNT", 0x2010030C, [(0x1000, 34)], 0x0#32, false, false,
    [⟨6, 0, .rw, false, .p⟩]⟩,
  ⟨"SEC_n_PGM_LOAD", 0x20100310, [(0x1000, 34)], 0x0#32, false, false,
    [⟨0, 0, .wt, false, .p⟩]⟩,
  ⟨"SEC_n_PGM_STAT", 0x20100314, [(0x1000, 34)], 0x0#32, false, false,
    [⟨0, 0, .ro, false, .u⟩, ⟨1, 1, .rc, false, .u⟩, ⟨2, 2, .rc, false, .u⟩, ⟨3, 3, .ro, false, .u⟩, ⟨4, 4, .ro, true, .u⟩, ⟨5, 5, .ro, false, .u⟩]⟩,
  ⟨"SEC_n_PGM_STBY_DIGEST_k", 0x20100340, [(0x1000, 34), (0x4, 12)], 0x0#32, false, false,
    [⟨31, 0, .ro, false, .u⟩]⟩,
  ⟨"SEC_n_PGM_ACT_DIGEST_k", 0x20100380, [(0x1000, 34), (0x4, 12)], 0x0#32, false, false,
    [⟨31, 0, .ro, false, .u⟩]⟩,
  ⟨"SEC_n_TAG_STAT", 0x201000F4, [(0x1000, 34)], 0x0#32, false, false,
    [⟨1, 0, .ro, false, .u⟩, ⟨2, 2, .ro, false, .u⟩, ⟨15, 8, .ro, false, .u⟩]⟩,
  ⟨"SEC_n_TAG_LAST_ADDR", 0x201000F8, [(0x1000, 34)], 0x0#32, false, false,
    [⟨31, 0, .ro, false, .u⟩]⟩,
  ⟨"SEC_n_FENCE_f_BASE", 0x20100600, [(0x1000, 34), (0x8, 2)], 0x0#32, false, false,
    [⟨0, 0, .rw, true, .p⟩, ⟨31, 12, .rw, true, .p⟩]⟩,
  ⟨"SEC_n_FENCE_f_LEN", 0x20100604, [(0x1000, 34), (0x8, 2)], 0x0#32, false, false,
    [⟨20, 0, .rw, true, .p⟩]⟩,
  ⟨"SEC_n_CNT_TAG_OK", 0x2010004C, [(0x1000, 34)], 0x0#32, false, true,
    [⟨31, 0, .ro, false, .u⟩]⟩,
  ⟨"SEC_n_CNT_TAG_FAIL", 0x20100050, [(0x1000, 34)], 0x0#32, false, true,
    [⟨31, 0, .ro, false, .u⟩]⟩]

/-- Register rows of the block at 0x2010_0000, part 2. -/
def rows2010_2 : List RegRow := [
  ⟨"SEC_n_CNT_UNCHECKED", 0x20100054, [(0x1000, 34)], 0x0#32, false, true,
    [⟨31, 0, .ro, false, .u⟩]⟩,
  ⟨"SEC_n_CNT_SERVE_OVERRUN", 0x20100058, [(0x1000, 34)], 0x0#32, false, true,
    [⟨31, 0, .ro, false, .u⟩]⟩,
  ⟨"SEC_n_CNT_DEPOT_MISS", 0x2010005C, [(0x1000, 34)], 0x0#32, false, true,
    [⟨31, 0, .ro, false, .u⟩]⟩,
  ⟨"SEC_n_CNT_FENCED", 0x201000EC, [(0x1000, 34)], 0x0#32, false, true,
    [⟨31, 0, .ro, false, .u⟩]⟩]

/-- Register rows of the block at 0x2013_0000, part 0. -/
def rows2013_0 : List RegRow := [
  ⟨"DEP_STAT", 0x20130000, [], 0x0#32, false, false,
    [⟨0, 0, .ro, false, .u⟩]⟩,
  ⟨"DEP_SERVED_FREE", 0x20130004, [], 0x800#32, false, false,
    [⟨11, 0, .ro, false, .u⟩]⟩,
  ⟨"DEP_TAG_FREE", 0x20130008, [], 0x40000#32, false, false,
    [⟨18, 0, .ro, false, .u⟩]⟩,
  ⟨"DEP_VMAP", 0x20130010, [], 0x0#32, false, false,
    [⟨4, 0, .rw, true, .p⟩, ⟨8, 8, .rw, true, .p⟩]⟩,
  ⟨"DEP_VMAP_SRC", 0x20130014, [], 0x0#32, false, false,
    [⟨31, 12, .rw, true, .p⟩]⟩,
  ⟨"DEP_VMAP_DST", 0x20130018, [], 0x0#32, false, false,
    [⟨31, 12, .rw, true, .p⟩]⟩,
  ⟨"DEP_EXT_FAULT", 0x20130020, [], 0x0#32, false, false,
    [⟨7, 0, .ro, false, .u⟩, ⟨10, 8, .ro, false, .u⟩]⟩,
  ⟨"DEP_HOLD_PEND_LO", 0x20130030, [], 0x0#32, false, false,
    [⟨31, 0, .rc, true, .p⟩]⟩,
  ⟨"DEP_HOLD_PEND_HI", 0x20130034, [], 0x0#32, false, false,
    [⟨31, 0, .rc, true, .p⟩]⟩,
  ⟨"DEP_EXT_x_CTL", 0x20131000, [(0x10, 256)], 0x0#32, false, false,
    [⟨4, 0, .rw, true, .p⟩, ⟨5, 5, .rw, true, .p⟩, ⟨7, 6, .rw, true, .p⟩, ⟨10, 8, .rw, true, .p⟩, ⟨21, 16, .rw, true, .p⟩]⟩,
  ⟨"DEP_EXT_x_START", 0x20131004, [(0x10, 256)], 0x0#32, false, false,
    [⟨31, 12, .rw, true, .p⟩]⟩,
  ⟨"DEP_EXT_x_LEN", 0x20131008, [(0x10, 256)], 0x0#32, false, false,
    [⟨18, 0, .rw, true, .p⟩]⟩,
  ⟨"DEP_EXT_x_BASE", 0x2013100C, [(0x10, 256)], 0x0#32, false, false,
    [⟨18, 0, .rw, true, .p⟩]⟩,
  ⟨"DEP_EXT_x_FILL", 0x20132000, [(0x4, 256)], 0x0#32, false, false,
    [⟨18, 0, .ro, false, .u⟩, ⟨31, 19, .ro, false, .u⟩]⟩]

/-- Register rows of the block at 0x2014_0000, part 0. -/
def rows2014_0 : List RegRow := [
  ⟨"GNG_CTL", 0x20140000, [], 0x1#32, false, false,
    [⟨0, 0, .rw, true, .p⟩]⟩,
  ⟨"GNG_BUDGET", 0x20140004, [], 0xA000A#32, false, false,
    [⟨9, 0, .rw, true, .p⟩, ⟨23, 16, .rw, true, .p⟩]⟩,
  ⟨"GNG_STAT", 0x20140008, [], 0x0#32, false, false,
    [⟨31, 0, .ro, false, .u⟩]⟩,
  ⟨"GNG_n_CURSOR", 0x20141000, [(0x40, 32)], 0x0#32, false, false,
    [⟨31, 0, .ro, false, .u⟩]⟩,
  ⟨"GNG_n_PASSES", 0x20141004, [(0x40, 32)], 0x0#32, false, true,
    [⟨31, 0, .ro, false, .u⟩]⟩,
  ⟨"GNG_n_PAGES", 0x20141008, [(0x40, 32)], 0x0#32, false, true,
    [⟨31, 0, .ro, false, .u⟩]⟩,
  ⟨"GNG_n_TAG_FAIL", 0x2014100C, [(0x40, 32)], 0x0#32, false, true,
    [⟨31, 0, .ro, false, .u⟩]⟩,
  ⟨"GNG_n_DRIFT", 0x20141010, [(0x40, 32)], 0x0#32, false, true,
    [⟨31, 0, .ro, false, .u⟩]⟩,
  ⟨"GNG_n_RETRY", 0x20141014, [(0x40, 32)], 0x0#32, false, true,
    [⟨31, 0, .ro, false, .u⟩]⟩,
  ⟨"GNG_n_HINT", 0x20141018, [(0x40, 32)], 0x0#32, false, false,
    [⟨4, 0, .ro, false, .u⟩, ⟨31, 16, .ro, false, .u⟩]⟩,
  ⟨"GNG_n_USED", 0x2014101C, [(0x40, 32)], 0x0#32, false, false,
    [⟨31, 0, .ro, false, .u⟩]⟩,
  ⟨"GNG_n_CTL", 0x20141020, [(0x40, 32)], 0x0#32, false, false,
    [⟨0, 0, .rw, true, .p⟩]⟩]

/-- Register rows of the block at 0x2020_0000, part 0. -/
def rows2020_0 : List RegRow := [
  ⟨"YRD_y_CTL", 0x20200000, [(0x1000, 16)], 0x0#32, false, false,
    [⟨0, 0, .rw, true, .p⟩, ⟨1, 1, .wt, false, .p⟩]⟩,
  ⟨"YRD_y_ENTRY", 0x20200004, [(0x1000, 16)], 0x0#32, false, false,
    [⟨15, 2, .rw, true, .p⟩]⟩,
  ⟨"YRD_y_CODE", 0x20200008, [(0x1000, 16)], 0x8#32, false, false,
    [⟨3, 0, .rw, true, .p⟩]⟩,
  ⟨"YRD_y_BAR_MASK", 0x2020000C, [(0x1000, 16)], 0xFFFFFFFF#32, false, false,
    [⟨31, 0, .rw, true, .p⟩]⟩,
  ⟨"YRD_y_GBAR", 0x20200010, [(0x1000, 16)], 0x0#32, false, false,
    [⟨0, 0, .rw, true, .p⟩]⟩,
  ⟨"YRD_y_DOORBELL", 0x20200014, [(0x1000, 16)], 0x0#32, false, false,
    [⟨31, 0, .wt, false, .p⟩]⟩,
  ⟨"YRD_y_FAULT_MAP", 0x20200020, [(0x1000, 16)], 0x0#32, false, false,
    [⟨31, 0, .rc, false, .u⟩]⟩,
  ⟨"YRD_y_FAULT_ENG", 0x20200024, [(0x1000, 16)], 0x0#32, false, false,
    [⟨4, 0, .ro, false, .u⟩, ⟨15, 8, .ro, false, .u⟩]⟩,
  ⟨"YRD_y_FAULT_PC", 0x20200028, [(0x1000, 16)], 0x0#32, false, false,
    [⟨15, 0, .ro, false, .u⟩]⟩,
  ⟨"YRD_y_FAULT_VAL", 0x2020002C, [(0x1000, 16)], 0x0#32, false, false,
    [⟨31, 0, .ro, false, .u⟩]⟩,
  ⟨"YRD_y_BAR_STAT", 0x20200030, [(0x1000, 16)], 0x0#32, false, false,
    [⟨0, 0, .ro, false, .u⟩, ⟨1, 1, .ro, false, .u⟩, ⟨2, 2, .rc, false, .u⟩, ⟨3, 3, .rc, false, .u⟩]⟩,
  ⟨"YRD_y_KEYS", 0x20200040, [(0x1000, 16)], 0x0#32, false, false,
    [⟨3, 0, .ro, false, .u⟩]⟩,
  ⟨"YRD_y_DSTAT_l", 0x20200400, [(0x1000, 16), (0x4, 32)], 0x0#32, false, false,
    [⟨7, 0, .ro, false, .u⟩, ⟨9, 8, .ro, false, .u⟩, ⟨12, 10, .ro, false, .u⟩, ⟨31, 16, .ro, false, .u⟩]⟩,
  ⟨"YRD_y_DRES_l_k", 0x20200800, [(0x1000, 16), (0x40, 32), (0x4, 16)], 0x0#32, false, false,
    [⟨31, 0, .ro, false, .u⟩]⟩]

/-- Register rows of the block at 0x2021_0000, part 0. -/
def rows2021_0 : List RegRow := [
  ⟨"YRD_BCAST_SRC", 0x20210000, [], 0x0#32, false, false,
    [⟨31, 6, .rw, true, .p⟩]⟩,
  ⟨"YRD_BCAST_LEN", 0x20210004, [], 0x0#32, false, false,
    [⟨15, 2, .rw, true, .p⟩]⟩,
  ⟨"YRD_BCAST_MASK", 0x20210008, [], 0x0#32, false, false,
    [⟨15, 0, .rw, true, .p⟩]⟩,
  ⟨"YRD_BCAST_GO", 0x2021000C, [], 0x0#32, false, false,
    [⟨0, 0, .wt, false, .p⟩]⟩,
  ⟨"YRD_BCAST_STAT", 0x20210010, [], 0x0#32, false, false,
    [⟨0, 0, .ro, false, .u⟩, ⟨1, 1, .rc, false, .u⟩, ⟨2, 2, .rc, false, .u⟩]⟩,
  ⟨"YRD_KEY_SRC", 0x20210020, [], 0x0#32, false, false,
    [⟨31, 3, .rw, false, .p⟩]⟩,
  ⟨"YRD_KEY_CTL", 0x20210024, [], 0x0#32, false, false,
    [⟨6, 0, .rw, true, .p⟩, ⟨9, 8, .rw, true, .p⟩]⟩,
  ⟨"YRD_KEY_MASK", 0x20210028, [], 0x0#32, false, false,
    [⟨15, 0, .rw, true, .p⟩]⟩,
  ⟨"YRD_KEY_GO", 0x2021002C, [], 0x0#32, false, false,
    [⟨0, 0, .wt, false, .p⟩]⟩,
  ⟨"YRD_KEY_STAT", 0x20210030, [], 0x0#32, false, false,
    [⟨0, 0, .ro, false, .u⟩, ⟨1, 1, .rc, false, .u⟩, ⟨2, 2, .rc, false, .u⟩]⟩]

/-- Register rows of the block at 0x2030_0000, part 0. -/
def rows2030_0 : List RegRow := [
  ⟨"FIX_CTL", 0x20300000, [], 0x1001000#32, false, false,
    [⟨0, 0, .rw, true, .p⟩, ⟨1, 1, .rw, true, .p⟩, ⟨15, 8, .rw, true, .p⟩, ⟨24, 16, .rw, true, .p⟩]⟩,
  ⟨"FIX_YARDS", 0x20300004, [], 0x0#32, false, false,
    [⟨15, 0, .rw, true, .p⟩]⟩,
  ⟨"FIX_STAT", 0x20300008, [], 0x0#32, false, false,
    [⟨0, 0, .ro, false, .u⟩, ⟨1, 1, .ro, false, .u⟩, ⟨2, 2, .ro, false, .u⟩]⟩,
  ⟨"FIX_INFLIGHT", 0x2030000C, [], 0x0#32, false, false,
    [⟨9, 0, .ro, false, .u⟩, ⟨31, 16, .ro, false, .u⟩]⟩,
  ⟨"FIX_BYTES_LO", 0x20300010, [], 0x0#32, true, true,
    [⟨31, 0, .ro, false, .u⟩]⟩,
  ⟨"FIX_BYTES_HI", 0x20300014, [], 0x0#32, false, true,
    [⟨31, 0, .ro, false, .u⟩]⟩,
  ⟨"FIX_RATE", 0x20300018, [], 0x0#32, false, false,
    [⟨31, 0, .ro, false, .u⟩]⟩,
  ⟨"FIX_CNT_PASS", 0x20300020, [], 0x0#32, false, true,
    [⟨31, 0, .ro, false, .u⟩]⟩,
  ⟨"FIX_CNT_FAIL", 0x20300024, [], 0x0#32, false, true,
    [⟨31, 0, .ro, false, .u⟩]⟩,
  ⟨"FIX_CNT_REJECT", 0x20300028, [], 0x0#32, false, true,
    [⟨31, 0, .ro, false, .u⟩]⟩,
  ⟨"FIX_CNT_LENGTH", 0x2030002C, [], 0x0#32, false, true,
    [⟨31, 0, .ro, false, .u⟩]⟩,
  ⟨"FIX_CNT_ABORT", 0x20300030, [], 0x0#32, false, true,
    [⟨31, 0, .ro, false, .u⟩]⟩,
  ⟨"FIX_TT_k_STAT", 0x20301000, [(0x20, 64)], 0x0#32, false, false,
    [⟨0, 0, .ro, false, .u⟩, ⟨1, 1, .ro, false, .u⟩, ⟨2, 2, .ro, false, .u⟩, ⟨3, 3, .ro, false, .u⟩, ⟨31, 16, .ro, false, .u⟩]⟩,
  ⟨"FIX_TT_k_CUR_LO", 0x20301004, [(0x20, 64)], 0x0#32, true, false,
    [⟨31, 0, .ro, false, .u⟩]⟩,
  ⟨"FIX_TT_k_CUR_HI", 0x20301008, [(0x20, 64)], 0x0#32, false, false,
    [⟨31, 0, .ro, false, .u⟩]⟩,
  ⟨"FIX_TT_k_AGE", 0x2030100C, [(0x20, 64)], 0x0#32, false, false,
    [⟨31, 0, .ro, false, .u⟩]⟩,
  ⟨"FIX_TT_k_FAILS", 0x20301010, [(0x20, 64)], 0x0#32, false, true,
    [⟨31, 0, .ro, false, .u⟩]⟩]

/-- Register rows of the block at 0x2031_0000, part 0. -/
def rows2031_0 : List RegRow := [
  ⟨"LDG_CTL", 0x20310000, [], 0x3C004F#32, false, false,
    [⟨3, 0, .rw, true, .p⟩, ⟨8, 4, .rw, true, .p⟩, ⟨9, 9, .rw, true, .p⟩, ⟨31, 16, .rw, true, .p⟩]⟩,
  ⟨"LDG_STAT", 0x20310004, [], 0x0#32, false, false,
    [⟨2, 0, .ro, true, .u⟩, ⟨3, 3, .ro, false, .u⟩, ⟨4, 4, .ro, false, .u⟩, ⟨14, 8, .ro, false, .u⟩]⟩,
  ⟨"LDG_EPOCH_LO", 0x20310008, [], 0x0#32, true, false,
    [⟨31, 0, .ro, false, .u⟩]⟩,
  ⟨"LDG_EPOCH_HI", 0x2031000C, [], 0x0#32, false, false,
    [⟨31, 0, .ro, false, .u⟩]⟩,
  ⟨"LDG_LEAF_BASE_LO", 0x20310010, [], 0x0#32, true, false,
    [⟨31, 0, .rw, true, .p⟩]⟩,
  ⟨"LDG_LEAF_BASE_HI", 0x20310014, [], 0x0#32, false, false,
    [⟨31, 0, .rw, true, .p⟩]⟩,
  ⟨"LDG_TREE_BASE_LO", 0x20310018, [], 0x0#32, true, false,
    [⟨31, 0, .rw, true, .p⟩]⟩,
  ⟨"LDG_TREE_BASE_HI", 0x2031001C, [], 0x0#32, false, false,
    [⟨31, 0, .rw, true, .p⟩]⟩,
  ⟨"LDG_PAGES", 0x20310020, [], 0x0#32, false, false,
    [⟨31, 0, .rw, true, .p⟩]⟩,
  ⟨"LDG_CNT_AUTH", 0x20310024, [], 0x0#32, false, true,
    [⟨31, 0, .ro, false, .u⟩]⟩,
  ⟨"LDG_CNT_AUTH_FAIL", 0x20310028, [], 0x0#32, false, true,
    [⟨31, 0, .ro, false, .u⟩]⟩,
  ⟨"LDG_CNT_UPDATE", 0x2031002C, [], 0x0#32, false, true,
    [⟨31, 0, .ro, false, .u⟩]⟩,
  ⟨"LDG_RING", 0x20310030, [], 0x0#32, false, false,
    [⟨8, 0, .ro, false, .u⟩, ⟨13, 9, .ro, false, .u⟩]⟩,
  ⟨"LDG_REBUILT_LO", 0x20310034, [], 0x0#32, true, false,
    [⟨31, 0, .ro, false, .u⟩]⟩,
  ⟨"LDG_REBUILT_HI", 0x20310038, [], 0x0#32, false, false,
    [⟨31, 0, .ro, false, .u⟩]⟩,
  ⟨"LDG_ROOT_k", 0x20310040, [(0x4, 8)], 0x0#32, false, false,
    [⟨31, 0, .ro, false, .u⟩]⟩,
  ⟨"LDG_WROOT_k", 0x20310060, [(0x4, 8)], 0x0#32, false, false,
    [⟨31, 0, .ro, false, .u⟩]⟩]

/-- Register rows of the block at 0x2040_0000, part 0. -/
def rows2040_0 : List RegRow := [
  ⟨"HST_DEV_FEATURES_k (k = 0)", 0x20400000, [], 0xFFF#32, false, false,
    [⟨31, 0, .ro, false, .u⟩]⟩,
  ⟨"HST_DEV_FEATURES_k (k = 1-3)", 0x20400004, [(0x4, 3)], 0x0#32, false, false,
    [⟨31, 0, .ro, false, .u⟩]⟩,
  ⟨"HST_DRV_FEATURES_k", 0x20400010, [(0x4, 4)], 0x0#32, false, false,
    [⟨31, 0, .rw, true, .ui⟩]⟩,
  ⟨"HST_LINK", 0x20400020, [], 0x400#32, false, false,
    [⟨2, 0, .ro, false, .u⟩, ⟨7, 3, .ro, false, .u⟩, ⟨8, 8, .ro, false, .u⟩, ⟨9, 9, .ro, false, .u⟩, ⟨10, 10, .ro, false, .u⟩]⟩,
  ⟨"HST_MODE", 0x20400024, [], 0x0#32, false, false,
    [⟨1, 0, .ro, true, .u⟩, ⟨26, 16, .ro, false, .u⟩]⟩,
  ⟨"HST_POOL", 0x20400028, [], 0x1E007F0#32, false, false,
    [⟨10, 0, .ro, false, .u⟩, ⟨25, 11, .ro, false, .u⟩, ⟨31, 26, .ro, false, .u⟩]⟩,
  ⟨"HST_STAT", 0x2040002C, [], 0x2#32, false, false,
    [⟨0, 0, .rc, false, .u⟩, ⟨1, 1, .ro, false, .u⟩]⟩,
  ⟨"HST_CTL", 0x20400030, [], 0x0#32, false, false,
    [⟨0, 0, .rw, true, .p⟩]⟩,
  ⟨"HST_CNT_DMA_ERR", 0x20400034, [], 0x0#32, false, true,
    [⟨31, 0, .ro, false, .u⟩]⟩]

/-- Register rows of the block at 0x2041_0000, part 0. -/
def rows2041_0 : List RegRow := [
  ⟨"VIN_n_CTL", 0x20410000, [(0x100, 1025)], 0x0#32, false, false,
    [⟨0, 0, .rw, false, .ui⟩, ⟨1, 1, .rw, false, .ui⟩, ⟨2, 2, .wt, false, .ui⟩]⟩,
  ⟨"VIN_n_STAT", 0x20410004, [(0x100, 1025)], 0x0#32, false, false,
    [⟨2, 0, .ro, true, .u⟩, ⟨3, 3, .ro, false, .u⟩, ⟨4, 4, .rc, false, .ui⟩, ⟨5, 5, .rc, false, .ui⟩, ⟨6, 6, .ro, false, .u⟩, ⟨7, 7, .ro, false, .u⟩, ⟨10, 8, .ro, false, .u⟩, ⟨31, 16, .ro, false, .u⟩]⟩,
  ⟨"VIN_n_RES", 0x2041000C, [(0x100, 1025)], 0x0#32, false, false,
    [⟨7, 0, .ro, false, .u⟩, ⟨12, 8, .ro, false, .u⟩, ⟨17, 13, .ro, false, .u⟩, ⟨21, 18, .ro, false, .u⟩, ⟨27, 22, .ro, false, .u⟩]⟩,
  ⟨"VIN_n_PASID", 0x20410010, [(0x100, 1025)], 0x0#32, false, false,
    [⟨19, 0, .ro, false, .u⟩, ⟨31, 31, .ro, false, .u⟩]⟩,
  ⟨"VIN_n_VEC_BASE", 0x20410014, [(0x100, 1025)], 0x0#32, false, false,
    [⟨10, 0, .ro, false, .u⟩]⟩,
  ⟨"VIN_n_INT_MAP", 0x20410018, [(0x100, 1025)], 0x0#32, false, false,
    [⟨4, 0, .rw, false, .ui⟩, ⟨9, 5, .rw, false, .ui⟩, ⟨14, 10, .rw, false, .ui⟩, ⟨19, 15, .rw, false, .ui⟩]⟩,
  ⟨"VIN_n_INT_STAT", 0x2041001C, [(0x100, 1025)], 0x0#32, false, false,
    [⟨3, 0, .rc, false, .ui⟩]⟩,
  ⟨"VIN_n_SQ_BASE_LO", 0x20410020, [(0x100, 1025)], 0x0#32, true, false,
    [⟨31, 0, .rw, false, .ui⟩]⟩,
  ⟨"VIN_n_SQ_BASE_HI", 0x20410024, [(0x100, 1025)], 0x0#32, false, false,
    [⟨31, 0, .rw, false, .ui⟩]⟩,
  ⟨"VIN_n_CQ_BASE_LO", 0x20410028, [(0x100, 1025)], 0x0#32, true, false,
    [⟨31, 0, .rw, false, .ui⟩]⟩,
  ⟨"VIN_n_CQ_BASE_HI", 0x2041002C, [(0x100, 1025)], 0x0#32, false, false,
    [⟨31, 0, .rw, false, .ui⟩]⟩,
  ⟨"VIN_n_CMD_BASE_LO", 0x20410030, [(0x100, 1025)], 0x0#32, true, false,
    [⟨31, 0, .rw, false, .ui⟩]⟩,
  ⟨"VIN_n_CMD_BASE_HI", 0x20410034, [(0x100, 1025)], 0x0#32, false, false,
    [⟨31, 0, .rw, false, .ui⟩]⟩,
  ⟨"VIN_n_RSP_BASE_LO", 0x20410038, [(0x100, 1025)], 0x0#32, true, false,
    [⟨31, 0, .rw, false, .ui⟩]⟩,
  ⟨"VIN_n_RSP_BASE_HI", 0x2041003C, [(0x100, 1025)], 0x0#32, false, false,
    [⟨31, 0, .rw, false, .ui⟩]⟩,
  ⟨"VIN_n_DEV_FEAT_k", 0x20410040, [(0x100, 1025), (0x4, 4)], 0x0#32, false, false,
    [⟨31, 0, .ro, false, .u⟩]⟩,
  ⟨"VIN_n_DRV_FEAT_k", 0x20410050, [(0x100, 1025), (0x4, 4)], 0x0#32, false, false,
    [⟨31, 0, .rw, true, .ui⟩]⟩,
  ⟨"VIN_n_SQ_TAIL", 0x20410060, [(0x100, 1025)], 0x0#32, false, false,
    [⟨15, 0, .rw, false, .ui⟩]⟩,
  ⟨"VIN_n_CMD_TAIL", 0x20410070, [(0x100, 1025)], 0x0#32, false, false,
    [⟨15, 0, .rw, false, .ui⟩]⟩,
  ⟨"VIN_n_CQ_HEAD", 0x20410068, [(0x100, 1025)], 0x0#32, false, false,
    [⟨15, 0, .rw, false, .ui⟩]⟩,
  ⟨"VIN_n_RSP_HEAD", 0x20410078, [(0x100, 1025)], 0x0#32, false, false,
    [⟨15, 0, .rw, false, .ui⟩]⟩,
  ⟨"VIN_n_SQ_HEAD", 0x20410064, [(0x100, 1025)], 0x0#32, false, false,
    [⟨15, 0, .ro, false, .u⟩]⟩,
  ⟨"VIN_n_CMD_HEAD", 0x20410074, [(0x100, 1025)], 0x0#32, false, false,
    [⟨15, 0, .ro, false, .u⟩]⟩,
  ⟨"VIN_n_CQ_TAIL", 0x2041006C, [(0x100, 1025)], 0x0#32, false, false,
    [⟨15, 0, .ro, false, .u⟩]⟩,
  ⟨"VIN_n_RSP_TAIL", 0x2041007C, [(0x100, 1025)], 0x0#32, false, false,
    [⟨15, 0, .ro, false, .u⟩]⟩,
  ⟨"VIN_n_LATE_DISCARD", 0x20410080, [(0x100, 1025)], 0x0#32, false, true,
    [⟨31, 0, .ro, false, .u⟩]⟩,
  ⟨"VIN_n_SUBMITTED", 0x20410084, [(0x100, 1025)], 0x0#32, false, false,
    [⟨31, 0, .ro, false, .u⟩]⟩,
  ⟨"VIN_n_COMPLETED", 0x20410088, [(0x100, 1025)], 0x0#32, false, true,
    [⟨31, 0, .ro, false, .u⟩]⟩,
  ⟨"VIN_n_DB_BAD", 0x2041008C, [(0x100, 1025)], 0x0#32, false, true,
    [⟨31, 0, .ro, false, .u⟩]⟩,
  ⟨"VIN_n_DIRTY_BASE_LO", 0x20410090, [(0x100, 1025)], 0x0#32, true, false,
    [⟨31, 0, .ro, false, .u⟩]⟩]

/-- Register rows of the block at 0x2041_0000, part 1. -/
def rows2041_1 : List RegRow := [
  ⟨"VIN_n_DIRTY_BASE_HI", 0x20410094, [(0x100, 1025)], 0x0#32, false, false,
    [⟨31, 0, .ro, false, .u⟩]⟩,
  ⟨"VIN_n_DIRTY_IDX", 0x20410098, [(0x100, 1025)], 0x0#32, false, false,
    [⟨15, 0, .ro, false, .u⟩, ⟨31, 16, .ro, false, .u⟩]⟩,
  ⟨"VIN_n_INT_COAL", 0x2041009C, [(0x100, 1025)], 0x1#32, false, false,
    [⟨7, 0, .rw, false, .ui⟩, ⟨23, 8, .rw, false, .ui⟩]⟩,
  ⟨"VIN_0_EVR_CURSOR", 0x204100A0, [], 0x0#32, false, false,
    [⟨31, 0, .rw, false, .ui⟩]⟩,
  ⟨"VIN_0_EVR_SEQ", 0x204100A4, [], 0x0#32, false, false,
    [⟨31, 0, .ro, false, .u⟩]⟩,
  ⟨"VIN_0_EVR_WINDOW_k", 0x204100B0, [(0x4, 16)], 0x0#32, false, false,
    [⟨31, 0, .ro, false, .u⟩]⟩,
  ⟨"VIN_0_DIRTY_DB", 0x204100F0, [], 0x0#32, false, false,
    [⟨15, 0, .wt, false, .ui⟩, ⟨26, 16, .wt, false, .ui⟩]⟩,
  ⟨"VIN_0_VIEW_SEL", 0x204100F4, [], 0x20400000#32, false, false,
    [⟨31, 16, .rw, true, .ui⟩]⟩]

/-- Register rows of the block at 0x2050_0000, part 0. -/
def rows2050_0 : List RegRow := [
  ⟨"ATT_MREG_m_k", 0x20500000, [(0x40, 16), (0x4, 12)], 0x0#32, false, false,
    [⟨31, 0, .ro, false, .u⟩]⟩,
  ⟨"ATT_MREG_EXT_SRC", 0x20500400, [], 0x0#32, false, false,
    [⟨31, 3, .rw, false, .p⟩]⟩,
  ⟨"ATT_MREG_EXT_CTL", 0x20500404, [], 0x0#32, false, false,
    [⟨3, 0, .rw, false, .p⟩, ⟨16, 4, .rw, false, .p⟩, ⟨31, 31, .wt, false, .p⟩]⟩,
  ⟨"ATT_MREG_EXT_STAT", 0x20500408, [], 0x0#32, false, false,
    [⟨0, 0, .ro, false, .u⟩, ⟨1, 1, .rc, false, .u⟩, ⟨2, 2, .rc, false, .u⟩]⟩,
  ⟨"ATT_MREG_LOCK", 0x2050040C, [], 0x0#32, false, false,
    [⟨15, 0, .rs, true, .p⟩]⟩,
  ⟨"ATT_STAT", 0x20500410, [], 0x200#32, false, false,
    [⟨1, 0, .ro, false, .u⟩, ⟨2, 2, .ro, false, .u⟩, ⟨6, 3, .ro, false, .u⟩, ⟨9, 7, .ro, false, .u⟩, ⟨10, 10, .ro, false, .u⟩]⟩,
  ⟨"ATT_CNT_RX", 0x20500420, [], 0x0#32, false, true,
    [⟨31, 0, .ro, false, .u⟩]⟩,
  ⟨"ATT_CNT_DROP", 0x20500424, [], 0x0#32, false, true,
    [⟨31, 0, .ro, false, .u⟩]⟩,
  ⟨"ATT_CNT_ERR", 0x20500428, [], 0x0#32, false, true,
    [⟨31, 0, .ro, false, .u⟩]⟩,
  ⟨"ATT_CNT_LATE", 0x2050042C, [], 0x0#32, false, true,
    [⟨31, 0, .ro, false, .u⟩]⟩,
  ⟨"ATT_CNT_DS_FAIL", 0x20500430, [], 0x0#32, false, true,
    [⟨31, 0, .ro, false, .u⟩]⟩,
  ⟨"ATT_DS_d_STAT", 0x20500500, [(0x4, 16)], 0x0#32, false, false,
    [⟨1, 0, .ro, false, .u⟩, ⟨4, 2, .ro, false, .u⟩, ⟨31, 16, .ro, false, .u⟩]⟩]

/-- Register rows of the block at 0x2060_0000, part 0. -/
def rows2060_0 : List RegRow := [
  ⟨"SBD_TGT_t_CFG (t = 0)", 0x20600000, [], 0x130#32, false, false,
    [⟨6, 0, .rwl, true, .p⟩, ⟨8, 8, .rwl, true, .p⟩]⟩,
  ⟨"SBD_TGT_t_CFG (t = 1)", 0x20600010, [], 0x131#32, false, false,
    [⟨6, 0, .rwl, true, .p⟩, ⟨8, 8, .rwl, true, .p⟩]⟩,
  ⟨"SBD_TGT_t_CFG (t = 2)", 0x20600020, [], 0x132#32, false, false,
    [⟨6, 0, .rwl, true, .p⟩, ⟨8, 8, .rwl, true, .p⟩]⟩,
  ⟨"SBD_TGT_t_CFG (t = 3)", 0x20600030, [], 0x133#32, false, false,
    [⟨6, 0, .rwl, true, .p⟩, ⟨8, 8, .rwl, true, .p⟩]⟩,
  ⟨"SBD_TGT_t_STAT", 0x20600004, [(0x10, 4)], 0x0#32, false, false,
    [⟨6, 0, .ro, false, .u⟩, ⟨7, 7, .ro, false, .u⟩, ⟨8, 8, .ro, false, .u⟩, ⟨9, 9, .ro, false, .u⟩]⟩,
  ⟨"SBD_CTL_c_CFG", 0x20600040, [(0x10, 2)], 0x0#32, false, false,
    [⟨0, 0, .rwl, true, .p⟩, ⟨2, 1, .rwl, true, .p⟩]⟩,
  ⟨"SBD_LOCK", 0x20600080, [], 0x0#32, false, false,
    [⟨0, 0, .rs, true, .p⟩]⟩]

/-- The rows of the block that holds address `a` (R420). -/
def rowsOf (a : Nat) : List RegRow :=
  if 0x20000000 ≤ a ∧ a < 0x20010000 then rows2000_0
  else if 0x20010000 ≤ a ∧ a < 0x20020000 then rows2001_0
  else if 0x20020000 ≤ a ∧ a < 0x20030000 then rows2002_0
  else if 0x20030000 ≤ a ∧ a < 0x20040000 then rows2003_0
  else if 0x20040000 ≤ a ∧ a < 0x20050000 then rows2004_0
  else if 0x20050000 ≤ a ∧ a < 0x20060000 then rows2005_0
  else if 0x20060000 ≤ a ∧ a < 0x20070000 then rows2006_0
  else if 0x20070000 ≤ a ∧ a < 0x20080000 then rows2007_0
  else if 0x20080000 ≤ a ∧ a < 0x20090000 then rows2008_0
  else if 0x20090000 ≤ a ∧ a < 0x200A0000 then rows2009_0
  else if 0x200A0000 ≤ a ∧ a < 0x200B0000 then rows200A_0
  else if 0x200B0000 ≤ a ∧ a < 0x200C0000 then rows200B_0
  else if 0x20100000 ≤ a ∧ a < 0x20130000 then rows2010_0 ++ rows2010_1 ++ rows2010_2
  else if 0x20130000 ≤ a ∧ a < 0x20140000 then rows2013_0
  else if 0x20140000 ≤ a ∧ a < 0x20150000 then rows2014_0
  else if 0x20200000 ≤ a ∧ a < 0x20210000 then rows2020_0
  else if 0x20210000 ≤ a ∧ a < 0x20220000 then rows2021_0
  else if 0x20300000 ≤ a ∧ a < 0x20310000 then rows2030_0
  else if 0x20310000 ≤ a ∧ a < 0x20320000 then rows2031_0
  else if 0x20400000 ≤ a ∧ a < 0x20410000 then rows2040_0
  else if 0x20410000 ≤ a ∧ a < 0x20500000 then rows2041_0 ++ rows2041_1
  else if 0x20500000 ≤ a ∧ a < 0x20510000 then rows2050_0
  else if 0x20600000 ≤ a ∧ a < 0x20610000 then rows2060_0
  else []

/-- Whether `off` is a sum of multiples of the strides, each within its count. -/
def matchDims : List (Nat × Nat) → Nat → Bool
  | [], off => off == 0
  | (st, c) :: ds, off => decide (off / st < c) && matchDims ds (off % st)

/-- Whether row `r` describes the register at address `a`. -/
def RegRow.covers (r : RegRow) (a : Nat) : Bool := decide (r.base ≤ a) && matchDims r.dims (a - r.base)

/-- The row of the register at address `a`; none at an offset that no register occupies (R8). -/
def rowAt (a : Nat) : Option RegRow := (rowsOf a).find? (fun r => r.covers a)

/-- The reset value of the register at address `a`; 0 where no register stands (R8).
DESIGN CHOICE (log entries 5, 6). -/
def regReset (a : Nat) : BitVec 32 :=
  match rowAt a with
  | some r => r.reset
  | none => 0

end Sys2Proof.Machine
end

