-- ==== Sys2Proof/Request.lean ====
section
/-! DEFINITION. The requests to signal-box firmware as data, for those that wait until it can take them (R25). -/

namespace Sys2Proof

/-- A request of a mailbox or a command ring, with the operands of its command (R207, R264, R285, R312, R322, R347, R361,
R381, R402). -/
inductive Request where
  | updateBegin (q : Sender) (tag comp : Byte)
  | updateCommit (q : Sender) (tag comp : Byte) (opts : Word)
  | trialConfirm (q : Sender) (tag comp : Byte)
  | updateAbort (q : Sender) (tag comp : Byte)
  | recover (q : Sender) (tag comp : Byte) (mask : Word)
  | pushOpen (q : Sender) (tag comp img : Byte) (total : Word) (slot : Byte)
  | pushData (q : Sender) (tag comp img : Byte) (off : Word) (addr : Dword) (data : HostRead) (kind : Fin 4)
  | pushClose (q : Sender) (tag comp img : Byte)
  | status (q : Sender) (tag comp : Byte)
  | ledgerOpen (q : Sender) (tag : Byte) (leaf tree : Dword) (pages : Word) (nodes : Option (List (List Byte))) (kind : Fin 4)
  | ledgerCommit (q : Sender) (tag : Byte)
  | ledgerResume (q : Sender) (tag : Byte)
  | ledgerRebuild (q : Sender) (tag : Byte) (leaf tree : Dword) (pages : Word) (leaves : Option (List (Nat × List Byte))) (kind : Fin 4)
  | ledgerClose (q : Sender) (tag : Byte)
  | recordRetire (q : Sender) (tag : Byte) (idx : Dword)
  | recordRead (q : Sender) (tag : Byte) (idx : Dword)
  | ttSet (q : Sender) (tag : Byte) (k : BitVec 16) (addr : Dword) (entry : HostRead) (kind : Fin 4)
  | ttClear (q : Sender) (tag : Byte) (k : BitVec 16)
  | auditRange (q : Sender) (tag : Byte) (first count table : Dword) (feeds : List (Nat × Feed))
  | report (q : Sender) (tag : Byte) (arg : BitVec 16) (addr : Dword)
  | instCreate (q : Sender) (tag : Byte) (n : BitVec 16) (addr : Dword) (block : HostRead) (kind : Fin 4)
  | instDestroy (q : Sender) (tag : Byte) (n : BitVec 16)
  | instReset (q : Sender) (tag : Byte) (n : BitVec 16)
  | instQuiesce (q : Sender) (tag : Byte) (n : BitVec 16)
  | instResume (q : Sender) (tag : Byte) (n : BitVec 16)
  | instQuery (q : Sender) (tag : Byte) (n : BitVec 16)
  | dirtyStart (q : Sender) (tag : Byte) (n : BitVec 16) (base : Dword) (depth : Byte)
  | dirtyStop (q : Sender) (tag : Byte) (n : BitVec 16)
  | poolQuery (q : Sender) (tag : Byte)
  | dsSet (q : Sender) (tag : Byte) (d : BitVec 16) (addr : Dword) (entry : HostRead) (kind : Fin 4)
  | dsRefresh (q : Sender) (tag : Byte) (d : BitVec 16)
  | unlock (q : Sender) (tag : Byte) (ticket : Word)
  | cellServiceOpen (q : Sender) (tag : Byte) (ticket : Word)
  | cellServiceClose (q : Sender) (tag : Byte) (cell : Bool)
  | fuseSource (q : Sender) (tag : Byte) (src : BitVec 16) (ticket : Word)
  | tamperStatus (q : Sender) (tag : Byte)
  | correlate (q : Sender) (tag : Byte) (host : Dword) (format : Byte) (label : List Byte)
  | staffNonce (q : Sender) (tag : Byte)
  | lcsData (q : Sender) (tag : Byte) (off : Word) (data : List Byte)
  | staffSubmit (q : Sender) (tag : Byte) (len : Word)
  | lcTransit (q : Sender) (tag : Byte) (target : BitVec 16) (ticket : Word)
  | eraseUserSecrets (q : Sender) (tag : Byte) (ticket : Word)
  | debugArm (q : Sender) (tag : Byte) (ticket : Word)
  | ownerKeySet (q : Sender) (tag : Byte) (slot : BitVec 16) (cosign : Word) (hash : List Byte)
  | lcStatus (q : Sender) (tag : Byte)
  | keystoreLoad (q : Sender) (tag : Byte) (len : Word)
  | platformOff (q : Sender) (tag : Byte)
  | platformOn (q : Sender) (tag : Byte)
  | powerStatus (q : Sender) (tag : Byte)
  | snapshot (q : Sender) (tag : Byte) (us : Word)
deriving DecidableEq, Repr

end Sys2Proof
end

