-- ==== Sys2Proof/Machine/State.lean ====
section
/-! DEFINITION. The state of the TDX-8512 as plain data: every register, memory, queue and mode that spec/ gives it, its faults and refusals, and the state right after power-on reset. -/

namespace Sys2Proof.Machine

/-- What stops the machine. No rule of spec/ stops the block: every error it describes is a
status, an event or an exception, which is a next state. This one fault is raised by nothing;
it keeps the type inhabited (safe). -/
inductive Fault where
  | none
deriving DecidableEq, Repr

/-- Why the model refuses a command. -/
inductive Refusal where
  /-- Raised by the dispatcher for a command that has no meaning yet (safe). -/
  | notModelled (mnemonic : String)
deriving DecidableEq, Repr

/-! ### Wemon processors (02_wemon.md) -/

/-- Why a logical core executes nothing, or that it runs. `stalled rd h` is the stall of a
TCOMMIT of handle h that will write rd (R64). -/
inductive CoreRun where
  | running
  | parked
  | stalled (rd : RegNo) (h : Nat)
  | heldInReset
deriving DecidableEq, Repr

/-- A logical core (R27-R30, R39-R45). `mpu` holds the core's own 16 windows by register
address; `halted` is the debug halt (R378).
DESIGN CHOICE (log entry 79). -/
structure Core where
  g : List (Nat × Dword) := []
  pc : Dword := 0
  status : Dword := 0
  tvec : Dword := 0x100
  epc : Dword := 0
  cause : Dword := 0
  tval : Dword := 0
  scratch : Dword := 0
  ien : Dword := 0
  timecmp : Dword := 0
  cycle : Dword := 0
  run : CoreRun := .running
  halted : Bool := false
  mpu : List (Nat × Word) := []
deriving DecidableEq, Repr

/-- The states of a digest context (R225); EMPTY is the absence of one. -/
inductive CtxState where
  | running | done | lengthMismatch | aborted
deriving DecidableEq, Repr

/-- A digest context of an engine's unit (R223-R227): its algorithm identifier and key, the declared
length if one was given, the bytes fed so far, its state and its finished result. -/
structure DigestCtx where
  alg : Nat
  key : List Byte
  declared : Option Nat
  fed : List Byte
  st : CtxState
  result : List Byte
deriving DecidableEq, Repr

/-- An outstanding stream or DMA tag (R48, R59, R246): where its bytes go in local memory, how many, whether the
host has still to bring them, whether it has completed or ended with an error, the bytes that SWAIT delivers, and its remote address. -/
structure Tag where
  id : Nat
  stream : Bool
  dest : Nat
  len : Nat
  fromHost : Bool
  done : Bool
  failed : Bool
  data : List Byte
  addr : Nat
deriving DecidableEq, Repr

/-- What an engine does. `waitY rd` and `waitG rd` wait at a barrier (R51). `faulted` is the stop of R42. -/
inductive EngRun where
  | held
  | running
  | parked
  | faulted
  | waitY (rd : RegNo)
  | waitG (rd : RegNo)
deriving DecidableEq, Repr

/-- A scatter entry (R240); `seg` marks the segment digest area (kind 1). -/
structure Scatter where
  addr : Nat
  len : Nat
  seg : Bool
deriving DecidableEq, Repr

/-- What names a pass: a timetable entry, or the requester of an AUDIT_RANGE (R264). -/
inductive PassKey where
  | entry (k : Nat)
  | range (q : Sender)
deriving DecidableEq, Repr

/-- Where a waybill came from: an instance's ring with its submission sequence, or a pass. -/
inductive Source where
  | ring (n seq : Nat)
  | pass (k : PassKey)
deriving DecidableEq, Repr

/-- A waybill the scheduler holds (R240-R248): its source, the instance whose account it stands on (none
for a device-owned one), its 64 bytes, its scatter list, the expected block of an INLINE waybill, and its
authenticated ledger record; `ready` once it has passed R241. -/
structure Waybill where
  src : Source
  owner : Option Nat
  bytes : List Byte
  list : List Scatter
  expect : List Byte
  record : List Byte
  ready : Bool
deriving DecidableEq, Repr

/-- A work item in an engine's hands (R243-R249): the waybill, the bytes streamed, whether an alarm has
marked it ABORTED (R230), whether its instance's reset has cancelled it (R265), and whether the ledger has failed
authentication while it was pending (R257). -/
structure WorkItem where
  wb : Waybill
  streamed : Nat
  cancelled : Bool
  dropped : Bool
  unauth : Bool := false
deriving DecidableEq, Repr

/-- A Wemon-E engine (R27, R42, R56, R223-R229, R245). -/
structure Engine where
  g : List (Nat × Dword) := []
  pc : Nat := 0
  cycle : Dword := 0
  run : EngRun := .held
  halted : Bool := false
  wake : Bool := false
  live : Option (Nat × DigestCtx) := none
  slots : List (Nat × Option DigestCtx) := []
  tags : List Tag := []
  item : Option WorkItem := none
deriving DecidableEq, Repr

/-- A yard beyond its registers: the entry vector sampled when run went to 1 (R50), the lanes that have still
to arrive after a broken BAR.Y (R52), and the keys loaded into the same slot of each of its engines (R228). -/
structure Yard where
  entry : Nat := 0
  owedY : List Nat := []
  keys : List (Nat × List Byte) := []
deriving DecidableEq, Repr

/-- A broadcast in progress (R53): the target yards, the image as read, and the core that started it. -/
structure Bcast where
  yards : List Nat
  image : List Byte
  who : Origin
deriving DecidableEq, Repr


/-! ### The Interlocking (03_interlocking.md) -/

/-- An action record as TPUT copied it (R65); the payload address plays no further part. -/
structure ActRec where
  kind : Nat
  target : Nat
  operand : Nat
  operand2 : Nat
  payload : List Byte
deriving DecidableEq, Repr

/-- The states of a handle (ILK_H_h_STAT.state). -/
inductive HState where
  | free | opened | armed | lodged | service
deriving DecidableEq, Repr

/-- A transaction handle (R60-R64, R70). `held` is the first error TPUT found, with its record
index; `relief` that the relief core opened it. -/
structure Handle where
  state : HState := .free
  voted : Bool := false
  conflict : Bool := false
  lastStatus : Nat := 0
  relief : Bool := false
  recs : List ActRec := []
  held : Option (Nat × Nat) := none
  partner : Option Nat := none
deriving DecidableEq, Repr

/-- A journal entry (R76): its sequence, first block and block count on the ring, whether
its commit record is complete and its applied marker programmed, and what it carries. -/
structure JEntry where
  jseq : Nat
  start : Nat
  blocks : Nat
  complete : Bool
  applied : Bool
  subject : Option (Nat × Nat)
  digest : List Byte
  recs : List ActRec
  pcc : Nat
  ot : Nat
deriving DecidableEq, Repr

/-- The journal ring (R76-R80): 32 sectors of eight 256-byte blocks. `head` is the next
block to program, `erased` the sectors that hold no programmed block, `next` the next JSEQ. -/
structure Journal where
  entries : List JEntry := []
  head : Nat := 0
  dirty : List Nat := []
  next : Nat := 1
deriving DecidableEq, Repr

/-- The Interlocking. `queue` holds the transactions in service behind the one being
journaled, in arrival order (R69); `busy` is the handle whose journal write is in progress. -/
structure Ilk where
  handles : List (Nat × Handle) := []
  queue : List Nat := []
  busy : Option Nat := none
  journal : Journal := {}
  reliefAbsent : Bool := false
deriving DecidableEq, Repr

/-! ### Flash line ports, section code and read verification (04, 05, 06) -/

/-- How a component frame is answered on the wires (R85, R90, R112, R125, R131, R148, R149). -/
inductive Reply where
  | undriven
  | flash
  | checked (extent : Nat)
  | depot (extent : Nat)
  | fill
  | cache
  | emulated (value : Nat)
  | staging
deriving DecidableEq, Repr

/-- A component frame in progress (R84, R85, R112). `bank` is the program bank in force when its
command route began (R75); `verdict` the verdict that took effect, with its reason; `edges` the edges that its data phase
has reached before the block's next command (R92); where the source of its data has changed (R151), `lead` the bytes that
the C-port itself drove before that, and `skip` how many bytes had been delivered. -/
structure Frame where
  decoded : Bool := false
  opcode : Nat := 0
  ext : Nat := 0
  desc : Nat := 0
  kind : Nat := 6
  addr : Nat := 0
  addrLen : Nat := 0
  cs : Nat := 0
  bank : Nat := 0
  reply : Reply := .undriven
  verdict : Option (Nat × Nat) := none
  late : Bool := false
  edges : Nat := 0
  lead : List Byte := []
  skip : Nat := 0
deriving DecidableEq, Repr

/-- A frame on the wires of an F-port (R87, R90, R99, R105, R444): its chip select, the mode code whose lanes and rates it
takes, or none where it takes those of the component's frame, opcode and extension, address bytes as sent, most significant
first, dummy clocks, and the data the controller drives. -/
structure FlashFrame where
  cs : Nat
  mode : Option Nat
  opcode : Nat
  ext : Nat
  addr : List Byte
  dummy : Nat
  data : List Byte
deriving DecidableEq, Repr



/-- The progress of a queued write-kind frame (R120-R124). -/
inductive Progress where
  | judging | passed | replaying | polling | refreshing
deriving DecidableEq, Repr

/-- A staging queue entry (R120, R121): at most 4,096 data bytes; `flen` is 4,097 on overflow; `half` that its replay to
CS0 has ended and the one to CS1 follows (R119). -/
structure Entry where
  opcode : Nat
  ext : Nat
  kind : Nat
  desc : Nat
  addr : Nat
  addrLen : Nat
  cs : Nat
  bank : Nat
  data : List Byte
  flen : Nat
  progress : Progress
  newIface : Option Nat
  modeReset : Bool
  half : Bool := false
deriving DecidableEq, Repr

/-- A route of the section program being run (R57): which entry, the next instruction, the
steps taken and the registers. -/
structure Route where
  judge : Bool
  pc : Nat
  steps : Nat
  g : List (Nat × Dword)
  bank : Nat
deriving DecidableEq, Repr

/-- A resolved region table entry (R132). -/
structure Region where
  start : Nat
  len : Nat
  cls : Nat
  writable : Bool
  index : Nat
  comp : Nat
  resp : Nat
deriving DecidableEq, Repr

/-- A program bank (R132-R135): the image as loaded, the resolved table, the bank digest, and the bank's scratch memory. -/
structure Bank where
  ok : Bool := false
  image : List Byte := []
  map : List Region := []
  digest : List Byte := []
  scratch : List (Nat × Byte) := []
deriving DecidableEq, Repr

/-- A program load in progress (R132): the parameters sampled at go and the logical core that
submitted it. -/
structure PgmLoad where
  src : Nat
  len : Nat
  mapSrc : Nat
  mapCnt : Nat
  who : Origin
deriving DecidableEq, Repr

/-- A DEVICE operation in progress (R105): the profile entry, chip select, destination, next
address, bytes left, buffer address, and whether an alarm has abandoned the fill of its next burst (R230). -/
structure DevOp where
  entry : Nat
  cs : Nat
  dest : Nat
  addr : Nat
  left : Nat
  buf : Nat
  dropped : Bool := false
deriving DecidableEq, Repr

/-- A Ganger page in hand (R153-R157): its component address and extent, and the section logic clocks that its frame still
takes of the accounting window (R154). -/
structure GangerPage where
  addr : Nat
  extent : Nat
  clocks : Nat := 0
deriving DecidableEq, Repr

/-- One port: sections 0-31, 32 the H-port, 33 the V-port. `cache` holds the captured responses
by opcode (R90), `shadows` the status values read by opcode (R124), `refreshDue` whether the refresh reads that follow a
change to ROUTED are still to be made, `checks` the extents of the CHECK frames whose tag results are still to come, oldest
first, with the pages of each, `tagged` the pages of the frame in progress that have had theirs (R149, R150), `hints`
the Ganger's hint queue (R155), `idOk` whether the JEDEC ID last read
was the profile's (R104), `selLow` whether the component's select is low (R153), `sent` the bytes that the C-port itself
drove in the last read frame (R90, R112, R125, R148), `out` the last frame that the controller put on the F-port, `resets`
the low levels driven on SEC_n_F_RST_N (R100, R104), `resetSeen` the mode_reset entries issued in these DEVICE points
(R104), `flashFail` a flash-side fault that the signal box has still to answer with a HOLD (R129). -/
structure Line where
  frame : Option Frame := none
  route : Option Route := none
  queue : List Entry := []
  cache : List (Nat × List Byte) := []
  shadows : List (Nat × Nat) := []
  refreshDue : Bool := false
  bank0 : Bank := {}
  bank1 : Bank := {}
  load : Option PgmLoad := none
  dev : Option DevOp := none
  checks : List (Nat × List Nat) := []
  tagged : List Nat := []
  ganger : Option GangerPage := none
  hints : List Nat := []
  idOk : Bool := false
  selLow : Bool := false
  sent : List Byte := []
  out : Option FlashFrame := none
  resets : Nat := 0
  resetSeen : List Nat := []
  flashFail : Bool := false
  triState : Bool := false
  halted : Bool := false
deriving DecidableEq, Repr

/-! ### The Route Book's home copies (07_holding_and_release.md) -/

/-- A copy in the Route Book's log (R191): its 2 KiB sector, its component, or 64 for the minimum versions, its bytes, and
whether its check value is still correct. -/
structure HomeCopy where
  sector : Nat
  key : Nat
  bytes : List Byte
  ok : Bool
deriving DecidableEq, Repr

/-- The home copies in eNVM (R77, R191): the Route Book's log, oldest copy first, and the lockdown record (R337). A component
with no copy is blank. -/
structure Home where
  log : List HomeCopy := []
  lockdown : Option (List Byte) := none
deriving DecidableEq, Repr


/-! ### Updates, recovery, failover (08_update_recovery.md) -/

/-- An image push in progress (R208): who opened it, what it writes, its length, the next offset, the bytes that have
arrived, and the request that has closed it once all have. -/
structure Push where
  q : Sender
  comp : Nat
  image : Nat
  slot : Nat
  total : Nat
  next : Nat
  data : List Byte := []
  closed : Bool := false
deriving DecidableEq, Repr

/-- A 4 KiB page that signal-box firmware has read from a port (R163, R170, R177): the port, the chip select, the flash
address and the bytes. -/
structure FwPage where
  port : Nat
  cs : Nat
  addr : Nat
  bytes : List Byte
deriving DecidableEq, Repr

/-- What firmware has accepted of the controller's own start (R164-R166): the manifest's SVN, build and digest, and where
it was read from, as R192 codes it. -/
structure Stage where
  svn : Nat := 0
  build : Nat := 0
  md : List Byte := []
  src : Nat := 0
deriving DecidableEq, Repr

/-- A verification of component `comp` by firmware (R177, R195, R196, R200, R206). `why` is 0 at a start, 1 of an update's
new slot, 2 of a recovery's target, 3 of the old slot after a cramped update or trial. `slots` are those whose manifests are
read, `pick` the one chosen, whose extents are armed and banks loaded once `armed`; `matched` are the images that matched. -/
structure Check where
  comp : Nat
  why : Nat
  slots : List Nat
  pick : Option Nat := none
  armed : Bool := false
  matched : List Nat := []
deriving DecidableEq, Repr

/-- The write of a recovery in progress (R206, R208, R209): its target (component, image in hand, slot), its source, the next
offset, which of erase (0) and program (1) it is at, and the frame that comes next: 0 write enable, 1 erase or program, 2 poll. -/
structure Restore where
  comp : Nat
  image : Nat
  slot : Nat
  source : Nat
  offset : Nat := 0
  phase : Nat := 0
  frame : Nat := 0
deriving DecidableEq, Repr

/-- Signal-box firmware's own data: the boot stage it runs, the stages accepted, the source of the Consist accepted (0 A, 1 B,
2 eNVM), the pages it has read and the reads of its own under way (port, chip select, address), the image reads under way
(port, component, image), the verifications, the ports whose flash passed the identity check in these points, the sections
whose settings are loaded, the stages and the Consist whose want of a candidate is recorded, those pushed since (R166), the
time of each component's take or revert, what slot V's manifests say by component (SVN, digest), the cause that an update's
new slot fails with, its build, the write of a recovery, whether a new Consist comes with the handover in progress, the components that
have been ready since their release (R187), those whose hold lines differ from the Consist (R443), those to be accepted in a
transaction of their own (R178), and those whose sources a RECOVER has still to try, with its mask (R204). -/
structure Fw where
  stage : Nat := 0
  stages : List (Nat × Stage) := []
  consist : Option Nat := none
  pages : List FwPage := []
  reading : List (Nat × Nat × Nat) := []
  jobs : List (Nat × Nat × Nat) := []
  checks : List Check := []
  idents : List Nat := []
  loaded : List Nat := []
  noted : List Nat := []
  pushed : List Nat := []
  since : List (Nat × Nat) := []
  vSlots : List (Nat × Nat × List Byte) := []
  updCause : Option Nat := none
  updBuild : Option Nat := none
  restore : Option Restore := none
  newConsist : Bool := false
  ready : List Nat := []
  mismatch : List Nat := []
  single : List Nat := []
  recover : List (Nat × Nat) := []
deriving DecidableEq, Repr

/-- Updates, recovery and failover beyond their registers (R193-R213): the requests whose outcome is still to be
answered, by component; the confirm mode and min-raise flag of each component's update ([0], [1]); the push;
the failed acceptances of stages 1 and 2 in this power cycle (R166); when the relief core went absent; the
extensions of R179 that wait for lower components; the manifest digest of each component's slot in use; whether HLD_LOCK was set already when stage 0 started (R443);
the slots that failed at this start, by component, with their causes (R182, R184); the episodes of unavailability under way
with the OT of their start (R24); the components held by a response that the Consist names (R129, R151); and firmware's own
data. -/
structure Update where
  who : List (Nat × (Sender × Nat)) := []
  opts : List (Nat × Nat) := []
  push : Option Push := none
  stageFails : List (Nat × Nat) := []
  absentAt : Option Nat := none
  ext : List (Nat × List Byte) := []
  mds : List (Nat × List Byte) := []
  relocked : Bool := false
  failed : List (Nat × Nat × Nat) := []
  outages : List (Nat × Nat) := []
  response : List Nat := []
  fw : Fw := {}
deriving DecidableEq, Repr


/-! ### Digest and signature units (09_crypto_units.md) -/

/-- An Examiner job (R217): the submitting core, its descriptor, and the bytes taken so far. -/
structure ExmJob where
  core : Fin 2
  desc : Nat
  alg : Nat
  flash : Bool
  compare : Bool
  len : Nat
  src : Nat
  expected : Nat
  result : Nat
  tag : Nat
  fed : List Byte
deriving DecidableEq, Repr

/-- An Examiner lane's digest datapath (R216, R218): the holder and the queue behind it. -/
structure Lane where
  holder : Option ExmJob := none
  queue : List ExmJob := []
deriving DecidableEq, Repr

/-- A key slot of the signature-and-session unit (R236); type 0 is empty. `uds` marks the unique
device secret, which stands for its material. -/
structure SigKey where
  ty : Nat := 0
  session : Bool := false
  uds : Bool := false
  mat : List Byte := []
deriving DecidableEq, Repr

/-- The fields of a signature job's descriptor (R233): the addresses and lengths of inputs 1-3 and the output address. -/
structure SigDesc where
  in1 : Nat
  len1 : Nat
  in2 : Nat
  len2 : Nat
  in3 : Nat
  len3 : Nat
  out : Nat
deriving DecidableEq, Repr

/-- A signature job (R233), with the descriptor as it was at its submission. `done` holds the status its operation ended
with and its output, once the operation has been carried out. -/
structure SigJob where
  core : Fin 2
  desc : Nat
  op : Nat
  key : Nat
  out : Nat
  flags : Nat
  tag : Nat
  buf : SigDesc
  done : Option (Nat × List Byte)
deriving DecidableEq, Repr

/-- The signature-and-session unit (R232-R238): pipes V0, V1 and S, each job's first one started, and
the key slots; the health test that failed last, and `rbgLogged` that its failure has been logged. -/
structure Sig where
  v0 : List SigJob := []
  v1 : List SigJob := []
  pipe : List SigJob := []
  keys : List (Nat × SigKey) := []
  rbgTest : Nat := 0
  rbgLogged : Bool := false
deriving DecidableEq, Repr

/-- A key load into the yards (R228): the yards, the slot and the key. -/
structure KeyLoad where
  yards : Nat
  slot : Nat
  key : List Byte
deriving DecidableEq, Repr


/-! ### Fixity and the ledger (10_fixity.md) -/

/-- An epoch commit's followers: what is done once the root is committed (R258, R264, R311, R385). -/
inductive AfterCommit where
  | answer (q : Option Sender) (w0 : Nat)
  | close (q : Option Sender) (w0 : Nat)
  | rebuilt (q : Option Sender) (w0 : Nat)
  | pass (k : PassKey)
  | report (q : Option Sender) (w0 : Nat) (k : PassKey) (addr : Nat)
  | custody
  | platformOff
deriving DecidableEq, Repr

/-- A timetable or range pass (R261-R264): its key, a range's request word 0, its account, the range,
the cursor, the scatter lists read so far by record index, the items outstanding, the counts, the
failed indices, whether LOCKDOWN held during it, its start, and whether its end is being committed. -/
structure Pass where
  key : PassKey
  w0 : Nat
  owner : Option Nat
  first : Nat
  count : Nat
  cur : Nat
  fed : List (Nat × Feed)
  out : Nat := 0
  passed : Nat := 0
  failed : Nat := 0
  skipped : Nat := 0
  missed : Nat := 0
  fails : List Nat := []
  lock : Bool := false
  startPcc : Nat
  startOt : Nat
  ending : Bool := false
deriving DecidableEq, Repr

/-- A timetable entry (R261). -/
structure TtEntry where
  first : Nat
  count : Nat
  locator : Nat
  owner : Nat
  flags : Nat
  period : Nat
deriving DecidableEq, Repr

/-- The fixity scheduler (R240-R250, R261-R264): the waybills waiting, in order of submission, the accounts
by instance (1025 the device's), the finished completions by instance, the passes, the timetable, the last
report bodies, the report sequence, the rebuild epoch the last report named, the byte count at the
start of the rate window, and the progress saved with the timetable (cursor and age by entry). -/
structure Fix where
  waiting : List Waybill := []
  accounts : List (Nat × Nat) := []
  done : List (Nat × List Byte) := []
  passes : List Pass := []
  tt : List (Nat × TtEntry) := []
  bodies : List (PassKey × List Byte) := []
  reportSeq : Nat := 0
  rebuildSeen : Nat := 0
  rateBase : Nat := 0
  saved : List (Nat × Nat × Nat) := []
deriving DecidableEq, Repr

/-- A change of a ledger record (R252): an audit's result and stamp, a new record, or RETIRED. -/
inductive RecUpd where
  | audit (fail : Bool) (pcc ot : Nat)
  | put (bytes : List Byte)
  | retire
deriving DecidableEq, Repr

/-- A buffered leaf page (R256). -/
structure LdgPage where
  idx : Nat
  data : List Byte
  changed : Bool
deriving DecidableEq, Repr

/-- A record request that waits for its page (R264): RECORD_RETIRE or RECORD_READ; `q` is none once the
requester has been reset. -/
structure LdgWait where
  q : Option Sender
  w0 : Nat
  retire : Bool
  idx : Nat
deriving DecidableEq, Repr

/-- The ledger unit (R253-R260): the capacity of the committed root entry, the buffered pages and path
nodes, the cached digests of level 3, the record updates that wait (frozen by a commit, or
for their page), the requests waiting for
pages, the followers of the commit in progress, those that wait for the commit after it, and whether it is a
rebuild's. -/
structure Ledger where
  cap : Nat := 0
  pages : List LdgPage := []
  nodes : List ((Nat × Nat) × List Byte) := []
  cache : List (Nat × List Byte) := []
  late : List (Nat × RecUpd) := []
  waits : List LdgWait := []
  after : List AfterCommit := []
  queued : List AfterCommit := []
  rebuilt : Bool := false
deriving DecidableEq, Repr


/-! ### Host link (11_host_link.md) -/

/-- Dirty logging of an instance (R290-R292): the ring's depth as log2, its phase, and the pages of the
entries written and not yet released, oldest first. -/
structure Dirty where
  depth : Nat
  phase : Bool := true
  recent : List Nat := []
deriving DecidableEq, Repr

/-- An instance beyond its registers (R278-R293): ring phases, partitions, creation mask, slot count,
dirty logging, the writes that wait for room on the dirty ring, the entries not yet signalled, the requests
that its reset, destroy or quiesce will answer, a destroy waiting for the reset's end, a creation waiting
for the destroy's end, and the reset's cause. -/
structure Inst where
  cqPhase : Bool := true
  rspPhase : Bool := true
  parts : List (Nat × Nat) := []
  mask : Nat := 0
  slots : Nat := 0
  dirty : Option Dirty := none
  blocked : List (Nat × List Byte) := []
  unsigCq : Nat := 0
  unsigRsp : Nat := 0
  unsigDirty : Nat := 0
  resetters : List (Sender × Nat) := []
  destroyers : List (Sender × Nat) := []
  quiescers : List (Sender × Nat) := []
  stoppers : List (Sender × Nat) := []
  stopping : Bool := false
  destroyNext : Option Nat := none
  create : Option (Option Sender × Nat × List Byte) := none
  cause : Nat := 0
deriving DecidableEq, Repr

/-- An MSI-X table entry and its pending bit. -/
structure Msix where
  addr : Nat := 0
  data : Nat := 0
  masked : Bool := true
  pending : Bool := false
deriving DecidableEq, Repr

/-- The endpoint (R267-R276): the instances, the functions with Bus Master Enable and in D3hot (0 PF0, n VF
n), SR-IOV and PASID control, the MSI-X tables by function and entry, the next record's sequence number
when PERST_N fell (R272), and the DOE Error bit (R298). -/
structure HostLink where
  insts : List (Nat × Inst) := []
  bme : List Nat := []
  d3hot : List Nat := []
  vfEnable : Bool := false
  numVfs : Nat := 0
  pasidEnable : Bool := false
  msix : List ((Nat × Nat) × Msix) := []
  perstSeq : Nat := 1
  doeError : Bool := false
deriving DecidableEq, Repr


/-! ### Attestation (12_attestation.md) -/

/-- A message the responder or the requester sends: transport (R313; 6 and 7 are I3C-2 and I3C-3), endpoint ID, session, the
code of the message and its data. -/
structure AttMsg where
  transport : Nat
  eid : Nat
  session : Option Nat
  code : Nat
  data : List Byte
deriving DecidableEq, Repr

/-- An MCTP message being assembled (R296, R298). -/
structure Assembly where
  transport : Nat
  eid : Nat
  tag : Nat
  seq : Nat
  bytes : List Byte
deriving DecidableEq, Repr

/-- A requester context (R297): its transport and endpoint ID, what has been negotiated, the transcript (that of the
negotiation, of the digests and certificates read, and of the measurements read and not yet signed), a prepared response,
and when it was last used. -/
structure AttCtx where
  transport : Nat
  eid : Nat
  version : Bool := false
  caps : Bool := false
  dts : Nat := 8192
  algs : Option Bool := none
  transcript : List Byte := []
  certs : List Byte := []
  meas : List Byte := []
  prepared : Option (Nat × List Byte) := none
  used : Nat := 0
deriving DecidableEq, Repr

/-- A session (R299-R302): its ID, context, whether it is established, which slot group it holds, how many messages
of the requester it has decrypted under its present keys, its version byte and the transcript of its handshake. -/
structure Session where
  id : Nat
  transport : Nat
  eid : Nat
  established : Bool
  groupB : Bool
  got : Nat := 0
  ver : Nat := 0x12
  hs : List Byte := []
deriving DecidableEq, Repr

/-- An object buffer in use (R309): its handle, context, contents, and whether it is an upload. -/
structure AttObj where
  handle : Nat
  transport : Nat
  eid : Nat
  upload : Bool
  bytes : List Byte
deriving DecidableEq, Repr

/-- A refresh of a downstream peer in progress (R312): its step, the retries of that step, who asked, the peer's
certificate chain, the GET_MEASUREMENTS request sent to it and the transcript of the negotiation. -/
structure Refresh where
  peer : Nat
  step : Nat
  retries : Nat
  q : Option (Sender × Nat)
  chain : List Byte := []
  req : List Byte := []
  vca : List Byte := []
deriving DecidableEq, Repr

/-- Attestation (R296-R312): endpoint IDs by transport, assemblies, contexts, sessions, objects, the messages
sent, the measurement extension in progress, the responses that wait for a deferred preparation, the downstream
entries with their values, the refreshes in progress, the stored countersignature, and the two Alias certificates of this
start (R304). -/
structure Att where
  eids : List (Nat × Nat) := []
  asm : List Assembly := []
  ctxs : List AttCtx := []
  sessions : List Session := []
  objs : List AttObj := []
  out : List AttMsg := []
  ext : Option (Nat × List Byte) := none
  ds : List (Nat × List Byte) := []
  dsVal : List (Nat × List Byte) := []
  refresh : List Refresh := []
  exporting : Option (Nat × Nat × Nat) := none
  importing : Option (Nat × Nat × Nat) := none
  counter : List Byte := []
  aliases : List (List Byte) := []
deriving DecidableEq, Repr


/-! ### Mailboxes (13_mailboxes.md) -/

/-- A request that has arrived and that firmware cannot take yet (R25): its sender, the command, its code, and the
operating time of its arrival. -/
structure Delayed where
  who : Sender
  cmd : Request
  code : Nat
  arrived : Nat
deriving DecidableEq, Repr

/-- The mailbox unit beyond its registers: the identities whose channels are being shut down (R328),
the agents that were reset and have not returned (R325), the records not notified per notification
channel (R323), the in-band interrupts requested on I3C-0 and I3C-1, with their mandatory data bytes (R321), and the
requests that wait for firmware, in order of arrival (R25). -/
structure Mbx where
  down : List Nat := []
  away : List (Fin 4) := []
  missed : List (Nat × Nat) := []
  ibi : List (Nat × Byte) := []
  delayed : List Delayed := []
deriving DecidableEq, Repr

/-- A response entry that waits to be handed to a requester (R285, R322). -/
structure Answer where
  dest : Sender
  entry : List Byte
deriving DecidableEq, Repr


/-! ### Tamper (14_tamper.md) -/

/-- A counted detector event: source, detector (0 or 1 for detector 1 or 2) and stamp (R332). -/
structure TmpEvent where
  src : Nat
  det : Nat
  stamp : Nat
deriving DecidableEq, Repr

/-- The tamper block beyond its registers. `latch`, `latchResp` and `latchSrc` are the lock latch of
the VBAT domain with the responses and sources held with it (R337); `record` the lockdown record's
image; `target` the evidence target of an entry whose record is journaled and whose counter advance
is still to come (R338); `vbatCfg` the configuration words copied into the VBAT domain (R341);
`hist` the histories (R332), `ticked` the last stamp of each detector (R330); `canary` whether the
canary stands as drawn, `canaryWord` whether eNVM holds its check word, `cell` whether BACKUP found a cell (R343);
`vlatchNew` whether
the event latch holds entries not yet logged (R342); `again` the sources that qualified while a release
was in service, `unlock` the UNLOCK request that waits with its word 0 and ticket (R340). -/
structure Tamper where
  latch : Bool := false
  latchResp : Nat := 0
  latchSrc : Nat := 0
  record : Option (List Byte) := none
  target : Option Nat := none
  vbatCfg : List (Nat × Word) := []
  hist : List TmpEvent := []
  ticked : List (Nat × Nat) := []
  canary : Bool := true
  canaryWord : Bool := false
  cell : Bool := true
  vlatchNew : Bool := false
  again : Option Nat := none
  unlock : Option (Sender × Nat × Nat) := none
deriving DecidableEq, Repr


/-! ### The event recorder (15_event_recorder.md) -/

/-- An event record (R349). `flushed` says that its present content stands in eNVM. -/
structure Record where
  seq : Nat
  pcc : Nat
  ot : Nat
  code : Nat
  origin : Nat
  change : Bool
  pfFlushed : Bool
  derived : Bool
  rep : Nat
  detail : Nat
  payload : List Byte
  flushed : Bool
deriving DecidableEq, Repr

/-- A slot of the eNVM log (R353): a record copy and its LIVE bit. -/
structure LogSlot where
  copy : Record
  live : Bool
deriving DecidableEq, Repr

/-- The event recorder (R349-R358). `ram` is the RAM buffer, `slots` the ring of the eNVM
log from its oldest slot to its head, both oldest first; `tail` is the slot number of the
oldest slot; `superAt` holds when a record last received a superseding copy from an age-driven write
(R353), `corrRecent` the stamp of each requester's last CORRELATE (R361). -/
structure Recorder where
  ram : List Record := []
  slots : List LogSlot := []
  tail : Nat := 0
  next : Nat := 1
  writing : Bool := false
  reclaiming : Bool := false
  suspended : Bool := false
  pfDone : Bool := false
  nvmFault : Bool := false
  exhausted : Bool := false
  superAt : List (Nat × Nat) := []
  corrRecent : List (Nat × Nat × Nat) := []
deriving DecidableEq, Repr

/-! ### Life cycle (16_life_cycle.md) -/

/-- What a ticket stands for beyond its registers (R374-R376): the staff's signer and key index,
target state, debug level, permitted sources and digest. -/
structure Ticket where
  signer : Nat
  key : Nat
  target : Nat
  level : Nat
  sources : Nat
  digest : List Byte
deriving DecidableEq, Repr

/-- An anti-replay entry (R377). -/
structure StaffEntry where
  counter : Nat
  scope : Nat
  signer : Nat
  key : Nat
  pcc : Nat
  ot : Nat
  pending : Nat
  digest : List Byte
  bound : Nat
deriving DecidableEq, Repr

/-- A transition record (R367). -/
structure TransRec where
  step : Nat
  target : Nat
  gen : Nat
  ticket : Nat
  pcc : Nat
  ot : Nat
  digest : List Byte
deriving DecidableEq, Repr

/-- The life-cycle unit beyond its registers: the three codeword copies and the transition records in
eNVM (R366, R367), the tickets by slot, the outstanding nonce, the upload buffer (R381), the
anti-replay entries (R377), the certificate chains staged in the user area (R371, R407), whether the MTM key stands
written, and the memory test that runs (R380). -/
structure Lcs where
  copies : List Nat := [0xFFFFFFFFFFFFFFFF, 0xFFFFFFFFFFFFFFFF, 0xFFFFFFFFFFFFFFFF]
  trans : List TransRec := []
  tickets : List (Nat × Option Ticket) := []
  nonce : Option (List Byte) := none
  buf : List Byte := []
  staffs : List StaffEntry := []
  staged : Option (List Byte) := none
  mtmKey : Bool := false
  mtm : Option (Nat × Nat) := none
deriving DecidableEq, Repr


/-- The instruction in the TAP (R378). -/
inductive TapInstr where
  | idcode | bypass | extest | samplePreload | intest | halt | step | resume
deriving DecidableEq, Repr


/-! ### Power (17_power.md) -/

/-- The power controller beyond its registers (R383-R402): the target of each domain's entry in progress, the
domains with a wake held for the commit's end (R390), the held runs of the yards (R392), the PLATFORM_OFF
request still to be answered, whether the platform is going off, the retention seals (bank kind and number),
the checks still running at exit, whether SBOX is without seals after a rail failure, STANDBY reported, the
domains whose vote was not 0 when last looked at, VIN_STBY absent, and whether the last releasable group of this
platform start is still to be released (R21). -/
structure Pwr where
  target : List (Nat × Nat) := []
  woken : List Nat := []
  runHeld : List Nat := []
  offer : Option (Sender × Nat) := none
  goingOff : Bool := false
  seals : List (Nat × Nat) := []
  checks : List (Nat × Nat) := []
  railsGone : Bool := false
  standby : Bool := false
  voted : List Nat := [1]
  down : Bool := false
  releasing : Bool := true
deriving DecidableEq, Repr


/-! ### Register access and eNVM (18_address_map.md) -/

/-- A holding register (R413) or a held low word (R414): whose, for which pair, and what. -/
structure Held where
  who : Party
  pair : Nat
  val : Word
deriving DecidableEq, Repr

/-- The NVC operation in progress (R407): 1 program or 2 erase, its address and data. -/
structure NvcOp where
  op : Nat
  addr : Nat
  data : List Byte
deriving DecidableEq, Repr

/-- A posted write or message signalled towards the host (R48, R283, R293), in issue order:
the instance whose it is, the host address and the bytes. -/
structure HostWrite where
  inst : Nat
  addr : Nat
  bytes : List Byte
deriving DecidableEq, Repr

/-! ### The whole state -/

/-- The state of the TDX-8512. -/
structure State where
  /-- The commands that wait, first in, first out. -/
  pending : List Instr
  /-- The model's own counter of free values (Config.freeWord and its kin are applied to it). -/
  freeCtr : Nat
  /-- PCC, 32 bits, kept in eNVM (R11). -/
  pcc : Nat
  /-- OT, 48 bits, 1/1024 s since PCC incremented (R11). -/
  ot : Nat
  /-- The register words that differ from their tables' reset values, by address: at reset VIN_0_STAT and VIN_0_RES, since instance 0 exists from power-up with its fixed resources (R277, R278). -/
  regs : List (Nat × Word)
  /-- The bytes of the internal map that differ from what an unlisted byte reads as (R404). -/
  mem : List Host.Cell
  /-- The holding registers of the readers (R413). -/
  held : List Held
  /-- The low words held for a writer (R414). -/
  heldLow : List Held
  /-- The snapshot mirror, by the register's own address (R416). -/
  snap : List (Nat × Word)
  /-- The NVC operation in progress (R407). -/
  nvc : Option NvcOp
  /-- LC0 and LC1; an unlisted core is as at reset. -/
  cores : List (Nat × Core)
  /-- The on-duty core (R50, R72). -/
  duty : Fin 2
  /-- Stage 2 has signalled ready (R169). -/
  stage2Ready : Bool
  /-- The cores held in reset after three mismatches (R213). -/
  retired : List (Fin 2)
  /-- The 512 engines; an unlisted engine is as at reset. -/
  engines : List (Nat × Engine)
  /-- The 16 yards' barrier state. -/
  yards : List (Nat × Yard)
  /-- The engines that have still to arrive after a broken BAR.G (R52). -/
  owedG : List Nat
  /-- Interrupt sources raised whose status LC0 has not yet read, where a block has no status of its own for them that a write clears (R41). -/
  irq : Dword
  /-- As irq, for LC1. -/
  irq1 : Dword
  /-- The Interlocking (R60-R81). -/
  ilk : Ilk
  /-- The event recorder (R349-R363). -/
  evr : Recorder
  /-- The 34 ports: sections 0-31, H-port 32, V-port 33. -/
  lines : List (Nat × Line)
  /-- K_tag (R142). -/
  tagKey : Option (List Byte)
  /-- The response entries that wait for their requesters, oldest first (R322). -/
  answers : List Answer
  /-- The posted writes and messages to the host, oldest first. -/
  hostOut : List HostWrite
  /-- The tamper block and the VBAT domain (R330-R347). -/
  tmp : Tamper
  /-- The mailbox unit (R314-R329). -/
  mbx : Mbx
  /-- The home copies in eNVM (R77, R191). -/
  home : Home
  /-- The 34 Examiner lanes (R216). -/
  lanes : List (Nat × Lane)
  /-- The signature-and-session unit (R232-R238). -/
  sig : Sig
  /-- The program broadcast in progress (R53). -/
  bcast : Option Bcast
  /-- The key load in progress (R228). -/
  keyLoad : Option KeyLoad
  /-- The life-cycle unit (R364-R381). -/
  lcs : Lcs
  /-- The fixity scheduler (R240-R250, R261-R264). -/
  fix : Fix
  /-- The ledger unit (R253-R260). -/
  ledger : Ledger
  /-- The endpoint and its instances (R267-R293). -/
  host : HostLink
  /-- Attestation (R296-R312). -/
  att : Att
  /-- The power controller (R383-R402). -/
  pwr : Pwr
  /-- Updates, recovery and failover (R193-R213). -/
  upd : Update
  /-- The instruction in the JTAG TAP (R378). -/
  tap : TapInstr
deriving DecidableEq, Repr

/-- The machine right after power-on reset: every register at the value its table gives, every
other field at the value spec/ gives it or the log names.
DESIGN CHOICE (log entries 3, 5, 79). -/
def State.reset : State where
  pending := []
  freeCtr := 0
  pcc := 0
  ot := 0
  regs := [(0x20038100, 4#32), (0x20410004, 1#32), (0x2041000C, 68766224#32)]
  mem := []
  held := []
  heldLow := []
  snap := []
  nvc := none
  cores := []
  duty := 0
  stage2Ready := false
  retired := []
  engines := []
  yards := []
  owedG := []
  irq := 0
  irq1 := 0
  ilk := {}
  evr := {}
  lines := []
  tagKey := none
  answers := []
  hostOut := []
  tmp := {}
  mbx := {}
  home := {}
  lanes := []
  sig := { keys := [(0, { ty := 4, uds := true })] }
  bcast := none
  keyLoad := none
  lcs := {}
  fix := {}
  ledger := {}
  host := {}
  att := {}
  pwr := {}
  upd := {}
  tap := .idcode

end Sys2Proof.Machine
end

