-- ==== Sys2Proof/Machine/RegOps.lean ====
section
/-! DEFINITION. The named operations over register words, memory and units by index. -/

namespace Sys2Proof.Machine

/-- What a command answers. -/
abbrev Out := Host.Outcome State Fault Refusal

/-! ### Register words -/

/-- The stored word of the register at `a`. -/
def State.rd (s : State) (a : Nat) : Word := Sparse.get regReset s.regs a

/-- The state with the stored word of the register at `a` replaced by `v`. -/
def State.wr (s : State) (a : Nat) (v : Word) : State :=
  { s with regs := Sparse.set regReset s.regs a v }

/-- Bits [hi:lo] of the register at `a`. -/
def State.fld (s : State) (a hi lo : Nat) : Nat := getBits (s.rd a) hi lo

/-- Bits [hi:lo] of the register at `a` replaced by `v`. -/
def State.setF (s : State) (a hi lo v : Nat) : State := s.wr a (setBits (s.rd a) hi lo v)

/-- Bit `i` of the register at `a`. -/
def State.bit (s : State) (a i : Nat) : Bool := (s.rd a).getLsbD i

/-- Bit `i` of the register at `a` set to `b`. -/
def State.setBit (s : State) (a i : Nat) (b : Bool) : State := s.setF a i i (b2n b)

/-- The counter at `a` incremented, saturating at 0xFFFF_FFFF. -/
def State.inc (s : State) (a : Nat) : State := s.wr a (satInc (s.rd a))

/-- The counter at `a` increased by `n`, saturating at 0xFFFF_FFFF. -/
def State.addTo (s : State) (a n : Nat) : State := s.wr a (satAdd (s.rd a) n)

/-- The 64-bit value of the pair at `lo`, `hi` (R413). -/
def State.rd64 (s : State) (lo hi : Nat) : Nat := (s.rd lo).toNat + 2 ^ 32 * (s.rd hi).toNat

/-- The pair at `lo`, `hi` set to a 64-bit value. -/
def State.wr64 (s : State) (lo hi v : Nat) : State :=
  (s.wr lo (BitVec.ofNat 32 v)).wr hi (BitVec.ofNat 32 (v / 2 ^ 32))

/-- `n` register words from `a` on filled from a byte string (digests, roots, records). -/
def State.wrBytes : State → Nat → Nat → List Byte → State
  | s, _, 0, _ => s
  | s, a, n + 1, bs => (s.wr a (BitVec.ofNat 32 (leAt bs 0 4))).wrBytes (a + 4) n (bs.drop 4)

/-- The bytes of `n` register words from `a` on. -/
def State.rdBytes (s : State) (a : Nat) : Nat → List Byte
  | 0 => []
  | n + 1 => leBytes 4 (s.rd a).toNat ++ s.rdBytes (a + 4) n

/-! ### Memory -/

/-- What a byte of the internal map that nothing has written reads as: 0xFF in eNVM, which is
erased (R406), and 0 in every RAM (log entry 4).
DESIGN CHOICE (log entry 4). -/
def memDefault (a : Nat) : Byte :=
  if 0x10000000 ≤ a ∧ a < 0x11000000 then 0xFF else 0

/-- One byte of the internal map; the boot ROM holds what the part holds.
DESIGN CHOICE (log entry 4). -/
def State.rdMem (s : State) (a : Nat) : Byte :=
  if a < 0x40000 then Config.romByte a else Sparse.get memDefault s.mem a

/-- One byte of the internal map written. -/
def State.wrMem (s : State) (a : Nat) (b : Byte) : State :=
  { s with mem := Sparse.set memDefault s.mem a b }

/-- `n` bytes from `a` on. -/
def State.rdMemN (s : State) (a : Nat) : Nat → List Byte
  | 0 => []
  | n + 1 => s.rdMem a :: s.rdMemN (a + 1) n

/-- A byte string written from `a` on. -/
def State.wrMemN : State → Nat → List Byte → State
  | s, _, [] => s
  | s, a, b :: bs => (s.wrMem a b).wrMemN (a + 1) bs

/-- The canonical form of the memory. -/
def State.memWf (s : State) : Bool := Sparse.wf memDefault s.mem

/-! ### Units by index -/

/-- Logical core `c`. -/
def State.core (s : State) (c : Fin 2) : Core := Sparse.get (fun _ => {}) s.cores c.val

/-- Logical core `c` replaced. -/
def State.setCore (s : State) (c : Fin 2) (x : Core) : State :=
  { s with cores := Sparse.set (fun _ => {}) s.cores c.val x }

/-- Engine `e`. -/
def State.engine (s : State) (e : Nat) : Engine := Sparse.get (fun _ => {}) s.engines e

/-- Engine `e` replaced. -/
def State.setEngine (s : State) (e : Nat) (x : Engine) : State :=
  { s with engines := Sparse.set (fun _ => {}) s.engines e x }

/-- Yard `y`. -/
def State.yard (s : State) (y : Nat) : Yard := Sparse.get (fun _ => {}) s.yards y

/-- Yard `y` replaced. -/
def State.setYard (s : State) (y : Nat) (x : Yard) : State :=
  { s with yards := Sparse.set (fun _ => {}) s.yards y x }

/-- The other logical core. -/
def other (c : Fin 2) : Fin 2 := if c = 0 then 1 else 0

/-- The relief core (R72). -/
def State.relief (s : State) : Fin 2 := other s.duty

/-- A free value: the next value of `Config.freeWord`, and the counter advanced.
DESIGN CHOICE (log entry 10). -/
def State.free (s : State) : Dword × State :=
  (Config.freeWord s.freeCtr, { s with freeCtr := s.freeCtr + 1 })

/-- `n` free bytes, and the counter advanced.
DESIGN CHOICE (log entry 10). -/
def State.freeBytes (s : State) (n : Nat) : List Byte × State :=
  ((List.range n).map (fun i => Config.freeByte (s.freeCtr + i)), { s with freeCtr := s.freeCtr + n })

/-! ### Interrupts and posted writes -/

/-- Interrupt source `n` raised (R41).
DESIGN CHOICE (log entry 77). -/
def State.raise (s : State) (n : Nat) : State :=
  { s with irq := s.irq ||| (1#64 <<< n), irq1 := s.irq1 ||| (1#64 <<< n) }

/-- Interrupt source `n` raised in core `c` alone (R212). -/
def State.raiseIn (s : State) (c : Fin 2) (n : Nat) : State :=
  if c = 0 then { s with irq := s.irq ||| (1#64 <<< n) } else { s with irq1 := s.irq1 ||| (1#64 <<< n) }

/-- A posted write to the host (R48). -/
def State.toHost (s : State) (inst addr : Nat) (bytes : List Byte) : State :=
  { s with hostOut := s.hostOut ++ [⟨inst, addr, bytes⟩] }

end Sys2Proof.Machine
end

