-- ==== Sys2Proof/Machine/MbxBase.lean ====
section
/-! DEFINITION. Mailbox channels up to the post (R314, R319, R321): bindings, the interrupts of a post
and a DONE, posting by signal-box firmware, and the answers that wait (R322). -/

namespace Sys2Proof.Machine

/-- The sender, receiver, en and notify fields of channel `n`'s binding word (R314). -/
def mbxSender (s : State) (n : Nat) : Nat := s.fld (Reg.MBX_BIND n) 5 0
def mbxReceiver (s : State) (n : Nat) : Nat := s.fld (Reg.MBX_BIND n) 11 6
def mbxEn (s : State) (n : Nat) : Bool := s.bit (Reg.MBX_BIND n) 12
def mbxNotify (s : State) (n : Nat) : Bool := s.bit (Reg.MBX_BIND n) 13

/-- The identity of the signal box (R314). -/
def sbIdentity : Nat := 0x3F

/-- MBX_n_CTL.go. -/
def mbxGo (s : State) (n : Nat) : Bool := s.bit (Reg.MBX_CTL n) 0

/-- Bit `n` of a LO and HI register pair set. -/
def State.setPair (s : State) (lo hi n : Nat) : State :=
  if n < 32 then s.setBit lo n true else s.setBit hi (n - 32) true

/-- The interrupt that identity `i` receives for channel `n` (R321), for a post or for a DONE.
DEDUCED (log entry 50). -/
def mbxInterrupt (s : State) (i n : Nat) (isPost : Bool) : State :=
  if i = sbIdentity then
    (if isPost then s.setPair Reg.MBX_POST_LO Reg.MBX_POST_HI n
      else s.setPair Reg.MBX_DONE_LO Reg.MBX_DONE_HI n).raise 0
  else if 0x28 ≤ i ∧ i ≤ 0x2B then
    let a := i - 0x28
    let s := s.setPair (Reg.MBX_AGT_PEND_LO a) (Reg.MBX_AGT_PEND_HI a) n
    let b : Byte := BitVec.ofNat 8 ((if isPost then 1 else 2) * 64 + n)
    if a < 2 ∧ s.bit (Reg.SBD_TGT_STAT a) 9 = true then { s with mbx := { s.mbx with ibi := s.mbx.ibi ++ [(a, b)] } } else s
  else s

/-- Whether SMBALERT_N is held low for sideband agent `a` (R321): on SMBus, while any of its PEND bits is 1.
DEDUCED (log entry 50). -/
def smbAlert (s : State) (a : Nat) : Bool :=
  decide (2 ≤ a) && (s.rd (Reg.MBX_AGT_PEND_LO a) != 0 || s.rd (Reg.MBX_AGT_PEND_HI a) != 0)

/-- Channel `n` posts `len` words that stand in its data words (R319). -/
def mbxPosted (s : State) (n : Nat) : State :=
  let s := (s.wr (Reg.MBX_WMASK n) 0).setBit (Reg.MBX_CTL n) 0 true
  let s := s.setF (Reg.MBX_CTL n) 31 16 (s.fld (Reg.MBX_CTL n) 31 16 + 1)
  let s := (s.setBit (Reg.MBX_STAT n) 0 false).inc (Reg.MBX_CNT_POSTED n)
  mbxInterrupt s (mbxReceiver s n) n true

/-- A message of 16 words posted by signal-box firmware, as 64 bytes. -/
def mbxSend (s : State) (n : Nat) (bytes : List Byte) : State :=
  mbxPosted ((s.wrBytes (Reg.MBX_DATA n 0) 16 bytes).setF (Reg.MBX_CTL n) 12 8 16) n

/-- The answer channel of sideband agent identity `i` (R322). -/
def answerChannel (s : State) (i : Nat) : Option Nat :=
  (List.range 64).find? (fun n =>
    mbxEn s n && !mbxNotify s n && mbxSender s n == sbIdentity && mbxReceiver s n == i)

/-- The answers that wait for a requester. -/
def answersFor (s : State) (q : Sender) : List Answer := s.answers.filter (fun a => a.dest == q)

/-- The oldest answer that waits for agent `a` posted, where its answer channel is free (R322).
DESIGN CHOICE (log entry 55). -/
def postAnswer (s : State) (a : Fin 4) : State :=
  match answersFor s (.agent a), answerChannel s (0x28 + a.val) with
  | x :: _, some n =>
    if mbxGo s n then s
    else mbxSend { s with answers := s.answers.erase x } n (takePad 64 x.entry)
  | _, _ => s

/-- A notification (R323) on channel `n` for a record of `body` that names `comp`: sent while go is 0,
otherwise counted. -/
def notifyOn (s : State) (comp : Nat) (body : List Byte) (n : Nat) : State :=
  let missed := Sparse.get (fun _ => 0) s.mbx.missed n
  let m := if mbxGo s n then missed + 1 else 0
  let s' := { s with mbx := { s.mbx with missed := Sparse.set (fun _ => 0) s.mbx.missed n m } }
  if mbxGo s n then s'
  else mbxSend s' n (leBytes 1 0xF0 ++ leBytes 1 comp ++ leBytes 2 (min missed 65535) ++ body)

/-- The channels that carry notifications. -/
def notifyChannels (s : State) : List Nat :=
  (List.range 64).filter (fun n => mbxEn s n && mbxNotify s n && mbxSender s n == sbIdentity)

/-- A notification on every notification channel. -/
def notifyAll (s : State) (comp : Nat) (body : List Byte) : State :=
  (notifyChannels s).foldl (fun s n => notifyOn s comp body n) s

end Sys2Proof.Machine
end

