-- ==== Sys2Proof/Machine/Ops.lean ====
section
/-! DEFINITION. The event recorder as every command uses it: records, merging, the RAM buffer, change
records (R349-R359) and the notifications that SECURITY records send (R323). -/

namespace Sys2Proof.Machine

/-! ### The event recorder -/

/-- A record's severity (R350). -/
def Record.sev (r : Record) : Sev := severityOf r.code

/-- The first 60 bytes of a record (R349), LIVE written as 1. -/
def Record.body (r : Record) : List Byte :=
  leBytes 4 r.seq ++ leBytes 4 r.pcc ++ leBytes 6 r.ot ++ leBytes 2 r.code ++
  leBytes 1 (64 * r.sev.code + r.origin) ++
  leBytes 1 (b2n r.change + 2 * b2n r.pfFlushed + 4 * b2n r.derived + 128) ++
  leBytes 2 r.rep ++ leBytes 4 r.detail ++ takePad 36 r.payload

/-- The 64 bytes of a record (R349). -/
def Record.bytes (r : Record) : List Byte := r.body ++ leBytes 4 (crc32 r.body).toNat

/-- The live records in eNVM, oldest slot first. -/
def Recorder.logLive (e : Recorder) : List Record :=
  (e.slots.filter (fun t => t.live)).map (fun t => t.copy)

/-- The live record with sequence number `q`; the RAM copy carries the newest repeat count. -/
def Recorder.find (e : Recorder) (q : Nat) : Option Record :=
  match e.ram.find? (fun r => r.seq == q) with
  | some r => some r
  | none => e.logLive.find? (fun r => r.seq == q)

/-- The lowest of a list of numbers that is at least `c`. -/
def lowestFrom (c : Nat) : List Nat → Option Nat
  | [] => none
  | q :: qs =>
    match lowestFrom c qs with
    | none => if c ≤ q then some q else none
    | some m => if c ≤ q ∧ q < m then some q else some m

/-- The sequence numbers of all live records. -/
def Recorder.seqs (e : Recorder) : List Nat :=
  e.ram.map (fun r => r.seq) ++ e.logLive.map (fun r => r.seq)

/-- The record a window with cursor `c` shows (R358); a cursor of 0 acts as 1. -/
def Recorder.shown (e : Recorder) (c : Nat) : Option Record :=
  match lowestFrom (max c 1) e.seqs with
  | some q => e.find q
  | none => none

/-- The number of unflushed records (R352). -/
def Recorder.unflushed (e : Recorder) : Nat := (e.ram.filter (fun r => !r.flushed)).length

/-- The cursor registers and window sequence registers of the six windows (R358). -/
def windowRegs : List (Nat × Nat) :=
  [(Reg.EVR_CURSOR, Reg.EVR_WINDOW_SEQ), (Reg.VIN_0_EVR_CURSOR, Reg.VIN_0_EVR_SEQ),
   (Reg.EVR_AGT_CURSOR 0, Reg.EVR_AGT_WINDOW_SEQ 0), (Reg.EVR_AGT_CURSOR 1, Reg.EVR_AGT_WINDOW_SEQ 1),
   (Reg.EVR_AGT_CURSOR 2, Reg.EVR_AGT_WINDOW_SEQ 2), (Reg.EVR_AGT_CURSOR 3, Reg.EVR_AGT_WINDOW_SEQ 3)]

/-- A window sequence value incremented; it wraps. -/
def State.bumpSeq (s : State) (a : Nat) : State := s.wr a (s.rd a + 1)

/-- The record a window with cursor `c` shows, whether flushed or not: its words do not tell. -/
def Recorder.view (e : Recorder) (c : Nat) : Option Record := (e.shown c).map (fun r => { r with flushed := true })

/-- The windows whose shown record differs between the old recorder and the new one have their
sequence value incremented (R358). -/
def State.bumpWindows (s : State) (old : Recorder) : List (Nat × Nat) → State
  | [] => s
  | (c, q) :: ws =>
    (if old.view (s.rd c).toNat = s.evr.view (s.rd c).toNat then s else s.bumpSeq q).bumpWindows old ws

/-- The recorder replaced; every window follows (R358). -/
def State.setEvr (s : State) (e : Recorder) : State :=
  ({ s with evr := e } : State).bumpWindows s.evr windowRegs

/-- One EVR_DROPPED_n for a severity (R350, R354). -/
def State.countDrop (s : State) (v : Sev) : State := s.inc (Reg.EVR_DROPPED v.code)

/-- EVR_INT.lost set (EVR_CTL.int_lost enables its interrupt). -/
def State.evrLost (s : State) : State := s.setBit Reg.EVR_INT 1 true

/-- The oldest record of a list, by sequence number, whose severity is at or below `v` (R354).
DEDUCED (log entry 58). -/
def oldestAtOrBelow (v : Sev) (rs : List Record) : Option Record :=
  rs.foldl (fun best r =>
    if v.code < r.sev.code then best
    else match best with
      | some b => if r.seq < b.seq then some r else best
      | none => some r) none

/-- A record put into the RAM buffer (R352, R354): a flushed record leaves to make room; where all
512 are unflushed the rule of R354 decides. -/
def State.putRam (s : State) (r : Record) : State :=
  let e := s.evr
  if e.ram.length < 512 then s.setEvr { e with ram := e.ram ++ [r] }
  else match e.ram.find? (fun x => x.flushed) with
    | some x => s.setEvr { e with ram := e.ram.filter (fun y => !(y.seq == x.seq)) ++ [r] }
    | none =>
      match oldestAtOrBelow r.sev e.ram with
      | some x =>
        ((s.setEvr { e with ram := e.ram.filter (fun y => !(y.seq == x.seq)) ++ [r] }).inc
          (Reg.EVR_REPLACED x.sev.code)).evrLost
      | none => (s.countDrop r.sev).evrLost

/-- Whether a new event merges into record `r` (R351). -/
def Record.merges (r : Record) (code origin detail : Nat) (payload : List Byte) : Bool :=
  r.code == code && r.origin == origin && r.detail == detail && r.payload == payload &&
  decide (r.rep < 65535)

/-- The record with the highest sequence number where it is still live: the only one an event may merge into (R351). -/
def Recorder.newest (e : Recorder) : Option Record := e.find (e.next - 1)

/-- A merge: the repeat count grows, the record is unflushed again (R351, R352). -/
def State.mergeInto (s : State) (r : Record) : State :=
  let r' := { r with rep := r.rep + 1, flushed := false }
  if s.evr.ram.any (fun x => x.seq == r.seq) then
    s.setEvr { s.evr with ram := s.evr.ram.map (fun x => if x.seq = r.seq then r' else x) }
  else s.putRam r'

/-- What a FAULT or SECURITY record starts: the flush of R352; a SECURITY record also sets
EVR_INT.security. -/
def State.afterRecord (s : State) (v : Sev) : State :=
  let s := if v = .security then s.setBit Reg.EVR_INT 0 true else s
  if (v = .fault ∨ v = .security ∨ 32 < s.evr.unflushed) ∧ s.evr.nvmFault = false
  then { s with evr := { s.evr with writing := true } } else s

/-- The component that a record names, or 0xFF (R323): the detail of the records of one component, the
component field of other payloads, the SUBJECT number of a component's failed vote. -/
def Record.comp (r : Record) : Nat :=
  if r.code = Ev.SLOT_FAIL_COMP ∨ r.code = Ev.RECORD_UNREADABLE ∨ r.code = Ev.COMPONENT_HELD ∨
     r.code = Ev.RECOVERY_FAIL then r.detail % 256
  else if r.code = Ev.HOLD_CFG_MISMATCH then leAt r.payload 8 1
  else if r.code = Ev.TAG_MISMATCH ∨ r.code = Ev.GANGER_TAG_MISMATCH then leAt r.payload 5 1
  else if r.code = Ev.REGION_BEYOND_IMAGE then leAt r.payload 0 1
  else if r.code = Ev.VOTE_FAIL ∧ r.detail / 256 % 256 = 1 then r.detail % 256
  else 0xFF

/-- Whether a record is notified (R323). -/
def Record.notified (r : Record) : Bool :=
  r.sev == .security || r.code == Ev.COMPONENT_HELD || r.code == Ev.RECOVERY_FAIL

/-- A new record leaves its notifications (R323). -/
def State.notifyRecord (s : State) (r : Record) : State :=
  if r.notified then notifyAll s r.comp r.body else s

/-- An event recorded with the flags given (R349-R352).
DESIGN CHOICE (log entry 7). -/
def State.record (s : State) (code origin detail : Nat) (payload : List Byte)
    (change derived : Bool) : State :=
  let pl := takePad 36 payload
  let v := severityOf code
  match s.evr.newest.filter (fun r => r.merges code origin detail pl) with
  | some r => (s.mergeInto r).afterRecord v
  | none =>
    if s.evr.next > 0xFFFFFFFF then
      ({ s with evr := { s.evr with exhausted := true } }).countDrop v
    else
      let r : Record := ⟨s.evr.next, s.pcc, s.ot, code, origin, change, false, derived, 0, detail, pl, false⟩
      ((({ s with evr := { s.evr with next := s.evr.next + 1 } } : State).putRam r).afterRecord v).notifyRecord r

/-- An event logged by origin `o`.
DESIGN CHOICE (log entry 59). -/
def State.log (s : State) (code : Nat) (o : Origin) (detail : Nat) (payload : List Byte) : State :=
  s.record code o.code detail payload false false

/-- A REG_CHANGE record (R359): the register, its old and new words, the byte enables of the
write, 0 for a hardware update. -/
def State.regChange (s : State) (o : Origin) (a : Nat) (old new : Word) (be : Nat) : State :=
  let bh := s.rd Reg.EVR_BEHALF
  let valid := bh.getLsbD 7
  s.record Ev.REG_CHANGE o.code a
    (leBytes 4 old.toNat ++ leBytes 4 new.toNat ++ leBytes 4 be ++
      leBytes 1 (if valid then getBits bh 5 0 else 0xFF) ++ [0] ++
      leBytes 2 (getBits bh 31 16)) true false

/-- A hardware update of bits [hi:lo], a field marked L, caused by origin `o`: a change makes a
REG_CHANGE record (R359). -/
def State.setL (s : State) (o : Origin) (a hi lo v : Nat) : State :=
  let old := s.rd a
  let new := setBits old hi lo v
  if old = new then s else (s.wr a new).regChange o a old new 0

end Sys2Proof.Machine
end

