-- ==== Sys2Proof/Machine/HostBase.lean ====
section
/-! DEFINITION. Instances of the host link as far as every block needs them: their state, their writes
with dirty logging (R290-R292), MSI-X (R293), response rings (R283, R285), and answers to requests. -/

namespace Sys2Proof.Machine

/-- Instance `n` beyond its registers. -/
def State.inst (s : State) (n : Nat) : Inst := Sparse.get (fun _ => {}) s.host.insts n

/-- Instance `n` replaced. -/
def State.setInst (s : State) (n : Nat) (x : Inst) : State :=
  { s with host := { s.host with insts := Sparse.set (fun _ => {}) s.host.insts n x } }

/-- VIN_n_STAT.state (R277): 0 ABSENT, 1 CREATED, 2 ACTIVE, 3 QUIESCED, 4 RESETTING, 5 DESTROYING, 6 FAILED. -/
def vinState (s : State) (n : Nat) : Nat := s.fld (Reg.VIN_STAT n) 2 0

/-- The generation of instance `n` (R287). -/
def vinGen (s : State) (n : Nat) : Nat := s.fld (Reg.VIN_STAT n) 31 16

/-- HST_MODE.mode: 0 NONE, 1 MEDIATED, 2 SLICED. -/
def hostMode (s : State) : Nat := s.fld Reg.HST_MODE 1 0

/-- The function whose DMA identity instance `n` carries (R276): 0 PF0, n VF n. -/
def instFn (s : State) (n : Nat) : Nat := if hostMode s = 1 then n else 0

/-- The origin of an instance's events (R295) and the member its detail names. -/
def instOrigin (n : Nat) : Origin := if n = 0 then .pf0 else .inst n

/-- A VIN event (R295).
DESIGN CHOICE (log entry 59). -/
def vinLog (s : State) (code n : Nat) (payload : List Byte) : State := s.log code (instOrigin n) n payload

/-- The negotiated features of instance `n` as one number; 0 unless features_ok is 1 (R274). -/
def negotiated (s : State) (n : Nat) : Nat :=
  if s.bit (Reg.VIN_CTL n) 1 then
    leNat (if n = 0 then s.rdBytes (Reg.HST_DRV_FEATURES 0) 4 else s.rdBytes (Reg.VIN_DRV_FEAT n 0) 4)
  else 0

/-- Whether instance `n` has negotiated feature bit `b` (R273). -/
def hasFeature (s : State) (n b : Nat) : Bool := bitOf (negotiated s n) b

/-- The number of waybill slots that instance `n` holds in use (R278): waiting, on an engine, or completed
and not yet posted. -/
def slotsUsed (s : State) (n : Nat) : Nat :=
  let mine (w : Waybill) : Bool := match w.src with
    | .ring m _ => m == n
    | .pass _ => false
  (s.fix.waiting.filter mine).length +
    (s.engines.filter (fun p => (p.2.item.map (fun i => mine i.wb && !i.dropped)).getD false)).length +
    (s.fix.done.filter (fun p => p.1 == n)).length

/-! ### MSI-X (R293) -/

/-- The function and table entry of vector index `v` of instance `n`; none beyond its vector count. -/
def msixEntry (s : State) (n v : Nat) : Option (Nat × Nat) :=
  if s.fld (Reg.VIN_RES n) 27 22 ≤ v then none
  else if n = 0 then some (0, v)
  else if hostMode s = 1 then some (n, v)
  else some (0, s.fld (Reg.VIN_VEC_BASE n) 10 0 + v)

/-- The MSI-X table entry at a key. -/
def State.msixAt (s : State) (k : Nat × Nat) : Msix :=
  ((s.host.msix.find? (fun p => p.1 == k)).map Prod.snd).getD {}

/-- The MSI-X table entry at a key replaced. -/
def State.setMsix (s : State) (k : Nat × Nat) (m : Msix) : State :=
  { s with host := { s.host with msix := (s.host.msix.filter (fun p => !(p.1 == k))) ++ [(k, m)] } }

/-- Whether DMA of instance `n` may be issued (R270, R276): not in D3hot; a VF with Bus Master Enable.
DEDUCED (log entry 47), PRESUMED (log entry 48). -/
def dmaIssues (s : State) (n : Nat) : Bool :=
  let f := instFn s n
  !s.host.d3hot.contains f && (f == 0 || s.host.bme.contains f)

/-- A message of instance `n` through one table entry: sent, or left pending while the entry is masked or its function
may issue no DMA.
PRESUMED (log entry 48). -/
def msixSend (s : State) (n v : Nat) : State :=
  match msixEntry s n v with
  | none => s
  | some k =>
    let m := s.msixAt k
    if m.masked = true ∨ dmaIssues s n = false then s.setMsix k { m with pending := true }
    else s.toHost n m.addr (leBytes 4 m.data)

/-- The vector that VIN_n_INT_MAP names for a source: 0 CQ, 1 RSP, 2 STATE, 3 DIRTY. -/
def intVec (s : State) (n src : Nat) : Nat := s.fld (Reg.VIN_INT_MAP n) (5 * src + 4) (5 * src)

/-- A source of an instance raised: its bit in VIN_n_INT_STAT, and its message. -/
def intNow (s : State) (n src : Nat) : State :=
  msixSend (s.setBit (Reg.VIN_INT_STAT n) src true) n (intVec s n src)

/-- The STATE source of instance `n` (R293). -/
def stateInt (s : State) (n : Nat) : State := intNow s n 2

/-- The entries of a source that no message has signalled yet. -/
def Inst.unsig (x : Inst) (src : Nat) : Nat :=
  if src = 0 then x.unsigCq else if src = 1 then x.unsigRsp else x.unsigDirty

/-- That count replaced. -/
def Inst.setUnsig (x : Inst) (src k : Nat) : Inst :=
  if src = 0 then { x with unsigCq := k } else if src = 1 then { x with unsigRsp := k } else { x with unsigDirty := k }

/-- An entry posted on a coalesced source (R293): a message once count entries are posted, or at once where
delay_us is 0. -/
def intPosted (s : State) (n src : Nat) : State :=
  let s := s.setBit (Reg.VIN_INT_STAT n) src true
  let k := (s.inst n).unsig src + 1
  if max 1 (s.fld (Reg.VIN_INT_COAL n) 7 0) ≤ k ∨ s.fld (Reg.VIN_INT_COAL n) 23 8 = 0
  then intNow (s.setInst n ((s.inst n).setUnsig src 0)) n src
  else s.setInst n ((s.inst n).setUnsig src k)

/-! ### States of instances -/

/-- The number of instances 1-1,024 that are not ABSENT. -/
def instancesUp (s : State) : Nat :=
  ((List.range 1025).filter (fun n => n != 0 && vinState s n != 0)).length

/-- VIN_n_STAT.state changed by hardware (R277, R293). -/
def setVinState (s : State) (n st : Nat) : State :=
  let s := s.setL (instOrigin n) (Reg.VIN_STAT n) 2 0 st
  stateInt (s.setL (instOrigin n) Reg.HST_MODE 26 16 (instancesUp s)) n

/-! ### DMA errors (R284) -/

/-- 0x3005 DMA_ERROR, counted. -/
def dmaErrorEvent (s : State) (n addr kind access : Nat) : State :=
  (s.inc Reg.HST_CNT_DMA_ERR).log Ev.DMA_ERROR .pf0 0 (leBytes 2 n ++ leBytes 8 addr ++ leBytes 1 kind ++ leBytes 1 access)

/-- A DMA error on a ring of instance `n`: it becomes FAILED. Rings: 0 SQ, 1 CQ, 2 CMD, 3 RSP, 4 DIRTY. -/
def ringFails (s : State) (n ring addr kind : Nat) : State :=
  if vinState s n ≠ 2 ∧ vinState s n ≠ 3 then s
  else
    let s := vinLog (setVinState s n 6) Ev.INSTANCE_FAILED n (leBytes 1 ring ++ leBytes 8 addr)
    dmaErrorEvent s n addr kind ring

/-! ### Writes in an instance's context -/

/-- Whether a request of instance `n` fails as a DMA error (R276): a slice while PASID Enable is 0.
DEDUCED (log entry 47). -/
def dmaFails (s : State) (n : Nat) : Bool := n != 0 && hostMode s == 2 && !s.host.pasidEnable

/-- The pages that a write touches. -/
def pagesOf (addr len : Nat) : List Nat :=
  (List.range ((addr + len - 1) / 4096 - addr / 4096 + 1)).map (fun i => addr / 4096 + i)

/-- The pages of a write that need a dirty entry (R291). -/
def Dirty.fresh (d : Dirty) (pages : List Nat) : List Nat :=
  pages.filter (fun p => !((d.recent.drop (d.recent.length - 64)).contains p))

/-- Whether the dirty ring has room for `k` more entries (R282, R292). -/
def Dirty.room (d : Dirty) (k : Nat) : Bool := decide (d.recent.length + k ≤ 2 ^ d.depth - 1)

/-- One dirty entry written to PF0's memory (R290), its phase in bit 0 of the entry. -/
def dirtyEntry (s : State) (n page : Nat) : State :=
  match (s.inst n).dirty with
  | none => s
  | some d =>
    let tail := s.fld (Reg.VIN_DIRTY_IDX n) 15 0
    let base := s.rd64 (Reg.VIN_DIRTY_BASE_LO n) (Reg.VIN_DIRTY_BASE_HI n)
    let s := s.toHost 0 (base + 8 * tail) (leBytes 8 (page * 4096 + b2n d.phase))
    let tail' := (tail + 1) % 2 ^ d.depth
    let d' := { d with phase := if tail' = 0 then !d.phase else d.phase, recent := d.recent ++ [page] }
    intPosted ((s.setInst n { s.inst n with dirty := some d' }).setF (Reg.VIN_DIRTY_IDX n) 15 0 tail') 0 3

/-- Whether a write of instance `n` can be issued now as far as dirty logging goes (R292). -/
def dirtyReady (s : State) (n addr len : Nat) : Bool :=
  match (s.inst n).dirty with
  | none => true
  | some d => (s.inst n).blocked.isEmpty && d.room (d.fresh (pagesOf addr len)).length

/-- The dirty ring of instance `n` is full (R292): dirty_full, and the event once per episode. -/
def dirtyFull (s : State) (n : Nat) : State :=
  if s.bit (Reg.VIN_STAT n) 6 then s
  else vinLog (s.setBit (Reg.VIN_STAT n) 6 true) Ev.DIRTY_FULL n
    (leBytes 1 (((s.inst n).dirty.map Dirty.depth).getD 0))

/-- A write issued in the context of instance `n`: its dirty entries first (R290). -/
def issueWrite (s : State) (n addr : Nat) (bytes : List Byte) : State :=
  let pages := match (s.inst n).dirty with
    | none => []
    | some d => d.fresh (pagesOf addr bytes.length)
  (pages.foldl (fun s p => dirtyEntry s n p) s).toHost n addr bytes

/-- A write in the context of instance `n`: issued, or it waits for room on the dirty ring (R292) or for its function
to issue DMA again (R270, R276); a slice's fails while PASID Enable is 0.
DEDUCED (log entry 49). -/
def instWrite (s : State) (n addr : Nat) (bytes : List Byte) : State :=
  if bytes.isEmpty then s
  else if dmaFails s n then dmaErrorEvent s n addr 0 5
  else if dmaIssues s n = false then s.setInst n { s.inst n with blocked := (s.inst n).blocked ++ [(addr, bytes)] }
  else if dirtyReady s n addr bytes.length then issueWrite s n addr bytes
  else dirtyFull (s.setInst n { s.inst n with blocked := (s.inst n).blocked ++ [(addr, bytes)] }) n

/-- The writes that waited for the dirty ring, as far as there is room now.
DEDUCED (log entry 49). -/
def drainBlocked : Nat → State → Nat → State
  | 0, s, _ => s
  | fuel + 1, s, n =>
    match (s.inst n).blocked, (s.inst n).dirty with
    | [], _ => s.setBit (Reg.VIN_STAT n) 6 false
    | (a, bs) :: rest, some d =>
      if (dmaIssues s n && d.room (d.fresh (pagesOf a bs.length)).length) = true then
        drainBlocked fuel (issueWrite (s.setInst n { s.inst n with blocked := rest }) n a bs) n
      else s
    | (a, bs) :: rest, none =>
      if dmaIssues s n then drainBlocked fuel (issueWrite (s.setInst n { s.inst n with blocked := rest }) n a bs) n else s

/-! ### The response ring -/

/-- Whether a ring with these indices and depth (as log2) is full (R282). -/
def ringFull (tail head lg : Nat) : Bool := (tail + 1) % 2 ^ lg == head % 2 ^ lg

/-- The oldest answer that waits for instance `n` written to its RSP ring (R283, R285).
DESIGN CHOICE (log entry 55). -/
def rspPost (s : State) (n : Nat) (q : Sender) : State :=
  match answersFor s q with
  | [] => s
  | x :: _ =>
    let lg := s.fld (Reg.VIN_RES n) 21 18
    let tail := s.fld (Reg.VIN_RSP_TAIL n) 15 0
    let addr := s.rd64 (Reg.VIN_RSP_BASE_LO n) (Reg.VIN_RSP_BASE_HI n) + 64 * tail
    if (vinState s n ≠ 2 ∧ vinState s n ≠ 3) ∨ dmaIssues s n = false ∨
       ringFull tail (s.fld (Reg.VIN_RSP_HEAD n) 15 0) lg = true then s
    else if dmaFails s n then ringFails s n 3 addr 0
    else if dirtyReady s n addr 64 = false then dirtyFull s n
    else
      let ph := (s.inst n).rspPhase
      let tail' := (tail + 1) % 2 ^ lg
      let s := { s with answers := s.answers.erase x }
      let s := issueWrite s n addr (takePad 63 x.entry ++ leBytes 1 (b2n ph))
      let s := (s.setF (Reg.VIN_RSP_TAIL n) 15 0 tail').setInst n
        { s.inst n with rspPhase := if tail' = 0 then !ph else ph }
      intPosted s n 1

/-- Every answer that waits for instance `n` written as far as its ring has room. -/
def rspDrain (s : State) (n : Fin 1025) : State :=
  (answersFor s (.inst n)).foldl (fun s _ => rspPost s n.val (.inst n)) s

/-! ### Answers -/

/-- The response entries of an answer (R285): 52 result bytes each, the last one marked final where
no further answer follows. -/
def answerParts (w0 status : Nat) (final : Bool) : Nat → List Byte → Nat → List (List Byte)
  | 0, _, _ => []
  | fuel + 1, result, i =>
    let rest := result.drop 52
    let fin := final && rest.isEmpty
    (leBytes 4 w0 ++ leBytes 1 status ++ leBytes 1 (b2n fin) ++ leBytes 2 i ++ takePad 52 result) ::
      (if rest.isEmpty then [] else answerParts w0 status final fuel rest (i + 1))

/-- An answer to a request with word 0 `w0` (R285, R322): its entries join those that wait; an agent's
are posted as its answer channel frees, an instance's as its response ring has room. An answer to an
instance that resets, is destroyed or is absent is discarded and counted (R288).
DESIGN CHOICE (log entry 55). -/
def State.answer (s : State) (q : Sender) (w0 status : Nat) (result : List Byte) (final : Bool) : State :=
  let parts := answerParts w0 status final (result.length / 52 + 1) result 0
  let s' := { s with answers := s.answers ++ parts.map (fun e => ⟨q, e⟩) }
  match q with
  | .agent a => postAnswer s' a
  | .inst n =>
    if vinState s n.val = 0 ∨ vinState s n.val = 4 ∨ vinState s n.val = 5
    then s.addTo (Reg.VIN_LATE_DISCARD n.val) parts.length
    else rspDrain s' n

/-- An answer to a requester that may have been reset since: none takes nothing. -/
def State.reply (s : State) (q : Option Sender) (w0 status : Nat) (result : List Byte) (final : Bool) : State :=
  match q with
  | some q => s.answer q w0 status result final
  | none => s

/-- Whether firmware can take a request of `q` now (R322): an agent needs an answer channel with fewer
than 8 answers waiting.
DESIGN CHOICE (log entry 19). -/
def canServe (s : State) (q : Sender) : Bool :=
  match q with
  | .agent a => (answerChannel s (0x28 + a.val)).isSome && decide ((answersFor s q).length < 8)
  | .inst _ => true

end Sys2Proof.Machine
end

