-- ==== Sys2Proof/Machine/EvrOps.lean ====
section
/-! DEFINITION. The event recorder's writer, log, flush and start-up (R352-R357), its window and
correlation rows (R358, R361), and the bytes of the eNVM read window (R406). -/

namespace Sys2Proof.Machine

/-! ### The log (R353, R354) -/

/-- The slots of the log region, and the slots kept erased ahead of the head. -/
def logSlots : Nat := 16384
def logReserve : Nat := 128

/-- The live records in eNVM. -/
def Recorder.liveCount (e : Recorder) : Nat := e.logLive.length

/-- The record copy of sequence number `q` voided. -/
def Recorder.void (e : Recorder) (q : Nat) : Recorder :=
  { e with slots := e.slots.map (fun t => if t.copy.seq = q then { t with live := false } else t) }

/-- Whether reclamation must free slots (R353). -/
def Recorder.crowded (e : Recorder) : Bool := decide (logSlots < e.slots.length + logReserve + 32)

/-- The tail sector reclaimed (R353): its live records stand at the head, its 32 slots are erased. -/
def Recorder.reclaimed (e : Recorder) : Recorder :=
  { e with slots := e.slots.drop 32 ++ (e.slots.take 32).filter (fun t => t.live), tail := (e.tail + 32) % logSlots }

/-- Sectors reclaimed until a slot is erased: no write waits for an erase (R353).
DEDUCED (log entry 58). -/
def Recorder.makeRoom : Nat → Recorder → Recorder
  | 0, e => e
  | fuel + 1, e => if e.slots.length < logSlots then e else makeRoom fuel e.reclaimed

/-- A slot programmed at the head.
DEDUCED (log entry 58). -/
def Recorder.push (e : Recorder) (t : LogSlot) : Recorder :=
  let e := e.makeRoom 512
  { e with slots := e.slots ++ [t] }

/-- A record copy programmed at the head; an earlier copy of it is voided (R353). -/
def Recorder.put (e : Recorder) (r : Record) : Recorder :=
  let e := (e.void r.seq).push ⟨{ r with flushed := true }, true⟩
  { e with reclaiming := e.reclaiming || e.crowded }

/-- The RAM copy of a record marked flushed with its content as written. -/
def Recorder.settle (e : Recorder) (r : Record) : Recorder :=
  { e with ram := e.ram.map (fun x => if x.seq = r.seq then { r with flushed := true } else x) }

/-- A record replaced (R354): its copy in the log voided, and the one the buffer still holds gone. -/
def Recorder.replace (e : Recorder) (q : Nat) : Recorder :=
  { e.void q with ram := e.ram.filter (fun y => !(y.seq == q)) }

/-- The windows that show record `q` incremented, where a superseding copy of it changes none of its words (R358, R362). -/
def bumpSuper (old : Recorder) (q : Nat) (s : State) : State :=
  windowRegs.foldl (fun s w =>
    let c := (s.rd w.1).toNat
    if (old.shown c).map (fun r => r.seq) = some q ∧ old.view c = s.evr.view c then s.bumpSeq w.2 else s) s

/-- The writer's handling of one record (R353, R354): written where the log has room for it or holds a
copy of it; else it replaces the oldest live record at or below its severity, or is dropped. -/
def writeRecord (s : State) (r : Record) (pf : Bool) : State :=
  let r := { r with pfFlushed := r.pfFlushed || pf }
  let e := s.evr
  if e.logLive.any (fun x => x.seq == r.seq) then bumpSuper e r.seq (s.setEvr ((e.put r).settle r))
  else if e.liveCount < logSlots - logReserve then s.setEvr ((e.put r).settle r)
  else
    match oldestAtOrBelow r.sev e.logLive with
    | some x =>
      ((s.setEvr (((e.replace x.seq).put r).settle r)).inc (Reg.EVR_REPLACED x.sev.code)).evrLost
    | none =>
      ((s.setEvr { e with ram := e.ram.filter (fun y => !(y.seq == r.seq)) }).countDrop r.sev).evrLost

/-- Records in sequence order. -/
def insertSeq (r : Record) : List Record → List Record
  | [] => [r]
  | x :: xs => if r.seq ≤ x.seq then r :: x :: xs else x :: insertSeq r xs

/-- The unflushed records in sequence order (R352). -/
def Recorder.dirty (e : Recorder) : List Record :=
  (e.ram.filter (fun r => !r.flushed)).foldl (fun l r => insertSeq r l) []

/-- Records written one after the other. -/
def writeRecords (s : State) (pf : Bool) : List Record → State
  | [] => s
  | r :: rs => writeRecords (writeRecord s r pf) pf rs

/-- Three program failures on one record (R356): the writer stops; NVM_FAULT once per episode. What it gives as held in RAM
is the number of unflushed records.
DESIGN CHOICE (log entry 115). -/
def evrNvmFault (s : State) : State :=
  if s.evr.nvmFault then s
  else
    let s := { s with evr := { s.evr with nvmFault := true, writing := false } }
    let s := s.setBit Reg.EVR_INT 2 true
    s.log Ev.NVM_FAULT .recorder 0
      (leBytes 4 ((s.evr.tail + s.evr.slots.length) % logSlots) ++ leBytes 4 s.evr.unflushed)

/-- A flush in progress completes: every unflushed record is written (R352); `fails` program failures
on its first record use up a voided slot each, three stop the writer (R356). -/
def evrFlush (s : State) (fails : Nat) : State :=
  if s.evr.nvmFault then s
  else
    match s.evr.dirty with
    | [] => { s with evr := { s.evr with writing := false } }
    | r :: rs =>
      let bad : List LogSlot := List.replicate (min fails 3) ⟨r, false⟩
      let s := { s with evr := bad.foldl Recorder.push s.evr }
      if 3 ≤ fails then evrNvmFault s
      else
        let s := writeRecords s false (r :: rs)
        { s with evr := { s.evr with writing := false } }

/-- Whether a record is 100 ms old: 102.4 ticks of OT (R352). -/
def agedRecord (s : State) (r : Record) : Bool := r.pcc != s.pcc || decide (r.ot + 103 ≤ s.ot)

/-- Whether a superseding copy is due (R353): none within the last second. -/
def superDue (s : State) (r : Record) : Bool :=
  !s.evr.logLive.any (fun x => x.seq == r.seq) ||
    s.evr.superAt.all (fun p => p.1 != r.seq || decide (p.2 + 1024 ≤ s.ot))

/-- A superseding copy noted. -/
def noteSuper (s : State) (r : Record) : State :=
  if s.evr.logLive.any (fun x => x.seq == r.seq) then
    { s with evr := { s.evr with superAt := (r.seq, s.ot) :: s.evr.superAt.filter (fun p => p.1 != r.seq) } }
  else s

/-- The writer's age-driven writes (R352, R353).
DEDUCED (log entry 58). -/
def writeAged : State → List Record → State
  | s, [] => s
  | s, r :: rs =>
    writeAged (if agedRecord s r = true ∧ superDue s r = true then writeRecord (noteSuper s r) r false else s) rs

/-- Reclamation of the tail sector completes (R353). -/
def evrReclaim (s : State) : State :=
  let e := s.evr
  if e.reclaiming = false ∨ e.suspended = true then s
  else
    let e := e.reclaimed
    s.setEvr { e with reclaiming := e.crowded }

/-- The power-fail flush (R355): every unflushed record, then PF_FLUSH, with FLUSHED set. A writer that has stopped (R356)
writes nothing, PF_FLUSH included.
DESIGN CHOICE (log entry 115). -/
def evrPowerFail (s : State) (us : Nat) : State :=
  let s := { s with evr := { s.evr with suspended := true } }
  if s.evr.nvmFault then { s with evr := { s.evr with pfDone := true } }
  else
    let n := s.evr.dirty.length
    let s := writeRecords s true s.evr.dirty
    let s := s.log Ev.PF_FLUSH .recorder 0 (leBytes 4 n ++ leBytes 4 us)
    let s := writeRecords s true s.evr.dirty
    { s with evr := { s.evr with pfDone := true, writing := false } }

/-- PFW_N rises again (R355): the background writer and reclamation resume, and EVR_STAT.pf_done reads 0.
DESIGN CHOICE (log entry 115). -/
def evrResume (s : State) : State :=
  { s with evr := { s.evr with suspended := false, pfDone := false } }

/-- The start-up scan (R357): the buffer is empty, `corrupt` live slots fail their CRC and are taken
as voided, the sequence continues.
DEDUCED (log entry 58). -/
def evrStartup (s : State) (corrupt : List Nat) : State :=
  let e := s.evr
  let bad := (e.logLive.filter (fun r => corrupt.contains r.seq)).length
  let e : Recorder := { e with slots := e.slots.map (fun t =>
    if corrupt.contains t.copy.seq then { t with live := false } else t) }
  let e : Recorder :=
    { e with ram := [], writing := false, suspended := false, pfDone := false, nvmFault := false
             superAt := [], corrRecent := [] }
  let top := e.logLive.find? (fun r => e.logLive.all (fun x => decide (x.seq ≤ r.seq)))
  let n := match top with
    | none => 1
    | some r => if r.code = Ev.PF_FLUSH then r.seq + 1 else r.seq + 513
  let s := s.setEvr { e with next := n }
  let s := if bad = 0 then s else s.log Ev.LOG_CORRUPT .recorder 0 (leBytes 4 bad)
  match top with
  | none => s
  | some r =>
    if r.code = Ev.PF_FLUSH then s
    else s.log Ev.LOG_GAP .recorder 0 (leBytes 4 (r.seq + 1) ++ leBytes 4 (r.seq + 512))

/-- EVR_STAT (R352-R357). -/
def evrStat (s : State) : Nat :=
  let e := s.evr
  min e.unflushed 512 + b2n e.writing * 2 ^ 10 + b2n e.reclaiming * 2 ^ 11 + b2n e.pfDone * 2 ^ 12 +
    b2n (logSlots - logReserve ≤ e.liveCount) * 2 ^ 13 + b2n e.nvmFault * 2 ^ 14 + b2n e.exhausted * 2 ^ 15

/-- EVR_OLDEST: the lowest live sequence number, or 0. -/
def evrOldest (s : State) : Nat := (lowestFrom 0 s.evr.seqs).getD 0

/-- Word `k` of the window whose cursor register is `c` (R358). -/
def windowWord (s : State) (c k : Nat) : Nat :=
  match s.evr.shown (s.rd c).toNat with
  | some r => leAt r.bytes (4 * k) 4
  | none => 0

/-- A cursor written by its owner (R358): the window sequence value increments. -/
def cursorWrite (s : State) (c q : Nat) (v : Word) : State := (s.wr c v).bumpSeq q

/-- Whether interrupt source 5 is pending (R363). -/
def evrPending (s : State) : Bool := (s.rd Reg.EVR_INT &&& s.rd Reg.EVR_CTL) &&& 7 != 0

/-- What firmware does on a requester's behalf carries it (R359). -/
def onBehalf (s : State) (q : Sender) (f : State → State) : State :=
  let d := match q with
    | .inst n => n.val
    | .agent _ => 0
  let s := s.wr Reg.EVR_BEHALF (BitVec.ofNat 32 (q.origin.code + 2 ^ 7 + d * 2 ^ 16))
  (f s).setBit Reg.EVR_BEHALF 7 false

/-- CORRELATE (R361): the record's number, PCC and OT, or BUSY within 1 s of operating time. -/
def correlate (s : State) (q : Sender) (w0 : Word) (host : Dword) (format : Byte) (label : List Byte) : State :=
  let allowed := match q with
    | .inst n => n.val == 0
    | .agent a => decide (a.val < 2)
  if allowed = false then s.answer q w0.toNat 1 [] true
  else if s.evr.corrRecent.any (fun p => p.1 == q.origin.code && p.2.1 == s.pcc && decide (s.ot < p.2.2 + 1024))
  then s.answer q w0.toNat 2 [] true
  else
    let s := s.log Ev.CORRELATION q.origin 0
      (leBytes 8 host.toNat ++ leBytes 1 format.toNat ++ [0, 0, 0] ++ takePad 16 label)
    let seq := s.evr.next - 1
    let recent := (q.origin.code, s.pcc, s.ot) :: s.evr.corrRecent.filter (fun p => p.1 != q.origin.code)
    let s := { s with evr := { s.evr with corrRecent := recent } }
    s.answer q w0.toNat 0 (leBytes 4 seq ++ leBytes 4 s.pcc ++ leBytes 6 s.ot) true

/-! ### The eNVM read window (R406) -/

/-- The bytes of an action record in the journal: 32 bytes and its payload padded to 32 (R76). -/
def journalRecord (r : ActRec) : List Byte :=
  leBytes 1 r.kind ++ [0] ++ leBytes 2 r.target ++ leBytes 4 r.payload.length ++ leBytes 8 r.operand ++
    leBytes 8 0 ++ leBytes 8 r.operand2 ++ takePad ((r.payload.length + 31) / 32 * 32) r.payload

/-- Erased bytes. -/
def erased (n : Nat) : List Byte := List.replicate n 0xFF

/-- A journal entry as it stands in eNVM (R76): the commit record is erased until it is complete. -/
def JEntry.bytes (e : JEntry) : List Byte :=
  let body := e.recs.flatMap journalRecord
  let head := leBytes 4 0x4C4E4A49 ++ leBytes 4 e.jseq ++ leBytes 2 e.recs.length ++ leBytes 2 e.blocks ++
    leBytes 4 (64 + body.length + 64) ++ leBytes 4 e.pcc ++ leBytes 6 e.ot ++ erased 38
  let commit := if e.complete then
      takePad 48 e.digest ++ leBytes 4 e.jseq ++ leBytes 4 0x5A5AA5A5 ++
        (if e.applied then leBytes 4 0 else erased 4) ++ erased 4
    else erased 64
  let all := head ++ body ++ commit
  all ++ erased (256 * e.blocks - all.length)

/-- Byte `o` of the journal region. -/
def journalByte (s : State) (o : Nat) : Byte :=
  let b := o / 256
  match s.ilk.journal.entries.reverse.find? (fun e =>
      s.ilk.journal.dirty.contains (b / 8) && decide ((b + 256 - e.start) % 256 < e.blocks)) with
  | some e => e.bytes.getD (256 * ((b + 256 - e.start) % 256) + o % 256) 0xFF
  | none => 0xFF

/-- Byte `o` of the event log region.
DESIGN CHOICE (log entry 62). -/
def logByte (s : State) (o : Nat) : Byte :=
  let i := o / 64
  match s.evr.slots[(i + logSlots - s.evr.tail) % logSlots]? with
  | some t =>
    let b := t.copy.bytes.getD (o % 64) 0
    if o % 64 = 17 ∧ t.live = false then b &&& 0x7F else b
  | none => 0xFF

/-- A 60-byte record with its CRC-32.
DEDUCED (log entry 78). -/
def withCrc (bs : List Byte) : List Byte := bs ++ leBytes 4 (crc32 bs).toNat

/-- A transition record as it stands in eNVM (R367). -/
def TransRec.bytes (r : TransRec) : List Byte :=
  withCrc (takePad 60 (leBytes 4 0x544C434C ++ leBytes 1 r.step ++ leBytes 1 r.target ++ leBytes 1 r.gen ++ [0] ++
    leBytes 4 r.ticket ++ leBytes 4 r.pcc ++ leBytes 6 r.ot ++ [0, 0] ++ takePad 28 r.digest))

/-- An anti-replay entry as it stands in eNVM (R377). -/
def StaffEntry.bytes (e : StaffEntry) : List Byte :=
  withCrc (takePad 60 (leBytes 4 e.counter ++ leBytes 2 e.scope ++ leBytes 1 e.signer ++ leBytes 1 e.key ++
    leBytes 4 e.pcc ++ leBytes 6 e.ot ++ leBytes 1 e.pending ++ [0] ++ takePad 28 e.digest ++ leBytes 4 e.bound))

/-- Byte `o` of a log of 64-byte entries; erased beyond them.
DEDUCED (log entry 61). -/
def entryByte (es : List (List Byte)) (o : Nat) : Byte := (es.getD (o / 64) []).getD (o % 64) 0xFF

/-- Byte `o` of the life-cycle region (R366, R367): a codeword copy at the start of sectors 0 to 2, the transition
records in sector 3.
DEDUCED (log entry 61). -/
def lifeCycleByte (s : State) (o : Nat) : Byte :=
  if 0x1800 ≤ o then entryByte (s.lcs.trans.map TransRec.bytes) (o - 0x1800)
  else if o % 2048 < 8 then BitVec.ofNat 8 (s.lcs.copies.getD (o / 2048) 0 / 256 ^ (o % 2048))
  else 0xFF

/-- Byte `o` of the Route Book region (R191): the copies that stand in a sector, in the order in which they were appended.
What else the region holds, the lockdown record among it (R337), has no place of its own in the spec: free bytes.
DESIGN CHOICE (log entry 62). -/
def routeByte (s : State) (o : Nat) : Byte :=
  match (((s.home.log.filter (fun x => x.sector == o / 2048 && x.ok)).map (fun x => x.bytes)).flatten)[o % 2048]? with
  | some b => b
  | none => Config.envmByte (0x10002000 + o) s.freeCtr

/-- A byte of the internal map as a reader sees it (R404, R406): the hardware's own eNVM regions are
shown from what the units hold there.
DESIGN CHOICE (log entry 62). -/
def State.rdByte (s : State) (a : Nat) : Byte :=
  if a < 0x10000000 ∨ 0x11000000 ≤ a then s.rdMem a
  else
    let o := a - 0x10000000
    if o < 0x2000 then lifeCycleByte s o
    else if o < 0x42000 then routeByte s (o - 0x2000)
    else if 0x292000 ≤ o ∧ o < 0x294000 then entryByte (s.lcs.staffs.map StaffEntry.bytes) (o - 0x292000)
    else if o < 0x52000 then journalByte s (o - 0x42000)
    else if o < 0x152000 then logByte s (o - 0x52000)
    else s.rdMem a

/-- `n` bytes from `a` on as a reader sees them. -/
def State.rdBytesN (s : State) (a : Nat) : Nat → List Byte
  | 0 => []
  | n + 1 => s.rdByte a :: s.rdBytesN (a + 1) n

end Sys2Proof.Machine
end

