-- ==== Sys2Proof/Machine/Digest.lean ====
section
/-! DEFINITION. The digest and keyed-digest algorithms of R215, each as the standard it is named after gives it: SHA-2
(FIPS 180-4), SHA-3 and SHAKE (FIPS 202), MD5 (RFC 1321), HMAC (FIPS 198-1), KMAC (SP 800-185) and HKDF (RFC 5869). -/

namespace Sys2Proof.Machine

/-- The number a big-endian byte string stands for. -/
def beNat (bs : List Byte) : Nat := bs.foldl (fun a b => 256 * a + b.toNat) 0

/-- The low `n` bytes of `w`, most significant first. -/
def beBytes (n w : Nat) : List Byte := (leBytes n w).reverse

/-- The first `n` 64-bit words of a constant written most significant word first. -/
def words64 (c n : Nat) : List Dword := (List.range n).map (fun i => BitVec.ofNat 64 (c >>> (64 * (n - 1 - i))))

/-- As `words64`, of 32-bit words. -/
def words32 (c n : Nat) : List Word := (List.range n).map (fun i => BitVec.ofNat 32 (c >>> (32 * (n - 1 - i))))

/-- A byte string cut into pieces of `k` bytes, `n` pieces at most. -/
def pieces (k : Nat) : Nat → List Byte → List (List Byte)
  | 0, _ => []
  | n + 1, bs => if bs.isEmpty then [] else bs.take k :: pieces k n (bs.drop k)

/-! ### SHA-2 -/

/-- The round constants of SHA-512; the high halves of the first 64 are those of SHA-256. -/
def shaK : List Dword :=
    words64 0x428a2f98d728ae227137449123ef65cdb5c0fbcfec4d3b2fe9b5dba58189dbbc3956c25bf348b53859f111f1b605d019923f82a4af194f9bab1c5ed5da6d8118d807aa98a303024212835b0145706fbe243185be4ee4b28c550c7dc3d5ffb4e272be5d74f27b896f80deb1fe3b1696b19bdc06a725c71235c19bf174cf692694 16 ++
    words64 0xe49b69c19ef14ad2efbe4786384f25e30fc19dc68b8cd5b5240ca1cc77ac9c652de92c6f592b02754a7484aa6ea6e4835cb0a9dcbd41fbd476f988da831153b5983e5152ee66dfaba831c66d2db43210b00327c898fb213fbf597fc7beef0ee4c6e00bf33da88fc2d5a79147930aa72506ca6351e003826f142929670a0e6e70 16 ++
    words64 0x27b70a8546d22ffc2e1b21385c26c9264d2c6dfc5ac42aed53380d139d95b3df650a73548baf63de766a0abb3c77b2a881c2c92e47edaee692722c851482353ba2bfe8a14cf10364a81a664bbc423001c24b8b70d0f89791c76c51a30654be30d192e819d6ef5218d69906245565a910f40e35855771202a106aa07032bbd1b8 16 ++
    words64 0x19a4c116b8d2d0c81e376c085141ab532748774cdf8eeb9934b0bcb5e19b48a8391c0cb3c5c95a634ed8aa4ae3418acb5b9cca4f7763e373682e6ff3d6b2b8a3748f82ee5defb2fc78a5636f43172f6084c87814a1f0ab728cc702081a6439ec90befffa23631e28a4506cebde82bde9bef9a3f7b2c67915c67178f2e372532b 16 ++
    words64 0xca273eceea26619cd186b8c721c0c207eada7dd6cde0eb1ef57d4f7fee6ed17806f067aa72176fba0a637dc5a2c898a6113f9804bef90dae1b710b35131c471b28db77f523047d8432caab7b40c724933c9ebe0a15c9bebc431d67c49c100d4c4cc5d4becb3e42b6597f299cfc657e2a5fcb6fab3ad6faec6c44198c4a475817 16

/-- Words `i` of a schedule window. -/
def winAt {w : Nat} (l : List (BitVec w)) (i : Nat) : BitVec w := l.getD i 0

/-- The functions in which SHA-256 and SHA-512 differ: the rotations and shifts of the four sigmas. -/
structure ShaKind where
  big0 : Nat × Nat × Nat
  big1 : Nat × Nat × Nat
  small0 : Nat × Nat × Nat
  small1 : Nat × Nat × Nat

/-- SHA-256's rotations. -/
def sha256Kind : ShaKind := ⟨(2, 13, 22), (6, 11, 25), (7, 18, 3), (17, 19, 10)⟩

/-- SHA-512's rotations. -/
def sha512Kind : ShaKind := ⟨(28, 34, 39), (14, 18, 41), (1, 8, 7), (19, 61, 6)⟩

/-- A big sigma: three rotations. -/
def bigSigma {w : Nat} (r : Nat × Nat × Nat) (x : BitVec w) : BitVec w :=
  x.rotateRight r.1 ^^^ x.rotateRight r.2.1 ^^^ x.rotateRight r.2.2

/-- A small sigma: two rotations and a shift. -/
def smallSigma {w : Nat} (r : Nat × Nat × Nat) (x : BitVec w) : BitVec w :=
  x.rotateRight r.1 ^^^ x.rotateRight r.2.1 ^^^ (x >>> r.2.2)

/-- One round: the schedule window moves on and the eight working words are mixed. -/
def shaRound {w : Nat} (k : ShaKind) (x : List (BitVec w) × List (BitVec w)) (c : BitVec w) :
    List (BitVec w) × List (BitVec w) :=
  let win := x.1
  let next := smallSigma k.small1 (winAt win 14) + winAt win 9 + smallSigma k.small0 (winAt win 1) + winAt win 0
  match x.2 with
  | [a, b, d, e, f, g, h, i] =>
    let t1 := i + bigSigma k.big1 f + ((f &&& g) ^^^ (~~~f &&& h)) + c + winAt win 0
    let t2 := bigSigma k.big0 a + ((a &&& b) ^^^ (a &&& d) ^^^ (b &&& d))
    (win.drop 1 ++ [next], [t1 + t2, a, b, d, e + t1, f, g, h])
  | s => (win.drop 1 ++ [next], s)

/-- One block compressed into the chaining words. -/
def shaBlock {w : Nat} (k : ShaKind) (cs : List (BitVec w)) (h : List (BitVec w)) (block : List Byte) :
    List (BitVec w) :=
  let win := (pieces (w / 8) 16 block).map (fun b => BitVec.ofNat w (beNat b))
  List.zipWith (· + ·) h (cs.foldl (shaRound k) (win, h)).2

/-- A message padded for SHA-2 with blocks of `blk` bytes. -/
def shaPad (blk : Nat) (m : List Byte) : List Byte :=
  let tail := blk / 8
  m ++ [0x80#8] ++ List.replicate ((2 * blk - 1 - tail - m.length % blk) % blk) 0 ++ beBytes tail (8 * m.length)

/-- A SHA-2 digest from its initial words, before truncation. -/
def sha2 {w : Nat} (k : ShaKind) (cs iv : List (BitVec w)) (m : List Byte) : List Byte :=
  let blk := 2 * w
  let p := shaPad blk m
  ((pieces blk (p.length / blk) p).foldl (shaBlock k cs) iv).flatMap (fun x => beBytes (w / 8) x.toNat)

/-- The initial words of SHA-512. -/
def iv512 : List Dword := words64 0x6a09e667f3bcc908bb67ae8584caa73b3c6ef372fe94f82ba54ff53a5f1d36f1510e527fade682d19b05688c2b3e6c1f1f83d9abfb41bd6b5be0cd19137e2179 8

/-- The initial words of SHA-384. -/
def iv384 : List Dword := words64 0xcbbb9d5dc1059ed8629a292a367cd5079159015a3070dd17152fecd8f70e593967332667ffc00b318eb44a8768581511db0c2e0d64f98fa747b5481dbefa4fa4 8

/-- The high half of a 64-bit word. -/
def highHalf (x : Dword) : Word := BitVec.ofNat 32 (x.toNat / 2 ^ 32)

/-- SHA-512. -/
@[irreducible] def sha512 (m : List Byte) : List Byte := takePad 64 (sha2 sha512Kind shaK iv512 m)

/-- SHA-384. -/
@[irreducible] def sha384 (m : List Byte) : List Byte := takePad 48 (sha2 sha512Kind shaK iv384 m)

/-- SHA-256. -/
@[irreducible] def sha256 (m : List Byte) : List Byte :=
  takePad 32 (sha2 sha256Kind ((shaK.take 64).map highHalf) (iv512.map highHalf) m)

/-! ### SHA-3, SHAKE and KMAC -/

/-- The round constants of Keccak-f[1600]. -/
def keccakRc : List Dword :=
    words64 0x00000000000000010000000000008082800000000000808a8000000080008000000000000000808b000000008000000180000000800080818000000000008009000000000000008a00000000000000880000000080008009000000008000000a 12 ++
    words64 0x000000008000808b800000000000008b8000000000008089800000000000800380000000000080028000000000000080000000000000800a800000008000000a8000000080008081800000000000808000000000800000018000000080008008 12

/-- Lane `i` of a Keccak state. -/
def kLane (a : List Dword) (i : Nat) : Dword := a.getD i 0

/-- For each lane after rho and pi: the lane it comes from and its rotation. -/
def rhoPi : List (Nat × Nat) :=
    [(0, 0), (6, 44), (12, 43), (18, 21), (24, 14), (3, 28), (9, 20), (10, 3), (16, 45), (22, 61), (1, 1), (7, 6), (13, 25)] ++
    [(19, 8), (20, 18), (4, 27), (5, 36), (11, 10), (17, 15), (23, 56), (2, 62), (8, 55), (14, 39), (15, 41), (21, 2)]

/-- One round of Keccak-f[1600]. -/
def keccakRound (a : List Dword) (rc : Dword) : List Dword :=
  let col := (List.range 5).map (fun x =>
    kLane a x ^^^ kLane a (x + 5) ^^^ kLane a (x + 10) ^^^ kLane a (x + 15) ^^^ kLane a (x + 20))
  let d := (List.range 5).map (fun x => kLane col ((x + 4) % 5) ^^^ (kLane col ((x + 1) % 5)).rotateLeft 1)
  let t := (List.range 25).map (fun i => kLane a i ^^^ kLane d (i % 5))
  let b := rhoPi.map (fun p => (kLane t p.1).rotateLeft p.2)
  (List.range 25).map (fun i =>
    let y := i / 5 * 5
    let v := kLane b i ^^^ (~~~(kLane b (y + (i + 1) % 5)) &&& kLane b (y + (i + 2) % 5))
    if i = 0 then v ^^^ rc else v)

/-- Keccak-f[1600]. -/
def keccakF (a : List Dword) : List Dword := keccakRc.foldl keccakRound a

/-- A block of at most 200 bytes as lanes, the rest 0. -/
def lanesOf (block : List Byte) : List Dword :=
  let p := block ++ List.replicate (200 - block.length) 0
  (pieces 8 25 p).map (fun b => BitVec.ofNat 64 (leNat b))

/-- The bytes of a state. -/
def laneBytes (a : List Dword) : List Byte := a.flatMap (fun x => leBytes 8 x.toNat)

/-- `n` blocks of `rate` bytes squeezed from a state. -/
def squeeze (rate : Nat) : Nat → List Dword → List Byte
  | 0, _ => []
  | n + 1, a => (laneBytes a).take rate ++ squeeze rate n (keccakF a)

/-- The sponge with rate `rate` and domain bits `dom`, `len` bytes out. -/
@[irreducible] def sponge (rate : Nat) (dom : Byte) (len : Nat) (m : List Byte) : List Byte :=
  let fill := rate - 1 - m.length % rate
  let p := if fill = 0 then m ++ [dom ||| 0x80#8] else m ++ [dom] ++ List.replicate (fill - 1) 0 ++ [0x80#8]
  let a := (pieces rate (p.length / rate) p).foldl (fun a b => keccakF (List.zipWith (· ^^^ ·) a (lanesOf b)))
    (List.replicate 25 0)
  (squeeze rate ((len + rate - 1) / rate) a).take len

/-- SHAKE128 with `len` bytes out. -/
def shake128 (len : Nat) (m : List Byte) : List Byte := sponge 168 0x1F#8 len m

/-- SHAKE256 with `len` bytes out. -/
def shake256 (len : Nat) (m : List Byte) : List Byte := sponge 136 0x1F#8 len m

/-- The bytes of a number below 2^32, without leading zero bytes, at least one. -/
def minBytes (x : Nat) : List Byte :=
  beBytes (if x < 256 then 1 else if x < 65536 then 2 else if x < 16777216 then 3 else 4) x

/-- left_encode of SP 800-185. -/
def leftEncode (x : Nat) : List Byte := BitVec.ofNat 8 (minBytes x).length :: minBytes x

/-- right_encode of SP 800-185. -/
def rightEncode (x : Nat) : List Byte := minBytes x ++ [BitVec.ofNat 8 (minBytes x).length]

/-- encode_string of SP 800-185. -/
def encodeString (s : List Byte) : List Byte := leftEncode (8 * s.length) ++ s

/-- bytepad of SP 800-185. -/
def bytepad (rate : Nat) (x : List Byte) : List Byte :=
  let y := leftEncode rate ++ x
  y ++ List.replicate ((rate - y.length % rate) % rate) 0

/-- KMAC with an empty customisation string, `len` bytes out. -/
def kmac (rate len : Nat) (key m : List Byte) : List Byte :=
  let name : List Byte := [0x4B#8, 0x4D#8, 0x41#8, 0x43#8]
  sponge rate 0x04#8 len (bytepad rate (encodeString name ++ encodeString []) ++ bytepad rate (encodeString key) ++ m ++
    rightEncode (8 * len))

/-! ### MD5 -/

/-- The additive constants of MD5. -/
def md5K : List Word :=
    words32 0xd76aa478e8c7b756242070dbc1bdceeef57c0faf4787c62aa8304613fd469501698098d88b44f7afffff5bb1895cd7be6b901122fd987193a679438e49b40821f61e2562c040b340265e5a51e9b6c7aad62f105d02441453d8a1e681e7d3fbc821e1cde6c33707d6f4d50d87455a14eda9e3e905fcefa3f8676f02d98d2a4c8a 32 ++
    words32 0xfffa39428771f6816d9d6122fde5380ca4beea444bdecfa9f6bb4b60bebfbc70289b7ec6eaa127fad4ef308504881d05d9d4d039e6db99e51fa27cf8c4ac5665f4292244432aff97ab9423a7fc93a039655b59c38f0ccc92ffeff47d85845dd16fa87e4ffe2ce6e0a30143144e0811a1f7537e82bd3af2352ad7d2bbeb86d391 32

/-- The rotations of MD5's four rounds. -/
def md5Rot : List Nat := [7, 12, 17, 22, 5, 9, 14, 20, 4, 11, 16, 23, 6, 10, 15, 21]

/-- One step of MD5: `i` its number. -/
def md5Step (ws : List Word) (s : List Word) (i : Nat) : List Word :=
  match s with
  | [a, b, c, d] =>
    let r := i / 16
    let f := if r = 0 then (b &&& c) ||| (~~~b &&& d) else if r = 1 then (d &&& b) ||| (~~~d &&& c)
      else if r = 2 then b ^^^ c ^^^ d else c ^^^ (b ||| ~~~d)
    let g := if r = 0 then i else if r = 1 then (5 * i + 1) % 16 else if r = 2 then (3 * i + 5) % 16 else 7 * i % 16
    let x := a + f + md5K.getD i 0 + ws.getD g 0
    [d, b + x.rotateLeft (md5Rot.getD (4 * r + i % 4) 0), b, c]
  | s => s

/-- MD5. -/
@[irreducible] def md5 (m : List Byte) : List Byte :=
  let p := m ++ [0x80#8] ++ List.replicate ((119 - m.length % 64) % 64) 0 ++ leBytes 8 (8 * m.length)
  let block (h : List Word) (b : List Byte) : List Word :=
    List.zipWith (· + ·) h ((List.range 64).foldl (md5Step ((pieces 4 16 b).map (fun x => BitVec.ofNat 32 (leNat x)))) h)
  ((pieces 64 (p.length / 64) p).foldl block (words32 0x67452301efcdab8998badcfe10325476 4)).flatMap
    (fun x => leBytes 4 x.toNat)

/-! ### HMAC and HKDF -/

/-- HMAC over a hash with blocks of `blk` bytes. -/
def hmac (hash : List Byte → List Byte) (blk : Nat) (key m : List Byte) : List Byte :=
  let k := if blk < key.length then hash key else key
  let k := k ++ List.replicate (blk - k.length) 0
  hash (k.map (· ^^^ 0x5C#8) ++ hash (k.map (· ^^^ 0x36#8) ++ m))

/-- HMAC-SHA-384. -/
def hmac384 (key m : List Byte) : List Byte := hmac sha384 128 key m

/-- HKDF-Extract with SHA-384. -/
def hkdfExtract (salt ikm : List Byte) : List Byte := hmac384 salt ikm

/-- HKDF-Expand with SHA-384, for up to 48 bytes. -/
def hkdfExpand (prk info : List Byte) (len : Nat) : List Byte := (hmac384 prk (info ++ [1#8])).take len

/-! ### The identifiers of R215 -/

/-- The digest of a message under an algorithm identifier, with its key where it has one (R215); no bytes for an
identifier that names no algorithm. -/
def digest (alg : Nat) (key m : List Byte) : List Byte :=
  match alg with
  | 0x01 => sha256 m
  | 0x02 => sha384 m
  | 0x03 => sha512 m
  | 0x04 => sponge 136 0x06#8 32 m
  | 0x05 => sponge 104 0x06#8 48 m
  | 0x06 => sponge 72 0x06#8 64 m
  | 0x07 => shake128 32 m
  | 0x08 => shake256 64 m
  | 0x09 => md5 m
  | 0x11 => hmac sha256 64 key m
  | 0x12 => hmac384 key m
  | 0x13 => hmac sha512 128 key m
  | 0x18 => kmac 168 32 key m
  | 0x19 => kmac 136 64 key m
  | _ => []

end Sys2Proof.Machine
end

