-- ==== Sys2Proof/Machine/Aes.lean ====
section
/-! DEFINITION. AES-256 (FIPS 197) in Galois/Counter mode (SP 800-38D) with a 12-byte IV and a 16-byte tag (R234). -/

namespace Sys2Proof.Machine

/-- The S-box of AES. -/
def sbox : List Byte :=
  beBytes 64 0x637c777bf26b6fc53001672bfed7ab76ca82c97dfa5947f0add4a2af9ca472c0b7fd9326363ff7cc34a5e5f171d8311504c723c31896059a071280e2eb27b275 ++
  beBytes 64 0x09832c1a1b6e5aa0523bd6b329e32f8453d100ed20fcb15b6acbbe394a4c58cfd0efaafb434d338545f9027f503c9fa851a3408f929d38f5bcb6da2110fff3d2 ++
  beBytes 64 0xcd0c13ec5f974417c4a77e3d645d197360814fdc222a908846eeb814de5e0bdbe0323a0a4906245cc2d3ac629195e479e7c8376d8dd54ea96c56f4ea657aae08 ++
  beBytes 64 0xba78252e1ca6b4c6e8dd741f4bbd8b8a703eb5664803f60e613557b986c11d9ee1f8981169d98e949b1e87e9ce5528df8ca1890dbfe6426841992d0fb054bb16

/-- The S-box at a byte. -/
def subByte (b : Byte) : Byte := sbox.getD b.toNat 0

/-- Multiplication by x in AES's field. -/
def xtime (b : Byte) : Byte := if b.getLsbD 7 then (b <<< 1) ^^^ 0x1B#8 else b <<< 1

/-- One step of the key expansion: word `i` from the `8` words before it. -/
def keyWord (ws : List (List Byte)) (i : Nat) : List (List Byte) :=
  let last := ws.getD (i - 1) []
  let t := if i % 8 = 0 then
      let r := (last.drop 1 ++ last.take 1).map subByte
      (r.headD 0 ^^^ BitVec.ofNat 8 (2 ^ (i / 8 - 1))) :: r.drop 1
    else if i % 8 = 4 then last.map subByte else last
  ws ++ [List.zipWith (· ^^^ ·) (ws.getD (i - 8) []) t]

/-- The 15 round keys of a 32-byte key. -/
def roundKeys (key : List Byte) : List (List Byte) :=
  let ws := (List.range' 8 52).foldl keyWord (pieces 4 8 key)
  pieces 16 15 ws.flatten

/-- ShiftRows on 16 bytes in column order. -/
def shiftRows (s : List Byte) : List Byte := (List.range 16).map (fun i => s.getD ((i + 4 * (i % 4)) % 16) 0)

/-- MixColumns on one column. -/
def mixColumn (c : List Byte) : List Byte :=
  (List.range 4).map (fun i =>
    let a := c.getD i 0
    let b := c.getD ((i + 1) % 4) 0
    xtime a ^^^ xtime b ^^^ b ^^^ c.getD ((i + 2) % 4) 0 ^^^ c.getD ((i + 3) % 4) 0)

/-- One round of the cipher; the last has no MixColumns. -/
def aesRound (last : Bool) (s k : List Byte) : List Byte :=
  let t := shiftRows (s.map subByte)
  let t := if last then t else (pieces 4 4 t).flatMap mixColumn
  List.zipWith (· ^^^ ·) t k

/-- AES-256 of one block under expanded keys. -/
def aesBlock (ks : List (List Byte)) (b : List Byte) : List Byte :=
  let s := List.zipWith (· ^^^ ·) b (ks.getD 0 [])
  aesRound true (((ks.drop 1).take 13).foldl (aesRound false) s) (ks.getD 14 [])

/-- Multiplication in GCM's field, the first bit of a block the most significant. -/
def gcmMul (x y : BitVec 128) : BitVec 128 :=
  ((List.range 128).foldl (fun (z : BitVec 128 × BitVec 128) i =>
    let v := z.2
    ((if x.getMsbD i then z.1 ^^^ v else z.1),
      if v.getLsbD 0 then (v >>> 1) ^^^ (0xE1#128 <<< 120) else v >>> 1)) (0, y)).1

/-- A byte string filled with 0 to whole blocks. -/
def padBlocks (m : List Byte) : List Byte := m ++ List.replicate ((16 - m.length % 16) % 16) 0

/-- GHASH of a byte string of whole blocks. -/
def ghash (h : BitVec 128) (m : List Byte) : BitVec 128 :=
  (pieces 16 (m.length / 16) m).foldl (fun a b => gcmMul (a ^^^ BitVec.ofNat 128 (beNat b)) h) 0

/-- Counter mode from counter `c`. -/
def gcmCtr (ks : List (List Byte)) (iv : List Byte) (c : Nat) (m : List Byte) : List Byte :=
  let n := (m.length + 15) / 16
  List.zipWith (· ^^^ ·) m ((List.range n).flatMap (fun i => aesBlock ks (iv ++ beBytes 4 (c + i))))

/-- The tag of a ciphertext. -/
def gcmTag (ks : List (List Byte)) (iv aad c : List Byte) : List Byte :=
  let h := BitVec.ofNat 128 (beNat (aesBlock ks (List.replicate 16 0)))
  let g := ghash h (padBlocks aad ++ padBlocks c ++ beBytes 8 (8 * aad.length) ++ beBytes 8 (8 * c.length))
  List.zipWith (· ^^^ ·) (beBytes 16 g.toNat) (aesBlock ks (iv ++ beBytes 4 1))

/-- Encryption: the ciphertext and its 16-byte tag. -/
@[irreducible] def aeadSeal (key iv aad plain : List Byte) : List Byte :=
  let ks := roundKeys key
  let c := gcmCtr ks iv 2 plain
  c ++ gcmTag ks iv aad c

/-- Decryption: none where the tag does not agree. -/
@[irreducible] def aeadOpen (key iv aad sealed : List Byte) : Option (List Byte) :=
  let ks := roundKeys key
  let c := sealed.take (sealed.length - 16)
  if 16 ≤ sealed.length ∧ gcmTag ks iv aad c = sealed.drop (sealed.length - 16) then some (gcmCtr ks iv 2 c) else none

end Sys2Proof.Machine
end

