-- ==== Sys2Proof/Machine/Curve.lean ====
section
/-! DEFINITION. The elliptic curve P-384 (SP 800-186) and what R234 does on it: ECDSA (FIPS 186-5) and ECDH
(SP 800-56A), with public keys as 0x04, x, y. -/

namespace Sys2Proof.Machine

/-- The field prime. -/
def pP : Nat := 2 ^ 384 - 2 ^ 128 - 2 ^ 96 + 2 ^ 32 - 1

/-- The order of the base point. -/
def pN : Nat :=
  0xffffffffffffffffffffffffffffffffffffffffffffffffc7634d81f4372ddf581a0db248b0a77aecec196accc52973

/-- The curve's b. -/
def pB : Nat :=
  0xb3312fa7e23ee7e4988e056be3f82d19181d9c6efe8141120314088f5013875ac656398d8a2ed19d2a85c8edd3ec2aef

/-- A point: none is the point at infinity. -/
abbrev EcPoint := Option (Nat × Nat)

/-- The base point. -/
def pG : EcPoint :=
  some (0xaa87ca22be8b05378eb1c71ef320ad746e1d3b628ba79b9859f741e082542a385502f25dbf55296c3a545e3872760ab7,
    0x3617de4a96262c6f5d9e98bf9292dc29f8f41dbd289a147ce9da3113b5f0b8c00a60b1ce1d7e819d7a431d7c90ea0e5f)

/-- `b` to the power `e` below 2^`n`, modulo `m`, from the top bit down. -/
def modExp (m b e n : Nat) : Nat :=
  (List.range n).foldl (fun a i => (if e.testBit (n - 1 - i) then a * a % m * b else a * a) % m) (1 % m)

/-- The inverse modulo a prime. -/
def modInv (m x : Nat) : Nat := modExp m x (m - 2) 384

/-- The difference modulo `pP`. -/
def subP (a b : Nat) : Nat := (a + pP - b % pP) % pP

/-- The point on a line through (x1, y1) with slope `l` whose other point has abscissa x2. -/
def ecChord (l x1 y1 x2 : Nat) : EcPoint :=
  let x := subP (subP (l * l % pP) x1) x2
  some (x, subP (l * subP x1 x % pP) y1)

/-- Addition of points. -/
def ecAdd (a b : EcPoint) : EcPoint :=
  match a, b with
  | none, q => q
  | p, none => p
  | some (x1, y1), some (x2, y2) =>
    if x1 = x2 then
      if (y1 + y2) % pP = 0 then none
      else ecChord ((3 * x1 * x1 + (pP - 3)) * modInv pP (2 * y1 % pP) % pP) x1 y1 x2
    else ecChord (subP y2 y1 * modInv pP (subP x2 x1) % pP) x1 y1 x2

/-- A point taken `k` times, `k` below 2^384. -/
@[irreducible] def ecMul (k : Nat) (p : EcPoint) : EcPoint :=
  (List.range 384).foldl (fun a i =>
    let d := ecAdd a a
    if k.testBit (383 - i) then ecAdd d p else d) none

/-- Whether coordinates lie on the curve. -/
def onCurve (x y : Nat) : Bool :=
  decide (x < pP) && decide (y < pP) && decide (y * y % pP = (x * x * x + (pP - 3) * x + pB) % pP)

/-- The point that 97 bytes stand for: none where they are malformed or no point of the curve (R234). -/
@[irreducible] def ecDecode (k : List Byte) : EcPoint :=
  let x := beNat ((k.drop 1).take 48)
  let y := beNat (k.drop 49)
  if k.length = 97 ∧ k.headD 0 = 4#8 ∧ onCurve x y = true then some (x, y) else none

/-- The 97 bytes of a point. -/
def ecEncode : EcPoint → List Byte
  | some (x, y) => 4#8 :: (beBytes 48 x ++ beBytes 48 y)
  | none => List.replicate 97 0

/-- A private key from bytes: a number from 1 to the order less 1. -/
def ecScalar (d : List Byte) : Nat := 1 + beNat d % (pN - 1)

/-- The public key of a private key. -/
@[irreducible] def ecPublic (d : List Byte) : List Byte := ecEncode (ecMul (ecScalar d) pG)

/-- The shared secret of a private key and a peer's point: the abscissa. -/
def ecShared (d : List Byte) (q : EcPoint) : List Byte :=
  match ecMul (ecScalar d) q with
  | some (x, _) => beBytes 48 x
  | none => List.replicate 48 0

/-- An ECDSA signature of a 48-byte digest with nonce `k`; none where the nonce yields none. -/
@[irreducible] def ecdsaWith (d : List Byte) (dig : List Byte) (k : Nat) : Option (List Byte) :=
  match ecMul k pG with
  | none => none
  | some (x, _) =>
    let r := x % pN
    let s := modInv pN k * (beNat dig + r * ecScalar d) % pN
    if r = 0 ∨ s = 0 then none else some (beBytes 48 r ++ beBytes 48 s)

/-- Whether a signature of a 48-byte digest verifies under a public key; a malformed key verifies nothing. -/
@[irreducible] def ecdsaVerify (key dig sig : List Byte) : Bool :=
  match ecDecode key with
  | none => false
  | some q =>
    let r := beNat (sig.take 48)
    let s := beNat ((sig.drop 48).take 48)
    if r = 0 ∨ pN ≤ r ∨ s = 0 ∨ pN ≤ s ∨ sig.length ≠ 96 then false
    else
      let w := modInv pN s
      match ecAdd (ecMul (beNat dig * w % pN) pG) (ecMul (r * w % pN) (some q)) with
      | none => false
      | some (x, _) => decide (x % pN = r)

end Sys2Proof.Machine
end

