-- ==== Sys2Proof/Machine/Lms.lean ====
section
/-! DEFINITION. Verification of LMS signatures (RFC 8554, SP 800-208), single tree, with SHA-256/192 and SHA-256, tree
heights 5 to 25 (R234). -/

namespace Sys2Proof.Machine

/-- What a parameter-set number of LMS fixes: digest bytes and tree height. -/
def lmsParams (t : Nat) : Option (Nat × Nat) :=
  if 5 ≤ t ∧ t ≤ 9 then some (32, 5 * (t - 4)) else if 10 ≤ t ∧ t ≤ 14 then some (24, 5 * (t - 9)) else none

/-- What a parameter-set number of LM-OTS fixes: digest bytes, Winternitz bits, chains, checksum shift. -/
def otsParams : Nat → Option (Nat × Nat × Nat × Nat)
  | 1 => some (32, 1, 265, 7)
  | 2 => some (32, 2, 133, 6)
  | 3 => some (32, 4, 67, 4)
  | 4 => some (32, 8, 34, 0)
  | 5 => some (24, 1, 200, 8)
  | 6 => some (24, 2, 101, 6)
  | 7 => some (24, 4, 51, 4)
  | 8 => some (24, 8, 26, 0)
  | _ => none

/-- The digest of LMS with `n` bytes. -/
def lmsHash (n : Nat) (m : List Byte) : List Byte := (sha256 m).take n

/-- Digit `i` of `w` bits of a byte string. -/
def coefAt (s : List Byte) (i w : Nat) : Nat :=
  ((s.getD (i * w / 8) 0).toNat >>> (8 - (w * (i % (8 / w)) + w))) % 2 ^ w

/-- The checksum of a digest's digits, as two bytes. -/
def otsChecksum (q : List Byte) (n w ls : Nat) : List Byte :=
  beBytes 2 ((((List.range (8 * n / w)).map (fun i => 2 ^ w - 1 - coefAt q i w)).sum) <<< ls)

/-- `k` steps along a chain from position `a`. -/
def otsChain (n : Nat) (pre : List Byte) (a : Nat) : Nat → List Byte → List Byte
  | 0, t => t
  | k + 1, t => otsChain n pre (a + 1) k (lmsHash n (pre ++ beBytes 1 a ++ t))

/-- The public key candidate of an LM-OTS signature. -/
def otsCandidate (n w p ls : Nat) (idq sig m : List Byte) : List Byte :=
  let c := (sig.drop 4).take n
  let q := lmsHash n (idq ++ beBytes 2 0x8181 ++ c ++ m)
  let digits := q ++ otsChecksum q n w ls
  let z := (List.range p).flatMap (fun i =>
    let a := coefAt digits i w
    otsChain n (idq ++ beBytes 2 i) a (2 ^ w - 1 - a) ((sig.drop (4 + n + n * i)).take n))
  lmsHash n (idq ++ beBytes 2 0x8080 ++ z)

/-- One step up the tree: the node number and value with the path's next value. -/
def lmsUp (n : Nat) (id : List Byte) (x : Nat × List Byte) (sib : List Byte) : Nat × List Byte :=
  let pair := if x.1 % 2 = 1 then sib ++ x.2 else x.2 ++ sib
  (x.1 / 2, lmsHash n (id ++ beBytes 4 (x.1 / 2) ++ beBytes 2 0x8383 ++ pair))

/-- Whether an LMS signature verifies; a malformed key or signature, and a parameter set outside R234's, do not. -/
@[irreducible] def lmsVerify (key m sig : List Byte) : Bool :=
  let t := beNat (key.take 4)
  let o := beNat ((key.drop 4).take 4)
  match lmsParams t, otsParams o with
  | some (n, h), some (on, w, p, ls) =>
    let id := (key.drop 8).take 16
    let q := beNat (sig.take 4)
    let len := 4 + n * (p + 1)
    if n ≠ on ∨ key.length ≠ 24 + n ∨ sig.length ≠ 8 + len + n * h ∨ beNat ((sig.drop 4).take 4) ≠ o ∨
        beNat ((sig.drop (4 + len)).take 4) ≠ t ∨ 2 ^ h ≤ q then false
    else
      let kc := otsCandidate n w p ls (id ++ beBytes 4 q) ((sig.drop 4).take len) m
      let leaf := lmsHash n (id ++ beBytes 4 (2 ^ h + q) ++ beBytes 2 0x8282 ++ kc)
      decide (((pieces n h (sig.drop (8 + len))).foldl (lmsUp n id) (2 ^ h + q, leaf)).2 = key.drop 24)
  | _, _ => false

end Sys2Proof.Machine
end

