-- ==== Sys2Proof/Machine/MlDsa.lean ====
section
/-! DEFINITION. ML-DSA-87 (FIPS 204): key generation from a seed, signing with its rejection candidates in counter order,
verification; the pure form with an empty context string (R234, R235). -/

namespace Sys2Proof.Machine

/-- The modulus. -/
def dQ : Nat := 8380417

/-- The bound of the mask's coefficients. -/
def dGamma1 : Nat := 2 ^ 19

/-- The rounding range. -/
def dGamma2 : Nat := 261888

/-- The challenge's weight. -/
def dTau : Nat := 60

/-- The bound on challenge times secret. -/
def dBeta : Nat := 120

/-- The largest number of hints. -/
def dOmega : Nat := 75

/-- Rows and columns of the matrix. -/
def dRows : Nat := 8
def dCols : Nat := 7

/-- 256 coefficients modulo `dQ`. -/
abbrev Poly := List Nat

/-! ### Polynomials -/

/-- Sum of polynomials. -/
def polyAdd (a b : Poly) : Poly := List.zipWith (fun x y => (x + y) % dQ) a b

/-- Difference of polynomials. -/
def polySub (a b : Poly) : Poly := List.zipWith (fun x y => (x + dQ - y) % dQ) a b

/-- Coefficientwise product. -/
def polyMul (a b : Poly) : Poly := List.zipWith (fun x y => x * y % dQ) a b

/-- The zero polynomial. -/
def polyZero : Poly := List.replicate 256 0

/-- The distance of a coefficient from 0 modulo `dQ`. -/
def coefNorm (x : Nat) : Nat := min x (dQ - x)

/-- Whether every coefficient lies closer to 0 than `b`. -/
def normBelow (b : Nat) (v : List Poly) : Bool := v.all (fun p => p.all (fun x => decide (coefNorm x < b)))

/-- The powers of a number, `n` of them. -/
def powersOf (x : Nat) : Nat → Nat → List Nat
  | _, 0 => []
  | a, n + 1 => a :: powersOf x (a * x % dQ) n

/-- The bits of an 8-bit number in reverse. -/
def brv8 (m : Nat) : Nat := ((List.range 8).map (fun i => m / 2 ^ i % 2 * 2 ^ (7 - i))).sum

/-- The roots of unity in the order the transform takes them: 1753 to the power brv8(m). -/
def zetas : List Nat :=
  let p := powersOf 1753 1 256
  (List.range 256).map (fun m => p.getD (brv8 m) 0)

/-- The inverses of `zetas`. -/
def zetasInv : List Nat :=
  let p := powersOf 1753 1 512
  (List.range 256).map (fun m => p.getD ((512 - brv8 m) % 512) 0)

/-- The transform of 2^`n` coefficients at node `m`. -/
def nttAt (zs : List Nat) : Nat → Nat → Poly → Poly
  | 0, _, p => p
  | n + 1, m, p =>
    let a := p.take (2 ^ n)
    let t := (p.drop (2 ^ n)).map (fun x => zs.getD m 0 * x % dQ)
    nttAt zs n (2 * m) (polyAdd a t) ++ nttAt zs n (2 * m + 1) (polySub a t)

/-- The number-theoretic transform. -/
def ntt (p : Poly) : Poly := nttAt zetas 8 1 p

/-- The inverse of `nttAt`, up to a factor 2 a level. -/
def nttInvAt (zs : List Nat) : Nat → Nat → Poly → Poly
  | 0, _, p => p
  | n + 1, m, p =>
    let a := nttInvAt zs n (2 * m) (p.take (2 ^ n))
    let b := nttInvAt zs n (2 * m + 1) (p.drop (2 ^ n))
    polyAdd a b ++ (polySub a b).map (fun x => zs.getD m 0 * x % dQ)

/-- The inverse transform: 8347681 is the inverse of 256. -/
def nttInv (p : Poly) : Poly := (nttInvAt zetasInv 8 1 p).map (fun x => x * 8347681 % dQ)

/-- A matrix in the transform's domain applied to a vector there. -/
def matVec (a : List (List Poly)) (v : List Poly) : List Poly :=
  a.map (fun row => (List.zipWith polyMul row v).foldl polyAdd polyZero)

/-! ### Sampling -/

/-- Coefficients below `dQ` from a stream, three bytes each. -/
def uniformCoefs : List Byte → List Nat
  | a :: b :: c :: bs =>
    let z := a.toNat + 256 * b.toNat + 65536 * (c.toNat % 128)
    if z < dQ then z :: uniformCoefs bs else uniformCoefs bs
  | _ => []

/-- A uniform polynomial: the stream is read to 1,344 bytes. -/
def uniformPoly (seed : List Byte) : Poly := (uniformCoefs (shake128 1344 seed)).take 256

/-- The matrix of a seed. -/
def expandA (rho : List Byte) : List (List Poly) :=
  (List.range dRows).map (fun r => (List.range dCols).map (fun s => uniformPoly (rho ++ leBytes 1 s ++ leBytes 1 r)))

/-- A coefficient from -2 to 2 of a half byte; none where it is refused. -/
def smallCoef (b : Nat) : Option Nat := if b < 15 then some ((2 + dQ - b % 5) % dQ) else none

/-- A secret polynomial with coefficients from -2 to 2: the stream is read to 544 bytes. -/
def smallPoly (seed : List Byte) : Poly :=
  ((shake256 544 seed).flatMap (fun b => [b.toNat % 16, b.toNat / 16])).filterMap smallCoef |>.take 256

/-- The `n` secret polynomials from number `k` on. -/
def smallVec (rho : List Byte) (k n : Nat) : List Poly :=
  (List.range n).map (fun r => smallPoly (rho ++ leBytes 2 (k + r)))

/-- Coefficients of `w` bits, least significant first. -/
def unpackBits (w : Nat) (n : Nat) (bs : List Byte) : List Nat :=
  let x := leNat bs
  (List.range n).map (fun i => (x >>> (w * i)) % 2 ^ w)

/-- Coefficients packed in `w` bits each. -/
def packBits (w : Nat) (p : List Nat) : List Byte :=
  leBytes (w * p.length / 8) (p.foldr (fun x a => x + a <<< w) 0)

/-- A mask polynomial or a response from 640 bytes. -/
def unpackZ (bs : List Byte) : Poly := (unpackBits 20 256 bs).map (fun v => (dGamma1 + dQ - v) % dQ)

/-- A response polynomial in 640 bytes. -/
def packZ (p : Poly) : List Byte := packBits 20 (p.map (fun x => (dGamma1 + dQ - x) % dQ))

/-- The mask of a candidate. -/
def expandMask (rho : List Byte) (kappa : Nat) : List Poly :=
  (List.range dCols).map (fun r => unpackZ (shake256 640 (rho ++ leBytes 2 (kappa + r))))

/-- The places of the challenge's coefficients: for each `i` the first byte of the stream not above it. -/
def ballGo : List Nat → List Byte → Nat → Poly → Poly
  | [], _, _, c => c
  | _ :: _, [], _, c => c
  | i :: is, b :: bs, sg, c =>
    if i < b.toNat then ballGo (i :: is) bs sg c
    else ballGo is bs (sg / 2) ((c.set i (c.getD b.toNat 0)).set b.toNat (if sg % 2 = 1 then dQ - 1 else 1))
termination_by structural _ bs => bs

/-- The challenge polynomial of 64 bytes: the stream is read to 544 bytes. -/
def sampleInBall (c : List Byte) : Poly :=
  let s := shake256 544 c
  ballGo (List.range' (256 - dTau) dTau) (s.drop 8) (leNat (s.take 8)) polyZero

/-! ### Rounding and hints -/

/-- Decompose: high part, and low part modulo `dQ`. -/
def decompose (r : Nat) : Nat × Nat :=
  let a := 2 * dGamma2
  let r0 := r % a
  let low := if r0 ≤ dGamma2 then r0 else r0 + dQ - a
  if (r + dQ - low) % dQ = dQ - 1 then (0, (low + dQ - 1) % dQ)
  else ((r + dQ - low) % dQ / a, low % dQ)

/-- The high part. -/
def highOf (r : Nat) : Nat := (decompose r).1

/-- The high part a hint recovers. -/
def useHint (h r : Nat) : Nat :=
  let d := decompose r
  if h = 0 then d.1 else if 0 < d.2 ∧ d.2 ≤ dGamma2 then (d.1 + 1) % 16 else (d.1 + 15) % 16

/-- The high parts of a vector in 4 bits each. -/
def packW1 (w : List Poly) : List Byte := w.flatMap (packBits 4)

/-- The places of the hints of a polynomial. -/
def hintPlaces (h : Poly) : List Nat := (List.range 256).filter (fun j => h.getD j 0 == 1)

/-- The hints in 83 bytes. -/
def packHints (h : List Poly) : List Byte :=
  let ps := h.map hintPlaces
  let flat := ps.flatten
  let ends := (List.range dRows).map (fun i => (ps.take (i + 1)).flatten.length)
  (flat ++ List.replicate (dOmega - flat.length) 0 ++ ends).map (fun x => BitVec.ofNat 8 x)

/-- Whether numbers strictly rise. -/
def hintsRise : List Nat → Bool
  | a :: b :: r => decide (a < b) && hintsRise (b :: r)
  | _ => true

/-- Hints from their places and the ends of the rows; none where they are malformed. -/
def hintRows (y : List Nat) : List Nat → Nat → Option (List Poly)
  | [], i => if (y.drop i).all (· == 0) then some [] else none
  | e :: es, i =>
    let ps := (y.drop i).take (e - i)
    if e < i ∨ dOmega < e ∨ hintsRise ps = false then none
    else (hintRows y es e).map (fun r => ((List.range 256).map (fun j => if ps.contains j then 1 else 0)) :: r)

/-- Hints from 83 bytes. -/
def unpackHints (bs : List Byte) : Option (List Poly) :=
  hintRows ((bs.take dOmega).map BitVec.toNat) ((bs.drop dOmega).map BitVec.toNat) 0

/-! ### Keys, signing, verification -/

/-- What a key's seed expands to. -/
structure MlKey where
  rho : List Byte
  signSeed : List Byte
  tr : List Byte
  a : List (List Poly)
  s1 : List Poly
  s2 : List Poly
  t0 : List Poly
  pub : List Byte

/-- The key of a 32-byte seed. -/
def mlKey (xi : List Byte) : MlKey :=
  let x := shake256 128 (xi ++ leBytes 1 dRows ++ leBytes 1 dCols)
  let rho := x.take 32
  let a := expandA rho
  let rhoS := (x.drop 32).take 64
  let s1 := smallVec rhoS 0 dCols
  let s2 := smallVec rhoS dCols dRows
  let t := List.zipWith polyAdd ((matVec a (s1.map ntt)).map nttInv) s2
  let t1 (v : Nat) : Nat := (v + 4095) / 8192
  let pub := rho ++ t.flatMap (fun p => packBits 10 (p.map t1))
  ⟨rho, x.drop 96, shake256 64 pub, a, s1, s2, t.map (fun p => p.map (fun v => (v + dQ - t1 v * 8192) % dQ)), pub⟩

/-- The public key of a seed. -/
@[irreducible] def mlPublic (xi : List Byte) : List Byte := (mlKey xi).pub

/-- The message representative: the pure form with an empty context. -/
def mlMu (tr m : List Byte) : List Byte := shake256 64 (tr ++ [0#8, 0#8] ++ m)

/-- The candidate with counter `kappa`; none where it is rejected. -/
def mlCandidate (k : MlKey) (mu rho : List Byte) (kappa : Nat) : Option (List Byte) :=
  let y := expandMask rho kappa
  let w := (matVec k.a (y.map ntt)).map nttInv
  let c := shake256 64 (mu ++ packW1 (w.map (fun p => p.map highOf)))
  let ch := ntt (sampleInBall c)
  let by' (v : List Poly) : List Poly := v.map (fun p => nttInv (polyMul ch (ntt p)))
  let z := List.zipWith polyAdd y (by' k.s1)
  let r := List.zipWith polySub w (by' k.s2)
  let ct0 := by' k.t0
  let h := List.zipWith (List.zipWith (fun x t => if highOf x = highOf ((x + t) % dQ) then 0 else 1)) r ct0
  if normBelow (dGamma1 - dBeta) z = true ∧ normBelow (dGamma2 - dBeta) (r.map (fun p => p.map (fun x => (decompose x).2))) = true ∧
      normBelow dGamma2 ct0 = true ∧ h.flatten.sum ≤ dOmega then
    some (c ++ z.flatMap packZ ++ packHints h)
  else none

/-- The first accepted of `n` candidates in counter order. -/
def mlTry (k : MlKey) (mu rho : List Byte) : Nat → Nat → Option (List Byte)
  | 0, _ => none
  | n + 1, kappa => match mlCandidate k mu rho kappa with
    | some sg => some sg
    | none => mlTry k mu rho n (kappa + dCols)

/-- A signature of a message under a seed's key, with 32 bytes of randomness, zeros for the deterministic form: none
where no candidate of 11 rounds of four is accepted (R235). -/
@[irreducible] def mlSign (xi m rnd : List Byte) : Option (List Byte) :=
  let k := mlKey xi
  let mu := mlMu k.tr m
  mlTry k mu (shake256 64 (k.signSeed ++ rnd ++ mu)) 44 0

/-- Whether a signature verifies. -/
@[irreducible] def mlVerify (pub m sig : List Byte) : Bool :=
  let c := sig.take 64
  let z := (pieces 640 dCols ((sig.drop 64).take 4480)).map unpackZ
  match unpackHints (sig.drop 4544) with
  | none => false
  | some h =>
    if pub.length ≠ 2592 ∨ sig.length ≠ 4627 ∨ normBelow (dGamma1 - dBeta) z = false then false
    else
      let a := expandA (pub.take 32)
      let t1 := (pieces 320 dRows (pub.drop 32)).map (unpackBits 10 256)
      let ch := ntt (sampleInBall c)
      let ct := t1.map (fun p => polyMul ch (ntt (p.map (fun v => v * 8192 % dQ))))
      let w := (List.zipWith polySub (matVec a (z.map ntt)) ct).map nttInv
      let w1 := List.zipWith (List.zipWith useHint) h w
      decide (shake256 64 (mlMu (shake256 64 pub) m ++ packW1 w1) = c)

end Sys2Proof.Machine
end

