-- ==== Sys2Proof/Machine/Verify.lean ====
section
/-! DEFINITION. The signature schemes of R174 and R234 under one name. -/

namespace Sys2Proof.Machine

/-- Whether a signature verifies under a public key, by scheme: 1 ECDSA P-384 over a 48-byte digest, 2 ML-DSA-87 and
3 LMS over a message (R174, R234). A malformed key verifies nothing. -/
@[irreducible] def verifySig (scheme : Nat) (key message sig : List Byte) : Bool :=
  match scheme with
  | 1 => ecdsaVerify key message sig
  | 2 => mlVerify key message sig
  | 3 => lmsVerify key message sig
  | _ => false

end Sys2Proof.Machine
end

