-- ==== Sys2Proof/Machine/ExmOps.lean ====
section
/-! DEFINITION. The Examiner (R216-R222): lanes, jobs, their ends, and the bytes a FLASH job takes. -/

namespace Sys2Proof.Machine

/-- Examiner lane `l`. -/
def State.lane (s : State) (l : Nat) : Lane := Sparse.get (fun _ => {}) s.lanes l

/-- Examiner lane `l` replaced. -/
def State.setLane (s : State) (l : Nat) (x : Lane) : State :=
  { s with lanes := Sparse.set (fun _ => {}) s.lanes l x }

/-- The first address of a logical core's memory (R404). -/
def coreBase (c : Fin 2) : Nat := 0x01000000 + 0x200000 * c.val

/-- Whether `len` bytes from `a` lie in logical core `c`'s own memory. -/
def inOwn (c : Fin 2) (a len : Nat) : Bool := decide (coreBase c ≤ a ∧ a + len ≤ coreBase c + 0x200000)

/-- The digest length of an algorithm identifier (R215); 0 for no algorithm. -/
def digestLen : Nat → Nat
  | 0x01 => 32
  | 0x02 => 48
  | 0x03 => 64
  | 0x04 => 32
  | 0x05 => 48
  | 0x06 => 64
  | 0x07 => 32
  | 0x08 => 64
  | 0x09 => 16
  | 0x11 => 32
  | 0x12 => 48
  | 0x13 => 64
  | 0x18 => 32
  | 0x19 => 64
  | _ => 0

/-- The block length of an algorithm identifier (R215). -/
def blockLen : Nat → Nat
  | 0x01 => 64
  | 0x02 => 128
  | 0x03 => 128
  | 0x04 => 136
  | 0x05 => 104
  | 0x06 => 72
  | 0x07 => 168
  | 0x08 => 136
  | 0x09 => 64
  | 0x11 => 64
  | 0x12 => 128
  | 0x13 => 128
  | 0x18 => 168
  | 0x19 => 136
  | _ => 1

/-- The digest of a message under an algorithm, at its length (R215). -/
def digestOf (alg : Nat) (key bytes : List Byte) : List Byte :=
  takePad (digestLen alg) (digest alg key bytes)

/-- A job's status word written (R217), where the descriptor lies in its core's memory. -/
def exmStatus (s : State) (j : ExmJob) (w : Nat) : State :=
  if inOwn j.core j.desc 64 then s.wrMemN (j.desc + 56) (leBytes 4 w) else s

/-- EXM_LANE_l_STAT.busy, queued, holder and holder_core, and COUNT, in step with the lane. -/
def syncLane (s : State) (l : Nat) : State :=
  let x := s.lane l
  let a := Reg.EXM_LANE_STAT l
  let s := (s.setF a 0 0 (b2n x.holder.isSome)).setF a 3 1 x.queue.length
  match x.holder with
  | none => s.setF a 5 4 0
  | some j =>
    let s := (s.setF a 5 4 (if j.flash then 2 else 1)).setF a 6 6 j.core.val
    s.wr64 (Reg.EXM_LANE_COUNT_LO l) (Reg.EXM_LANE_COUNT_HI l) j.fed.length

/-- The lane's last status and flag pair. -/
def exmLast (s : State) (l status : Nat) (m mn : Bool) : State :=
  let a := Reg.EXM_LANE_STAT l
  ((s.setF a 23 16 status).setF a 7 7 (b2n m)).setF a 8 8 (b2n mn)

/-- The next queued job of a lane becomes the holder and runs.
DEDUCED (log entry 43). -/
def exmNext (s : State) (l : Nat) : State :=
  match (s.lane l).queue with
  | [] => syncLane (s.setLane l { holder := none, queue := [] }) l
  | j :: js => syncLane (exmStatus (s.setLane l { holder := some j, queue := js }) j 0x02) l

/-- The holder of lane `l` ends (R218-R222): the status word, the result where there is one, the
interrupt, and the next job. -/
def exmEnd (s : State) (l : Nat) (j : ExmJob) (status : Nat) (m mn : Bool) (res : Option (List Byte)) : State :=
  let s := exmStatus s j (status + b2n m * 2 ^ 8 + b2n mn * 2 ^ 9)
  let s := match res with
    | some r => s.wrMemN j.result (takePad 64 r)
    | none => s
  let s := s.wrBytes (Reg.EXM_LANE_RES l 0) 16 (takePad 64 (res.getD []))
  let s := (exmLast s l status m mn).setF (Reg.EXM_LANE_STAT l) 31 24 j.alg
  exmNext (s.raise 2) l

/-- The holder of lane `l` ends ABORTED (R222, R230). -/
def exmAbortHolder (s : State) (l : Nat) : State :=
  match (s.lane l).holder with
  | some j => exmEnd s l j 0x13 false false none
  | none => s

/-- Queued jobs that a condition names end ABORTED (R222). -/
def exmAbortQueued (s : State) (l : Nat) (p : ExmJob → Bool) : State :=
  let x := s.lane l
  let s := (x.queue.filter p).foldl (fun s j => (exmStatus s j 0x13).raise 2) s
  let s := s.setLane l { x with queue := x.queue.filter (fun j => !p j) }
  if x.queue.any p then
    syncLane ((exmLast s l 0x13 false false).wrBytes (Reg.EXM_LANE_RES l 0) 16 (takePad 64 [])) l
  else s

/-- Whether `len` bytes from `a` lie where a MEM job may read (R217): the core's own memory, the eNVM
read window or the Served area of the Depot. -/
def exmSourceOk (c : Fin 2) (a len : Nat) : Bool :=
  inOwn c a len || decide (0x10000000 ≤ a ∧ a + len ≤ 0x11000000) ||
    decide (0x02000000 ≤ a ∧ a + len ≤ 0x02800000)

/-- The job that a descriptor describes. -/
def exmJobOf (s : State) (c : Fin 2) (a : Nat) : ExmJob :=
  let d := s.rdMemN a 64
  let f := leAt d 1 1
  ⟨c, a, leAt d 0 1, bitOf f 0, bitOf f 1, leAt d 8 8, leAt d 16 8, leAt d 24 8, leAt d 32 8, leAt d 48 8, []⟩

/-- Whether a descriptor is well placed and well formed (R217). -/
def exmDescOk (s : State) (c : Fin 2) (a : Nat) : Bool :=
  inOwn c a 64 &&
    (let d := s.rdMemN a 64
     let j := exmJobOf s c a
     let z (o n : Nat) : Bool := leAt d o n == 0
     (j.alg == 2 || j.alg == 3) && decide (leAt d 1 1 < 8) && z 2 6 && z 40 8 && z 60 4 &&
     decide (1 ≤ j.len ∧ j.len ≤ 2 ^ 32) &&
     (if j.flash then j.src == 0 else exmSourceOk c j.src j.len) &&
     (if j.compare then inOwn c j.expected (digestLen j.alg) else j.expected == 0) &&
     inOwn c j.result 64)

/-- A write to EXM_LANE_l_SUBMIT by logical core `c` (R218). -/
def exmSubmit (s : State) (c : Fin 2) (l a : Nat) : State :=
  let x := s.lane l
  let j := exmJobOf s c a
  let noWait := bitOf (leAt (s.rdMemN a 64) 1 1) 2
  if exmDescOk s c a = false then
    (exmLast (exmStatus s ⟨c, a, 0, false, false, 0, 0, 0, 0, 0, []⟩ 0x11) l 0x11 false false).raise 2
  else match x.holder with
    | none => syncLane (exmStatus (s.setLane l { x with holder := some j }) j 0x02) l
    | some _ =>
      if noWait = true ∨ 4 ≤ x.queue.length then
        exmLast ((exmStatus s j 0x10).inc (Reg.EXM_LANE_BUSY_COUNT l)) l 0x10 false false
      else syncLane (exmStatus (s.setLane l { x with queue := x.queue ++ [j] }) j 0x01) l

/-- Whether a lane holds or has queued a FLASH job (R219). -/
def laneWantsFlash (s : State) (l : Nat) : Bool :=
  let x := s.lane l
  (match x.holder with
    | some j => j.flash
    | none => false) || x.queue.any (fun j => j.flash)

/-- Whether the holder of a lane takes the bytes of a DEVICE read (R219). -/
def laneTakes (s : State) (l : Nat) : Bool :=
  match (s.lane l).holder with
  | some j => j.flash
  | none => false

/-- Whether a DEVICE read's next burst waits for lane `l` (R219): for a FLASH job that is queued and not yet holding,
unless the holder is a FLASH job that still takes bytes. -/
def laneHolds (s : State) (l : Nat) : Bool :=
  let x := s.lane l
  x.queue.any (fun j => j.flash) && match x.holder with
    | some j => !j.flash || decide (j.len ≤ j.fed.length)
    | none => false

/-- The bytes of one burst given to a lane (R219): the holder takes them up to its declared length, the
rest of that burst is not digested.
DEDUCED (log entry 43). -/
def feedLane (s : State) (l : Nat) (bytes : List Byte) : State :=
  let x := s.lane l
  match x.holder with
  | some j =>
    if j.flash ∧ j.fed.length < j.len then
      syncLane (s.setLane l { x with holder := some { j with fed := j.fed ++ bytes.take (j.len - j.fed.length) } }) l
    else s
  | none => s

/-- The comparators of a job (R221): equality and inequality agree unless they are faulty, both flags then reading
alike. -/
def flagPair (eq : Bool) (fault : Option Bool) : Bool × Bool :=
  match fault with
  | some b => (b, b)
  | none => (eq, !eq)

/-- FLAG_PAIR_FAULT counted and logged (R221, R239). The LOGIC event is the caller's.
DEDUCED (log entry 43). -/
def flagFault (s : State) (l kind : Nat) (p : Bool × Bool) : State :=
  (s.inc Reg.EXM_FLAG_FAULT_COUNT).log Ev.FLAG_PAIR_FAULT .examiner l
    (leBytes 1 l ++ leBytes 1 kind ++ leBytes 1 (b2n p.1 + 2 * b2n p.2))

/-- The holder of lane `l` reaches its declared length (R221). `err` is an error answer to a MEM read
(R220), `fault` what faulty comparators give. Answers whether a LOGIC event follows.
DEDUCED (log entry 43). -/
def exmDone (s : State) (l : Nat) (err : Bool) (fault : Option Bool) : State × Bool :=
  match (s.lane l).holder with
  | none => (s, false)
  | some j =>
    if j.flash = true ∧ j.fed.length < j.len then (s, false)
    else if j.flash = false ∧ err = true then (exmEnd s l j 0x13 false false none, false)
    else
      let bytes := if j.flash then j.fed else s.rdBytesN j.src j.len
      let j := { j with fed := bytes }
      let s := syncLane (s.setLane l { s.lane l with holder := some j }) l
      let r := digestOf j.alg [] bytes
      if j.compare = false then (exmEnd s l j 0x03 false false (some r), false)
      else
        let p := flagPair (decide (s.rdMemN j.expected (digestLen j.alg) = r)) fault
        if p.1 = p.2 then (exmEnd (flagFault s l 0 p) l j 0x14 p.1 p.2 none, true)
        else (exmEnd s l j 0x03 p.1 p.2 (some r), false)

/-- A write of EXM_LANE_l_END (R220): a FLASH holder whose declared length has not arrived ends LENGTH_MISMATCH. -/
def exmEndWrite (s : State) (l : Nat) : State :=
  match (s.lane l).holder with
  | some j =>
    if j.flash = true ∧ j.fed.length < j.len then
      let s := s.log Ev.LENGTH_MISMATCH .examiner l
        (leBytes 8 j.len ++ leBytes 8 j.fed.length ++ leBytes 8 j.tag)
      exmEnd s l j 0x12 false true none
    else s
  | none => s

/-- A write of EXM_LANE_l_ABORT by core `c` (R222). -/
def exmAbort (s : State) (c : Fin 2) (l : Nat) (holder mine : Bool) : State :=
  let s := if mine then exmAbortQueued s l (fun j => j.core == c) else s
  if holder then exmAbortHolder s l else s

/-- A lane cleared by a qualifying alarm (R230): every job ends ABORTED. Answers the jobs ended. -/
def exmClearLane (s : State) (l : Nat) : State × Nat :=
  let x := s.lane l
  let s := exmAbortQueued s l (fun _ => true)
  let s := exmAbortHolder s l
  (s, x.queue.length + b2n x.holder.isSome)

end Sys2Proof.Machine
end

