-- ==== Sys2Proof/Machine/WopCode.lean ====
section
/-! DEFINITION. The encoding of Wemon instructions (R31-R34): the fields of a word, the decoder,
the encoder, and the profiles that have each instruction. -/

namespace Sys2Proof.Machine

/-- Major opcode, bits [31:26]. -/
def fMajor (w : Word) : Nat := (w.extractLsb' 26 6).toNat
/-- Bits [25:21]: rd, or ra in format B. -/
def fRd (w : Word) : RegNo := w.extractLsb' 21 5
/-- Bits [20:16]: ra, or rb in format B. -/
def fRa (w : Word) : RegNo := w.extractLsb' 16 5
/-- Bits [15:11]: rb. -/
def fRb (w : Word) : RegNo := w.extractLsb' 11 5
/-- Bits [10:0]: func of format R. -/
def fFunc (w : Word) : Nat := (w.extractLsb' 0 11).toNat
/-- Bits [15:0]. -/
def fImm (w : Word) : BitVec 16 := w.extractLsb' 0 16

/-- Format R with the func field's value; a field the instruction does not use must be 0
(R33): the callers pass which of rd, ra, rb are used. -/
def unusedOk (w : Word) (rd ra rb : Bool) : Bool :=
  (rd || fRd w == 0) && (ra || fRa w == 0) && (rb || fRb w == 0)

/-- Guard of a decoding. -/
def onlyIf (b : Bool) (x : Wop) : Option Wop := if b then some x else none

/-- Major 0x00: the register arithmetic. -/
def decodeAlu (w : Word) : Option Wop :=
  let rd := fRd w; let ra := fRa w; let rb := fRb w
  match fFunc w with
  | 0x001 => some (.add rd ra rb) | 0x002 => some (.sub rd ra rb) | 0x003 => some (.and rd ra rb)
  | 0x004 => some (.or rd ra rb) | 0x005 => some (.xor rd ra rb) | 0x006 => some (.shl rd ra rb)
  | 0x007 => some (.shr rd ra rb) | 0x008 => some (.sar rd ra rb) | 0x009 => some (.slt rd ra rb)
  | 0x00A => some (.sltu rd ra rb) | 0x00B => some (.mul rd ra rb) | 0x00C => some (.mulhu rd ra rb)
  | 0x00D => some (.divu rd ra rb) | 0x00E => some (.remu rd ra rb) | _ => none

/-- Majors 0x18, 0x30-0x37 and 0x3B of format R, and 0x34 of format D. -/
def decodeR (w : Word) : Option Wop :=
  let rd := fRd w; let ra := fRa w; let rb := fRb w
  match fMajor w, fFunc w with
  | 0x18, 1 => some (.amoadd rd ra rb) | 0x18, 2 => some (.amoswap rd ra rb)
  | 0x18, 3 => some (.cas rd ra rb)
  | 0x30, 1 => onlyIf (unusedOk w false true false) (.trap ra)
  | 0x30, 2 => onlyIf (unusedOk w false false false) .eret
  | 0x30, 3 => onlyIf (unusedOk w false false false) .park
  | 0x31, 1 => onlyIf (unusedOk w true false false) (.topen rd)
  | 0x31, 2 => onlyIf (unusedOk w false true true) (.tput ra rb)
  | 0x31, 3 => onlyIf (unusedOk w true true false) (.tcommit rd ra)
  | 0x31, 4 => onlyIf (unusedOk w false true false) (.tdrop ra)
  | 0x32, 1 => onlyIf (unusedOk w false true true) (.pvset ra rb)
  | 0x32, 2 => onlyIf (unusedOk w false true true) (.pvclr ra rb)
  | 0x35, 1 => some (.sread rd ra rb)
  | 0x35, 2 => onlyIf (unusedOk w true true false) (.dma rd ra)
  | 0x35, 3 => onlyIf (unusedOk w true true false) (.swait rd ra)
  | 0x36, 1 => onlyIf (unusedOk w true true false) (.wbtake rd ra)
  | 0x36, 2 => onlyIf (unusedOk w false true false) (.wbdone ra)
  | 0x37, 1 => onlyIf (unusedOk w true false false) (.barY rd)
  | 0x37, 2 => onlyIf (unusedOk w true false false) (.barG rd)
  | 0x3B, 1 => onlyIf (unusedOk w true false false) (.fop rd)
  | 0x3B, 2 => onlyIf (unusedOk w true false false) (.faddr rd)
  | 0x3B, 3 => onlyIf (unusedOk w true false false) (.flen rd)
  | 0x3B, 4 => onlyIf (unusedOk w true false false) (.fmode rd)
  | 0x3B, 5 => onlyIf (unusedOk w true true false) (.fdata rd ra)
  | 0x3B, 6 => onlyIf (unusedOk w true true false) (.rlook rd ra)
  | 0x3B, 7 => onlyIf (unusedOk w false true false) (.cnt ra)
  | _, _ => none

/-- Major 0x34, format D: dc in [10:9], func in [8:0]. -/
def decodeD (w : Word) : Option Wop :=
  let rd := fRd w; let ra := fRa w; let rb := fRb w
  let dc : BitVec 2 := w.extractLsb' 9 2
  match (w.extractLsb' 0 9).toNat with
  | 1 => onlyIf (unusedOk w false true false) (.dinit dc ra)
  | 2 => onlyIf (unusedOk w false true true) (.dfeed dc ra rb)
  | 3 => onlyIf (unusedOk w false true false) (.dfin dc ra)
  | 4 => some (.dcmp rd ra rb dc)
  | 5 => onlyIf (unusedOk w false false false) (.dsave dc)
  | 6 => onlyIf (unusedOk w false false false) (.dload dc)
  | _ => none

/-- Major 0x3A, format V: the verdicts. -/
def decodeV (w : Word) : Option Wop :=
  let ra := fRa w; let reason : BitVec 8 := w.extractLsb' 8 8
  if fRd w != 0 || w.extractLsb' 3 5 != 0#5 then none else
  match (w.extractLsb' 0 3).toNat with
  | 0 => some (.pass ra reason) | 1 => some (.deny ra reason) | 2 => some (.stage ra reason)
  | 3 => some (.serve ra reason) | 4 => some (.check ra reason) | _ => none

/-- The immediate formats I, W, B and J. -/
def decodeI (w : Word) : Option Wop :=
  let rd := fRd w; let ra := fRa w; let imm := fImm w
  let n : BitVec 6 := w.extractLsb' 0 6
  let hi10 := w.extractLsb' 6 10 == 0#10
  match fMajor w with
  | 0x01 => some (.addi rd ra imm) | 0x02 => some (.andi rd ra imm) | 0x03 => some (.ori rd ra imm)
  | 0x04 => some (.xori rd ra imm)
  | 0x05 => onlyIf hi10 (.shli rd ra n) | 0x06 => onlyIf hi10 (.shri rd ra n)
  | 0x07 => onlyIf hi10 (.sari rd ra n)
  | 0x08 => some (.slti rd ra imm) | 0x09 => some (.sltui rd ra imm)
  | 0x0A => onlyIf (w.extractLsb' 18 3 == 0#3) (.seth rd (w.extractLsb' 16 2) imm)
  | 0x0B => onlyIf (w.extractLsb' 18 3 == 0#3) (.insh rd (w.extractLsb' 16 2) imm)
  | 0x0C => onlyIf (w.extractLsb' 14 2 == 0#2 && w.extractLsb' 6 2 == 0#2 &&
      decide ((w.extractLsb' 8 6).toNat + n.toNat + 1 ≤ 64)) (.extr rd ra (w.extractLsb' 8 6) n)
  | 0x10 => some (.ldb rd ra imm) | 0x11 => some (.ldh rd ra imm) | 0x12 => some (.ldw rd ra imm)
  | 0x13 => some (.ldd rd ra imm) | 0x14 => some (.stb rd ra imm) | 0x15 => some (.sth rd ra imm)
  | 0x16 => some (.stw rd ra imm) | 0x17 => some (.std rd ra imm)
  | 0x19 => onlyIf (rd == 0 && ra == 0 && w.extractLsb' 3 13 == 0#13 && w.extractLsb' 0 3 != 0#3)
      (.fence (w.extractLsb' 0 3))
  | 0x20 => some (.beq rd ra imm) | 0x21 => some (.bne rd ra imm) | 0x22 => some (.blt rd ra imm)
  | 0x23 => some (.bge rd ra imm) | 0x24 => some (.bltu rd ra imm) | 0x25 => some (.bgeu rd ra imm)
  | 0x26 => some (.jmp (w.extractLsb' 0 26)) | 0x27 => some (.call (w.extractLsb' 0 26))
  | 0x28 => some (.jr rd ra imm)
  | 0x2C => onlyIf (ra == 0 && w.extractLsb' 12 4 == 0#4) (.mfs rd (w.extractLsb' 0 12))
  | 0x2D => onlyIf (ra == 0 && w.extractLsb' 12 4 == 0#4) (.mts rd (w.extractLsb' 0 12))
  | 0x2E => onlyIf (ra == 0 && w.extractLsb' 4 12 == 0#12) (.ident rd (w.extractLsb' 0 4))
  | _ => none

/-- The instruction a word encodes in the table of R34, whatever the profile; none for a word
that R33 makes ILLEGAL in every profile. -/
def decodeWop (w : Word) : Option Wop :=
  match fMajor w with
  | 0x00 => decodeAlu w
  | 0x34 => decodeD w
  | 0x3A => decodeV w
  | 0x18 => decodeR w | 0x30 => decodeR w | 0x31 => decodeR w | 0x32 => decodeR w
  | 0x35 => decodeR w | 0x36 => decodeR w | 0x37 => decodeR w | 0x3B => decodeR w
  | _ => decodeI w

/-- A word of format R. -/
def encR (major : Nat) (rd ra rb : RegNo) (func : Nat) : Word :=
  BitVec.ofNat 6 major ++ rd ++ ra ++ rb ++ BitVec.ofNat 11 func

/-- A word of format D. -/
def encD (rd ra rb : RegNo) (dc : BitVec 2) (func : Nat) : Word :=
  (0x34#6) ++ rd ++ ra ++ rb ++ dc ++ BitVec.ofNat 9 func

/-- A word of formats I, W and B. -/
def encI (major : Nat) (rd ra : RegNo) (imm : BitVec 16) : Word :=
  BitVec.ofNat 6 major ++ rd ++ ra ++ imm

/-- A word of format J. -/
def encJ (major : Nat) (off : BitVec 26) : Word := BitVec.ofNat 6 major ++ off

/-- A word of format V. -/
def encV (ra : RegNo) (reason : BitVec 8) (kind : Nat) : Word :=
  (0x3A#6) ++ (0#5) ++ ra ++ reason ++ (0#5) ++ BitVec.ofNat 3 kind

/-- The word of an instruction (R31, R34). -/
def encodeWop : Wop → Word
  | .add d a b => encR 0 d a b 0x001 | .sub d a b => encR 0 d a b 0x002
  | .and d a b => encR 0 d a b 0x003 | .or d a b => encR 0 d a b 0x004
  | .xor d a b => encR 0 d a b 0x005 | .shl d a b => encR 0 d a b 0x006
  | .shr d a b => encR 0 d a b 0x007 | .sar d a b => encR 0 d a b 0x008
  | .slt d a b => encR 0 d a b 0x009 | .sltu d a b => encR 0 d a b 0x00A
  | .mul d a b => encR 0 d a b 0x00B | .mulhu d a b => encR 0 d a b 0x00C
  | .divu d a b => encR 0 d a b 0x00D | .remu d a b => encR 0 d a b 0x00E
  | .addi d a i => encI 0x01 d a i | .andi d a i => encI 0x02 d a i
  | .ori d a i => encI 0x03 d a i | .xori d a i => encI 0x04 d a i
  | .shli d a n => encI 0x05 d a (n.zeroExtend 16) | .shri d a n => encI 0x06 d a (n.zeroExtend 16)
  | .sari d a n => encI 0x07 d a (n.zeroExtend 16)
  | .slti d a i => encI 0x08 d a i | .sltui d a i => encI 0x09 d a i
  | .seth d hw i => encI 0x0A d (hw.zeroExtend 5) i
  | .insh d hw i => encI 0x0B d (hw.zeroExtend 5) i
  | .extr d a pos l => encI 0x0C d a ((0#2) ++ pos ++ (0#2) ++ l)
  | .ldb d a i => encI 0x10 d a i | .ldh d a i => encI 0x11 d a i
  | .ldw d a i => encI 0x12 d a i | .ldd d a i => encI 0x13 d a i
  | .stb d a i => encI 0x14 d a i | .sth d a i => encI 0x15 d a i
  | .stw d a i => encI 0x16 d a i | .std d a i => encI 0x17 d a i
  | .amoadd d a b => encR 0x18 d a b 1 | .amoswap d a b => encR 0x18 d a b 2
  | .cas d a b => encR 0x18 d a b 3
  | .fence k => encI 0x19 0 0 (k.zeroExtend 16)
  | .beq a b o => encI 0x20 a b o | .bne a b o => encI 0x21 a b o
  | .blt a b o => encI 0x22 a b o | .bge a b o => encI 0x23 a b o
  | .bltu a b o => encI 0x24 a b o | .bgeu a b o => encI 0x25 a b o
  | .jmp o => encJ 0x26 o | .call o => encJ 0x27 o
  | .jr d a i => encI 0x28 d a i
  | .mfs d n => encI 0x2C d 0 (n.zeroExtend 16) | .mts d n => encI 0x2D d 0 (n.zeroExtend 16)
  | .ident d s => encI 0x2E d 0 (s.zeroExtend 16)
  | .trap c => encR 0x30 0 c 0 1 | .eret => encR 0x30 0 0 0 2 | .park => encR 0x30 0 0 0 3
  | .topen d => encR 0x31 d 0 0 1 | .tput a b => encR 0x31 0 a b 2
  | .tcommit d a => encR 0x31 d a 0 3 | .tdrop a => encR 0x31 0 a 0 4
  | .pvset a b => encR 0x32 0 a b 1 | .pvclr a b => encR 0x32 0 a b 2
  | .dinit dc a => encD 0 a 0 dc 1 | .dfeed dc a b => encD 0 a b dc 2
  | .dfin dc a => encD 0 a 0 dc 3 | .dcmp d a b dc => encD d a b dc 4
  | .dsave dc => encD 0 0 0 dc 5 | .dload dc => encD 0 0 0 dc 6
  | .sread d a b => encR 0x35 d a b 1 | .dma d a => encR 0x35 d a 0 2
  | .swait d a => encR 0x35 d a 0 3
  | .wbtake d a => encR 0x36 d a 0 1 | .wbdone a => encR 0x36 0 a 0 2
  | .barY d => encR 0x37 d 0 0 1 | .barG d => encR 0x37 d 0 0 2
  | .pass a r => encV a r 0 | .deny a r => encV a r 1 | .stage a r => encV a r 2
  | .serve a r => encV a r 3 | .check a r => encV a r 4
  | .fop d => encR 0x3B d 0 0 1 | .faddr d => encR 0x3B d 0 0 2
  | .flen d => encR 0x3B d 0 0 3 | .fmode d => encR 0x3B d 0 0 4
  | .fdata d a => encR 0x3B d a 0 5 | .rlook d a => encR 0x3B d a 0 6
  | .cnt k => encR 0x3B 0 k 0 7

/-- Whether profile `p` has an instruction (the Profiles column of R34). -/
def wopInProfile (p : Profile) : Wop → Bool
  | .sar .. | .slt .. | .mul .. | .mulhu .. | .divu .. | .remu .. | .sari .. | .slti .. => p != .s
  | .amoadd .. | .amoswap .. | .cas .. | .fence .. | .blt .. | .bge .. | .call .. | .jr .. => p != .s
  | .mfs .. | .trap .. | .park => p != .s
  | .mts .. | .eret | .topen .. | .tput .. | .tcommit .. | .tdrop .. | .pvset .. | .pvclr .. => p == .c
  | .dinit .. | .dfeed .. | .dfin .. | .dcmp .. | .dsave .. | .dload .. => p == .e
  | .sread .. | .dma .. | .swait .. | .wbtake .. | .wbdone .. | .barY .. | .barG .. => p == .e
  | .pass .. | .deny .. | .stage .. | .serve .. | .check .. => p == .s
  | .fop .. | .faddr .. | .flen .. | .fmode .. | .fdata .. | .rlook .. | .cnt .. => p == .s
  | .add .. | .sub .. | .and .. | .or .. | .xor .. | .shl .. | .shr .. | .sltu .. => true
  | .addi .. | .andi .. | .ori .. | .xori .. | .shli .. | .shri .. | .sltui .. => true
  | .seth .. | .insh .. | .extr .. => true
  | .ldb .. | .ldh .. | .ldw .. | .ldd .. | .stb .. | .sth .. | .stw .. | .std .. => true
  | .beq .. | .bne .. | .bltu .. | .bgeu .. | .jmp .. | .ident .. => true

/-- The register fields an instruction names; on Wemon-S each must be below 16 (R33). -/
def wopRegs : Wop → List RegNo
  | .add d a b | .sub d a b | .and d a b | .or d a b | .xor d a b | .shl d a b | .shr d a b
  | .sar d a b | .slt d a b | .sltu d a b | .mul d a b | .mulhu d a b | .divu d a b | .remu d a b
  | .amoadd d a b | .amoswap d a b | .cas d a b | .sread d a b => [d, a, b]
  | .addi d a _ | .andi d a _ | .ori d a _ | .xori d a _ | .slti d a _ | .sltui d a _ => [d, a]
  | .shli d a _ | .shri d a _ | .sari d a _ | .extr d a _ _ | .jr d a _ => [d, a]
  | .seth d _ _ | .insh d _ _ => [d]
  | .ldb d a _ | .ldh d a _ | .ldw d a _ | .ldd d a _ => [d, a]
  | .stb d a _ | .sth d a _ | .stw d a _ | .std d a _ => [d, a]
  | .fence _ | .jmp _ | .call _ | .eret | .park | .dsave _ | .dload _ => []
  | .beq a b _ | .bne a b _ | .blt a b _ | .bge a b _ | .bltu a b _ | .bgeu a b _ => [a, b]
  | .mfs d _ | .mts d _ | .ident d _ | .topen d | .barY d | .barG d => [d]
  | .trap c => [c]
  | .tput a b | .pvset a b | .pvclr a b => [a, b]
  | .tcommit d a | .dma d a | .swait d a | .wbtake d a | .fdata d a | .rlook d a => [d, a]
  | .tdrop a | .wbdone a => [a]
  | .dinit _ a | .dfin _ a => [a]
  | .dfeed _ a b => [a, b]
  | .dcmp d a b _ => [d, a, b]
  | .pass a _ | .deny a _ | .stage a _ | .serve a _ | .check a _ => [a]
  | .fop d | .faddr d | .flen d | .fmode d => [d]
  | .cnt k => [k]

/-- Operand values that R34 makes ILLEGAL: FENCE of no kind, EXTR past bit 63. -/
def wopOperandsOk : Wop → Bool
  | .fence k => k != 0
  | .extr _ _ pos l => decide (pos.toNat + l.toNat + 1 ≤ 64)
  | _ => true

/-- Whether profile `p` executes the instruction rather than raising ILLEGAL (R33, R34). -/
def wopLegal (p : Profile) (i : Wop) : Bool :=
  wopInProfile p i && wopOperandsOk i && (p != .s || (wopRegs i).all (fun r => decide (r.toNat < 16)))

/-- The Wemon-S instruction a word encodes, or none (R33). -/
def decodeS (w : Word) : Option Wop :=
  match decodeWop w with
  | some i => if wopLegal .s i then some i else none
  | none => none

end Sys2Proof.Machine
end

