-- ==== Sys2Proof/Machine/SecOps.lean ====
section
/-! DEFINITION. The operations of the flash line ports: profiles and decoding (04), verdicts,
staging and status emulation (05), extents and tags (06). -/

namespace Sys2Proof.Machine

/-! ### Lines, profiles and decoding -/

/-- Port `n`. -/
def State.line (s : State) (n : Nat) : Line := Sparse.get (fun _ => {}) s.lines n

/-- Port `n` replaced. -/
def State.setLine (s : State) (n : Nat) (x : Line) : State :=
  { s with lines := Sparse.set (fun _ => {}) s.lines n x }

/-- An event of the line ports: origin 0x31, detail the port number (R107, R138). -/
def secLog (s : State) (code n : Nat) (payload : List Byte) : State := s.log code .port n payload

/-- Whether the LINE domain of section `n` is in RUN (R386). -/
def lineRuns (s : State) (n : Nat) : Bool := s.fld (Reg.PWR_DOM_STAT (2 + n / 8)) 1 0 == 0

/-- Whether PLL_LINE has locked: the section logic clock and the commit clock run (R399, R400).
DEDUCED (log entry 28). -/
def lineLocked (s : State) : Bool := s.bit Reg.PWR_CLK_STAT 2

/-- The points a section acts under: 0 ISOLATED, 1 DEVICE, 2 ROUTED; ISOLATED while its LINE domain is
not in RUN (R387); the H-port and the V-port always read DEVICE (R91, R106).
DEDUCED (log entry 65). -/
def pointsOf (s : State) (n : Nat) : Nat :=
  if 32 ≤ n then 1 else if lineRuns s n then s.fld (Reg.SEC_CTL n) 1 0 else 0

/-- Whether PFW_N is asserted (PWR_STAT.pf). -/
def powerFailing (s : State) : Bool := s.bit Reg.PWR_STAT 0

/-- Whether the tamper SEAL is in force (TMP_STAT.seal, R130). -/
def sealed (s : State) : Bool := s.bit Reg.TMP_STAT 1

/-- Byte `off` of the installed profile record of port `n` (R101, R103). -/
def profByte (s : State) (n off : Nat) : Nat :=
  bitsOf (s.rd (Reg.SEC_PROFILE n (off / 4))).toNat (8 * (off % 4) + 7) (8 * (off % 4))

/-- `len` bytes at `off` of the profile as a number. -/
def profLe (s : State) (n off : Nat) : Nat → Nat
  | 0 => 0
  | len + 1 => profByte s n off + 256 * profLe s n (off + 1) len

/-- An opcode entry of a profile (R101): opcode, extension, phase descriptor, D_f, flags. -/
structure OpEntry where
  opcode : Nat
  ext : Nat
  desc : Nat
  df : Nat
  flags : Nat
deriving DecidableEq, Repr

/-- Opcode entry `i` of port `n`'s profile. -/
def opEntry (s : State) (n i : Nat) : OpEntry :=
  ⟨profByte s n (64 + 8 * i), profByte s n (65 + 8 * i), profLe s n (66 + 8 * i) 4,
   profByte s n (70 + 8 * i), profByte s n (71 + 8 * i)⟩

/-- The number of opcode entries (profile byte 27). -/
def opCount (s : State) (n : Nat) : Nat := profByte s n 27

/-- Whether a flag of profile byte 15 is set: 0 sfdp_check, 1 cs1_used, 2 ext_addr_reg,
3 reset_pin. -/
def profFlag (s : State) (n i : Nat) : Bool := bitOf (profByte s n 15) i

/-- The page size in bytes (profile byte 12). -/
def pageSize (s : State) (n : Nat) : Nat := 2 ^ profByte s n 12

/-- The power-on interface (profile byte 8). -/
def powerOnIface (s : State) (n : Nat) : Nat := profByte s n 8

/-- The interface of a descriptor's command phase: 0 1S, 1 4S, 2 8S, 3 8D (R83); 4 for a form
that no interface has. -/
def ifaceOfDesc (d : Nat) : Nat :=
  if bitOf d 2 then (if bitsOf d 1 0 = 3 then 3 else 4)
  else match bitsOf d 1 0 with
    | 0 => 0
    | 2 => 1
    | 3 => 2
    | _ => 4

/-- The kind of a descriptor (R84): 0 ARRAY_READ, 1 REG_READ, 2 STATUS, 3 WRITE, 4 ERASE,
5 CONTROL, 6 UNKNOWN. -/
def kindOf (d : Nat) : Nat := bitsOf d 22 20

/-- WRITE, ERASE and CONTROL. -/
def writeKind (k : Nat) : Bool := k == 3 || k == 4 || k == 5

/-- The profile entry that a command phase matches in interface `iface` (R85). -/
def matchEntry (s : State) (n iface opcode ext : Nat) : Option (Nat × OpEntry) :=
  ((List.range (opCount s n)).map (fun i => (i, opEntry s n i))).find? (fun p =>
    ifaceOfDesc p.2.desc == iface && p.2.opcode == opcode && (iface != 3 || p.2.ext == ext))

/-- The number of address bytes of a frame (R84, R118): 8D addresses are always 4 bytes. -/
def addrBytes (s : State) (n desc : Nat) : Nat :=
  match bitsOf desc 7 6 with
  | 0 => 0
  | 1 => if ifaceOfDesc desc = 3 then 4 else 3
  | 2 => 4
  | _ => if ifaceOfDesc desc = 3 ∨ s.bit (Reg.SEC_ADDR_STAT n) 0 = true then 4 else 3

/-- FADDR for the raw address bytes of a frame (R118). -/
def faddrOf (s : State) (n desc raw : Nat) : Nat :=
  match addrBytes s n desc with
  | 0 => 0
  | 4 => raw % 2 ^ 32
  | _ =>
    if profFlag s n 2 then s.fld (Reg.SEC_ADDR_STAT n) 15 8 * 2 ^ 24 + raw % 2 ^ 24
    else raw % 2 ^ 24

/-- The chip select of a component address (R99). -/
def csOf (s : State) (n addr : Nat) : Nat :=
  if profFlag s n 1 = true ∧ profLe s n 20 4 ≤ addr then 1 else 0

/-! ### Banks, regions and extents -/

/-- The active bank number of section `n` (SEC_n_PGM_STAT.active_bank). -/
def activeBank (s : State) (n : Nat) : Nat := s.fld (Reg.SEC_PGM_STAT n) 4 4

/-- Bank `b` of section `n`. -/
def bankOf (s : State) (n b : Nat) : Bank := if b = 0 then (s.line n).bank0 else (s.line n).bank1

/-- Bank `b` of section `n` replaced. -/
def setBank (s : State) (n b : Nat) (x : Bank) : State :=
  if b = 0 then s.setLine n { s.line n with bank0 := x } else s.setLine n { s.line n with bank1 := x }

/-- The region of a table that contains a component address. -/
def regionAt (m : List Region) (a : Nat) : Option Region :=
  m.find? (fun r => decide (r.start ≤ a ∧ a < r.start + r.len))

/-- The result of RLOOK (R36): 0 where no region contains the address. -/
def rlookValue (m : List Region) (a : Nat) : Nat :=
  match m.findIdx? (fun r => decide (r.start ≤ a ∧ a < r.start + r.len)), regionAt m a with
  | some i, some r =>
    i % 256 + r.cls * 2 ^ 8 + b2n r.writable * 2 ^ 10 + 2 ^ 11 +
      min (r.start + r.len - a) 0xFFFFFFFF * 2 ^ 32
  | _, _ => 0

/-- Fields of an extent (DEP_EXT_x_CTL, START, LEN, BASE). -/
def extSection (s : State) (x : Nat) : Nat := s.fld (Reg.DEP_EXT_CTL x) 4 0
def extBank (s : State) (x : Nat) : Nat := s.fld (Reg.DEP_EXT_CTL x) 5 5
def extClass (s : State) (x : Nat) : Nat := s.fld (Reg.DEP_EXT_CTL x) 7 6
def extState (s : State) (x : Nat) : Nat := s.fld (Reg.DEP_EXT_CTL x) 10 8
def extComp (s : State) (x : Nat) : Nat := s.fld (Reg.DEP_EXT_CTL x) 21 16
def extStart (s : State) (x : Nat) : Nat := (s.rd (Reg.DEP_EXT_START x)).toNat
def extLen (s : State) (x : Nat) : Nat := s.fld (Reg.DEP_EXT_LEN x) 18 0
def extBase (s : State) (x : Nat) : Nat := s.fld (Reg.DEP_EXT_BASE x) 18 0
def extFill (s : State) (x : Nat) : Nat := s.fld (Reg.DEP_EXT_FILL x) 18 0

/-- The first component address beyond an extent. -/
def extEnd (s : State) (x : Nat) : Nat := extStart s x + extLen s x * 4096

/-- Whether a component address lies in extent `x`. -/
def extHas (s : State) (x a : Nat) : Bool := decide (extStart s x ≤ a ∧ a < extEnd s x)

/-- The extent of section `n` and bank `b` that contains `a` and serves reads, READY or STALE
(R145, R148, R149); `cls` 1 Watched, 2 Served. -/
def liveExtent (s : State) (n b cls a : Nat) : Option Nat :=
  (List.range 256).find? (fun x =>
    extSection s x == n && extBank s x == b && extClass s x == cls &&
    decide (2 ≤ extState s x) && extHas s x a)

/-- Whether the hold bridge of component `c` is in force (DEP_HOLD_PEND, R151). -/
def holdPend (s : State) (c : Nat) : Bool :=
  if c < 32 then s.bit Reg.DEP_HOLD_PEND_LO c else s.bit Reg.DEP_HOLD_PEND_HI (c - 32)

/-- The tag of a page (R141): the first 16 bytes of HMAC-SHA-256 under K_tag. -/
def pageTag (key : List Byte) (n addr : Nat) (page : List Byte) : List Byte :=
  takePad 16 (hmac sha256 64 key (leBytes 4 n ++ leBytes 4 addr ++ page))

/-- The address of tag slot `t` and of Served page `p` (R147). -/
def tagSlot (t : Nat) : Nat := 0x02800000 + t * 16
def servedPage (p : Nat) : Nat := 0x02000000 + p * 4096

/-- Served pages or tag slots that extents not FREE take up (R147). -/
def depotUsed (s : State) (cls : Nat) : Nat :=
  ((List.range 256).map (fun x =>
    if extState s x ≠ 0 ∧ extClass s x = cls then extLen s x else 0)).sum

/-- DEP_SERVED_FREE and DEP_TAG_FREE recomputed from the extents (R147). -/
def syncDepot (s : State) : State :=
  (s.wr Reg.DEP_SERVED_FREE (BitVec.ofNat 32 (2048 - depotUsed s 2))).wr Reg.DEP_TAG_FREE
    (BitVec.ofNat 32 (262144 - depotUsed s 1))

/-! ### Status emulation (R125-R128) -/

/-- Used status entries of section `n` (R108), with their numbers. -/
def statusEntries (s : State) (n : Nat) : List (Nat × Nat) :=
  ((List.range 4).map (fun k => (k, (s.rd (Reg.SEC_STATUS n k)).toNat))).filter
    (fun p => p.2 % 256 != 0)

/-- The polling entry: the lowest-numbered used entry with poll set (R124). -/
def pollEntry (s : State) (n : Nat) : Option (Nat × Nat) :=
  (statusEntries s n).find? (fun p => bitOf p.2 24)

/-- The stored shadow of a status opcode; 0 before it was read (R124). -/
def shadowOf (l : Line) (opcode : Nat) : Nat :=
  match l.shadows.find? (fun p => p.1 == opcode) with
  | some p => p.2
  | none => 0

/-- A value of a status byte with bit `i` replaced, where the entry defines the bit. -/
def putBit (v i : Nat) (b : Bool) : Nat :=
  if 8 ≤ i then v else v - (if bitOf v i then 2 ^ i else 0) + (if b then 2 ^ i else 0)

/-- Whether any queued WRITE or ERASE has not completed (R125). -/
def lineBusy (l : Line) : Bool := l.queue.any (fun e => e.kind == 3 || e.kind == 4)

/-- The emulated value of a status entry over its shadow (R125). -/
def emulate (s : State) (n e : Nat) : Nat :=
  let l := s.line n
  let st := Reg.SEC_STAGE_STAT n
  let v := putBit (shadowOf l (e % 256)) (bitsOf e 10 8) (lineBusy l != bitOf e 11)
  let v := putBit v (bitsOf e 15 12) (s.bit st 3)
  let v := putBit v (bitsOf e 19 16) (s.bit st 4)
  putBit v (bitsOf e 23 20) (s.bit st 5)

/-- The value a STATUS frame with this opcode is answered with (R125). -/
def statusValue (s : State) (n opcode : Nat) : Nat :=
  match (statusEntries s n).find? (fun p => p.2 % 256 == opcode) with
  | some p => emulate s n p.2
  | none => shadowOf (s.line n) opcode

/-- SEC_n_EMU_k: the emulated value and the shadow of status entry `k` (R125); 0 where the entry is unused. -/
def emuWord (s : State) (n k : Nat) : Nat :=
  let e := (s.rd (Reg.SEC_STATUS n k)).toNat
  if e % 256 = 0 then 0 else emulate s n e + 256 * shadowOf (s.line n) (e % 256)

/-- SEC_n_STAGE_STAT.queued and busy brought in step with the queue. -/
def syncStage (s : State) (n : Nat) : State :=
  let l := s.line n
  (s.setF (Reg.SEC_STAGE_STAT n) 1 0 l.queue.length).setBit (Reg.SEC_STAGE_STAT n) 2 (lineBusy l)

/-- The queue of section `n` replaced. -/
def setQueue (s : State) (n : Nat) (q : List Entry) : State :=
  syncStage (s.setLine n { s.line n with queue := q }) n

/-- The emulated failure flag of a kind set: pfail for WRITE, efail for ERASE. -/
def setFail (s : State) (n kind : Nat) : State :=
  if kind = 3 then s.setBit (Reg.SEC_STAGE_STAT n) 4 true
  else if kind = 4 then s.setBit (Reg.SEC_STAGE_STAT n) 5 true else s

/-- The denial response (R127): the emulated write-enable latch clears, and with deny_fail the
failure flag of the kind is set. -/
def denialResponse (s : State) (n kind : Nat) : State :=
  let s := s.setBit (Reg.SEC_STAGE_STAT n) 3 false
  syncStage (if s.bit (Reg.SEC_POL n) 8 then setFail s n kind else s) n

/-! ### Verdicts (R112-R114) -/

/-- The verdict counter of a verdict code (R112). -/
def verdictCounter (n : Nat) : Nat → Nat
  | 0 => Reg.SEC_CNT_PASS n
  | 1 => Reg.SEC_CNT_DENY n
  | 2 => Reg.SEC_CNT_STAGE n
  | 3 => Reg.SEC_CNT_SERVE n
  | _ => Reg.SEC_CNT_CHECK n

/-- SEC_n_LAST_VERDICT and the verdict counter (R112); the reason is recorded with DENY only. -/
def recordVerdict (s : State) (n v route : Nat) (conv : Bool) (reason steps : Nat) : State :=
  (s.wr (Reg.SEC_LAST_VERDICT n) (BitVec.ofNat 32
    (v + route * 2 ^ 3 + b2n conv * 2 ^ 4 + (if v = 1 then reason else 0) * 2 ^ 8 +
      (steps % 512) * 2 ^ 16))).inc (verdictCounter n v)

/-- SEC_n_LAST_DENY, SEC_n_LAST_DENY_ADDR and 0x1010 DENIED (R114, R138). -/
def recordDeny (s : State) (n opcode ext kind route cs reason addr : Nat) : State :=
  let s := s.wr (Reg.SEC_LAST_DENY n) (BitVec.ofNat 32
    (opcode + reason * 2 ^ 8 + kind * 2 ^ 16 + route * 2 ^ 19 + cs * 2 ^ 20))
  let s := s.wr (Reg.SEC_LAST_DENY_ADDR n) (BitVec.ofNat 32 addr)
  secLog s Ev.DENIED n (leBytes 1 opcode ++ leBytes 1 ext ++ leBytes 1 kind ++ leBytes 1 route ++
    leBytes 1 reason ++ leBytes 4 addr)

/-- A verdict that the hardware replaces (R114). -/
def recordConverted (s : State) (n given reason opcode : Nat) : State :=
  secLog (s.inc (Reg.SEC_CNT_CONVERTED n)) Ev.VERDICT_CONVERTED n
    (leBytes 1 given ++ leBytes 1 reason ++ leBytes 1 opcode)

/-- The Ganger's page in hand dropped, its frame having taken `spent` clocks of the window (R154). -/
def dropGanger (s : State) (n spent : Nat) : State :=
  let s := s.setLine n { s.line n with ganger := none }
  (s.addTo (Reg.GNG_USED n) spent).setBit Reg.GNG_STAT n false

/-- How much of a Ganger frame has passed by now: free, since the model holds no clock. All of it means that the frame has
ended and only its check runs.
DESIGN CHOICE (log entry 114). -/
def gangerSpent (s : State) (g : GangerPage) : Nat × State :=
  let f := s.free
  (f.1.toNat % (g.clocks + 1), f.2)

/-- A Ganger frame on the F-port is pre-empted (R95, R153): the page is retried. A check in progress, its frame already
ended, goes on beside the component's frame (R156). -/
def preemptGanger (s : State) (n : Nat) : State :=
  match (s.line n).ganger with
  | some g =>
    let f := gangerSpent s g
    if f.1 = g.clocks then f.2
    else ((dropGanger f.2 n f.1).inc (Reg.SEC_CNT_PREEMPT n)).inc (Reg.GNG_RETRY n)
  | none => s

/-- The Ganger stops where its section leaves ROUTED (R91). -/
def stopGanger (s : State) (n : Nat) : State :=
  match (s.line n).ganger with
  | some g =>
    let f := gangerSpent s g
    dropGanger f.2 n f.1
  | none => s

/-! ### Frames on the F-port (R87, R99, R105, R444) -/

/-- The low `n` bytes of an address, most significant first, as they are sent. -/
def addrWire (n a : Nat) : List Byte := (leBytes n a).reverse

/-- The address that a chip select receives for a component address (R99). -/
def flashAddr (s : State) (n cs a : Nat) : Nat := if cs = 1 then a - profLe s n 20 4 else a

/-- The device mode code of port `n`'s profile (R94). -/
def deviceMode (s : State) (n : Nat) : Nat := profByte s n 9

/-- D_f of the profile entry with this opcode, extension and descriptor. -/
def entryDf (s : State) (n opcode ext desc : Nat) : Nat :=
  match ((List.range (opCount s n)).map (opEntry s n)).find? (fun e =>
      e.opcode == opcode && e.ext == ext && e.desc == desc % 2 ^ 23) with
  | some e => e.df
  | none => 0

/-- A component's read as the flash receives it (R87): in the component's own form, with the chip select and address of R99
and the flash's dummy count. -/
def readFrame (s : State) (n : Nat) (f : Frame) : FlashFrame :=
  ⟨f.cs, none, f.opcode, f.ext, addrWire f.addrLen (flashAddr s n f.cs f.addr), entryDf s n f.opcode f.ext f.desc, []⟩

/-- A replay of an entry (R119, R444): in the device mode, with the address bytes that the component sent; in 8D, where an
address has 4 bytes, with FADDR. -/
def replayFrame (s : State) (n : Nat) (e : Entry) : FlashFrame :=
  let len := if e.addrLen ≠ 0 ∧ deviceMode s n = 9 then 4 else e.addrLen
  ⟨e.cs, some (deviceMode s n), e.opcode, e.ext, addrWire len (flashAddr s n e.cs e.addr),
   entryDf s n e.opcode e.ext e.desc, e.data⟩

/-- The address bytes of a frame that the controller issues by itself under descriptor `d` (R444). -/
def deviceAddrLen (s : State) (n d : Nat) : Nat :=
  match bitsOf d 7 6 with
  | 0 => 0
  | 1 => if deviceMode s n = 9 then 4 else 3
  | 2 => 4
  | _ => if deviceMode s n = 9 ∨ s.bit (Reg.SEC_ADDR_STAT n) 0 = true then 4 else 3

/-- A frame that the controller issues by itself with profile entry `e` (R105, R444). -/
def deviceFrame (s : State) (n : Nat) (e : OpEntry) (cs addr : Nat) (data : List Byte) : FlashFrame :=
  ⟨cs, some (deviceMode s n), e.opcode, e.ext, addrWire (deviceAddrLen s n e.desc) addr, e.df, data⟩

/-- A frame put on the F-port of `n`. -/
def drive (s : State) (n : Nat) (f : FlashFrame) : State := s.setLine n { s.line n with out := some f }

/-- The STATUS entries of the profile in the F-port's interface, in their order (R124). -/
def statusOps (s : State) (n : Nat) : List OpEntry :=
  ((List.range (opCount s n)).map (opEntry s n)).filter (fun e =>
    kindOf e.desc == 2 && ifaceOfDesc e.desc == s.fld (Reg.SEC_PORT_STAT n) 3 2)

/-- Frames of STATUS entries on chip select `cs`, a busy poll or refresh reads, driven one after the other. -/
def driveStatus (s : State) (n cs : Nat) (es : List OpEntry) : State :=
  es.foldl (fun s e => drive s n (deviceFrame s n e cs 0 [])) s

/-- Whether SEC_n_F_SENSE_N blocks the F-port: third_master set and the line low (R98). -/
def senseBlocks (s : State) (n : Nat) : Bool :=
  s.bit (Reg.SEC_CFG n) 0 && s.bit (Reg.SEC_PORT_STAT n) 7

/-- Whether a read that needs the flash receives the flash-unavailable response (R98, R122,
R124, R445). -/
def flashUnavailable (s : State) (n : Nat) : Bool :=
  lineBusy (s.line n) || s.bit (Reg.SEC_STAGE_STAT n) 6 || s.bit (Reg.SEC_PORT_STAT n) 8 ||
  senseBlocks s n || powerFailing s

/-- The frame of section `n` replaced. -/
def setFrame (s : State) (n : Nat) (f : Option Frame) : State :=
  s.setLine n { s.line n with frame := f }

/-- The flash-unavailable response to an ARRAY_READ (R131). -/
def unavailable (s : State) (n : Nat) (f : Frame) : State :=
  setFrame (s.inc (Reg.SEC_CNT_UNAVAIL n)) n (some { f with reply := .fill })

/-- Where the data of an ARRAY_READ comes from after verdict PASS, SERVE or CHECK (R112, R131,
R148, R149, R151). -/
def readSource (s : State) (n v : Nat) (f : Frame) : State :=
  if v = 3 then
    match liveExtent s n f.bank 2 f.addr with
    | none => unavailable (s.inc (Reg.SEC_CNT_DEPOT_MISS n)) n f
    | some x =>
      if holdPend s (extComp s x) then unavailable s n f
      else setFrame s n (some { f with reply := .depot x })
  else if v = 4 then
    match (if s.tagKey.isSome then liveExtent s n f.bank 1 f.addr else none) with
    | none => unavailable (s.inc (Reg.SEC_CNT_DEPOT_MISS n)) n f
    | some x =>
      if holdPend s (extComp s x) = true ∨ flashUnavailable s n = true then unavailable s n f
      else drive (setFrame (preemptGanger s n) n (some { f with reply := .checked x })) n (readFrame s n f)
  else if flashUnavailable s n then unavailable s n f
  else drive (setFrame (preemptGanger s n) n (some { f with reply := .flash })) n (readFrame s n f)

/-- Whether the RLOOK result in a verdict's ra operand shows a hit of class `c` (R113). -/
def hitOf (ra c : Nat) : Bool := bitOf ra 11 && bitsOf ra 9 8 == c

/-- The reason for which the hardware converts a verdict to DENY, or none (R112, R113, R117). -/
def conversion (s : State) (n : Nat) (f : Frame) (v ra : Nat) : Option Nat :=
  if f.kind = 0 then
    if v = 2 ∨ (v = 3 ∧ hitOf ra 2 = false) ∨ (v = 4 ∧ hitOf ra 1 = false) then some 0xFE else none
  else if writeKind f.kind = true ∧ sealed s = false then
    if v = 3 ∨ v = 4 then some 0xFE
    else if v = 2 ∧ f.opcode ≠ 0 ∧ (s.fld (Reg.SEC_ADDR_OPS n) 7 0 = f.opcode ∨
        s.fld (Reg.SEC_ADDR_OPS n) 15 8 = f.opcode ∨ s.fld (Reg.SEC_ADDR_OPS n) 23 16 = f.opcode)
      then some 0xFB
    else none
  else none

/-- The command route's verdict takes effect (R112-R114, R130). A late frame (R88) has its verdict counted only. A DENY on
an UNKNOWN frame, the program's or 0xF7 or 0xFF, sets no SEC_n_LAST_DENY and logs no 0x1010: R85 has such a frame ignored
whatever the verdict, and R113 and R114 do not say what they record of it.
DESIGN CHOICE (log entry 89). -/
def commandVerdict (s : State) (n v reason ra steps : Nat) : State :=
  match (s.line n).frame with
  | none => s
  | some f =>
    match conversion s n f v ra with
    | some why =>
      let s := recordConverted s n v why f.opcode
      let s := recordVerdict s n 1 0 true why steps
      let s := recordDeny s n f.opcode f.ext f.kind 0 f.cs why f.addr
      setFrame s n (some { f with verdict := some (1, why),
                                  reply := if f.kind = 0 ∧ f.late = false then .fill else f.reply })
    | none =>
      let s := recordVerdict s n v 0 false reason steps
      if f.kind = 0 then
        if v = 1 then
          setFrame (recordDeny s n f.opcode f.ext f.kind 0 f.cs reason f.addr) n
            (some { f with verdict := some (1, reason), reply := if f.late then f.reply else .fill })
        else
          let f := { f with verdict := some (v, 0) }
          if f.late then setFrame s n (some f) else readSource s n v f
      else if writeKind f.kind then
        if sealed s then
          setFrame (recordDeny s n f.opcode f.ext f.kind 0 f.cs 0xFA f.addr) n
            (some { f with verdict := some (1, 0xFA) })
        else if v = 1 then
          setFrame (recordDeny s n f.opcode f.ext f.kind 0 f.cs reason f.addr) n
            (some { f with verdict := some (1, reason) })
        else setFrame s n (some { f with verdict := some (v, 0) })
      else setFrame s n (some { f with verdict := some (v, if v = 1 then reason else 0) })

/-- A write-kind frame whose command route is not run: the queue is full or the flash busy
(R120), or the active bank is empty (R114, R135). -/
def refuseRoute (s : State) (n : Nat) (f : Frame) (why : Nat) : State :=
  let s := recordVerdict s n 1 0 false why 0
  let s := if f.kind = 0 ∨ writeKind f.kind = true
    then recordDeny s n f.opcode f.ext f.kind 0 f.cs why f.addr else s
  setFrame s n (some { f with verdict := some (1, why), reply := if f.kind = 0 then .fill else f.reply })

/-! ### The staging queue (R120-R130) -/

/-- A queued entry ends in DENY (R127): counted, recorded, answered with the denial response, and
removed with its judge route. -/
def denyEntry (s : State) (n : Nat) (e : Entry) (reason route : Nat) : State :=
  let s := s.inc (Reg.SEC_CNT_DENY n)
  let s := recordDeny s n e.opcode e.ext e.kind route e.cs reason e.addr
  let l := s.line n
  let s := s.setLine n { l with queue := l.queue.erase e,
                                route := if e.progress = .judging then none else l.route }
  denialResponse s n e.kind

/-- An entry discarded without replay, logged as STAGE_DISCARD (R128, R130, R131, R445). R114 does not say which route
SEC_n_LAST_DENY and 0x1010 then show, nor whether SEC_n_LAST_VERDICT changes: the model records route 0, also for an entry on
its judge route, and leaves SEC_n_LAST_VERDICT.
DESIGN CHOICE (log entry 88). -/
def discardEntry (s : State) (n : Nat) (e : Entry) (reason cause : Nat) : State :=
  let s := denyEntry s n e reason 0
  secLog s Ev.STAGE_DISCARD n (leBytes 1 cause ++ leBytes 1 e.opcode ++ leBytes 4 e.addr)

/-- Every queued entry whose replay has not begun discarded; one replayed to CS0 already goes on to CS1 (R119). -/
def discardUnreplayed (s : State) (n reason cause : Nat) : List Entry → State
  | [] => s
  | e :: es =>
    discardUnreplayed
      (if e.progress = .judging ∨ (e.progress = .passed ∧ e.half = false) then discardEntry s n e reason cause else s)
      n reason cause es

/-- The new interface that a passed WRITE selects, when it matches a mode-change entry (R100). -/
def modeChange (s : State) (n iface opcode addr : Nat) (data : List Byte) : Option Nat :=
  ((List.range (profByte s n 28)).find? (fun i =>
    profByte s n (448 + 16 * i) == opcode && profByte s n (449 + 16 * i) == iface &&
    profLe s n (452 + 16 * i) 4 == addr &&
    (leAt data 0 1 &&& profByte s n (456 + 16 * i)) == profByte s n (457 + 16 * i) &&
    !data.isEmpty)).map (fun i => profByte s n (458 + 16 * i))

/-- One side's interface changed (R100): side 0 C-port, 1 F-port; cause 0 mode-change write,
1 mode_reset, 2 reset pin. -/
def setIface (s : State) (n side new cause : Nat) : State :=
  let old := s.fld (Reg.SEC_PORT_STAT n) (2 * side + 1) (2 * side)
  if old = new then s
  else secLog (s.setF (Reg.SEC_PORT_STAT n) (2 * side + 1) (2 * side) new) Ev.IFACE_CHANGE n
    (leBytes 1 side ++ leBytes 1 old ++ leBytes 1 new ++ leBytes 1 cause)

/-- The addressing state at its initial values (R116). -/
def resetAddrState (s : State) (n : Nat) : State :=
  s.wr (Reg.SEC_ADDR_STAT n) (BitVec.ofNat 32 (b2n (profByte s n 14 == 4)))

/-- A change of the addressing state by EN4B, EX4B or WREAR (R117), logged as ADDR_MODE. -/
def trackAddr (s : State) (n opcode : Nat) (first : Option Nat) : State :=
  let ops := Reg.SEC_ADDR_OPS n
  let a := Reg.SEC_ADDR_STAT n
  let old := s.rd a
  let s' :=
    if opcode = 0 then s
    else if s.fld ops 7 0 = opcode then s.setF a 0 0 1
    else if s.fld ops 15 8 = opcode then s.setF a 0 0 0
    else if s.fld ops 23 16 = opcode then
      match first with
      | some b => s.setF a 15 8 b
      | none => s
    else s
  if s'.rd a = old then s
  else secLog s' Ev.ADDR_MODE n (leBytes 1 (getBits old 0 0) ++ leBytes 1 (getBits old 15 8) ++
    leBytes 1 (s'.fld a 0 0) ++ leBytes 1 (s'.fld a 15 8) ++ leBytes 1 opcode)

/-- What the emulated latch and flags do at the select rise of a queued frame (R126, R127). -/
def queueEmulation (s : State) (n opcode kind : Nat) : State :=
  let st := Reg.SEC_STAGE_STAT n
  let s := if opcode ≠ 0 ∧ s.fld (Reg.SEC_WEL_OPS n) 7 0 = opcode then s.setBit st 3 true else s
  let s := if opcode ≠ 0 ∧ s.fld (Reg.SEC_WEL_OPS n) 15 8 = opcode then s.setBit st 3 false else s
  if (opcode ≠ 0 ∧ s.fld (Reg.SEC_ADDR_OPS n) 31 24 = opcode) ∨ kind = 3 ∨ kind = 4
  then (s.setBit st 4 false).setBit st 5 false else s

/-- The judge route's verdict takes effect on the entry being judged (R112, R121, R130). -/
def judgeVerdict (s : State) (n v reason steps : Nat) : State :=
  match (s.line n).queue.find? (fun e => e.progress == .judging) with
  | none => s
  | some e =>
    let deny (s : State) (conv : Bool) (why : Nat) : State :=
      let s := if conv then recordConverted s n v why e.opcode else s
      let s := recordVerdict s n 1 1 conv why steps
      let s := recordDeny s n e.opcode e.ext e.kind 1 e.cs why e.addr
      let s := s.setLine n { s.line n with queue := (s.line n).queue.erase e }
      if why = 0xFC then syncStage s n else denialResponse s n e.kind
    if v = 1 then deny s false reason
    else if v ≠ 0 then deny s true 0xFE
    else if 4096 < e.flen then deny s true 0xFD
    else
      let s := recordVerdict s n 0 1 false 0 steps
      let s := setQueue s n ((s.line n).queue.replace e { e with progress := .passed })
      match e.newIface with
      | some i => setIface s n 0 i 0
      | none => s

/-- A route ends by exception with DENY 0xFF (R43, R114). -/
def routeException (s : State) (n cause : Nat) : State :=
  match (s.line n).route with
  | none => s
  | some r =>
    let s := s.setLine n { s.line n with route := none }
    let s := secLog s Ev.ROUTE_EXCEPTION n
      (leBytes 1 cause ++ leBytes 2 r.pc ++ leBytes 1 (b2n r.judge))
    if r.judge then judgeVerdict s n 1 0xFF r.steps else commandVerdict s n 1 0xFF 0 r.steps

/-- A verdict instruction ends the route (R57, R112). -/
def routeVerdict (s : State) (n v reason ra : Nat) : State :=
  match (s.line n).route with
  | none => s
  | some r =>
    let s := s.setLine n { s.line n with route := none }
    if r.judge then judgeVerdict s n v reason (r.steps + 1)
    else commandVerdict s n v reason ra (r.steps + 1)

/-! ### Frames (R85, R91, R96) -/

/-- SEC_n_FRAME and SEC_n_FRAME_ADDR for a frame that ended with `outcome`.
DEDUCED (log entry 31). -/
def recordFrame (s : State) (n : Nat) (f : Frame) (outcome : Nat) : State :=
  (s.wr (Reg.SEC_FRAME n) (BitVec.ofNat 32
    (f.opcode + f.kind * 2 ^ 8 + outcome * 2 ^ 11 + f.cs * 2 ^ 15))).wr
    (Reg.SEC_FRAME_ADDR n) (BitVec.ofNat 32 f.addr)

/-- The frame of section `n` ends with `outcome`; frame_active clears. -/
def endFrame (s : State) (n : Nat) (f : Frame) (outcome : Nat) : State :=
  setFrame ((recordFrame s n f outcome).setBit (Reg.SEC_PORT_STAT n) 9 false) n none

/-- An address posted to the Ganger's hint queue (R155). -/
def postHint (s : State) (n a : Nat) : State :=
  let l := s.line n
  if l.hints.contains a then s
  else if 16 ≤ l.hints.length then
    s.setF (Reg.GNG_HINT n) 31 16 (min (s.fld (Reg.GNG_HINT n) 31 16 + 1) 65535)
  else
    (s.setLine n { l with hints := l.hints ++ [a] }).setF (Reg.GNG_HINT n) 4 0 (l.hints.length + 1)

/-- The pages of extent `x` that a read of `count` bytes from `a` delivers only in part (R149). -/
def partialPages (s : State) (x a count : Nat) : List Nat :=
  let lead := a / 4096 * 4096
  let last := a + count
  let trail := last / 4096 * 4096
  let ps := if count = 0 then []
    else (if a % 4096 ≠ 0 ∨ last < lead + 4096 then [lead] else []) ++
      (if last % 4096 ≠ 0 ∧ trail ≠ lead then [trail] else [])
  ps.filter (fun p => extHas s x p)

/-- Unchecked pages counted and hinted (R149). -/
def uncheckedPages (s : State) (n : Nat) : List Nat → State
  | [] => s
  | p :: ps => uncheckedPages (postHint (s.inc (Reg.SEC_CNT_UNCHECKED n)) n p) n ps

/-- The pages of extent `x` that a read of `count` bytes from `a` delivers whole (R149). -/
def wholePages (s : State) (x a count : Nat) : List Nat :=
  let first := (a + 4095) / 4096
  ((List.range ((a + count) / 4096 - first)).map (fun i => (first + i) * 4096)).filter (fun p => extHas s x p)

/-- The tag results still to come of the pages that a CHECK frame delivered whole; those that came while it ran stand under
its extent at the end of the list (R149, R150). -/
def awaitTags (s : State) (n x : Nat) (pages : List Nat) : State :=
  let l := s.line n
  s.setLine n { l with checks := (l.checks ++ [(x, pages)]).filter (fun p => !p.2.isEmpty), tagged := [] }

/-- What the end of a read, or of its source, leaves behind after `count` bytes: the results to come and the unchecked pages
of a CHECK, the overrun of a SERVE (R148, R149). -/
def endRead (s : State) (n : Nat) (f : Frame) (count : Nat) : State :=
  match f.reply with
  | .checked x =>
    let s := awaitTags s n x ((wholePages s x f.addr count).filter (fun p => !(s.line n).tagged.contains p))
    uncheckedPages s n (partialPages s x f.addr count)
  | .depot x => if extEnd s x < f.addr + count then s.inc (Reg.SEC_CNT_SERVE_OVERRUN n) else s
  | _ => s

/-! ### What the C-port drives (R90, R112, R125, R131, R148) -/

/-- Edges per byte of a frame's data phase (R84). -/
def dataEdges (desc : Nat) : Nat := if bitOf desc 10 then 1 else 8 / 2 ^ bitsOf desc 9 8

/-- Edges per transfer unit of a frame's data phase (R84). -/
def unitEdges (desc : Nat) : Nat := if bitOf desc 10 then 2 else dataEdges desc

/-- The captured response of an opcode at an offset: 0xFF beyond 255 and where no capture supplied it (R90). -/
def cacheByte (l : Line) (opcode i : Nat) : Byte :=
  match l.cache.find? (fun p => p.1 == opcode) with
  | some p => if i < 256 then p.2.getD i 0xFF else 0xFF
  | none => 0xFF

/-- SEC_n_POL.deny_fill. -/
def denyFill (s : State) (n : Nat) : Byte := BitVec.ofNat 8 (s.fld (Reg.SEC_POL n) 7 0)

/-- Byte `i` that the C-port itself drives in the data phase of a read: from the response cache, the emulated status register
or the Depot, or deny_fill; none where the data lines are undriven or the flash's bytes are cut through. -/
def portByte (s : State) (n : Nat) (f : Frame) (i : Nat) : Option Byte :=
  match f.reply with
  | .fill => some (denyFill s n)
  | .cache => some (cacheByte (s.line n) f.opcode (f.addr + i))
  | .emulated v => some (BitVec.ofNat 8 v)
  | .depot x =>
    let a := f.addr + i
    some (if a < extEnd s x then s.rdMem (servedPage (extBase s x) + (a - extStart s x)) else denyFill s n)
  | _ => none

/-- The bytes that the C-port itself drove in a read of `count` bytes. -/
def portBytes (s : State) (n : Nat) (f : Frame) (count : Nat) : List Byte :=
  f.lead.take count ++ (List.range (count - f.skip)).filterMap (fun i => portByte s n f (f.skip + i))

/-- The data phase of a read has ended after `count` bytes. -/
def sentRead (s : State) (n : Nat) (f : Frame) (count : Nat) : State :=
  let s := s.setLine n { s.line n with sent := portBytes s n f count }
  if f.kind = 0 then endRead s n f count else s

/-- The command route of section `n` ends without a verdict; a judge route goes on. -/
def dropRoute (s : State) (n : Nat) : State :=
  match (s.line n).route with
  | some r => if r.judge then s else s.setLine n { s.line n with route := none }
  | none => s

/-- A frame's points change (R92): the component frame in progress ends as the phase that it has reached says. -/
def cutFrame (s : State) (n : Nat) : State :=
  match (s.line n).frame with
  | none => s
  | some f =>
    let s := dropRoute s n
    if f.decoded = false then endFrame (s.inc (Reg.SEC_CNT_VOID n)) n f 1
    else if f.late then endFrame s n f 6
    else if f.kind = 3 then
      secLog (endFrame (s.inc (Reg.SEC_CNT_TORN_WRITE n)) n f 4) Ev.TORN_WRITE n
        (leBytes 1 f.opcode ++ leBytes 4 f.addr ++ leBytes 4 f.edges)
    else if f.kind = 4 ∨ f.kind = 5 then endFrame (s.inc (Reg.SEC_CNT_VOID n)) n f 1
    else if f.kind = 6 then endFrame s n f 5
    else if f.edges = 0 then endFrame (s.inc (Reg.SEC_CNT_ABANDONED n)) n f 2
    else endFrame ((sentRead s n f (f.edges / dataEdges f.desc)).inc (Reg.SEC_CNT_TORN_READ n)) n f 3

/-- A flash-side fault with flash_fail_hold raises interrupt 8, and the signal box is to hold the section's components (R129). -/
def failHold (s : State) (n : Nat) : State :=
  if s.bit (Reg.SEC_POL n) 9 then (s.setLine n { s.line n with flashFail := true }).raise 8 else s

/-- An entry left incomplete by PFW_N or discarded with reason 0xF8 and a failure flag. -/
def failEntry (s : State) (n : Nat) (e : Entry) : State :=
  let s := denyEntry s n e 0xF8 0
  let s := failHold (s.inc (Reg.SEC_CNT_FLASH_FAIL n)) n
  syncStage (setFail s n e.kind) n

/-- A DEVICE operation ends with `result` (R105): 0 OK, 1 CONFLICT, 2 REFUSED, 3 SENSE_TIMEOUT,
4 ABORTED. A read feeding a FLASH job that ends 1, 3 or 4 aborts the holder (R230). -/
def endDev (s : State) (n result : Nat) : State :=
  let s := match (s.line n).dev with
    | some d => if d.dest = 0 ∧ (result = 1 ∨ result = 3 ∨ result = 4) ∧ laneTakes s n = true
                then exmAbortHolder s n else s
    | none => s
  let s := s.setLine n { s.line n with dev := none }
  ((s.setF (Reg.SEC_DEV_STAT n) 0 0 0).setF (Reg.SEC_DEV_STAT n) 4 2 result).setF
    (Reg.SEC_DEV_STAT n) 1 1 1

/-- Step 1 of the identity check (R104) where the profile has a reset pin: SEC_n_F_RST_N is pulsed low. Without one,
firmware issues the profile's mode_reset entries as DEVICE frames. -/
def identReset (s : State) (n : Nat) : State :=
  if pointsOf s n = 1 ∧ profFlag s n 0 = true ∧ profFlag s n 3 = true then
    s.setLine n { s.line n with resets := (s.line n).resets + 1 }
  else s

/-- The points of section `n` set by a committed POINTS action (R74, R91, R92, R116, R124). The
change makes no REG_CHANGE record (R360). -/
def setPoints (s : State) (n p : Nat) : State :=
  let old := s.fld (Reg.SEC_CTL n) 1 0
  let s := s.setF (Reg.SEC_CTL n) 1 0 p
  if old = p then s
  else
    let s := if old = 2 then cutFrame s n else s
    let s := if old = 2 then stopGanger s n else s
    let s := if p = 0 then discardUnreplayed s n 0xF9 1 (s.line n).queue else s
    let s := match old, (s.line n).dev with
      | 1, some d => if d.dest = 2 then s else endDev s n 4
      | _, _ => s
    let s := if p = 0 then s.setLine n { s.line n with cache := [] } else s
    if p = 2 then
      let s := resetAddrState s n
      syncStage (s.setLine n { s.line n with shadows := [], refreshDue := true }) n
    else identReset (s.setLine n { s.line n with refreshDue := false, resetSeen := [] }) n

/-- The roles of a section's banks exchanged by a committed PROG action (R74, R135, R155). -/
def swapBanks (s : State) (n : Nat) : State :=
  let b := 1 - activeBank s n
  let bk := bankOf s n b
  let init := (bk.image.drop (32 + leAt bk.image 8 4)).take (leAt bk.image 20 4)
  let scratch := (List.range init.length).foldl
    (fun m i => Sparse.set (fun _ => (0 : Byte)) m i (init.getD i 0)) []
  let s := setBank s n b { bk with scratch := scratch }
  let s := s.setF (Reg.SEC_PGM_STAT n) 4 4 b
  let s := s.setF (Reg.SEC_PGM_STAT n) 5 5 (b2n bk.ok)
  let s := s.setF (Reg.SEC_PGM_STAT n) 3 3 (b2n (bankOf s n (1 - b)).ok)
  let s := s.wrBytes (Reg.SEC_PGM_ACT_DIGEST n 0) 12 bk.digest
  let s := s.wrBytes (Reg.SEC_PGM_STBY_DIGEST n 0) 12 (bankOf s n (1 - b)).digest
  let lows := ((List.range 256).filter (fun x =>
    extSection s x == n && extBank s x == b && decide (2 ≤ extState s x))).map (extStart s)
  s.wr (Reg.GNG_CURSOR n) (BitVec.ofNat 32 ((lowestFrom 0 lows).getD 0))

/-! ### Mismatch responses (R151) and the hold bridge -/

/-- A frame in its data phase drives deny_fill from its next edge on (R151): what its source delivered up to now is judged
as at the end of a read. -/
def bridgeRead (s : State) (n : Nat) (f : Frame) : State :=
  let k := f.edges / dataEdges f.desc
  unavailable (endRead s n f k) n { f with lead := portBytes s n f k, skip := k }

/-- A frame of component `c` that takes SERVE or CHECK drives deny_fill from its next edge on
(R151). -/
def bridgeFrame (s : State) (c n : Nat) : State :=
  match (s.line n).frame with
  | none => s
  | some f =>
    match f.reply with
    | .depot x => if extComp s x = c then bridgeRead s n f else s
    | .checked x => if extComp s x = c then bridgeRead s n f else s
    | _ => s

/-- Bit `c` of DEP_HOLD_PEND set by the hardware (R151). -/
def setHoldPend (s : State) (c : Nat) : State :=
  let s := if c < 32 then s.setL .port Reg.DEP_HOLD_PEND_LO c c 1
    else s.setL .port Reg.DEP_HOLD_PEND_HI (c - 32) (c - 32) 1
  (List.range 32).foldl (fun s n => bridgeFrame s c n) s

/-- The mismatch response of the region that extent `x` belongs to (R109, R151): that of the region in the resolved table of
the extent's bank at the extent's START, and NOTE where that table has none there. The spec names the region, not how it is
found again.
DESIGN CHOICE (log entry 92). -/
def extResponse (s : State) (x : Nat) : Nat :=
  match regionAt (bankOf s (extSection s x) (extBank s x)).map (extStart s x) with
  | some r => r.resp
  | none => 0

/-- SEC_n_TAG_STAT and SEC_n_TAG_LAST_ADDR of a mismatch, the interrupt, and the hold bridge of
HOLD and LOCK (R151, R157). LOCK's entry into LOCKDOWN is the caller's. -/
def tagMismatch (s : State) (n x addr src : Nat) : State :=
  let r := extResponse s x
  let s := s.wr (Reg.SEC_TAG_STAT n) (BitVec.ofNat 32 (r + src * 4 + x * 256))
  let s := s.wr (Reg.SEC_TAG_LAST_ADDR n) (BitVec.ofNat 32 addr)
  let s := s.raise 8
  if 1 ≤ r then setHoldPend s (extComp s x) else s

end Sys2Proof.Machine
end

