-- ==== Sys2Proof/Machine/SecAct.lean ====
section
/-! DEFINITION. What the trigger registers of a port do: DEVICE frames (R105), the profile check
(R102), the program checker and bank load (R58, R132), and writes to the extent state (R146). -/

namespace Sys2Proof.Machine

/-- Whether `len` bytes from `a` lie wholly within LC0 memory or wholly within LC1 memory (R404). -/
def inCoreMem (a len : Nat) : Bool :=
  decide ((0x01000000 ≤ a ∧ a + len ≤ 0x01200000) ∨ (0x01200000 ≤ a ∧ a + len ≤ 0x01400000))

/-! ### DEVICE frames -/

/-- Whether an entry's kind suits a destination (R105): reads for 0 and 1, WRITE, ERASE and
CONTROL for 2; 3 suits nothing.
DEDUCED (log entry 32). -/
def devKindOk (kind dest : Nat) : Bool :=
  match dest with
  | 0 => decide (kind ≤ 2)
  | 1 => decide (kind ≤ 2)
  | 2 => writeKind kind
  | _ => false

/-- The DEVICE operation that the port's registers describe. -/
def devOpOf (s : State) (n : Nat) : DevOp :=
  let op := Reg.SEC_DEV_OP n
  ⟨s.fld op 5 0, s.fld op 8 8, s.fld op 10 9, (s.rd (Reg.SEC_DEV_ADDR n)).toNat,
   s.fld (Reg.SEC_DEV_LEN n) 29 0, (s.rd (Reg.SEC_DEV_BUF n)).toNat, false⟩

/-- Whether SEC_n_DEV_GO.go ends REFUSED (R105, R130, R445).
DEDUCED (log entry 32). -/
def devRefused (s : State) (n : Nat) (d : DevOp) : Bool :=
  pointsOf s n != 1 || !s.bit (Reg.SEC_PORT_STAT n) 4 || decide (opCount s n ≤ d.entry) ||
  !devKindOk (kindOf (opEntry s n d.entry).desc) d.dest ||
  (d.dest == 2 && (decide (pageSize s n < d.left) || sealed s)) ||
  (d.dest != 0 && !inCoreMem d.buf d.left) || (d.dest == 0 && !laneWantsFlash s n) || powerFailing s

/-- A write of SEC_n_DEV_GO.go (R105). -/
def devGo (s : State) (n : Nat) : State :=
  if s.bit (Reg.SEC_DEV_STAT n) 0 then s
  else
    let d := devOpOf s n
    if devRefused s n d then endDev s n 2
    else
      (s.setLine n { s.line n with dev := some d }).setBit (Reg.SEC_DEV_STAT n) 0 true

/-! ### The profile check (R102) -/

/-- Whether bytes `off` to `off + len - 1` of the profile are 0. -/
def profZero (s : State) (n off len : Nat) : Bool :=
  (List.range len).all (fun i => profByte s n (off + i) == 0)

/-- Lanes and rate of a phase as a pair: lane code and DTR. -/
abbrev Phase := Nat × Bool

/-- The ten modes of R83 as command, address and data phases (lane codes 0 1, 1 2, 2 4, 3 8). -/
def modes : List (Phase × Phase × Phase) :=
  [((0, false), (0, false), (0, false)), ((0, false), (0, false), (1, false)),
   ((0, false), (1, false), (1, false)), ((0, false), (0, false), (2, false)),
   ((0, false), (2, false), (2, false)), ((2, false), (2, false), (2, false)),
   ((0, false), (0, false), (3, false)), ((0, false), (3, false), (3, false)),
   ((3, false), (3, false), (3, false)), ((3, true), (3, true), (3, true))]

/-- Whether a descriptor forms one of the modes; a phase that is absent may take any form that a
mode with the other phases has. -/
def descModeOk (d : Nat) : Bool :=
  modes.any (fun m =>
    m.1 == (bitsOf d 1 0, bitOf d 2) &&
    (bitsOf d 7 6 == 0 || m.2.1 == (bitsOf d 4 3, bitOf d 5)) &&
    (!bitOf d 12 || m.2.2 == (bitsOf d 9 8, bitOf d 10)))

/-- Whether a descriptor uses 8 lanes or DTR in any phase. -/
def descWide (d : Nat) : Bool :=
  bitsOf d 1 0 == 3 || bitOf d 2 || (bitsOf d 7 6 != 0 && (bitsOf d 4 3 == 3 || bitOf d 5)) ||
  (bitOf d 12 && (bitsOf d 9 8 == 3 || bitOf d 10))

/-- A, the clocks of a frame's command and address phases (R84, R86), with a 4-byte address when
tracked. -/
def descClocks (d : Nat) : Nat :=
  let lanes (c : Nat) : Nat := 2 ^ c
  let cmdBits := if bitOf d 2 then 16 else 8
  let addrN := match bitsOf d 7 6 with | 0 => 0 | 1 => 3 | _ => 4
  cmdBits / (lanes (bitsOf d 1 0) * (if bitOf d 2 then 2 else 1)) +
    8 * addrN / (lanes (bitsOf d 4 3) * (if bitOf d 5 then 2 else 1))

/-- An entry's index and the entry, for all entries the count names. -/
def opEntries (s : State) (n : Nat) : List (Nat × OpEntry) :=
  (List.range (min (opCount s n) 48)).map (fun i => (i, opEntry s n i))

/-- The index of the first entry for which `bad` holds. -/
def firstBad {α : Type} (bad : α → Bool) (es : List (Nat × α)) : Option Nat :=
  (es.find? (fun p => bad p.2)).map Prod.fst

/-- A mode-change entry: opcode, interface, register address, mask, value, new interface. -/
structure ModeEntry where
  opcode : Nat
  iface : Nat
  new : Nat
deriving DecidableEq, Repr

/-- The mode-change entries the count names, numbered 48 + i. -/
def modeEntries (s : State) (n : Nat) : List (Nat × ModeEntry) :=
  (List.range (min (profByte s n 28) 4)).map (fun i =>
    (48 + i, ⟨profByte s n (448 + 16 * i), profByte s n (449 + 16 * i), profByte s n (458 + 16 * i)⟩))

/-- Whether a value lies in a range. -/
def within (lo hi v : Nat) : Bool := decide (lo ≤ v ∧ v ≤ hi)

/-- Check 1: magic, version, reserved bytes and unused entries. The entry is named where one entry's
own reserved bits or an unused entry fails. -/
def profCheck1 (s : State) (n : Nat) : Option Nat :=
  if profLe s n 0 4 ≠ 0x4650524C ∨ profLe s n 4 2 ≠ 1 ∨ 16 ≤ profByte s n 15 ∨
     profZero s n 29 3 = false ∨ profZero s n 34 2 = false then some 0xFF
  else
    match firstBad (fun e : OpEntry => decide (4 ≤ e.flags) || bitsOf e.desc 31 23 != 0 ||
        (ifaceOfDesc e.desc != 3 && e.ext != 0)) (opEntries s n) with
    | some i => some i
    | none =>
      match (List.range 48).find? (fun i => decide (opCount s n ≤ i) && !profZero s n (64 + 8 * i) 8) with
      | some i => some i
      | none =>
        match (List.range 4).find? (fun i =>
            if profByte s n 28 ≤ i then !profZero s n (448 + 16 * i) 16
            else !(profZero s n (450 + 16 * i) 2 && profZero s n (459 + 16 * i) 5)) with
        | some i => some (48 + i)
        | none => none

/-- Check 2: the ranges of the record tables and the counts. -/
def profCheck2 (s : State) (n : Nat) : Option Nat :=
  let b := profByte s n
  if within 0 3 (b 8) && within 0 9 (b 9) && within 4 64 (b 10) && within 0 1 (b 11) &&
     within 8 12 (b 12) && within 12 18 (b 13) && (b 14 == 3 || b 14 == 4) && within 20 31 (b 16) &&
     (b 17 == 0 || within 20 31 (b 17)) && within 1 48 (b 27) && within 0 4 (b 28) &&
     within 0 4096 (profLe s n 32 2) then
    match (opEntries s n).find? (fun p => profZero s n (64 + 8 * p.1) 8) with
    | some p => some p.1
    | none =>
      match (List.range (min (profByte s n 28) 4)).find? (fun i => profZero s n (448 + 16 * i) 16) with
      | some i => some (48 + i)
      | none => firstBad (fun e : ModeEntry => decide (3 < e.iface ∨ 3 < e.new)) (modeEntries s n)
  else some 0xFF

/-- Check 6: every descriptor forms a mode; DTR only in 8D-8D-8D, where addr_bytes is not 1. -/
def profCheck6 (s : State) (n : Nat) : Option Nat :=
  firstBad (fun e : OpEntry => !descModeOk e.desc ||
    ((bitOf e.desc 2 || bitOf e.desc 5 || bitOf e.desc 10) &&
      !(ifaceOfDesc e.desc == 3 && bitsOf e.desc 7 6 != 1))) (opEntries s n)

/-- Check 7: kinds, data_present and data_dir, capture and mode_reset. -/
def profCheck7 (s : State) (n : Nat) : Option Nat :=
  firstBad (fun e : OpEntry =>
    let k := kindOf e.desc
    let p := bitOf e.desc 12
    let d := bitOf e.desc 11
    !(decide (k ≤ 5) &&
      (if k ≤ 2 then p && !d else if k = 3 then p && d else !p) &&
      (!bitOf e.flags 0 || k == 1) && (!bitOf e.flags 1 || k == 5))) (opEntries s n)

/-- Check 8: the dummy counts (R86). -/
def profCheck8 (s : State) (n : Nat) : Option Nat :=
  firstBad (fun e : OpEntry =>
    bitsOf e.desc 19 13 != e.df + (if kindOf e.desc = 0 then descClocks e.desc + 10 else 0))
    (opEntries s n)

/-- Check 9: no interface holds two entries with the same opcode and extension; at most 8 captures. -/
def profCheck9 (s : State) (n : Nat) : Option Nat :=
  let es := opEntries s n
  match es.find? (fun p => es.any (fun q => decide (q.1 < p.1) &&
      ifaceOfDesc q.2.desc == ifaceOfDesc p.2.desc && q.2.opcode == p.2.opcode && q.2.ext == p.2.ext)) with
  | some p => some p.1
  | none => if 8 < (es.filter (fun p => bitOf p.2.flags 0)).length then some 0xFF else none

/-- Check 12: each mode-change entry names a WRITE opcode present in its interface. -/
def profCheck12 (s : State) (n : Nat) : Option Nat :=
  firstBad (fun m : ModeEntry => !(opEntries s n).any (fun p =>
    ifaceOfDesc p.2.desc == m.iface && p.2.opcode == m.opcode && kindOf p.2.desc == 3)) (modeEntries s n)

/-- Whether the power-on interface holds a REG_READ entry for an opcode (check 11). -/
def hasRegRead (s : State) (n op : Nat) : Bool :=
  (opEntries s n).any (fun p => ifaceOfDesc p.2.desc == powerOnIface s n && p.2.opcode == op &&
    kindOf p.2.desc == 1)

/-- A check that concerns no single entry. -/
def plainCheck (ok : Bool) : Option Nat := if ok then none else some 0xFF

/-- The first failing check of R102 with its entry.
DEDUCED (log entry 34). -/
def profFault (s : State) (n : Nat) : Option (Nat × Nat) :=
  let v33 := s.bit (Reg.SEC_PORT_STAT n) 5
  let mode := profByte s n 9
  let div := profByte s n 10
  [(1, profCheck1 s n), (2, profCheck2 s n), (3, plainCheck (profByte s n 11 == b2n v33)),
   (4, if v33 then
         (if 6 ≤ mode ∨ div < 6 then some 0xFF
          else firstBad (fun e : OpEntry => descWide e.desc) (opEntries s n))
       else none),
   (5, plainCheck (v33 || mode == 9 || decide (5 ≤ div))), (6, profCheck6 s n), (7, profCheck7 s n),
   (8, profCheck8 s n), (9, profCheck9 s n),
   (10, plainCheck (!profFlag s n 1 || (profByte s n 17 != 0 && profLe s n 20 4 % 2 ^ 20 == 0))),
   (11, plainCheck (!profFlag s n 0 || (hasRegRead s n 0x9F && hasRegRead s n 0x5A &&
        within 1 4096 (profLe s n 32 2)))),
   (12, profCheck12 s n)].findSome? (fun p => p.2.map (fun e => (p.1, e)))

/-- A write of SEC_n_PROF_CHECK.go (R102). On success both interfaces start at the power-on
interface (R100).
DEDUCED (log entry 34). -/
def profCheck (s : State) (n : Nat) : State :=
  match profFault s n with
  | none =>
    let s := s.wr (Reg.SEC_PROF_FAULT n) 0xFF00
    let s := s.setBit (Reg.SEC_PORT_STAT n) 4 true
    identReset ((s.setF (Reg.SEC_PORT_STAT n) 1 0 (powerOnIface s n)).setF (Reg.SEC_PORT_STAT n) 3 2 (powerOnIface s n)) n
  | some (c, e) =>
    let s := s.wr (Reg.SEC_PROF_FAULT n) (BitVec.ofNat 32 (c + 256 * e))
    secLog (s.setBit (Reg.SEC_PORT_STAT n) 4 false) Ev.PROFILE_BAD n (leBytes 1 c ++ leBytes 1 e)

/-! ### The program checker (R57, R58) -/

/-- The verdict code of an instruction that ends a route. -/
def verdictOf : Wop → Option Nat
  | .pass .. => some 0
  | .deny .. => some 1
  | .stage .. => some 2
  | .serve .. => some 3
  | .check .. => some 4
  | _ => none

/-- The offset of a branch or JMP, or none. -/
def branchOff : Wop → Option Int
  | .beq _ _ o | .bne _ _ o | .bltu _ _ o | .bgeu _ _ o | .blt _ _ o | .bge _ _ o => some o.toInt
  | .jmp o => some o.toInt
  | _ => none

/-- How far ahead the instructions lie that may follow this one (R57: forward only). -/
def nextOffs (i : Wop) : List Nat :=
  match verdictOf i with
  | some _ => []
  | none =>
    match i with
    | .jmp o => [o.toInt.toNat]
    | _ => match branchOff i with
      | some o => [1, o.toNat]
      | none => [1]

/-- Element `k` raised to at least `v`. -/
def raiseAt : List Nat → Nat → Nat → List Nat
  | [], _, _ => []
  | d :: ds, 0, v => max d v :: ds
  | d :: ds, k + 1, v => d :: raiseAt ds k v

/-- The longest route to each instruction, in steps, 0 where an instruction is not reached: the
distances known so far go in, one instruction is settled at a time. -/
def routeDists : List Wop → List Nat → List Nat
  | i :: is, d :: ds =>
    d :: routeDists is (if d = 0 then ds
      else (nextOffs i).foldl (fun ds o => raiseAt ds (o - 1) (d + 1)) ds)
  | _, _ => []

/-- Distances from one entry. -/
def entryDists (code : List Wop) (entry : Nat) : List Nat :=
  routeDists code (raiseAt (List.replicate code.length 0) entry 1)

/-- The words of a code area. -/
def codeWords (bs : List Byte) : Nat → List Word
  | 0 => []
  | n + 1 => BitVec.ofNat 32 (leAt bs 0 4) :: codeWords (bs.drop 4) n

/-- The index of the first element for which `bad` holds. -/
def badIndex {α : Type} (bad : Nat → α → Bool) (l : List α) : Option Nat :=
  ((List.range l.length).zip l).find? (fun p => bad p.1 p.2) |>.map Prod.fst

/-- Checks 1-9 of R58 on an image: the check that fails first and its index.
DEDUCED (log entry 34). -/
def programFault (img : List Byte) : Option (Nat × Nat) :=
  let codeLen := leAt img 8 4
  let scrLen := leAt img 20 4
  let cmd := leAt img 12 2
  let judge := leAt img 14 2
  if leAt img 0 4 ≠ 0x53574E4C ∨ leAt img 4 2 ≠ 1 ∨ leAt img 6 2 ≠ 0 ∨ leAt img 24 8 ≠ 0 then
    some (1, 0xFFFF)
  else if codeLen % 4 ≠ 0 ∨ 16384 < codeLen ∨ 2048 < scrLen ∨ 32 + codeLen + scrLen ≠ img.length then
    some (2, 0xFFFF)
  else
    let words := codeWords (img.drop 32) (codeLen / 4)
    let ops := words.map decodeS
    match badIndex (fun _ o => o.isNone) ops with
    | some i => some (3, i)
    | none =>
      let code := ops.filterMap id
      let len := code.length
      match badIndex (fun i o => match branchOff o with
          | some d => decide (d < 1 ∨ (len : Int) ≤ i + d)
          | none => false) code with
      | some i => some (4, i)
      | none =>
        if len ≤ cmd then some (5, cmd) else if len ≤ judge then some (5, judge)
        else
          let dc := entryDists code cmd
          let dj := entryDists code judge
          let rows := code.zip (dc.zip dj)
          match badIndex (fun i r => decide (i + 1 = len) && (verdictOf r.1).isNone &&
              (r.2.1 != 0 || r.2.2 != 0)) rows with
          | some i => some (6, i)
          | none =>
            match badIndex (fun _ r =>
                (r.2.2 != 0 && match verdictOf r.1 with | some v => decide (1 < v) | none => false) ||
                (r.2.1 != 0 && match r.1 with | .fdata .. => true | _ => false)) rows with
            | some i => some (7, i)
            | none =>
              match badIndex (fun _ r => (verdictOf r.1).isSome &&
                  (decide (24 < r.2.1) || decide (256 < r.2.2))) rows with
              | some i => some (8, i)
              | none =>
                if dc.foldl max 0 ≠ leAt img 16 2 ∨ dj.foldl max 0 ≠ leAt img 18 2 then some (9, 0xFFFF)
                else none

/-- Entry `i` of a resolved table (R132). -/
def regionOf (t : List Byte) (i : Nat) : Region :=
  let e := t.drop (16 * i)
  ⟨leAt e 0 4, leAt e 4 4, leAt e 8 1, bitOf (leAt e 9 1) 0, leAt e 10 1, leAt e 11 1, leAt e 12 1⟩

/-- Checks 10-14 of R132 on a table of `cnt` entries. -/
def tableFault (t : List Byte) (cnt : Nat) : Option (Nat × Nat) :=
  let rs := (List.range cnt).map (fun i => (i, regionOf t i))
  let reserved (i : Nat) : Nat := leAt t (16 * i + 9) 1 / 2 + leAt t (16 * i + 13) 3
  if 64 < cnt then some (10, 64)
  else
    [(10, (List.range cnt).find? (fun i => reserved i != 0)),
     (11, (rs.find? (fun p => p.2.start % 4096 != 0 || p.2.len % 4096 != 0 || p.2.len == 0 ||
        decide (2 ^ 32 < p.2.start + p.2.len))).map Prod.fst),
     (12, (rs.find? (fun p => rs.any (fun q => decide (q.1 < p.1 ∧ q.2.start < p.2.start + p.2.len ∧
        p.2.start < q.2.start + q.2.len)))).map Prod.fst),
     (13, (rs.find? (fun p => decide (2 < p.2.cls) || (p.2.cls == 2 && p.2.writable))).map Prod.fst),
     (14, (rs.find? (fun p => decide (2 < p.2.resp) || (p.2.cls != 1 && p.2.resp != 0))).map Prod.fst)
    ].findSome? (fun p => p.2.map (fun i => (p.1, i)))

/-- A write of SEC_n_PGM_LOAD.go (R132): the parameters are sampled, busy is set and stby_ok clears. -/
def pgmLoad (s : State) (n : Nat) (who : Origin) : State :=
  let st := Reg.SEC_PGM_STAT n
  if s.bit st 0 then s
  else
    let s := (s.setBit st 0 true).setBit st 3 false
    let b := 1 - activeBank s n
    let s := setBank s n b { bankOf s n b with ok := false }
    let l : PgmLoad := ⟨(s.rd (Reg.SEC_PGM_SRC n)).toNat, s.fld (Reg.SEC_PGM_LEN n) 15 0,
       (s.rd (Reg.SEC_PGM_MAP_SRC n)).toNat, s.fld (Reg.SEC_PGM_MAP_CNT n) 6 0, who⟩
    s.setLine n { s.line n with load := some l }

/-- The first failing check of a load, 15 before all others (R132). An empty table whose source lies outside the cores'
memories fails it too: the rule does not say where a table of no bytes lies.
DEDUCED (log entry 34), DESIGN CHOICE (log entry 90). -/
def loadFault (s : State) (l : PgmLoad) : Option (Nat × Nat) :=
  if inCoreMem l.src l.len = false ∨ inCoreMem l.mapSrc (16 * l.mapCnt) = false then some (15, 0xFFFF)
  else match programFault (s.rdMemN l.src l.len) with
    | some f => some f
    | none => tableFault (s.rdMemN l.mapSrc (16 * l.mapCnt)) l.mapCnt

/-- A bank load completes (R132, R133, R134). -/
def progLoaded (s : State) (n : Nat) : State :=
  match (s.line n).load with
  | none => s
  | some l =>
    let st := Reg.SEC_PGM_STAT n
    let b := 1 - activeBank s n
    if (match (s.line n).route with | some r => r.bank == b | none => false) then s
    else
      let f := loadFault s l
      let s := (s.setLine n { s.line n with load := none }).setBit st 0 false
      let s := s.setBit st 1 true
      match f with
      | some (c, i) =>
        let s := (setBank s n b {}).setBit st 2 true
        let s := s.wrBytes (Reg.SEC_PGM_STBY_DIGEST n 0) 12 []
        s.log Ev.PROGRAM_REFUSED l.who n (leBytes 1 c ++ leBytes 2 i)
      | none =>
        let img := s.rdMemN l.src l.len
        let tab := s.rdMemN l.mapSrc (16 * l.mapCnt)
        let d := (sha384 (img ++ tab))
        let s := setBank s n b ⟨true, img, (List.range l.mapCnt).map (regionOf tab), d, []⟩
        let s := (s.wrBytes (Reg.SEC_PGM_STBY_DIGEST n 0) 12 d).setBit st 3 true
        secLog s Ev.PROG_LOADED n (leBytes 1 b ++ d.take 28)

/-! ### Extents (R146) -/

/-- Whether two ranges of `la` and `lb` units overlap. -/
def overlaps (a la b lb : Nat) : Bool := decide (a < b + lb ∧ b < a + la)

/-- Cause 5: the extent's bank is in use (R146). -/
def extInUse (s : State) (x : Nat) : Bool :=
  let n := extSection s x
  let b := extBank s x
  (pointsOf s n == 2 && activeBank s n == b) ||
  (match (s.line n).frame with | some f => f.decoded && f.bank == b | none => false)

/-- The first refusal cause of arming extent `x`, from FREE (R146). -/
def armCause (s : State) (x : Nat) : Option Nat :=
  let c := extClass s x
  let others := (List.range 256).filter (fun y => y != x && extState s y != 0)
  if c ≠ 1 ∧ c ≠ 2 then some 1
  else if extStart s x % 4096 ≠ 0 ∨ extLen s x = 0 ∨ 2 ^ 32 < extStart s x + extLen s x * 4096 then some 2
  else if (if c = 2 then 2048 else 262144) < extBase s x + extLen s x then some 3
  else if others.any (fun y => extClass s y == c &&
      overlaps (extBase s x) (extLen s x) (extBase s y) (extLen s y)) then some 4
  else if others.any (fun y => extSection s y == extSection s x && extBank s y == extBank s x &&
      overlaps (extStart s x) (extLen s x * 4096) (extStart s y) (extLen s y * 4096)) then some 6
  else if c = 1 ∧ s.tagKey.isNone then some 7
  else none

/-- A refused write to an extent's state: DEP_EXT_FAULT and 0x1101 EXTENT_REFUSED (R146). -/
def extRefused (s : State) (x cause : Nat) : State :=
  secLog (s.wr Reg.DEP_EXT_FAULT (BitVec.ofNat 32 (x + 256 * cause))) Ev.EXTENT_REFUSED (extSection s x)
    (leBytes 1 x ++ leBytes 1 cause)

/-- Extent `x` put into state `v`, with FILL and skipped 0 where it is armed. The write that does it makes the CHANGE
record. -/
def setExtState (s : State) (x v : Nat) : State :=
  let s := s.setF (Reg.DEP_EXT_CTL x) 10 8 v
  syncDepot (if v = 1 then s.wr (Reg.DEP_EXT_FILL x) 0 else s)

/-- Extent `x` put into state `v` by the hardware for origin `o`, or with `be` not 0 by firmware's write; the change of
the field makes its record (R9, R359). -/
def moveExt (s : State) (o : Origin) (x v be : Nat) : State :=
  let old := s.rd (Reg.DEP_EXT_CTL x)
  let s := setExtState s x v
  let new := s.rd (Reg.DEP_EXT_CTL x)
  if old = new then s else s.regChange o (Reg.DEP_EXT_CTL x) old new be

/-- The extents that are not FREE and satisfy `p` freed for origin `o`. -/
def freeExts (s : State) (o : Origin) (be : Nat) (p : State → Nat → Bool) : State :=
  (List.range 256).foldl (fun s x => if extState s x ≠ 0 ∧ p s x = true then moveExt s o x 0 be else s) s

/-- A write of `v` to DEP_EXT_x_CTL.state (R146), the other fields already written where they may be. -/
def extStateWrite (s : State) (x v : Nat) : State :=
  match extState s x, v with
  | 0, 1 => match armCause s x with
    | none => setExtState s x 1
    | some c => extRefused s x c
  | 0, _ => s
  | _, 0 => if extInUse s x then extRefused s x 5 else setExtState s x 0
  | _, 1 =>
    if extInUse s x then extRefused s x 5
    else if extClass s x = 1 ∧ s.tagKey.isNone then extRefused s x 7
    else setExtState s x 1
  | _, _ => s

/-- The component address of a burst of section port `n` at flash address `a` (R141, R144): with
`n` the V-port, the section that DEP_VMAP selects and the address it maps to. -/
def burstTarget (s : State) (n cs a : Nat) : Option (Nat × Nat) :=
  if n < 32 then some (n, if cs = 1 then a + profLe s n 20 4 else a)
  else if n = 33 ∧ s.bit Reg.DEP_VMAP 8 = true then
    some (s.fld Reg.DEP_VMAP 4 0, (a + 2 ^ 32 - (s.rd Reg.DEP_VMAP_SRC).toNat +
      (s.rd Reg.DEP_VMAP_DST).toNat) % 2 ^ 32)
  else none

/-- A page that is not taken into extent `x` (R143): counted where the extent's range contains it. -/
def skipPage (s : State) (x a : Nat) : State :=
  if extHas s x a then
    s.setF (Reg.DEP_EXT_FILL x) 31 19 (min (s.fld (Reg.DEP_EXT_FILL x) 31 19 + 1) 8191)
  else s

/-- One page offered to one FILLING extent (R143). A burst that is shorter than a page, at the start or end of a read that is
not aligned to pages, is not taken and counts as skipped: the rule speaks of whole 4 KiB bursts.
DESIGN CHOICE (log entry 91). -/
def fillExtent (s : State) (x a : Nat) (page : List Byte) : State :=
  let fill := extFill s x
  if a = extStart s x + fill * 4096 ∧ page.length = 4096 then
    let s := if extClass s x = 2 then s.wrMemN (servedPage (extBase s x + fill)) page
      else match s.tagKey with
        | some k => s.wrMemN (tagSlot (extBase s x + fill)) (pageTag k (extSection s x) a page)
        | none => s
    let s := s.setF (Reg.DEP_EXT_FILL x) 18 0 (fill + 1)
    if fill + 1 = extLen s x then
      secLog (moveExt s .port x 2 0) Ev.EXTENT_READY (extSection s x)
        (leBytes 1 x ++ leBytes 1 (extBank s x) ++ leBytes 1 (extClass s x) ++
          leBytes 4 (extStart s x) ++ leBytes 4 (extLen s x))
    else s
  else skipPage s x a

/-- Whether the burst that port `l` fetches fills a Watched extent: its page passes the lane's tag datapath (R143,
R216). -/
def tagFills (s : State) (l : Nat) : Bool :=
  match (s.line l).dev with
  | some d => d.dest == 0 && (List.range 256).any (fun x => extState s x == 1 && extClass s x == 1 &&
      burstTarget s l d.cs d.addr == some (extSection s x, extStart s x + extFill s x * 4096))
  | none => false

/-- A 4 KiB burst delivered to the Examiner lane of port `n` taken into the extents (R143, R144). Where an alarm has
abandoned its fill (`dropped`, R230), a Watched extent skips it. -/
def fillBurst (s : State) (n cs a : Nat) (dropped : Bool) (page : List Byte) : State :=
  match burstTarget s n cs a with
  | none => s
  | some (sec, addr) =>
    ((List.range 256).filter (fun x => extState s x == 1 && extSection s x == sec &&
      (n != 33 || extClass s x == 2))).foldl (fun s x =>
        if dropped = true ∧ extClass s x = 1 then skipPage s x addr else fillExtent s x addr page) s

end Sys2Proof.Machine
end

