-- ==== Sys2Proof/Machine/IlkBase.lean ====
section
/-! DEFINITION. The Interlocking up to the commit edge (03_interlocking.md): handles, action
records, digests, resources, the journal ring and entry into service. -/

namespace Sys2Proof.Machine

/-! ### Handles -/

/-- Handle `h`. -/
def State.handle (s : State) (h : Nat) : Handle := Sparse.get (fun _ => {}) s.ilk.handles h

/-- Handle `h` replaced. -/
def State.setHandle (s : State) (h : Nat) (x : Handle) : State :=
  { s with ilk := { s.ilk with handles := Sparse.set (fun _ => {}) s.ilk.handles h x } }

/-- Whether logical core `c` owns handle `h` (R60): 0 and 1 are LC0's, 2 and 3 LC1's. -/
def ownsHandle (c : Fin 2) (h : Nat) : Bool := decide (h < 4) && h / 2 == c.val

/-- The 32 bytes of an action record with its payload address zero (R65, R70). -/
def ActRec.bytes (r : ActRec) : List Byte :=
  leBytes 1 r.kind ++ [0] ++ leBytes 2 r.target ++ leBytes 4 r.payload.length ++ leBytes 8 r.operand ++
    leBytes 8 0 ++ leBytes 8 r.operand2

/-- Whether a record is an action: neither SUBJECT nor VOTE (R66). -/
def ActRec.isAction (r : ActRec) : Bool := r.kind != 0x0E && r.kind != 0x0F

/-- Whether a record moves the platform towards safety (the list before R70). -/
def ActRec.safe (r : ActRec) : Bool :=
  match r.kind with
  | 0x01 => r.operand / 2 ^ 32 == r.operand % 2 ^ 32
  | 0x02 => r.operand == 0
  | 0x07 => r.operand == 1
  | 0x0E => true
  | 0x0F => true
  | _ => false

/-- Whether a transaction is voted. -/
def votedRecs (rs : List ActRec) : Bool := rs.any (fun r => r.kind == 0x0F) || !rs.all ActRec.safe

/-- Whether a transaction is journaled (R76). -/
def journaledRecs (rs : List ActRec) : Bool := rs.any (fun r => decide (4 ≤ r.kind ∧ r.kind ≤ 7))

/-- The records that the digest and the journal carry: all but VOTE (R70, R76). -/
def carried (rs : List ActRec) : List ActRec := rs.filter (fun r => r.kind != 0x0F)

/-- The transaction digest (R70). -/
def txDigest (rs : List ActRec) : List Byte :=
  (sha384 ((carried rs).flatMap (fun r => r.bytes ++ r.payload)))

/-- The subject of a transaction: type and number (R66). -/
def subjectOf (rs : List ActRec) : Option (Nat × Nat) :=
  (rs.find? (fun r => r.kind == 0x0E)).map (fun r => (r.operand % 256, r.target))

/-- The detail of the transaction events: [15:8] type, [7:0] number, or 0xFFFF (R71, R81). -/
def subjectDetail (rs : List ActRec) : Nat :=
  match subjectOf rs with
  | some (t, n) => t % 256 * 256 + n % 256
  | none => 0xFFFF

/-- The lines a mask of group `g` names, as resources. -/
def lineResources (g mask : Nat) : List (Nat × Nat) :=
  ((List.range 32).filter (fun k => bitOf mask k)).map (fun k => (1, 32 * g + k))

/-- The resources that a record names (R67), as kind and number. -/
def ActRec.resources (r : ActRec) : List (Nat × Nat) :=
  match r.kind with
  | 0x01 => lineResources r.target (r.operand % 2 ^ 32)
  | 0x02 => [(2, r.target)]
  | 0x03 => [(3, r.target)]
  | 0x04 => [(4, r.target)]
  | 0x05 => [(5, r.target)]
  | 0x06 => [(6, 0)]
  | 0x07 => [(7, 0)]
  | 0x08 => [(8, r.target)]
  | 0x09 => [(9, 0)]
  | _ => []

/-- The resources of a transaction. -/
def resourcesOf (rs : List ActRec) : List (Nat × Nat) := rs.flatMap ActRec.resources

/-- Whether a transaction names one of some resources. -/
def namesAny (rs : List ActRec) (res : List (Nat × Nat)) : Bool :=
  (resourcesOf rs).any (fun x => res.contains x)

/-- The principal a mirror votes on: the target of its first record, a VOTE (R70). -/
def mirrorOf (rs : List ActRec) : Option Nat :=
  match rs with
  | r :: _ => if r.kind = 0x0F then some r.target else none
  | [] => none

/-- ILK_ARM brought in step with the handles (R73): bit h is 1 while handle h is ARMED. -/
def syncArm (s : State) (o : Origin) : State :=
  let v := ((List.range 4).map (fun h => if (s.handle h).state = .armed then 2 ^ h else 0)).sum
  s.setL o Reg.ILK_ARM 3 0 v

/-- The general register of a logical core written; g0 discards (R27). -/
def Core.setReg (x : Core) (r : RegNo) (v : Dword) : Core :=
  if r = 0 then x else { x with g := Sparse.set (fun _ => 0) x.g r.toNat v }

/-- The outcome of handle `h` reaches its core: in rd of a core that stalls in its TCOMMIT, by
interrupt source 1 otherwise (R64, R71). -/
def deliver (s : State) (h status : Nat) (notify : Bool) : State :=
  if 4 ≤ h then s
  else
    let c : Fin 2 := if h < 2 then 0 else 1
    let x := s.core c
    match x.run with
    | .stalled rd h' =>
      if h' = h then
        s.setCore c { (x.setReg rd (BitVec.ofNat 64 status)) with run := .running, pc := x.pc + 4 }
      else if notify then s.raise 1 else s
    | _ => if notify then s.raise 1 else s

/-- A handle closes with a status (R64): it is FREE, its status stands in last_status. -/
def closeHandle (s : State) (h status : Nat) (notify : Bool) (o : Origin) : State :=
  let s := s.setHandle h { lastStatus := status }
  syncArm (deliver s h status notify) o

/-- Handles closed one after the other with a status. -/
def closeHandles (s : State) (status : Nat) (o : Origin) : List Nat → State
  | [] => s
  | h :: hs => closeHandles (closeHandle s h status true o) status o hs

/-- An abort other than a vote failure (R68, R81): counted and logged with the status and the index of the failing record,
0x1FF where no single record fails; the detail names the SUBJECT as a COMMIT's does. R81 gives neither.
DESIGN CHOICE (log entry 87). -/
def abortTx (s : State) (hs : List Nat) (rs : List ActRec) (status idx : Nat) (o : Origin) : State :=
  let s := (s.inc Reg.ILK_ABORT_COUNT).log Ev.ABORT .interlocking (subjectDetail rs)
    (leBytes 1 status ++ leBytes 2 idx)
  closeHandles s status o hs

/-! ### The journal ring (R76-R80) -/

/-- The 256-byte blocks an entry with these records fills (R76). -/
def entryBlocks (rs : List ActRec) : Nat :=
  let body := ((carried rs).map (fun r => 32 + (r.payload.length + 31) / 32 * 32)).sum
  (64 + body + 64 + 255) / 256

/-- Consecutive erased sectors from sector `k` on, at most `n`. -/
def erasedFrom (dirty : List Nat) (k : Nat) : Nat → Nat
  | 0 => 0
  | n + 1 => if dirty.contains (k % 32) then 0 else 1 + erasedFrom dirty (k + 1) n

/-- Unused blocks of the sector being filled. -/
def Journal.tailBlocks (j : Journal) : Nat :=
  if j.head % 8 = 0 ∧ j.dirty.contains (j.head / 8) = false then 0 else (8 - j.head % 8) % 8

/-- ILK_STAT.journal_free: the erased sectors ahead (R78). -/
def Journal.free (j : Journal) : Nat :=
  erasedFrom j.dirty ((j.head + 7) / 8) 32

/-- The erased space ahead in blocks (R78). -/
def Journal.space (j : Journal) : Nat := j.tailBlocks + 8 * j.free

/-- The blocks of the journaled transactions that wait in service for their journal write (R69, R78). -/
def queuedBlocks (s : State) : Nat :=
  ((s.ilk.queue.filter (fun h => some h != s.ilk.busy && journaledRecs (s.handle h).recs)).map
    (fun h => entryBlocks (s.handle h).recs)).sum

/-- Whether an earlier entry awaits its applied marker (R78). -/
def Journal.unsettled (j : Journal) : Bool := j.entries.any (fun e => e.complete && !e.applied)

/-- The sectors that blocks `start` to `start + n - 1` of the ring lie in. -/
def sectorsOf (start n : Nat) : List Nat := ((List.range n).map (fun i => (start + i) % 256 / 8)).eraseDups

/-- A journal write begins (R77): header and body go to the ring, the next JSEQ is taken. -/
def beginJournal (s : State) (h : Nat) (rs : List ActRec) : State :=
  let j := s.ilk.journal
  let n := entryBlocks rs
  let e : JEntry := ⟨j.next, j.head, n, false, false, subjectOf rs, txDigest rs, carried rs, s.pcc, s.ot⟩
  let j' : Journal := { entries := j.entries ++ [e], head := (j.head + n) % 256,
                        dirty := (j.dirty ++ sectorsOf j.head n).eraseDups, next := j.next + 1 }
  { s with ilk := { s.ilk with journal := j', busy := some h } }

/-- ILK_H_h_STAT (R81): state, voted, journaled, conflict, last_status. -/
def handleStat (s : State) (h : Nat) : Nat :=
  let x := s.handle h
  let st := match x.state with
    | .free => 0
    | .opened => 1
    | .armed => 2
    | .lodged => 3
    | .service => 4
  st + b2n (!x.recs.isEmpty && votedRecs x.recs) * 2 ^ 4 + b2n (journaledRecs x.recs) * 2 ^ 5 +
    b2n x.conflict * 2 ^ 6 + x.lastStatus * 2 ^ 8

/-- ILK_H_h_INFO (R81): actions held, index of the record with the first error or 0x1FF. -/
def handleInfo (s : State) (h : Nat) : Nat :=
  let x := s.handle h
  (x.recs.filter ActRec.isAction).length +
    (match x.held with | some (_, i) => i % 512 | none => 0x1FF) * 2 ^ 16

/-- ILK_STAT (R72, R78, R80) over its stored replayed and discarded bits. -/
def ilkStat (s : State) : Nat :=
  s.ilk.journal.free + b2n s.ilk.reliefAbsent * 2 ^ 8 + b2n (s.ilk.journal.unsettled || s.ilk.busy.isSome) * 2 ^ 9 +
    s.fld Reg.ILK_STAT 11 10 * 2 ^ 10

/-! ### The lockdown record (R337) -/

/-- The evidence target of a new entry: the OTP counter + 1, or 1,024. -/
def evidenceTarget (s : State) : Nat := min (s.fld Reg.TMP_EVIDENCE 10 0 + 1) 1024

/-- The lockdown record that the Interlocking forms when a LOCKDOWN set is put (R337). -/
def lockdownRecord (s : State) : List Byte :=
  withCrc (takePad 60 (leBytes 4 0x4C4F434B ++ leBytes 4 (evidenceTarget s) ++
    leBytes 4 (if s.tmp.latch then s.tmp.latchResp else 0) ++
    leBytes 2 (if s.tmp.latch then s.tmp.latchSrc else 0) ++ leBytes 2 0 ++ leBytes 4 s.pcc ++
    leBytes 6 s.ot))

/-! ### Tickets (R376) -/

/-- The slot of a live ticket with this value. -/
def ticketSlot (s : State) (t : Nat) : Option Nat :=
  (List.range 4).find? (fun i => s.bit (Reg.LCS_TICKET_INFO i) 12 && (s.rd (Reg.LCS_TICKET i)).toNat == t)

/-- The scope bits of a live ticket; 0 where it is not live. -/
def ticketScope (s : State) (t : Nat) : Nat :=
  match ticketSlot s t with
  | some i => s.fld (Reg.LCS_TICKET_INFO i) 5 0
  | none => 0

/-! ### Commit checks (R66) -/

/-- The generation of a component's Route Book record; the on-chip image of a blank or unreadable
one is 0 (R191). -/
def generationOf (s : State) (c : Nat) : Nat := (s.rd (Reg.RTB_REC c 0)).toNat

/-- The precondition of one action against current state: the status it fails with. -/
def actionFault (s : State) (r : ActRec) : Option Nat :=
  match r.kind with
  | 0x03 =>
    let b := bankOf s r.target (1 - activeBank s r.target)
    if b.ok = true ∧ b.digest = r.payload then none else some 0x22
  | 0x04 =>
    if generationOf s r.target ≠ r.operand then some 0x23
    else if leAt r.payload 0 4 = r.operand + 1 then none else some 0x21
  | 0x05 => if (s.rd (Reg.RTB_MINVER r.target)).toNat ≤ r.operand then none else some 0x21
  | 0x06 => if r.operand = s.rd64 Reg.LDG_EPOCH_LO Reg.LDG_EPOCH_HI + 1 then none else some 0x21
  | 0x07 => if r.operand = 1 ∨ bitOf (ticketScope s (r.operand2 % 2 ^ 32)) 0 = true then none else some 0x21
  | 0x08 => if s.bit Reg.MBX_LOCK 0 then some 0x21 else none
  | 0x09 => if s.ilk.reliefAbsent then some 0x21 else none
  | _ => none

/-- The first action whose precondition fails, with its status. -/
def commitFault (s : State) : Nat → List ActRec → Option (Nat × Nat)
  | _, [] => none
  | i, r :: rs =>
    match actionFault s r with
    | some st => some (st, i)
    | none => commitFault s (i + 1) rs

/-- A transaction enters service in the hands of handle `h` (R73); what becomes of it is decided
when its turn comes (R69). -/
def enterService (s : State) (h : Nat) : State :=
  let s := s.setHandle h { s.handle h with state := .service }
  { s with ilk := { s.ilk with queue := s.ilk.queue ++ [h] } }

/-- A lockdown entry lodged through handle 4 (R60, R337): one LOCKDOWN set in service. Its journal
write begins when its turn comes. -/
def lodgeLockdown (s : State) : State :=
  let r : ActRec := ⟨0x07, 0, 1, 0, lockdownRecord s⟩
  enterService (s.setHandle 4 { recs := [r], lastStatus := (s.handle 4).lastStatus }) 4

end Sys2Proof.Machine
end

