-- ==== Sys2Proof/Machine/HldOps.lean ====
section
/-! DEFINITION. Hold lines and reports (R159-R162, R443), the accepted Consist (R171, R172), and the Route
Book (R184-R202) as the commands and signal-box firmware use them. -/

namespace Sys2Proof.Machine

/-! ### What signal-box firmware writes -/

/-- The origin of the on-duty core. -/
def State.dutyOrigin (s : State) : Origin := .lc s.duty

/-- An event that the on-duty core logs (R192, R214). -/
def State.fwLog (s : State) (code detail : Nat) (payload : List Byte) : State :=
  s.log code s.dutyOrigin detail payload

/-- A register written by the on-duty core's firmware; a change of a field marked L makes a
REG_CHANGE record (R359). -/
def State.fwL (s : State) (a hi lo v : Nat) : State :=
  let old := s.rd a
  let new := setBits old hi lo v
  if old = new then s else (s.wr a new).regChange s.dutyOrigin a old new 0xF

/-- Firmware's own data changed. -/
def State.mapFw (s : State) (f : Fw → Fw) : State := { s with upd := { s.upd with fw := f s.upd.fw } }

/-! ### Hold lines -/

/-- Whether HOLD_l is claimed (HLD_LCFG_l.hold_claimed). -/
def holdClaimed (s : State) (l : Nat) : Bool := s.bit (Reg.HLD_LCFG l) 0

/-- The committed state of HOLD_l: asserted or not (R161). -/
def holdState (s : State) (l : Nat) : Bool := s.bit (Reg.HLD_STATE (l / 32)) (l % 32)

/-- Whether HOLD_l is asserted at the pad (R159, R161): an unclaimed line always reads so; the tamper
hold and the power-fail hold (R401) assert every line. -/
def holdPad (s : State) (l : Nat) : Bool :=
  !holdClaimed s l || holdState s l || s.bit Reg.HLD_STAT 0 || s.bit Reg.PWR_STAT 1

/-- What a hold output's driver does. -/
inductive HoldDriver where
  | off | pushPull | openDrain
deriving DecidableEq, Repr

/-- The pad of a hold output (R159, R160): its driver, whether the internal pull-down acts, and the level that the pad itself
gives: none where only the board sets it. -/
structure HoldPin where
  driver : HoldDriver
  pullDown : Bool
  level : Option Bool
deriving DecidableEq, Repr

/-- The pad of HOLD_l (R159-R161): without VIN_STBY it is high-impedance; unclaimed, its driver is off and the pull-down
holds it low; claimed, it is driven to hold_level while asserted and to the other level while released, but an open-drain
output leaves the high level to the board. -/
def holdPin (s : State) (l : Nat) : HoldPin :=
  if s.pwr.down then ⟨.off, false, none⟩
  else if holdClaimed s l = false then ⟨.off, true, some false⟩
  else
    let v := s.bit (Reg.HLD_LCFG l) 2 == holdPad s l
    if s.bit (Reg.HLD_LCFG l) 1 then ⟨.openDrain, false, if v then none else some false⟩
    else ⟨.pushPull, false, some v⟩

/-- The sum of 2^k over the k below `n` for which `p` holds. -/
def maskOf (n : Nat) (p : Nat → Bool) : Nat :=
  ((List.range n).map (fun k => if p k then 2 ^ k else 0)).sum

/-- HLD_PAD_g (R161).
DEDUCED (log entry 50). -/
def holdPadWord (s : State) (g : Nat) : Word := BitVec.ofNat 32 (maskOf 32 (fun k => holdPad s (32 * g + k)))

/-- A HOLD action (R66): each line that the mask names takes its own value bit. A commit makes no
REG_CHANGE record (R360). -/
def setHolds (s : State) (g mask value : Nat) : State :=
  let old := (s.rd (Reg.HLD_STATE g)).toNat
  s.wr (Reg.HLD_STATE g)
    (BitVec.ofNat 32 (maskOf 32 (fun k => if bitOf mask k then bitOf value k else bitOf old k)))

/-- The lines for which `p` holds, as a 12-byte mask (R192). -/
def lineMask (p : Nat → Bool) : List Byte := leBytes 12 (maskOf 96 p)

/-- A write of 1 to HLD_LOCK.lock (R160). -/
def holdLock (s : State) : State :=
  if s.bit Reg.HLD_LOCK 0 then s
  else
    let s := (s.setBit Reg.HLD_LOCK 0 true).setBit Reg.HLD_STAT 1 true
    s.log Ev.HOLD_CFG_LOCKED .power 0 (lineMask (holdClaimed s))

/-- Whether a write to HLD_LCFG_l or HLD_FILTER is discarded (R160): after the lock, or for a line
whose committed state is released. -/
def holdCfgLocked (s : State) (line : Option Nat) : Bool :=
  s.bit Reg.HLD_LOCK 0 || match line with
    | some l => !holdState s l
    | none => false

/-! ### The accepted Consist, from its copy in eNVM (R171, R172) -/

/-- The address of the Consist copy (R406). -/
def consistBase : Nat := 0x10294000

/-- `n` bytes at `off` of the Consist copy. -/
def consistBytes (s : State) (off n : Nat) : List Byte := s.rdMemN (consistBase + off) n

/-- `n` bytes at `off` of the Consist copy as a number. -/
def consistLe (s : State) (off n : Nat) : Nat := leNat (consistBytes s off n)

/-- An image descriptor (R172). -/
structure Image where
  sec : Nat
  recovery : Nat
  slotA : Nat
  slotB : Nat
  size : Nat
  manifest : Nat
deriving DecidableEq, Repr

/-- A component entry (R172). -/
structure CompEntry where
  num : Nat
  flags : Nat
  level : Nat
  prereq : Nat
  holds : List Nat
  reports : List Nat
  floor : Nat
  trialMs : Nat
  reportMs : Nat
  images : List Image
deriving DecidableEq, Repr

/-- The image descriptor in 24 bytes. -/
def imageOf (b : List Byte) : Image :=
  ⟨leAt b 0 1, leAt b 2 2, leAt b 4 4, leAt b 8 4, leAt b 12 4, leAt b 16 4⟩

/-- The bytes of a field that name lines; 0xFF marks an unused byte. -/
def linesIn (b : List Byte) : List Nat := (b.map BitVec.toNat).filter (fun v => decide (v < 96))

/-- The component entry in 128 bytes. -/
def compOf (b : List Byte) : CompEntry :=
  { num := leAt b 0 1, flags := leAt b 2 1, level := leAt b 3 1, prereq := leAt b 4 8,
    holds := linesIn ((b.drop 12).take 4), reports := linesIn ((b.drop 16).take 2),
    floor := leAt b 20 4, trialMs := leAt b 24 4, reportMs := leAt b 28 4,
    images := (List.range (min (leAt b 1 1) 4)).map (fun i => imageOf (b.drop (32 + 24 * i))) }

/-- Where a Consist is read from: the bytes at an offset, so many. -/
abbrev Reader := Nat → Nat → List Byte

/-- `n` bytes at `off` of a Consist as a number. -/
def srcLe (r : Reader) (off n : Nat) : Nat := leNat (r off n)

/-- The number of components of a Consist: none where its magic does not read. -/
def srcCount (r : Reader) : Nat := if srcLe r 0 4 = 0x54534E43 then min (srcLe r 16 1) 64 else 0

/-- The components of a Consist (R172). -/
def srcComponents (r : Reader) : List CompEntry :=
  (List.range (srcCount r)).map (fun i => compOf (r (srcLe r 20 4 + 128 * i) 128))

/-- The Consist copy in eNVM as a source. -/
def consistSource (s : State) : Reader := fun off n => consistBytes s off n

/-- Whether eNVM holds a Consist copy: its magic reads. -/
def consistHeld (s : State) : Bool := consistLe s 0 4 == 0x54534E43

/-- The number of components and the offset of the component table. -/
def consistCount (s : State) : Nat := srcCount (consistSource s)
def consistTable (s : State) : Nat := consistLe s 20 4

/-- The components of the accepted Consist. -/
def components (s : State) : List CompEntry := srcComponents (consistSource s)

/-- The entry of component `c`. -/
def compEntry (s : State) (c : Nat) : Option CompEntry := (components s).find? (fun e => e.num == c)

/-- The sections of a component. -/
def CompEntry.sections (e : CompEntry) : List Nat := (e.images.map (fun i => i.sec)).eraseDups

/-- Entry `l` of the hold table in HLD_LCFG_l layout: the last 384 bytes of the component table. -/
def holdEntry (s : State) (l : Nat) : Word :=
  BitVec.ofNat 32 (consistLe s (consistTable s + 128 * consistCount s + 4 * l) 4)

/-- The flags of a recovery table entry (R203); 0 for none. -/
def recoveryFlags (s : State) (i : Nat) : Nat :=
  if i = 0xFFFF ∨ consistLe s 36 4 = 0 ∨ consistLe s 40 4 < 32 * (i + 1) then 0
  else consistLe s (consistLe s 36 4 + 32 * i + 2) 1

/-- The component that claims line `l` as a report line or as a hold line. -/
def reportOwner (s : State) (l : Nat) : Option CompEntry :=
  (components s).find? (fun e => e.reports.contains l)
def holdOwner (s : State) (l : Nat) : Option CompEntry :=
  (components s).find? (fun e => e.holds.contains l)

/-- The component that claims line `l` in either way. -/
def lineOwner (s : State) (l : Nat) : Option CompEntry := (holdOwner s l).or (reportOwner s l)

/-- HLD_LCFG compared with an accepted Consist (R443): each line that differs is recorded, and a component that claims it and
is not released shows HELD_FAIL and is not released while the difference stands. -/
def holdCompare (s : State) : List Nat → State
  | [] => s
  | l :: ls =>
    let kept := s.rd (Reg.HLD_LCFG l)
    let s :=
      if kept = holdEntry s l then s
      else
        let c := match lineOwner s l with
          | some e => e.num
          | none => 0xFF
        let s := s.log Ev.HOLD_CFG_MISMATCH .power l
          (leBytes 4 kept.toNat ++ leBytes 4 (holdEntry s l).toNat ++ leBytes 1 c)
        if c < 64 ∧ s.fld (Reg.RTB_COMP c) 3 0 ≠ 3 ∧ s.fld (Reg.RTB_COMP c) 3 0 ≠ 4
        then
          let s := s.mapFw (fun f => { f with mismatch := f.mismatch ++ [c] })
          s.fwL (Reg.RTB_COMP c) 3 0 5
        else s
    holdCompare s ls

/-! ### Component states (RTB_COMP_c, R185-R188) -/

/-- RTB_COMP_c.state. -/
def compState (s : State) (c : Nat) : Nat := s.fld (Reg.RTB_COMP c) 3 0

/-- RTB_COMP_c.state written by firmware. -/
def setCompState (s : State) (c v : Nat) : State := s.fwL (Reg.RTB_COMP c) 3 0 v

/-- The filtered state of REPORT_l: an input that no component claims reads not ready (R15, R162). -/
def reportReady (s : State) (l : Nat) : Bool := s.bit (Reg.HLD_LCFG l) 8 && s.bit (Reg.HLD_REPORT (l / 32)) (l % 32)

/-- HLD_REPORT_g (R162). -/
def reportWord (s : State) (g : Nat) : Nat := maskOf 32 (fun k => reportReady s (32 * g + k))

/-- Whether every report line that a component claims is ready (R185); a component that sets
no_report or claims none is ready. -/
def linesReady (s : State) (e : CompEntry) : Bool :=
  bitOf e.flags 2 || e.reports.all (reportReady s)

/-- Whether every prerequisite of a component is released and ready (R185). -/
def prereqsReady (s : State) (e : CompEntry) : Bool :=
  (List.range 64).all (fun p => !bitOf e.prereq p || compState s p == 4)

/-- Component `c` is noted to have become ready since its release, or not. -/
def noteReady (s : State) (c : Nat) (b : Bool) : State :=
  s.mapFw (fun f => { f with ready := f.ready.filter (· != c) ++ if b then [c] else [] })

/-- A component that has been released: RELEASED, or READY where its lines are (R185, R186). -/
def markReleased (s : State) (c : Nat) : State :=
  let b := match compEntry s c with
    | some e => linesReady s e
    | none => false
  noteReady (setCompState s c (if b then 4 else 3)) c b

/-- Components whose prerequisite is no longer held and that hold for nothing else go back to
ACCEPTED (R188). -/
def unholdPrereq (s : State) : List CompEntry → State
  | [] => s
  | e :: es =>
    unholdPrereq (if compState s e.num = 6 ∧ prereqsReady s e = true then setCompState s e.num 2 else s) es

/-- Accepted components whose prerequisite is held wait as HELD_PREREQ; each is recorded with the held
prerequisite's number (R188). -/
def holdPrereq (s : State) : List CompEntry → State
  | [] => s
  | e :: es =>
    let held := (List.range 64).find? (fun p => bitOf e.prereq p && (compState s p == 5 || compState s p == 6))
    holdPrereq (match held with
      | some p => if compState s e.num = 2 then
          (setCompState s e.num 6).fwLog Ev.COMPONENT_HELD e.num (leBytes 1 2 ++ leBytes 1 p) else s
      | none => s) es

/-- What depends on held components waits too, level by level (R188). -/
def holdDependants (s : State) : State := (List.range 8).foldl (fun s _ => holdPrereq s (components s)) s

/-- Component `c` stays held (R184, R192): HELD_FAIL with its reason (1 no slot, 3 vote failure), and what depends on it.
DEDUCED (log entry 20). -/
def heldFail (s : State) (c reason : Nat) : State :=
  holdDependants ((setCompState s c 5).fwLog Ev.COMPONENT_HELD c (leBytes 1 reason ++ [0]))

/-- A report input's filtered state changes (R162, R185, R187). The state changes only when the last
HLD_FILTER.us + 1 samples read the new level.
DEDUCED (log entry 36). -/
def reportChange (s : State) (l : Nat) (ready : Bool) (samples : Nat) : State :=
  if s.bit (Reg.HLD_LCFG l) 8 = false ∨ reportReady s l = ready ∨ samples < s.fld Reg.HLD_FILTER 7 0 + 1 then s
  else
    let s := s.setBit (Reg.HLD_REPORT (l / 32)) (l % 32) ready
    let s := (s.setBit (Reg.HLD_RPT_CHG (l / 32)) (l % 32) true).raise 7
    let c := match reportOwner s l with
      | some e => e.num
      | none => 0xFF
    let s := if ready then s.log Ev.REPORT_READY .power l (leBytes 1 c) else s
    match reportOwner s l with
    | none => s
    | some e =>
      if ready then
        if compState s e.num = 3 ∧ linesReady s e = true
        then unholdPrereq (noteReady (setCompState s e.num 4) e.num true) (components s) else s
      else if s.upd.fw.ready.contains e.num then
        let s := s.log Ev.REPORT_LOST .power l (leBytes 1 e.num)
        if compState s e.num = 4 ∧ linesReady s e = false then setCompState s e.num 3 else s
      else s

/-- A released component's report timeout (R187): the lines that are not ready and the time waited.
DEDUCED (log entry 36). -/
def reportTimeout (s : State) (c waited : Nat) : State :=
  match compEntry s c with
  | none => s
  | some e =>
    if compState s c ≠ 3 ∨ e.reportMs = 0 ∨ waited < e.reportMs then s
    else s.log Ev.REPORT_TIMEOUT .power c
      (lineMask (fun l => e.reports.contains l && !reportReady s l) ++ leBytes 4 waited)

/-! ### Route Book records (R190) -/

/-- Bytes `off` to `off + bs.length - 1` of a byte string replaced. -/
def putAt (rec : List Byte) (off : Nat) (bs : List Byte) : List Byte :=
  rec.take off ++ bs ++ rec.drop (off + bs.length)

/-- The on-chip image of component `c`'s record. -/
def rtbRec (s : State) (c : Nat) : List Byte := s.rdBytes (Reg.RTB_REC c 0) 48

/-- A record with its check value over bytes 0-187 (R190). -/
def withCheck (rec : List Byte) : List Byte := withCrc (takePad 188 rec)

/-- Fields of a record. -/
def recGen (rec : List Byte) : Nat := leAt rec 0 4
def recActive (rec : List Byte) : Nat := leAt rec 5 1
def recFlag (rec : List Byte) (i : Nat) : Bool := bitOf (leAt rec 6 1) i
def recSvn (rec : List Byte) (x : Nat) : Nat := leAt rec (8 + 4 * x) 4
def recMin (rec : List Byte) : Nat := leAt rec 16 4
def recMd (rec : List Byte) (x : Nat) : List Byte := (rec.drop (36 + 48 * x)).take 48

/-- TRIAL. -/
def recTrial (rec : List Byte) : Bool := recFlag rec 2

/-- A record with flag bit `i` set to `b`. -/
def setRecFlag (rec : List Byte) (i : Nat) (b : Bool) : List Byte :=
  putAt rec 6 (leBytes 1 (putBit (leAt rec 6 1) i b))

/-- A record's next generation. -/
def nextGen (rec : List Byte) : List Byte := putAt rec 0 (leBytes 4 (recGen rec + 1))

/-- VALID_x, SVN_x and MD_x cleared (R193, R206). -/
def clearSlot (rec : List Byte) (x : Nat) : List Byte :=
  putAt (putAt (setRecFlag rec x false) (8 + 4 * x) (leBytes 4 0)) (36 + 48 * x) (List.replicate 48 0)

/-- The revert of a trial (R200): the old slot active again, TRIAL 0, VALID_new 0, SIDING_new 1. -/
def revertRec (rec : List Byte) : List Byte :=
  let new := recActive rec
  let r := putAt rec 5 (leBytes 1 (1 - new))
  nextGen (setRecFlag (setRecFlag (setRecFlag r 2 false) new false) (3 + new) true)

/-- The confirmation of a trial (R199), with or without the min raise. -/
def confirmRec (rec : List Byte) (raiseMin : Bool) : List Byte :=
  let r := nextGen (setRecFlag rec 2 false)
  if raiseMin then putAt r 16 (leBytes 4 (recSvn r (recActive r))) else r

/-- RTB_TRIAL and RTB_SIDING in step with the record of component `c`. -/
def syncRtb (s : State) (c : Nat) : State :=
  let r := rtbRec s c
  let put (s : State) (lo hi : Nat) (b : Bool) : State :=
    if c < 32 then s.setBit lo c b else s.setBit hi (c - 32) b
  put (put s Reg.RTB_TRIAL_LO Reg.RTB_TRIAL_HI (recTrial r)) Reg.RTB_SIDING_LO Reg.RTB_SIDING_HI
    (recFlag r 3 || recFlag r 4)

/-- The on-chip image of component `c`'s record replaced. -/
def putRec (s : State) (c : Nat) (rec : List Byte) : State :=
  syncRtb (s.wrBytes (Reg.RTB_REC c 0) 48 rec) c

/-- An RTB action applied (R66, R190): the Route Book computes the check value. -/
def applyRtb (s : State) (c : Nat) (payload : List Byte) : State := putRec s c (withCheck payload)

/-! ### The Route Book's log (R191) -/

/-- The bytes that a sector of the log holds. -/
def sectorUsed (h : Home) (k : Nat) : Nat := ((h.log.filter (fun x => x.sector == k)).map (fun x => x.bytes.length)).sum

/-- The erased sectors of the 128. -/
def sectorsErased (h : Home) : List Nat := (List.range 128).filter (fun k => sectorUsed h k == 0)

/-- The copies of `key` whose check value is correct. -/
def goodCopies (h : Home) (key : Nat) : List (List Byte) := (h.log.filter (fun x => x.key == key && x.ok)).map (fun x => x.bytes)

/-- The copy of `key` with the highest generation; none where no copy is correct. -/
def homeRec (h : Home) (key : Nat) : List Byte :=
  (goodCopies h key).foldl (fun b x => if b.isEmpty = true ∨ leAt b 0 4 < leAt x 0 4 then x else b) []

/-- The stored minimum version of index `i`: the highest of the correct copies. -/
def homeMin (h : Home) (i : Nat) : Nat := ((goodCopies h 64).map (fun b => leAt b (4 * i) 4)).foldl max 0

/-- A copy appended to the sector that `ks` lists first and that has room for it; `avoid` is not taken. Answers the sector. -/
def appendCopy (h : Home) (ks : List Nat) (avoid : Option Nat) (key : Nat) (b : List Byte) : Home × Option Nat :=
  match ks.find? (fun k => some k != avoid && decide (sectorUsed h k + b.length ≤ 2048)) with
  | some k => ({ h with log := h.log ++ [⟨k, key, b, true⟩] }, some k)
  | none => (h, none)

/-- Both copies of `key` appended, to two different sectors. -/
def appendTwice (h : Home) (ks : List Nat) (key : Nat) (b : List Byte) : Home :=
  let p := appendCopy h ks none key b
  (appendCopy p.1 ks p.2 key b).1

/-- How many sectors stay erased for the next compaction: the copies of 64 records and the minimums fill 14.
DESIGN CHOICE (log entry 101). -/
def rtbReserve : Nat := 14

/-- The sectors a home write may append to. -/
def logSectors (h : Home) : List Nat :=
  let e := sectorsErased h
  (List.range 128).filter (fun k => !e.contains k) ++ e.take (e.length - rtbReserve)

/-- Whether the log is full: no two sectors outside the reserve have room for `n` bytes. -/
def logFull (h : Home) (n : Nat) : Bool :=
  decide (((logSectors h).filter (fun k => decide (sectorUsed h k + n ≤ 2048))).length < 2)

/-- The live copies compacted into erased sectors, two at a time, before the others are erased. -/
def compact (h : Home) : Home :=
  let e := sectorsErased h
  let live := (List.range 65).filterMap (fun k =>
    let b := if k = 64 then (List.range 3).flatMap (fun i => leBytes 4 (homeMin h i)) else homeRec h k
    if (goodCopies h k).isEmpty then none else some (k, if k = 64 then withCrc (takePad 60 b) else b))
  live.foldl (fun g p => appendTwice g e p.1 p.2) { h with log := [] }

/-- A home write of `key` (R77, R191); a full log is compacted first, and RTB_STAT shows it. -/
def homeAppend (s : State) (key : Nat) (b : List Byte) : State :=
  let full := logFull s.home b.length
  let h := if full then compact s.home else s.home
  let s := { s with home := appendTwice h (logSectors h) key b }
  if full then s.setBit Reg.RTB_STAT 1 true else s

/-- Every copy of `key` found corrupt. -/
def spoilCopies (s : State) (key : Nat) : State :=
  { s with home := { s.home with log := s.home.log.map (fun x => if x.key = key then { x with ok := false } else x) } }

/-- The home copies loaded at a start (R191): each record found unreadable leaves its image 0, sets its
bit in RTB_UNREAD and is recorded; so are the minimums. -/
def loadRecs (s : State) (bad : Nat → Bool) : List Nat → State
  | [] => s
  | c :: cs =>
    let s :=
      if bad c then
        let s := s.setPair Reg.RTB_UNREAD_LO Reg.RTB_UNREAD_HI c
        (putRec (spoilCopies s c) c []).fwLog Ev.RECORD_UNREADABLE c []
      else putRec s c (homeRec s.home c)
    loadRecs s bad cs

/-- The minimum versions loaded at a start (R191). -/
def loadMinver (s : State) (bad : Bool) : State :=
  let s := if bad then spoilCopies s 64 else s
  let v (i : Nat) : Nat := homeMin s.home i
  let s := (List.range 3).foldl (fun s i => s.wr (Reg.RTB_MINVER i) (BitVec.ofNat 32 (v i))) s
  if bad then (s.setBit Reg.RTB_STAT 0 true).fwLog Ev.RECORD_UNREADABLE 0xFF [] else s

end Sys2Proof.Machine
end

