-- ==== Sys2Proof/Machine/AttBase.lean ====
section
/-! DEFINITION. Attestation's contexts, sessions and objects as other blocks touch them (R297, R302, R309). -/

namespace Sys2Proof.Machine

/-- ATT_STAT in step with the sessions, contexts and buffers. The identity bit stands as it is. -/
def syncAtt (s : State) : State :=
  let a := s.att
  let s := s.setF Reg.ATT_STAT 1 0 (a.sessions.filter (fun x => x.established)).length
  let s := s.setBit Reg.ATT_STAT 2 (a.sessions.any (fun x => !x.established))
  (s.setF Reg.ATT_STAT 6 3 a.ctxs.length).setF Reg.ATT_STAT 9 7 (4 - a.objs.length)

/-- An ATT event (R313): the on-duty core as origin, the transport or peer as detail.
DESIGN CHOICE (log entry 59). -/
def attLog (s : State) (code detail : Nat) (payload : List Byte) : State := s.fwLog code detail payload

/-- The sessions that `p` names end with a cause (R302): 0 END_SESSION, 1 timeout, 2 decryption, 3 ZERO. -/
def closeSessions (s : State) (p : Session → Bool) (cause : Nat) : State :=
  let gone := s.att.sessions.filter p
  let s := { s with att := { s.att with sessions := s.att.sessions.filter (fun x => !p x) } }
  syncAtt (gone.foldl (fun s x => attLog s Ev.SESSION_CLOSED x.transport (leBytes 4 x.id ++ leBytes 1 cause)) s)

/-- Everything attestation keeps in signal-box memory lost (R19, R40): contexts, sessions, objects, assemblies,
prepared responses, work in progress. Endpoint IDs and the downstream table stand. -/
def attReset (s : State) : State :=
  let a := { s.att with asm := [], ctxs := [], sessions := [], objs := [], ext := none, dsVal := [], refresh := [],
                        exporting := none, importing := none }
  let s := syncAtt { s with att := a }
  (List.range 16).foldl (fun s d => s.wr (Reg.ATT_DS_STAT d) 0) s

end Sys2Proof.Machine
end

