-- ==== Sys2Proof/Machine/SigOps.lean ====
section
/-! DEFINITION. The signature-and-session unit (R232-R238): submission, the operations of R234, the end
of a job, zeroisation, the random bit generator; and the key loads of the yards (R228). -/

namespace Sys2Proof.Machine

/-! ### Key slots (R236) -/

/-- Key slot `k`. -/
def State.sigKey (s : State) (k : Nat) : SigKey := Sparse.get (fun _ => {}) s.sig.keys k

/-- Key slot `k` replaced; SIG_KEY_s_INFO shows its type and session flag. -/
def State.setSigKey (s : State) (k : Nat) (x : SigKey) : State :=
  ({ s with sig := { s.sig with keys := Sparse.set (fun _ => {}) s.sig.keys k x } } : State).wr
    (Reg.SIG_KEY_INFO k) (BitVec.ofNat 32 (x.ty + 8 * b2n x.session))

/-- The material of a key. -/
def SigKey.bytes (k : SigKey) : List Byte := if k.uds then Config.uds else k.mat

/-- Every slot cleared, then slot 0 loaded as a type-4 secret from the unique device secret: what each
start of the whole signal box does (R236). -/
def sigStart (s : State) : State :=
  let s := (List.range 16).foldl (fun s k => s.setSigKey k {}) s
  s.setSigKey 0 { ty := 4, session := false, uds := true, mat := [] }

/-! ### Pipes and submission (R232, R233) -/

/-- The pipe of a job: 0 V0, 1 V1, 2 S. Verifications run on the submitting core's V pipe. -/
def sigPipeOf (c : Fin 2) (op : Nat) : Nat :=
  if op = 1 ∨ op = 3 ∨ op = 5 then c.val else 2

/-- The jobs of a pipe. -/
def sigPipe (s : State) (p : Nat) : List SigJob :=
  match p with
  | 0 => s.sig.v0
  | 1 => s.sig.v1
  | _ => s.sig.pipe

/-- The jobs that core `c` has not finished. -/
def sigCount (s : State) (c : Fin 2) : Nat :=
  ((s.sig.v0 ++ s.sig.v1 ++ s.sig.pipe).filter (fun j => j.core == c)).length

/-- SIG_STAT in step with the pipes. -/
def syncSig (s : State) : State :=
  let a := Reg.SIG_STAT
  let s := (s.setF a 3 0 (sigCount s 0)).setF a 7 4 (sigCount s 1)
  ((s.setF a 8 8 (b2n !s.sig.v0.isEmpty)).setF a 9 9 (b2n !s.sig.v1.isEmpty)).setF a 10 10
    (b2n !s.sig.pipe.isEmpty)

/-- A pipe's jobs replaced. -/
def setSigPipe (s : State) (p : Nat) (js : List SigJob) : State :=
  syncSig (match p with
    | 0 => { s with sig := { s.sig with v0 := js } }
    | 1 => { s with sig := { s.sig with v1 := js } }
    | _ => { s with sig := { s.sig with pipe := js } })

/-- A signature job's status word (R233). -/
def sigStatus (s : State) (c : Fin 2) (desc w : Nat) : State :=
  if inOwn c desc 64 then s.wrMemN (desc + 56) (leBytes 4 w) else s

/-- The descriptor at `a`. -/
def sigDesc (s : State) (a : Nat) : SigDesc :=
  let d := s.rdMemN a 64
  ⟨leAt d 8 8, leAt d 16 4, leAt d 24 8, leAt d 20 4, leAt d 32 8, leAt d 40 4, leAt d 48 8⟩

/-- The longest output an operation writes, for the check of its placement (R233, R234); `first` is input 1's first
byte. -/
def sigOutLen (op flags outSlot len1 first : Nat) : Nat :=
  match op with
  | 0x02 => 96
  | 0x04 => 4627
  | 0x06 => 97
  | 0x08 => if outSlot = 0xFF ∧ bitOf flags 1 = false then 48 else 0
  | 0x09 => len1 + 16
  | 0x0A => len1 - 16
  | 0x0B => if first = 2 then 2592 else 97
  | 0x0C => len1
  | _ => 0

/-- The job that the descriptor at `a` describes.
DESIGN CHOICE (log entry 95). -/
def sigJobOf (s : State) (c : Fin 2) (a : Nat) : SigJob :=
  let d := s.rdMemN a 64
  ⟨c, a, leAt d 0 1, leAt d 1 1, leAt d 2 1, leAt d 3 1, leAt d 60 4, sigDesc s a, none⟩

/-- Whether a descriptor is well placed with all its buffers, names an operation and has its reserved
bytes 0 (R233). -/
def sigDescOk (s : State) (c : Fin 2) (a : Nat) : Bool :=
  inOwn c a 64 &&
    (let d := s.rdMemN a 64
     let j := sigJobOf s c a
     let x := j.buf
     let within (p n : Nat) : Bool := n == 0 || inOwn c p n
     decide (1 ≤ j.op ∧ j.op ≤ 0x0D) && decide (j.flags < 4) && leAt d 4 4 == 0 &&
     (j.op == 0x0C || within x.in1 x.len1) && within x.in2 x.len2 && within x.in3 x.len3 &&
     within x.out (sigOutLen j.op j.flags j.out x.len1 (s.rdMem x.in1).toNat))

/-- A write of SIG_SUBMIT by core `c` (R232, R233): BUSY for a ninth job, BAD_DESC, or in its pipe. -/
def sigSubmit (s : State) (c : Fin 2) (a : Nat) : State :=
  let j := sigJobOf s c a
  if 8 ≤ sigCount s c then sigStatus s c a 0x10
  else if sigDescOk s c a = false then (sigStatus s c a 0x11).raise 3
  else
    let p := sigPipeOf c j.op
    let w := if (sigPipe s p).isEmpty then 0x02 else 0x01
    sigStatus (setSigPipe s p (sigPipe s p ++ [j])) c a w

/-! ### The operations (R234) -/

/-- The end of an operation: status and output. -/
abbrev SigEnd := Nat × List Byte

/-- Whether the health tests pass (SIG_STAT.rbg_ok). -/
def rbgOk (s : State) : Bool := s.bit Reg.SIG_STAT 11

/-- A failing health test stops something: the first time it is logged, with the core affected as origin (R238, R239). -/
def rbgStops (s : State) (o : Origin) : State :=
  if s.sig.rbgLogged then s
  else ({ s with sig := { s.sig with rbgLogged := true } } : State).log Ev.RBG_FAULT o 0 (leBytes 1 s.sig.rbgTest)

/-- A job that needs randomness (R238): RBG_FAULT while a health test fails. -/
def withRandom (s : State) (j : SigJob) (r : SigEnd × State) : SigEnd × State :=
  if rbgOk s then r else ((0x16, []), rbgStops s (.lc j.core))

/-- Random bytes of the generator (R238).
DESIGN CHOICE (log entry 10). -/
def drawRandom (s : State) (n : Nat) : List Byte × State :=
  (takePad n (Config.random s.freeCtr n), { s with freeCtr := s.freeCtr + 1 })

/-- VALID or INVALID. -/
def verdictEnd (b : Bool) : SigEnd := (if b then 0x04 else 0x05, [])

/-- The inputs of a job. -/
def sigIn1 (s : State) (x : SigDesc) : List Byte := s.rdMemN x.in1 x.len1
def sigIn2 (s : State) (x : SigDesc) : List Byte := s.rdMemN x.in2 x.len2
def sigIn3 (s : State) (x : SigDesc) : List Byte := s.rdMemN x.in3 x.len3

/-- The key slot a job uses is of type `ty`; slot numbers go to 15. -/
def sigKeyOk (s : State) (j : SigJob) (ty : Nat) : Bool :=
  decide (j.key < 16) && (s.sigKey j.key).ty == ty

/-- ECDSA_VERIFY. -/
def opEcdsaVerify (s : State) (j : SigJob) : SigEnd × State :=
  let x := j.buf
  if x.len1 ≠ 48 ∨ x.len2 ≠ 96 ∨ x.len3 ≠ 97 then ((0x12, []), s)
  else (verdictEnd (verifySig 1 (sigIn3 s x) (sigIn1 s x) (sigIn2 s x)), s)

/-- An ECDSA signature of a 48-byte digest under a private key, the nonce drawn from the generator (R238): the first of
`n` draws that yields one. -/
def ecdsaDraw (s : State) (key dig : List Byte) (n : Nat) : List Byte × State :=
  let one (k : Nat) : Option (List Byte) := ecdsaWith key dig (ecScalar (takePad 48 (Config.random (s.freeCtr + k) 48)))
  (takePad 96 (((List.range n).findSome? one).getD []), { s with freeCtr := s.freeCtr + n })

/-- ECDSA_SIGN. -/
def opEcdsaSign (s : State) (j : SigJob) : SigEnd × State :=
  let x := j.buf
  if x.len1 ≠ 48 then ((0x12, []), s)
  else if sigKeyOk s j 1 = false then ((0x14, []), s)
  else withRandom s j (
    let r := ecdsaDraw s (s.sigKey j.key).bytes (sigIn1 s x) 8
    ((0x03, r.1), r.2))

/-- MLDSA_VERIFY.
DEDUCED (log entry 42). -/
def opMldsaVerify (s : State) (j : SigJob) : SigEnd × State :=
  let x := j.buf
  if 65536 < x.len1 ∨ x.len2 ≠ 4627 ∨ x.len3 ≠ 2592 then ((0x12, []), s)
  else (verdictEnd (verifySig 2 (sigIn3 s x) (sigIn1 s x) (sigIn2 s x)), s)

/-- A signing job's end: its signature, or EXHAUSTED where no candidate of its 11 rounds was accepted (R235). -/
def mldsaEnd (s : State) (j : SigJob) (sg : Option (List Byte)) : SigEnd × State :=
  match sg with
  | some g => ((0x03, takePad 4627 g), s)
  | none => ((0x15, []), (s.inc Reg.SIG_EXHAUSTED).log Ev.SIGN_EXHAUSTED (.lc j.core) 0
      (leBytes 1 j.key ++ leBytes 4 j.tag))

/-- MLDSA_SIGN (R235): hedged with 32 fresh random bytes, or deterministic.
DEDUCED (log entry 42). -/
def opMldsaSign (s : State) (j : SigJob) : SigEnd × State :=
  let x := j.buf
  let key := (s.sigKey j.key).bytes
  if 65536 < x.len1 then ((0x12, []), s)
  else if sigKeyOk s j 2 = false then ((0x14, []), s)
  else if bitOf j.flags 0 then withRandom s j (
    let d := drawRandom s 32
    mldsaEnd d.2 j (mlSign key (sigIn1 s x) d.1))
  else mldsaEnd s j (mlSign key (sigIn1 s x) (List.replicate 32 0))

/-- LMS_VERIFY.
DEDUCED (log entry 42). -/
def opLmsVerify (s : State) (j : SigJob) : SigEnd × State :=
  let x := j.buf
  if 65536 < x.len1 ∨ (x.len3 ≠ 48 ∧ x.len3 ≠ 56) then ((0x12, []), s)
  else (verdictEnd (verifySig 3 (sigIn3 s x) (sigIn1 s x) (sigIn2 s x)), s)

/-- An operation that writes an output slot: a slot above 15 names none (KEY). -/
def withOutSlot (s : State) (j : SigJob) (r : SigEnd × State) : SigEnd × State :=
  if 16 ≤ j.out then ((0x14, []), s) else r

/-- EC_EPHEMERAL: a private key into the output slot, its public key out. -/
def opEcEphemeral (s : State) (j : SigJob) : SigEnd × State :=
  withOutSlot s j (withRandom s j (
    let d := drawRandom s 48
    ((0x03, takePad 97 (ecPublic d.1)), d.2.setSigKey j.out { ty := 3, session := true, uds := false, mat := d.1 })))

/-- ECDH: a shared secret into the output slot. -/
def opEcdh (s : State) (j : SigJob) : SigEnd × State :=
  let x := j.buf
  if x.len3 ≠ 97 then ((0x12, []), s)
  else if sigKeyOk s j 3 = false then ((0x14, []), s)
  else withOutSlot s j (
    match ecDecode (sigIn3 s x) with
    | none => ((0x05, []), s)
    | some q =>
      let z := takePad 48 (ecShared (s.sigKey j.key).bytes (some q))
      ((0x03, []), s.setSigKey j.out { ty := 4, session := true, uds := false, mat := z }))

/-- HKDF with HMAC-SHA-384 (R234): extract with a salt where one is given, then expand to `len` bytes. -/
def hkdf (key : List Byte) (salt : Option (List Byte)) (info : List Byte) (len : Nat) : List Byte :=
  takePad len (hkdfExpand (match salt with
    | some x => hkdfExtract x key
    | none => key) info len)

/-- DERIVE: HKDF into the output slot, or with output slot 0xFF and extract clear the MAC of input 1
(R301). The spec states no way to choose between type 4 and type 5: the choice is a free value.
DEDUCED (log entry 42). -/
def opDerive (s : State) (j : SigJob) : SigEnd × State :=
  let x := j.buf
  let extract := bitOf j.flags 1
  if 256 < x.len1 ∨ 64 < x.len2 then ((0x12, []), s)
  else if sigKeyOk s j 4 = false then ((0x14, []), s)
  else
    let k := s.sigKey j.key
    if j.out = 0xFF ∧ extract = false then ((0x03, digestOf 0x12 k.bytes (sigIn1 s x)), s)
    else withOutSlot s j (
      let salt := if extract then some (sigIn2 s x) else none
      let f := s.free
      let five := f.1.getLsbD 0
      let key : SigKey :=
        { ty := if five then 5 else 4, session := k.session, uds := false
          mat := hkdf k.bytes salt (sigIn1 s x) (if five then 32 else 48) }
      ((0x03, []), f.2.setSigKey j.out key))

/-- AEAD_SEAL. -/
def opAeadSeal (s : State) (j : SigJob) : SigEnd × State :=
  let x := j.buf
  if x.len3 ≠ 12 ∨ 4096 < x.len2 ∨ 65536 < x.len1 then ((0x12, []), s)
  else if sigKeyOk s j 5 = false then ((0x14, []), s)
  else
    let c := aeadSeal (s.sigKey j.key).bytes (sigIn3 s x) (sigIn2 s x) (sigIn1 s x)
    ((0x03, takePad (x.len1 + 16) c), s)

/-- AEAD_OPEN: INVALID with nothing written where authentication fails. -/
def opAeadOpen (s : State) (j : SigJob) : SigEnd × State :=
  let x := j.buf
  if x.len3 ≠ 12 ∨ 4096 < x.len2 ∨ 65552 < x.len1 ∨ x.len1 < 16 then ((0x12, []), s)
  else if sigKeyOk s j 5 = false then ((0x14, []), s)
  else match aeadOpen (s.sigKey j.key).bytes (sigIn3 s x) (sigIn2 s x) (sigIn1 s x) with
    | some p => ((0x03, takePad (x.len1 - 16) p), s)
    | none => ((0x05, []), s)

/-- The private key of type `ty` that KEYGEN derives from a seed, and its public key.
DESIGN CHOICE (log entry 11). -/
def keyPair (ty : Nat) (seed : List Byte) : List Byte × List Byte :=
  let d := takePad (if ty = 1 then 48 else 32) (Config.keyMaterial ty seed)
  (d, if ty = 1 then takePad 97 (ecPublic d) else takePad 2592 (mlPublic d))

/-- KEYGEN: a deterministic key pair of type 1 or 2 from the seed in the key slot. -/
def opKeygen (s : State) (j : SigJob) : SigEnd × State :=
  let x := j.buf
  let ty := leNat (sigIn1 s x)
  if x.len1 ≠ 1 ∨ (ty ≠ 1 ∧ ty ≠ 2) then ((0x12, []), s)
  else if sigKeyOk s j 4 = false then ((0x14, []), s)
  else withOutSlot s j (
    let k := keyPair ty (s.sigKey j.key).bytes
    ((0x03, k.2), s.setSigKey j.out { ty := ty, session := false, uds := false, mat := k.1 }))

/-- RANDOM. -/
def opRandom (s : State) (j : SigJob) : SigEnd × State :=
  let x := j.buf
  if x.len1 = 0 ∨ 4096 < x.len1 then ((0x12, []), s)
  else withRandom s j (
    let d := drawRandom s x.len1
    ((0x03, d.1), d.2))

/-- ERASE. -/
def opErase (s : State) (j : SigJob) : SigEnd × State :=
  if 16 ≤ j.key ∨ (s.sigKey j.key).ty = 0 then ((0x14, []), s)
  else ((0x03, []), s.setSigKey j.key {})

/-- The started job of a pipe carries out operation `op`: its output and key slot are written; the
job's status word and interrupt follow at its end (R232).
DEDUCED (log entry 43). -/
def sigRun (s : State) (p op : Nat) (f : State → SigJob → SigEnd × State) : State :=
  match sigPipe s p with
  | [] => s
  | j :: js =>
    if j.op ≠ op ∨ j.done.isSome then s
    else
      let r := f s j
      let s := r.2.wrMemN j.buf.out r.1.2
      setSigPipe s p ({ j with done := some r.1 } :: js)

/-- The started job of a pipe ends (R232): output length, status word, interrupt, and the next job of
the pipe starts. -/
def sigEnd (s : State) (p : Nat) : State :=
  match sigPipe s p with
  | [] => s
  | j :: js =>
    match j.done with
    | none => s
    | some d =>
      let s := s.wrMemN (j.desc + 44) (leBytes 4 d.2.length)
      let s := (sigStatus s j.core j.desc d.1).raise 3
      let s := setSigPipe s p js
      match js with
      | [] => s
      | k :: _ => sigStatus s k.core k.desc 0x02

/-- The jobs of a pipe that a condition names end ABORTED, with its started job among them where
`started` says so. Answers how many ended. -/
def sigAbortPipe (s : State) (p : Nat) (started : Bool) (c : SigJob → Bool) : State × Nat :=
  let js := sigPipe s p
  let tagged := (List.range js.length).zip js
  let ends (x : Nat × SigJob) : Bool := (started || x.1 != 0) && c x.2
  let s := (tagged.filter ends).foldl (fun s x => (sigStatus s x.2.core x.2.desc 0x13).raise 3) s
  let left := (tagged.filter (fun x => !ends x)).map Prod.snd
  let s := setSigPipe s p left
  let s := match js, left with
    | j :: _, k :: _ => if j = k then s else sigStatus s k.core k.desc 0x02
    | _, _ => s
  (s, (tagged.filter ends).length)

/-- The jobs of core `c` that have not started end ABORTED: SIG_ABORT.mine, and a core's reset
(R232). -/
def sigAbortMine (s : State) (c : Fin 2) : State :=
  let p (j : SigJob) : Bool := j.core == c
  (sigAbortPipe (sigAbortPipe (sigAbortPipe s 0 false p).1 1 false p).1 2 false p).1

/-- Every job ends and every slot is loaded anew at a start of the whole signal box (R236), after the reset of the unit's
registers. -/
def sigReset (s : State) : State :=
  sigStart { s with sig := { s.sig with v0 := [], v1 := [], pipe := [], rbgLogged := false, rbgTest := 0 } }

/-- Zeroisation by source `x` (R237, R239): the session slots are cleared, the jobs that use them end ABORTED, the
sessions end with cause 3 (R302). -/
def sigZeroise (s : State) (x : Nat) : State :=
  let ses := (List.range 16).filter (fun k => (s.sigKey k).session)
  let uses (j : SigJob) : Bool := ses.contains j.key || ses.contains j.out
  let r := sigAbortPipe s 2 true uses
  let s := ses.foldl (fun s k => s.setSigKey k {}) r.1
  let s := s.log Ev.SESSION_KEYS_ZEROISED .tamper x
    (leBytes 2 (ses.map (fun k => 2 ^ k)).sum ++ leBytes 1 r.2)
  closeSessions s (fun _ => true) 3

/-! ### The random bit generator (R238) -/

/-- A health test fails: rbg_ok is 0. The failure is logged on the first job or draw that it stops. -/
def rbgFail (s : State) (test : Nat) : State :=
  ({ s with sig := { s.sig with rbgTest := test } } : State).setBit Reg.SIG_STAT 11 false

/-- The health tests pass. -/
def rbgPass (s : State) : State :=
  ({ s with sig := { s.sig with rbgLogged := false } } : State).setBit Reg.SIG_STAT 11 true

/-! ### Key loads of the yards (R228) -/

/-- The yards that a mask names. -/
def maskYards (m : Nat) : List Nat := (List.range 16).filter (bitOf m)

/-- Whether yard `y` runs programs (YRD_y_CTL.run). -/
def yardRunning (s : State) (y : Nat) : Bool := s.bit (Reg.YRD_CTL y) 0

/-- YRD_y_KEYS in step with the keys of yard `y`. -/
def syncKeys (s : State) (y : Nat) : State :=
  s.wr (Reg.YRD_KEYS y) (BitVec.ofNat 32 (maskOf 4 (fun k => !(Sparse.get (fun _ => []) (s.yard y).keys k).isEmpty)))

/-- A key put into one slot of a yard. -/
def putKey (s : State) (y slot : Nat) (key : List Byte) : State :=
  let x := s.yard y
  syncKeys (s.setYard y { x with keys := Sparse.set (fun _ => []) x.keys slot key }) y

/-- The key slots of a yard cleared (R230). -/
def clearKeys (s : State) (y : Nat) : State := syncKeys (s.setYard y { s.yard y with keys := [] }) y

/-- A write of YRD_KEY_GO (R228); `inRun` tells which yards' domains are in RUN. -/
def keyGo (s : State) (inRun : Nat → Bool) : State :=
  let ys := maskYards (s.fld Reg.YRD_KEY_MASK 15 0)
  let len := s.fld Reg.YRD_KEY_CTL 6 0
  if ys.any (fun y => yardRunning s y || !inRun y) = true ∨ len = 0 ∨ 64 < len ∨ s.keyLoad.isSome = true
  then s.setBit Reg.YRD_KEY_STAT 2 true
  else
    let key := s.rdMemN (s.rd Reg.YRD_KEY_SRC).toNat len
    let l : KeyLoad := ⟨s.fld Reg.YRD_KEY_MASK 15 0, s.fld Reg.YRD_KEY_CTL 9 8, key⟩
    ({ s with keyLoad := some l } : State).setBit Reg.YRD_KEY_STAT 0 true

/-- A key load completes (R228). -/
def keyDone (s : State) : State :=
  match s.keyLoad with
  | none => s
  | some l =>
    let s := (maskYards l.yards).foldl (fun s y => putKey s y l.slot l.key) s
    (({ s with keyLoad := none } : State).setBit Reg.YRD_KEY_STAT 0 false).setBit Reg.YRD_KEY_STAT 1 true

/-! ### Clearing of engines (R230) -/

/-- A context as an alarm leaves it: cleared and ABORTED. -/
def DigestCtx.cleared (c : DigestCtx) : DigestCtx :=
  { c with key := [], declared := none, fed := [], st := .aborted, result := [] }

/-- A save slot as an alarm leaves it: ABORTED, whether it held a context or not. -/
def slotCleared (x : Engine) (k : Nat) : Nat × Option DigestCtx :=
  (k, some ((Sparse.get (fun _ => none) x.slots k).getD ⟨0, [], none, [], .aborted, []⟩).cleared)

/-- An engine as an alarm leaves it: the live context and all four save slots cleared and ABORTED, a work item marked
ABORTED (R230, R246). -/
def Engine.alarmed (x : Engine) : Engine :=
  { x with live := x.live.map (fun p => (p.1, p.2.cleared)), slots := (List.range 4).map (slotCleared x), item := x.item.map (fun i => { i with cancelled := true }) }

/-- Whether an alarm ends something of an engine: a context or a work item. -/
def Engine.affected (x : Engine) : Bool := x.live.isSome || x.slots.any (fun p => p.2.isSome) || x.item.isSome

/-- Whether the domain of yard `y` is not OFF. -/
def yardPowered (s : State) (y : Nat) : Bool := s.fld (Reg.PWR_DOM_STAT (6 + y)) 1 0 != 3

/-- Every powered engine as an alarm leaves it (R230). -/
def alarmEngines (s : State) : State :=
  { s with engines := (List.range 512).filterMap (fun e =>
      let x := if yardPowered s (e / 32) then (s.engine e).alarmed else s.engine e
      if x = {} then none else some (e, x)) }

end Sys2Proof.Machine
end

