-- ==== Sys2Proof/Machine/TmpOps.lean ====
section
/-! DEFINITION. Tamper and environment monitors (R330-R346): detector events, qualification, responses,
lockdown, the power-up decision, the VBAT domain; and the extension of measurement registers (R305). -/

namespace Sys2Proof.Machine

/-! ### Measurement registers -/

/-- MREG_m as 48 bytes. -/
def mreg (s : State) (m : Nat) : List Byte := s.rdBytes (Reg.ATT_MREG m 0) 12

/-- MREG ← SHA-384(MREG ‖ v) (R305). -/
def mregExtend (s : State) (m : Nat) (v : List Byte) : State :=
  s.wrBytes (Reg.ATT_MREG m 0) 12 ((sha384 (mreg s m ++ v)))

/-- MREG_5 extended by hardware with an event (R305): 0 power-up, 1 entry, 2 exit, 3 EVIDENCE_FULL; `count` is the
evidence count after it. -/
def mreg5Event (s : State) (event count : Nat) : State :=
  mregExtend s 5 (leBytes 1 event ++ leBytes 1 (s.fld Reg.TMP_STAT 0 0) ++ [0, 0] ++ leBytes 4 count)

/-- The evidence count (R338). -/
def evidenceCount (s : State) : Nat := s.fld Reg.TMP_EVIDENCE 10 0

/-! ### Sources (R330, R331, R335) -/

/-- TMP_STAT.lockdown. -/
def lockedDown (s : State) : Bool := s.bit Reg.TMP_STAT 0

/-- Whether source `x` is disabled by its fuse (R335). -/
def fused (s : State) (x : Nat) : Bool := decide (x < 14) && s.bit Reg.TMP_FUSED x

/-- The EXT sources. -/
def isExt (x : Nat) : Bool := decide (5 ≤ x ∧ x ≤ 12)

/-- Whether a detector takes part: its source is not fused, an EXT source is armed and its dynamic
read enabled, and CELL is not masked by an open cell-service window (R331, R335, R344).
DESIGN CHOICE (log entry 57). -/
def detectorOn (s : State) (x det : Nat) : Bool :=
  !fused s x && (!isExt x || (s.bit (Reg.TMP_SRC_CFG x) 7 && (det == 0 || s.bit (Reg.TMP_EXT_CFG (x - 5)) 1))) &&
    !(x == 13 && s.bit Reg.TMP_STAT 5)

/-- Whether the thresholds are forced to 1 (R334). -/
def forcedNow (s : State) : Bool :=
  let st := s.fld Reg.LCS_STATE 3 0
  !s.stage2Ready || st == 0 || st == 1 || st == 4 || s.bit Reg.RTB_RCV_STAT 6

/-- TMP_STAT.forced brought in step (R334): where the forcing ends, the histories are cleared and
FORCING_ENDED names the condition that ended last. -/
def syncForced (s : State) (why : Nat) : State :=
  let was := s.bit Reg.TMP_STAT 4
  let now := forcedNow s
  let s := s.setBit Reg.TMP_STAT 4 now
  if was = true ∧ now = false then
    ({ s with tmp := { s.tmp with hist := [] } } : State).log Ev.FORCING_ENDED .tamper 0xFF (leBytes 1 why)
  else s

/-- THRESH and WINDOW of a configuration word; 0 acts as 1. LOGIC's threshold is 1 (R345).
DEDUCED (log entry 56). -/
def cfgThresh (x : Nat) (w : Word) : Nat := if x = 14 then 1 else max (getBits w 3 0) 1
def cfgWindow (w : Word) : Nat := max (getBits w 31 16) 1

/-- The response set of a source without LOCK: [0] SEAL, [1] HOLD, [2] ZERO (R336, R345). -/
def cfgResp (x : Nat) (w : Word) : Nat :=
  if x = 14 then 3 + 4 * getBits w 6 6 else getBits w 6 4

/-! ### Responses (R336) -/

/-- Whether a response is in force: bit 0 SEAL, 1 HOLD, 2 ZERO. -/
def inForce (s : State) (i : Nat) : Bool := s.bit Reg.TMP_STAT (i + 1)

/-- The responses in force as a mask. -/
def respMask (s : State) : Nat := s.fld Reg.TMP_STAT 3 1

/-- SEAL comes into force (R130): queued entries whose replay has not begun are discarded. -/
def sealOn (s : State) : State :=
  if inForce s 0 then s
  else
    let s := s.setBit Reg.TMP_STAT 1 true
    (List.range 32).foldl (fun s n => discardUnreplayed s n 0xFA 0 (s.line n).queue) s

/-- HOLD comes into force (R161). -/
def holdOn (s : State) : State := (s.setBit Reg.TMP_STAT 2 true).setBit Reg.HLD_STAT 0 true

/-- ZERO applies once (R228, R230, R237), for source `x`. -/
def zeroOn (s : State) (x : Nat) : State :=
  if inForce s 2 then s
  else (List.range 16).foldl clearKeys (sigZeroise (s.setBit Reg.TMP_STAT 3 true) x)

/-- The responses of a set applied in order (R336); nothing already in force is repeated. With the
latch set, they are added to those it holds (R337). `x` is the source. -/
def respond (s : State) (resp x : Nat) : State :=
  let s := if bitOf resp 0 then sealOn s else s
  let s := if bitOf resp 1 then holdOn s else s
  let s := if bitOf resp 2 then zeroOn s x else s
  if s.tmp.latch then
    { s with tmp := { s.tmp with latchResp := s.tmp.latchResp ||| (resp % 8) } }
  else s

/-- What the tag datapath of lane `l` does is abandoned (R156, R230): a Ganger check, its page to be retried, and the fill
of the burst under way. Answers whether there was something.
DESIGN CHOICE (log entry 96). -/
def clearTag (s : State) (l : Nat) : State × Bool :=
  let fills := tagFills s l
  let s := if fills then
      s.setLine l { s.line l with dev := (s.line l).dev.map (fun d => { d with dropped := true }) } else s
  match (s.line l).ganger with
  | some g =>
    if extClass s g.extent = 1 then
      let f := gangerSpent s g
      ((dropGanger f.2 l f.1).inc (Reg.GNG_RETRY l), true)
    else (s, fills)
  | none => (s, fills)

/-- Every unit that a qualifying alarm clears (R156, R230): the Examiner's lanes, the tag datapaths, the
digest contexts of every engine. -/
def clearUnits (s : State) (zero : Bool) : State :=
  let jobs := (List.range 34).filter (fun l => (s.lane l).holder.isSome || !(s.lane l).queue.isEmpty)
  let r := jobs.foldl (fun (p : State × Nat) l =>
    let q := exmClearLane p.1 l
    (q.1, p.2 + q.2)) (s, 0)
  let t := (List.range 34).foldl (fun (p : State × List Nat) l =>
    let q := clearTag p.1 l
    (q.1, if q.2 = true ∨ jobs.contains l = true then p.2 ++ [l] else p.2)) (r.1.setBit Reg.EXM_STAT 0 true, [])
  let yards := maskOf 16 (fun y => yardPowered s y && s.engines.any (fun p => p.1 / 32 == y && p.2.affected))
  (alarmEngines t.1).log Ev.DIGEST_CLEARED .examiner 0
    (leBytes 5 (t.2.map (fun l => 2 ^ l)).sum ++ leBytes 2 yards ++ leBytes 2 r.2 ++ leBytes 1 (b2n zero))

/-! ### Lockdown (R337, R338) -/

/-- The lock latch set with its sources, and TMP_STAT.lockdown; MREG_5 shows the entry from now on, with the count that
the entry leads to (R22, R305, R338). -/
def setLatch (s : State) (sources : Nat) (o : Origin) (recorded : Bool) : State :=
  let t := { s.tmp with latch := true, latchResp := respMask s, latchSrc := sources }
  let s := { s with tmp := t }
  let s := if recorded then s.setL o Reg.TMP_STAT 0 0 1 else s.setBit Reg.TMP_STAT 0 true
  (mreg5Event s 1 (evidenceTarget s)).log Ev.LOCKDOWN_ENTERED .tamper 0xFF
    (leBytes 2 sources ++ leBytes 1 (respMask s + 8) ++ leBytes 4 (evidenceTarget s))

/-- An open release of lockdown marked for conflict by an alarm (R340).
DEDUCED (log entry 56). -/
def markRelease (s : State) : State :=
  (List.range 4).foldl (fun s h =>
    let x := s.handle h
    let open' := x.state == .opened || x.state == .armed || x.state == .lodged
    if open' = true ∧ x.recs.any (fun r => r.kind == 0x07 && r.operand == 0) = true
    then s.setHandle h { x with conflict := true } else s) s

/-- Whether a release of lockdown is in service (R73). -/
def releaseInService (s : State) : Bool :=
  (List.range 4).any (fun h =>
    (s.handle h).state == .service && (s.handle h).recs.any (fun r => r.kind == 0x07 && r.operand == 0))

/-- LOCK by a qualifying alarm (R337): a new entry through handle 4, or, while lockdown is in force,
the source added to the latch and an open release marked. -/
def lockByAlarm (s : State) (x : Nat) : State :=
  if lockedDown s then
    let again := if releaseInService s then
        some (s.tmp.again.getD 0 ||| 2 ^ x)
      else s.tmp.again
    let s := { s with tmp := { s.tmp with latchSrc := s.tmp.latchSrc ||| 2 ^ x, again := again } }
    markRelease s
  else lodgeLockdown (setLatch s (2 ^ x) .tamper true)

/-- The LOCK response of a tag mismatch (R152): lockdown is entered by the same steps, no source
qualifies and no unit is cleared (R231). -/
def lockResponse (s : State) : State :=
  if lockedDown s then s else lodgeLockdown (setLatch s 0 .tamper true)

/-- The evidence counter advanced to a target (R338). -/
def advanceEvidence (s : State) (target : Nat) : State :=
  let was := evidenceCount s
  let now := max was (min target 1024)
  let s := s.setF Reg.TMP_EVIDENCE 10 0 now
  let s := s.setBit Reg.TMP_STAT 6 (decide (1024 ≤ now))
  if was < 1024 ∧ 1024 ≤ now then (mreg5Event s 3 now).log Ev.EVIDENCE_FULL .tamper 0xFF [] else s

/-- A LOCKDOWN set commits (R66, R337). Handle 4's is the entry of an alarm, whose latch is set; any
other enters with response set LOCK, or changes nothing while lockdown is in force. -/
def applyLock (s : State) (payload : List Byte) (byHardware : Bool) : State :=
  if byHardware = true then
    { s with tmp := { s.tmp with record := some payload, target := some (leAt payload 4 4) } }
  else if lockedDown s then s
  else
    let s := setLatch s 0 .interlocking false
    { s with tmp := { s.tmp with record := some payload, target := some (leAt payload 4 4) } }

/-- The released lockdown record (R337). -/
def releasedRecord : List Byte := withCrc (List.replicate 60 0)

/-- Lockdown entered anew after a release that was in service when sources qualified (R340). -/
def reenter (s : State) (again : Option Nat) : State :=
  match again with
  | none => s
  | some m =>
    let resp := ((List.range 15).filter (bitOf m)).foldl (fun r x => r ||| cfgResp x (s.rd (Reg.TMP_SRC_CFG x))) 0
    lodgeLockdown (setLatch (respond s resp (((List.range 15).find? (bitOf m)).getD 0xFF)) m .tamper true)

/-- A LOCKDOWN release commits (R340); `ticket` names its ticket. -/
def applyRelease (s : State) (ticket : Nat) : State :=
  let key := match ticketSlot s ticket with
    | some i => ((Sparse.get (fun _ => none) s.lcs.tickets i).map Ticket.key).getD 0
    | none => 0
  let t := { s.tmp with latch := false, latchResp := 0, latchSrc := 0, record := some releasedRecord,
                        target := none, hist := [], again := none }
  let again := s.tmp.again
  let s := ({ s with tmp := t } : State).setF Reg.TMP_STAT 3 0 0
  let s := (s.setBit Reg.HLD_STAT 0 false).wr Reg.TMP_ALARM 0
  let s := (mreg5Event s 2 (evidenceCount s)).log Ev.LOCKDOWN_RELEASED .tamper 0xFF
    (leBytes 1 key ++ leBytes 2 (s.fld Reg.TMP_EVIDENCE 10 0))
  reenter s again

/-! ### Qualification (R332-R334) -/

/-- The earlier events of a source that count with a new one at `stamp`. -/
def counted (hist : List TmpEvent) (x stamp window : Nat) : List TmpEvent :=
  hist.filter (fun e => e.src == x && decide (stamp < e.stamp + window))

/-- The detectors of some events as a mask. -/
def detMask (es : List TmpEvent) : Nat := b2n (es.any (fun e => e.det == 0)) + 2 * b2n (es.any (fun e => e.det == 1))

/-- The tick counter of the VBAT domain. -/
def vbatTick (s : State) : Nat := s.rd64 Reg.TMP_VBAT_TICK_LO Reg.TMP_VBAT_TICK_HI % 2 ^ 48

/-- The tick counter at a stamp; it never runs back.
DEDUCED (log entry 56). -/
def tickTo (s : State) (stamp : Nat) : State :=
  if vbatTick s < stamp then s.wr64 Reg.TMP_VBAT_TICK_LO Reg.TMP_VBAT_TICK_HI (stamp % 2 ^ 48) else s

/-- A source qualifies (R332, R336). -/
def alarm (s : State) (x dets stamp thresh window : Nat) (forced : Bool) : State :=
  let w := s.rd (Reg.TMP_SRC_CFG x)
  let resp := cfgResp x w
  let s := { s with tmp := { s.tmp with hist := s.tmp.hist.filter (fun e => e.src != x) } }
  let s := s.setBit Reg.TMP_ALARM x true
  let s := s.log Ev.ALARM .tamper x (leBytes 1 dets ++ leBytes 6 stamp ++ leBytes 1 thresh ++
    leBytes 2 window ++ leBytes 1 (resp + 8) ++ leBytes 1 (b2n forced))
  let zero := bitOf resp 2 && !inForce s 2
  lockByAlarm (clearUnits (respond s resp x) zero) x

/-- A detector raises an event, synchronised at `stamp` (R330, R332); at most one per detector and
tick. `extra` is the register address, value and shadow of a LOGIC mismatch.
DEDUCED (log entry 56). -/
def detectorEvent (s : State) (x det stamp : Nat) (extra : List Byte) : State :=
  let s := tickTo s stamp
  if detectorOn s x det = false ∨ s.tmp.ticked.any (fun p => p.1 == 2 * x + det && p.2 == stamp) = true then s
  else
    let t := { s.tmp with ticked := (2 * x + det, stamp) :: s.tmp.ticked.filter (fun p => p.1 != 2 * x + det) }
    let s := { s with tmp := t }
    let w := s.rd (Reg.TMP_SRC_CFG x)
    let forced := forcedNow s
    let thresh := if forced then 1 else cfgThresh x w
    let window := cfgWindow w
    let old := counted s.tmp.hist x stamp window
    let all : List TmpEvent := old ++ [⟨x, det, stamp⟩]
    if thresh ≤ all.length then alarm s x (detMask all) stamp thresh window forced
    else
      let s := { s with tmp := { s.tmp with hist := s.tmp.hist ++ [(⟨x, det, stamp⟩ : TmpEvent)] } }
      (s.inc (Reg.TMP_SRC_CNT x)).log Ev.DETECTOR_EVENT .tamper x
        (leBytes 1 (det + 1) ++ leBytes 6 stamp ++ leBytes 1 all.length ++ extra)

/-- TMP_ACTIVE of a detector (R330). -/
def setActive (s : State) (x det : Nat) (on : Bool) : State :=
  s.setBit Reg.TMP_ACTIVE (2 * x + det) (on && !fused s x)

/-- A LOGIC detector-2 event from a comparator fault (R221, R330). -/
def logicFlagEvent (s : State) : State := detectorEvent s 14 1 (vbatTick s) []

/-! ### Configuration lock (R346) -/

/-- The configuration words that the VBAT domain keeps: TEMP, LIGHT, MESH, EXT, CELL, the EXT
configuration and the temperature limits. -/
def vbatWords : List Nat :=
  (List.range 12).map (fun i => Reg.TMP_SRC_CFG (i + 2)) ++ (List.range 8).map Reg.TMP_EXT_CFG ++ [Reg.TMP_TEMP_LIM]

/-- A write of 1 to TMP_CTL.lock: the VBAT part of the configuration is copied. -/
def tmpLock (s : State) : State :=
  if s.bit Reg.TMP_CTL 0 then s
  else
    let s := s.setBit Reg.TMP_CTL 0 true
    { s with tmp := { s.tmp with vbatCfg := vbatWords.map (fun a => (a, s.rd a)) } }

/-! ### BACKUP (R341) -/

/-- The copied configuration of a source; none where it was never copied. -/
def vbatWord (s : State) (a : Nat) : Option Word := (s.tmp.vbatCfg.find? (fun p => p.1 == a)).map Prod.snd

/-- The next event-latch entry written (R341): the 17th and later overwrite entry 15. -/
def vlatchPut (s : State) (x dets stamp : Nat) : State :=
  let n := if s.tmp.vlatchNew then s.fld Reg.TMP_VLATCH_STAT 4 0 else 0
  let i := min n 15
  let s := { s with tmp := { s.tmp with vlatchNew := true } }
  let s := s.wr (Reg.TMP_VLATCH_LO i) (BitVec.ofNat 32 (x + dets * 16 + stamp % 65536 * 65536))
  let s := s.wr (Reg.TMP_VLATCH_HI i) (BitVec.ofNat 32 (stamp / 65536))
  let past := s.fld Reg.TMP_VLATCH_STAT 15 8
  if n < 16 then (s.setF Reg.TMP_VLATCH_STAT 4 0 (n + 1)).setF Reg.TMP_VLATCH_STAT 15 8 (if n = 0 then 0 else past)
  else s.setF Reg.TMP_VLATCH_STAT 15 8 (min (past + 1) 255)

/-- One source's sample in BACKUP qualified with the copied configuration (R341). `dets` is the mask of
the detectors that saw their condition; CELL takes part with detector 1 only, EXT only where armed.
DEDUCED (log entry 56). -/
def backupSource (s : State) (stamp x dets : Nat) : State :=
  let w := vbatWord s (Reg.TMP_SRC_CFG x)
  let armed := match w with
    | some v => !isExt x || v.getLsbD 7
    | none => !isExt x
  let dyn := match vbatWord s (Reg.TMP_EXT_CFG (x - 5)) with
    | some v => v.getLsbD 1
    | none => false
  let dets := if x = 13 ∨ (isExt x = true ∧ dyn = false) then dets % 2 else dets % 4
  let inVbat := decide (2 ≤ x ∧ x ≤ 13)
  if inVbat = false ∨ armed = false ∨ fused s x = true ∨ dets = 0 then s
  else
    let thresh := match w with
      | some v => cfgThresh x v
      | none => 1
    let window := match w with
      | some v => cfgWindow v
      | none => 1
    let resp := match w with
      | some v => cfgResp x v
      | none => 0
    let new : List TmpEvent := (if bitOf dets 0 then [⟨x, 0, stamp⟩] else []) ++ (if bitOf dets 1 then [⟨x, 1, stamp⟩] else [])
    let all := counted s.tmp.hist x stamp window ++ new
    if thresh ≤ all.length then
      let t := { s.tmp with latch := true, latchResp := s.tmp.latchResp ||| resp,
                            latchSrc := s.tmp.latchSrc ||| 2 ^ x,
                            hist := s.tmp.hist.filter (fun e => e.src != x) }
      vlatchPut { s with tmp := t } x (detMask all) stamp
    else { s with tmp := { s.tmp with hist := s.tmp.hist ++ new } }

/-- The sources and detector masks of one sample, in source order. -/
def backupSources (s : State) (stamp : Nat) : List (Nat × Nat) → State
  | [] => s
  | (x, d) :: r => backupSources (backupSource s stamp x d) stamp r

/-! ### The cell-service window (R344) -/

/-- The window closes; a cell of at least 2.3 V renews the canary. Without one a timeout is logged. -/
def cellClose (s : State) (cell timeout : Bool) : State :=
  let s := s.setBit Reg.TMP_STAT 5 false
  let t := { s.tmp with canary := true, canaryWord := true }
  let s := if cell then setActive { s with tmp := t } 13 1 false else s
  if cell || timeout then s.log Ev.CELL_WINDOW .tamper 13 (leBytes 1 (if cell then 0 else 2)) else s

/-! ### Power-up (R338, R339, R342, R343) -/

/-- The lockdown record that eNVM holds is set: locked, or unreadable. -/
def recordSet (s : State) (unreadable : Bool) : Bool :=
  unreadable || match s.tmp.record with
    | some r => leAt r 0 4 == 0x4C4F434B
    | none => false

/-- The responses of the event latch's sources (R339). -/
def vlatchResp (s : State) : Nat :=
  if s.tmp.vlatchNew = false then 0
  else
    let n := s.fld Reg.TMP_VLATCH_STAT 4 0
    ((List.range (min n 16)).map (fun i =>
      match vbatWord s (Reg.TMP_SRC_CFG (s.fld (Reg.TMP_VLATCH_LO i) 3 0)) with
      | some w => cfgResp (s.fld (Reg.TMP_VLATCH_LO i) 3 0) w
      | none => 0)).foldl (· ||| ·) 0

/-- The lockdown decision of the ROM (R339), with MREG_5's extension at the power-up (R305): where lockdown continues it shows
that, with the count the record asks for. An unreadable record's target is taken as one above the counter.
DESIGN CHOICE (log entry 113). -/
def lockdownAtPowerUp (s : State) (unreadable : Bool) : State :=
  let set := recordSet s unreadable
  let target := if unreadable then evidenceTarget s else match s.tmp.record with
    | some r => leAt r 4 4
    | none => 0
  let s := s.setBit Reg.TMP_STAT 6 (decide (1024 ≤ evidenceCount s))
  if s.tmp.latch = false ∧ set = false then mreg5Event s 0 (evidenceCount s)
  else
    let fromRec := match s.tmp.record with
      | some r => if set then leAt r 8 4 % 8 else 0
      | none => 0
    let resp := fromRec ||| (if s.tmp.latch then s.tmp.latchResp else 0) ||| vlatchResp s
    let s := (s.setBit Reg.TMP_STAT 1 (bitOf resp 0)).setBit Reg.TMP_STAT 3 (bitOf resp 2)
    let s := if bitOf resp 1 then holdOn s else s
    if set then
      let s := { s with tmp := { s.tmp with latch := true, latchResp := resp } }
      let s := s.setBit Reg.TMP_STAT 0 true
      advanceEvidence (mreg5Event s 0 (max (evidenceCount s) (min target 1024))) target
    else
      let src := s.tmp.latchSrc
      lodgeLockdown (setLatch (mreg5Event s 0 (evidenceCount s)) src .tamper false)

/-- A canary found lost or altered raises a CELL detector-2 event at the power-up; one with no check
word is initialised (R343). It stays lost until a cell-service window closes with a cell. -/
def canaryAtPowerUp (s : State) (lost : Bool) : State :=
  if s.tmp.canaryWord = false then
    { s with tmp := { s.tmp with canary := true, canaryWord := true } }
  else if lost = true ∨ s.tmp.canary = false then
    detectorEvent (setActive { s with tmp := { s.tmp with canary := false } } 13 1 true) 13 1 (vbatTick s) []
  else s

/-- One event-latch entry logged with DERIVED_FROM_VBAT (R342). -/
def logVlatch (s : State) (i : Nat) : State :=
  let lo := s.rd (Reg.TMP_VLATCH_LO i)
  let tick := getBits lo 31 16 + 65536 * (s.rd (Reg.TMP_VLATCH_HI i)).toNat
  s.record Ev.VBAT_ALARM Origin.tamper.code (getBits lo 3 0)
    (leBytes 1 (getBits lo 5 4) ++ leBytes 6 tick ++ leBytes 1 i) false true

/-- The event latch logged after stage 2 signals ready, and cleared (R342); the registers keep the last
set logged. -/
def flushVlatch (s : State) : State :=
  if s.tmp.vlatchNew = false then s
  else
    let s := (List.range (min (s.fld Reg.TMP_VLATCH_STAT 4 0) 16)).foldl logVlatch s
    let past := s.fld Reg.TMP_VLATCH_STAT 15 8
    let s := if past = 0 then s
      else s.record Ev.VLATCH_OVERFLOW Origin.tamper.code 0xFF (leBytes 1 past) false true
    let s := { s with tmp := { s.tmp with vlatchNew := false } }
    s.wr Reg.TMP_VLATCH_STAT 0

/-! ### Fuses (R335) -/

/-- A source-disable fuse blown: the source's detectors are unpowered from now on, so they show no condition. -/
def blowFuse (s : State) (x : Nat) : State :=
  let s := setActive (setActive (s.setBit Reg.TMP_FUSED x true) x 0 false) x 1 false
  s.log Ev.SOURCE_FUSED .tamper x (leBytes 4 (s.rd Reg.TMP_FUSED).toNat)

end Sys2Proof.Machine
end

