-- ==== Sys2Proof/Machine/LcsOps.lean ====
section
/-! DEFINITION. Life cycle, staffs, tickets and memory tests (R364-R380): codewords and their decoding,
wipes, the ROM's start-up part, and the checks of a staff. -/

namespace Sys2Proof.Machine

/-! ### Codewords (R366) -/

/-- All ones in 64 bits. -/
def ones64 : Nat := 2 ^ 64 - 1

/-- The step thermometer of a codeword's bits [35:0]: the step, where the field has its form. -/
def stepOf (w : Nat) : Option Nat :=
  (List.range 19).find? (fun k => bitsOf w 35 0 == (2 ^ 36 - 1) - (2 ^ (2 * k) - 1))

/-- The EOL field. -/
def eolOf (w : Nat) : Nat := bitsOf w 55 48

/-- Whether a copy is a valid codeword: in the EOL form, bits [47:0] are not checked. -/
def codewordOk (w : Nat) : Bool :=
  bitsOf w 63 56 == 0xFF &&
    (eolOf w == 0 || ((eolOf w == 0xFF || eolOf w == 0xF0) && bitsOf w 47 36 == 0xFFF && (stepOf w).isSome))

/-- The codeword of a step with an EOL field. -/
def codeword (k eol : Nat) : Nat :=
  0xFF * 2 ^ 56 + eol * 2 ^ 48 + 0xFFF * 2 ^ 36 + ((2 ^ 36 - 1) - (2 ^ (2 * k) - 1))

/-- A copy's rank: EOL field first (0x00 above 0xF0 above 0xFF), then step (R368). -/
def codewordRank (w : Nat) : Nat :=
  (if eolOf w = 0 then 64 else if eolOf w = 0xF0 then 32 else 0) + (stepOf w).getD 0

/-- The most advanced valid copy (R368). -/
def decidedCopy (cs : List Nat) : Option Nat :=
  (cs.filter codewordOk).foldl (fun m w =>
    match m with
    | none => some w
    | some v => if codewordRank v < codewordRank w then some w else some v) none

/-- The state code of a step outside the EOL forms (R364, R366). -/
def stateOfStep (k : Nat) : Nat :=
  if k = 0 then 0 else if k = 1 then 9 else if k = 2 then 1
  else match k % 4 with
    | 3 => 10
    | 0 => 2
    | 1 => 11
    | _ => 3

/-- The generation of a step: each entry into PROD advances it. -/
def genOfStep (k : Nat) : Nat := if k < 4 then 0 else k / 4

/-- The state code of a codeword. -/
def stateOfWord (w : Nat) : Nat :=
  if eolOf w = 0 then 4 else if eolOf w = 0xF0 then 12 else stateOfStep ((stepOf w).getD 0)

/-- The final codeword of a transit codeword (R366, R367). -/
def finalWord (w : Nat) : Nat :=
  if eolOf w = 0xF0 then w - 0xF0 * 2 ^ 48
  else
    let k := (stepOf w).getD 0
    if k = 1 ∨ k % 4 = 3 ∨ (k % 4 = 1 ∧ k ≠ 1) then codeword (k + 1) 0xFF else w

/-- A copy with a codeword programmed: eNVM programming clears bits only. -/
def programCopy (c w : Nat) : Nat := c &&& w

/-- What copy `c` is brought to for codeword `w`: a copy in no valid form at all is brought to EOL with its low bits
cleared (R366).
DEDUCED (log entry 61). -/
def copyTarget (c w : Nat) : Nat := if eolOf w = 0 ∧ codewordOk c = false then 0xFF * 2 ^ 56 else w

/-- The codeword programmed into copies 0, 1 and 2; a copy that cannot take it is recorded (R368).
DEDUCED (log entry 61). -/
def programCopies (s : State) (w : Nat) : State :=
  let old := s.lcs.copies
  let s := { s with lcs := { s.lcs with copies := old.map (fun c => programCopy c (copyTarget c w)) } }
  let s := (List.range 3).foldl (fun s k =>
    s.wr64 (Reg.LCS_COPY_LO k) (Reg.LCS_COPY_HI k) (s.lcs.copies.getD k ones64)) s
  (List.range 3).foldl (fun s k =>
    let v := s.lcs.copies.getD k ones64
    if v = w ∨ eolOf w = 0 ∧ bitsOf v 63 48 = 0xFF00 then s
    else s.fwLog Ev.LC_COPY_BAD 0 (leBytes 1 k ++ leBytes 8 (old.getD k ones64))) s

/-! ### State, permissions and the life-cycle word (R364, R365, R372) -/

/-- The state code and generation (LCS_STATE). -/
def lcState (s : State) : Nat := s.fld Reg.LCS_STATE 3 0
def lcGen (s : State) : Nat := s.fld Reg.LCS_STATE 6 4
def debugLevel (s : State) : Nat := s.fld Reg.LCS_STATE 9 8

/-- Whether the MTM registers are reachable (R380). -/
def mtmOk (s : State) : Bool := s.bit Reg.LCS_STATE 11

/-- The life-cycle word (R372). -/
def lcWord (s : State) : List Byte :=
  let keys := (s.rd Reg.LCS_OTP_KEYS).toNat
  leBytes 1 (lcState s) ++ leBytes 1 (lcGen s) ++ leBytes 1 (debugLevel s) ++
    leBytes 1 (b2n (s.bit Reg.LCS_OTP_KEYS 12) + 2 * b2n (s.bit Reg.LCS_STATE 10) + 4 * b2n (mtmOk s)) ++
    leBytes 4 (s.rd Reg.TMP_FUSED).toNat ++ leBytes 1 (bitsOf keys 7 0) ++ leBytes 1 (bitsOf keys 11 8) ++
    List.replicate 6 0

/-- The debug level that the ROM fixes for a state (R365), with a pending level in PROD_OPEN (R379). -/
def levelOf (st : Nat) (pending : Option Nat) : Nat :=
  match st with
  | 2 => 0
  | 3 => pending.getD 2
  | _ => 3

/-- The pending level of the anti-replay store that applies now (R379). -/
def pendingLevel (s : State) : Option (Nat × Nat) :=
  (s.lcs.staffs.find? (fun e =>
    e.pending != 0 && e.pcc + 1 == s.pcc && decide (s.pcc ≤ e.bound))).map (fun e => (e.pending - 1, e.counter))

/-- LCS_STATE for a state and generation. -/
def setLcState (s : State) (st gen level : Nat) : State :=
  let open' := b2n (st != 2)
  let mtm := b2n (st == 0 || st == 1 || st == 4)
  s.wr Reg.LCS_STATE (BitVec.ofNat 32 (st + gen * 2 ^ 4 + level * 2 ^ 8 + open' * 2 ^ 10 + mtm * 2 ^ 11))

/-! ### Wipes (R369) -/

/-- The addresses of eNVM regions: key store, staff store, Consist copy, user area, root ring. -/
def inRange (a lo len : Nat) : Bool := decide (lo ≤ a ∧ a < lo + len)
def inKeyStore (a : Nat) : Bool := inRange a 0x10252000 0x40000
def inUserArea (a : Nat) : Bool := inRange a 0x10A94000 0x500000
def inConsist (a : Nat) : Bool := inRange a 0x10294000 0x400000
def inRootRing (a : Nat) : Bool := inRange a 0x10152000 0x100000

/-- The bytes of some addresses erased. -/
def wipeMem (s : State) (p : Nat → Bool) : State := { s with mem := s.mem.filter (fun c => !p c.1) }

/-- A wipe's progress: all its sectors erased. -/
def wiped (s : State) (sectors : Nat) : State := s.wr Reg.LCS_WIPE_STAT (BitVec.ofNat 32 sectors)

/-- The tables kept in the eNVM user area go with it: the timetable with its progress (R261), the downstream table
(R312), the stored countersignature (R311), staged chains (R407). -/
def wipeTables (s : State) : State :=
  { s with fix := { s.fix with tt := [], saved := [], reportSeq := 0 }, att := { s.att with ds := [], counter := [] }
           lcs := { s.lcs with staged := none } }

/-- The wipe and the fuses of a transition into `st` (R369). -/
def wipeFor (s : State) (st : Nat) : State :=
  if st = 3 then
    let s := wipeTables (wiped (wipeMem s (fun a => inKeyStore a || inUserArea a)) 2688)
    s.setF Reg.LCS_OTP_KEYS 7 4 (s.fld Reg.LCS_OTP_KEYS 7 4 ||| s.fld Reg.LCS_OTP_KEYS 3 0)
  else if st = 4 then
    let s := wipeTables (wiped (wipeMem s (fun a => inKeyStore a || inUserArea a || inConsist a || inRootRing a)) 5252)
    { s with lcs := { s.lcs with staffs := [] } }
  else s

/-- The wipe time in ms that LC_TRANSIT_DONE carries: 2 ms a round of 16 sectors (R369). -/
def wipeMs (st : Nat) : Nat := if st = 3 then 336 else if st = 4 then 658 else 0

/-- The ROM's life-cycle part at a start (R368, R369, R372, R379): the copies decided, a transit rolled
forward, LCS_STATE, MREG_4. `powerUp` tells a power-up, at which the debug level is fixed.
DEDUCED (log entry 61). -/
def lcStartup (s : State) (powerUp : Bool) : State :=
  let w := (decidedCopy s.lcs.copies).getD (codeword 0 0xF0)
  let transit := decide (9 ≤ stateOfWord w)
  let s := programCopies s w
  let fin := if transit then finalWord w else w
  let st := stateOfWord fin
  let gen := genOfStep ((stepOf fin).getD 0)
  let s := if transit then wipeFor s st else s
  let s := if transit then programCopies s fin else s
  let pend := if st = 3 ∧ powerUp = true then pendingLevel s else none
  let level := if powerUp ∨ transit then levelOf st (pend.map Prod.fst) else debugLevel s
  let s := setLcState s st gen level
  let s := s.fwLog Ev.LC_STATE 0 ((s.lcs.copies.flatMap (fun c => leBytes 8 c)) ++ leBytes 1 st)
  let s := if transit then
      s.fwLog Ev.LC_TRANSIT_DONE 0 (leBytes 1 st ++ leBytes 1 gen ++ leBytes 4 (wipeMs st))
    else s
  let s := match pend with
    | some p => s.fwLog Ev.DEBUG_LEVEL 0 (leBytes 1 p.1 ++ leBytes 4 p.2)
    | none => s
  let counter := (s.lcs.staffs.map (fun e => e.counter)).foldl max 0
  s.wr Reg.LCS_STAFF_COUNT (BitVec.ofNat 32 counter)

/-- MREG_4 extended once with the life-cycle word and locked with MREG_0 (R306, R372). -/
def lcMeasure (s : State) : State :=
  let s := mregExtend s 4 (lcWord s)
  (s.fwL Reg.ATT_MREG_LOCK 4 4 1).fwL Reg.ATT_MREG_LOCK 0 0 1

/-! ### Tickets (R376) -/

/-- The ticket in a slot. -/
def ticketAt (s : State) (i : Nat) : Option Ticket := Sparse.get (fun _ => none) s.lcs.tickets i

/-- A ticket slot filled or emptied with its registers. -/
def setTicket (s : State) (i : Nat) (t : Option Ticket) (value scope origin : Nat) : State :=
  let s := { s with lcs := { s.lcs with tickets := Sparse.set (fun _ => none) s.lcs.tickets i t } }
  (s.wr (Reg.LCS_TICKET i) (BitVec.ofNat 32 value)).wr (Reg.LCS_TICKET_INFO i)
    (BitVec.ofNat 32 (if t.isSome then scope + origin * 2 ^ 6 + 2 ^ 12 else 0))

/-- The slot of a ticket that is valid for a requester with a scope bit (R376). -/
def validTicket (s : State) (q : Sender) (t : Word) (scope : Nat) : Option Nat :=
  match ticketSlot s t.toNat with
  | some i =>
    if s.fld (Reg.LCS_TICKET_INFO i) 11 6 = q.origin.code ∧ s.bit (Reg.LCS_TICKET_INFO i) scope = true
    then some i else none
  | none => none

/-- A ticket consumed by the first request that names it (R376). -/
def useTicket (s : State) (i code : Nat) : State :=
  let v := (s.rd (Reg.LCS_TICKET i)).toNat
  (setTicket s i none 0 0 0).fwLog Ev.TICKET_USED 0 (leBytes 4 v ++ leBytes 1 code)

/-- Every ticket and the nonce cleared by a signal-box reset (R376). -/
def clearTickets (s : State) : State :=
  let s := (List.range 4).foldl (fun s i => setTicket s i none 0 0 0) s
  ({ s with lcs := { s.lcs with nonce := none } } : State).wr Reg.LCS_NONCE_STAT 0

/-! ### Staffs (R374, R375) -/

/-- A signature entry (R174): type, signer, key index, content. -/
structure SigEntry where
  ty : Nat
  signer : Nat
  index : Nat
  content : List Byte
deriving DecidableEq, Repr

/-- Signature entries, each padded to a multiple of 8 bytes. -/
def sigEntries : Nat → List Byte → List SigEntry
  | 0, _ => []
  | fuel + 1, bs =>
    if bs.length < 8 then []
    else
      let len := leAt bs 4 4
      if bs.length < 8 + len then []
      else ⟨leAt bs 0 1, leAt bs 1 1, leAt bs 2 1, (bs.drop 8).take len⟩ ::
        sigEntries fuel (bs.drop (8 + (len + 7) / 8 * 8))

/-- A key hash in OTP: `signer` 0 Vellisen, 1 owner. -/
def otpKey (s : State) (signer i : Nat) : List Byte :=
  if signer = 0 then s.rdBytes (Reg.OTP_VKEY i 0) 12 else s.rdBytes (Reg.OTP_OKEY i 0) 12

/-- Whether a key slot is programmed and not revoked (R373). -/
def keyUsable (s : State) (signer i : Nat) : Bool :=
  if signer = 0 then s.bit Reg.LCS_OTP_KEYS (8 + i)
  else s.bit Reg.LCS_OTP_KEYS i && !s.bit Reg.LCS_OTP_KEYS (4 + i)

/-- Whether the current state accepts a signer (R365). -/
def signerOk (s : State) (signer : Nat) : Bool :=
  match lcState s with
  | 1 => decide (signer ≤ 1)
  | 2 => signer == 1
  | 3 => decide (signer ≤ 1)
  | 4 => decide (signer ≤ 1)
  | _ => false

/-- The public keys of a key block with the signature type each verifies (R171, R174): a Vellisen block
holds the LMS key then the ECDSA key, an owner block the ECDSA key then the ML-DSA key. -/
def blockKeys (signer : Nat) (b : List Byte) : List (Nat × List Byte) :=
  if signer = 0 then [(3, b.take (b.length - 97)), (1, b.drop (b.length - 97))]
  else [(1, b.take 97), (2, b.drop 97)].filter (fun p => p.2.any (· != 0))

/-- The scheme number of `verifySig` for a signature type: 1 ECDSA, 2 ML-DSA, 3 LMS. -/
def sigValid (key message sig : List Byte) (ty : Nat) : Bool :=
  verifySig ty key (if ty = 1 then (sha384 message) else message) sig

/-- The first check of R375 that a staff fails. -/
def staffFault (s : State) (staff : List Byte) : Option Nat :=
  let h := staff.take 128
  let scope := leAt h 6 2
  let signer := leAt h 8 1
  let idx := leAt h 9 1
  let es := sigEntries 8 (staff.drop 128)
  let block := (es.find? (fun e => e.ty == 0x10 + signer && e.index == idx)).map (fun e => e.content)
  let blk := block.getD []
  if leAt h 0 4 ≠ 0x53544146 ∨ leAt h 4 2 ≠ 1 ∨ scope = 0 ∨ 64 ≤ scope ∨ h.length < 128 ∨
     (h.drop 68).any (· != 0) = true ∨ (bitOf scope 2 = false ∧ leAt h 10 1 ≠ 0) ∨
     (bitOf scope 1 = false ∧ leAt h 11 1 ≠ 0) ∨ (bitOf scope 4 = false ∧ leAt h 12 4 ≠ 0) ∨ 16384 < staff.length
  then some 1
  else if (h.drop 16).take 16 ≠ s.rdBytes (Reg.LCS_SERIAL 0) 4 then some 2
  else if some ((h.drop 32).take 32) ≠ s.lcs.nonce then some 3
  else if leAt h 64 4 < s.pcc then some 4
  else if signerOk s signer = false then some 5
  else if block = none ∨ 3 < idx ∨ (sha384 blk) ≠ otpKey s signer idx ∨
      keyUsable s signer idx = false then some 6
  else
    let keys := blockKeys signer blk
    let present := keys.all (fun k => es.any (fun e => e.ty == k.1))
    let valid (e : SigEntry) : Bool := keys.any (fun k =>
      e.ty == k.1 && e.signer == signer && e.index == idx && sigValid k.2 h e.content e.ty)
    if present = true ∧ es.all (fun e => 0x10 ≤ e.ty || valid e) = true then none else some 7

/-- A staff accepted (R375, R376): nonce consumed, counter, anti-replay entry, ticket. A fifth ticket
retires the oldest. The anti-replay region holds 128 entries; when it is full the newest is kept (R377).
DEDUCED (log entry 61). -/
def acceptStaff (s : State) (q : Sender) (staff : List Byte) : State :=
  let h := staff.take 128
  let n := (s.rd Reg.LCS_STAFF_COUNT).toNat + 1
  let dig := ((sha384 h)).take 28
  let scope := leAt h 6 2
  let e : StaffEntry := ⟨n, scope, leAt h 8 1, leAt h 9 1, s.pcc, s.ot, 0, dig, leAt h 64 4⟩
  let t : Ticket := ⟨leAt h 8 1, leAt h 9 1, leAt h 10 1, leAt h 11 1, leAt h 12 4, dig⟩
  let kept := if 128 ≤ s.lcs.staffs.length then s.lcs.staffs.drop (s.lcs.staffs.length - 1) else s.lcs.staffs
  let s := { s with lcs := { s.lcs with nonce := none, staffs := kept ++ [e] } }
  let s := (s.wr Reg.LCS_NONCE_STAT 0).wr Reg.LCS_STAFF_COUNT (BitVec.ofNat 32 n)
  let free := (List.range 4).find? (fun i => !s.bit (Reg.LCS_TICKET_INFO i) 12)
  let oldest := (List.range 4).foldl (fun m i =>
    if (s.rd (Reg.LCS_TICKET i)).toNat < (s.rd (Reg.LCS_TICKET m)).toNat then i else m) 0
  let s := setTicket s (free.getD oldest) (some t) n scope q.origin.code
  s.fwLog Ev.STAFF_ACCEPTED 0 (leBytes 4 n ++ leBytes 2 scope ++ leBytes 1 t.signer ++ leBytes 1 t.key)

/-! ### Memory tests (R380) -/

/-- The memory that a test target names: first address and length (R380, R404, R147). -/
def mtmTarget (t addr : Nat) : Option (Nat × Nat) :=
  if t < 12 then some (0x02000000 + t * 0x100000, 0x100000)
  else if 16 ≤ t ∧ t < 32 then some (0x04000000 + (t - 16) * 0x100000, 0x100000)
  else if 32 ≤ t ∧ t < 48 then some (0x08000000 + (t - 32) * 0x200000, 0x200000)
  else if t = 48 then some (0x10000000 + addr / 2048 * 2048 % 0x1000000, 2048)
  else none

/-- The contents of a target destroyed: its bytes are free values.
DEDUCED (log entry 63). -/
def scramble (s : State) (base len : Nat) : State :=
  { s with freeCtr := s.freeCtr + 1 }.wrMemN base ((List.range len).map (fun i => Config.envmByte (base + i) s.freeCtr))

/-- Whether the part is provisioned for TEST (R369): device secret, serial, a Vellisen key. -/
def provisioned (s : State) : Bool :=
  Config.uds.any (· != 0xFF) && (s.rdBytes (Reg.LCS_SERIAL 0) 4).any (· != 0xFF) && s.fld Reg.LCS_OTP_KEYS 11 8 != 0

/-- Steps 1 and 2 of a transition into state `st` (R366, R367): the transition record, the transit codeword in the
copies. The reset of step 3 follows as a command of its own.
DEDUCED (log entry 63). -/
def transitBegin (s : State) (o : Origin) (st ticket : Nat) (digest : List Byte) : State :=
  let w := (decidedCopy s.lcs.copies).getD (codeword 0 0xF0)
  let k := (stepOf w).getD 0
  let r : TransRec := ⟨k, st, if st = 2 then lcGen s + 1 else lcGen s, ticket, s.pcc, s.ot, digest⟩
  let s := { s with lcs := { s.lcs with trans := s.lcs.trans ++ [r] } }
  let s := s.log Ev.LC_TRANSIT_BEGIN o 0 (leBytes 1 k ++ leBytes 1 st ++ leBytes 4 ticket)
  let t := if st = 4 then codeword k 0xF0 else codeword (k + 1) 0xFF
  syncForced ((programCopies s t).setL o Reg.LCS_STATE 3 0 (stateOfWord t)) 2

/-- A write of MTM_CTL with go = 1 (R369, R380): after the key, a memory test starts or BLANK is left; without it
locked_out is set.
DEDUCED (log entry 63). -/
def mtmGo (s : State) (test target : Nat) : State :=
  if s.lcs.mtmKey = false then s.setBit Reg.MTM_STAT 3 true
  else
    let s := { s with lcs := { s.lcs with mtmKey := false } }
    if test = 8 then (if lcState s = 0 ∧ provisioned s = true then transitBegin s .debug 1 0 (List.replicate 28 0) else s)
    else if test = 9 then (if lcState s = 0 then transitBegin s .debug 4 0 (List.replicate 28 0) else s)
    else if s.lcs.mtm.isSome ∨ 4 < test ∨ mtmTarget target 0 = none then s
    else ({ s with lcs := { s.lcs with mtm := some (test, target) } } : State).setBit Reg.MTM_STAT 0 true

/-- A memory test completes (R380).
DEDUCED (log entry 63). -/
def mtmEnd (s : State) (fail : Bool) (addr : Nat) : State :=
  match s.lcs.mtm with
  | none => s
  | some (test, target) =>
    let s := match mtmTarget target (s.rd Reg.MTM_ADDR).toNat with
      | some r => scramble s r.1 r.2
      | none => s
    let s := { s with lcs := { s.lcs with mtm := none } }
    let s := (s.setBit Reg.MTM_STAT 0 false).setBit Reg.MTM_STAT 1 true
    let s := if fail then (s.setBit Reg.MTM_STAT 2 true).wr Reg.MTM_FAIL_ADDR (BitVec.ofNat 32 addr) else s
    s.log Ev.MTM_RUN .debug 0 (leBytes 1 test ++ leBytes 1 target ++ leBytes 1 (b2n fail))

end Sys2Proof.Machine
end

