-- ==== Sys2Proof/Machine/Consist.lean ====
section
/-! DEFINITION. What signal-box firmware reads in the controller's own images and in a Consist: manifests and their
signatures (R164, R174-R176), section records (R108-R111, R139), and the checks of a Consist (R170-R173, R203). -/

namespace Sys2Proof.Machine

/-! ### Manifests (R174) -/

/-- Whether every byte of a string is 0. -/
def allZero (bs : List Byte) : Bool := bs.all (· == 0)

/-- The bytes that signature entries fill: each 8 and its content, padded to a multiple of 8. -/
def sigSpan (es : List SigEntry) : Nat := (es.map (fun e => 8 + (e.content.length + 7) / 8 * 8)).sum

/-- The total length that a manifest header gives. -/
def manTotal (m : List Byte) : Nat := leAt m 24 4

/-- The signature entries of a manifest. -/
def manSigs (m : List Byte) : List SigEntry := sigEntries (leAt m 7 1) ((m.take (manTotal m)).drop 128)

/-- Whether a manifest is well formed (R174). -/
def manOk (m : List Byte) : Bool :=
  let es := manSigs m
  leAt m 0 4 == 0x544E464D && leAt m 4 2 == 1 && decide (1 ≤ leAt m 7 1 ∧ leAt m 7 1 ≤ 4) &&
    decide (1 ≤ leAt m 16 4) && (leAt m 20 1 == 1 || leAt m 20 1 == 2) && allZero ((m.drop 21).take 3) &&
    allZero ((m.drop 28).take 4) && allZero ((m.drop 96).take 32) &&
    (leAt m 20 1 == 2 || allZero ((m.drop 80).take 16)) && decide (manTotal m ≤ 16384 ∧ manTotal m ≤ m.length) &&
    es.length == leAt m 7 1 && manTotal m == 128 + sigSpan es

/-- The fields of a manifest header. -/
def manComp (m : List Byte) : Nat := leAt m 6 1
def manSvn (m : List Byte) : Nat := leAt m 8 4
def manBuild (m : List Byte) : Nat := leAt m 12 4
def manLen (m : List Byte) : Nat := leAt m 16 4

/-- The Examiner's algorithm of an image digest: 2 SHA-384, 3 SHA-512. -/
def manAlg (m : List Byte) : Nat := leAt m 20 1 + 1

/-- The image digest of a manifest. -/
def manDigest (m : List Byte) : List Byte := (m.drop 32).take (if leAt m 20 1 = 2 then 64 else 48)

/-- The manifest digest (R175). -/
def manMd (m : List Byte) : List Byte := sha384 (m.take 128)

/-- The key block that a manifest carries for a signer's key index, where its digest is the OTP hash and the key is usable
(R164, R174, R373). -/
def keyBlock (s : State) (es : List SigEntry) (signer i : Nat) : Option (List Byte) :=
  match es.find? (fun e => e.ty == 0x10 + signer && e.index == i) with
  | some e => if i < 4 ∧ sha384 e.content = otpKey s signer i ∧ keyUsable s signer i = true then some e.content else none
  | none => none

/-- Whether signature entry `e` verifies over a manifest with a key block that it carries. -/
def blockSigOk (s : State) (m : List Byte) (es : List SigEntry) (e : SigEntry) : Bool :=
  match keyBlock s es e.signer e.index with
  | some b => (blockKeys e.signer b).any (fun k => k.1 == e.ty && sigValid k.2 (m.take 128) e.content e.ty)
  | none => false

/-- The owner_cosign policy in force: in TEST it is not applied (R164, R365). -/
def cosignDue (s : State) : Bool := s.bit Reg.LCS_OTP_KEYS 12 && lcState s != 1

/-- Whether a stage manifest carries every signature it must, and each that it carries verifies (R164). -/
def stageSigsOk (s : State) (m : List Byte) : Bool :=
  let es := manSigs m
  let sigs := es.filter (fun e => decide (e.ty < 0x10))
  sigs.all (blockSigOk s m es) && sigs.any (fun e => e.ty == 3 && e.signer == 0) &&
    sigs.any (fun e => e.ty == 1 && e.signer == 0) && (!cosignDue s || sigs.any (fun e => e.signer == 1))

/-- Why a manifest of stage `n` makes its slot no candidate, by the causes of the slot failure table (R164); none for a
candidate. -/
def stageCause (s : State) (n : Nat) (m : List Byte) : Option Nat :=
  if manOk m = false then some 1
  else if manComp m ≠ 0xFF - n then some 2
  else if stageSigsOk s m = false then some 3
  else if manSvn m < (s.rd (Reg.RTB_MINVER (n - 1))).toNat then some 4
  else if (if n = 1 then 384 else 640) * 1024 < manLen m then some 6
  else none

/-! ### Keys and policy of a Consist (R171) -/

/-- The entry of image key `i` in the image key table. -/
def imageKey (r : Reader) (i : Nat) : Option (List Byte) :=
  ((List.range (srcLe r 19 1)).map (fun k => r (srcLe r 32 4 + 2704 * k) 2704)).find? (fun e => leAt e 0 1 == i)

/-- The public key of image key entry `e` for a signature type. -/
def imagePublic (e : List Byte) (ty : Nat) : List Byte := if ty = 1 then (e.drop 8).take 97 else (e.drop 105).take 2592

/-- Whether a component manifest's signature entry verifies under an image key of the Consist that holds its algorithm. -/
def imageSigOk (r : Reader) (m : List Byte) (e : SigEntry) : Bool :=
  e.signer == 2 && (e.ty == 1 || e.ty == 2) && match imageKey r e.index with
    | some k => bitOf (leAt k 1 1) (e.ty - 1) && sigValid (imagePublic k e.ty) (m.take 128) e.content e.ty
    | none => false

/-- Whether a component manifest carries every algorithm that the Consist's policy requires, and all it carries verify
(R174). -/
def imageSigsOk (r : Reader) (m : List Byte) : Bool :=
  let es := manSigs m
  let policy := srcLe r 48 1
  es.all (imageSigOk r m) && (!bitOf policy 0 || es.any (fun e => e.ty == 1)) && (!bitOf policy 1 || es.any (fun e => e.ty == 2))

/-- The owner key block of a Consist. -/
def ownerBlock (r : Reader) : List Byte := r (srcLe r 44 4) 2689

/-- Whether a Consist's signature block verifies under its policy with the owner key it names (R170, R171). -/
def consistSigsOk (s : State) (r : Reader) : Bool :=
  let total := srcLe r 12 4
  let i := srcLe r 49 1
  let policy := srcLe r 48 1
  let es := sigEntries 4 (r total 8192)
  let sigs := es.filter (fun e => e.ty == 1 || e.ty == 2)
  let keys := blockKeys 1 (ownerBlock r)
  decide (i < 4) && sha384 (ownerBlock r) == otpKey s 1 i && keyUsable s 1 i &&
    sigs.all (fun e => e.signer == 1 && e.index == i &&
      keys.any (fun k => k.1 == e.ty && sigValid k.2 (r 0 total) e.content e.ty)) &&
    (!bitOf policy 0 || sigs.any (fun e => e.ty == 1)) && (!bitOf policy 1 || sigs.any (fun e => e.ty == 2))

/-! ### Section and region records (R108, R109) -/

/-- The offsets of the section records of a Consist. -/
def sectionOffsets (r : Reader) : List Nat := (List.range (srcLe r 17 1)).map (fun i => srcLe r (srcLe r 24 4 + 4 * i) 4)

/-- A region record (R109). -/
structure RegionRec where
  cls : Nat
  binding : Nat
  comp : Nat
  flags : Nat
  off : Nat
  baseA : Nat
  baseB : Nat
  len : Nat
  resp : Nat
deriving DecidableEq, Repr

/-- The region record in 32 bytes. -/
def regionRecOf (b : List Byte) : RegionRec :=
  ⟨leAt b 0 1, leAt b 1 1, leAt b 2 1, leAt b 3 1, leAt b 4 4, leAt b 8 4, leAt b 12 4, leAt b 16 4, leAt b 20 1⟩

/-- A section record (R108). -/
structure SectionRec where
  sec : Nat
  profile : Nat
  flags : Nat
  denyFill : Nat
  pollUs : Nat
  ops : List Nat
  progUs : Nat
  eraseMs : Nat
  status : List Nat
  progOff : Nat
  progLen : Nat
  regions : List RegionRec
deriving DecidableEq, Repr

/-- The section record at offset `o`: its opcodes are EN4B, EX4B, WREAR, WREN, WRDI and CLRFAIL, in this order. -/
def sectionRec (r : Reader) (o : Nat) : SectionRec :=
  { sec := srcLe r (o + 6) 1, profile := srcLe r (o + 8) 2, flags := srcLe r (o + 10) 1, denyFill := srcLe r (o + 11) 1
    pollUs := srcLe r (o + 12) 1, ops := (List.range 6).map (fun i => srcLe r (o + 13 + i) 1)
    progUs := srcLe r (o + 20) 2, eraseMs := srcLe r (o + 22) 2
    status := (List.range 4).map (fun i => srcLe r (o + 24 + 4 * i) 4)
    progOff := srcLe r (o + 40) 4, progLen := srcLe r (o + 44) 4
    regions := (List.range (srcLe r (o + 7) 1)).map (fun i => regionRecOf (r (o + 112 + 32 * i) 32)) }

/-- The section record of section `n`. -/
def sectionOf (r : Reader) (n : Nat) : Option SectionRec :=
  ((sectionOffsets r).map (sectionRec r)).find? (fun x => x.sec == n)

/-- The flash profile record of number `k` (R101). -/
def profileOf (r : Reader) (k : Nat) : Option (List Byte) :=
  ((List.range (srcLe r 18 1)).map (fun i => r (srcLe r 28 4 + 512 * i) 512)).find? (fun p => leAt p 6 2 == k)

/-- A region record resolved for the active slot `x` of its component (R110): 0 A, 1 B, 2 V. None where it is absent. -/
def resolveRegion (x i : Nat) (g : RegionRec) : Option Region :=
  let w := bitOf g.flags 0
  match g.binding with
  | 0 => some ⟨g.baseA, g.len, g.cls, w, i, g.comp, g.resp⟩
  | 1 =>
    if x = 2 then some ⟨g.baseA + g.off, g.len, 2, false, i, g.comp, 0⟩
    else some ⟨(if x = 0 then g.baseA else g.baseB) + g.off, g.len, g.cls, w, i, g.comp, g.resp⟩
  | _ => if x = 2 then none else some ⟨(if x = 0 then g.baseB else g.baseA) + g.off, g.len, 0, w, i, g.comp, 0⟩

/-- The resolved table of a section for slot `x`. -/
def resolveSection (x : Nat) (k : SectionRec) : List Region :=
  ((List.range k.regions.length).zip k.regions).filterMap (fun p => resolveRegion x p.1 p.2)

/-- A resolved table in the layout of R132. -/
def tableBytes (rs : List Region) : List Byte :=
  rs.flatMap (fun g => leBytes 4 g.start ++ leBytes 4 g.len ++ leBytes 1 g.cls ++ leBytes 1 (b2n g.writable) ++
    leBytes 1 g.index ++ leBytes 1 g.comp ++ leBytes 1 g.resp ++ [0, 0, 0])

/-! ### The checks of a Consist (R173) -/

/-- The first index of a list whose element fails. -/
def failsAt {α : Type} (l : List α) (ok : Nat → α → Bool) : Option Nat :=
  (((List.range l.length).zip l).find? (fun p => !ok p.1 p.2)).map Prod.fst

/-- Whether `n` bytes at `off` lie within the total length. -/
def liesWithin (r : Reader) (off n : Nat) : Bool := decide (off + n ≤ srcLe r 12 4)

/-- Check 1: the header and the extent of every part. -/
def consistForm (r : Reader) : Bool :=
  srcLe r 0 4 == 0x54534E43 && srcLe r 4 2 == 1 && srcLe r 6 2 == 256 && decide (srcLe r 12 4 ≤ 4 * 1024 * 1024 - 24 * 1024) &&
    decide (1 ≤ srcLe r 16 1 ∧ srcLe r 16 1 ≤ 64 ∧ srcLe r 17 1 ≤ 32 ∧ srcLe r 18 1 ≤ 32 ∧ 1 ≤ srcLe r 19 1 ∧ srcLe r 19 1 ≤ 8) &&
    decide (1 ≤ srcLe r 48 1 ∧ srcLe r 48 1 ≤ 3 ∧ srcLe r 49 1 ≤ 3) && srcLe r 50 2 == 0 && allZero (r 68 188) &&
    liesWithin r 0 256 && liesWithin r (srcLe r 20 4) (128 * srcLe r 16 1 + 384) && liesWithin r (srcLe r 24 4) (4 * srcLe r 17 1) &&
    liesWithin r (srcLe r 28 4) (512 * srcLe r 18 1) && liesWithin r (srcLe r 32 4) (2704 * srcLe r 19 1) &&
    (srcLe r 36 4 == 0 || liesWithin r (srcLe r 36 4) (srcLe r 40 4)) && liesWithin r (srcLe r 44 4) 2689 &&
    (sectionOffsets r).all (fun o => liesWithin r o 112 && liesWithin r o (112 + 32 * srcLe r (o + 7) 1)) &&
    (List.range (srcLe r 19 1)).all (fun i =>
      let k := r (srcLe r 32 4 + 2704 * i) 2704
      decide (leAt k 0 1 ≤ 7 ∧ leAt k 1 1 ≤ 3) && allZero ((k.drop 2).take 6) && allZero (k.drop 2697))

/-- Check 3: component numbers and image counts, and what R172 gives the entries' other fields. -/
def compFormOk (r : Reader) (i : Nat) : Bool :=
  let b := r (srcLe r 20 4 + 128 * i) 128
  let n := leAt b 1 1
  decide (leAt b 0 1 ≤ 63 ∧ 1 ≤ n ∧ n ≤ 4 ∧ leAt b 2 1 < 8) && leAt b 18 2 == 0 &&
    ((List.range i).all (fun k => srcLe r (srcLe r 20 4 + 128 * k) 1 != leAt b 0 1)) &&
    (List.range 4).all (fun k =>
      let d := (b.drop (32 + 24 * k)).take 24
      if k < n then leAt d 1 1 == 0 && leAt d 20 4 == 0 && leAt d 12 4 % 4096 == 0 && leAt d 16 4 % 4096 == 0
      else allZero d)

/-- Check 4 of component `i`. -/
def compSectionsOk (r : Reader) (es : List CompEntry) (i : Nat) (e : CompEntry) : Bool :=
  e.sections.all (fun n => (es.take i).all (fun f => !f.sections.contains n) &&
    match sectionOf r n with
    | some k => (profileOf r k.profile).isSome
    | none => false)

/-- Check 5 of component `i`. -/
def compLinesOk (es : List CompEntry) (i : Nat) (e : CompEntry) : Bool :=
  (es.take i).all (fun f => e.holds.all (fun l => !f.holds.contains l) && e.reports.all (fun l => !f.reports.contains l))

/-- Check 6 of one component: the levels leave no cycle. -/
def compLevelOk (es : List CompEntry) (e : CompEntry) : Bool :=
  let ps := (List.range 64).filter (bitOf e.prereq)
  let qs := es.filter (fun f => ps.contains f.num)
  ps.all (fun p => es.any (fun f => f.num == p)) && decide (e.level ≤ 7) &&
    e.level == (if ps.isEmpty then 0 else 1 + (qs.map (fun f => f.level)).foldl max 0)

/-- The slots of a section's images as base and size. -/
def imageSlots (es : List CompEntry) (n : Nat) : List (Nat × Nat) :=
  (es.flatMap (fun e => e.images)).filter (fun i => i.sec == n) |>.flatMap (fun i => [(i.slotA, i.size), (i.slotB, i.size)])

/-- Whether a range lies on one chip select of a profile (R99). -/
def onOneSelect (p : List Byte) (a len : Nat) : Bool :=
  let base := leAt p 20 4
  if bitOf (leAt p 15 1) 1 = true ∧ base ≤ a then decide (a + len ≤ base + 2 ^ leAt p 17 1)
  else decide (a + len ≤ 2 ^ leAt p 16 1) && (!bitOf (leAt p 15 1) 1 || decide (a + len ≤ base))

/-- Check 7 of one image: its slots, and the manifest area within them. -/
def slotsOk (r : Reader) (es : List CompEntry) (i : Image) : Bool :=
  let all := imageSlots es i.sec
  decide (i.manifest + 16384 ≤ i.size) && [i.slotA, i.slotB].all (fun a =>
    decide ((all.filter (fun q => overlaps a i.size q.1 q.2)).length = 1) &&
      match sectionOf r i.sec with
      | some k => (match profileOf r k.profile with
        | some p => onOneSelect p a i.size
        | none => false)
      | none => false)

/-- Check 8 of one section record: bound regions name their descriptor's slots. -/
def boundOk (es : List CompEntry) (k : SectionRec) : Bool :=
  k.regions.all (fun g => g.binding == 0 || es.any (fun e => e.num == g.comp &&
    e.images.any (fun i => i.sec == k.sec && i.slotA == g.baseA && i.slotB == g.baseB)))

/-- A profile record as section 0's, for the checks of R102; its own bank voltage stands for the bank's. -/
def profileState (s : State) (p : List Byte) : State :=
  (s.wrBytes (Reg.SEC_PROFILE 0 0) 128 p).setBit (Reg.SEC_PORT_STAT 0) 5 (leAt p 11 1 == 1)

/-- The opcode entries of a profile record. -/
def profileOps (p : List Byte) : List OpEntry :=
  (List.range (min (leAt p 27 1) 48)).map (fun i =>
    ⟨leAt p (64 + 8 * i) 1, leAt p (65 + 8 * i) 1, leAt p (66 + 8 * i) 4, leAt p (70 + 8 * i) 1, leAt p (71 + 8 * i) 1⟩)

/-- Whether a region record is well formed (R109, R111, R139); `b` are its bytes. -/
def regionOk (b : List Byte) (g : RegionRec) : Bool :=
  decide (g.cls ≤ 2 ∧ g.binding ≤ 2 ∧ g.flags ≤ 1 ∧ g.resp ≤ 2) && g.len % 4096 == 0 && g.len != 0 && allZero (b.drop 21) &&
    (g.binding != 0 || (g.comp == 0xFF && g.off == 0 && g.baseB == 0 && g.cls == 0)) && (g.binding == 0 || decide (g.comp ≤ 63)) &&
    (g.binding != 2 || g.cls == 0) && (g.cls == 0 || g.flags == 0) && (g.cls == 1 || g.resp == 0)

/-- Whether a section record passes R111, R108 and R139, with the profile it names. -/
def sectionOk (r : Reader) (o : Nat) : Bool :=
  let k := sectionRec r o
  match profileOf r k.profile with
  | none => false
  | some p =>
    let ops := profileOps p
    let used := k.status.filter (fun w => w % 256 != 0)
    srcLe r o 4 == 0x53454352 && srcLe r (o + 4) 2 == 1 &&
      decide (k.sec ≤ 31 ∧ srcLe r (o + 7) 1 ≤ 64 ∧ k.flags < 8 ∧ 1 ≤ k.pollUs ∧ 1 ≤ k.progUs ∧ 1 ≤ k.eraseMs) &&
      srcLe r (o + 19) 1 == 0 && allZero (r (o + 96) 16) && k.ops.all (fun c => c == 0 || ops.any (fun e => e.opcode == c)) &&
      used.all (fun w => bitsOf w 31 25 == 0 && ops.any (fun e => e.opcode == w % 256 && kindOf e.desc == 2)) &&
      k.status.all (fun w => w % 256 != 0 || w == 0) && decide ((used.filter (fun w => bitOf w 24)).length = 1) &&
      liesWithin r k.progOff k.progLen && sha384 (r k.progOff k.progLen) == r (o + 48) 48 &&
      (List.range k.regions.length).all (fun i => (k.regions[i]?).any (regionOk (r (o + 112 + 32 * i) 32))) &&
      [0, 1, 2].all (fun x =>
        let t := resolveSection x k
        (List.range t.length).all (fun i => (t.drop (i + 1)).all (fun q =>
          (t[i]?).any (fun g => !overlaps g.start g.len q.start q.len))))

/-- The recovery table entries of a Consist (R203), 32 bytes each. -/
def recoveryEntries (r : Reader) : List (List Byte) :=
  if srcLe r 36 4 = 0 then [] else (List.range (srcLe r 40 4 / 32)).map (fun i => r (srcLe r 36 4 + 32 * i) 32)

/-- A V-port copy as chip select, base and length. -/
def copyOf (b : List Byte) : Nat × Nat × Nat := (leAt b 3 1, leAt b 4 4, leAt b 8 4)

/-- Whether recovery entry `i` stands (R203): `cap` is the capacity of each V-port chip select. -/
def recoveryOk (es : List CompEntry) (cap : Nat → Nat) (bs : List (List Byte)) (i : Nat) (b : List Byte) : Bool :=
  let c := copyOf b
  decide (leAt b 0 1 ≤ 63 ∧ leAt b 1 1 ≤ 3 ∧ leAt b 2 1 < 8 ∧ c.1 ≤ 1) && allZero (b.drop 12) && decide (c.2.1 + c.2.2 ≤ cap c.1) &&
    (bs.take i).all (fun q => (copyOf q).1 != c.1 || !overlaps c.2.1 c.2.2 (copyOf q).2.1 (copyOf q).2.2) &&
    es.all (fun e => (List.range e.images.length).all (fun k => (e.images[k]?).all (fun m =>
      m.recovery != i || (e.num == leAt b 0 1 && k == leAt b 1 1 && m.size == c.2.2))))

/-- The capacity of a V-port chip select, by its profile (R106). -/
def vCapacity (s : State) (cs : Nat) : Nat :=
  if cs = 0 then 2 ^ profByte s 33 16 else if profByte s 33 17 = 0 then 0 else 2 ^ profByte s 33 17

/-- The first check of R173 that a Consist fails, with the index of the entry it fails at (0xFF for none). A recovery entry
that R203 refuses, and a descriptor that names no entry, fail check 11, the number that follows the table's.
DESIGN CHOICE (log entry 100). -/
def consistFault (s : State) (r : Reader) : Option (Nat × Nat) :=
  let es := srcComponents r
  let one (k : Nat) (ok : Bool) : Option (Nat × Nat) := if ok then none else some (k, 0xFF)
  let at_ (k : Nat) (f : Option Nat) : Option (Nat × Nat) := f.map (fun i => (k, i))
  let bs := recoveryEntries r
  let serial := r 52 16
  [fun _ => one 1 (consistForm r),
   fun _ => one 2 (allZero serial || serial == s.rdBytes (Reg.LCS_SERIAL 0) 4),
   fun _ => at_ 3 (failsAt es (fun i _ => compFormOk r i)),
   fun _ => at_ 4 (failsAt es (compSectionsOk r es)),
   fun _ => at_ 5 (failsAt es (compLinesOk es)),
   fun _ => at_ 6 (failsAt es (fun _ => compLevelOk es)),
   fun _ => at_ 7 (failsAt es (fun _ e => e.images.all (slotsOk r es))),
   fun _ => at_ 8 (failsAt (sectionOffsets r) (fun _ o => boundOk es (sectionRec r o))),
   fun _ => at_ 9 (failsAt (sectionOffsets r) (fun _ o => sectionOk r o)),
   fun _ => at_ 9 (failsAt (List.range (srcLe r 18 1)) (fun i _ =>
     (profFault (profileState s (r (srcLe r 28 4 + 512 * i) 512)) 0).isNone)),
   fun _ => one 10 (decide ((es.filter (fun e => bitOf e.flags 0)).length ≤ 1)),
   fun _ => at_ 11 (failsAt bs (recoveryOk es (vCapacity s) bs)),
   fun _ => one 11 (es.all (fun e => e.images.all (fun m => m.recovery == 0xFFFF || decide (m.recovery < bs.length))) &&
     decide ((bs.map (fun b => (copyOf b).2.2)).sum ≤ 512 * 1024 * 1024))].findSome? (fun f => f ())

/-- Why a Consist source is no candidate (R170): the check it fails and an entry index. Check 0 stands for its signatures, and
12 for a version below the minimum; the table numbers neither.
DESIGN CHOICE (log entry 100). -/
def consistCause (s : State) (r : Reader) : Option (Nat × Nat) :=
  if consistForm r = false then some (1, 0xFF)
  else if consistSigsOk s r = false then some (0, 0xFF)
  else match consistFault s r with
    | some f => some f
    | none => if srcLe r 8 4 < (s.rd (Reg.RTB_MINVER 2)).toNat then some (12, 0xFF) else none

end Sys2Proof.Machine
end

