-- ==== Sys2Proof/Machine/LdgOps.lean ====
section
/-! DEFINITION. The ledger unit (R251-R260): digests and layout, buffered pages, authentication, write-back,
record updates, epoch commits and the root ring. -/

namespace Sys2Proof.Machine

/-! ### State and registers -/

/-- LDG_STAT.state: 0 CLOSED, 1 OPENING, 2 OPEN, 3 AUTH_FAIL, 4 HELD, 5 REBUILDING. -/
def ldgState (s : State) : Nat := s.fld Reg.LDG_STAT 2 0

/-- LDG_STAT.state changed by firmware's ledger unit. -/
def setLdgState (s : State) (v : Nat) : State := s.setL .fixity Reg.LDG_STAT 2 0 v

/-- LDG_STAT.committing: an epoch commit is in progress. -/
def ldgCommitting (s : State) : Bool := s.bit Reg.LDG_STAT 4

/-- The committed epoch. -/
def ldgEpoch (s : State) : Nat := s.rd64 Reg.LDG_EPOCH_LO Reg.LDG_EPOCH_HI

/-- The committed root and the working root. -/
def ldgRoot (s : State) : List Byte := s.rdBytes (Reg.LDG_ROOT 0) 8
def ldgWroot (s : State) : List Byte := s.rdBytes (Reg.LDG_WROOT 0) 8

/-- The capacity P in leaf pages (R253). -/
def ldgPages (s : State) : Nat := (s.rd Reg.LDG_PAGES).toNat

/-! ### Digests and layout (R253, R254) -/

/-- A byte string repeated. -/
def copies (n : Nat) (bs : List Byte) : List Byte := (List.replicate n bs).flatten

/-- A leaf page's digest and a node's digest (R254). -/
def leafDigest (page : List Byte) : List Byte := sha256 (0x00 :: page)
def nodeDigest (node : List Byte) : List Byte := sha256 (0x01 :: node)

/-- E_(8 - n), the empty digest `n` levels above the leaves (R254). -/
def emptyAbove : Nat → List Byte
  | 0 => leafDigest (List.replicate 4096 0)
  | n + 1 => nodeDigest (copies 16 (emptyAbove n))

/-- E_k (R254). -/
def emptyDigest (k : Nat) : List Byte := emptyAbove (8 - k)

/-- n_k, the number of nodes at level k for a capacity (R253). -/
def nodeCount (pages k : Nat) : Nat := (pages + 16 ^ (8 - k) - 1) / 16 ^ (8 - k)

/-- The host address of node (k, i) (R253). -/
def nodeAddr (s : State) (k i : Nat) : Nat :=
  s.rd64 Reg.LDG_TREE_BASE_LO Reg.LDG_TREE_BASE_HI +
    512 * (((List.range k).map (nodeCount (ldgPages s))).sum + i)

/-- The host address of leaf page j (R253). -/
def leafAddr (s : State) (j : Nat) : Nat := s.rd64 Reg.LDG_LEAF_BASE_LO Reg.LDG_LEAF_BASE_HI + 4096 * j

/-- Node (k, _) as its content counts: 512 zero bytes stand for 16 copies of E_(k+1) (R254). -/
def normNode (k : Nat) (node : List Byte) : List Byte :=
  if node.all (· == 0) then copies 16 (emptyDigest (k + 1)) else takePad 512 node

/-- The 32-byte slot i of a node. -/
def nodeSlot (node : List Byte) (i : Nat) : List Byte := (node.drop (32 * i)).take 32

/-- The node with slot i replaced. -/
def setSlot (node : List Byte) (i : Nat) (d : List Byte) : List Byte :=
  node.take (32 * i) ++ d ++ node.drop (32 * i + 32)

/-- The index at level k of the node on the path of leaf page j, and the child slot of the path in it. -/
def pathIndex (j k : Nat) : Nat := j / 16 ^ (8 - k)
def pathSlot (j k : Nat) : Nat := j / 16 ^ (7 - k) % 16

/-! ### Waybills (R240) -/

/-- The fields of a waybill. -/
def wbId (w : List Byte) : List Byte := w.take 32
def wbLength (w : List Byte) : Nat := leAt w 32 8
def wbRef (w : List Byte) : Nat := leAt w 48 8
def wbAlgA (w : List Byte) : Nat := leAt w 56 1
def wbAlgB (w : List Byte) : Nat := leAt w 57 1
def wbFlags (w : List Byte) : Nat := leAt w 58 2
def wbCount (w : List Byte) : Nat := leAt w 60 2
def wbGen (w : List Byte) : Nat := leAt w 62 2

/-- The mode: 0 RECORD, 1 LEDGER, 2 INLINE, 3 ENROL. -/
def wbMode (w : List Byte) : Nat := bitsOf (wbFlags w) 1 0
def wbSegmented (w : List Byte) : Bool := bitOf (wbFlags w) 2
def wbSegCompare (w : List Byte) : Bool := bitOf (wbFlags w) 3
def wbNoUpdate (w : List Byte) : Bool := bitOf (wbFlags w) 4

/-- Whether a waybill names a ledger record. -/
def wbLedger (w : List Byte) : Bool := wbMode w == 1 || wbMode w == 3

/-! ### The cache (R255) -/

/-- The cached digest of node (3, i); E_3 where none is listed. -/
def cacheAt (s : State) (i : Nat) : List Byte :=
  ((s.ledger.cache.find? (fun p => p.1 == i)).map Prod.snd).getD (emptyDigest 3)

/-- The digest of the node `d` levels above level 3, from the cache. -/
def cacheDigest (s : State) : Nat → Nat → List Byte
  | 0, i => cacheAt s i
  | d + 1, i => nodeDigest ((List.range 16).flatMap (fun j => cacheDigest s d (16 * i + j)))

/-- LDG_WROOT_k, dirty and the count of changed pages in step with the cache and the buffers. -/
def syncLedger (s : State) : State :=
  let s := s.wrBytes (Reg.LDG_WROOT 0) 8 (cacheDigest s 3 0)
  let n := (s.ledger.pages.filter (fun p => p.changed)).length
  (s.setBit Reg.LDG_STAT 3 (ldgWroot s != ldgRoot s || n != 0)).setF Reg.LDG_STAT 14 8 n

/-! ### Buffered pages (R256) -/

/-- The buffered leaf page j. -/
def pageAt (s : State) (j : Nat) : Option LdgPage := s.ledger.pages.find? (fun p => p.idx == j)

/-- The buffered node (k, i). -/
def nodeAt (s : State) (k i : Nat) : List Byte :=
  ((s.ledger.nodes.find? (fun p => p.1 == (k, i))).map Prod.snd).getD (copies 16 (emptyDigest (k + 1)))

/-- The path nodes that the buffered pages still need. -/
def trimNodes (l : Ledger) : Ledger :=
  { l with nodes := l.nodes.filter (fun n => l.pages.any (fun p => pathIndex p.idx n.1.1 == n.1.2)) }

/-- One level of a write-back: the child's digest put into node (k, ·) on the path of page j, the node
written to host memory, its digest answered. -/
def writeNode (s : State) (j k : Nat) (d : List Byte) : State × List Byte :=
  let i := pathIndex j k
  let node := setSlot (nodeAt s k i) (pathSlot j k) d
  let l := { s.ledger with nodes := s.ledger.nodes.filter (fun p => !(p.1 == (k, i))) ++ [((k, i), node)] }
  (({ s with ledger := l } : State).toHost 0 (nodeAddr s k i) node, nodeDigest node)

/-- Whether an item that an engine holds, or an update that waits, names a record of page j. -/
def pageInUse (s : State) (j : Nat) : Bool :=
  s.ledger.late.any (fun p => p.1 / 32 == j) ||
    s.engines.any (fun p => p.2.item.any (fun i => wbLedger i.wb.bytes && wbRef i.wb.bytes / 32 == j))

/-- A changed page written back (R256): the leaf, the path at levels 7 to 3, the cache, the working root.
The page leaves the buffer, but for one that is in use.
DESIGN CHOICE (log entry 110). -/
def writeBack (s : State) (j : Nat) : State :=
  match pageAt s j with
  | none => s
  | some p =>
    let s := s.toHost 0 (leafAddr s j) p.data
    let r := [7, 6, 5, 4, 3].foldl (fun (r : State × List Byte) k => writeNode r.1 j k r.2) (s, leafDigest p.data)
    let i := pathIndex j 3
    let l := r.1.ledger
    let l := { l with cache := l.cache.filter (fun c => !(c.1 == i)) ++ [(i, r.2)],
                      pages := if pageInUse s j then l.pages.map (fun x => if x.idx = j then { x with changed := false } else x) else l.pages.filter (fun x => !(x.idx == j)) }
    syncLedger (({ r.1 with ledger := trimNodes l } : State).inc Reg.LDG_CNT_UPDATE)

/-- Every changed page written back. -/
def writeBackAll (s : State) : State :=
  ((s.ledger.pages.filter (fun p => p.changed)).map LdgPage.idx).foldl writeBack s

/-- A page taken out of the buffers. -/
def dropPage (s : State) (j : Nat) : State :=
  { s with ledger := trimNodes { s.ledger with pages := s.ledger.pages.filter (fun x => !(x.idx == j)) } }

/-- A buffer made free where all 64 hold pages (R255): the oldest page that is not in use, and else the oldest, is
written back where it has changed, and leaves.
DESIGN CHOICE (log entry 110). -/
def makeRoom (s : State) : State :=
  if s.ledger.pages.length < 64 then s
  else match ((s.ledger.pages.filter (fun p => !pageInUse s p.idx)) ++ s.ledger.pages).head? with
    | none => s
    | some p => dropPage (if p.changed then writeBack s p.idx else s) p.idx

/-- An authenticated page and its path, levels 7 to 3, put into the buffers. -/
def bufferPage (s : State) (j : Nat) (data : List Byte) (path : List (List Byte)) : State :=
  let s := makeRoom s
  let keys := [7, 6, 5, 4, 3].map (fun k => (k, pathIndex j k))
  let l := s.ledger
  let fresh := (keys.zip path).filter (fun n => !(l.nodes.any (fun m => m.1 == n.1)))
  { s with ledger := { l with pages := l.pages ++ [⟨j, data, false⟩],
                              nodes := l.nodes ++ fresh.map (fun n => (n.1, normNode n.1.1 n.2)) } }

/-- The comparisons of R256: the level whose digest differs from its parent's slot (8 for the leaf, 3 for the
node held against the cache), from the leaf upwards. `path` holds the nodes at levels 7 to 3. -/
def authFault (s : State) (j : Nat) (data : List Byte) (path : List (List Byte)) : Option Nat :=
  let node (k : Nat) : List Byte := normNode k (path.getD (7 - k) [])
  let own (k : Nat) : List Byte := if k = 8 then leafDigest (takePad 4096 data) else nodeDigest (node k)
  let parent (k : Nat) : List Byte :=
    if k = 3 then cacheAt s (pathIndex j 3) else nodeSlot (node (k - 1)) (pathSlot j (k - 1))
  [8, 7, 6, 5, 4, 3].find? (fun k => own k != parent k)

/-! ### Records (R251, R252) -/

/-- Record i of a page. -/
def recordIn (page : List Byte) (i : Nat) : List Byte := (page.drop (128 * i)).take 128

/-- The page with record i replaced. -/
def setRecordIn (page : List Byte) (i : Nat) (r : List Byte) : List Byte :=
  page.take (128 * i) ++ takePad 128 r ++ page.drop (128 * i + 128)

/-- The fields of a record. -/
def recId (r : List Byte) : List Byte := r.take 32
def recLength (r : List Byte) : Nat := leAt r 32 8
def recAlgA (r : List Byte) : Nat := leAt r 104 1
def recAlgB (r : List Byte) : Nat := leAt r 105 1
def recFlags (r : List Byte) : Nat := leAt r 122 2
def recInUse (r : List Byte) : Bool := bitOf (recFlags r) 0
def recRetired (r : List Byte) : Bool := bitOf (recFlags r) 2
def recWide (r : List Byte) : Bool := bitOf (recFlags r) 4

/-- A record with a change applied (R252). -/
def RecUpd.apply (u : RecUpd) (r : List Byte) : List Byte :=
  match u with
  | .put b => b
  | .retire => r.take 122 ++ leBytes 2 (recFlags r ||| 4) ++ r.drop 124
  | .audit fail pcc ot =>
    let f := (recFlags r ||| 2) - (if fail then 0 else 2)
    r.take 106 ++ leBytes 4 (min (leAt r 106 4 + 1) 0xFFFFFFFF) ++ leBytes 4 pcc ++ leBytes 6 ot ++
      leBytes 2 0 ++ leBytes 2 f ++ r.drop 124

/-- The buffered record with an index. -/
def ledgerRecord (s : State) (idx : Nat) : Option (List Byte) :=
  (pageAt s (idx / 32)).map (fun p => recordIn p.data (idx % 32))

/-- A change applied to a buffered page. -/
def applyUpd (s : State) (idx : Nat) (u : RecUpd) : State :=
  let change (p : LdgPage) : LdgPage :=
    if p.idx = idx / 32 then
      { p with data := setRecordIn p.data (idx % 32) (u.apply (recordIn p.data (idx % 32))), changed := true }
    else p
  syncLedger { s with ledger := { s.ledger with pages := s.ledger.pages.map change } }

/-- A record update (R252, R258, R259): applied to the buffered page, or it waits while a commit or a hold
freezes updates, or until its page is buffered. -/
def recordUpdate (s : State) (idx : Nat) (u : RecUpd) : State :=
  if ldgState s = 2 ∧ ldgCommitting s = false ∧ (pageAt s (idx / 32)).isSome = true ∧
     s.ledger.late.all (fun p => p.1 != idx) = true
  then applyUpd s idx u
  else { s with ledger := { s.ledger with late := s.ledger.late ++ [(idx, u)] } }

/-- The updates that waited, as far as they can be applied now. -/
def applyLate (s : State) : State :=
  if ldgState s ≠ 2 ∨ ldgCommitting s = true then s
  else
    let ready (p : Nat × RecUpd) : Bool := (pageAt s (p.1 / 32)).isSome
    let go := s.ledger.late.filter ready
    let s' := { s with ledger := { s.ledger with late := s.ledger.late.filter (fun p => !ready p) } }
    go.foldl (fun s p => applyUpd s p.1 p.2) s'

/-! ### Epochs (R258, R259) -/

/-- The root ring in eNVM (R406). -/
def ringBase : Nat := 0x10152000

/-- A root entry (R258). -/
def rootEntry (s : State) (root : List Byte) (epoch pages : Nat) (rebuilt : Bool) : List Byte :=
  let b := takePad 32 root ++ leBytes 8 epoch ++ leBytes 4 s.pcc ++ leBytes 6 s.ot ++ leBytes 1 (b2n rebuilt) ++ [0] ++
    leBytes 4 pages ++ leBytes 4 0
  b ++ leBytes 4 (crc32 b).toNat

/-- Whether a root entry's CRC is correct. -/
def rootEntryOk (e : List Byte) : Bool := e.length == 64 && leAt e 60 4 == (crc32 (e.take 60)).toNat

/-- The effect of an EPOCH action on the commit edge (R66, R258). -/
def applyEpoch (s : State) (payload : List Byte) : State :=
  let e := leAt payload 32 8
  let s := (s.wrBytes (Reg.LDG_ROOT 0) 8 (payload.take 32)).wr64 Reg.LDG_EPOCH_LO Reg.LDG_EPOCH_HI e
  let s := if bitOf (leAt payload 50 1) 0 then s.wr64 Reg.LDG_REBUILT_LO Reg.LDG_REBUILT_HI e else s
  let s := { s with ledger := { s.ledger with cap := leAt payload 52 4 } }
  s.setBit Reg.LDG_STAT 3 (ldgWroot s != ldgRoot s)

/-- The slots of the root ring that hold anything. -/
def ringSlots (s : State) : List Nat :=
  ((s.mem.filter (fun c => inRootRing c.1)).map (fun c => (c.1 - ringBase) / 64)).eraseDups

/-- The entry in a slot of the root ring. -/
def ringEntry (s : State) (i : Nat) : List Byte := s.rdMemN (ringBase + 64 * i) 64

/-- The slot of the entry with the highest epoch and a correct CRC (R259). -/
def ringNewest (s : State) : Option Nat :=
  (ringSlots s).foldl (fun best i =>
    if rootEntryOk (ringEntry s i) then
      match best with
      | none => some i
      | some b => if leAt (ringEntry s b) 32 8 < leAt (ringEntry s i) 32 8 then some i else best
    else best) none

/-- LDG_RING for a slot. -/
def setRing (s : State) (i : Nat) : State := (s.setF Reg.LDG_RING 8 0 (i / 32)).setF Reg.LDG_RING 13 9 (i % 32)

/-- The home write of an EPOCH action (R259): the entry appended; a sector is erased before its first entry. -/
def ringAppend (s : State) (entry : List Byte) : State :=
  let i := match ringNewest s with
    | some n => (n + 1) % 16384
    | none => 0
  let lo := ringBase + i / 32 * 2048
  let s := if i % 32 = 0 then { s with mem := s.mem.filter (fun c => !(inRange c.1 lo 2048)) } else s
  setRing (s.wrMemN (ringBase + 64 * i) entry) i

/-- The committed root at start-up (R259). -/
def ringStart (s : State) : State :=
  match ringNewest s with
  | some i => setRing (applyEpoch s (ringEntry s i)) i
  | none =>
    let s := (s.wrBytes (Reg.LDG_ROOT 0) 8 (emptyDigest 0)).wr64 Reg.LDG_EPOCH_LO Reg.LDG_EPOCH_HI 0
    { s with ledger := { s.ledger with cap := 0 } }

/-- An epoch commit begins (R258): updates are frozen and every changed page is written back. It runs only
where the working root will differ from the committed root; `after` is done once it has ended. What comes while a
commit runs waits for the next one, which covers the updates frozen now.
DEDUCED (log entry 45). -/
def epochBegin (s : State) (after : List AfterCommit) : State :=
  if ldgCommitting s then { s with ledger := { s.ledger with queued := s.ledger.queued ++ after } }
  else (writeBackAll { s with ledger := { s.ledger with after := s.ledger.after ++ after } }).setBit Reg.LDG_STAT 4 true

/-- Whether an epoch commit is due at all: something has changed since the committed root (R258). -/
def epochNeeded (s : State) : Bool :=
  (ldgState s == 2 || ldgState s == 4) && (ldgWroot s != ldgRoot s || s.ledger.pages.any (fun p => p.changed))

/-- The payload of the EPOCH action of the commit in progress (R258). -/
def epochPayload (s : State) : List Byte :=
  rootEntry s (ldgWroot s) (ldgEpoch s + 1) (ldgPages s) s.ledger.rebuilt

/-- An LDG event (R266). -/
def ldgLog (s : State) (code : Nat) (payload : List Byte) : State := s.fwLog code 0 payload

/-- The EPOCH transaction has committed: step 5 of R258 and the hold of R259.
DEDUCED (log entry 45). -/
def epochEnded (s : State) : State :=
  let rebuilt := s.ledger.rebuilt
  let s := ({ s with ledger := { s.ledger with rebuilt := false } } : State).setBit Reg.LDG_STAT 4 false
  let s := ldgLog s Ev.EPOCH_COMMITTED (leBytes 8 (ldgEpoch s) ++ (ldgRoot s).take 28)
  let s := if rebuilt then ldgLog s Ev.LEDGER_REBUILT (leBytes 8 (ldgEpoch s) ++ leBytes 4 (ldgPages s)) else s
  let s := if rebuilt then setLdgState s 2 else s
  let s := if s.bit Reg.LDG_CTL 9 ∧ ldgState s = 2 then setLdgState s 4 else s
  syncLedger (applyLate s)

/-- The EPOCH transaction was refused (R265): the committed root stays; updates resume.
DEDUCED (log entry 45). -/
def epochRefused (s : State) : State :=
  let s := ({ s with ledger := { s.ledger with rebuilt := false } } : State).setBit Reg.LDG_STAT 4 false
  syncLedger (applyLate s)

/-! ### Opening, closing, rebuilding (R260, R264, R271) -/

/-- Everything the unit holds for an open ledger dropped. -/
def dropLedger (s : State) : State :=
  let l := { s.ledger with pages := [], nodes := [], late := [] }
  let s := ({ s with ledger := l } : State).setF Reg.LDG_STAT 14 8 0
  s.setBit Reg.LDG_STAT 4 false

/-- The uncommitted updates discarded (R257): the working root is the committed root again.
DEDUCED (log entry 45). -/
def dropUpdates (s : State) : State :=
  ((dropLedger s).wrBytes (Reg.LDG_WROOT 0) 8 (ldgRoot s)).setBit Reg.LDG_STAT 3 false

/-- The ledger set CLOSED: cache and buffers are dropped, its vote on the cache yard ends (R255).
DEDUCED (log entry 44). -/
def closeLedger (s : State) : State :=
  let s := dropLedger s
  let s := { s with ledger := { s.ledger with cache := [], rebuilt := false } }
  let s := (setLdgState s 0).setBit Reg.LDG_STAT 3 false
  let s := s.setBit (Reg.PWR_VOTE (6 + s.fld Reg.LDG_CTL 3 0)) 31 false
  ldgLog s Ev.LEDGER_CLOSED (leBytes 8 (ldgEpoch s))

/-- The bases and P set (R260); the fields are marked L. -/
def setBases (s : State) (leaf tree pages : Nat) : State :=
  let f (s : State) (a v : Nat) : State := s.fwL a 31 0 (v % 2 ^ 32)
  f (f (f (f (f s Reg.LDG_LEAF_BASE_LO leaf) Reg.LDG_LEAF_BASE_HI (leaf / 2 ^ 32)) Reg.LDG_TREE_BASE_LO tree)
    Reg.LDG_TREE_BASE_HI (tree / 2 ^ 32)) Reg.LDG_PAGES pages

/-- Node (k, i) among the nodes of levels 0-2 in the order of the tree area (R253). -/
def openNode (pages : Nat) (nodes : List (List Byte)) (k i : Nat) : List Byte :=
  normNode k (nodes.getD (((List.range k).map (nodeCount pages)).sum + i) [])

/-- The checks of LEDGER_OPEN (R260): the root, and each node of levels 1 and 2 against its parent's slot. -/
def openOk (s : State) (pages : Nat) (nodes : List (List Byte)) : Bool :=
  nodeDigest (openNode pages nodes 0 0) == ldgRoot s &&
  ([1, 2].all (fun k => (List.range (nodeCount pages k)).all (fun i =>
    nodeDigest (openNode pages nodes k i) == nodeSlot (openNode pages nodes (k - 1) (i / 16)) (i % 16))))

/-- The cache loaded from the level-2 nodes. -/
def loadCache (s : State) (pages : Nat) (nodes : List (List Byte)) : State :=
  let c := (List.range (nodeCount pages 3)).map (fun i => (i, nodeSlot (openNode pages nodes 2 (i / 16)) (i % 16)))
  { s with ledger := { s.ledger with cache := c } }

/-- The unit's vote on the cache yard (R255). -/
def ledgerVote (s : State) : State := s.setBit (Reg.PWR_VOTE (6 + s.fld Reg.LDG_CTL 3 0)) 31 true

/-- The digests of the nodes one level up, from the digests of a level with an empty digest beyond them. -/
def nodesAbove (count : Nat) (below : Nat → List Byte) : List (List Byte) :=
  (List.range count).map (fun i => (List.range 16).flatMap (fun j => below (16 * i + j)))

/-- A level of a rebuild (R260): the nodes of level k written to host memory, their digests answered. -/
def rebuildLevel (s : State) (k : Nat) (below : List (List Byte)) : State × List (List Byte) :=
  let ns := nodesAbove (nodeCount (ldgPages s) k) (fun i => below.getD i (emptyDigest (k + 1)))
  ((ns.zip (List.range ns.length)).foldl (fun s n => s.toHost 0 (nodeAddr s k n.2) n.1) s, ns.map nodeDigest)

/-- LEDGER_REBUILD's work (R260): every leaf page read, every node recomputed and written, the cache loaded.
`pages` gives the leaf pages that are not all zero. -/
def rebuildTree (s : State) (pages : List (Nat × List Byte)) : State :=
  let leaf (j : Nat) : List Byte :=
    match pages.find? (fun p => p.1 == j) with
    | some p => leafDigest (takePad 4096 p.2)
    | none => emptyDigest 8
  let r := [7, 6, 5, 4, 3].foldl (fun (r : State × List (List Byte)) k => rebuildLevel r.1 k r.2)
    (s, (List.range (ldgPages s)).map leaf)
  let s := { r.1 with ledger := { r.1.ledger with cache := (List.range r.2.length).zip r.2 } }
  syncLedger ([2, 1, 0].foldl (fun (r : State × List (List Byte)) k => rebuildLevel r.1 k r.2) (s, r.2)).1

end Sys2Proof.Machine
end

