-- ==== Sys2Proof/Machine/FixOps.lean ====
section
/-! DEFINITION. The fixity scheduler (R240-R250, R261-R265): checks, completions, accounts, dispatch, passes
and reports. -/

namespace Sys2Proof.Machine

/-! ### Scatter lists (R240) -/

/-- A scatter entry in 16 bytes (R240); none where it breaks check 4. -/
def scatterOf (b : List Byte) : Option Scatter :=
  if leAt b 8 4 = 0 ∨ leAt b 12 2 ≠ 0 ∨ 1 < leAt b 14 2 then none
  else some ⟨leAt b 0 8, leAt b 8 4, leAt b 14 2 == 1⟩

/-- The entries of a scatter list. -/
def scatters (n : Nat) (b : List Byte) : List (Option Scatter) :=
  (List.range n).map (fun i => scatterOf (takePad 16 (b.drop (16 * i))))

/-- The object bytes a scatter list names: its kind-0 entries (R240). -/
def objectBytes (l : List Scatter) : Nat := ((l.filter (fun e => !e.seg)).map Scatter.len).sum

/-- The host address of byte `k` of the object that a list describes (R246). -/
def objectAddr : List Scatter → Nat → Nat
  | [], k => k
  | e :: l, k => if e.seg then objectAddr l k else if k < e.len then e.addr + k else objectAddr l (k - e.len)

/-- The kind-1 entry. -/
def segArea (l : List Scatter) : Option Scatter := l.find? (fun e => e.seg)

/-! ### The checks of R241 -/

/-- Whether the indices of an account reach a record (check 8): the whole ledger for PF0 and the device. -/
def inPartition (s : State) (owner : Option Nat) (idx : Nat) : Bool :=
  match owner with
  | some n => if n = 0 then decide (idx < 32 * ldgPages s)
      else (s.inst n).parts.any (fun p => decide (p.1 ≤ idx ∧ idx < p.1 + p.2))
  | none => decide (idx < 32 * ldgPages s)

/-- Whether an account may use a feature; a device-owned item negotiates none. -/
def mayUse (s : State) (owner : Option Nat) (b : Nat) : Bool :=
  match owner with
  | some n => hasFeature s n b
  | none => true

/-- Whether an algorithm identifier is one of the nine unkeyed ones. -/
def plainAlg (a : Nat) : Bool := decide (1 ≤ a ∧ a ≤ 9)

/-- The first of checks 1 to 8 and 11 of R241 that fails, as status and check number. `list` and `block` are
what the reads of the scatter list and of an INLINE waybill's expected block bring. -/
def wbFault (s : State) (owner : Option Nat) (w : List Byte) (list block : HostRead) : Option (Nat × Nat) :=
  let es := scatters (wbCount w) (list.getD [])
  let ok := es.filterMap id
  let a := wbAlgA w
  let b := wbAlgB w
  if lockedDown s then some (0x15, 1)
  else if mayUse s owner 0 = false ∨ bitsOf (wbFlags w) 15 5 ≠ 0 ∨
      (wbSegCompare w = true ∧ wbSegmented w = false) ∨ (wbNoUpdate w = true ∧ wbMode w ≠ 1) then some (0x10, 2)
  else if plainAlg a = false ∨ (b ≠ 0 ∧ (plainAlg b = false ∨ b = a)) ∨
      ((a = 9 ∨ b = 9) ∧ mayUse s owner 2 = false) ∨ (b ≠ 0 ∧ mayUse s owner 1 = false) then some (0x10, 3)
  else if leAt w 40 8 % 16 ≠ 0 then some (0x10, 4)
  else if wbCount w ≠ 0 ∧ list = none then some (0x12, 11)
  else if es.any Option.isNone = true ∨ 1 < (ok.filter Scatter.seg).length ∨
      (ok.drop 1).any Scatter.seg = true then some (0x10, 4)
  else if objectBytes ok ≠ wbLength w then some (0x11, 5)
  else if (wbSegmented w = true ∧ (mayUse s owner 3 = false ∨
        (segArea ok).any (fun e => decide ((wbLength w + 67108863) / 67108864 * digestLen a ≤ e.len)) = false)) ∨
      (wbSegmented w = false ∧ (segArea ok).isSome = true) then some (0x10, 6)
  else if wbLedger w = false ∧ (wbRef w % 64 ≠ 0 ∨ wbRef w = 0) then some (0x10, 7)
  else if wbLedger w = true ∧ (ldgState s ≠ 2 ∨ inPartition s owner (wbRef w) = false ∨
      (2 ^ 32 ≤ wbRef w ∧ mayUse s owner 7 = false)) then some (0x10, 8)
  else if wbMode w = 2 ∧ block = none then some (0x12, 11)
  else none

/-- Checks 9 and 10 of R241, against the authenticated record. -/
def recordFault (w r : List Byte) : Option (Nat × Nat) :=
  if wbMode w = 1 ∧ (recInUse r = false ∨ recRetired r = true ∨ recId r ≠ wbId w ∨
      recAlgA r ≠ wbAlgA w ∨ recAlgB r ≠ wbAlgB w) then some (0x10, 9)
  else if wbMode w = 3 ∧ (r.any (· != 0) = true ∨
      (wbAlgB w ≠ 0 ∧ (32 < digestLen (wbAlgA w) ∨ 32 < digestLen (wbAlgB w)))) then some (0x10, 10)
  else none

/-! ### Engine time and accounts (R248) -/

/-- The engine rate at OP1 in MB/s (R215). -/
def rateOf : Nat → Nat
  | 0x01 => 376
  | 0x02 => 640
  | 0x03 => 640
  | 0x04 => 4200
  | 0x05 => 3210
  | 0x06 => 2220
  | 0x07 => 5190
  | 0x08 => 4200
  | 0x09 => 800
  | _ => 1

/-- A common multiple of the rates: engine times are counted in this fraction of a µs. -/
def rateUnit : Nat := [376, 640, 4200, 3210, 2220, 5190, 800].foldl Nat.lcm 1

/-- A common multiple of the shares 1-255, so that accounts are whole numbers. -/
def shareUnit : Nat := (List.range 255).foldl (fun a i => Nat.lcm a (i + 1)) 1

/-- The engine time of a waybill (R248, R250): a segmented item counts its algorithm twice. -/
def engineTime (w : List Byte) : Nat :=
  let one (a : Nat) : Nat := if a = 0 then 0 else rateUnit / rateOf a
  wbLength w * (one (wbAlgA w) + (if wbSegmented w then one (wbAlgA w) else 0) + one (wbAlgB w))

/-- The account a waybill stands on: the instance, or 1025 for the device's. -/
def Waybill.account (w : Waybill) : Nat := w.owner.getD 1025

/-- The share of an account; a share of 0 acts as 1. -/
def accountShare (s : State) (a : Nat) : Nat :=
  max 1 (if a = 1025 then s.fld Reg.FIX_CTL 15 8 else s.fld (Reg.VIN_RES a) 7 0)

/-- The value of an account. -/
def account (s : State) (a : Nat) : Nat := Sparse.get (fun _ => 0) s.fix.accounts a

/-- The value of an account replaced. -/
def setAccount (s : State) (a v : Nat) : State :=
  { s with fix := { s.fix with accounts := Sparse.set (fun _ => 0) s.fix.accounts a v } }

/-- The accounts with waybills waiting. -/
def activeAccounts (s : State) : List Nat :=
  ((s.fix.waiting.filter (fun w => w.ready)).map Waybill.account).eraseDups

/-- The lowest of some numbers. -/
def lowest : List Nat → Option Nat
  | [] => none
  | x :: xs => match lowest xs with
    | none => some x
    | some y => some (min x y)

/-- An account that was empty rejoins (R248). -/
def rejoin (s : State) (a : Nat) : State :=
  let act := activeAccounts s
  if act.contains a then s
  else match lowest (act.map (account s)) with
    | some v => if account s a < v then setAccount s a v else s
    | none => s

/-! ### Status registers -/

/-- The items held by engines. -/
def heldItems (s : State) : List WorkItem := s.engines.filterMap (fun p => p.2.item)

/-- The record an item or waybill would update. -/
def Waybill.record? (w : Waybill) : Option Nat := if wbLedger w.bytes then some (wbRef w.bytes) else none

/-- The records whose update is still to come (R252). -/
def busyRecords (s : State) : List Nat :=
  (heldItems s).filterMap (fun i => i.wb.record?) ++ s.ledger.late.map Prod.fst

/-- Whether a ready waybill may be dispatched now: a ledger item only while the ledger is OPEN, its record's page is
authenticated and buffered, and the record is free (R252, R256, R259). -/
def dispatchable (s : State) (w : Waybill) : Bool :=
  match w.record? with
  | none => w.ready
  | some r => w.ready && ldgState s == 2 && (ledgerRecord s r).isSome && !(busyRecords s).contains r

/-- FIX_STAT and FIX_INFLIGHT in step. -/
def syncFix (s : State) : State :=
  let held := (heldItems s).length
  let s := s.setBit Reg.FIX_STAT 0 (held != 0)
  let s := s.setBit Reg.FIX_STAT 2 (s.fix.waiting.any (fun w => wbLedger w.bytes && !dispatchable s w))
  (s.setF Reg.FIX_INFLIGHT 9 0 held).setF Reg.FIX_INFLIGHT 31 16 (min s.fix.waiting.length 65535)

/-- Engines of the yards that take object items wake: work is available (R56). -/
def wakeEngines (s : State) : State :=
  let ys := s.fld Reg.FIX_YARDS 15 0
  { s with engines := s.engines.map (fun p =>
      if bitOf ys (p.1 / 32) = true ∧ p.2.run ≠ .held then
        (p.1, { p.2 with wake := true, run := if p.2.run = .parked then .running else p.2.run })
      else p) }

/-- Engines wake where a waybill has become dispatchable since `old`: the ledger OPEN again, or its record free (R56,
R252). -/
def wakeFreed (old s : State) : State :=
  if s.fix.waiting.any (fun w => dispatchable s w && !dispatchable old w) then wakeEngines s else s

/-! ### Completions (R244) -/

/-- The origin and detail of a waybill's events (R266). -/
def wbOrigin (w : Waybill) : Origin := match w.owner with
  | some n => instOrigin n
  | none => .fixity
def wbDetail (w : Waybill) : Nat := w.owner.getD 0xFFFF

/-- A FIX event of a waybill (R266).
DESIGN CHOICE (log entry 59). -/
def wbLog (s : State) (code : Nat) (w : Waybill) (payload : List Byte) : State :=
  s.log code (wbOrigin w) (wbDetail w) payload

/-- The pass with a key, changed. -/
def mapPass (s : State) (k : PassKey) (f : Pass → Pass) : State :=
  { s with fix := { s.fix with passes := s.fix.passes.map (fun p => if p.key = k then f p else p) } }

/-- The outcome of an item counted in its pass (R262, R263). -/
def Pass.count? (p : Pass) (status idx : Nat) : Pass :=
  let p := { p with out := p.out - 1 }
  if status = 0 then { p with passed := p.passed + 1 }
  else if status = 1 then { p with failed := p.failed + 1, fails := p.fails ++ [idx] }
  else { p with missed := p.missed + 1, lock := p.lock || status == 0x15 }

/-- FIX_TT_k_FAILS incremented by a failed record of a timetable pass. -/
def ttFail (s : State) (k : PassKey) (status : Nat) : State :=
  match k with
  | .entry i => if status = 1 then s.inc (Reg.FIX_TT_FAILS i) else s
  | .range _ => s

/-- The counters and events of a status (R241, R244). -/
def statusEvents (s : State) (w : Waybill) (status mtch seg detail engine : Nat) : State :=
  let id16 := (wbId w.bytes).take 16
  let idx := if wbLedger w.bytes then wbRef w.bytes else 2 ^ 64 - 1
  if status = 0 then s.inc Reg.FIX_CNT_PASS
  else if status = 1 then
    if wbMode w.bytes ≠ 1 ∧ wbMode w.bytes ≠ 2 then s
    else (s.inc Reg.FIX_CNT_FAIL).log Ev.OBJECT_FAIL (wbOrigin w) (wbDetail w)
      (leBytes 8 idx ++ leBytes 1 mtch ++ leBytes 4 seg ++ id16)
  else if status = 0x10 ∨ status = 0x11 ∨ status = 0x15 then
    let s := s.inc (if status = 0x11 then Reg.FIX_CNT_LENGTH else Reg.FIX_CNT_REJECT)
    let s := if status = 0x15 then s.setBit Reg.FIX_STAT 1 true else s
    let check := if status = 0x11 then 5 else if status = 0x15 then 1 else detail
    s.log Ev.WAYBILL_REJECTED (wbOrigin w) (wbDetail w) (leBytes 1 status ++ leBytes 1 check ++ id16)
  else if status = 0x12 ∨ status = 0x13 then
    (s.inc Reg.FIX_CNT_ABORT).log Ev.ITEM_ABORTED (wbOrigin w) (wbDetail w)
      (leBytes 1 status ++ leBytes 2 detail ++ leBytes 2 engine)
  else s

/-- The 32 bytes of a completion, phase 0 (R244). -/
def completionBytes (w : Waybill) (seq status mtch bytes seg detail : Nat) : List Byte :=
  let idx := if wbLedger w.bytes then wbRef w.bytes else 2 ^ 64 - 1
  leBytes 4 seq ++ leBytes 2 (wbGen w.bytes) ++ leBytes 1 status ++ leBytes 1 mtch ++ leBytes 8 bytes ++
    leBytes 8 idx ++ leBytes 4 seg ++ leBytes 2 detail ++ [0, 0]

/-- A waybill ends with a status (R244): counters, events, and the completion in its instance's queue, or the
outcome counted in its pass. -/
def fixComplete (s : State) (w : Waybill) (status mtch bytes seg detail engine : Nat) : State :=
  let s := statusEvents s w status mtch seg detail engine
  match w.src with
  | .ring n seq =>
    let c := completionBytes w seq status mtch bytes seg (if status = 0x10 ∨ status = 0x13 then detail else 0)
    { s with fix := { s.fix with done := s.fix.done ++ [(n, c)] } }
  | .pass k => ttFail (mapPass s k (fun p => p.count? status (wbRef w.bytes))) k status

/-- No failing segment. -/
def noSegment : Nat := 0xFFFFFFFF

/-- Whether two waiting waybills are one. -/
def Waybill.same (w x : Waybill) : Bool := x.src == w.src && x.bytes == w.bytes

/-- A waybill out of the waiting ones. -/
def unwait (s : State) (w : Waybill) : State :=
  { s with fix := { s.fix with waiting := s.fix.waiting.filter (fun x => !w.same x) } }

/-- A waiting waybill that has passed the checks becomes ready at its place in the order of submission (R248). -/
def readied (s : State) (w : Waybill) : State :=
  let s := rejoin s w.account
  wakeEngines { s with fix := { s.fix with waiting := s.fix.waiting.map (fun x => if w.same x then w else x) } }

/-- A waiting waybill with its authenticated record meets checks 9 and 10 and the length rule of R243, and becomes
ready. -/
def admitRecord (s : State) (w : Waybill) (r : List Byte) : State :=
  match recordFault w.bytes r with
  | some f => fixComplete (unwait s w) w f.1 0 0 noSegment f.2 0
  | none =>
    if wbMode w.bytes = 1 ∧ recLength r ≠ wbLength w.bytes then
      let s := fixComplete (unwait s w) w 1 0 0 noSegment 0 0
      if wbNoUpdate w.bytes then s else recordUpdate s (wbRef w.bytes) (.audit true s.pcc s.ot)
    else readied s { w with record := r, ready := true }

/-- A waybill handed to the scheduler (R241, R242): checked, and waiting for its ledger page where it names
one that is not buffered. A failed read of its scatter list or expected block is a DMA error (R284), answered as `kind`
says. -/
def submit (s : State) (w : Waybill) (list block : HostRead) (kind : Nat) : State :=
  match wbFault s w.owner w.bytes list block with
  | some f =>
    let a := if wbCount w.bytes ≠ 0 ∧ list = none then leAt w.bytes 40 8 else wbRef w.bytes
    fixComplete (if f.1 = 0x12 then dmaErrorEvent s (w.owner.getD 0) a kind 5 else s) w f.1 0 0 noSegment f.2 0
  | none =>
    let w := { w with list := (scatters (wbCount w.bytes) (list.getD [])).filterMap id, expect := block.getD [] }
    let s := { s with fix := { s.fix with waiting := s.fix.waiting ++ [w] } }
    if wbLedger w.bytes then
      match ledgerRecord s (wbRef w.bytes) with
      | some r => admitRecord s w r
      | none => s
    else readied s { w with ready := true }

/-- The waybills that waited for leaf page j meet their record checks. -/
def admitPage (s : State) (j : Nat) : State :=
  let mine (w : Waybill) : Bool := !w.ready && wbLedger w.bytes && wbRef w.bytes / 32 == j
  (s.fix.waiting.filter mine).foldl (fun s w => admitRecord s w ((ledgerRecord s (wbRef w.bytes)).getD [])) s

/-- Every waiting waybill that `p` names ends with a status. -/
def endWaiting (s : State) (p : Waybill → Bool) (status detail : Nat) : State :=
  let ws := s.fix.waiting.filter p
  let s := { s with fix := { s.fix with waiting := s.fix.waiting.filter (fun w => !p w) } }
  syncFix (ws.foldl (fun s w => fixComplete s w status 0 0 noSegment detail 0) s)

/-- LOCKDOWN begins (R22, R263, R265): the waiting waybills are answered LOCKDOWN, and every running pass has seen it. -/
def fixLockdown (s : State) : State :=
  endWaiting { s with fix := { s.fix with passes := s.fix.passes.map (fun p => { p with lock := true }) } } (fun _ => true) 0x15 1

/-- LOCKDOWN has ended: lockdown_reject clears. -/
def fixUnlock (s : State) : State := s.setBit Reg.FIX_STAT 1 false

/-! ### Dispatch (R248, R249) -/

/-- The largest declared length among some waybills, the earlier first.
DEDUCED (log entry 46). -/
def largest : List Waybill → Option Waybill
  | [] => none
  | w :: ws => match largest ws with
    | none => some w
    | some v => if wbLength v.bytes ≤ wbLength w.bytes then some w else some v

/-- The waybill that an account would dispatch.
DEDUCED (log entry 46). -/
def nextOf (s : State) (a : Nat) : Option Waybill :=
  let look := s.fld Reg.FIX_CTL 24 16
  let look := if look = 0 ∨ 256 < look then 256 else look
  largest (((s.fix.waiting.filter (fun w => w.ready && w.account == a)).take look).filter (dispatchable s))

/-- The account with the lowest value among those that can dispatch; ties to the lower number.
DEDUCED (log entry 46). -/
def nextAccount (s : State) : Option Nat :=
  ((List.range 1026).filter (fun a => (activeAccounts s).contains a && (nextOf s a).isSome)).foldl
    (fun best a => match best with
      | none => some a
      | some b => if account s a < account s b then some a else best) none

/-- Whether engine `e` is a ledger engine (R255). -/
def ledgerEngine (s : State) (e : Nat) : Bool :=
  let n := min 16 (max 1 (s.fld Reg.LDG_CTL 8 4))
  ldgState s != 0 && e / 32 == s.fld Reg.LDG_CTL 3 0 && decide (32 - n ≤ e % 32)

/-- Whether engine `e` may take object items (R249). -/
def takesItems (s : State) (e : Nat) : Bool :=
  s.bit Reg.FIX_CTL 0 && bitOf (s.fld Reg.FIX_YARDS 15 0) (e / 32) && s.bit (Reg.YRD_CTL (e / 32)) 0 &&
    s.fld (Reg.PWR_DOM_STAT (6 + e / 32)) 1 0 == 0 && !ledgerEngine s e

/-- The expected digests of a waybill (R245, R251). -/
def expectA (w : Waybill) : List Byte :=
  if wbMode w.bytes = 1 then
    (if recWide w.record then (w.record.drop 40).take 64 else (w.record.drop 40).take 32)
  else w.expect.take 64
def expectB (w : Waybill) : List Byte :=
  if wbMode w.bytes = 1 then (if recWide w.record then [] else (w.record.drop 72).take 32)
  else (w.expect.drop 64).take 64

/-- The bytes 0x000-0x21F of the work item that WBTAKE writes (R245), WP_RESULT and WP_CMPL zero. -/
def itemBytes (w : Waybill) : List Byte :=
  w.bytes ++ leBytes 2 (wbAlgA w.bytes) ++ leBytes 2 (wbAlgB w.bytes) ++ leBytes 1 0 ++ leBytes 1 (wbMode w.bytes) ++
    leBytes 2 (w.owner.getD 0xFFFF) ++ leBytes 8 (wbLength w.bytes) ++
    leBytes 8 (if wbSegmented w.bytes then 67108864 else 0) ++
    leBytes 8 (((segArea w.list).map Scatter.addr).getD 0) ++ List.replicate 0x20 0 ++
    takePad 128 (if wbLedger w.bytes then w.record else []) ++ takePad 64 (expectA w) ++ takePad 64 (expectB w) ++
    List.replicate 128 0 ++ List.replicate 32 0

/-- The item that engine `e` takes now (R248, R249), its record as it stands. -/
def takeItem (s : State) (e : Nat) : Option Waybill :=
  if takesItems s e then
    match nextAccount s with
    | some a => (nextOf s a).map (fun w =>
        match w.record?.bind (ledgerRecord s) with
        | some r => { w with record := r }
        | none => w)
    | none => none
  else none

/-- The scheduler's side of a WBTAKE that took `w`: out of the queue, charged to its account. -/
def dispatched (s : State) (w : Waybill) : State :=
  let a := w.account
  let s := setAccount s a (account s a + engineTime w.bytes * (shareUnit / accountShare s a))
  unwait s w

/-! ### WBDONE (R247) -/

/-- The match bits of the scheduler's own compare: [0] A matched, [1] B matched, [2] A compared, [3] B compared. -/
def matchBits (w : Waybill) (resA resB : List Byte) : Nat :=
  let la := digestLen (wbAlgA w.bytes)
  let lb := digestLen (wbAlgB w.bytes)
  if wbMode w.bytes = 1 ∨ wbMode w.bytes = 2 then
    b2n (resA.take la == (takePad 64 (expectA w)).take la) + 4 +
      (if wbAlgB w.bytes ≠ 0 then 2 * b2n (resB.take lb == (takePad 64 (expectB w)).take lb) + 8 else 0)
  else 0

/-- The record that an ENROL item writes (R252). -/
def enrolRecord (s : State) (w resA resB : List Byte) : List Byte :=
  let la := digestLen (wbAlgA w)
  let wide := decide (32 < la)
  let flags := 1 + (if wbSegmented w then 8 else 0) + (if wide then 16 else 0)
  wbId w ++ leBytes 8 (wbLength w) ++
    (if wide then takePad 64 (resA.take la)
      else takePad 32 (resA.take la) ++ takePad 32 (resB.take (digestLen (wbAlgB w)))) ++
    leBytes 1 (wbAlgA w) ++ leBytes 1 (wbAlgB w) ++ leBytes 4 0 ++ leBytes 4 s.pcc ++ leBytes 6 s.ot ++
    leBytes 2 0 ++ leBytes 2 flags ++ leBytes 4 0

/-- WBDONE by engine `e` of an item (R247): the results and the completion record are what the program left. An ENROL
item with a differing segment ends FAIL (R250) and creates no record.
DESIGN CHOICE (log entry 110). -/
def fixDone (s : State) (e : Nat) (i : WorkItem) (resA resB cmpl : List Byte) : State :=
  let w := i.wb
  let b := w.bytes
  let segd := wbSegmented b && wbSegCompare b
  let seg := if segd then leAt cmpl 4 4 else noSegment
  if i.dropped then s
  else if i.cancelled then fixComplete s w 0x13 0 i.streamed noSegment 1 e
  else if wbLedger b = true ∧ (i.unauth = true ∨ (ldgState s ≠ 2 ∧ ldgState s ≠ 4)) then fixComplete s w 0x14 0 i.streamed noSegment 0 e
  else
    let m := matchBits w resA resB
    let compared := decide (m ≠ 0)
    let disagree := compared && (leAt cmpl 0 1 % 4 != m % 4)
    let s := if disagree then
        wbLog s Ev.MATCH_DISAGREE w (leBytes 2 e ++ leBytes 4 (match w.src with
          | .ring _ q => q
          | .pass _ => 0xFFFFFFFF))
      else s
    let bad := disagree || seg != noSegment || (compared && (m % 2 == 0 || (wbAlgB b != 0 && m / 2 % 2 == 0)))
    let status := if bad then 1 else if compared then 0 else 2
    let s := if wbMode b = 0 then
        instWrite s (w.owner.getD 0) (wbRef b)
          (takePad 64 (resA.take (digestLen (wbAlgA b))) ++ takePad 64 (resB.take (digestLen (wbAlgB b))))
      else s
    let s := if wbMode b = 1 ∧ wbNoUpdate b = false then recordUpdate s (wbRef b) (.audit bad s.pcc s.ot)
      else if wbMode b = 3 ∧ bad = false then recordUpdate s (wbRef b) (.put (enrolRecord s b resA resB))
      else s
    fixComplete s w status m i.streamed seg 0 e

/-! ### Passes (R261, R262) -/

/-- The waybill that a pass generates for a record (R262). -/
def passWaybill (p : Pass) (idx : Nat) (r : List Byte) (f : Feed) : Waybill :=
  { src := .pass p.key, owner := p.owner, list := [], expect := [], record := r, ready := false,
    bytes := recId r ++ leBytes 8 (recLength r) ++ leBytes 8 f.addr ++ leBytes 8 idx ++
      leBytes 1 (recAlgA r) ++ leBytes 1 (recAlgB r) ++ leBytes 2 1 ++
      leBytes 2 f.count ++ leBytes 2 0 }

/-- FIX_TT_k_CUR of a timetable pass. -/
def ttCursor (s : State) (k : PassKey) (cur : Nat) : State :=
  match k with
  | .entry i => s.wr64 (Reg.FIX_TT_CUR_LO i) (Reg.FIX_TT_CUR_HI i) cur
  | .range _ => s

/-- One record of a pass: skipped, generated, or not yet reachable (R262). -/
def passStep (s : State) (k : PassKey) : Option State :=
  match s.fix.passes.find? (fun p => p.key == k) with
  | none => none
  | some p =>
    if p.first + p.count ≤ p.cur ∨ lockedDown s = true ∨ s.bit Reg.PWR_STAT 0 = true ∨ ldgState s ≠ 2 then none
    else match p.fed.find? (fun f => f.1 == p.cur), ledgerRecord s p.cur with
      | some (_, f), some r =>
        let s' := ttCursor (mapPass s k (fun p => { p with cur := p.cur + 1 })) k (p.cur + 1)
        if f.addr = 0 ∨ recInUse r = false ∨ recRetired r = true then
          some (mapPass s' k (fun p => { p with skipped := p.skipped + 1 }))
        else
          let s' := mapPass s' k (fun p => { p with out := p.out + 1 })
          some (submit s' (passWaybill p p.cur r f) f.read none f.kind)
      | some (_, f), none =>
        if f.addr = 0 then
          some (ttCursor (mapPass s k (fun p => { p with cur := p.cur + 1, skipped := p.skipped + 1 })) k (p.cur + 1))
        else none
      | none, _ => none

/-- A pass generated as far as its locators and the buffered pages reach. -/
def advancePass : Nat → State → PassKey → State
  | 0, s, _ => s
  | fuel + 1, s, k => match passStep s k with
    | some s' => advancePass fuel s' k
    | none => s

/-- Every running pass generated as far as it can be. -/
def advancePasses (s : State) : State :=
  syncFix (s.fix.passes.foldl (fun s p => advancePass p.fed.length s p.key) s)

/-- A pass begins (R262).
DEDUCED (log entry 44). -/
def startPass (s : State) (k : PassKey) (w0 : Nat) (owner : Option Nat) (first count cur : Nat)
    (fed : List (Nat × Feed)) : State :=
  let p : Pass := { key := k, w0 := w0, owner := owner, first := first, count := count, cur := cur, fed := fed,
                    startPcc := s.pcc, startOt := s.ot, lock := lockedDown s }
  { s with fix := { s.fix with passes := (s.fix.passes.filter (fun x => x.key != k)) ++ [p] } }

/-- Whether a pass has visited every record and every item of it has ended. -/
def Pass.over (p : Pass) : Bool := decide (p.first + p.count ≤ p.cur) && p.out == 0

/-! ### Reports (R263) -/

/-- The measurement summary: SHA-384 over MREG_0 to MREG_15. -/
def mregSummary (s : State) : List Byte := (sha384 ((List.range 16).flatMap (mreg s)))

/-- Some numbers in rising order. -/
def rising : List Nat → List Nat
  | [] => []
  | x :: xs => (rising xs).takeWhile (fun y => decide (y < x)) ++ [x] ++ (rising xs).dropWhile (fun y => decide (y < x))

/-- The number of the timetable entry of a pass, or all ones. -/
def PassKey.number : PassKey → Nat
  | .entry k => k
  | .range _ => 0xFFFFFFFF

/-- The evidence count. -/
def evidence (s : State) : Nat := s.fld Reg.TMP_EVIDENCE 10 0

/-- The body of a fixity report (R263). -/
def reportBody (s : State) (p : Pass) : List Byte :=
  let rebuilt := s.rd64 Reg.LDG_REBUILT_LO Reg.LDG_REBUILT_HI
  let fails := rising p.fails
  let flags := b2n (decide (p.first + p.count ≤ p.cur)) + 2 * b2n (decide (256 < fails.length)) + 4 * b2n p.lock +
    8 * b2n (decide (s.fix.rebuildSeen < rebuilt))
  leBytes 4 0x52505846 ++ leBytes 2 1 ++ leBytes 2 flags ++ s.rdBytes (Reg.LCS_SERIAL 0) 4 ++ leBytes 8 (ldgEpoch s) ++
    ldgRoot s ++ leBytes 8 p.first ++ leBytes 8 p.count ++ leBytes 8 (p.passed + p.failed) ++ leBytes 8 p.passed ++
    leBytes 8 p.failed ++ leBytes 8 p.skipped ++ leBytes 8 p.missed ++ mregSummary s ++
    leBytes 4 p.startPcc ++ leBytes 6 p.startOt ++ leBytes 2 0 ++ leBytes 4 s.pcc ++ leBytes 6 s.ot ++ leBytes 2 0 ++
    leBytes 4 (evidence s) ++ leBytes 4 (s.fix.reportSeq + 1) ++ leBytes 4 p.key.number ++
    leBytes 2 (min 256 fails.length) ++ leBytes 2 0 ++ leBytes 8 rebuilt ++ List.replicate 40 0 ++
    (fails.take 256).flatMap (leBytes 8)

/-- A report made and kept as the last of its entry or requester (R263). -/
def makeReport (s : State) (p : Pass) : State :=
  let b := reportBody s p
  let detail := match p.key with
    | .entry k => k
    | .range _ => 0
  let f := { s.fix with bodies := s.fix.bodies.filter (fun x => x.1 != p.key) ++ [(p.key, b)],
                        reportSeq := s.fix.reportSeq + 1,
                        rebuildSeen := s.rd64 Reg.LDG_REBUILT_LO Reg.LDG_REBUILT_HI }
  ({ s with fix := f } : State).fwLog Ev.REPORT_MADE detail (leBytes 4 f.reportSeq ++ leBytes 8 (ldgEpoch s))

/-- The last report body of an entry or range. -/
def bodyOf (s : State) (k : PassKey) : Option (List Byte) := (s.fix.bodies.find? (fun x => x.1 == k)).map Prod.snd

/-- A report body as it is signed: its measurement summary is of the moment of signing (R263). -/
def signedBody (s : State) (b : List Byte) : List Byte := b.take 120 ++ mregSummary s ++ b.drop 168

/-- A pass ends, its epoch committed (R262, R263). -/
def finishPass (s : State) (k : PassKey) : State :=
  match s.fix.passes.find? (fun p => p.key == k) with
  | none => s
  | some p =>
    let s := { s with fix := { s.fix with passes := s.fix.passes.filter (fun x => x.key != k) } }
    match k with
    | .entry i =>
      let s := (s.setBit (Reg.FIX_TT_STAT i) 2 false).setBit (Reg.FIX_TT_STAT i) 3 false
      let s := s.setF (Reg.FIX_TT_STAT i) 31 16 (min 65535 (s.fld (Reg.FIX_TT_STAT i) 31 16 + 1))
      let s := s.fwLog Ev.PASS_DONE i (leBytes 8 (p.passed + p.failed) ++ leBytes 8 p.failed ++
        leBytes 8 p.skipped ++ leBytes 8 (ldgEpoch s))
      let flags := ((s.fix.tt.find? (fun e => e.1 == i)).map (fun e => e.2.flags)).getD 0
      if bitOf flags 1 then makeReport s p else s
    | .range q =>
      let s := s.fwLog Ev.PASS_DONE 0 (leBytes 8 (p.passed + p.failed) ++ leBytes 8 p.failed ++
        leBytes 8 p.skipped ++ leBytes 8 (ldgEpoch s))
      (makeReport s p).answer q p.w0 0 [] true

/-! ### The ledger's failure and the scheduler (R257) -/

/-- The page and its path fail authentication (R257). -/
def ledgerAuthFail (s : State) (j level : Nat) : State :=
  let s := (setLdgState s 3).inc Reg.LDG_CNT_AUTH_FAIL
  let s := ldgLog s Ev.LEDGER_AUTH_FAIL (leBytes 8 j ++ leBytes 1 level)
  let waits := s.ledger.waits
  let s := dropUpdates s
  let lost (i : WorkItem) : WorkItem := if wbLedger i.wb.bytes then { i with unauth := true } else i
  let s := { s with ledger := { s.ledger with waits := [] }, engines := s.engines.map (fun (p : Nat × Engine) => (p.1, { p.2 with item := p.2.item.map lost })) }
  let s := waits.foldl (fun s w => s.reply w.q w.w0 4 [] true) s
  endWaiting s (fun w => wbLedger w.bytes) 0x14 0

/-- The waiting record requests of page j carried out (R264). -/
def serveRecords (s : State) (j : Nat) : State :=
  let mine := s.ledger.waits.filter (fun w => w.idx / 32 == j)
  let s := { s with ledger := { s.ledger with waits := s.ledger.waits.filter (fun w => w.idx / 32 != j) } }
  mine.foldl (fun s w =>
    if w.retire then (recordUpdate s w.idx .retire).reply w.q w.w0 0 [] true
    else s.reply w.q w.w0 0 ((ledgerRecord s w.idx).getD []) true) s

/-- A leaf page and its path have been digested and compared (R256).
DESIGN CHOICE (log entry 26). -/
def pageAuth (s : State) (j : Nat) (data : List Byte) (path : List (List Byte)) : State :=
  if (ldgState s ≠ 2 ∧ ldgState s ≠ 4) ∨ (pageAt s j).isSome = true ∨ ldgPages s ≤ j then s
  else match authFault s j data path with
    | some level => ledgerAuthFail s j level
    | none =>
      let s := (bufferPage s j (takePad 4096 data) path).inc Reg.LDG_CNT_AUTH
      let s := admitPage (applyLate s) j
      advancePasses (serveRecords s j)

/-- A read of a page or of its path fails (R241 check 11, R284): the items that wait for it end READ_ERROR. -/
def pageReadError (s : State) (j : Nat) : State :=
  let mine := s.ledger.waits.filter (fun w => w.idx / 32 == j)
  let s := { s with ledger := { s.ledger with waits := s.ledger.waits.filter (fun w => w.idx / 32 != j) } }
  let s := mine.foldl (fun s w => s.reply w.q w.w0 3 [] true) s
  endWaiting s (fun w => wbLedger w.bytes && !w.ready && wbRef w.bytes / 32 == j) 0x12 11

end Sys2Proof.Machine
end

