-- ==== Sys2Proof/Machine/MbxOps.lean ====
section
/-! DEFINITION. Mailbox channels as their writers use them (R314-R329): ownership, data, go, take, DONE,
resets and shutdowns, stalls, bindings. -/

namespace Sys2Proof.Machine

/-- The mailbox identity of a party (R314, R317): the on-duty core is the signal box, a sideband agent itself;
every other party, the relief core among them, is none. -/
def mbxIdentity (s : State) (p : Party) : Option Nat :=
  match p with
  | .core c => if c = s.duty then some sbIdentity else none
  | .agent a => some (0x28 + a.val)
  | _ => none

/-- A discarded write of a mailbox register (R317): BAD_WRITER with the address and the writer's origin. -/
def badWriter (s : State) (p : Party) (detail addr : Nat) : State :=
  s.log Ev.BAD_WRITER .mailbox detail (leBytes 4 addr ++ leBytes 1 p.origin.code)

/-- A write by a party that does not own channel `n`. -/
def badChannel (s : State) (p : Party) (n addr : Nat) : State :=
  badWriter (s.inc (Reg.MBX_CNT_BAD n)) p n addr

/-- Whether a party may write a channel's sender registers (DATA, CTL) or its DONE (R317). -/
def ownsChannel (s : State) (p : Party) (n : Nat) (isDone : Bool) : Bool :=
  mbxEn s n && mbxIdentity s p == some (if isDone then mbxReceiver s n else mbxSender s n)

/-- Whether a go of channel `n` is held (R328). -/
def mbxHeld (s : State) (n : Nat) : Bool := s.bit (Reg.MBX_STAT n) 5

/-- Whether channel `n` is being shut down (R328): one of its identities is. -/
def mbxShut (s : State) (n : Nat) : Bool :=
  s.mbx.down.contains (mbxSender s n) || s.mbx.down.contains (mbxReceiver s n)

/-- The bytes of a word that a write with byte enables changes (R411). -/
def mergeBe (old v : Word) (be : BitVec 4) : Word :=
  BitVec.ofNat 32 (leNat ((List.range 4).map (fun i =>
    if be.getLsbD i then BitVec.ofNat 8 (v.toNat / 256 ^ i) else BitVec.ofNat 8 (old.toNat / 256 ^ i))))

/-- A write of MBX_n_DATA_k (R319, R320). -/
def mbxDataWrite (s : State) (p : Party) (n k : Nat) (v : Word) (be : BitVec 4) : State :=
  let a := Reg.MBX_DATA n k
  if ownsChannel s p n false = false then badChannel s p n a
  else if mbxGo s n then s.setBit (Reg.MBX_STAT n) 2 true
  else (s.wr a (mergeBe (s.rd a) v be)).setBit (Reg.MBX_WMASK n) k true

/-- The decision on a go (R319): posted where the words 0 to LEN - 1 are written, otherwise LEN_MISMATCH.
DEDUCED (log entry 54). -/
def mbxDecide (s : State) (n : Nat) : State :=
  let len := s.fld (Reg.MBX_CTL n) 12 8
  let mask := s.fld (Reg.MBX_WMASK n) 15 0
  let need := 2 ^ len - 1
  if 1 ≤ len ∧ len ≤ 16 ∧ mask % 2 ^ len = need then mbxPosted s n
  else
    let s := (s.wr (Reg.MBX_WMASK n) 0).setBit (Reg.MBX_STAT n) 1 true
    (s.inc (Reg.MBX_CNT_REJECT n)).log Ev.LEN_MISMATCH .mailbox n
      (leBytes 1 len ++ leBytes 2 mask ++ leBytes 1 (mbxSender s n))

/-- A write of MBX_n_CTL (R319, R320, R328): ignored while go is 1 or a go is held.
DEDUCED (log entry 54). -/
def mbxCtlWrite (s : State) (p : Party) (n : Nat) (v : Word) (be : BitVec 4) : State :=
  let a := Reg.MBX_CTL n
  if ownsChannel s p n false = false then badChannel s p n a
  else if mbxGo s n = true ∨ mbxHeld s n = true then s
  else
    let w := mergeBe 0 v be
    let s := if be.getLsbD 1 then s.setF a 12 8 (getBits w 12 8) else s
    if w.getLsbD 0 = false then s
    else if mbxShut s n then s.setBit (Reg.MBX_STAT n) 5 true
    else mbxDecide s n

/-- The channels bound the other way between the same identities as channel `n` (R324). -/
def mbxReverse (s : State) (n : Nat) : List Nat :=
  if mbxEn s n then
    (List.range 64).filter (fun m => m != n && mbxEn s m && mbxSender s m == mbxReceiver s n &&
      mbxReceiver s m == mbxSender s n)
  else []

/-- MBX_n_STAT.taken. -/
def mbxTaken (s : State) (n : Nat) : Bool := s.bit (Reg.MBX_STAT n) 0

/-- The stall of channel `n` and of its opposites ends (R324): with a take, and where the message goes otherwise.
DEDUCED (log entry 54). -/
def mbxUnstall (s : State) (n : Nat) : State :=
  (n :: mbxReverse s n).foldl (fun s m => s.setBit (Reg.MBX_STAT m) 4 false) s

/-- A read of MBX_n_CTL by the receiver while go reads 1 (R320, R324): the message is taken, a stall ends.
DEDUCED (log entry 54). -/
def mbxTake (s : State) (p : Party) (n : Nat) : State :=
  if mbxEn s n = true ∧ mbxIdentity s p = some (mbxReceiver s n) ∧ mbxGo s n = true ∧ mbxTaken s n = false then
    mbxUnstall (s.setBit (Reg.MBX_STAT n) 0 true) n
  else s

/-- A write of MBX_n_DONE (R320, R321); an answer that waited for the channel is posted.
DEDUCED (log entry 54). -/
def mbxDone (s : State) (p : Party) (n : Nat) : State :=
  if ownsChannel s p n true = false then badChannel s p n (Reg.MBX_DONE n)
  else if mbxGo s n = false then s
  else
    let s := (s.setBit (Reg.MBX_CTL n) 0 false).setBit (Reg.MBX_STAT n) 0 false
    let s := mbxInterrupt (mbxUnstall s n) (mbxSender s n) n false
    match (List.finRange 4).find? (fun a => answerChannel s (0x28 + a.val) == some n) with
    | some a => postAnswer s a
    | none => s

/-- An untaken message withdrawn (R327). -/
def mbxWithdraw (s : State) (n cause : Nat) : State :=
  let s := mbxUnstall ((s.setBit (Reg.MBX_CTL n) 0 false).wr (Reg.MBX_WMASK n) 0) n
  (s.setBit (Reg.MBX_STAT n) 3 true).log Ev.SENDER_RESET_DISCARD .mailbox n
    (leBytes 1 cause ++ leBytes 2 (s.fld (Reg.MBX_CTL n) 31 16))

/-- The reset of the identities `ids` as channel `n` sees it (R326, R327).
DEDUCED (log entry 54). -/
def mbxResetOne (s : State) (ids : List Nat) (n : Nat) : State :=
  let sr := ids.contains (mbxSender s n)
  let rr := ids.contains (mbxReceiver s n)
  if mbxEn s n = false then s
  else
    let was := mbxTaken s n
    let s := if sr then
        let s := s.setF (Reg.MBX_EPOCH n) 31 16 (s.fld (Reg.MBX_EPOCH n) 31 16 + 1)
        let s := (s.setBit (Reg.MBX_STAT n) 5 false).wr (Reg.MBX_WMASK n) 0
        if mbxGo s n = true ∧ was = false then mbxWithdraw s n (b2n rr) else s
      else s
    if rr then
      let s := s.setF (Reg.MBX_EPOCH n) 15 0 (s.fld (Reg.MBX_EPOCH n) 15 0 + 1)
      if mbxGo s n then s.setBit (Reg.MBX_STAT n) 0 false else s
    else s

/-- The reset of some identities begins the shutdown of their channels (R325-R328). -/
def mbxReset (s : State) (ids : List Nat) : State :=
  let s := (List.range 64).foldl (fun s n => mbxResetOne s ids n) s
  { s with mbx := { s.mbx with down := (s.mbx.down ++ ids).eraseDups } }

/-- A sideband agent is reset (R325): away until its next access. -/
def agentReset (s : State) (a : Fin 4) : State :=
  let s := mbxReset s [0x28 + a.val]
  { s with mbx := { s.mbx with away := (s.mbx.away ++ [a]).eraseDups } }

/-- An identity returns (R326): the post interrupts of its messages are raised again. -/
def mbxReturned (s : State) (i : Nat) : State :=
  ((List.range 64).filter (fun n => mbxEn s n && mbxReceiver s n == i && mbxGo s n)).foldl
    (fun s n => mbxInterrupt s i n true) s

/-- A reset agent accesses the controller again (R325, R326). -/
def agentReturn (s : State) (a : Fin 4) : State :=
  if s.mbx.away.contains a then
    mbxReturned { s with mbx := { s.mbx with away := s.mbx.away.filter (· != a) } } (0x28 + a.val)
  else s

/-- An access by a party: an agent that was away has returned. -/
def touched (s : State) (p : Party) : State :=
  match p with
  | .agent a => agentReturn s a
  | _ => s

/-- The shutdown of an identity's channels completes (R328): held gos are decided. -/
def mbxShutdownDone (s : State) (i : Nat) : State :=
  let s := { s with mbx := { s.mbx with down := s.mbx.down.filter (· != i) } }
  (List.range 64).foldl (fun s n =>
    if mbxHeld s n = true ∧ mbxShut s n = false then mbxDecide (s.setBit (Reg.MBX_STAT n) 5 false) n else s) s

/-- Opposite channels have stayed posted and untaken for 10 ms (R324). -/
def mbxStall (s : State) (n : Nat) : State :=
  match (mbxReverse s n).find? (fun m => mbxGo s m && !mbxTaken s m) with
  | some m =>
    if mbxGo s n = true ∧ mbxTaken s n = false ∧ s.bit (Reg.MBX_STAT n) 4 = false then
      ((s.setBit (Reg.MBX_STAT n) 4 true).setBit (Reg.MBX_STAT m) 4 true).log Ev.MBX_STALL .mailbox n
        (leBytes 1 n ++ leBytes 1 m ++ leBytes 1 (mbxSender s n) ++ leBytes 1 (mbxReceiver s n))
    else s
  | none => s

/-- The sender's epoch of channel `n` incremented (R327). -/
def mbxTxEpoch (s : State) (n : Nat) : State := s.setF (Reg.MBX_EPOCH n) 31 16 (s.fld (Reg.MBX_EPOCH n) 31 16 + 1)

/-- A binding replaced (R316): a change of an end withdraws a posted message as a sender reset would. -/
def mbxRebind (s : State) (n : Nat) (w : Word) : State :=
  let old := s.rd (Reg.MBX_BIND n)
  let s := if getBits old 11 0 ≠ getBits w 11 0 ∧ mbxGo s n = true ∧ mbxTaken s n = false
    then mbxWithdraw (mbxTxEpoch s n) n 2 else s
  s.wr (Reg.MBX_BIND n) w

/-- The default binding of a channel (R315): the reset value of MBX_n_BIND. -/
def defaultBind (n : Nat) : Word := regReset (Reg.MBX_BIND n)

/-- What a signal-box reset does to the mailboxes (R315, R325): identity 0x3F is reset and returns at the
restart; the bindings take their defaults, MBX_LOCK clears, and no answer waits any longer. -/
def mbxSignalBoxReset (s : State) : State :=
  let s := mbxReset s [sbIdentity]
  let s := (List.range 64).foldl (fun s n => mbxRebind s n (defaultBind n)) s
  let s := s.setBit Reg.MBX_LOCK 0 false
  mbxReturned { s with answers := [] } sbIdentity

/-- MBX_LOCK.lock set (R316). -/
def mbxLock (s : State) : State :=
  if s.bit Reg.MBX_LOCK 0 then s
  else (s.setBit Reg.MBX_LOCK 0 true).log Ev.BIND_LOCKED .mailbox 0 (leBytes 8 (maskOf 64 (mbxEn s)))

end Sys2Proof.Machine
end

