-- ==== Sys2Proof/Machine/HostOps.lean ====
section
/-! DEFINITION. The host link (R269-R294): features, instances and their resets, rings and doorbells, dirty
logging, and what a PF0 reset does. -/

namespace Sys2Proof.Machine

/-! ### Features (R273-R275) -/

/-- The features offered to instance `n` (R275). -/
def offered (s : State) (n : Nat) : Nat :=
  if n = 0 then 0xFFF
  else if vinState s n = 0 then 0
  else (s.inst n).mask &&& negotiated s 0 &&& 0x8F

/-- VIN_n_DEV_FEAT_k of the instances 1-1,024 in step with what they are offered. -/
def syncOffers (s : State) : State :=
  ((List.range 1025).filter (fun n => n != 0 && vinState s n != 0)).foldl
    (fun s n => s.wrBytes (Reg.VIN_DEV_FEAT n 0) 4 (leBytes 16 (offered s n))) s

/-- The requested features of instance `n`. -/
def requested (s : State) (n : Nat) : Nat :=
  leNat (if n = 0 then s.rdBytes (Reg.HST_DRV_FEATURES 0) 4 else s.rdBytes (Reg.VIN_DRV_FEAT n 0) 4)

/-- A write of 1 to features_ok (R274): the evaluation begins. -/
def featuresWrite (s : State) (n : Nat) : State :=
  if s.bit (Reg.VIN_CTL n) 1 ∨ s.bit (Reg.VIN_STAT n) 7 ∨ vinState s n = 0 then s
  else s.setBit (Reg.VIN_STAT n) 7 true

/-- The mode that bits 4 and 5 of a set give. -/
def modeOf (f : Nat) : Nat := if bitOf f 4 then 1 else if bitOf f 5 then 2 else 0

/-- The cause for which a requested set is refused (R275); 0 where it is accepted.
DEDUCED (log entry 47). -/
def featureCause (s : State) (n : Nat) : Nat :=
  let f := requested s n
  if f &&& offered s n ≠ f then 1
  else if bitOf f 4 && bitOf f 5 then 2
  else if n = 0 ∧ ((modeOf f ≠ hostMode s ∧ instancesUp s ≠ 0) ∨ (bitOf f 5 = true ∧ s.host.vfEnable = true)) then 3
  else if ((bitOf f 1 || bitOf f 2 || bitOf f 3 || bitOf f 7) && !bitOf f 0) ||
      (bitOf f 6 && !bitOf f 4 && !bitOf f 5) then 4
  else 0

/-- The feature evaluation ends (R274, R275). -/
def featureEval (s : State) (n : Nat) : State :=
  if s.bit (Reg.VIN_STAT n) 7 = false then s
  else
    let c := featureCause s n
    let f := requested s n
    let s := (s.setBit (Reg.VIN_STAT n) 7 false).setF (Reg.VIN_STAT n) 10 8 c
    let s := if c = 0 then
        let s := s.setBit (Reg.VIN_CTL n) 1 true
        let s := if n = 0 then syncOffers (s.setL .pf0 Reg.HST_MODE 1 0 (modeOf f)) else s
        vinLog s Ev.FEATURES_ACCEPTED n (leBytes 2 n ++ leBytes 16 f)
      else vinLog s Ev.FEATURES_REFUSED n (leBytes 2 n ++ leBytes 1 c ++ leBytes 16 f)
    stateInt s n

/-! ### Enabling (R281) -/

/-- Whether the checks of R281 hold. An instance with no vector sends no message, so its INT_MAP names none.
DEDUCED (log entry 47). -/
def enableOk (s : State) (n : Nat) : Bool :=
  let base (lo hi : Nat) : Bool := s.rd64 lo hi != 0 && s.rd64 lo hi % 4096 == 0
  let vecs := s.fld (Reg.VIN_RES n) 27 22
  let srcs := if n = 0 then [0, 1, 2, 3] else [0, 1, 2]
  s.bit (Reg.VIN_CTL n) 1 && base (Reg.VIN_SQ_BASE_LO n) (Reg.VIN_SQ_BASE_HI n) &&
    base (Reg.VIN_CQ_BASE_LO n) (Reg.VIN_CQ_BASE_HI n) && base (Reg.VIN_CMD_BASE_LO n) (Reg.VIN_CMD_BASE_HI n) &&
    base (Reg.VIN_RSP_BASE_LO n) (Reg.VIN_RSP_BASE_HI n) &&
    (vecs == 0 || srcs.all (fun k => decide (intVec s n k < vecs)))

/-- The enable of an instance decided (R281). -/
def enableNow (s : State) (n : Nat) : State :=
  if enableOk s n then setVinState (s.setBit (Reg.VIN_CTL n) 0 true) n 2
  else stateInt (s.setBit (Reg.VIN_STAT n) 4 true) n

/-- A write of 1 to enable (R281). -/
def enableWrite (s : State) (n : Nat) : State :=
  if vinState s n = 1 then enableNow s n
  else if vinState s n = 4 then s.setBit (Reg.VIN_STAT n) 3 true
  else s

/-! ### The pool (R278) -/

/-- HST_POOL's free dirty windows changed. -/
def setWindows (s : State) (free : Nat) : State :=
  let s := (s.setF Reg.HST_POOL 31 26 (free % 64)).setBit Reg.HST_STAT 1 (free == 64)
  stateInt s 0

/-- The free dirty windows. -/
def freeWindows (s : State) : Nat := if s.bit Reg.HST_STAT 1 then 64 else s.fld Reg.HST_POOL 31 26

/-- HST_POOL's free vectors and slots changed. -/
def setPool (s : State) (vectors slots : Nat) : State :=
  stateInt ((s.setF Reg.HST_POOL 10 0 vectors).setF Reg.HST_POOL 25 11 slots) 0

/-- The PF0 table entries that slices hold. -/
def takenVectors (s : State) : List Nat :=
  ((List.range 1025).filter (fun n => n != 0 && vinState s n != 0)).flatMap (fun n =>
    (List.range (s.fld (Reg.VIN_RES n) 27 22)).map (fun i => s.fld (Reg.VIN_VEC_BASE n) 10 0 + i))

/-- The lowest range of `k` free PF0 entries from 16 on (R293). -/
def vectorRange (s : State) (k : Nat) : Option Nat :=
  let taken := takenVectors s
  ((List.range 2032).map (fun i => i + 16)).find? (fun b =>
    decide (b + k ≤ 2048) && (List.range k).all (fun i => !taken.contains (b + i)))

/-! ### Creation (R279, R280) -/

/-- The partitions that a creation block names. -/
def blockParts (b : List Byte) : List (Nat × Nat) :=
  ((List.range 4).map (fun i => (leAt b (32 + 16 * i) 8, leAt b (40 + 16 * i) 8))).filter (fun p => p.2 != 0)

/-- Whether two ranges meet. -/
def rangesMeet (p q : Nat × Nat) : Bool := decide (p.1 < q.1 + q.2 ∧ q.1 < p.1 + p.2)

/-- The offset of the first field of a creation block that is out of range or asks for what the pool lacks
(R278-R280). -/
def blockFault (s : State) (n : Nat) (b : List Byte) : Option Nat :=
  let restore := bitOf (leAt b 7 1) 0
  let sq := leAt b 3 1
  let cq := leAt b 4 1
  let cmd := leAt b 5 1
  let others := ((List.range 1025).filter (fun m => m != 0 && m != n && vinState s m != 0)).flatMap
    (fun m => (s.inst m).parts)
  let bound := (List.range 1025).any (fun m => m != n && s.bit (Reg.VIN_PASID m) 31 &&
    s.fld (Reg.VIN_PASID m) 19 0 == leAt b 12 4)
  if leAt b 0 2 ≠ n ∨ 1024 < n ∨ (hostMode s = 1 ∧ 255 < n) then some 0
  else if leAt b 2 1 = 0 then some 2
  else if sq < 4 ∨ 16 < sq then some 3
  else if cq < sq ∨ 16 < cq then some 4
  else if cmd < 4 ∨ 8 < cmd then some 5
  else if 32 < leAt b 6 1 ∨ s.fld Reg.HST_POOL 10 0 < leAt b 6 1 ∨
      (hostMode s = 2 ∧ vectorRange s (leAt b 6 1) = none) then some 6
  else if 1 < leAt b 7 1 then some 7
  else if leAt b 8 2 < 8 ∨ 4096 < leAt b 8 2 ∨ s.fld Reg.HST_POOL 25 11 < leAt b 8 2 then some 8
  else if leAt b 10 2 ≠ 0 then some 10
  else if 2 ^ 20 ≤ leAt b 12 4 ∨ (hostMode s = 1 ∧ leAt b 12 4 ≠ 0) ∨ (hostMode s = 2 ∧ bound = true) then some 12
  else if (blockParts b).any (fun p => others.any (rangesMeet p)) = true then some 32
  else if restore = false ∧ ((b.drop 96).take 22).any (· != 0) = true then some 96
  else if 2 ^ sq ≤ leAt b 96 4 then some 96
  else if 2 ^ cq ≤ leAt b 100 4 then some 100
  else if 2 ^ cmd ≤ leAt b 104 2 then some 104
  else if 2 ^ cmd ≤ leAt b 106 2 then some 106
  else if 3 < leAt b 108 1 then some 108
  else if leAt b 109 3 ≠ 0 then some 109
  else if leAt b 118 10 ≠ 0 then some 118
  else none

/-- An instance created from its block (R280, R282). -/
def createInst (s : State) (n : Nat) (b : List Byte) : State :=
  let restore := bitOf (leAt b 7 1) 0
  let vecs := leAt b 6 1
  let s := s.wr (Reg.VIN_RES n) (BitVec.ofNat 32 (leAt b 2 1 + leAt b 3 1 * 2 ^ 8 + leAt b 4 1 * 2 ^ 13 +
    leAt b 5 1 * 2 ^ 18 + vecs * 2 ^ 22))
  let s := if hostMode s = 2 then
      (s.wr (Reg.VIN_PASID n) (BitVec.ofNat 32 (leAt b 12 4 + 2 ^ 31))).wr (Reg.VIN_VEC_BASE n)
        (BitVec.ofNat 32 ((vectorRange s vecs).getD 0))
    else s
  let s := setPool s (s.fld Reg.HST_POOL 10 0 - vecs) (s.fld Reg.HST_POOL 25 11 - leAt b 8 2)
  let s := s.setInst n { cqPhase := !restore || bitOf (leAt b 108 1) 0, rspPhase := !restore || bitOf (leAt b 108 1) 1,
                         parts := blockParts b, mask := leAt b 16 16, slots := leAt b 8 2 }
  let put (s : State) (a v : Nat) : State := s.wr a (BitVec.ofNat 32 v)
  let s := put (put (put (put s (Reg.VIN_SQ_HEAD n) (leAt b 96 4)) (Reg.VIN_SQ_TAIL n) (leAt b 96 4))
    (Reg.VIN_CQ_TAIL n) (leAt b 100 4)) (Reg.VIN_CQ_HEAD n) (leAt b 100 4)
  let s := put (put (put (put s (Reg.VIN_CMD_HEAD n) (leAt b 104 2)) (Reg.VIN_CMD_TAIL n) (leAt b 104 2))
    (Reg.VIN_RSP_TAIL n) (leAt b 106 2)) (Reg.VIN_RSP_HEAD n) (leAt b 106 2)
  let s := put s (Reg.VIN_SUBMITTED n) (leAt b 112 4)
  let s := if restore then s.setF (Reg.VIN_STAT n) 31 16 (leAt b 116 2) else s
  let s := syncOffers (setVinState s n 1)
  vinLog s Ev.INSTANCE_CREATED n (leBytes 1 vecs ++ leBytes 2 (leAt b 8 2) ++ leBytes 1 (leAt b 2 1) ++
    leBytes 1 (leAt b 3 1) ++ leBytes 1 (leAt b 4 1) ++ leBytes 1 (leAt b 5 1) ++ leBytes 4 (leAt b 12 4))

/-- A creation decided once its number is ABSENT (R280): the status, and the offset of the first failing
field. -/
def createFault (s : State) (n : Nat) (b : List Byte) : Option (Nat × Nat) :=
  if hostMode s = 0 then some (1, 0)
  else if n = 0 ∨ vinState s n ≠ 0 ∨ (hostMode s = 1 ∧ (s.host.vfEnable = false ∨ s.host.numVfs < n)) ∨
     (hostMode s = 2 ∧ s.host.pasidEnable = false) then some (3, 0)
  else (blockFault s n b).map (fun f => (6, f))

/-- A creation carried out or refused, and answered. -/
def tryCreate (s : State) (q : Option Sender) (w0 n : Nat) (b : List Byte) : State :=
  match createFault s n b with
  | some (st, f) => (vinLog s Ev.CREATE_REFUSED n (leBytes 1 st ++ leBytes 1 f)).reply q w0 st [] true
  | none => (createInst s n b).reply q w0 0 [] true

/-! ### Resets and destroys (R287-R289) -/

/-- Whether a waybill came from instance `n`: from its ring or its AUDIT_RANGE. -/
def fromInst (n : Nat) (w : Waybill) : Bool :=
  match w.src with
  | .ring m _ => m == n
  | .pass (.range (.inst m)) => m.val == n
  | .pass _ => false

/-- Whether an optional requester is instance `n`. -/
def isInst (n : Nat) (q : Option Sender) : Bool :=
  match q with
  | some (.inst m) => m.val == n
  | _ => false

/-- A follower of a commit with its requester gone. -/
def AfterCommit.orphan (n : Nat) (a : AfterCommit) : AfterCommit :=
  match a with
  | .answer q w => .answer (if isInst n q then none else q) w
  | .close q w => .close (if isInst n q then none else q) w
  | .rebuilt q w => .rebuilt (if isInst n q then none else q) w
  | .report q w k x => .report (if isInst n q then none else q) w k x
  | a => a

/-- Whether a follower of a commit will answer instance `n`. -/
def AfterCommit.names (n : Nat) (a : AfterCommit) : Bool :=
  match a with
  | .answer q _ => isInst n q
  | .close q _ => isInst n q
  | .rebuilt q _ => isInst n q
  | .report q _ _ _ => isInst n q
  | _ => false

/-- The answers that an instance's requests in progress still owe to requester `n`, and the instance without them
(R288 step 5). -/
def Inst.orphan (n : Nat) (x : Inst) : Nat × Inst :=
  let mine (w : Sender × Nat) : Bool := isInst n (some w.1)
  let cut (l : List (Sender × Nat)) : List (Sender × Nat) := l.filter (fun w => !mine w)
  let create := x.create.map (fun c => if isInst n c.1 then (none, c.2) else c)
  (((x.resetters ++ x.destroyers ++ x.quiescers ++ x.stoppers).filter mine).length +
      b2n (x.create.any (fun c => isInst n c.1)),
    { x with resetters := cut x.resetters, destroyers := cut x.destroyers, quiescers := cut x.quiescers,
             stoppers := cut x.stoppers, create := create })

/-- The answers that every instance's requests owe to instance 0, discarded and counted. -/
def orphanAll (s : State) (n : Nat) : State :=
  let owed := (s.host.insts.map (fun p => (p.2.orphan n).1)).sum
  let s := s.host.insts.foldl (fun s p => s.setInst p.1 ((s.inst p.1).orphan n).2) s
  s.addTo (Reg.VIN_LATE_DISCARD n) owed

/-- The waybills, items, completions, passes and answers of an instance discarded by its reset (R288 steps 2 to
6); each one counts in VIN_n_LATE_DISCARD. -/
def discardInst (s : State) (n : Nat) : State :=
  let waiting := (s.fix.waiting.filter (fromInst n)).length
  let held := ((heldItems s).filter (fun i => fromInst n i.wb && !i.dropped)).length
  let done := (s.fix.done.filter (fun p => p.1 == n)).length
  let forMe (a : Answer) : Bool := isInst n (some a.dest)
  let answers := (s.answers.filter forMe).length
  let later := (s.ledger.waits.filter (fun w => isInst n w.q)).length + ((s.ledger.after ++ s.ledger.queued).filter (AfterCommit.names n)).length
  let rangeOf (k : PassKey) : Bool := match k with
    | .range (.inst m) => m.val == n
    | _ => false
  let orphan (w : LdgWait) : LdgWait := if isInst n w.q then { w with q := none } else w
  let f := { s.fix with waiting := s.fix.waiting.filter (fun w => !fromInst n w),
                        done := s.fix.done.filter (fun p => p.1 != n),
                        passes := s.fix.passes.filter (fun p => !rangeOf p.key) }
  let l := { s.ledger with waits := s.ledger.waits.map orphan,
                           after := s.ledger.after.map (AfterCommit.orphan n), queued := s.ledger.queued.map (AfterCommit.orphan n) }
  let drop (i : WorkItem) : WorkItem := if fromInst n i.wb then { i with dropped := true } else i
  let s := { s with fix := f, ledger := l, answers := s.answers.filter (fun a => !forMe a),
                    engines := s.engines.map (fun (p : Nat × Engine) => (p.1, { p.2 with item := p.2.item.map drop })) }
  syncFix (s.addTo (Reg.VIN_LATE_DISCARD n) (waiting + held + done + answers + later))

/-- The finals that INST_QUIESCE owes are answered once every fetched waybill has completed or been discarded
(R286). -/
def quiesceCheck (s : State) (n : Nat) : State :=
  if slotsUsed s n ≠ 0 then s
  else
    let qs := (s.inst n).quiescers
    let s := s.setInst n { s.inst n with quiescers := [] }
    qs.foldl (fun s q => s.answer q.1 q.2 0 [] true) s

/-- Dirty logging ends (R292): the window returns to the pool.
DEDUCED (log entry 49). -/
def dirtyEnd (s : State) (n : Nat) : State :=
  let qs := (s.inst n).stoppers
  let s := s.setInst n { s.inst n with dirty := none, stoppers := [], stopping := false }
  let s := setWindows (s.setBit (Reg.VIN_STAT n) 6 false) (freeWindows s + 1)
  qs.foldl (fun s q => s.answer q.1 q.2 0 [] true) s

/-- A reset or destroy of an instance begins (R287, R288 step 1): `st` is RESETTING or DESTROYING. -/
def resetBegin (s : State) (n st cause : Nat) : State :=
  let s := s.setF (Reg.VIN_STAT n) 31 16 (vinGen s n + 1)
  let s := setVinState (s.setInst n { s.inst n with cause := cause, blocked := [] }) n st
  let s := s.setBit (Reg.VIN_STAT n) 6 false
  let s := quiesceCheck (discardInst (if n = 0 then orphanAll s 0 else s) n) n
  if (s.inst n).stopping then dirtyEnd s n else s

/-- An instance reset (R288, R289): merged with one in progress; `w` is the request it answers at its end. -/
def instReset (s : State) (n cause : Nat) (w : Option (Sender × Nat)) : State :=
  if vinState s n = 0 ∨ vinState s n = 5 then s
  else
    let s := if vinState s n = 4 then s else resetBegin s n 4 cause
    let mine := w.any (fun w => isInst n (some w.1))
    if mine then s.addTo (Reg.VIN_LATE_DISCARD n) 1
    else s.setInst n { s.inst n with resetters := (s.inst n).resetters ++ w.toList }

/-- A destroy (R280, R289): during a reset it waits for the reset's end. -/
def instDestroy (s : State) (n cause : Nat) (w : Option (Sender × Nat)) : State :=
  if n = 0 ∨ vinState s n = 0 then s
  else
    let s := if vinState s n = 5 then s
      else if vinState s n = 4 then s.setInst n { s.inst n with destroyNext := some cause }
      else resetBegin s n 5 cause
    s.setInst n { s.inst n with destroyers := (s.inst n).destroyers ++ w.toList }

/-- Indices and phases of an instance as R282 gives them, features_ok clears (R288 step 8), and with it enable and an
evaluation in progress.
DESIGN CHOICE (log entry 111). -/
def clearIndices (s : State) (n : Nat) : State :=
  let s := [Reg.VIN_SQ_TAIL n, Reg.VIN_SQ_HEAD n, Reg.VIN_CQ_TAIL n, Reg.VIN_CQ_HEAD n, Reg.VIN_CMD_TAIL n,
    Reg.VIN_CMD_HEAD n, Reg.VIN_RSP_TAIL n, Reg.VIN_RSP_HEAD n].foldl (fun s a => s.wr a 0) s
  let s := s.setInst n { s.inst n with cqPhase := true, rspPhase := true, unsigCq := 0, unsigRsp := 0 }
  let s := ((s.setBit (Reg.VIN_CTL n) 1 false).setBit (Reg.VIN_CTL n) 0 false).setBit (Reg.VIN_STAT n) 7 false
  if n = 0 then syncOffers s else s

/-- 0x3104 INSTANCE_RESET (R288). -/
def resetEvent (s : State) (n us : Nat) : State :=
  vinLog s Ev.INSTANCE_RESET n (leBytes 1 (s.inst n).cause ++ leBytes 2 (vinGen s n) ++ leBytes 4 us)

/-- The end of a destroy (R280): resources return to the pool; a creation that waited is decided. -/
def destroyEnd (s : State) (n : Nat) : State :=
  let x := s.inst n
  let s := setPool s (s.fld Reg.HST_POOL 10 0 + s.fld (Reg.VIN_RES n) 27 22) (s.fld Reg.HST_POOL 25 11 + x.slots)
  let s := if x.dirty.isSome then setWindows s (freeWindows s + 1) else s
  let s := s.setInst n {}
  let s := [Reg.VIN_RES n, Reg.VIN_PASID n, Reg.VIN_VEC_BASE n].foldl (fun s a => s.wr a 0) s
  let s := s.wrBytes (Reg.VIN_DEV_FEAT n 0) 4 []
  let s := vinLog (setVinState s n 0) Ev.INSTANCE_DESTROYED n (leBytes 2 (vinGen s n))
  let s := x.destroyers.foldl (fun s w => s.answer w.1 w.2 0 [] true) s
  match x.create with
  | some (q, w0, b) => tryCreate s q w0 n b
  | none => s

/-- The drain of a reset or destroy has ended after `us` µs (R288 steps 7 to 9). -/
def resetDone (s : State) (n us : Nat) : State :=
  if vinState s n = 4 then
    let x := s.inst n
    let s := resetEvent (clearIndices s n) n us
    let s := setVinState s n 1
    let s := s.setInst n { s.inst n with resetters := [] }
    let s := x.resetters.foldl (fun s w => s.answer w.1 w.2 0 [] true) s
    match x.destroyNext with
    | some cause =>
      let s := s.setInst n { s.inst n with destroyNext := none }
      resetBegin (s.setBit (Reg.VIN_STAT n) 3 false) n 5 cause
    | none =>
      if s.bit (Reg.VIN_STAT n) 3 then enableNow (s.setBit (Reg.VIN_STAT n) 3 false) n
      else s
  else if vinState s n = 5 then destroyEnd (resetEvent (clearIndices s n) n us) n
  else s

/-! ### Rings (R282, R283) -/

/-- The fields of a ring's registers: 0 SQ, 1 CQ, 2 CMD, 3 RSP. -/
def ringLog (s : State) (n ring : Nat) : Nat :=
  if ring = 0 then s.fld (Reg.VIN_RES n) 12 8
  else if ring = 1 then s.fld (Reg.VIN_RES n) 17 13
  else s.fld (Reg.VIN_RES n) 21 18

/-- The doorbell register, and the device's index register, of a ring. -/
def doorbellReg (n ring : Nat) : Nat :=
  if ring = 0 then Reg.VIN_SQ_TAIL n else if ring = 1 then Reg.VIN_CQ_HEAD n
  else if ring = 2 then Reg.VIN_CMD_TAIL n else Reg.VIN_RSP_HEAD n
def deviceReg (n ring : Nat) : Nat :=
  if ring = 0 then Reg.VIN_SQ_HEAD n else if ring = 1 then Reg.VIN_CQ_TAIL n
  else if ring = 2 then Reg.VIN_CMD_HEAD n else Reg.VIN_RSP_TAIL n

/-- (a - b) mod 2^lg. -/
def ringDiff (a b lg : Nat) : Nat := (a + 2 ^ lg - b % 2 ^ lg) % 2 ^ lg

/-- Whether a doorbell value is valid (R282); one at or beyond the depth is not.
DESIGN CHOICE (log entry 111). -/
def doorbellOk (s : State) (n ring v : Nat) : Bool :=
  let lg := ringLog s n ring
  let old := s.fld (doorbellReg n ring) 15 0
  let dev := s.fld (deviceReg n ring) 15 0
  decide (v < 2 ^ lg) &&
    (if ring = 0 ∨ ring = 2 then decide (ringDiff old dev lg ≤ ringDiff v dev lg)
      else decide (ringDiff v old lg ≤ ringDiff dev old lg))

/-- A doorbell write (R282): discarded outside ACTIVE and QUIESCED. -/
def doorbell (s : State) (n : Fin 1025) (ring v : Nat) : State :=
  if vinState s n.val ≠ 2 ∧ vinState s n.val ≠ 3 then s
  else if doorbellOk s n.val ring v then
    let s := s.setF (doorbellReg n.val ring) 15 0 v
    if ring = 3 then rspDrain s n else s
  else
    let head := s.fld (if ring = 0 ∨ ring = 2 then deviceReg n.val ring else doorbellReg n.val ring) 15 0
    let tail := s.fld (if ring = 0 ∨ ring = 2 then doorbellReg n.val ring else deviceReg n.val ring) 15 0
    let s := (s.setBit (Reg.VIN_STAT n.val) 5 true).inc (Reg.VIN_DB_BAD n.val)
    stateInt (vinLog s Ev.DOORBELL_BAD n.val (leBytes 1 ring ++ leBytes 2 v ++ leBytes 2 head ++ leBytes 2 tail)) n.val

/-- The number of slots of instance `n` (R278). -/
def slotsOf (s : State) (n : Nat) : Nat := if n = 0 then 1024 else (s.inst n).slots

/-- The host address of entry i of a ring with entries of `size` bytes. -/
def ringEntryAddr (s : State) (n ring i : Nat) : Nat :=
  (if ring = 0 then s.rd64 (Reg.VIN_SQ_BASE_LO n) (Reg.VIN_SQ_BASE_HI n) + 64 * i
   else if ring = 1 then s.rd64 (Reg.VIN_CQ_BASE_LO n) (Reg.VIN_CQ_BASE_HI n) + 32 * i
   else s.rd64 (Reg.VIN_CMD_BASE_LO n) (Reg.VIN_CMD_BASE_HI n) + 64 * i)

/-- Whether a producer ring of the host holds an entry. -/
def ringHolds (s : State) (n ring : Nat) : Bool :=
  s.fld (doorbellReg n ring) 15 0 != s.fld (deviceReg n ring) 15 0

/-- A fetched SQ entry (R242, R283): its sequence, its generation, and its checks. `list` and `block` are what the
reads of its scatter list and expected block bring, `kind` how a failed one was answered. -/
def sqEntry (s : State) (n : Nat) (w : List Byte) (list block : HostRead) (kind : Nat) : State :=
  let head := s.fld (Reg.VIN_SQ_HEAD n) 15 0
  let seq := (s.rd (Reg.VIN_SUBMITTED n)).toNat
  let s := s.setF (Reg.VIN_SQ_HEAD n) 15 0 ((head + 1) % 2 ^ ringLog s n 0)
  let s := s.wr (Reg.VIN_SUBMITTED n) (s.rd (Reg.VIN_SUBMITTED n) + 1)
  if wbGen w ≠ vinGen s n then s.inc (Reg.VIN_LATE_DISCARD n)
  else
    submit s ⟨.ring n seq, some n, takePad 64 w, [], [], [], false⟩ list block kind

/-- SQ_FETCH (R283): while ACTIVE with a free slot and an entry, and no power-fail warning (R401). -/
def sqFetch (s : State) (n : Nat) (entry list block : HostRead) (kind : Nat) : State :=
  if vinState s n ≠ 2 ∨ dmaIssues s n = false ∨ s.bit Reg.PWR_STAT 0 = true ∨ ringHolds s n 0 = false ∨
     slotsOf s n ≤ slotsUsed s n then s
  else
    let addr := ringEntryAddr s n 0 (s.fld (Reg.VIN_SQ_HEAD n) 15 0)
    match entry with
    | none => ringFails s n 0 addr kind
    | some w => if dmaFails s n then ringFails s n 0 addr 0 else syncFix (sqEntry s n w list block kind)

/-- CMD_FETCH (R285): the entry is taken; `entry` is what its read brings. -/
def cmdFetch (s : State) (n : Nat) (entry : HostRead) (kind : Nat) : State :=
  if vinState s n ≠ 2 ∨ dmaIssues s n = false ∨ ringHolds s n 2 = false then s
  else
    let head := s.fld (Reg.VIN_CMD_HEAD n) 15 0
    if entry = none ∨ dmaFails s n = true then ringFails s n 2 (ringEntryAddr s n 2 head) (if entry = none then kind else 0)
    else s.setF (Reg.VIN_CMD_HEAD n) 15 0 ((head + 1) % 2 ^ ringLog s n 2)

/-- CQ_POST (R283): the oldest finished completion written once there is room. -/
def cqPost (s : State) (n : Nat) : State :=
  match s.fix.done.find? (fun p => p.1 == n) with
  | none => s
  | some c =>
    let tail := s.fld (Reg.VIN_CQ_TAIL n) 15 0
    let lg := ringLog s n 1
    let addr := ringEntryAddr s n 1 tail
    if (vinState s n ≠ 2 ∧ vinState s n ≠ 3) ∨ dmaIssues s n = false ∨
       ringFull tail (s.fld (Reg.VIN_CQ_HEAD n) 15 0) lg = true then s
    else if dmaFails s n then ringFails s n 1 addr 0
    else if dirtyReady s n addr 32 = false then dirtyFull s n
    else
      let ph := (s.inst n).cqPhase
      let tail' := (tail + 1) % 2 ^ lg
      let s := { s with fix := { s.fix with done := s.fix.done.erase c } }
      let s := issueWrite s n addr (takePad 31 c.2 ++ leBytes 1 (b2n ph))
      let s := (s.setF (Reg.VIN_CQ_TAIL n) 15 0 tail').setInst n { s.inst n with cqPhase := if tail' = 0 then !ph else ph }
      quiesceCheck (intPosted (s.inc (Reg.VIN_COMPLETED n)) n 0) n

/-! ### Dirty logging (R290-R292) -/

/-- What waited for the dirty ring of instance `n` goes on. -/
def dirtyDrain (s : State) (n : Fin 1025) : State :=
  let s := drainBlocked ((s.inst n.val).blocked.length + 1) s n.val
  let s := if (s.inst n.val).blocked.isEmpty = true ∧ (s.inst n.val).stopping = true then dirtyEnd s n.val else s
  rspDrain s n

/-- A write of VIN_0_DIRTY_DB (R291): valid within the written entries; an invalid one counts as instance 0's.
DESIGN CHOICE (log entry 111). -/
def dirtyDb (s : State) (n : Fin 1025) (head : Nat) : State :=
  match (s.inst n.val).dirty with
  | none => s
  | some d =>
    let old := s.fld (Reg.VIN_DIRTY_IDX n.val) 31 16
    let tail := s.fld (Reg.VIN_DIRTY_IDX n.val) 15 0
    let k := ringDiff head old d.depth
    if head < 2 ^ d.depth ∧ k ≤ ringDiff tail old d.depth then
      let s := s.setInst n.val { s.inst n.val with dirty := some { d with recent := d.recent.drop k } }
      dirtyDrain (s.setF (Reg.VIN_DIRTY_IDX n.val) 31 16 head) n
    else
      let s := (s.setBit (Reg.VIN_STAT 0) 5 true).inc (Reg.VIN_DB_BAD 0)
      stateInt (vinLog s Ev.DOORBELL_BAD 0 (leBytes 1 4 ++ leBytes 2 head ++ leBytes 2 old ++ leBytes 2 tail)) 0

/-! ### Function resets (R270, R271) -/

/-- The ledger closed by a PF0 reset without a commit (R271). -/
def ledgerLost (s : State) : State :=
  if ldgState s = 0 then s
  else
    let waits := s.ledger.waits
    let after := s.ledger.after ++ s.ledger.queued
    let s := { s with ledger := { s.ledger with waits := [], after := [], queued := [] } }
    let s := waits.foldl (fun s w => s.reply w.q w.w0 3 [] true) s
    let s := after.foldl (fun s a => match a with
      | .answer q w => s.reply q w 3 [] true
      | .close q w => s.reply q w 3 [] true
      | .rebuilt q w => s.reply q w 3 [] true
      | .report q w _ _ => s.reply q w 3 [] true
      | _ => s) s
    endWaiting (closeLedger s) (fun w => wbLedger w.bytes) 0x14 0

/-- A PF0 reset (R270). -/
def pf0Reset (s : State) : State :=
  let s := ledgerLost s
  let s := ((List.range 1025).filter (fun n => n != 0 && vinState s n != 0)).foldl (fun s n => instDestroy s n 3 none) s
  let s := instReset s 0 3 none
  let s := ((s.setBit (Reg.VIN_CTL 0) 1 false).setBit (Reg.VIN_STAT 0) 7 false)
  let s := s.setL .pf0 Reg.HST_MODE 1 0 0
  { s with host := { s.host with vfEnable := false, numVfs := 0, bme := [], d3hot := [], pasidEnable := false,
                                 msix := [], doeError := false } }

/-- The HOST domain's hardware vote (R386): PERST_N is high. -/
def hostVote (s : State) : State := s.setBit (Reg.PWR_VOTE 23) 31 (!s.bit Reg.HST_LINK 10)

/-- The link goes down (R272). -/
def linkDown (s : State) (cause : Nat) : State :=
  let s := s.setF Reg.HST_LINK 9 0 0
  stateInt (s.log Ev.LINK_DOWN .pf0 0 (leBytes 1 cause)) 0

/-- Whether WAKE_N is driven low (R272).
DEDUCED (log entry 50). -/
def wakeN (s : State) : Bool :=
  s.bit Reg.HST_LINK 10 && s.bit Reg.HST_CTL 0 &&
    (s.evr.ram ++ s.evr.logLive).any (fun r => r.sev == .security && decide (s.host.perstSeq ≤ r.seq))

/-- Whether CLKREQ_N is driven low (R272): whenever PERST_N is high.
DEDUCED (log entry 50). -/
def clkreqN (s : State) : Bool := !s.bit Reg.HST_LINK 10

end Sys2Proof.Machine
end

