-- ==== Sys2Proof/Machine/AttOps.lean ====
section
/-! DEFINITION. Attestation and custody (R296-R313): the responder's contexts, messages, measurements,
sessions, vendor objects, custody bundles, and the refreshes of downstream peers. -/

namespace Sys2Proof.Machine

/-! ### Identity (R303, R304) -/

/-- The bytes of the key store in eNVM that are not erased. -/
def keyStore (s : State) : List (Nat × Byte) := s.mem.filter (fun c => inKeyStore c.1)

/-- Whether both chains are available (ATT_STAT.identity). -/
def identity (s : State) : Bool := s.bit Reg.ATT_STAT 10

/-- A certificate chain (R304): Length, the root hash, and the certificates from the root down to the Alias certificate of
this start. -/
def chain (s : State) (mldsa : Bool) : List Byte :=
  let certs := Config.storedCerts mldsa (keyStore s)
  let body := certs.flatten ++ s.att.aliases.getD (b2n mldsa) []
  leBytes 2 (52 + body.length) ++ [0, 0] ++ sha384 (certs.headD []) ++ body

/-- The serial number of an Alias certificate (R304). -/
def aliasSerial (pub : List Byte) : List Byte :=
  match (sha384 pub).take 20 with
  | [] => []
  | b :: bs => (b &&& 0x7F) :: bs

/-- The content of an Alias certificate (R304): issued by the DeviceID certificate, its fwids MREG_0 and MREG_4. -/
def aliasCert (s : State) (mldsa : Bool) (pub : List Byte) : List Byte :=
  Config.aliasContent ((Config.storedCerts mldsa (keyStore s)).getD 2 []) (aliasSerial pub) pub [mreg s 0, mreg s 4]

/-- A signature of an ML-DSA key over a message, hedged (R300): the first of `n` signings with fresh randomness that does
not end EXHAUSTED.
DESIGN CHOICE (log entry 112). -/
def mldsaDraw (s : State) (key m : List Byte) (n : Nat) : List Byte × State :=
  let one (k : Nat) : Option (List Byte) := mlSign key m (takePad 32 (Config.random (s.freeCtr + k) 32))
  (takePad 4627 (((List.range n).findSome? one).getD []), { s with freeCtr := s.freeCtr + n })

/-- Both Alias certificates built and signed with the DeviceID keys (R303 step 5). -/
def signAliases (s : State) (cdi seed : List Byte) : State :=
  let e := aliasCert s false (keyPair 1 seed).2
  let m := aliasCert s true (keyPair 2 seed).2
  let a := ecdsaDraw s (keyPair 1 cdi).1 (sha384 e) 8
  let b := mldsaDraw a.2 (keyPair 2 cdi).1 m 8
  { b.2 with att := { b.2.att with aliases := [Config.certDer false e a.1, Config.certDer true m b.1] } }

/-- Staged chains are copied into the key store (R371, R407). -/
def copyStaged (s : State) : State :=
  match s.lcs.staged with
  | none => s
  | some b =>
    let s := wipeMem s inKeyStore
    ({ s with lcs := { s.lcs with staged := none } } : State).wrMemN 0x10252000 (b.take 0x40000)

/-- The bytes of an ASCII string. -/
def ascii (x : String) : List Byte := x.toList.map (fun c => BitVec.ofNat 8 c.toNat)

/-- The ROM's identity steps (R303): slots 1-4 are derived and erased again, 5 and 6 hold the Alias keys. Chains whose
DeviceID keys are not those derived count as absent (R371). -/
def romIdentity (s : State) : State :=
  let s := copyStaged s
  let cdi := hkdf (s.sigKey 0).bytes none (ascii "TDX-DEVID") 48
  let seed := hkdf cdi (some (sha384 (mreg s 0 ++ mreg s 4))) (ascii "TDX-ALIAS") 48
  let s := (s.setSigKey 5 { ty := 1, mat := (keyPair 1 seed).1 }).setSigKey 6 { ty := 2, mat := (keyPair 2 seed).1 }
  let s := [0, 1, 2, 3, 4].foldl (fun s k => s.setSigKey k {}) s
  let ok := !(keyStore s).isEmpty && Config.deviceIdMatches (keyStore s) cdi
  let s := s.setBit Reg.ATT_STAT 10 ok
  if ok then signAliases s cdi seed else attLog { s with att := { s.att with aliases := [] } } Ev.NO_IDENTITY 0 []

/-! ### Contexts and responses (R297, R300) -/

/-- The context of a requester. -/
def ctxOf (s : State) (t e : Nat) : Option AttCtx :=
  s.att.ctxs.find? (fun c => c.transport == t && c.eid == e)

/-- A context changed. -/
def mapCtx (s : State) (t e : Nat) (f : AttCtx → AttCtx) : State :=
  { s with att := { s.att with ctxs := s.att.ctxs.map (fun c => if c.transport = t ∧ c.eid = e then f c else c) } }

/-- Whether a context holds a session. -/
def holdsSession (s : State) (c : AttCtx) : Bool :=
  s.att.sessions.any (fun x => x.transport == c.transport && x.eid == c.eid)

/-- The least recently used context that holds no session (R297). -/
def oldestCtx (s : State) : Option AttCtx :=
  (s.att.ctxs.filter (fun c => !holdsSession s c)).foldl (fun best c => match best with
    | none => some c
    | some b => if c.used < b.used then some c else best) none

/-- A context removed: its objects are freed (R309). -/
def dropCtx (s : State) (c : AttCtx) : State :=
  syncAtt { s with att := { s.att with
    ctxs := s.att.ctxs.filter (fun x => !(x.transport == c.transport && x.eid == c.eid)),
    objs := s.att.objs.filter (fun o => !(o.transport == c.transport && o.eid == c.eid)) } }

/-- The session with an ID. -/
def sessionOf (s : State) (id : Nat) : Option Session := s.att.sessions.find? (fun x => x.id == id)

/-- A context for a requester that has none (R297). -/
def takeCtx (s : State) (t e : Nat) : State :=
  if (ctxOf s t e).isSome then s
  else
    let s := if s.att.ctxs.length < 8 then s else match oldestCtx s with
      | some c => dropCtx s c
      | none => s
    if s.att.ctxs.length < 8 then
      syncAtt { s with att := { s.att with ctxs := s.att.ctxs ++ [{ transport := t, eid := e, used := s.ot }] } }
    else s

/-- A message sent.
PRESUMED (log entry 51). -/
def attSend (s : State) (t e : Nat) (ses : Option Nat) (code : Nat) (data : List Byte) : State :=
  { s with att := { s.att with out := s.att.out ++ [⟨t, e, ses, code, data⟩] } }

/-- An ERROR response (R298-R302): its code and data byte.
PRESUMED (log entry 51). -/
def attError (s : State) (t e : Nat) (ses : Option Nat) (err data : Nat) : State :=
  (attSend s t e ses 0x7F (leBytes 1 err ++ leBytes 1 data)).inc Reg.ATT_CNT_ERR

/-- A message dropped (R298): counted and logged with its case; ERROR InvalidRequest where the table says so
and a context exists, in the session the message came in. -/
def attDrop (s : State) (t e case' len : Nat) (reply : Bool) (ses : Option Nat := none) : State :=
  let s := (s.inc Reg.ATT_CNT_DROP).fwLog Ev.MSG_DROPPED t (leBytes 1 case' ++ leBytes 1 e ++ leBytes 4 len)
  if reply ∧ (ctxOf s t e).isSome then attError s t e (ses.filter (fun i => (sessionOf s i).isSome)) 0x01 0 else s

/-- Whether a transport answers SPDM (R296): DOE and VDM once the link trains, MCTP once it has an endpoint
ID. -/
def transportUp (s : State) (t : Nat) : Bool :=
  if t = 0 then s.bit Reg.HST_LINK 9
  else s.att.eids.any (fun p => p.1 == t) && (t != 1 || s.bit Reg.HST_LINK 9)

/-- A response ready `us` µs after its request (R300): a late one is counted and logged, a signed one not ready
within 4,096 µs is prepared and announced by ResponseNotReady. -/
def respond' (s : State) (t e : Nat) (ses : Option Nat) (req code : Nat) (data : List Byte) (signed : Bool) (us : Nat) :
    State :=
  let dts := ((ctxOf s t e).map AttCtx.dts).getD 8192
  if dts < data.length + 2 then attError s t e ses 0x0D 0
  else if signed = true ∧ 4096 < us then
    attError (mapCtx s t e (fun c => { c with prepared := some (code, data) })) t e ses 0x42 12
  else
    let s := attSend s t e ses code data
    if (if signed then 4096 else 1000) < us then
      (s.inc Reg.ATT_CNT_LATE).fwLog Ev.LATE_RESPONSE t (leBytes 1 req ++ leBytes 4 us)
    else s

/-- The bytes of a response: the request's version, the code, the data from param1 on. -/
def responseBytes (msg : List Byte) (code : Nat) (data : List Byte) : List Byte :=
  leBytes 1 (leAt msg 0 1) ++ leBytes 1 code ++ data

/-- A response that belongs to the context's transcript (R297), which grows by the request and the response as `note`
says. -/
def respondNoted (note : AttCtx → List Byte → AttCtx) (s : State) (t e : Nat) (ses : Option Nat) (msg : List Byte) (code : Nat)
    (data : List Byte) (us : Nat) : State :=
  respond' (mapCtx s t e (fun c => note c (msg ++ responseBytes msg code data))) t e ses (leAt msg 1 1) code data false us

/-- The part of a transcript that grows: the negotiation's, the certificates', the measurements'. -/
def noteVca (c : AttCtx) (b : List Byte) : AttCtx := { c with transcript := c.transcript ++ b }
def noteCerts (c : AttCtx) (b : List Byte) : AttCtx := { c with certs := c.certs ++ b }
def noteMeas (c : AttCtx) (b : List Byte) : AttCtx := { c with meas := c.meas ++ b }

/-- A context has been used (R297). -/
def touchCtx (s : State) (t e : Nat) : State := mapCtx s t e (fun c => { c with used := s.ot })

/-- A session's keys stand in slots 8-11 (A) or 12-15 (B) (R303). -/
def sessionSlot (x : Session) : Nat := if x.groupB then 12 else 8

/-- A message of an SPDM request has arrived (R296, R298): counted, and dropped where its length disagrees.
`want` is the length its code and fields imply. `f` answers it in its context. -/
def spdm (s : State) (t e : Nat) (ses : Option Nat) (msg : List Byte) (want : Nat) (f : State → AttCtx → State) : State :=
  if transportUp s t = false then s
  else
    let s := s.inc Reg.ATT_CNT_RX
    if msg.length < 4 then attDrop s t e 7 msg.length false
    else if msg.length ≠ want then attDrop s t e 4 msg.length true ses
    else if ses.any (fun i => (sessionOf s i).isNone) then attDrop s t e 6 msg.length false
    else match ctxOf s t e with
      | none => attError s t e ses 0x04 0
      | some c => f (touchCtx s t e) c

/-- A signature of the Alias ECDSA key over a digest (R299, R303). -/
def aliasSign (s : State) (dig : List Byte) : List Byte × State := ecdsaDraw s (s.sigKey 5).bytes dig 8

/-- The digest that an SPDM 1.2 or 1.3 signature signs: of a prefix that names the version and the signature's purpose, and
of the transcript's digest.
PRESUMED (log entry 51). -/
def spdmDigest (v : Nat) (label : String) (m : List Byte) : List Byte :=
  let one := ascii (if v = 0x13 then "dmtf-spdm-v1.3.*" else "dmtf-spdm-v1.2.*")
  sha384 (copies 4 one ++ List.replicate (36 - label.length) 0 ++ ascii label ++ sha384 m)

/-- A signature of the Alias ECDSA key over a transcript (R299, R303). -/
def spdmSign (s : State) (v : Nat) (label : String) (m : List Byte) : List Byte × State := aliasSign s (spdmDigest v label m)

/-- A signature of the Alias ML-DSA key over a message. -/
def aliasMldsa (s : State) (m : List Byte) : List Byte × State := mldsaDraw s (s.sigKey 6).bytes m 8

/-- Random bytes for firmware. -/
def attRandom (s : State) (n : Nat) : List Byte × State := drawRandom s n

/-! ### The requests (R299) -/

/-- GET_VERSION: takes a context and reports 1.2 and 1.3.
PRESUMED (log entry 51). -/
def getVersion (s : State) (t e : Nat) (msg : List Byte) (us : Nat) : State :=
  if transportUp s t = false then s
  else if msg.length < 4 then attDrop (s.inc Reg.ATT_CNT_RX) t e 7 msg.length false
  else if msg.length ≠ 4 then attDrop (s.inc Reg.ATT_CNT_RX) t e 4 msg.length true
  else
    let s := takeCtx (s.inc Reg.ATT_CNT_RX) t e
    let s := mapCtx s t e (fun c => { c with version := true, caps := false, algs := none, transcript := [], certs := [], meas := [], used := s.ot })
    if (ctxOf s t e).isNone then s
    else respondNoted noteVca s t e none msg 0x04 ([0, 0, 0, 2] ++ leBytes 2 0x1200 ++ leBytes 2 0x1300) us

/-- The capability flags of R299. -/
def capFlags : Nat := 2 + 4 + 0x10 + 0x20 + 0x40 + 0x80 + 0x200 + 0x2000

/-- GET_CAPABILITIES.
PRESUMED (log entry 51). -/
def getCapabilities (s : State) (t e : Nat) (ses : Option Nat) (msg : List Byte) (us : Nat) : State :=
  spdm s t e ses msg 20 (fun s c =>
    if c.version = false then attError s t e ses 0x04 0
    else
      let s := mapCtx s t e (fun c => { c with caps := true, dts := leAt msg 12 4 })
      respondNoted noteVca s t e ses msg 0x61 ([0, 0, 0, 12, 0, 0] ++ leBytes 4 capFlags ++ leBytes 4 8192 ++ leBytes 4 8192) us)

/-- NEGOTIATE_ALGORITHMS; `supported` tells whether the requester offers the choices of R299.
PRESUMED (log entry 51). -/
def negotiateAlgorithms (s : State) (t e : Nat) (ses : Option Nat) (msg : List Byte) (supported : Bool) (us : Nat) :
    State :=
  spdm s t e ses msg (leAt msg 4 2) (fun s c =>
    if c.caps = false then attError s t e ses 0x04 0
    else
      let s := mapCtx s t e (fun c => { c with algs := some supported })
      let sel (v : Nat) : Nat := if supported then v else 0
      respondNoted noteVca s t e ses msg 0x63 ([3, 0] ++ leBytes 2 48 ++ leBytes 1 1 ++ [0] ++ leBytes 4 (sel 2) ++
        leBytes 4 (sel 0x80) ++ leBytes 4 (sel 2) ++ List.replicate 16 0 ++
        leBytes 2 2 ++ leBytes 2 (sel 0x10) ++ leBytes 2 3 ++ leBytes 2 (sel 2) ++ leBytes 2 5 ++ leBytes 2 (sel 1)) us)

/-- Whether a context may use the requests that need algorithms (R299). -/
def algsOk (c : AttCtx) : Bool := c.algs == some true

/-- A request that needs negotiated algorithms: UnexpectedRequest before NEGOTIATE_ALGORITHMS, UnsupportedRequest
where it selected nothing. -/
def needAlgs (s : State) (t e : Nat) (ses : Option Nat) (c : AttCtx) (f : State → State) : State :=
  match c.algs with
  | none => attError s t e ses 0x04 0
  | some false => attError s t e ses 0x07 0
  | some true => f s

/-- GET_DIGESTS: slot 0 (R304). -/
def getDigests (s : State) (t e : Nat) (ses : Option Nat) (msg : List Byte) (us : Nat) : State :=
  spdm s t e ses msg 4 (fun s c => needAlgs s t e ses c (fun s =>
    if identity s = false then attError s t e ses 0x05 0
    else respondNoted noteCerts s t e ses msg 0x01 ([0, 1] ++ (sha384 (chain s false))) us))

/-- GET_CERTIFICATE of slot 0. -/
def getCertificate (s : State) (t e : Nat) (ses : Option Nat) (msg : List Byte) (us : Nat) : State :=
  spdm s t e ses msg 8 (fun s c => needAlgs s t e ses c (fun s =>
    let off := leAt msg 4 2
    let all := chain s false
    if identity s = false then attError s t e ses 0x05 0
    else if leAt msg 2 1 % 16 ≠ 0 ∨ all.length ≤ off then attError s t e ses 0x01 0
    else
      let part := (all.drop off).take (min (leAt msg 6 2) (min 8184 (c.dts - 8)))
      respondNoted noteCerts s t e ses msg 0x02 ([0, 0] ++ leBytes 2 part.length ++ leBytes 2 (all.length - off - part.length) ++ part) us))

/-! ### Measurements (R307) -/

/-- The measurement of an index: type and value. -/
def measurement (s : State) (i : Nat) : Option (Nat × List Byte) :=
  if 1 ≤ i ∧ i ≤ 16 then
    some (if i = 1 then 0x00 else if i = 2 then 0x01 else if i ≤ 4 then 0x03 else if i ≤ 8 then 0x02 else 0x01, mreg s (i - 1))
  else if 32 ≤ i ∧ i ≤ 95 then
    (compEntry s (i - 32)).map (fun _ =>
      (0x01, if [2, 3, 4, 6].contains (compState s (i - 32)) then takePad 48 (((s.upd.mds.find? (fun p => p.1 == i - 32)).map Prod.snd).getD [])
        else List.replicate 48 0))
  else if i = 100 then some (0x84, ldgRoot s ++ leBytes 8 (ldgEpoch s))
  else if 101 ≤ i ∧ i ≤ 116 then
    match s.att.ds.find? (fun p => p.1 == i - 101) with
    | some (_, en) => if bitOf (leAt en 4 1) 0 then
        some (0x04, takePad 48 (((s.att.dsVal.find? (fun p => p.1 == i - 101)).map Prod.snd).getD [])) else none
    | none => none
  else none

/-- A measurement block in DMTF form. -/
def measBlock (i : Nat) (m : Nat × List Byte) : List Byte :=
  leBytes 1 i ++ [1] ++ leBytes 2 (m.2.length + 3) ++ leBytes 1 m.1 ++ leBytes 2 m.2.length ++ m.2

/-- The blocks that an index names; 0xFF names all (R307). -/
def measBlocks (s : State) (i : Nat) : List (List Byte) :=
  if i = 0xFF then (List.range 117).filterMap (fun k => (measurement s k).map (measBlock k))
  else ((measurement s i).map (measBlock i)).toList

/-- The summary hash over all measurements that CHALLENGE and KEY_EXCHANGE ask for: none, the immutable ones, all. -/
def measSummary (s : State) (kind : Nat) : List Byte :=
  if kind = 0 then [] else if kind = 1 then (sha384 (((measBlocks s 1)).flatten))
  else (sha384 ((measBlocks s 0xFF).flatten))

/-- GET_MEASUREMENTS. -/
def getMeasurements (s : State) (t e : Nat) (ses : Option Nat) (msg : List Byte) (us : Nat) : State :=
  let signed := bitOf (leAt msg 2 1) 0
  let want := if signed then (if leAt msg 0 1 = 0x13 then 45 else 37) else 4
  spdm s t e ses msg want (fun s c =>
    let blocks := measBlocks s (leAt msg 3 1)
    let body (s : State) : List Byte × State :=
      let r := attRandom s 32
      let rec' := blocks.flatten
      let d := [0, 0] ++ leBytes 1 blocks.length ++ leBytes 3 rec'.length ++ rec' ++ r.1 ++ leBytes 2 0 ++
        (if leAt msg 0 1 = 0x13 then takePad 8 (msg.drop 37) else [])
      if signed then
        let g := spdmSign r.2 (leAt msg 0 1) "responder-measurements signing" (c.transcript ++ c.meas ++ msg ++ responseBytes msg 0x60 d)
        (d ++ g.1, g.2)
      else (d, r.2)
    if blocks.isEmpty = true ∨ (signed = true ∧ leAt msg 36 1 % 16 ≠ 0) then attError s t e ses 0x01 0
    else if signed then
      needAlgs s t e ses c (fun s => let b := body s; respond' (mapCtx b.2 t e (fun c => { c with meas := [] })) t e ses 0xE0 0x60 b.1 true us)
    else let b := body s; respondNoted noteMeas b.2 t e ses msg 0x60 b.1 us)

/-- CHALLENGE of slot 0. -/
def challenge (s : State) (t e : Nat) (ses : Option Nat) (msg : List Byte) (us : Nat) : State :=
  let want := if leAt msg 0 1 = 0x13 then 44 else 36
  spdm s t e ses msg want (fun s c => needAlgs s t e ses c (fun s =>
    if identity s = false then attError s t e ses 0x05 0
    else if leAt msg 2 1 ≠ 0 then attError s t e ses 0x01 0
    else
      let r := attRandom s 32
      let d := [0, 1] ++ (sha384 (chain s false)) ++ r.1 ++
        measSummary s (min 2 (leAt msg 3 1)) ++ leBytes 2 0 ++ (msg.drop 36)
      let g := spdmSign r.2 (leAt msg 0 1) "responder-challenge_auth signing" (c.transcript ++ c.certs ++ msg ++ responseBytes msg 0x03 d)
      respond' (mapCtx g.2 t e (fun c => { c with certs := [] })) t e ses 0x83 0x03 (d ++ g.1) true us))

/-! ### Sessions (R299-R302) -/

/-- The length KEY_EXCHANGE's fields imply. -/
def keyExchangeLen (msg : List Byte) : Nat := 4 + 2 + 1 + 1 + 32 + 96 + 2 + leAt msg 136 2

/-- The info string of an HKDF expansion of the SPDM key schedule (DSP0274). `v` is the version byte of the message.
PRESUMED (log entry 51). -/
def binConcat (v len : Nat) (label : String) (context : List Byte) : List Byte :=
  leBytes 2 len ++ ascii (if v = 0x13 then "spdm1.3 " else "spdm1.2 ") ++ ascii label ++ context

/-- A secret expanded under a label of the key schedule. -/
def expandAs (secret : List Byte) (v len : Nat) (label : String) (context : List Byte) : List Byte :=
  hkdf secret none (binConcat v len label context) len

/-- A session's secrets of both directions and their keys put into its slots: the requester's secret, the responder's,
the requester's key, the responder's (R301, R303). -/
def putSecrets (s : State) (base v : Nat) (req rsp : List Byte) : State :=
  let s := (s.setSigKey base { ty := 4, session := true, mat := req }).setSigKey (base + 1) { ty := 4, session := true, mat := rsp }
  (s.setSigKey (base + 2) { ty := 5, session := true, mat := expandAs req v 32 "key" [] }).setSigKey (base + 3)
    { ty := 5, session := true, mat := expandAs rsp v 32 "key" [] }

/-- The verify data of a direction: the MAC of a transcript under the finished key of its secret. -/
def verifyData (secret : List Byte) (v : Nat) (transcript : List Byte) : List Byte :=
  hmac384 (expandAs secret v 48 "finished" []) (sha384 transcript)

/-- KEY_EXCHANGE: a handshake opens, its keys go to a free slot group (R301, R303). A point that is none is an invalid
request. -/
def keyExchange (s : State) (t e : Nat) (ses : Option Nat) (msg : List Byte) (us : Nat) : State :=
  spdm s t e ses msg (keyExchangeLen msg) (fun s c => needAlgs s t e ses c (fun s =>
    let v := leAt msg 0 1
    if identity s = false then attError s t e ses 0x05 0
    else if 2 ≤ s.att.sessions.length then attError s t e ses 0x0A 0
    else if s.att.sessions.any (fun x => !x.established) then attError s t e ses 0x03 0
    else if leAt msg 3 1 ≠ 0 then attError s t e ses 0x01 0
    else match ecDecode (4 :: (msg.drop 40).take 96) with
    | none => attError s t e ses 0x01 0
    | some q =>
      let r := attRandom s 34
      let groupB := s.att.sessions.any (fun x => !x.groupB)
      let id := leAt msg 4 2 + leNat (r.1.take 2) * 65536
      let k := drawRandom r.2 48
      let base := if groupB then 12 else 8
      let d := leBytes 1 60 ++ [0] ++ r.1.take 2 ++ [0, 0] ++ r.1.drop 2 ++ (ecPublic k.1).drop 1 ++
        measSummary k.2 (min 2 (leAt msg 2 1)) ++ leBytes 2 0
      let hs := c.transcript ++ sha384 (chain s false) ++ msg ++ responseBytes msg 0x64 d
      let g := spdmSign k.2 v "responder-key_exchange_rsp signing" hs
      let secret := hmac384 (List.replicate 48 0) (ecShared k.1 (some q))
      let th := sha384 (hs ++ g.1)
      let rsp := expandAs secret v 48 "rsp hs data" th
      let mac := verifyData rsp v (hs ++ g.1)
      let x : Session := { id := id, transport := t, eid := e, established := false, groupB := groupB, ver := v, hs := hs ++ g.1 ++ mac }
      let s := syncAtt { g.2 with att := { g.2.att with sessions := g.2.att.sessions ++ [x] } }
      let s := putSecrets (s.setSigKey 7 { ty := 4, session := true, mat := secret }) base v
        (expandAs secret v 48 "req hs data" th) rsp
      respond' s t e ses 0xE4 0x64 (d ++ g.1 ++ mac) true us))

/-- The slots of a session erased and the session closed (R302). -/
def endSession (s : State) (id cause : Nat) : State :=
  match sessionOf s id with
  | none => s
  | some x =>
    let s := (List.range 4).foldl (fun s k => s.setSigKey (sessionSlot x + k) {}) s
    closeSessions s (fun y => y.id == id) cause

/-- FINISH: the requester's finished MAC decides (R299, R301).
DEDUCED (log entry 53). -/
def finish (s : State) (t e : Nat) (ses : Option Nat) (msg : List Byte) (us : Nat) : State :=
  spdm s t e ses msg 52 (fun s _ =>
    match ses.bind (sessionOf s) with
    | none => attError s t e ses 0x04 0
    | some x =>
      if x.established then attError s t e ses 0x04 0
      else
        let v := leAt msg 0 1
        let base := sessionSlot x
        let mac := verifyData (s.sigKey base).bytes v (x.hs ++ msg.take 4)
        if mac ≠ (msg.drop 4).take 48 then
          endSession (attError s t e ses 0x06 0) x.id 2
        else
          let up (y : Session) : Session := if y.id = x.id then { y with established := true, got := 0, hs := [] } else y
          let s := { s with att := { s.att with sessions := s.att.sessions.map up } }
          let master := hmac384 (expandAs (s.sigKey 7).bytes v 48 "derived" []) (List.replicate 48 0)
          let th := sha384 (x.hs ++ msg ++ responseBytes msg 0x65 [0, 0])
          let s := putSecrets (s.setSigKey 7 {}) base v (expandAs master v 48 "req app data" th)
            (expandAs master v 48 "rsp app data" th)
          let s := attLog (syncAtt s) Ev.SESSION_OPENED t (leBytes 4 x.id ++ leBytes 1 e)
          respond' s t e ses 0xE5 0x65 [0, 0] false us)

/-- HEARTBEAT in an established session. -/
def heartbeat (s : State) (t e : Nat) (ses : Option Nat) (msg : List Byte) (us : Nat) : State :=
  spdm s t e ses msg 4 (fun s _ =>
    match ses.bind (sessionOf s) with
    | some x => if x.established then respond' s t e ses 0xE8 0x68 [0, 0] false us else attError s t e ses 0x04 0
    | none => attError s t e ses 0x04 0)

/-- END_SESSION. -/
def endSessionReq (s : State) (t e : Nat) (ses : Option Nat) (msg : List Byte) (us : Nat) : State :=
  spdm s t e ses msg 4 (fun s _ =>
    match ses.bind (sessionOf s) with
    | some x => endSession (respond' s t e ses 0xEC 0x6C [0, 0] false us) x.id 0
    | none => attError s t e ses 0x04 0)

/-- RESPOND_IF_READY: a prepared response is collected (R300). -/
def respondIfReady (s : State) (t e : Nat) (ses : Option Nat) (msg : List Byte) (us : Nat) : State :=
  spdm s t e ses msg 4 (fun s c =>
    match c.prepared with
    | some (code, data) =>
      respond' (mapCtx s t e (fun c => { c with prepared := none })) t e ses 0xFF code data false us
    | none =>
      if s.att.exporting.any (fun x => x.1 == t && x.2.1 == e) || s.att.importing.any (fun x => x.1 == t && x.2.1 == e)
      then attError s t e ses 0x42 12 else attError s t e ses 0x04 0)

/-- The IV of a requester's message in a session: the first 12 bytes of the MAC of R301, with the message's sequence
number.
PRESUMED (log entry 51). -/
def messageIv (s : State) (x : Session) : List Byte :=
  let iv := (hmac384 (s.sigKey (sessionSlot x)).bytes (binConcat x.ver 12 "iv" [] ++ [1])).take 12
  List.zipWith (· ^^^ ·) iv (leBytes 12 x.got)

/-- A secured message (R298 case 6, R302): decrypted under its session's key, with the record's session ID, sequence
number and length as associated data.
PRESUMED (log entry 51). -/
def securedMessage (s : State) (t e id declared : Nat) (cipher : List Byte) : State :=
  let s := s.inc Reg.ATT_CNT_RX
  match sessionOf s id with
  | none => attDrop s t e 6 cipher.length false
  | some x =>
    let aad := leBytes 4 id ++ (if t = 0 then [] else leBytes 2 x.got) ++ leBytes 2 cipher.length
    if declared ≠ cipher.length ∨ aeadOpen (s.sigKey (sessionSlot x + 2)).bytes (messageIv s x) aad cipher = none then
      endSession (attDrop s t e 6 cipher.length false) id 2
    else
      let next (y : Session) : Session := if y.id = id then { y with got := y.got + 1 } else y
      mapCtx { s with att := { s.att with sessions := s.att.sessions.map next } } t e (fun c => { c with used := s.ot })

/-! ### Objects (R308-R310) -/

/-- A response to a vendor operation (R308): operation, status, handle, total length, data. -/
def vendorData (op status handle total : Nat) (data : List Byte) : List Byte :=
  leBytes 2 3 ++ leBytes 1 2 ++ leBytes 2 0x1F3B ++ leBytes 2 (8 + data.length) ++
    leBytes 1 op ++ leBytes 1 status ++ leBytes 2 handle ++ leBytes 4 total ++ data

/-- A vendor operation has arrived (R298 case 5, R308). `want` is its payload's length; its payload starts at
byte 11 of the message. -/
def vendor (s : State) (t e : Nat) (ses : Option Nat) (msg : List Byte) (want feature : Nat)
    (f : State → AttCtx → List Byte → State) : State :=
  if transportUp s t = false then s
  else
    let s := s.inc Reg.ATT_CNT_RX
    let p := msg.drop 11
    if msg.length < 4 then attDrop s t e 7 msg.length false
    else if leAt msg 9 2 ≠ p.length ∨ p.length ≠ want then attDrop s t e 5 msg.length true ses
    else if ses.any (fun i => (sessionOf s i).isNone) then attDrop s t e 6 msg.length false
    else match ctxOf s t e with
      | none => attError s t e ses 0x04 0
      | some c =>
        if t ≤ 1 ∧ feature ≠ 0 ∧ hasFeature s 0 feature = false then attError s t e ses 0x07 0
        else f (touchCtx s t e) c p

/-- A free handle (R309): handles are numbered from 1. -/
def freeHandle (s : State) : Nat :=
  ((List.range 5).find? (fun h => h != 0 && s.att.objs.all (fun o => o.handle != h))).getD 0

/-- Whether no buffer is free (R309); the object of a custody operation in progress has its own. -/
def buffersFull (s : State) : Bool :=
  decide (4 ≤ s.att.objs.length + b2n s.att.exporting.isSome + b2n s.att.importing.isSome)

/-- An object put into a buffer for a context. -/
def putObject (s : State) (t e : Nat) (upload : Bool) (bytes : List Byte) : State × Nat :=
  let h := freeHandle s
  (syncAtt { s with att := { s.att with objs := s.att.objs ++ [⟨h, t, e, upload, bytes⟩] } }, h)

/-- The object of a handle, which belongs to its context alone. -/
def objectOf (s : State) (t e h : Nat) : Option AttObj :=
  s.att.objs.find? (fun o => o.handle == h && o.transport == t && o.eid == e)

/-- A signature entry (R174): signer 3, key index 0, padded to 8 bytes. -/
def aliasEntry (ty : Nat) (sig : List Byte) : List Byte :=
  leBytes 1 ty ++ [3, 0, 0] ++ leBytes 4 sig.length ++ takePad ((sig.length + 7) / 8 * 8) sig

/-- An object: envelope, body, signatures (R310). `sigs`: [0] ECDSA, [1] ML-DSA. -/
def signObject (s : State) (kind : Nat) (body : List Byte) (sigs : Nat) : List Byte × State :=
  let n := b2n (bitOf sigs 0) + b2n (bitOf sigs 1)
  let total := 64 + body.length + (if bitOf sigs 0 then 104 else 0) + (if bitOf sigs 1 then 4640 else 0)
  let h := leBytes 4 0x4A424F54 ++ leBytes 2 1 ++ leBytes 1 kind ++ leBytes 1 n ++ leBytes 4 body.length ++
    leBytes 4 total ++ s.rdBytes (Reg.LCS_SERIAL 0) 4 ++ leBytes 4 s.pcc ++ leBytes 6 s.ot ++ List.replicate 22 0
  let d := (sha384 (h ++ body))
  let a := if bitOf sigs 0 then
      let g := aliasSign s d; (aliasEntry 1 g.1, g.2)
    else ([], s)
  let b := if bitOf sigs 1 then let g := aliasMldsa a.2 d; (aliasEntry 2 g.1, g.2) else ([], a.2)
  (h ++ body ++ a.1 ++ b.1, b.2)

/-- A vendor answer with a status and no data. -/
def vendorStatus (s : State) (t e : Nat) (ses : Option Nat) (op status handle us : Nat) : State :=
  respond' s t e ses 0xFE 0x7E (vendorData op status handle 0 []) false us

/-- GET_PQC_CHAIN (R308). -/
def getPqcChain (s : State) (t e : Nat) (ses : Option Nat) (msg : List Byte) (us : Nat) : State :=
  vendor s t e ses msg 8 9 (fun s _ p =>
    let all := chain s true
    if identity s = false then attError s t e ses 0x05 0
    else if 4096 < leAt p 6 2 ∨ all.length < leAt p 4 2 then vendorStatus s t e ses 1 6 0 us
    else respond' s t e ses 0xFE 0x7E (vendorData 1 0 0 all.length ((all.drop (leAt p 4 2)).take (leAt p 6 2))) false us)

/-- An operation that prepares a signed object for a context (R308, R309). -/
def prepareObject (s : State) (t e : Nat) (ses : Option Nat) (op kind : Nat) (body : List Byte) (sigs us : Nat) : State :=
  if buffersFull s then vendorStatus s t e ses op 2 0 us
  else
    let o := signObject s kind body sigs
    let r := putObject o.2 t e false o.1
    respond' r.1 t e ses 0xFE 0x7E (vendorData op 0 r.2 o.1.length []) true us

/-- PQC_ATTEST (R308): the attestation body of R310. -/
def pqcAttest (s : State) (t e : Nat) (ses : Option Nat) (msg : List Byte) (us : Nat) : State :=
  vendor s t e ses msg 38 9 (fun s _ p =>
    let i := leAt p 36 1
    let blocks := if i = 0 then [] else measBlocks s i
    if leAt p 37 1 % 4 = 0 ∨ (i ≠ 0 ∧ blocks.isEmpty = true) then vendorStatus s t e ses 2 6 0 us
    else
      let r := attRandom s 32
      prepareObject r.2 t e ses 2 1 ((p.drop 4).take 32 ++ r.1 ++ leBytes 4 blocks.length ++ leBytes 4 0 ++ blocks.flatten)
        (leAt p 37 1 % 4) us)

/-- The key of the report that an argument names: a timetable entry, or the requester's last range. -/
def reportKey (q : Sender) (arg : Nat) : PassKey := if arg = 0xFFFF then .range q else .entry arg

/-- The requester that a transport stands for (R308, R264): DOE and VDM are PF0's. -/
def transportSender (t : Nat) : Sender :=
  if t ≤ 1 then .inst 0 else .agent (if t = 2 then 0 else if t = 3 then 1 else if t = 4 then 2 else 3)

/-- GET_REPORT (R308). -/
def getReport (s : State) (t e : Nat) (ses : Option Nat) (msg : List Byte) (us : Nat) : State :=
  vendor s t e ses msg 4 0 (fun s _ p =>
    match bodyOf s (reportKey (transportSender t) (leAt p 2 2)) with
    | none => vendorStatus s t e ses 3 6 0 us
    | some b => prepareObject s t e ses 3 2 (signedBody s b) 3 us)

/-- PUT_OBJECT (R308). -/
def putObjectReq (s : State) (t e : Nat) (ses : Option Nat) (msg : List Byte) (us : Nat) : State :=
  vendor s t e ses msg (10 + leAt msg 19 2) 8 (fun s _ p =>
    let h := leAt p 2 2
    let off := leAt p 4 4
    let data := p.drop 10
    if 4096 < data.length then vendorStatus s t e ses 5 6 h us
    else if h = 0 then
      if buffersFull s then vendorStatus s t e ses 5 2 0 us
      else if off ≠ 0 then vendorStatus s t e ses 5 6 0 us
      else let r := putObject s t e true data; vendorStatus r.1 t e ses 5 0 r.2 us
    else match objectOf s t e h with
      | none => vendorStatus s t e ses 5 6 h us
      | some o =>
        if o.upload = false ∨ off ≠ o.bytes.length ∨ 65536 < off + data.length then vendorStatus s t e ses 5 6 h us
        else
          let s := { s with att := { s.att with objs := s.att.objs.map (fun x =>
            if x.handle = h then { x with bytes := x.bytes ++ data } else x) } }
          vendorStatus s t e ses 5 0 h us)

/-- GET_OBJECT (R308); handle 0xFFFE is the stored countersignature. -/
def getObject (s : State) (t e : Nat) (ses : Option Nat) (msg : List Byte) (us : Nat) : State :=
  vendor s t e ses msg 10 0 (fun s _ p =>
    let h := leAt p 2 2
    let o := if h = 0xFFFE then (if s.att.counter.isEmpty then none else some s.att.counter)
      else (objectOf s t e h).map AttObj.bytes
    match o with
    | none => vendorStatus s t e ses 7 6 h us
    | some b =>
      if 4096 < leAt p 8 2 ∨ b.length < leAt p 4 4 then vendorStatus s t e ses 7 6 h us
      else respond' s t e ses 0xFE 0x7E (vendorData 7 0 h b.length ((b.drop (leAt p 4 4)).take (leAt p 8 2))) false us)

/-- A buffer freed (R309). -/
def freeObject (s : State) (h : Nat) : State :=
  syncAtt { s with att := { s.att with objs := s.att.objs.filter (fun o => o.handle != h) } }

/-- RELEASE_OBJECT (R308). -/
def releaseObject (s : State) (t e : Nat) (ses : Option Nat) (msg : List Byte) (us : Nat) : State :=
  vendor s t e ses msg 4 0 (fun s _ p =>
    match objectOf s t e (leAt p 2 2) with
    | none => vendorStatus s t e ses 8 6 (leAt p 2 2) us
    | some o => vendorStatus (freeObject s o.handle) t e ses 8 0 o.handle us)

/-! ### Custody (R311) -/

/-- Whether a context may send CUSTODY_EXPORT and CUSTODY_IMPORT: I3C-0's and PF0's. -/
def custodyCtx (t : Nat) : Bool := decide (t ≤ 2)

/-- The body of a custody bundle (R311). -/
def bundleBody (s : State) : List Byte :=
  let logged := (s.evr.logLive.map (fun r => r.seq)).foldl (fun l q => l.takeWhile (fun x => decide (x < q)) ++ [q] ++
    l.dropWhile (fun x => decide (x < q))) ([] : List Nat)
  let recs := logged.filterMap (fun q => s.evr.logLive.find? (fun r => r.seq == q))
  let e := chain s false
  let m := chain s true
  ldgRoot s ++ leBytes 8 (ldgEpoch s) ++ leBytes 4 s.ledger.cap ++ leBytes 4 s.fix.reportSeq ++
    (sha384 (recs.flatMap Record.bytes)) ++ leBytes 4 (logged.headD 0) ++ leBytes 4 (logged.getLastD 0) ++
    leBytes 4 (evidence s) ++ leBytes 4 (b2n (s.bit Reg.TMP_EVIDENCE 31) + 2 * b2n (lockedDown s)) ++ mregSummary s ++
    leBytes 8 (s.rd64 Reg.LDG_REBUILT_LO Reg.LDG_REBUILT_HI) ++ leBytes 4 e.length ++ leBytes 4 m.length ++
    List.replicate 80 0 ++ e ++ m

/-- A deferred vendor answer becomes ready (R300): kept as the context's prepared response. -/
def vendorReady (s : State) (t e op status handle total : Nat) : State :=
  mapCtx s t e (fun c => { c with prepared := some (0x7E, vendorData op status handle total []) })

/-- The export's epoch is committed: the ledger is HELD, the bundle is built (R311). -/
def exportFinish (s : State) : State :=
  match s.att.exporting with
  | none => s
  | some (t, e, _) =>
    let s := { s with att := { s.att with exporting := none } }
    let s := if ldgState s = 2 then setLdgState s 4 else s
    let o := signObject s 3 (bundleBody s) 3
    let s := attLog o.2 Ev.CUSTODY_EXPORTED t (leBytes 8 (ldgEpoch s) ++ ((sha384 o.1)).take 28)
    let r := putObject s t e false o.1
    vendorReady r.1 t e 4 0 r.2 o.1.length

/-- The export's commit was refused (R311): it answers STATE. -/
def exportRefused (s : State) : State :=
  match s.att.exporting with
  | none => s
  | some (t, e, _) =>
    let s := attLog { s with att := { s.att with exporting := none } } Ev.CUSTODY_REFUSED t (leBytes 1 4 ++ [0] ++ leBytes 1 3)
    vendorReady s t e 4 3 0 0

/-- CUSTODY_EXPORT up to its commit: checks, the flush of the recorder, ResponseNotReady. The caller begins the
epoch commit where one is needed, and otherwise finishes at once. -/
def custodyExport (s : State) (t e : Nat) (ses : Option Nat) (msg : List Byte) (us : Nat) : State :=
  vendor s t e ses msg 4 8 (fun s _ _ =>
    if custodyCtx t = false then vendorStatus s t e ses 4 1 0 us
    else if ldgState s ≠ 2 ∧ ldgState s ≠ 4 then vendorStatus s t e ses 4 3 0 us
    else if buffersFull s = true ∨ s.att.exporting.isSome = true then vendorStatus s t e ses 4 2 0 us
    else
      let s := evrFlush s 0
      let s := attError { s with att := { s.att with exporting := some (t, e, 0) } } t e ses 0x42 12
      if epochNeeded s = true ∨ ldgCommitting s = true then epochBegin s [.custody] else exportFinish s)

/-- The header of an uploaded object, and its parts. -/
def objBody (o : List Byte) : List Byte := (o.drop 64).take (leAt o 8 4)
def objSigs (o : List Byte) : List SigEntry := sigEntries 4 (o.drop (64 + leAt o 8 4))

/-- The first import check that fails (R311). -/
def importFault (s : State) (o : List Byte) : Option (Nat × Nat) :=
  let b := objBody o
  let el := leAt b 168 4
  let ml := leAt b 172 4
  let ke := Config.chainKey false ((b.drop 256).take el)
  let km := Config.chainKey true ((b.drop (256 + el)).take ml)
  let d := (sha384 (o.take (64 + leAt o 8 4)))
  let sigOk (ty : Nat) (k : Option (List Byte)) : Bool :=
    (objSigs o).any (fun g => g.ty == ty && g.signer == 3 && k.any (fun k => verifySig ty k d g.content))
  if o.length < 64 ∨ leAt o 0 4 ≠ 0x4A424F54 ∨ leAt o 4 2 ≠ 1 ∨ leAt o 6 1 ≠ 3 ∨ leAt o 12 4 ≠ o.length ∨
     leAt o 7 1 ≠ 2 ∨ (objSigs o).length ≠ 2 ∨ b.length ≠ leAt o 8 4 ∨ b.length ≠ 256 + el + ml then some (1, 4)
  else if ke = none ∨ km = none then some (2, 4)
  else if (sigOk 1 ke && sigOk 2 km) = false then some (3, 4)
  else if (o.drop 16).take 16 = s.rdBytes (Reg.LCS_SERIAL 0) 4 then some (4, 4)
  else if ldgState s ≠ 0 ∨ ldgEpoch s ≠ 0 then some (5, 3)
  else none

/-- CUSTODY_IMPORT up to its commit: checks and ResponseNotReady; the caller commits the root. -/
def custodyImport (s : State) (t e : Nat) (ses : Option Nat) (msg : List Byte) (us : Nat) : State :=
  vendor s t e ses msg 4 8 (fun s _ p =>
    let h := leAt p 2 2
    if custodyCtx t = false then vendorStatus s t e ses 6 1 h us
    else match objectOf s t e h with
      | none => vendorStatus s t e ses 6 6 h us
      | some o =>
        if buffersFull s = true ∨ s.att.importing.isSome = true then vendorStatus s t e ses 6 2 h us
        else match importFault s o.bytes with
          | some (c, st) =>
            vendorReady (attLog (attError s t e ses 0x42 12) Ev.CUSTODY_REFUSED t
              (leBytes 1 6 ++ leBytes 1 c ++ leBytes 1 st)) t e 6 st h 0
          | none => attError { s with att := { s.att with importing := some (t, e, h) } } t e ses 0x42 12)

/-- The root entry that an import commits (R311). -/
def importEntry (s : State) (o : List Byte) : List Byte :=
  let b := objBody o
  rootEntry s (b.take 32) 1 (leAt b 40 4) false

/-- The countersignature body (R311). -/
def counterBody (s : State) (o : List Byte) : List Byte :=
  let b := objBody o
  let e := chain s false
  let m := chain s true
  (sha384 o) ++ (o.drop 16).take 16 ++ b.take 32 ++ (b.drop 32).take 8 ++ leBytes 8 1 ++ mregSummary s ++
    leBytes 4 e.length ++ leBytes 4 m.length ++ List.replicate 88 0 ++ e ++ m

/-- The eNVM user area (R406). -/
def userBase : Nat := 0x10A94000

/-- The import has committed (R311): countersignature stored and answered.
DEDUCED (log entry 53). -/
def importFinish (s : State) : State :=
  match s.att.importing with
  | none => s
  | some (t, e, h) =>
    let s := { s with att := { s.att with importing := none } }
    match objectOf s t e h with
    | none => s
    | some o =>
      let g := signObject s 4 (counterBody s o.bytes) 3
      let s := { g.2 with att := { g.2.att with counter := g.1 } }
      let s := s.wrMemN (userBase + 0x4000) g.1
      let s := attLog s Ev.CUSTODY_IMPORTED t ((o.bytes.drop 16).take 16 ++ leBytes 8 (leAt (objBody o.bytes) 32 8))
      let r := putObject s t e false g.1
      vendorReady r.1 t e 6 0 r.2 g.1.length

/-! ### Extensions (R306) -/

/-- A write of ATT_MREG_EXT_CTL with go by logical core `c` (R306).
DEDUCED (log entry 53). -/
def mregGo (s : State) (c : Fin 2) : State :=
  let r := s.fld Reg.ATT_MREG_EXT_CTL 3 0
  let len := s.fld Reg.ATT_MREG_EXT_CTL 16 4
  let src := (s.rd Reg.ATT_MREG_EXT_SRC).toNat
  let cause := if 5 ≤ r ∧ r ≤ 7 then 1 else if s.bit Reg.ATT_MREG_LOCK r then 2
    else if len = 0 ∨ 4096 < len then 3 else if s.att.ext.isSome then 4 else if inOwn c src len = false then 5 else 0
  if cause ≠ 0 then attLog (s.setBit Reg.ATT_MREG_EXT_STAT 2 true) Ev.MREG_REFUSED 0 (leBytes 1 r ++ leBytes 1 cause)
  else ({ s with att := { s.att with ext := some (r, s.rdMemN src len) } } : State).setBit Reg.ATT_MREG_EXT_STAT 0 true

/-- An accepted extension completes. -/
def mregDone (s : State) : State :=
  match s.att.ext with
  | none => s
  | some (r, v) =>
    let s := mregExtend { s with att := { s.att with ext := none } } r v
    attLog ((s.setBit Reg.ATT_MREG_EXT_STAT 0 false).setBit Reg.ATT_MREG_EXT_STAT 1 true) Ev.MREG_EXTENDED 0
      (leBytes 1 r ++ takePad 16 v)

/-! ### MCTP (R296, R298) -/

/-- An MCTP control message's answer (R296). -/
def mctpAnswer (s : State) (t src cmd : Nat) (data : List Byte) : State :=
  attSend s t src none (0x100 + cmd) data

/-- SET_ENDPOINT_ID: the bus owner of transport `t` assigns an endpoint ID. -/
def setEid (s : State) (t src eid : Nat) : State :=
  if t = 0 then s
  else if eid = 0 ∨ eid = 0xFF ∨ (1 ≤ eid ∧ eid ≤ 7) then mctpAnswer s t src 1 (leBytes 1 2)
  else
    let a := { s.att with eids := s.att.eids.filter (fun p => p.1 != t) ++ [(t, eid)] }
    mctpAnswer { s with att := a } t src 1 (leBytes 1 0 ++ leBytes 1 0 ++ leBytes 1 eid ++ leBytes 1 0)

/-- The endpoint ID of a transport, 0 until one is assigned. -/
def eidOf (s : State) (t : Nat) : Nat := ((s.att.eids.find? (fun p => p.1 == t)).map Prod.snd).getD 0

/-- An MCTP packet of an assembly (R296, R298): `sof` and `eof` its start and end of message, its tag and packet
sequence, its bytes.
PRESUMED (log entry 51). -/
def mctpPacket (s : State) (t src tag seq : Nat) (sof eof : Bool) (bytes : List Byte) : State :=
  let mine (x : Assembly) : Bool := x.transport == t && x.eid == src
  let cur := s.att.asm.find? mine
  let clear (s : State) : State := { s with att := { s.att with asm := s.att.asm.filter (fun x => !mine x) } }
  if t = 0 then s
  else if sof then
    let s := clear s
    let s := if cur.isSome then attDrop s t src 1 bytes.length false else s
    if eof then s
    else if 4 ≤ (s.att.asm.filter (fun x => x.transport == t)).length then attDrop s t src 1 bytes.length false
    else { s with att := { s.att with asm := s.att.asm ++ [⟨t, src, tag, (seq + 1) % 4, bytes⟩] } }
  else match cur with
    | none => attDrop s t src 1 bytes.length false
    | some x =>
      if x.tag ≠ tag ∨ x.seq ≠ seq then attDrop (clear s) t src 1 (x.bytes.length + bytes.length) false
      else if 8192 < x.bytes.length + bytes.length then
        attDrop (clear s) t src 2 (x.bytes.length + bytes.length) true
      else if eof then clear s
      else { s with att := { s.att with asm := s.att.asm.map (fun y =>
        if mine y then { y with seq := (seq + 1) % 4, bytes := y.bytes ++ bytes } else y) } }

/-! ### Downstream peers (R312) -/

/-- The downstream entry of peer `d`. -/
def dsEntry (s : State) (d : Nat) : Option (List Byte) := (s.att.ds.find? (fun p => p.1 == d)).map Prod.snd

/-- The value of index 101 + d set. -/
def setDsVal (s : State) (d : Nat) (v : List Byte) : State :=
  { s with att := { s.att with dsVal := s.att.dsVal.filter (fun p => p.1 != d) ++ [(d, v)] } }

/-- The refresh of peer `d` in progress. -/
def refreshOf (s : State) (d : Nat) : Option Refresh := s.att.refresh.find? (fun r => r.peer == d)

/-- A refresh ended. -/
def dropRefresh (s : State) (d : Nat) : State :=
  { s with att := { s.att with refresh := s.att.refresh.filter (fun r => r.peer != d) } }

/-- The message of a step of a refresh sent to its peer (R312). -/
def dsSend (s : State) (d step : Nat) : State :=
  match dsEntry s d with
  | none => s
  | some en =>
    let t := if leAt en 0 1 = 3 then 7 else 6
    let e := leAt en 2 1
    if step = 3 then
      let r := attRandom s 32
      let m := [1, 0xFF] ++ r.1 ++ [0]
      let put (x : Refresh) : Refresh := if x.peer = d then { x with req := m } else x
      attSend { r.2 with att := { r.2.att with refresh := r.2.att.refresh.map put } } t e none 0xE0 m
    else attSend s t e none (if step = 1 then 0xE3 else 0x82) []

/-- A refresh of peer `d` begins (R312).
DESIGN CHOICE (log entry 52). -/
def refreshBegin (s : State) (d : Nat) (q : Option (Sender × Nat)) : State :=
  let s := { s with att := { s.att with refresh := s.att.refresh.filter (fun (r : Refresh) => r.peer != d) ++ [({ peer := d, step := 1, retries := 0, q := q } : Refresh)] } }
  dsSend (s.setF (Reg.ATT_DS_STAT d) 4 0 1) d 1

/-- Whoever asked for the refresh of peer `d` is answered. -/
def refreshAnswer (s : State) (d status : Nat) : State :=
  match (refreshOf s d).bind Refresh.q with
  | some q => s.answer q.1 q.2 status [] true
  | none => s

/-- A refresh succeeds: index 101 + d takes the digest of the MEASUREMENTS response. -/
def refreshOk (s : State) (d : Nat) (response : List Byte) : State :=
  let v := (sha384 response)
  let s := (setDsVal (refreshAnswer s d 0) d v).wr (Reg.ATT_DS_STAT d) 2
  attLog (dropRefresh s d) Ev.DOWNSTREAM_OK d (v.take 28)

/-- A refresh fails at a step: index 101 + d becomes zero. -/
def refreshFail (s : State) (d step err : Nat) : State :=
  let s := setDsVal (refreshAnswer s d 4) d (List.replicate 48 0)
  let s := ((s.setF (Reg.ATT_DS_STAT d) 4 0 (3 + 4 * step)).inc Reg.ATT_CNT_DS_FAIL)
  attLog (dropRefresh s d) Ev.DOWNSTREAM_FAIL d (leBytes 1 step ++ leBytes 1 err)

/-- The component that a failed refresh holds, where the entry says so. -/
def dsHolds (s : State) (d : Nat) : Option Nat :=
  match dsEntry s d with
  | some en => if bitOf (leAt en 4 1) 1 ∧ leAt en 3 1 ≠ 0xFF then some (leAt en 3 1) else none
  | none => none

/-- A component held again stops the refreshes that name it (R312's table). -/
def dsHeldAgain (s : State) (c : Nat) : State :=
  ((List.range 16).filter (fun d => (refreshOf s d).isSome && (dsEntry s d).any (fun en => leAt en 3 1 == c))).foldl
    (fun s d => (setDsVal (dropRefresh (refreshAnswer s d 3) d) d (List.replicate 48 0)).setF (Reg.ATT_DS_STAT d) 1 0 1) s

/-- What the change of component states from `s0` means to downstream peers (R312): one that became ready is
refreshed, one held again stops its refreshes. -/
def compChanges (s0 s : State) : State :=
  (List.range 64).foldl (fun s c =>
    let was := compState s0 c
    let now := compState s c
    if now = 4 ∧ was ≠ 4 then
      ((List.range 16).filter (fun d => (refreshOf s d).isNone && (dsEntry s d).any (fun en => leAt en 3 1 == c && bitOf (leAt en 4 1) 0))).foldl
        (fun s d => refreshBegin s d none) s
    else if (was = 3 ∨ was = 4) ∧ now ≠ 3 ∧ now ≠ 4 then dsHeldAgain s c
    else s) s

end Sys2Proof.Machine
end

