-- ==== Sys2Proof/Machine/IlkCommit.lean ====
section
/-! DEFINITION. The Interlocking from the commit checks on (R66-R81, R446): the commit edge, what firmware
does on DONE, service, the journal's completion, home writes, replay, and the closures of handles. -/

namespace Sys2Proof.Machine

/-! ### What signal-box firmware does on DONE -/

/-- The components of the accepted Consist that have a section among `secs`. -/
def compsOf (s : State) (secs : List Nat) : List CompEntry :=
  (components s).filter (fun e => e.sections.any (fun n => secs.contains n))

/-- The components whose sections a transaction sets to points `p`. -/
def pointed (s : State) (rs : List ActRec) (p : Nat) : List CompEntry :=
  compsOf s ((rs.filter (fun r => r.kind == 2 && r.operand == p)).map (fun r => r.target))

/-- A fence of section `n` set (R194, R198), written by firmware. -/
def setFence (s : State) (n f base pages : Nat) (en : Bool) : State :=
  let s := s.fwL (Reg.SEC_FENCE_LEN n f) 20 0 pages
  s.fwL (Reg.SEC_FENCE_BASE n f) 31 0 (base / 4096 * 4096 + b2n en)

/-- The base of slot `x` of an image. -/
def Image.slot (i : Image) (x : Nat) : Nat := if x = 0 then i.slotA else i.slotB

/-- The fences over slot `x` of a component's images enabled or disabled (R198, R199). A section has two
fences, the first for the first of the component's images on it. -/
def fenceSlot (s : State) (e : CompEntry) (x : Nat) (en : Bool) : State :=
  e.sections.foldl (fun s n =>
    let is := e.images.filter (fun i => i.sec == n)
    (List.range (min is.length 2)).foldl (fun s f =>
      match is[f]? with
      | some i => if en then setFence s n f (i.slot x) (i.size / 4096) true
                  else s.fwL (Reg.SEC_FENCE_BASE n f) 0 0 0
      | none => s) s) s

/-- The extents of a section and bank freed by firmware's writes of their states (R146, R150, R199): one that is in use is
refused. -/
def freeBank (s : State) (n b : Nat) : State :=
  ((List.range 256).filter (fun x => extSection s x == n && extBank s x == b && extState s x != 0)).foldl
    (fun s x => if extInUse s x then extRefused s x 5 else moveExt s s.dutyOrigin x 0 0xF) s

/-- The cause with which slot `x` of component `c` failed at this start, or as an update's new slot; 0 where it failed with
none, as at a revert or at the start of a restore.
DESIGN CHOICE (log entry 102). -/
def slotFailed (s : State) (c x : Nat) : Nat :=
  match s.upd.failed.find? (fun p => p.1 == c && p.2.1 == x) with
  | some p => p.2.2
  | none => if s.bit Reg.RTB_UPD_STAT 6 = true ∧ s.fld Reg.RTB_UPD_STAT 5 0 = c then s.upd.fw.updCause.getD 0 else 0

/-- SIDING_SET, with the cause that firmware found, and SIDING_CLEARED for the flags of a record that changed (R202, R214). -/
def sidingEvents (s : State) (c : Nat) (old new : List Byte) : State :=
  [0, 1].foldl (fun s x =>
    if recFlag old (3 + x) = recFlag new (3 + x) then s
    else if recFlag new (3 + x) then s.fwLog Ev.SIDING_SET c (leBytes 1 x ++ leBytes 1 (slotFailed s c x))
    else s.fwLog Ev.SIDING_CLEARED c (leBytes 1 x)) s

/-- The answer owed for component `c` given (R207). -/
def updAnswer (s : State) (c status : Nat) (result : List Byte) : State :=
  let who := s.upd.who.filter (fun p => p.1 == c)
  let s := { s with upd := { s.upd with who := s.upd.who.filter (fun p => p.1 != c) } }
  who.foldl (fun s p => s.answer p.2.1 p.2.2 status result true) s

/-- The open update of component `c` closed. -/
def updClose (s : State) (c step : Nat) : State :=
  if s.bit Reg.RTB_UPD_STAT 6 = true ∧ s.fld Reg.RTB_UPD_STAT 5 0 = c then
    (s.fwL Reg.RTB_UPD_STAT 10 8 step).fwL Reg.RTB_UPD_STAT 6 6 0
  else s

/-- The component manifest digest of a record's active slot; that of slot V is what firmware read there, and free where it
has read nothing.
DESIGN CHOICE (log entry 21). -/
def activeMd (s : State) (rec : List Byte) : List Byte × State :=
  if recActive rec < 2 then (recMd rec (recActive rec), s)
  else match s.upd.fw.vSlots.find? (fun p => p.1 == leAt rec 4 1) with
    | some p => (p.2.2, s)
    | none => s.freeBytes 48

/-- The SVN of a record's active slot.
DESIGN CHOICE (log entry 21). -/
def activeSvn (s : State) (rec : List Byte) : List Byte × State :=
  if recActive rec < 2 then (leBytes 4 (recSvn rec (recActive rec)), s)
  else match s.upd.fw.vSlots.find? (fun p => p.1 == leAt rec 4 1) with
    | some p => (leBytes 4 p.2.1, s)
    | none => s.freeBytes 4

/-- A measurement register extended by firmware (R306).
DESIGN CHOICE (log entry 21). -/
def fwExtend (s : State) (m : Nat) (v : List Byte) : State :=
  attLog (mregExtend s m v) Ev.MREG_EXTENDED 0 (leBytes 1 m ++ takePad 16 v)

/-- Whether component `c` has been accepted or held at this start (R179). -/
def compSettled (s : State) (c : Nat) : Bool := decide (2 ≤ compState s c)

/-- The extensions that need wait no longer, in ascending component order (R179). -/
def extendReady (s : State) : State :=
  (List.range 64).foldl (fun s c =>
    match s.upd.ext.find? (fun p => p.1 == c) with
    | none => s
    | some p =>
      if (components s).all (fun e => e.num % 8 != c % 8 || decide (c ≤ e.num) || compSettled s e.num) then
        fwExtend { s with upd := { s.upd with ext := s.upd.ext.filter (fun q => q.1 != c) } } (8 + c % 8) p.2
      else s) s

/-- The 56-byte value of R179 of component `c` in slot `x` (0xFF for none) waits to be extended. -/
def measureSlot (s : State) (c x : Nat) (svn md : List Byte) : State :=
  let v := leBytes 1 c ++ leBytes 1 x ++ [0, 0] ++ svn ++ takePad 48 md
  extendReady { s with upd := { s.upd with ext := s.upd.ext.filter (fun p => p.1 != c) ++ [(c, v)], mds := s.upd.mds.filter (fun p => p.1 != c) ++ [(c, takePad 48 md)] } }

/-- The value of an accepted component waits to be extended. -/
def measureComp (s : State) (c : Nat) (rec svn md : List Byte) : State := measureSlot s c (recActive rec) svn md

/-- Component `c` is held for want of a slot or of a vote: its value is extended with slot 0xFF, SVN 0 and no digest (R179,
R184). -/
def heldNoSlot (s : State) (c reason : Nat) : State := measureSlot (heldFail s c reason) c 0xFF (leBytes 4 0) []

/-- A component acceptance has committed (R178). A hold line that differs from the Consist keeps it held (R443). -/
def accepted (s : State) (c : Nat) (rec : List Byte) : State :=
  let v := activeSvn s rec
  let d := activeMd v.2 rec
  let s := d.2.fwLog Ev.COMPONENT_ACCEPTED c (leBytes 1 (recActive rec) ++ v.1 ++ d.1.take 28)
  let s := if s.upd.fw.mismatch.contains c then setCompState s c 5
    else if compState s c = 7 then s else setCompState s c 2
  let s := s.mapFw (fun f => { f with checks := f.checks.filter (fun k => k.comp != c), single := f.single.filter (· != c) })
  holdPrereq (measureComp (s.fwL (Reg.RTB_COMP c) 5 4 (recActive rec)) c rec v.1 d.1) (components s)

/-- The switch of an update has committed (R195, R197, R198). -/
def switched (s : State) (c : Nat) (old new : List Byte) : State :=
  let b := match s.upd.fw.updBuild with
    | some k => (leBytes 4 k, s)
    | none => s.freeBytes 4
  let s := b.2.fwLog Ev.UPDATE_COMMITTED c (leBytes 1 (recActive old) ++ leBytes 1 (recActive new) ++
    leBytes 4 (recSvn new (recActive new)) ++ b.1 ++ leBytes 1 (s.fld Reg.RTB_UPD_STAT 7 7))
  let s := s.mapFw (fun f => { f with checks := f.checks.filter (fun k => k.comp != c), updBuild := none, updCause := none })
  let s := unholdPrereq ((markReleased s c).fwL (Reg.RTB_COMP c) 5 4 (recActive new)) (components s)
  let s := measureComp s c new (leBytes 4 (recSvn new (recActive new))) (recMd new (recActive new))
  let s := updClose s c 4
  let s := match compEntry s c with
    | some e => if recTrial new then fenceSlot s e (recActive old) true else s
    | none => s
  updAnswer s c 0 []

/-- The confirmation of a trial has committed (R199): the old bank's extents are freed, then the fences
disabled. -/
def confirmed (s : State) (c : Nat) (new : List Byte) : State :=
  let s := s.fwLog Ev.TRIAL_CONFIRMED c (leBytes 1 (recActive new) ++ leBytes 4 (recMin new))
  match compEntry s c with
  | none => s
  | some e =>
    let s := e.sections.foldl (fun s n => freeBank s n (1 - activeBank s n)) s
    fenceSlot s e 0 false

/-- The overrun of a trial's deadline in ms: 1,024 ticks of OT are a second. -/
def trialOverrun (s : State) (rec : List Byte) : Nat :=
  if leAt rec 24 4 = s.pcc then (s.ot - leAt rec 28 6) * 1000 / 1024 else 0

/-- A revert has committed (R200, R201). With DEVICE points, after a cramped update, the old slot is verified next.
DEDUCED (log entry 20). -/
def reverted (s : State) (c : Nat) (old : List Byte) (rs : List ActRec) : State :=
  let bare := rs.all (fun r => r.kind == 4 || r.kind == 0x0E)
  let cramped := rs.any (fun r => r.kind == 2)
  let x := 1 - recActive old
  let s := s.fwLog Ev.TRIAL_REVERTED c
    (leBytes 1 (recActive old) ++ leBytes 4 (trialOverrun s old) ++ leBytes 1 (b2n bare))
  let s := if bare then s else
    let s := (setCompState s c (if cramped then 1 else 2)).fwL (Reg.RTB_COMP c) 5 4 x
    let s := s.mapFw (fun f => { f with since := f.since.filter (fun p => p.1 != c) ++ [(c, s.ot)] })
    if cramped then s.mapFw (fun f => { f with checks := f.checks.filter (fun k => k.comp != c) ++ [⟨c, 3, [x], none, false, []⟩] })
    else s
  match compEntry s c with
  | some e => fenceSlot s e 0 false
  | none => s

/-- What follows an RTB action, from the record it replaced (R178, R195-R202).
DESIGN CHOICE (log entry 21). -/
def rtbDone (s : State) (rs : List ActRec) (c : Nat) (old : List Byte) : State :=
  let new := rtbRec s c
  let ty := (subjectOf rs).map Prod.fst
  let moved := recActive old != recActive new
  let s := if recTrial old = true ∧ recTrial new = false ∧ moved = true then reverted s c old rs
    else if ty = some 1 then accepted s c new
    else if ty = some 2 ∧ moved = true then switched s c old new
    else if recTrial old = true ∧ recTrial new = false then confirmed s c new
    else s
  sidingEvents s c old new

/-- The failure transaction of an update (R196): the component is back in service with its old slot. The cause
is what firmware found, free where it read nothing. -/
def updateFailed (s : State) (c : Nat) : State :=
  let f := match s.upd.fw.updCause with
    | some k => (leBytes 1 k, s)
    | none => s.freeBytes 1
  let s := f.2.fwLog Ev.UPDATE_REFUSED c (leBytes 1 4 ++ f.1)
  let s := updAnswer (updClose (unholdPrereq (markReleased s c) (components s)) c 0) c 4 f.1
  s.mapFw (fun f => { f with checks := f.checks.filter (fun k => k.comp != c), updBuild := none, updCause := none })

/-- A recovery has ended with the release of its component (R205). -/
def recovered (s : State) (c : Nat) : State :=
  if s.bit Reg.RTB_RCV_STAT 6 = true ∧ s.fld Reg.RTB_RCV_STAT 5 0 = c then
    let s := (s.fwL Reg.RTB_RCV_STAT 6 6 0).fwL Reg.RTB_RCV_STAT 23 16 0
    let s := s.fwLog Ev.RECOVERY_DONE c (leBytes 1 (s.fld Reg.RTB_RCV_STAT 9 8) ++
      leBytes 1 (s.fld Reg.RTB_RCV_STAT 10 10) ++ leBytes 4 (s.rd Reg.RTB_RCV_PAGES).toNat)
    updAnswer s c 0 []
  else s

/-- A recovery fails (R205, R206) with a status and a cause; its target stays a siding and the component held. -/
def recoveryFail (s : State) (status cause : Nat) : State :=
  if s.bit Reg.RTB_RCV_STAT 6 then
    let c := s.fld Reg.RTB_RCV_STAT 5 0
    let s := (s.fwL Reg.RTB_RCV_STAT 6 6 0).fwL Reg.RTB_RCV_STAT 23 16 status
    let s := setCompState s c 5
    let s := s.fwLog Ev.RECOVERY_FAIL c (leBytes 1 (s.fld Reg.RTB_RCV_STAT 9 8) ++ leBytes 1 status ++ leBytes 1 cause)
    let s := s.mapFw (fun f => { f with restore := none, checks := f.checks.filter (fun k => k.comp != c) })
    holdDependants (updAnswer { s with upd := { s.upd with push := none } } c status (leBytes 1 cause))
  else s

/-- Whether section `n` belongs to the component whose recovery runs. -/
def recovering (s : State) (n : Nat) : Bool :=
  s.bit Reg.RTB_RCV_STAT 6 && (compsOf s [n]).any (fun e => e.num == s.fld Reg.RTB_RCV_STAT 5 0)

/-- A release transaction has committed (R186).
DEDUCED (log entry 20). -/
def releasedGroup (s : State) (es : List CompEntry) : State :=
  match lowestFrom 0 (es.map (fun e => e.num)) with
  | none => s
  | some low =>
    let s := s.fwLog Ev.RELEASED low (leBytes 8 (maskOf 64 (fun c => es.any (fun e => e.num == c))) ++
      leBytes 4 (s.rd Reg.ILK_SEQ).toNat)
    let s := es.foldl (fun s e => recovered (markReleased s e.num) e.num) s
    unholdPrereq s (components s)

/-! ### Stages and MPU windows (R164-R168) -/

/-- A word of core `c`'s MPU windows written by the code it runs. -/
def putMpu (s : State) (c : Fin 2) (a : Nat) (v : Word) : State :=
  let x := s.core c
  let old := Sparse.get (fun _ => (0 : Word)) x.mpu a
  if old = v then s
  else (s.setCore c { x with mpu := Sparse.set (fun _ => (0 : Word)) x.mpu a v }).regChange (.lc c) a old v 0xF

/-- Window `w` of core `c` set, unless it is locked: its first and last page, and its attributes [0] r, [1] w, [2] x, [3] en,
[4] lock. -/
def setWindow (s : State) (c : Fin 2) (w base last attr : Nat) : State :=
  if (Sparse.get (fun _ => (0 : Word)) (s.core c).mpu (Reg.SBX_MPU_ATTR w)).getLsbD 4 then s
  else
    let s := putMpu (putMpu s c (Reg.SBX_MPU_BASE w) (BitVec.ofNat 32 base)) c (Reg.SBX_MPU_LIMIT w) (BitVec.ofNat 32 last)
    putMpu s c (Reg.SBX_MPU_ATTR w) (BitVec.ofNat 32 attr)

/-- The windows that core `c` has set and locked when it hands over to stage `n` (R168). -/
def stageWindows (s : State) (n : Nat) (c : Fin 2) : State :=
  let own := coreBase c
  let s := setWindow s c 0 0 0x3F000 0x18
  let s := setWindow s c 1 own (own + 0x5F000) 0x1D
  let s := setWindow s c 2 (coreBase (other c)) (coreBase (other c) + 0x1FF000) 0x19
  if n = 1 then setWindow s c 15 0 0xFFFFF000 0xF
  else
    let s := setWindow s c 3 (own + 0x60000) (own + 0xFF000) 0xD
    let s := setWindow s c 4 (own + 0x100000) (own + 0x19F000) 0xB
    setWindow (setWindow s c 5 (own + 0x1A0000) (own + 0x1FF000) 0xB) c 15 0 0xFFFFF000 0x1B

/-- Windows 3 and 4 of core `c` exchange their ranges: area Q becomes P (R168, R210). -/
def swapWindows (s : State) (c : Fin 2) : State :=
  let m (a : Nat) : Nat := (Sparse.get (fun _ => (0 : Word)) (s.core c).mpu a).toNat
  let b3 := m (Reg.SBX_MPU_BASE 3)
  let l3 := m (Reg.SBX_MPU_LIMIT 3)
  let s := setWindow s c 3 (m (Reg.SBX_MPU_BASE 4)) (m (Reg.SBX_MPU_LIMIT 4)) (m (Reg.SBX_MPU_ATTR 3))
  setWindow s c 4 b3 l3 (m (Reg.SBX_MPU_ATTR 4))

/-- The cores that run. -/
def liveCores (s : State) : List (Fin 2) := (List.finRange 2).filter (fun c => !s.retired.contains c)

/-- What stage 1 does before it accepts stage 2, beyond its windows (R168, R407): MBX_LOCK and both NVC_LOCK bits are set. -/
def stage1Locks (s : State) : State :=
  let s := if s.bit Reg.MBX_LOCK 0 then s else mbxLock (s.regChange s.dutyOrigin Reg.MBX_LOCK 0 1 0xF)
  s.fwL Reg.NVC_LOCK 1 0 3

/-- The ROM's own steps once stage 1 is accepted (R165, R303, R305, R372): MREG_0, MREG_4 and the identity. -/
def romSteps (s : State) (md : List Byte) : State :=
  let rom := sha384 ((List.range 0x40000).map Config.romByte)
  romIdentity (lcMeasure (fwExtend (fwExtend s 0 (takePad 48 rom)) 0 md))

/-- The first 8 bytes of the digest that a SUBJECT record carries. -/
def subjectMd (rs : List ActRec) : List Byte :=
  leBytes 8 (((rs.find? (fun r => r.kind == 0x0E)).map (fun r => r.operand2)).getD 0)

/-- What firmware holds of the stage `n` that a transaction accepts (R166), 3 for a handover's: its candidate, where it read
one; else the first 8 bytes of the digest as committed, and free values for what is not in the transaction.
DESIGN CHOICE (log entry 21). -/
def stageOf (s : State) (rs : List ActRec) (n : Nat) : Stage × State :=
  match s.upd.fw.stages.find? (fun p => p.1 == n && p.2.md.take 8 == subjectMd rs) with
  | some p => (p.2, s)
  | none =>
    let f := s.freeBytes 49
    let src := (f.1.getD 48 0).toNat
    (⟨leAt f.1 40 4, leAt f.1 44 4, subjectMd rs ++ f.1.take 40, src % 3 + src / 4 % 2 * 4⟩, f.2)

/-- A stage kept as the one accepted. -/
def keepStage (s : State) (n : Nat) (t : Stage) : State :=
  s.mapFw (fun f => { f with stages := f.stages.filter (fun p => p.1 != n) ++ [(n, t)] })

/-- A stage acceptance has committed (R166): its count of failed acceptances ends, the stage before it measures it, leaves the
MPU windows as R168 gives, and hands over control.
DESIGN CHOICE (log entries 21, 41). -/
def stageAccepted (s : State) (n : Nat) (rs : List ActRec) : State :=
  let t := stageOf s rs n
  let s := { t.2 with upd := { t.2.upd with stageFails := t.2.upd.stageFails.filter (fun p => p.1 != n) } }
  let s := (keepStage s n t.1).mapFw (fun f => { f with stage := n, pushed := f.pushed.filter (· != n) })
  let s := s.fwLog Ev.STAGE_ACCEPTED (n + t.1.src * 256) (leBytes 4 t.1.svn ++ leBytes 4 t.1.build ++ t.1.md.take 28)
  let s := if n = 2 then stage1Locks s else s
  let s := (liveCores s).foldl (fun s c => stageWindows s n c) s
  if n = 1 then romSteps s t.1.md else fwExtend s 1 t.1.md

/-- Whether a transaction is the acceptance of stage `n` (R166): beside its SUBJECT it holds the MINVER of the stage's
index. -/
def acceptsStage (rs : List ActRec) (n : Nat) : Bool :=
  (n == 1 || n == 2) && rs.any (fun r => r.kind == 5 && r.target + 1 == n)

/-! ### Handover (R210, R211) -/

/-- Core `c` restarts into the other area (R210 steps 5 and 11): it exchanges its windows 3 and 4 and reshadows, and the
relief core is absent meanwhile. -/
def restartCore (s : State) (c : Fin 2) : State :=
  let s := swapWindows s c
  let s := s.setCore c { mpu := (s.core c).mpu }
  { s with ilk := { s.ilk with reliefAbsent := true }, upd := { s.upd with absentAt := some s.ot } }

/-- The section program images of the accepted Consist, in section-record order (R108, R305). -/
def programImages (s : State) : List (List Byte) :=
  (List.range (min (consistLe s 17 1) 32)).map (fun i =>
    let r := consistLe s (consistLe s 24 4 + 4 * i) 4
    consistBytes s (consistLe s (r + 40) 4) (consistLe s (r + 44) 4))

/-- The Consist and its section programs measured (R305, R306). -/
def measureConsist (s : State) : State :=
  let s := fwExtend s 2 (sha384 (consistBytes s 0 (consistLe s 12 4)))
  (programImages s).foldl (fun s i => fwExtend s 3 (sha384 i)) s

/-- A handover's acceptance has committed (R210 step 3): it is measured, with the Consist where that changes, whose hold lines are
compared (R443). -/
def handoverAccepted (s : State) (rs : List ActRec) : State :=
  let t := stageOf s rs 3
  let s := t.2.fwLog Ev.HANDOVER_ACCEPTED 0 (leBytes 4 t.1.svn ++ leBytes 4 t.1.build ++ t.1.md.take 28)
  let s := fwExtend (keepStage s 3 t.1) 1 t.1.md
  let s := s.fwL Reg.RTB_HND_STAT 3 0 4
  if s.upd.fw.newConsist then holdCompare (measureConsist s) (List.range 96) else s

/-- A handover's exchange of duty has committed (R210 steps 9 to 11): the pause ends, and the former on-duty core restarts
into the new code. How long the pause took is free, up to its bound.
DESIGN CHOICE (log entry 21). -/
def handoverDone (s : State) : State :=
  let f := s.freeBytes 2
  let t := ((f.2.upd.fw.stages.find? (fun p => p.1 == 3)).map Prod.snd).getD {}
  let pause := leAt f.1 0 2 % 301
  let s := (f.2.fwL Reg.RTB_HND_STAT 7 0 11).setF Reg.RTB_HND_STAT 31 16 pause
  let s := s.fwLog Ev.HANDOVER_DONE 0 (leBytes 2 pause ++ leBytes 4 t.svn)
  let s := (keepStage s 2 t).mapFw (fun f => { f with stages := f.stages.filter (fun p => p.1 != 3), newConsist := false })
  restartCore s s.relief

/-- What firmware does on DONE, by the records committed and the Route Book records they replaced. -/
def firmwareDone (s : State) (rs : List ActRec) (olds : List (Nat × List Byte)) : State :=
  let s := (pointed s rs 1).foldl (fun s e =>
    if compState s e.num = 0 then setCompState s e.num 1 else s) s
  let s := olds.foldl (fun s p => rtbDone s rs p.1 p.2) s
  match subjectOf rs with
  | some (0, n) => if acceptsStage rs n then stageAccepted s n rs else s
  | some (2, c) =>
    if olds.any (fun p => p.1 == c && recActive p.2 == recActive (rtbRec s c)) = true ∧
       (pointed s rs 2).isEmpty = false then updateFailed s c else s
  | some (3, _) => if rs.any (fun r => r.kind == 9) then handoverDone s else handoverAccepted s rs
  | some (4, _) => releasedGroup s (pointed s rs 2)
  | _ => s

/-! ### The commit edge -/

/-- One action takes effect (R66). `hw` marks a transaction of handle 4. Two PROG records for one section, or two DUTY
records, exchange twice: R67 has the records applied in their order, and does not say whether "the last one wins" makes one
exchange of two.
DEDUCED (log entry 29), DESIGN CHOICE (log entry 85). -/
def applyAct (s : State) (hw : Bool) (r : ActRec) : State :=
  match r.kind with
  | 0x01 => setHolds s r.target (r.operand % 2 ^ 32) (r.operand / 2 ^ 32)
  | 0x02 => setPoints s r.target r.operand
  | 0x03 => swapBanks s r.target
  | 0x04 => applyRtb s r.target r.payload
  | 0x05 => s.wr (Reg.RTB_MINVER r.target) (BitVec.ofNat 32 r.operand)
  | 0x06 => applyEpoch s r.payload
  | 0x07 =>
    if r.operand = 1 then applyLock s r.payload hw
    else
      let s := applyRelease s (r.operand2 % 2 ^ 32)
      if lockedDown s then s else advancePasses (fixUnlock s)
  | 0x08 => mbxRebind s r.target (BitVec.ofNat 32 r.operand)
  | 0x09 => { s with duty := other s.duty }
  | _ => s

/-- Whether handle `h` is marked by a commit of some resources (R68). -/
def marks (s : State) (hs : List Nat) (res : List (Nat × Nat)) (h : Nat) : Bool :=
  let x := s.handle h
  !hs.contains h && (x.state == .opened || x.state == .armed) && namesAny x.recs res

/-- The transactions marked for conflict by a commit (R68). -/
def markConflicts (s : State) (hs : List Nat) (rs : List ActRec) : State :=
  (List.range 6).foldl (fun s h =>
    if marks s hs (resourcesOf rs) h then s.setHandle h { s.handle h with conflict := true } else s) s

/-- The commit edge of a transaction of handles `hs` (R68, R74, R81); `jseq` is its JSEQ, or 0.
DEDUCED (log entry 29). -/
def commitTx (s : State) (hs : List Nat) (rs : List ActRec) (jseq : Nat) : State :=
  let olds := ((rs.filter (fun r => r.kind == 4)).map (fun r => r.target)).eraseDups.map (fun c => (c, rtbRec s c))
  let s := rs.foldl (fun s r => applyAct s (hs.contains 4) r) s
  let s := if hs.contains 5 then s.setBit Reg.PWR_STAT 1 false else s
  let s := s.wr Reg.ILK_SEQ (s.rd Reg.ILK_SEQ + 1)
  let s := s.wrBytes (Reg.ILK_LAST_DIGEST 0) 12 (txDigest rs)
  let s := s.log Ev.COMMIT .interlocking (subjectDetail rs)
    (leBytes 4 (s.rd Reg.ILK_SEQ).toNat ++ leBytes 4 jseq ++ (txDigest rs).take 28)
  let s := markConflicts s hs rs
  let s := closeHandles s 0 .interlocking hs
  compChanges s (firmwareDone s rs olds)

/-! ### Service (R69, R77) -/

/-- The handles of the transaction that handle `h` is in service with. -/
def txHandles (s : State) (h : Nat) : List Nat := h :: (s.handle h).partner.toList

/-- The transaction at the head of the queue leaves it. -/
def popQueue (s : State) : State :=
  { s with ilk := { s.ilk with queue := s.ilk.queue.drop 1, busy := none } }

/-- The outcome of the checks of the transaction in handle `h`: status and failing record (R68, R79). -/
def serveFault (s : State) (h : Nat) : Option (Nat × Nat) :=
  let x := s.handle h
  if (txHandles s h).any (fun k => (s.handle k).conflict) then some (0x20, 0x1FF)
  else match commitFault s 0 x.recs with
    | some f => some f
    | none => if journaledRecs x.recs = true ∧ powerFailing s = true then some (0x25, 0x1FF) else none

/-- The transaction at the head of the queue is served (R69): it aborts, commits, or begins its journal write once no
earlier entry awaits its applied marker and the erased space holds its entry (R78).
DEDUCED (log entry 28). -/
def serveFront (s : State) : State :=
  match s.ilk.busy, s.ilk.queue with
  | none, h :: _ =>
    let x := s.handle h
    match serveFault s h with
    | some (st, i) => abortTx (popQueue s) (txHandles s h) x.recs st i .interlocking
    | none =>
      if journaledRecs x.recs = false then commitTx (popQueue s) (txHandles s h) x.recs 0
      else if s.ilk.journal.unsettled = true ∨ s.ilk.journal.space < entryBlocks x.recs then s
      else beginJournal s h x.recs
  | _, _ => s

/-- The newest entry of the journal with its commit record complete.
DEDUCED (log entry 28). -/
def completeLast (j : Journal) : Journal :=
  { j with entries := j.entries.map (fun e => if e.jseq + 1 = j.next then { e with complete := true } else e) }

/-- The journal write in progress ends (R77, R80): its commit record is complete and the commit edge follows,
or the eNVM controller reports a program failure. -/
def journalEnd (s : State) (ok : Bool) : State :=
  match s.ilk.busy with
  | none => s
  | some h =>
    let x := s.handle h
    let hs := txHandles s h
    let seq := s.ilk.journal.next - 1
    let s := popQueue s
    if ok then
      commitTx { s with ilk := { s.ilk with journal := completeLast s.ilk.journal } } hs x.recs seq
    else
      let s := s.log Ev.JOURNAL_FAULT .interlocking (subjectDetail x.recs) (leBytes 4 seq)
      abortTx s hs x.recs 0x24 0x1FF .interlocking

/-- The home writes of a transaction's records (R77, R191, R259, R337).
DEDUCED (log entry 28). -/
def homeWrite (s : State) (r : ActRec) : State :=
  match r.kind with
  | 0x04 => homeAppend s r.target (withCheck r.payload)
  | 0x05 => homeAppend s 64 (withCrc (takePad 60 (((List.range 3).map (fun i =>
      if i = r.target then r.operand else homeMin s.home i)).flatMap (leBytes 4))))
  | 0x06 => ringAppend s r.payload
  | 0x07 => { s with home := { s.home with lockdown := some (if r.operand = 1 then r.payload else releasedRecord) } }
  | _ => s

/-- The home writes of the entry that awaits its applied marker end, and the marker is programmed (R78).
DEDUCED (log entry 28). -/
def journalApplied (s : State) : State :=
  match s.ilk.journal.entries.find? (fun e => e.complete && !e.applied) with
  | none => s
  | some e =>
    let s := e.recs.foldl homeWrite s
    let j := s.ilk.journal
    let es := j.entries.map (fun x => if x.jseq = e.jseq then { x with applied := true } else x)
    { s with ilk := { s.ilk with journal := { j with entries := es } } }

/-- Whether sector `k` may be erased (R78): every entry in it is applied, and the head is not in it. An entry
without a commit record is discarded, so only its completion could keep it. -/
def sectorFree (s : State) (k : Nat) : Bool :=
  let j := s.ilk.journal
  let mine (e : JEntry) : Bool := (sectorsOf e.start e.blocks).contains k
  j.dirty.contains k && !(j.head % 8 != 0 && j.head / 8 == k) &&
    j.entries.all (fun e => !mine e || e.applied || (!e.complete && e.jseq + 1 != j.next)) &&
    !(s.ilk.busy.isSome && j.entries.any (fun e => mine e && e.jseq + 1 == j.next))

/-- Sector `k` erased; an entry goes with its last sector. -/
def eraseSector (s : State) (k : Nat) : State :=
  let j := s.ilk.journal
  let dirty := j.dirty.filter (fun x => x != k)
  let es := j.entries.filter (fun e => (sectorsOf e.start e.blocks).any (fun x => dirty.contains x))
  { s with ilk := { s.ilk with journal := { j with dirty := dirty, entries := es } } }

/-- Every sector of the ring that may be erased erased (R78). -/
def eraseFree (s : State) : State := (List.range 32).foldl (fun s k => if sectorFree s k then eraseSector s k else s) s

/-- Every transaction in service reaches its outcome (R446); the erases that a journal write waits for end.
DEDUCED (log entry 20). -/
def drainIlk : Nat → State → State
  | 0, s => s
  | fuel + 1, s =>
    if s.ilk.busy.isSome then drainIlk fuel (journalEnd s true)
    else if s.ilk.queue.isEmpty then s
    else if s.ilk.journal.unsettled then drainIlk fuel (journalApplied s)
    else drainIlk fuel (serveFront (eraseFree s))

/-- The steps that at most seven transactions in service take. -/
def drainFuel : Nat := 32

/-- A transaction that signal-box firmware commits on a command's behalf: the transactions ahead of it are
served first, both cores vote alike, and it reaches its outcome within the command. Answers its status; ARMED
where it waits for an absent relief core.
DEDUCED (log entry 20). -/
def fwCommit (s : State) (rs : List ActRec) : State × Nat :=
  let s := drainIlk drainFuel s
  if votedRecs rs = true ∧ s.ilk.reliefAbsent = true then (s, 0x01)
  else match commitFault s 0 rs with
    | some (st, i) => (abortTx s [] rs st i .interlocking, st)
    | none =>
      if journaledRecs rs = false then (commitTx s [] rs 0, 0)
      else if powerFailing s then (abortTx s [] rs 0x25 0x1FF .interlocking, 0x25)
      else
        let s := journalApplied s
        if s.ilk.journal.space < entryBlocks rs then (s, 0x14)
        else
          let s := popQueue (beginJournal s 6 rs)
          let seq := s.ilk.journal.next - 1
          (commitTx { s with ilk := { s.ilk with journal := completeLast s.ilk.journal } } [] rs seq, 0)

/-! ### Closures without a TCOMMIT of their own (R73) -/

/-- The mirror of handle `h`, or the principal that mirror `h` votes on (R73): a transaction of the other core that
is not in service; the mirror of an ARMED principal has yet to be committed. -/
def partnersOf (s : State) (h : Nat) : List Nat :=
  let live := (List.range 4).filter (fun k => k / 2 != h / 2 && (s.handle k).state != .free &&
    (s.handle k).state != .service)
  match mirrorOf (s.handle h).recs with
  | some k => live.filter (fun j => j == k)
  | none => live.filter (fun j => mirrorOf (s.handle j).recs == some h)

/-- The partner that the DROP record of handle `h` names; 0xFF where it has none. -/
def partnerOf (s : State) (h : Nat) : Nat :=
  ((mirrorOf (s.handle h).recs).or (partnersOf s h).head?).getD 0xFF

/-- Handle `h` closed with DROPPED, its partner `p`, for a cause: 0 TDROP, 1 ILK_ARM write, 2 closure of the partner, 3 failover,
4 signal-box reset. -/
def dropHandle (s : State) (h p cause : Nat) (notify : Bool) : State :=
  let d := subjectDetail (s.handle h).recs
  let s := closeHandle s h 0x33 notify .interlocking
  s.log Ev.DROP .interlocking d (leBytes 1 h ++ leBytes 1 p ++ leBytes 1 0x33 ++ leBytes 1 cause)

/-- Handle `h` closed, and with an ARMED principal its mirror, with a LODGED mirror its principal. -/
def dropWith (s : State) (h cause : Nat) (notify : Bool) : State :=
  let ps := match (s.handle h).state with
    | .armed | .lodged => partnersOf s h
    | _ => []
  ps.foldl (fun s k => dropHandle s k h 2 true) (dropHandle s h (partnerOf s h) cause notify)

/-- Every transaction of some handles that is open and not in service closed with a cause. -/
def dropOpen (s : State) (cause : Nat) (hs : List Nat) : State :=
  hs.foldl (fun s' h =>
    match (s'.handle h).state with
    | .opened | .armed | .lodged => dropHandle s' h (partnerOf s h) cause false
    | _ => s') s

/-- The handles that close at the failover of core `c`: its own as if by TDROP, and the mirrors lodged against
them. -/
def failoverDrop (s : State) (c : Fin 2) : State :=
  let mine := [2 * c.val, 2 * c.val + 1]
  let mirrors := ((List.range 4).filter (fun h => !mine.contains h)).filter (fun h =>
    (s.handle h).state == .lodged && (mine.map some).contains (mirrorOf (s.handle h).recs))
  let s := mine.foldl (fun s h => match (s.handle h).state with
    | .opened | .armed | .lodged => dropWith s h 3 true
    | _ => s) s
  mirrors.foldl (fun s h => if (s.handle h).state = .lodged then dropHandle s h (partnerOf s h) 2 true else s) s

/-! ### Votes (R70-R72) -/

/-- A vote failure of principal `h` and mirror `m` (R71). At VOTE_MISSING one of them is absent: R71 does not say what the
record then carries for it, and the model writes handle 0xFF and 16 zero bytes of digest.
DESIGN CHOICE (log entry 86). -/
def voteFail (s : State) (h m : Option Nat) (status : Nat) : State :=
  let recs (x : Option Nat) : List ActRec := match x with
    | some k => (s.handle k).recs
    | none => []
  let main := if h.isSome then recs h else recs m
  let dig (x : Option Nat) : List Byte := match x with
    | some _ => (txDigest (recs x)).take 16
    | none => List.replicate 16 0
  let s := (s.inc Reg.ILK_VOTE_FAIL_COUNT).log Ev.VOTE_FAIL .interlocking (subjectDetail main)
    (leBytes 1 (h.getD 0xFF) ++ leBytes 1 (m.getD 0xFF) ++ leBytes 1 status ++ dig h ++ dig m)
  closeHandles s status .interlocking (h.toList ++ m.toList)

/-- The commit of a principal and its mirror resolved by its second TCOMMIT (R71): what the vote ends with, or
none where both go into service. -/
def voteStatus (s : State) (h m : Nat) : Option Nat :=
  let ps := (s.handle h).recs
  let ms := (s.handle m).recs
  let accept := ((ms.find? (fun r => r.kind == 0x0F)).map (fun r => bitOf r.operand 0)).getD false
  if accept = false then some 0x31
  else if txDigest ps = txDigest ms then none
  else some 0x30

/-! ### Start-up (R80) -/

/-- One entry of the ring as the start-up scan handles it. -/
def replayEntry (s : State) (e : JEntry) : State :=
  if e.complete = true ∧ e.applied = false then
    let s := e.recs.foldl homeWrite s
    let s := e.recs.foldl (fun s r =>
      if r.kind = 0x07 then { s with tmp := { s.tmp with latch := r.operand == 1 } } else s) s
    let s := s.setBit Reg.ILK_STAT 10 true
    s.log Ev.REPLAY .interlocking (match e.subject with | some (t, n) => t % 256 * 256 + n % 256 | none => 0xFFFF)
      (leBytes 4 e.jseq ++ (takePad 48 e.digest).take 28)
  else if e.complete = false then
    (s.setBit Reg.ILK_STAT 11 true).log Ev.JOURNAL_DISCARD .interlocking 0xFFFF (leBytes 4 e.jseq)
  else s

/-- The start-up scan of the ring: incomplete entries leave it, complete ones are applied. -/
def replayJournal (s : State) : State :=
  let s := s.ilk.journal.entries.foldl replayEntry s
  let j := s.ilk.journal
  let es := (j.entries.filter (fun e => e.complete)).map (fun e => { e with applied := true })
  { s with ilk := { s.ilk with journal := { j with entries := es } } }

/-- What a signal-box reset does to the Interlocking before the restart (R446).
DEDUCED (log entry 30). -/
def ilkReset (s : State) : State :=
  let s := drainIlk drainFuel s
  let s := dropOpen s 4 [0, 1, 2, 3]
  let s := s.wr Reg.ILK_CTL (regReset Reg.ILK_CTL)
  let s := (s.setF Reg.ILK_STAT 11 10 0).wr Reg.ILK_ARM 0
  { s with ilk := { s.ilk with handles := [], queue := [], busy := none, reliefAbsent := false } }

end Sys2Proof.Machine
end

