-- ==== Sys2Proof/Machine/PwrOps.lean ====
section
/-! DEFINITION. The power controller (R383-R402): modes, votes, sleep entry and exit, retention, yard operating
points, clocks, power failure, platform start and stop. -/

namespace Sys2Proof.Machine

/-- A PWR event (R403).
DESIGN CHOICE (log entry 59). -/
def pwrLog (s : State) (code detail : Nat) (payload : List Byte) : State := s.log code .power detail payload

/-! ### Domains (R386) -/

/-- PWR_DOM_d_STAT.state: 0 RUN, 1 IDLE, 2 DOZE, 3 OFF, and phase: 0 none, 1 prepare, 2 commit, 3 exit. -/
def domState (s : State) (d : Nat) : Nat := s.fld (Reg.PWR_DOM_STAT d) 1 0
def domPhase (s : State) (d : Nat) : Nat := s.fld (Reg.PWR_DOM_STAT d) 3 2

/-- Those fields set. -/
def setDomState (s : State) (d v : Nat) : State := s.setF (Reg.PWR_DOM_STAT d) 1 0 v
def setDomPhase (s : State) (d v : Nat) : State := s.setF (Reg.PWR_DOM_STAT d) 3 2 v

/-- PWR_DOM_d_STAT.pending_on. -/
def setPendingOn (s : State) (d : Nat) (b : Bool) : State := s.setBit (Reg.PWR_DOM_STAT d) 4 b

/-- PWR_DOM_d_CFG.sleep where domain `d` has that state (R386): HOST and NVM have no DOZE.
DEDUCED (log entry 65). -/
def sleepCfg (s : State) (d : Nat) : Nat :=
  let v := s.fld (Reg.PWR_DOM_CFG d) 1 0
  if (d = 23 ∨ d = 24) ∧ v = 2 then 0 else v

/-- The domains that can be voted (R386). -/
def domains : List Nat := (List.range 24).map (· + 1)

/-- The target of the entry in progress of domain `d`. -/
def domTarget (s : State) (d : Nat) : Nat := Sparse.get (fun _ => 0) s.pwr.target d

/-- Whether the platform is on. -/
def platformOn (s : State) : Bool := s.bit Reg.PWR_STAT 3

/-- Whether engine `e` is in PARK. -/
def engParked (s : State) (e : Nat) : Bool := (s.engine e).run == .parked

/-- The hardware vote bits of domain `d` (R386) but for the ledger unit's, which it sets itself. The cores of a signal
box that is OFF have no power and cast none. -/
def hwVote (s : State) (d : Nat) : Nat :=
  if d = 1 then
    if domState s 1 = 3 then 0
    else b2n ((List.finRange 2).any (fun c => (s.core c).run != .parked)) * 2 ^ 31 +
      b2n ((List.finRange 2).any (fun c => (s.core c).halted)) * 2 ^ 30
  else if d < 6 then
    b2n ((List.range 8).any (fun i =>
      let n := 8 * (d - 2) + i
      s.fld (Reg.SEC_CTL n) 1 0 != 0 || !(s.line n).queue.isEmpty || (s.line n).dev.isSome)) * 2 ^ 31
  else if d < 22 then
    (s.rd (Reg.PWR_VOTE d)).toNat / 2 ^ 31 * 2 ^ 31 +
      b2n (yardRunning s (d - 6) && (List.range 32).any (fun i => !engParked s (32 * (d - 6) + i))) * 2 ^ 30 +
      b2n (s.pwr.runHeld.contains (d - 6)) * 2 ^ 29
  else if d = 22 then b2n (platformOn s && (List.range 256).any (fun x => extState s x != 0)) * 2 ^ 31
  else if d = 23 then b2n (!s.bit Reg.HST_LINK 10) * 2 ^ 31
  else b2n (s.nvc.isSome || s.ilk.busy.isSome || s.ilk.journal.unsettled || s.evr.writing || s.evr.reclaiming) * 2 ^ 31

/-- PWR_VOTE_d: the firmware bits as stored and the hardware bits as they are (R387). -/
def voteWord (s : State) (d : Nat) : Nat := (s.rd (Reg.PWR_VOTE d)).toNat % 2 ^ 24 + hwVote s d

/-- The retained banks of domain `d` by kind and number (R396): 0 signal box, 1 Depot, 2 yard. -/
def retained (s : State) (d : Nat) : List (Nat × Nat) :=
  if d = 1 then (List.range 4).map (fun b => (0, b))
  else if d = 22 then if s.bit Reg.PWR_RET_CFG 0 then (List.range 12).map (fun b => (1, b)) else []
  else if 6 ≤ d ∧ d < 22 then if s.bit Reg.PWR_RET_CFG (16 + (d - 6)) then [(2, d - 6)] else []
  else []

/-- The domain of a retained bank. -/
def bankDomain (kind bank : Nat) : Nat := if kind = 0 then 1 else if kind = 1 then 22 else 6 + bank

/-- The first address of a retained bank of 1 MiB (R404). -/
def bankBase (kind bank : Nat) : Nat :=
  if kind = 0 then 0x01000000 + bank * 0x100000
  else if kind = 1 then 0x02000000 + bank * 0x100000
  else 0x04000000 + bank * 0x100000

/-- Whether an address lies in memory of domain `d` (R404). -/
def inDomainMem (d a : Nat) : Bool :=
  if d = 1 then inRange a 0x01000000 0x400000
  else if d = 22 then inRange a 0x02000000 0xC00000
  else if 6 ≤ d ∧ d < 22 then inRange a (0x04000000 + (d - 6) * 0x100000) 0x100000 ||
    inRange a (0x08000000 + (d - 6) * 0x200000) 0x200000
  else false

/-- The registers from `lo` up to `hi` at their reset values. -/
def resetRegs (s : State) (lo hi : Nat) : State :=
  { s with regs := s.regs.filter (fun p => !(decide (lo ≤ p.1) && decide (p.1 < hi))) }

/-- The memory of domain `d` lost, but for the banks that hold (R386, R396).
DESIGN CHOICE (log entry 4). -/
def loseMem (s : State) (d : Nat) (kept : List (Nat × Nat)) : State :=
  wipeMem s (fun a => inDomainMem d a && !kept.any (fun b => inRange a (bankBase b.1 b.2) 0x100000))

/-- The engines of yard `y` at their reset state, `run` as given. -/
def resetEngines (s : State) (y : Nat) : State :=
  (List.range 32).foldl (fun s i => s.setEngine (32 * y + i) {}) s

/-- The blocks of a domain reset by OFF (R386). The signal box starts anew at its next exit (R395); of NVM
only the operation in progress is lost. A reset makes no CHANGE record of the fields it returns to their reset values.
DEDUCED (log entry 72), DESIGN CHOICE (log entry 83). -/
def resetBlocks (s : State) (d : Nat) : State :=
  if d = 1 then s
  else if d < 6 then
    (List.range 8).foldl (fun s i =>
      let n := 8 * (d - 2) + i
      let v33 := s.bit (Reg.SEC_PORT_STAT n) 5
      ((resetRegs s (Reg.SEC_CTL n) (Reg.SEC_CTL n + 0x1000)).setLine n {}).setBit (Reg.SEC_PORT_STAT n) 5 v33) s
  else if d < 22 then
    let y := d - 6
    let s := resetEngines (resetRegs s (Reg.YRD_CTL y) (Reg.YRD_CTL y + 0x1000)) y
    s.setYard y {}
  else if d = 22 then resetRegs s 0x20130000 0x20140000
  else if d = 23 then pf0Reset s
  else resetRegs { s with nvc := none } 0x200A0000 0x200B0000

/-- The PLLs that stop as domain `d` leaves RUN (R395, R399): the cores will start on FIRC. -/
def stopPlls (s : State) (d : Nat) : State :=
  if d = 1 then
    ((s.setBit Reg.PWR_CLK_STAT 0 false).setBit Reg.PWR_CLK_STAT 2 false).setL .power Reg.PWR_CLK_CTL 6 6 0
  else if 6 ≤ d ∧ d < 22 ∧ (List.range 16).all (fun y => domState s (6 + y) != 0) = true
  then s.setBit Reg.PWR_CLK_STAT 1 false
  else s

/-- Domain `d` enters its sleep state: what that state loses, and the seals (R386, R392, R396). -/
def enterSleep (s : State) (d target : Nat) : State :=
  let seals := s.pwr.seals.filter (fun b => bankDomain b.1 b.2 != d)
  let s := stopPlls (setDomState s d target) d
  if target = 2 then
    let keep := retained s d
    let s := loseMem { s with pwr := { s.pwr with seals := seals ++ keep } } d keep
    if 6 ≤ d ∧ d < 22 then
      (List.range 32).foldl (fun s i =>
        s.setEngine (32 * (d - 6) + i) { s.engine (32 * (d - 6) + i) with tags := [] }) s
    else s
  else if target = 3 then resetBlocks (loseMem { s with pwr := { s.pwr with seals := seals } } d []) d
  else s

/-- The exit of domain `d` begins (R390, R396): from DOZE its seals are checked. While PFW_N is asserted the signal box
does not run (R428), so its exit waits for the rise.
DEDUCED (log entry 67). -/
def startExit (s : State) (d : Nat) : State :=
  if d = 1 ∧ s.bit Reg.PWR_STAT 0 = true then setPendingOn (setDomPhase s d 0) d false
  else
  let s := if domState s d = 2 then
      { s with pwr := { s.pwr with checks := s.pwr.seals.filter (fun b => bankDomain b.1 b.2 == d) } }
    else s
  setPendingOn (setDomPhase s d 3) d false

/-- A domain that a vote wakes, or whose entry a vote ends (R387, R389, R390). -/
def voteSet (s : State) (d : Nat) : State :=
  match domPhase s d with
  | 0 => if domState s d = 0 then s else startExit s d
  | 1 =>
    let s := (setDomPhase s d 0).inc (Reg.PWR_ABORT_COUNT d)
    pwrLog s Ev.SLEEP_ABORTED d (leBytes 1 (domTarget s d) ++ leBytes 4 (voteWord s d))
  | 2 => setPendingOn s d true
  | _ => s

/-- The entry of domain `d` begins (R388). -/
def sleepBegin (s : State) (d : Nat) : State :=
  if voteWord s d = 0 ∧ sleepCfg s d ≠ 0 ∧ domState s d = 0 ∧ domPhase s d = 0 then
    let s := { s with pwr := { s.pwr with target := Sparse.set (fun _ => 0) s.pwr.target d (sleepCfg s d) } }
    setDomPhase s d 1
  else s

/-- Domain `d` as its vote word now stands (R387, R388): a vote wakes it or ends its entry, the last vote
withdrawn begins an entry. -/
def syncDomain (s : State) (d : Nat) : State :=
  let v := voteWord s d
  let was := s.pwr.voted.contains d
  let s := s.wr (Reg.PWR_VOTE d) (BitVec.ofNat 32 v)
  if v ≠ 0 then
    let s := { s with pwr := { s.pwr with voted := if was then s.pwr.voted else s.pwr.voted ++ [d] } }
    voteSet s d
  else if was then
    sleepBegin { s with pwr := { s.pwr with voted := s.pwr.voted.filter (· != d) } } d
  else s

/-! ### Modes (R21, R383) -/

/-- Whether fixity work is present, waybills, items or passes, or a timetable range is due (R21, R383). -/
def fixityWork (s : State) : Bool :=
  !s.fix.waiting.isEmpty || !s.fix.passes.isEmpty || s.engines.any (fun p => p.2.item.isSome) ||
    (List.range 64).any (fun k => s.bit (Reg.FIX_TT_STAT k) 1)

/-- Whether a component can still be released at this platform start, or stage 2 has not been ready at it (R383). Once
the last releasable group has been released the start is over. -/
def starting (s : State) : Bool :=
  s.pwr.releasing && (!s.stage2Ready || (components s).any (fun e => compState s e.num == 1 || compState s e.num == 2))

/-- Whether a debug halt is in force.
DEDUCED (log entry 71). -/
def debugHalted (s : State) : Bool :=
  (List.finRange 2).any (fun c => (s.core c).halted) || s.engines.any (fun p => p.2.halted) ||
    s.lines.any (fun p => p.2.halted)

/-- The conditions of the modes, bit m for mode m (R21, R383). In BLANK and EOL the ROM waits in SERVICE (R365).
DEDUCED (log entry 71). -/
def modeMask (s : State) : Nat :=
  let up := !s.pwr.standby
  let hold := up && starting s
  let work := fixityWork s
  b2n s.pwr.standby * 2 + b2n hold * 4 + b2n (up && !hold && !work) * 8 + b2n (up && !hold && work) * 16 +
    b2n (s.bit Reg.RTB_RCV_STAT 6) * 32 + b2n (lockedDown s) * 64 +
      b2n (s.lcs.mtm.isSome || debugHalted s || s.fld Reg.LCS_STATE 3 0 == 0 || s.fld Reg.LCS_STATE 3 0 == 4) * 128

/-- The mode reported (R21). -/
def reportedMode (m : Nat) : Nat :=
  if bitOf m 6 then 6 else if bitOf m 7 then 7 else if bitOf m 5 then 5 else if bitOf m 2 then 2
  else if bitOf m 4 then 4 else if bitOf m 3 then 3 else 1

/-- PWR_MODE brought in step; a change of mode is recorded (R383). -/
def syncMode (s : State) : State :=
  let s := { s with pwr := { s.pwr with releasing := s.pwr.standby || starting s } }
  let m := modeMask s
  let old := s.fld Reg.PWR_MODE 2 0
  let s := (s.setF Reg.PWR_MODE 15 8 m).setF Reg.PWR_MODE 2 0 (reportedMode m)
  if old = reportedMode m then s
  else pwrLog s Ev.MODE_CHANGE 0 (leBytes 1 old ++ leBytes 1 (reportedMode m) ++ leBytes 1 m)

/-- The state bits of PWR_STAT that are marked L. -/
def setPlatformOn (s : State) (b : Bool) : State := s.setL .power Reg.PWR_STAT 3 3 (b2n b)

/-- PLATFORM_OFF completes once every domain but AON and NVM has left RUN (R385). -/
def finishOff (s : State) : State :=
  if s.pwr.goingOff = true ∧ (List.range 23).all (fun i => domState s (i + 1) != 0) = true then
    let q := s.pwr.offer
    let s := { s with pwr := { s.pwr with goingOff := false, offer := none, standby := true } }
    let s := setPlatformOn s false
    match q with
    | some (q, w0) => s.answer q w0 0 [] true
    | none => s
  else s

/-! ### Availability (R24) -/

/-- Whether a component is unavailable for a reason that R24 counts: released at this platform start, and held again at a
pad, or its points no longer ROUTED, or its flash refused; not by a response that the Consist names, an alarm, an open
update or recovery, or supplies outside their limits.
DESIGN CHOICE (log entry 37). -/
def outage (s : State) (e : CompEntry) : Bool :=
  let c := e.num
  let out := s.pwr.standby || powerFailing s || lockedDown s || s.bit Reg.HLD_STAT 0 ||
    s.upd.response.contains c || holdPend s c ||
    (s.bit Reg.RTB_UPD_STAT 6 && s.fld Reg.RTB_UPD_STAT 5 0 == c) ||
    (s.bit Reg.RTB_RCV_STAT 6 && s.fld Reg.RTB_RCV_STAT 5 0 == c)
  (compState s c == 3 || compState s c == 4) && !out &&
    (e.holds.any (holdPad s) || e.sections.any (fun n => pointsOf s n != 2 || s.bit (Reg.SEC_STAGE_STAT n) 6 ||
      senseBlocks s n))

/-- One component's episode begins, or ends and is logged as a FAULT record with the component and the duration in ms.
DESIGN CHOICE (log entry 37). -/
def syncOutage (s : State) (e : CompEntry) : State :=
  match outage s e, s.upd.outages.find? (fun p => p.1 == e.num) with
  | true, none => { s with upd := { s.upd with outages := s.upd.outages ++ [(e.num, s.ot)] } }
  | false, some p =>
    let s := { s with upd := { s.upd with outages := s.upd.outages.filter (fun q => q.1 != e.num) } }
    s.fwLog Ev.UNAVAILABLE e.num (leBytes 4 ((s.ot - p.2) * 1000 / 1024))
  | _, _ => s

/-- The episodes brought in step with the rest of the state. -/
def syncOutages (s : State) : State := (components s).foldl syncOutage s

/-- In LOCKDOWN no waybill waits: those not yet dispatched are answered LOCKDOWN (R22, R265). -/
def lockWaybills (s : State) : State :=
  if lockedDown s = true ∧ (s.fix.waiting ≠ [] ∨ s.fix.passes.any (fun p => !p.lock) = true) then fixLockdown s else s

/-- Votes, domains, the mode and the episodes of unavailability brought in step with the rest of the state. -/
def settle (s : State) : State :=
  syncOutages (syncMode (finishOff (domains.foldl syncDomain (lockWaybills (syncForced s 1)))))

/-! ### Votes and sleep (R387-R392) -/

/-- PVSET or PVCLR of domain `d` and bit `i` by a core (R387). -/
def fwVote (s : State) (c : Fin 2) (d i : Nat) (on : Bool) : State :=
  if d = 0 ∨ 24 < d ∨ 24 ≤ i then s.log Ev.VOTE_BAD (.lc c) d (leBytes 1 d ++ leBytes 1 i)
  else syncDomain (s.setBit (Reg.PWR_VOTE d) i on) d

/-- Whether tags of engine `e` are outstanding; `dma` asks for those of DMA alone. -/
def tagsOut (s : State) (e : Nat) (dma : Bool) : Bool :=
  (s.engine e).tags.any (fun t => !t.done && !(dma && t.stream))

/-- The block that refuses the entry of domain `d` to `target`, the lowest code first (R389).
DEDUCED (log entry 65). -/
def refuser (s : State) (d target : Nat) : Option Nat :=
  if d = 1 then
    if s.lanes.any (fun p => p.2.holder.isSome || !p.2.queue.isEmpty) then some 0x20
    else if !s.sig.v0.isEmpty || !s.sig.v1.isEmpty || !s.sig.pipe.isEmpty then some 0x21
    else if (List.range 6).any (fun h => (s.handle h).state != .free) || s.ilk.busy.isSome ||
            s.ilk.journal.unsettled then some 0x22
    else none
  else if d < 6 then
    ((List.range 8).map (fun i => 8 * (d - 2) + i)).find? (fun n => (s.line n).frame.isSome || (s.line n).ganger.isSome)
  else if d < 22 then
    let y := d - 6
    let es := (List.range 32).map (fun i => 32 * y + i)
    if es.any (fun e => (s.engine e).item.isSome) then some 0x26
    else if (s.bit Reg.YRD_BCAST_STAT 0 && bitOf (s.rd Reg.YRD_BCAST_MASK).toNat y) ||
            (s.keyLoad.map (fun k => bitOf k.yards y)).getD false || es.any (fun e => tagsOut s e true) then some 0x28
    else (es.find? (fun e => (s.engine e).item.isSome || tagsOut s e false)).map (fun e => 0x40 + e % 32)
  else if d = 22 then
    if (2 ≤ target ∧ platformOn s = true) ∨ s.lines.any (fun p => match p.2.frame with
        | some f => (match f.reply with | .depot _ => true | _ => false)
        | none => false) = true then some 0x23
    else none
  else if d = 23 then
    if (List.range 512).any (fun e => tagsOut s e false) ∨
       (target = 3 ∧ (List.range 1025).any (fun n => vinState s n == 2) = true) then some 0x25
    else none
  else none

/-- A refusal of the entry of domain `d` (R389). -/
def sleepRefuse (s : State) (d block : Nat) (timeout : Bool) : State :=
  let s := (setDomPhase s d 0).inc (Reg.PWR_REFUSE_COUNT d)
  let s := s.wr (Reg.PWR_LAST_REFUSER d) (BitVec.ofNat 32 (block % 256 + b2n timeout * 256))
  pwrLog s Ev.SLEEP_REFUSED d (leBytes 1 (domTarget s d) ++ leBytes 1 block ++ leBytes 1 (b2n timeout))

/-- The prepare phase of domain `d` ends (R388, R389). `slow` is a block that has neither acknowledged nor
refused within 100 µs; a yard's regulator still settling keeps the phase going. -/
def sleepPrepared (s : State) (d : Nat) (slow : Option Byte) : State :=
  if domPhase s d ≠ 1 then s
  else match refuser s d (domTarget s d), slow with
    | some b, _ => sleepRefuse s d b false
    | none, some b => sleepRefuse s d b.toNat true
    | none, none =>
      if 6 ≤ d ∧ d < 22 ∧ s.bit (Reg.PWR_YARD_OP (d - 6)) 4 = false then s else setDomPhase s d 2

/-- The commit phase of domain `d` ends (R390): a vote or wake held for it makes the domain exit at once.
DEDUCED (log entry 65). -/
def sleepCommitted (s : State) (d : Nat) : State :=
  if domPhase s d ≠ 2 then s
  else
    let t := domTarget s d
    let s := enterSleep s d t
    let vote := voteWord s d != 0
    let wake := s.pwr.woken.contains d
    let s := { s with pwr := { s.pwr with woken := s.pwr.woken.filter (· != d) } }
    if vote || wake then
      let s := (startExit s d).inc (Reg.PWR_BOUNCE_COUNT d)
      setPendingOn (pwrLog s Ev.SLEEP_BOUNCED d (leBytes 1 t ++ leBytes 1 (b2n (!vote)))) d true
    else setDomPhase s d 0

/-- A write of 1 to YRD_y_CTL.run while YARD_y is not in RUN (R392). -/
def holdRun (s : State) (y : Nat) : State :=
  let s := { s with pwr := { s.pwr with runHeld := if s.pwr.runHeld.contains y then s.pwr.runHeld else s.pwr.runHeld ++ [y] } }
  syncDomain (setPendingOn s (6 + y) true) (6 + y)

/-! ### Waking (R393, R394) -/

/-- Whether a wake source may wake (R393). -/
def wakeEnabled (s : State) (i : Nat) : Bool := i == 3 || i == 5 || s.bit Reg.PWR_WAKE_EN i

/-- A wake source fires (R393): SBOX wakes from a sleep state, and exits once a commit has ended (R390); an entry still
preparing is aborted as a vote aborts it (R389). While PFW_N is asserted the wake is recorded, and served after the rise
(R428).
DEDUCED (log entries 65, 67). -/
def wake (s : State) (i : Nat) : State :=
  if 7 ≤ i ∨ wakeEnabled s i = false ∨ (domState s 1 = 0 ∧ domPhase s 1 = 0) ∨ domPhase s 1 = 3 then s
  else
    let s := s.setBit Reg.PWR_WAKE_CAUSE i true
    let s := pwrLog s Ev.WAKE 0 (leBytes 1 (s.fld Reg.PWR_WAKE_CAUSE 6 0))
    if domPhase s 1 = 0 then startExit s 1
    else if domPhase s 1 = 1 then
      pwrLog ((setDomPhase s 1 0).inc (Reg.PWR_ABORT_COUNT 1)) Ev.SLEEP_ABORTED 1 (leBytes 1 (domTarget s 1) ++ leBytes 4 (voteWord s 1))
    else
      let s := setPendingOn s 1 true
      { s with pwr := { s.pwr with woken := if s.pwr.woken.contains 1 then s.pwr.woken else s.pwr.woken ++ [1] } }

/-- The pattern of R394 with its two STOPs `ticks` of the 32.768 kHz clock apart: within 0.97 ms it counts, past
1.03 ms it does not, between them it may. -/
def knockCounts (s : State) (ticks : Nat) : Bool × State :=
  if ticks ≤ 31 then (true, s)
  else if 34 ≤ ticks then (false, s)
  else
    let f := s.freeBytes 1
    (bitOf (f.1.getD 0 0).toNat 0, f.2)

/-! ### Retention (R396, R397) -/

/-- The Depot bank that extent `x` uses: its pages or its tag slots (R147). -/
def extUses (s : State) (x b : Nat) : Bool :=
  let base := s.fld (Reg.DEP_EXT_BASE x) 17 0
  let lo := if extClass s x = 2 then servedPage base else tagSlot base
  let hi := if extClass s x = 2 then servedPage (base + extLen s x) else tagSlot (base + extLen s x)
  decide (lo < bankBase 1 b + 0x100000) && decide (bankBase 1 b < hi)

/-- Whether the check of the retained bank that holds internal address `a` still runs (R396). -/
def bankBusy (s : State) (a : Nat) : Bool := s.pwr.checks.any (fun b => inRange a (bankBase b.1 b.2) 0x100000)

/-- A retained bank's check ends (R397). -/
def retentionChecked (s : State) (kind bank : Nat) (upset : Bool) : State :=
  if s.pwr.checks.contains (kind, bank) = false then s
  else
    let s := { s with pwr := { s.pwr with checks := s.pwr.checks.filter (· != (kind, bank)) } }
    if upset = false then s
    else
      let i := if kind = 0 then 12 + bank else if kind = 1 then bank else 16 + bank
      let s := s.setBit Reg.PWR_RET_LOST i true
      let s := wipeMem s (fun a => inRange a (bankBase kind bank) 0x100000)
      let s := pwrLog s Ev.RET_LOST (bankDomain kind bank) (leBytes 1 kind ++ leBytes 1 bank)
      if kind = 1 then
        freeExts s .power 0 (fun s x => extUses s x bank)
      else s

/-! ### Yard voltage and frequency, clocks (R398-R400) -/

/-- A write of PWR_YARD_y_OP (R398).
DEDUCED (log entry 70). -/
def yardOpWrite (s : State) (o : Origin) (y : Nat) (v : Word) (be : Nat) : State :=
  let a := Reg.PWR_YARD_OP y
  let old := s.rd a
  let s := if getBits v 5 5 = 1 then s.setBit a 5 false else s
  let vs := getBits v 1 0
  let dv := getBits v 3 2
  let ovs := getBits old 1 0
  let odv := getBits old 3 2
  if vs = ovs ∧ dv = odv then s
  else if (vs ≠ ovs ∧ dv ≠ odv) ∨ vs < dv ∨ (odv < dv ∧ old.getLsbD 4 = false) ∨ vs = 3 then
    pwrLog (s.setBit a 5 true) Ev.DVFS_ORDER (6 + y)
      (leBytes 1 y ++ leBytes 1 ovs ++ leBytes 1 odv ++ leBytes 4 v.toNat)
  else
    let before := s.rd a
    let s := (s.setF a 1 0 vs).setF a 3 2 dv
    let s := if vs ≠ ovs then s.setBit a 4 false else s
    s.regChange o a before (s.rd a) be

/-- A write of PWR_CLK_CTL (R400).
DEDUCED (log entry 70). -/
def clkCtlWrite (s : State) (o : Origin) (v : Word) (be : Nat) : State :=
  let a := Reg.PWR_CLK_CTL
  let old := s.rd a
  if v.getLsbD 6 = true ∧ s.bit Reg.PWR_CLK_STAT 0 = false then
    pwrLog s Ev.CLOCK_ORDER 0 (leBytes 4 a ++ leBytes 4 v.toNat)
  else
    let new := v &&& fieldMask 7 0
    let s := s.wr a new
    let s := if new.getLsbD 5 = false then (s.setBit Reg.PWR_CLK_STAT 0 false).setBit a 6 false else s
    let s := if new.getLsbD 7 = false then s.setBit Reg.PWR_CLK_STAT 1 false else s
    if old = s.rd a then s else s.regChange o a old (s.rd a) be

/-- Whether PLL `p` (0 PLL_SBX, 1 the yard PLL, 2 PLL_LINE) can lock where REFCLK is present (R399):
its domain is in RUN, it is enabled.
DEDUCED (log entry 65). -/
def pllRuns (s : State) (p : Nat) : Bool :=
  if p = 0 then domState s 1 == 0 && s.bit Reg.PWR_CLK_CTL 5
  else if p = 1 then (List.range 16).any (fun y => domState s (6 + y) == 0) && s.bit Reg.PWR_CLK_CTL 7
  else domState s 1 == 0

/-! ### Power failure (R401) -/

/-- The claimed hold lines as a mask of group `g`. -/
def claimedMask (s : State) (g : Nat) : Nat := maskOf 32 (fun k => holdClaimed s (32 * g + k))

/-- The sections that the accepted Consist claims. -/
def claimedSections (s : State) : List Nat := (List.range 32).filter (fun n => !(compsOf s [n]).isEmpty)

/-- The records that assert every claimed hold line and set every claimed section to ISOLATED (R385, R401). -/
def safeRecords (s : State) : List ActRec :=
  (List.range 3).map (fun g => ⟨1, g, claimedMask s g * (2 ^ 32 + 1), 0, []⟩) ++
    (claimedSections s).map (fun n => ⟨2, n, 0, 0, []⟩)

/-- PFW_N falls on port `n` (R445): a DEVICE read ends ABORTED, busy polls and refresh reads stop, and the entry that they
leave incomplete is discarded. -/
def powerFailPort (s : State) (n : Nat) : State :=
  let s := match (s.line n).dev with
    | some d => if d.dest = 2 then s else endDev s n 4
    | none => s
  match (s.line n).queue with
  | e :: _ =>
    if e.progress = .polling ∨ e.progress = .refreshing ∨ e.half = true ∧ e.progress = .passed
    then discardEntry s n e 0xF8 4 else s
  | [] => s

/-- PFW_N falls on every port. -/
def powerFailPorts (s : State) : State := (List.range 34).foldl powerFailPort s

/-- The power-fail transaction enters service through handle 5 (R60, R401). -/
def powerFailLodge (s : State) : State :=
  if (s.handle 5).state = .service then s
  else
    let s := enterService (s.setHandle 5 { recs := safeRecords s, lastStatus := (s.handle 5).lastStatus }) 5
    if s.ilk.busy.isNone ∧ s.ilk.queue = [5] ∧ lineLocked s = true then serveFront s else s

/-- PFW_N falls (R401, R445). -/
def powerFail (s : State) : State :=
  if s.bit Reg.PWR_STAT 0 then s
  else
    let s := powerFailPorts ((s.setBit Reg.PWR_STAT 0 true).setBit Reg.PWR_STAT 1 true)
    let s := pwrLog s Ev.PF_WARN 0 (lineMask (holdClaimed s))
    powerFailLodge { s with evr := { s.evr with writing := true, suspended := true } }

/-- K_tag destroyed and the tag area cleared (R142). -/
def dropTagKey (s : State) : State :=
  wipeMem { s with tagKey := none } (fun a => inRange a (tagSlot 0) 0x400000)

/-- K_tag drawn (R142), where the entropy source passes its health tests (R238). -/
def drawTagKey (s : State) : State :=
  if rbgOk s then
    let d := drawRandom s 32
    { d.2 with tagKey := some d.1 }
  else rbgStops s s.dutyOrigin

/-- The steps of a platform start up to the verification of the components (R384). -/
def platformStart (s : State) : State :=
  let s := setPlatformOn s true
  let s := (s.setBit Reg.PWR_STAT 2 false)
  let s := { s with pwr := { s.pwr with standby := false, goingOff := false, releasing := true } }
  let s := drawTagKey (dropTagKey s)
  let s := freeExts s s.dutyOrigin 0xF (fun _ _ => true)
  let s := (List.range 4).foldl (fun s k =>
    if (claimedSections s).any (fun n => n / 8 == k) then s.setBit (Reg.PWR_VOTE (2 + k)) 0 true else s) s
  let s := { s with upd := { s.upd with failed := [], outages := [], response := [] } }
  let s := s.mapFw (fun f => { f with checks := [], jobs := [], idents := [], loaded := [], ready := [], restore := none, recover := [], single := [] })
  (components s).foldl (fun s e => (setCompState s e.num 1).fwL (Reg.RTB_COMP e.num) 5 4 3) s

/-- The power-fail flush has ended (R355, R401): STANDBY with pf_off, K_tag destroyed (R142). -/
def powerFailed (s : State) (us : Nat) : State :=
  if s.bit Reg.PWR_STAT 0 = false ∨ s.evr.pfDone = true then s
  else
    let s := evrPowerFail s us
    let s := dropTagKey (setPlatformOn (s.setBit Reg.PWR_STAT 2 true) false)
    { s with pwr := { s.pwr with standby := true, goingOff := false } }

/-- The main rails fail while PFW_N is asserted (R401): every domain but the always-on one is OFF, with no seals. -/
def railsFail (s : State) : State :=
  if s.bit Reg.PWR_STAT 0 = false ∨ s.pwr.railsGone = true then s
  else
    let s := domains.foldl (fun s d => setPendingOn (setDomPhase (enterSleep s d 3) d 0) d false) s
    { s with pwr := { s.pwr with railsGone := true, woken := [], runHeld := [], seals := [], checks := [] }
             stage2Ready := false, tagKey := none }

/-! ### PLATFORM_OFF (R385, R402) -/

/-- Whether an update, recovery, handover, life-cycle transition or custody export is open (R385). -/
def platformBusy (s : State) : Bool :=
  s.bit Reg.RTB_UPD_STAT 6 || s.bit Reg.RTB_RCV_STAT 6 || s.fld Reg.RTB_HND_STAT 3 0 != 0 ||
    s.lcs.copies.any (fun w => finalWord w != w && codewordOk w) || s.att.exporting.isSome

/-- The sleep state that PLATFORM_OFF leaves a domain to enter where its configuration names none: DOZE for SBOX,
IDLE for the Depot, OFF for the others.
DESIGN CHOICE (log entry 66). -/
def offSleep (d : Nat) : Nat := if d = 1 then 2 else if d = 22 then 1 else 3

/-- Steps 3 to 5 of PLATFORM_OFF, once the ledger is closed.
DESIGN CHOICE (log entry 66). -/
def platformOffRest (s : State) : State :=
  let s := if ldgState s = 2 ∨ ldgState s = 4 then closeLedger s else s
  let s := s.fwL Reg.FIX_CTL 1 1 0
  let s := dropTagKey s
  let s := domains.foldl (fun s d =>
    if s.fld (Reg.PWR_DOM_CFG d) 1 0 = 0 then s.fwL (Reg.PWR_DOM_CFG d) 1 0 (offSleep d) else s) s
  (domains.drop 1 ++ [1]).foldl (fun s d => syncDomain (s.setF (Reg.PWR_VOTE d) 23 0 0) d) s

/-- PLATFORM_OFF accepted (R385). -/
def platformOff (s : State) (q : Sender) (w0 : Nat) : State :=
  let s := s.answer q w0 7 [] false
  let s := { s with pwr := { s.pwr with goingOff := true, offer := some (q, w0) } }
  let s := (fwCommit s (safeRecords s)).1
  if epochNeeded s = true ∨ ldgCommitting s = true then epochBegin s [.platformOff] else platformOffRest s

/-- The result of POWER_STATUS (R402): PWR_MODE, PWR_STAT, PWR_WAKE_CAUSE and each PWR_DOM_d_STAT. -/
def powerStatus (s : State) : List Byte :=
  ([Reg.PWR_MODE, Reg.PWR_STAT, Reg.PWR_WAKE_CAUSE] ++ domains.map Reg.PWR_DOM_STAT).flatMap
    (fun a => leBytes 4 (s.rd a).toNat)

end Sys2Proof.Machine
end

