-- ==== Sys2Proof/Machine/ResetOps.lean ====
section
/-! DEFINITION. Starts and resets: the signal box (R19, R446), lockstep mismatches (R212, R213), stage 2 ready
(R169), power-on reset and the loss of VIN_STBY (R383, R430). -/

namespace Sys2Proof.Machine

/-- The bit of RTB_FAILOVER where core `c`'s mismatch count starts. -/
def mismatchLo (c : Fin 2) : Nat := 4 * c.val

/-- The logical cores as stage 0 finds them (R28, R72, R213): a retired core stays held in reset, and the other holds
duty alone.
DEDUCED (log entry 30). -/
def bootCores (s : State) : State :=
  let s := { s with cores := [], duty := if s.retired.contains 0 then 1 else 0, stage2Ready := false }
  s.retired.foldl (fun s c => s.setCore c { run := .heldInReset }) s

/-- The Route Book as the ROM loads it (R191): `bad` tells whose copies are all found corrupt.
DEDUCED (log entry 30). -/
def loadRouteBook (s : State) (bad : Nat → Bool) (badMin : Bool) : State :=
  let s := (s.wr Reg.RTB_UNREAD_LO 0).wr Reg.RTB_UNREAD_HI 0
  loadMinver (loadRecs (s.setBit Reg.RTB_STAT 0 false) bad (List.range 64)) badMin

/-- The measurement registers at a start (R305, R306): MREG_5 stands. -/
def clearMregs (s : State) : State :=
  let s := ((List.range 16).filter (· != 5)).foldl (fun s m => s.wrBytes (Reg.ATT_MREG m 0) 12 (List.replicate 48 0)) s
  s.wr Reg.ATT_MREG_LOCK (regReset Reg.ATT_MREG_LOCK)

/-- What of firmware's data outlives a start of the signal box: which components have been ready since their release, and which
stages were pushed. The accepted stages, what was read, and the work in progress do not. -/
def keptFw (f : Fw) : Fw := { ready := f.ready, pushed := f.pushed }

/-- What every start of the whole signal box does (R19, R236, R305, R315, R325, R376). The life-cycle part of
the ROM follows it.
DEDUCED (log entry 30). -/
def bootSignalBox (s : State) (bad : Nat → Bool) (badMin : Bool) : State :=
  let relocked := s.bit Reg.HLD_LOCK 0
  let s := bootCores s
  let s := { s with lanes := [], irq := 0, irq1 := 0
                    upd := { s.upd with who := [], push := none, absentAt := none, ext := [], relocked := relocked
                                        failed := [], fw := keptFw s.upd.fw }
                    tmp := { s.tmp with unlock := none } }
  let s := ((s.setBit Reg.TMP_CTL 0 false).setBit Reg.SBD_LOCK 0 false).wr Reg.NVC_LOCK 0
  let s := resetRegs s 0x20030000 0x20039000
  let s := sigReset s
  let s := clearMregs (attReset (clearTickets (mbxSignalBoxReset s)))
  let s := resetRegs s Reg.RTB_UPD_STAT (Reg.RTB_UPD_STAT + 4)
  let s := resetRegs (resetRegs s Reg.RTB_RCV_STAT (Reg.RTB_RCV_STAT + 4)) Reg.RTB_HND_STAT (Reg.RTB_HND_STAT + 4)
  let s := (s.setBit Reg.PWR_STAT 4 true).setBit Reg.PWR_CLK_STAT 0 false
  let s := s.setL .power Reg.PWR_CLK_CTL 6 6 0
  let s := { s with ilk := { s.ilk with reliefAbsent := !s.retired.isEmpty } }
  let s := loadRouteBook (replayJournal s) bad badMin
  syncForced s 0


/-- No component record and no minimum is unreadable. -/
def noneBad : Nat → Bool := fun _ => false

/-- NO_STAGE (R166, R167, R72): the stage, its failed acceptances, the cause. -/
def noStage (s : State) (n cause : Nat) : State :=
  s.fwLog Ev.NO_STAGE n (leBytes 1 (Sparse.get (fun _ => 0) s.upd.stageFails n) ++ leBytes 1 cause)

/-- The signal box resets and restarts at stage 0 (R19, R446). With a core retired the acceptance of stage 1 waits for
its vote, and that is recorded (R72).
DEDUCED (log entry 30). -/
def signalBoxReset (s : State) (bad : Nat → Bool) (badMin : Bool) : State :=
  let s := lcStartup (bootSignalBox (ilkReset s) bad badMin) false
  if s.retired.isEmpty then s else noStage s 1 2

/-- A vote on the acceptance of stage `n` has failed (R166): it is counted, the third is recorded, and the signal
box restarts. -/
def stageVoteFailed (s : State) (n : Nat) : State :=
  let k := Sparse.get (fun _ => 0) s.upd.stageFails n + 1
  let s := { s with upd := { s.upd with stageFails := Sparse.set (fun _ => 0) s.upd.stageFails n k } }
  let s := if k = 3 then noStage s n 1 else s
  signalBoxReset s noneBad false

/-- The acceptance of components `cs` has failed its vote (R178): a group's are submitted again one by one at VOTE_MISMATCH, and
a component whose own acceptance fails stays held; a recovery of it fails (R205). -/
def acceptVoteFailed (s : State) (cs : List Nat) (status : Nat) : State :=
  match cs with
  | [c] =>
    if s.bit Reg.RTB_RCV_STAT 6 = true ∧ s.fld Reg.RTB_RCV_STAT 5 0 = c then recoveryFail s 4 0
    else
      let s := s.mapFw (fun f => { f with checks := f.checks.filter (fun k => k.comp != c), single := f.single.filter (· != c) })
      heldNoSlot s c 3
  | _ => if status = 0x30 then s.mapFw (fun f => { f with single := (f.single ++ cs).eraseDups }) else s

/-- The duty vote of a handover has failed (R211): the pause ends with the old roles, and the relief core restarts into the
on-duty core's code. -/
def handoverVoteFailed (s : State) : State :=
  restartCore (s.fwL Reg.RTB_HND_STAT 7 0 (2 * 2 ^ 4)) s.relief

/-- A vote failure with what it starts (R71, R166, R178, R211). -/
def voteFailed (s : State) (h m : Option Nat) (status : Nat) : State :=
  let rs := match h, m with
    | some k, _ => (s.handle k).recs
    | none, some k => (s.handle k).recs
    | none, none => []
  let s := voteFail s h m status
  match subjectOf rs with
  | some (0, n) => stageVoteFailed s n
  | some (1, _) => acceptVoteFailed s ((rs.filter (fun r => r.kind == 4)).map (fun r => r.target)) status
  | some (3, _) => if rs.any (fun r => r.kind == 9) then handoverVoteFailed s else s
  | _ => s

/-- A mismatch of core `c` counted, and its retirement at the third (R213). -/
def countMismatch (s : State) (c : Fin 2) : State :=
  let lo := mismatchLo c
  let n := min (s.fld Reg.RTB_FAILOVER (lo + 3) lo + 1) 15
  let s := s.setF Reg.RTB_FAILOVER (lo + 3) lo n
  if n = 3 then
    let s := { s with retired := c :: s.retired }
    (s.setBit Reg.RTB_FAILOVER 8 true).log Ev.CORE_RETIRED (.lc c) 0 (leBytes 1 c.val ++ leBytes 1 n)
  else s

/-- Core `c` reset alone (R212, R213, R222, R232): its queued jobs end, and it starts at stage 0 unless retired. Its MPU
windows, locked ones too, are cleared: R45 keeps a lock until the next reset of the signal box and does not say whether
the reset of one core is one.
DESIGN CHOICE (log entry 81). -/
def resetCore (s : State) (c : Fin 2) : State :=
  let s := sigAbortMine s c
  let s := (List.range 34).foldl (fun s l => exmAbortQueued s l (fun j => j.core == c)) s
  let s := s.setCore c (if s.retired.contains c then { run := .heldInReset } else {})
  let s := if c = 0 then { s with irq := 0 } else { s with irq1 := 0 }
  { s with ilk := { s.ilk with reliefAbsent := true }
           upd := { s.upd with absentAt := if s.upd.absentAt.isSome then s.upd.absentAt else some s.ot } }

/-- A failover after the relief core has restarted into a handover's new code ends that handover as done (table of "Happenings
that meet", 08_update_recovery.md): the failed core rejoins on the new code. -/
def handoverByFailover (s : State) : State :=
  let step := s.fld Reg.RTB_HND_STAT 3 0
  match s.upd.fw.stages.find? (fun p => p.1 == 3) with
  | some p =>
    if 5 ≤ step ∧ step ≤ 10 then
      (keepStage (s.fwL Reg.RTB_HND_STAT 7 0 0) 2 p.2).mapFw (fun f =>
        { f with stages := f.stages.filter (fun q => q.1 != 3), newConsist := false })
    else s
  | none => s

/-- A lockstep mismatch in core `c` (R19, R212, R213); `us` is the time to duty of a failover.
DESIGN CHOICE (log entries 16, 77). -/
def lockstepMismatch (s : State) (c : Fin 2) (us : Nat) : State :=
  if s.retired.contains c then s
  else
    let absent := s.ilk.reliefAbsent
    let ready := s.stage2Ready
    let s := countMismatch s c
    if ready = false then signalBoxReset s noneBad false
    else if c ≠ s.duty then resetCore s c
    else if absent then
      let s := s.log Ev.DUTY_LOST (.lc c) 0 (leBytes 1 c.val ++ leBytes 1 (b2n (s.retired.contains (other c))))
      signalBoxReset s noneBad false
    else
      let s := { s with duty := other c }
      let s := failoverDrop (s.raiseIn (other c) 18) c
      let s := s.setF Reg.RTB_FAILOVER 31 16 (min 65535 (s.fld Reg.RTB_FAILOVER 31 16 + 1))
      let s := s.log Ev.FAILOVER (.lc c) 0 (leBytes 1 c.val ++ leBytes 4 us)
      resetCore (handoverByFailover s) c

/-- The reset core shadows again as relief (R213): its own stages have left the windows of R168. A handover whose core
restarted goes on from step 5, or ends after step 11 (R210). -/
def coreRejoined (s : State) : State :=
  if s.ilk.reliefAbsent = false ∨ s.retired.isEmpty = false then s
  else
    let ms := (s.ot - s.upd.absentAt.getD s.ot) * 1000 / 1024
    let s := { s with ilk := { s.ilk with reliefAbsent := false }, upd := { s.upd with absentAt := none } }
    let step := s.fld Reg.RTB_HND_STAT 3 0
    let s := if step = 5 then s.fwL Reg.RTB_HND_STAT 3 0 6 else if step = 11 then s.fwL Reg.RTB_HND_STAT 3 0 0
      else stageWindows (stageWindows s 1 s.relief) 2 s.relief
    s.log Ev.CORE_REJOINED (.lc s.relief) 0 (leBytes 1 s.relief.val ++ leBytes 4 ms)

/-! ### Stage 2 ready (R169) -/

/-- The Consist of source `src` (0 slot A, 1 slot B, 2 the copy) accepted by stage 2 (R170, R305): its event and its
measurements, and a comparison of the hold lines where a restarted stage 2 finds them locked (R443). Its bytes are in the
copy, which stage 2 keeps equal to it. -/
def consistAccepted (s : State) (src : Nat) : State :=
  let d := sha384 (consistBytes s 0 (consistLe s 12 4))
  let s := s.fwLog Ev.CONSIST_ACCEPTED 0 (leBytes 1 src ++ leBytes 4 (consistLe s 8 4) ++ d.take 28)
  let s := measureConsist (s.mapFw (fun f => { f with consist := some src }))
  if s.upd.relocked then holdCompare s (List.range 96) else s

/-- The record of a trial of an earlier power cycle reverted (R201). -/
def revertOld (s : State) (c : Nat) : State :=
  let r := rtbRec s c
  if recTrial r = true ∧ leAt r 24 4 < s.pcc then
    (fwCommit s [⟨0x0E, c, 2, 0, []⟩, ⟨0x04, c, recGen r, 0, putAt (revertRec r) 188 [0, 0, 0, 0]⟩]).1
  else s

/-- The SVN and build of the running stage 2: those accepted, else those the command gives. -/
def stage2Version (s : State) (svn build : Nat) : Nat × Nat :=
  match s.upd.fw.stages.find? (fun p => p.1 == 2) with
  | some p => (p.2.svn, p.2.build)
  | none => (svn, build)

/-- Whether stage 2 may signal ready (R169): the Consist has been accepted, the hold lines are configured and locked, and the
relief core is shadowing. -/
def mayBeReady (s : State) : Bool := s.upd.fw.consist.isSome && s.bit Reg.HLD_LOCK 0 && !s.ilk.reliefAbsent

/-- Stage 2 signals ready (R169, R201, R342). -/
def stage2Ready (s : State) (svn build : Nat) : State :=
  if s.stage2Ready = true ∨ mayBeReady s = false then s
  else
    let s := { s with stage2Ready := true }
    let v := stage2Version s svn build
    let s := s.fwLog Ev.STAGE2_READY 2 (leBytes 4 v.1 ++ leBytes 4 v.2 ++ leBytes 4 (s.rd Reg.ILK_SEQ).toNat)
    let s := flushVlatch (syncForced s 0)
    (List.range 64).foldl revertOld s

/-! ### Power-up and power loss of the always-on domain (R11, R383, R430) -/

/-- Whether the register at `a` is kept without VIN_STBY: OTP, and in the VBAT domain the event latch. -/
def keptReg (vbat : Bool) (a : Nat) : Bool :=
  inRange a 0x200B0000 0x1000 || inRange a (Reg.LCS_SERIAL 0) 16 || a == Reg.LCS_OTP_KEYS ||
    a == Reg.TMP_FUSED || a == Reg.TMP_EVIDENCE || (vbat && (a == Reg.TMP_VLATCH_STAT || a == Reg.TMP_VBAT_TICK_LO || a == Reg.TMP_VBAT_TICK_HI || inRange a (Reg.TMP_VLATCH_LO 0) 0x80))

/-- What is left of the state when VIN_STBY is lost (R11, R337, R341, R383): eNVM, OTP and, where a cell is
present, the VBAT domain. -/
def powerLost (s : State) (cell : Bool) : State :=
  let z := State.reset
  let e : Recorder := { z.evr with slots := s.evr.slots, tail := s.evr.tail }
  let t : Tamper :=
    if cell then { z.tmp with latch := s.tmp.latch, latchResp := s.tmp.latchResp, latchSrc := s.tmp.latchSrc,
                              vbatCfg := s.tmp.vbatCfg, hist := s.tmp.hist, ticked := s.tmp.ticked,
                              canary := s.tmp.canary, canaryWord := s.tmp.canaryWord, vlatchNew := s.tmp.vlatchNew }
    else { z.tmp with canary := false, canaryWord := s.tmp.canaryWord, cell := false }
  let l := { z.lcs with copies := s.lcs.copies, trans := s.lcs.trans, staffs := s.lcs.staffs, staged := s.lcs.staged }
  let r : State :=
    { z with pending := s.pending, freeCtr := s.freeCtr, pcc := s.pcc, ot := s.ot
             regs := (s.regs.filter (fun p => keptReg cell p.1)).foldl
               (fun r p => Sparse.set regReset r p.1 p.2) z.regs
             mem := s.mem.filter (fun c => inRange c.1 0x10000000 0x01000000)
             home := s.home, ilk := { z.ilk with journal := s.ilk.journal }, evr := e
             retired := [], tmp := t
             lcs := l
             fix := { z.fix with tt := s.fix.tt, saved := s.fix.saved, reportSeq := s.fix.reportSeq }
             att := { z.att with ds := s.att.ds, counter := s.att.counter }
             pwr := { z.pwr with down := true } }
  if cell then r else r.setBit Reg.PWR_CLK_STAT 4 false

/-- VIN_STBY leaves its range (R383): BACKUP where a cell is present, else unpowered. With PFW_N high VOLT
detector 1 raises its event first (R427).
DEDUCED (log entry 67). -/
def vinStbyLoss (s : State) (cell : Bool) : State :=
  if s.pwr.down then s
  else
    let s := if s.bit Reg.PWR_STAT 0 then s else detectorEvent s 0 0 (vbatTick s) []
    let s := if s.bit Reg.TMP_STAT 5 then s.log Ev.CELL_WINDOW .tamper 13 [3] else s
    powerLost s cell

/-- What the always-on domain finds at its power-up beyond the state: PFW_N, the I/O supplies sensed at 3.3 V (bit k
VDDIO_LINE_k, bit 4 VDDIO_MGMT), corrupt copies in eNVM, whether the lockdown record is unreadable and the canary
lost. -/
structure PowerUp where
  pfwHigh : Bool
  v33 : BitVec 5
  badRecs : BitVec 64
  badMin : Bool
  badLock : Bool
  canaryLost : Bool
  corruptLog : List Nat
deriving DecidableEq, Repr

/-- The timetable's registers as the copies in eNVM have them (R261). -/
def ttStart (s : State) : State :=
  s.fix.tt.foldl (fun s e =>
    let p := Sparse.get (fun _ => (e.2.first, 0)) s.fix.saved e.1
    let s := (s.setBit (Reg.FIX_TT_STAT e.1) 0 (bitOf e.2.flags 0)).wr (Reg.FIX_TT_AGE e.1) (BitVec.ofNat 32 p.2)
    s.wr64 (Reg.FIX_TT_CUR_LO e.1) (Reg.FIX_TT_CUR_HI e.1) p.1) s

/-- The supply of each port's bank, as sensed at power-up (R82).
DEDUCED (log entry 72). -/
def senseBanks (s : State) (v33 : BitVec 5) : State :=
  (List.range 34).foldl (fun s n => s.setBit (Reg.SEC_PORT_STAT n) 5 (v33.getLsbD (min (n / 8) 4))) s

/-- The power-on reset of the always-on domain releases (R11, R80, R191, R259, R339, R357, R430): the ROM starts,
and with PFW_N high a platform start follows (R384); with PFW_N low SBOX stays OFF in STANDBY.
DEDUCED (log entry 68). -/
def powerOnReset (s : State) (p : PowerUp) : State :=
  let s := if s.pwr.down then s else powerLost s true
  let s := senseBanks { s with pcc := s.pcc + 1, ot := 0, pwr := { s.pwr with down := false } } p.v33
  let s := evrStartup s p.corruptLog
  let s := { s with tmp := { s.tmp with record := if p.badLock then none else s.home.lockdown } }
  let s := setDomState (s.setBit (Reg.PWR_VOTE 24) 0 true) 24 0
  let s := bootSignalBox s (fun c => p.badRecs.getLsbD c) p.badMin
  let s := { s with tmp := { s.tmp with record := if p.badLock then none else s.home.lockdown } }
  let s := ttStart (ringStart (lcStartup s true))
  let s := canaryAtPowerUp (lockdownAtPowerUp s p.badLock) p.canaryLost
  if p.pfwHigh then platformStart s
  else
    let s := setDomState ((s.setBit Reg.PWR_STAT 0 true).setF (Reg.PWR_VOTE 1) 23 0 0) 1 3
    { s with pwr := { s.pwr with standby := true, railsGone := true } }

/-! ### Exit of a domain (R391-R395) -/

/-- The cores resume at their wake vectors (R395). -/
def resumeCores (s : State) : State :=
  (List.finRange 2).foldl (fun s c =>
    if (s.core c).run = .heldInReset then s
    else s.setCore c { s.core c with run := .running, pc := (s.rd (Reg.PWR_WAKE_VEC c.val)).zeroExtend 64 }) s

/-- The engines of a yard start at their entry vector or go back to reset (R28, R50). -/
def startEngines (s : State) (y : Nat) (run : Bool) : State :=
  let v := s.fld (Reg.YRD_ENTRY y) 15 0
  let x : Engine := if run then { run := .running, pc := v } else { run := .held }
  let s := s.setYard y { s.yard y with entry := v, owedY := [] }
  let s := { s with owedG := s.owedG.filter (fun e => e / 32 != y) }
  (List.range 32).foldl (fun s i => s.setEngine (32 * y + i) x) s

/-- Domain `d` reaches RUN (R391-R396). -/
def domainRun (s : State) (d : Nat) : State :=
  if domPhase s d ≠ 3 then s
  else
    let from_ := domState s d
    let s := setPendingOn (setDomPhase (setDomState s d 0) d 0) d false
    let s := { s with pwr := { s.pwr with woken := s.pwr.woken.filter (· != d) } }
    if d = 1 then
      if from_ = 3 then (signalBoxReset s noneBad false).raise 6
      else (resumeCores (s.setBit Reg.PWR_STAT 4 false)).raise 6
    else if 6 ≤ d ∧ d < 22 ∧ s.pwr.runHeld.contains (d - 6) = true then
      let y := d - 6
      let s := { s with pwr := { s.pwr with runHeld := s.pwr.runHeld.filter (· != y) } }
      startEngines (s.setL s.dutyOrigin (Reg.YRD_CTL y) 0 0 1) y true
    else s

/-- A command takes effect while VIN_STBY is present; without it no agent is powered (R383).
DESIGN CHOICE (log entry 9). -/
def act (s : State) (f : State → State) : Out := .next (if s.pwr.down then s else f s)

/-- As `act`, on the section logic clock or the commit clock: until PLL_LINE locks it waits (R400, R438). -/
def clocked (s : State) (f : State → State) : Out := act s (fun s => if lineLocked s then f s else s)

/-! ### Pending interrupts (R41, R56) -/

/-- One bit of CS_IPEND. -/
def pendBit (i : Nat) (b : Bool) : Dword := if b then 1#64 <<< i else 0

/-- CS_IPEND of core `c` (R41): the blocks' own statuses for sources 0 (in the on-duty core, R321), 4, 5, 6, 7, 10 and 17,
the timer for source 19, and what was raised and whose status the core has not yet read for the others.
DESIGN CHOICE (log entries 12, 77, 98), DEDUCED (log entry 15). -/
def ipend (s : State) (c : Fin 2) : Dword :=
  let x := s.core c
  let any (l : List Nat) : Bool := l.any (fun a => s.rd a != 0)
  ((if c = 0 then s.irq else s.irq1) &&& 0x5FB0E#64) |||
    pendBit 0 (c == s.duty && any [Reg.MBX_POST_LO, Reg.MBX_POST_HI, Reg.MBX_DONE_LO, Reg.MBX_DONE_HI]) |||
    pendBit 4 (any [Reg.TMP_ALARM]) ||| pendBit 5 (evrPending s) ||| pendBit 6 (any [Reg.PWR_WAKE_CAUSE]) |||
    pendBit 7 (any [Reg.HLD_RPT_CHG 0, Reg.HLD_RPT_CHG 1, Reg.HLD_RPT_CHG 2]) |||
    pendBit 10 (any ((List.range 16).map Reg.YRD_FAULT_MAP)) |||
    pendBit 17 (s.bit Reg.NVC_STAT 1) ||| pendBit 19 (decide (x.timecmp.toNat ≤ x.cycle.toNat))

/-- Whether a source is pending and enabled in core `c` (R41, R56).
DEDUCED (log entry 22). -/
def wakesCore (s : State) (c : Fin 2) : Bool := ipend s c &&& (s.core c).ien != 0

/-- A parked core with a source pending and enabled returns from PARK (R56); one that sleeps with its domain wakes
it (R393). -/
def unpark (s : State) : State :=
  let s := (List.finRange 2).foldl (fun s c =>
    if (s.core c).run = .parked ∧ wakesCore s c = true then s.setCore c { s.core c with run := .running } else s) s
  if domState s 1 ≠ 0 ∧ domPhase s 1 = 0 ∧ (s.bit Reg.PWR_STAT 0 && s.bit Reg.PWR_WAKE_CAUSE 6) = false ∧
      (wakesCore s 0 || wakesCore s 1) = true then wake s 6 else s

/-- As `act`, with parked cores, votes, domains and the mode brought in step after it (R21, R56, R386).
DESIGN CHOICE (log entry 9). -/
def actSettle (s : State) (f : State → State) : Out := act s (fun s => settle (unpark (f s)))

/-- As `clocked`, with what `actSettle` does after it. -/
def clockedSettle (s : State) (f : State → State) : Out := clocked s (fun s => settle (unpark (f s)))

end Sys2Proof.Machine
end

