-- ==== Sys2Proof/Machine/YardOps.lean ====
section
/-! DEFINITION. The yards: engine faults and restarts, work items that end without a result, barriers, program
broadcast (R42, R50-R56 of 02_wemon.md). -/

namespace Sys2Proof.Machine

/-! ### Engines -/

/-- A work item ends without a result: ABORTED, with the cause of an alarm that marked it, or an engine fault
(R42, R230, R244).
DEDUCED (log entry 23). -/
def endItem (s : State) (e : Nat) : State :=
  match (s.engine e).item with
  | none => s
  | some i =>
    let t := s.setEngine e { s.engine e with item := none }
    wakeFreed s (syncFix (if i.dropped then t
      else fixComplete t i.wb 0x13 0 i.streamed noSegment (if i.cancelled then 1 else 2) e))

/-- The engines named by BAR_MASK of yard `y`, as lanes (R51). -/
def barLanes (s : State) (y : Nat) : List Nat := (List.range 32).filter (fun l => s.bit (Reg.YRD_BAR_MASK y) l)

/-- Whether yard `y` has joined the global barrier (R51). -/
def barJoined (s : State) (y : Nat) : Bool := s.bit (Reg.YRD_GBAR y) 0

/-- The participants of BAR.G (R51). -/
def barGlobal (s : State) : List Nat :=
  ((List.range 16).filter (barJoined s)).flatMap (fun y => (barLanes s y).map (fun l => 32 * y + l))

/-- Whether engine `e` waits at BAR.Y, and at BAR.G. -/
def waitsY (s : State) (e : Nat) : Bool := match (s.engine e).run with
  | .waitY _ => true
  | _ => false
def waitsG (s : State) (e : Nat) : Bool := match (s.engine e).run with
  | .waitG _ => true
  | _ => false

/-- The engines of yard `y`. -/
def yardEngines (y : Nat) : List Nat := (List.range 32).map (fun l => 32 * y + l)

/-- BAR_STAT.y_wait and g_wait of yard `y`. -/
def syncBar (s : State) (y : Nat) : State :=
  (s.setBit (Reg.YRD_BAR_STAT y) 0 ((yardEngines y).any (waitsY s))).setBit (Reg.YRD_BAR_STAT y) 1
    ((yardEngines y).any (waitsG s))

/-- BAR_STAT of every yard. -/
def syncBars (s : State) : State := (List.range 16).foldl syncBar s

/-- A general register of an engine written; g0 discards (R27). -/
def Engine.setReg (x : Engine) (r : RegNo) (v : Dword) : Engine :=
  if r = 0 then x else { x with g := Sparse.set (fun _ => (0 : Dword)) x.g r.toNat v }

/-- An engine released from the barrier it waits at, with `v` in its rd (R51, R52). -/
def release (s : State) (v : Dword) (e : Nat) : State :=
  let x := s.engine e
  match x.run with
  | .waitY rd => s.setEngine e { (x.setReg rd v) with run := .running }
  | .waitG rd => s.setEngine e { (x.setReg rd v) with run := .running }
  | _ => s

/-- BARRIER_BROKEN and BAR_STAT of yard `y` (R52). -/
def barBroken (s : State) (y : Nat) (mixed : Bool) : State :=
  let s := s.setBit (Reg.YRD_BAR_STAT y) 2 true
  let s := if mixed then s.setBit (Reg.YRD_BAR_STAT y) 3 true else s
  s.log Ev.BARRIER_BROKEN (.yard ⟨y % 16, by omega⟩) 0 []

/-- BAR.Y of yard `y` breaks, whether or not an engine waits there; `arrived` are the lanes that need not arrive any
more (R52).
DEDUCED (log entry 23). -/
def breakY (s : State) (y : Nat) (mixed : Bool) (arrived : List Nat) : State :=
  let ws := (yardEngines y).filter (waitsY s)
  let owed := (barLanes s y).filter (fun l => !ws.contains (32 * y + l) && !arrived.contains l)
  let s := ws.foldl (fun s e => release s 1 e) s
  let s := s.setYard y { s.yard y with owedY := owed }
  syncBar (barBroken s y mixed) y

/-- BAR.G breaks, whether or not an engine waits there, for a cause in yard `y`; every joined yard shows it (R52).
DEDUCED (log entry 23). -/
def breakG (s : State) (y : Nat) (mixed : Bool) (arrived : List Nat) : State :=
  let ws := (List.range 512).filter (waitsG s)
  let owed := (barGlobal s).filter (fun e => !ws.contains e && !arrived.contains e)
  let s := ws.foldl (fun s e => release s 1 e) s
  let s := { s with owedG := owed }
  let s := ((List.range 16).filter (fun j => barJoined s j && j != y)).foldl
    (fun s j => let s := s.setBit (Reg.YRD_BAR_STAT j) 2 true
                if mixed then s.setBit (Reg.YRD_BAR_STAT j) 3 true else s) s
  syncBars (barBroken s y mixed)

/-- Both barriers of yard `y` break (R52). -/
def breakBars (s : State) (y : Nat) : State :=
  let s := breakY s y false []
  if barJoined s y then breakG s y false [] else s

/-- The barriers that the last arrival or a change of the masks completes are released; a yard whose participants
have all arrived, at different barriers, breaks both (R51, R52). -/
def settleBars (s : State) (y : Nat) : State :=
  let lanes := (barLanes s y).map (fun l => 32 * y + l)
  let ys := lanes.filter (waitsY s)
  let gs := lanes.filter (waitsG s)
  let s := if !ys.isEmpty && ys.length == lanes.length then ys.foldl (fun s e => release s 0 e) s
    else if !ys.isEmpty && !gs.isEmpty && ys.length + gs.length == lanes.length then
      breakG (breakY s y true (barLanes s y)) y true lanes
    else s
  let all := barGlobal s
  let s := if !all.isEmpty && all.all (waitsG s) then all.foldl (fun s e => release s 0 e) s else s
  syncBars s

/-- Engine `e` executes BAR.Y (R51, R52): outside the mask it completes at once; after a break it returns 1 until
every participant has arrived. -/
def barrierY (s : State) (e : Nat) (rd : RegNo) : State :=
  let y := e / 32
  let x := s.engine e
  if s.bit (Reg.YRD_BAR_MASK y) (e % 32) = false then s.setEngine e (x.setReg rd 0)
  else if (s.yard y).owedY.isEmpty then settleBars (s.setEngine e { x with run := .waitY rd }) y
  else
    let s := s.setYard y { s.yard y with owedY := (s.yard y).owedY.filter (· != e % 32) }
    s.setEngine e (x.setReg rd 1)

/-- Engine `e` executes BAR.G (R51, R52). An engine named in its own yard's BAR_MASK while that yard has not joined takes
no part in BAR.G and completes it at once with rd = 0; the rule names only the mask.
DESIGN CHOICE (log entry 80). -/
def barrierG (s : State) (e : Nat) (rd : RegNo) : State :=
  let y := e / 32
  let x := s.engine e
  if s.bit (Reg.YRD_BAR_MASK y) (e % 32) = false ∨ barJoined s y = false then s.setEngine e (x.setReg rd 0)
  else if s.owedG.isEmpty then settleBars (s.setEngine e { x with run := .waitG rd }) y
  else
    let s := { s with owedG := s.owedG.filter (· != e) }
    s.setEngine e (x.setReg rd 1)

/-- BAR_MASK or GBAR of yard `y` has been written: a waiting engine that has left breaks its barrier, one still
owed owes nothing, and what is now complete is released (R51, R52). Clearing GBAR.join while an engine of the yard waits
at BAR.G counts as leaving the mask; the rule names only the mask bit.
DESIGN CHOICE (log entry 80). -/
def barChanged (s : State) (y : Nat) : State :=
  let outY := (yardEngines y).any (fun e => waitsY s e && !s.bit (Reg.YRD_BAR_MASK y) (e % 32))
  let outG := (yardEngines y).any (fun e => waitsG s e &&
    (!s.bit (Reg.YRD_BAR_MASK y) (e % 32) || !barJoined s y))
  let s := if outY then breakY s y false [] else s
  let s := if outG then breakG s y false [] else s
  let s := s.setYard y { s.yard y with owedY := (s.yard y).owedY.filter (fun l => s.bit (Reg.YRD_BAR_MASK y) l) }
  let s := { s with owedG := s.owedG.filter (fun e => e / 32 != y ||
    (s.bit (Reg.YRD_BAR_MASK y) (e % 32) && barJoined s y)) }
  settleBars s y

/-- An exception stops engine `e` alone (R42, R55): the unit and the slots are cleared, the tags cancelled, the
item ends, the first fault is captured, a barrier it takes part in breaks.
DEDUCED (log entry 17). -/
def engineFault (s : State) (e cause pc val : Nat) : State :=
  let y := e / 32
  let k := e % 32
  let s := if s.rd (Reg.YRD_FAULT_MAP y) = 0 then
      ((s.wr (Reg.YRD_FAULT_ENG y) (BitVec.ofNat 32 (k + 256 * cause))).wr (Reg.YRD_FAULT_PC y)
        (BitVec.ofNat 32 (pc % 65536))).wr (Reg.YRD_FAULT_VAL y) (BitVec.ofNat 32 val)
    else s
  let s := s.setBit (Reg.YRD_FAULT_MAP y) k true
  let s := endItem s e
  let s := s.setEngine e { s.engine e with live := none, slots := [], tags := [], run := .faulted, pc := pc }
  let s := s.log Ev.ENGINE_FAULT (.yard ⟨y % 16, by omega⟩) e []
  let s := if s.bit (Reg.YRD_BAR_MASK y) k then breakY s y false [] else s
  if s.bit (Reg.YRD_BAR_MASK y) k && barJoined s y then breakG s y false [] else s

/-- A write of 1 to a FAULT_MAP bit: the bit clears, and the engine restarts alone at the yard's entry vector
(R28, R42).
DEDUCED (log entry 23). -/
def restartEngine (s : State) (e : Nat) : State :=
  let y := e / 32
  let s := s.setBit (Reg.YRD_FAULT_MAP y) (e % 32) false
  if (s.engine e).run = .faulted then s.setEngine e { run := .running, pc := (s.yard y).entry } else s

/-- FAULT_MAP of yard `y` written with ones at `m`. -/
def restartEngines (s : State) (y m : Nat) : State :=
  ((List.range 32).filter (fun k => bitOf m k && s.bit (Reg.YRD_FAULT_MAP y) k)).foldl
    (fun s k => restartEngine s (32 * y + k)) s

/-- YRD_y_DOORBELL written with ones at `m`: the wake latches are set, parked engines return (R56). -/
def doorbellYard (s : State) (y m : Nat) : State :=
  ((List.range 32).filter (bitOf m)).foldl (fun s k =>
    let x := s.engine (32 * y + k)
    if x.run = .held then s
    else s.setEngine (32 * y + k) { x with wake := true, run := if x.run = .parked then .running else x.run }) s

/-- YRD_y_CTL.run written (R28, R50, R392): starts the yard's engines at the entry vector, or holds them in reset;
their work items end without a result. A yard that is not in RUN holds the enable.
DEDUCED (log entry 23). -/
def runWrite (s : State) (y : Nat) (on : Bool) : State :=
  if on then
    if s.bit (Reg.YRD_CTL y) 0 then s
    else if domState s (6 + y) = 0 then startEngines (s.setBit (Reg.YRD_CTL y) 0 true) y true
    else holdRun s y
  else
    let s := { s with pwr := { s.pwr with runHeld := s.pwr.runHeld.filter (· != y) } }
    if s.bit (Reg.YRD_CTL y) 0 then
      let s := (yardEngines y).foldl endItem s
      let s := startEngines (s.setBit (Reg.YRD_CTL y) 0 false) y false
      settleBars s y
    else s

/-! ### Program broadcast (R53, R54) -/

/-- The code area of a yard's engines in bytes (YRD_y_CODE). -/
def codeBytes (s : State) (y : Nat) : Nat :=
  let p := s.fld (Reg.YRD_CODE y) 3 0
  4096 * (if p = 0 ∨ p = 15 then 1 else p)

/-- A write of YRD_BCAST_GO by `o` (R53): refused as a whole, or the image is read and the broadcast begins.
DEDUCED (log entry 23). -/
def bcastGo (s : State) (o : Origin) : State :=
  let ys := maskYards (s.fld Reg.YRD_BCAST_MASK 15 0)
  let len := s.fld Reg.YRD_BCAST_LEN 15 2 * 4
  if ys.any (fun y => yardRunning s y || domState s (6 + y) != 0 || decide (codeBytes s y < len)) = true ∨
     s.bcast.isSome = true then
    (s.setBit Reg.YRD_BCAST_STAT 2 true).log Ev.BCAST_REFUSED o 0 []
  else
    let b : Bcast := ⟨ys, s.rdBytesN (s.rd Reg.YRD_BCAST_SRC).toNat len, o⟩
    ({ s with bcast := some b } : State).setBit Reg.YRD_BCAST_STAT 0 true

/-- The address of engine `e`'s local memory in the internal map (R404). -/
def engineBase (e : Nat) : Nat := 0x08000000 + 0x10000 * e

/-- The address of yard `y`'s shared memory in the internal map (R404). -/
def sharedBase (y : Nat) : Nat := 0x04000000 + 0x100000 * y

/-- A broadcast completes (R53, R54): every engine of every target yard holds the image. -/
def bcastDone (s : State) : State :=
  match s.bcast with
  | none => s
  | some b =>
    let s := (b.yards.flatMap yardEngines).foldl (fun s e => s.wrMemN (engineBase e) b.image) s
    let s := { s with bcast := none }
    let s := (s.setBit Reg.YRD_BCAST_STAT 0 false).setBit Reg.YRD_BCAST_STAT 1 true
    s.log Ev.BCAST_DONE b.who 0 []

end Sys2Proof.Machine
end

