-- ==== Sys2Proof/Machine/RegAccess.lean ====
section
/-! DEFINITION. Registers as their readers and writers meet them: the values reads return, views and owners,
access codes, locks, held halves of 64-bit values, snapshots, the NVC, and what a write triggers (R7-R10,
R404-R418). -/

namespace Sys2Proof.Machine

/-! ### Values (R7, R8) -/

/-- The address under which a register is stored: VIN_0_DEV_FEAT_k and VIN_0_DRV_FEAT_k are HST registers. -/
def canonReg (a : Nat) : Nat :=
  if 0x20410040 ≤ a ∧ a < 0x20410060 then a - 0x20410040 + 0x20400000 else a

/-- Bits of the fields of a row that satisfy a condition. -/
def rowMask (r : RegRow) (p : Field → Bool) : Word :=
  (r.fields.filter p).foldl (fun m f => m ||| fieldMask f.hi f.lo) 0

/-- Whether the MTM registers are reachable (R380): in BLANK, TEST and EOL. -/
def mtmOpen (s : State) : Bool := lcState s == 0 || lcState s == 1 || lcState s == 4

/-- Whether `a` is a register that on the H-port and the V-port reads 0 and ignores writes: SEC_n_CFG (R106) and those of
05_section_code.md (R137). -/
def portOnly (a : Nat) : Bool :=
  decide (0x20120000 ≤ a ∧ a < 0x20122000) &&
    (let o := a % 0x1000
     o == 4 || decide (0x60 ≤ o ∧ o < 0xEC) || decide (0xF0 ≤ o ∧ o < 0xF4) || decide (0x180 ≤ o ∧ o < 0x1A0) ||
       decide (0x300 ≤ o ∧ o < 0x3B0))

/-- The MPU window registers of a logical core (R44). -/
def isMpu (a : Nat) : Bool := decide (0x20000400 ≤ a ∧ a < 0x20000500)

/-- A window word of a core. -/
def Core.mpuWord (x : Core) (a : Nat) : Word := Sparse.get (fun _ => (0 : Word)) x.mpu a

/-- A group of 16 window words from `lo` on shows the record at cursor `c` (R358). -/
def inWindow (a lo : Nat) : Bool := decide (lo ≤ a ∧ a < lo + 64)

/-- EXM_LANE_l_STAT with tag_busy: a Ganger check or a fill holds the tag datapath (R216). -/
def laneStat (s : State) (l : Nat) : Nat :=
  let busy := (match (s.line l).ganger with
    | some g => extClass s g.extent == 1
    | none => false) || tagFills s l
  (setBits (s.rd (Reg.EXM_LANE_STAT l)) 9 9 (b2n busy)).toNat

/-- The values that the model computes from other state instead of storing them.
DESIGN CHOICE (log entry 6), DEDUCED (log entry 17). -/
def derivedReg (s : State) (p : Party) (a : Nat) : Option Nat :=
  if a = Reg.SBX_CORE_ID then some (match p with | .core c => c.val | _ => 0)
  else if a = Reg.SBX_REV then some (Config.siliconRev.toNat + 256)
  else if isMpu a then some (match p with | .core c => ((s.core c).mpuWord a).toNat | _ => 0)
  else if a = Reg.ILK_STAT then some (ilkStat s)
  else if 0x20010100 ≤ a ∧ a < 0x20010160 then
    some (if a % 16 = 0 then handleStat s ((a - 0x20010100) / 16) else if a % 16 = 4 then
      handleInfo s ((a - 0x20010100) / 16) else 0)
  else if a = Reg.EVR_STAT then some (evrStat s)
  else if a = Reg.EVR_SEQ_NEXT then some s.evr.next
  else if a = Reg.EVR_OLDEST then some (evrOldest s)
  else if a = Reg.EVR_LIVE then some s.evr.liveCount
  else if inWindow a (Reg.EVR_WINDOW 0) then some (windowWord s Reg.EVR_CURSOR ((a - Reg.EVR_WINDOW 0) / 4))
  else if 0x20060200 ≤ a ∧ a < 0x20060400 ∧ 64 ≤ a % 128 then
    some (windowWord s (a / 128 * 128) (a % 128 / 4 - 16))
  else if 0x204100A0 ≤ a ∧ a < 0x204100F0 ∧ hasFeature s 0 11 = false then some 0
  else if inWindow a (Reg.VIN_0_EVR_WINDOW 0) then
    some (windowWord s Reg.VIN_0_EVR_CURSOR ((a - Reg.VIN_0_EVR_WINDOW 0) / 4))
  else if (List.range 3).any (fun g => a == Reg.HLD_PAD g) then some (holdPadWord s ((a - Reg.HLD_PAD 0) / 4)).toNat
  else if (List.range 3).any (fun g => a == Reg.HLD_REPORT g) then some (reportWord s ((a - Reg.HLD_REPORT 0) / 4))
  else if 0x20078000 ≤ a ∧ a < 0x20078020 ∧ mtmOpen s = false then some 0
  else if a = Reg.DEP_STAT then some ((s.rd a).toNat ||| b2n s.tagKey.isSome)
  else if a = Reg.PWR_WAKE_EN then some ((s.rd a).toNat ||| 40)
  else if 0x20031000 ≤ a ∧ a < 0x20033200 ∧ a % 256 = 12 then some (laneStat s ((a - 0x20031000) / 256))
  else if a = Reg.SEC_CTL 32 ∨ a = Reg.SEC_CTL 33 then some 1
  else if portOnly a then some 0
  else if 0x20100000 ≤ a ∧ a < 0x20120000 ∧ 0x190 ≤ a % 0x1000 ∧ a % 0x1000 < 0x1A0 then
    some (emuWord s ((a - 0x20100000) / 0x1000) (a % 0x1000 / 4 % 4))
  else none

/-- A register's word as a privileged reader `p` sees it: W and WT fields read 0 (R7), what no register occupies
reads 0 (R8). -/
def regWord (s : State) (p : Party) (a : Nat) : Word :=
  match derivedReg s p a with
  | some v => BitVec.ofNat 32 v
  | none =>
    match rowAt a with
    | none => 0
    | some r => s.rd (canonReg a) &&& ~~~(rowMask r (fun f => f.acc == .w || f.acc == .wt))

/-- The fields of a register that the unprivileged view holds. -/
def viewMask (a : Nat) : Word :=
  match rowAt a with
  | none => 0
  | some r => rowMask r (fun f => f.view != .p)

/-- Whether `a` lies in the snapshot mirror (R404, R416). -/
def inMirror (a : Nat) : Bool := decide (0x20800000 ≤ a ∧ a < 0x20E10000)

/-- Whether `a` lies in the register blocks (R404). -/
def inBlocks (a : Nat) : Bool := decide (0x20000000 ≤ a ∧ a < 0x20610000)

/-- A register word, or a mirror word, in the privileged view. -/
def privWord (s : State) (p : Party) (a : Nat) : Word :=
  if inMirror a then Sparse.get (fun _ => (0 : Word)) s.snap (a - 0x00800000) else regWord s p a

/-- A register word, or a mirror word, in the unprivileged view (R408). -/
def unprivWord (s : State) (p : Party) (a : Nat) : Word :=
  if inMirror a then privWord s p a &&& viewMask (a - 0x00800000) else regWord s p a &&& viewMask a

/-- Whether a party has the privileged view (R410). -/
def privileged (s : State) (p : Party) : Bool :=
  match p with
  | .core _ => true
  | .debug => debugLevel s == 3
  | _ => false

/-- Whether instance `n` reaches the register at `a` (R269, R410): its own page; PF0 also the aperture of
VIN_0_VIEW_SEL. -/
def instReaches (s : State) (n a : Nat) : Bool :=
  (decide (0x20410000 + 0x100 * n ≤ a ∧ a < 0x20410100 + 0x100 * n)) ||
    (if n = 0 then a / 0x10000 == s.fld Reg.VIN_0_VIEW_SEL 31 16 else decide (0x20400000 ≤ a ∧ a < 0x20400040))

/-- Whether a party reaches the register or mirror address `a` at all (R410). -/
def reaches (s : State) (p : Party) (a : Nat) : Bool :=
  (inBlocks a || inMirror a) &&
    match p with
    | .core _ => true
    | .engine _ => inBlocks a
    | .inst n => instReaches s n.val a
    | .agent _ => true
    | .debug => decide (2 ≤ debugLevel s)

/-- Whether `a` is an offset of a VF's own instance page that reads 0: VIN_n_DIRTY_* (table of 11_host_link.md).
DEDUCED (log entry 73). -/
def vfHides (s : State) (p : Party) (a : Nat) : Bool :=
  match p with
  | .inst n => n.val != 0 && hostMode s == 1 && decide (0x20410090 + 0x100 * n.val ≤ a ∧ a < 0x2041009C + 0x100 * n.val)
  | _ => false

/-- The word that a party's read of `a` returns, apart from a held high word. -/
def viewWord (s : State) (p : Party) (a : Nat) : Word :=
  if vfHides s p a then 0
  else if reaches s p a then (if privileged s p then privWord s p a else unprivWord s p a) else 0

/-! ### Reads of 64-bit values (R413) -/

/-- Whether `a` is the low word of a pair. -/
def isPairLow (a : Nat) : Bool := match rowAt a with
  | some r => r.pairLow
  | none => false

/-- The reader's holding register set, replaced or cleared. -/
def setHeld (s : State) (p : Party) (v : Option (Nat × Word)) : State :=
  let rest := s.held.filter (fun h => h.who != p)
  { s with held := match v with
    | some (pair, w) => rest ++ [⟨p, pair, w⟩]
    | none => rest }

/-- The interrupt source whose block has no status bit that a write clears and shows its status in the register at `a`:
1 the Interlocking, 2 Examiner, 3 signature unit, 8 sections, 18 the partner core.
DESIGN CHOICE (log entry 98). -/
def statusSource (a : Nat) : Option Nat :=
  if 0x20010000 ≤ a ∧ a < 0x20020000 then some 1
  else if 0x20030000 ≤ a ∧ a < 0x20038000 then some 2
  else if 0x20038000 ≤ a ∧ a < 0x20040000 then some 3
  else if 0x20100000 ≤ a ∧ a < 0x20130000 then some 8
  else if a = Reg.RTB_FAILOVER then some 18
  else none

/-- A core that reads such a register has seen the status, which ends the source's pending there (R41).
DESIGN CHOICE (log entry 98). -/
def ackStatus (s : State) (p : Party) (a : Nat) : State :=
  match p, statusSource a with
  | .core c, some n =>
    if c = 0 then { s with irq := s.irq &&& ~~~(1#64 <<< n) } else { s with irq1 := s.irq1 &&& ~~~(1#64 <<< n) }
  | _, _ => s

/-- What a read of one word returns and leaves (R41, R320, R326, R413): a low word latches its pair's high word, the
next read of that high word returns it; the receiver's read of MBX_n_CTL takes the message. -/
def readReg (s : State) (p : Party) (a : Nat) : Word × State :=
  let s := touched s p
  if reaches s p a = false then (0, s)
  else
    let v := viewWord s p a
    let s := ackStatus s p a
    let s' := if 0x20040000 ≤ a ∧ a < 0x20044000 ∧ a % 0x100 = 0x40 then mbxTake s p ((a - 0x20040000) / 0x100) else s
    if isPairLow a then (v, setHeld s' p (some (a, viewWord s p (a + 4))))
    else match s.held.find? (fun h => h.who == p && h.pair + 4 == a) with
      | some h => (h.val, setHeld s' p none)
      | none => (v, s')

/-- An aligned 8-byte read (R411, R413): both words from one clock. -/
def readReg64 (s : State) (p : Party) (a : Nat) : Dword × State :=
  if isPairLow a then
    let s := touched s p
    if reaches s p a then
      (BitVec.ofNat 64 ((viewWord s p a).toNat + 2 ^ 32 * (viewWord s p (a + 4)).toNat), ackStatus s p a)
    else (0, s)
  else
    let lo := readReg s p a
    let hi := readReg lo.2 p (a + 4)
    (BitVec.ofNat 64 (lo.1.toNat + 2 ^ 32 * hi.1.toNat), hi.2)

/-! ### Snapshots (R416) -/

/-- A write of 1 to SBX_SNAP.go: every latched register is copied, SEQ and the stamp change. -/
def snapLatch (s : State) : State :=
  let s := { s with snap := s.regs.filter (fun p => match rowAt p.1 with
    | some r => r.snap && p.2 != 0
    | none => false) }
  let s := (s.wr Reg.SBX_SNAP_SEQ (s.rd Reg.SBX_SNAP_SEQ + 1)).wr Reg.SBX_SNAP_PCC (BitVec.ofNat 32 s.pcc)
  (s.wr Reg.SBX_SNAP_OT_LO (BitVec.ofNat 32 s.ot)).wr Reg.SBX_SNAP_OT_HI (BitVec.ofNat 32 (s.ot / 2 ^ 32 % 65536))

/-! ### The NVC (R407) -/

/-- Whether an eNVM offset lies in a region that NVC writes. -/
def nvcRegion (o : Nat) : Bool :=
  decide (0x252000 ≤ o ∧ o < 0x292000) || decide (0x294000 ≤ o ∧ o < 0xF94000)

/-- Whether an eNVM offset lies in a region that NVC_LOCK locks now. -/
def nvcLocked (s : State) (o : Nat) : Bool :=
  (decide (0x252000 ≤ o ∧ o < 0x292000) && s.bit Reg.NVC_LOCK 1) ||
    (decide (0x694000 ≤ o ∧ o < 0xA94000) && s.bit Reg.NVC_LOCK 0)

/-- An NVC operation ends (R407).
DEDUCED (log entry 74). -/
def nvcEnd (s : State) (cause : Nat) : State :=
  let s := ({ s with nvc := none } : State).setBit Reg.NVC_STAT 0 false
  let s := (s.setBit Reg.NVC_STAT 1 true).setF Reg.NVC_STAT 5 3 cause
  (if cause = 0 then s else s.setBit Reg.NVC_STAT 2 true).raise 17

/-- The cause for which an operation is refused; 0 where it starts.
DEDUCED (log entry 74). -/
def nvcCause (s : State) (op : Nat) : Nat :=
  let o := s.fld Reg.NVC_ADDR 23 0
  let len := if op = 1 then s.fld Reg.NVC_LEN 11 0 else 8
  if nvcRegion o = false ∨ nvcLocked s o = true then 1
  else if (op ≠ 1 ∧ op ≠ 2) ∨ o % 8 ≠ 0 ∨ len < 8 ∨ 2048 < len ∨ len % 8 ≠ 0 ∨ 2048 < o % 2048 + len then 2
  else if powerFailing s then 4
  else 0

/-- A write of NVC_CTL.go (R407).
DEDUCED (log entry 74). -/
def nvcGo (s : State) : State :=
  if s.nvc.isSome then s
  else
    let op := s.fld Reg.NVC_CTL 1 0
    let s := s.setF Reg.NVC_STAT 5 3 0
    let cause := nvcCause s op
    if cause ≠ 0 then nvcEnd s cause
    else
      let a := 0x10000000 + s.fld Reg.NVC_ADDR 23 0
      let d := if op = 1 then s.rdBytesN (s.fld Reg.NVC_SRC 31 3 * 8) (s.fld Reg.NVC_LEN 11 0) else []
      ({ s with nvc := some ⟨op, a, d⟩ } : State).setBit Reg.NVC_STAT 0 true

/-- The NVC operation in progress completes (R407): programming clears bits, and what then differs from the data
fails the verify; `bad` is a failure of the cells.
DEDUCED (log entry 74). -/
def nvcDone (s : State) (bad : Bool) : State :=
  match s.nvc with
  | none => s
  | some n =>
    if n.op = 2 then
      let base := n.addr / 2048 * 2048
      nvcEnd (s.wrMemN base (List.replicate 2048 0xFF)) (if bad then 3 else 0)
    else
      let new := (n.data.zip (s.rdMemN n.addr n.data.length)).map (fun p => p.1 &&& p.2)
      nvcEnd (s.wrMemN n.addr new) (if bad || new != n.data then 3 else 0)

/-! ### Storing under the access codes (R7, R9) -/

/-- The new word of a register: `w` is the word written over the old one, `t` the ones written. -/
def regNew (r : RegRow) (lockd : Bool) (old w t : Word) : Word :=
  r.fields.foldl (fun x f =>
    let m := fieldMask f.hi f.lo
    match f.acc with
    | .rw => (x &&& ~~~m) ||| (w &&& m)
    | .rwl => if lockd then x else (x &&& ~~~m) ||| (w &&& m)
    | .rc => x &&& ~~~(t &&& m)
    | .rs => x ||| (t &&& m)
    | _ => x) old

/-- A change of fields marked L makes one REG_CHANGE record (R359). -/
def noteChange (s : State) (o : Origin) (r : RegRow) (a : Nat) (old new : Word) (be : BitVec 4) : State :=
  if (old ^^^ new) &&& rowMask r (fun f => f.log) = 0 then s else s.regChange o a old new be.toNat

/-- Whether the RWL fields of the register at `a` are locked (R45, R160, R346, and the SBD lock). -/
def rwlLocked (s : State) (a : Nat) : Bool :=
  if 0x20050000 ≤ a ∧ a < 0x20060000 then s.bit Reg.TMP_CTL 0
  else if 0x20600000 ≤ a ∧ a < 0x20610000 then s.bit Reg.SBD_LOCK 0
  else false

/-- A register's word stored under its access codes. -/
def storeReg (s : State) (o : Origin) (r : RegRow) (a : Nat) (v : Word) (be : BitVec 4) : State :=
  let c := canonReg a
  let old := s.rd c
  let new := regNew r (rwlLocked s a) old (mergeBe old v be) (mergeBe 0 v be)
  noteChange (s.wr c new) o r c old new be

/-- A pair's two words stored on one clock (R414).
DEDUCED (log entry 73). -/
def storePair (s : State) (o : Origin) (r rh : RegRow) (a : Nat) (lo hi : Word) (beHi : BitVec 4) : State :=
  storeReg (storeReg s o r a lo 0xF) o rh (a + 4) hi beHi

/-! ### Writes that are discarded whole -/

/-- The section of an SEC register. -/
def secOf (a : Nat) : Nat := (a - 0x20100000) / 0x1000

/-- Whether a write is discarded and logged with equal values (R103, R137, R160). -/
def discardLogged (s : State) (r : RegRow) (a : Nat) : Bool :=
  let routed := s.fld (Reg.SEC_CTL (secOf a)) 1 0 == 2
  (decide (r.base = 0x20100004 ∨ r.base = 0x20100400) && decide (secOf a < 32) && routed) ||
    ((r.base == 0x20100060 || r.base == 0x20100064 || r.base == 0x20100068 || r.base == 0x2010006C ||
      r.base == 0x20100180) && decide (secOf a < 32) && routed) ||
    (r.base == Reg.HLD_FILTER && holdCfgLocked s none) ||
    (r.base == 0x20090100 && holdCfgLocked s (some ((a - 0x20090100) / 4)))

/-- A discarded write that is logged: a CHANGE record with equal values; in a section prof_wr_denied. -/
def discarded (s : State) (o : Origin) (a : Nat) (be : BitVec 4) : State :=
  let s := s.regChange o a (s.rd a) (s.rd a) be.toNat
  if 0x20100000 ≤ a ∧ a < 0x20130000 then s.setBit (Reg.SEC_PORT_STAT (secOf a)) 10 true else s

/-- Whether a write is discarded in silence: a ledger base while it is open (R253), a ring base or INT_MAP outside
CREATED (R281), DRV_FEAT while features_ok (R274), an extent's geometry while not FREE (R146), MTM in PROD (R380),
a section-code register of the H-port or V-port (R137). -/
def discardQuiet (s : State) (a : Nat) : Bool :=
  (decide (0x20310010 ≤ a ∧ a ≤ 0x20310020) && ldgState s != 0 && ldgState s != 3) ||
    (decide (0x20410000 ≤ a) && decide (a < 0x20500000) &&
      (let n := (a - 0x20410000) / 0x100
       let off := a % 0x100
       (off == 0x18 || decide (0x20 ≤ off ∧ off < 0x40)) && vinState s n != 1 ||
        (decide (0x50 ≤ off ∧ off < 0x60) && s.bit (Reg.VIN_CTL n) 1))) ||
    (decide (0x20400010 ≤ a ∧ a < 0x20400020) && s.bit (Reg.VIN_CTL 0) 1) ||
    (decide (0x20131000 ≤ a ∧ a < 0x20132000) && a % 16 != 0 && extState s ((a - 0x20131000) / 16) != 0) ||
    (decide (0x20078000 ≤ a ∧ a < 0x20078020) && !mtmOpen s) || portOnly a

/-! ### What a write triggers -/

/-- The writes of the yard and broadcast registers (R42, R50-R56, R53, R228, R392). `t` are the ones written. -/
def actYard (s : State) (o : Origin) (r : RegRow) (a : Nat) (v t : Word) (be : BitVec 4) : State :=
  let y := (a - 0x20200000) / 0x1000
  if r.base = 0x20200000 then
    let s := if be.getLsbD 0 then
        let old := s.rd a
        let on := v.getLsbD 0
        let s := if on = true ∧ domState s (6 + y) ≠ 0 ∧ old.getLsbD 0 = false then s
          else noteChange s o r a old (setBits old 0 0 (b2n on)) be
        runWrite s y on
      else s
    if t.getLsbD 1 then breakBars s y else s
  else if r.base = 0x2020000C ∨ r.base = 0x20200010 then barChanged (storeReg s o r a v be) y
  else if r.base = 0x20200014 then doorbellYard s y t.toNat
  else if r.base = 0x20200020 then restartEngines s y t.toNat
  else if a = Reg.YRD_BCAST_GO then (if t.getLsbD 0 then bcastGo s o else s)
  else if a = Reg.YRD_KEY_GO then
    (if t.getLsbD 0 then keyGo s (fun y => domState s (6 + y) == 0) else s)
  else storeReg s o r a v be

/-- SEAL in force turns a restore's frame away, and the recovery fails SEALED (R130, R206). -/
def sealEnds (s : State) (n : Nat) : State :=
  if sealed s = true ∧ (devOpOf s n).dest = 2 ∧ (s.line n).dev.isNone = true ∧ recovering s n = true
  then recoveryFail s 5 0 else s

/-- The writes of the section, Depot and Ganger registers (R102, R103, R105, R132, R146, R151). -/
def actSec (s : State) (o : Origin) (r : RegRow) (a : Nat) (v t : Word) (be : BitVec 4) : State :=
  let n := secOf a
  if r.base = 0x20100110 then (if t.getLsbD 0 then sealEnds (devGo s n) n else s)
  else if r.base = 0x20100200 then (if t.getLsbD 0 then profCheck s n else s)
  else if r.base = 0x20100310 then (if t.getLsbD 0 then pgmLoad s n o else s)
  else if r.base = 0x20100400 then (storeReg s o r a v be).setBit (Reg.SEC_PORT_STAT n) 4 false
  else if r.base = 0x20131000 then
    let x := (a - 0x20131000) / 16
    let old := s.rd a
    let w := mergeBe old v be
    let s := if extState s x = 0 then s.wr a (regNew r false old (setBits w 10 8 0) 0) else s
    let s := if be.getLsbD 1 then extStateWrite s x (getBits w 10 8) else s
    noteChange s o r a old (s.rd a) be
  else storeReg s o r a v be

/-- A word written to TMP_SRC_s_CFG without what the register ignores: arm of a source that is not EXT, THRESH, SEAL
and HOLD of LOGIC (R331, R345).
DEDUCED (log entry 56). -/
def srcWord (s : State) (x : Nat) (v : Word) : Word :=
  let old := s.rd (Reg.TMP_SRC_CFG x)
  let m : Word := if isExt x then 0 else if x = 14 then 0xBF else 0x80
  (v &&& ~~~m) ||| (old &&& m)

/-- The writes of the hold, tamper, mailbox-lock, eNVM and power registers. -/
def actBox (s : State) (o : Origin) (r : RegRow) (a : Nat) (v t : Word) (be : BitVec 4) : State :=
  if a = Reg.SBX_SNAP then (if t.getLsbD 0 then snapLatch s else s)
  else if a = Reg.HLD_LOCK then
    (if t.getLsbD 0 then holdLock (noteChange s o r a (s.rd a) 1 be) else s)
  else if a = Reg.MBX_LOCK then (if t.getLsbD 0 then mbxLock (noteChange s o r a (s.rd a) 1 be) else s)
  else if a = Reg.TMP_CTL then (if t.getLsbD 0 then tmpLock (noteChange s o r a (s.rd a) 1 be) else s)
  else if a = Reg.NVC_CTL then
    let s := storeReg s o r a v be
    if t.getLsbD 31 then nvcGo s else s
  else if a = Reg.PWR_CLK_CTL then clkCtlWrite s o (mergeBe (s.rd a) v be) be.toNat
  else if 0x20050100 ≤ a ∧ a < 0x20050178 ∧ a % 8 = 0 then storeReg s o r a (srcWord s ((a - 0x20050100) / 8) v) be
  else if 0x20080100 ≤ a ∧ a < 0x20080140 then
    (if be.getLsbD 0 then yardOpWrite s o ((a - 0x20080100) / 4) v be.toNat else s)
  else if r.base = 0x20081024 then
    let s := storeReg s o r a v be
    if t.getLsbD 2 then sleepBegin s ((a - 0x20081024) / 32 + 1) else s
  else if a = Reg.MTM_KEY then
    { s with lcs := { s.lcs with mtmKey := mergeBe 0 v be == 0x4D544D4B#32 } }
  else storeReg s o r a v be

/-- The writes of the Examiner, signature-unit, Interlocking and measurement registers by core `c` (R73, R218-R222, R232,
R306). A write through the debug port at level 3 acts for the on-duty core.
DESIGN CHOICE (log entry 82). -/
def actUnit (s : State) (o : Origin) (c : Fin 2) (r : RegRow) (a : Nat) (v t : Word) (be : BitVec 4) : State :=
  let l := (a - 0x20031000) / 0x100
  if r.base = 0x20031000 then exmSubmit s c l (t &&& fieldMask 31 6).toNat
  else if r.base = 0x20031004 then exmAbort s c l (t.getLsbD 0) (t.getLsbD 1)
  else if r.base = 0x20031008 then (if t.getLsbD 0 then exmEndWrite s l else s)
  else if a = Reg.SIG_SUBMIT then sigSubmit s c (t &&& fieldMask 31 6).toNat
  else if a = Reg.SIG_ABORT then (if t.getLsbD 0 then sigAbortMine s c else s)
  else if a = Reg.ILK_ARM then
    ((List.range 4).filter (fun h => t.getLsbD h && ownsHandle c h && (s.handle h).state == .armed)).foldl
      (fun s h => dropWith s h 1 false) s
  else if a = Reg.ATT_MREG_EXT_CTL then
    let s := storeReg s o r a v be
    if t.getLsbD 31 then mregGo s c else s
  else storeReg s o r a v be

/-- Whether `a` is a register of `actUnit`. -/
def isUnit (a : Nat) : Bool :=
  decide (0x20031000 ≤ a ∧ a < 0x20033200) || a == Reg.SIG_SUBMIT || a == Reg.SIG_ABORT || a == Reg.ILK_ARM ||
    a == Reg.ATT_MREG_EXT_CTL

/-- The writes of an instance's registers (R274, R281, R282, R288, R291). -/
def actInst (s : State) (o : Origin) (r : RegRow) (a : Nat) (v t : Word) (be : BitVec 4) : State :=
  let k := (a - 0x20410000) / 0x100 % 1025
  have hk : k < 1025 := Nat.mod_lt _ (by decide)
  let n : Fin 1025 := ⟨k, hk⟩
  let idx := getBits (mergeBe (s.rd a) v be) 15 0
  if r.base = 0x20410000 then
    let s := if t.getLsbD 0 then enableWrite s k else s
    let s := if t.getLsbD 1 then featuresWrite s k else s
    if t.getLsbD 2 then instReset s k 0 none else s
  else if r.base = 0x20410060 then doorbell s n 0 idx
  else if r.base = 0x20410068 then doorbell s n 1 idx
  else if r.base = 0x20410070 then doorbell s n 2 idx
  else if r.base = 0x20410078 then doorbell s n 3 idx
  else if a = Reg.VIN_0_DIRTY_DB then
    let w := mergeBe 0 v be
    let i := getBits w 26 16
    if h : i < 1025 then dirtyDb s ⟨i, h⟩ (getBits w 15 0) else s
  else if a = Reg.VIN_0_EVR_CURSOR then cursorWrite s a Reg.VIN_0_EVR_SEQ (mergeBe (s.rd a) v be)
  else storeReg s o r a v be

/-- New fixity configuration: engines of the yards named may find work available (R56, R249). -/
def actFix (s : State) (o : Origin) (r : RegRow) (a : Nat) (v : Word) (be : BitVec 4) : State :=
  let s := storeReg s o r a v be
  if s.fix.waiting.isEmpty then s else wakeEngines s

/-- An accepted write of the register at `a` by party `p`. -/
def acceptWrite (s : State) (p : Party) (r : RegRow) (a : Nat) (v : Word) (be : BitVec 4) : State :=
  let o := p.origin
  let t := mergeBe 0 v be
  if discardLogged s r a then discarded s o a be
  else if discardQuiet s a then s
  else if 0x20200000 ≤ a ∧ a < 0x20300000 then actYard s o r a v t be
  else if 0x20100000 ≤ a ∧ a < 0x20150000 then actSec s o r a v t be
  else if 0x20410000 ≤ a ∧ a < 0x20500000 then actInst s o r a v t be
  else if 0x20300000 ≤ a ∧ a < 0x20310000 then actFix s o r a v be
  else if isUnit a then
    actUnit s o (match p with
      | .core c => c
      | _ => s.duty) r a v t be
  else if a = Reg.EVR_CURSOR then cursorWrite s a Reg.EVR_WINDOW_SEQ (mergeBe (s.rd a) v be)
  else if a = Reg.MTM_CTL then
    let s := if t.getLsbD 31 = true ∧ s.lcs.mtmKey = false then s else storeReg s o r a v be
    if t.getLsbD 31 then mtmGo s (s.fld Reg.MTM_CTL 3 0) (s.fld Reg.MTM_CTL 11 4) else s
  else actBox s o r a v t be

/-! ### Owners and views (R317, R358, R408, R409) -/

/-- A write that a view does not permit (R408). -/
def viewDenied (s : State) (p : Party) (a : Nat) (v : Word) : State :=
  (s.inc Reg.SBX_VIEW_DENY).log Ev.VIEW_DENIED p.origin a (leBytes 4 v.toNat)

/-- A discarded write of a register of sideband agent `a`, or of PF0's cursor (R317). -/
def badOwner (s : State) (p : Party) (detail a : Nat) : State :=
  badWriter (s.inc Reg.SBX_VIEW_DENY) p detail a

/-- A register that has an owner of its own in every view: the mailbox channels and agent registers, and the
window cursors (R317, R358). None where `a` is no such register. -/
def ownedWrite (s : State) (p : Party) (r : RegRow) (a : Nat) (v : Word) (be : BitVec 4) : Option State :=
  if 0x20040000 ≤ a ∧ a < 0x20044000 then
    let n := (a - 0x20040000) / 0x100
    let off := a % 0x100
    if off < 0x40 then some (mbxDataWrite s p n (off / 4) v be)
    else if off = 0x40 then some (mbxCtlWrite s p n v be)
    else if off = 0x44 then
      some (if ownsChannel s p n true = false then badChannel s p n a
            else if (mergeBe 0 v be).getLsbD 0 then mbxDone s p n else s)
    else none
  else if 0x20044100 ≤ a ∧ a < 0x20044140 then
    let k := (a - 0x20044100) / 16
    some (match p with
      | .agent x =>
        if x.val = k then
          (if a % 16 = 8 then (if (mergeBe 0 v be).getLsbD 0 then agentReset s x else s)
           else storeReg s p.origin r a v be)
        else badOwner s p (0x40 + k) a
      | _ => badOwner s p (0x40 + k) a)
  else if 0x20060200 ≤ a ∧ a < 0x20060400 ∧ a % 128 = 0 then
    let k := (a - 0x20060200) / 128
    some (if p.origin = agentOrigin ⟨k % 4, by omega⟩ then cursorWrite s a (a + 4) (mergeBe (s.rd a) v be)
          else badOwner s p (0x40 + k) a)
  else if a = Reg.VIN_0_EVR_CURSOR then
    (if p.origin = .pf0 ∧ hasFeature s 0 11 = true then none else some (badOwner s p 0x44 a))
  else none

/-- Whether a party in the unprivileged view owns the UI register at `a` (R409). -/
def ownsUi (p : Party) (a : Nat) : Bool :=
  match p with
  | .inst n =>
    decide (0x20410000 + 0x100 * n.val ≤ a ∧ a < 0x20410100 + 0x100 * n.val) ||
      (n.val == 0 && decide (0x20400010 ≤ a ∧ a < 0x20400020))
  | _ => false

/-- A word written at register address `a` by a party that reaches it (R408, R409).
DEDUCED (log entries 17, 73). -/
def writeWord (s : State) (p : Party) (a : Nat) (v : Word) (be : BitVec 4) : State :=
  match rowAt a with
  | none => if privileged s p then s else viewDenied s p a v
  | some r =>
    match ownedWrite s p r a v be with
    | some s' => s'
    | none =>
      if privileged s p = true ∨ (ownsUi p a = true ∧ (r.fields.any (fun f => f.view == .ui)) = true) then
        (match p with
         | .core c =>
           if isMpu a then
             let x := s.core c
             let attr := a / 16 * 16 + 8
             let lockd := (x.mpuWord attr).getLsbD 4
             let old := x.mpuWord a
             let new := if lockd then old else regNew r false old (mergeBe old v be) (mergeBe 0 v be)
             noteChange (s.setCore c { x with mpu := Sparse.set (fun _ => (0 : Word)) x.mpu a new }) p.origin r a old new be
           else acceptWrite s p r a v be
         | _ => if isMpu a then s else acceptWrite s p r a v be)
      else viewDenied s p a v

/-- The held low word of a writer replaced (R414). -/
def setHeldLow (s : State) (p : Party) (v : Option (Nat × Word)) : State :=
  let rest := s.heldLow.filter (fun h => h.who != p)
  { s with heldLow := match v with
    | some (pair, w) => rest ++ [⟨p, pair, w⟩]
    | none => rest }

/-- Whether `a` is the low word of a pair that is written. -/
def isWritePair (a : Nat) : Bool :=
  isPairLow a && (match rowAt a with
    | some r => r.fields.any (fun f => f.acc == .rw)
    | none => false)

/-- One word written by a party (R408-R414): a pair's low word is held for its writer. The mirror discards. A sideband
transfer that is not of whole words is discarded (R318).
PRESUMED (log entry 64), DEDUCED (log entry 73). -/
def regWrite (s : State) (p : Party) (a : Nat) (v : Word) (be : BitVec 4) : State :=
  let s := touched s p
  if reaches s p a = false then s
  else if p = .debug ∧ debugLevel s ≠ 3 then s
  else match p with
    | .inst n =>
      if be ≠ 0xF then s.setBit Reg.HST_STAT 0 true
      else regWriteAt s (.inst n) a v be
    | .agent x => if be ≠ 0xF then s else regWriteAt s (.agent x) a v be
    | p => regWriteAt s p a v be
where
  /-- The write, once the party's access is well formed. -/
  regWriteAt (s : State) (p : Party) (a : Nat) (v : Word) (be : BitVec 4) : State :=
    if inMirror a then viewDenied s p a v
    else if isWritePair a = true ∧ (privileged s p = true ∨ ownsUi p a = true) then
      setHeldLow s p (some (a, mergeBe (s.rd a) v be))
    else match s.heldLow.find? (fun h => h.who == p && h.pair + 4 == a) with
      | some h => writeWord (writeWord (setHeldLow s p none) p h.pair h.val 0xF) p a v be
      | none => writeWord s p a v be

/-- An aligned 8-byte write (R411, R414): a pair takes both words at once. -/
def regWrite64 (s : State) (p : Party) (a : Nat) (lo hi : Word) : State :=
  if isWritePair a then
    let s := touched s p
    if reaches s p a = false ∨ (p = .debug ∧ debugLevel s ≠ 3) then s
    else writeWord (writeWord s p a lo 0xF) p (a + 4) hi 0xF
  else regWrite (regWrite s p a lo 0xF) p (a + 4) hi 0xF

end Sys2Proof.Machine
end

