-- ==== Sys2Proof/Machine/MemAccess.lean ====
section
/-! DEFINITION. Loads, stores and fetches of the Wemon processors in their address spaces: the MPU, the internal
map's errors, engine and section memory (R35, R37, R44, R404-R406, R147, R255). -/

namespace Sys2Proof.Machine

/-- The access kinds of the MPU (R44). -/
inductive Access where
  | fetch | load | store
deriving DecidableEq, Repr

/-- The bit of SBX_MPU_w_ATTR that grants an access kind. -/
def Access.bit : Access → Nat
  | .load => 0
  | .store => 1
  | .fetch => 2

/-- The cause an access kind raises when the MPU does not permit it (R44). -/
def Access.mpuCause : Access → Nat
  | .fetch => 3
  | .load => 4
  | .store => 5

/-- SBX_MPU_w_BASE, LIMIT and ATTR of window `w` of a core. -/
def Core.window (x : Core) (w : Nat) : Nat × Nat × Word :=
  ((x.mpuWord (0x20000400 + 16 * w)).toNat / 4096, (x.mpuWord (0x20000404 + 16 * w)).toNat / 4096,
   x.mpuWord (0x20000408 + 16 * w))

/-- Whether the MPU of a core permits an access (R44). -/
def Core.permits (x : Core) (k : Access) (a : Nat) : Bool :=
  let ws := (List.range 16).filter (fun w => (x.window w).2.2.getLsbD 3)
  if ws.isEmpty then true
  else match ws.find? (fun w => decide ((x.window w).1 ≤ a / 4096 ∧ a / 4096 ≤ (x.window w).2.1)) with
    | some w => (x.window w).2.2.getLsbD k.bit
    | none => false

/-- Whether yard memory at internal address `a` answers (R405): its yard's domain in RUN, and not the ledger unit's
range. -/
def yardAnswers (s : State) (a : Nat) : Bool :=
  let y := if a < 0x08000000 then (a - 0x04000000) / 0x100000 else (a - 0x08000000) / 0x200000
  domState s (6 + y) == 0 &&
    !(decide (a < 0x08000000 ∧ 0x80000 ≤ a % 0x100000) && y == s.fld Reg.LDG_CTL 3 0 && ldgState s != 0)

/-- Whether the privileged view answers a load, store or fetch at `a` (R404-R406, R147). -/
def mapAnswers (s : State) (k : Access) (a : Nat) : Bool :=
  if a < 0x40000 then k != .store
  else if 0x01000000 ≤ a ∧ a < 0x01400000 then true
  else if 0x02000000 ≤ a ∧ a < 0x02C00000 then k != .store
  else if 0x04000000 ≤ a ∧ a < 0x05000000 then yardAnswers s a
  else if 0x08000000 ≤ a ∧ a < 0x0A000000 then
    yardAnswers s a && !(k == .store && decide (0xF800 ≤ a % 0x10000))
  else if 0x10000000 ≤ a ∧ a < 0x11000000 then k != .store
  else inBlocks a || inMirror a

/-- `n` bytes of the map that are no registers; the tags and the save slots read 0 (R147, R405). -/
def mapBytes (s : State) (a n : Nat) : List Byte :=
  if (0x02800000 ≤ a ∧ a < 0x02C00000) ∨ (0x08000000 ≤ a ∧ a < 0x0A000000 ∧ 0xF800 ≤ a % 0x10000) then
    List.replicate n 0
  else s.rdBytesN a n

/-- A register-space read of 1, 2, 4 or 8 aligned bytes (R411). -/
def regLoad (s : State) (p : Party) (a n : Nat) : Nat × State :=
  if n = 8 then
    let r := readReg64 s p a
    (r.1.toNat, r.2)
  else
    let r := readReg s p (a / 4 * 4)
    (r.1.toNat / 256 ^ (a % 4) % 256 ^ n, r.2)

/-- The byte enables of an aligned access of `n` bytes at `a` within its word (R411). -/
def laneMask (a n : Nat) : BitVec 4 := BitVec.ofNat 4 ((2 ^ n - 1) * 2 ^ (a % 4))

/-- A register-space write of 1, 2, 4 or 8 aligned bytes (R411). -/
def regStore (s : State) (p : Party) (a n v : Nat) : State :=
  if n = 8 then regWrite64 s p a (BitVec.ofNat 32 v) (BitVec.ofNat 32 (v / 2 ^ 32))
  else regWrite s p (a / 4 * 4) (BitVec.ofNat 32 (v * 256 ^ (a % 4))) (laneMask a n)

/-- The address space that an address of an engine's program lies in (R37). -/
inductive EngSpace where
  | code | data | slots | shared | ledger | regs | none
deriving DecidableEq, Repr

/-- The space of engine `e`'s address `a` (R37, R255). -/
def engSpace (s : State) (e a : Nat) : EngSpace :=
  if a < codeBytes s (e / 32) then .code
  else if a < 0xF800 then .data
  else if a < 0x10000 then .slots
  else if 0x100000 ≤ a ∧ a < 0x200000 then
    (if 0x180000 ≤ a ∧ e / 32 = s.fld Reg.LDG_CTL 3 0 ∧ ldgState s ≠ 0 then .ledger else .shared)
  else if inBlocks a then .regs
  else .none

/-- Where engine `e`'s local or shared address lies in the internal map. -/
def engMap (e a : Nat) : Nat := if a < 0x10000 then engineBase e + a else sharedBase (e / 32) + (a - 0x100000)

/-- The bank whose scratch section `l`'s program reaches: that of the route it runs (R75, R135). -/
def scratchBank (s : State) (l : Nat) : Nat :=
  match (s.line l).route with
  | some r => r.bank
  | none => activeBank s l

/-- A section's scratch memory at R37's addresses. -/
def inScratch (a n : Nat) : Bool := decide (0x4000 ≤ a ∧ a + n ≤ 0x4800)

/-- `n` bytes of section `l`'s scratch from offset `o` on. -/
def scratchBytes (s : State) (l o n : Nat) : List Byte :=
  (List.range n).map (fun i => Sparse.get (fun _ => (0 : Byte)) (bankOf s l (scratchBank s l)).scratch (o + i))

/-- Bytes written to section `l`'s scratch. -/
def scratchWrite (s : State) (l o : Nat) (bs : List Byte) : State :=
  let x := bankOf s l (scratchBank s l)
  let m := bs.zipIdx.foldl (fun m p => Sparse.set (fun _ => (0 : Byte)) m (o + p.2) p.1) x.scratch
  setBank s l (scratchBank s l) { x with scratch := m }

/-- The cause that an aligned access of a processor raises (R35, R37, R44); none where it is performed. Atomics
reach what the table of R37 gives them.
DEDUCED (log entry 17). -/
def accessFault (s : State) (p : Proc) (k : Access) (a n : Nat) (atomic : Bool) : Option Nat :=
  if a % n ≠ 0 then some 2
  else match p with
    | .core c =>
      if (s.core c).permits k a = false then some k.mpuCause
      else if mapAnswers s k a then none else some 6
    | .engine e =>
      match engSpace s e.val a, k with
      | .code, .load => if atomic then some 6 else none
      | .code, .fetch => none
      | .data, .load => if atomic then some 6 else none
      | .data, .store => if atomic then some 6 else none
      | .shared, .load => none
      | .shared, .store => none
      | .regs, .load => if atomic then some 6 else none
      | .regs, .store => if atomic then some 6 else none
      | _, _ => some 6
    | .line _ =>
      match k with
      | .fetch => if a < 0x4000 then none else some 6
      | _ => if inScratch a n then none else some 6

/-- Whether processor `p`'s read at `a` stalls: the bank's check is still running (R396). -/
def readStalls (s : State) (p : Proc) (a : Nat) : Bool :=
  match p with
  | .core _ => bankBusy s a
  | .engine e => decide (0x100000 ≤ a ∧ a < 0x200000) && bankBusy s (engMap e.val a)
  | .line _ => false

/-- A performed load: the value, zero-extended, and the state after it. -/
def loadMem (s : State) (p : Proc) (a n : Nat) : Dword × State :=
  match p with
  | .core c =>
    if 0x20000000 ≤ a then
      let r := regLoad s (.core c) a n
      (BitVec.ofNat 64 r.1, r.2)
    else (BitVec.ofNat 64 (leNat (mapBytes s a n)), s)
  | .engine e =>
    if 0x20000000 ≤ a then
      let r := regLoad s (.engine e) a n
      (BitVec.ofNat 64 r.1, r.2)
    else (BitVec.ofNat 64 (leNat (s.rdMemN (engMap e.val a) n)), s)
  | .line l => (BitVec.ofNat 64 (leNat (scratchBytes s l.val (a - 0x4000) n)), s)

/-- A performed store of the low `n` bytes of a register. -/
def storeMem (s : State) (p : Proc) (a n : Nat) (v : Dword) : State :=
  match p with
  | .core c =>
    if 0x20000000 ≤ a then regStore s (.core c) a n (v.toNat % 256 ^ n)
    else s.wrMemN a (leBytes n v.toNat)
  | .engine e =>
    if 0x20000000 ≤ a then regStore s (.engine e) a n (v.toNat % 256 ^ n)
    else s.wrMemN (engMap e.val a) (leBytes n v.toNat)
  | .line l => scratchWrite s l.val (a - 0x4000) (leBytes n v.toNat)

end Sys2Proof.Machine
end

