-- ==== Sys2Proof/Machine/Operands.lean ====
section
/-! DEFINITION. Operands of the Wemon instructions: general registers, the program counter, state registers and
identity values (R27-R32, R50). -/

namespace Sys2Proof.Machine

/-- A register of a register file; g0 reads 0 (R27). -/
def gAt (g : List (Nat × Dword)) (r : RegNo) : Dword :=
  if r = 0 then 0 else Sparse.get (fun _ => (0 : Dword)) g r.toNat

/-- A register file with one register written; g0 discards (R27). -/
def gSet (g : List (Nat × Dword)) (r : RegNo) (v : Dword) : List (Nat × Dword) :=
  if r = 0 then g else Sparse.set (fun _ => (0 : Dword)) g r.toNat v

/-- General register `r` of processor `p`; a section processor without a route holds none (R28). -/
def greg (s : State) (p : Proc) (r : RegNo) : Dword :=
  match p with
  | .core c => gAt (s.core c).g r
  | .engine e => gAt (s.engine e.val).g r
  | .line n => match (s.line n.val).route with
    | some x => gAt x.g r
    | none => 0

/-- General register `r` of processor `p` written. -/
def setGreg (s : State) (p : Proc) (r : RegNo) (v : Dword) : State :=
  match p with
  | .core c => s.setCore c { s.core c with g := gSet (s.core c).g r v }
  | .engine e => s.setEngine e.val { s.engine e.val with g := gSet (s.engine e.val).g r v }
  | .line n => match (s.line n.val).route with
    | some x => s.setLine n.val { s.line n.val with route := some { x with g := gSet x.g r v } }
    | none => s

/-- The program counter of processor `p`: an address; a section's lies in its program code (R37). -/
def pcOf (s : State) (p : Proc) : Dword :=
  match p with
  | .core c => (s.core c).pc
  | .engine e => BitVec.ofNat 64 (s.engine e.val).pc
  | .line n => match (s.line n.val).route with
    | some x => BitVec.ofNat 64 (4 * x.pc)
    | none => 0

/-- The program counter of processor `p` written. -/
def setPc (s : State) (p : Proc) (a : Dword) : State :=
  match p with
  | .core c => s.setCore c { s.core c with pc := a }
  | .engine e => s.setEngine e.val { s.engine e.val with pc := a.toNat }
  | .line n => match (s.line n.val).route with
    | some x => s.setLine n.val { s.line n.val with route := some { x with pc := a.toNat / 4 } }
    | none => s

/-- The processor goes on with the next instruction. -/
def advance (s : State) (p : Proc) : State := setPc s p (pcOf s p + 4)

/-- The target of a branch: PC + 4 × the sign-extended offset, PC the branch's own address (R32). -/
def branchTo (pc : Dword) (off : BitVec 16) : Dword := pc + 4 * sext16 off

/-- The target of JMP and CALL (R32). -/
def jumpTo (pc : Dword) (off : BitVec 26) : Dword := pc + 4 * off.signExtend 64

/-- The address of a load, store or JR: ra + imm16 sign-extended (R32, R34). -/
def addrOf (s : State) (p : Proc) (ra : RegNo) (imm : BitVec 16) : Nat := (greg s p ra + sext16 imm).toNat

/-- The state register that MFS reads (R30), with the state after the read; none where MFS raises ILLEGAL. The
clocks that CS_CYCLE has counted are a free value (log entry 12).
DESIGN CHOICE (log entry 12). -/
def stateReg (s : State) (p : Proc) (num : Nat) : Option (Dword × State) :=
  match p with
  | .core c =>
    let x := s.core c
    match num with
    | 0x000 => some (x.status, s)
    | 0x001 => some (x.tvec, s)
    | 0x002 => some (x.epc, s)
    | 0x003 => some (x.cause, s)
    | 0x004 => some (x.tval, s)
    | 0x005 => some (x.scratch, s)
    | 0x006 => some (x.ien, s)
    | 0x007 => some (ipend s c, s)
    | 0x008 => some (x.timecmp, s)
    | 0x010 =>
      let f := s.free
      some (f.1, f.2.setCore c { x with cycle := f.1 })
    | _ => none
  | .engine e =>
    if num = 0x010 then
      let f := s.free
      some (f.1, f.2.setEngine e.val { s.engine e.val with cycle := f.1 })
    else none
  | .line _ => none

/-- The state register that MTS writes (R30); none where MTS raises ILLEGAL. -/
def setStateReg (x : Core) (num : Nat) (v : Dword) : Option Core :=
  match num with
  | 0x000 => some { x with status := v &&& 7 }
  | 0x001 => some { x with tvec := v }
  | 0x002 => some { x with epc := v }
  | 0x003 => some { x with cause := v }
  | 0x004 => some { x with tval := v }
  | 0x005 => some { x with scratch := v }
  | 0x006 => some { x with ien := v }
  | 0x008 => some { x with timecmp := v }
  | _ => none

/-- The identity value of a selector (the table before R50); none above selector 3. -/
def identValue (s : State) (p : Proc) (sel : Nat) : Option Nat :=
  match p, sel with
  | .core c, 0 => some c.val
  | .engine e, 0 => some e.val
  | .line n, 0 => some n.val
  | .core _, 1 => some 0x101
  | .engine _, 1 => some 0x102
  | .line _, 1 => some 0x103
  | .core _, 2 => some 0
  | .engine e, 2 => some (e.val / 32)
  | .line n, 2 => some (n.val / 8)
  | .core c, 3 => some (b2n (c != s.duty))
  | .engine e, 3 => some (e.val % 32)
  | .line _, 3 => some 0
  | _, _ => none

end Sys2Proof.Machine
end

