-- ==== Sys2Proof/Machine/Flags.lean ====
section
/-! DEFINITION. Results of the register instructions (R27, R34). No instruction sets condition flags: comparisons
give 0 or 1, and branches compare two registers. -/

namespace Sys2Proof.Machine

/-- 1 or 0 in a general register. -/
def oneIf (b : Bool) : Dword := if b then 1 else 0

/-- Signed less-than, as SLT, SLTI, BLT and BGE compare. -/
def ltS (a b : Dword) : Bool := a.slt b

/-- Unsigned less-than, as SLTU, SLTUI, BLTU and BGEU compare. -/
def ltU (a b : Dword) : Bool := a.ult b

/-- SHL by the low six bits of `n`. -/
def shlBy (a n : Dword) : Dword := a <<< (n.toNat % 64)

/-- SHR by the low six bits of `n`. -/
def shrBy (a n : Dword) : Dword := a >>> (n.toNat % 64)

/-- SAR by the low six bits of `n`. -/
def sarBy (a n : Dword) : Dword := a.sshiftRight (n.toNat % 64)

/-- The unsigned high 64 bits of the product (MULHU). -/
def mulHigh (a b : Dword) : Dword := BitVec.ofNat 64 (a.toNat * b.toNat / 2 ^ 64)

/-- DIVU: the unsigned quotient, all ones when `b` is 0. -/
def divBy (a b : Dword) : Dword := if b = 0 then BitVec.allOnes 64 else BitVec.ofNat 64 (a.toNat / b.toNat)

/-- REMU: the unsigned remainder, `a` when `b` is 0. -/
def remBy (a b : Dword) : Dword := if b = 0 then a else BitVec.ofNat 64 (a.toNat % b.toNat)

/-- SETH: the halfword at position `hw`, the rest 0. -/
def setHalf (hw : BitVec 2) (imm : BitVec 16) : Dword := zext16 imm <<< (16 * hw.toNat)

/-- INSH: the halfword at position `hw` replaced, the rest kept. -/
def insHalf (v : Dword) (hw : BitVec 2) (imm : BitVec 16) : Dword :=
  (v &&& ~~~((0xFFFF#64) <<< (16 * hw.toNat))) ||| setHalf hw imm

/-- EXTR: `lenM1` + 1 bits from position `pos`. -/
def extract (v : Dword) (pos lenM1 : BitVec 6) : Dword :=
  BitVec.ofNat 64 (v.toNat / 2 ^ pos.toNat % 2 ^ (lenM1.toNat + 1))

end Sys2Proof.Machine
end

