-- ==== Sys2Proof/Machine/Wemon.lean ====
section
/-! DEFINITION. Executing a Wemon instruction (02_wemon.md): when a processor executes one, exceptions and interrupts,
the instructions that every profile or two of them have, and the section instructions. -/

namespace Sys2Proof.Machine

/-! ### Exceptions (R38-R43) -/

/-- CS_STATUS as an exception or interrupt leaves it: pie takes ie, ie clears, trap sets (R39). -/
def enterStatus (st : Dword) : Dword := (if st.getLsbD 0 then 2 else 0) ||| 4

/-- CS_STATUS as ERET leaves it: ie takes pie, trap clears (R39). -/
def leaveStatus (st : Dword) : Dword := (if st.getLsbD 1 then 3 else 0)

/-- A logical core takes an exception or interrupt at the instruction its pc names (R39). -/
def Core.enter (x : Core) (cause : Nat) (tval : Dword) : Core :=
  { x with epc := x.pc, cause := BitVec.ofNat 64 cause, tval := tval, status := enterStatus x.status, pc := x.tvec }

/-- Core `c` returns from its handler (R39). -/
def Core.leave (x : Core) : Core := { x with status := leaveStatus x.status, pc := x.epc }

/-- CS_STATUS.trap. -/
def Core.inTrap (x : Core) : Bool := x.status.getLsbD 2

/-- An exception of core `c` while it handles one (R40): logged, and handled as a lockstep mismatch. The time to
duty that a failover logs is a free value.
DESIGN CHOICE (log entry 16). -/
def doubleTrap (s : State) (c : Fin 2) (cause : Nat) : State :=
  let x := s.core c
  let s := s.log Ev.DOUBLE_TRAP (.lc c) 0 (leBytes 1 x.cause.toNat ++ leBytes 1 cause ++ leBytes 8 x.epc.toNat ++
    leBytes 8 x.pc.toNat)
  let f := s.free
  settle (unpark (lockstepMismatch f.2 c (f.1.toNat % 2 ^ 32)))

/-- An exception of core `c` (R39, R40). -/
def coreException (s : State) (c : Fin 2) (cause : Nat) (tval : Dword) : State :=
  if (s.core c).inTrap then doubleTrap s c cause
  else s.setCore c ((s.core c).enter cause tval)

/-- An exception of processor `p` (R39, R42, R43) with its cause and the value it reports. -/
def raiseExc (s : State) (p : Proc) (cause : Nat) (val : Dword) : State :=
  match p with
  | .core c => coreException s c cause val
  | .engine e => engineFault s e.val cause (s.engine e.val).pc val.toNat
  | .line n => routeException s n.val cause

/-- The instruction word that an exception reports. -/
def wopVal (i : Wop) : Dword := (encodeWop i).zeroExtend 64

/-- ILLEGAL for instruction `i` (R30, R33). -/
def illegal (s : State) (p : Proc) (i : Wop) : State := raiseExc s p 1 (wopVal i)

/-! ### When an instruction executes -/

/-- Whether processor `p` executes instructions now: a core that runs or returns from PARK, its domain in RUN, PFW_N
high (R428) and the bank of its next instruction not under check (R396); an engine that runs in a yard in RUN; a section processor on a route.
DEDUCED (log entry 67). -/
def procReady (s : State) (p : Proc) : Bool :=
  match p with
  | .core c =>
    ((s.core c).run == .running || ((s.core c).run == .parked && wakesCore s c)) && domState s 1 == 0 &&
      !powerFailing s && !(s.core c).halted && !bankBusy s (s.core c).pc.toNat
  | .engine e => (s.engine e.val).run == .running && yardRunning s (e.val / 32) && domState s (6 + e.val / 32) == 0 &&
    !(s.engine e.val).halted
  | .line n => (s.line n.val).route.isSome && lineRuns s n.val && !(s.line n.val).halted

/-- A core that returns from PARK runs again. -/
def awake (s : State) (p : Proc) : State :=
  match p with
  | .core c => if (s.core c).run = .parked then s.setCore c { s.core c with run := .running } else s
  | _ => s

/-- The step bound of a route (R57). -/
def routeBound (r : Route) : Nat := if r.judge then 256 else 24

/-- A route's step counted; the bound reached without a verdict raises STEP_LIMIT (R57). -/
def countStep (s : State) (p : Proc) : State :=
  match p with
  | .line n => match (s.line n.val).route with
    | some r =>
      let s := s.setLine n.val { s.line n.val with route := some { r with steps := r.steps + 1 } }
      if routeBound r ≤ r.steps + 1 then routeException s n.val 8 else s
    | none => s
  | _ => s

/-- One instruction of a ready processor: fetched, decoded, executed by `body` (R31, R33, R37, R44, R57).
DESIGN CHOICE (log entry 8). -/
def execWop (p : Proc) (i : Wop) (body : State → State) (s : State) : State :=
  match accessFault s p .fetch (pcOf s p).toNat 4 false with
  | some cause => raiseExc s p cause (pcOf s p)
  | none =>
    if wopLegal p.profile i then countStep (body s) p
    else illegal s p i

/-- One instruction of processor `p`, if it executes instructions now.
DESIGN CHOICE (log entries 8, 9). -/
def runWop (p : Proc) (i : Wop) (body : State → State) (s : State) : State :=
  if procReady s p then execWop p i body (awake s p) else s

/-! ### Register instructions (R34) -/

/-- rd gets `v`, and the processor goes on. -/
def result (s : State) (p : Proc) (rd : RegNo) (v : Dword) : State := advance (setGreg s p rd v) p

/-- An instruction of two registers. -/
def opRR (f : Dword → Dword → Dword) (p : Proc) (rd ra rb : RegNo) (s : State) : State :=
  result s p rd (f (greg s p ra) (greg s p rb))

/-- An instruction of a register and a 16-bit immediate, extended by `ext`. -/
def opRI (f : Dword → Dword → Dword) (ext : BitVec 16 → Dword) (p : Proc) (rd ra : RegNo) (imm : BitVec 16)
    (s : State) : State :=
  result s p rd (f (greg s p ra) (ext imm))

/-- A shift by an immediate. -/
def opRN (f : Dword → Dword → Dword) (p : Proc) (rd ra : RegNo) (n : BitVec 6) (s : State) : State :=
  result s p rd (f (greg s p ra) (n.zeroExtend 64))

/-- SETH. -/
def opSeth (p : Proc) (rd : RegNo) (hw : BitVec 2) (imm : BitVec 16) (s : State) : State :=
  result s p rd (setHalf hw imm)

/-- INSH. -/
def opInsh (p : Proc) (rd : RegNo) (hw : BitVec 2) (imm : BitVec 16) (s : State) : State :=
  result s p rd (insHalf (greg s p rd) hw imm)

/-- EXTR. -/
def opExtr (p : Proc) (rd ra : RegNo) (pos lenM1 : BitVec 6) (s : State) : State :=
  result s p rd (extract (greg s p ra) pos lenM1)

/-! ### Memory instructions (R34, R35) -/

/-- A load of `n` bytes, zero-extended. One whose bank is still under check stalls (R396). -/
def opLoad (n : Nat) (p : Proc) (rd ra : RegNo) (imm : BitVec 16) (s : State) : State :=
  let a := addrOf s p ra imm
  match accessFault s p .load a n false with
  | some cause => raiseExc s p cause (BitVec.ofNat 64 a)
  | none =>
    if readStalls s p a then s
    else
      let r := loadMem (advance s p) p a n
      setGreg r.2 p rd r.1

/-- A store of the low `n` bytes of rs. -/
def opStore (n : Nat) (p : Proc) (rs ra : RegNo) (imm : BitVec 16) (s : State) : State :=
  let a := addrOf s p ra imm
  match accessFault s p .store a n false with
  | some cause => raiseExc s p cause (BitVec.ofNat 64 a)
  | none => storeMem (advance s p) p a n (greg s p rs)

/-- The cause an atomic at `a` raises (R35, R37, R44): it needs both r and w. -/
def atomicFault (s : State) (p : Proc) (a : Nat) : Option Nat :=
  match accessFault s p .load a 8 true, accessFault s p .store a 8 true with
  | none, none => none
  | none, some c => some c
  | some c, none => some c
  | some 6, some c => some c
  | some c, some _ => some c

/-- An atomic: rd gets the old value; `f` gives the new one from it, or none where nothing is stored. It stalls as a load
does (R396). -/
def opAtomic (f : Dword → Option Dword) (p : Proc) (rd ra : RegNo) (s : State) : State :=
  let a := (greg s p ra).toNat
  match atomicFault s p a with
  | some cause => raiseExc s p cause (BitVec.ofNat 64 a)
  | none =>
    if readStalls s p a then s
    else
      let r := loadMem (advance s p) p a 8
      let s := setGreg r.2 p rd r.1
      match f r.1 with
      | some v => storeMem s p a 8 v
      | none => s

/-- AMOADD. -/
def opAmoadd (p : Proc) (rd ra rb : RegNo) (s : State) : State :=
  opAtomic (fun old => some (old + greg s p rb)) p rd ra s

/-- AMOSWAP. -/
def opAmoswap (p : Proc) (rd ra rb : RegNo) (s : State) : State :=
  opAtomic (fun _ => some (greg s p rb)) p rd ra s

/-- CAS. -/
def opCas (p : Proc) (rd ra rb : RegNo) (s : State) : State :=
  opAtomic (fun old => if old = greg s p rd then some (greg s p rb) else none) p rd ra s

/-- FENCE (R46-R49): every access takes effect at once, in program order, so there is nothing to wait for.
DEDUCED (log entry 14). -/
def opFence (p : Proc) (s : State) : State := advance s p

/-! ### Control flow (R29, R32, R34) -/

/-- A branch that is taken where `f` holds of the two registers. -/
def opBranch (f : Dword → Dword → Bool) (p : Proc) (ra rb : RegNo) (off : BitVec 16) (s : State) : State :=
  if f (greg s p ra) (greg s p rb) then setPc s p (branchTo (pcOf s p) off) else advance s p

/-- JMP. -/
def opJmp (p : Proc) (off : BitVec 26) (s : State) : State := setPc s p (jumpTo (pcOf s p) off)

/-- CALL: g31 gets the address of the following instruction. -/
def opCall (p : Proc) (off : BitVec 26) (s : State) : State :=
  let pc := pcOf s p
  setPc (setGreg s p 31 (pc + 4)) p (jumpTo pc off)

/-- JR. -/
def opJr (p : Proc) (rd ra : RegNo) (imm : BitVec 16) (s : State) : State :=
  let pc := pcOf s p
  let t := greg s p ra + sext16 imm
  setPc (setGreg s p rd (pc + 4)) p (t &&& ~~~3)

/-! ### State registers, identity, traps (R30, R39, R50, R56) -/

/-- MFS. -/
def opMfs (p : Proc) (rd : RegNo) (num : BitVec 12) (s : State) : State :=
  match stateReg s p num.toNat with
  | some r => result r.2 p rd r.1
  | none => illegal s p (.mfs rd num)

/-- MTS. -/
def opMts (p : Proc) (rs : RegNo) (num : BitVec 12) (s : State) : State :=
  match p with
  | .core c => match setStateReg (s.core c) num.toNat (greg s p rs) with
    | some x => advance (s.setCore c x) p
    | none => illegal s p (.mts rs num)
  | _ => illegal s p (.mts rs num)

/-- IDENT. -/
def opIdent (p : Proc) (rd : RegNo) (sel : BitVec 4) (s : State) : State :=
  match identValue s p sel.toNat with
  | some v => result s p rd (BitVec.ofNat 64 v)
  | none => illegal s p (.ident rd sel)

/-- TRAP: a core reports the code, an engine the instruction. -/
def opTrap (p : Proc) (code : BitVec 5) (s : State) : State :=
  match p with
  | .core _ => raiseExc s p 7 (code.zeroExtend 64)
  | _ => raiseExc s p 7 (wopVal (.trap code))

/-- ERET. -/
def opEret (p : Proc) (s : State) : State :=
  match p with
  | .core c => if (s.core c).inTrap then s.setCore c (s.core c).leave else illegal s p .eret
  | _ => illegal s p .eret

/-- PARK (R56): it returns at once where its wake condition already holds.
DEDUCED (log entry 22). -/
def opPark (p : Proc) (s : State) : State :=
  match p with
  | .core c =>
    let s := advance s p
    if wakesCore s c then s else s.setCore c { s.core c with run := .parked }
  | .engine e =>
    let s := advance s p
    if (s.engine e.val).wake then s else s.setEngine e.val { s.engine e.val with run := .parked }
  | .line _ => s

/-- The interrupt source that core `c` takes next (R41).
DEDUCED (log entry 15). -/
def nextInterrupt (s : State) (c : Fin 2) : Option Nat :=
  let w := ipend s c &&& (s.core c).ien
  if (s.core c).status.getLsbD 0 then (List.range 64).find? (fun n => w.getLsbD n) else none

/-- Core `c` takes a pending enabled interrupt (R39, R41); the source stays pending. CS_TVAL is a free value: the rule
gives it none.
DESIGN CHOICE (log entry 13), DEDUCED (log entry 15). -/
def takeInterrupt (s : State) (c : Fin 2) : State :=
  match nextInterrupt s c with
  | none => s
  | some n =>
    let f := s.free
    f.2.setCore c ((s.core c).enter (0x40 + n) f.1)

/-! ### Section instructions (R34, R36, R57, R84, R112, R115, R118, R121) -/

/-- What the current frame shows a section program: opcode, address, data length, phase descriptor, staged data. -/
structure FrameView where
  op : Nat
  addr : Nat
  len : Nat
  desc : Nat
  data : List Byte
deriving DecidableEq, Repr

/-- The frame that the route of section `n` runs on: the staged one on the judge route. -/
def frameView (s : State) (n : Nat) : FrameView :=
  match (s.line n).route with
  | some r =>
    if r.judge then match (s.line n).queue.find? (fun e => e.progress == .judging) with
      | some e => ⟨e.opcode, e.addr, e.flen, e.desc, e.data⟩
      | none => ⟨0, 0, 0, 0, []⟩
    else match (s.line n).frame with
      | some f => ⟨f.opcode, f.addr, 0, f.desc, []⟩
      | none => ⟨0, 0, 0, 0, []⟩
  | none => ⟨0, 0, 0, 0, []⟩

/-- An instruction that reads one value of the current frame. -/
def opFrame (f : FrameView → Nat) (p : Proc) (rd : RegNo) (s : State) : State :=
  match p with
  | .line n => result s p rd (BitVec.ofNat 64 (f (frameView s n.val)))
  | _ => s

/-- FDATA. -/
def opFdata (p : Proc) (rd ra : RegNo) (s : State) : State :=
  match p with
  | .line n => result s p rd (BitVec.ofNat 64 (leAt (frameView s n.val).data (greg s p ra).toNat 8))
  | _ => s

/-- The resolved table of the program that the route runs under. -/
def routeMap (s : State) (n : Nat) : List Region :=
  match (s.line n).route with
  | some r => (bankOf s n r.bank).map
  | none => []

/-- RLOOK. -/
def opRlook (p : Proc) (rd ra : RegNo) (s : State) : State :=
  match p with
  | .line n => result s p rd (BitVec.ofNat 64 (rlookValue (routeMap s n.val) (greg s p ra).toNat))
  | _ => s

/-- CNT. -/
def opCnt (p : Proc) (k : RegNo) (s : State) : State :=
  match p with
  | .line n => advance (s.inc (Reg.SEC_PCNT n.val k.toNat)) p
  | _ => s

/-- A verdict ends the route (R57, R112): 0 PASS, 1 DENY, 2 STAGE, 3 SERVE, 4 CHECK. -/
def opVerdict (v : Nat) (p : Proc) (ra : RegNo) (reason : BitVec 8) (s : State) : State :=
  match p with
  | .line n => routeVerdict s n.val v reason.toNat (greg s p ra).toNat
  | _ => s

/-- The effect of an instruction that a section processor has. The others are ILLEGAL there. -/
def sectionBody (p : Proc) : Wop → State → State
  | .add d a b => opRR (· + ·) p d a b
  | .sub d a b => opRR (· - ·) p d a b
  | .and d a b => opRR (· &&& ·) p d a b
  | .or d a b => opRR (· ||| ·) p d a b
  | .xor d a b => opRR (· ^^^ ·) p d a b
  | .shl d a b => opRR shlBy p d a b
  | .shr d a b => opRR shrBy p d a b
  | .sltu d a b => opRR (fun x y => oneIf (ltU x y)) p d a b
  | .addi d a i => opRI (· + ·) sext16 p d a i
  | .andi d a i => opRI (· &&& ·) zext16 p d a i
  | .ori d a i => opRI (· ||| ·) zext16 p d a i
  | .xori d a i => opRI (· ^^^ ·) zext16 p d a i
  | .shli d a n => opRN shlBy p d a n
  | .shri d a n => opRN shrBy p d a n
  | .sltui d a i => opRI (fun x y => oneIf (ltU x y)) sext16 p d a i
  | .seth d h i => opSeth p d h i
  | .insh d h i => opInsh p d h i
  | .extr d a q l => opExtr p d a q l
  | .ldb d a i => opLoad 1 p d a i
  | .ldh d a i => opLoad 2 p d a i
  | .ldw d a i => opLoad 4 p d a i
  | .ldd d a i => opLoad 8 p d a i
  | .stb d a i => opStore 1 p d a i
  | .sth d a i => opStore 2 p d a i
  | .stw d a i => opStore 4 p d a i
  | .std d a i => opStore 8 p d a i
  | .beq a b o => opBranch (· == ·) p a b o
  | .bne a b o => opBranch (· != ·) p a b o
  | .bltu a b o => opBranch ltU p a b o
  | .bgeu a b o => opBranch (fun x y => !ltU x y) p a b o
  | .jmp o => opJmp p o
  | .ident d k => opIdent p d k
  | .pass a r => opVerdict 0 p a r
  | .deny a r => opVerdict 1 p a r
  | .stage a r => opVerdict 2 p a r
  | .serve a r => opVerdict 3 p a r
  | .check a r => opVerdict 4 p a r
  | .fop d => opFrame FrameView.op p d
  | .faddr d => opFrame FrameView.addr p d
  | .flen d => opFrame FrameView.len p d
  | .fmode d => opFrame FrameView.desc p d
  | .fdata d a => opFdata p d a
  | .rlook d a => opRlook p d a
  | .cnt k => opCnt p k
  | i => fun s => illegal s p i

/-- The word of section `n`'s program at the route's pc. -/
def routeWord (s : State) (n : Nat) : Word :=
  match (s.line n).route with
  | some r => BitVec.ofNat 32 (leAt (bankOf s n r.bank).image (32 + 4 * r.pc) 4)
  | none => 0

/-- One instruction of the route of section `n`, as its program gives it.
DESIGN CHOICE (log entry 8). -/
def routeStep (s : State) (n : Fin 32) : State :=
  let w := routeWord s n.val
  match decodeWop w with
  | some i => runWop (.line n) i (sectionBody (.line n) i) s
  | none => if procReady s (.line n) then routeException s n.val 1 else s

/-- At most `k` instructions of the route of section `n`.
DESIGN CHOICE (log entry 33). -/
def runRoute : Nat → State → Fin 32 → State
  | 0, s, _ => s
  | k + 1, s, n => if (s.line n.val).route.isSome then runRoute k (routeStep s n) n else s

/-- The route of section `n` run to its end, where its domain runs.
DESIGN CHOICE (log entry 33). -/
def finishRoute (s : State) (n : Fin 32) : State := runRoute 256 s n

end Sys2Proof.Machine
end

