-- ==== Sys2Proof/Machine/Arith.lean ====
section
/-! DEFINITION. The meanings of the register instructions of the Wemon processors (R34). -/

namespace Sys2Proof.Machine

/-- ADD (R34): rd gets ra plus rb, modulo 2^64. -/
def execAdd (p : Proc) (rd ra rb : RegNo) (s : State) : Out :=
  act s (runWop p (.add rd ra rb) (opRR (· + ·) p rd ra rb))

/-- SUB (R34): rd gets ra minus rb. -/
def execSub (p : Proc) (rd ra rb : RegNo) (s : State) : Out :=
  act s (runWop p (.sub rd ra rb) (opRR (· - ·) p rd ra rb))

/-- AND (R34): bitwise AND of two registers. -/
def execAnd (p : Proc) (rd ra rb : RegNo) (s : State) : Out :=
  act s (runWop p (.and rd ra rb) (opRR (· &&& ·) p rd ra rb))

/-- OR (R34): bitwise OR of two registers. -/
def execOr (p : Proc) (rd ra rb : RegNo) (s : State) : Out :=
  act s (runWop p (.or rd ra rb) (opRR (· ||| ·) p rd ra rb))

/-- XOR (R34): bitwise XOR of two registers. -/
def execXor (p : Proc) (rd ra rb : RegNo) (s : State) : Out :=
  act s (runWop p (.xor rd ra rb) (opRR (· ^^^ ·) p rd ra rb))

/-- SHL (R34): logical left shift by rb[5:0]. -/
def execShl (p : Proc) (rd ra rb : RegNo) (s : State) : Out :=
  act s (runWop p (.shl rd ra rb) (opRR shlBy p rd ra rb))

/-- SHR (R34): logical right shift by rb[5:0]. -/
def execShr (p : Proc) (rd ra rb : RegNo) (s : State) : Out :=
  act s (runWop p (.shr rd ra rb) (opRR shrBy p rd ra rb))

/-- SAR (R34): arithmetic right shift by rb[5:0]. -/
def execSar (p : Proc) (rd ra rb : RegNo) (s : State) : Out :=
  act s (runWop p (.sar rd ra rb) (opRR sarBy p rd ra rb))

/-- SLT (R34): signed compare, rd gets 1 if ra is less than rb. -/
def execSlt (p : Proc) (rd ra rb : RegNo) (s : State) : Out :=
  act s (runWop p (.slt rd ra rb) (opRR (fun x y => oneIf (ltS x y)) p rd ra rb))

/-- SLTU (R34): unsigned compare, rd gets 1 if ra is less than rb. -/
def execSltu (p : Proc) (rd ra rb : RegNo) (s : State) : Out :=
  act s (runWop p (.sltu rd ra rb) (opRR (fun x y => oneIf (ltU x y)) p rd ra rb))

/-- MUL (R34): low 64 bits of the product. -/
def execMul (p : Proc) (rd ra rb : RegNo) (s : State) : Out :=
  act s (runWop p (.mul rd ra rb) (opRR (· * ·) p rd ra rb))

/-- MULHU (R34): unsigned high 64 bits of the product. -/
def execMulhu (p : Proc) (rd ra rb : RegNo) (s : State) : Out :=
  act s (runWop p (.mulhu rd ra rb) (opRR mulHigh p rd ra rb))

/-- DIVU (R34): unsigned quotient, all ones when rb is 0. -/
def execDivu (p : Proc) (rd ra rb : RegNo) (s : State) : Out :=
  act s (runWop p (.divu rd ra rb) (opRR divBy p rd ra rb))

/-- REMU (R34): unsigned remainder, ra when rb is 0. -/
def execRemu (p : Proc) (rd ra rb : RegNo) (s : State) : Out :=
  act s (runWop p (.remu rd ra rb) (opRR remBy p rd ra rb))

/-- ADDI (R34): add a sign-extended immediate. -/
def execAddi (p : Proc) (rd ra : RegNo) (imm : BitVec 16) (s : State) : Out :=
  act s (runWop p (.addi rd ra imm) (opRI (· + ·) sext16 p rd ra imm))

/-- ANDI (R34): AND with a zero-extended immediate. -/
def execAndi (p : Proc) (rd ra : RegNo) (imm : BitVec 16) (s : State) : Out :=
  act s (runWop p (.andi rd ra imm) (opRI (· &&& ·) zext16 p rd ra imm))

/-- ORI (R34): OR with a zero-extended immediate. -/
def execOri (p : Proc) (rd ra : RegNo) (imm : BitVec 16) (s : State) : Out :=
  act s (runWop p (.ori rd ra imm) (opRI (· ||| ·) zext16 p rd ra imm))

/-- XORI (R34): XOR with a zero-extended immediate. -/
def execXori (p : Proc) (rd ra : RegNo) (imm : BitVec 16) (s : State) : Out :=
  act s (runWop p (.xori rd ra imm) (opRI (· ^^^ ·) zext16 p rd ra imm))

/-- SHLI (R34): left shift by an immediate. -/
def execShli (p : Proc) (rd ra : RegNo) (n : BitVec 6) (s : State) : Out :=
  act s (runWop p (.shli rd ra n) (opRN shlBy p rd ra n))

/-- SHRI (R34): logical right shift by an immediate. -/
def execShri (p : Proc) (rd ra : RegNo) (n : BitVec 6) (s : State) : Out :=
  act s (runWop p (.shri rd ra n) (opRN shrBy p rd ra n))

/-- SARI (R34): arithmetic right shift by an immediate. -/
def execSari (p : Proc) (rd ra : RegNo) (n : BitVec 6) (s : State) : Out :=
  act s (runWop p (.sari rd ra n) (opRN sarBy p rd ra n))

/-- SLTI (R34): signed compare with an immediate. -/
def execSlti (p : Proc) (rd ra : RegNo) (imm : BitVec 16) (s : State) : Out :=
  act s (runWop p (.slti rd ra imm) (opRI (fun x y => oneIf (ltS x y)) sext16 p rd ra imm))

/-- SLTUI (R34): unsigned compare with a sign-extended immediate. -/
def execSltui (p : Proc) (rd ra : RegNo) (imm : BitVec 16) (s : State) : Out :=
  act s (runWop p (.sltui rd ra imm) (opRI (fun x y => oneIf (ltU x y)) sext16 p rd ra imm))

/-- SETH (R34): rd gets imm16 shifted to halfword hw. -/
def execSeth (p : Proc) (rd : RegNo) (hw : BitVec 2) (imm : BitVec 16) (s : State) : Out :=
  act s (runWop p (.seth rd hw imm) (opSeth p rd hw imm))

/-- INSH (R34): inserts imm16 into halfword hw of rd and keeps the other bits. -/
def execInsh (p : Proc) (rd : RegNo) (hw : BitVec 2) (imm : BitVec 16) (s : State) : Out :=
  act s (runWop p (.insh rd hw imm) (opInsh p rd hw imm))

/-- EXTR (R34): extracts a bit field of ra. -/
def execExtr (p : Proc) (rd ra : RegNo) (pos lenM1 : BitVec 6) (s : State) : Out :=
  act s (runWop p (.extr rd ra pos lenM1) (opExtr p rd ra pos lenM1))

end Sys2Proof.Machine
end

