-- ==== Sys2Proof/Machine/FwOps.lean ====
section
/-! DEFINITION. What the requests to signal-box firmware share: taking a request (R207, R322), the transactions of
updates, trials and recoveries (R186, R195-R206), and slots that fail verification (R182, R184, R204). -/

namespace Sys2Proof.Machine

/-! ### Requests -/

/-- Word 0 of a request: code, two argument bytes and the tag (R207, R285). -/
def reqWord (code arg img tag : Nat) : Nat := code + arg * 2 ^ 8 + img * 2 ^ 16 + tag * 2 ^ 24

/-- Whether the sender of a request still stands: an instance whose ring it was fetched from is ACTIVE or QUIESCED. -/
def senderStands (s : State) (q : Sender) : Bool :=
  match q with
  | .inst n => vinState s n.val == 2 || vinState s n.val == 3
  | .agent _ => true

/-- Whether firmware can take a request of `q`: SBOX runs, and the sender can be answered. -/
def reqReaches (s : State) (q : Sender) : Bool := domState s 1 == 0 && canServe s q && senderStands s q

/-- The requests that are logged with their origin: of updates and recovery, tamper, fixity, life cycle and power (R207,
R264, R347, R381, R402). -/
def loggedCode (code : Nat) : Bool := [4, 5, 6, 10, 11].contains (code / 16)

/-- A request logged with its origin. The spec gives the record no event code.
DESIGN CHOICE (log entry 99). -/
def logRequest (s : State) (q : Sender) (code : Nat) : State :=
  let d := match q with
    | .inst n => n.val
    | .agent _ => 0
  if loggedCode code then s.log Config.requestCode.toNat q.origin d (leBytes 1 code) else s

/-- The channel on which agent `a` sends its requests. -/
def requestChannel (s : State) (a : Nat) : Nat :=
  ((List.range 64).find? (fun n => mbxEn s n && mbxSender s n == 0x28 + a && mbxReceiver s n == sbIdentity)).getD 0

/-- Whether a request of `q` has no channel for its answer while firmware runs (R322). -/
def noAnswer (s : State) (q : Sender) : Bool :=
  match q with
  | .agent a => domState s 1 == 0 && (answerChannel s (0x28 + a.val)).isNone
  | .inst _ => false

/-- A request that has no answer channel, taken and discarded (R322).
DESIGN CHOICE (log entry 99). -/
def refuseRequest (s : State) (q : Sender) : State :=
  match q with
  | .agent a =>
    let n := requestChannel s a.val
    badWriter s (.agent a) n (Reg.MBX_CTL n)
  | .inst _ => s

/-- A request of `q` taken and carried out on its behalf (R322, R359). One that firmware cannot take yet waits, in order
of arrival, and is taken when it can be (R25); one whose instance has gone is dropped (R288).
DESIGN CHOICE (log entries 19, 55, 97). -/
def request (c : Request) (code : Nat) (q : Sender) (s : State) (f : State → State) : Out :=
  actSettle s (fun s =>
    if reqReaches s q then onBehalf (logRequest s q code) q f
    else if noAnswer s q then refuseRequest s q
    else if senderStands s q then
      { s with mbx := { s.mbx with delayed := s.mbx.delayed ++ [⟨q, c, code, s.ot⟩] } }
    else s)

/-- The oldest delayed request that firmware can take now. -/
def nextDelayed (s : State) : Option Delayed := s.mbx.delayed.find? (fun d => reqReaches s d.who || noAnswer s d.who)

/-- The transport that a late answer names: an agent's, 0xFF for a command ring. -/
def senderTransport (q : Sender) : Nat :=
  match q with
  | .agent a => 2 + a.val
  | .inst _ => 0xFF

/-- A delayed request leaves its queue to be carried out; answered more than 1 ms after its arrival it is late (R25).
DESIGN CHOICE (log entry 97). -/
def takeDelayed (s : State) (d : Delayed) : State :=
  let us := (s.ot - d.arrived) * 15625 / 16
  let s := { s with mbx := { s.mbx with delayed := s.mbx.delayed.erase d } }
  if 1000 < us then
    (s.inc Reg.ATT_CNT_LATE).fwLog Ev.LATE_RESPONSE (senderTransport d.who) (leBytes 1 d.code ++ leBytes 4 us)
  else s

/-- The status of a request whose transaction ended so (R64): what can pass with time is BUSY, else STATE. -/
def txStatus (st : Nat) : Nat := if st = 0 then 0 else if st = 0x01 ∨ st = 0x14 ∨ st = 0x25 then 2 else 3

/-- A read of host memory that fails while a request is served (R284): it is counted and logged, and the request
answers VERIFY.
DEDUCED (log entry 47). -/
def readFailed (s : State) (q : Sender) (w0 addr kind : Nat) : State :=
  (dmaErrorEvent s 0 addr kind 5).answer q w0 4 [] true

/-! ### Records -/

/-- HOLD records that assert or release lines (R66). -/
def holdRecs (ls : List Nat) (on : Bool) : List ActRec :=
  (List.range 3).filterMap (fun g =>
    let m := maskOf 32 (fun k => ls.contains (32 * g + k))
    if m = 0 then none else some ⟨0x01, g, m + (if on then m * 2 ^ 32 else 0), 0, []⟩)

/-- POINTS records for sections. -/
def pointsRecs (ns : List Nat) (p : Nat) : List ActRec := ns.map (fun n => ⟨0x02, n, p, 0, []⟩)

/-- PROG records that swap sections back to their standby banks (R135). -/
def progRecs (s : State) (ns : List Nat) : List ActRec :=
  ns.map (fun n => ⟨0x03, n, 0, 0, (bankOf s n (1 - activeBank s n)).digest⟩)

/-- The SUBJECT record of an update or recovery of component `c` (R193). -/
def updSubject (c : Nat) : ActRec := ⟨0x0E, c, 2, 0, []⟩

/-- The RTB record that replaces a component's record (R66, R190). -/
def rtbAct (c : Nat) (old new : List Byte) : ActRec := ⟨0x04, c, recGen old, 0, putAt new 188 [0, 0, 0, 0]⟩

/-- The take of a component (R195 step 1). -/
def takeRecs (e : CompEntry) : List ActRec := updSubject e.num :: holdRecs e.holds true ++ pointsRecs e.sections 1

/-! ### Trials (R198-R201) -/

/-- Whether the deadline of a record's trial has passed (R199, R200). -/
def trialPast (s : State) (rec : List Byte) : Bool :=
  decide (leAt rec 24 4 < s.pcc) || (leAt rec 24 4 == s.pcc && decide (leAt rec 28 6 ≤ s.ot))

/-- The options given with a component's last UPDATE_COMMIT: [0] confirm mode, [1] min-raise. -/
def updOpts (s : State) (c : Nat) : Nat := Sparse.get (fun _ => 0) s.upd.opts c

/-- A trial confirmed (R199). Answers the status of the transaction. -/
def confirmTrial (s : State) (c : Nat) : State × Nat :=
  let r := rtbRec s c
  fwCommit s [updSubject c, rtbAct c r (confirmRec r (bitOf (updOpts s c) 1))]

/-- The trials whose component is ready under confirm mode 0 are confirmed (R199). -/
def confirmReady (s : State) : State :=
  (List.range 64).foldl (fun s c =>
    let r := rtbRec s c
    if recTrial r = true ∧ trialPast s r = false ∧ compState s c = 4 ∧ bitOf (updOpts s c) 0 = false
    then (confirmTrial s c).1 else s) s

/-- Whether component `c` runs without its old bank ready behind it (R195 step 2). -/
def crampedTrial (s : State) (e : CompEntry) : Bool :=
  (s.fld Reg.RTB_UPD_STAT 5 0 == e.num && s.bit Reg.RTB_UPD_STAT 7) ||
    e.sections.any (fun n => !(bankOf s n (1 - activeBank s n)).ok)

/-- A trial reverted at its deadline (R200). It waits while the relief core is absent. -/
def revertTrial (s : State) (c : Nat) : State :=
  match compEntry s c with
  | none => s
  | some e =>
    let r := rtbRec s c
    if recTrial r = true ∧ trialPast s r = true then
      let back := if crampedTrial s e then pointsRecs e.sections 1 else progRecs s e.sections
      (fwCommit s (updSubject c :: rtbAct c r (revertRec r) :: holdRecs e.holds true ++ back)).1
    else s

/-! ### Recoveries (R203-R206) -/

/-- Whether slot `x` may be a target (R206): a siding or a slot that is not VALID. -/
def targetOk (rec : List Byte) (x : Nat) : Bool := recFlag rec (3 + x) || !recFlag rec x

/-- The target of a recovery (R204, R208): slot A where it may be one, else slot B. -/
def targetSlot (rec : List Byte) : Option Nat :=
  if targetOk rec 0 then some 0 else if targetOk rec 1 then some 1 else none

/-- Whether slot `x` of component `c` failed its verification at this start, or as an update's. -/
def hasFailed (s : State) (c x : Nat) : Bool := s.upd.failed.any (fun p => p.1 == c && p.2.1 == x)

/-- The target of a restore (R204, R206): one that may be a target already, else one that failed at this start, which step 1
of the restore clears and makes a siding.
DEDUCED (log entry 38). -/
def restoreTarget (s : State) (c : Nat) : Option Nat :=
  (targetSlot (rtbRec s c)).or ([0, 1].find? (hasFailed s c))

/-- Whether every image of a component has a recovery entry with flag `i` set. -/
def allImages (s : State) (e : CompEntry) (i : Nat) : Bool :=
  !e.images.isEmpty && e.images.all (fun m => bitOf (recoveryFlags s m.recovery) i)

/-- Whether every image of a component has a recovery entry, hence a V-port copy. -/
def hasCopies (e : CompEntry) : Bool := !e.images.isEmpty && e.images.all (fun m => m.recovery != 0xFFFF)

/-- A recovery operation of component `c` begins (R205, R206 step 1): its target is cleared and made a siding, the
registers show it and RECOVERY_START is recorded. Answers the status of the transaction. -/
def recoveryBegin (s : State) (c source x : Nat) : State × Nat :=
  let r := rtbRec s c
  let t := fwCommit s [updSubject c, rtbAct c r (nextGen (setRecFlag (clearSlot r x) (3 + x) true))]
  if t.2 = 0 then
    let s := t.1.fwL Reg.RTB_RCV_STAT 23 0 (c + 2 ^ 6 + source * 2 ^ 8 + x * 2 ^ 10)
    let s := compChanges s (setCompState (s.wr Reg.RTB_RCV_PAGES 0) c 7)
    (s.fwLog Ev.RECOVERY_START c (leBytes 1 source ++ leBytes 1 x), 0)
  else t

/-- Slot `x` of component `c` fails verification at image `k` (R181, R182, R192), once at a start. -/
def slotFail (s : State) (c k x cause : Nat) : State :=
  if hasFailed s c x then s
  else
    let s := s.setF (Reg.RTB_COMP c) 11 8 cause
    let s := s.fwLog Ev.SLOT_FAIL_COMP c (leBytes 1 k ++ leBytes 1 x ++ leBytes 1 cause)
    { s with upd := { s.upd with failed := (c, x, cause) :: s.upd.failed } }

/-- The verification of component `c` in progress. -/
def checkOf (s : State) (c : Nat) : Option Check := s.upd.fw.checks.find? (fun k => k.comp == c)

/-- The verification of component `c` replaced. -/
def putCheck (s : State) (k : Check) : State :=
  s.mapFw (fun f => { f with checks := f.checks.filter (fun q => q.comp != k.comp) ++ [k] })

/-- The verification of component `c` dropped. -/
def dropCheck (s : State) (c : Nat) : State :=
  s.mapFw (fun f => { f with checks := f.checks.filter (fun q => q.comp != c) })

/-- Whether the recovery that runs, or the update that is open, is component `c`'s. -/
def recoveringComp (s : State) (c : Nat) : Bool := s.bit Reg.RTB_RCV_STAT 6 && s.fld Reg.RTB_RCV_STAT 5 0 == c
def updatingComp (s : State) (c : Nat) : Bool := s.bit Reg.RTB_UPD_STAT 6 && s.fld Reg.RTB_UPD_STAT 5 0 == c

/-- The extents of a component's standby banks freed: those armed for an image that failed (R144, R182, R196). -/
def freeStandby (s : State) (e : CompEntry) : State := e.sections.foldl (fun s n => freeBank s n (1 - activeBank s n)) s

/-- The slot that a verification reads fails (R182, R196, R206): at a start it is no candidate any more and the choice is made
again; a recovery fails; an update's failure transaction follows, with the old slot read afresh first where it was cramped. -/
def verifyFail (s : State) (e : CompEntry) (k x cause : Nat) : State :=
  let c := e.num
  let s := s.mapFw (fun f => { f with jobs := f.jobs.filter (fun j => j.2.1 != c) })
  if recoveringComp s c then recoveryFail (freeStandby s e) 4 cause
  else
    let s := freeStandby s e
    match checkOf s c with
    | some q =>
      if q.why = 1 then dropCheck (s.mapFw (fun f => { f with updCause := some cause })) c
      else
        let s := slotFail s c k x cause
        if q.why = 3 then heldNoSlot (dropCheck s c) c 1 else putCheck s { q with pick := none, armed := false, matched := [] }
    | none => if updatingComp s c then s.mapFw (fun f => { f with updCause := some cause }) else slotFail s c k x cause

/-- The image of a component on section `n`, and the slot that its last DEVICE frame read. -/
def imageRead (s : State) (e : CompEntry) (n : Nat) : Option (Nat × Nat) :=
  let a := (s.rd (Reg.SEC_DEV_ADDR n)).toNat
  let hit (i : Image) (x : Nat) : Bool := i.sec == n && decide (i.slot x ≤ a ∧ a < i.slot x + i.size)
  (List.range e.images.length).findSome? (fun k => match e.images[k]? with
    | some i => if hit i 0 then some (k, 0) else if hit i 1 then some (k, 1) else none
    | none => none)

/-- Whose image the job that ended on lane `n` read: the component, image and slot of firmware's own read, else those that the
last DEVICE frame of a section in verification names.
DEDUCED (log entry 40). -/
def jobImage (s : State) (n : Nat) : Option (CompEntry × Nat × Nat) :=
  match s.upd.fw.jobs.find? (fun j => j.1 == n) with
  | some j => match compEntry s j.2.1, (checkOf s j.2.1).bind (fun q => q.pick) with
    | some e, some x => some (e, j.2.2, x)
    | _, _ => none
  | none => match (compsOf s [n]).head? with
    | some e => if compState s e.num = 1 ∨ recoveringComp s e.num = true then (imageRead s e n).map (fun p => (e, p.1, p.2)) else none
    | none => none

/-- An image does not match its manifest (R182, R184, R196, R206 step 4).
DEDUCED (log entry 40). -/
def imageMismatch (s : State) (n : Nat) : State :=
  match jobImage s n with
  | some (e, k, x) => verifyFail s e k x 7
  | none => s

/-- An image matches its manifest (R177 step 6): where firmware read it, its verification goes on. -/
def imageMatched (s : State) (n : Nat) : State :=
  match s.upd.fw.jobs.find? (fun j => j.1 == n) with
  | none => s
  | some j =>
    let s := s.mapFw (fun f => { f with jobs := f.jobs.filter (fun q => q.1 != n) })
    match checkOf s j.2.1 with
    | some q => putCheck s { q with matched := q.matched ++ [j.2.2] }
    | none => s

/-! ### The identity and SFDP check (R104) -/

/-- Whether port `n` checks its flash's identity: a section in DEVICE points whose profile sets sfdp_check.
DEDUCED (log entry 40). -/
def identChecks (s : State) (n : Nat) : Bool := decide (n < 32) && profFlag s n 0 && pointsOf s n == 1

/-- The flash of section `n` is not the profile's (R104): `kind` 0 its ID, 1 its SFDP, of which `bytes` were read.
A component that is being verified stays held, a recovery of it fails.
DEDUCED (log entry 40). -/
def identFail (s : State) (n kind : Nat) (bytes : List Byte) : State :=
  let s := s.setLine n { s.line n with idOk := false }
  let s := secLog (s.setBit (Reg.SEC_PORT_STAT n) 6 true) Ev.IDENTITY_MISMATCH n (leBytes 1 kind ++ takePad 16 bytes)
  (compsOf s [n]).foldl (fun s e =>
    let c := e.num
    let k := (e.images.findIdx? (fun i => i.sec == n)).getD 0
    if recoveringComp s c = true ∨ updatingComp s c = true then verifyFail s e k 0 8
    else if compState s c ≠ 1 then s
    else heldNoSlot (dropCheck ([0, 1].foldl (fun s x => slotFail s c k x 8) s) c) c 1) s

/-- Whether step 1 of the identity check is done (R104): the reset pin has been pulsed, or every mode_reset CONTROL entry has
been issued in these DEVICE points. -/
def identReady (s : State) (n : Nat) : Bool :=
  profFlag s n 3 || (List.range (opCount s n)).all (fun i =>
    !(kindOf (opEntry s n i).desc == 5 && bitOf (opEntry s n i).flags 1) || (s.line n).resetSeen.contains i)

/-- A DEVICE read of opcode `op` into memory delivered `bytes`: the JEDEC ID is compared (R104). -/
def identRead (s : State) (n op : Nat) (bytes : List Byte) : State :=
  if identChecks s n = false ∨ op ≠ 0x9F ∨ bytes.length < 3 ∨ identReady s n = false then s
  else if (bytes.take 3).map BitVec.toNat = [profByte s n 24, profByte s n 25, profByte s n 26] then
    s.setLine n { s.line n with idOk := true }
  else identFail s n 0 bytes

/-- Whether the job in hand on lane `n` digests the SFDP bytes (R104): a FLASH job under SHA-384 of the check length,
fed by opcode 0x5A. -/
def sfdpJob (s : State) (n : Nat) (j : ExmJob) : Bool :=
  identChecks s n && j.flash && j.alg == 2 && j.len == profLe s n 32 2 &&
    (opEntry s n (s.fld (Reg.SEC_DEV_OP n) 5 0)).opcode == 0x5A

/-- The SFDP bytes digested (R104): with a matching ID, a match ends ident_fail. -/
def identSfdp (s : State) (n : Nat) (bytes : List Byte) : State :=
  let d := (digestOf 2 [] bytes).take 28
  if d.map BitVec.toNat = (List.range 28).map (fun i => profByte s n (36 + i)) then
    if (s.line n).idOk then
      (s.setBit (Reg.SEC_PORT_STAT n) 6 false).mapFw (fun f => { f with idents := f.idents.filter (· != n) ++ [n] })
    else s
  else identFail s n 1 bytes

/-- Whether a component has a section whose flash failed the check: no recovery is written to it (R104). -/
def identBad (s : State) (e : CompEntry) : Bool := e.sections.any (fun n => s.bit (Reg.SEC_PORT_STAT n) 6)

/-- The H-port slot last accepted of what a push to 0xFC, 0xFD or 0xFE replaces (R209): 0 A, 1 B; B where it was neither. -/
def lastSlot (s : State) (c : Nat) : Nat :=
  let src := if c = 0xFC then s.upd.fw.consist.getD 2
    else ((s.upd.fw.stages.find? (fun p => p.1 == 0xFF - c)).map (fun p => p.2.src)).getD 2
  if src % 4 = 0 then 0 else 1

/-! ### Unlocking (R340, R376) -/

/-- The UNLOCK request that waits is carried out once the relief core is present: its release commits, its ticket is
used, its answer follows. -/
def unlockTry (s : State) : State :=
  match s.tmp.unlock with
  | none => s
  | some (q, w0, t) =>
    if s.ilk.reliefAbsent then s
    else
      let r := fwCommit { s with tmp := { s.tmp with unlock := none } } [⟨0x07, 0, 0, t, []⟩]
      let s := match ticketSlot r.1 t with
        | some i => useTicket r.1 i 0x50
        | none => r.1
      s.answer q w0 (txStatus r.2) [] true

end Sys2Proof.Machine
end

