-- ==== Sys2Proof/Machine/AttRows.lean ====
section
/-! DEFINITION. The commands of attestation and custody transfer: MCTP control messages and packets, SPDM requests,
vendor operations, downstream peers, and measurement extensions (R296-R313). -/

namespace Sys2Proof.Machine

/-- A message on a transport (0 DOE, 1 VDM, 2 I3C-0, 3 I3C-1, 4 SMBus-0, 5 SMBus-1) reaches the responder: SBOX runs,
and PF0's transports need the link (R296). -/
def attRow (t : Fin 6) (s : State) (f : State → State) : Out :=
  actSettle s (fun s => if domState s 1 = 0 ∧ (2 ≤ t.val ∨ s.bit Reg.HST_LINK 9 = true) then f s else s)

/-- The number of the session that a message is protected under. -/
def sesNat (i : Option Word) : Option Nat := i.map BitVec.toNat

/-! ### MCTP (R296, R298) -/

/-- SET_ENDPOINT_ID (R296). -/
def execSetEndpointId (t : Fin 6) (src eid : Byte) (s : State) : Out :=
  attRow t s (fun s => setEid s t.val src.toNat eid.toNat)

/-- An MCTP control message answered; DOE carries none.
PRESUMED (log entry 51). -/
def mctpControl (t : Fin 6) (src cmd : Nat) (s : State) (data : State → List Byte) : Out :=
  attRow t s (fun s => if t = 0 then s else mctpAnswer s t.val src cmd (data s))

/-- GET_ENDPOINT_ID (R296): the endpoint ID, 0 until one is assigned. -/
def execGetEndpointId (t : Fin 6) (src : Byte) (s : State) : Out :=
  mctpControl t src.toNat 2 s (fun s => leBytes 1 0 ++ leBytes 1 (eidOf s t.val) ++ [0, 0])

/-- GET_MCTP_VERSION_SUPPORT (R296) of a message type: the base protocol, control, and the two types supported. -/
def execGetMctpVersionSupport (t : Fin 6) (src type : Byte) (s : State) : Out :=
  mctpControl t src.toNat 4 s (fun _ =>
    if [0xFF, 0, 5, 6].contains type.toNat then [0, 1, 0xF1, 0xF3, 0xF1, 0] else [0x80, 0])

/-- GET_MESSAGE_TYPE_SUPPORT (R296): SPDM and secured SPDM. -/
def execGetMessageTypeSupport (t : Fin 6) (src : Byte) (s : State) : Out :=
  mctpControl t src.toNat 5 s (fun _ => [0, 2, 5, 6])

/-- MCTP_PACKET (R296, R298). -/
def execMctpPacket (t : Fin 6) (src : Byte) (tag : BitVec 3) (seq : BitVec 2) (sof eof : Bool) (bytes : List Byte)
    (s : State) : Out :=
  attRow t s (fun s => mctpPacket s t.val src.toNat tag.toNat seq.toNat sof eof bytes)

/-! ### SPDM requests (R297-R302). `us` is the time to the response. -/

/-- GET_VERSION (R297). -/
def execGetVersion (t : Fin 6) (eid : Byte) (msg : List Byte) (us : Word) (s : State) : Out :=
  attRow t s (fun s => getVersion s t.val eid.toNat msg us.toNat)

/-- GET_CAPABILITIES (R299). -/
def execGetCapabilities (t : Fin 6) (eid : Byte) (ses : Option Word) (msg : List Byte) (us : Word) (s : State) : Out :=
  attRow t s (fun s => getCapabilities s t.val eid.toNat (sesNat ses) msg us.toNat)

/-- NEGOTIATE_ALGORITHMS (R299); `supported` tells whether the request offers the choices of R299. -/
def execNegotiateAlgorithms (t : Fin 6) (eid : Byte) (ses : Option Word) (msg : List Byte) (supported : Bool) (us : Word)
    (s : State) : Out :=
  attRow t s (fun s => negotiateAlgorithms s t.val eid.toNat (sesNat ses) msg supported us.toNat)

/-- GET_DIGESTS (R299). -/
def execGetDigests (t : Fin 6) (eid : Byte) (ses : Option Word) (msg : List Byte) (us : Word) (s : State) : Out :=
  attRow t s (fun s => getDigests s t.val eid.toNat (sesNat ses) msg us.toNat)

/-- GET_CERTIFICATE (R304). -/
def execGetCertificate (t : Fin 6) (eid : Byte) (ses : Option Word) (msg : List Byte) (us : Word) (s : State) : Out :=
  attRow t s (fun s => getCertificate s t.val eid.toNat (sesNat ses) msg us.toNat)

/-- CHALLENGE (R300). -/
def execChallenge (t : Fin 6) (eid : Byte) (ses : Option Word) (msg : List Byte) (us : Word) (s : State) : Out :=
  attRow t s (fun s => challenge s t.val eid.toNat (sesNat ses) msg us.toNat)

/-- GET_MEASUREMENTS (R307). -/
def execGetMeasurements (t : Fin 6) (eid : Byte) (ses : Option Word) (msg : List Byte) (us : Word) (s : State) : Out :=
  attRow t s (fun s => getMeasurements s t.val eid.toNat (sesNat ses) msg us.toNat)

/-- KEY_EXCHANGE (R299). -/
def execKeyExchange (t : Fin 6) (eid : Byte) (ses : Option Word) (msg : List Byte) (us : Word) (s : State) : Out :=
  attRow t s (fun s => keyExchange s t.val eid.toNat (sesNat ses) msg us.toNat)

/-- FINISH (R299). -/
def execFinish (t : Fin 6) (eid : Byte) (ses : Option Word) (msg : List Byte) (us : Word) (s : State) : Out :=
  attRow t s (fun s => finish s t.val eid.toNat (sesNat ses) msg us.toNat)

/-- HEARTBEAT (R302). -/
def execHeartbeat (t : Fin 6) (eid : Byte) (ses : Option Word) (msg : List Byte) (us : Word) (s : State) : Out :=
  attRow t s (fun s => heartbeat s t.val eid.toNat (sesNat ses) msg us.toNat)

/-- END_SESSION (R302). -/
def execEndSession (t : Fin 6) (eid : Byte) (ses : Option Word) (msg : List Byte) (us : Word) (s : State) : Out :=
  attRow t s (fun s => endSessionReq s t.val eid.toNat (sesNat ses) msg us.toNat)

/-- The EPOCH transaction of an import that waits (R258, R311): it commits, waits on, or is refused.
DEDUCED (log entry 53). -/
def importCommit (s : State) : State :=
  match s.att.importing with
  | none => s
  | some (t, e, h) =>
    match objectOf s t e h with
    | none => { s with att := { s.att with importing := none } }
    | some o =>
      let r := fwCommit s [⟨0x06, 0, 1, 0, importEntry s o.bytes⟩]
      if r.2 = 0 then
        importFinish (ldgLog r.1 Ev.EPOCH_COMMITTED (leBytes 8 (ldgEpoch r.1) ++ (ldgRoot r.1).take 28))
      else if r.2 = 0x01 ∨ r.2 = 0x14 then r.1
      else
        let s := attLog { r.1 with att := { r.1.att with importing := none } } Ev.CUSTODY_REFUSED t
          (leBytes 1 6 ++ [0] ++ leBytes 1 3)
        vendorReady s t e 6 3 h 0

/-- RESPOND_IF_READY (R300): an import that still waits for its commit tries again first. -/
def execRespondIfReady (t : Fin 6) (eid : Byte) (ses : Option Word) (msg : List Byte) (us : Word) (s : State) : Out :=
  attRow t s (fun s => respondIfReady (importCommit s) t.val eid.toNat (sesNat ses) msg us.toNat)

/-- SESSION_TIMEOUT (R302).
DESIGN CHOICE (log entry 2). -/
def execSessionTimeout (id : Word) (s : State) : Out := actSettle s (fun s => endSession s id.toNat 1)

/-- SECURED_MESSAGE (R298, R302): the ciphertext and the length its record declares. The request inside is a command of
its own. -/
def execSecuredMessage (t : Fin 6) (eid : Byte) (id : Word) (declared : Nat) (cipher : List Byte) (s : State) : Out :=
  attRow t s (fun s => securedMessage s t.val eid.toNat id.toNat declared cipher)

/-- PREPARED_RESPONSE_EXPIRY (R300). -/
def execPreparedResponseExpiry (t : Fin 6) (eid : Byte) (s : State) : Out :=
  actSettle s (fun s => mapCtx s t.val eid.toNat (fun c => { c with prepared := none }))

/-! ### Vendor operations (R308-R311) -/

/-- GET_PQC_CHAIN (R308). -/
def execGetPqcChain (t : Fin 6) (eid : Byte) (ses : Option Word) (msg : List Byte) (us : Word) (s : State) : Out :=
  attRow t s (fun s => getPqcChain s t.val eid.toNat (sesNat ses) msg us.toNat)

/-- PQC_ATTEST (R308). -/
def execPqcAttest (t : Fin 6) (eid : Byte) (ses : Option Word) (msg : List Byte) (us : Word) (s : State) : Out :=
  attRow t s (fun s => pqcAttest s t.val eid.toNat (sesNat ses) msg us.toNat)

/-- GET_REPORT (R308). -/
def execGetReport (t : Fin 6) (eid : Byte) (ses : Option Word) (msg : List Byte) (us : Word) (s : State) : Out :=
  attRow t s (fun s => getReport s t.val eid.toNat (sesNat ses) msg us.toNat)

/-- CUSTODY_EXPORT (R311). -/
def execCustodyExport (t : Fin 6) (eid : Byte) (ses : Option Word) (msg : List Byte) (us : Word) (s : State) : Out :=
  attRow t s (fun s => custodyExport s t.val eid.toNat (sesNat ses) msg us.toNat)

/-- PUT_OBJECT (R308). -/
def execPutObject (t : Fin 6) (eid : Byte) (ses : Option Word) (msg : List Byte) (us : Word) (s : State) : Out :=
  attRow t s (fun s => putObjectReq s t.val eid.toNat (sesNat ses) msg us.toNat)

/-- CUSTODY_IMPORT (R311): the checks, then the EPOCH transaction. -/
def execCustodyImport (t : Fin 6) (eid : Byte) (ses : Option Word) (msg : List Byte) (us : Word) (s : State) : Out :=
  attRow t s (fun s => importCommit (custodyImport s t.val eid.toNat (sesNat ses) msg us.toNat))

/-- GET_OBJECT (R308). -/
def execGetObject (t : Fin 6) (eid : Byte) (ses : Option Word) (msg : List Byte) (us : Word) (s : State) : Out :=
  attRow t s (fun s => getObject s t.val eid.toNat (sesNat ses) msg us.toNat)

/-- RELEASE_OBJECT (R309). -/
def execReleaseObject (t : Fin 6) (eid : Byte) (ses : Option Word) (msg : List Byte) (us : Word) (s : State) : Out :=
  attRow t s (fun s => releaseObject s t.val eid.toNat (sesNat ses) msg us.toNat)

/-- OBJECT_BUFFER_TIMEOUT (R309). -/
def execObjectBufferTimeout (handle : BitVec 16) (s : State) : Out := actSettle s (fun s => freeObject s handle.toNat)

/-! ### Downstream peers (R312) -/

/-- DS_SET and DS_REFRESH are accepted from PF0 and I3C-0. -/
def mayDs (q : Sender) : Bool := q == .inst 0 || q == .agent 0

/-- Whether a downstream entry is well formed. -/
def dsOk (b : List Byte) : Bool :=
  b.length == 64 && (leAt b 0 1 == 2 || leAt b 0 1 == 3) && decide (leAt b 1 1 < 128) &&
    (decide (leAt b 3 1 < 64) || leAt b 3 1 == 0xFF) && decide (leAt b 4 1 < 4) && leAt b 5 3 == 0 && leAt b 12 4 == 0

/-- An entry of the downstream table set: its value is zero until a refresh, which an enabled peer awaits
(pending); a refresh in progress stops.
DEDUCED (log entry 53). -/
def dsPut (s : State) (d : Nat) (b : List Byte) : State :=
  let s := dropRefresh (refreshAnswer s d 3) d
  let s := { s with att := { s.att with ds := s.att.ds.filter (fun p => p.1 != d) ++ [(d, b)] } }
  (setDsVal s d (List.replicate 48 0)).wr (Reg.ATT_DS_STAT d) (BitVec.ofNat 32 (leAt b 4 1 % 2))

/-- DS_SET (R312): `entry` is what the read at the host address brings. -/
def execDsSet (q : Sender) (tag : Byte) (d : BitVec 16) (addr : Dword) (entry : HostRead) (kind : Fin 4) (s : State) :
    Out :=
  request (.dsSet q tag d addr entry kind) 0x70 q s (fun s =>
    let w0 := 0x70 + d.toNat * 2 ^ 8 + tag.toNat * 2 ^ 24
    if mayDs q = false then s.answer q w0 1 [] true
    else if 16 ≤ d.toNat then s.answer q w0 6 [] true
    else match entry with
      | none => readFailed s q w0 addr.toNat kind.val
      | some b => if dsOk b then (dsPut s d.toNat b).answer q w0 0 [] true else s.answer q w0 6 [] true)

/-- Whether peer `d` is listed and enabled. -/
def dsEnabled (s : State) (d : Nat) : Bool := (dsEntry s d).any (fun b => bitOf (leAt b 4 1) 0)

/-- DS_REFRESH (R312): of a requester, or of the period timer. -/
def execDsRefresh (q : Option Sender) (tag : Byte) (d : BitVec 16) (s : State) : Out :=
  match q with
  | none => actSettle s (fun s =>
      if domState s 1 = 0 ∧ dsEnabled s d.toNat = true ∧ (refreshOf s d.toNat).isNone = true ∧ d.toNat < 16 ∧
         (dsEntry s d.toNat).any (fun b => leAt b 8 4 != 0) = true
      then refreshBegin s d.toNat none else s)
  | some q => request (.dsRefresh q tag d) 0x71 q s (fun s =>
      let w0 := 0x71 + d.toNat * 2 ^ 8 + tag.toNat * 2 ^ 24
      if mayDs q = false then s.answer q w0 1 [] true
      else if 16 ≤ d.toNat then s.answer q w0 6 [] true
      else if dsEnabled s d.toNat = false then s.answer q w0 3 [] true
      else if (refreshOf s d.toNat).isSome then s.answer q w0 2 [] true
      else refreshBegin (s.answer q w0 7 [] false) d.toNat (some (q, w0)))

/-- A refresh of peer `d` fails at a step, and its component is held where the entry says so (R312).
DESIGN CHOICE (log entry 52). -/
def peerFails (s : State) (d step err : Nat) : State :=
  let s := refreshFail s d step err
  match (dsHolds s d).bind (compEntry s) with
  | some e => (fwCommit s (holdRecs e.holds true)).1
  | none => s

/-- The refresh of peer `d` goes on with step `k`.
DESIGN CHOICE (log entry 52). -/
def peerStep (s : State) (d k : Nat) (chain vca : List Byte) : State :=
  let up (r : Refresh) : Refresh := if r.peer = d then { r with step := k, retries := 0, chain := chain, vca := vca } else r
  dsSend { s with att := { s.att with refresh := s.att.refresh.map up } } d k

/-- A peer's answer to the step of its refresh (R312): the algorithms it selected, its chain with the root hash that the
entry expects, its signed measurements.
DESIGN CHOICE (log entry 52). -/
def peerAnswer (s : State) (d : Nat) (r : Refresh) (en msg : List Byte) : State :=
  let code := leAt msg 1 1
  if code = 0x7F then peerFails s d r.step (leAt msg 2 1)
  else if r.step = 1 then
    if code = 0x63 ∧ bitOf (leAt msg 12 4) 7 = true ∧ bitOf (leAt msg 16 4) 1 = true then peerStep s d 2 [] msg else peerFails s d 1 0
  else if r.step = 2 then
    if code = 0x02 ∧ (msg.drop 12).take 48 = (en.drop 16).take 48 then peerStep s d 3 (msg.drop 8) r.vca else peerFails s d 2 0
  else
    let body := msg.take (msg.length - 96)
    let dig := spdmDigest 0x12 "responder-measurements signing" (r.vca ++ [0x12, 0xE0] ++ r.req ++ body)
    if code ≠ 0x60 ∨ msg.length < 96 then peerFails s d 3 0
    else match Config.peerKey r.chain with
      | none => peerFails s d 4 0
      | some k => if verifySig 1 k dig (msg.drop (msg.length - 96)) then refreshOk s d msg else peerFails s d 4 0

/-- DOWNSTREAM_RESPONSE (R312): a peer's SPDM response arrives during a refresh. -/
def execDownstreamResponse (d : Fin 16) (msg : List Byte) (s : State) : Out :=
  actSettle s (fun s => match refreshOf s d.val, dsEntry s d.val with
    | some r, some en => if domState s 1 = 0 then peerAnswer s d.val r en msg else s
    | _, _ => s)

/-- DOWNSTREAM_RESPONSE_TIMEOUT (R312): the request is retried twice, then the refresh fails. -/
def execDownstreamResponseTimeout (d : Fin 16) (s : State) : Out :=
  actSettle s (fun s => match refreshOf s d.val with
    | none => s
    | some r =>
      if domState s 1 ≠ 0 then s
      else if r.retries < 2 then
        let up (x : Refresh) : Refresh := if x.peer = d.val then { x with retries := x.retries + 1 } else x
        dsSend { s with att := { s.att with refresh := s.att.refresh.map up } } d.val r.step
      else peerFails s d.val r.step 0)

/-- MREG_EXTENDED (R306): the accepted extension completes. -/
def execMregExtended (s : State) : Out := actSettle s mregDone

end Sys2Proof.Machine
end

