-- ==== Sys2Proof/Machine/EngOps.lean ====
section
/-! DEFINITION. The engine instructions: digest contexts, streams and DMA, work items, barriers (R48, R51, R56, R59,
R223-R229, R245-R247). -/

namespace Sys2Proof.Machine

/-- Whether a range of engine `e`'s local memory can be loaded (R37). -/
def localLoad (s : State) (e a n : Nat) : Bool :=
  decide (a + n ≤ 0xF800) || (n == 0 && (engSpace s e a != .none))

/-- Whether a range of engine `e`'s local memory can be stored to: the data area (R37). -/
def localStore (s : State) (e a n : Nat) : Bool := decide (codeBytes s (e / 32) ≤ a ∧ a + n ≤ 0xF800)

/-- Bytes of engine `e`'s local memory. -/
def localBytes (s : State) (e a n : Nat) : List Byte := s.rdMemN (engineBase e + a) n

/-- Bytes written to engine `e`'s local memory. -/
def localWrite (s : State) (e a : Nat) (bs : List Byte) : State := s.wrMemN (engineBase e + a) bs

/-- An instruction that only an engine has. -/
def onEngine (p : Proc) (i : Wop) (f : Fin 512 → State → State) (s : State) : State :=
  match p with
  | .engine e => f e s
  | _ => illegal s p i

/-- DIGEST_MISUSE by engine `e`. -/
def digestMisuse (s : State) (e : Fin 512) (i : Wop) : State := raiseExc s (.engine e) 0x0A (wopVal i)

/-- STREAM raised by engine `e`. -/
def streamFault (s : State) (e : Fin 512) (i : Wop) : State := raiseExc s (.engine e) 0x0B (wopVal i)

/-- BUS_ERROR of engine `e` at an address. -/
def engBus (s : State) (e : Fin 512) (a : Nat) : State := raiseExc s (.engine e) 6 (BitVec.ofNat 64 a)

/-! ### Digest contexts (R223-R229) -/

/-- Whether an identifier is one of R215, and whether it is keyed. -/
def knownAlg (a : Nat) : Bool := digestLen a != 0
def keyedAlg (a : Nat) : Bool := decide (0x11 ≤ a)

/-- The key in a slot of a yard's engines; empty where none is loaded. -/
def keyIn (s : State) (y k : Nat) : List Byte := Sparse.get (fun _ => []) (s.yard y).keys k

/-- Whether DINIT refuses its operand (R223). -/
def dinitBad (s : State) (y v : Nat) : Bool :=
  let alg := v % 256
  let slot := bitsOf v 9 8
  !knownAlg alg || bitsOf v 15 10 != 0 || (!keyedAlg alg && slot != 0) ||
    (keyedAlg alg && (keyIn s y slot).isEmpty) || (!bitOf v 16 && v / 2 ^ 17 != 0)

/-- The context that DINIT makes live (R223). -/
def newCtx (s : State) (y v : Nat) : DigestCtx :=
  ⟨v % 256, if keyedAlg (v % 256) then keyIn s y (bitsOf v 9 8) else [],
   if bitOf v 16 then some (v / 2 ^ 17) else none, [], .running, []⟩

/-- The live context of engine `e`, where it is `dc`. -/
def liveCtx (s : State) (e : Nat) (dc : BitVec 2) : Option DigestCtx :=
  match (s.engine e).live with
  | some (k, c) => if k = dc.toNat then some c else none
  | none => none

/-- The unit of engine `e` holds a live context, or none. -/
def setLive (s : State) (e : Nat) (x : Option (Nat × DigestCtx)) : State :=
  s.setEngine e { s.engine e with live := x }

/-- DINIT. -/
def opDinit (p : Proc) (dc : BitVec 2) (ra : RegNo) : State → State :=
  onEngine p (.dinit dc ra) (fun e s =>
    let v := (greg s p ra).toNat
    if dinitBad s (e.val / 32) v then digestMisuse s e (.dinit dc ra)
    else advance (setLive s e.val (some (dc.toNat, newCtx s (e.val / 32) v))) p)

/-- DFEED. -/
def opDfeed (p : Proc) (dc : BitVec 2) (ra rb : RegNo) : State → State :=
  onEngine p (.dfeed dc ra rb) (fun e s =>
    let a := (greg s p ra).toNat
    let n := (greg s p rb).toNat
    match liveCtx s e.val dc with
    | some c =>
      if c.st ≠ .running then digestMisuse s e (.dfeed dc ra rb)
      else if localLoad s e.val a n = false then engBus s e a
      else advance (setLive s e.val (some (dc.toNat, { c with fed := c.fed ++ localBytes s e.val a n }))) p
    | none => digestMisuse s e (.dfeed dc ra rb))

/-- A DFIN published in the result registers of engine `e` (R229): 1 DONE, 2 LENGTH_MISMATCH. -/
def publish (s : State) (e alg dc st : Nat) (digest : List Byte) : State :=
  let y := e / 32
  let l := e % 32
  let seq := (s.fld (Reg.YRD_DSTAT y l) 31 16 + 1) % 65536
  let s := s.wrBytes (Reg.YRD_DRES y l 0) 16 (takePad 64 digest)
  s.wr (Reg.YRD_DSTAT y l) (BitVec.ofNat 32 (alg + dc * 2 ^ 8 + st * 2 ^ 10 + seq * 2 ^ 16))

/-- DFIN (R224, R225). -/
def opDfin (p : Proc) (dc : BitVec 2) (ra : RegNo) : State → State :=
  onEngine p (.dfin dc ra) (fun e s =>
    let a := (greg s p ra).toNat
    match liveCtx s e.val dc with
    | some c =>
      if c.st ≠ .running then digestMisuse s e (.dfin dc ra)
      else if c.declared.all (fun n => n == c.fed.length) = false then
        let s := setLive s e.val (some (dc.toNat, { c with st := .lengthMismatch }))
        advance (publish s e.val c.alg dc.toNat 2 []) p
      else if localStore s e.val a (digestLen c.alg) = false then engBus s e a
      else
        let d := digestOf c.alg c.key c.fed
        let s := setLive s e.val (some (dc.toNat, { c with st := .done, result := d }))
        advance (publish (localWrite s e.val a d) e.val c.alg dc.toNat 1 d) p
    | none => digestMisuse s e (.dfin dc ra))

/-- DCMP (R226). -/
def opDcmp (p : Proc) (rd ra rb : RegNo) (dc : BitVec 2) : State → State :=
  onEngine p (.dcmp rd ra rb dc) (fun e s =>
    let a := (greg s p ra).toNat
    let b := (greg s p rb).toNat
    match liveCtx s e.val dc with
    | some c =>
      let n := digestLen c.alg
      if localLoad s e.val a n = false then engBus s e a
      else if localLoad s e.val b n = false then engBus s e b
      else result s p rd (oneIf (c.st == .done && localBytes s e.val a n == localBytes s e.val b n))
    | none => digestMisuse s e (.dcmp rd ra rb dc))

/-- DSAVE (R227): a running context at a block boundary, or a finished one. -/
def opDsave (p : Proc) (dc : BitVec 2) : State → State :=
  onEngine p (.dsave dc) (fun e s =>
    match liveCtx s e.val dc with
    | some c =>
      if c.st = .running ∧ c.fed.length % blockLen c.alg ≠ 0 then digestMisuse s e (.dsave dc)
      else
        let x := s.engine e.val
        let slots := Sparse.set (fun _ => (none : Option DigestCtx)) x.slots dc.toNat (some c)
        advance (s.setEngine e.val { x with live := none, slots := slots }) p
    | none => digestMisuse s e (.dsave dc))

/-- DLOAD (R227). -/
def opDload (p : Proc) (dc : BitVec 2) : State → State :=
  onEngine p (.dload dc) (fun e s =>
    let x := s.engine e.val
    match Sparse.get (fun _ => (none : Option DigestCtx)) x.slots dc.toNat with
    | some c =>
      let slots := Sparse.set (fun _ => (none : Option DigestCtx)) x.slots dc.toNat none
      advance (s.setEngine e.val { x with live := some (dc.toNat, c), slots := slots }) p
    | none => digestMisuse s e (.dload dc))

/-! ### Streams and DMA (R48, R59, R246) -/

/-- The first of the numbers from `k` on that no tag of the list carries.
DEDUCED (log entry 24). -/
def freeTag (ts : List Tag) : Nat → Nat → Nat
  | 0, k => k
  | fuel + 1, k => if ts.any (fun t => t.id == k) then freeTag ts fuel (k + 1) else k

/-- Whether engine `e` already has 8 tags that have not completed (R59). -/
def tagsFull (s : State) (e : Nat) : Bool :=
  decide (8 ≤ ((s.engine e).tags.filter (fun t => !t.done)).length)

/-- A tag opened: its number goes to rd; the bytes at its destination are free values until SWAIT (R48).
DEDUCED (log entry 24). -/
def openTag (s : State) (p : Proc) (e : Nat) (rd : RegNo) (t : Nat → Tag) : State :=
  let ts := (s.engine e).tags
  let k := freeTag ts ts.length 0
  let x := t k
  let f := s.freeBytes x.len
  let s := if x.dest = 0 then s else localWrite f.2 e x.dest f.1
  let s := s.setEngine e { s.engine e with tags := ts ++ [x] }
  result s p rd (BitVec.ofNat 64 k)

/-- Object bytes digested counted (FIX_BYTES). -/
def countBytes (s : State) (n : Nat) : State :=
  s.wr64 Reg.FIX_BYTES_LO Reg.FIX_BYTES_HI (s.rd64 Reg.FIX_BYTES_LO Reg.FIX_BYTES_HI + n)

/-- The item in engine `e`'s hands ends with READ_ERROR (R284). -/
def itemReadError (s : State) (e : Nat) : State :=
  match (s.engine e).item with
  | none => s
  | some i =>
    let t := s.setEngine e { s.engine e with item := none }
    wakeFreed s (syncFix (if i.dropped then t
      else fixComplete t i.wb (if i.cancelled then 0x13 else 0x12) 0 i.streamed noSegment (b2n i.cancelled) e))

/-- The bytes that the stream of an item still has (R59, R230, R288): none of a cancelled one. -/
def streamLeft (i : WorkItem) : Nat := if i.cancelled || i.dropped then 0 else objectBytes i.wb.list - i.streamed

/-- The host address that the stream of an item reads next. -/
def streamAddr (i : WorkItem) : Nat := objectAddr i.wb.list i.streamed

/-- SREAD (R59): a ninth outstanding tag makes the engine wait, its state unchanged; so does a function that issues no
DMA (R270, R276). A slice's read while PASID Enable is 0 is a DMA error.
DEDUCED (log entry 24). -/
def opSread (p : Proc) (rd ra rb : RegNo) : State → State :=
  onEngine p (.sread rd ra rb) (fun e s =>
    let a := (greg s p ra).toNat
    let n := (greg s p rb).toNat
    match (s.engine e.val).item with
    | none => streamFault s e (.sread rd ra rb)
    | some i =>
      if n % 64 ≠ 0 ∨ 16384 < n then streamFault s e (.sread rd ra rb)
      else if localStore s e.val a n = false then engBus s e a
      else if tagsFull s e.val then s
      else
        let k := min n (streamLeft i)
        let o := i.wb.owner.getD 0
        let host := k != 0 && !i.dropped
        if host = true ∧ dmaIssues s o = false then s
        else
          let bad := host && dmaFails s o
          let s := s.setEngine e.val { s.engine e.val with item := some { i with streamed := i.streamed + k } }
          let s := openTag s p e.val rd (fun id => ⟨id, true, a, k, true, bad, bad, [], streamAddr i⟩)
          if bad then itemReadError (dmaErrorEvent s o (streamAddr i) 0 5) e.val else s)

/-- A descriptor of DMA (R246) taken apart. -/
structure DmaDesc where
  remote : Nat
  lcl : Nat
  len : Nat
  out : Bool
  space : Nat
  ok : Bool
deriving DecidableEq, Repr

/-- The descriptor in 16 bytes, with whether it keeps to its table. -/
def dmaDesc (bs : List Byte) : DmaDesc :=
  let lcl := leAt bs 8 2
  let len := leAt bs 10 2
  let c := leAt bs 12 1
  ⟨leAt bs 0 8, lcl, len, bitOf c 0, bitsOf c 2 1,
   lcl % 8 == 0 && decide (8 ≤ len ∧ len ≤ 16384) && len % 8 == 0 && bitsOf c 2 1 != 3 && bitsOf c 7 3 == 0 &&
     leAt bs 13 3 == 0⟩

/-- Whether two ranges of bytes meet. -/
def meets (a n b m : Nat) : Bool := decide (a < b + m ∧ b < a + n)

/-- The bytes of the ledger's tree area (R253). -/
def treeBytes (s : State) : Nat := 512 * ((List.range 8).map (nodeCount (ldgPages s))).sum

/-- Whether a host range touches the ledger's areas while it is not CLOSED (R246, R253). -/
def touchesLedger (s : State) (a n : Nat) : Bool :=
  ldgState s != 0 && (meets a n (leafAddr s 0) (4096 * ldgPages s) || meets a n (nodeAddr s 0 0) (treeBytes s))

/-- Whether the remote side of a descriptor is allowed (R37, R246, R255).
DEDUCED (log entry 24). -/
def dmaRemoteOk (s : State) (e : Nat) (i : WorkItem) (d : DmaDesc) : Bool :=
  match d.space with
  | 0 => (segArea i.wb.list).any (fun g => decide (g.addr ≤ d.remote ∧ d.remote + d.len ≤ g.addr + g.len)) &&
    !touchesLedger s d.remote d.len
  | 1 => decide (0x04000000 ≤ d.remote ∧ d.remote + d.len ≤ 0x05000000) &&
    !(ldgState s != 0 && meets d.remote d.len (sharedBase (s.fld Reg.LDG_CTL 3 0) + 0x80000) 0x80000)
  | _ => decide (0x08000000 ≤ d.remote ∧ d.remote + d.len ≤ 0x0A000000) && !meets d.remote d.len (engineBase e) 0x10000

/-- Whether the internal memory of a transfer answers (R405): an error answer ends it. -/
def dmaAnswers (s : State) (d : DmaDesc) : Bool :=
  d.space == 0 || ((List.range d.len).all (fun k => mapAnswers s (if d.out then .store else .load) (d.remote + k)))

/-- A transfer in progress: what leaves local memory is written at once; what comes is held until SWAIT. -/
def dmaStart (s : State) (e : Nat) (i : WorkItem) (d : DmaDesc) : State × List Byte :=
  if dmaAnswers s d = false then (s, [])
  else if d.out then
    let bs := localBytes s e d.lcl d.len
    if d.space = 0 then (instWrite s (i.wb.owner.getD 0) d.remote bs, [])
    else (s.wrMemN d.remote bs, [])
  else if d.space = 0 then (s, [])
  else (s, mapBytes s d.remote d.len)

/-- DMA (R246). A cancelled item's host reads bring nothing.
DEDUCED (log entry 24). -/
def opDma (p : Proc) (rd ra : RegNo) : State → State :=
  onEngine p (.dma rd ra) (fun e s =>
    let a := (greg s p ra).toNat
    match (s.engine e.val).item with
    | none => streamFault s e (.dma rd ra)
    | some i =>
      if localLoad s e.val a 16 = false then engBus s e a
      else
        let d := dmaDesc (localBytes s e.val a 16)
        let here := if d.out then localLoad s e.val d.lcl d.len else localStore s e.val d.lcl d.len
        if d.ok = false ∨ here = false ∨ dmaRemoteOk s e.val i d = false then engBus s e d.remote
        else if tagsFull s e.val = true ∨ (d.space = 0 ∧ dmaIssues s (i.wb.owner.getD 0) = false) then s
        else
          let o := i.wb.owner.getD 0
          let off := d.space == 0 && dmaFails s o
          let r := if off then (dmaErrorEvent s o d.remote 0 5, []) else dmaStart s e.val i d
          let bad := !dmaAnswers s d || off
          openTag r.1 p e.val rd (fun id =>
            ⟨id, false, if d.out then 0 else d.lcl, d.len, d.space == 0 && !d.out, off, bad, r.2, d.remote⟩))

/-- SWAIT (R48): it waits, the state unchanged, until the tag has completed; then the bytes stand in local memory.
DEDUCED (log entry 24). -/
def opSwait (p : Proc) (rd ra : RegNo) : State → State :=
  onEngine p (.swait rd ra) (fun e s =>
    let k := (greg s p ra).toNat
    match (s.engine e.val).tags.find? (fun t => t.id == k) with
    | none => streamFault s e (.swait rd ra)
    | some t =>
      if t.done = false then s
      else if t.failed then engBus s e t.dest
      else
        let s := if t.dest = 0 then s else localWrite s e.val t.dest (t.data.take t.len)
        let x := s.engine e.val
        let s := s.setEngine e.val { x with tags := x.tags.filter (fun u => u.id != k) }
        result s p rd (BitVec.ofNat 64 (if t.dest = 0 then t.len else min t.data.length t.len)))

/-- Whether a host write of engine `e` still waits for room on its instance's dirty ring (R292). -/
def writeWaits (s : State) (e : Nat) (t : Tag) : Bool :=
  !t.fromHost && t.dest == 0 && ((s.engine e).item.bind (fun i => i.wb.owner)).any (fun n =>
    (s.inst n).blocked.any (fun b => b.1 == t.addr && b.2.length == t.len))

/-- Tag `k` of engine `e` completes with what the host brought, or ends with an error (R48, R246, R284): `kind` says
how the host answered.
DEDUCED (log entry 24). -/
def transferDone (s : State) (e k : Nat) (data : HostRead) (kind : Nat) : State :=
  match (s.engine e).tags.find? (fun t => t.id == k && !t.done) with
  | none => s
  | some t =>
   if writeWaits s e t then s
   else
    let fails := t.failed || (t.fromHost && data.isNone)
    let bs := if t.fromHost then takePad t.len (data.getD []) else t.data
    let x := s.engine e
    let ts := x.tags.map (fun u => if u.id = k then { t with done := true, failed := fails, data := bs } else u)
    let s := s.setEngine e { x with tags := ts }
    if t.fromHost = false then s
    else if fails then
      let n := ((x.item.bind (fun i => i.wb.owner))).getD 0
      let s := dmaErrorEvent s n t.addr kind 5
      if t.stream then itemReadError s e else s
    else if t.stream then countBytes s t.len else s

/-! ### Work items (R245, R247) -/

/-- WBTAKE (R56, R245). An engine with an item in its hands takes none.
DEDUCED (log entries 22, 25). -/
def opWbtake (p : Proc) (rd ra : RegNo) : State → State :=
  onEngine p (.wbtake rd ra) (fun e s =>
    let a := (greg s p ra).toNat
    if localStore s e.val a 544 = false then engBus s e a
    else
      let s := s.setEngine e.val { s.engine e.val with wake := false }
      match (if (s.engine e.val).item.isSome then none else takeItem s e.val) with
      | none => result s p rd 0
      | some w =>
        let s := localWrite (dispatched s w) e.val a (itemBytes w)
        let s := s.setEngine e.val { s.engine e.val with item := some { wb := w, streamed := 0, cancelled := false, dropped := false } }
        result (syncFix s) p rd 1)

/-- WBDONE (R247): ra is the address of WP_CMPL; WP_RESULT and WP_RESULT_B stand 0x80 and 0x40 before it.
DEDUCED (log entry 25). -/
def opWbdone (p : Proc) (ra : RegNo) : State → State :=
  onEngine p (.wbdone ra) (fun e s =>
    let a := (greg s p ra).toNat
    match (s.engine e.val).item with
    | none => streamFault s e (.wbdone ra)
    | some i =>
      if a < 0x80 ∨ localLoad s e.val (a - 0x80) 0xA0 = false then engBus s e a
      else
        let b := localBytes s e.val (a - 0x80) 0xA0
        let t := s.setEngine e.val { s.engine e.val with item := none }
        advance (wakeFreed s (syncFix (fixDone t e.val i (b.take 64) ((b.drop 64).take 64) (b.drop 128)))) p)

/-! ### Barriers (R51, R52) -/

/-- BAR.Y. -/
def opBarY (p : Proc) (rd : RegNo) : State → State :=
  onEngine p (.barY rd) (fun e s => barrierY (advance s p) e.val rd)

/-- BAR.G. -/
def opBarG (p : Proc) (rd : RegNo) : State → State :=
  onEngine p (.barG rd) (fun e s => barrierG (advance s p) e.val rd)

end Sys2Proof.Machine
end

