-- ==== Sys2Proof/Machine/TxOps.lean ====
section
/-! DEFINITION. The transaction and vote instructions of the logical cores (R60-R73, R387). -/

namespace Sys2Proof.Machine

/-- An instruction that only a logical core has. -/
def onCore (p : Proc) (i : Wop) (f : Fin 2 → State → State) (s : State) : State :=
  match p with
  | .core c => f c s
  | _ => illegal s p i

/-- The handle that an operand names: the number itself, or TOPEN's 0x100 | handle (R61).
DEDUCED (log entry 27). -/
def handleOf (v : Dword) : Option Nat :=
  if v.toNat < 256 then some v.toNat else if v.toNat / 256 = 1 then some (v.toNat % 256) else none

/-- The handle of an operand, where core `c` owns it (R62). -/
def ownHandle (c : Fin 2) (v : Dword) : Option Nat := (handleOf v).filter (ownsHandle c)

/-- 0x0208 BAD_HANDLE (R62). -/
def badHandle (s : State) (c : Fin 2) (v : Dword) : State := s.log Ev.BAD_HANDLE (.lc c) (v.toNat % 256) []

/-- TOPEN (R61). -/
def opTopen (p : Proc) (rd : RegNo) : State → State :=
  onCore p (.topen rd) (fun c s =>
    match [2 * c.val, 2 * c.val + 1].find? (fun h => (s.handle h).state == .free) with
    | some h =>
      let x : Handle := { state := .opened, lastStatus := (s.handle h).lastStatus, relief := c != s.duty }
      result (s.setHandle h x) p rd (BitVec.ofNat 64 (0x100 + h))
    | none => result s p rd 0x10)

/-! ### TPUT (R63, R65, R66, R76) -/

/-- The payload length that a kind's record carries (R66); 0 for none. -/
def payloadLen (kind operand : Nat) : Nat :=
  match kind with
  | 0x03 => 48
  | 0x04 => 192
  | 0x06 => 64
  | 0x07 => if operand = 1 then 64 else 0
  | _ => 0

/-- The highest target of a kind (R66); none for an unassigned kind. -/
def targetMax : Nat → Option Nat
  | 0x01 => some 2
  | 0x02 => some 31
  | 0x03 => some 31
  | 0x04 => some 63
  | 0x05 => some 2
  | 0x06 => some 0
  | 0x07 => some 0
  | 0x08 => some 63
  | 0x09 => some 0
  | 0x0E => some 65535
  | 0x0F => some 3
  | _ => none

/-- Whether a number is an identity that a binding word may name (R314). -/
def bindIdentity (i : Nat) : Bool := decide (0x28 ≤ i ∧ i ≤ 0x2B) || i == sbIdentity

/-- Whether a binding word is one (R314).
DEDUCED (log entry 27). -/
def bindWordOk (w : Nat) : Bool :=
  bitsOf w 31 14 == 0 &&
    (!bitOf w 12 || (bindIdentity (bitsOf w 5 0) && bindIdentity (bitsOf w 11 6) && bitsOf w 5 0 != bitsOf w 11 6))

/-- Whether the operand of a kind keeps to its fields (R65, R66).
DEDUCED (log entry 27). -/
def operandOk (kind v : Nat) : Bool :=
  match kind with
  | 0x01 => (v / 2 ^ 32) &&& (v % 2 ^ 32) == v / 2 ^ 32
  | 0x02 => decide (v ≤ 2)
  | 0x03 => v == 0
  | 0x04 => decide (v < 2 ^ 32)
  | 0x05 => decide (v < 2 ^ 32)
  | 0x06 => true
  | 0x07 => decide (v ≤ 1)
  | 0x08 => decide (v < 2 ^ 32) && bindWordOk v
  | 0x09 => v == 0
  | 0x0E => decide (v ≤ 5)
  | 0x0F => decide (v ≤ 1)
  | _ => false

/-- Whether operand 2 is allowed (R65). -/
def operand2Ok (kind operand v : Nat) : Bool :=
  kind == 0x0E || (kind == 0x07 && operand == 0 && decide (v < 2 ^ 32)) || v == 0

/-- Whether the record of 32 bytes `b` at `a` in core `c`'s hands is well formed (R65). -/
def recordOk (c : Fin 2) (a : Nat) (b : List Byte) : Bool :=
  let kind := leAt b 0 1
  let operand := leAt b 8 8
  let len := leAt b 4 4
  let pa := leAt b 16 8
  a % 8 == 0 && inOwn c a 32 && leAt b 1 1 == 0 && (targetMax kind).any (fun m => decide (leAt b 2 2 ≤ m)) &&
    len == payloadLen kind operand && (if len = 0 then pa == 0 else pa % 8 == 0 && inOwn c pa len) &&
    operandOk kind operand && operand2Ok kind operand (leAt b 24 8)

/-- The record as the Interlocking copies it; a LOCKDOWN set carries the record it forms itself (R66, R337). -/
def takeRecord (s : State) (b : List Byte) : ActRec :=
  let kind := leAt b 0 1
  let operand := leAt b 8 8
  let payload := if kind = 0x07 ∧ operand = 1 then lockdownRecord s else s.rdMemN (leAt b 16 8) (leAt b 4 4)
  ⟨kind, leAt b 2 2, operand, leAt b 24 8, payload⟩

/-- Whether a transaction is within its size (R63, R76). -/
def sizeOk (rs : List ActRec) : Bool :=
  decide ((rs.filter ActRec.isAction).length ≤ 256) && decide ((rs.map (fun r => r.payload.length)).sum ≤ 32768) &&
    (!journaledRecs rs || decide (entryBlocks rs ≤ 120))

/-- A record put into handle `h` (R63): copied and checked, or its error held. -/
def putRecord (s : State) (c : Fin 2) (h a : Nat) : State :=
  let x := s.handle h
  if x.held.isSome then s
  else
    let i := x.recs.length
    let b := if inOwn c a 32 then s.rdMemN a 32 else []
    if recordOk c a b = false then s.setHandle h { x with held := some (0x13, i) }
    else
      let rs := x.recs ++ [takeRecord s b]
      if sizeOk rs then s.setHandle h { x with recs := rs }
      else s.setHandle h { x with held := some (0x12, i) }

/-- TPUT (R61-R63). -/
def opTput (p : Proc) (ra rb : RegNo) : State → State :=
  onCore p (.tput ra rb) (fun c s =>
    let v := greg s p ra
    let a := (greg s p rb).toNat
    match (ownHandle c v).filter (fun h => (s.handle h).state == .opened) with
    | some h => advance (putRecord s c h a) p
    | none => advance (badHandle s c v) p)

/-! ### TCOMMIT (R64, R69-R73) -/

/-- The index of the first VOTE record after the first record. -/
def strayVote (rs : List ActRec) : Option Nat :=
  ((List.range rs.length).find? (fun i => decide (1 ≤ i) && ((rs[i]?).map (fun r => r.kind == 0x0F)).getD false))

/-- What is wrong with the shape of a voted transaction (R70), as the index of the record; `relief` that the relief core
opened it.
DEDUCED (log entry 27). -/
def voteShape (relief : Bool) (rs : List ActRec) : Option Nat :=
  match mirrorOf rs with
  | some _ => if relief then strayVote rs else some 0
  | none =>
    if relief = true ∨ (rs.head?.map (fun r => r.kind)).getD 0 ≠ 0x0E then some 0 else strayVote rs

/-- The handle that waits for handle `h` to complete the pair (R71): its principal, or its mirror. -/
def pairOf (s : State) (c : Fin 2) (h : Nat) : Option Nat :=
  let others := [2 * (other c).val, 2 * (other c).val + 1]
  match mirrorOf (s.handle h).recs with
  | some k => others.find? (fun o => o == k && (s.handle o).state == .armed)
  | none => others.find? (fun o => (s.handle o).state == .lodged && mirrorOf (s.handle o).recs == some h)

/-- The core stalls in its TCOMMIT of handle `h`; the outcome will reach its rd (R64). -/
def stallIn (s : State) (c : Fin 2) (rd : RegNo) (h : Nat) : State :=
  s.setCore c { s.core c with run := .stalled rd h }

/-- A transaction goes into service and is served at once where none is ahead of it (R69, R73). -/
def serveNow (s : State) (h : Nat) : State :=
  let s := enterService s h
  if s.ilk.queue = [h] ∧ lineLocked s = true then serveFront s else s

/-- The second TCOMMIT of a pair resolves principal `h` and mirror `m` (R71). -/
def resolvePair (s : State) (h m : Nat) : State :=
  match voteStatus s h m with
  | some st => voteFailed s (some h) (some m) st
  | none =>
    let s := s.setHandle m { s.handle m with state := .service, partner := some h }
    let s := s.setHandle h { s.handle h with state := .service, partner := some m }
    serveNow (syncArm s .interlocking) h

/-- The first TCOMMIT of a pair waits (R71): ARMED for the principal, LODGED for the mirror. last_status keeps what it
showed: R64 does not say whether ARMED, LODGED and JOURNAL_BUSY show there.
DESIGN CHOICE (log entry 84). -/
def waitVote (s : State) (p : Proc) (rd : RegNo) (h : Nat) (mirror : Bool) : State :=
  let s := s.setHandle h { s.handle h with state := if mirror then .lodged else .armed }
  result (syncArm s .interlocking) p rd (if mirror then 2 else 1)

/-- TCOMMIT of an OPEN handle (R64): the held error, EMPTY, the shape of a voted transaction, POWER_FAIL and
JOURNAL_BUSY, where the entries in service ahead count (R78), before it is armed, lodged or put into service.
DEDUCED (log entry 27). -/
def commitOpen (s : State) (p : Proc) (c : Fin 2) (rd : RegNo) (h : Nat) : State :=
  let x := s.handle h
  let abort (st i : Nat) : State := abortTx (stallIn s c rd h) [h] x.recs st i .interlocking
  match x.held with
  | some (st, i) => abort st i
  | none =>
    if x.recs.any ActRec.isAction = false then abort 0x15 0x1FF
    else match (if votedRecs x.recs then voteShape x.relief x.recs else none) with
      | some i => abort 0x13 i
      | none =>
        if journaledRecs x.recs = true ∧ powerFailing s = true then abort 0x25 0x1FF
        else if journaledRecs x.recs = true ∧ s.ilk.journal.space < queuedBlocks s + entryBlocks x.recs then
          result s p rd 0x14
        else if votedRecs x.recs = false then serveNow (stallIn s c rd h) h
        else match pairOf s c h with
          | none => waitVote s p rd h (mirrorOf x.recs).isSome
          | some k =>
            let s := stallIn s c rd h
            if (mirrorOf x.recs).isSome then resolvePair s k h else resolvePair s h k

/-- TCOMMIT (R62, R64). It waits until PLL_LINE has locked (R400).
DEDUCED (log entry 27). -/
def opTcommit (p : Proc) (rd ra : RegNo) : State → State :=
  onCore p (.tcommit rd ra) (fun c s =>
    if lineLocked s = false then s
    else match (ownHandle c (greg s p ra)).filter (fun h => (s.handle h).state == .opened) with
    | some h => commitOpen s p c rd h
    | none => result s p rd 0x11)

/-- TDROP (R62, R73). -/
def opTdrop (p : Proc) (ra : RegNo) : State → State :=
  onCore p (.tdrop ra) (fun c s =>
    let v := greg s p ra
    match ownHandle c v with
    | none => advance (badHandle s c v) p
    | some h => match (s.handle h).state with
      | .opened => advance (dropHandle s h (partnerOf s h) 0 false) p
      | .armed => advance (dropWith s h 0 false) p
      | .lodged => advance (dropWith s h 0 false) p
      | _ => advance (badHandle s c v) p)

/-! ### Power votes (R387) -/

/-- PVSET and PVCLR: bit rb[4:0] of the domain in ra[7:0]. -/
def opPvote (on : Bool) (i : Wop) (p : Proc) (ra rb : RegNo) : State → State :=
  onCore p i (fun c s =>
    fwVote (advance s p) c ((greg s p ra).toNat % 256) ((greg s p rb).toNat % 32) on)

end Sys2Proof.Machine
end

