-- ==== Sys2Proof/Machine/DebugRows.lean ====
section
/-! DEFINITION. Debug halt, step and resume (R378). -/

namespace Sys2Proof.Machine

/-- The effect of an instruction that a logical core or an engine has; one that it lacks is ILLEGAL before this. -/
def procBody (p : Proc) : Wop → State → State
  | .add rd ra rb => opRR (· + ·) p rd ra rb
  | .sub rd ra rb => opRR (· - ·) p rd ra rb
  | .and rd ra rb => opRR (· &&& ·) p rd ra rb
  | .or rd ra rb => opRR (· ||| ·) p rd ra rb
  | .xor rd ra rb => opRR (· ^^^ ·) p rd ra rb
  | .shl rd ra rb => opRR shlBy p rd ra rb
  | .shr rd ra rb => opRR shrBy p rd ra rb
  | .sar rd ra rb => opRR sarBy p rd ra rb
  | .slt rd ra rb => opRR (fun x y => oneIf (ltS x y)) p rd ra rb
  | .sltu rd ra rb => opRR (fun x y => oneIf (ltU x y)) p rd ra rb
  | .mul rd ra rb => opRR (· * ·) p rd ra rb
  | .mulhu rd ra rb => opRR mulHigh p rd ra rb
  | .divu rd ra rb => opRR divBy p rd ra rb
  | .remu rd ra rb => opRR remBy p rd ra rb
  | .amoadd rd ra rb => opAmoadd p rd ra rb
  | .amoswap rd ra rb => opAmoswap p rd ra rb
  | .cas rd ra rb => opCas p rd ra rb
  | .addi rd ra imm => opRI (· + ·) sext16 p rd ra imm
  | .andi rd ra imm => opRI (· &&& ·) zext16 p rd ra imm
  | .ori rd ra imm => opRI (· ||| ·) zext16 p rd ra imm
  | .xori rd ra imm => opRI (· ^^^ ·) zext16 p rd ra imm
  | .slti rd ra imm => opRI (fun x y => oneIf (ltS x y)) sext16 p rd ra imm
  | .sltui rd ra imm => opRI (fun x y => oneIf (ltU x y)) sext16 p rd ra imm
  | .jr rd ra imm => opJr p rd ra imm
  | .shli rd ra n => opRN shlBy p rd ra n
  | .shri rd ra n => opRN shrBy p rd ra n
  | .sari rd ra n => opRN sarBy p rd ra n
  | .seth rd hw imm => opSeth p rd hw imm
  | .insh rd hw imm => opInsh p rd hw imm
  | .extr rd ra pos lenM1 => opExtr p rd ra pos lenM1
  | .ldb rd ra imm => opLoad 1 p rd ra imm
  | .ldh rd ra imm => opLoad 2 p rd ra imm
  | .ldw rd ra imm => opLoad 4 p rd ra imm
  | .ldd rd ra imm => opLoad 8 p rd ra imm
  | .stb rs ra imm => opStore 1 p rs ra imm
  | .sth rs ra imm => opStore 2 p rs ra imm
  | .stw rs ra imm => opStore 4 p rs ra imm
  | .std rs ra imm => opStore 8 p rs ra imm
  | .fence _ => opFence p
  | .beq ra rb off => opBranch (· == ·) p ra rb off
  | .bne ra rb off => opBranch (· != ·) p ra rb off
  | .blt ra rb off => opBranch ltS p ra rb off
  | .bge ra rb off => opBranch (fun x y => !ltS x y) p ra rb off
  | .bltu ra rb off => opBranch ltU p ra rb off
  | .bgeu ra rb off => opBranch (fun x y => !ltU x y) p ra rb off
  | .jmp off => opJmp p off
  | .call off => opCall p off
  | .mfs rd num => opMfs p rd num
  | .mts rs num => opMts p rs num
  | .ident rd sel => opIdent p rd sel
  | .trap code => opTrap p code
  | .eret => opEret p
  | .park => opPark p
  | .topen rd => opTopen p rd
  | .tput ra rb => opTput p ra rb
  | .tcommit rd ra => opTcommit p rd ra
  | .tdrop ra => opTdrop p ra
  | .pvset ra rb => opPvote true (.pvset ra rb) p ra rb
  | .pvclr ra rb => opPvote false (.pvclr ra rb) p ra rb
  | .dinit dc ra => opDinit p dc ra
  | .dfeed dc ra rb => opDfeed p dc ra rb
  | .dfin dc ra => opDfin p dc ra
  | .dcmp rd ra rb dc => opDcmp p rd ra rb dc
  | .dsave dc => opDsave p dc
  | .dload dc => opDload p dc
  | .sread rd ra rb => opSread p rd ra rb
  | .dma rd ra => opDma p rd ra
  | .swait rd ra => opSwait p rd ra
  | .wbtake rd ra => opWbtake p rd ra
  | .wbdone ra => opWbdone p ra
  | .barY rd => opBarY p rd
  | .barG rd => opBarG p rd
  | .pass ra reason => opVerdict 0 p ra reason
  | .deny ra reason => opVerdict 1 p ra reason
  | .stage ra reason => opVerdict 2 p ra reason
  | .serve ra reason => opVerdict 3 p ra reason
  | .check ra reason => opVerdict 4 p ra reason
  | .fop rd => opFrame FrameView.op p rd
  | .faddr rd => opFrame FrameView.addr p rd
  | .flen rd => opFrame FrameView.len p rd
  | .fmode rd => opFrame FrameView.desc p rd
  | .fdata rd ra => opFdata p rd ra
  | .rlook rd ra => opRlook p rd ra
  | .cnt k => opCnt p k

/-- A debug halt put on a processor, or taken off. -/
def setHalt (s : State) (p : Proc) (on : Bool) : State :=
  match p with
  | .core c => s.setCore c { s.core c with halted := on }
  | .engine e => s.setEngine e.val { s.engine e.val with halted := on }
  | .line n => s.setLine n.val { s.line n.val with halted := on }

/-- Whether a processor is halted. -/
def isHalted (s : State) (p : Proc) : Bool :=
  match p with
  | .core c => (s.core c).halted
  | .engine e => (s.engine e.val).halted
  | .line n => (s.line n.val).halted

/-- A debug instruction `i` with its effect, at level 3; below it is BYPASS. -/
def debugAct (s : State) (i : TapInstr) (f : State → State) : Out :=
  actSettle s (fun s => if debugLevel s = 3 then f { s with tap := i } else { s with tap := .bypass })

/-- DEBUG_HALT (R378): processor `p` is halted.
DEDUCED (log entry 76). -/
def execDebugHalt (p : Proc) (s : State) : Out := debugAct s .halt (fun s => setHalt s p true)

/-- One instruction of a processor: a section's as its program gives it, another's is named by `i`.
DEDUCED (log entry 76). -/
def debugRun (s : State) (p : Proc) (i : Wop) : State :=
  match p with
  | .line n => routeStep s n
  | p => runWop p i (procBody p i) s

/-- DEBUG_STEP (R378): a halted processor executes one instruction.
DEDUCED (log entry 76). -/
def execDebugStep (p : Proc) (w : Wop) (s : State) : Out :=
  debugAct s .step (fun s => if isHalted s p then setHalt (debugRun (setHalt s p false) p w) p true else s)

/-- DEBUG_RESUME (R378): processor `p` runs on. -/
def execDebugResume (p : Proc) (s : State) : Out := debugAct s .resume (fun s => setHalt s p false)

end Sys2Proof.Machine
end

