-- ==== Sys2Proof/Machine/EngIsa.lean ====
section
/-! DEFINITION. The meanings of the engine instructions (R34). -/

namespace Sys2Proof.Machine

/-- DINIT (R223): Makes a digest context live for an algorithm and an optional declared length. -/
def execDinit (p : Proc) (dc : BitVec 2) (ra : RegNo) (s : State) : Out :=
  act s (runWop p (.dinit dc ra) (opDinit p dc ra))

/-- DFEED (R224): Feeds bytes from local memory to the live digest context. -/
def execDfeed (p : Proc) (dc : BitVec 2) (ra rb : RegNo) (s : State) : Out :=
  act s (runWop p (.dfeed dc ra rb) (opDfeed p dc ra rb))

/-- DFIN (R225): Pads and finishes a digest context and publishes the result. -/
def execDfin (p : Proc) (dc : BitVec 2) (ra : RegNo) (s : State) : Out :=
  act s (runWop p (.dfin dc ra) (opDfin p dc ra))

/-- DCMP (R226): Constant-time compare of two digests at the context's length. -/
def execDcmp (p : Proc) (rd ra rb : RegNo) (dc : BitVec 2) (s : State) : Out :=
  act s (runWop p (.dcmp rd ra rb dc) (opDcmp p rd ra rb dc))

/-- DSAVE (R227): Saves the live context to its slot and scrubs the unit. -/
def execDsave (p : Proc) (dc : BitVec 2) (s : State) : Out :=
  act s (runWop p (.dsave dc) (opDsave p dc))

/-- DLOAD (R227): Makes a saved context live again. -/
def execDload (p : Proc) (dc : BitVec 2) (s : State) : Out :=
  act s (runWop p (.dload dc) (opDload p dc))

/-- SREAD (R59): Streams the next bytes of the work item's object to local memory under a tag. -/
def execSread (p : Proc) (rd ra rb : RegNo) (s : State) : Out :=
  act s (runWop p (.sread rd ra rb) (opSread p rd ra rb))

/-- DMA (R246): Starts a copy described by a 16-byte descriptor under a tag. -/
def execDma (p : Proc) (rd ra : RegNo) (s : State) : Out :=
  act s (runWop p (.dma rd ra) (opDma p rd ra))

/-- SWAIT (R48): Waits for a stream or DMA tag and returns the bytes moved. -/
def execSwait (p : Proc) (rd ra : RegNo) (s : State) : Out :=
  act s (runWop p (.swait rd ra) (opSwait p rd ra))

/-- WBTAKE (R245): Takes a work item into local memory and clears the wake latch. -/
def execWbtake (p : Proc) (rd ra : RegNo) (s : State) : Out :=
  act s (runWop p (.wbtake rd ra) (opWbtake p rd ra))

/-- WBDONE (R247): Posts the engine's results; the scheduler compares them and completes the item. -/
def execWbdone (p : Proc) (ra : RegNo) (s : State) : Out :=
  act s (runWop p (.wbdone ra) (opWbdone p ra))

/-- BAR_Y (R51): Engine arrives at a yard barrier. -/
def execBarY (p : Proc) (rd : RegNo) (s : State) : Out :=
  act s (runWop p (.barY rd) (opBarY p rd))

/-- BAR_G (R51): Engine arrives at a global barrier. -/
def execBarG (p : Proc) (rd : RegNo) (s : State) : Out :=
  act s (runWop p (.barG rd) (opBarG p rd))

end Sys2Proof.Machine
end

