-- ==== Sys2Proof/Machine/EvrRows.lean ====
section
/-! DEFINITION. The commands of the event recorder, the power-fail input and the counter latch (R352-R361, R401, R418). -/

namespace Sys2Proof.Machine

/-- EVR_WRITE_AGED (R352, R353): the background writer writes the records that are 100 ms old. -/
def execEvrWriteAged (s : State) : Out :=
  actSettle s (fun s => if s.evr.nvmFault || s.evr.suspended then s else writeAged s s.evr.dirty)

/-- EVR_FLUSH_DONE (R352, R356): the flush in progress completes; `fails` program failures met its first record. -/
def execEvrFlushDone (fails : Nat) (s : State) : Out :=
  actSettle s (fun s => if s.evr.writing = true ∧ s.evr.suspended = false then evrFlush s fails else s)

/-- EVR_RECLAIM (R353). -/
def execEvrReclaim (s : State) : Out := actSettle s evrReclaim

/-- A retry of the stopped writer (R356): a success writes what waits, a failure voids another slot. -/
def nvmRetry (s : State) (ok : Bool) : State :=
  if s.evr.nvmFault = false ∨ s.evr.suspended = true then s
  else if ok then evrFlush { s with evr := { s.evr with nvmFault := false } } 0
  else match s.evr.dirty with
    | r :: _ => { s with evr := s.evr.push ⟨r, false⟩ }
    | [] => s

/-- NVM_FAULT_RETRY (R356): once a second the stopped writer tries again. -/
def execNvmFaultRetry (ok : Bool) (s : State) : Out := actSettle s (fun s => nvmRetry s ok)

/-- CORRELATE (R361). -/
def execCorrelate (q : Sender) (tag : Byte) (host : Dword) (format : Byte) (label : List Byte) (s : State) : Out :=
  request (.correlate q tag host format label) 0x90 q s (fun s => correlate s q (BitVec.ofNat 32 (reqWord 0x90 0 0 tag.toNat)) host format label)

/-- PFW_N_FALL (R401). -/
def execPfwNFall (s : State) : Out := actSettle s powerFail

/-- PF_FLUSH (R355, R401): the power-fail flush completes after `us` µs. -/
def execPfFlush (us : Word) (s : State) : Out := actSettle s (fun s => powerFailed s us.toNat)

/-- SBOX brought to RUN by the rise of PFW_N: woken, and its exit completed before a platform start.
DESIGN CHOICE (log entry 69). -/
def pfwWake (s : State) (start : Bool) : State :=
  let s := wake s 3
  if start = true ∧ domPhase s 1 = 3 then domainRun s 1 else s

/-- PFW_N rises (R355, R383, R401): the recorder resumes and SBOX wakes. After a power-fail entry a platform start begins,
at stage 0 where the main rails had failed or were absent since power-up.
DEDUCED (log entry 68), DESIGN CHOICE (log entry 69). -/
def pfwRise (s : State) (us : Nat) : State :=
  if s.bit Reg.PWR_STAT 0 = false then s
  else
    let s := if s.pwr.railsGone then s else powerFailed s us
    let off := s.bit Reg.PWR_STAT 2 || s.pwr.railsGone
    let s := evrResume (s.setBit Reg.PWR_STAT 0 false)
    let s := if s.pwr.railsGone then setDomState (s.setBit (Reg.PWR_VOTE 24) 0 true) 24 0 else s
    let s := pfwWake { s with pwr := { s.pwr with railsGone := false } } off
    if off then platformStart s else s

/-- PFW_N_RISE (R401): a power-fail flush still running ends first, `us` µs after it began. -/
def execPfwNRise (us : Word) (s : State) : Out := actSettle s (fun s => pfwRise s us.toNat)

/-- SNAPSHOT (R418): `us` µs after the last latch; within 100 µs no new latch is made. -/
def execSnapshot (q : Sender) (tag : Byte) (us : Word) (s : State) : Out :=
  request (.snapshot q tag us) 0x91 q s (fun s =>
    let w0 := reqWord 0x91 0 0 tag.toNat
    let allowed := match q with
      | .inst n => n.val == 0
      | .agent _ => true
    if allowed = false then s.answer q w0 1 [] true
    else
      let s := if us.toNat < 100 then s else snapLatch s
      s.answer q w0 0 (leBytes 4 (s.rd Reg.SBX_SNAP_SEQ).toNat) true)

end Sys2Proof.Machine
end

