-- ==== Sys2Proof/Machine/FixRows.lean ====
section
/-! DEFINITION. The commands of the ledger and the fixity scheduler (R252-R266). -/

namespace Sys2Proof.Machine

/-! ### Who may ask -/

/-- Word 0 of a fixity request (R264). -/
def fixWord (code arg : Nat) (tag : Byte) : Nat := code + arg * 2 ^ 8 + tag.toNat * 2 ^ 24

/-- Ledger and timetable management is accepted from PF0 and I3C-0 (R264); a ring needs FIXITY. -/
def mayLedger (s : State) (q : Sender) : Bool :=
  match q with
  | .agent a => a.val == 0
  | .inst n => n.val == 0 && hasFeature s 0 0

/-- The instance on whose behalf `q` names records: none for management. -/
def ownerOf (q : Sender) : Option Nat :=
  match q with
  | .inst n => if n.val = 0 then none else some n.val
  | .agent _ => none

/-- Whether records `first` to `first + count - 1` lie in one of the partitions of an owner (R261, R264). -/
def rangeOk (s : State) (owner : Option Nat) (first count : Nat) : Bool :=
  match owner with
  | some n => if n = 0 then decide (first + count ≤ 32 * ldgPages s)
      else (s.inst n).parts.any (fun p => decide (p.1 ≤ first ∧ first + count ≤ p.1 + p.2))
  | none => decide (first + count ≤ 32 * ldgPages s)

/-- Whether `q` may name some records (R264). -/
def mayRecords (s : State) (q : Sender) (first count : Nat) : Bool :=
  match ownerOf q with
  | some n => hasFeature s n 0 && rangeOk s (some n) first count
  | none => mayLedger s q

/-- Whether the ledger is OPEN or HELD. -/
def ldgUsable (s : State) : Bool := ldgState s == 2 || ldgState s == 4

/-! ### Opening and rebuilding (R253, R260) -/

/-- Why a LEDGER_OPEN or LEDGER_REBUILD is refused before it reads anything. A committed root entry fixes P for an
open; a custody import that has not committed yet bars both (R311).
DEDUCED (log entry 44). -/
def openStatus (s : State) (q : Sender) (leaf tree pages : Nat) (rebuild : Bool) : Nat :=
  if mayLedger s q = false then 1
  else if (ldgState s ≠ 0 ∧ ldgState s ≠ 3) ∨ s.att.importing.isSome = true then 3
  else if leaf % 4096 ≠ 0 ∨ tree % 4096 ≠ 0 ∨ pages = 0 ∨ 2 ^ 31 < pages then 6
  else if rebuild = false ∧ s.ledger.cap ≠ 0 ∧ s.ledger.cap ≠ pages then 3
  else 0

/-- LEDGER_OPEN (R260): `nodes` are those of levels 0 to 2 as read.
DESIGN CHOICE (log entry 26). -/
def ledgerOpen (s : State) (q : Sender) (w0 leaf tree pages : Nat) (nodes : Option (List (List Byte))) (kind : Nat) : State :=
  let st := openStatus s q leaf tree pages false
  if st ≠ 0 then s.answer q w0 st [] true
  else match nodes with
    | none => readFailed s q w0 tree kind
    | some ns =>
      if openOk s pages ns = false then s.answer q w0 4 [] true
      else
        let s := setLdgState (ledgerVote (loadCache (setBases s leaf tree pages) pages ns)) 2
        let s := ldgLog (syncLedger s) Ev.LEDGER_OPENED (leBytes 8 (ldgEpoch s) ++ leBytes 4 pages)
        advancePasses (s.answer q w0 0 [] true)

/-- LEDGER_OPEN (R260). -/
def execLedgerOpen (q : Sender) (tag : Byte) (leaf tree : Dword) (pages : Word) (nodes : Option (List (List Byte)))
    (kind : Fin 4) (s : State) : Out :=
  request (.ledgerOpen q tag leaf tree pages nodes kind) 0x60 q s (fun s => ledgerOpen s q (fixWord 0x60 0 tag) leaf.toNat tree.toNat pages.toNat nodes kind.val)

/-- LEDGER_REBUILD (R260): `leaves` are the leaf pages that are not all zero, as read.
DESIGN CHOICE (log entry 26). -/
def ledgerRebuild (s : State) (q : Sender) (w0 leaf tree pages : Nat) (leaves : Option (List (Nat × List Byte)))
    (kind : Nat) : State :=
  let st := openStatus s q leaf tree pages true
  if st ≠ 0 then s.answer q w0 st [] true
  else match leaves with
    | none => readFailed s q w0 leaf kind
    | some ls =>
      let s := rebuildTree (setLdgState (ledgerVote (setBases s leaf tree pages)) 5) ls
      let s := { s with ledger := { s.ledger with rebuilt := true } }
      (epochBegin s [.rebuilt (some q) w0]).answer q w0 7 [] false

/-- LEDGER_REBUILD (R260). -/
def execLedgerRebuild (q : Sender) (tag : Byte) (leaf tree : Dword) (pages : Word)
    (leaves : Option (List (Nat × List Byte))) (kind : Fin 4) (s : State) : Out :=
  request (.ledgerRebuild q tag leaf tree pages leaves kind) 0x63 q s (fun s => ledgerRebuild s q (fixWord 0x63 0 tag) leaf.toNat tree.toNat pages.toNat leaves kind.val)

/-! ### Commits, holds, closing (R258, R259, R264) -/

/-- An epoch commit begun for a request: PENDING where one is needed, and `done` at once otherwise. -/
def commitFor (s : State) (q : Sender) (w0 : Nat) (after : AfterCommit) (done : State → State) : State :=
  if epochNeeded s = true ∨ ldgCommitting s = true then (epochBegin s [after]).answer q w0 7 [] false
  else done s

/-- LEDGER_COMMIT (R258). -/
def execLedgerCommit (q : Sender) (tag : Byte) (s : State) : Out :=
  request (.ledgerCommit q tag) 0x61 q s (fun s =>
    let w0 := fixWord 0x61 0 tag
    if mayLedger s q = false then s.answer q w0 1 [] true
    else if ldgUsable s = false then s.answer q w0 3 [] true
    else commitFor s q w0 (.answer (some q) w0) (fun s => s.answer q w0 0 [] true))

/-- LEDGER_RESUME (R259). -/
def execLedgerResume (q : Sender) (tag : Byte) (s : State) : Out :=
  request (.ledgerResume q tag) 0x62 q s (fun s =>
    let w0 := fixWord 0x62 0 tag
    if mayLedger s q = false then s.answer q w0 1 [] true
    else if ldgState s ≠ 4 then s.answer q w0 3 [] true
    else advancePasses (wakeFreed s ((syncLedger (applyLate (setLdgState s 2))).answer q w0 0 [] true)))

/-- LEDGER_CLOSE (R264): an epoch is committed first. -/
def execLedgerClose (q : Sender) (tag : Byte) (s : State) : Out :=
  request (.ledgerClose q tag) 0x64 q s (fun s =>
    let w0 := fixWord 0x64 0 tag
    if mayLedger s q = false then s.answer q w0 1 [] true
    else if ldgUsable s = false then s.answer q w0 3 [] true
    else commitFor s q w0 (.close (some q) w0) (fun s => (ledgerLost s).answer q w0 0 [] true))

/-! ### Records (R252, R264) -/

/-- A record request: refused, served from a buffered page, or waiting for its page.
DEDUCED (log entry 44). -/
def recordRequest (s : State) (q : Sender) (w0 idx : Nat) (retire : Bool) : State :=
  if mayRecords s q idx 1 = false then s.answer q w0 1 [] true
  else if ldgUsable s = false then s.answer q w0 3 [] true
  else if 32 * ldgPages s ≤ idx then s.answer q w0 6 [] true
  else match ledgerRecord s idx with
    | some r =>
      if retire then (recordUpdate s idx .retire).answer q w0 0 [] true else s.answer q w0 0 r true
    | none =>
      let w : LdgWait := ⟨some q, w0, retire, idx⟩
      (syncFix { s with ledger := { s.ledger with waits := s.ledger.waits ++ [w] } }).answer q w0 7 [] false

/-- RECORD_RETIRE (R264). -/
def execRecordRetire (q : Sender) (tag : Byte) (idx : Dword) (s : State) : Out :=
  request (.recordRetire q tag idx) 0x65 q s (fun s => recordRequest s q (fixWord 0x65 0 tag) idx.toNat true)

/-- RECORD_READ (R264). -/
def execRecordRead (q : Sender) (tag : Byte) (idx : Dword) (s : State) : Out :=
  request (.recordRead q tag idx) 0x66 q s (fun s => recordRequest s q (fixWord 0x66 0 tag) idx.toNat false)

/-! ### The timetable (R261, R262) -/

/-- The timetable entry in 64 bytes. -/
def ttEntryOf (b : List Byte) : TtEntry :=
  ⟨leAt b 0 8, leAt b 8 8, leAt b 16 8, leAt b 24 2, leAt b 26 1, leAt b 28 4⟩

/-- The owner of an entry: none for a device-owned one. -/
def TtEntry.who (e : TtEntry) : Option Nat := if e.owner = 0xFFFF then none else some e.owner

/-- Whether TT_SET takes an entry (R261). A device-owned entry may lie anywhere. -/
def ttOk (s : State) (b : List Byte) : Bool :=
  let e := ttEntryOf b
  b.length == 64 && decide (1 ≤ e.count) && e.locator % 16 == 0 && decide (e.flags < 4) && leAt b 27 1 == 0 &&
    decide (60 ≤ e.period) && (b.drop 32).all (· == 0) &&
    (e.owner == 0xFFFF || (decide (e.owner ≤ 1024) && rangeOk s (some e.owner) e.first e.count))

/-- The entry of the timetable with a number. -/
def ttEntry (s : State) (k : Nat) : Option TtEntry := (s.fix.tt.find? (fun e => e.1 == k)).map Prod.snd

/-- Whether entry `k` is due, but for the pass it may be running (R262). -/
def ttDue (s : State) (k : Nat) : Bool :=
  match ttEntry s k with
  | some e => bitOf e.flags 0 && s.bit Reg.FIX_CTL 1 && ldgState s == 2 && !s.bit (Reg.FIX_TT_STAT k) 2 &&
      decide (e.period ≤ (s.rd (Reg.FIX_TT_AGE k)).toNat)
  | none => false

/-- How long entry `k` is overdue, in s. -/
def ttLate (s : State) (k : Nat) : Nat := (s.rd (Reg.FIX_TT_AGE k)).toNat - ((ttEntry s k).map TtEntry.period).getD 0

/-- FIX_TT_k_STAT.due in step. -/
def syncTt (s : State) : State := (List.range 64).foldl (fun s k => s.setBit (Reg.FIX_TT_STAT k) 1 (ttDue s k)) s

/-- Entry `k` and its pass gone.
DEDUCED (log entry 44). -/
def ttDrop (s : State) (k : Nat) : State :=
  let f := { s.fix with tt := s.fix.tt.filter (fun e => e.1 != k), passes := s.fix.passes.filter (fun p => p.key != .entry k),
                        waiting := s.fix.waiting.filter (fun w => w.src != .pass (.entry k)),
                        saved := s.fix.saved.filter (fun p => p.1 != k) }
  syncFix (({ s with fix := f } : State).setF (Reg.FIX_TT_STAT k) 3 0 0)

/-- A timetable entry set (R261): its pass, if one runs, ends; its age starts.
DEDUCED (log entry 44). -/
def ttPut (s : State) (k : Nat) (e : TtEntry) : State :=
  let s := ttDrop s k
  let s := { s with fix := { s.fix with tt := s.fix.tt ++ [(k, e)] } }
  let s := (s.setBit (Reg.FIX_TT_STAT k) 0 (bitOf e.flags 0)).wr (Reg.FIX_TT_AGE k) 0
  syncTt ((s.wr64 (Reg.FIX_TT_CUR_LO k) (Reg.FIX_TT_CUR_HI k) e.first).wr (Reg.FIX_TT_FAILS k) 0)

/-- TT_SET (R261): `entry` is what the read at the host address brings. -/
def execTtSet (q : Sender) (tag : Byte) (k : BitVec 16) (addr : Dword) (entry : HostRead) (kind : Fin 4) (s : State) : Out :=
  request (.ttSet q tag k addr entry kind) 0x68 q s (fun s =>
    let w0 := fixWord 0x68 k.toNat tag
    if mayLedger s q = false then s.answer q w0 1 [] true
    else if 64 ≤ k.toNat then s.answer q w0 6 [] true
    else match entry with
      | none => readFailed s q w0 addr.toNat kind.val
      | some b =>
        if ttOk s b then (ttPut s k.toNat (ttEntryOf b)).answer q w0 0 [] true else s.answer q w0 6 [] true)

/-- TT_CLEAR (R264). -/
def execTtClear (q : Sender) (tag : Byte) (k : BitVec 16) (s : State) : Out :=
  request (.ttClear q tag k) 0x69 q s (fun s =>
    let w0 := fixWord 0x69 k.toNat tag
    if mayLedger s q = false then s.answer q w0 1 [] true
    else if 64 ≤ k.toNat then s.answer q w0 6 [] true
    else (ttDrop s k.toNat).answer q w0 0 [] true)

/-- AUDIT_RANGE (R264): one pass; `feeds` are the locator entries of its records, with the scatter lists they name. -/
def execAuditRange (q : Sender) (tag : Byte) (first count table : Dword) (feeds : List (Nat × Feed)) (s : State) : Out :=
  request (.auditRange q tag first count table feeds) 0x6A q s (fun s =>
    let w0 := fixWord 0x6A 0 tag
    if mayRecords s q first.toNat count.toNat = false then s.answer q w0 1 [] true
    else if ldgUsable s = false then s.answer q w0 3 [] true
    else if count = 0 ∨ table.toNat % 16 ≠ 0 ∨ rangeOk s none first.toNat count.toNat = false then s.answer q w0 6 [] true
    else if s.fix.passes.any (fun p => p.key == .range q) then s.answer q w0 2 [] true
    else
      let s := s.answer q w0 7 [] false
      advancePasses (startPass s (.range q) w0 (ownerOf q) first.toNat count.toNat first.toNat feeds))

/-! ### Reports (R263, R264, R309) -/

/-- The kind-2 object of a report body, written to host memory on a ring and answered in parts to an agent.
DEDUCED (log entry 45). -/
def reportOut (s : State) (q : Option Sender) (w0 : Nat) (k : PassKey) (addr : Nat) : State :=
  match bodyOf s k with
  | none => s.reply q w0 3 [] true
  | some b =>
    let o := signObject s 2 (signedBody s b) 3
    match q with
    | some (.inst n) => (instWrite o.2 n.val addr o.1).reply q w0 0 [] true
    | _ => o.2.reply q w0 0 o.1 true

/-- REPORT (R264): `arg` names an entry, or 0xFFFF the last range. The ledger is committed first. -/
def execReport (q : Sender) (tag : Byte) (arg : BitVec 16) (addr : Dword) (s : State) : Out :=
  request (.report q tag arg addr) 0x6C q s (fun s =>
    let w0 := fixWord 0x6C arg.toNat tag
    let k := reportKey q arg.toNat
    let own := arg = 0xFFFF ∧ (match q with
      | .inst n => hasFeature s n.val 0
      | .agent a => a.val == 0) = true
    if mayLedger s q = false ∧ ¬own then s.answer q w0 1 [] true
    else if arg ≠ 0xFFFF ∧ 64 ≤ arg.toNat then s.answer q w0 6 [] true
    else if (bodyOf s k).isNone then s.answer q w0 3 [] true
    else commitFor s q w0 (.report (some q) w0 k addr.toNat) (fun s => reportOut s (some q) w0 k addr.toNat))

/-! ### The ledger unit's own events (R256-R258) -/

/-- Whether the unit reads page `j`: an item, a request, an update or a pass needs it (R256, R262). -/
def pageWanted (s : State) (j : Nat) : Bool :=
  s.fix.waiting.any (fun w => wbLedger w.bytes && wbRef w.bytes / 32 == j) ||
    s.ledger.waits.any (fun w => w.idx / 32 == j) || s.ledger.late.any (fun p => p.1 / 32 == j) ||
    s.fix.passes.any (fun p => decide (p.cur / 32 ≤ j ∧ 32 * j < p.first + p.count))

/-- One follower of an epoch commit that has ended. A close that finds updates frozen meanwhile commits them first. -/
def afterEpoch (s : State) (a : AfterCommit) : State :=
  match a with
  | .answer q w0 => s.reply q w0 0 [] true
  | .close q w0 => if epochNeeded s then epochBegin s [.close q w0] else (ledgerLost s).reply q w0 0 [] true
  | .rebuilt q w0 => s.reply q w0 0 [] true
  | .pass k => finishPass s k
  | .report q w0 k addr => reportOut s q w0 k addr
  | .custody => exportFinish s
  | .platformOff => platformOffRest s

/-- One follower of an epoch commit that was refused (R265, R312): it answers STATE; a pass ends later.
DEDUCED (log entry 45). -/
def afterRefusal (s : State) (a : AfterCommit) : State :=
  match a with
  | .answer q w0 => s.reply q w0 3 [] true
  | .close q w0 => s.reply q w0 3 [] true
  | .rebuilt q w0 => (closeLedger s).reply q w0 3 [] true
  | .pass k => mapPass s k (fun p => { p with ending := false })
  | .report q w0 _ _ => s.reply q w0 3 [] true
  | .custody => exportRefused s
  | .platformOff => platformOffRest s

/-- The ledger has failed authentication while a commit ran (R257): its followers are refused.
DEDUCED (log entry 45). -/
def refuseFollowers (s : State) : State :=
  if ldgState s ≠ 3 ∨ (s.ledger.after ++ s.ledger.queued) = [] then s
  else (s.ledger.after ++ s.ledger.queued).foldl afterRefusal { s with ledger := { s.ledger with after := [], queued := [] } }

/-- LEDGER_PAGE_AUTH (R256, R257, R284): the page and its path of levels 7 to 3 as read, or the kind of the read's
error. -/
def execLedgerPageAuth (page : Word) (data : HostRead) (path : List (List Byte)) (kind : Fin 4) (s : State) : Out :=
  actSettle s (fun s =>
    let j := page.toNat
    if pageWanted s j = false ∨ ldgUsable s = false ∨ (pageAt s j).isSome = true ∨ ldgPages s ≤ j then s
    else match data with
      | some d => wakeFreed s (refuseFollowers (pageAuth s j d path))
      | none => pageReadError (dmaErrorEvent s 0 (leafAddr s j) kind.val 5) j)

/-- LEDGER_WRITEBACK (R256): a changed page is written back.
DESIGN CHOICE (log entry 26). -/
def execLedgerWriteback (page : Word) (s : State) : Out :=
  actSettle s (fun s =>
    if ldgUsable s = true ∧ (pageAt s page.toNat).any (fun p => p.changed) = true
    then advancePasses (syncFix (writeBack s page.toNat)) else s)

/-- EPOCH_TIMER (R258): epoch_s has elapsed since the previous commit.
DESIGN CHOICE (log entry 2). -/
def execEpochTimer (s : State) : Out :=
  actSettle s (fun s =>
    if s.fld Reg.LDG_CTL 31 16 ≠ 0 ∧ epochNeeded s = true ∧ ldgCommitting s = false then epochBegin s [] else s)

/-- The followers that came during a commit, once it has ended: they begin the next one where one is needed. -/
def epochQueued (s : State) (q : List AfterCommit) : State :=
  if q = [] then s
  else if epochNeeded s = true ∨ ldgCommitting s = true then epochBegin s q
  else q.foldl afterEpoch s

/-- The EPOCH transaction of the commit in progress (R258, R265): it waits for an absent relief core and for journal
space; a power failure refuses it. -/
def epochCommit (s : State) : State :=
  if ldgCommitting s = false then s
  else
    let t := fwCommit s [⟨0x06, 0, ldgEpoch s + 1, 0, epochPayload s⟩]
    let after := t.1.ledger.after
    let q := t.1.ledger.queued
    let clear (s : State) : State := { s with ledger := { s.ledger with after := [], queued := [] } }
    if t.2 = 0 then
      let s' := epochEnded (clear t.1)
      advancePasses (wakeFreed t.1 (epochQueued (after.foldl afterEpoch s') q))
    else if t.2 = 0x01 ∨ t.2 = 0x14 then t.1
    else advancePasses ((after ++ q).foldl afterRefusal (epochRefused (clear t.1)))

/-- EPOCH_COMMITTED (R258): the host writes have completed and the EPOCH transaction is committed. -/
def execEpochCommitted (s : State) : Out := actSettle s epochCommit

/-! ### Passes (R261, R262) -/

/-- TT_PASS_START (R262): entry `k` is due and no due entry is longer overdue; a pass interrupted by a power loss goes
on at its saved cursor. `feeds` are the locator entries read so far; for a pass that runs, the next ones. -/
def execTtPassStart (k : Fin 64) (feeds : List (Nat × Feed)) (s : State) : Out :=
  actSettle s (fun s =>
    if s.fix.passes.any (fun p => p.key == .entry k.val) then
      advancePasses (mapPass s (.entry k.val) (fun p => { p with fed := p.fed ++ feeds }))
    else match ttEntry s k.val with
      | none => s
      | some e =>
        let mid := s.rd64 (Reg.FIX_TT_CUR_LO k.val) (Reg.FIX_TT_CUR_HI k.val)
        let resumes := decide (e.first < mid ∧ mid < e.first + e.count)
        let others := (List.range 64).all (fun i => !ttDue s i || decide (ttLate s i ≤ ttLate s k.val))
        if (ttDue s k.val && others) = false ∧ (resumes = false ∨ ldgState s ≠ 2) then s
        else
          let cur := if resumes then mid else e.first
          let s := (s.setBit (Reg.FIX_TT_STAT k.val) 2 true).setBit (Reg.FIX_TT_STAT k.val) 3 false
          let s := (s.wr (Reg.FIX_TT_AGE k.val) 0).wr (Reg.FIX_TT_FAILS k.val) 0
          let s := syncTt (s.wr64 (Reg.FIX_TT_CUR_LO k.val) (Reg.FIX_TT_CUR_HI k.val) cur)
          advancePasses (startPass s (.entry k.val) 0 e.who e.first e.count cur feeds))

/-- The progress of the timetable saved (R261).
DEDUCED (log entry 44). -/
def ttSave (s : State) : State :=
  let one (k : Nat) : Nat × Nat × Nat :=
    (k, s.rd64 (Reg.FIX_TT_CUR_LO k) (Reg.FIX_TT_CUR_HI k), (s.rd (Reg.FIX_TT_AGE k)).toNat)
  { s with fix := { s.fix with saved := s.fix.tt.map (fun e => one e.1) } }

/-- PASS_DONE (R262, R263): the pass of entry `k`, or of the range of `who`, has visited every record; an epoch is
committed before it ends. -/
def execPassDone (who : Option Sender) (k : Fin 64) (s : State) : Out :=
  actSettle s (fun s =>
    let key : PassKey := match who with
      | some q => .range q
      | none => .entry k.val
    match s.fix.passes.find? (fun p => p.key == key) with
    | none => s
    | some p =>
      if p.over = false ∨ p.ending = true then s
      else if epochNeeded s = true ∨ ldgCommitting s = true then
        ttSave (epochBegin (mapPass s key (fun p => { p with ending := true })) [.pass key])
      else ttSave (finishPass s key))

/-- PASS_OVERDUE (R262): a running pass outruns its period; it is recorded once. -/
def execPassOverdue (k : Fin 64) (s : State) : Out :=
  actSettle s (fun s =>
    match ttEntry s k.val with
    | none => s
    | some e =>
      let age := (s.rd (Reg.FIX_TT_AGE k.val)).toNat
      if s.bit (Reg.FIX_TT_STAT k.val) 2 = false ∨ s.bit (Reg.FIX_TT_STAT k.val) 3 = true ∨ age < e.period then s
      else (s.setBit (Reg.FIX_TT_STAT k.val) 3 true).fwLog Ev.PASS_OVERDUE k.val
        (leBytes 4 age ++ leBytes 8 (s.rd64 (Reg.FIX_TT_CUR_LO k.val) (Reg.FIX_TT_CUR_HI k.val))))

/-- TT_PROGRESS_SAVE (R261). -/
def execTtProgressSave (s : State) : Out := actSettle s ttSave

/-- FIX_RATE_WINDOW (R23): a 10 s window ends; FIX_RATE takes its mean in MB/s. -/
def execFixRateWindow (s : State) : Out :=
  actSettle s (fun s =>
    let b := s.rd64 Reg.FIX_BYTES_LO Reg.FIX_BYTES_HI
    let s := s.wr Reg.FIX_RATE (BitVec.ofNat 32 ((b - s.fix.rateBase) / 10000000))
    { s with fix := { s.fix with rateBase := b } })

end Sys2Proof.Machine
end

