-- ==== Sys2Proof/Machine/HostRows.lean ====
section
/-! DEFINITION. The commands of the host link: resets and the link, rings, interrupts, configuration requests, and the
host link requests (R267-R293). -/

namespace Sys2Proof.Machine

/-! ### Resets and the link (R270-R272) -/

/-- The link down for a cause (0 PERST_N, 1 hot reset, 2 surprise down, 3 PF0 FLR), with its PF0 reset.
DEDUCED (log entry 47). -/
def hostDown (s : State) (cause : Nat) : State :=
  let s := if cause = 0 ∧ s.bit Reg.HST_LINK 10 = false then
      hostVote (({ s with host := { s.host with perstSeq := s.evr.next } } : State).setBit Reg.HST_LINK 10 true)
    else s
  let s := if s.bit Reg.HST_LINK 9 then linkDown s cause else s
  pf0Reset s

/-- PF0_RESET (R270): PERST_N, hot reset or Data Link Layer down. -/
def execPf0Reset (cause : Fin 3) (s : State) : Out := actSettle s (fun s => hostDown s cause.val)

/-- PF0_FLR (R270): as a PF0 reset, with the link kept up. -/
def execPf0Flr (s : State) : Out := actSettle s (fun s => if s.bit Reg.HST_LINK 9 then pf0Reset s else s)

/-- An FLR of VF `n` (R270): its instance is reset, its function's own settings go. -/
def vfFlr (s : State) (n : Nat) : State :=
  if n = 0 ∨ hostMode s ≠ 1 ∨ s.host.vfEnable = false then s
  else
    let h := { s.host with bme := s.host.bme.filter (· != n), d3hot := s.host.d3hot.filter (· != n),
                           msix := s.host.msix.filter (fun m => m.1.1 != n) }
    instReset { s with host := h } n 1 none

/-- VF_FLR (R270). -/
def execVfFlr (vf : Fin 256) (s : State) : Out :=
  actSettle s (fun s => if s.bit Reg.HST_LINK 9 then vfFlr s vf.val else s)

/-- A function returns from D3hot (R270). -/
def toD0 (s : State) (fn : Nat) : State :=
  if s.host.d3hot.contains fn then
    let s := { s with host := { s.host with d3hot := s.host.d3hot.filter (· != fn) } }
    if fn = 0 then pf0Reset s else vfFlr s fn
  else s

/-- D3HOT_TO_D0 (R270): as an FLR of that function. -/
def execD3hotToD0 (fn : Fin 256) (s : State) : Out :=
  actSettle s (fun s => if s.bit Reg.HST_LINK 9 then toD0 s fn.val else s)

/-- LINK_UP (R267, R272): the link trains at a rate, width and mode of R267; PERST_N is high and HOST in RUN. -/
def execLinkUp (rate : Fin 7) (width : Fin 17) (flit : Bool) (s : State) : Out :=
  actSettle s (fun s =>
    if s.bit Reg.HST_LINK 10 = true ∨ s.bit Reg.HST_LINK 9 = true ∨ domState s 23 ≠ 0 ∨ rate = 0 ∨
       [1, 4, 8, 16].contains width.val = false ∨ (rate = 6 ∧ flit = false) then s
    else
      let s := s.setF Reg.HST_LINK 9 0 (rate.val + width.val * 2 ^ 3 + b2n flit * 2 ^ 8 + 2 ^ 9)
      stateInt (s.log Ev.LINK_UP .pf0 0 (leBytes 1 rate.val ++ leBytes 1 width.val ++ leBytes 1 (b2n flit))) 0)

/-- LINK_DOWN (R270, R272): a link that is up goes down. -/
def execLinkDown (cause : Fin 4) (s : State) : Out :=
  actSettle s (fun s => if s.bit Reg.HST_LINK 9 then hostDown s cause.val else s)

/-- PERST_N_RELEASE (R272, R386): PERST_N rises; WAKE_N is released, CLKREQ_N driven low and HOST's hardware vote
set. -/
def execPerstNRelease (s : State) : Out := actSettle s (fun s => hostVote (s.setBit Reg.HST_LINK 10 false))

/-- Whether a read for a cancelled item of instance `n` is still outstanding (R288). -/
def drains (s : State) (n : Nat) : Bool :=
  s.engines.any (fun p => p.2.item.any (fun i => i.dropped && fromInst n i.wb) && p.2.tags.any (fun t => !t.done))

/-- INSTANCE_RESET_DONE (R288, R289): the drain has ended, `us` µs after the reset's cause. -/
def execInstanceResetDone (n : Fin 1025) (us : Word) (s : State) : Out :=
  actSettle s (fun s => if drains s n.val then s else resetDone s n.val us.toNat)

/-- FEATURE_EVAL_DONE (R275). -/
def execFeatureEvalDone (n : Fin 1025) (s : State) : Out := actSettle s (fun s => featureEval s n.val)

/-! ### Rings and interrupts (R282-R285, R293) -/

/-- SQ_FETCH (R240, R283): what the reads of the entry, of its scatter list and of its expected block bring, and how a
failed one was answered. -/
def execSqFetch (n : Fin 1025) (entry list block : HostRead) (kind : Fin 4) (s : State) : Out :=
  actSettle s (fun s => sqFetch s n.val entry list block kind.val)

/-- CMD_FETCH (R285): the entry is taken from the ring; the request it carries is a command of its own. -/
def execCmdFetch (n : Fin 1025) (entry : HostRead) (kind : Fin 4) (s : State) : Out :=
  actSettle s (fun s => cmdFetch s n.val entry kind.val)

/-- CQ_POST (R283). -/
def execCqPost (n : Fin 1025) (s : State) : Out := actSettle s (fun s => cqPost s n.val)

/-- The host address that a ring access meets next: SQ, CQ, CMD, RSP, DIRTY. -/
def ringAddr (s : State) (n ring : Nat) : Nat :=
  if ring = 3 then s.rd64 (Reg.VIN_RSP_BASE_LO n) (Reg.VIN_RSP_BASE_HI n) + 64 * s.fld (Reg.VIN_RSP_TAIL n) 15 0
  else if ring = 4 then s.rd64 (Reg.VIN_DIRTY_BASE_LO n) (Reg.VIN_DIRTY_BASE_HI n) + 8 * s.fld (Reg.VIN_DIRTY_IDX n) 15 0
  else ringEntryAddr s n ring (s.fld (deviceReg n ring) 15 0)

/-- DMA_ERROR (R284): an error answers a ring access of an instance, which becomes FAILED; or, where `e` names an
engine, a read or write at `addr` for its item, which ends with READ_ERROR. -/
def execDmaError (n : Fin 1025) (ring : Fin 5) (e : Option (Fin 512)) (addr : Dword) (kind : Fin 4) (s : State) : Out :=
  actSettle s (fun s => match e with
    | none => ringFails s n.val ring.val (ringAddr s n.val ring.val) kind.val
    | some e =>
      match (s.engine e.val).item with
      | none => s
      | some i => itemReadError (dmaErrorEvent s (i.wb.owner.getD 0) addr.toNat kind.val 5) e.val)

/-- INT_COAL_TIMEOUT (R293): the oldest unsignalled entry of a source (0 CQ, 1 RSP, 3 DIRTY) has waited delay_us. -/
def execIntCoalTimeout (n : Fin 1025) (src : Fin 4) (s : State) : Out :=
  actSettle s (fun s =>
    if src = 2 ∨ (s.inst n.val).unsig src.val = 0 then s
    else intNow (s.setInst n.val ((s.inst n.val).setUnsig src.val 0)) n.val src.val)

/-! ### Configuration requests (R268, R270, R276, R293, R298) -/

/-- The identity that configuration reads of a function find (R268). -/
structure PciIdentity where
  vendor : Nat
  device : Nat
  classCode : Nat
  subVendor : Nat
  subsystem : Nat
  msixEntries : Nat
  serial : Option (List Byte)
deriving DecidableEq, Repr

/-- The identity of PF0 (0) or of a VF (R268): the Device Serial Number capability of PF0 holds bytes 0 to 7 of the device
serial number. -/
def pciIdentity (s : State) (fn : Nat) : PciIdentity :=
  if fn = 0 then ⟨0x1F3B, 0x8512, 0x120000, 0x1F3B, 0, 2048, some ((s.rdBytes (Reg.LCS_SERIAL 0) 4).take 8)⟩
  else ⟨0x1F3B, 0x8513, 0x120000, 0x1F3B, 0, 32, none⟩

/-- The size of a BAR in bytes (R269); 0 where the function has none there. -/
def barSize (fn bar : Nat) : Nat :=
  if fn = 0 then (if bar = 0 then 0x10000 else if bar = 2 then 0x800000 else if bar = 4 then 0x10000 else 0)
  else if bar = 0 then 0x4000 else if bar = 2 then 0x1000 else 0

/-- VF Enable and NumVFs written: clearing VF Enable destroys every VF instance (R280). NumVFs stands while VF Enable
is 1.
PRESUMED (log entry 48). -/
def cfgVfs (s : State) (enable : Bool) (num : Nat) : State :=
  let num' := if s.host.vfEnable then s.host.numVfs else min num 255
  let s' := { s with host := { s.host with vfEnable := enable, numVfs := num' } }
  if s.host.vfEnable = true ∧ enable = false ∧ hostMode s = 1 then
    ((List.range 256).filter (fun n => n != 0)).foldl (fun s n => instDestroy s n 2 none) s'
  else s'

/-- The messages that a function left pending sent, but for masked entries.
PRESUMED (log entry 48). -/
def msixPending (s : State) (fn : Nat) : State :=
  (s.host.msix.filter (fun p => p.1.1 == fn && p.2.pending && !p.2.masked)).foldl (fun s p =>
    (s.setMsix p.1 { p.2 with pending := false }).toHost (if hostMode s = 1 then fn else 0) p.2.addr (leBytes 4 p.2.data)) s

/-- Bus Master Enable of a function written (R276): clearing a VF's ends its items on engines.
PRESUMED (log entry 48). -/
def cfgBme (s : State) (fn : Nat) (on : Bool) : State :=
  let rest := s.host.bme.filter (· != fn)
  let s' := { s with host := { s.host with bme := if on then fn :: rest else rest } }
  if on = false ∧ hostMode s = 1 ∧ fn ≠ 0 then
    (List.range 512).foldl (fun s e =>
      if (s.engine e).item.any (fun i => fromInst fn i.wb) then itemReadError s e else s) s'
  else if on = true ∧ hostMode s = 1 then dirtyDrain (msixPending s' fn) (Fin.ofNat 1025 fn)
  else s'

/-- An MSI-X table entry written (R268, R293): one unmasked with its pending bit set sends its message.
PRESUMED (log entry 48). -/
def cfgMsix (s : State) (fn entry addr data : Nat) (masked : Bool) : State :=
  if (if fn = 0 then 2048 else 32) ≤ entry then s
  else
    let m := s.msixAt (fn, entry)
    let sends := m.pending && !masked
    let s := s.setMsix (fn, entry) ⟨addr, data, masked, m.pending && masked⟩
    if sends then s.toHost (if hostMode s = 1 then fn else 0) addr (leBytes 4 data) else s

/-- CONFIGURATION_REQUEST (R276): a configuration write reaches PF0 or a VF while the link is up. A DOE object with the
right length is delivered as the SPDM request it carries. -/
def execConfigurationRequest (r : CfgReq) (s : State) : Out :=
  actSettle s (fun s =>
    if s.bit Reg.HST_LINK 9 = false then s
    else match r with
      | .vfs enable num => cfgVfs s enable num
      | .busMaster fn on => if fn < 256 then cfgBme s fn on else s
      | .pasid on => { s with host := { s.host with pasidEnable := on } }
      | .power fn d3hot =>
        if 256 ≤ fn then s
        else if d3hot then { s with host := { s.host with d3hot := fn :: s.host.d3hot.filter (· != fn) } }
        else toD0 s fn
      | .msix fn entry addr data masked => if fn < 256 then cfgMsix s fn entry addr data masked else s
      | .doe declared written =>
        if declared = written then s
        else attDrop { s with host := { s.host with doeError := true } } 0 0 3 (4 * written) false)

/-! ### Host link requests (R279, R280, R286, R290) -/

/-- Word 0 of a host link request. -/
def hostWord (code : Nat) (n : BitVec 16) (tag : Byte) : Nat := code + n.toNat * 2 ^ 8 + tag.toNat * 2 ^ 24

/-- Whether a request arrived on instance 0's command ring. -/
def fromPf0 (q : Sender) : Bool := q == .inst 0

/-- Whether a number names an instance that exists. -/
def instHere (s : State) (n : Nat) : Bool := decide (n ≤ 1024) && vinState s n != 0

/-- A refused creation (R280).
DEDUCED (log entry 47). -/
def createRefuse (s : State) (q : Sender) (w0 n st : Nat) : State :=
  (vinLog s Ev.CREATE_REFUSED n (leBytes 1 st ++ [0])).answer q w0 st [] true

/-- INST_CREATE (R279, R280): `block` is what the read of the creation block brings. -/
def execInstCreate (q : Sender) (tag : Byte) (n : BitVec 16) (addr : Dword) (block : HostRead) (kind : Fin 4) (s : State) :
    Out :=
  request (.instCreate q tag n addr block kind) 0x80 q s (fun s =>
    let w0 := hostWord 0x80 n tag
    let k := n.toNat
    if fromPf0 q = false ∨ hostMode s = 0 then createRefuse s q w0 k 1
    else if 1024 < k then createRefuse s q w0 k 6
    else match block with
      | none => readFailed s q w0 addr.toNat kind.val
      | some b =>
        if vinState s k = 5 then
          if (s.inst k).create.isSome then createRefuse s q w0 k 3
          else (s.setInst k { s.inst k with create := some (some q, w0, takePad 128 b) }).answer q w0 7 [] false
        else tryCreate s (some q) w0 k (takePad 128 b))

/-- INST_DESTROY (R280, R286, R289). -/
def execInstDestroy (q : Sender) (tag : Byte) (n : BitVec 16) (s : State) : Out :=
  request (.instDestroy q tag n) 0x81 q s (fun s =>
    let w0 := hostWord 0x81 n tag
    if fromPf0 q = false then s.answer q w0 1 [] true
    else if n = 0 ∨ instHere s n.toNat = false then s.answer q w0 3 [] true
    else instDestroy (s.answer q w0 7 [] false) n.toNat 2 (some (q, w0)))

/-- INST_RESET (R286, R288). -/
def execInstReset (q : Sender) (tag : Byte) (n : BitVec 16) (s : State) : Out :=
  request (.instReset q tag n) 0x82 q s (fun s =>
    let w0 := hostWord 0x82 n tag
    if fromPf0 q = false then s.answer q w0 1 [] true
    else if instHere s n.toNat = false ∨ vinState s n.toNat = 5 then s.answer q w0 3 [] true
    else instReset (s.answer q w0 7 [] false) n.toNat 2 (some (q, w0)))

/-- INST_QUIESCE (R286). -/
def execInstQuiesce (q : Sender) (tag : Byte) (n : BitVec 16) (s : State) : Out :=
  request (.instQuiesce q tag n) 0x83 q s (fun s =>
    let w0 := hostWord 0x83 n tag
    let k := n.toNat
    if fromPf0 q = false then s.answer q w0 1 [] true
    else if 1024 < k ∨ vinState s k ≠ 2 then s.answer q w0 3 [] true
    else if slotsUsed s k = 0 then (setVinState s k 3).answer q w0 0 [] true
    else
      let s := (setVinState s k 3).answer q w0 7 [] false
      s.setInst k { s.inst k with quiescers := (s.inst k).quiescers ++ [(q, w0)] })

/-- INST_RESUME (R286). -/
def execInstResume (q : Sender) (tag : Byte) (n : BitVec 16) (s : State) : Out :=
  request (.instResume q tag n) 0x84 q s (fun s =>
    let w0 := hostWord 0x84 n tag
    if fromPf0 q = false then s.answer q w0 1 [] true
    else if 1024 < n.toNat ∨ vinState s n.toNat ≠ 3 then s.answer q w0 3 [] true
    else (setVinState s n.toNat 2).answer q w0 0 [] true)

/-- The result of INST_QUERY (R286): the state, then bytes 96-117 of the creation block's layout. -/
def instQuery (s : State) (n : Nat) : List Byte :=
  let x := s.inst n
  let idx (a : Nat) : Nat := s.fld a 15 0
  leBytes 1 (vinState s n) ++ leBytes 4 (idx (Reg.VIN_SQ_HEAD n)) ++ leBytes 4 (idx (Reg.VIN_CQ_TAIL n)) ++
    leBytes 2 (idx (Reg.VIN_CMD_HEAD n)) ++ leBytes 2 (idx (Reg.VIN_RSP_TAIL n)) ++
    leBytes 1 (b2n x.cqPhase + 2 * b2n x.rspPhase) ++ [0, 0, 0] ++ leBytes 4 (s.rd (Reg.VIN_SUBMITTED n)).toNat ++
    leBytes 2 (vinGen s n)

/-- INST_QUERY (R286): also accepted from I3C-0. -/
def execInstQuery (q : Sender) (tag : Byte) (n : BitVec 16) (s : State) : Out :=
  request (.instQuery q tag n) 0x85 q s (fun s =>
    let w0 := hostWord 0x85 n tag
    if fromPf0 q = false ∧ q ≠ .agent 0 then s.answer q w0 1 [] true
    else if 1024 < n.toNat then s.answer q w0 6 [] true
    else s.answer q w0 0 (instQuery s n.toNat) true)

/-- Why a DIRTY_START is refused (R286, R290).
DEDUCED (log entry 49). -/
def dirtyStartStatus (s : State) (q : Sender) (n base depth : Nat) : Nat :=
  if fromPf0 q = false ∨ hasFeature s 0 6 = false then 1
  else if freeWindows s = 0 then 2
  else if instHere s n = false ∨ (s.inst n).dirty.isSome = true then 3
  else if depth < 8 ∨ 16 < depth ∨ base % 4096 ≠ 0 then 6
  else 0

/-- DIRTY_START (R290): the ring's base in PF0's memory and its depth as log2. -/
def execDirtyStart (q : Sender) (tag : Byte) (n : BitVec 16) (base : Dword) (depth : Byte) (s : State) : Out :=
  request (.dirtyStart q tag n base depth) 0x86 q s (fun s =>
    let w0 := hostWord 0x86 n tag
    let k := n.toNat
    let st := dirtyStartStatus s q k base.toNat depth.toNat
    if st ≠ 0 then s.answer q w0 st [] true
    else
      let s := s.wr64 (Reg.VIN_DIRTY_BASE_LO k) (Reg.VIN_DIRTY_BASE_HI k) base.toNat
      let s := setWindows (s.wr (Reg.VIN_DIRTY_IDX k) 0) (freeWindows s - 1)
      let s := s.answer q w0 0 [] true
      s.setInst k { s.inst k with dirty := some { depth := depth.toNat } })

/-- DIRTY_STOP (R292): the final OK waits for the last entry. -/
def execDirtyStop (q : Sender) (tag : Byte) (n : BitVec 16) (s : State) : Out :=
  request (.dirtyStop q tag n) 0x87 q s (fun s =>
    let w0 := hostWord 0x87 n tag
    let k := n.toNat
    if fromPf0 q = false then s.answer q w0 1 [] true
    else if instHere s k = false ∨ (s.inst k).dirty.isNone = true then s.answer q w0 3 [] true
    else
      let s := s.setInst k { s.inst k with stoppers := (s.inst k).stoppers ++ [(q, w0)], stopping := true }
      if (s.inst k).blocked.isEmpty then dirtyEnd s k else s.answer q w0 7 [] false)

/-- POOL_QUERY (R286): HST_POOL, then in later parts the instances in use as a bit map. -/
def execPoolQuery (q : Sender) (tag : Byte) (s : State) : Out :=
  request (.poolQuery q tag) 0x88 q s (fun s =>
    let w0 := hostWord 0x88 0 tag
    if fromPf0 q = false ∧ q ≠ .agent 0 then s.answer q w0 1 [] true
    else s.answer q w0 0 (takePad 52 (leBytes 4 (s.rd Reg.HST_POOL).toNat) ++
      leBytes 129 (maskOf 1025 (fun n => vinState s n != 0))) true)

end Sys2Proof.Machine
end

