-- ==== Sys2Proof/Machine/IlkRows.lean ====
section
/-! DEFINITION. The commands of the processors beyond their instructions, of the Interlocking, and of the resets
(02_wemon.md, 03_interlocking.md, 08_update_recovery.md, 17_power.md). -/

namespace Sys2Proof.Machine

/-! ### Processors -/

/-- ILLEGAL_WORD (R33): a processor executes a word that is no instruction of its profile. -/
def execIllegalWord (p : Proc) (word : Word) (s : State) : Out :=
  act s (fun s =>
    if procReady s p = false ∨ (decodeWop word).any (wopLegal p.profile) = true then s
    else
      let s := awake s p
      match accessFault s p .fetch (pcOf s p).toNat 4 false with
      | some cause => raiseExc s p cause (pcOf s p)
      | none => raiseExc s p 1 (word.zeroExtend 64))

/-- INTERRUPT_TAKEN (R39, R41): core `c` takes its lowest pending enabled interrupt.
DEDUCED (log entry 15). -/
def execInterruptTaken (c : Fin 2) (s : State) : Out :=
  act s (fun s => if procReady s (.core c) then takeInterrupt (awake s (.core c)) c else s)

/-- STEP_LIMIT (R43, R57): the route of section `n` reaches its bound without a verdict. -/
def execStepLimit (n : Fin 32) (s : State) : Out :=
  act s (fun s => match (s.line n.val).route with
    | some r =>
      routeException (s.setLine n.val { s.line n.val with route := some { r with steps := routeBound r } }) n.val 8
    | none => s)

/-- CS_TIMECMP_REACHED (R41, R56): CS_CYCLE of core `c` reaches CS_TIMECMP.
DESIGN CHOICE (log entry 12). -/
def execCsTimecmpReached (c : Fin 2) (s : State) : Out :=
  actSettle s (fun s =>
    let x := s.core c
    s.setCore c { x with cycle := if x.cycle.toNat < x.timecmp.toNat then x.timecmp else x.cycle })

/-- STREAM_TRANSFER_DONE (R48, R246, R284): tag `k` of engine `e` completes with the bytes that the host brought, or
ends with an error of a kind (0 UR, 1 CA, 2 timeout, 3 poisoned). -/
def execStreamTransferDone (e : Fin 512) (k : Nat) (data : HostRead) (kind : Fin 4) (s : State) : Out :=
  actSettle s (fun s => transferDone s e.val k data kind.val)

/-! ### The Interlocking -/

/-- VOTE_MISSING (R71, R72): the arm timeout of handle `h` expires; it is suspended while the relief is absent. -/
def execVoteMissing (h : Fin 4) (s : State) : Out :=
  actSettle s (fun s =>
    if s.ilk.reliefAbsent then s
    else match (s.handle h.val).state with
      | .armed => voteFailed s (some h.val) none 0x32
      | .lodged => voteFailed s none (some h.val) 0x32
      | _ => s)

/-- COMMIT_SERVED (R69, R78): the transaction at the head of the queue is served. -/
def execCommitServed (s : State) : Out := clockedSettle s serveFront

/-- JOURNAL_RECORD_COMPLETE (R77, R80): the journal write in progress ends; not `ok` is a program failure that the
eNVM controller reports. -/
def execJournalRecordComplete (ok : Bool) (s : State) : Out := actSettle s (fun s => journalEnd s ok)

/-- JOURNAL_APPLIED (R77, R78). -/
def execJournalApplied (s : State) : Out := actSettle s journalApplied

/-- JOURNAL_SECTOR_ERASE (R78): sector `k` of the ring is erased, where it may be. -/
def execJournalSectorErase (k : Fin 32) (s : State) : Out :=
  act s (fun s => if sectorFree s k.val then eraseSector s k.val else s)

/-! ### Resets of the signal box (R19, R40, R166, R212, R213, R397, R446) -/

/-- SIGNAL_BOX_RESET (R446): the restart finds the Route Book records in `badRecs` and, with `badMin`, the minimum
versions unreadable. -/
def execSignalBoxReset (badRecs : BitVec 64) (badMin : Bool) (s : State) : Out :=
  actSettle s (fun s => signalBoxReset s (fun c => badRecs.getLsbD c) badMin)

/-- LOCKSTEP_MISMATCH (R212, R213): core `c`'s lockstep pair disagrees; `us` is the time to duty of a failover.
DESIGN CHOICE (log entry 16). -/
def execLockstepMismatch (c : Fin 2) (us : Word) (s : State) : Out :=
  actSettle s (fun s => lockstepMismatch s c us.toNat)

/-- CORE_REJOINED (R213); a release that waited for the relief core follows (R72, R340). -/
def execCoreRejoined (s : State) : Out := actSettle s (fun s => unlockTry (coreRejoined s))

/-- STAGE2_READY (R169): with the version and build that the stage-2 manifest gives. -/
def execStage2Ready (svn build : Word) (s : State) : Out :=
  actSettle s (fun s => stage2Ready s svn.toNat build.toNat)

/-- POWER_ON_RESET (R11, R430): what the always-on domain finds at its power-up is the operands' (PFW_N's level, the supplies,
unreadable eNVM copies, the canary). It needs no power before. -/
def execPowerOnReset (pfwHigh : Bool) (v33 : BitVec 5) (badRecs : BitVec 64) (badMin badLock canaryLost : Bool)
    (corruptLog : List Nat) (s : State) : Out :=
  .next (settle (powerOnReset s ⟨pfwHigh, v33, badRecs, badMin, badLock, canaryLost, corruptLog⟩))

/-- VIN_STBY_LOSS (R383): BACKUP where a cell is present. -/
def execVinStbyLoss (cell : Bool) (s : State) : Out := act s (fun s => vinStbyLoss s cell)

/-- TRST_N_ASSERT (R430): the TAP alone is reset. -/
def execTrstNAssert (s : State) : Out := act s (fun s => { s with tap := .idcode })

end Sys2Proof.Machine
end

