-- ==== Sys2Proof/Machine/RegRows.lean ====
section
/-! DEFINITION. The commands that are reads and writes of registers, one row each for the registers whose write does
more than store (R7, R408-R416). Each names the party that writes; the register's address follows from the row. -/

namespace Sys2Proof.Machine

/-- Whether a party can reach the register space now: a core or an engine that executes, a core within its MPU
windows; the host while the link is up (R44, R270).
DEDUCED (log entry 18). -/
def partyMay (s : State) (p : Party) (k : Access) (a : Nat) : Bool :=
  match p with
  | .core c => procReady s (.core c) && (s.core c).permits k a
  | .engine e => procReady s (.engine e)
  | .inst _ => s.bit Reg.HST_LINK 9
  | _ => true

/-- A word written by a party, with what follows from it.
DEDUCED (log entry 18). -/
def writeRow (p : Party) (a : Nat) (v : Word) (be : BitVec 4) (s : State) : Out :=
  actSettle s (fun s => if partyMay s p .store a then regWrite s p a v be else s)

/-- REGISTER_WRITE (R7, R9, R411, R414): a word written with byte enables, or, where `hi` is given, the two words of
an aligned 8-byte write.
DEDUCED (log entry 18). -/
def execRegisterWrite (p : Party) (a v : Word) (be : BitVec 4) (hi : Option Word) (s : State) : Out :=
  actSettle s (fun s =>
    if a.toNat % 4 = 0 ∧ partyMay s p .store a.toNat = true then
      match hi with
      | none => regWrite s p a.toNat v be
      | some h => if a.toNat % 8 = 0 then regWrite64 s p a.toNat v h else s
    else s)

/-- LOW_WORD_READ (R413): a read of the low word of a pair; the high word waits in the reader's holding register. -/
def execLowWordRead (p : Party) (a : Word) (s : State) : Out :=
  act s (fun s =>
    if isPairLow a.toNat = true ∧ partyMay s p .load a.toNat = true then (readReg s p a.toNat).2 else s)

/-! ### Yards (R28, R42, R50-R56, R228) -/

/-- YARD_RUN_WRITE (R50): YRD_y_CTL written with run; bar_break is not written. -/
def execYardRunWrite (p : Party) (y : Fin 16) (run : Bool) (s : State) : Out :=
  writeRow p (Reg.YRD_CTL y.val) (BitVec.ofNat 32 (b2n run)) 0xF s

/-- BAR_BREAK (R52): YRD_y_CTL.bar_break written, run as it stands. -/
def execBarBreak (p : Party) (y : Fin 16) (s : State) : Out :=
  writeRow p (Reg.YRD_CTL y.val) (BitVec.ofNat 32 (s.fld (Reg.YRD_CTL y.val) 0 0 + 2)) 0xF s

/-- DOORBELL (R56): YRD_y_DOORBELL written with ones for the engines to wake. -/
def execDoorbell (p : Party) (y : Fin 16) (m : Word) (s : State) : Out :=
  writeRow p (Reg.YRD_DOORBELL y.val) m 0xF s

/-- FAULT_MAP_RESTART (R42): YRD_y_FAULT_MAP written with ones for the engines to restart. -/
def execFaultMapRestart (p : Party) (y : Fin 16) (m : Word) (s : State) : Out :=
  writeRow p (Reg.YRD_FAULT_MAP y.val) m 0xF s

/-- BCAST_GO (R53). -/
def execBcastGo (p : Party) (s : State) : Out := writeRow p Reg.YRD_BCAST_GO 1 0xF s

/-- BCAST_DONE (R54): the broadcast in progress completes. -/
def execBcastDone (s : State) : Out := actSettle s bcastDone

/-- YRD_KEY_GO (R228). -/
def execYrdKeyGo (p : Party) (s : State) : Out := writeRow p Reg.YRD_KEY_GO 1 0xF s

/-- KEY_LOAD_DONE (R228): the key load in progress completes. -/
def execKeyLoadDone (s : State) : Out := actSettle s keyDone

/-- BARRIER_RELEASE (R51): the release that follows the last arrival at a barrier of yard `y`. -/
def execBarrierRelease (y : Fin 16) (s : State) : Out := act s (fun s => settleBars s y.val)

/-! ### Sections and the Depot (R102-R105, R132, R137, R146, R151) -/

/-- DEV_GO (R105): SEC_n_DEV_GO.go written for a section, the H-port (32) or the V-port (33). -/
def execDevGo (p : Party) (n : Fin 34) (s : State) : Out := writeRow p (Reg.SEC_DEV_GO n.val) 1 0xF s

/-- PROF_CHECK (R102). -/
def execProfCheck (p : Party) (n : Fin 34) (s : State) : Out := writeRow p (Reg.SEC_PROF_CHECK n.val) 1 0xF s

/-- PROFILE_WRITE (R103): word `k` of the installed profile written, or SEC_n_CFG. -/
def execProfileWrite (p : Party) (n : Fin 34) (k : Option (Fin 128)) (v : Word) (be : BitVec 4) (s : State) : Out :=
  writeRow p (match k with
    | some k => Reg.SEC_PROFILE n.val k.val
    | none => Reg.SEC_CFG n.val) v be s

/-- The policy registers of R137: POL, TIMEOUT, ADDR_OPS, WEL_OPS and STATUS_0 to STATUS_3. -/
def policyReg (n : Nat) (k : Fin 8) : Nat :=
  if k.val < 4 then Reg.SEC_POL n + 4 * k.val else Reg.SEC_STATUS n (k.val - 4)

/-- POLICY_WRITE (R137). -/
def execPolicyWrite (p : Party) (n : Fin 34) (k : Fin 8) (v : Word) (be : BitVec 4) (s : State) : Out :=
  writeRow p (policyReg n.val k) v be s

/-- PGM_LOAD (R132): SEC_n_PGM_LOAD.go written. -/
def execPgmLoad (p : Party) (n : Fin 32) (s : State) : Out := writeRow p (Reg.SEC_PGM_LOAD n.val) 1 0xF s

/-- EXTENT_STATE_WRITE (R146): DEP_EXT_x_CTL written. -/
def execExtentStateWrite (p : Party) (x : Fin 256) (v : Word) (be : BitVec 4) (s : State) : Out :=
  writeRow p (Reg.DEP_EXT_CTL x.val) v be s

/-- HOLD_PEND_WRITE (R151): DEP_HOLD_PEND written with ones, its low or high word. -/
def execHoldPendWrite (p : Party) (high : Bool) (m : Word) (s : State) : Out :=
  writeRow p (if high then Reg.DEP_HOLD_PEND_HI else Reg.DEP_HOLD_PEND_LO) m 0xF s

/-! ### Hold lines (R160) -/

/-- HOLD_CFG_WRITE (R160): HLD_LCFG_l of a line written, or HLD_FILTER. -/
def execHoldCfgWrite (p : Party) (l : Option (Fin 96)) (v : Word) (be : BitVec 4) (s : State) : Out :=
  writeRow p (match l with
    | some l => Reg.HLD_LCFG l.val
    | none => Reg.HLD_FILTER) v be s

/-- HOLD_LOCK_WRITE (R160). -/
def execHoldLockWrite (p : Party) (s : State) : Out := writeRow p Reg.HLD_LOCK 1 0xF s

/-! ### The Interlocking, Examiner, signature unit and measurements (R73, R218-R222, R232, R306) -/

/-- ILK_ARM_WRITE (R73): ones written for the handles to disarm. -/
def execIlkArmWrite (p : Party) (m : Word) (s : State) : Out := writeRow p Reg.ILK_ARM m 0xF s

/-- EXM_SUBMIT (R218): a descriptor address written to EXM_LANE_l_SUBMIT. -/
def execExmSubmit (p : Party) (l : Fin 34) (desc : Word) (s : State) : Out :=
  writeRow p (Reg.EXM_LANE_SUBMIT l.val) desc 0xF s

/-- EXM_ABORT_HOLDER (R222). -/
def execExmAbortHolder (p : Party) (l : Fin 34) (s : State) : Out := writeRow p (Reg.EXM_LANE_ABORT l.val) 1 0xF s

/-- EXM_ABORT_MINE (R222). -/
def execExmAbortMine (p : Party) (l : Fin 34) (s : State) : Out := writeRow p (Reg.EXM_LANE_ABORT l.val) 2 0xF s

/-- EXM_END (R220). -/
def execExmEnd (p : Party) (l : Fin 34) (s : State) : Out := writeRow p (Reg.EXM_LANE_END l.val) 1 0xF s

/-- SIG_ABORT (R232): SIG_ABORT.mine written. -/
def execSigAbort (p : Party) (s : State) : Out := writeRow p Reg.SIG_ABORT 1 0xF s

/-- MREG_EXTEND_GO (R306): ATT_MREG_EXT_CTL written with go. -/
def execMregExtendGo (p : Party) (v : Word) (s : State) : Out :=
  writeRow p Reg.ATT_MREG_EXT_CTL (v ||| 0x80000000) 0xF s

/-! ### Instances (R274, R281, R282, R288, R291) -/

/-- INSTANCE_RESET_WRITE (R288): VIN_n_CTL.reset written. -/
def execInstanceResetWrite (p : Party) (n : Fin 1025) (s : State) : Out := writeRow p (Reg.VIN_CTL n.val) 4 0xF s

/-- ENABLE_WRITE (R281): VIN_n_CTL.enable written. -/
def execEnableWrite (p : Party) (n : Fin 1025) (s : State) : Out := writeRow p (Reg.VIN_CTL n.val) 1 0xF s

/-- FEATURES_OK_WRITE (R274): VIN_n_CTL.features_ok written. -/
def execFeaturesOkWrite (p : Party) (n : Fin 1025) (s : State) : Out := writeRow p (Reg.VIN_CTL n.val) 2 0xF s

/-- SQ_TAIL_DOORBELL (R282). -/
def execSqTailDoorbell (p : Party) (n : Fin 1025) (v : Word) (s : State) : Out :=
  writeRow p (Reg.VIN_SQ_TAIL n.val) v 0xF s

/-- CMD_TAIL_DOORBELL (R282). -/
def execCmdTailDoorbell (p : Party) (n : Fin 1025) (v : Word) (s : State) : Out :=
  writeRow p (Reg.VIN_CMD_TAIL n.val) v 0xF s

/-- CQ_HEAD_DOORBELL (R282). -/
def execCqHeadDoorbell (p : Party) (n : Fin 1025) (v : Word) (s : State) : Out :=
  writeRow p (Reg.VIN_CQ_HEAD n.val) v 0xF s

/-- RSP_HEAD_DOORBELL (R282). -/
def execRspHeadDoorbell (p : Party) (n : Fin 1025) (v : Word) (s : State) : Out :=
  writeRow p (Reg.VIN_RSP_HEAD n.val) v 0xF s

/-- DIRTY_DB (R291): VIN_0_DIRTY_DB written. -/
def execDirtyDb (p : Party) (v : Word) (s : State) : Out := writeRow p Reg.VIN_0_DIRTY_DB v 0xF s

/-! ### Mailboxes (R319, R320, R325) -/

/-- MBX_DATA_WRITE (R319): data word `k` of channel `n` written. -/
def execMbxDataWrite (p : Party) (n : Fin 64) (k : Fin 16) (v : Word) (be : BitVec 4) (s : State) : Out :=
  writeRow p (Reg.MBX_DATA n.val k.val) v be s

/-- MBX_GO (R319): MBX_n_CTL written with go and `len`. -/
def execMbxGo (p : Party) (n : Fin 64) (len : BitVec 5) (s : State) : Out :=
  writeRow p (Reg.MBX_CTL n.val) (BitVec.ofNat 32 (1 + 256 * len.toNat)) 0xF s

/-- MBX_TAKE (R320): MBX_n_CTL read. -/
def execMbxTake (p : Party) (n : Fin 64) (s : State) : Out :=
  actSettle s (fun s =>
    if partyMay s p .load (Reg.MBX_CTL n.val) then (readReg s p (Reg.MBX_CTL n.val)).2 else s)

/-- MBX_DONE (R320): MBX_n_DONE written. -/
def execMbxDone (p : Party) (n : Fin 64) (s : State) : Out := writeRow p (Reg.MBX_DONE n.val) 1 0xF s

/-- MBX_AGT_RESET (R325): MBX_AGT_a_RESET written. -/
def execMbxAgtReset (p : Party) (a : Fin 4) (s : State) : Out := writeRow p (Reg.MBX_AGT_RESET a.val) 1 0xF s

/-! ### Tamper, recorder, power, snapshots, eNVM (R346, R358, R388, R398, R400, R407, R416) -/

/-- TMP_LOCK_WRITE (R346): TMP_CTL.lock written. -/
def execTmpLockWrite (p : Party) (s : State) : Out := writeRow p Reg.TMP_CTL 1 0xF s

/-- The window cursors (R358): the signal box's, PF0's and the four agents'. -/
def cursorReg (k : Fin 6) : Nat :=
  if k.val = 0 then Reg.EVR_CURSOR else if k.val = 1 then Reg.VIN_0_EVR_CURSOR
  else 0x20060200 + 128 * (k.val - 2)

/-- EVR_CURSOR_WRITE (R358). -/
def execEvrCursorWrite (p : Party) (k : Fin 6) (v : Word) (s : State) : Out := writeRow p (cursorReg k) v 0xF s

/-- SLEEP_RETRY (R388): PWR_DOM_d_CFG written with its sleep state as it stands and retry. -/
def execSleepRetry (p : Party) (d : Fin 25) (s : State) : Out :=
  if d.val = 0 then act s id
  else writeRow p (Reg.PWR_DOM_CFG d.val) (s.rd (Reg.PWR_DOM_CFG d.val) ||| 4) 0xF s

/-- YARD_OP_WRITE (R398). -/
def execYardOpWrite (p : Party) (y : Fin 16) (v : Word) (be : BitVec 4) (s : State) : Out :=
  writeRow p (Reg.PWR_YARD_OP y.val) v be s

/-- CLK_CTL_WRITE (R400). -/
def execClkCtlWrite (p : Party) (v : Word) (be : BitVec 4) (s : State) : Out := writeRow p Reg.PWR_CLK_CTL v be s

/-- SBX_SNAP (R416): SBX_SNAP.go written. -/
def execSbxSnap (p : Party) (s : State) : Out := writeRow p Reg.SBX_SNAP 1 0xF s

/-- NVC_PROGRAM (R407): NVC_CTL written with op 1 and go. -/
def execNvcProgram (p : Party) (s : State) : Out := writeRow p Reg.NVC_CTL 0x80000001 0xF s

/-- NVC_ERASE (R407): NVC_CTL written with op 2 and go. -/
def execNvcErase (p : Party) (s : State) : Out := writeRow p Reg.NVC_CTL 0x80000002 0xF s

/-- NVC_DONE (R407): the operation in progress ends; `bad` is a failure of the cells. -/
def execNvcDone (bad : Bool) (s : State) : Out := actSettle s (fun s => nvcDone s bad)

end Sys2Proof.Machine
end

