-- ==== Sys2Proof/Machine/TmpRows.lean ====
section
/-! DEFINITION. The commands of the tamper and environment monitors (R330-R347). -/

namespace Sys2Proof.Machine

/-- DETECTOR_EVENT (R330-R333): detector `det` (0 detector 1, 1 detector 2) of source `x` sees its condition and raises an
event synchronised at tick `stamp`, which never runs behind the counter; `lasting` says that the condition still stands.
`extra` is the address, value and shadow of a mismatch for LOGIC detector 1 (R345). An event wakes SBOX (R393).
DESIGN CHOICE (log entry 57). -/
def execDetectorEvent (x : Fin 15) (det : Fin 2) (stamp : BitVec 48) (lasting : Bool) (extra : List Byte) (s : State) : Out :=
  actSettle s (fun s =>
    let more := if x.val = 14 ∧ det.val = 0 then takePad 12 extra else []
    let s := setActive s x.val det.val lasting
    if detectorOn s x.val det.val then
      wake (detectorEvent s x.val det.val (max stamp.toNat (vbatTick s)) more) 4
    else s)

/-- LOCKDOWN_RECORD_JOURNALED (R338): the evidence counter reaches the target of the journaled record. -/
def execLockdownRecordJournaled (s : State) : Out :=
  actSettle s (fun s => match s.tmp.target with
    | some t => advanceEvidence { s with tmp := { s.tmp with target := none } } t
    | none => s)

/-- The sources and detector masks of a sample. -/
def seenSources (seen : BitVec 30) : List (Nat × Nat) :=
  (List.range 15).filterMap (fun x =>
    let d := bitsOf seen.toNat (2 * x + 1) (2 * x)
    if d = 0 then none else some (x, d))

/-- BACKUP_SAMPLE (R341): in BACKUP, the sample taken after `quiet` samples that saw nothing; bits 2s and 2s + 1 of `seen`
are the detectors of source s. Without a cell nothing is sampled. -/
def execBackupSample (quiet : Nat) (seen : BitVec 30) (s : State) : Out :=
  .next (if s.pwr.down = true ∧ s.tmp.cell = true then
      let t := (vbatTick s + 32 * (quiet + 1)) % 2 ^ 48
      backupSources (tickTo s t) t (seenSources seen)
    else s)

/-- CELL_WINDOW_TIMEOUT (R344): the window has been open for TMP_CELL_WIN seconds; `cell` tells whether the comparator
shows a cell.
DESIGN CHOICE (log entry 2). -/
def execCellWindowTimeout (cell : Bool) (s : State) : Out :=
  actSettle s (fun s => if s.bit Reg.TMP_STAT 5 then cellClose s cell true else s)

/-! ### Requests (R347) -/

/-- The origins whose tamper, life-cycle and power requests are accepted (R347, R381, R402). -/
def mayControl (q : Sender) : Bool := q == .agent 0 || q == .inst 0

/-- A request with a ticket of scope bit `scope`: DENIED from another origin or without such a ticket, else `f` of the
ticket's slot (R347, R376).
DEDUCED (log entry 60). -/
def withTicket (s : State) (q : Sender) (w0 : Nat) (t : Word) (scope : Nat) (f : Nat → State) : State :=
  if mayControl q = false then s.answer q w0 1 [] true
  else match validTicket s q t scope with
    | none => s.answer q w0 1 [] true
    | some i => f i

/-- UNLOCK (R340, R347): PENDING first; the release waits while the relief core is absent. -/
def execUnlock (q : Sender) (tag : Byte) (ticket : Word) (s : State) : Out :=
  request (.unlock q tag ticket) 0x50 q s (fun s =>
    let w0 := reqWord 0x50 0 0 tag.toNat
    withTicket s q w0 ticket 0 (fun i =>
      if lockedDown s = false then (useTicket s i 0x50).answer q w0 3 [] true
      else if s.tmp.unlock.isSome then (useTicket s i 0x50).answer q w0 2 [] true
      else
        let s := s.answer q w0 7 [] false
        unlockTry { s with tmp := { s.tmp with unlock := some (q, w0, ticket.toNat) } }))

/-- CELL_SERVICE_OPEN (R344, R347). -/
def execCellServiceOpen (q : Sender) (tag : Byte) (ticket : Word) (s : State) : Out :=
  request (.cellServiceOpen q tag ticket) 0x51 q s (fun s =>
    let w0 := reqWord 0x51 0 0 tag.toNat
    withTicket s q w0 ticket 3 (fun i =>
      let s := useTicket s i 0x51
      if s.bit Reg.TMP_STAT 5 then s.answer q w0 2 [] true
      else ((s.setBit Reg.TMP_STAT 5 true).log Ev.CELL_WINDOW .tamper 13 (leBytes 1 1)).answer q w0 0 [] true))

/-- CELL_SERVICE_CLOSE (R344, R347); `cell` tells whether the comparator shows a cell of at least 2.3 V. -/
def execCellServiceClose (q : Sender) (tag : Byte) (cell : Bool) (s : State) : Out :=
  request (.cellServiceClose q tag cell) 0x52 q s (fun s =>
    let w0 := reqWord 0x52 0 0 tag.toNat
    if mayControl q = false then s.answer q w0 1 [] true
    else if s.bit Reg.TMP_STAT 5 = false then s.answer q w0 3 [] true
    else (cellClose s cell false).answer q w0 0 [] true)

/-- The sources that the ticket in slot `i` permits (R374). -/
def ticketSources (s : State) (i : Nat) : Nat := ((ticketAt s i).map Ticket.sources).getD 0

/-- FUSE_SOURCE (R335, R347): PENDING first, then the outcome of the blow. The fuses are programmed in BLANK and PROD only
(R365, R373); elsewhere the request is answered STATE.
DEDUCED (log entry 60). -/
def execFuseSource (q : Sender) (tag : Byte) (src : BitVec 16) (ticket : Word) (s : State) : Out :=
  request (.fuseSource q tag src ticket) 0x53 q s (fun s =>
    let x := src.toNat
    let w0 := reqWord 0x53 x 0 tag.toNat
    withTicket s q w0 ticket 4 (fun i =>
      if 14 ≤ x then (useTicket s i 0x53).answer q w0 6 [] true
      else if bitOf (ticketSources s i) x = false then s.answer q w0 1 [] true
      else
        let s := useTicket s i 0x53
        if s.bit Reg.TMP_FUSED x then s.answer q w0 0 [] true
        else if lcState s ≠ 0 ∧ lcState s ≠ 2 then s.answer q w0 3 [] true
        else (blowFuse (s.answer q w0 7 [] false) x).answer q w0 0 [] true))

/-- TAMPER_STATUS (R347): also from I3C-1. -/
def execTamperStatus (q : Sender) (tag : Byte) (s : State) : Out :=
  request (.tamperStatus q tag) 0x54 q s (fun s =>
    let w0 := reqWord 0x54 0 0 tag.toNat
    if mayControl q = false ∧ q ≠ .agent 1 then s.answer q w0 1 [] true
    else
      let r := [Reg.TMP_STAT, Reg.TMP_ALARM, Reg.TMP_ACTIVE, Reg.TMP_FUSED, Reg.TMP_EVIDENCE]
      s.answer q w0 0 (r.flatMap (fun a => leBytes 4 (s.rd a).toNat)) true)

end Sys2Proof.Machine
end

