-- ==== Sys2Proof/Machine/LcsRows.lean ====
section
/-! DEFINITION. The life-cycle requests and the commands of the memory test registers (R364-R381). -/

namespace Sys2Proof.Machine

/-- A life-cycle request of an accepted origin; any other is answered DENIED (R381). -/
def lcsRequest (c : Request) (code : Nat) (q : Sender) (w0 : Nat) (s : State) (f : State → State) : Out :=
  request c code q s (fun s => if mayControl q then f s else s.answer q w0 1 [] true)

/-- STAFF_NONCE (R376): STATE while the entropy source fails. -/
def execStaffNonce (q : Sender) (tag : Byte) (s : State) : Out :=
  let w0 := reqWord 0xA0 0 0 tag.toNat
  lcsRequest (.staffNonce q tag) 0xA0 q w0 s (fun s =>
    if rbgOk s = false then s.answer q w0 3 [] true
    else
      let r := drawRandom s 32
      let s := ({ r.2 with lcs := { r.2.lcs with nonce := some r.1 } } : State).setBit Reg.LCS_NONCE_STAT 0 true
      s.answer q w0 0 r.1 true)

/-- LCS_DATA (R381): 56 bytes for the upload buffer at `off`.
DEDUCED (log entry 60). -/
def execLcsData (q : Sender) (tag : Byte) (off : Word) (data : List Byte) (s : State) : Out :=
  let w0 := reqWord 0xA1 0 0 tag.toNat
  lcsRequest (.lcsData q tag off data) 0xA1 q w0 s (fun s =>
    let o := off.toNat
    let buf := if o = 0 then [] else s.lcs.buf
    if o ≠ buf.length ∨ 65536 < o + 56 then s.answer q w0 6 [] true
    else ({ s with lcs := { s.lcs with buf := buf ++ takePad 56 data } } : State).answer q w0 0 [] true)

/-- The first check that the staff uploaded in `len` bytes fails (R375).
DEDUCED (log entry 60). -/
def submitFault (s : State) (len : Nat) : Option Nat :=
  if s.lcs.buf.length < len then some 1 else staffFault s (s.lcs.buf.take len)

/-- STAFF_SUBMIT (R375). -/
def execStaffSubmit (q : Sender) (tag : Byte) (len : Word) (s : State) : Out :=
  let w0 := reqWord 0xA2 0 0 tag.toNat
  lcsRequest (.staffSubmit q tag len) 0xA2 q w0 s (fun s =>
    match submitFault s len.toNat with
    | some k => (s.fwLog Ev.STAFF_REFUSED 0 (leBytes 1 k)).answer q w0 4 (leBytes 1 k) true
    | none =>
      let s := acceptStaff s q (s.lcs.buf.take len.toNat)
      s.answer q w0 0 (leBytes 4 (s.rd Reg.LCS_STAFF_COUNT).toNat) true)

/-! ### Transitions (R367-R370) -/

/-- Whether an update, recovery, handover or epoch commit is open (R370). -/
def transitBusy (s : State) : Bool :=
  s.bit Reg.RTB_UPD_STAT 6 || s.bit Reg.RTB_RCV_STAT 6 || s.fld Reg.RTB_HND_STAT 3 0 != 0 || ldgCommitting s

/-- Whether the ticket `t` authorises the transition of LC_TRANSIT into `st` (R369, R374).
DEDUCED (log entry 60). -/
def transitTicket (s : State) (t : Ticket) (st : Nat) : Bool :=
  t.target == st && (st == 4 || t.signer == 1) && (st != 2 || lcState s != 3 || keyUsable s 1 t.key)

/-- Whether R369 has a transition of LC_TRANSIT from the current state into `st`, with its precondition met; in lockdown
only EOL is accepted (R370). -/
def transitAllowed (s : State) (st : Nat) : Bool :=
  let cur := lcState s
  if st = 4 then cur == 1 || cur == 2 || cur == 3
  else if lockedDown s = true ∨ st ≠ 2 then false
  else if cur = 1 then (List.range 4).any (keyUsable s 1)
  else cur == 3 && decide (lcGen s ≤ 3)

/-- A transition authorised and allowed (R367, R370): the platform is held and isolated, the record and the transit
codeword are written, OK is answered. SIGNAL_BOX_RESET follows.
DEDUCED (log entry 60). -/
def lcTransit (s : State) (q : Sender) (w0 st : Nat) (ticket : Word) (t : Ticket) : State :=
  if transitBusy s then s.answer q w0 2 [] true
  else
    let s := (fwCommit s (safeRecords s)).1
    (transitBegin s s.dutyOrigin st ticket.toNat t.digest).answer q w0 0 [] true

/-- LC_TRANSIT (R369, R370, R381). -/
def execLcTransit (q : Sender) (tag : Byte) (target : BitVec 16) (ticket : Word) (s : State) : Out :=
  request (.lcTransit q tag target ticket) 0xA3 q s (fun s =>
    let st := target.toNat
    let w0 := reqWord 0xA3 st 0 tag.toNat
    withTicket s q w0 ticket 2 (fun i =>
      match ticketAt s i with
      | none => s.answer q w0 1 [] true
      | some t =>
        if transitTicket s t st = false then s.answer q w0 1 [] true
        else
          let s := useTicket s i 0xA3
          if transitAllowed s st = false then s.answer q w0 3 [] true
          else lcTransit s q w0 st ticket t))

/-- ERASE_USER_SECRETS (R369, R370, R381). -/
def execEraseUserSecrets (q : Sender) (tag : Byte) (ticket : Word) (s : State) : Out :=
  request (.eraseUserSecrets q tag ticket) 0xA4 q s (fun s =>
    let w0 := reqWord 0xA4 0 0 tag.toNat
    withTicket s q w0 ticket 5 (fun i =>
      match ticketAt s i with
      | none => s.answer q w0 1 [] true
      | some t =>
        if t.signer ≠ 1 then s.answer q w0 1 [] true
        else
          let s := useTicket s i 0xA4
          if lcState s ≠ 2 ∨ lockedDown s = true then s.answer q w0 3 [] true
          else lcTransit s q w0 3 ticket t))

/-! ### Debug, keys, status (R379, R381) -/

/-- DEBUG_ARM (R379): the staff's level stands pending in its anti-replay entry; STATE outside PROD_OPEN. -/
def execDebugArm (q : Sender) (tag : Byte) (ticket : Word) (s : State) : Out :=
  request (.debugArm q tag ticket) 0xA5 q s (fun s =>
    let w0 := reqWord 0xA5 0 0 tag.toNat
    withTicket s q w0 ticket 1 (fun i =>
      let level := (((ticketAt s i).map Ticket.level).getD 0) % 4
      let s := useTicket s i 0xA5
      if lcState s ≠ 3 then s.answer q w0 3 [] true
      else
        let es := s.lcs.staffs.map (fun e => if e.counter = ticket.toNat then { e with pending := level + 1 } else e)
        ({ s with lcs := { s.lcs with staffs := es } } : State).answer q w0 0 [] true))

/-- OWNER_KEY_SET (R381): `cosign` is word 1, of which bit 0 sets owner_cosign.
DEDUCED (log entry 60). -/
def execOwnerKeySet (q : Sender) (tag : Byte) (slot : BitVec 16) (cosign : Word) (hash : List Byte) (s : State) : Out :=
  let i := slot.toNat
  let w0 := reqWord 0xA6 i 0 tag.toNat
  lcsRequest (.ownerKeySet q tag slot cosign hash) 0xA6 q w0 s (fun s =>
    if lcState s ≠ 1 ∧ lcState s ≠ 3 then s.answer q w0 3 [] true
    else if 4 ≤ i then s.answer q w0 6 [] true
    else if s.bit Reg.LCS_OTP_KEYS i then s.answer q w0 3 [] true
    else
      let h := takePad 48 hash
      let s := s.wrBytes (Reg.OTP_OKEY i 0) 12 h
      let s := s.setBit Reg.LCS_OTP_KEYS i (h.any (· != 0xFF))
      let s := if cosign.getLsbD 0 then s.setBit Reg.LCS_OTP_KEYS 12 true else s
      (s.fwLog Ev.OWNER_KEY_SET 0 (leBytes 1 i ++ h.take 28)).answer q w0 0 [] true)

/-- LC_STATUS (R381): also from I3C-1. -/
def execLcStatus (q : Sender) (tag : Byte) (s : State) : Out :=
  request (.lcStatus q tag) 0xA7 q s (fun s =>
    let w0 := reqWord 0xA7 0 0 tag.toNat
    if mayControl q = false ∧ q ≠ .agent 1 then s.answer q w0 1 [] true
    else s.answer q w0 0 ([Reg.LCS_STATE, Reg.LCS_OTP_KEYS, Reg.LCS_STAFF_COUNT].flatMap
      (fun a => leBytes 4 (s.rd a).toNat)) true)

/-- KEYSTORE_LOAD (R371, R381): the first `len` bytes of the buffer are staged. -/
def execKeystoreLoad (q : Sender) (tag : Byte) (len : Word) (s : State) : Out :=
  let w0 := reqWord 0xA8 0 0 tag.toNat
  lcsRequest (.keystoreLoad q tag len) 0xA8 q w0 s (fun s =>
    if lcState s ≠ 1 ∧ lcState s ≠ 3 then s.answer q w0 3 [] true
    else if s.lcs.buf.length < len.toNat then s.answer q w0 6 [] true
    else ({ s with lcs := { s.lcs with staged := some (s.lcs.buf.take len.toNat) } } : State).answer q w0 0 [] true)

/-! ### Memory tests (R380) -/

/-- A write of MTM_CTL with go by a party. -/
def mtmWrite (p : Party) (test target : Nat) (s : State) : Out :=
  writeRow p Reg.MTM_CTL (BitVec.ofNat 32 (test + target * 2 ^ 4 + 2 ^ 31)) 0xF s

/-- MTM_MARCH (R380). -/
def execMtmMarch (p : Party) (target : Byte) (s : State) : Out := mtmWrite p 0 target.toNat s

/-- MTM_CHECKERBOARD (R380). -/
def execMtmCheckerboard (p : Party) (target : Byte) (s : State) : Out := mtmWrite p 1 target.toNat s

/-- MTM_RETENTION (R380). -/
def execMtmRetention (p : Party) (target : Byte) (s : State) : Out := mtmWrite p 2 target.toNat s

/-- MTM_NVM_MARGIN_0 (R380). -/
def execMtmNvmMargin0 (p : Party) (target : Byte) (s : State) : Out := mtmWrite p 3 target.toNat s

/-- MTM_NVM_MARGIN_1 (R380). -/
def execMtmNvmMargin1 (p : Party) (target : Byte) (s : State) : Out := mtmWrite p 4 target.toNat s

/-- LC_ADVANCE (R369, R380): BLANK to TEST. -/
def execLcAdvance (p : Party) (s : State) : Out := mtmWrite p 8 0 s

/-- LC_EOL (R369, R380): BLANK to EOL. -/
def execLcEol (p : Party) (s : State) : Out := mtmWrite p 9 0 s

/-- MTM_DONE (R380): the memory test that runs ends; `fail` gives the first failing address. -/
def execMtmDone (fail : Option Word) (s : State) : Out :=
  actSettle s (fun s => mtmEnd s fail.isSome (fail.getD 0).toNat)

/-! ### The JTAG TAP (R378) -/

/-- The TAP's instruction as the debug level lets it act: above the level it is BYPASS.
PRESUMED (log entry 64). -/
def tapSelect (s : State) (level : Nat) (i : TapInstr) : State :=
  { s with tap := if level ≤ debugLevel s then i else .bypass }

/-- IDCODE (R378). -/
def execIdcode (s : State) : Out := act s (fun s => tapSelect s 0 .idcode)

/-- BYPASS (R378). -/
def execBypass (s : State) : Out := act s (fun s => tapSelect s 0 .bypass)

/-- EXTEST (R378). -/
def execExtest (s : State) : Out := act s (fun s => tapSelect s 1 .extest)

/-- SAMPLE_PRELOAD (R378). -/
def execSamplePreload (s : State) : Out := act s (fun s => tapSelect s 1 .samplePreload)

/-- INTEST (R378). -/
def execIntest (s : State) : Out := act s (fun s => tapSelect s 1 .intest)

end Sys2Proof.Machine
end

