-- ==== Sys2Proof/Machine/MbxRows.lean ====
section
/-! DEFINITION. The commands of the mailboxes beyond register writes (R318-R328), and the knock (R394). -/

namespace Sys2Proof.Machine

/-- I3C_TARGET_RESET (R325): the I3C Target Reset Pattern on I3C-0 or I3C-1. -/
def execI3cTargetReset (a : Fin 2) (s : State) : Out := actSettle s (fun s => agentReset s (a.castLE (by decide)))

/-- CHANNEL_SHUTDOWN_DONE (R328): the reset of identity `id` has been applied to its channels. -/
def execChannelShutdownDone (id : BitVec 6) (s : State) : Out :=
  actSettle s (fun s => if s.mbx.down.contains id.toNat then mbxShutdownDone s id.toNat else s)

/-- MBX_STALL (R324): channel `n` and one opposite have stayed posted and untaken for 10 ms. -/
def execMbxStall (n : Fin 64) (s : State) : Out := actSettle s (fun s => mbxStall s n.val)

/-- AGENT_RETURN (R326). -/
def execAgentReturn (a : Fin 4) (s : State) : Out := actSettle s (fun s => agentReturn s a)

/-- KNOCK (R394): 0xC3 then 0x3C on I3C-0, their STOPs `ticks` apart. A target that is not enabled ignores its bus. -/
def execKnock (ticks : Nat) (s : State) : Out :=
  actSettle s (fun s =>
    if s.bit (Reg.SBD_TGT_CFG 0) 8 = false then s
    else
      let r := knockCounts s ticks
      if r.1 then wake (pwrLog r.2 Ev.KNOCK 0 (leBytes 1 ticks)) 5 else r.2)

end Sys2Proof.Machine
end

