-- ==== Sys2Proof/Machine/MemFlow.lean ====
section
/-! DEFINITION. The meanings of the memory and control flow instructions of the Wemon processors (R34). -/

namespace Sys2Proof.Machine

/-- LD_B (R34): loads 1 byte, zero-extended. -/
def execLdb (p : Proc) (rd ra : RegNo) (imm : BitVec 16) (s : State) : Out :=
  act s (runWop p (.ldb rd ra imm) (opLoad 1 p rd ra imm))

/-- LD_H (R34): loads 2 bytes, zero-extended. -/
def execLdh (p : Proc) (rd ra : RegNo) (imm : BitVec 16) (s : State) : Out :=
  act s (runWop p (.ldh rd ra imm) (opLoad 2 p rd ra imm))

/-- LD_W (R34): loads 4 bytes, zero-extended. -/
def execLdw (p : Proc) (rd ra : RegNo) (imm : BitVec 16) (s : State) : Out :=
  act s (runWop p (.ldw rd ra imm) (opLoad 4 p rd ra imm))

/-- LD_D (R34): loads 8 bytes. -/
def execLdd (p : Proc) (rd ra : RegNo) (imm : BitVec 16) (s : State) : Out :=
  act s (runWop p (.ldd rd ra imm) (opLoad 8 p rd ra imm))

/-- ST_B (R34): stores the low byte of a register. -/
def execStb (p : Proc) (rs ra : RegNo) (imm : BitVec 16) (s : State) : Out :=
  actSettle s (runWop p (.stb rs ra imm) (opStore 1 p rs ra imm))

/-- ST_H (R34): stores the low 2 bytes of a register. -/
def execSth (p : Proc) (rs ra : RegNo) (imm : BitVec 16) (s : State) : Out :=
  actSettle s (runWop p (.sth rs ra imm) (opStore 2 p rs ra imm))

/-- ST_W (R34): stores the low 4 bytes of a register. -/
def execStw (p : Proc) (rs ra : RegNo) (imm : BitVec 16) (s : State) : Out :=
  actSettle s (runWop p (.stw rs ra imm) (opStore 4 p rs ra imm))

/-- ST_D (R34): stores 8 bytes. -/
def execStd (p : Proc) (rs ra : RegNo) (imm : BitVec 16) (s : State) : Out :=
  actSettle s (runWop p (.std rs ra imm) (opStore 8 p rs ra imm))

/-- AMOADD (R34): atomic fetch and add on 64 bits. -/
def execAmoadd (p : Proc) (rd ra rb : RegNo) (s : State) : Out :=
  actSettle s (runWop p (.amoadd rd ra rb) (opAmoadd p rd ra rb))

/-- AMOSWAP (R34): atomic swap. -/
def execAmoswap (p : Proc) (rd ra rb : RegNo) (s : State) : Out :=
  actSettle s (runWop p (.amoswap rd ra rb) (opAmoswap p rd ra rb))

/-- CAS (R34): atomic compare and swap. -/
def execCas (p : Proc) (rd ra rb : RegNo) (s : State) : Out :=
  actSettle s (runWop p (.cas rd ra rb) (opCas p rd ra rb))

/-- FENCE (R47): orders the yard, host and IO memory kinds that imm[2:0] selects.
DEDUCED (log entry 14). -/
def execFence (p : Proc) (kinds : BitVec 3) (s : State) : Out :=
  act s (runWop p (.fence kinds) (opFence p))

/-- BEQ (R34): branches if equal. -/
def execBeq (p : Proc) (ra rb : RegNo) (off : BitVec 16) (s : State) : Out :=
  act s (runWop p (.beq ra rb off) (opBranch (· == ·) p ra rb off))

/-- BNE (R34): branches if not equal. -/
def execBne (p : Proc) (ra rb : RegNo) (off : BitVec 16) (s : State) : Out :=
  act s (runWop p (.bne ra rb off) (opBranch (· != ·) p ra rb off))

/-- BLT (R34): branches if less, signed. -/
def execBlt (p : Proc) (ra rb : RegNo) (off : BitVec 16) (s : State) : Out :=
  act s (runWop p (.blt ra rb off) (opBranch ltS p ra rb off))

/-- BGE (R34): branches if greater or equal, signed. -/
def execBge (p : Proc) (ra rb : RegNo) (off : BitVec 16) (s : State) : Out :=
  act s (runWop p (.bge ra rb off) (opBranch (fun x y => !ltS x y) p ra rb off))

/-- BLTU (R34): branches if less, unsigned. -/
def execBltu (p : Proc) (ra rb : RegNo) (off : BitVec 16) (s : State) : Out :=
  act s (runWop p (.bltu ra rb off) (opBranch ltU p ra rb off))

/-- BGEU (R34): branches if greater or equal, unsigned. -/
def execBgeu (p : Proc) (ra rb : RegNo) (off : BitVec 16) (s : State) : Out :=
  act s (runWop p (.bgeu ra rb off) (opBranch (fun x y => !ltU x y) p ra rb off))

/-- JMP (R34): jumps PC-relative. -/
def execJmp (p : Proc) (off : BitVec 26) (s : State) : Out :=
  act s (runWop p (.jmp off) (opJmp p off))

/-- CALL (R29): writes PC+4 to g31 and jumps. -/
def execCall (p : Proc) (off : BitVec 26) (s : State) : Out :=
  act s (runWop p (.call off) (opCall p off))

/-- JR (R34): writes PC+4 to rd and jumps to ra+imm. -/
def execJr (p : Proc) (rd ra : RegNo) (imm : BitVec 16) (s : State) : Out :=
  act s (runWop p (.jr rd ra imm) (opJr p rd ra imm))

end Sys2Proof.Machine
end

