-- ==== Sys2Proof/Machine/PwrRows.lean ====
section
/-! DEFINITION. The commands of the power controller, the clocks and the sideband targets (R383-R402, R436, R437). -/

namespace Sys2Proof.Machine

/-! ### Requests (R402) -/

/-- PLATFORM_OFF (R385, R402): OK follows PENDING on entry to STANDBY. -/
def execPlatformOff (q : Sender) (tag : Byte) (s : State) : Out :=
  request (.platformOff q tag) 0xB0 q s (fun s =>
    let w0 := reqWord 0xB0 0 0 tag.toNat
    if mayControl q = false then s.answer q w0 1 [] true
    else if platformOn s = false then s.answer q w0 3 [] true
    else if platformBusy s then s.answer q w0 2 [] true
    else platformOff s q w0)

/-- PLATFORM_ON (R384, R402). -/
def execPlatformOn (q : Sender) (tag : Byte) (s : State) : Out :=
  request (.platformOn q tag) 0xB1 q s (fun s =>
    let w0 := reqWord 0xB1 0 0 tag.toNat
    if mayControl q = false then s.answer q w0 1 [] true
    else if platformOn s then s.answer q w0 3 [] true
    else if powerFailing s then s.answer q w0 2 [] true
    else (platformStart s).answer q w0 0 [] true)

/-- POWER_STATUS (R402): also from I3C-1 and SMBus-0. -/
def execPowerStatus (q : Sender) (tag : Byte) (s : State) : Out :=
  request (.powerStatus q tag) 0xB2 q s (fun s =>
    let w0 := reqWord 0xB2 0 0 tag.toNat
    if mayControl q = false ∧ q ≠ .agent 1 ∧ q ≠ .agent 2 then s.answer q w0 1 [] true
    else s.answer q w0 0 (powerStatus s) true)

/-! ### Domains (R388-R397) -/

/-- SLEEP_PREPARE_DONE (R389): the prepare phase of domain `d` ends; `slow` is a block that has neither acknowledged nor
refused within 100 µs. -/
def execSleepPrepareDone (d : Fin 25) (slow : Option Byte) (s : State) : Out :=
  actSettle s (fun s => if d = 0 then s else sleepPrepared s d.val slow)

/-- SLEEP_COMMIT_DONE (R390). -/
def execSleepCommitDone (d : Fin 25) (s : State) : Out :=
  actSettle s (fun s => if d = 0 then s else sleepCommitted s d.val)

/-- WAKE (R393): wake source `src` fires. -/
def execWake (src : Fin 7) (s : State) : Out := actSettle s (fun s => wake s src.val)

/-- DOMAIN_RUN (R391-R395). -/
def execDomainRun (d : Fin 25) (s : State) : Out := actSettle s (fun s => if d = 0 then s else domainRun s d.val)

/-- A retained bank's check ends; a signal-box bank that is lost resets the signal box (R397).
DEDUCED (log entry 65). -/
def retentionDone (s : State) (kind bank : Nat) (upset : Bool) : State :=
  let checked := s.pwr.checks.contains (kind, bank)
  let s := retentionChecked s kind bank upset
  if checked = true ∧ upset = true ∧ kind = 0 then signalBoxReset s noneBad false else s

/-- RETENTION_CHECK_DONE (R396, R397): bank kind 0 signal box, 1 Depot, 2 yard; `upset` tells whether its content changed
under the seal. -/
def execRetentionCheckDone (kind : Fin 3) (bank : Fin 16) (upset : Bool) (s : State) : Out :=
  actSettle s (fun s => retentionDone s kind.val bank.val upset)

/-! ### Voltage and clocks (R398-R400, R437) -/

/-- VOLT_GOOD (R398): the regulator of yard `y` has settled. -/
def execVoltGood (y : Fin 16) (s : State) : Out := actSettle s (fun s => s.setBit (Reg.PWR_YARD_OP y.val) 4 true)

/-- PLL_LOCK (R399, R400): PLL `p` (0 PLL_SBX, 1 the yard PLL, 2 PLL_LINE) locks to REFCLK, where it runs. -/
def execPllLock (p : Fin 3) (s : State) : Out :=
  actSettle s (fun s =>
    if pllRuns s p.val then (s.setBit Reg.PWR_CLK_STAT 3 true).setBit Reg.PWR_CLK_STAT p.val true else s)

/-- A PLL loses lock (R330, R400): of PLL_SBX it returns the cores to FIRC; CLK detector 2 raises its event, but not
while PFW_N is asserted (R427).
DEDUCED (log entries 67, 70). -/
def lockLost (s : State) (p : Nat) (refclk : Bool) : State :=
  if s.bit Reg.PWR_CLK_STAT p = false then s
  else
    let s := (s.setBit Reg.PWR_CLK_STAT p false).setBit Reg.PWR_CLK_STAT 3 refclk
    let s := if p = 0 then s.setL .power Reg.PWR_CLK_CTL 6 6 0 else s
    wake (if powerFailing s then s else detectorEvent s 1 1 (vbatTick s) []) 4

/-- PLL_LOCK_LOSS (R400); `refclk` tells whether REFCLK is still present. -/
def execPllLockLoss (p : Fin 3) (refclk : Bool) (s : State) : Out := actSettle s (fun s => lockLost s p.val refclk)

/-- CRYSTAL_START (R437): the crystal oscillator runs; xtal_ok reads 1. -/
def execCrystalStart (s : State) : Out := actSettle s (fun s => s.setBit Reg.PWR_CLK_STAT 4 true)

/-- MAIN_RAILS_FAIL (R401): the main rails fail while PFW_N is asserted. The hold-up has let the flush complete, `us` µs
after PFW_N fell. -/
def execMainRailsFail (us : Word) (s : State) : Out :=
  actSettle s (fun s => railsFail (if s.pwr.railsGone then s else powerFailed s us.toNat))

/-! ### Sideband targets (R436) -/

/-- SBD_TGT_t_STAT as the bus controller has set it. -/
def targetStat (addr : BitVec 7) (valid i2c ibi : Bool) : Word :=
  BitVec.ofNat 32 ((if valid then addr.toNat else 0) + b2n valid * 2 ^ 7 + b2n i2c * 2 ^ 8 + b2n ibi * 2 ^ 9)

/-- I3C_DYNAMIC_ADDRESS (R436): the bus controller of I3C-0 or I3C-1 assigns a dynamic address or, without one, resets
it, and enables in-band interrupts or not. A target that is not enabled ignores its bus. -/
def execI3cDynamicAddress (t : Fin 2) (addr : Option (BitVec 7)) (i2c ibi : Bool) (s : State) : Out :=
  actSettle s (fun s =>
    if s.bit (Reg.SBD_TGT_CFG t.val) 8 then
      s.wr (Reg.SBD_TGT_STAT t.val) (targetStat (addr.getD 0) addr.isSome i2c ibi)
    else s)

end Sys2Proof.Machine
end

