-- ==== Sys2Proof/Machine/SecIsa.lean ====
section
/-! DEFINITION. The meanings of the section instructions (R34). -/

namespace Sys2Proof.Machine

/-- PASS (R112): Section verdict PASS ends the route. -/
def execPass (p : Proc) (ra : RegNo) (reason : BitVec 8) (s : State) : Out :=
  act s (runWop p (.pass ra reason) (opVerdict 0 p ra reason))

/-- DENY (R112): Section verdict DENY with a reason ends the route. -/
def execDeny (p : Proc) (ra : RegNo) (reason : BitVec 8) (s : State) : Out :=
  act s (runWop p (.deny ra reason) (opVerdict 1 p ra reason))

/-- STAGE (R112): Section verdict STAGE queues a write-kind frame for judging. -/
def execStage (p : Proc) (ra : RegNo) (reason : BitVec 8) (s : State) : Out :=
  act s (runWop p (.stage ra reason) (opVerdict 2 p ra reason))

/-- SERVE (R113): Section verdict SERVE answers a read from the Depot. -/
def execServe (p : Proc) (ra : RegNo) (reason : BitVec 8) (s : State) : Out :=
  act s (runWop p (.serve ra reason) (opVerdict 3 p ra reason))

/-- CHECK (R113): Section verdict CHECK forwards a read with tag checking. -/
def execCheck (p : Proc) (ra : RegNo) (reason : BitVec 8) (s : State) : Out :=
  act s (runWop p (.check ra reason) (opVerdict 4 p ra reason))

/-- FOP (R34): reads the current frame's opcode. -/
def execFop (p : Proc) (rd : RegNo) (s : State) : Out :=
  act s (runWop p (.fop rd) (opFrame FrameView.op p rd))

/-- FADDR (R118): reads the current frame's address. -/
def execFaddr (p : Proc) (rd : RegNo) (s : State) : Out :=
  act s (runWop p (.faddr rd) (opFrame FrameView.addr p rd))

/-- FLEN (R121): reads the staged data length. -/
def execFlen (p : Proc) (rd : RegNo) (s : State) : Out :=
  act s (runWop p (.flen rd) (opFrame FrameView.len p rd))

/-- FMODE (R84): reads the frame's phase descriptor. -/
def execFmode (p : Proc) (rd : RegNo) (s : State) : Out :=
  act s (runWop p (.fmode rd) (opFrame FrameView.desc p rd))

/-- FDATA (R34): reads 8 staged data bytes. -/
def execFdata (p : Proc) (rd ra : RegNo) (s : State) : Out :=
  act s (runWop p (.fdata rd ra) (opFdata p rd ra))

/-- RLOOK (R36): looks up an address in the region map. -/
def execRlook (p : Proc) (rd ra : RegNo) (s : State) : Out :=
  act s (runWop p (.rlook rd ra) (opRlook p rd ra))

/-- CNT (R115): increments a section program counter. -/
def execCnt (p : Proc) (k : RegNo) (s : State) : Out :=
  act s (runWop p (.cnt k) (opCnt p k))

end Sys2Proof.Machine
end

