-- ==== Sys2Proof/Machine/SecRows.lean ====
section
/-! DEFINITION. The commands of the flash line ports, the staging queue, the Depot and the Ganger
(04_line_ports.md, 05_section_code.md, 06_read_verification.md). -/

namespace Sys2Proof.Machine

/-- The FMODE word of an UNKNOWN frame received in interface `i`: kind 6, and the command phase's
form (R84, R85). -/
def unknownDesc (i : Nat) : Nat :=
  6 * 2 ^ 20 + (match i with | 0 => 0 | 1 => 2 | 2 => 3 | _ => 7)

/-- SELECT_FALL (R91, R97): a component select falls on the C-port of section `n`.
DEDUCED (log entry 31). -/
def execSelectFall (n : Fin 32) (s : State) : Out :=
  clocked s (fun s =>
    if (s.line n).selLow then s
    else
    let s := s.setLine n { s.line n with selLow := true }
    match pointsOf s n with
      | 2 => setFrame (s.setBit (Reg.SEC_PORT_STAT n) 9 true) n (some {})
      | 1 =>
        let s := recordFrame (s.inc (Reg.SEC_CNT_INTRUSION n)) n {} 8
        secLog s Ev.SELECT_INTRUSION n []
      | _ => recordFrame (s.inc (Reg.SEC_CNT_ISOLATED n)) n {} 9)

/-- The frame that a command and address phase begin (R85, R118). -/
def decodeFrame (s : State) (n opcode ext addr : Nat) : Frame :=
  let iface := s.fld (Reg.SEC_PORT_STAT n) 1 0
  let hit := if s.bit (Reg.SEC_PORT_STAT n) 4 then matchEntry s n iface opcode ext else none
  match hit with
  | none => { decoded := true, opcode := opcode, ext := ext, desc := unknownDesc iface, kind := 6,
              bank := activeBank s n }
  | some (_, e) =>
    let a := faddrOf s n e.desc addr
    let cs := if addrBytes s n e.desc = 0 then 0 else csOf s n a
    let kind := kindOf e.desc
    { decoded := true, opcode := opcode, ext := ext, desc := e.desc + 2 ^ 23 * cs, kind := kind,
      addr := a, addrLen := addrBytes s n e.desc, cs := cs, bank := activeBank s n,
      reply := if kind = 1 then .cache else if kind = 2 then .emulated (statusValue s n opcode)
        else if writeKind kind then .staging else .undriven }

/-- COMMAND_ROUTE (R85, R87, R99, R112, R118, R120): command and address have been received and the
command route runs, `run.steps` of its instructions within this command; `run.edges` data edges come before the block's
next command (R92).
DEDUCED (log entry 31), DESIGN CHOICE (log entry 33). -/
def execCommandRoute (n : Fin 32) (opcode ext : Byte) (addr : Word) (run : RouteRun) (s : State) : Out :=
  clocked s (fun s =>
    match (s.line n).frame with
    | none => s
    | some f0 =>
      if f0.decoded then s
      else
        let s := finishRoute s n
        let f := { decodeFrame s n opcode.toNat ext.toNat addr.toNat with edges := run.edges }
        let s := setFrame (s.setLine n { s.line n with tagged := [] }) n (some f)
        let s := if f.kind = 6 then
            secLog (s.inc (Reg.SEC_CNT_UNKNOWN n)) Ev.UNKNOWN_OPCODE n
              (leBytes 1 f.opcode ++ leBytes 1 f.ext ++ leBytes 1 (s.fld (Reg.SEC_PORT_STAT n) 1 0))
          else s
        if writeKind f.kind && (lineBusy (s.line n) || decide (2 ≤ (s.line n).queue.length)) then
          refuseRoute s n f 0xFC
        else if (bankOf s n f.bank).ok = false then refuseRoute s n f 0xF7
        else
          let r : Route := ⟨false, leAt (bankOf s n f.bank).image 12 2, 0, [], f.bank⟩
          runRoute run.steps (s.setLine n { s.line n with route := some r }) n)

/-- LATE_VERDICT (R88): the verdict is not ready at the end of clock A + 6; `period` is the last
C-port clock period in 0.1 ns.
DEDUCED (log entry 31). -/
def execLateVerdict (n : Fin 32) (period : Word) (s : State) : Out :=
  clocked s (fun s =>
    match (s.line n).frame with
    | none => s
    | some f =>
      if f.decoded = true ∧ f.kind = 0 ∧ f.verdict = none ∧ f.late = false then
        let s := setFrame (s.inc (Reg.SEC_CNT_LATE n)) n (some { f with late := true })
        secLog s Ev.LATE_VERDICT n (leBytes 1 f.opcode ++ leBytes 4 period.toNat)
      else s)

/-- The staged frame as a queue entry (R120, R121). -/
def entryOf (s : State) (n : Nat) (f : Frame) (data : List Byte) (passed : Bool) : Entry :=
  { opcode := f.opcode, ext := f.ext, kind := f.kind, desc := f.desc, addr := f.addr,
    addrLen := f.addrLen, cs := f.cs, bank := f.bank, data := data.take 4096,
    flen := min data.length 4097, progress := if passed then .passed else .judging,
    newIface := if f.kind = 3 then
      modeChange s n (s.fld (Reg.SEC_PORT_STAT n) 1 0) f.opcode f.addr data else none,
    modeReset := f.kind == 5 && ((opEntries s n).any (fun p => p.2.opcode == f.opcode &&
      p.2.ext == f.ext && p.2.desc == f.desc % 2 ^ 23 && bitOf p.2.flags 1)) }

/-- A complete write-kind frame at its select rise, its verdict taken (R112, R117, R121, R126,
R127, R130). -/
def stageFrame (s : State) (n : Fin 32) (f : Frame) (data : List Byte) (steps : Nat) : State :=
  match f.verdict with
  | none => s
  | some (1, why) => if why = 0xFC then s else denialResponse s n f.kind
  | some (v, _) =>
    if sealed s then denialResponse (recordDeny s n f.opcode f.ext f.kind 0 f.cs 0xFA f.addr) n f.kind
    else if v = 0 ∧ 4096 < data.length then
      let s := recordConverted s n 0 0xFD f.opcode
      let s := recordVerdict s n 1 0 true 0xFD (s.fld (Reg.SEC_LAST_VERDICT n) 24 16)
      denialResponse (recordDeny s n f.opcode f.ext f.kind 0 f.cs 0xFD f.addr) n f.kind
    else
      let e := entryOf s n f data (v == 0)
      let s := if v = 0 then trackAddr s n f.opcode ((data.head?).map (fun b => b.toNat)) else s
      let s := queueEmulation s n f.opcode f.kind
      let s := setQueue s n ((s.line n).queue ++ [e])
      if v = 0 then (match e.newIface with | some i => setIface s n 0 i 0 | none => s)
      else
        let r : Route := ⟨true, leAt (bankOf s n f.bank).image 14 2, 0, [], f.bank⟩
        runRoute steps (s.setLine n { s.line n with route := some r }) n

/-- The end of a read frame that reached its data phase or not (R96). -/
def endReadFrame (s : State) (n : Nat) (f : Frame) (edges : Nat) : State :=
  if f.late then endFrame s n f 6
  else if edges = 0 then endFrame (s.inc (Reg.SEC_CNT_ABANDONED n)) n f 2
  else
    let s := sentRead s n f (edges / dataEdges f.desc)
    if edges % unitEdges f.desc = 0 then endFrame (s.inc (Reg.SEC_CNT_FRAMES n)) n f 0
    else endFrame (s.inc (Reg.SEC_CNT_TORN_READ n)) n f 3

/-- The end of a write-kind frame (R96). -/
def endWriteFrame (s : State) (n : Fin 32) (f : Frame) (edges : Nat) (data : List Byte) (steps : Nat) :
    State :=
  if f.kind = 3 then
    if edges % unitEdges f.desc = 0 then
      stageFrame (endFrame (s.inc (Reg.SEC_CNT_FRAMES n)) n f 0) n f
        (data.take (edges / dataEdges f.desc)) steps
    else
      secLog (endFrame (s.inc (Reg.SEC_CNT_TORN_WRITE n)) n f 4) Ev.TORN_WRITE n
        (leBytes 1 f.opcode ++ leBytes 4 f.addr ++ leBytes 4 edges)
  else if edges = 0 then stageFrame (endFrame (s.inc (Reg.SEC_CNT_FRAMES n)) n f 0) n f [] steps
  else endFrame (s.inc (Reg.SEC_CNT_VOID n)) n f 1

/-- SELECT_RISE (R96, R100, R121, R126): the component's select rises, in the command or address
phase (`early`) or after `edges` data edges; `data` are the bytes a WRITE carried; the judge
route runs `steps` of its instructions within this command.
DESIGN CHOICE (log entry 33). -/
def execSelectRise (n : Fin 32) (early : Bool) (edges : Nat) (data : List Byte) (steps : Nat)
    (s : State) : Out :=
  clocked s (fun s =>
    let s := s.setLine n { s.line n with selLow := false }
    match (s.line n).frame with
    | none => s
    | some f0 =>
      if early = true ∨ f0.decoded = false then
        endFrame ((dropRoute s n).inc (Reg.SEC_CNT_VOID n)) n f0 1
      else
        let s := finishRoute s n
        match (s.line n).frame with
        | none => s
        | some f =>
          if f.kind = 6 then endFrame s n f 5
          else if f.kind ≤ 2 then endReadFrame s n f edges
          else endWriteFrame s n f edges data steps)

/-- Whether a component frame whose verdict needs the flash is in progress (R122). -/
def frameOnFlash (l : Line) : Bool :=
  match l.frame with
  | some f => match f.reply with
    | .flash => true
    | .checked _ => true
    | _ => false
  | none => false

/-- The 4 KiB pages of an extent that a replayed frame's address range meets (R145): the page of a
WRITE's address (a write wraps within its flash page, R121), the erase sector of an addressed ERASE,
the whole flash for an ERASE without address. -/
def replayMeets (s : State) (n : Nat) (e : Entry) (x : Nat) : Bool :=
  let sec := 2 ^ profByte s n 13
  if e.addrLen = 0 then e.kind == 4
  else if e.kind = 3 then extHas s x e.addr
  else decide (extStart s x < e.addr / sec * sec + sec ∧ e.addr / sec * sec < extEnd s x)

/-- Extents that a replayed WRITE or ERASE makes STALE (R145). -/
def staleExtents (s : State) (n : Nat) (e : Entry) : State :=
  if e.kind = 3 ∨ e.kind = 4 then
    ((List.range 256).filter (fun x => extSection s x == n && extState s x == 2 &&
      replayMeets s n e x)).foldl (fun s x =>
        secLog (moveExt s .port x 3 0) Ev.EXTENT_STALE n
          (leBytes 1 x ++ leBytes 1 e.opcode ++ leBytes 4 e.addr)) s
  else s

/-- The head of a section's queue with its progress replaced. -/
def setHead (s : State) (n : Nat) (p : Progress) : State :=
  match (s.line n).queue with
  | [] => s
  | e :: es => setQueue s n ({ e with progress := p } :: es)

/-- The bytes a fence covers (R194). -/
def fenceBytes (s : State) (n f : Nat) : Nat := 4096 * min (s.fld (Reg.SEC_FENCE_LEN n f) 20 0) (2 ^ 20)

/-- The base address of a fence. -/
def fenceBase (s : State) (n f : Nat) : Nat := s.fld (Reg.SEC_FENCE_BASE n f) 31 12 * 4096

/-- Whether an entry meets fence `f` (R194): a WRITE over the bytes it carries, an addressed ERASE over its sector, a
frame without address phase wherever the fence lies on a chip select that it is replayed to (R119). -/
def fenceMeets (s : State) (n : Nat) (e : Entry) (f : Nat) : Bool :=
  let b := fenceBase s n f
  let k := fenceBytes s n f
  let sec := 2 ^ profByte s n 13
  if s.bit (Reg.SEC_FENCE_BASE n f) 0 = false ∨ k = 0 then false
  else if e.kind = 5 then false
  else if e.addrLen = 0 then true
  else if e.kind = 3 then decide (e.addr < b + k ∧ b < e.addr + e.flen)
  else decide (e.addr / sec * sec < b + k ∧ b < e.addr / sec * sec + sec)

/-- The first enabled fence that an entry meets. -/
def fenceHit (s : State) (n : Nat) (e : Entry) : Option Nat := [0, 1].find? (fenceMeets s n e)

/-- An entry discarded at a fence (R194). -/
def fenceDiscard (s : State) (n : Nat) (e : Entry) (f : Nat) : State :=
  let s := denyEntry s n e 0xF6 0
  secLog (s.inc (Reg.SEC_CNT_FENCED n)) Ev.FENCED n (leBytes 1 f ++ leBytes 1 e.opcode ++ leBytes 4 e.addr)

/-- REPLAY_START (R98, R122, R145, R194): the entry at the head of the queue starts its replay when
the conditions of R122 hold, or is discarded at an enabled write fence. -/
def execReplayStart (n : Fin 32) (s : State) : Out :=
  clocked s (fun s =>
    match (s.line n).queue with
    | [] => s
    | e :: _ =>
      if e.progress ≠ .passed ∨ (pointsOf s n = 0 ∧ e.half = false) ∨ frameOnFlash (s.line n) = true ∨
         senseBlocks s n = true ∨ powerFailing s = true then s
      else match (if e.half then none else fenceHit s n e) with
        | some fence => fenceDiscard s n e fence
        | none =>
          let s := drive (preemptGanger s n) n (replayFrame s n e)
          let s := (s.inc (Reg.SEC_CNT_REPLAY n)).setBit (Reg.SEC_PORT_STAT n) 8 true
          setHead (staleExtents s n e) n .replaying)

/-- Values read as the shadows of their opcodes (R124). -/
def storeShadows (s : State) (n : Nat) (reads : List (Byte × Byte)) : State :=
  let l := s.line n
  syncStage (s.setLine n { l with shadows := reads.foldl (fun m r =>
    Sparse.set (fun _ => (0 : Nat)) m r.1.toNat r.2.toNat) l.shadows }) n

/-- The STATUS entries that refresh reads name (R124): all of the profile's in the F-port's interface, without the one that a
poll has just read. -/
def refreshOps (s : State) (n : Nat) (polled : Option Nat) : List OpEntry :=
  (statusOps s n).filter (fun e => some e.opcode != polled)

/-- The refresh reads with what the flash answers to each, by opcode; an opcode that `answers` does not give reads 0.
DESIGN CHOICE (log entry 11). -/
def refreshReads (s : State) (n : Nat) (polled : Option Nat) (answers : List (Byte × Byte)) : List (Byte × Byte) :=
  (refreshOps s n polled).map (fun e => (BitVec.ofNat 8 e.opcode,
    match answers.find? (fun r => r.1.toNat == e.opcode) with
    | some r => r.2
    | none => 0))

/-- The refresh reads made on chip select `cs` and stored. -/
def refresh (s : State) (n cs : Nat) (polled : Option Nat) (answers : List (Byte × Byte)) : State :=
  storeShadows (driveStatus s n cs (refreshOps s n polled)) n (refreshReads s n polled answers)

/-- The head entry completes and leaves the queue; a WRITE or ERASE clears the emulated latch (R126). -/
def completeHead (s : State) (n : Nat) : State :=
  match (s.line n).queue with
  | [] => s
  | e :: es =>
    let s := if e.kind = 5 then s else s.setBit (Reg.SEC_STAGE_STAT n) 3 false
    setQueue s n es

/-- A flash-side fault of an entry (R128, R129): counted, the flags set, interrupt 8 with
flash_fail_hold.
DEDUCED (log entry 32). -/
def flashFault (s : State) (n : Nat) (pfail efail : Bool) : State :=
  let s := s.inc (Reg.SEC_CNT_FLASH_FAIL n)
  let s := if pfail then s.setBit (Reg.SEC_STAGE_STAT n) 4 true else s
  let s := if efail then s.setBit (Reg.SEC_STAGE_STAT n) 5 true else s
  syncStage (failHold s n) n

/-- The faults that refreshed values show (R128), one for each status entry whose own failure bits
are set.
DEDUCED (log entry 32). -/
def refreshFaults (s : State) (n : Nat) (e : Entry) (reads : List (Byte × Byte)) :
    List (Nat × Nat) → State
  | [] => s
  | (k, w) :: es =>
    match reads.find? (fun r => r.1.toNat == w % 256) with
    | none => refreshFaults s n e reads es
    | some (_, v) =>
      let pf := decide (bitsOf w 19 16 < 8) && bitOf v.toNat (bitsOf w 19 16)
      let ef := decide (bitsOf w 23 20 < 8) && bitOf v.toNat (bitsOf w 23 20)
      refreshFaults (if pf || ef then
          secLog (flashFault s n pf ef) Ev.FLASH_FAIL n
            (leBytes 1 e.opcode ++ leBytes 4 e.addr ++ leBytes 1 k ++ leBytes 1 v.toNat)
        else s) n e reads es

/-- The refresh reads of entry `e`, with the faults that they show (R124, R128). -/
def refreshEntry (s : State) (n : Nat) (e : Entry) (polled : Option Nat) (answers : List (Byte × Byte)) : State :=
  let rs := refreshReads s n polled answers
  refreshFaults (refresh s n e.cs polled answers) n e rs (statusEntries s n)

/-- Whether an entry's replay to CS0 is followed by one to CS1 (R119). -/
def replaysTwice (s : State) (n : Nat) (e : Entry) : Bool := e.addrLen == 0 && profFlag s n 1 && !e.half

/-- REPLAY_END (R100, R116, R119, R124, R445): the replay frame at the head of the queue ends. `reads` are what the flash
answers to the refresh reads that follow a CONTROL. -/
def execReplayEnd (n : Fin 32) (reads : List (Byte × Byte)) (s : State) : Out :=
  clocked s (fun s =>
    match (s.line n).queue with
    | [] => s
    | e :: es =>
      if e.progress ≠ .replaying then s
      else if replaysTwice s n e then
        let s := s.setBit (Reg.SEC_PORT_STAT n) 8 false
        if powerFailing s then discardEntry s n e 0xF8 4
        else setQueue s n ({ e with cs := 1, half := true, progress := .passed } :: es)
      else
        let s := s.setBit (Reg.SEC_PORT_STAT n) 8 false
        let s := match e.newIface with
          | some i => setIface s n 1 i 0
          | none => s
        let s := if e.modeReset then
            resetAddrState (setIface (setIface s n 0 (powerOnIface s n) 1) n 1 (powerOnIface s n) 1) n
          else s
        if e.kind = 5 then
          let s := completeHead s n
          if powerFailing s then s else refreshEntry s n e none reads
        else if powerFailing s then
          match (s.line n).queue with
          | e' :: _ => discardEntry s n e' 0xF8 4
          | [] => s
        else setHead s n .polling)

/-- Whether a poll value shows the flash ready under status entry `w` (R108). -/
def pollReady (w v : Nat) : Bool := bitOf v (bitsOf w 10 8) == bitOf w 11

/-- BUSY_POLL (R124): the section polls the flash, which answers `value`. -/
def execBusyPoll (n : Fin 32) (value : Byte) (s : State) : Out :=
  clocked s (fun s =>
    match pollEntry s n with
    | none => s
    | some (_, w) =>
      let head := (s.line n).queue.head?
      let waiting := (head.map (fun e => e.progress == .polling)).getD false
      let timedOut := s.bit (Reg.SEC_STAGE_STAT n) 6
      if powerFailing s = true ∨ (waiting = false ∧ timedOut = false) ∨ senseBlocks s n = true then s
      else
        let s := driveStatus s n ((head.map (fun e => e.cs)).getD 0) ((statusOps s n).filter (fun e => e.opcode == w % 256))
        let s := storeShadows s n [(BitVec.ofNat 8 w, value)]
        if pollReady w value.toNat then
          let s := s.setBit (Reg.SEC_STAGE_STAT n) 6 false
          if waiting then setHead s n .refreshing else s
        else s)

/-- STAGE_ENTRY_COMPLETE (R124, R126, R128): the refresh reads end, which the flash answers with `reads`, and the entry at
the head completes. Without an entry they are the reads made once after the points changed to ROUTED. -/
def execStageEntryComplete (n : Fin 32) (reads : List (Byte × Byte)) (s : State) : Out :=
  clocked s (fun s =>
    match (s.line n).queue with
    | [] =>
      if pointsOf s n = 2 ∧ powerFailing s = false ∧ (s.line n).refreshDue = true then
        refresh (s.setLine n { s.line n with refreshDue := false }) n 0 none reads
      else s
    | e :: _ =>
      if e.progress ≠ .refreshing ∨ powerFailing s = true then s
      else completeHead (refreshEntry s n e ((pollEntry s n).map (fun p => p.2 % 256)) reads) n)

/-- FLASH_TIMEOUT (R124, R128): the program or erase timeout has passed since the replay, `elapsed` µs,
with the flash busy, or with no status entry that polls, after the refresh reads `reads`. -/
def execFlashTimeout (n : Fin 32) (elapsed : Word) (reads : List (Byte × Byte)) (s : State) : Out :=
  clocked s (fun s =>
    match (s.line n).queue with
    | [] => s
    | e :: _ =>
      if e.progress ≠ .polling ∨ powerFailing s = true then s
      else
        let polls := (pollEntry s n).isSome
        let s := if polls then s else refreshEntry s n e none reads
        let s := flashFault s n (e.kind == 3) (e.kind == 4)
        let s := secLog s Ev.FLASH_TIMEOUT n
          (leBytes 1 e.opcode ++ leBytes 4 e.addr ++ leBytes 4 elapsed.toNat)
        (completeHead s n).setBit (Reg.SEC_STAGE_STAT n) 6 polls)

/-- SENSE_TIMEOUT (R98, R114, R128): SEC_n_F_SENSE_N has stayed low for 10 ms with a frame waiting. -/
def execSenseTimeout (n : Fin 32) (s : State) : Out :=
  clocked s (fun s =>
    if senseBlocks s n = false then s
    else
      let s := if (s.line n).dev.isSome then endDev s n 3 else s
      match (s.line n).queue with
      | [] => s
      | e :: _ =>
        if e.progress = .passed then
          secLog (failEntry s n e) Ev.STAGE_DISCARD n (leBytes 1 3 ++ leBytes 1 e.opcode ++ leBytes 4 e.addr)
        else s)

/-- Whether a DEVICE operation waits before its next frame: for queued entries (R92), or for SEC_n_F_SENSE_N
(R98). -/
def devBlocked (s : State) (n : Nat) : Bool := senseBlocks s n || !(s.line n).queue.isEmpty

/-- Whether busy polls or refresh reads of section `n` are under way (R124). -/
def statusReads (s : State) (n : Nat) : Bool :=
  let l := s.line n
  match l.queue with
  | e :: _ => e.progress == .polling || e.progress == .refreshing
  | [] => s.bit (Reg.SEC_STAGE_STAT n) 6 || (l.refreshDue && pointsOf s n == 2)

/-- The frame the controller drives on the F-port: its kind in the event of R107 and its address. A busy poll or refresh
read is of DEVICE form (R124), and has no address. -/
def drivenFrame (s : State) (n : Nat) : Option (Nat × Nat) :=
  let l := s.line n
  if frameOnFlash l then l.frame.map (fun f => (0, f.addr))
  else match l.queue.head?.filter (fun e => e.progress == .replaying), l.dev, l.ganger with
    | some e, _, _ => some (2, e.addr)
    | none, some d, _ => if devBlocked s n then (if statusReads s n then some (3, 0) else none) else some (3, d.addr)
    | none, none, some g => some (1, g.addr)
    | none, none, none => if statusReads s n then some (3, 0) else none

/-- The level or source of an F-port's clock (R91, R93, R94, R98). -/
inductive FClock where
  | low | component | generated | triState
deriving DecidableEq, Repr

/-- An F-port's pins: the chip select that is low, if one is, the clock, and whether the controller drives the data lines
(R82, R91, R98). -/
structure FPins where
  select : Option Nat
  clock : FClock
  driven : Bool
deriving DecidableEq, Repr

/-- What the F-port of section `n` drives (R82, R91, R93, R98): with no frame, and so in ISOLATED points once nothing is left
of a replay, its selects are high, its clock low and its data lines undriven. -/
def fPins (s : State) (n : Nat) : FPins :=
  let l := s.line n
  if l.triState then ⟨none, .triState, false⟩
  else match drivenFrame s n, l.out with
    | some (k, _), some f => ⟨some f.cs, if k = 0 then .component else .generated, true⟩
    | _, _ => ⟨none, .low, false⟩

/-- The frame that a conflict cuts off ends (R98). What becomes of a busy poll or refresh read the spec does not say: it is
made again.
DESIGN CHOICE (log entry 93). -/
def conflictEnd (s : State) (n kind : Nat) : State :=
  match kind with
  | 0 => match (s.line n).frame with
    | some f => endFrame ((sentRead s n f (f.edges / dataEdges f.desc)).inc (Reg.SEC_CNT_TORN_READ n)) n f 3
    | none => s
  | 1 => stopGanger s n
  | 2 => match (s.line n).queue with
    | e :: _ => failEntry (s.setBit (Reg.SEC_PORT_STAT n) 8 false) n e
    | [] => s
  | _ => if (s.line n).dev.isSome = true ∧ devBlocked s n = false then endDev s n 1 else s

/-- MASTER_CONFLICT (R98): SEC_n_F_SENSE_N falls while the controller drives the F-port.
DEDUCED (log entry 31). -/
def execMasterConflict (n : Fin 32) (s : State) : Out :=
  clocked s (fun s =>
    if s.bit (Reg.SEC_CFG n) 0 = false then s
    else match drivenFrame s n with
      | none => s
      | some (k, a) =>
        let s := (conflictEnd s n k).inc (Reg.SEC_CNT_CONFLICT n)
        let s := s.setLine n { s.line n with triState := true }
        secLog (s.setBit (Reg.SEC_PORT_STAT n) 7 true) Ev.MASTER_CONFLICT n (leBytes 1 k ++ leBytes 4 a))

/-- F_SENSE_N_CHANGE (R98): SEC_n_F_SENSE_N falls or rises while the controller drives no frame. -/
def execFSenseNChange (n : Fin 32) (low : Bool) (s : State) : Out :=
  act s (fun s =>
    let s := s.setBit (Reg.SEC_PORT_STAT n) 7 low
    if low then s
    else s.setLine n { s.line n with triState := false })

/-- C_RST_LOW (R100, R116): the component's flash reset is low; in ROUTED points the low level goes on to
SEC_n_F_RST_N. -/
def execCRstLow (n : Fin 32) (s : State) : Out :=
  act s (fun s =>
    if pointsOf s n = 2 then
      let s := s.setLine n { s.line n with resets := (s.line n).resets + 1 }
      resetAddrState (setIface (setIface s n 0 (powerOnIface s n) 2) n 1 (powerOnIface s n) 2) n
    else s)

/-- The tag stored for page `a` of extent `x` (R147). -/
def storedTag (s : State) (x a : Nat) : List Byte :=
  s.rdMemN (tagSlot (extBase s x + (a - extStart s x) / 4096)) 16

/-- The extent of the CHECK frame that the tag result of page `a` belongs to (R149, R150): the oldest ended frame that still
awaits one of this page, else the frame in progress. -/
def checkedExtent (l : Line) (a : Nat) : Option Nat :=
  match l.checks.find? (fun p => p.2.contains a), l.frame with
  | some p, _ => some p.1
  | none, some f => match f.reply with
    | .checked x => if f.addr ≤ a ∧ l.tagged.contains a = false then some x else none
    | _ => none
  | none, none => none

/-- The tag result of page `a` has come. -/
def noteTag (l : Line) (a : Nat) : Line :=
  match l.checks.find? (fun p => p.2.contains a) with
  | some p => { l with checks := (l.checks.replace p (p.1, p.2.erase a)).filter (fun q => !q.2.isEmpty) }
  | none => { l with tagged := l.tagged ++ [a] }

/-- A mismatch with its response; LOCK enters LOCKDOWN (R151, R152). -/
def respondMismatch (s : State) (n x a src : Nat) : State :=
  let s := tagMismatch s n x a src
  if extResponse s x = 2 then lockResponse s else s

/-- TAG_RESULT (R149, R151): the check of a page at `addr`, delivered whole as `page`, completes. -/
def execTagResult (n : Fin 32) (addr : Word) (page : List Byte) (s : State) : Out :=
  clockedSettle s (fun s =>
    let a := addr.toNat
    match checkedExtent (s.line n) a, s.tagKey with
    | some x, some k =>
      if a % 4096 ≠ 0 ∨ extHas s x a = false then s
      else
      let s := s.setLine n (noteTag (s.line n) a)
      if pageTag k n a (takePad 4096 page) = storedTag s x a then s.inc (Reg.SEC_CNT_TAG_OK n)
      else
        let s := s.inc (Reg.SEC_CNT_TAG_FAIL n)
        let op := match (s.line n).frame with
          | some f => f.opcode
          | none => s.fld (Reg.SEC_FRAME n) 7 0
        let s := secLog s Ev.TAG_MISMATCH n (leBytes 4 a ++ leBytes 1 x ++ leBytes 1 (extComp s x) ++
          leBytes 1 (extResponse s x) ++ leBytes 1 op)
        respondMismatch s n x a 0
    | _, _ => s)

/-! ### The Ganger (R153-R157) -/

/-- The live extents of section `n`'s active bank. -/
def liveExtents (s : State) (n : Nat) : List Nat :=
  (List.range 256).filter (fun x => extSection s x == n && extBank s x == activeBank s n &&
    (extClass s x == 1 || extClass s x == 2) && decide (2 ≤ extState s x))

/-- The live extent that holds a page. -/
def liveAt (s : State) (n a : Nat) : Option Nat := (liveExtents s n).find? (fun x => extHas s x a)

/-- The lowest live page at or above `a` (R155).
DEDUCED (log entry 35). -/
def nextPage (s : State) (n a : Nat) : Option Nat :=
  if (liveAt s n a).isSome then some a
  else lowestFrom a ((liveExtents s n).map (extStart s))

/-- The page the Ganger takes: the oldest hint that a live extent holds, else the sweep page.
DEDUCED (log entry 35). -/
def gangerPick (s : State) (n : Nat) : Option Nat :=
  match (s.line n).hints.find? (fun a => (liveAt s n a).isSome) with
  | some a => some a
  | none =>
    match nextPage s n (s.rd (Reg.GNG_CURSOR n)).toNat with
    | some a => some a
    | none => nextPage s n 0

/-- The accounting budget of a window in section logic clocks (R154).
DEDUCED (log entry 35). -/
def gangerBudget (s : State) : Nat :=
  min (s.fld Reg.GNG_BUDGET 9 0) 1000 * max (s.fld Reg.GNG_BUDGET 23 16) 1 * 800

/-- Whether the Ganger may start a frame of `clocks` clocks on section `n` (R153, R154, R156).
DEDUCED (log entry 35). -/
def gangerMay (s : State) (n clocks : Nat) : Bool :=
  pointsOf s n == 2 && s.bit Reg.GNG_CTL 0 && !s.bit (Reg.GNG_SEC_CTL n) 0 &&
  !(liveExtents s n).isEmpty && !(s.line n).selLow && (s.line n).queue.isEmpty &&
  !senseBlocks s n && !powerFailing s && (s.line n).ganger.isNone &&
  decide (0 < gangerBudget s ∧ (s.rd (Reg.GNG_USED n)).toNat + clocks ≤ gangerBudget s)

/-- The profile entry that a Ganger frame uses: the first ARRAY_READ entry in the device mode's interface, else the first
ARRAY_READ entry. The spec names none.
DESIGN CHOICE (log entry 94). -/
def gangerEntry (s : State) (n : Nat) : OpEntry :=
  let es := ((List.range (opCount s n)).map (opEntry s n)).filter (fun e => kindOf e.desc == 0)
  let i := match deviceMode s n with | 5 => 1 | 8 => 2 | 9 => 3 | _ => 0
  ((es.find? (fun e => ifaceOfDesc e.desc == i)).or es.head?).getD ⟨0, 0, 0, 0, 0⟩

/-- GANGER_FRAME (R153-R155): the Ganger starts a page frame that takes `clocks` section logic
clocks. -/
def execGangerFrame (n : Fin 32) (clocks : Nat) (s : State) : Out :=
  clocked s (fun s =>
    if gangerMay s n clocks = false then s
    else match gangerPick s n with
      | none => s
      | some a =>
        match liveAt s n a with
        | none => s
        | some x =>
          let s := drive (s.setBit Reg.GNG_STAT n true) n
            (deviceFrame s n (gangerEntry s n) (csOf s n a) (flashAddr s n (csOf s n a) a) [])
          s.setLine n { s.line n with ganger := some ⟨a, x, clocks⟩ })

/-- The page just examined leaves the hint queue, or moves the cursor; a cursor past the last page
counts a pass (R155).
DEDUCED (log entry 35). -/
def gangerAdvance (s : State) (n a : Nat) : State :=
  let l := s.line n
  if l.hints.contains a then
    let hs := l.hints.filter (fun h => h != a)
    (s.setLine n { l with hints := hs }).setF (Reg.GNG_HINT n) 4 0 hs.length
  else match nextPage s n (a + 4096) with
    | some p => s.wr (Reg.GNG_CURSOR n) (BitVec.ofNat 32 p)
    | none => (s.inc (Reg.GNG_PASSES n)).wr (Reg.GNG_CURSOR n) (BitVec.ofNat 32 ((nextPage s n 0).getD 0))

/-- The first offset at which two pages differ. -/
def firstDiff (a b : List Byte) : Nat := (badIndex (fun _ p => p.1 != p.2) (a.zip b)).getD 0

/-- A tag comparison that the Ganger's comparators judge (R221): a faulty pair of flags is counted and is a LOGIC
event; only the pair (1, 0) is success. -/
def gangerCompare (s : State) (n : Nat) (eq : Bool) (fault : Option Bool) : State × Bool :=
  let p := flagPair eq fault
  (if p.1 = p.2 then logicFlagEvent (flagFault s n 1 p) else s, p.1 && !p.2)

/-- GANGER_PAGE_DONE (R156, R157, R221): the check or compare of the page in hand, read as `page`, completes; `fault`
is what both flags of faulty comparators read. -/
def execGangerPageDone (n : Fin 32) (page : List Byte) (fault : Option Bool) (s : State) : Out :=
  clockedSettle s (fun s =>
    match (s.line n).ganger with
    | none => s
    | some g =>
      let x := g.extent
      let a := g.addr
      let pg := takePad 4096 page
      let s := dropGanger s n g.clocks
      let s :=
        if extClass s x = 2 then
          let copy := s.rdMemN (servedPage (extBase s x + (a - extStart s x) / 4096)) 4096
          if pg = copy then s.inc (Reg.GNG_PAGES n)
          else secLog (s.inc (Reg.GNG_DRIFT n)) Ev.DRIFT n
            (leBytes 4 a ++ leBytes 1 x ++ leBytes 4 (firstDiff pg copy))
        else match s.tagKey with
          | none => s
          | some k =>
            let r := gangerCompare s n (decide (pageTag k n a pg = storedTag s x a)) fault
            let s := r.1
            if r.2 then s.inc (Reg.GNG_PAGES n)
            else
              let s := secLog (s.inc (Reg.GNG_TAG_FAIL n)) Ev.GANGER_TAG_MISMATCH n
                (leBytes 4 a ++ leBytes 1 x ++ leBytes 1 (extComp s x) ++ leBytes 1 (extResponse s x))
              respondMismatch s n x a 1
      gangerAdvance s n a)

/-- A new accounting window for section `n` (R154): a frame in progress takes of it what of the frame is still to come. -/
def gangerWindow (s : State) (n : Nat) : State :=
  let s := s.wr (Reg.GNG_USED n) 0
  match (s.line n).ganger with
  | none => s
  | some g =>
    let f := gangerSpent s g
    f.2.setLine n { f.2.line n with ganger := some { g with clocks := g.clocks - f.1 } }

/-- GANGER_WINDOW (R154): the accounting window ends. -/
def execGangerWindow (s : State) : Out :=
  act s (fun s => (List.range 32).foldl gangerWindow s)

/-! ### DEVICE frames (R105) -/

/-- The captured response of an opcode (R90): read from address 0 where the entry has an address phase. -/
def captureResponse (s : State) (n entry addr : Nat) (data : List Byte) : State :=
  let e := opEntry s n entry
  if bitOf e.flags 0 = true ∧ (bitsOf e.desc 7 6 = 0 ∨ addr = 0) ∧ 256 ≤ data.length ∧ n < 32 then
    s.setLine n { s.line n with cache :=
      ((s.line n).cache.filter (fun p => p.1 != e.opcode)) ++ [(e.opcode, data.take 256)] }
  else s

/-- DEV_BURST_DONE (R105, R143, R219): a burst of a read with destination Examiner completes, having
delivered `data`. -/
def execDevBurstDone (n : Fin 34) (data : List Byte) (s : State) : Out :=
  clocked s (fun s =>
    match (s.line n).dev with
    | none => s
    | some d =>
      if d.dest ≠ 0 ∨ devBlocked s n = true ∨ laneHolds s n = true ∨ d.left = 0 then s
      else
        let k := min d.left (4096 - d.addr % 4096)
        let bs := takePad k data
        let s := drive s n (deviceFrame s n (opEntry s n d.entry) d.cs d.addr [])
        let s := s.setLine n { s.line n with dev := some { d with addr := d.addr + k, left := d.left - k, dropped := false } }
        let s := captureResponse s n d.entry d.addr bs
        feedLane (fillBurst s n d.cs d.addr d.dropped bs) n bs)

/-- DEV_FRAME_DONE (R90, R104, R105, R116): a DEVICE operation ends OK; a read into memory delivered
`data`. -/
def execDevFrameDone (n : Fin 34) (data : List Byte) (s : State) : Out :=
  clocked s (fun s =>
    match (s.line n).dev with
    | none => s
    | some d =>
      if devBlocked s n then s
      else match d.dest with
        | 0 => if d.left = 0 then endDev s n 0 else s
        | 1 =>
          let bs := takePad d.left data
          let s := drive s n (deviceFrame s n (opEntry s n d.entry) d.cs d.addr [])
          let s := endDev (captureResponse (s.wrMemN d.buf bs) n d.entry d.addr bs) n 0
          identRead s n (opEntry s n d.entry).opcode bs
        | _ =>
          let first := if d.left = 0 then none else some (s.rdMem d.buf).toNat
          let s := drive s n (deviceFrame s n (opEntry s n d.entry) d.cs d.addr (s.rdMemN d.buf d.left))
          let s := s.setLine n { s.line n with resetSeen := d.entry :: (s.line n).resetSeen }
          let s := if n.val < 32 then trackAddr s n (opEntry s n d.entry).opcode first else s
          let s := if recovering s n.val = true ∧ kindOf (opEntry s n d.entry).desc = 3 then s.inc Reg.RTB_RCV_PAGES else s
          endDev s n 0)

/-- PROG_LOADED (R132, R134): a bank load completes, accepted or refused. -/
def execProgLoaded (n : Fin 32) (s : State) : Out := act s (fun s => progLoaded s n)

end Sys2Proof.Machine
end

