-- ==== Sys2Proof/Machine/SigRows.lean ====
section
/-! DEFINITION. The commands of the signature-and-session unit and the end of an Examiner job (R216-R238). -/

namespace Sys2Proof.Machine

/-! ### The operations of the signature unit (R234, R235) -/

/-- The job at the head of pipe `p` carries out operation `op`, while SBOX runs.
DEDUCED (log entry 43). -/
def sigOp (s : State) (p op : Nat) (f : State → SigJob → SigEnd × State) : Out :=
  actSettle s (fun s => if domState s 1 = 0 then sigRun s p op f else s)

/-- ECDSA_VERIFY (R234), on V pipe `v`. -/
def execEcdsaVerify (v : Fin 2) (s : State) : Out := sigOp s v.val 0x01 opEcdsaVerify

/-- ECDSA_SIGN (R234, R238). -/
def execEcdsaSign (s : State) : Out := sigOp s 2 0x02 opEcdsaSign

/-- MLDSA_VERIFY (R234), on V pipe `v`. -/
def execMldsaVerify (v : Fin 2) (s : State) : Out := sigOp s v.val 0x03 opMldsaVerify

/-- MLDSA_SIGN (R235), on the S pipe: `v` numbers the S pipes, of which there is one. -/
def execMldsaSign (v : Fin 1) (s : State) : Out := sigOp s (2 + v.val) 0x04 opMldsaSign

/-- LMS_VERIFY (R234), on V pipe `v`. -/
def execLmsVerify (v : Fin 2) (s : State) : Out := sigOp s v.val 0x05 opLmsVerify

/-- EC_EPHEMERAL (R234, R238). -/
def execEcEphemeral (s : State) : Out := sigOp s 2 0x06 opEcEphemeral

/-- ECDH (R234). -/
def execEcdh (s : State) : Out := sigOp s 2 0x07 opEcdh

/-- DERIVE (R234). -/
def execDerive (s : State) : Out := sigOp s 2 0x08 opDerive

/-- AEAD_SEAL (R234). -/
def execAeadSeal (s : State) : Out := sigOp s 2 0x09 opAeadSeal

/-- AEAD_OPEN (R234). -/
def execAeadOpen (s : State) : Out := sigOp s 2 0x0A opAeadOpen

/-- KEYGEN (R234). -/
def execKeygen (s : State) : Out := sigOp s 2 0x0B opKeygen

/-- RANDOM (R234, R238). -/
def execRandom (s : State) : Out := sigOp s 2 0x0C opRandom

/-- ERASE (R234). -/
def execErase (s : State) : Out := sigOp s 2 0x0D opErase

/-- SIG_JOB_DONE (R232): the job that pipe `p` (0 and 1 V, 2 S) has carried out ends. -/
def execSigJobDone (p : Fin 3) (s : State) : Out := actSettle s (fun s => if domState s 1 = 0 then sigEnd s p.val else s)

/-- RBG_FAULT (R238): health test `test` fails. -/
def execRbgFault (test : Byte) (s : State) : Out := actSettle s (fun s => rbgFail s test.toNat)

/-- RBG_OK (R238): the health tests pass; a platform start that found no randomness draws its K_tag (R384). -/
def execRbgOk (s : State) : Out :=
  actSettle s (fun s =>
    let s := rbgPass s
    if platformOn s = true ∧ s.tagKey = none then drawTagKey s else s)

/-! ### The Examiner (R216-R221) -/

/-- Whether the job of lane `l` is a FLASH compare whose bytes are all fed. -/
def comparesFlash (s : State) (l : Nat) : Bool :=
  match (s.lane l).holder with
  | some j => j.flash && j.compare && decide (j.len ≤ j.fed.length)
  | none => false

/-- The SFDP bytes that the job of lane `l` has digested, where it is that job and has all of them (R104). -/
def sfdpBytes (s : State) (l : Nat) : Option (List Byte) :=
  match (s.lane l).holder with
  | some j => if sfdpJob s l j = true ∧ j.fed.length = j.len then some j.fed else none
  | none => none

/-- What follows the end of lane `l`'s job: a comparator fault is a LOGIC event, SFDP bytes are checked, an image that
compares unequal fails its slot, and only MATCH = 1 with MATCH_N = 0 is a match (R104, R177, R182, R221).
DEDUCED (log entry 40). -/
def exmFollow (s : State) (l : Nat) (faulted compared : Bool) (sfdp : Option (List Byte)) : State :=
  let a := Reg.EXM_LANE_STAT l
  let s := if faulted then logicFlagEvent s else s
  match sfdp with
  | some bs => if s.fld a 23 16 = 3 then identSfdp s l bs else s
  | none =>
    if compared = false ∨ s.fld a 23 16 ≠ 3 then s
    else if s.bit a 7 = true ∧ s.bit a 8 = false then imageMatched s l else imageMismatch s l

/-- EXM_JOB_DONE (R221): the job of lane `l` reaches its length, or a bus error (`err`); `fault` is what both flags
of faulty comparators read. -/
def execExmJobDone (l : Fin 34) (err : Bool) (fault : Option Bool) (s : State) : Out :=
  actSettle s (fun s =>
    if domState s 1 ≠ 0 then s
    else
      let r := exmDone s l.val err fault
      exmFollow r.1 l.val r.2 (comparesFlash s l.val) (sfdpBytes s l.val))

end Sys2Proof.Machine
end

