-- ==== Sys2Proof/Machine/SysTx.lean ====
section
/-! DEFINITION. The meanings of the system, transaction and vote instructions of the Wemon processors (R34). -/

namespace Sys2Proof.Machine

/-- MFS (R30): reads a state register. -/
def execMfs (p : Proc) (rd : RegNo) (num : BitVec 12) (s : State) : Out :=
  act s (runWop p (.mfs rd num) (opMfs p rd num))

/-- MTS (R30): writes a state register. -/
def execMts (p : Proc) (rs : RegNo) (num : BitVec 12) (s : State) : Out :=
  act s (runWop p (.mts rs num) (opMts p rs num))

/-- IDENT (R50): reads a processor identity value. -/
def execIdent (p : Proc) (rd : RegNo) (sel : BitVec 4) (s : State) : Out :=
  act s (runWop p (.ident rd sel) (opIdent p rd sel))

/-- TRAP (R39): raises the TRAP exception with a 5-bit code. -/
def execTrap (p : Proc) (code : BitVec 5) (s : State) : Out :=
  act s (runWop p (.trap code) (opTrap p code))

/-- ERET (R39): returns from a trap handler. -/
def execEret (p : Proc) (s : State) : Out :=
  act s (runWop p .eret (opEret p))

/-- PARK (R56): sleeps until a wake condition or a set wake latch. -/
def execPark (p : Proc) (s : State) : Out :=
  act s (runWop p .park (opPark p))

/-- TOPEN (R61): Opens an Interlocking transaction in a free handle of the issuing core. -/
def execTopen (p : Proc) (rd : RegNo) (s : State) : Out :=
  act s (runWop p (.topen rd) (opTopen p rd))

/-- TPUT (R63): Copies an action record and its payload into a transaction and checks it. -/
def execTput (p : Proc) (ra rb : RegNo) (s : State) : Out :=
  act s (runWop p (.tput ra rb) (opTput p ra rb))

/-- TCOMMIT (R64): Submits a transaction for commit, arming or lodging, and returns its status. -/
def execTcommit (p : Proc) (rd ra : RegNo) (s : State) : Out :=
  actSettle s (runWop p (.tcommit rd ra) (opTcommit p rd ra))

/-- TDROP (R62): Abandons a transaction, and its partner where one exists. -/
def execTdrop (p : Proc) (ra : RegNo) (s : State) : Out :=
  actSettle s (runWop p (.tdrop ra) (opTdrop p ra))

/-- PVSET (R387): Sets a firmware vote bit of a power domain. -/
def execPvset (p : Proc) (ra rb : RegNo) (s : State) : Out :=
  actSettle s (runWop p (.pvset ra rb) (opPvote true (.pvset ra rb) p ra rb))

/-- PVCLR (R387): Clears a firmware vote bit of a power domain, which may begin sleep entry. -/
def execPvclr (p : Proc) (ra rb : RegNo) (s : State) : Out :=
  actSettle s (runWop p (.pvclr ra rb) (opPvote false (.pvclr ra rb) p ra rb))

end Sys2Proof.Machine
end

