-- ==== Sys2Proof/Machine/UpdRows.lean ====
section
/-! DEFINITION. Report inputs, trial deadlines, and the update and recovery requests (R162, R187, R193-R209). -/

namespace Sys2Proof.Machine

/-- REPORT_CHANGE (R162, R185-R188, R199): the input of REPORT_l has read a level for some samples. -/
def execReportChange (l : Fin 96) (ready : Bool) (samples : Nat) (s : State) : Out :=
  actSettle s (fun s => confirmReady (compChanges s (reportChange s l.val ready samples)))

/-- REPORT_TIMEOUT (R187): a released component has waited this many ms for its report lines. -/
def execReportTimeout (c : Fin 64) (waited : Nat) (s : State) : Out := actSettle s (fun s => reportTimeout s c.val waited)

/-- TRIAL_DEADLINE (R200): the deadline of a component's trial passes. -/
def execTrialDeadline (c : Fin 64) (s : State) : Out := actSettle s (fun s => revertTrial s c.val)

/-! ### Update requests (R193-R199, R207) -/

/-- Whether update and recovery requests of `q` are accepted (R207). -/
def mayUpdate (s : State) (q : Sender) : Bool :=
  match q with
  | .agent a => decide (a.val < 2)
  | .inst n => n.val == 0 && hasFeature s 0 10

/-- A refused update request (R193). -/
def updRefuse (s : State) (q : Sender) (w0 c st : Nat) : State :=
  (s.fwLog Ev.UPDATE_REFUSED c (leBytes 1 st ++ [0])).answer q w0 st [] true

/-- Why an UPDATE_BEGIN is refused (R193).
DEDUCED (log entry 38). -/
def beginStatus (s : State) (q : Sender) (c : Nat) : Nat :=
  let r := rtbRec s c
  if mayUpdate s q = false then 1
  else if 64 ≤ c then 6
  else if recTrial r = true ∨ s.bit Reg.RTB_UPD_STAT 6 = true then 2
  else if (compState s c ≠ 3 ∧ compState s c ≠ 4) ∨ 2 ≤ recActive r then 3
  else 0

/-- An update of component `c` opened (R193). -/
def updateBegin (s : State) (q : Sender) (w0 c : Nat) : State :=
  let st := beginStatus s q c
  if st ≠ 0 then updRefuse s q w0 c st
  else
    let r := rtbRec s c
    let x := 1 - recActive r
    let t := fwCommit s [updSubject c, rtbAct c r (nextGen (clearSlot r x))]
    if t.2 ≠ 0 then updRefuse t.1 q w0 c (txStatus t.2)
    else
      let s := t.1.fwL Reg.RTB_UPD_STAT 10 0 (c + 2 ^ 6)
      (s.fwLog Ev.UPDATE_BEGIN c (leBytes 1 x ++ leBytes 1 q.origin.code)).answer q w0 0 [] true

/-- UPDATE_BEGIN (R193). -/
def execUpdateBegin (q : Sender) (tag comp : Byte) (s : State) : Out :=
  request (.updateBegin q tag comp) 0x40 q s (fun s => updateBegin s q (reqWord 0x40 comp.toNat 0 tag.toNat) comp.toNat)

/-- Whether an update of component `c` is open and at step `k`. -/
def updOpenAt (s : State) (c k : Nat) : Bool :=
  s.bit Reg.RTB_UPD_STAT 6 && s.fld Reg.RTB_UPD_STAT 5 0 == c && s.fld Reg.RTB_UPD_STAT 10 8 == k

/-- The take of an update (R195 step 1); the outcome is answered when the switch or the failure transaction
commits.
DEDUCED (log entry 38). -/
def updateCommit (s : State) (q : Sender) (w0 c opts : Nat) : State :=
  if mayUpdate s q = false then updRefuse s q w0 c 1
  else match compEntry s c with
    | none => updRefuse s q w0 c 3
    | some e =>
      if updOpenAt s c 0 = false then updRefuse s q w0 c 3
      else
        let t := fwCommit s (takeRecs e)
        if t.2 ≠ 0 then updRefuse t.1 q w0 c (txStatus t.2)
        else
          let s := compChanges t.1 (setCompState (t.1.fwL Reg.RTB_UPD_STAT 10 8 1) c 1)
          let s := s.mapFw (fun f => { f with since := f.since.filter (fun p => p.1 != c) ++ [(c, s.ot)] })
          let s := { s with upd := { s.upd with opts := Sparse.set (fun _ => 0) s.upd.opts c (opts % 4)
                                                who := s.upd.who ++ [(c, (q, w0))] } }
          s.answer q w0 7 [] false

/-- UPDATE_COMMIT (R195): word 1 gives [0] the confirm mode and [1] the min-raise flag. -/
def execUpdateCommit (q : Sender) (tag comp : Byte) (opts : Word) (s : State) : Out :=
  request (.updateCommit q tag comp opts) 0x41 q s (fun s => updateCommit s q (reqWord 0x41 comp.toNat 0 tag.toNat) comp.toNat opts.toNat)

/-- A trial confirmed on request (R199): only under confirm mode 1, and not after the deadline.
DEDUCED (log entry 38). -/
def trialConfirm (s : State) (q : Sender) (w0 c : Nat) : State :=
  let r := rtbRec s c
  if mayUpdate s q = false then s.answer q w0 1 [] true
  else if 64 ≤ c ∨ recTrial r = false ∨ trialPast s r = true ∨ bitOf (updOpts s c) 0 = false then s.answer q w0 3 [] true
  else
    let t := confirmTrial s c
    t.1.answer q w0 (txStatus t.2) [] true

/-- TRIAL_CONFIRM (R199). -/
def execTrialConfirm (q : Sender) (tag comp : Byte) (s : State) : Out :=
  request (.trialConfirm q tag comp) 0x42 q s (fun s => trialConfirm s q (reqWord 0x42 comp.toNat 0 tag.toNat) comp.toNat)

/-- UPDATE_ABORT (R207): before the take the open update is cleared; its slot stays invalid. -/
def execUpdateAbort (q : Sender) (tag comp : Byte) (s : State) : Out :=
  request (.updateAbort q tag comp) 0x43 q s (fun s =>
    let c := comp.toNat
    let w0 := reqWord 0x43 c 0 tag.toNat
    if mayUpdate s q = false then s.answer q w0 1 [] true
    else if updOpenAt s c 0 then (updClose s c 0).answer q w0 0 [] true
    else s.answer q w0 3 [] true)

/-! ### Recovery requests (R203-R209) -/

/-- The source that a RECOVER takes (R204): other slot, V-port, push, in this order, where the mask and the entry
flags allow it. Whether a V-port copy qualifies is seen when firmware has read it.
DEDUCED (log entry 38). -/
def recoverSource (s : State) (e : CompEntry) (x mask : Nat) : Option Nat :=
  if bitOf mask 0 = true ∧ allImages s e 2 = true ∧ recFlag (rtbRec s e.num) (1 - x) = true then some 0
  else if bitOf mask 1 = true ∧ hasCopies e = true then some 1
  else if bitOf mask 2 = true ∧ allImages s e 1 = true then some 2
  else none

/-- The recovery of a component that its take, if it needs one, has committed. A push is awaited; a V-port copy is read first.
DEDUCED (log entry 38). -/
def recoverTaken (s : State) (q : Sender) (w0 c mask source x : Nat) : State :=
  let owe (s : State) : State :=
    ({ s with upd := { s.upd with who := s.upd.who ++ [(c, (q, w0))] } } : State).answer q w0 7 [] false
  if source = 2 then owe (compChanges s (setCompState s c 5))
  else if source = 1 then owe (compChanges s ((setCompState s c 5).mapFw (fun f => { f with recover := f.recover ++ [(c, mask)] })))
  else
    let t := recoveryBegin s c source x
    if t.2 = 0 then owe t.1 else t.1.answer q w0 (txStatus t.2) [] true

/-- RECOVER of component `c` (R204, R205).
DEDUCED (log entry 38). -/
def recover (s : State) (q : Sender) (w0 c mask : Nat) : State :=
  if mayUpdate s q = false then s.answer q w0 1 [] true
  else match compEntry s c, restoreTarget s c with
    | some e, some x =>
      let free := compState s c = 3 ∨ compState s c = 4
      if s.bit Reg.RTB_RCV_STAT 6 = true ∨ s.bit Reg.RTB_UPD_STAT 6 = true ∨ s.upd.push.isSome = true ∨
         s.upd.fw.recover.isEmpty = false
      then s.answer q w0 2 [] true
      else if (¬free ∧ compState s c ≠ 5) ∨ identBad s e = true then s.answer q w0 3 [] true
      else match recoverSource s e x mask with
        | none => s.answer q w0 3 [] true
        | some src =>
          if compState s c = 5 then recoverTaken s q w0 c mask src x
          else
            let t := fwCommit s (takeRecs e)
            if t.2 = 0 then recoverTaken t.1 q w0 c mask src x else t.1.answer q w0 (txStatus t.2) [] true
    | _, _ => s.answer q w0 3 [] true

/-- RECOVER (R204): word 1 names the sources, [0] other slot, [1] V-port, [2] push. -/
def execRecover (q : Sender) (tag comp : Byte) (mask : Word) (s : State) : Out :=
  request (.recover q tag comp mask) 0x48 q s (fun s => recover s q (reqWord 0x48 comp.toNat 0 tag.toNat) comp.toNat mask.toNat)

/-- A refused push (R208). -/
def pushRefuse (s : State) (q : Sender) (w0 c st off : Nat) : State :=
  (s.fwLog Ev.PUSH_REFUSED c (leBytes 1 st ++ leBytes 4 off)).answer q w0 st [] true

/-- The largest push of a stage or of the Consist (R163): its manifest area and image.
DEDUCED (log entry 39). -/
def stageLimit (c : Nat) : Nat :=
  if c = 0xFE then 0x4000 + 384 * 1024 else if c = 0xFD then 0x4000 + 640 * 1024 else 4 * 1024 * 1024

/-- The slot that a PUSH_OPEN names (R208): A, B, or either. -/
def pushSlot (rec : List Byte) (slot : Nat) : Option Nat :=
  if slot = 0xFF then targetSlot rec else if slot < 2 ∧ targetOk rec slot = true then some slot else none

/-- Why a PUSH_OPEN is refused (R205, R207-R209): `restart` where the same origin has it open. Stage 1 is pushed before stage
2 is ready; a push of stage 2 or of the Consist to a stage 2 that is ready begins a handover (R210).
DEDUCED (log entry 39), DESIGN CHOICE (log entry 103). -/
def pushStatus (s : State) (q : Sender) (restart : Bool) (c img total slot : Nat) : Nat :=
  if mayUpdate s q = false then 1
  else if s.upd.push.isSome = true ∧ restart = false then 2
  else if total = 0 then 6
  else if 0xFC ≤ c ∧ c ≤ 0xFE then
    if stageLimit c < total then 6 else if s.stage2Ready = true ∧ c = 0xFE then 3 else if sealed s then 5 else 0
  else match compEntry s c with
    | none => 6
    | some e => match e.images[img]? with
      | none => 6
      | some i =>
        if i.size < total ∨ (2 ≤ slot ∧ slot ≠ 0xFF) then 6
        else if restart then 0
        else if s.bit Reg.RTB_RCV_STAT 6 then 2
        else if compState s c ≠ 5 ∨ identBad s e = true ∨ bitOf (recoveryFlags s i.recovery) 1 = false ∨ (pushSlot (rtbRec s c) slot).isNone = true
        then 3
        else if sealed s then 5 else 0

/-- A push opened, or opened again at offset 0 by the origin that has it open (R208).
DEDUCED (log entry 39). -/
def pushOpen (s : State) (q : Sender) (w0 c img total slot : Nat) : State :=
  let restart := match s.upd.push with
    | some p => p.q == q && p.comp == c && p.image == img && !p.closed
    | none => false
  let st := pushStatus s q restart c img total slot
  if st ≠ 0 then pushRefuse s q w0 c st 0
  else
    let keep (s : State) (x : Nat) : State :=
      let s := s.mapFw (fun f => { f with restore := none })
      ({ s with upd := { s.upd with push := some { q := q, comp := c, image := img, slot := x, total := total, next := 0 } } } : State).answer q w0 0 [] true
    if restart = true then keep s ((s.upd.push.map (fun p => p.slot)).getD 0)
    else if 64 ≤ c then keep s (1 - lastSlot s c)
    else
      let x := (pushSlot (rtbRec s c) slot).getD 0
      let t := recoveryBegin s c 2 x
      if t.2 = 0 then keep t.1 x else pushRefuse t.1 q w0 c (txStatus t.2) 0

/-- PUSH_OPEN (R208): the total in bytes and the target slot (0 A, 1 B, 0xFF either). -/
def execPushOpen (q : Sender) (tag comp img : Byte) (total : Word) (slot : Byte) (s : State) : Out :=
  request (.pushOpen q tag comp img total slot) 0x49 q s (fun s =>
    pushOpen s q (reqWord 0x49 comp.toNat img.toNat tag.toNat) comp.toNat img.toNat total.toNat slot.toNat)

/-- PUSH_DATA (R208): `data` are the bytes of the request, or, on the ring, what the read at the host address brings,
with the kind of its error.
DEDUCED (log entry 39). -/
def pushData (s : State) (q : Sender) (w0 c img off addr : Nat) (data : HostRead) (kind : Nat) : State :=
  match s.upd.push, data with
  | some p, some bs =>
    let most := match q with
      | .agent _ => 56
      | .inst _ => 4096
    if mayUpdate s q = false then s.answer q w0 1 [] true
    else if p.q ≠ q ∨ p.comp ≠ c ∨ p.image ≠ img ∨ p.closed = true then pushRefuse s q w0 c 3 off
    else if off ≠ p.next ∨ (most = 56 ∧ off % 56 ≠ 0) ∨ bs.length = 0 ∨ most < bs.length ∨ p.total < off + bs.length then pushRefuse s q w0 c 6 off
    else ({ s with upd := { s.upd with push := some { p with next := off + bs.length, data := p.data ++ bs } } } : State).answer q w0 0 [] true
  | none, some _ => if mayUpdate s q then pushRefuse s q w0 c 3 off else s.answer q w0 1 [] true
  | _, none => readFailed s q w0 addr kind

/-- PUSH_DATA (R208). -/
def execPushData (q : Sender) (tag comp img : Byte) (off : Word) (addr : Dword) (data : HostRead) (kind : Fin 4)
    (s : State) : Out :=
  request (.pushData q tag comp img off addr data kind) 0x4A q s (fun s =>
    pushData s q (reqWord 0x4A comp.toNat img.toNat tag.toNat) comp.toNat img.toNat off.toNat addr.toNat data kind.val)

/-- A complete push closed (R208, R209): once firmware has written it, a component's is verified and its outcome follows; a stage
or the Consist is selected anew.
DEDUCED (log entry 39). -/
def pushClose (s : State) (q : Sender) (w0 c img : Nat) : State :=
  if mayUpdate s q = false then s.answer q w0 1 [] true
  else match s.upd.push with
    | none => pushRefuse s q w0 c 3 0
    | some p =>
      if p.q ≠ q ∨ p.comp ≠ c ∨ p.image ≠ img ∨ p.closed = true then pushRefuse s q w0 c 3 p.next
      else if p.next < p.total then pushRefuse s q w0 c 6 p.next
      else
        let s := { s with upd := { s.upd with push := some { p with closed := true } } }
        if c < 64 then
          ({ s with upd := { s.upd with who := s.upd.who ++ [(c, (q, w0))] } } : State).answer q w0 7 [] false
        else s.answer q w0 0 [] true

/-- PUSH_CLOSE (R208). -/
def execPushClose (q : Sender) (tag comp img : Byte) (s : State) : Out :=
  request (.pushClose q tag comp img) 0x4B q s (fun s => pushClose s q (reqWord 0x4B comp.toNat img.toNat tag.toNat) comp.toNat img.toNat)

/-- STATUS (R207): RTB_UPD_STAT, RTB_RCV_STAT and the record flags. -/
def execStatus (q : Sender) (tag comp : Byte) (s : State) : Out :=
  request (.status q tag comp) 0x4C q s (fun s =>
    let c := comp.toNat
    let w0 := reqWord 0x4C c 0 tag.toNat
    if mayUpdate s q = false then s.answer q w0 1 [] true
    else if 64 ≤ c then s.answer q w0 6 [] true
    else s.answer q w0 0 (leBytes 4 (s.rd Reg.RTB_UPD_STAT).toNat ++ leBytes 4 (s.rd Reg.RTB_RCV_STAT).toNat ++
      leBytes 1 (leAt (rtbRec s c) 6 1)) true)

end Sys2Proof.Machine
end

