-- ==== Sys2Proof/Machine/Dispatch.lean ====
section
/-! DEFINITION. The dispatch: each command to its meaning. -/

namespace Sys2Proof.Machine

def exec (i : Instr) (s : State) : Host.Outcome State Fault Refusal :=
  match i with
  | .add p rd ra rb => Sys2Proof.Machine.execAdd p rd ra rb s
  | .sub p rd ra rb => Sys2Proof.Machine.execSub p rd ra rb s
  | .and p rd ra rb => Sys2Proof.Machine.execAnd p rd ra rb s
  | .or p rd ra rb => Sys2Proof.Machine.execOr p rd ra rb s
  | .xor p rd ra rb => Sys2Proof.Machine.execXor p rd ra rb s
  | .shl p rd ra rb => Sys2Proof.Machine.execShl p rd ra rb s
  | .shr p rd ra rb => Sys2Proof.Machine.execShr p rd ra rb s
  | .sar p rd ra rb => Sys2Proof.Machine.execSar p rd ra rb s
  | .slt p rd ra rb => Sys2Proof.Machine.execSlt p rd ra rb s
  | .sltu p rd ra rb => Sys2Proof.Machine.execSltu p rd ra rb s
  | .mul p rd ra rb => Sys2Proof.Machine.execMul p rd ra rb s
  | .mulhu p rd ra rb => Sys2Proof.Machine.execMulhu p rd ra rb s
  | .divu p rd ra rb => Sys2Proof.Machine.execDivu p rd ra rb s
  | .remu p rd ra rb => Sys2Proof.Machine.execRemu p rd ra rb s
  | .addi p rd ra imm => Sys2Proof.Machine.execAddi p rd ra imm s
  | .andi p rd ra imm => Sys2Proof.Machine.execAndi p rd ra imm s
  | .ori p rd ra imm => Sys2Proof.Machine.execOri p rd ra imm s
  | .xori p rd ra imm => Sys2Proof.Machine.execXori p rd ra imm s
  | .shli p rd ra n => Sys2Proof.Machine.execShli p rd ra n s
  | .shri p rd ra n => Sys2Proof.Machine.execShri p rd ra n s
  | .sari p rd ra n => Sys2Proof.Machine.execSari p rd ra n s
  | .slti p rd ra imm => Sys2Proof.Machine.execSlti p rd ra imm s
  | .sltui p rd ra imm => Sys2Proof.Machine.execSltui p rd ra imm s
  | .seth p rd hw imm => Sys2Proof.Machine.execSeth p rd hw imm s
  | .insh p rd hw imm => Sys2Proof.Machine.execInsh p rd hw imm s
  | .extr p rd ra pos lenM1 => Sys2Proof.Machine.execExtr p rd ra pos lenM1 s
  | .ldb p rd ra imm => Sys2Proof.Machine.execLdb p rd ra imm s
  | .ldh p rd ra imm => Sys2Proof.Machine.execLdh p rd ra imm s
  | .ldw p rd ra imm => Sys2Proof.Machine.execLdw p rd ra imm s
  | .ldd p rd ra imm => Sys2Proof.Machine.execLdd p rd ra imm s
  | .stb p rs ra imm => Sys2Proof.Machine.execStb p rs ra imm s
  | .sth p rs ra imm => Sys2Proof.Machine.execSth p rs ra imm s
  | .stw p rs ra imm => Sys2Proof.Machine.execStw p rs ra imm s
  | .std p rs ra imm => Sys2Proof.Machine.execStd p rs ra imm s
  | .amoadd p rd ra rb => Sys2Proof.Machine.execAmoadd p rd ra rb s
  | .amoswap p rd ra rb => Sys2Proof.Machine.execAmoswap p rd ra rb s
  | .cas p rd ra rb => Sys2Proof.Machine.execCas p rd ra rb s
  | .fence p kinds => Sys2Proof.Machine.execFence p kinds s
  | .beq p ra rb off => Sys2Proof.Machine.execBeq p ra rb off s
  | .bne p ra rb off => Sys2Proof.Machine.execBne p ra rb off s
  | .blt p ra rb off => Sys2Proof.Machine.execBlt p ra rb off s
  | .bge p ra rb off => Sys2Proof.Machine.execBge p ra rb off s
  | .bltu p ra rb off => Sys2Proof.Machine.execBltu p ra rb off s
  | .bgeu p ra rb off => Sys2Proof.Machine.execBgeu p ra rb off s
  | .jmp p off => Sys2Proof.Machine.execJmp p off s
  | .call p off => Sys2Proof.Machine.execCall p off s
  | .jr p rd ra imm => Sys2Proof.Machine.execJr p rd ra imm s
  | .mfs p rd num => Sys2Proof.Machine.execMfs p rd num s
  | .mts p rs num => Sys2Proof.Machine.execMts p rs num s
  | .ident p rd sel => Sys2Proof.Machine.execIdent p rd sel s
  | .trap p code => Sys2Proof.Machine.execTrap p code s
  | .eret p => Sys2Proof.Machine.execEret p s
  | .park p => Sys2Proof.Machine.execPark p s
  | .topen p rd => Sys2Proof.Machine.execTopen p rd s
  | .tput p ra rb => Sys2Proof.Machine.execTput p ra rb s
  | .tcommit p rd ra => Sys2Proof.Machine.execTcommit p rd ra s
  | .tdrop p ra => Sys2Proof.Machine.execTdrop p ra s
  | .pvset p ra rb => Sys2Proof.Machine.execPvset p ra rb s
  | .pvclr p ra rb => Sys2Proof.Machine.execPvclr p ra rb s
  | .dinit p dc ra => Sys2Proof.Machine.execDinit p dc ra s
  | .dfeed p dc ra rb => Sys2Proof.Machine.execDfeed p dc ra rb s
  | .dfin p dc ra => Sys2Proof.Machine.execDfin p dc ra s
  | .dcmp p rd ra rb dc => Sys2Proof.Machine.execDcmp p rd ra rb dc s
  | .dsave p dc => Sys2Proof.Machine.execDsave p dc s
  | .dload p dc => Sys2Proof.Machine.execDload p dc s
  | .sread p rd ra rb => Sys2Proof.Machine.execSread p rd ra rb s
  | .dma p rd ra => Sys2Proof.Machine.execDma p rd ra s
  | .swait p rd ra => Sys2Proof.Machine.execSwait p rd ra s
  | .wbtake p rd ra => Sys2Proof.Machine.execWbtake p rd ra s
  | .wbdone p ra => Sys2Proof.Machine.execWbdone p ra s
  | .barY p rd => Sys2Proof.Machine.execBarY p rd s
  | .barG p rd => Sys2Proof.Machine.execBarG p rd s
  | .barrierRelease y => Sys2Proof.Machine.execBarrierRelease y s
  | .pass p ra reason => Sys2Proof.Machine.execPass p ra reason s
  | .deny p ra reason => Sys2Proof.Machine.execDeny p ra reason s
  | .stage p ra reason => Sys2Proof.Machine.execStage p ra reason s
  | .serve p ra reason => Sys2Proof.Machine.execServe p ra reason s
  | .check p ra reason => Sys2Proof.Machine.execCheck p ra reason s
  | .fop p rd => Sys2Proof.Machine.execFop p rd s
  | .faddr p rd => Sys2Proof.Machine.execFaddr p rd s
  | .flen p rd => Sys2Proof.Machine.execFlen p rd s
  | .fmode p rd => Sys2Proof.Machine.execFmode p rd s
  | .fdata p rd ra => Sys2Proof.Machine.execFdata p rd ra s
  | .rlook p rd ra => Sys2Proof.Machine.execRlook p rd ra s
  | .cnt p k => Sys2Proof.Machine.execCnt p k s
  | .interruptTaken c => Sys2Proof.Machine.execInterruptTaken c s
  | .stepLimit n => Sys2Proof.Machine.execStepLimit n s
  | .yardRunWrite p y run => Sys2Proof.Machine.execYardRunWrite p y run s
  | .barBreak p y => Sys2Proof.Machine.execBarBreak p y s
  | .doorbell p y m => Sys2Proof.Machine.execDoorbell p y m s
  | .faultMapRestart p y m => Sys2Proof.Machine.execFaultMapRestart p y m s
  | .bcastGo p => Sys2Proof.Machine.execBcastGo p s
  | .bcastDone => Sys2Proof.Machine.execBcastDone s
  | .yrdKeyGo p => Sys2Proof.Machine.execYrdKeyGo p s
  | .keyLoadDone => Sys2Proof.Machine.execKeyLoadDone s
  | .voteMissing h => Sys2Proof.Machine.execVoteMissing h s
  | .ilkArmWrite p m => Sys2Proof.Machine.execIlkArmWrite p m s
  | .commitServed => Sys2Proof.Machine.execCommitServed s
  | .journalRecordComplete ok => Sys2Proof.Machine.execJournalRecordComplete ok s
  | .journalApplied => Sys2Proof.Machine.execJournalApplied s
  | .journalSectorErase k => Sys2Proof.Machine.execJournalSectorErase k s
  | .signalBoxReset badRecs badMin => Sys2Proof.Machine.execSignalBoxReset badRecs badMin s
  | .lockstepMismatch c us => Sys2Proof.Machine.execLockstepMismatch c us s
  | .coreRejoined => Sys2Proof.Machine.execCoreRejoined s
  | .stage2Ready svn build => Sys2Proof.Machine.execStage2Ready svn build s
  | .powerOnReset pfwHigh v33 badRecs badMin badLock canaryLost corruptLog => Sys2Proof.Machine.execPowerOnReset pfwHigh v33 badRecs badMin badLock canaryLost corruptLog s
  | .vinStbyLoss cell => Sys2Proof.Machine.execVinStbyLoss cell s
  | .trstNAssert => Sys2Proof.Machine.execTrstNAssert s
  | .selectFall n => Sys2Proof.Machine.execSelectFall n s
  | .commandRoute n opcode ext addr run => Sys2Proof.Machine.execCommandRoute n opcode ext addr run s
  | .lateVerdict n period => Sys2Proof.Machine.execLateVerdict n period s
  | .selectRise n early edges data steps => Sys2Proof.Machine.execSelectRise n early edges data steps s
  | .replayStart n => Sys2Proof.Machine.execReplayStart n s
  | .replayEnd n reads => Sys2Proof.Machine.execReplayEnd n reads s
  | .busyPoll n value => Sys2Proof.Machine.execBusyPoll n value s
  | .stageEntryComplete n reads => Sys2Proof.Machine.execStageEntryComplete n reads s
  | .flashTimeout n elapsed reads => Sys2Proof.Machine.execFlashTimeout n elapsed reads s
  | .senseTimeout n => Sys2Proof.Machine.execSenseTimeout n s
  | .masterConflict n => Sys2Proof.Machine.execMasterConflict n s
  | .cRstLow n => Sys2Proof.Machine.execCRstLow n s
  | .tagResult n addr page => Sys2Proof.Machine.execTagResult n addr page s
  | .gangerFrame n clocks => Sys2Proof.Machine.execGangerFrame n clocks s
  | .gangerPageDone n page fault => Sys2Proof.Machine.execGangerPageDone n page fault s
  | .gangerWindow => Sys2Proof.Machine.execGangerWindow s
  | .devGo p n => Sys2Proof.Machine.execDevGo p n s
  | .devBurstDone n data => Sys2Proof.Machine.execDevBurstDone n data s
  | .devFrameDone n data => Sys2Proof.Machine.execDevFrameDone n data s
  | .profCheck p n => Sys2Proof.Machine.execProfCheck p n s
  | .profileWrite p n k v be => Sys2Proof.Machine.execProfileWrite p n k v be s
  | .policyWrite p n k v be => Sys2Proof.Machine.execPolicyWrite p n k v be s
  | .pgmLoad p n => Sys2Proof.Machine.execPgmLoad p n s
  | .progLoaded n => Sys2Proof.Machine.execProgLoaded n s
  | .extentStateWrite p x v be => Sys2Proof.Machine.execExtentStateWrite p x v be s
  | .holdPendWrite p high m => Sys2Proof.Machine.execHoldPendWrite p high m s
  | .reportChange l ready samples => Sys2Proof.Machine.execReportChange l ready samples s
  | .holdCfgWrite p l v be => Sys2Proof.Machine.execHoldCfgWrite p l v be s
  | .holdLockWrite p => Sys2Proof.Machine.execHoldLockWrite p s
  | .reportTimeout c waited => Sys2Proof.Machine.execReportTimeout c waited s
  | .trialDeadline c => Sys2Proof.Machine.execTrialDeadline c s
  | .updateBegin q tag comp => Sys2Proof.Machine.execUpdateBegin q tag comp s
  | .updateCommit q tag comp opts => Sys2Proof.Machine.execUpdateCommit q tag comp opts s
  | .trialConfirm q tag comp => Sys2Proof.Machine.execTrialConfirm q tag comp s
  | .updateAbort q tag comp => Sys2Proof.Machine.execUpdateAbort q tag comp s
  | .recover q tag comp mask => Sys2Proof.Machine.execRecover q tag comp mask s
  | .pushOpen q tag comp img total slot => Sys2Proof.Machine.execPushOpen q tag comp img total slot s
  | .pushData q tag comp img off addr data kind => Sys2Proof.Machine.execPushData q tag comp img off addr data kind s
  | .pushClose q tag comp img => Sys2Proof.Machine.execPushClose q tag comp img s
  | .status q tag comp => Sys2Proof.Machine.execStatus q tag comp s
  | .ledgerOpen q tag leaf tree pages nodes kind => Sys2Proof.Machine.execLedgerOpen q tag leaf tree pages nodes kind s
  | .ledgerCommit q tag => Sys2Proof.Machine.execLedgerCommit q tag s
  | .ledgerResume q tag => Sys2Proof.Machine.execLedgerResume q tag s
  | .ledgerRebuild q tag leaf tree pages leaves kind => Sys2Proof.Machine.execLedgerRebuild q tag leaf tree pages leaves kind s
  | .ledgerClose q tag => Sys2Proof.Machine.execLedgerClose q tag s
  | .recordRetire q tag idx => Sys2Proof.Machine.execRecordRetire q tag idx s
  | .recordRead q tag idx => Sys2Proof.Machine.execRecordRead q tag idx s
  | .ttSet q tag k addr entry kind => Sys2Proof.Machine.execTtSet q tag k addr entry kind s
  | .ttClear q tag k => Sys2Proof.Machine.execTtClear q tag k s
  | .auditRange q tag first count table feeds => Sys2Proof.Machine.execAuditRange q tag first count table feeds s
  | .report q tag arg addr => Sys2Proof.Machine.execReport q tag arg addr s
  | .ledgerPageAuth page data path kind => Sys2Proof.Machine.execLedgerPageAuth page data path kind s
  | .ledgerWriteback page => Sys2Proof.Machine.execLedgerWriteback page s
  | .epochTimer => Sys2Proof.Machine.execEpochTimer s
  | .epochCommitted => Sys2Proof.Machine.execEpochCommitted s
  | .ttPassStart k feeds => Sys2Proof.Machine.execTtPassStart k feeds s
  | .passDone who k => Sys2Proof.Machine.execPassDone who k s
  | .passOverdue k => Sys2Proof.Machine.execPassOverdue k s
  | .ttProgressSave => Sys2Proof.Machine.execTtProgressSave s
  | .fixRateWindow => Sys2Proof.Machine.execFixRateWindow s
  | .pf0Reset cause => Sys2Proof.Machine.execPf0Reset cause s
  | .pf0Flr => Sys2Proof.Machine.execPf0Flr s
  | .vfFlr vf => Sys2Proof.Machine.execVfFlr vf s
  | .d3hotToD0 fn => Sys2Proof.Machine.execD3hotToD0 fn s
  | .linkUp rate width flit => Sys2Proof.Machine.execLinkUp rate width flit s
  | .linkDown cause => Sys2Proof.Machine.execLinkDown cause s
  | .instanceResetWrite p n => Sys2Proof.Machine.execInstanceResetWrite p n s
  | .instanceResetDone n us => Sys2Proof.Machine.execInstanceResetDone n us s
  | .enableWrite p n => Sys2Proof.Machine.execEnableWrite p n s
  | .featuresOkWrite p n => Sys2Proof.Machine.execFeaturesOkWrite p n s
  | .featureEvalDone n => Sys2Proof.Machine.execFeatureEvalDone n s
  | .sqTailDoorbell p n v => Sys2Proof.Machine.execSqTailDoorbell p n v s
  | .cmdTailDoorbell p n v => Sys2Proof.Machine.execCmdTailDoorbell p n v s
  | .cqHeadDoorbell p n v => Sys2Proof.Machine.execCqHeadDoorbell p n v s
  | .rspHeadDoorbell p n v => Sys2Proof.Machine.execRspHeadDoorbell p n v s
  | .dirtyDb p v => Sys2Proof.Machine.execDirtyDb p v s
  | .sqFetch n entry list block kind => Sys2Proof.Machine.execSqFetch n entry list block kind s
  | .cmdFetch n entry kind => Sys2Proof.Machine.execCmdFetch n entry kind s
  | .cqPost n => Sys2Proof.Machine.execCqPost n s
  | .dmaError n ring e addr kind => Sys2Proof.Machine.execDmaError n ring e addr kind s
  | .intCoalTimeout n src => Sys2Proof.Machine.execIntCoalTimeout n src s
  | .instCreate q tag n addr block kind => Sys2Proof.Machine.execInstCreate q tag n addr block kind s
  | .instDestroy q tag n => Sys2Proof.Machine.execInstDestroy q tag n s
  | .instReset q tag n => Sys2Proof.Machine.execInstReset q tag n s
  | .instQuiesce q tag n => Sys2Proof.Machine.execInstQuiesce q tag n s
  | .instResume q tag n => Sys2Proof.Machine.execInstResume q tag n s
  | .instQuery q tag n => Sys2Proof.Machine.execInstQuery q tag n s
  | .dirtyStart q tag n base depth => Sys2Proof.Machine.execDirtyStart q tag n base depth s
  | .dirtyStop q tag n => Sys2Proof.Machine.execDirtyStop q tag n s
  | .poolQuery q tag => Sys2Proof.Machine.execPoolQuery q tag s
  | .setEndpointId t src eid => Sys2Proof.Machine.execSetEndpointId t src eid s
  | .getEndpointId t src => Sys2Proof.Machine.execGetEndpointId t src s
  | .getMctpVersionSupport t src type => Sys2Proof.Machine.execGetMctpVersionSupport t src type s
  | .getMessageTypeSupport t src => Sys2Proof.Machine.execGetMessageTypeSupport t src s
  | .getVersion t eid msg us => Sys2Proof.Machine.execGetVersion t eid msg us s
  | .getCapabilities t eid ses msg us => Sys2Proof.Machine.execGetCapabilities t eid ses msg us s
  | .negotiateAlgorithms t eid ses msg supported us => Sys2Proof.Machine.execNegotiateAlgorithms t eid ses msg supported us s
  | .getDigests t eid ses msg us => Sys2Proof.Machine.execGetDigests t eid ses msg us s
  | .getCertificate t eid ses msg us => Sys2Proof.Machine.execGetCertificate t eid ses msg us s
  | .challenge t eid ses msg us => Sys2Proof.Machine.execChallenge t eid ses msg us s
  | .getMeasurements t eid ses msg us => Sys2Proof.Machine.execGetMeasurements t eid ses msg us s
  | .keyExchange t eid ses msg us => Sys2Proof.Machine.execKeyExchange t eid ses msg us s
  | .finish t eid ses msg us => Sys2Proof.Machine.execFinish t eid ses msg us s
  | .heartbeat t eid ses msg us => Sys2Proof.Machine.execHeartbeat t eid ses msg us s
  | .endSession t eid ses msg us => Sys2Proof.Machine.execEndSession t eid ses msg us s
  | .respondIfReady t eid ses msg us => Sys2Proof.Machine.execRespondIfReady t eid ses msg us s
  | .sessionTimeout id => Sys2Proof.Machine.execSessionTimeout id s
  | .securedMessage t eid id declared cipher => Sys2Proof.Machine.execSecuredMessage t eid id declared cipher s
  | .preparedResponseExpiry t eid => Sys2Proof.Machine.execPreparedResponseExpiry t eid s
  | .getPqcChain t eid ses msg us => Sys2Proof.Machine.execGetPqcChain t eid ses msg us s
  | .pqcAttest t eid ses msg us => Sys2Proof.Machine.execPqcAttest t eid ses msg us s
  | .getReport t eid ses msg us => Sys2Proof.Machine.execGetReport t eid ses msg us s
  | .custodyExport t eid ses msg us => Sys2Proof.Machine.execCustodyExport t eid ses msg us s
  | .putObject t eid ses msg us => Sys2Proof.Machine.execPutObject t eid ses msg us s
  | .custodyImport t eid ses msg us => Sys2Proof.Machine.execCustodyImport t eid ses msg us s
  | .getObject t eid ses msg us => Sys2Proof.Machine.execGetObject t eid ses msg us s
  | .releaseObject t eid ses msg us => Sys2Proof.Machine.execReleaseObject t eid ses msg us s
  | .objectBufferTimeout handle => Sys2Proof.Machine.execObjectBufferTimeout handle s
  | .dsSet q tag d addr entry kind => Sys2Proof.Machine.execDsSet q tag d addr entry kind s
  | .dsRefresh q tag d => Sys2Proof.Machine.execDsRefresh q tag d s
  | .mregExtendGo p v => Sys2Proof.Machine.execMregExtendGo p v s
  | .mregExtended => Sys2Proof.Machine.execMregExtended s
  | .ecdsaVerify v => Sys2Proof.Machine.execEcdsaVerify v s
  | .ecdsaSign => Sys2Proof.Machine.execEcdsaSign s
  | .mldsaVerify v => Sys2Proof.Machine.execMldsaVerify v s
  | .mldsaSign v => Sys2Proof.Machine.execMldsaSign v s
  | .lmsVerify v => Sys2Proof.Machine.execLmsVerify v s
  | .ecEphemeral => Sys2Proof.Machine.execEcEphemeral s
  | .ecdh => Sys2Proof.Machine.execEcdh s
  | .derive => Sys2Proof.Machine.execDerive s
  | .aeadSeal => Sys2Proof.Machine.execAeadSeal s
  | .aeadOpen => Sys2Proof.Machine.execAeadOpen s
  | .keygen => Sys2Proof.Machine.execKeygen s
  | .random => Sys2Proof.Machine.execRandom s
  | .erase => Sys2Proof.Machine.execErase s
  | .sigJobDone p => Sys2Proof.Machine.execSigJobDone p s
  | .sigAbort p => Sys2Proof.Machine.execSigAbort p s
  | .rbgFault test => Sys2Proof.Machine.execRbgFault test s
  | .exmSubmit p l desc => Sys2Proof.Machine.execExmSubmit p l desc s
  | .exmJobDone l err fault => Sys2Proof.Machine.execExmJobDone l err fault s
  | .exmAbortHolder p l => Sys2Proof.Machine.execExmAbortHolder p l s
  | .exmAbortMine p l => Sys2Proof.Machine.execExmAbortMine p l s
  | .exmEnd p l => Sys2Proof.Machine.execExmEnd p l s
  | .mbxDataWrite p n k v be => Sys2Proof.Machine.execMbxDataWrite p n k v be s
  | .mbxGo p n len => Sys2Proof.Machine.execMbxGo p n len s
  | .mbxTake p n => Sys2Proof.Machine.execMbxTake p n s
  | .mbxDone p n => Sys2Proof.Machine.execMbxDone p n s
  | .mbxAgtReset p a => Sys2Proof.Machine.execMbxAgtReset p a s
  | .i3cTargetReset a => Sys2Proof.Machine.execI3cTargetReset a s
  | .channelShutdownDone id => Sys2Proof.Machine.execChannelShutdownDone id s
  | .mbxStall n => Sys2Proof.Machine.execMbxStall n s
  | .agentReturn a => Sys2Proof.Machine.execAgentReturn a s
  | .knock ticks => Sys2Proof.Machine.execKnock ticks s
  | .detectorEvent x det stamp lasting extra => Sys2Proof.Machine.execDetectorEvent x det stamp lasting extra s
  | .lockdownRecordJournaled => Sys2Proof.Machine.execLockdownRecordJournaled s
  | .backupSample quiet seen => Sys2Proof.Machine.execBackupSample quiet seen s
  | .cellWindowTimeout cell => Sys2Proof.Machine.execCellWindowTimeout cell s
  | .tmpLockWrite p => Sys2Proof.Machine.execTmpLockWrite p s
  | .unlock q tag ticket => Sys2Proof.Machine.execUnlock q tag ticket s
  | .cellServiceOpen q tag ticket => Sys2Proof.Machine.execCellServiceOpen q tag ticket s
  | .cellServiceClose q tag cell => Sys2Proof.Machine.execCellServiceClose q tag cell s
  | .fuseSource q tag src ticket => Sys2Proof.Machine.execFuseSource q tag src ticket s
  | .tamperStatus q tag => Sys2Proof.Machine.execTamperStatus q tag s
  | .evrWriteAged => Sys2Proof.Machine.execEvrWriteAged s
  | .evrFlushDone fails => Sys2Proof.Machine.execEvrFlushDone fails s
  | .evrReclaim => Sys2Proof.Machine.execEvrReclaim s
  | .nvmFaultRetry ok => Sys2Proof.Machine.execNvmFaultRetry ok s
  | .evrCursorWrite p k v => Sys2Proof.Machine.execEvrCursorWrite p k v s
  | .correlate q tag host format label => Sys2Proof.Machine.execCorrelate q tag host format label s
  | .pfwNFall => Sys2Proof.Machine.execPfwNFall s
  | .pfFlush us => Sys2Proof.Machine.execPfFlush us s
  | .pfwNRise us => Sys2Proof.Machine.execPfwNRise us s
  | .staffNonce q tag => Sys2Proof.Machine.execStaffNonce q tag s
  | .lcsData q tag off data => Sys2Proof.Machine.execLcsData q tag off data s
  | .staffSubmit q tag len => Sys2Proof.Machine.execStaffSubmit q tag len s
  | .lcTransit q tag target ticket => Sys2Proof.Machine.execLcTransit q tag target ticket s
  | .eraseUserSecrets q tag ticket => Sys2Proof.Machine.execEraseUserSecrets q tag ticket s
  | .debugArm q tag ticket => Sys2Proof.Machine.execDebugArm q tag ticket s
  | .ownerKeySet q tag slot cosign hash => Sys2Proof.Machine.execOwnerKeySet q tag slot cosign hash s
  | .lcStatus q tag => Sys2Proof.Machine.execLcStatus q tag s
  | .keystoreLoad q tag len => Sys2Proof.Machine.execKeystoreLoad q tag len s
  | .mtmMarch p target => Sys2Proof.Machine.execMtmMarch p target s
  | .mtmCheckerboard p target => Sys2Proof.Machine.execMtmCheckerboard p target s
  | .mtmRetention p target => Sys2Proof.Machine.execMtmRetention p target s
  | .mtmNvmMargin0 p target => Sys2Proof.Machine.execMtmNvmMargin0 p target s
  | .mtmNvmMargin1 p target => Sys2Proof.Machine.execMtmNvmMargin1 p target s
  | .lcAdvance p => Sys2Proof.Machine.execLcAdvance p s
  | .lcEol p => Sys2Proof.Machine.execLcEol p s
  | .mtmDone fail => Sys2Proof.Machine.execMtmDone fail s
  | .idcode => Sys2Proof.Machine.execIdcode s
  | .bypass => Sys2Proof.Machine.execBypass s
  | .extest => Sys2Proof.Machine.execExtest s
  | .samplePreload => Sys2Proof.Machine.execSamplePreload s
  | .intest => Sys2Proof.Machine.execIntest s
  | .debugHalt p => Sys2Proof.Machine.execDebugHalt p s
  | .debugStep p w => Sys2Proof.Machine.execDebugStep p w s
  | .debugResume p => Sys2Proof.Machine.execDebugResume p s
  | .platformOff q tag => Sys2Proof.Machine.execPlatformOff q tag s
  | .platformOn q tag => Sys2Proof.Machine.execPlatformOn q tag s
  | .powerStatus q tag => Sys2Proof.Machine.execPowerStatus q tag s
  | .sleepPrepareDone d slow => Sys2Proof.Machine.execSleepPrepareDone d slow s
  | .sleepCommitDone d => Sys2Proof.Machine.execSleepCommitDone d s
  | .sleepRetry p d => Sys2Proof.Machine.execSleepRetry p d s
  | .wake src => Sys2Proof.Machine.execWake src s
  | .domainRun d => Sys2Proof.Machine.execDomainRun d s
  | .retentionCheckDone kind bank upset => Sys2Proof.Machine.execRetentionCheckDone kind bank upset s
  | .yardOpWrite p y v be => Sys2Proof.Machine.execYardOpWrite p y v be s
  | .voltGood y => Sys2Proof.Machine.execVoltGood y s
  | .clkCtlWrite p v be => Sys2Proof.Machine.execClkCtlWrite p v be s
  | .pllLock p => Sys2Proof.Machine.execPllLock p s
  | .pllLockLoss p refclk => Sys2Proof.Machine.execPllLockLoss p refclk s
  | .sbxSnap p => Sys2Proof.Machine.execSbxSnap p s
  | .snapshot q tag us => Sys2Proof.Machine.execSnapshot q tag us s
  | .nvcProgram p => Sys2Proof.Machine.execNvcProgram p s
  | .nvcErase p => Sys2Proof.Machine.execNvcErase p s
  | .nvcDone bad => Sys2Proof.Machine.execNvcDone bad s
  | .registerWrite p a v be hi => Sys2Proof.Machine.execRegisterWrite p a v be hi s
  | .illegalWord p word => Sys2Proof.Machine.execIllegalWord p word s
  | .csTimecmpReached c => Sys2Proof.Machine.execCsTimecmpReached c s
  | .streamTransferDone e k data kind => Sys2Proof.Machine.execStreamTransferDone e k data kind s
  | .fSenseNChange n low => Sys2Proof.Machine.execFSenseNChange n low s
  | .mainRailsFail us => Sys2Proof.Machine.execMainRailsFail us s
  | .perstNRelease => Sys2Proof.Machine.execPerstNRelease s
  | .configurationRequest r => Sys2Proof.Machine.execConfigurationRequest r s
  | .mctpPacket t src tag seq sof eof bytes => Sys2Proof.Machine.execMctpPacket t src tag seq sof eof bytes s
  | .downstreamResponse d msg => Sys2Proof.Machine.execDownstreamResponse d msg s
  | .downstreamResponseTimeout d => Sys2Proof.Machine.execDownstreamResponseTimeout d s
  | .rbgOk => Sys2Proof.Machine.execRbgOk s
  | .lowWordRead p a => Sys2Proof.Machine.execLowWordRead p a s
  | .crystalStart => Sys2Proof.Machine.execCrystalStart s
  | .i3cDynamicAddress t addr i2c ibi => Sys2Proof.Machine.execI3cDynamicAddress t addr i2c ibi s

end Sys2Proof.Machine
end

