-- ==== Sys2Proof/Machine/Firmware.lean ====
section
/-! DEFINITION. Signal-box firmware's own work up to the start of verification (R163-R173, R129, R151): what it reads from the
flash ports, the choice and acceptance of the stages and of the Consist, and the settings of lines and sections. It is done
while no command waits, a piece of it at each tick. -/

namespace Sys2Proof.Machine

/-! ### Transactions and registers -/

/-- Whether the Interlocking is free for a transaction of firmware's. -/
def ilkFree (s : State) : Bool := s.ilk.queue.isEmpty && s.ilk.busy.isNone

/-- A transaction of firmware's committed, where nothing stands against it now: the Interlocking is free, the relief core can
vote, every precondition holds, and a journaled one meets no power failure. Answers whether it committed.
DESIGN CHOICE (log entry 103). -/
def fwTry (s : State) (rs : List ActRec) : State × Bool :=
  if ilkFree s = false ∨ (votedRecs rs = true ∧ s.ilk.reliefAbsent = true) ∨ (commitFault s 0 rs).isSome = true ∨
     powerFailing s = true then (s, false)
  else
    let t := fwCommit s rs
    (t.1, t.2 == 0)

/-- A register written by the on-duty core. -/
def fwReg (s : State) (a v : Nat) : State := writeWord s (.core s.duty) a (BitVec.ofNat 32 v) 0xF

/-- Firmware's buffers in the on-duty core's data memory: a page for each port, an Examiner descriptor with its expected and
its result value for each lane, a program image and a resolved table.
DESIGN CHOICE (log entry 104). -/
def pageBuf (s : State) (n : Nat) : Nat := coreBase s.duty + 0x1A0000 + n * 0x1000
def descBuf (s : State) (l : Nat) : Nat := coreBase s.duty + 0x1D0000 + l * 0x100
def progBuf (s : State) : Nat := coreBase s.duty + 0x1E0000
def tableBuf (s : State) : Nat := coreBase s.duty + 0x1F0000

/-! ### Reading a port (R105) -/

/-- Whether firmware can issue a DEVICE frame on port `n`. -/
def portFree (s : State) (n : Nat) : Bool :=
  (s.line n).dev.isNone && !s.bit (Reg.SEC_DEV_STAT n) 0 && pointsOf s n == 1 && s.bit (Reg.SEC_PORT_STAT n) 4 &&
    lineLocked s && (decide (32 ≤ n) || lineRuns s n) && !powerFailing s

/-- A DEVICE frame issued: the entry, chip select, destination, address, length and buffer. -/
def fwFrame (s : State) (n entry cs dest addr len buf : Nat) : State :=
  let s := fwReg s (Reg.SEC_DEV_OP n) (entry + cs * 2 ^ 8 + dest * 2 ^ 9)
  let s := fwReg (fwReg (fwReg s (Reg.SEC_DEV_ADDR n) addr) (Reg.SEC_DEV_LEN n) len) (Reg.SEC_DEV_BUF n) buf
  fwReg s (Reg.SEC_DEV_GO n) 1

/-- The index of the first opcode entry of port `n` that satisfies `p`. -/
def entryFor (s : State) (n : Nat) (p : OpEntry → Bool) : Option Nat := firstBad p (opEntries s n)

/-- The READ entry with which firmware reads flash address `a` of port `n`: the first whose address reaches it. -/
def readEntry (s : State) (n a : Nat) : Option Nat :=
  entryFor s n (fun e => kindOf e.desc == 0 && bitsOf e.desc 7 6 != 0 && (deviceAddrLen s n e.desc == 4 || decide (a < 2 ^ 24)))

/-- A page that firmware has read. -/
def readPage (s : State) (n cs a : Nat) : Option (List Byte) :=
  (s.upd.fw.pages.find? (fun p => p.port == n && p.cs == cs && p.addr == a)).map (fun p => p.bytes)

/-- The pages that hold `len` bytes from `a`. -/
def flashPages (a len : Nat) : List Nat :=
  (List.range ((a % 4096 + len + 4095) / 4096)).map (fun i => a / 4096 * 4096 + 4096 * i)

/-- The first of these that firmware has not read. -/
def missing (s : State) (n cs a len : Nat) : Option Nat := (flashPages a len).find? (fun p => (readPage s n cs p).isNone)

/-- `len` bytes from `a` as firmware read them. -/
def pageBytes (s : State) (n cs a len : Nat) : List Byte :=
  (((flashPages a len).flatMap (fun p => (readPage s n cs p).getD (List.replicate 4096 0xFF))).drop (a % 4096)).take len

/-- The read of one page begun, where the port is free and an entry reaches it. -/
def startRead (s : State) (n cs a : Nat) : State :=
  match readEntry s n a with
  | some i =>
    if portFree s n then
      (fwFrame s n i cs 1 a 4096 (pageBuf s n)).mapFw (fun f => { f with reading := f.reading ++ [(n, cs, a)] })
    else s
  | none => s

/-- The next page of a range that is not read yet begun. -/
def want (s : State) (n cs a len : Nat) : State :=
  match missing s n cs a len with
  | some p => startRead s n cs p
  | none => s

/-- The reads that have ended collected; one that failed is begun again when its page is next wanted. -/
def collect (s : State) : State :=
  s.upd.fw.reading.foldl (fun s r =>
    if (s.line r.1).dev.isSome then s
    else
      let s := s.mapFw (fun f => { f with reading := f.reading.filter (· != r) })
      if s.fld (Reg.SEC_DEV_STAT r.1) 4 2 = 0 then
        let bs := s.rdMemN (s.rd (Reg.SEC_DEV_BUF r.1)).toNat 4096
        s.mapFw (fun f => { f with pages := f.pages ++ [⟨r.1, r.2.1, r.2.2, bs⟩] })
      else s) s

/-- What was read of the ports `ns` forgotten. -/
def forget (s : State) (ns : List Nat) : State :=
  s.mapFw (fun f => { f with pages := f.pages.filter (fun p => !ns.contains p.port), reading := f.reading.filter (fun r => !ns.contains r.1) })

/-- An Examiner job submitted on lane `l` by the on-duty core; with `expected` it compares (R217). -/
def fwJob (s : State) (l alg len : Nat) (expected : Option (List Byte)) : State :=
  let a := descBuf s l
  let z : List Byte := List.replicate 8 0
  let d := leBytes 1 alg ++ leBytes 1 (if expected.isSome then 3 else 1) ++ z.take 6 ++ leBytes 8 len ++ z ++
    leBytes 8 (if expected.isSome then a + 64 else 0) ++ leBytes 8 (a + 128) ++ z ++ z ++ z
  fwReg ((s.wrMemN a d).wrMemN (a + 64) (takePad 64 (expected.getD []))) (Reg.EXM_LANE_SUBMIT l) a

/-! ### Responses that the Consist names (R129, R151) -/

/-- The hold lines of a component asserted by a single-vote transaction; one that claims none needs none. -/
def assertHolds (s : State) (e : CompEntry) : State × Bool :=
  if e.holds.isEmpty then (s, true) else fwTry s (holdRecs e.holds true)

/-- Component `c` is held by a response that the Consist names. -/
def noteResponse (s : State) (c : Nat) : State :=
  { s with upd := { s.upd with response := s.upd.response.filter (· != c) ++ [c] } }

/-- A flash-side fault of section `n` with flash_fail_hold answered (R129). -/
def answerFlashFail (s : State) (n : Nat) : State :=
  if (s.line n).flashFail = false then s
  else
    let r := (compsOf s [n]).foldl (fun (r : State × Bool) e =>
      let t := assertHolds r.1 e
      (if t.2 then noteResponse t.1 e.num else t.1, r.2 && t.2)) (s, true)
    if r.2 then r.1.setLine n { r.1.line n with flashFail := false } else r.1

/-- A bit of DEP_HOLD_PEND answered (R151): the component's lines are asserted, then the bit is written 1. -/
def answerHoldPend (s : State) (c : Nat) : State :=
  if holdPend s c = false then s
  else
    let t := match compEntry s c with
      | some e => assertHolds s e
      | none => (s, true)
    if t.2 then
      fwReg (noteResponse t.1 c) (if c < 32 then Reg.DEP_HOLD_PEND_LO else Reg.DEP_HOLD_PEND_HI) (2 ^ (c % 32))
    else t.1

/-- The responses of the signal box. -/
def answerResponses (s : State) : State :=
  (List.range 64).foldl answerHoldPend ((List.range 32).foldl answerFlashFail s)

/-! ### The stages (R163-R167) -/

/-- The ROM's built-in H-port profile (R106): 1S-1S-1S, opcode 0x03 with a 3-byte address, divider 32, either chip select.
What the rule leaves open of a profile's fields does not bear on a read.
DESIGN CHOICE (log entry 105). -/
def builtInProfile (v33 : Bool) : List Byte :=
  let desc := 0x1040 + 42 * 2 ^ 13
  let head := leBytes 4 0x4650524C ++ leBytes 2 1 ++ leBytes 2 0 ++
    [0, 0, 32, BitVec.ofNat 8 (b2n v33), 8, 12, 3, 2, 24, 24, 0, 0] ++ leBytes 4 0x01000000 ++ [0, 0, 0, 1, 0]
  takePad 512 (takePad 64 head ++ leBytes 1 3 ++ [0] ++ leBytes 4 desc)

/-- A profile written to port `n` and checked (R102, R103). -/
def installProfile (s : State) (n : Nat) (p : List Byte) : State :=
  let s := (List.range 128).foldl (fun s k => fwReg s (Reg.SEC_PROFILE n k) (leAt p (4 * k) 4)) s
  fwReg s (Reg.SEC_PROF_CHECK n) 1

/-- The H-port slots of stage `n` in the order of R164's last choice: source code, chip select, address. -/
def stageSlots (n : Nat) : List (Nat × Nat × Nat) :=
  if n = 1 then [(0, 0, 0), (4, 1, 0), (1, 0, 0x400000), (5, 1, 0x400000)] else [(0, 0, 0x1000000), (1, 0, 0x1800000)]

/-- The manifest area of an H-port slot. -/
def slotManifest (s : State) (p : Nat × Nat × Nat) : List Byte := pageBytes s 32 p.2.1 p.2.2 16384

/-- `n` bytes of the stage-1 shadow (R165, R406), which holds a slot's manifest area and image. -/
def shadowBytes (s : State) (off n : Nat) : List Byte := s.rdMemN (0x10694000 + off) n

/-- Why a slot of stage `n` is no candidate: its manifest, or an image that did not match it. -/
def slotCauseOf (s : State) (n : Nat) (p : Nat × Nat × Nat) : Option Nat :=
  if hasFailed s (0xFF - n) p.1 then some 7 else stageCause s n (slotManifest s p)

/-- Whether manifest `m` is preferred to `q`: by SVN, then by build. -/
def newer (m q : List Byte) : Bool := decide (manSvn q < manSvn m ∨ (manSvn q = manSvn m ∧ manBuild q < manBuild m))

/-- The H-port slot that R164 chooses. -/
def stageChoice (s : State) (n : Nat) : Option (Nat × Nat × Nat) :=
  ((stageSlots n).filter (fun p => (slotCauseOf s n p).isNone)).foldl (fun b p =>
    match b with
    | none => some p
    | some q => if newer (slotManifest s p) (slotManifest s q) then some p else some q) none

/-- What a stage is read from: the source's code, its manifest, and where its image lies (none for the shadow). -/
structure StageSource where
  src : Nat
  man : List Byte
  place : Option (Nat × Nat)
deriving DecidableEq, Repr

/-- The source of stage `n` (R164, R165): the shadow's image where its manifest digest is the chosen slot's, and the shadow
itself where no H-port slot is a candidate. -/
def stageSource (s : State) (n : Nat) : Option StageSource :=
  let sh := shadowBytes s 0 16384
  match stageChoice s n with
  | some p =>
    let m := slotManifest s p
    some ⟨p.1, m, if n = 1 ∧ manMd sh = manMd m then none else some (p.2.1, p.2.2 + 0x4000)⟩
  | none => if n = 1 ∧ stageCause s 1 sh = none ∧ hasFailed s 0xFE 2 = false then some ⟨2, sh, none⟩ else none

/-- Whether something is noted once. -/
def isNoted (s : State) (k : Nat) : Bool := s.upd.fw.noted.contains k
def putNote (s : State) (k : Nat) : State := s.mapFw (fun f => { f with noted := f.noted ++ [k] })

/-- The slots of stage `n` that are no candidates recorded, once (R164). -/
def noteStageFails (s : State) (n : Nat) : State :=
  if isNoted s n then s
  else
    putNote ((stageSlots n).foldl (fun t p =>
      match slotCauseOf s n p with
      | some c => t.fwLog Ev.SLOT_FAIL n (leBytes 1 (p.1 % 2) ++ leBytes 1 p.2.1 ++ leBytes 1 c)
      | none => t) s) n

/-- Stage 1 rewrites the shadow where the accepted image is not there (R165). -/
def refreshShadow (s : State) (m image : List Byte) : State :=
  if manMd (shadowBytes s 0 128) = manMd m then s
  else s.wrMemN 0x10694000 (takePad 16384 (m.take (manTotal m)) ++ image)

/-- Where each core keeps the image of stage `n` (R168). -/
def stageArea (n : Nat) (c : Fin 2) : Nat := coreBase c + if n = 1 then 0 else 0x60000

/-- A stage source tried (R165, R166): each core copies the image and digests its copy; a copy that does not match is no
candidate any more, and a matching one is put to the vote. -/
def stageTry (s : State) (n : Nat) (t : StageSource) : State :=
  let m := t.man
  let len := manLen m
  match t.place.bind (fun p => (missing s 32 p.1 p.2 len).map (fun _ => p)) with
  | some p => want s 32 p.1 p.2 len
  | none =>
    let image := match t.place with
      | some p => pageBytes s 32 p.1 p.2 len
      | none => shadowBytes s 0x4000 len
    let cores := liveCores s
    let s := cores.foldl (fun s c => s.wrMemN (stageArea n c) image) s
    if cores.all (fun c => digestOf (manAlg m) [] (s.rdMemN (stageArea n c) len) == manDigest m) = false then
      let s := s.fwLog Ev.SLOT_FAIL n (leBytes 1 (t.src % 2) ++ leBytes 1 (t.src / 4) ++ leBytes 1 7)
      { s with upd := { s.upd with failed := (0xFF - n, t.src, 7) :: s.upd.failed } }
    else
      let s := keepStage s n ⟨manSvn m, manBuild m, manMd m, t.src⟩
      let r := fwTry s [⟨0x0E, n, 0, leAt (manMd m) 0 8, []⟩, ⟨0x05, n - 1, (s.rd (Reg.RTB_MINVER (n - 1))).toNat, 0, []⟩]
      if r.2 then forget (if n = 1 ∧ t.src ≠ 2 then refreshShadow r.1 m image else r.1) [32] else r.1

/-- Whether the acceptance of stage `n` is no longer attempted (R166). -/
def stageStopped (s : State) (n : Nat) : Bool :=
  decide (3 ≤ Sparse.get (fun _ => 0) s.upd.stageFails n) && !s.upd.fw.pushed.contains n

/-- One piece of the selection of stage `n` (R164-R167). With a core retired the acceptance waits for its vote (R72). -/
def bootStage (s : State) (n : Nat) : State :=
  match (stageSlots n).find? (fun p => (missing s 32 p.2.1 p.2.2 16384).isSome) with
  | some p => want s 32 p.2.1 p.2.2 16384
  | none =>
    let s := noteStageFails s n
    match stageSource s n with
    | none => if isNoted s (10 + n) then s else putNote (noStage s n 0) (10 + n)
    | some t => if stageStopped s n = true ∨ s.retired.isEmpty = false then s else stageTry s n t

/-! ### The Consist (R170-R173) -/

/-- Consist slot `x` of the H-port as firmware read it (R163). -/
def consistSlot (s : State) (x : Nat) : Reader := fun off n => pageBytes s 32 0 (0x804000 + x * 0x400000 + off) n

/-- How much of a Consist source is to be read: its header tells. -/
def consistSpan (r : Reader) : Nat :=
  if srcLe r 0 4 = 0x54534E43 ∧ srcLe r 12 4 ≤ 4 * 1024 * 1024 - 24 * 1024 then srcLe r 12 4 + 8192 else 256

/-- Whether a page of Consist slot `x` is still to be read. -/
def consistUnread (s : State) (x : Nat) : Bool :=
  (missing s 32 0 (0x804000 + x * 0x400000) 256).isSome ||
    (missing s 32 0 (0x804000 + x * 0x400000) (consistSpan (consistSlot s x))).isSome

/-- The next page of Consist slot `x` begun. -/
def wantConsist (s : State) (x : Nat) : State :=
  if (missing s 32 0 (0x804000 + x * 0x400000) 256).isSome then want s 32 0 (0x804000 + x * 0x400000) 256
  else want s 32 0 (0x804000 + x * 0x400000) (consistSpan (consistSlot s x))

/-- The sources of the Consist with their codes, in the order of R170's last choice. -/
def consistSources (s : State) : List (Nat × Reader) := [(0, consistSlot s 0), (1, consistSlot s 1), (2, consistSource s)]

/-- The source that R170 chooses. -/
def consistChoice (s : State) : Option (Nat × Reader) :=
  ((consistSources s).filter (fun p => (consistCause s p.2).isNone)).foldl (fun b p =>
    match b with
    | none => some p
    | some q => if srcLe q.2 8 4 < srcLe p.2 8 4 then some p else some q) none

/-- The sources that are no candidates recorded, once (R170). -/
def noteConsistFails (s : State) : State :=
  if isNoted s 3 then s
  else
    putNote ((consistSources s).foldl (fun t p =>
      match consistCause s p.2 with
      | some c => t.fwLog Ev.CONSIST_FAIL 0 (leBytes 1 p.1 ++ leBytes 1 c.1 ++ leBytes 1 c.2)
      | none => t) s) 3

/-- The eNVM copy made equal to a source, signature block included. -/
def copyConsist (s : State) (r : Reader) : State := s.wrMemN consistBase (r 0 (srcLe r 12 4 + 8192))

/-- At a start every component that is neither accepted nor released is verified (again). -/
def verifyAll (s : State) : State :=
  (components s).foldl (fun s e =>
    let v := compState s e.num
    if v = 2 ∨ v = 3 ∨ v = 4 then s else setCompState s e.num 1) s

/-- One piece of the selection of the Consist (R170). -/
def selectConsist (s : State) : State :=
  match [0, 1].find? (consistUnread s) with
  | some x => wantConsist s x
  | none =>
    let s := noteConsistFails s
    match consistChoice s with
    | none => s
    | some p => forget (consistAccepted (verifyAll (if p.1 = 2 then s else copyConsist s p.2)) p.1) [32]

/-! ### Settings from the Consist (R103, R108, R160) -/

/-- The claimed lines configured and locked (R160); a stage 2 that finds them locked writes none (R443). -/
def configureHolds (s : State) : State :=
  if s.bit Reg.HLD_LOCK 0 then s
  else
    let s := (List.range 96).foldl (fun s l =>
      if (lineOwner s l).isSome then fwReg s (Reg.HLD_LCFG l) (holdEntry s l).toNat else s) s
    fwReg s Reg.HLD_LOCK 1

/-- Section `n` set as its section record gives, with its profile checked. -/
def configureSection (s : State) (n : Nat) : State :=
  let r := consistSource s
  match sectionOf r n with
  | none => s
  | some k =>
    match profileOf r k.profile with
    | none => s
    | some p =>
      let op (i : Nat) : Nat := k.ops.getD i 0
      let s := fwReg s (Reg.SEC_CFG n) (k.flags % 2)
      let s := fwReg s (Reg.SEC_POL n) (k.denyFill + k.flags / 2 % 4 * 2 ^ 8 + k.pollUs * 2 ^ 16)
      let s := fwReg s (Reg.SEC_TIMEOUT n) (k.progUs + k.eraseMs * 2 ^ 16)
      let s := fwReg s (Reg.SEC_ADDR_OPS n) (op 0 + op 1 * 2 ^ 8 + op 2 * 2 ^ 16 + op 5 * 2 ^ 24)
      let s := fwReg s (Reg.SEC_WEL_OPS n) (op 3 + op 4 * 2 ^ 8)
      let s := (List.range 4).foldl (fun s i => fwReg s (Reg.SEC_STATUS n i) (k.status.getD i 0)) s
      (installProfile s n p).mapFw (fun f => { f with loaded := f.loaded ++ [n] })

/-- The sections of the components in verification whose points are not DEVICE. -/
def verifying (s : State) : List CompEntry :=
  (components s).filter (fun e => compState s e.num == 1 && !updatingComp s e.num && !recoveringComp s e.num)

/-- The sections of the components in verification set and put into DEVICE points (R177). What one core's sections
hold while a component runs stands (R19). -/
def startVerification (s : State) : State :=
  let ns := (verifying s).flatMap (fun e => e.sections)
  if ns.all (lineRuns s) = false then s
  else
    let s := (ns.filter (fun n => !s.upd.fw.loaded.contains n && pointsOf s n != 2)).foldl configureSection s
    let rest := ns.filter (fun n => pointsOf s n != 1)
    if rest.isEmpty then s else (fwTry s (⟨0x0E, 0, 5, 0, []⟩ :: pointsRecs rest 1)).1

/-- One piece of the controller's own start: the stages in turn, then the Consist, then the settings from it. In BLANK and
EOL the ROM runs no stage 1 (R365). -/
def bootStep (s : State) : State :=
  if s.upd.fw.stage = 0 ∧ (lcState s = 0 ∨ lcState s = 4) then s
  else if s.upd.fw.stage = 0 then
    let s := if s.bit (Reg.SEC_PORT_STAT 32) 4 then s
      else installProfile s 32 (builtInProfile (s.bit (Reg.SEC_PORT_STAT 32) 5))
    bootStage s 1
  else if s.upd.fw.stage = 1 then bootStage s 2
  else if s.upd.fw.consist = none then selectConsist s
  else
    let s := configureHolds s
    if platformOn s = true ∧ s.pwr.standby = false then startVerification s else s

end Sys2Proof.Machine
end

