-- ==== Sys2Proof/Machine/Verifier.lean ====
section
/-! DEFINITION. The verification and release of components by signal-box firmware (R104, R140, R142, R144, R177-R188):
manifests, the choice of a slot, extents and banks, the image reads, acceptance and release. -/

namespace Sys2Proof.Machine

/-! ### Slots and manifests -/

/-- The recovery entry of an image. -/
def recoveryOf (s : State) (i : Image) : Option (List Byte) := (recoveryEntries (consistSource s))[i.recovery]?

/-- Where slot `x` of an image lies (0 A, 1 B, 2 the V-port copy): port, chip select, flash address. -/
def slotPlace (s : State) (i : Image) (x : Nat) : Nat × Nat × Nat :=
  if x = 2 then
    let c := copyOf ((recoveryOf s i).getD [])
    (33, c.1, c.2.1)
  else
    let a := i.slot x
    let cs := csOf s i.sec a
    (i.sec, cs, flashAddr s i.sec cs a)

/-- How many bytes of a manifest are read: whole bursts, as many as its header says (R177). -/
def manifestSpan (b : List Byte) : Nat :=
  if leAt b 0 4 = 0x544E464D ∧ manTotal b ≤ 16384 then max 128 (manTotal b) else 4096

/-- The manifest of an image in slot `x`, as firmware read it. -/
def manifestAt (s : State) (i : Image) (x : Nat) : List Byte :=
  let p := slotPlace s i x
  let a := p.2.2 + i.manifest
  pageBytes s p.1 p.2.1 a (manifestSpan (pageBytes s p.1 p.2.1 a 4096))

/-- How much of it is still to be read. -/
def manifestNeed (s : State) (i : Image) (x : Nat) : Option (Nat × Nat × Nat × Nat) :=
  let p := slotPlace s i x
  let a := p.2.2 + i.manifest
  let n := if (missing s p.1 p.2.1 a 4096).isSome then 4096 else manifestSpan (pageBytes s p.1 p.2.1 a 4096)
  (missing s p.1 p.2.1 a n).map (fun _ => (p.1, p.2.1, a, n))

/-- The manifests of slots `xs` of a component asked for; whether they are all read. -/
def readManifests (s : State) (e : CompEntry) (xs : List Nat) : State × Bool :=
  let needs := xs.flatMap (fun x => e.images.filterMap (fun i => manifestNeed s i x))
  (needs.foldl (fun s q => want s q.1 q.2.1 q.2.2.1 q.2.2.2) s, needs.isEmpty)

/-- The manifests of slot `x` in descriptor order, and the component manifest digest over them (R175). -/
def slotManifests (s : State) (e : CompEntry) (x : Nat) : List (List Byte) := e.images.map (fun i => manifestAt s i x)
def compMd (s : State) (e : CompEntry) (x : Nat) : List Byte := sha384 ((slotManifests s e x).flatMap manMd)

/-- The SVN and build of a slot. -/
def slotSvn (s : State) (e : CompEntry) (x : Nat) : Nat := ((slotManifests s e x).map manSvn).headD 0
def slotBuild (s : State) (e : CompEntry) (x : Nat) : Nat := ((slotManifests s e x).map manBuild).headD 0

/-- Whether a component's record is found unreadable, or readable (R180, R191). -/
def recUnread (s : State) (c : Nat) : Bool := if c < 32 then s.bit Reg.RTB_UNREAD_LO c else s.bit Reg.RTB_UNREAD_HI (c - 32)
def recReadable (s : State) (c : Nat) : Bool := decide (0 < recGen (rtbRec s c))

/-- The effective minimum SVN (R180): the image of a blank or unreadable record gives 0. -/
def effectiveMin (s : State) (e : CompEntry) : Nat := max (recMin (rtbRec s e.num)) e.floor

/-- The section records of a component. -/
def recordsOf (s : State) (e : CompEntry) : List SectionRec := e.sections.filterMap (sectionOf (consistSource s))

/-- The first guarded ACTIVE region of a component that lies beyond its image (R140): the image, the section, the region record's
index and the image length. -/
def beyondImage (s : State) (e : CompEntry) (x : Nat) : Option (Nat × Nat × Nat × Nat) :=
  (recordsOf s e).findSome? (fun k => ((List.range k.regions.length).zip k.regions).findSome? (fun p =>
    let g := p.2
    if g.binding ≠ 1 ∨ (g.cls = 0 ∧ x ≠ 2) then none
    else ((List.range e.images.length).zip e.images).findSome? (fun q =>
      let len := manLen (manifestAt s q.2 x)
      if q.2.sec = k.sec ∧ q.2.slotA = g.baseA ∧ len < g.off + g.len then some (q.1, k.sec, p.1, len) else none)))

/-- Whether a component has an ACTIVE Watched region. -/
def hasWatched (s : State) (e : CompEntry) : Bool :=
  (recordsOf s e).any (fun k => k.regions.any (fun g => g.binding == 1 && g.cls == 1))

/-- The first image of a slot for which `bad` holds, with a cause. -/
def firstImage (s : State) (e : CompEntry) (x cause : Nat) (bad : Image → List Byte → Bool) : Option (Nat × Nat) :=
  (badIndex (fun _ p => bad p.1 p.2) (e.images.zip (slotManifests s e x))).map (fun k => (k, cause))

/-- Why slot `x` is no candidate (R140, R142, R176, R180, R195): an image and a cause of the slot failure table. `why` is that of
the verification: an update's new slot and a recovery's target are not held against VALID and MD, an update's must not go
back. -/
def slotCause (s : State) (e : CompEntry) (x why : Nat) : Option (Nat × Nat) :=
  let r := rtbRec s e.num
  let svn := slotSvn s e x
  let at0 (b : Bool) (cause : Nat) : Option (Nat × Nat) := if b then some (0, cause) else none
  [fun _ => firstImage s e x 1 (fun _ m => !manOk m),
   fun _ => firstImage s e x 2 (fun _ m => manComp m != e.num),
   fun _ => firstImage s e x 3 (fun _ m => !imageSigsOk (consistSource s) m),
   fun _ => firstImage s e x 4 (fun _ m => decide (manSvn m < effectiveMin s e) || manSvn m != svn || manBuild m != slotBuild s e x),
   fun _ => at0 (why == 1 && decide (svn < recSvn r (recActive r))) 4,
   fun _ => at0 ((why == 0 || why == 3) && decide (x < 2) && recReadable s e.num && !(recFlag r x && recMd r x == compMd s e x)) 5,
   fun _ => firstImage s e x 6 (fun i m => decide (i.manifest < manLen m)),
   fun _ => (beyondImage s e x).map (fun b => (b.1, 9)),
   fun _ => at0 (decide (x < 2) && hasWatched s e && s.tagKey.isNone) 10].findSome? (fun f => f ())

/-- A slot found to be no candidate: a region beyond the image is recorded (R140), then the verification fails at it. -/
def failSlot (s : State) (e : CompEntry) (x : Nat) (why : Nat × Nat) : State :=
  let s := match why.2, beyondImage s e x with
    | 9, some b => if hasFailed s e.num x then s
      else secLog s Ev.REGION_BEYOND_IMAGE b.2.1 (leBytes 1 e.num ++ leBytes 1 b.2.2.1 ++ leBytes 4 b.2.2.2)
    | _, _ => s
  verifyFail s e why.1 x why.2

/-! ### The identity check and the captured responses (R90, R104) -/

/-- The first section of a component whose flash is still to be identified in these points. -/
def identDue (s : State) (e : CompEntry) : Option Nat :=
  e.sections.find? (fun n => identChecks s n && !s.upd.fw.idents.contains n)

/-- The next frame of the identity check of section `n`. -/
def identStep (s : State) (n : Nat) : State :=
  let find (op kind : Nat) : Option Nat :=
    entryFor s n (fun d => d.opcode == op && kindOf d.desc == kind && ifaceOfDesc d.desc == powerOnIface s n)
  if portFree s n = false then s
  else if identReady s n = false then
    match (opEntries s n).find? (fun p => kindOf p.2.desc == 5 && bitOf p.2.flags 1 && !(s.line n).resetSeen.contains p.1) with
    | some p => fwFrame s n p.1 0 2 0 0 (pageBuf s n)
    | none => s
  else if (s.line n).idOk = false then
    match find 0x9F 1 with
    | some i => fwFrame s n i 0 1 0 3 (pageBuf s n)
    | none => s
  else if (s.lane n).holder.isSome then s
  else match find 0x5A 1 with
    | some i => fwFrame (fwJob s n 2 (profLe s n 32 2) none) n i 0 0 0 (profLe s n 32 2) 0
    | none => s

/-- The first entry of section `n` with its capture flag whose response is not in the cache. -/
def captureDue (s : State) (n : Nat) : Option Nat :=
  entryFor s n (fun d => bitOf d.flags 0 && kindOf d.desc == 1 && !(s.line n).cache.any (fun p => p.1 == d.opcode))

/-- The responses that are still to be captured for a component read (R90). -/
def captureStep (s : State) (e : CompEntry) : State :=
  e.sections.foldl (fun s n => match captureDue s n with
    | some i => if portFree s n then fwFrame s n i 0 1 0 256 (pageBuf s n) else s
    | none => s) s

/-! ### Extents (R144, R146, R177 step 4) -/

/-- The bank of section `n` that a verification prepares: the active one where an update that fails re-reads its old slot. -/
def checkBank (s : State) (q : Check) (n : Nat) : Nat :=
  if q.why = 3 ∧ updatingComp s q.comp = true then activeBank s n else 1 - activeBank s n

/-- The guarded regions of a component under slot `x`, by section. -/
def guarded (s : State) (e : CompEntry) (x : Nat) : List (Nat × Region) :=
  (recordsOf s e).flatMap (fun k => ((resolveSection x k).filter (fun g => decide (1 ≤ g.cls) && g.comp == e.num)).map (fun g => (k.sec, g)))

/-- The pages of one class that these regions take. -/
def pagesNeeded (gs : List (Nat × Region)) (cls : Nat) : Nat := ((gs.filter (fun p => p.2.cls == cls)).map (fun p => p.2.len / 4096)).sum

/-- Whether the guarded regions fit in DEP_SERVED_FREE and DEP_TAG_FREE. -/
def guardedFit (s : State) (gs : List (Nat × Region)) : Bool :=
  decide (pagesNeeded gs 2 + depotUsed s 2 ≤ 2048 ∧ pagesNeeded gs 1 + depotUsed s 1 ≤ 262144)

/-- The first place in a class's area where `len` pages fit. -/
def firstFit (s : State) (cls len : Nat) : Option Nat :=
  let xs := (List.range 256).filter (fun x => extState s x != 0 && extClass s x == cls)
  (0 :: xs.map (fun x => extBase s x + extLen s x)).find? (fun b =>
    decide (b + len ≤ if cls = 2 then 2048 else 262144) && xs.all (fun x => !overlaps b len (extBase s x) (extLen s x)))

/-- One region's extent armed in bank `b`; without room it is not. -/
def armRegion (s : State) (n b : Nat) (g : Region) : State :=
  match (List.range 256).find? (fun x => extState s x == 0), firstFit s g.cls (g.len / 4096) with
  | some x, some base =>
    let s := fwReg (fwReg (fwReg s (Reg.DEP_EXT_START x) g.start) (Reg.DEP_EXT_LEN x) (g.len / 4096)) (Reg.DEP_EXT_BASE x) base
    fwReg s (Reg.DEP_EXT_CTL x) (n + b * 2 ^ 5 + g.cls * 2 ^ 6 + 2 ^ 8 + g.comp * 2 ^ 16)
  | _, _ => s

/-- The extents for a verification armed (R177 step 4, R195 step 2): what the banks held before is freed, and where an update's do
not fit beside those of the active bank these are freed first, which makes it cramped. -/
def armExtents (s : State) (e : CompEntry) (q : Check) (x : Nat) : State :=
  let s := e.sections.foldl (fun s n => freeBank s n (checkBank s q n)) s
  let gs := guarded s e x
  let s := if q.why = 1 ∧ guardedFit s gs = false then
      (e.sections.foldl (fun s n => freeBank s n (activeBank s n)) s).fwL Reg.RTB_UPD_STAT 7 7 1
    else s
  gs.foldl (fun s p => armRegion s p.1 (checkBank s q p.1) p.2) s

/-! ### Banks (R132, R136) -/

/-- The program image and the resolved table of a section for slot `x`. -/
def programOf (s : State) (k : SectionRec) : List Byte := consistSource s k.progOff k.progLen

/-- Whether bank `b` of a section holds its program resolved for slot `x`. -/
def bankIs (s : State) (k : SectionRec) (b x : Nat) : Bool :=
  let bk := bankOf s k.sec b
  bk.ok && bk.image == programOf s k && bk.map == resolveSection x k

/-- Whether the program checker would take a section's program and table (R58, R132). -/
def loadable (s : State) (k : SectionRec) (x : Nat) : Bool :=
  (programFault (programOf s k)).isNone && (tableFault (tableBytes (resolveSection x k)) (resolveSection x k).length).isNone

/-- The standby bank of one section loaded through firmware's buffers, one section at a time. -/
def loadBank (s : State) (k : SectionRec) (x : Nat) : State :=
  if s.lines.any (fun p => p.2.load.isSome) then s
  else
    let t := resolveSection x k
    let img := programOf s k
    let s := (s.wrMemN (progBuf s) img).wrMemN (tableBuf s) (tableBytes t)
    let s := fwReg (fwReg s (Reg.SEC_PGM_SRC k.sec) (progBuf s)) (Reg.SEC_PGM_LEN k.sec) img.length
    let s := fwReg (fwReg s (Reg.SEC_PGM_MAP_SRC k.sec) (tableBuf s)) (Reg.SEC_PGM_MAP_CNT k.sec) t.length
    fwReg s (Reg.SEC_PGM_LOAD k.sec) 1

/-! ### Reading the images (R177 steps 5 and 6) -/

/-- The read of one image begun: the V-port lane fills the extents of the image's section (R144). -/
def startImage (s : State) (e : CompEntry) (x k : Nat) (i : Image) : State :=
  let p := slotPlace s i x
  if portFree s p.1 = false ∨ (s.lane p.1).holder.isSome = true ∨ s.upd.fw.jobs.any (fun j => j.1 == p.1) = true then s
  else match readEntry s p.1 p.2.2 with
    | none => s
    | some n =>
      let m := manifestAt s i x
      let s := if x = 2 then
          fwReg (fwReg (fwReg s Reg.DEP_VMAP_SRC p.2.2) Reg.DEP_VMAP_DST i.slotA) Reg.DEP_VMAP (i.sec + 2 ^ 8)
        else s
      let s := fwFrame (fwJob s p.1 (manAlg m) (manLen m) (some (manDigest m))) p.1 n p.2.1 0 p.2.2 (manLen m) 0
      s.mapFw (fun f => { f with jobs := f.jobs ++ [(p.1, e.num, k)] })

/-- The image reads that have ended without a verdict dropped, to be begun again: a lane that still waits for bytes is cleared. -/
def dropStale (s : State) : State :=
  s.upd.fw.jobs.foldl (fun s j =>
    if (s.line j.1).dev.isSome then s
    else match (s.lane j.1).holder with
      | some h =>
        if h.fed.length < h.len then
          (exmAbort s s.duty j.1 true false).mapFw (fun f => { f with jobs := f.jobs.filter (· != j) })
        else s
      | none => s.mapFw (fun f => { f with jobs := f.jobs.filter (· != j) })) s

/-! ### One verification -/

/-- Whether every image of a verification matched. -/
def checkDone (e : CompEntry) (q : Check) : Bool := (List.range e.images.length).all (fun k => q.matched.contains k)

/-- A verification begun: the ports are read and identified afresh. -/
def beginCheck (s : State) (e : CompEntry) (why : Nat) (slots : List Nat) (pick : Option Nat) : State :=
  let ns := e.sections
  let s := forget s (33 :: ns)
  let s := ns.foldl (fun s n => s.setLine n { s.line n with idOk := false }) s
  let s := s.mapFw (fun f => { f with idents := f.idents.filter (fun n => !ns.contains n) })
  putCheck s { comp := e.num, why := why, slots := slots, pick := pick }

/-- The slot that R181's table picks of two candidates. -/
def pickOf (s : State) (e : CompEntry) : Nat :=
  if recUnread s e.num then (if slotBuild s e 0 < slotBuild s e 1 then 1 else 0)
  else if slotSvn s e 1 < slotSvn s e 0 then 0
  else if slotSvn s e 0 < slotSvn s e 1 then 1
  else if recReadable s e.num = true ∧ recActive (rtbRec s e.num) = 1 then 1 else 0

/-- The target of a restore at a start (R204): slot B where only B is a siding, else slot A; its step 1 clears it. -/
def startTarget (rec : List Byte) : Nat := if recFlag rec 4 = true ∧ recFlag rec 3 = false then 1 else 0

/-- A component with no acceptable slot stays held (R184). -/
def holdComp (s : State) (e : CompEntry) : State := heldNoSlot (dropCheck s e.num) e.num 1

/-- Whether firmware can read the V-port. -/
def vReadable (s : State) : Bool := s.bit (Reg.SEC_PORT_STAT 33) 4

/-- No slot A or B is left, or the V-port copy has been read (R183, R184, R204). -/
def noSlot (s : State) (e : CompEntry) (q : Check) : State :=
  let first := allImages s e 0
  if q.slots = [0, 1] ∧ hasCopies e = true ∧ vReadable s = true ∧ (first = true ∨ bitOf e.flags 1 = true) then
    putCheck s { q with slots := [2] }
  else if q.slots ≠ [2] ∨ hasFailed s e.num 2 = true then holdComp s e
  else if first = true ∧ identBad s e = false then
    if ilkFree s = false ∨ s.ilk.reliefAbsent = true ∨ s.bit Reg.RTB_RCV_STAT 6 = true then s
    else
      let t := recoveryBegin s e.num 1 (startTarget (rtbRec s e.num))
      if t.2 = 0 then dropCheck t.1 e.num else t.1
  else if bitOf e.flags 1 = true ∧ guardedFit s (guarded s e 2) = true then putCheck s { q with pick := some 2 }
  else holdComp s e

/-- The slots read and one chosen (R180, R181). -/
def chooseSlot (s : State) (e : CompEntry) (q : Check) : State :=
  let open_ := q.slots.filter (fun x => !hasFailed s e.num x)
  let t := readManifests s e open_
  if t.2 = false then t.1
  else
    let s := open_.foldl (fun s x => match slotCause s e x q.why with
      | some w => failSlot s e x w
      | none => s) t.1
    match checkOf s e.num, q.slots.filter (fun x => !hasFailed s e.num x) with
    | none, _ => s
    | some q, [] => noSlot s e q
    | some q, [2] => noSlot s e q
    | some q, [x] => putCheck s { q with pick := some x }
    | some q, _ => putCheck s { q with pick := some (pickOf s e) }

/-- The chosen slot prepared and read (R177 steps 4 to 6, R195 steps 2 and 3). -/
def readSlot (s : State) (e : CompEntry) (q : Check) (x : Nat) : State :=
  let ks := recordsOf s e
  if q.armed = false then putCheck (armExtents s e q x) { q with armed := true }
  else match ks.find? (fun k => !bankIs s k (checkBank s q k.sec) x) with
    | some k =>
      if loadable s k x then loadBank s k x
      else if q.why = 0 then holdComp s e else verifyFail s e 0 x 1
    | none =>
      let s := if q.why = 1 ∧ s.fld Reg.RTB_UPD_STAT 10 8 = 2 then s.fwL Reg.RTB_UPD_STAT 10 8 3 else s
      let t := readManifests s e [x]
      if t.2 = false then t.1
      else match slotCause s e x q.why with
        | some w => failSlot s e x w
        | none =>
          ((List.range e.images.length).zip e.images).foldl (fun s p =>
            if q.matched.contains p.1 then s else startImage s e x p.1 p.2) s

/-- One piece of a verification: the identity check first (R104), then the choice of the slot, then its reading. -/
def checkStep (s : State) (q : Check) : State :=
  match compEntry s q.comp with
  | none => dropCheck s q.comp
  | some e =>
    if checkDone e q = true then s
    else if e.sections.all (fun n => pointsOf s n == 1) = false then s
    else match identDue s e with
      | some n => identStep s n
      | none =>
        let s := captureStep s e
        match q.pick with
        | none => chooseSlot s e q
        | some x => readSlot s e q x

/-- A verification begun for every component that is to be verified and has none. -/
def beginChecks (s : State) : State :=
  ((verifying s).filter (fun e => (checkOf s e.num).isNone && e.sections.all (fun n => pointsOf s n == 1))).foldl
    (fun s e => beginCheck s e 0 [0, 1] none) s

/-! ### Acceptance (R178, R184, R206) -/

/-- The acceptance record of a component in slot `x` (R178, R184, R202, R206): the slots that failed with cause 3, 4 or 7 lose
VALID and become sidings. Of a blank or unreadable record only the chosen slot is marked VALID.
DESIGN CHOICE (log entry 106). -/
def acceptRec (s : State) (e : CompEntry) (q : Check) (x : Nat) : List Byte :=
  let c := e.num
  let r := putAt (putAt (nextGen (rtbRec s c)) 4 (leBytes 1 c)) 5 (leBytes 1 x)
  let r := [0, 1].foldl (fun r y =>
    if s.upd.failed.any (fun p => p.1 == c && p.2.1 == y && (p.2.2 == 3 || p.2.2 == 4 || p.2.2 == 7)) then
      setRecFlag (setRecFlag r y false) (3 + y) true
    else r) r
  let r := if x < 2 ∧ (q.why = 2 ∨ recReadable s c = false) then
      putAt (putAt (setRecFlag (setRecFlag r x true) (3 + x) false) (8 + 4 * x) (leBytes 4 (slotSvn s e x))) (36 + 48 * x) (compMd s e x)
    else r
  putAt r 20 (leBytes 4 s.pcc)

/-- The verifications that wait for acceptance: the component, its check and its slot. -/
def acceptable (s : State) : List (CompEntry × Check × Nat) :=
  s.upd.fw.checks.filterMap (fun q => match compEntry s q.comp, q.pick with
    | some e, some x => if (q.why = 0 ∨ q.why = 2) ∧ checkDone e q = true then some (e, q, x) else none
    | _, _ => none)

/-- The acceptance transaction of some components (R178). -/
def acceptRecs (s : State) (as : List (CompEntry × Check × Nat)) : List ActRec :=
  match as.find? (fun a => some a.1.num == lowestFrom 0 (as.map (fun b => b.1.num))) with
  | none => []
  | some a => ⟨0x0E, a.1.num, 1, leAt (compMd s a.1 a.2.2) 0 8, []⟩ ::
      as.map (fun b => rtbAct b.1.num (rtbRec s b.1.num) (acceptRec s b.1 b.2.1 b.2.2))

/-- The components that may be accepted now, accepted together; those of a group that failed, each on its own (R178). -/
def acceptStep (s : State) : State :=
  let all := acceptable s
  let alone := all.filter (fun a => s.upd.fw.single.contains a.1.num)
  let group := all.filter (fun a => !s.upd.fw.single.contains a.1.num)
  let as := if group.isEmpty then alone.take 1 else group
  if as.isEmpty then s
  else
    let vs := (as.filter (fun a => a.2.2 == 2)).map (fun a => (a.1.num, slotSvn s a.1 2, compMd s a.1 2))
    let s := s.mapFw (fun f => { f with vSlots := f.vSlots.filter (fun v => !vs.any (fun w => w.1 == v.1)) ++ vs })
    (fwTry s (acceptRecs s as)).1

/-! ### Release (R26, R185, R186) -/

/-- Whether the restored slot of a recovery has been accepted: its record names it VALID again (R206 step 5). -/
def restoreAccepted (s : State) (c : Nat) : Bool :=
  recoveringComp s c && recFlag (rtbRec s c) (s.fld Reg.RTB_RCV_STAT 10 10)

/-- Whether R26 holds: HOST in RUN, with the link controller in it ready to train, and REFCLK locked. -/
def hostReady (s : State) : Bool := domState s 23 == 0 && domPhase s 23 == 0 && s.bit Reg.PWR_CLK_STAT 3

/-- Whether RTB_UPD_CTL.reset_ms has passed since a component's take or revert; 0 acts as 1. -/
def resetPast (s : State) (c : Nat) : Bool :=
  match s.upd.fw.since.find? (fun p => p.1 == c) with
  | some p => decide (max 1 (s.fld Reg.RTB_UPD_CTL 15 0) ≤ (s.ot - p.2) * 1000 / 1024)
  | none => true

/-- Whether a component may go into service (R26, R185, R443). -/
def mayServe (s : State) (e : CompEntry) : Bool :=
  prereqsReady s e && (!bitOf e.flags 0 || hostReady s) && !s.upd.fw.mismatch.contains e.num && resetPast s e.num

/-- The bank of section `n` that a component's slot `x` needs is active, or stands by. -/
def bankActive (s : State) (x : Nat) (k : SectionRec) : Bool := bankIs s k (activeBank s k.sec) x
def bankStands (s : State) (x : Nat) (k : SectionRec) : Bool := bankIs s k (1 - activeBank s k.sec) x

/-- The records that put a component into service under slot `x` (R186, R195): banks that are not active yet, points and hold
lines. -/
def serveRecs (s : State) (e : CompEntry) (x : Nat) : List ActRec :=
  let ns := ((recordsOf s e).filter (fun k => !bankActive s x k)).map (fun k => k.sec)
  progRecs s ns ++ pointsRecs e.sections 2 ++ holdRecs e.holds false

/-- The components that are releasable (R185), each with its slot. -/
def releasable (s : State) : List (CompEntry × Nat) :=
  ((components s).filter (fun e => (compState s e.num == 2 || (compState s e.num == 7 && restoreAccepted s e.num)) &&
    mayServe s e && (checkOf s e.num).isNone)).map (fun e => (e, recActive (rtbRec s e.num)))

/-- As many components as one transaction holds actions for (R64). -/
def fitGroup (s : State) : Nat → List (CompEntry × Nat) → List (CompEntry × Nat)
  | _, [] => []
  | room, p :: ps =>
    let n := (serveRecs s p.1 p.2).length
    if n ≤ room then p :: fitGroup s (room - n) ps else []

/-- The components that are releasable at this moment released together (R185, R186); one whose banks are no longer loaded for
its slot is verified again. -/
def releaseStep (s : State) : State :=
  let rs := releasable s
  let ok (p : CompEntry × Nat) : Bool := (recordsOf s p.1).all (fun k => bankActive s p.2 k || bankStands s p.2 k)
  let s := (rs.filter (fun p => !ok p)).foldl (fun s p => setCompState s p.1.num 1) s
  let group := fitGroup s 256 (rs.filter ok)
  match lowestFrom 0 (group.map (fun p => p.1.num)) with
  | none => s
  | some low => (fwTry s (⟨0x0E, low, 4, 0, []⟩ :: group.flatMap (fun p => serveRecs s p.1 p.2))).1

end Sys2Proof.Machine
end

