-- ==== Sys2Proof/Machine/Renewal.lean ====
section
/-! DEFINITION. Updates, restores, pushes and the handover as signal-box firmware carries them on after their requests (R195-R200,
R204-R211). -/

namespace Sys2Proof.Machine

/-! ### Updates (R195-R197) -/

/-- The record of an update's switch (R197). Without a trial the min-raise flag takes effect here (R199). -/
def switchRec (s : State) (e : CompEntry) (x : Nat) : List Byte :=
  let svn := leBytes 4 (slotSvn s e x)
  let r := putAt (nextGen (rtbRec s e.num)) 5 (leBytes 1 x)
  let r := putAt (putAt (setRecFlag (setRecFlag r x true) (3 + x) false) (8 + 4 * x) svn) (36 + 48 * x) (compMd s e x)
  if e.trialMs = 0 then
    let r := setRecFlag r 2 false
    if bitOf (updOpts s e.num) 1 then putAt r 16 svn else r
  else
    putAt (putAt (setRecFlag r 2 true) 24 (leBytes 4 s.pcc)) 28 (leBytes 6 (s.ot + e.trialMs * 1024 / 1000))

/-- The switch of an update whose new slot has been verified (R195 step 4): once the prerequisites are released and ready, and
not before reset_ms has passed since the take. -/
def switchUpdate (s : State) (e : CompEntry) (x : Nat) : State :=
  if mayServe s e = false then s
  else
    let s := s.mapFw (fun f => { f with updBuild := some (slotBuild s e x) })
    (fwTry s (⟨0x0E, e.num, 2, leAt (compMd s e x) 0 8, []⟩ :: rtbAct e.num (rtbRec s e.num) (switchRec s e x) :: serveRecs s e x)).1

/-- The failure transaction of an update (R196): the new slot becomes a siding, and the old one serves again. -/
def failUpdate (s : State) (e : CompEntry) (x : Nat) : State :=
  let r := rtbRec s e.num
  (fwTry s (updSubject e.num :: rtbAct e.num r (nextGen (setRecFlag r (3 + x) true)) ::
    (pointsRecs e.sections 2 ++ holdRecs e.holds false))).1

/-- An update whose old slot, read afresh, has failed too: the component stays held, and the request ends. -/
def abandonUpdate (s : State) (c cause : Nat) : State :=
  let s := s.fwLog Ev.UPDATE_REFUSED c (leBytes 1 4 ++ leBytes 1 cause)
  let s := updAnswer (updClose s c 0) c 4 (leBytes 1 cause)
  s.mapFw (fun f => { f with updCause := none, updBuild := none })

/-- One piece of the open update after its take (R195, R196). -/
def updateStep (s : State) : State :=
  if s.bit Reg.RTB_UPD_STAT 6 = false ∨ s.fld Reg.RTB_UPD_STAT 10 8 = 0 then s
  else match compEntry s (s.fld Reg.RTB_UPD_STAT 5 0) with
    | none => s
    | some e =>
      let c := e.num
      let old := recActive (rtbRec s c)
      let x := 1 - old
      match s.upd.fw.updCause, checkOf s c with
      | some cause, some q => if q.why = 3 ∧ checkDone e q = true then failUpdate s e x else if q.why = 3 then s else abandonUpdate (dropCheck s c) c cause
      | some cause, none =>
        if hasFailed s c old then abandonUpdate s c cause
        else if s.bit Reg.RTB_UPD_STAT 7 then beginCheck s e 3 [old] (some old)
        else failUpdate s e x
      | none, some q => if q.why = 1 ∧ checkDone e q = true then switchUpdate s e x else s
      | none, none => beginCheck (s.fwL Reg.RTB_UPD_STAT 10 8 2) e 1 [x] (some x)

/-! ### Trials (R199, R200) -/

/-- The confirms and reverts that could not commit earlier retried; a cramped revert's old slot, verified, is accepted. -/
def trialStep (s : State) : State :=
  let s := s.upd.fw.checks.foldl (fun s q => match compEntry s q.comp with
    | some e => if q.why = 3 ∧ updatingComp s q.comp = false ∧ checkDone e q = true then dropCheck (setCompState s q.comp 2) q.comp else s
    | none => s) s
  if ilkFree s = false ∨ s.ilk.reliefAbsent = true ∨ powerFailing s = true then s
  else
    (List.range 64).foldl (fun s c => if trialPast s (rtbRec s c) then revertTrial s c else s) (confirmReady s)

/-! ### Writing a slot (R206, R208, R209) -/

/-- The H-port slot that a push to `comp` names, by its letter (R163). -/
def hportSlot (comp x : Nat) : Nat :=
  if comp = 0xFE then x * 0x400000 else if comp = 0xFC then 0x800000 + x * 0x400000 else 0x1000000 + x * 0x800000

/-- Where a restore writes: port, chip select, flash address, size. -/
def restorePlace (s : State) (r : Restore) : Option (Nat × Nat × Nat × Nat) :=
  if 0xFC ≤ r.comp then some (32, 0, hportSlot r.comp r.slot, (s.upd.push.map (fun p => p.total)).getD 0)
  else match (compEntry s r.comp).bind (fun e => e.images[r.image]?) with
    | some i =>
      let p := slotPlace s i r.slot
      some (p.1, p.2.1, p.2.2, i.size)
    | none => none

/-- The slot that a restore copies from: the other slot or the V-port copy. -/
def restoreFrom (r : Restore) : Nat := if r.source = 0 then 1 - r.slot else 2

/-- Where its image lies, and its descriptor. -/
def restoreImage (s : State) (r : Restore) : Option Image := (compEntry s r.comp).bind (fun e => e.images[r.image]?)

/-- Whether the page at slot offset `o` is programmed: it holds image, manifest or pushed bytes. -/
def restoreWants (s : State) (r : Restore) (o : Nat) : Bool :=
  if r.source = 2 then decide (o < (s.upd.push.map (fun p => p.total)).getD 0)
  else match restoreImage s r with
    | some i =>
      let m := manifestAt s i (restoreFrom r)
      decide (o < manLen m) || (decide (i.manifest ≤ o) && decide (o < i.manifest + manTotal m))
    | none => false

/-- `n` bytes of what a restore writes at slot offset `o`: none where they have not arrived or been read yet. -/
def restoreBytes (s : State) (r : Restore) (o n : Nat) : Option (List Byte) :=
  if r.source = 2 then
    match s.upd.push with
    | some p => if o + n ≤ p.data.length ∨ p.closed = true then
        some ((p.data.drop o).take n ++ List.replicate (n - ((p.data.drop o).take n).length) 0xFF) else none
    | none => none
  else match restoreImage s r with
    | some i =>
      let p := slotPlace s i (restoreFrom r)
      if (missing s p.1 p.2.1 (p.2.2 + o) n).isSome then none else some (pageBytes s p.1 p.2.1 (p.2.2 + o) n)
    | none => none

/-- What a restore still needs to have read begun. -/
def restoreWant (s : State) (r : Restore) (o n : Nat) : State :=
  if r.source = 2 then s
  else match restoreImage s r with
    | some i =>
      let p := slotPlace s i (restoreFrom r)
      want s p.1 p.2.1 (p.2.2 + o) n
    | none => s

/-- The write-enable entry of port `n`, its erase and program entries, and its poll entry with the busy bit and whether it reads
0 while busy. The H-port has no section-code registers: 0x06 enables writes and bit 0 of the first STATUS entry is busy there.
PRESUMED (log entry 107). -/
def wrenEntry (s : State) (n : Nat) : Option Nat :=
  let op := if n < 32 then s.fld (Reg.SEC_WEL_OPS n) 7 0 else 6
  entryFor s n (fun d => d.opcode == op && kindOf d.desc == 5)
def writeEntry (s : State) (n kind : Nat) : Option Nat := entryFor s n (fun d => kindOf d.desc == kind && bitsOf d.desc 7 6 != 0)
def pollOf (s : State) (n : Nat) : Option (Nat × Nat × Bool) :=
  if n < 32 then
    match pollEntry s n with
    | some p => (entryFor s n (fun d => d.opcode == p.2 % 256 && kindOf d.desc == 2)).map (fun i => (i, bitsOf p.2 10 8, bitOf p.2 11))
    | none => none
  else (entryFor s n (fun d => kindOf d.desc == 2)).map (fun i => (i, 0, false))

/-- The restore in progress replaced. -/
def putRestore (s : State) (r : Restore) : State := s.mapFw (fun f => { f with restore := some r })

/-- The first page from offset `o` on that is programmed. -/
def nextWanted (s : State) (r : Restore) (o page size : Nat) : Option Nat :=
  ((List.range ((size + page - 1) / page)).map (fun i => page * i)).find? (fun p => decide (o ≤ p) && restoreWants s r p)

/-- What follows a write that is complete: a component's slot is read back; stage 1 is chosen anew from a restart of the
signal box, stage 2 and the Consist by their stage, or a handover to them begins. -/
def restoreDone (s : State) (r : Restore) : State :=
  let s := s.mapFw (fun f => { f with restore := none })
  let s := { s with upd := { s.upd with push := none } }
  if r.comp < 64 then
    match compEntry s r.comp with
    | some e => beginCheck s e 2 [r.slot] (some r.slot)
    | none => s
  else
    let n := 0xFF - r.comp
    let again (s : State) : State := (forget s [32]).mapFw (fun f =>
      { f with noted := f.noted.filter (fun k => k != n && k != 10 + n), pushed := f.pushed.filter (· != n) ++ [n] })
    if n = 1 then signalBoxReset (again s) noneBad false
    else if s.stage2Ready = false then
      let s := if n = 3 then (again s).mapFw (fun f => { f with consist := none }) else again s
      { s with upd := { s.upd with failed := s.upd.failed.filter (fun p => p.1 != r.comp) } }
    else if n = 3 then (forget s [32]).mapFw (fun f => { f with newConsist := true })
    else (forget s [32]).fwL Reg.RTB_HND_STAT 3 0 2

/-- The erase or the program of one place is complete: the next follows. -/
def restoreNext (s : State) (r : Restore) (n size : Nat) : State :=
  let sector := 2 ^ profByte s n 13
  if r.phase = 0 ∧ r.offset + sector < size then putRestore s { r with offset := r.offset + sector, frame := 0 }
  else
    let o := if r.phase = 0 then 0 else r.offset + pageSize s n
    match nextWanted s r o (pageSize s n) size with
    | some p => putRestore s { r with offset := p, phase := 1, frame := 0 }
    | none =>
      let last := match compEntry s r.comp with
        | some e => decide (e.images.length ≤ r.image + 1)
        | none => true
      if r.source = 2 ∨ last = true then restoreDone s r
      else putRestore s { r with image := r.image + 1, offset := 0, phase := 0, frame := 0 }

/-- The data frame of a restore: the erase of a sector, or the program of a page whose bytes are at hand. -/
def restoreFrame (s : State) (r : Restore) (n cs base : Nat) : State :=
  let page := pageSize s n
  if r.phase = 0 then
    match writeEntry s n 4 with
    | some i => putRestore (fwFrame s n i cs 2 (base + r.offset) 0 (pageBuf s n)) { r with frame := 2 }
    | none => s
  else match writeEntry s n 3, restoreBytes s r r.offset page with
    | some i, some bs =>
      putRestore (fwFrame (s.wrMemN (pageBuf s n) bs) n i cs 2 (base + r.offset) page (pageBuf s n)) { r with frame := 2 }
    | _, _ => s

/-- One frame of a write in progress (R206 steps 2 and 3): write enable, then erase or program, then polls until the flash is no
longer busy. A frame that did not end OK is begun again from its write enable. -/
def restoreStep (s : State) : State :=
  match s.upd.fw.restore with
  | none => s
  | some r =>
    match restorePlace s r with
    | none => s
    | some (n, cs, base, size) =>
      if portFree s n = false then s
      else
        let ok := s.fld (Reg.SEC_DEV_STAT n) 4 2 == 0
        match r.frame with
        | 0 =>
          let ready := r.phase == 0 || (restoreBytes s r r.offset (pageSize s n)).isSome
          let man := match restoreImage s r with
            | some i => if r.source = 2 then none else manifestNeed s i (restoreFrom r)
            | none => none
          match man, wrenEntry s n with
          | some q, _ => want s q.1 q.2.1 q.2.2.1 q.2.2.2
          | none, some i =>
            if ready then putRestore (fwFrame s n i cs 2 0 0 (pageBuf s n)) { r with frame := 1 }
            else restoreWant s r r.offset (pageSize s n)
          | none, none => s
        | 1 => if ok then restoreFrame s r n cs base else putRestore s { r with frame := 0 }
        | k =>
          match pollOf s n with
          | none => restoreNext s r n size
          | some (i, bit, low) =>
            let busy := bitOf (s.rdMem (pageBuf s n)).toNat bit != low
            if k = 2 ∧ ok = false then putRestore s { r with frame := 0 }
            else if k = 3 ∧ ok = true ∧ busy = false then restoreNext s r n size
            else putRestore (fwFrame s n i cs 1 0 1 (pageBuf s n)) { r with frame := 3 }

/-- The write of a recovery or a push begun (R206, R208, R209). -/
def restoreStart (s : State) : State :=
  if s.upd.fw.restore.isSome then s
  else match s.upd.push with
    | some p =>
      if 0xFC ≤ p.comp ∨ recoveringComp s p.comp = true then
        let s := if p.comp = 0xFD ∧ s.stage2Ready = true then s.fwL Reg.RTB_HND_STAT 3 0 1 else s
        putRestore s { comp := p.comp, image := p.image, slot := p.slot, source := 2 }
      else s
    | none =>
      let c := s.fld Reg.RTB_RCV_STAT 5 0
      if s.bit Reg.RTB_RCV_STAT 6 = true ∧ s.fld Reg.RTB_RCV_STAT 9 8 < 2 ∧ (checkOf s c).isNone = true ∧
         restoreAccepted s c = false then
        putRestore s { comp := c, image := 0, slot := s.fld Reg.RTB_RCV_STAT 10 10, source := s.fld Reg.RTB_RCV_STAT 9 8 }
      else s

/-! ### The sources of a RECOVER (R204) -/

/-- The V-port copy that a RECOVER names read: it qualifies and its restore begins, or a push is awaited where the request and the
entries allow one, or the request ends. -/
def recoverStep (s : State) : State :=
  match s.upd.fw.recover with
  | [] => s
  | (c, mask) :: _ =>
    match compEntry s c with
    | none => s
    | some e =>
      let drop (s : State) : State := s.mapFw (fun f => { f with recover := f.recover.drop 1 })
      let fall (s : State) (cause : Nat) : State :=
        if bitOf mask 2 = true ∧ allImages s e 1 = true then drop s else updAnswer (drop s) c 4 (leBytes 1 cause)
      if vReadable s = false then fall s 1
      else
        let t := readManifests s e [2]
        if t.2 = false then t.1
        else match slotCause s e 2 2, restoreTarget s c with
          | some w, _ => fall s w.2
          | none, none => fall s 5
          | none, some x =>
            if ilkFree s = false ∨ s.ilk.reliefAbsent = true then s
            else
              let b := recoveryBegin s c 1 x
              if b.2 = 0 then drop b.1 else b.1

/-! ### Handover (R210, R211) -/

/-- A handover refused at its step for a cause: 1 to 7 as for a slot, 16 a version that is not greater, 17 the relief core
absent, 18 an update or recovery open, 19 a Consist that is no candidate. The spec numbers no cause.
DESIGN CHOICE (log entry 108). -/
def refuseHandover (s : State) (cause : Nat) : State :=
  let k := s.fld Reg.RTB_HND_STAT 3 0
  let s := (s.fwL Reg.RTB_HND_STAT 7 0 (2 ^ 4)).mapFw (fun f => { f with newConsist := false, stages := f.stages.filter (fun p => p.1 != 3) })
  s.fwLog Ev.HANDOVER_REFUSED 0 (leBytes 1 k ++ leBytes 1 cause)

/-- The slot that a handover's image was written to. -/
def handoverSlot (s : State) : Nat × Nat × Nat :=
  let x := 1 - lastSlot s 0xFD
  (x, 0, hportSlot 0xFD x)

/-- The new Consist that comes with a handover, where it is a candidate and no older than the present one. -/
def handoverConsist (s : State) : Option (Nat × Reader) :=
  let x := 1 - lastSlot s 0xFC
  let r := consistSlot s x
  if (consistCause s r).isNone = true ∧ consistLe s 8 4 ≤ srcLe r 8 4 then some (x, r) else none

/-- Why a handover is refused before its image is copied (R210). -/
def handoverFault (s : State) (m : List Byte) : Option Nat :=
  match stageCause s 2 m with
  | some c => some c
  | none =>
    let run := ((s.upd.fw.stages.find? (fun p => p.1 == 2)).map Prod.snd).getD {}
    if (decide (run.svn < manSvn m) || (run.svn == manSvn m && decide (run.build < manBuild m))) = false then some 16
    else if s.ilk.reliefAbsent then some 17
    else if s.bit Reg.RTB_UPD_STAT 6 = true ∨ s.bit Reg.RTB_RCV_STAT 6 = true then some 18
    else if s.upd.fw.newConsist = true ∧ (handoverConsist s).isNone = true then some 19
    else none

/-- The first address of core `c`'s area Q: the range of its window 4 (R168). -/
def areaQ (s : State) (c : Fin 2) : Nat := (Sparse.get (fun _ => (0 : Word)) (s.core c).mpu (Reg.SBX_MPU_BASE 4)).toNat

/-- Steps 2 and 3 of a handover: the image is read, copied into each core's area Q, digested and put to the vote, with the new
Consist where one comes with it. -/
def handoverVerify (s : State) : State :=
  let p := handoverSlot s
  let x := 1 - lastSlot s 0xFC
  if (missing s 32 0 p.2.2 16384).isSome then want s 32 0 p.2.2 16384
  else if s.upd.fw.newConsist = true ∧ consistUnread s x = true then wantConsist s x
  else
    let m := slotManifest s p
    match handoverFault s m with
    | some c => refuseHandover s c
    | none =>
      if (missing s 32 0 (p.2.2 + 0x4000) (manLen m)).isSome then want s 32 0 (p.2.2 + 0x4000) (manLen m)
      else
        let image := pageBytes s 32 0 (p.2.2 + 0x4000) (manLen m)
        let s := (liveCores s).foldl (fun s c => s.wrMemN (areaQ s c) image) s
        if (liveCores s).all (fun c => digestOf (manAlg m) [] (s.rdMemN (areaQ s c) (manLen m)) == manDigest m) = false then
          refuseHandover s 7
        else
          let recs := [⟨0x0E, 0, 3, leAt (manMd m) 0 8, []⟩, ⟨0x05, 1, (s.rd (Reg.RTB_MINVER 1)).toNat, 0, []⟩]
          let t := keepStage (s.fwL Reg.RTB_HND_STAT 3 0 3) 3 ⟨manSvn m, manBuild m, manMd m, p.1⟩
          let t := match t.upd.fw.newConsist, handoverConsist t with
            | true, some c => (copyConsist t c.2).mapFw (fun f => { f with consist := some c.1 })
            | _, _ => t
          let r := fwTry t recs
          if r.2 then r.1 else s

/-- The sections in service whose program the accepted Consist changes (R210 step 4), with the slot of their component. -/
def changedSections (s : State) : List (SectionRec × Nat) :=
  (components s).flatMap (fun e =>
    if compState s e.num = 3 ∨ compState s e.num = 4 then
      let x := recActive (rtbRec s e.num)
      ((recordsOf s e).filter (fun k => !bankActive s x k)).map (fun k => (k, x))
    else [])

/-- One piece of a handover (R210 steps 2 to 8); the relief core's and the former on-duty core's restarts end with
CORE_REJOINED. A new stage 2 reads the state block of the running one.
DESIGN CHOICE (log entry 109). -/
def handoverStep (s : State) : State :=
  match s.fld Reg.RTB_HND_STAT 3 0 with
  | 2 => handoverVerify s
  | 4 =>
    match (changedSections s).find? (fun p => !bankStands s p.2 p.1) with
    | some p => loadBank s p.1 p.2
    | none => if s.ilk.reliefAbsent then s else (restartCore s s.relief).fwL Reg.RTB_HND_STAT 3 0 5
  | 6 => if ilkFree s then s.fwL Reg.RTB_HND_STAT 3 0 7 else s
  | 7 => s.fwL Reg.RTB_HND_STAT 3 0 8
  | 8 => (fwTry s (⟨0x0E, 0, 3, 0, []⟩ :: ⟨0x09, 0, 0, 0, []⟩ :: progRecs s ((changedSections s).map (fun p => p.1.sec)))).1
  | _ => s

/-! ### One tick of firmware -/

/-- Whether signal-box firmware runs. -/
def fwRuns (s : State) : Bool := domState s 1 == 0 && domPhase s 1 == 0 && lineLocked s

/-- What firmware does once stage 2 is ready. -/
def serviceStep (s : State) : State :=
  let s := beginChecks (dropStale s)
  let s := s.upd.fw.checks.foldl (fun s q => match checkOf s q.comp with
    | some q => checkStep s q
    | none => s) s
  let s := releaseStep (acceptStep (updateStep s))
  handoverStep (recoverStep (restoreStep (restoreStart (trialStep s))))

/-- Signal-box firmware at a tick: it collects what it read, answers the responses that the Consist names, goes on with the
controller's own start, and once stage 2 is ready with verification, release, updates, recovery and handover. Each piece is
done as soon as what it waits for is there.
DESIGN CHOICE (log entry 103). -/
def firmware (s : State) : State :=
  let s := s.setBit Reg.RTB_STAT 1 false
  if fwRuns s = false then s
  else
    let s := bootStep (answerResponses (collect s))
    if s.stage2Ready then serviceStep s else restoreStep (restoreStart s)

end Sys2Proof.Machine
end

