-- ==== Sys2Proof/Machine/Tick.lean ====
section
/-! DEFINITION. A tick of operating time, 1/1024 s: what passes with time while no command waits (R11, R261, R330). -/

namespace Sys2Proof.Machine

/-- Whole seconds of age on the enabled timetable entries (R261).
DESIGN CHOICE (log entry 1). -/
def ageEntries (s : State) : State :=
  s.fix.tt.foldl (fun s e => if s.bit (Reg.FIX_TT_STAT e.1) 0 then s.inc (Reg.FIX_TT_AGE e.1) else s) s

/-- One tick of OT (R11): 32 ticks of the 32.768 kHz counter (R330, R332); a second in 1,024 ages the timetable; the
memory-test key, good for 1 ms, lapses (R380); signal-box firmware goes on with its own work. Without VIN_STBY none of these
runs.
DESIGN CHOICE (log entries 1, 2, 103). -/
def tick (s : State) : State :=
  if s.pwr.down then s
  else
    let s := { s with ot := (s.ot + 1) % 2 ^ 48, lcs := { s.lcs with mtmKey := false } }
    let s := s.wr64 Reg.TMP_VBAT_TICK_LO Reg.TMP_VBAT_TICK_HI ((vbatTick s + 32) % 2 ^ 48)
    let s := if s.ot % 1024 = 0 then syncTt (ageEntries s) else s
    settle (unpark (firmware s))

end Sys2Proof.Machine
end

