-- ==== Sys2Proof/Machine/Idle.lean ====
section
/-! DEFINITION. What the block does while no command waits: a delayed request is taken, or a tick passes. -/

namespace Sys2Proof.Machine

/-- The command of a delayed request, carried out. -/
def runRequest (r : Request) (s : State) : Host.Outcome State Fault Refusal :=
  match r with
  | .updateBegin q tag comp => execUpdateBegin q tag comp s
  | .updateCommit q tag comp opts => execUpdateCommit q tag comp opts s
  | .trialConfirm q tag comp => execTrialConfirm q tag comp s
  | .updateAbort q tag comp => execUpdateAbort q tag comp s
  | .recover q tag comp mask => execRecover q tag comp mask s
  | .pushOpen q tag comp img total slot => execPushOpen q tag comp img total slot s
  | .pushData q tag comp img off addr data kind => execPushData q tag comp img off addr data kind s
  | .pushClose q tag comp img => execPushClose q tag comp img s
  | .status q tag comp => execStatus q tag comp s
  | .ledgerOpen q tag leaf tree pages nodes kind => execLedgerOpen q tag leaf tree pages nodes kind s
  | .ledgerCommit q tag => execLedgerCommit q tag s
  | .ledgerResume q tag => execLedgerResume q tag s
  | .ledgerRebuild q tag leaf tree pages leaves kind => execLedgerRebuild q tag leaf tree pages leaves kind s
  | .ledgerClose q tag => execLedgerClose q tag s
  | .recordRetire q tag idx => execRecordRetire q tag idx s
  | .recordRead q tag idx => execRecordRead q tag idx s
  | .ttSet q tag k addr entry kind => execTtSet q tag k addr entry kind s
  | .ttClear q tag k => execTtClear q tag k s
  | .auditRange q tag first count table feeds => execAuditRange q tag first count table feeds s
  | .report q tag arg addr => execReport q tag arg addr s
  | .instCreate q tag n addr block kind => execInstCreate q tag n addr block kind s
  | .instDestroy q tag n => execInstDestroy q tag n s
  | .instReset q tag n => execInstReset q tag n s
  | .instQuiesce q tag n => execInstQuiesce q tag n s
  | .instResume q tag n => execInstResume q tag n s
  | .instQuery q tag n => execInstQuery q tag n s
  | .dirtyStart q tag n base depth => execDirtyStart q tag n base depth s
  | .dirtyStop q tag n => execDirtyStop q tag n s
  | .poolQuery q tag => execPoolQuery q tag s
  | .dsSet q tag d addr entry kind => execDsSet q tag d addr entry kind s
  | .dsRefresh q tag d => execDsRefresh (some q) tag d s
  | .unlock q tag ticket => execUnlock q tag ticket s
  | .cellServiceOpen q tag ticket => execCellServiceOpen q tag ticket s
  | .cellServiceClose q tag cell => execCellServiceClose q tag cell s
  | .fuseSource q tag src ticket => execFuseSource q tag src ticket s
  | .tamperStatus q tag => execTamperStatus q tag s
  | .correlate q tag host format label => execCorrelate q tag host format label s
  | .staffNonce q tag => execStaffNonce q tag s
  | .lcsData q tag off data => execLcsData q tag off data s
  | .staffSubmit q tag len => execStaffSubmit q tag len s
  | .lcTransit q tag target ticket => execLcTransit q tag target ticket s
  | .eraseUserSecrets q tag ticket => execEraseUserSecrets q tag ticket s
  | .debugArm q tag ticket => execDebugArm q tag ticket s
  | .ownerKeySet q tag slot cosign hash => execOwnerKeySet q tag slot cosign hash s
  | .lcStatus q tag => execLcStatus q tag s
  | .keystoreLoad q tag len => execKeystoreLoad q tag len s
  | .platformOff q tag => execPlatformOff q tag s
  | .platformOn q tag => execPlatformOn q tag s
  | .powerStatus q tag => execPowerStatus q tag s
  | .snapshot q tag us => execSnapshot q tag us s

/-- A delayed request that firmware can take now is carried out (R25); else a tick of time passes.
DESIGN CHOICE (log entries 1, 97). -/
def idle (s : State) : Host.Outcome State Fault Refusal :=
  match nextDelayed s with
  | some d => runRequest d.cmd (takeDelayed s d)
  | none => .next (tick s)

end Sys2Proof.Machine
end

