-- ==== Sys2Proof/Machine/Step.lean ====
section
/-! DEFINITION. One step: the command at the front of the queue, or what passes where none waits. -/

namespace Sys2Proof.Machine

/-- One step of the block.
DESIGN CHOICE (log entries 1, 7). -/
def step (s : State) : Host.Outcome State Fault Refusal :=
  match s.pending with
  | [] => idle s
  | c :: rest => exec c { s with pending := rest }

/-- A command put at the front of the queue.
DESIGN CHOICE (log entry 3). -/
def State.push (s : State) (c : Instr) : State := { s with pending := c :: s.pending }

/-- `s` with the command that a word of the table spells at the front of its queue. No row of the table has bits, so
no word spells one.
DESIGN CHOICE (log entry 3). -/
def State.withFetchWord (s : State) (nbits w : Nat) : State :=
  match decodeTableWord nbits w with
  | some c => s.push c
  | none => s

end Sys2Proof.Machine
end

