-- ==== Sys2Proof/Safety.lean ====
section
/-! DEFINITION. What a safe run keeps and how claims speak of a command's effect: what stays as it was, when a processor
executes an instruction, who may write a register, how a command ends. -/

namespace Sys2Proof.Machine

/-! ### The canonical form -/

/-- The canonical form of the register words. -/
def State.regsWf (s : State) : Bool := Sparse.wf regReset s.regs

/-- The canonical form of the state: equal memories and equal register words are equal data. -/
def State.wf (s : State) : Bool := s.memWf && s.regsWf

/-! ### What stays as it was -/

/-- The fields of the state. -/
inductive Part where
  | pending | freeCtr | pcc | ot | regs | mem | held | heldLow
  | snap | nvc | cores | duty | stage2Ready | retired | engines | yards
  | owedG | irq | irq1 | ilk | evr | lines | tagKey | answers
  | hostOut | tmp | mbx | home | lanes | sig | bcast | keyLoad
  | lcs | fix | ledger | host | att | pwr | upd | tap
deriving DecidableEq, Repr

/-- Field `p` of the state is in `t` what it is in `s`. -/
def sameIn (s t : State) : Part → Prop
  | .pending => t.pending = s.pending
  | .freeCtr => t.freeCtr = s.freeCtr
  | .pcc => t.pcc = s.pcc
  | .ot => t.ot = s.ot
  | .regs => t.regs = s.regs
  | .mem => t.mem = s.mem
  | .held => t.held = s.held
  | .heldLow => t.heldLow = s.heldLow
  | .snap => t.snap = s.snap
  | .nvc => t.nvc = s.nvc
  | .cores => t.cores = s.cores
  | .duty => t.duty = s.duty
  | .stage2Ready => t.stage2Ready = s.stage2Ready
  | .retired => t.retired = s.retired
  | .engines => t.engines = s.engines
  | .yards => t.yards = s.yards
  | .owedG => t.owedG = s.owedG
  | .irq => t.irq = s.irq
  | .irq1 => t.irq1 = s.irq1
  | .ilk => t.ilk = s.ilk
  | .evr => t.evr = s.evr
  | .lines => t.lines = s.lines
  | .tagKey => t.tagKey = s.tagKey
  | .answers => t.answers = s.answers
  | .hostOut => t.hostOut = s.hostOut
  | .tmp => t.tmp = s.tmp
  | .mbx => t.mbx = s.mbx
  | .home => t.home = s.home
  | .lanes => t.lanes = s.lanes
  | .sig => t.sig = s.sig
  | .bcast => t.bcast = s.bcast
  | .keyLoad => t.keyLoad = s.keyLoad
  | .lcs => t.lcs = s.lcs
  | .fix => t.fix = s.fix
  | .ledger => t.ledger = s.ledger
  | .host => t.host = s.host
  | .att => t.att = s.att
  | .pwr => t.pwr = s.pwr
  | .upd => t.upd = s.upd
  | .tap => t.tap = s.tap

/-- Every field of the state but those named is in `t` what it is in `s`. -/
def AllBut (changed : List Part) (s t : State) : Prop := ∀ p, p ∉ changed → sameIn s t p

/-- Every register word outside `touched` is in `t` what it is in `s`. -/
def RegsAllBut (touched : List Nat) (s t : State) : Prop := ∀ a, a ∉ touched → t.rd a = s.rd a

/-- The register words that an event's record, its notifications and the mailboxes' interrupts may change: those of the
mailboxes (chapter 13), of the event recorder (chapter 15) and VIN_0_EVR_SEQ. -/
def recorderWord (a : Nat) : Prop :=
  (0x20040000 ≤ a ∧ a < 0x20045000) ∨ (0x20060000 ≤ a ∧ a < 0x20061000) ∨ a = 0x204100A4

/-- From `s` to `t` nothing but an event's record and its notifications has changed (R323, R349-R358). -/
def Eventful (s t : State) : Prop :=
  AllBut [.regs, .evr, .mbx, .irq, .irq1] s t ∧ ∀ a, ¬ recorderWord a → t.rd a = s.rd a

/-- Every byte of memory reads in `t` what it reads in `s`, but for `n` bytes from `a` on. -/
def MemAllBut (a n : Nat) (s t : State) : Prop := ∀ b, (b < a ∨ a + n ≤ b) → t.rdMem b = s.rdMem b

/-! ### Instructions -/

/-- Whether the route of a section processor has a step left after this one (R57). -/
def stepLeft (s : State) (p : Proc) : Bool :=
  match p with
  | .line n => match (s.line n.val).route with
    | some r => decide (r.steps + 1 < routeBound r)
    | none => false
  | _ => true

/-- Processor `p` executes instruction `w` now: it is ready, its fetch is permitted, its profile has the instruction
(R33, R34, R37, R44, R57). -/
abbrev Ready (s : State) (p : Proc) (w : Wop) : Prop :=
  s.pwr.down = false ∧ procReady s p = true ∧ accessFault s p .fetch (pcOf s p).toNat 4 false = none ∧
    wopLegal p.profile w = true ∧ stepLeft s p = true

/-- Beside the fields named nothing but processor `p`'s registers, pc and running state changes, and a route's step
count: every other processor and its own state registers stay. -/
def ProcBut (p : Proc) (changed : List Part) (s t : State) : Prop :=
  match p with
  | .core c => AllBut (.cores :: changed) s t ∧ (∀ d, d ≠ c → t.core d = s.core d) ∧
      { t.core c with g := (s.core c).g, pc := (s.core c).pc, run := (s.core c).run } = s.core c
  | .engine e => AllBut (.engines :: changed) s t ∧ (∀ f, f ≠ e.val → t.engine f = s.engine f) ∧
      { t.engine e.val with g := (s.engine e.val).g, pc := (s.engine e.val).pc } = s.engine e.val
  | .line n => AllBut (.lines :: changed) s t ∧ (∀ m, m ≠ n.val → t.line m = s.line m) ∧
      { t.line n.val with route := (s.line n.val).route } = s.line n.val ∧
      ((t.line n.val).route.map (fun r => (r.judge, r.bank))) = ((s.line n.val).route.map (fun r => (r.judge, r.bank)))

/-- Nothing but processor `p`'s registers, pc and running state changes, and a route's step count: every other
processor, its own state registers, all memory and every register word stay. -/
abbrev OnlyProc (p : Proc) (s t : State) : Prop := ProcBut p [] s t

/-- Every general register of `p` but `rd` is in `t` what it is in `s`. -/
def KeepsRegs (p : Proc) (rd : RegNo) (s t : State) : Prop := ∀ r, r ≠ rd → greg t p r = greg s p r

/-- Command `i`, instruction `w` of processor `p`, writes `v` to rd and goes on (R27, R34). -/
def Writes (i : Instr) (w : Wop) (s : State) (p : Proc) (rd : RegNo) (v : Dword) : Prop :=
  Ready s p w → ∃ t, exec i s = .next t ∧ greg t p rd = (if rd = 0 then 0 else v) ∧ pcOf t p = pcOf s p + 4 ∧
    KeepsRegs p rd s t ∧ OnlyProc p s t

/-- Command `i`, instruction `w` of processor `p`, writes no register and goes on at `a` (R32, R34). -/
def Goes (i : Instr) (w : Wop) (s : State) (p : Proc) (a : Dword) : Prop :=
  Ready s p w → ∃ t, exec i s = .next t ∧ pcOf t p = a ∧ (∀ r, greg t p r = greg s p r) ∧ OnlyProc p s t

/-- `s` with processor `p` awake and gone on to its next instruction. -/
def onward (s : State) (p : Proc) : State := advance (awake s p) p

/-- The field of the state that holds processor `p`. -/
def procPart : Proc → Part
  | .core _ => .cores
  | .engine _ => .engines
  | .line _ => .lines

/-- The party that processor `p` is to registers. -/
def procParty : Proc → Option Party
  | .core c => some (.core c)
  | .engine e => some (.engine e)
  | .line _ => none

/-- The `n` bytes that address `a` names to processor `p`, where it names no register (R37, R147, R404). -/
def bytesAt (s : State) (p : Proc) (a n : Nat) : List Byte :=
  match p with
  | .core _ => mapBytes s a n
  | .engine e => s.rdMemN (engMap e.val a) n
  | .line l => scratchBytes s l.val (a - 0x4000) n

/-- The value of `n` bytes, least significant first and zero-extended (R6, R34). -/
def valueOf (bs : List Byte) : Dword := BitVec.ofNat 64 (leNat bs)

/-- Memory of processor `p` alone has changed from `s` to `t`: address `a` names the low `n` bytes of `v`, every other
byte of its memory reads as before. -/
def Stored (p : Proc) (a n : Nat) (v : Dword) (s t : State) : Prop :=
  match p with
  | .core _ => t.rdMemN a n = leBytes n v.toNat ∧ MemAllBut a n s t
  | .engine e => t.rdMemN (engMap e.val a) n = leBytes n v.toNat ∧ MemAllBut (engMap e.val a) n s t
  | .line l => scratchBytes t l.val (a - 0x4000) n = leBytes n v.toNat ∧
      (∀ o, (o < a - 0x4000 ∨ a - 0x4000 + n ≤ o) → scratchBytes t l.val o 1 = scratchBytes s l.val o 1) ∧
      t.mem = s.mem

/-- What a store of processor `p` leaves beside the bytes it stores: memory aside, or its bank's scratch for a section
processor, nothing but its own pc and running state changes. -/
def StoreKeeps (p : Proc) (s t : State) : Prop :=
  match p with
  | .line n => AllBut [.lines] s t ∧ (∀ m, m ≠ n.val → t.line m = s.line m) ∧
      (∃ m, { t.line n.val with route := (s.line n.val).route } =
        (setBank s n.val (scratchBank s n.val) { bankOf s n.val (scratchBank s n.val) with scratch := m }).line n.val) ∧
      ((t.line n.val).route.map (fun r => (r.judge, r.bank))) = ((s.line n.val).route.map (fun r => (r.judge, r.bank)))
  | p => ProcBut p [.mem] s t

/-- From `s` to `t` nothing but section `n` has changed (its port, its registers and those of its Ganger, a free value
drawn) and the records of its events have been made. -/
def SectionOnly (n : Fin 32) (s t : State) : Prop :=
  AllBut [.lines, .freeCtr, .regs, .evr, .mbx, .irq, .irq1] s t ∧ (∀ m, m ≠ n.val → t.line m = s.line m) ∧
    ∀ a, ¬ recorderWord a → a / 0x1000 ≠ 0x20100 + n.val → a ≠ Reg.GNG_STAT → a / 0x40 ≠ 0x20141000 / 0x40 + n.val →
      t.rd a = s.rd a

/-- Core `c` is in `t` what `x` is, awake and gone on to its next instruction; beside the cores nothing but the fields
named has changed, and the other core has not. -/
def CoreNext (c : Fin 2) (x : Core) (changed : List Part) (s t : State) : Prop :=
  t.core c = { x with pc := (s.core c).pc + 4, run := .running } ∧ (∀ d, d ≠ c → t.core d = s.core d) ∧
    AllBut (.cores :: changed) s t

/-- Core `c` has taken the exception or interrupt `cause` (R39): CS_EPC holds the pc, CS_STATUS has pie from ie, ie 0 and
trap 1, the core runs on at CS_TVEC, and no general register has changed. -/
def Taken (c : Fin 2) (cause : Nat) (tval : Dword) (s t : State) : Prop :=
  t.core c = { s.core c with
    epc := (s.core c).pc, cause := BitVec.ofNat 64 cause, tval := tval, pc := (s.core c).tvec
    status := if (s.core c).status.getLsbD 0 then 6 else 4, run := .running } ∧
  (∀ d, d ≠ c → t.core d = s.core d)

/-- Engine `e` is in `t` what `x` is, but for its pc, which has gone on to the next instruction; beside the engines
nothing but the fields named has changed, and no other engine has. -/
def EngineNext (e : Fin 512) (x : Engine) (changed : List Part) (s t : State) : Prop :=
  t.engine e.val = { x with pc := (t.engine e.val).pc } ∧ pcOf t (.engine e) = pcOf s (.engine e) + 4 ∧
    (∀ f, f ≠ e.val → t.engine f = s.engine f) ∧ AllBut (.engines :: changed) s t

/-- The state register numbers that MFS reads in a profile, and that MTS writes (R30). -/
def readableRegs : Profile → List Nat
  | .c => [0, 1, 2, 3, 4, 5, 6, 7, 8, 0x10]
  | .e => [0x10]
  | .s => []
def writableRegs : Profile → List Nat
  | .c => [0, 1, 2, 3, 4, 5, 6, 8]
  | _ => []

/-! ### How a command ends -/

/-- The next state `u` of a command, with parked cores, votes, domains and the mode brought in step (R21, R56, R386). -/
def settled (u : State) : Out := .next (settle (unpark u))

/-- `s` while firmware serves a request of `q` (R359). -/
def behalf (s : State) (q : Sender) : State :=
  s.wr Reg.EVR_BEHALF (BitVec.ofNat 32 (q.origin.code + 2 ^ 7 + (match q with
    | .inst n => n.val
    | .agent _ => 0) * 2 ^ 16))

/-- The next state after a request that was served leaves `u`. -/
def served (u : State) : Out := settled (u.setBit Reg.EVR_BEHALF 7 false)

/-- Job `j`, at the head of signature pipe `p` before `js`, has been carried out: what it wrote beside its output left
`t`, its output `out` is in memory, and it waits for its end with status `st` (R232, R234). -/
def jobCarried (t : State) (p : Nat) (j : SigJob) (js : List SigJob) (st : Nat) (out : List Byte) : Out :=
  settled (setSigPipe (t.wrMemN j.buf.out out) p ({ j with done := some (st, out) } :: js))

/-- `s` once firmware has taken a request of `q` with code `code`: logged with its origin where the spec asks for that, then
begun on the requester's behalf (R207, R359, R402). -/
def taken (s : State) (q : Sender) (code : Nat) : State := behalf (logRequest s q code) q

/-- The next state after a request of `q` that was served and left `u`, with its one answer: status `st` and result
`result` to the request whose word 0 was `w0` (R207, R285). -/
def answered (u : State) (q : Sender) (w0 st : Nat) (result : List Byte) : Out := served (u.answer q w0 st result true)

/-- A request of `q` reaches firmware (R207, R285, R322). -/
abbrev Heard (s : State) (q : Sender) : Prop := s.pwr.down = false ∧ reqReaches s q = true

/-- Party `p` reaches the mailbox or agent register at `a`, holds no low word of its pair there, and where it is an agent
that was away it has returned (R317, R326, R410, R414). -/
abbrev Mailing (s : State) (p : Party) (k : Access) (a : Nat) : Prop :=
  s.pwr.down = false ∧ partyMay s p k a = true ∧ reaches (touched s p) p a = true ∧ p ≠ .debug ∧
    (touched s p).heldLow.find? (fun h => h.who == p && h.pair + 4 == a) = none ∧
    (touched s p).held.find? (fun h => h.who == p && h.pair + 4 == a) = none

/-- An attestation message of requester `e` on transport `t`, in session `ses`, reaches a responder that answers there
(R296, R298). -/
abbrev Asked (s : State) (t : Fin 6) (e : Byte) (ses : Option Word) : Prop :=
  s.pwr.down = false ∧ domState s 1 = 0 ∧ (2 ≤ t.val ∨ s.bit Reg.HST_LINK 9 = true) ∧ transportUp s t.val = true ∧
    ses.any (fun i => (sessionOf s i.toNat).isNone) = false

/-- `s` once a well-formed message of a requester with a context has been counted, and the context marked as used now
(R297, R298). -/
def noted (s : State) (t : Fin 6) (e : Byte) : State :=
  touchCtx (s.inc Reg.ATT_CNT_RX) t.val e.toNat

/-- Party `p`, in the privileged view or the owner of the register at `a`, writes it now, and holds no low word of its
pair (R44, R408-R410, R414). -/
abbrev Writer (s : State) (p : Party) (a : Nat) : Prop :=
  s.pwr.down = false ∧ partyMay s p .store a = true ∧ reaches s p a = true ∧
    (privileged s p = true ∨ ownsUi p a = true) ∧ s.heldLow.find? (fun h => h.who == p && h.pair + 4 == a) = none

end Sys2Proof.Machine
end

