-- ==== Sys2Proof/Certificates/Slice0/Obligations.lean ====
section
/-! DEFINITION. The statements for the provers: what the commands of the TDX-8512 do, from the numbered rules of spec/. -/

open Sys2Proof Sys2Proof.Machine

set_option Elab.async false

/-- A step is the front command's effect on the state whose queue is the rest. The rules apply wherever the block is powered
(R4); the queue itself is the model's (DESIGN CHOICE, log entries 3, 7). -/
def Obligations.StepRunsFront : Prop :=
  ∀ (c : Instr) (s : State) (rest : List Instr), s.pending = c :: rest → step s = exec c { s with pending := rest }

/-- The tick: OT (R11), the VBAT tick counter (R330, R332), the timetable's ages and due flags (R261, R262) and the memory-test
key (R380); delayed requests are served later (R25). That an empty queue lets a tick pass is a DESIGN CHOICE (log entries 1, 2,
97, 103). -/
def Obligations.EmptyQueueTicks : Prop :=
  ∀ s : State, s.pending = [] →
    (∀ d, nextDelayed s = some d → step s = runRequest d.cmd (takeDelayed s d)) ∧
    (nextDelayed s = none → s.pwr.down = true → step s = .next s) ∧
    (nextDelayed s = none → s.pwr.down = false → ∃ u, step s = settled (firmware u) ∧
      (fwRuns u = false → firmware u = u.setBit Reg.RTB_STAT 1 false) ∧ u.ot = (s.ot + 1) % 2 ^ 48 ∧ u.lcs = { s.lcs with mtmKey := false } ∧
      vbatTick u = (vbatTick s + 32) % 2 ^ 48 ∧ AllBut [.ot, .lcs, .regs] s u ∧
      (u.ot % 1024 ≠ 0 → RegsAllBut [Reg.TMP_VBAT_TICK_LO, Reg.TMP_VBAT_TICK_HI] s u) ∧
      (u.ot % 1024 = 0 → (∀ e ∈ s.fix.tt, e.1 < 64) → (s.fix.tt.map Prod.fst).Nodup →
        (∀ k, k < 64 → u.rd (Reg.FIX_TT_AGE k) =
          (if k ∈ s.fix.tt.map Prod.fst ∧ s.bit (Reg.FIX_TT_STAT k) 0 = true then satInc (s.rd (Reg.FIX_TT_AGE k)) else s.rd (Reg.FIX_TT_AGE k))) ∧
        (∀ k, k < 64 → u.rd (Reg.FIX_TT_STAT k) = setBits (s.rd (Reg.FIX_TT_STAT k)) 1 1 (b2n (ttDue u k))) ∧
        (∀ a, a ≠ Reg.TMP_VBAT_TICK_LO → a ≠ Reg.TMP_VBAT_TICK_HI → (∀ k, k < 64 → a ≠ Reg.FIX_TT_AGE k ∧ a ≠ Reg.FIX_TT_STAT k) →
          u.rd a = s.rd a)))

/-- State.reset by R28, R91, R277, R287, R406 and R446. That no command waits and RAM reads 0 are DESIGN CHOICES (log entries 3, 4). -/
def Obligations.ResetState : Prop :=
  let s := State.reset
  s.pending = [] ∧
  (∀ (c : Fin 2) (r : RegNo), greg s (.core c) r = 0 ∧ pcOf s (.core c) = 0 ∧ (s.core c).run = .running) ∧
  (∀ n, n < 34 → s.fld (Reg.SEC_CTL n) 1 0 = 0) ∧
  s.fld (Reg.VIN_STAT 0) 2 0 = 1 ∧
  (∀ n, 0 < n → n ≤ 1024 → s.fld (Reg.VIN_STAT n) 2 0 = 0) ∧
  (∀ n, n ≤ 1024 → s.fld (Reg.VIN_STAT n) 31 16 = 0) ∧
  (∀ h, (s.handle h).state = .free) ∧
  (∀ a, 0x40000 ≤ a → s.rdMem a = if 0x10000000 ≤ a ∧ a < 0x11000000 then 0xFF else 0)

/-- The form of the memory and of the register words (R404, R411) at reset; the form is the model's (log entry 4). -/
def Obligations.ResetForm : Prop := State.reset.wf = true

/-- The canonical form of the internal map's memory and register words (R404, R411) is kept by every command and by the tick. -/
def Obligations.StepKeepsForm : Prop :=
  ∀ s t : State, s.wf = true → step s = .next t → t.wf = true

/-- The formats of R31 and the table of R34: the word of every instruction decodes to it. -/
def Obligations.EncodeDecode : Prop :=
  ∀ i : Wop, wopOperandsOk i = true → decodeWop (encodeWop i) = some i

/-- The unused fields of R33 are 0 in every word that decodes, by the formats of R31 and the table of R34. -/
def Obligations.DecodeEncode : Prop :=
  (∀ (w : Word) (i : Wop), decodeWop w = some i → wopOperandsOk i = true ∧ encodeWop i = w) ∧
  decodeWop 0 = none ∧ decodeWop 0xFFFFFFFF = none

/-- The rules apply in every mode in which the block they concern is powered (R4); what a power loss leaves is in R383, and what
the VBAT domain goes on doing in R341. A DESIGN CHOICE of log entry 9 serves the command with no effect. -/
def Obligations.UnpoweredCommands : Prop :=
  ∀ (c : Instr) (s : State), s.pwr.down = true →
    match c with
    | .powerOnReset .. => True
    | .backupSample .. => s.tmp.cell = false → exec c s = .next s
    | _ => exec c s = .next s

/-- The register-register instructions of R34 write their results, and nothing else changes. -/
def Obligations.AluResults : Prop :=
  ∀ (s : State) (p : Proc) (rd ra rb : RegNo),
    Writes (.add p rd ra rb) (.add rd ra rb) s p rd (greg s p ra + greg s p rb) ∧
    Writes (.sub p rd ra rb) (.sub rd ra rb) s p rd (greg s p ra - greg s p rb) ∧
    Writes (.and p rd ra rb) (.and rd ra rb) s p rd (greg s p ra &&& greg s p rb) ∧
    Writes (.or p rd ra rb) (.or rd ra rb) s p rd (greg s p ra ||| greg s p rb) ∧
    Writes (.xor p rd ra rb) (.xor rd ra rb) s p rd (greg s p ra ^^^ greg s p rb) ∧
    Writes (.shl p rd ra rb) (.shl rd ra rb) s p rd (greg s p ra <<< ((greg s p rb).toNat % 64)) ∧
    Writes (.shr p rd ra rb) (.shr rd ra rb) s p rd (greg s p ra >>> ((greg s p rb).toNat % 64)) ∧
    Writes (.sar p rd ra rb) (.sar rd ra rb) s p rd ((greg s p ra).sshiftRight ((greg s p rb).toNat % 64)) ∧
    Writes (.slt p rd ra rb) (.slt rd ra rb) s p rd (if (greg s p ra).toInt < (greg s p rb).toInt then 1 else 0) ∧
    Writes (.sltu p rd ra rb) (.sltu rd ra rb) s p rd (if (greg s p ra).toNat < (greg s p rb).toNat then 1 else 0) ∧
    Writes (.mul p rd ra rb) (.mul rd ra rb) s p rd (greg s p ra * greg s p rb) ∧
    Writes (.mulhu p rd ra rb) (.mulhu rd ra rb) s p rd
      (BitVec.ofNat 64 ((greg s p ra).toNat * (greg s p rb).toNat / 2 ^ 64)) ∧
    Writes (.divu p rd ra rb) (.divu rd ra rb) s p rd
      (if greg s p rb = 0 then BitVec.allOnes 64 else greg s p ra / greg s p rb) ∧
    Writes (.remu p rd ra rb) (.remu rd ra rb) s p rd
      (if greg s p rb = 0 then greg s p ra else greg s p ra % greg s p rb)

/-- The immediate instructions of R34 write their results with the extensions of R32, and nothing else changes. -/
def Obligations.ImmediateResults : Prop :=
  ∀ (s : State) (p : Proc) (rd ra : RegNo) (imm : BitVec 16) (n : BitVec 6) (hw : BitVec 2) (pos lenM1 : BitVec 6),
    Writes (.addi p rd ra imm) (.addi rd ra imm) s p rd (greg s p ra + imm.signExtend 64) ∧
    Writes (.andi p rd ra imm) (.andi rd ra imm) s p rd (greg s p ra &&& imm.zeroExtend 64) ∧
    Writes (.ori p rd ra imm) (.ori rd ra imm) s p rd (greg s p ra ||| imm.zeroExtend 64) ∧
    Writes (.xori p rd ra imm) (.xori rd ra imm) s p rd (greg s p ra ^^^ imm.zeroExtend 64) ∧
    Writes (.shli p rd ra n) (.shli rd ra n) s p rd (greg s p ra <<< n.toNat) ∧
    Writes (.shri p rd ra n) (.shri rd ra n) s p rd (greg s p ra >>> n.toNat) ∧
    Writes (.sari p rd ra n) (.sari rd ra n) s p rd ((greg s p ra).sshiftRight n.toNat) ∧
    Writes (.slti p rd ra imm) (.slti rd ra imm) s p rd (if (greg s p ra).toInt < imm.toInt then 1 else 0) ∧
    Writes (.sltui p rd ra imm) (.sltui rd ra imm) s p rd
      (if (greg s p ra).toNat < (imm.signExtend 64).toNat then 1 else 0) ∧
    (∃ v : Dword, Writes (.seth p rd hw imm) (.seth rd hw imm) s p rd v ∧
      ∀ i < 64, v.getLsbD i = (decide (i / 16 = hw.toNat) && imm.getLsbD (i % 16))) ∧
    (∃ v : Dword, Writes (.insh p rd hw imm) (.insh rd hw imm) s p rd v ∧
      ∀ i < 64, v.getLsbD i = if i / 16 = hw.toNat then imm.getLsbD (i % 16) else (greg s p rd).getLsbD i) ∧
    (∃ v : Dword, Writes (.extr p rd ra pos lenM1) (.extr rd ra pos lenM1) s p rd v ∧
      ∀ i < 64, v.getLsbD i = (decide (i ≤ lenM1.toNat) && (greg s p ra).getLsbD (pos.toNat + i)))

/-- Branches, jumps and calls go where R32 and R34 say; CALL and JR leave the return address (R29). -/
def Obligations.BranchTargets : Prop :=
  ∀ (s : State) (p : Proc) (rd ra rb : RegNo) (off imm : BitVec 16) (far : BitVec 26),
    let next := pcOf s p + 4
    let there := pcOf s p + 4 * off.signExtend 64
    let a := greg s p ra
    let b := greg s p rb
    Goes (.beq p ra rb off) (.beq ra rb off) s p (if a = b then there else next) ∧
    Goes (.bne p ra rb off) (.bne ra rb off) s p (if a ≠ b then there else next) ∧
    Goes (.blt p ra rb off) (.blt ra rb off) s p (if a.toInt < b.toInt then there else next) ∧
    Goes (.bge p ra rb off) (.bge ra rb off) s p (if b.toInt ≤ a.toInt then there else next) ∧
    Goes (.bltu p ra rb off) (.bltu ra rb off) s p (if a.toNat < b.toNat then there else next) ∧
    Goes (.bgeu p ra rb off) (.bgeu ra rb off) s p (if b.toNat ≤ a.toNat then there else next) ∧
    Goes (.jmp p far) (.jmp far) s p (pcOf s p + 4 * far.signExtend 64) ∧
    (Ready s p (.call far) → ∃ t, exec (.call p far) s = .next t ∧ greg t p 31 = next ∧
      pcOf t p = pcOf s p + 4 * far.signExtend 64 ∧ KeepsRegs p 31 s t ∧ OnlyProc p s t) ∧
    (Ready s p (.jr rd ra imm) → ∃ t, exec (.jr p rd ra imm) s = .next t ∧ greg t p rd = (if rd = 0 then 0 else next) ∧
      pcOf t p = (a + imm.signExtend 64) &&& ~~~3 ∧ KeepsRegs p rd s t ∧ OnlyProc p s t)

/-- Loads (R34, R35, R37): little-endian bytes of memory, or what a register shows its reader; a bank under check stalls the
read (R396). -/
def Obligations.LoadResults : Prop :=
  ∀ (s : State) (p : Proc) (rd ra : RegNo) (imm : BitVec 16),
    let a := (greg s p ra + imm.signExtend 64).toNat
    let loads (i : Instr) (w : Wop) (n : Nat) : Prop :=
      Ready s p w → accessFault s p .load a n false = none →
        (readStalls s p a = true → exec i s = .next (awake s p)) ∧
        (readStalls s p a = false → ∃ t, exec i s = .next t ∧ pcOf t p = pcOf s p + 4 ∧ KeepsRegs p rd s t ∧
          ((a < 0x20000000 ∨ procParty p = none) → OnlyProc p s t ∧
            greg t p rd = if rd = 0 then 0 else valueOf (bytesAt s p a n)) ∧
          (∀ q, procParty p = some q → 0x20000000 ≤ a → ProcBut p [.regs, .held, .irq, .irq1] s t ∧
            t = setGreg (regLoad (onward s p) q a n).2 p rd (BitVec.ofNat 64 (regLoad (onward s p) q a n).1) ∧
            greg t p rd = if rd = 0 then 0 else BitVec.ofNat 64 (regLoad (onward s p) q a n).1))
    loads (.ldb p rd ra imm) (.ldb rd ra imm) 1 ∧ loads (.ldh p rd ra imm) (.ldh rd ra imm) 2 ∧
    loads (.ldw p rd ra imm) (.ldw rd ra imm) 4 ∧ loads (.ldd p rd ra imm) (.ldd rd ra imm) 8

/-- Stores (R34, R35, R37): the addressed bytes, or a register under its view and access code. -/
def Obligations.StoreResults : Prop :=
  ∀ (s : State) (p : Proc) (rs ra : RegNo) (imm : BitVec 16),
    let a := (greg s p ra + imm.signExtend 64).toNat
    let stores (i : Instr) (w : Wop) (n : Nat) : Prop :=
      Ready s p w → accessFault s p .store a n false = none → ∃ u, exec i s = settled u ∧
        ((a < 0x20000000 ∨ procParty p = none) → Stored p a n (greg s p rs) s u ∧ pcOf u p = pcOf s p + 4 ∧
          (∀ r, greg u p r = greg s p r) ∧ StoreKeeps p s u) ∧
        (∀ q, procParty p = some q → 0x20000000 ≤ a →
          u = regStore (onward s p) q a n ((greg s p rs).toNat % 256 ^ n))
    stores (.stb p rs ra imm) (.stb rs ra imm) 1 ∧ stores (.sth p rs ra imm) (.sth rs ra imm) 2 ∧
    stores (.stw p rs ra imm) (.stw rs ra imm) 4 ∧ stores (.std p rs ra imm) (.std rs ra imm) 8

/-- Atomics (R34, R35, R37; R396 where a bank is under check) and FENCE (R46, R47; that a fence only goes on is the model's
reading, log entry 14). -/
def Obligations.AtomicResults : Prop :=
  ∀ (s : State) (p : Proc) (rd ra rb : RegNo) (kinds : BitVec 3),
    let a := (greg s p ra).toNat
    let swaps (i : Instr) (w : Wop) (f : Dword → Option Dword) : Prop :=
      Ready s p w → accessFault s p .load a 8 true = none → accessFault s p .store a 8 true = none →
        (readStalls s p a = true → exec i s = settled (awake s p)) ∧
        (readStalls s p a = false →
          (a < 0x20000000 →
            let old := valueOf (bytesAt s p a 8)
            ∃ u, exec i s = settled u ∧ greg u p rd = (if rd = 0 then 0 else old) ∧ KeepsRegs p rd s u ∧ pcOf u p = pcOf s p + 4 ∧
              match f old with
              | some v => Stored p a 8 v s u ∧ StoreKeeps p s u
              | none => OnlyProc p s u) ∧
          (∀ q, procParty p = some q → 0x20000000 ≤ a →
            let r := regLoad (onward s p) q a 8
            let t := setGreg r.2 p rd (BitVec.ofNat 64 r.1)
            ProcBut p [.regs, .held, .irq, .irq1] s t ∧ pcOf t p = pcOf s p + 4 ∧ KeepsRegs p rd s t ∧
            greg t p rd = (if rd = 0 then 0 else BitVec.ofNat 64 r.1) ∧
            exec i s = settled (match f (BitVec.ofNat 64 r.1) with
              | some v => regStore t q a 8 v.toNat
              | none => t)))
    swaps (.amoadd p rd ra rb) (.amoadd rd ra rb) (fun old => some (old + greg s p rb)) ∧
    swaps (.amoswap p rd ra rb) (.amoswap rd ra rb) (fun _ => some (greg s p rb)) ∧
    swaps (.cas p rd ra rb) (.cas rd ra rb) (fun old => if old = greg s p rd then some (greg s p rb) else none) ∧
    Goes (.fence p kinds) (.fence kinds) s p (pcOf s p + 4)

/-- Exceptions, interrupts and ERET of the logical cores (R39). CS_TVAL after an interrupt is left open. -/
def Obligations.ExceptionEntry : Prop :=
  ∀ (s : State) (c : Fin 2),
    ((s.core c).inTrap = false → (s.core c).run = .running → ∀ (cause : Nat) (val : Dword),
      Taken c cause val s (raiseExc s (.core c) cause val) ∧ AllBut [.cores] s (raiseExc s (.core c) cause val)) ∧
    (∀ code : BitVec 5, Ready s (.core c) (.trap code) → (s.core c).inTrap = false →
      ∃ t, exec (.trap (.core c) code) s = .next t ∧ Taken c 7 (code.zeroExtend 64) s t ∧ AllBut [.cores] s t) ∧
    (∀ word : Word, s.pwr.down = false → procReady s (.core c) = true → (s.core c).inTrap = false →
      accessFault s (.core c) .fetch (s.core c).pc.toNat 4 false = none → (decodeWop word).any (wopLegal .c) = false →
      ∃ t, exec (.illegalWord (.core c) word) s = .next t ∧ Taken c 1 (word.zeroExtend 64) s t ∧ AllBut [.cores] s t) ∧
    (∀ (rd ra : RegNo) (imm : BitVec 16) (cause : Nat), Ready s (.core c) (.ldw rd ra imm) → (s.core c).inTrap = false →
      accessFault s (.core c) .load (greg s (.core c) ra + imm.signExtend 64).toNat 4 false = some cause →
      ∃ t, exec (.ldw (.core c) rd ra imm) s = .next t ∧
        Taken c cause (greg s (.core c) ra + imm.signExtend 64) s t ∧ AllBut [.cores] s t) ∧
    (∀ n, s.pwr.down = false → procReady s (.core c) = true → nextInterrupt s c = some n →
      ∃ (t : State) (tval : Dword), exec (.interruptTaken c) s = .next t ∧ Taken c (0x40 + n) tval s t ∧
        AllBut [.cores, .freeCtr] s t) ∧
    (Ready s (.core c) .eret → (s.core c).inTrap = true → ∃ t, exec (.eret (.core c)) s = .next t ∧
      t.core c = { s.core c with
        status := if (s.core c).status.getLsbD 1 then 3 else 0, pc := (s.core c).epc, run := .running } ∧
      (∀ d, d ≠ c → t.core d = s.core d) ∧ AllBut [.cores] s t)

/-- MFS and MTS raise ILLEGAL outside the table of state registers (R30). -/
def Obligations.IllegalStateRegisters : Prop :=
  ∀ (s : State) (p : Proc) (r : RegNo) (num : BitVec 12), s.pwr.down = false → procReady s p = true →
    accessFault s p .fetch (pcOf s p).toNat 4 false = none →
    (num.toNat ∉ readableRegs p.profile →
      exec (.mfs p r num) s = .next (raiseExc (awake s p) p 1 ((encodeWop (.mfs r num)).zeroExtend 64))) ∧
    (num.toNat ∉ writableRegs p.profile →
      exec (.mts p r num) s = .next (raiseExc (awake s p) p 1 ((encodeWop (.mts r num)).zeroExtend 64)))

/-- MFS, MTS, IDENT and PARK (R30, R50, R56). CS_CYCLE's clocks are a free value (log entry 12). -/
def Obligations.StateRegisters : Prop :=
  (∀ (s : State) (c : Fin 2) (rd : RegNo),
    let x := s.core c
    ∀ e ∈ [(0x000, x.status), (0x001, x.tvec), (0x002, x.epc), (0x003, x.cause), (0x004, x.tval), (0x005, x.scratch),
        (0x006, x.ien), (0x007, ipend s c), (0x008, x.timecmp)],
      Writes (.mfs (.core c) rd (BitVec.ofNat 12 e.1)) (.mfs rd (BitVec.ofNat 12 e.1)) s (.core c) rd e.2) ∧
  (∀ (s : State) (c : Fin 2) (rd : RegNo), Ready s (.core c) (.mfs rd 0x010) →
    ∃ (t : State) (v : Dword), exec (.mfs (.core c) rd 0x010) s = .next t ∧
      CoreNext c { s.core c with g := gSet (s.core c).g rd v, cycle := v } [.freeCtr] s t) ∧
  (∀ (s : State) (e : Fin 512) (rd : RegNo), Ready s (.engine e) (.mfs rd 0x010) →
    ∃ (t : State) (v : Dword), exec (.mfs (.engine e) rd 0x010) s = .next t ∧
      EngineNext e { s.engine e.val with g := gSet (s.engine e.val).g rd v, cycle := v } [.freeCtr] s t) ∧
  (∀ (s : State) (c : Fin 2) (rs : RegNo),
    let x := s.core c
    let v := greg s (.core c) rs
    ∀ e ∈ [(0x000, { x with status := v &&& 7 }), (0x001, { x with tvec := v }), (0x002, { x with epc := v }),
        (0x003, { x with cause := v }), (0x004, { x with tval := v }), (0x005, { x with scratch := v }),
        (0x006, { x with ien := v }), (0x008, { x with timecmp := v })],
      Ready s (.core c) (.mts rs (BitVec.ofNat 12 e.1)) →
        ∃ t, exec (.mts (.core c) rs (BitVec.ofNat 12 e.1)) s = .next t ∧ CoreNext c e.2 [] s t) ∧
  (∀ (s : State) (p : Proc) (rd : RegNo),
    let values : List Nat := match p with
      | .core c => [c.val, 0x101, 0, if c = s.duty then 0 else 1]
      | .engine e => [e.val, 0x102, e.val / 32, e.val % 32]
      | .line n => [n.val, 0x103, n.val / 8, 0]
    ∀ k < 4, Writes (.ident p rd (BitVec.ofNat 4 k)) (.ident rd (BitVec.ofNat 4 k)) s p rd
      (BitVec.ofNat 64 (values.getD k 0))) ∧
  (∀ (s : State) (p : Proc) (rd : RegNo) (sel : BitVec 4), 3 < sel.toNat → p.profile ≠ .s → Ready s p (.ident rd sel) →
    exec (.ident p rd sel) s = .next (raiseExc (awake s p) p 1 ((encodeWop (.ident rd sel)).zeroExtend 64))) ∧
  (∀ (s : State) (c : Fin 2), Ready s (.core c) .park → ∃ t, exec (.park (.core c)) s = .next t ∧
    t.core c = { s.core c with
      pc := (s.core c).pc + 4, run := if ipend s c &&& (s.core c).ien = 0 then .parked else .running } ∧
    (∀ d, d ≠ c → t.core d = s.core d) ∧ AllBut [.cores] s t) ∧
  (∀ (s : State) (e : Fin 512), Ready s (.engine e) .park → ∃ t, exec (.park (.engine e)) s = .next t ∧
    EngineNext e { s.engine e.val with run := if (s.engine e.val).wake then .running else .parked } [] s t)

/-- DINIT, DFEED, DFIN, DCMP, DSAVE and DLOAD (R223-R229). -/
def Obligations.DigestInstructions : Prop :=
  ∀ (s : State) (e : Fin 512) (dc : BitVec 2) (rd ra rb : RegNo),
    let x := s.engine e.val
    let v := (greg s (.engine e) ra).toNat
    let n := (greg s (.engine e) rb).toNat
    let y := e.val / 32
    let l := e.val % 32
    let keyed := decide (0x11 ≤ v % 256)
    let good : Prop := digestLen (v % 256) ≠ 0 ∧ v / 2 ^ 10 % 64 = 0 ∧
      (if keyed then keyIn s y (v / 2 ^ 8 % 4) ≠ [] else v / 2 ^ 8 % 4 = 0) ∧ (v / 2 ^ 16 % 2 = 0 → v / 2 ^ 17 = 0)
    let publishes (t : State) (alg st : Nat) (d : List Byte) : Prop :=
      (∀ k < 16, t.rd (Reg.YRD_DRES y l k) = BitVec.ofNat 32 (leAt (takePad 64 d) (4 * k) 4)) ∧
        t.rd (Reg.YRD_DSTAT y l) = BitVec.ofNat 32
          (alg + dc.toNat * 2 ^ 8 + st * 2 ^ 10 + (s.fld (Reg.YRD_DSTAT y l) 31 16 + 1) % 65536 * 2 ^ 16) ∧
        RegsAllBut (Reg.YRD_DSTAT y l :: (List.range 16).map (Reg.YRD_DRES y l)) s t
    (Ready s (.engine e) (.dinit dc ra) → (good → ∃ t, exec (.dinit (.engine e) dc ra) s = .next t ∧
        EngineNext e { x with live := some (dc.toNat, ⟨v % 256, if keyed then keyIn s y (v / 2 ^ 8 % 4) else [],
          if v / 2 ^ 16 % 2 = 1 then some (v / 2 ^ 17) else none, [], .running, []⟩) } [] s t) ∧
      (¬ good → exec (.dinit (.engine e) dc ra) s =
        .next (raiseExc s (.engine e) 0x0A ((encodeWop (.dinit dc ra)).zeroExtend 64)))) ∧
    (∀ c, Ready s (.engine e) (.dfeed dc ra rb) → x.live = some (dc.toNat, c) → c.st = .running → v + n ≤ 0xF800 →
      ∃ t, exec (.dfeed (.engine e) dc ra rb) s = .next t ∧
        EngineNext e { x with live := some (dc.toNat, { c with fed := c.fed ++ localBytes s e.val v n }) } [] s t) ∧
    (∀ c, Ready s (.engine e) (.dfin dc ra) → x.live = some (dc.toNat, c) → c.st = .running →
      (c.declared.all (fun k => k == c.fed.length) = true → codeBytes s y ≤ v → v + digestLen c.alg ≤ 0xF800 →
        let d := digestOf c.alg c.key c.fed
        ∃ t, exec (.dfin (.engine e) dc ra) s = .next t ∧
          EngineNext e { x with live := some (dc.toNat, { c with st := .done, result := d }) } [.mem, .regs] s t ∧
          t.mem = (localWrite s e.val v d).mem ∧ publishes t c.alg 1 d) ∧
      (c.declared.all (fun k => k == c.fed.length) = false →
        ∃ t, exec (.dfin (.engine e) dc ra) s = .next t ∧
          EngineNext e { x with live := some (dc.toNat, { c with st := .lengthMismatch }) } [.regs] s t ∧
          publishes t c.alg 2 [])) ∧
    (∀ c, x.live = some (dc.toNat, c) → v + digestLen c.alg ≤ 0xF800 → n + digestLen c.alg ≤ 0xF800 →
      Writes (.dcmp (.engine e) rd ra rb dc) (.dcmp rd ra rb dc) s (.engine e) rd
        (if c.st = .done ∧ localBytes s e.val v (digestLen c.alg) = localBytes s e.val n (digestLen c.alg)
          then 1 else 0)) ∧
    (∀ c, Ready s (.engine e) (.dsave dc) → x.live = some (dc.toNat, c) →
      (c.st = .running → c.fed.length % blockLen c.alg = 0) →
      ∃ t slots, exec (.dsave (.engine e) dc) s = .next t ∧ EngineNext e { x with live := none, slots := slots } [] s t ∧
        (∀ k, Sparse.get (fun _ => none) slots k =
          if k = dc.toNat then some c else Sparse.get (fun _ => none) x.slots k)) ∧
    (∀ c, Ready s (.engine e) (.dload dc) → Sparse.get (fun _ => none) x.slots dc.toNat = some c →
      ∃ t slots, exec (.dload (.engine e) dc) s = .next t ∧
        EngineNext e { x with live := some (dc.toNat, c), slots := slots } [] s t ∧
        (∀ k, Sparse.get (fun _ => none) slots k =
          if k = dc.toNat then none else Sparse.get (fun _ => none) x.slots k))

/-- SREAD, DMA, SWAIT and the completion of a tag (R48, R59, R246). That a wait leaves the state is log entry 24. -/
def Obligations.StreamInstructions : Prop :=
  ∀ (s : State) (e : Fin 512) (rd ra rb : RegNo) (i : WorkItem),
    let x := s.engine e.val
    let a := (greg s (.engine e) ra).toNat
    let n := (greg s (.engine e) rb).toNat
    let o := i.wb.owner.getD 0
    let room : Prop := (x.tags.filter (fun t => !t.done)).length < 8
    let opens (t : State) (k : Nat) (tag : Tag) (y : Engine) (parts : List Part) : Prop :=
      (∀ u ∈ x.tags, u.id ≠ k) ∧ tag.id = k ∧
        EngineNext e { y with g := gSet x.g rd (BitVec.ofNat 64 k), tags := x.tags ++ [tag] } parts s t
    (x.item = some i → Ready s (.engine e) (.sread rd ra rb) → codeBytes s (e.val / 32) ≤ a → a + n ≤ 0xF800 →
      let m := min n (streamLeft i)
      (n % 64 = 0 → n ≤ 16384 → room → (m ≠ 0 → i.dropped = false → dmaIssues s o = true ∧ dmaFails s o = false) →
        ∃ t k, exec (.sread (.engine e) rd ra rb) s = .next t ∧
          opens t k ⟨k, true, a, m, true, false, false, [], streamAddr i⟩
            { x with item := some { i with streamed := i.streamed + m } } [.mem, .freeCtr] ∧
          MemAllBut (engineBase e.val + a) m s t) ∧
      (n % 64 = 0 → n ≤ 16384 → ¬ room → exec (.sread (.engine e) rd ra rb) s = .next s) ∧
      (n % 64 ≠ 0 ∨ 16384 < n → exec (.sread (.engine e) rd ra rb) s =
        .next (raiseExc s (.engine e) 0x0B ((encodeWop (.sread rd ra rb)).zeroExtend 64)))) ∧
    (x.item = some i → Ready s (.engine e) (.dma rd ra) → a + 16 ≤ 0xF800 → room →
      let d := dmaDesc (localBytes s e.val a 16)
      d.ok = true → dmaRemoteOk s e.val i d = true →
      (d.space = 0 → dmaIssues s o = true ∧ dmaFails s o = false) → (d.space ≠ 0 → dmaAnswers s d = true) →
      (d.out = false → codeBytes s (e.val / 32) ≤ d.lcl → d.lcl + d.len ≤ 0xF800 →
        ∃ t k, exec (.dma (.engine e) rd ra) s = .next t ∧
          opens t k ⟨k, false, d.lcl, d.len, d.space == 0, false, false,
            if d.space = 0 then [] else mapBytes s d.remote d.len, d.remote⟩ x [.mem, .freeCtr] ∧
          MemAllBut (engineBase e.val + d.lcl) d.len s t) ∧
      (d.out = true → d.space ≠ 0 → d.lcl + d.len ≤ 0xF800 →
        ∃ t k, exec (.dma (.engine e) rd ra) s = .next t ∧
          opens t k ⟨k, false, 0, d.len, false, false, false, [], d.remote⟩ x [.mem, .freeCtr] ∧
          t.mem = (s.wrMemN d.remote (localBytes s e.val d.lcl d.len)).mem)) ∧
    (∀ t : Tag, Ready s (.engine e) (.swait rd ra) → x.tags.find? (fun t => t.id == a) = some t →
      (t.done = true → t.failed = false →
        let bs := if t.dest = 0 then [] else t.data.take t.len
        ∃ u, exec (.swait (.engine e) rd ra) s = .next u ∧
          EngineNext e { x with
            g := gSet x.g rd (BitVec.ofNat 64 (if t.dest = 0 then t.len else bs.length))
            tags := x.tags.filter (fun u => u.id != a) } [.mem] s u ∧
          u.mem = (s.wrMemN (engineBase e.val + t.dest) bs).mem) ∧
      (t.done = false → exec (.swait (.engine e) rd ra) s = .next s)) ∧
    (∀ (t : Tag) (k : Nat) (bs : List Byte) (kind : Fin 4), s.pwr.down = false →
      x.tags.find? (fun t => t.id == k && !t.done) = some t → t.failed = false → t.fromHost = true →
      let u := s.setEngine e.val { x with
        tags := x.tags.map (fun u => if u.id = k then { t with done := true, data := takePad t.len bs } else u) }
      exec (.streamTransferDone e k (some bs) kind) s = settled (if t.stream
        then u.wr64 Reg.FIX_BYTES_LO Reg.FIX_BYTES_HI (s.rd64 Reg.FIX_BYTES_LO Reg.FIX_BYTES_HI + t.len) else u))

/-- WBTAKE and WBDONE (R56, R244, R245, R247). -/
def Obligations.WorkItemsTaken : Prop :=
  ∀ (s : State) (e : Fin 512) (rd ra : RegNo),
    let x := s.engine e.val
    let a := (greg s (.engine e) ra).toNat
    let y : Engine := { x with wake := false }
    let bare := s.setEngine e.val { x with item := none }
    let res := localBytes s e.val (a - 0x80) 0xA0
    let done (i : WorkItem) : State := fixDone bare e.val i (res.take 64) ((res.drop 64).take 64) (res.drop 128)
    (Ready s (.engine e) (.wbtake rd ra) → codeBytes s (e.val / 32) ≤ a → a + 544 ≤ 0xF800 →
      (x.item.isSome = true ∨ takeItem (s.setEngine e.val y) e.val = none → ∃ t, exec (.wbtake (.engine e) rd ra) s = .next t ∧
        EngineNext e { y with g := gSet x.g rd 0 } [] s t) ∧
      (∀ w, x.item = none → takeItem (s.setEngine e.val y) e.val = some w → ∃ t, exec (.wbtake (.engine e) rd ra) s = .next t ∧
        EngineNext e { y with g := gSet x.g rd 1, item := some ⟨w, 0, false, false, false⟩ } [.mem, .fix, .regs] s t ∧
        t.mem = (s.wrMemN (engineBase e.val + a) (itemBytes w)).mem ∧ (w.bytes.length = 64 → (itemBytes w).length = 544) ∧
        t.fix.waiting = s.fix.waiting.filter (fun v => !(v.src == w.src && v.bytes == w.bytes)) ∧
        (∃ paid, t.fix = { s.fix with accounts := paid, waiting := t.fix.waiting }) ∧
        RegsAllBut [Reg.FIX_STAT, Reg.FIX_INFLIGHT] s t)) ∧
    (∀ i : WorkItem, Ready s (.engine e) (.wbdone ra) → 0x80 ≤ a → a + 0x20 ≤ 0xF800 → x.item = some i →
      exec (.wbdone (.engine e) ra) s = .next (advance (wakeFreed s (syncFix (done i))) (.engine e)) ∧
      (i.dropped = true → done i = bare) ∧
      (∀ n seq, i.wb.src = .ring n seq → i.dropped = false → i.cancelled = false →
        wbLedger i.wb.bytes = false → wbMode i.wb.bytes = 2 → wbAlgB i.wb.bytes = 0 → wbSegmented i.wb.bytes = false →
        let len := digestLen (wbAlgA i.wb.bytes)
        let same := decide ((localBytes s e.val (a - 0x80) 64).take len = (takePad 64 (i.wb.expect.take 64)).take len)
        leAt (localBytes s e.val a 1) 0 1 % 4 = b2n same → ∃ t, exec (.wbdone (.engine e) ra) s = .next t ∧
          (t.engine e.val).item = none ∧ pcOf t (.engine e) = pcOf s (.engine e) + 4 ∧
          (∀ r, greg t (.engine e) r = greg s (.engine e) r) ∧
          (∀ f, f ≠ e.val → { t.engine f with wake := (s.engine f).wake, run := (s.engine f).run } = s.engine f) ∧
          { t.engine e.val with pc := x.pc, item := x.item, wake := x.wake, run := x.run } = x ∧
          t.fix = { s.fix with done := s.fix.done ++
            [(n, completionBytes i.wb seq (if same then 0 else 1) (b2n same + 4) i.streamed 0xFFFFFFFF 0)] } ∧
          AllBut [.engines, .fix, .regs, .evr, .mbx, .irq, .irq1] s t ∧
          (let c := if same then Reg.FIX_CNT_PASS else Reg.FIX_CNT_FAIL
           t.rd c = satInc (s.rd c) ∧
           ∀ b, ¬ recorderWord b → b ∉ [Reg.FIX_STAT, Reg.FIX_INFLIGHT, c] → t.rd b = s.rd b)))

/-- BAR.Y, BAR.G and the release (R51, R52). -/
def Obligations.Barriers : Prop :=
  (∀ (s : State) (e : Fin 512) (rd : RegNo),
    let y := e.val / 32
    let x := s.engine e.val
    let inMask := s.bit (Reg.YRD_BAR_MASK y) (e.val % 32)
    let waiting (run : EngRun) : Engine := { x with pc := (BitVec.ofNat 64 x.pc + 4).toNat, run := run }
    (inMask = false → Writes (.barY (.engine e) rd) (.barY rd) s (.engine e) rd 0) ∧
    (inMask = false ∨ barJoined s y = false → Writes (.barG (.engine e) rd) (.barG rd) s (.engine e) rd 0) ∧
    (Ready s (.engine e) (.barY rd) → inMask = true → (s.yard y).owedY = [] →
      exec (.barY (.engine e) rd) s = .next (settleBars (s.setEngine e.val (waiting (.waitY rd))) y)) ∧
    (Ready s (.engine e) (.barG rd) → inMask = true → barJoined s y = true → s.owedG = [] →
      exec (.barG (.engine e) rd) s = .next (settleBars (s.setEngine e.val (waiting (.waitG rd))) y)) ∧
    (Ready s (.engine e) (.barY rd) → inMask = true → (s.yard y).owedY ≠ [] →
      ∃ t, exec (.barY (.engine e) rd) s = .next t ∧ EngineNext e { x with g := gSet x.g rd 1 } [.yards] s t ∧
        (t.yard y).owedY = (s.yard y).owedY.filter (fun l => l != e.val % 32)) ∧
    (Ready s (.engine e) (.barG rd) → inMask = true → barJoined s y = true → s.owedG ≠ [] →
      ∃ t, exec (.barG (.engine e) rd) s = .next t ∧ EngineNext e { x with g := gSet x.g rd 1 } [.owedG] s t ∧
        t.owedG = s.owedG.filter (fun f => f != e.val))) ∧
  (∀ (s : State) (y : Fin 16),
    let released (u : State) (e : Nat) : Prop :=
      ∃ rd, ((s.engine e).run = .waitY rd ∨ (s.engine e).run = .waitG rd) ∧
        u.engine e = { s.engine e with run := .running, g := gSet (s.engine e).g rd 0 }
    (s.pwr.down = false → exec (.barrierRelease y) s = .next (settleBars s y.val)) ∧
    (barLanes s y.val ≠ [] → (∀ l ∈ barLanes s y.val, waitsY s (32 * y.val + l) = true) →
      ∀ l ∈ barLanes s y.val, released (settleBars s y.val) (32 * y.val + l)) ∧
    (barJoined s y.val = true → barGlobal s ≠ [] → (∀ e ∈ barGlobal s, waitsG s e = true) →
      ∀ e ∈ barGlobal s, released (settleBars s y.val) e) ∧
    (∀ l ∈ barLanes s y.val, waitsY s (32 * y.val + l) = false → waitsG s (32 * y.val + l) = false →
      ∀ k ∈ barLanes s y.val, (settleBars s y.val).engine (32 * y.val + k) = s.engine (32 * y.val + k)))

/-- TOPEN, TPUT and TDROP (R60-R65, R70, R73). -/
def Obligations.TransactionsBuilt : Prop :=
  ∀ (s : State) (c : Fin 2) (rd ra rb : RegNo),
    let p : Proc := .core c
    let x := s.core c
    let named : Option Nat := (handleOf (greg s p ra)).filter (fun h => h / 2 == c.val)
    let bad : State := advance ((awake s p).log Ev.BAD_HANDLE (.lc c) ((greg s p ra).toNat % 256) []) p
    (∀ h, Ready s p (.topen rd) → (s.handle h).state = .free →
      (h = 2 * c.val ∨ (h = 2 * c.val + 1 ∧ (s.handle (2 * c.val)).state ≠ .free)) →
      ∃ t, exec (.topen p rd) s = .next t ∧
        CoreNext c { x with g := gSet x.g rd (BitVec.ofNat 64 (0x100 + h)) } [.ilk] s t ∧
        t.ilk = (s.setHandle h { state := .opened, lastStatus := (s.handle h).lastStatus, relief := c != s.duty }).ilk) ∧
    ((s.handle (2 * c.val)).state ≠ .free → (s.handle (2 * c.val + 1)).state ≠ .free →
      Writes (.topen p rd) (.topen rd) s p rd 0x10) ∧
    (∀ h, Ready s p (.tput ra rb) → named = some h → (s.handle h).state = .opened →
      let a := (greg s p rb).toNat
      let y := s.handle h
      let b := s.rdMemN a 32
      let puts (ilk : Ilk) : Prop := ∃ t, exec (.tput p ra rb) s = .next t ∧ CoreNext c x [.ilk] s t ∧ t.ilk = ilk
      (y.held.isSome = true → puts s.ilk) ∧
      (y.held = none → inOwn c a 32 = true → recordOk c a b = true →
        (sizeOk (y.recs ++ [takeRecord s b]) = true → puts (s.setHandle h { y with recs := y.recs ++ [takeRecord s b] }).ilk) ∧
        (sizeOk (y.recs ++ [takeRecord s b]) = false → puts (s.setHandle h { y with held := some (0x12, y.recs.length) }).ilk)) ∧
      (y.held = none → inOwn c a 32 = false ∨ recordOk c a b = false →
        puts (s.setHandle h { y with held := some (0x13, y.recs.length) }).ilk)) ∧
    (∀ h, Ready s p (.tdrop ra) → named = some h → (s.handle h).state = .opened →
      ∃ u, exec (.tdrop p ra) s = settled u ∧ u.ilk = (s.setHandle h { lastStatus := 0x33 }).ilk ∧
        u.core c = { x with pc := x.pc + 4, run := .running } ∧ (∀ d, d ≠ c → u.core d = s.core d) ∧
        AllBut [.cores, .ilk, .regs, .evr, .mbx, .irq, .irq1] s u ∧
        (∀ a, ¬ recorderWord a → a ≠ Reg.ILK_ARM → u.rd a = s.rd a)) ∧
    (∀ h, Ready s p (.tdrop ra) → named = some h → (s.handle h).state ∈ [.armed, .lodged] →
      (∀ r k, (s.core (other c)).run ≠ .stalled r k) →
      let free : Handle := { lastStatus := 0x33 }
      ∃ u, exec (.tdrop p ra) s = settled u ∧
        u.ilk = ((partnersOf s h).foldl (fun v k => v.setHandle k free) (s.setHandle h free)).ilk ∧
        u.core c = { x with pc := x.pc + 4, run := .running } ∧ (∀ d, d ≠ c → u.core d = s.core d) ∧
        AllBut [.cores, .ilk, .regs, .evr, .mbx, .irq, .irq1] s u ∧
        (∀ a, ¬ recorderWord a → a ≠ Reg.ILK_ARM → u.rd a = s.rd a)) ∧
    (Ready s p (.tput ra rb) → (∀ h, named = some h → (s.handle h).state ≠ .opened) →
      exec (.tput p ra rb) s = .next bad) ∧
    (Ready s p (.tdrop ra) → (∀ h, named = some h → (s.handle h).state ∉ [.opened, .armed, .lodged]) →
      exec (.tdrop p ra) s = settled bad)

/-- The answers of TCOMMIT that need no service (R62-R64, R68-R72). -/
def Obligations.CommitAnswers : Prop :=
  ∀ (s : State) (c : Fin 2) (rd ra : RegNo),
    let p : Proc := .core c
    let x := s.core c
    let gives (u : State) (v : Dword) : Prop :=
      u.core c = { x with g := gSet x.g rd v, pc := x.pc + 4, run := .running } ∧ (∀ d, d ≠ c → u.core d = s.core d)
    (∀ v, handleOf (greg s p ra) = some v → (v / 2 ≠ c.val ∨ (s.handle v).state ≠ .opened) →
      lineLocked s = true → Ready s p (.tcommit rd ra) →
      ∃ u, exec (.tcommit p rd ra) s = settled u ∧ gives u 0x11 ∧ AllBut [.cores] s u) ∧
    (∀ h, handleOf (greg s p ra) = some h → h / 2 = c.val → (s.handle h).state = .opened → lineLocked s = true →
      Ready s p (.tcommit rd ra) →
      let y := s.handle h
      let acts := y.recs.any ActRec.isAction
      let room := decide (journaledRecs y.recs = true → queuedBlocks s + entryBlocks y.recs ≤ s.ilk.journal.space)
      let shape := if votedRecs y.recs then voteShape y.relief y.recs else none
      let power := journaledRecs y.recs && powerFailing s
      let inService := stallIn (awake s p) c rd h
      (∀ st, (∃ i, y.held = some (st, i)) ∨ (y.held = none ∧ ((acts = false ∧ st = 0x15) ∨
          (acts = true ∧ shape.isSome = true ∧ st = 0x13) ∨ (acts = true ∧ shape = none ∧ power = true ∧ st = 0x25))) →
        ∃ u, exec (.tcommit p rd ra) s = settled u ∧ gives u (BitVec.ofNat 64 st) ∧ u.handle h = { lastStatus := st } ∧
          (∀ k, k ≠ h → u.handle k = s.handle k) ∧ u.rd Reg.ILK_ABORT_COUNT = satInc (s.rd Reg.ILK_ABORT_COUNT) ∧
          (∀ a, ¬ recorderWord a → a ≠ Reg.ILK_ARM → a ≠ Reg.ILK_ABORT_COUNT → u.rd a = s.rd a) ∧
          u.ilk.queue = s.ilk.queue ∧ u.ilk.journal = s.ilk.journal ∧
          AllBut [.regs, .ilk, .cores, .evr, .mbx, .irq, .irq1] s u) ∧
      (y.held = none → acts = true → shape = none → power = false → room = false →
        ∃ u, exec (.tcommit p rd ra) s = settled u ∧ gives u 0x14 ∧ AllBut [.cores] s u) ∧
      (y.held = none → acts = true → shape = none → power = false → room = true →
        (votedRecs y.recs = false → exec (.tcommit p rd ra) s = settled (serveNow inService h)) ∧
        (votedRecs y.recs = true → ∀ k, pairOf s c h = some k → exec (.tcommit p rd ra) s =
          settled (if (mirrorOf y.recs).isSome then resolvePair inService k h else resolvePair inService h k)) ∧
        (votedRecs y.recs = true → pairOf s c h = none →
        let mirror := (mirrorOf y.recs).isSome
        ∃ u, exec (.tcommit p rd ra) s = settled u ∧ gives u (if mirror then 2 else 1) ∧
          u.ilk = (s.setHandle h { y with state := if mirror then .lodged else .armed }).ilk ∧
          u.fld Reg.ILK_ARM 3 0 =
            ((List.range 4).map (fun k => if (u.handle k).state = .armed then 2 ^ k else 0)).sum ∧
          (∀ a, ¬ recorderWord a → a ≠ Reg.ILK_ARM → u.rd a = s.rd a) ∧
          AllBut [.regs, .ilk, .cores, .evr, .mbx, .irq, .irq1] s u))) ∧
    (∀ h : Fin 4, s.pwr.down = false →
      let st := (s.handle h.val).state
      (s.ilk.reliefAbsent = true ∨ (st ≠ .armed ∧ st ≠ .lodged) → exec (.voteMissing h) s = settled s) ∧
      (s.ilk.reliefAbsent = false → st = .armed ∨ st = .lodged → ∃ t u, exec (.voteMissing h) s = settled u ∧
        (subjectOf (s.handle h.val).recs = none → u = t) ∧
        (∀ n, subjectOf (s.handle h.val).recs = some (0, n) → u = stageVoteFailed t n) ∧
        t.handle h.val = { lastStatus := 0x32 } ∧ (∀ k, k ≠ h.val → t.handle k = s.handle k) ∧
        t.rd Reg.ILK_VOTE_FAIL_COUNT = satInc (s.rd Reg.ILK_VOTE_FAIL_COUNT) ∧
        (∀ a, ¬ recorderWord a → a ≠ Reg.ILK_ARM → a ≠ Reg.ILK_VOTE_FAIL_COUNT → t.rd a = s.rd a) ∧
        t.ilk.queue = s.ilk.queue ∧ t.ilk.journal = s.ilk.journal ∧
        AllBut [.regs, .ilk, .cores, .evr, .mbx, .irq, .irq1] s t))

/-- A hold set commits within its TCOMMIT (R64, R66-R70, R74). -/
def Obligations.HoldSetCommits : Prop :=
  ∀ (s : State) (c : Fin 2) (rd ra : RegNo) (h g m op : Nat),
    let p : Proc := .core c
    let r : ActRec := ⟨0x01, g, op, 0, []⟩
    handleOf (greg s p ra) = some h → h / 2 = c.val → (s.handle h).state = .opened → (s.handle h).recs = [r] →
    (s.handle h).held = none → (s.handle h).partner = none → (s.handle h).conflict = false → g < 3 → op % 2 ^ 32 = m → op / 2 ^ 32 = m →
    s.ilk.queue = [] → s.ilk.busy = none → lineLocked s = true → Ready s p (.tcommit rd ra) →
    ∃ u, exec (.tcommit p rd ra) s = settled u ∧
      u.core c = { s.core c with g := gSet (s.core c).g rd 0, pc := (s.core c).pc + 4, run := .running } ∧
      (∀ d, d ≠ c → u.core d = s.core d) ∧
      (∀ k < 32, u.bit (Reg.HLD_STATE g) k = (bitOf m k || s.bit (Reg.HLD_STATE g) k)) ∧
      u.rd Reg.ILK_SEQ = s.rd Reg.ILK_SEQ + 1 ∧
      (∀ k < 12, u.rd (Reg.ILK_LAST_DIGEST k) = BitVec.ofNat 32 (leAt (txDigest [r]) (4 * k) 4)) ∧
      (∀ k, u.handle k = if k = h then { lastStatus := 0 } else
        { s.handle k with conflict := (s.handle k).conflict ||
            (decide (k < 6) && ((s.handle k).state == .opened || (s.handle k).state == .armed) &&
              (namesAny (s.handle k).recs (lineResources g m))) }) ∧
      u.ilk.queue = [] ∧ u.ilk.journal = s.ilk.journal ∧
      (∀ a, ¬ recorderWord a → a ≠ Reg.HLD_STATE g → a ≠ Reg.ILK_SEQ → a ≠ Reg.ILK_ARM →
        (a < Reg.ILK_LAST_DIGEST 0 ∨ Reg.ILK_LAST_DIGEST 12 ≤ a) → u.rd a = s.rd a) ∧
      AllBut [.regs, .ilk, .cores, .evr, .mbx, .irq, .irq1] s u

/-- YRD_y_CTL, YRD_y_DOORBELL and YRD_y_FAULT_MAP (R28, R42, R50, R52, R56, R392). -/
def Obligations.YardRunAndDoorbell : Prop :=
  ∀ (s : State) (p : Party) (y : Fin 16),
    (Writer s p (Reg.YRD_CTL y.val) → s.bit (Reg.YRD_CTL y.val) 0 = false → domState s (6 + y.val) = 0 →
      ∃ u, exec (.yardRunWrite p y true) s = settled u ∧ u.bit (Reg.YRD_CTL y.val) 0 = true ∧
        (∀ e, u.engine e = if e / 32 = y.val then { run := .running, pc := s.fld (Reg.YRD_ENTRY y.val) 15 0 } else s.engine e) ∧
        AllBut [.engines, .yards, .owedG, .regs, .evr, .mbx, .irq, .irq1] s u ∧
        ∀ a, ¬ recorderWord a → a ≠ Reg.YRD_CTL y.val → u.rd a = s.rd a) ∧
    (Writer s p (Reg.YRD_CTL y.val) → s.bit (Reg.YRD_CTL y.val) 0 = false → domState s (6 + y.val) ≠ 0 →
      exec (.yardRunWrite p y true) s = settled (holdRun s y.val)) ∧
    (Writer s p (Reg.YRD_CTL y.val) → s.bit (Reg.YRD_CTL y.val) 0 = true →
      ∃ t, Eventful s t ∧ exec (.yardRunWrite p y false) s = settled (runWrite t y.val false)) ∧
    (Writer s p (Reg.YRD_CTL y.val) → s.bit (Reg.YRD_CTL y.val) 0 = true →
      exec (.barBreak p y) s = settled (breakBars s y.val)) ∧
    (∀ m, Writer s p (Reg.YRD_DOORBELL y.val) →
      ∃ u, exec (.doorbell p y m) s = settled u ∧ AllBut [.engines] s u ∧
        ∀ e, u.engine e = if e / 32 = y.val ∧ m.getLsbD (e % 32) = true ∧ (s.engine e).run ≠ .held then
          { s.engine e with wake := true, run := if (s.engine e).run = .parked then .running else (s.engine e).run }
          else s.engine e) ∧
    (∀ m, Writer s p (Reg.YRD_FAULT_MAP y.val) →
      ∃ u, exec (.faultMapRestart p y m) s = settled u ∧ AllBut [.regs, .engines] s u ∧
        (∀ a, a ≠ Reg.YRD_FAULT_MAP y.val → u.rd a = s.rd a) ∧
        (∀ k < 32, u.bit (Reg.YRD_FAULT_MAP y.val) k = (s.bit (Reg.YRD_FAULT_MAP y.val) k && !m.getLsbD k)) ∧
        ∀ e, u.engine e = if e / 32 = y.val ∧ m.getLsbD (e % 32) = true ∧ s.bit (Reg.YRD_FAULT_MAP y.val) (e % 32) = true ∧
            (s.engine e).run = .faulted then { run := .running, pc := (s.yard y.val).entry } else s.engine e)

/-- YRD_BCAST_GO, YRD_KEY_GO and their completions (R53, R54, R228). -/
def Obligations.BroadcastsAndKeyLoads : Prop :=
  ∀ (s : State),
    (∀ p, Writer s p Reg.YRD_BCAST_GO →
      let ys := maskYards (s.fld Reg.YRD_BCAST_MASK 15 0)
      let len := s.fld Reg.YRD_BCAST_LEN 15 2 * 4
      if s.bcast = none ∧ ∀ y ∈ ys, s.bit (Reg.YRD_CTL y) 0 = false ∧ domState s (6 + y) = 0 ∧ len ≤ codeBytes s y then
        exec (.bcastGo p) s = settled (({ s with bcast := some ⟨ys, s.rdBytesN (s.rd Reg.YRD_BCAST_SRC).toNat len, p.origin⟩ } : State).setBit
          Reg.YRD_BCAST_STAT 0 true)
      else ∃ u, Eventful (s.setBit Reg.YRD_BCAST_STAT 2 true) u ∧ exec (.bcastGo p) s = settled u) ∧
    (∀ b, s.pwr.down = false → s.bcast = some b → (∀ y ∈ b.yards, y < 16) → b.image.length ≤ 0x10000 →
      ∃ u, exec .bcastDone s = settled u ∧ u.bcast = none ∧ u.bit Reg.YRD_BCAST_STAT 0 = false ∧ u.bit Reg.YRD_BCAST_STAT 1 = true ∧
        (∀ e, e / 32 ∈ b.yards → u.rdMemN (engineBase e) b.image.length = b.image) ∧
        (∀ a, (∀ e, e / 32 ∈ b.yards → a < engineBase e ∨ engineBase e + b.image.length ≤ a) → u.rdMem a = s.rdMem a)) ∧
    (∀ p, Writer s p Reg.YRD_KEY_GO →
      let m := s.fld Reg.YRD_KEY_MASK 15 0
      let len := s.fld Reg.YRD_KEY_CTL 6 0
      exec (.yrdKeyGo p) s = settled
        (if s.keyLoad = none ∧ 0 < len ∧ len ≤ 64 ∧ ∀ y ∈ maskYards m, s.bit (Reg.YRD_CTL y) 0 = false ∧ domState s (6 + y) = 0 then
          ({ s with keyLoad := some ⟨m, s.fld Reg.YRD_KEY_CTL 9 8, s.rdMemN (s.rd Reg.YRD_KEY_SRC).toNat len⟩ } : State).setBit
            Reg.YRD_KEY_STAT 0 true
        else s.setBit Reg.YRD_KEY_STAT 2 true)) ∧
    (∀ l, s.pwr.down = false → s.keyLoad = some l →
      ∃ u, exec .keyLoadDone s = settled u ∧ u.keyLoad = none ∧ u.bit Reg.YRD_KEY_STAT 0 = false ∧ u.bit Reg.YRD_KEY_STAT 1 = true ∧
        ∀ y slot, Sparse.get (fun _ => []) (u.yard y).keys slot =
          if y < 16 ∧ bitOf l.yards y = true ∧ slot = l.slot then l.key else Sparse.get (fun _ => []) (s.yard y).keys slot)

/-- The section processor's own instructions but the verdicts (R34, R36, R84, R115, R118, R121). -/
def Obligations.SectionFrameInstructions : Prop :=
  ∀ (s : State) (n : Fin 32) (r : Route) (rd ra k : RegNo), (s.line n.val).route = some r →
    let p : Proc := .line n
    let v (x : FrameView) : Prop :=
      Writes (.fop p rd) (.fop rd) s p rd (BitVec.ofNat 64 x.op) ∧ Writes (.faddr p rd) (.faddr rd) s p rd (BitVec.ofNat 64 x.addr) ∧
      Writes (.flen p rd) (.flen rd) s p rd (BitVec.ofNat 64 x.len) ∧ Writes (.fmode p rd) (.fmode rd) s p rd (BitVec.ofNat 64 x.desc) ∧
      Writes (.fdata p rd ra) (.fdata rd ra) s p rd (BitVec.ofNat 64 (leAt x.data (greg s p ra).toNat 8))
    (∀ f, r.judge = false → (s.line n.val).frame = some f → v ⟨f.opcode, f.addr, 0, f.desc, []⟩) ∧
    (∀ e, r.judge = true → (s.line n.val).queue.find? (fun e => e.progress == .judging) = some e →
      v ⟨e.opcode, e.addr, e.flen, e.desc, e.data⟩) ∧
    Writes (.rlook p rd ra) (.rlook rd ra) s p rd
      (BitVec.ofNat 64 (rlookValue (bankOf s n.val r.bank).map (greg s p ra).toNat)) ∧
    (Ready s p (.cnt k) → ∃ t, exec (.cnt p k) s = .next t ∧
      t.rd (Reg.SEC_PCNT n.val k.toNat) = satInc (s.rd (Reg.SEC_PCNT n.val k.toNat)) ∧
      RegsAllBut [Reg.SEC_PCNT n.val k.toNat] s t ∧ pcOf t p = pcOf s p + 4 ∧ (∀ q, greg t p q = greg s p q) ∧
      AllBut [.regs, .lines] s t)

/-- PASS, DENY, STAGE, SERVE and CHECK (R57, R112-R114, R121, R148, R149, R151). -/
def Obligations.SectionVerdicts : Prop :=
  ∀ (s : State) (n : Fin 32) (r : Route) (ra : RegNo) (reason : BitVec 8), (s.line n.val).route = some r →
    Ready s (.line n) (.pass ra reason) → Ready s (.line n) (.deny ra reason) →
    let p : Proc := .line n
    let a := (greg s p ra).toNat
    let word (v : Nat) (conv : Bool) (why : Nat) : Word := BitVec.ofNat 32
      (v + b2n r.judge * 2 ^ 3 + b2n conv * 2 ^ 4 + (if v = 1 then why else 0) * 2 ^ 8 + ((r.steps + 1) % 512) * 2 ^ 16)
    let ends (c : Instr) (v : Nat) (conv : Bool) (why : Nat) (post : State → Prop) : Prop :=
      ∃ t, exec c s = .next t ∧ (t.line n.val).route = none ∧ t.rd (Reg.SEC_LAST_VERDICT n.val) = word v conv why ∧
        t.rd (verdictCounter n.val v) = satInc (s.rd (verdictCounter n.val v)) ∧ post t ∧ SectionOnly n s t
    (∀ f, r.judge = false → (s.line n.val).frame = some f → f.late = false →
      let answers (v why : Nat) (d : Reply) (t : State) : Prop :=
        (t.line n.val).frame = some { f with verdict := some (v, why), reply := d }
      (f.kind = 0 →
        ends (.deny p ra reason) 1 false reason.toNat (answers 1 reason.toNat .fill) ∧
        (flashUnavailable s n.val = false → ends (.pass p ra reason) 0 false 0 (answers 0 0 .flash)) ∧
        (∀ x, Ready s p (.serve ra reason) → hitOf a 2 = true → liveExtent s n.val f.bank 2 f.addr = some x →
          holdPend s (extComp s x) = false → ends (.serve p ra reason) 3 false 0 (answers 3 0 (.depot x))) ∧
        (∀ x, Ready s p (.check ra reason) → hitOf a 1 = true → flashUnavailable s n.val = false → s.tagKey.isSome = true →
          liveExtent s n.val f.bank 1 f.addr = some x → holdPend s (extComp s x) = false →
          ends (.check p ra reason) 4 false 0 (answers 4 0 (.checked x))) ∧
        (Ready s p (.stage ra reason) → ends (.stage p ra reason) 1 true 0xFE (answers 1 0xFE .fill)) ∧
        (Ready s p (.serve ra reason) → hitOf a 2 = false → ends (.serve p ra reason) 1 true 0xFE (answers 1 0xFE .fill)) ∧
        (Ready s p (.check ra reason) → hitOf a 1 = false → ends (.check p ra reason) 1 true 0xFE (answers 1 0xFE .fill))) ∧
      (writeKind f.kind = true → sealed s = false →
        ends (.pass p ra reason) 0 false 0 (answers 0 0 f.reply) ∧
        (Ready s p (.stage ra reason) → conversion s n.val f 2 a = none → ends (.stage p ra reason) 2 false 0 (answers 2 0 f.reply)))) ∧
    (∀ e, r.judge = true → (s.line n.val).queue.find? (fun e => e.progress == .judging) = some e → e.flen ≤ 4096 →
      ends (.pass p ra reason) 0 false 0 (fun t => (t.line n.val).queue =
        (s.line n.val).queue.replace e { e with progress := .passed }) ∧
      ends (.deny p ra reason) 1 false reason.toNat (fun t => (t.line n.val).queue =
        (s.line n.val).queue.erase e))

/-- SELECT_FALL, COMMAND_ROUTE, LATE_VERDICT and STEP_LIMIT (R43, R57, R85, R88, R91, R97, R114, R120). -/
def Obligations.FramesBegin : Prop :=
  ∀ (s : State) (n : Fin 32), s.pwr.down = false → lineLocked s = true →
    ((s.line n.val).selLow = true → exec (.selectFall n) s = .next s) ∧
    ((s.line n.val).selLow = false →
      let v := s.setLine n.val { s.line n.val with selLow := true }
      (pointsOf s n.val = 2 → exec (.selectFall n) s = .next (setFrame (v.setBit (Reg.SEC_PORT_STAT n.val) 9 true) n.val (some {}))) ∧
      (pointsOf s n.val = 1 → exec (.selectFall n) s = .next
        (secLog (recordFrame (v.inc (Reg.SEC_CNT_INTRUSION n.val)) n.val {} 8) Ev.SELECT_INTRUSION n.val [])) ∧
      (pointsOf s n.val = 0 → exec (.selectFall n) s = .next (recordFrame (v.inc (Reg.SEC_CNT_ISOLATED n.val)) n.val {} 9))) ∧
    (∀ f0 (opcode ext : Byte) (addr : Word), (s.line n.val).frame = some f0 → f0.decoded = false →
      let q := finishRoute s n
      let l := q.line n.val
      ∀ k edges : Nat,
      let f := { decodeFrame q n.val opcode.toNat ext.toNat addr.toNat with edges := edges }
      let full := writeKind f.kind && (lineBusy l || decide (2 ≤ l.queue.length))
      let t0 := q.setLine n.val { l with frame := some f, tagged := [] }
      let t := if f.kind = 6 then secLog (t0.inc (Reg.SEC_CNT_UNKNOWN n.val)) Ev.UNKNOWN_OPCODE n.val
        (leBytes 1 f.opcode ++ leBytes 1 f.ext ++ leBytes 1 (q.fld (Reg.SEC_PORT_STAT n.val) 1 0)) else t0
      exec (.commandRoute n opcode ext addr ⟨k, edges⟩) s = .next
        (if full then refuseRoute t n.val f 0xFC
         else if (bankOf q n.val f.bank).ok = false then refuseRoute t n.val f 0xF7
         else runRoute k (t.setLine n.val { l with
           frame := some f, tagged := [], route := some ⟨false, leAt (bankOf q n.val f.bank).image 12 2, 0, [], f.bank⟩ }) n)) ∧
    (∀ f (period : Word), (s.line n.val).frame = some f → f.decoded = true → f.kind = 0 → f.verdict = none → f.late = false →
      exec (.lateVerdict n period) s = .next (secLog (setFrame (s.inc (Reg.SEC_CNT_LATE n.val)) n.val (some { f with late := true }))
        Ev.LATE_VERDICT n.val (leBytes 1 f.opcode ++ leBytes 4 period.toNat))) ∧
    (∀ r f, (s.line n.val).route = some r → r.judge = false → (s.line n.val).frame = some f →
      exec (.stepLimit n) s = .next (commandVerdict
        (secLog (s.setLine n.val { s.line n.val with route := none }) Ev.ROUTE_EXCEPTION n.val (leBytes 1 8 ++ leBytes 2 r.pc ++ leBytes 1 0))
        n.val 1 0xFF 0 (routeBound r)))

/-- SELECT_RISE (R96, R112, R120, R121, R127). -/
def Obligations.SelectRises : Prop :=
  ∀ (s : State) (n : Fin 32) (f : Frame) (edges : Nat) (data : List Byte) (k : Nat),
    s.pwr.down = false → lineLocked s = true →
    let r := s.setLine n.val { s.line n.val with selLow := false }
    let c (early : Bool) : Instr := .selectRise n early edges data k
    ((s.line n.val).frame = none → ∀ early, exec (c early) s = .next r) ∧
    (∀ f0 early, (s.line n.val).frame = some f0 → (early = true ∨ f0.decoded = false) →
      exec (c early) s = .next (endFrame ((dropRoute r n.val).inc (Reg.SEC_CNT_VOID n.val)) n.val f0 1)) ∧
    (∀ f0 q, (s.line n.val).frame = some f0 → f0.decoded = true → q = finishRoute r n → (q.line n.val).frame = some f →
      let unit := unitEdges f.desc
      let whole := endFrame (q.inc (Reg.SEC_CNT_FRAMES n.val)) n.val f 0
      let bytes := data.take (edges / dataEdges f.desc)
      let denied (t : State) (why : Nat) : State :=
        denialResponse (recordDeny t n.val f.opcode f.ext f.kind 0 f.cs why f.addr) n.val f.kind
      (f.kind = 6 → exec (c false) s = .next (endFrame q n.val f 5)) ∧
      (f.kind ≤ 2 → f.late = true → exec (c false) s = .next (endFrame q n.val f 6)) ∧
      (f.kind ≤ 2 → f.late = false → edges = 0 →
        exec (c false) s = .next (endFrame (q.inc (Reg.SEC_CNT_ABANDONED n.val)) n.val f 2)) ∧
      (∀ u, u = sentRead q n.val f (edges / dataEdges f.desc) → f.kind ≤ 2 → f.late = false → 0 < edges →
        exec (c false) s = .next (if edges % unit = 0 then endFrame (u.inc (Reg.SEC_CNT_FRAMES n.val)) n.val f 0
          else endFrame (u.inc (Reg.SEC_CNT_TORN_READ n.val)) n.val f 3)) ∧
      (f.kind = 3 → edges % unit ≠ 0 → exec (c false) s = .next (secLog (endFrame (q.inc (Reg.SEC_CNT_TORN_WRITE n.val)) n.val f 4)
        Ev.TORN_WRITE n.val (leBytes 1 f.opcode ++ leBytes 4 f.addr ++ leBytes 4 edges))) ∧
      (f.kind = 4 ∨ f.kind = 5 → 0 < edges → exec (c false) s = .next (endFrame (q.inc (Reg.SEC_CNT_VOID n.val)) n.val f 1)) ∧
      (∀ bs, (f.kind = 3 ∧ edges % unit = 0 ∧ bs = bytes ∨ (f.kind = 4 ∨ f.kind = 5) ∧ edges = 0 ∧ bs = []) →
        (∀ why, f.verdict = some (1, why) → exec (c false) s = .next (if why = 0xFC then whole else denialResponse whole n.val f.kind)) ∧
        (f.verdict = some (0, 0) ∨ f.verdict = some (2, 0) → sealed whole = true → exec (c false) s = .next (denied whole 0xFA)) ∧
        (f.verdict = some (0, 0) → sealed whole = false → 4096 < bs.length →
          let t := recordConverted whole n.val 0 0xFD f.opcode
          exec (c false) s = .next (denied (recordVerdict t n.val 1 0 true 0xFD (t.fld (Reg.SEC_LAST_VERDICT n.val) 24 16)) 0xFD)) ∧
        (f.verdict = some (0, 0) → sealed whole = false → bs.length ≤ 4096 →
          let t := queueEmulation (trackAddr whole n.val f.opcode (bs.head?.map (fun b => b.toNat))) n.val f.opcode f.kind
          let e := entryOf whole n.val f bs true
          let u := setQueue t n.val ((t.line n.val).queue ++ [e])
          exec (c false) s = .next (match e.newIface with
            | some i => setIface u n.val 0 i 0
            | none => u)) ∧
        (f.verdict = some (2, 0) → sealed whole = false →
          let t := queueEmulation whole n.val f.opcode f.kind
          let u := setQueue t n.val ((t.line n.val).queue ++ [entryOf whole n.val f bs false])
          ∀ j, exec (.selectRise n false edges data j) s = .next (runRoute j (u.setLine n.val { u.line n.val with
            route := some ⟨true, leAt (bankOf u n.val f.bank).image 14 2, 0, [], f.bank⟩ }) n))))

/-- SENSE_TIMEOUT, MASTER_CONFLICT, F_SENSE_N_CHANGE, C_RST_LOW and TAG_RESULT (R98, R100, R116, R149, R151). -/
def Obligations.FlashLineEvents : Prop :=
  ∀ (s : State) (n : Fin 32), s.pwr.down = false →
    let stat := Reg.SEC_PORT_STAT n.val
    exec (.fSenseNChange n true) s = .next (s.setBit stat 7 true) ∧
    exec (.fSenseNChange n false) s = .next ((s.setBit stat 7 false).setLine n.val { s.line n.val with triState := false }) ∧
    (∀ t, t = s.setLine n.val { s.line n.val with resets := (s.line n.val).resets + 1 } → pointsOf s n.val = 2 →
      exec (.cRstLow n) s = .next (resetAddrState
        (setIface (setIface t n.val 0 (powerOnIface t n.val) 2) n.val 1 (powerOnIface t n.val) 2) n.val)) ∧
    (pointsOf s n.val ≠ 2 → exec (.cRstLow n) s = .next s) ∧
    (lineLocked s = true →
      (∀ k a t, s.bit (Reg.SEC_CFG n.val) 0 = true → drivenFrame s n.val = some (k, a) →
        t = (conflictEnd s n.val k).inc (Reg.SEC_CNT_CONFLICT n.val) →
        exec (.masterConflict n) s = .next (secLog ((t.setLine n.val { t.line n.val with triState := true }).setBit stat 7 true)
          Ev.MASTER_CONFLICT n.val (leBytes 1 k ++ leBytes 4 a))) ∧
      (s.bit (Reg.SEC_CFG n.val) 0 = false ∨ drivenFrame s n.val = none → exec (.masterConflict n) s = .next s) ∧
      (senseBlocks s n.val = false → exec (.senseTimeout n) s = .next s) ∧
      (∀ t, t = (if (s.line n.val).dev.isSome then endDev s n.val 3 else s) → senseBlocks s n.val = true →
        (∀ e q, (t.line n.val).queue = e :: q → e.progress = .passed →
          exec (.senseTimeout n) s = .next (secLog (failEntry t n.val e) Ev.STAGE_DISCARD n.val
            (leBytes 1 3 ++ leBytes 1 e.opcode ++ leBytes 4 e.addr))) ∧
        ((∀ e ∈ (t.line n.val).queue.head?, e.progress ≠ .passed) → exec (.senseTimeout n) s = .next t)) ∧
      (∀ (addr : Word) page x key v, checkedExtent (s.line n.val) addr.toNat = some x → s.tagKey = some key →
        addr.toNat % 4096 = 0 → extHas s x addr.toNat = true → v = s.setLine n.val (noteTag (s.line n.val) addr.toNat) →
        (pageTag key n.val addr.toNat (takePad 4096 page) = storedTag s x addr.toNat →
          exec (.tagResult n addr page) s = settled (v.inc (Reg.SEC_CNT_TAG_OK n.val))) ∧
        (∀ op, op = (match (s.line n.val).frame with
            | some f => f.opcode
            | none => s.fld (Reg.SEC_FRAME n.val) 7 0) →
          pageTag key n.val addr.toNat (takePad 4096 page) ≠ storedTag s x addr.toNat →
          exec (.tagResult n addr page) s = settled (respondMismatch (secLog (v.inc (Reg.SEC_CNT_TAG_FAIL n.val)) Ev.TAG_MISMATCH n.val
            (leBytes 4 addr.toNat ++ leBytes 1 x ++ leBytes 1 (extComp s x) ++
              leBytes 1 (extResponse (v.inc (Reg.SEC_CNT_TAG_FAIL n.val)) x) ++ leBytes 1 op))
            n.val x addr.toNat 0))))

/-- REPLAY_START, REPLAY_END, BUSY_POLL, STAGE_ENTRY_COMPLETE and FLASH_TIMEOUT (R122, R124, R126, R128, R145, R194). -/
def Obligations.StagingQueueRuns : Prop :=
  ∀ (s : State) (n : Fin 32) (e : Entry) (q : List Entry), s.pwr.down = false → lineLocked s = true → (s.line n.val).queue = e :: q →
    let t := s.setBit (Reg.SEC_PORT_STAT n.val) 8 false
    (powerFailing s = true → exec (.replayStart n) s = .next s ∧ (∀ v, exec (.busyPoll n v) s = .next s) ∧
      (∀ reads, exec (.stageEntryComplete n reads) s = .next s) ∧ (∀ us reads, exec (.flashTimeout n us reads) s = .next s)) ∧
    (frameOnFlash (s.line n.val) = true ∨ senseBlocks s n.val = true ∨ e.progress ≠ .passed → exec (.replayStart n) s = .next s) ∧
    (powerFailing s = false → e.progress = .passed → (pointsOf s n.val ≠ 0 ∨ e.half = true) →
        frameOnFlash (s.line n.val) = false → senseBlocks s n.val = false →
      (∀ fence, e.half = false → fenceHit s n.val e = some fence →
        exec (.replayStart n) s = .next (secLog ((denyEntry s n.val e 0xF6 0).inc (Reg.SEC_CNT_FENCED n.val)) Ev.FENCED n.val
          (leBytes 1 fence ++ leBytes 1 e.opcode ++ leBytes 4 e.addr))) ∧
      (e.half = true ∨ fenceHit s n.val e = none →
        exec (.replayStart n) s = .next (setHead (staleExtents (((drive (preemptGanger s n.val) n.val (replayFrame s n.val e)).inc
          (Reg.SEC_CNT_REPLAY n.val)).setBit (Reg.SEC_PORT_STAT n.val) 8 true) n.val e) n.val .replaying))) ∧
    (∀ reads, e.progress = .replaying → replaysTwice s n.val e = true → exec (.replayEnd n reads) s = .next
      (if powerFailing t then discardEntry t n.val e 0xF8 4
       else setQueue t n.val ({ e with cs := 1, half := true, progress := .passed } :: q))) ∧
    (∀ reads, e.progress = .replaying → replaysTwice s n.val e = false → e.newIface = none → e.modeReset = false →
      exec (.replayEnd n reads) s = .next
        (if e.kind = 5 then
          (if powerFailing (completeHead t n.val) then completeHead t n.val else refreshEntry (completeHead t n.val) n.val e none reads)
         else if powerFailing t then discardEntry t n.val e 0xF8 4 else setHead t n.val .polling)) ∧
    (∀ reads i u, e.progress = .replaying → replaysTwice s n.val e = false → e.newIface = some i → e.kind ≠ 5 → e.modeReset = false →
      u = setIface t n.val 1 i 0 → powerFailing u = false → exec (.replayEnd n reads) s = .next (setHead u n.val .polling)) ∧
    (∀ reads u, e.progress = .replaying → replaysTwice s n.val e = false → e.newIface = none → e.kind = 5 → e.modeReset = true →
      u = completeHead (resetAddrState (setIface (setIface t n.val 0 (powerOnIface t n.val) 1) n.val 1
        (powerOnIface t n.val) 1) n.val) n.val →
      powerFailing u = false → exec (.replayEnd n reads) s = .next (refreshEntry u n.val e none reads)) ∧
    (∀ k w value u, pollEntry s n.val = some (k, w) → powerFailing s = false → e.progress = .polling → senseBlocks s n.val = false →
      u = storeShadows (driveStatus s n.val e.cs ((statusOps s n.val).filter (fun x => x.opcode == w % 256))) n.val
        [(BitVec.ofNat 8 w, value)] →
      exec (.busyPoll n value) s = .next
        (if pollReady w value.toNat then setHead (u.setBit (Reg.SEC_STAGE_STAT n.val) 6 false) n.val .refreshing else u)) ∧
    (∀ reads, powerFailing s = false → e.progress = .refreshing →
      exec (.stageEntryComplete n reads) s = .next
        (completeHead (refreshEntry s n.val e ((pollEntry s n.val).map (fun p => p.2 % 256)) reads) n.val)) ∧
    (∀ (us : Word) reads u, powerFailing s = false → e.progress = .polling →
      u = (if (pollEntry s n.val).isSome then s else refreshEntry s n.val e none reads) →
      exec (.flashTimeout n us reads) s = .next
        ((completeHead (secLog (flashFault u n.val (e.kind == 3) (e.kind == 4)) Ev.FLASH_TIMEOUT n.val
          (leBytes 1 e.opcode ++ leBytes 4 e.addr ++ leBytes 4 us.toNat)) n.val).setBit (Reg.SEC_STAGE_STAT n.val) 6
          (pollEntry s n.val).isSome))

/-- GANGER_FRAME, GANGER_PAGE_DONE and GANGER_WINDOW (R153-R157, R221). -/
def Obligations.GangerChecksPages : Prop :=
  ∀ (s : State), s.pwr.down = false →
    (∃ t, exec .gangerWindow s = .next t ∧ (∀ n < 32, t.rd (Reg.GNG_USED n) = 0) ∧
      (∀ a, (∀ n < 32, a ≠ Reg.GNG_USED n) → t.rd a = s.rd a) ∧ AllBut [.regs, .lines, .freeCtr] s t ∧
      ∀ n, { t.line n with ganger := none } = { s.line n with ganger := none } ∧
        (t.line n).ganger.map (fun g => (g.addr, g.extent)) = (s.line n).ganger.map (fun g => (g.addr, g.extent))) ∧
    (∀ n : Fin 32, lineLocked s = true →
      (∀ clocks a x, gangerMay s n.val clocks = true → gangerPick s n.val = some a → liveAt s n.val a = some x →
        let c := csOf s n.val a
        exec (.gangerFrame n clocks) s = .next ((s.setBit Reg.GNG_STAT n.val true).setLine n.val { s.line n.val with
          ganger := some ⟨a, x, clocks⟩, out := some (deviceFrame s n.val (gangerEntry s n.val) c (flashAddr s n.val c a) []) })) ∧
      (∀ clocks, gangerMay s n.val clocks = false → exec (.gangerFrame n clocks) s = .next s) ∧
      (∀ g page, (s.line n.val).ganger = some g →
        let t := dropGanger s n.val g.clocks
        let pg := takePad 4096 page
        let copy := t.rdMemN (servedPage (extBase t g.extent + (g.addr - extStart t g.extent) / 4096)) 4096
        (extClass t g.extent = 2 → ∀ fault, exec (.gangerPageDone n page fault) s = settled (gangerAdvance
          (if pg = copy then t.inc (Reg.GNG_PAGES n.val)
           else secLog (t.inc (Reg.GNG_DRIFT n.val)) Ev.DRIFT n.val
             (leBytes 4 g.addr ++ leBytes 1 g.extent ++ leBytes 4 (firstDiff pg copy))) n.val g.addr)) ∧
        (∀ key, extClass t g.extent ≠ 2 → s.tagKey = some key → pageTag key n.val g.addr pg = storedTag t g.extent g.addr →
          exec (.gangerPageDone n page none) s = settled (gangerAdvance (t.inc (Reg.GNG_PAGES n.val)) n.val g.addr)) ∧
        (∀ key fault v, extClass t g.extent ≠ 2 → s.tagKey = some key →
          (fault.isSome = true ∨ pageTag key n.val g.addr pg ≠ storedTag t g.extent g.addr) →
          v = (gangerCompare t n.val (decide (pageTag key n.val g.addr pg = storedTag t g.extent g.addr)) fault).1 →
          let u := v.inc (Reg.GNG_TAG_FAIL n.val)
          exec (.gangerPageDone n page fault) s = settled (gangerAdvance
            (respondMismatch (secLog u Ev.GANGER_TAG_MISMATCH n.val
              (leBytes 4 g.addr ++ leBytes 1 g.extent ++ leBytes 1 (extComp v g.extent) ++ leBytes 1 (extResponse v g.extent)))
              n.val g.extent g.addr 1) n.val g.addr))))

/-- PROFILE_WRITE, POLICY_WRITE, PROF_CHECK and DEV_GO (R102, R103, R105, R106, R137). -/
def Obligations.PortConfiguration : Prop :=
  ∀ (s : State) (p : Party) (n : Fin 34),
    let routed := decide (n.val < 32) && (s.fld (Reg.SEC_CTL n.val) 1 0 == 2)
    let stored (a : Nat) (m v : Word) (be : BitVec 4) : State :=
      s.wr a ((s.rd a &&& ~~~m) ||| (mergeBe (s.rd a) v be &&& m))
    (∀ (k : Fin 128) v be, privileged s p = true → Writer s p (Reg.SEC_PROFILE n.val k.val) →
      (routed = false → ∃ t, Eventful (stored (Reg.SEC_PROFILE n.val k.val) 0xFFFFFFFF v be) t ∧
        exec (.profileWrite p n (some k) v be) s = settled (t.setBit (Reg.SEC_PORT_STAT n.val) 4 false)) ∧
      (routed = true → ∃ t, Eventful s t ∧
        exec (.profileWrite p n (some k) v be) s = settled (t.setBit (Reg.SEC_PORT_STAT n.val) 10 true))) ∧
    (∀ v be, privileged s p = true → Writer s p (Reg.SEC_CFG n.val) →
      (32 ≤ n.val → exec (.profileWrite p n none v be) s = settled s) ∧
      (n.val < 32 → routed = false → ∃ t, Eventful (stored (Reg.SEC_CFG n.val) 1 v be) t ∧
        exec (.profileWrite p n none v be) s = settled t) ∧
      (routed = true → ∃ t, Eventful s t ∧
        exec (.profileWrite p n none v be) s = settled (t.setBit (Reg.SEC_PORT_STAT n.val) 10 true))) ∧
    (∀ (k : Fin 8) v be, privileged s p = true → Writer s p (policyReg n.val k) →
      let m : Word := if k = 0 then 0x00FF03FF else if k = 3 then 0x0000FFFF else 0xFFFFFFFF
      (32 ≤ n.val → exec (.policyWrite p n k v be) s = settled s) ∧
      (n.val < 32 → routed = false → ∃ t, Eventful (stored (policyReg n.val k) m v be) t ∧
        exec (.policyWrite p n k v be) s = settled t) ∧
      (routed = true → ∃ t, Eventful s t ∧
        exec (.policyWrite p n k v be) s = settled (t.setBit (Reg.SEC_PORT_STAT n.val) 10 true))) ∧
    (Writer s p (Reg.SEC_PROF_CHECK n.val) →
      (profFault s n.val = none → exec (.profCheck p n) s = settled (identReset ((((s.wr (Reg.SEC_PROF_FAULT n.val) 0xFF00).setBit
        (Reg.SEC_PORT_STAT n.val) 4 true).setF (Reg.SEC_PORT_STAT n.val) 1 0 (powerOnIface s n.val)).setF
        (Reg.SEC_PORT_STAT n.val) 3 2 (powerOnIface s n.val)) n.val)) ∧
      (∀ c e, profFault s n.val = some (c, e) → exec (.profCheck p n) s = settled (secLog
        ((s.wr (Reg.SEC_PROF_FAULT n.val) (BitVec.ofNat 32 (c + 256 * e))).setBit (Reg.SEC_PORT_STAT n.val) 4 false)
        Ev.PROFILE_BAD n.val (leBytes 1 c ++ leBytes 1 e)))) ∧
    (Writer s p (Reg.SEC_DEV_GO n.val) → s.bit (Reg.SEC_DEV_STAT n.val) 0 = true → (s.line n.val).dev.isSome = true →
      exec (.devGo p n) s = settled s) ∧
    (Writer s p (Reg.SEC_DEV_GO n.val) → s.bit (Reg.SEC_DEV_STAT n.val) 0 = false →
      (devRefused s n.val (devOpOf s n.val) = false → exec (.devGo p n) s = settled
        ((s.setLine n.val { s.line n.val with dev := some (devOpOf s n.val) }).setBit (Reg.SEC_DEV_STAT n.val) 0 true)) ∧
      (devRefused s n.val (devOpOf s n.val) = true →
        exec (.devGo p n) s = settled (sealEnds (endDev s n.val 2) n.val)))

/-- PGM_LOAD, PROG_LOADED, EXTENT_STATE_WRITE, HOLD_PEND_WRITE, HOLD_CFG_WRITE and HOLD_LOCK_WRITE (R132-R134, R146, R151, R160). -/
def Obligations.ProgramLoadsAndExtents : Prop :=
  (∀ (s : State) (p : Party) (n : Fin 32),
    let st := Reg.SEC_PGM_STAT n.val
    let a := activeBank s n.val
    (Writer s p (Reg.SEC_PGM_LOAD n.val) →
      (s.bit st 0 = true → exec (.pgmLoad p n) s = settled s) ∧
      (s.bit st 0 = false → ∃ u, exec (.pgmLoad p n) s = settled u ∧ u.bit st 0 = true ∧ u.bit st 3 = false ∧
        (u.line n.val).load = some ⟨(s.rd (Reg.SEC_PGM_SRC n.val)).toNat, s.fld (Reg.SEC_PGM_LEN n.val) 15 0,
          (s.rd (Reg.SEC_PGM_MAP_SRC n.val)).toNat, s.fld (Reg.SEC_PGM_MAP_CNT n.val) 6 0, p.origin⟩ ∧
        bankOf u n.val a = bankOf s n.val a ∧ (bankOf u n.val (1 - a)).ok = false ∧ AllBut [.regs, .lines] s u)) ∧
    (∀ r, s.pwr.down = false → (s.line n.val).route = some r → r.bank = 1 - a → exec (.progLoaded n) s = .next s) ∧
    (∀ l, s.pwr.down = false → (s.line n.val).load = some l → (∀ r, (s.line n.val).route = some r → r.bank ≠ 1 - a) →
      (∀ c i, loadFault s l = some (c, i) → ∃ u, exec (.progLoaded n) s = .next u ∧ (u.line n.val).load = none ∧
        u.bit st 0 = false ∧ u.bit st 1 = true ∧ u.bit st 2 = true ∧ bankOf u n.val (1 - a) = {} ∧ bankOf u n.val a = bankOf s n.val a) ∧
      (loadFault s l = none → ∃ u, exec (.progLoaded n) s = .next u ∧ (u.line n.val).load = none ∧
        u.bit st 0 = false ∧ u.bit st 1 = true ∧ u.bit st 3 = true ∧ bankOf u n.val a = bankOf s n.val a ∧
        bankOf u n.val (1 - a) = ⟨true, s.rdMemN l.src l.len,
          (List.range l.mapCnt).map (regionOf (s.rdMemN l.mapSrc (16 * l.mapCnt))),
          (sha384 (s.rdMemN l.src l.len ++ s.rdMemN l.mapSrc (16 * l.mapCnt))), []⟩))) ∧
  (∀ (s : State) (p : Party) (x : Fin 256) (v : Word), Writer s p (Reg.DEP_EXT_CTL x.val) →
    let ends (u : State) : Prop := ∃ t, Eventful u t ∧ exec (.extentStateWrite p x v 0xF) s = settled t
    (extState s x.val ≠ 0 → getBits v 10 8 = 0 →
      ends (if extInUse s x.val then extRefused s x.val 5 else setExtState s x.val 0)) ∧
    (extState s x.val ≠ 0 → getBits v 10 8 = 1 →
      ends (if extInUse s x.val then extRefused s x.val 5
        else if extClass s x.val = 1 ∧ s.tagKey = none then extRefused s x.val 7 else setExtState s x.val 1)) ∧
    (extState s x.val ≠ 0 → 2 ≤ getBits v 10 8 → ends s) ∧
    (extState s x.val = 0 → ends (extStateWrite
      (s.wr (Reg.DEP_EXT_CTL x.val) ((s.rd (Reg.DEP_EXT_CTL x.val) &&& ~~~0x3F07FF) ||| (v &&& 0x3F00FF))) x.val (getBits v 10 8)))) ∧
  (∀ (s : State) (p : Party) (high : Bool) (m : Word),
    let a := if high then Reg.DEP_HOLD_PEND_HI else Reg.DEP_HOLD_PEND_LO
    Writer s p a → ∃ t, exec (.holdPendWrite p high m) s = settled t ∧ Eventful (s.wr a (s.rd a &&& ~~~m)) t) ∧
  (∀ (s : State) (p : Party) (l : Option (Fin 96)) (v : Word),
    let a := match l with
      | some l => Reg.HLD_LCFG l.val
      | none => Reg.HLD_FILTER
    let m : Word := if l = none then 0xFF else 0x307
    let open_ := !s.bit Reg.HLD_LOCK 0 && l.all (fun l => holdState s l.val)
    Writer s p a → ∃ t, exec (.holdCfgWrite p l v 0xF) s = settled t ∧
      Eventful (if open_ then s.wr a ((s.rd a &&& ~~~m) ||| (v &&& m)) else s) t) ∧
  (∀ (s : State) (p : Party), Writer s p Reg.HLD_LOCK → s.bit Reg.HLD_LOCK 0 = false →
    ∃ t, exec (.holdLockWrite p) s = settled t ∧ Eventful ((s.setBit Reg.HLD_LOCK 0 true).setBit Reg.HLD_STAT 1 true) t)

/-- EXM_SUBMIT, EXM_ABORT_HOLDER, EXM_ABORT_MINE, EXM_END, EXM_JOB_DONE, SIG_ABORT, ILK_ARM_WRITE, MREG_EXTEND_GO
(R73, R216-R222, R232, R306). -/
def Obligations.UnitRegisters : Prop :=
  ∀ (s : State) (c : Fin 2),
    let p : Party := .core c
    (∀ (l : Fin 34) desc, Writer s p (Reg.EXM_LANE_SUBMIT l.val) →
      let a := (desc &&& fieldMask 31 6).toNat
      let j := exmJobOf s c a
      let x := s.lane l.val
      let patient := !bitOf (leAt (s.rdMemN a 64) 1 1) 2
      (exmDescOk s c a = true → x.holder = none →
        exec (.exmSubmit p l desc) s = settled (syncLane (exmStatus (s.setLane l.val { x with holder := some j }) j 0x02) l.val)) ∧
      (exmDescOk s c a = true → x.holder.isSome = true → patient = true ∧ x.queue.length < 4 →
        exec (.exmSubmit p l desc) s =
          settled (syncLane (exmStatus (s.setLane l.val { x with queue := x.queue ++ [j] }) j 0x01) l.val)) ∧
      (exmDescOk s c a = true → x.holder.isSome = true → ¬ (patient = true ∧ x.queue.length < 4) →
        exec (.exmSubmit p l desc) s =
          settled (exmLast ((exmStatus s j 0x10).inc (Reg.EXM_LANE_BUSY_COUNT l.val)) l.val 0x10 false false)) ∧
      (exmDescOk s c a = false → ∃ k : ExmJob, k.core = c ∧ k.desc = a ∧
        exec (.exmSubmit p l desc) s = settled ((exmLast (exmStatus s k 0x11) l.val 0x11 false false).raise 2))) ∧
    (∀ (l : Fin 34) j, (s.lane l.val).holder = some j →
      (Writer s p (Reg.EXM_LANE_ABORT l.val) →
        exec (.exmAbortHolder p l) s = settled (exmEnd s l.val j 0x13 false false none)) ∧
      (Writer s p (Reg.EXM_LANE_END l.val) →
        exec (.exmEnd p l) s = settled (if j.flash = true ∧ j.fed.length < j.len then
          exmEnd (s.log Ev.LENGTH_MISMATCH .examiner l.val
            (leBytes 8 j.len ++ leBytes 8 j.fed.length ++ leBytes 8 j.tag)) l.val j 0x12 false true none
          else s)) ∧
      (∀ fault, s.pwr.down = false → domState s 1 = 0 → j.flash = false → sfdpBytes s l.val = none →
        exec (.exmJobDone l true fault) s = settled (exmEnd s l.val j 0x13 false false none)) ∧
      (∀ err fault, s.pwr.down = false → domState s 1 = 0 → j.flash = true → j.fed.length < j.len →
        exec (.exmJobDone l err fault) s = settled s)) ∧
    (∀ l : Fin 34, Writer s p (Reg.EXM_LANE_ABORT l.val) →
      exec (.exmAbortMine p l) s = settled (exmAbortQueued s l.val (fun j => j.core == c))) ∧
    (∀ (l : Fin 34) j err, (s.lane l.val).holder = some j → s.pwr.down = false → domState s 1 = 0 →
        (j.flash = true → j.len ≤ j.fed.length) → (err = true → j.flash = true) →
      let k : ExmJob := { j with fed := if j.flash then j.fed else s.rdBytesN j.src j.len }
      let t := syncLane (s.setLane l.val { s.lane l.val with holder := some k }) l.val
      let same := decide (t.rdMemN j.expected (digestLen j.alg) = digestOf j.alg [] k.fed)
      let after (u : State) (faulted : Bool) : Out :=
        settled (exmFollow u l.val faulted (comparesFlash s l.val) (sfdpBytes s l.val))
      (∀ fault, j.compare = false → exec (.exmJobDone l err fault) s =
        after (exmEnd t l.val k 0x03 false false (some (digestOf j.alg [] k.fed))) false) ∧
      (j.compare = true → exec (.exmJobDone l err none) s =
        after (exmEnd t l.val k 0x03 same (!same) (some (digestOf j.alg [] k.fed))) false) ∧
      (∀ b, j.compare = true → exec (.exmJobDone l err (some b)) s =
        after (exmEnd ((t.inc Reg.EXM_FLAG_FAULT_COUNT).log Ev.FLAG_PAIR_FAULT .examiner l.val
          (leBytes 1 l.val ++ leBytes 1 0 ++ leBytes 1 (if b then 3 else 0))) l.val k 0x14 b b none) true)) ∧
    (Writer s p Reg.SIG_ABORT → exec (.sigAbort p) s = settled (sigAbortMine s c)) ∧
    (∀ (m : Word) (hs : List Nat), Writer s p Reg.ILK_ARM →
      hs = (List.range 4).filter (fun h => m.getLsbD h && ownsHandle c h && (s.handle h).state == .armed) →
      exec (.ilkArmWrite p m) s = settled (hs.foldl (fun u h => dropWith u h 1 false) s)) ∧
    (∀ v, Writer s p Reg.ATT_MREG_EXT_CTL →
      ∃ t, Eventful (s.wr Reg.ATT_MREG_EXT_CTL ((s.rd Reg.ATT_MREG_EXT_CTL &&& ~~~0x0001FFFF) ||| (v &&& 0x0001FFFF))) t ∧
        exec (.mregExtendGo p v) s = settled (mregGo t c))

/-- ECDSA_VERIFY to ERASE (R233-R238). -/
def Obligations.SignatureOperations : Prop :=
  ∀ (s : State) (n : Nat) (j : SigJob) (js : List SigJob),
    s.pwr.down = false → domState s 1 = 0 → sigPipe s n = j :: js → j.done = none →
    let x := j.buf
    let i1 := sigIn1 s x
    let i2 := sigIn2 s x
    let i3 := sigIn3 s x
    let key := (s.sigKey j.key).bytes
    let has (ty : Nat) : Prop := j.key < 16 ∧ (s.sigKey j.key).ty = ty
    let ends := jobCarried s n j js
    let drawn : State := { s with freeCtr := s.freeCtr + 1 }
    let verdict (b : Bool) : Out := ends (if b then 4 else 5) []
    let noRandom : Out := jobCarried (rbgStops s (.lc j.core)) n j js 0x16 []
    (∀ v : Fin 2, n = v.val →
      (j.op = 1 → exec (.ecdsaVerify v) s =
        if x.len1 = 48 ∧ x.len2 = 96 ∧ x.len3 = 97 then verdict (verifySig 1 i3 i1 i2) else ends 0x12 []) ∧
      (j.op = 3 → exec (.mldsaVerify v) s =
        if x.len1 ≤ 65536 ∧ x.len2 = 4627 ∧ x.len3 = 2592 then verdict (verifySig 2 i3 i1 i2) else ends 0x12 []) ∧
      (j.op = 5 → exec (.lmsVerify v) s =
        if x.len1 ≤ 65536 ∧ (x.len3 = 48 ∨ x.len3 = 56) then verdict (verifySig 3 i3 i1 i2) else ends 0x12 [])) ∧
    (n = 2 →
      (j.op = 2 →
        (x.len1 ≠ 48 → exec .ecdsaSign s = ends 0x12 []) ∧
        (x.len1 = 48 → ¬ has 1 → exec .ecdsaSign s = ends 0x14 []) ∧
        (x.len1 = 48 → has 1 → rbgOk s = false → exec .ecdsaSign s = noRandom) ∧
        (x.len1 = 48 → has 1 → rbgOk s = true → exec .ecdsaSign s =
          jobCarried (ecdsaDraw s key i1 8).2 n j js 3 (ecdsaDraw s key i1 8).1)) ∧
      (j.op = 4 →
        let hedged := bitOf j.flags 0
        let signed (t : State) (rnd : List Byte) : Out := match mlSign key i1 rnd with
          | some g => jobCarried t n j js 3 (takePad 4627 g)
          | none => jobCarried ((t.inc Reg.SIG_EXHAUSTED).log Ev.SIGN_EXHAUSTED (.lc j.core) 0 (leBytes 1 j.key ++ leBytes 4 j.tag))
            n j js 0x15 []
        (65536 < x.len1 → exec (.mldsaSign 0) s = ends 0x12 []) ∧
        (x.len1 ≤ 65536 → ¬ has 2 → exec (.mldsaSign 0) s = ends 0x14 []) ∧
        (x.len1 ≤ 65536 → has 2 → hedged = true → rbgOk s = false → exec (.mldsaSign 0) s = noRandom) ∧
        (x.len1 ≤ 65536 → has 2 → hedged = true → rbgOk s = true →
          exec (.mldsaSign 0) s = signed drawn (takePad 32 (Config.random s.freeCtr 32))) ∧
        (x.len1 ≤ 65536 → has 2 → hedged = false → exec (.mldsaSign 0) s = signed s (List.replicate 32 0))) ∧
      (j.op = 6 →
        (16 ≤ j.out → exec .ecEphemeral s = ends 0x14 []) ∧
        (j.out < 16 → rbgOk s = false → exec .ecEphemeral s = noRandom) ∧
        (j.out < 16 → rbgOk s = true →
          let d := takePad 48 (Config.random s.freeCtr 48)
          exec .ecEphemeral s = jobCarried (drawn.setSigKey j.out ⟨3, true, false, d⟩) n j js 3
            (takePad 97 (ecPublic d)))) ∧
      (j.op = 7 →
        (x.len3 ≠ 97 → exec .ecdh s = ends 0x12 []) ∧
        (x.len3 = 97 → (¬ has 3 ∨ 16 ≤ j.out) → exec .ecdh s = ends 0x14 []) ∧
        (x.len3 = 97 → has 3 → j.out < 16 → ecDecode i3 = none → exec .ecdh s = ends 5 []) ∧
        (∀ q, x.len3 = 97 → has 3 → j.out < 16 → ecDecode i3 = some q → exec .ecdh s =
          jobCarried (s.setSigKey j.out ⟨4, true, false, takePad 48 (ecShared key (some q))⟩) n j js 3 [])) ∧
      (j.op = 8 →
        ((256 < x.len1 ∨ 64 < x.len2) → exec .derive s = ends 0x12 []) ∧
        (x.len1 ≤ 256 → x.len2 ≤ 64 → ¬ has 4 → exec .derive s = ends 0x14 []) ∧
        (x.len1 ≤ 256 → x.len2 ≤ 64 → has 4 → j.out = 0xFF → bitOf j.flags 1 = false →
          exec .derive s = ends 3 (digestOf 0x12 key i1)) ∧
        (x.len1 ≤ 256 → x.len2 ≤ 64 → has 4 → 16 ≤ j.out → ¬ (j.out = 0xFF ∧ bitOf j.flags 1 = false) →
          exec .derive s = ends 0x14 []) ∧
        (x.len1 ≤ 256 → x.len2 ≤ 64 → has 4 → j.out < 16 →
          let salt := if bitOf j.flags 1 then some i2 else none
          let five := s.free.1.getLsbD 0
          exec .derive s = jobCarried (s.free.2.setSigKey j.out
            ⟨if five then 5 else 4, (s.sigKey j.key).session, false, hkdf key salt i1 (if five then 32 else 48)⟩) n j js 3 [])) ∧
      (j.op = 9 →
        ((x.len3 ≠ 12 ∨ 4096 < x.len2 ∨ 65536 < x.len1) → exec .aeadSeal s = ends 0x12 []) ∧
        (x.len3 = 12 → x.len2 ≤ 4096 → x.len1 ≤ 65536 → exec .aeadSeal s =
          if j.key < 16 ∧ (s.sigKey j.key).ty = 5 then ends 3 (takePad (x.len1 + 16) (aeadSeal key i3 i2 i1)) else ends 0x14 [])) ∧
      (j.op = 0x0A →
        ((x.len3 ≠ 12 ∨ 4096 < x.len2 ∨ 65552 < x.len1 ∨ x.len1 < 16) → exec .aeadOpen s = ends 0x12 []) ∧
        (x.len3 = 12 → x.len2 ≤ 4096 → 16 ≤ x.len1 → x.len1 ≤ 65552 →
          (¬ has 5 → exec .aeadOpen s = ends 0x14 []) ∧
          (has 5 → aeadOpen key i3 i2 i1 = none → exec .aeadOpen s = ends 5 []) ∧
          (∀ plain, has 5 → aeadOpen key i3 i2 i1 = some plain →
            exec .aeadOpen s = ends 3 (takePad (x.len1 - 16) plain)))) ∧
      (j.op = 0x0B →
        ((x.len1 ≠ 1 ∨ (leNat i1 ≠ 1 ∧ leNat i1 ≠ 2)) → exec .keygen s = ends 0x12 []) ∧
        (∀ ty, (ty = 1 ∨ ty = 2) → x.len1 = 1 → leNat i1 = ty →
          ((¬ has 4 ∨ 16 ≤ j.out) → exec .keygen s = ends 0x14 []) ∧
          (has 4 → j.out < 16 → exec .keygen s =
            jobCarried (s.setSigKey j.out ⟨ty, false, false, (keyPair ty key).1⟩) n j js 3 (keyPair ty key).2))) ∧
      (j.op = 0x0C →
        ((x.len1 = 0 ∨ 4096 < x.len1) → exec .random s = ends 0x12 []) ∧
        (0 < x.len1 → x.len1 ≤ 4096 → exec .random s = if rbgOk s = true
          then jobCarried drawn n j js 3 (takePad x.len1 (Config.random s.freeCtr x.len1)) else noRandom)) ∧
      (j.op = 0x0D →
        ((16 ≤ j.key ∨ (s.sigKey j.key).ty = 0) → exec .erase s = ends 0x14 []) ∧
        (j.key < 16 → (s.sigKey j.key).ty ≠ 0 → exec .erase s = jobCarried (s.setSigKey j.key {}) n j js 3 [])))

/-- SIG_JOB_DONE, RBG_FAULT, RBG_OK and MREG_EXTENDED (R232, R233, R238, R306, R384). -/
def Obligations.JobEndsAndExtensions : Prop :=
  ∀ s : State, s.pwr.down = false →
    (∀ (n : Fin 3) j js d, domState s 1 = 0 → sigPipe s n.val = j :: js → j.done = some d →
      let t := setSigPipe ((sigStatus (s.wrMemN (j.desc + 44) (leBytes 4 d.2.length)) j.core j.desc d.1).raise 3) n.val js
      (js = [] → exec (.sigJobDone n) s = settled t) ∧
      (∀ k ks, js = k :: ks → exec (.sigJobDone n) s = settled (sigStatus t k.core k.desc 0x02))) ∧
    (∀ test, exec (.rbgFault test) s =
      settled (({ s with sig := { s.sig with rbgTest := test.toNat } } : State).setBit Reg.SIG_STAT 11 false)) ∧
    (let t := ({ s with sig := { s.sig with rbgLogged := false } } : State).setBit Reg.SIG_STAT 11 true
     ((platformOn s = false ∨ s.tagKey.isSome = true) → exec .rbgOk s = settled t) ∧
     (platformOn s = true → s.tagKey = none → exec .rbgOk s = settled
       { t with tagKey := some (takePad 32 (Config.random s.freeCtr 32)), freeCtr := s.freeCtr + 1 })) ∧
    (∀ r v, s.att.ext = some (r, v) →
      let t := ({ s with att := { s.att with ext := none } } : State).wrBytes (Reg.ATT_MREG r 0) 12
        ((sha384 (mreg s r ++ v)))
      exec .mregExtended s = settled (attLog ((t.setBit Reg.ATT_MREG_EXT_STAT 0 false).setBit Reg.ATT_MREG_EXT_STAT 1 true)
        Ev.MREG_EXTENDED 0 (leBytes 1 r ++ takePad 16 v)))

/-- NVC_PROGRAM, NVC_ERASE, NVC_DONE, SBX_SNAP, REGISTER_WRITE and LOW_WORD_READ (R7, R9, R407, R411-R416). -/
def Obligations.NvcSnapshotsAndWords : Prop :=
  ∀ (s : State) (p : Party),
    (privileged s p = true → Writer s p Reg.NVC_CTL → s.nvc = none →
      ∀ op, (op = 1 ∨ op = 2) →
      let i : Instr := if op = 1 then .nvcProgram p else .nvcErase p
      let o := s.fld Reg.NVC_ADDR 23 0
      let n := if op = 1 then s.fld Reg.NVC_LEN 11 0 else 8
      let good := o % 8 = 0 ∧ n % 8 = 0 ∧ 8 ≤ n ∧ n ≤ 2048 ∧ o % 2048 + n ≤ 2048
      ∃ t, Eventful ((s.wr Reg.NVC_CTL (setBits (s.rd Reg.NVC_CTL) 1 0 op))) t ∧
        let u := t.setF Reg.NVC_STAT 5 3 0
        ((nvcRegion o = false ∨ nvcLocked s o = true) → exec i s = settled (nvcEnd u 1)) ∧
        (nvcRegion o = true → nvcLocked s o = false → ¬ good → exec i s = settled (nvcEnd u 2)) ∧
        (nvcRegion o = true → nvcLocked s o = false → good → powerFailing s = true → exec i s = settled (nvcEnd u 4)) ∧
        (nvcRegion o = true → nvcLocked s o = false → good → powerFailing s = false → exec i s = settled
          (({ u with nvc := some ⟨op, 0x10000000 + o, if op = 1 then u.rdBytesN (s.fld Reg.NVC_SRC 31 3 * 8) n else []⟩ } : State).setBit
            Reg.NVC_STAT 0 true))) ∧
    (∀ n bad, s.pwr.down = false → s.nvc = some n →
      (n.op = 2 → exec (.nvcDone bad) s =
        settled (nvcEnd (s.wrMemN (n.addr / 2048 * 2048) (List.replicate 2048 0xFF)) (if bad then 3 else 0))) ∧
      (n.op ≠ 2 →
        let new := List.zipWith (· &&& ·) n.data (s.rdMemN n.addr n.data.length)
        exec (.nvcDone bad) s = settled (nvcEnd (s.wrMemN n.addr new) (if bad = true ∨ new ≠ n.data then 3 else 0)))) ∧
    (privileged s p = true → Writer s p Reg.SBX_SNAP → exec (.sbxSnap p) s = settled (snapLatch s)) ∧
    (privileged s p = true → Writer s p Reg.NVC_ADDR → ∀ v be,
      ∃ t, Eventful (s.wr Reg.NVC_ADDR ((s.rd Reg.NVC_ADDR &&& ~~~0x00FFFFFF) ||| (mergeBe (s.rd Reg.NVC_ADDR) v be &&& 0x00FFFFFF))) t ∧
        exec (.registerWrite p (BitVec.ofNat 32 Reg.NVC_ADDR) v be none) s = settled t) ∧
    (∀ (a : Word) (c : Fin 2), s.pwr.down = false → isPairLow a.toNat = true → partyMay s (.core c) .load a.toNat = true →
      exec (.lowWordRead (.core c) a) s = .next { s with
        held := s.held.filter (fun h => h.who != .core c) ++ [⟨.core c, a.toNat, viewWord s (.core c) (a.toNat + 4)⟩] })

/-- COMMIT_SERVED, JOURNAL_RECORD_COMPLETE, JOURNAL_APPLIED and JOURNAL_SECTOR_ERASE (R68, R69, R75-R80). -/
def Obligations.JournalService : Prop :=
  ∀ s : State, s.pwr.down = false →
    (∀ h hs, lineLocked s = true → s.ilk.busy = none → s.ilk.queue = h :: hs →
      let x := s.handle h
      let us := h :: x.partner.toList
      let t : State := { s with ilk := { s.ilk with queue := hs } }
      let conflict := us.any (fun k => (s.handle k).conflict)
      let j := s.ilk.journal
      (conflict = true → exec .commitServed s = settled (abortTx t us x.recs 0x20 0x1FF .interlocking)) ∧
      (∀ st i, conflict = false → commitFault s 0 x.recs = some (st, i) →
        exec .commitServed s = settled (abortTx t us x.recs st i .interlocking)) ∧
      (conflict = false → commitFault s 0 x.recs = none →
        (journaledRecs x.recs = true → powerFailing s = true →
          exec .commitServed s = settled (abortTx t us x.recs 0x25 0x1FF .interlocking)) ∧
        (journaledRecs x.recs = false → exec .commitServed s = settled (commitTx t us x.recs 0)) ∧
        (journaledRecs x.recs = true → powerFailing s = false →
            ((∃ e ∈ j.entries, e.complete = true ∧ e.applied = false) ∨ j.space < entryBlocks x.recs) →
          exec .commitServed s = settled s) ∧
        (journaledRecs x.recs = true → powerFailing s = false → (∀ e ∈ j.entries, e.complete = true → e.applied = true) →
            entryBlocks x.recs ≤ j.space →
          ∃ e k, exec .commitServed s = settled { s with ilk := { s.ilk with journal := k, busy := some h } } ∧
            k.entries = j.entries ++ [e] ∧ k.next = j.next + 1 ∧ k.head = (j.head + entryBlocks x.recs) % 256 ∧
            e.jseq = j.next ∧ e.start = j.head ∧ e.blocks = entryBlocks x.recs ∧ e.complete = false ∧ e.applied = false ∧
            ∀ n, n ∈ k.dirty ↔ n ∈ j.dirty ∨ ∃ i < entryBlocks x.recs, n = (j.head + i) % 256 / 8))) ∧
    (∀ h, s.ilk.busy = some h →
      let x := s.handle h
      let us := h :: x.partner.toList
      let j := s.ilk.journal
      let seq := j.next - 1
      let t : State := { s with ilk := { s.ilk with queue := s.ilk.queue.drop 1, busy := none } }
      exec (.journalRecordComplete false) s = settled (abortTx
        (t.log Ev.JOURNAL_FAULT .interlocking (subjectDetail x.recs) (leBytes 4 seq)) us x.recs 0x24 0x1FF .interlocking) ∧
      ∃ k, exec (.journalRecordComplete true) s = settled (commitTx { t with ilk := { t.ilk with journal := k } } us x.recs seq) ∧
        k.next = j.next ∧ k.head = j.head ∧ k.dirty = j.dirty ∧
        k.entries = j.entries.map (fun e => if e.jseq + 1 = j.next then { e with complete := true } else e)) ∧
    (∀ e, s.ilk.journal.entries.find? (fun e => e.complete && !e.applied) = some e →
      ∃ u : State, exec .journalApplied s = settled u ∧ u.home = (e.recs.foldl homeWrite s).home ∧
        u.ilk.journal.entries = s.ilk.journal.entries.map (fun x => if x.jseq = e.jseq then { x with applied := true } else x)) ∧
    (∀ n : Fin 32,
      (sectorFree s n.val = false → exec (.journalSectorErase n) s = .next s) ∧
      (sectorFree s n.val = true → ∃ u : State, exec (.journalSectorErase n) s = .next u ∧ AllBut [.ilk] s u ∧
        u.ilk.journal.dirty = s.ilk.journal.dirty.filter (fun x => x != n.val) ∧
        u.ilk.queue = s.ilk.queue ∧ u.ilk.journal.head = s.ilk.journal.head ∧ u.ilk.journal.next = s.ilk.journal.next))

/-- PVSET, PVCLR, SLEEP_PREPARE_DONE, SLEEP_COMMIT_DONE, SLEEP_RETRY, WAKE, DOMAIN_RUN and RETENTION_CHECK_DONE
(R386-R397). -/
def Obligations.PowerDomains : Prop :=
  ∀ s : State,
    (∀ (c : Fin 2) (ra rb : RegNo) (on : Bool),
      let p : Proc := .core c
      let w : Wop := if on then .pvset ra rb else .pvclr ra rb
      let i : Instr := if on then .pvset p ra rb else .pvclr p ra rb
      let d := (greg s p ra).toNat % 256
      let k := (greg s p rb).toNat % 32
      Ready s p w →
      (1 ≤ d → d ≤ 24 → k < 24 → exec i s = settled (syncDomain ((onward s p).setBit (Reg.PWR_VOTE d) k on) d)) ∧
      (¬ (1 ≤ d ∧ d ≤ 24 ∧ k < 24) →
        exec i s = settled ((onward s p).log Ev.VOTE_BAD (.lc c) d (leBytes 1 d ++ leBytes 1 k)))) ∧
    (s.pwr.down = false → ∀ d : Fin 25, d ≠ 0 →
      let refused (b : Nat) (timeout : Bool) : State :=
        pwrLog (((setDomPhase s d.val 0).inc (Reg.PWR_REFUSE_COUNT d.val)).wr (Reg.PWR_LAST_REFUSER d.val)
          (BitVec.ofNat 32 (b % 256 + (if timeout then 256 else 0)))) Ev.SLEEP_REFUSED d.val
          (leBytes 1 (domTarget s d.val) ++ leBytes 1 b ++ leBytes 1 (if timeout then 1 else 0))
      let settling := 6 ≤ d.val ∧ d.val < 22 ∧ s.bit (Reg.PWR_YARD_OP (d.val - 6)) 4 = false
      (domPhase s d.val = 1 →
        (∀ b slow, refuser s d.val (domTarget s d.val) = some b →
          exec (.sleepPrepareDone d slow) s = settled (refused b false)) ∧
        (∀ b, refuser s d.val (domTarget s d.val) = none → exec (.sleepPrepareDone d (some b)) s = settled (refused b.toNat true)) ∧
        (refuser s d.val (domTarget s d.val) = none → ¬ settling →
          exec (.sleepPrepareDone d none) s = settled (setDomPhase s d.val 2)) ∧
        (refuser s d.val (domTarget s d.val) = none → settling → exec (.sleepPrepareDone d none) s = settled s)) ∧
      (domPhase s d.val = 2 →
        let u := enterSleep s d.val (domTarget s d.val)
        let v : State := { u with pwr := { u.pwr with woken := u.pwr.woken.filter (· != d.val) } }
        (voteWord u d.val = 0 → d.val ∉ u.pwr.woken → exec (.sleepCommitDone d) s = settled (setDomPhase v d.val 0)) ∧
        ((voteWord u d.val ≠ 0 ∨ d.val ∈ u.pwr.woken) → exec (.sleepCommitDone d) s = settled
          (setPendingOn (pwrLog ((startExit v d.val).inc (Reg.PWR_BOUNCE_COUNT d.val)) Ev.SLEEP_BOUNCED d.val
            (leBytes 1 (domTarget s d.val) ++ leBytes 1 (if voteWord u d.val = 0 then 1 else 0))) d.val true))) ∧
      (domPhase s d.val = 3 →
        let u0 := setPendingOn (setDomPhase (setDomState s d.val 0) d.val 0) d.val false
        let u : State := { u0 with pwr := { u0.pwr with woken := u0.pwr.woken.filter (· != d.val) } }
        (d.val = 1 → domState s 1 = 3 → exec (.domainRun d) s = settled ((signalBoxReset u noneBad false).raise 6)) ∧
        (d.val = 1 → domState s 1 ≠ 3 → exec (.domainRun d) s = settled ((resumeCores (u.setBit Reg.PWR_STAT 4 false)).raise 6)) ∧
        (∀ y, d.val = y + 6 → y < 16 → y ∈ u.pwr.runHeld →
          let t : State := { u with pwr := { u.pwr with runHeld := u.pwr.runHeld.filter (· != y) } }
          exec (.domainRun d) s = settled (startEngines (t.setL t.dutyOrigin (Reg.YRD_CTL y) 0 0 1) y true)) ∧
        (d.val ≠ 1 → (∀ y < 16, d.val = y + 6 → y ∉ u.pwr.runHeld) → exec (.domainRun d) s = settled u))) ∧
    (∀ (p : Party) (d : Fin 25),
      (s.pwr.down = false → exec (.sleepRetry p 0) s = .next s) ∧
      (d ≠ 0 → privileged s p = true → Writer s p (Reg.PWR_DOM_CFG d.val) →
        ∃ t, Eventful (s.wr (Reg.PWR_DOM_CFG d.val) (s.rd (Reg.PWR_DOM_CFG d.val))) t ∧
          exec (.sleepRetry p d) s = settled (sleepBegin t d.val))) ∧
    (s.pwr.down = false → ∀ i : Fin 7,
      (wakeEnabled s i.val = false → exec (.wake i) s = settled s) ∧
      (wakeEnabled s i.val = true → domState s 1 ≠ 0 → domPhase s 1 = 0 →
        let t := s.setBit Reg.PWR_WAKE_CAUSE i.val true
        exec (.wake i) s = settled (startExit (pwrLog t Ev.WAKE 0 (leBytes 1 (t.fld Reg.PWR_WAKE_CAUSE 6 0))) 1)) ∧
      (wakeEnabled s i.val = true → domPhase s 1 = 1 →
        let t := s.setBit Reg.PWR_WAKE_CAUSE i.val true
        ∃ u, Eventful t u ∧ exec (.wake i) s = settled (pwrLog ((setDomPhase u 1 0).inc (Reg.PWR_ABORT_COUNT 1)) Ev.SLEEP_ABORTED 1
          (leBytes 1 (domTarget u 1) ++ leBytes 4 (voteWord u 1))))) ∧
    (s.pwr.down = false → ∀ (k : Fin 3) (b : Fin 16),
      let t : State := { s with pwr := { s.pwr with checks := s.pwr.checks.filter (· != (k.val, b.val)) } }
      ((k.val, b.val) ∉ s.pwr.checks → ∀ upset, exec (.retentionCheckDone k b upset) s = settled s) ∧
      ((k.val, b.val) ∈ s.pwr.checks → exec (.retentionCheckDone k b false) s = settled t) ∧
      ((k.val, b.val) ∈ s.pwr.checks → k.val ≠ 1 →
        let u := pwrLog (wipeMem (t.setBit Reg.PWR_RET_LOST (if k.val = 0 then 12 + b.val else 16 + b.val) true)
          (fun a => inRange a (bankBase k.val b.val) 0x100000)) Ev.RET_LOST (bankDomain k.val b.val) (leBytes 1 k.val ++ leBytes 1 b.val)
        exec (.retentionCheckDone k b true) s = settled (if k.val = 0 then signalBoxReset u noneBad false else u)) ∧
      ((k.val, b.val) ∈ s.pwr.checks → k.val = 1 →
        let u := pwrLog (wipeMem (t.setBit Reg.PWR_RET_LOST b.val true) (fun a => inRange a (bankBase 1 b.val) 0x100000))
          Ev.RET_LOST (bankDomain 1 b.val) (leBytes 1 1 ++ leBytes 1 b.val)
        exec (.retentionCheckDone k b true) s = settled (freeExts u .power 0 (fun s x => extUses s x b.val))))

/-- YARD_OP_WRITE, VOLT_GOOD, CLK_CTL_WRITE, PLL_LOCK, PLL_LOCK_LOSS, CRYSTAL_START, CS_TIMECMP_REACHED and
I3C_DYNAMIC_ADDRESS (R41, R56, R393, R398-R400, R427, R436, R437). -/
def Obligations.ClocksAndVoltage : Prop :=
  ∀ s : State, s.pwr.down = false →
    (∀ (p : Party) (y : Fin 16) v (be : BitVec 4),
      let a := Reg.PWR_YARD_OP y.val
      privileged s p = true → Writer s p a →
      let vs := getBits v 1 0
      let dv := getBits v 3 2
      let t := if getBits v 5 5 = 1 then s.setBit a 5 false else s
      let wrong := (vs ≠ s.fld a 1 0 ∧ dv ≠ s.fld a 3 2) ∨ vs < dv ∨ (s.fld a 3 2 < dv ∧ s.bit a 4 = false) ∨ vs = 3
      let same := vs = s.fld a 1 0 ∧ dv = s.fld a 3 2
      (be.getLsbD 0 = false → exec (.yardOpWrite p y v be) s = settled s) ∧
      (be.getLsbD 0 = true → same → exec (.yardOpWrite p y v be) s = settled t) ∧
      (be.getLsbD 0 = true → ¬ same → wrong → exec (.yardOpWrite p y v be) s = settled (pwrLog (t.setBit a 5 true) Ev.DVFS_ORDER (6 + y.val)
        (leBytes 1 y.val ++ leBytes 1 (s.fld a 1 0) ++ leBytes 1 (s.fld a 3 2) ++ leBytes 4 v.toNat))) ∧
      (be.getLsbD 0 = true → ¬ same → ¬ wrong → ∃ u,
        Eventful (if vs ≠ s.fld a 1 0 then ((t.setF a 1 0 vs).setF a 3 2 dv).setBit a 4 false else (t.setF a 1 0 vs).setF a 3 2 dv) u ∧
        exec (.yardOpWrite p y v be) s = settled u)) ∧
    (∀ y : Fin 16, exec (.voltGood y) s = settled (s.setBit (Reg.PWR_YARD_OP y.val) 4 true)) ∧
    (∀ (p : Party) v be, privileged s p = true → Writer s p Reg.PWR_CLK_CTL →
      let w := mergeBe (s.rd Reg.PWR_CLK_CTL) v be
      let early := w.getLsbD 6 = true ∧ s.bit Reg.PWR_CLK_STAT 0 = false
      (early → exec (.clkCtlWrite p v be) s =
        settled (pwrLog s Ev.CLOCK_ORDER 0 (leBytes 4 Reg.PWR_CLK_CTL ++ leBytes 4 w.toNat))) ∧
      (¬ early → ∃ t u,
        t = (if w.getLsbD 5 then s.wr Reg.PWR_CLK_CTL (w &&& 0xFF)
          else ((s.wr Reg.PWR_CLK_CTL (w &&& 0xFF)).setBit Reg.PWR_CLK_STAT 0 false).setBit Reg.PWR_CLK_CTL 6 false) ∧
        Eventful (if w.getLsbD 7 then t else t.setBit Reg.PWR_CLK_STAT 1 false) u ∧
        exec (.clkCtlWrite p v be) s = settled u)) ∧
    (∀ k : Fin 3,
      (pllRuns s k.val = true →
        exec (.pllLock k) s = settled ((s.setBit Reg.PWR_CLK_STAT 3 true).setBit Reg.PWR_CLK_STAT k.val true)) ∧
      (pllRuns s k.val = false → exec (.pllLock k) s = settled s) ∧
      (∀ r, s.bit Reg.PWR_CLK_STAT k.val = false → exec (.pllLockLoss k r) s = settled s) ∧
      (∀ r, s.bit Reg.PWR_CLK_STAT k.val = true →
        let t := (s.setBit Reg.PWR_CLK_STAT k.val false).setBit Reg.PWR_CLK_STAT 3 r
        let u := if k.val = 0 then t.setL .power Reg.PWR_CLK_CTL 6 6 0 else t
        exec (.pllLockLoss k r) s = settled (wake (if powerFailing u then u else detectorEvent u 1 1 (vbatTick u) []) 4))) ∧
    exec .crystalStart s = settled (s.setBit Reg.PWR_CLK_STAT 4 true) ∧
    (∀ c : Fin 2, ∃ u, exec (.csTimecmpReached c) s = settled u ∧ AllBut [.cores] s u ∧ (∀ d, d ≠ c → u.core d = s.core d) ∧
      u.core c = { s.core c with cycle := if (s.core c).timecmp.toNat ≤ (s.core c).cycle.toNat then (s.core c).cycle else (s.core c).timecmp }) ∧
    (∀ (t : Fin 2) (addr : BitVec 7) i2c ibi,
      let on := s.bit (Reg.SBD_TGT_CFG t.val) 8
      let flags := (if i2c then 256 else 0) + (if ibi then 512 else 0)
      (on = false → ∀ a, exec (.i3cDynamicAddress t a i2c ibi) s = settled s) ∧
      (on = true → exec (.i3cDynamicAddress t (some addr) i2c ibi) s =
        settled (s.wr (Reg.SBD_TGT_STAT t.val) (BitVec.ofNat 32 (addr.toNat + 128 + flags)))) ∧
      (on = true → exec (.i3cDynamicAddress t none i2c ibi) s = settled (s.wr (Reg.SBD_TGT_STAT t.val) (BitVec.ofNat 32 flags))))

/-- PFW_N_FALL, PF_FLUSH, PFW_N_RISE, MAIN_RAILS_FAIL, PLATFORM_OFF, PLATFORM_ON, POWER_STATUS
(R25, R142, R355, R383-R385, R401, R402, R445). -/
def Obligations.PlatformPower : Prop :=
  ∀ s : State,
    (s.pwr.down = false →
      let failing := s.bit Reg.PWR_STAT 0
      let lines (s : State) : List ActRec :=
        (List.range 3).map (fun g => ⟨1, g, maskOf 32 (fun k => holdClaimed s (32 * g + k)) * (2 ^ 32 + 1), 0, []⟩)
      let ports := (List.range 34).foldl powerFailPort ((s.setBit Reg.PWR_STAT 0 true).setBit Reg.PWR_STAT 1 true)
      let t := pwrLog ports Ev.PF_WARN 0 (lineMask (holdClaimed ports))
      let t : State := { t with evr := { t.evr with writing := true, suspended := true } }
      let u := enterService (t.setHandle 5 { recs := safeRecords t, lastStatus := (t.handle 5).lastStatus }) 5
      (failing = true → exec .pfwNFall s = settled s) ∧
      (failing = false → (t.handle 5).state = .service → exec .pfwNFall s = settled t) ∧
      (failing = false → (t.handle 5).state ≠ .service →
        ¬ (u.ilk.busy = none ∧ u.ilk.queue = [5] ∧ lineLocked u = true) → exec .pfwNFall s = settled u) ∧
      (failing = false → (t.handle 5).state ≠ .service →
        u.ilk.busy = none → u.ilk.queue = [5] → lineLocked u = true → exec .pfwNFall s = settled (serveFront u)) ∧
      (safeRecords t).take 3 = lines t ∧
      (∀ (w : State) (n : Nat) (d : DevOp), (w.line n).queue = [] → (w.line n).dev = some d →
        powerFailPort w n = if d.dest = 2 then w else endDev w n 4) ∧
      (∀ (w : State) (n : Nat) (e : Entry) (es : List Entry), (w.line n).dev = none → (w.line n).queue = e :: es →
        powerFailPort w n = if e.progress = .polling ∨ e.progress = .refreshing ∨ e.half = true ∧ e.progress = .passed
          then discardEntry w n e 0xF8 4 else w) ∧
      (∀ us : Word, failing = true → s.evr.pfDone = false → ∃ v : State, exec (.pfFlush us) s = settled v ∧
        v.pwr.standby = true ∧ v.pwr.goingOff = false ∧ v.bit Reg.PWR_STAT 2 = true ∧ platformOn v = false ∧ v.evr.pfDone = true ∧
        v.tagKey = none) ∧
      (∀ us : Word, failing = true → s.evr.pfDone = true → exec (.pfFlush us) s = settled s) ∧
      (∀ us : Word, failing = false → exec (.pfFlush us) s = settled s ∧ exec (.pfwNRise us) s = settled s ∧
        exec (.mainRailsFail us) s = settled s) ∧
      (∀ us : Word, failing = true → s.pwr.railsGone = true → exec (.mainRailsFail us) s = settled s) ∧
      (∀ us : Word, failing = true → s.pwr.railsGone = false → ∃ v : State, exec (.mainRailsFail us) s = settled v ∧
        v.pwr.railsGone = true ∧ v.pwr.seals = [] ∧ v.tagKey = none ∧ v.stage2Ready = false ∧
        ∀ d, 1 ≤ d → d ≤ 24 → domState v d = 3 ∧ domPhase v d = 0) ∧
      (∀ us : Word, failing = true → s.pwr.railsGone = false →
        let f := powerFailed s us.toNat
        let v := evrResume (f.setBit Reg.PWR_STAT 0 false)
        exec (.pfwNRise us) s = settled (if f.bit Reg.PWR_STAT 2
          then platformStart (pfwWake { v with pwr := { v.pwr with railsGone := false } } true)
          else pfwWake { v with pwr := { v.pwr with railsGone := false } } false)) ∧
      (∀ us : Word, failing = true → s.pwr.railsGone = true →
        let v := evrResume (s.setBit Reg.PWR_STAT 0 false)
        let v := setDomState (v.setBit (Reg.PWR_VOTE 24) 0 true) 24 0
        exec (.pfwNRise us) s = settled (platformStart (pfwWake { v with pwr := { v.pwr with railsGone := false } } true)))) ∧
    (∀ (q : Sender) (tag : Byte), s.pwr.down = false → reqReaches s q = false → noAnswer s q = false → senderStands s q = true →
      ∀ p ∈ [(Request.platformOff q tag, 0xB0), (Request.platformOn q tag, 0xB1), (Request.powerStatus q tag, 0xB2)],
        (match p.1 with
          | .platformOff _ _ => exec (.platformOff q tag) s
          | .platformOn _ _ => exec (.platformOn q tag) s
          | _ => exec (.powerStatus q tag) s) =
        settled { s with mbx := { s.mbx with delayed := s.mbx.delayed ++ [⟨q, p.1, p.2, s.ot⟩] } }) ∧
    (∀ (q : Sender) (tag : Byte), Heard s q →
      let mine := q = .agent 0 ∨ q = .inst 0
      let offAt := taken s q 0xB0
      let onAt := taken s q 0xB1
      let stAt := taken s q 0xB2
      let off := reqWord 0xB0 0 0 tag.toNat
      let on := reqWord 0xB1 0 0 tag.toNat
      let st := reqWord 0xB2 0 0 tag.toNat
      (¬ mine → exec (.platformOff q tag) s = answered offAt q off 1 [] ∧ exec (.platformOn q tag) s = answered onAt q on 1 []) ∧
      (¬ mine → q ≠ .agent 1 → q ≠ .agent 2 → exec (.powerStatus q tag) s = answered stAt q st 1 []) ∧
      ((mine ∨ q = .agent 1 ∨ q = .agent 2) → exec (.powerStatus q tag) s = answered stAt q st 0
        (([Reg.PWR_MODE, Reg.PWR_STAT, Reg.PWR_WAKE_CAUSE] ++ (List.range 24).map (fun d => Reg.PWR_DOM_STAT (d + 1))).flatMap
          (fun a => leBytes 4 (stAt.rd a).toNat))) ∧
      (mine → platformOn s = false → exec (.platformOff q tag) s = answered offAt q off 3 []) ∧
      (mine → platformOn s = true → platformBusy s = true → exec (.platformOff q tag) s = answered offAt q off 2 []) ∧
      (mine → platformOn s = true → platformBusy s = false →
        let t := offAt.answer q off 7 [] false
        let t : State := { t with pwr := { t.pwr with goingOff := true, offer := some (q, off) } }
        let u := (fwCommit t (safeRecords t)).1
        exec (.platformOff q tag) s = served (if epochNeeded u = true ∨ ldgCommitting u = true then epochBegin u [.platformOff] else platformOffRest u)) ∧
      (mine → platformOn s = true → exec (.platformOn q tag) s = answered onAt q on 3 []) ∧
      (mine → platformOn s = false → powerFailing s = true → exec (.platformOn q tag) s = answered onAt q on 2 []) ∧
      (mine → platformOn s = false → powerFailing s = false →
        exec (.platformOn q tag) s = answered (platformStart onAt) q on 0 []))

/-- SIGNAL_BOX_RESET, LOCKSTEP_MISMATCH, CORE_REJOINED, STAGE2_READY, POWER_ON_RESET, VIN_STBY_LOSS and TRST_N_ASSERT
(R11, R19, R72, R166, R169, R212, R213, R337, R383, R401, R430, R446). -/
def Obligations.ResetsAndStarts : Prop :=
  ∀ s : State,
    (s.pwr.down = false →
      (∀ bad badMin,
        let t := lcStartup (bootSignalBox (ilkReset s) (fun c => bad.getLsbD c) badMin) false
        exec (.signalBoxReset bad badMin) s = settled (if t.retired = [] then t else
          t.fwLog Ev.NO_STAGE 1 (leBytes 1 (Sparse.get (fun _ => 0) t.upd.stageFails 1) ++ [2]))) ∧
      (∀ (c : Fin 2) us,
        let lo := 4 * c.val
        let n := min (s.fld Reg.RTB_FAILOVER (lo + 3) lo + 1) 15
        let t0 := s.setF Reg.RTB_FAILOVER (lo + 3) lo n
        let t := if n = 3 then (({ t0 with retired := c :: t0.retired } : State).setBit Reg.RTB_FAILOVER 8 true).log Ev.CORE_RETIRED (.lc c) 0
          (leBytes 1 c.val ++ [3]) else t0
        (c ∈ s.retired → exec (.lockstepMismatch c us) s = settled s) ∧
        (c ∉ s.retired → s.stage2Ready = false → exec (.lockstepMismatch c us) s = settled (signalBoxReset t noneBad false)) ∧
        (c ∉ s.retired → s.stage2Ready = true → c ≠ t.duty → exec (.lockstepMismatch c us) s = settled (resetCore t c)) ∧
        (c ∉ s.retired → s.stage2Ready = true → c = t.duty → s.ilk.reliefAbsent = true → exec (.lockstepMismatch c us) s =
          settled (signalBoxReset (t.log Ev.DUTY_LOST (.lc c) 0 (leBytes 1 c.val ++ [if other c ∈ t.retired then 1 else 0])) noneBad false)) ∧
        (c ∉ s.retired → s.stage2Ready = true → c = t.duty → s.ilk.reliefAbsent = false →
          let u := failoverDrop (({ t with duty := other c } : State).raiseIn (other c) 18) c
          let v := u.setF Reg.RTB_FAILOVER 31 16 (min 65535 (u.fld Reg.RTB_FAILOVER 31 16 + 1))
          exec (.lockstepMismatch c us) s =
            settled (resetCore (handoverByFailover (v.log Ev.FAILOVER (.lc c) 0 (leBytes 1 c.val ++ leBytes 4 us.toNat))) c))) ∧
      ((s.ilk.reliefAbsent = false ∨ s.retired ≠ []) → exec .coreRejoined s = settled (unlockTry s)) ∧
      (s.ilk.reliefAbsent = true → s.retired = [] →
        let t : State := { s with ilk := { s.ilk with reliefAbsent := false }, upd := { s.upd with absentAt := none } }
        let step := t.fld Reg.RTB_HND_STAT 3 0
        let t := if step = 5 then t.fwL Reg.RTB_HND_STAT 3 0 6 else if step = 11 then t.fwL Reg.RTB_HND_STAT 3 0 0
          else stageWindows (stageWindows t 1 t.relief) 2 t.relief
        exec .coreRejoined s = settled (unlockTry (t.log Ev.CORE_REJOINED (.lc t.relief) 0
          (leBytes 1 t.relief.val ++ leBytes 4 ((s.ot - s.upd.absentAt.getD s.ot) * 1000 / 1024))))) ∧
      (∀ svn build,
        let ok := s.stage2Ready = false ∧ s.upd.fw.consist.isSome = true ∧ s.bit Reg.HLD_LOCK 0 = true ∧ s.ilk.reliefAbsent = false
        let v := match s.upd.fw.stages.find? (fun p => p.1 == 2) with
          | some p => (p.2.svn, p.2.build)
          | none => (svn.toNat, build.toNat)
        (¬ ok → exec (.stage2Ready svn build) s = settled s) ∧
        (ok →
          let u := ({ s with stage2Ready := true } : State).fwLog Ev.STAGE2_READY 2
            (leBytes 4 v.1 ++ leBytes 4 v.2 ++ leBytes 4 (s.rd Reg.ILK_SEQ).toNat)
          exec (.stage2Ready svn build) s = settled ((List.range 64).foldl revertOld (flushVlatch (syncForced u 0))))) ∧
      exec .trstNAssert s = .next { s with tap := .idcode } ∧
      (∀ cell,
        let a := if s.bit Reg.PWR_STAT 0 then s else detectorEvent s 0 0 (vbatTick s) []
        let a := if a.bit Reg.TMP_STAT 5 then a.log Ev.CELL_WINDOW .tamper 13 [3] else a
        ∃ u : State, exec (.vinStbyLoss cell) s = .next u ∧
        u.pwr.down = true ∧ u.home = a.home ∧ u.ilk.journal = a.ilk.journal ∧ u.pending = a.pending ∧ u.pcc = a.pcc ∧
        u.mem = a.mem.filter (fun x => decide (0x10000000 ≤ x.1 ∧ x.1 < 0x11000000)) ∧ u.cores = State.reset.cores ∧
        u.engines = State.reset.engines ∧ u.lines = State.reset.lines ∧ u.lcs.copies = a.lcs.copies ∧ u.evr.slots = a.evr.slots ∧
        u.evr.ram = State.reset.evr.ram ∧ u.tmp.latch = (if cell then a.tmp.latch else State.reset.tmp.latch) ∧ u.tagKey = none)) ∧
    (∀ cell, s.pwr.down = true → exec (.vinStbyLoss cell) s = .next s) ∧
    (∀ pfw v33 bad badMin badLock canaryLost corrupt,
      let p0 := if s.pwr.down then s else powerLost s true
      let t := evrStartup (senseBanks { p0 with pcc := p0.pcc + 1, ot := 0, pwr := { p0.pwr with down := false } } v33) corrupt
      let lock (s : State) : State := { s with tmp := { s.tmp with record := if badLock then none else s.home.lockdown } }
      let u := lock (bootSignalBox (setDomState ((lock t).setBit (Reg.PWR_VOTE 24) 0 true) 24 0) (fun c => bad.getLsbD c) badMin)
      let v := canaryAtPowerUp (lockdownAtPowerUp (ttStart (ringStart (lcStartup u true))) badLock) canaryLost
      let w := setDomState ((v.setBit Reg.PWR_STAT 0 true).setF (Reg.PWR_VOTE 1) 23 0 0) 1 3
      exec (.powerOnReset pfw v33 bad badMin badLock canaryLost corrupt) s = .next (settle (if pfw then platformStart v
        else { w with pwr := { w.pwr with standby := true, railsGone := true } })))

/-- DEV_BURST_DONE, DEV_FRAME_DONE, REPORT_CHANGE, REPORT_TIMEOUT and TRIAL_DEADLINE (R104, R105, R143, R162, R185-R188, R200,
R219, R230). -/
def Obligations.DeviceBurstsAndReports : Prop :=
  ∀ s : State, s.pwr.down = false →
    (∀ (n : Fin 34) d data, lineLocked s = true → (s.line n.val).dev = some d →
      let frame (bytes : List Byte) : State := drive s n.val (deviceFrame s n.val (opEntry s n.val d.entry) d.cs d.addr bytes)
      (devBlocked s n = true → exec (.devBurstDone n data) s = .next s ∧ exec (.devFrameDone n data) s = .next s) ∧
      ((d.dest ≠ 0 ∨ d.left = 0 ∨ laneHolds s n.val = true) → exec (.devBurstDone n data) s = .next s) ∧
      (devBlocked s n = false → d.dest = 0 → d.left ≠ 0 → laneHolds s n.val = false →
        let k := min d.left (4096 - d.addr % 4096)
        let bs := takePad k data
        let t := frame []
        let t := t.setLine n.val { t.line n.val with dev := some { d with addr := d.addr + k, left := d.left - k, dropped := false } }
        exec (.devBurstDone n data) s =
          .next (feedLane (fillBurst (captureResponse t n.val d.entry d.addr bs) n.val d.cs d.addr d.dropped bs) n.val bs)) ∧
      (devBlocked s n = false → d.dest = 0 → d.left = 0 → exec (.devFrameDone n data) s = .next (endDev s n.val 0)) ∧
      (devBlocked s n = false → d.dest = 0 → d.left ≠ 0 → exec (.devFrameDone n data) s = .next s) ∧
      (devBlocked s n = false → d.dest = 1 →
        let bs := takePad d.left data
        let t := frame []
        exec (.devFrameDone n data) s = .next (identRead
          (endDev (captureResponse (t.wrMemN d.buf bs) n.val d.entry d.addr bs) n.val 0) n.val
          (opEntry (endDev (captureResponse (t.wrMemN d.buf bs) n.val d.entry d.addr bs) n.val 0) n.val d.entry).opcode bs)) ∧
      (devBlocked s n = false → 2 ≤ d.dest →
        let t := frame (s.rdMemN d.buf d.left)
        let t := t.setLine n.val { t.line n.val with resetSeen := d.entry :: (t.line n.val).resetSeen }
        let t := if n.val < 32 then trackAddr t n.val (opEntry t n.val d.entry).opcode
          (if d.left = 0 then none else some (s.rdMem d.buf).toNat) else t
        exec (.devFrameDone n data) s = .next (endDev
          (if recovering t n.val = true ∧ kindOf (opEntry t n.val d.entry).desc = 3 then t.inc Reg.RTB_RCV_PAGES else t) n.val 0))) ∧
    (∀ (l : Fin 96) ready samples,
      let old := reportReady s l.val
      let t := ((s.setBit (Reg.HLD_REPORT (l.val / 32)) (l.val % 32) ready).setBit (Reg.HLD_RPT_CHG (l.val / 32)) (l.val % 32) true).raise 7
      let owner := (components s).find? (fun e => e.reports.contains l.val)
      let u := if ready then t.log Ev.REPORT_READY .power l.val [BitVec.ofNat 8 ((owner.map (fun e => e.num)).getD 0xFF)] else t
      ((s.bit (Reg.HLD_LCFG l.val) 8 = false ∨ old = ready ∨ samples < s.fld Reg.HLD_FILTER 7 0 + 1) →
        exec (.reportChange l ready samples) s = settled (confirmReady (compChanges s s))) ∧
      (s.bit (Reg.HLD_LCFG l.val) 8 = true → old ≠ ready → s.fld Reg.HLD_FILTER 7 0 < samples →
        (owner = none → exec (.reportChange l ready samples) s = settled (confirmReady (compChanges s u))) ∧
        (∀ e, owner = some e → ready = true → compState u e.num = 3 → linesReady u e = true →
          exec (.reportChange l ready samples) s = settled (confirmReady (compChanges s
            (unholdPrereq (noteReady (setCompState u e.num 4) e.num true) (components u))))) ∧
        (∀ e, owner = some e → ready = true → (compState u e.num ≠ 3 ∨ linesReady u e = false) →
          exec (.reportChange l ready samples) s = settled (confirmReady (compChanges s u))) ∧
        (∀ e, owner = some e → ready = false → e.num ∈ s.upd.fw.ready →
          let v := u.log Ev.REPORT_LOST .power l.val [BitVec.ofNat 8 e.num]
          exec (.reportChange l ready samples) s = settled (confirmReady (compChanges s
            (if compState v e.num = 4 ∧ linesReady v e = false then setCompState v e.num 3 else v)))) ∧
        (∀ e, owner = some e → ready = false → e.num ∉ s.upd.fw.ready →
          exec (.reportChange l ready samples) s = settled (confirmReady (compChanges s u))))) ∧
    (∀ (c : Fin 64) e waited, compEntry s c.val = some e →
      let late := compState s c.val = 3 ∧ e.reportMs ≠ 0 ∧ e.reportMs ≤ waited
      (¬ late → exec (.reportTimeout c waited) s = settled s) ∧
      (late → exec (.reportTimeout c waited) s = settled (s.log Ev.REPORT_TIMEOUT .power c.val
        (lineMask (fun l => e.reports.contains l && !reportReady s l) ++ leBytes 4 waited)))) ∧
    (∀ (c : Fin 64) e, compEntry s c.val = some e →
      let r := rtbRec s c.val
      let past := recTrial r = true ∧ trialPast s r = true
      (¬ past → exec (.trialDeadline c) s = settled s) ∧
      (past → exec (.trialDeadline c) s = settled (fwCommit s (updSubject c.val :: rtbAct c.val r (revertRec r) ::
        holdRecs e.holds true ++ (if crampedTrial s e then pointsRecs e.sections 1 else progRecs s e.sections))).1)) ∧
    (∀ (c : Fin 64) waited, compEntry s c.val = none →
      exec (.reportTimeout c waited) s = settled s ∧ exec (.trialDeadline c) s = settled s)

/-- UPDATE_BEGIN, UPDATE_COMMIT, TRIAL_CONFIRM, UPDATE_ABORT, RECOVER, PUSH_OPEN, PUSH_DATA, PUSH_CLOSE and STATUS
(R193, R195, R199, R204, R205, R207-R209, R284). -/
def Obligations.UpdateRequests : Prop :=
  ∀ (s : State) (q : Sender) (tag comp : Byte), Heard s q →
    let b (code : Nat) : State := taken s q code
    let c := comp.toNat
    let word (code : Nat) : Nat := reqWord code c 0 tag.toNat
    let r := rtbRec s c
    let x := 1 - recActive r
    let refused (u : State) (code st : Nat) : Out := answered (u.fwLog Ev.UPDATE_REFUSED c (leBytes 1 st ++ [0])) q (word code) st []
    let opened := s.bit Reg.RTB_UPD_STAT 6
    let openHere := opened = true ∧ s.fld Reg.RTB_UPD_STAT 5 0 = c ∧ s.fld Reg.RTB_UPD_STAT 10 8 = 0
    (mayUpdate s q = false → ∀ opts mask,
      exec (.updateBegin q tag comp) s = refused (b 0x40) 0x40 1 ∧ exec (.updateCommit q tag comp opts) s = refused (b 0x41) 0x41 1 ∧
      exec (.trialConfirm q tag comp) s = answered (b 0x42) q (word 0x42) 1 [] ∧
      exec (.updateAbort q tag comp) s = answered (b 0x43) q (word 0x43) 1 [] ∧
      exec (.recover q tag comp mask) s = answered (b 0x48) q (word 0x48) 1 [] ∧ exec (.status q tag comp) s = answered (b 0x4C) q (word 0x4C) 1 []) ∧
    (mayUpdate s q = true →
      (64 ≤ c → exec (.updateBegin q tag comp) s = refused (b 0x40) 0x40 6 ∧ exec (.status q tag comp) s = answered (b 0x4C) q (word 0x4C) 6 []) ∧
      (c < 64 → (recTrial r = true ∨ opened = true) → exec (.updateBegin q tag comp) s = refused (b 0x40) 0x40 2) ∧
      (c < 64 → recTrial r = false → opened = false → ((compState s c ≠ 3 ∧ compState s c ≠ 4) ∨ 2 ≤ recActive r) →
        exec (.updateBegin q tag comp) s = refused (b 0x40) 0x40 3) ∧
      (c < 64 → recTrial r = false → opened = false → (compState s c = 3 ∨ compState s c = 4) → recActive r < 2 →
        let t := fwCommit (b 0x40) [updSubject c, rtbAct c r (nextGen (clearSlot r x))]
        (t.2 ≠ 0 → exec (.updateBegin q tag comp) s = refused t.1 0x40 (txStatus t.2)) ∧
        (t.2 = 0 → exec (.updateBegin q tag comp) s = answered ((t.1.fwL Reg.RTB_UPD_STAT 10 0 (c + 2 ^ 6)).fwLog Ev.UPDATE_BEGIN c
          (leBytes 1 x ++ leBytes 1 q.origin.code)) q (word 0x40) 0 [])) ∧
      (∀ opts, (compEntry s c = none ∨ ¬ openHere) → exec (.updateCommit q tag comp opts) s = refused (b 0x41) 0x41 3) ∧
      (∀ opts e, compEntry s c = some e → openHere →
        let t := fwCommit (b 0x41) (takeRecs e)
        let u := compChanges t.1 (setCompState (t.1.fwL Reg.RTB_UPD_STAT 10 8 1) c 1)
        (t.2 ≠ 0 → exec (.updateCommit q tag comp opts) s = refused t.1 0x41 (txStatus t.2)) ∧
        (t.2 = 0 → ∃ v : State, exec (.updateCommit q tag comp opts) s = served (v.answer q (word 0x41) 7 [] false) ∧ AllBut [.upd] u v ∧
          v.upd.who = u.upd.who ++ [(c, (q, word 0x41))] ∧ updOpts v c = opts.toNat % 4 ∧
          v.upd.fw.since = u.upd.fw.since.filter (fun p => p.1 != c) ++ [(c, u.ot)])) ∧
      (let due := c < 64 ∧ recTrial r = true ∧ trialPast s r = false ∧ bitOf (updOpts s c) 0 = true
       (¬ due → exec (.trialConfirm q tag comp) s = answered (b 0x42) q (word 0x42) 3 []) ∧
       (due → exec (.trialConfirm q tag comp) s =
         answered (confirmTrial (b 0x42) c).1 q (word 0x42) (txStatus (confirmTrial (b 0x42) c).2) [])) ∧
      (¬ openHere → exec (.updateAbort q tag comp) s = answered (b 0x43) q (word 0x43) 3 []) ∧
      (openHere → exec (.updateAbort q tag comp) s = answered (updClose (b 0x43) c 0) q (word 0x43) 0 []) ∧
      (c < 64 → exec (.status q tag comp) s = answered (b 0x4C) q (word 0x4C) 0 (leBytes 4 (s.rd Reg.RTB_UPD_STAT).toNat ++
        leBytes 4 (s.rd Reg.RTB_RCV_STAT).toNat ++ leBytes 1 (leAt r 6 1))) ∧
      (∀ mask, (compEntry s c = none ∨ restoreTarget s c = none) → exec (.recover q tag comp mask) s = answered (b 0x48) q (word 0x48) 3 []) ∧
      (∀ mask e y, compEntry s c = some e → restoreTarget s c = some y →
        let busy := s.bit Reg.RTB_RCV_STAT 6 = true ∨ opened = true ∨ s.upd.push ≠ none ∨ s.upd.fw.recover ≠ []
        let ready := (compState s c = 3 ∨ compState s c = 4 ∨ compState s c = 5) ∧ identBad s e = false
        (busy → exec (.recover q tag comp mask) s = answered (b 0x48) q (word 0x48) 2 []) ∧
        (¬ busy → (¬ ready ∨ recoverSource s e y mask.toNat = none) → exec (.recover q tag comp mask) s = answered (b 0x48) q (word 0x48) 3 []) ∧
        (∀ src, ¬ busy → ready → recoverSource s e y mask.toNat = some src →
          (compState s c = 5 → exec (.recover q tag comp mask) s = served (recoverTaken (b 0x48) q (word 0x48) c mask.toNat src y)) ∧
          (compState s c ≠ 5 →
            let t := fwCommit (b 0x48) (takeRecs e)
            exec (.recover q tag comp mask) s = if t.2 = 0 then served (recoverTaken t.1 q (word 0x48) c mask.toNat src y)
              else answered t.1 q (word 0x48) (txStatus t.2) [])) ∧
        (∀ (u : State) src w0,
          let owe (v : State) : State := ({ v with upd := { v.upd with who := v.upd.who ++ [(c, (q, w0))] } } : State).answer q w0 7 [] false
          (src = 2 → recoverTaken u q w0 c mask.toNat src y = owe (compChanges u (setCompState u c 5))) ∧
          (src = 1 → recoverTaken u q w0 c mask.toNat src y = owe (compChanges u ((setCompState u c 5).mapFw
            (fun f => { f with recover := f.recover ++ [(c, mask.toNat)] })))) ∧
          (src = 0 → recoverTaken u q w0 c mask.toNat src y = if (recoveryBegin u c 0 y).2 = 0 then owe (recoveryBegin u c 0 y).1
            else (recoveryBegin u c 0 y).1.answer q w0 (txStatus (recoveryBegin u c 0 y).2) [] true)))) ∧
    (∀ img : Byte,
      let word (code : Nat) : Nat := reqWord code c img.toNat tag.toNat
      let refused (u : State) (code st off : Nat) : Out := answered (u.fwLog Ev.PUSH_REFUSED c (leBytes 1 st ++ leBytes 4 off)) q (word code) st []
      (∀ (total : Word) (slot : Byte),
        let again := match s.upd.push with
          | some p => p.q == q && p.comp == c && p.image == img.toNat && !p.closed
          | none => false
        let st := pushStatus s q again c img.toNat total.toNat slot.toNat
        let pushed (u : State) (y : Nat) : State :=
          { u with upd := { u.upd with fw := { u.upd.fw with restore := none }, push := some { q := q, comp := c, image := img.toNat, slot := y, total := total.toNat, next := 0 } } }
        (st ≠ 0 → exec (.pushOpen q tag comp img total slot) s = refused (b 0x49) 0x49 st 0) ∧
        (∀ p, st = 0 → again = true → s.upd.push = some p →
          exec (.pushOpen q tag comp img total slot) s = answered (pushed (b 0x49) p.slot) q (word 0x49) 0 []) ∧
        (st = 0 → again = false → 64 ≤ c →
          exec (.pushOpen q tag comp img total slot) s = answered (pushed (b 0x49) (1 - lastSlot s c)) q (word 0x49) 0 []) ∧
        (st = 0 → again = false → c < 64 →
          let y := (pushSlot r slot.toNat).getD 0
          let t := recoveryBegin (b 0x49) c 2 y
          (t.2 ≠ 0 → exec (.pushOpen q tag comp img total slot) s = refused t.1 0x49 (txStatus t.2) 0) ∧
          (t.2 = 0 → exec (.pushOpen q tag comp img total slot) s = answered (pushed t.1 y) q (word 0x49) 0 []))) ∧
      (∀ (off : Word) addr bs k,
        let most := match q with
          | .agent _ => 56
          | .inst _ => 4096
        (mayUpdate s q = false → exec (.pushData q tag comp img off addr (some bs) k) s = answered (b 0x4A) q (word 0x4A) 1 []) ∧
        (mayUpdate s q = true → s.upd.push = none → exec (.pushData q tag comp img off addr (some bs) k) s = refused (b 0x4A) 0x4A 3 off.toNat) ∧
        (∀ p, mayUpdate s q = true → s.upd.push = some p →
          let mine := p.q = q ∧ p.comp = c ∧ p.image = img.toNat ∧ p.closed = false
          let fits := off.toNat = p.next ∧ (most = 56 → off.toNat % 56 = 0) ∧ bs.length ≠ 0 ∧ bs.length ≤ most ∧ off.toNat + bs.length ≤ p.total
          (¬ mine → exec (.pushData q tag comp img off addr (some bs) k) s = refused (b 0x4A) 0x4A 3 off.toNat) ∧
          (mine → ¬ fits → exec (.pushData q tag comp img off addr (some bs) k) s = refused (b 0x4A) 0x4A 6 off.toNat) ∧
          (mine → fits → exec (.pushData q tag comp img off addr (some bs) k) s = answered
            { b 0x4A with upd := { (b 0x4A).upd with push := some { p with next := off.toNat + bs.length, data := p.data ++ bs } } } q (word 0x4A) 0 []))) ∧
      (∀ (off : Word) (addr : Dword) (k : Fin 4), exec (.pushData q tag comp img off addr none k) s =
        served (readFailed (b 0x4A) q (word 0x4A) addr.toNat k.val)) ∧
      (mayUpdate s q = false → exec (.pushClose q tag comp img) s = answered (b 0x4B) q (word 0x4B) 1 []) ∧
      (mayUpdate s q = true → s.upd.push = none → exec (.pushClose q tag comp img) s = refused (b 0x4B) 0x4B 3 0) ∧
      (∀ p, mayUpdate s q = true → s.upd.push = some p →
        let mine := p.q = q ∧ p.comp = c ∧ p.image = img.toNat ∧ p.closed = false
        let t : State := { b 0x4B with upd := { (b 0x4B).upd with push := some { p with closed := true } } }
        (¬ mine → exec (.pushClose q tag comp img) s = refused (b 0x4B) 0x4B 3 p.next) ∧
        (mine → p.next < p.total → exec (.pushClose q tag comp img) s = refused (b 0x4B) 0x4B 6 p.next) ∧
        (mine → p.total ≤ p.next → c < 64 → exec (.pushClose q tag comp img) s = served
          ((({ t with upd := { t.upd with who := t.upd.who ++ [(c, (q, word 0x4B))] } } : State)).answer q (word 0x4B) 7 [] false)) ∧
        (mine → p.total ≤ p.next → 64 ≤ c → exec (.pushClose q tag comp img) s = answered t q (word 0x4B) 0 [])))

/-- LEDGER_OPEN, LEDGER_COMMIT, LEDGER_RESUME, LEDGER_REBUILD, LEDGER_CLOSE, RECORD_RETIRE, RECORD_READ, TT_SET, TT_CLEAR,
AUDIT_RANGE and REPORT (R252, R253, R258-R264, R309, R311). -/
def Obligations.LedgerRequests : Prop :=
  ∀ (s : State) (q : Sender) (tag : Byte), Heard s q →
    let b (code : Nat) : State := taken s q code
    let word (code arg : Nat) : Nat := code + arg * 2 ^ 8 + tag.toNat * 2 ^ 24
    let due := epochNeeded s = true ∨ ldgCommitting s = true
    let usable := ldgState s = 2 ∨ ldgState s = 4
    let later (code w : Nat) (a : AfterCommit) : Out := served ((epochBegin (b code) [a]).answer q w 7 [] false)
    (mayLedger s q = false → ∀ leaf tree pages nodes leaves kind (k : BitVec 16) addr e,
      exec (.ledgerOpen q tag leaf tree pages nodes kind) s = answered (b 0x60) q (word 0x60 0) 1 [] ∧
      exec (.ledgerCommit q tag) s = answered (b 0x61) q (word 0x61 0) 1 [] ∧ exec (.ledgerResume q tag) s = answered (b 0x62) q (word 0x62 0) 1 [] ∧
      exec (.ledgerRebuild q tag leaf tree pages leaves kind) s = answered (b 0x63) q (word 0x63 0) 1 [] ∧
      exec (.ledgerClose q tag) s = answered (b 0x64) q (word 0x64 0) 1 [] ∧ exec (.ttSet q tag k addr e kind) s = answered (b 0x68) q (word 0x68 k.toNat) 1 [] ∧
      exec (.ttClear q tag k) s = answered (b 0x69) q (word 0x69 k.toNat) 1 []) ∧
    (mayLedger s q = true → ∀ (leaf tree : Dword) (pages : Word),
      let closed := (ldgState s = 0 ∨ ldgState s = 3) ∧ s.att.importing = none
      let placed := leaf.toNat % 4096 = 0 ∧ tree.toNat % 4096 = 0 ∧ pages.toNat ≠ 0 ∧ pages.toNat ≤ 2 ^ 31
      let fits := s.ledger.cap = 0 ∨ s.ledger.cap = pages.toNat
      let based (code : Nat) : State := setBases (b code) leaf.toNat tree.toNat pages.toNat
      (∀ nodes leaves kind, ¬ closed → exec (.ledgerOpen q tag leaf tree pages nodes kind) s = answered (b 0x60) q (word 0x60 0) 3 [] ∧
        exec (.ledgerRebuild q tag leaf tree pages leaves kind) s = answered (b 0x63) q (word 0x63 0) 3 []) ∧
      (∀ nodes leaves kind, closed → ¬ placed → exec (.ledgerOpen q tag leaf tree pages nodes kind) s = answered (b 0x60) q (word 0x60 0) 6 [] ∧
        exec (.ledgerRebuild q tag leaf tree pages leaves kind) s = answered (b 0x63) q (word 0x63 0) 6 []) ∧
      (∀ nodes kind, closed → placed → ¬ fits → exec (.ledgerOpen q tag leaf tree pages nodes kind) s = answered (b 0x60) q (word 0x60 0) 3 []) ∧
      (∀ kind : Fin 4, closed → placed → fits →
        exec (.ledgerOpen q tag leaf tree pages none kind) s = served (readFailed (b 0x60) q (word 0x60 0) tree.toNat kind.val)) ∧
      (∀ ns kind, closed → placed → fits → openOk s pages.toNat ns = false →
        exec (.ledgerOpen q tag leaf tree pages (some ns) kind) s = answered (b 0x60) q (word 0x60 0) 4 []) ∧
      (∀ ns kind, closed → placed → fits → openOk s pages.toNat ns = true →
        let t := syncLedger (setLdgState (ledgerVote (loadCache (based 0x60) pages.toNat ns)) 2)
        exec (.ledgerOpen q tag leaf tree pages (some ns) kind) s = served (advancePasses
          ((ldgLog t Ev.LEDGER_OPENED (leBytes 8 (ldgEpoch t) ++ leBytes 4 pages.toNat)).answer q (word 0x60 0) 0 [] true))) ∧
      (∀ kind : Fin 4, closed → placed →
        exec (.ledgerRebuild q tag leaf tree pages none kind) s = served (readFailed (b 0x63) q (word 0x63 0) leaf.toNat kind.val)) ∧
      (∀ ls kind, closed → placed →
        let t := rebuildTree (setLdgState (ledgerVote (based 0x63)) 5) ls
        exec (.ledgerRebuild q tag leaf tree pages (some ls) kind) s = served ((epochBegin { t with ledger := { t.ledger with rebuilt := true } }
          [.rebuilt (some q) (word 0x63 0)]).answer q (word 0x63 0) 7 [] false))) ∧
    (mayLedger s q = true →
      (¬ usable → exec (.ledgerCommit q tag) s = answered (b 0x61) q (word 0x61 0) 3 [] ∧ exec (.ledgerClose q tag) s = answered (b 0x64) q (word 0x64 0) 3 []) ∧
      (usable → due → exec (.ledgerCommit q tag) s = later 0x61 (word 0x61 0) (.answer (some q) (word 0x61 0)) ∧
        exec (.ledgerClose q tag) s = later 0x64 (word 0x64 0) (.close (some q) (word 0x64 0))) ∧
      (usable → ¬ due → exec (.ledgerCommit q tag) s = answered (b 0x61) q (word 0x61 0) 0 [] ∧
        exec (.ledgerClose q tag) s = answered (ledgerLost (b 0x64)) q (word 0x64 0) 0 []) ∧
      (ldgState s ≠ 4 → exec (.ledgerResume q tag) s = answered (b 0x62) q (word 0x62 0) 3 []) ∧
      (ldgState s = 4 → exec (.ledgerResume q tag) s =
        served (advancePasses (wakeFreed (b 0x62) ((syncLedger (applyLate (setLdgState (b 0x62) 2))).answer q (word 0x62 0) 0 [] true)))) ∧
      (∀ (k : BitVec 16) (addr : Dword) (kind : Fin 4) bs e,
        (64 ≤ k.toNat → exec (.ttSet q tag k addr e kind) s = answered (b 0x68) q (word 0x68 k.toNat) 6 [] ∧
          exec (.ttClear q tag k) s = answered (b 0x69) q (word 0x69 k.toNat) 6 []) ∧
        (k.toNat < 64 → exec (.ttSet q tag k addr none kind) s = served (readFailed (b 0x68) q (word 0x68 k.toNat) addr.toNat kind.val) ∧
          exec (.ttClear q tag k) s = answered (ttDrop (b 0x69) k.toNat) q (word 0x69 k.toNat) 0 [] ∧
          exec (.ttSet q tag k addr (some bs) kind) s = if ttOk s bs then answered (ttPut (b 0x68) k.toNat (ttEntryOf bs)) q (word 0x68 k.toNat) 0 []
            else answered (b 0x68) q (word 0x68 k.toNat) 6 []))) ∧
    (∀ (idx : Dword) (retire : Bool),
      let i : Instr := if retire then .recordRetire q tag idx else .recordRead q tag idx
      let code := if retire then 0x65 else 0x66
      let w := word code 0
      (mayRecords s q idx.toNat 1 = false → exec i s = answered (b code) q w 1 []) ∧
      (mayRecords s q idx.toNat 1 = true → ¬ usable → exec i s = answered (b code) q w 3 []) ∧
      (mayRecords s q idx.toNat 1 = true → usable → 32 * ldgPages s ≤ idx.toNat → exec i s = answered (b code) q w 6 []) ∧
      (mayRecords s q idx.toNat 1 = true → usable → idx.toNat < 32 * ldgPages s →
        (∀ r, ledgerRecord s idx.toNat = some r → exec i s = if retire then answered (recordUpdate (b code) idx.toNat .retire) q w 0 []
          else answered (b code) q w 0 r) ∧
        (ledgerRecord s idx.toNat = none → ∃ t, exec i s = served (t.answer q w 7 [] false) ∧
          t.ledger.waits = s.ledger.waits ++ [⟨some q, w, retire, idx.toNat⟩] ∧ AllBut [.ledger, .regs] (b code) t))) ∧
    (∀ (first count table : Dword) feeds,
      let ok := count ≠ 0 ∧ table.toNat % 16 = 0 ∧ first.toNat + count.toNat ≤ 32 * ldgPages s
      let running := s.fix.passes.any (fun p => p.key == .range q)
      (mayRecords s q first.toNat count.toNat = false → exec (.auditRange q tag first count table feeds) s = answered (b 0x6A) q (word 0x6A 0) 1 []) ∧
      (mayRecords s q first.toNat count.toNat = true → ¬ usable →
        exec (.auditRange q tag first count table feeds) s = answered (b 0x6A) q (word 0x6A 0) 3 []) ∧
      (mayRecords s q first.toNat count.toNat = true → usable → ¬ ok →
        exec (.auditRange q tag first count table feeds) s = answered (b 0x6A) q (word 0x6A 0) 6 []) ∧
      (mayRecords s q first.toNat count.toNat = true → usable → ok → running = true →
        exec (.auditRange q tag first count table feeds) s = answered (b 0x6A) q (word 0x6A 0) 2 []) ∧
      (mayRecords s q first.toNat count.toNat = true → usable → ok → running = false →
        exec (.auditRange q tag first count table feeds) s = served (advancePasses (startPass ((b 0x6A).answer q (word 0x6A 0) 7 [] false) (.range q)
          (word 0x6A 0) (ownerOf q) first.toNat count.toNat first.toNat feeds)))) ∧
    (∀ (arg : BitVec 16) (addr : Dword),
      let k := reportKey q arg.toNat
      let w := word 0x6C arg.toNat
      let own := arg = 0xFFFF ∧ match q with
        | .inst n => hasFeature s n.val 0 = true
        | .agent a => a.val = 0
      (mayLedger s q = false → ¬ own → exec (.report q tag arg addr) s = answered (b 0x6C) q w 1 []) ∧
      ((mayLedger s q = true ∨ own) → arg ≠ 0xFFFF → 64 ≤ arg.toNat → exec (.report q tag arg addr) s = answered (b 0x6C) q w 6 []) ∧
      ((mayLedger s q = true ∨ own) → (arg = 0xFFFF ∨ arg.toNat < 64) →
        (bodyOf s k = none → exec (.report q tag arg addr) s = answered (b 0x6C) q w 3 []) ∧
        (bodyOf s k ≠ none → due → exec (.report q tag arg addr) s = later 0x6C w (.report (some q) w k addr.toNat)) ∧
        (bodyOf s k ≠ none → ¬ due → exec (.report q tag arg addr) s = served (reportOut (b 0x6C) (some q) w k addr.toNat))))

/-- LEDGER_PAGE_AUTH, LEDGER_WRITEBACK, EPOCH_TIMER, EPOCH_COMMITTED, TT_PASS_START, PASS_DONE, PASS_OVERDUE,
TT_PROGRESS_SAVE and FIX_RATE_WINDOW (R23, R241, R256-R258, R261-R265, R284, R312). -/
def Obligations.FixityEvents : Prop :=
  ∀ s : State, s.pwr.down = false →
    let usable := ldgState s = 2 ∨ ldgState s = 4
    (∀ (page : Word) data path (kind : Fin 4),
      let j := page.toNat
      let wanted := pageWanted s j = true ∧ usable ∧ pageAt s j = none ∧ j < ldgPages s
      (¬ wanted → exec (.ledgerPageAuth page data path kind) s = settled s) ∧
      (wanted → exec (.ledgerPageAuth page none path kind) s = settled (pageReadError
        (dmaErrorEvent s 0 (s.rd64 Reg.LDG_LEAF_BASE_LO Reg.LDG_LEAF_BASE_HI + 4096 * j) kind.val 5) j)) ∧
      (∀ d level, wanted → authFault s j d path = some level →
        exec (.ledgerPageAuth page (some d) path kind) s = settled (wakeFreed s (refuseFollowers (ledgerAuthFail s j level)))) ∧
      (∀ d, wanted → authFault s j d path = none → exec (.ledgerPageAuth page (some d) path kind) s = settled
        (wakeFreed s (refuseFollowers (advancePasses (serveRecords (admitPage (applyLate ((bufferPage s j (takePad 4096 d) path).inc Reg.LDG_CNT_AUTH)) j) j)))))) ∧
    (∀ page : Word,
      (∀ p, usable → pageAt s page.toNat = some p → p.changed = true →
        exec (.ledgerWriteback page) s = settled (advancePasses (syncFix (writeBack s page.toNat)))) ∧
      ((¬ usable ∨ pageAt s page.toNat = none) → exec (.ledgerWriteback page) s = settled s) ∧
      (∀ p, pageAt s page.toNat = some p → p.changed = false → exec (.ledgerWriteback page) s = settled s)) ∧
    (let go := s.fld Reg.LDG_CTL 31 16 ≠ 0 ∧ epochNeeded s = true ∧ ldgCommitting s = false
     (¬ go → exec .epochTimer s = settled s) ∧
     (go → exec .epochTimer s = settled ((writeBackAll { s with ledger := { s.ledger with after := s.ledger.after ++ [] } }).setBit Reg.LDG_STAT 4 true))) ∧
    (ldgCommitting s = false → exec .epochCommitted s = settled s) ∧
    (ldgCommitting s = true →
      let t := fwCommit s [⟨0x06, 0, ldgEpoch s + 1, 0, epochPayload s⟩]
      let u : State := { t.1 with ledger := { t.1.ledger with after := [], queued := [] } }
      (t.2 = 0 → exec .epochCommitted s = settled (advancePasses (wakeFreed t.1
        (epochQueued (t.1.ledger.after.foldl afterEpoch (epochEnded u)) t.1.ledger.queued)))) ∧
      ((t.2 = 1 ∨ t.2 = 0x14) → exec .epochCommitted s = settled t.1) ∧
      (t.2 ≠ 0 → t.2 ≠ 1 → t.2 ≠ 0x14 → exec .epochCommitted s =
        settled (advancePasses ((t.1.ledger.after ++ t.1.ledger.queued).foldl afterRefusal (epochRefused u))))) ∧
    (∀ (k : Fin 64) feeds,
      let n := k.val
      let runs := s.fix.passes.any (fun p => p.key == .entry n)
      (runs = true → exec (.ttPassStart k feeds) s =
        settled (advancePasses (mapPass s (.entry n) (fun p => { p with fed := p.fed ++ feeds })))) ∧
      (runs = false → ttEntry s n = none → exec (.ttPassStart k feeds) s = settled s) ∧
      (∀ e, runs = false → ttEntry s n = some e →
        let mid := s.rd64 (Reg.FIX_TT_CUR_LO n) (Reg.FIX_TT_CUR_HI n)
        let resumes := e.first < mid ∧ mid < e.first + e.count
        let turn := ttDue s n = true ∧ ∀ i < 64, ttDue s i = true → ttLate s i ≤ ttLate s n
        let start (cur : Nat) : State :=
          let t := (s.setBit (Reg.FIX_TT_STAT n) 2 true).setBit (Reg.FIX_TT_STAT n) 3 false
          let t := syncTt (((t.wr (Reg.FIX_TT_AGE n) 0).wr (Reg.FIX_TT_FAILS n) 0).wr64 (Reg.FIX_TT_CUR_LO n) (Reg.FIX_TT_CUR_HI n) cur)
          advancePasses (startPass t (.entry n) 0 e.who e.first e.count cur feeds)
        (¬ turn → ¬ (resumes ∧ ldgState s = 2) → exec (.ttPassStart k feeds) s = settled s) ∧
        (turn → ¬ resumes → exec (.ttPassStart k feeds) s = settled (start e.first)) ∧
        (resumes → (turn ∨ ldgState s = 2) → exec (.ttPassStart k feeds) s = settled (start mid)))) ∧
    (∀ (who : Option Sender) (k : Fin 64),
      let key : PassKey := match who with
        | some q => .range q
        | none => .entry k.val
      (s.fix.passes.find? (fun p => p.key == key) = none → exec (.passDone who k) s = settled s) ∧
      (∀ p, s.fix.passes.find? (fun p => p.key == key) = some p →
        ((p.over = false ∨ p.ending = true) → exec (.passDone who k) s = settled s) ∧
        (p.over = true → p.ending = false → (epochNeeded s = true ∨ ldgCommitting s = true) → exec (.passDone who k) s =
          settled (ttSave (epochBegin (mapPass s key (fun p => { p with ending := true })) [.pass key]))) ∧
        (p.over = true → p.ending = false → epochNeeded s = false → ldgCommitting s = false →
          exec (.passDone who k) s = settled (ttSave (finishPass s key))))) ∧
    (∀ k : Fin 64,
      let age := (s.rd (Reg.FIX_TT_AGE k.val)).toNat
      (ttEntry s k.val = none → exec (.passOverdue k) s = settled s) ∧
      (∀ e, ttEntry s k.val = some e →
        let late := s.bit (Reg.FIX_TT_STAT k.val) 2 = true ∧ s.bit (Reg.FIX_TT_STAT k.val) 3 = false ∧ e.period ≤ age
        (¬ late → exec (.passOverdue k) s = settled s) ∧
        (late → exec (.passOverdue k) s = settled ((s.setBit (Reg.FIX_TT_STAT k.val) 3 true).fwLog Ev.PASS_OVERDUE k.val
          (leBytes 4 age ++ leBytes 8 (s.rd64 (Reg.FIX_TT_CUR_LO k.val) (Reg.FIX_TT_CUR_HI k.val))))))) ∧
    (∃ t : State, exec .ttProgressSave s = settled t ∧ AllBut [.fix] s t ∧ t.fix.tt = s.fix.tt ∧ t.fix.saved = s.fix.tt.map (fun e =>
      (e.1, s.rd64 (Reg.FIX_TT_CUR_LO e.1) (Reg.FIX_TT_CUR_HI e.1), (s.rd (Reg.FIX_TT_AGE e.1)).toNat))) ∧
    (let n := s.rd64 Reg.FIX_BYTES_LO Reg.FIX_BYTES_HI
     ∃ t : State, exec .fixRateWindow s = settled t ∧ AllBut [.fix, .regs] s t ∧ RegsAllBut [Reg.FIX_RATE] s t ∧
       t.rd Reg.FIX_RATE = BitVec.ofNat 32 ((n - s.fix.rateBase) / 10000000) ∧ t.fix.rateBase = n)

/-- PF0_RESET, PF0_FLR, VF_FLR, D3HOT_TO_D0, LINK_UP, LINK_DOWN, PERST_N_RELEASE and CONFIGURATION_REQUEST (R267, R268,
R270-R272, R276, R280, R386). -/
def Obligations.HostLinkEvents : Prop :=
  ∀ s : State, s.pwr.down = false →
    let quiet (u : State) : State :=
      let t := ledgerLost u
      instReset (((List.range 1025).filter (fun n => n != 0 && vinState t n != 0)).foldl (fun s n => instDestroy s n 3 none) t) 0 3 none
    let reset (u : State) : State :=
      let t := (((quiet u).setBit (Reg.VIN_CTL 0) 1 false).setBit (Reg.VIN_STAT 0) 7 false).setL .pf0 Reg.HST_MODE 1 0 0
      { t with host := { t.host with vfEnable := false, numVfs := 0, bme := [], d3hot := [], pasidEnable := false, msix := [], doeError := false } }
    let low (u : State) : State :=
      let t : State := { u with host := { u.host with perstSeq := u.evr.next } }
      (t.setBit Reg.HST_LINK 10 true).setBit (Reg.PWR_VOTE 23) 31 (!(t.setBit Reg.HST_LINK 10 true).bit Reg.HST_LINK 10)
    let gone (u : State) (k : Nat) : State := if u.bit Reg.HST_LINK 9
      then stateInt ((u.setF Reg.HST_LINK 9 0 0).log Ev.LINK_DOWN .pf0 0 (leBytes 1 k)) 0 else u
    let flr (n : Nat) : State := if n = 0 ∨ hostMode s ≠ 1 ∨ s.host.vfEnable = false then s else
      instReset { s with host := { s.host with bme := s.host.bme.filter (· != n), d3hot := s.host.d3hot.filter (· != n), msix := s.host.msix.filter (fun m => m.1.1 != n) } } n 1 none
    let up := s.bit Reg.HST_LINK 9
    (∀ k : Fin 3, (k ≠ 0 ∨ s.bit Reg.HST_LINK 10 = true) → exec (.pf0Reset k) s = settled (reset (gone s k.val))) ∧
    (s.bit Reg.HST_LINK 10 = false → exec (.pf0Reset 0) s = settled (reset (gone (low s) 0))) ∧
    exec .pf0Flr s = settled (if up then reset s else s) ∧
    (∀ n : Fin 256, exec (.vfFlr n) s = settled (if up then flr n.val else s)) ∧
    (∀ n : Fin 256, (up = false ∨ s.host.d3hot.contains n.val = false) → exec (.d3hotToD0 n) s = settled s) ∧
    (∀ n : Fin 256, up = true → s.host.d3hot.contains n.val = true →
      let u : State := { s with host := { s.host with d3hot := s.host.d3hot.filter (· != n.val) } }
      exec (.d3hotToD0 n) s = settled (if n.val = 0 then reset u else Machine.vfFlr u n.val)) ∧
    (∀ (rate : Fin 7) (width : Fin 17) flit,
      let trains := s.bit Reg.HST_LINK 10 = false ∧ up = false ∧ domState s 23 = 0 ∧ rate ≠ 0 ∧
        width.val ∈ [1, 4, 8, 16] ∧ (rate = 6 → flit = true)
      (¬ trains → exec (.linkUp rate width flit) s = settled s) ∧
      (trains → exec (.linkUp rate width flit) s = settled (stateInt
        ((s.setF Reg.HST_LINK 9 0 (rate.val + width.val * 2 ^ 3 + b2n flit * 2 ^ 8 + 2 ^ 9)).log Ev.LINK_UP .pf0 0
          (leBytes 1 rate.val ++ leBytes 1 width.val ++ leBytes 1 (b2n flit))) 0))) ∧
    (∀ k : Fin 4, (k ≠ 0 ∨ s.bit Reg.HST_LINK 10 = true) → exec (.linkDown k) s = settled (if up then reset (gone s k.val) else s)) ∧
    (s.bit Reg.HST_LINK 10 = false → exec (.linkDown 0) s = settled (if up then reset (gone (low s) 0) else s)) ∧
    exec .perstNRelease s = settled (let t := s.setBit Reg.HST_LINK 10 false
      t.setBit (Reg.PWR_VOTE 23) 31 (!t.bit Reg.HST_LINK 10)) ∧
    (up = false → ∀ r, exec (.configurationRequest r) s = settled s) ∧
    (up = true →
      (∀ enable num,
        let t : State := { s with host := { s.host with vfEnable := enable, numVfs := if s.host.vfEnable then s.host.numVfs else min num 255 } }
        exec (.configurationRequest (.vfs enable num)) s = settled (if s.host.vfEnable = true ∧ enable = false ∧ hostMode s = 1
          then ((List.range 256).filter (fun n => n != 0)).foldl (fun s n => instDestroy s n 2 none) t else t)) ∧
      (∀ on, exec (.configurationRequest (.pasid on)) s = settled { s with host := { s.host with pasidEnable := on } }) ∧
      (∀ fn on, fn < 256 → hostMode s ≠ 1 → exec (.configurationRequest (.busMaster fn on)) s = settled
        { s with host := { s.host with bme := if on then fn :: s.host.bme.filter (· != fn) else s.host.bme.filter (· != fn) } }) ∧
      (∀ fn on, fn < 256 → hostMode s = 1 →
        let t : State := { s with host := { s.host with bme := if on then fn :: s.host.bme.filter (· != fn) else s.host.bme.filter (· != fn) } }
        exec (.configurationRequest (.busMaster fn on)) s = settled (if on then dirtyDrain t (Fin.ofNat 1025 fn)
          else if fn = 0 then t else (List.range 512).foldl (fun s e =>
            if (s.engine e).item.any (fun i => fromInst fn i.wb) then itemReadError s e else s) t)) ∧
      (∀ fn, fn < 256 → exec (.configurationRequest (.power fn true)) s = settled
        { s with host := { s.host with d3hot := fn :: s.host.d3hot.filter (· != fn) } }) ∧
      (∀ n : Fin 256, exec (.configurationRequest (.power n.val false)) s = exec (.d3hotToD0 n) s) ∧
      (∀ fn entry addr data masked, fn < 256 → entry < (if fn = 0 then 2048 else 32) →
        let m := s.msixAt (fn, entry)
        let t := s.setMsix (fn, entry) ⟨addr, data, masked, m.pending && masked⟩
        exec (.configurationRequest (.msix fn entry addr data masked)) s = settled (if m.pending = true ∧ masked = false
          then t.toHost (if hostMode s = 1 then fn else 0) addr (leBytes 4 data) else t)) ∧
      (∀ k, exec (.configurationRequest (.doe k k)) s = settled s) ∧
      (∀ d w, d ≠ w → exec (.configurationRequest (.doe d w)) s = settled
        (attDrop { s with host := { s.host with doeError := true } } 0 0 3 (4 * w) false)))

/-- ENABLE_WRITE, FEATURES_OK_WRITE, INSTANCE_RESET_WRITE, SQ_TAIL_DOORBELL, CMD_TAIL_DOORBELL, CQ_HEAD_DOORBELL,
RSP_HEAD_DOORBELL and DIRTY_DB (R274, R281, R282, R287, R288, R291). -/
def Obligations.InstanceRegisters : Prop :=
  ∀ (s : State) (p : Party) (n : Fin 1025),
    let st := vinState s n.val
    (Writer s p (Reg.VIN_CTL n.val) →
      (st = 1 → exec (.enableWrite p n) s = settled (if enableOk s n.val
        then setVinState (s.setBit (Reg.VIN_CTL n.val) 0 true) n.val 2 else stateInt (s.setBit (Reg.VIN_STAT n.val) 4 true) n.val)) ∧
      (st = 4 → exec (.enableWrite p n) s = settled (s.setBit (Reg.VIN_STAT n.val) 3 true)) ∧
      (st ≠ 1 → st ≠ 4 → exec (.enableWrite p n) s = settled s) ∧
      (let busy := s.bit (Reg.VIN_CTL n.val) 1 = true ∨ s.bit (Reg.VIN_STAT n.val) 7 = true ∨ st = 0
       (busy → exec (.featuresOkWrite p n) s = settled s) ∧
       (¬ busy → exec (.featuresOkWrite p n) s = settled (s.setBit (Reg.VIN_STAT n.val) 7 true))) ∧
      ((st = 0 ∨ st = 5) → exec (.instanceResetWrite p n) s = settled s) ∧
      (st = 4 → exec (.instanceResetWrite p n) s = settled (s.setInst n.val (s.inst n.val))) ∧
      (st ≠ 0 → st ≠ 4 → st ≠ 5 →
        let g := s.setF (Reg.VIN_STAT n.val) 31 16 (vinGen s n.val + 1)
        let g := (setVinState (g.setInst n.val { s.inst n.val with cause := 0, blocked := [] }) n.val 4).setBit (Reg.VIN_STAT n.val) 6 false
        let g := quiesceCheck (discardInst (if n.val = 0 then orphanAll g 0 else g) n.val) n.val
        let g := if (g.inst n.val).stopping then dirtyEnd g n.val else g
        exec (.instanceResetWrite p n) s = settled (g.setInst n.val (g.inst n.val)))) ∧
    (∀ v : Word,
      let i := getBits v 15 0
      let live := st = 2 ∨ st = 3
      let bell (ring : Nat) (c : Instr) (mine dev : Nat) : Prop := Writer s p mine →
        let lg := s.fld (Reg.VIN_RES n.val) (if ring = 0 then 12 else if ring = 1 then 17 else 21) (if ring = 0 then 8 else if ring = 1 then 13 else 18)
        let old := s.fld mine 15 0
        let at' := s.fld dev 15 0
        let valid := i < 2 ^ lg ∧ (if ring = 0 ∨ ring = 2 then ringDiff old at' lg ≤ ringDiff i at' lg else ringDiff i old lg ≤ ringDiff at' old lg)
        (¬ live → exec c s = settled s) ∧
        (live → valid → exec c s = settled (if ring = 3 then rspDrain (s.setF mine 15 0 i) n else s.setF mine 15 0 i)) ∧
        (live → ¬ valid → exec c s = settled (stateInt (vinLog ((s.setBit (Reg.VIN_STAT n.val) 5 true).inc (Reg.VIN_DB_BAD n.val)) Ev.DOORBELL_BAD n.val
          (leBytes 1 ring ++ leBytes 2 i ++ leBytes 2 (if ring = 0 ∨ ring = 2 then at' else old) ++
            leBytes 2 (if ring = 0 ∨ ring = 2 then old else at'))) n.val))
      bell 0 (.sqTailDoorbell p n v) (Reg.VIN_SQ_TAIL n.val) (Reg.VIN_SQ_HEAD n.val) ∧
      bell 1 (.cqHeadDoorbell p n v) (Reg.VIN_CQ_HEAD n.val) (Reg.VIN_CQ_TAIL n.val) ∧
      bell 2 (.cmdTailDoorbell p n v) (Reg.VIN_CMD_TAIL n.val) (Reg.VIN_CMD_HEAD n.val) ∧
      bell 3 (.rspHeadDoorbell p n v) (Reg.VIN_RSP_HEAD n.val) (Reg.VIN_RSP_TAIL n.val)) ∧
    (∀ v : Word, Writer s p Reg.VIN_0_DIRTY_DB →
      let head := getBits v 15 0
      (1025 ≤ getBits v 26 16 → exec (.dirtyDb p v) s = settled s) ∧
      (getBits v 26 16 = n.val → (s.inst n.val).dirty = none → exec (.dirtyDb p v) s = settled s) ∧
      (∀ d, getBits v 26 16 = n.val → (s.inst n.val).dirty = some d →
        let old := s.fld (Reg.VIN_DIRTY_IDX n.val) 31 16
        let tail := s.fld (Reg.VIN_DIRTY_IDX n.val) 15 0
        let k := ringDiff head old d.depth
        let valid := head < 2 ^ d.depth ∧ k ≤ ringDiff tail old d.depth
        (valid → exec (.dirtyDb p v) s = settled (dirtyDrain ((s.setInst n.val
          { s.inst n.val with dirty := some { d with recent := d.recent.drop k } }).setF (Reg.VIN_DIRTY_IDX n.val) 31 16 head) n)) ∧
        (¬ valid → exec (.dirtyDb p v) s = settled (stateInt (vinLog ((s.setBit (Reg.VIN_STAT 0) 5 true).inc (Reg.VIN_DB_BAD 0)) Ev.DOORBELL_BAD 0
          (leBytes 1 4 ++ leBytes 2 head ++ leBytes 2 old ++ leBytes 2 tail)) 0))))

/-- FEATURE_EVAL_DONE, INSTANCE_RESET_DONE, SQ_FETCH, CMD_FETCH, CQ_POST, DMA_ERROR and INT_COAL_TIMEOUT (R274, R275, R281,
R283-R285, R288, R289, R293, R401). -/
def Obligations.InstanceEvents : Prop :=
  ∀ (s : State) (m : Fin 1025), s.pwr.down = false →
    let n := m.val
    let st := vinState s n
    (s.bit (Reg.VIN_STAT n) 7 = false → exec (.featureEvalDone m) s = settled s) ∧
    (s.bit (Reg.VIN_STAT n) 7 = true →
      let f := requested s n
      let good := f &&& offered s n = f ∧ ¬ (bitOf f 4 = true ∧ bitOf f 5 = true) ∧
        (n = 0 → (modeOf f = hostMode s ∨ instancesUp s = 0) ∧ (bitOf f 5 = false ∨ s.host.vfEnable = false)) ∧
        ((bitOf f 1 = true ∨ bitOf f 2 = true ∨ bitOf f 3 = true ∨ bitOf f 7 = true) → bitOf f 0 = true) ∧
        (bitOf f 6 = true → bitOf f 4 = true ∨ bitOf f 5 = true)
      let t (c : Nat) : State := (s.setBit (Reg.VIN_STAT n) 7 false).setF (Reg.VIN_STAT n) 10 8 c
      let on := (t 0).setBit (Reg.VIN_CTL n) 1 true
      (good → exec (.featureEvalDone m) s = settled (stateInt (vinLog (if n = 0 then syncOffers (on.setL .pf0 Reg.HST_MODE 1 0 (modeOf f)) else on)
        Ev.FEATURES_ACCEPTED n (leBytes 2 n ++ leBytes 16 f)) n)) ∧
      (¬ good → ∃ c, 1 ≤ c ∧ c ≤ 4 ∧ exec (.featureEvalDone m) s = settled (stateInt (vinLog (t c) Ev.FEATURES_REFUSED n
        (leBytes 2 n ++ leBytes 1 c ++ leBytes 16 f)) n))) ∧
    (∀ us : Word,
      let cleared := resetEvent (clearIndices s n) n us.toNat
      let t := setVinState cleared n 1
      let t := (s.inst n).resetters.foldl (fun s w => s.answer w.1 w.2 0 [] true) (t.setInst n { t.inst n with resetters := [] })
      ((drains s n = true ∨ (st ≠ 4 ∧ st ≠ 5)) → exec (.instanceResetDone m us) s = settled s) ∧
      (drains s n = false → st = 5 → exec (.instanceResetDone m us) s = settled (destroyEnd cleared n)) ∧
      (drains s n = false → st = 4 → (s.inst n).destroyNext = none → exec (.instanceResetDone m us) s =
        settled (if t.bit (Reg.VIN_STAT n) 3 then enableNow (t.setBit (Reg.VIN_STAT n) 3 false) n else t)) ∧
      (∀ k, drains s n = false → st = 4 → (s.inst n).destroyNext = some k → exec (.instanceResetDone m us) s =
        settled (resetBegin ((t.setInst n { t.inst n with destroyNext := none }).setBit (Reg.VIN_STAT n) 3 false) n 5 k))) ∧
    (∀ entry list block (k : Fin 4),
      let ready := st = 2 ∧ dmaIssues s n = true ∧ s.bit Reg.PWR_STAT 0 = false ∧ ringHolds s n 0 = true ∧ slotsUsed s n < slotsOf s n
      let head := s.fld (Reg.VIN_SQ_HEAD n) 15 0
      let addr := s.rd64 (Reg.VIN_SQ_BASE_LO n) (Reg.VIN_SQ_BASE_HI n) + 64 * head
      let t := (s.setF (Reg.VIN_SQ_HEAD n) 15 0 ((head + 1) % 2 ^ s.fld (Reg.VIN_RES n) 12 8)).wr (Reg.VIN_SUBMITTED n) (s.rd (Reg.VIN_SUBMITTED n) + 1)
      (¬ ready → exec (.sqFetch m entry list block k) s = settled s) ∧
      (ready → entry = none → exec (.sqFetch m entry list block k) s = settled (ringFails s n 0 addr k.val)) ∧
      (∀ w, ready → entry = some w →
        (dmaFails s n = true → exec (.sqFetch m entry list block k) s = settled (ringFails s n 0 addr 0)) ∧
        (dmaFails s n = false → wbGen w ≠ vinGen s n → exec (.sqFetch m entry list block k) s = settled (syncFix (t.inc (Reg.VIN_LATE_DISCARD n)))) ∧
        (dmaFails s n = false → wbGen w = vinGen s n → exec (.sqFetch m entry list block k) s = settled (syncFix (submit t
          ⟨.ring n (s.rd (Reg.VIN_SUBMITTED n)).toNat, some n, takePad 64 w, [], [], [], false⟩ list block k.val))))) ∧
    (∀ entry (k : Fin 4),
      let ready := st = 2 ∧ dmaIssues s n = true ∧ ringHolds s n 2 = true
      let head := s.fld (Reg.VIN_CMD_HEAD n) 15 0
      (¬ ready → exec (.cmdFetch m entry k) s = settled s) ∧
      (ready → (entry = none ∨ dmaFails s n = true) → exec (.cmdFetch m entry k) s = settled (ringFails s n 2
        (s.rd64 (Reg.VIN_CMD_BASE_LO n) (Reg.VIN_CMD_BASE_HI n) + 64 * head) (if entry = none then k.val else 0))) ∧
      (ready → entry.isSome = true → dmaFails s n = false → exec (.cmdFetch m entry k) s =
        settled (s.setF (Reg.VIN_CMD_HEAD n) 15 0 ((head + 1) % 2 ^ s.fld (Reg.VIN_RES n) 21 18)))) ∧
    (s.fix.done.find? (fun p => p.1 == n) = none → exec (.cqPost m) s = settled s) ∧
    (∀ c, s.fix.done.find? (fun p => p.1 == n) = some c →
      let tail := s.fld (Reg.VIN_CQ_TAIL n) 15 0
      let lg := s.fld (Reg.VIN_RES n) 17 13
      let addr := s.rd64 (Reg.VIN_CQ_BASE_LO n) (Reg.VIN_CQ_BASE_HI n) + 32 * tail
      let ready := (st = 2 ∨ st = 3) ∧ dmaIssues s n = true ∧ (tail + 1) % 2 ^ lg ≠ s.fld (Reg.VIN_CQ_HEAD n) 15 0 % 2 ^ lg
      (¬ ready → exec (.cqPost m) s = settled s) ∧
      (ready → dmaFails s n = true → exec (.cqPost m) s = settled (ringFails s n 1 addr 0)) ∧
      (ready → dmaFails s n = false → dirtyReady s n addr 32 = false → exec (.cqPost m) s = settled (dirtyFull s n)) ∧
      (ready → dmaFails s n = false → dirtyReady s n addr 32 = true →
        let ph := (s.inst n).cqPhase
        let tail' := (tail + 1) % 2 ^ lg
        let t := issueWrite { s with fix := { s.fix with done := s.fix.done.erase c } } n addr (takePad 31 c.2 ++ leBytes 1 (b2n ph))
        let u := (t.setF (Reg.VIN_CQ_TAIL n) 15 0 tail').setInst n { t.inst n with cqPhase := if tail' = 0 then !ph else ph }
        exec (.cqPost m) s = settled (quiesceCheck (intPosted (u.inc (Reg.VIN_COMPLETED n)) n 0) n))) ∧
    (∀ (ring : Fin 5) addr (k : Fin 4), exec (.dmaError m ring none addr k) s =
      settled (if st = 2 ∨ st = 3 then
          let a := ringAddr s n ring.val
          dmaErrorEvent (vinLog (setVinState s n 6) Ev.INSTANCE_FAILED n (leBytes 1 ring.val ++ leBytes 8 a)) n a k.val ring.val
        else s)) ∧
    (∀ (ring : Fin 5) (e : Fin 512) (addr : Dword) (k : Fin 4),
      ((s.engine e.val).item = none → exec (.dmaError m ring (some e) addr k) s = settled s) ∧
      (∀ i, (s.engine e.val).item = some i → exec (.dmaError m ring (some e) addr k) s =
        settled (itemReadError (dmaErrorEvent s (i.wb.owner.getD 0) addr.toNat k.val 5) e.val))) ∧
    (∀ src : Fin 4,
      ((src = 2 ∨ (s.inst n).unsig src.val = 0) → exec (.intCoalTimeout m src) s = settled s) ∧
      (src ≠ 2 → (s.inst n).unsig src.val ≠ 0 →
        let t := (s.setInst n ((s.inst n).setUnsig src.val 0)).setBit (Reg.VIN_INT_STAT n) src.val true
        exec (.intCoalTimeout m src) s = settled (msixSend t n (t.fld (Reg.VIN_INT_MAP n) (5 * src.val + 4) (5 * src.val)))))

/-- INST_CREATE, INST_DESTROY, INST_RESET, INST_QUIESCE, INST_RESUME, INST_QUERY, DIRTY_START, DIRTY_STOP and POOL_QUERY
(R278-R280, R286-R290, R292). -/
def Obligations.InstanceRequests : Prop :=
  ∀ (s : State) (q : Sender) (tag : Byte), Heard s q →
    let b := behalf s q
    (∀ n : BitVec 16,
      let k := n.toNat
      let word (code : Nat) : Nat := code + k * 2 ^ 8 + tag.toNat * 2 ^ 24
      let st := vinState b k
      let here := k ≤ 1024 ∧ st ≠ 0
      let refuse (code : Nat) : Out := answered (vinLog b Ev.CREATE_REFUSED k (leBytes 1 code ++ [0])) q (word 0x80) code []
      (q ≠ .inst 0 → ∀ addr block (kd : Fin 4) base depth,
        exec (.instCreate q tag n addr block kd) s = refuse 1 ∧
        exec (.instDestroy q tag n) s = answered b q (word 0x81) 1 [] ∧ exec (.instReset q tag n) s = answered b q (word 0x82) 1 [] ∧
        exec (.instQuiesce q tag n) s = answered b q (word 0x83) 1 [] ∧ exec (.instResume q tag n) s = answered b q (word 0x84) 1 [] ∧
        exec (.dirtyStart q tag n base depth) s = answered b q (word 0x86) 1 [] ∧ exec (.dirtyStop q tag n) s = answered b q (word 0x87) 1 []) ∧
      (q ≠ .inst 0 → q ≠ .agent 0 → exec (.instQuery q tag n) s = answered b q (word 0x85) 1 []) ∧
      ((q = .inst 0 ∨ q = .agent 0) → exec (.instQuery q tag n) s = if 1024 < k then answered b q (word 0x85) 6 []
        else answered b q (word 0x85) 0 (leBytes 1 st ++ leBytes 4 (b.fld (Reg.VIN_SQ_HEAD k) 15 0) ++ leBytes 4 (b.fld (Reg.VIN_CQ_TAIL k) 15 0) ++
          leBytes 2 (b.fld (Reg.VIN_CMD_HEAD k) 15 0) ++ leBytes 2 (b.fld (Reg.VIN_RSP_TAIL k) 15 0) ++
          leBytes 1 (b2n (b.inst k).cqPhase + 2 * b2n (b.inst k).rspPhase) ++ [0, 0, 0] ++ leBytes 4 (b.rd (Reg.VIN_SUBMITTED k)).toNat ++ leBytes 2 (vinGen b k))) ∧
      (q = .inst 0 →
        (∀ addr block (kd : Fin 4), hostMode b = 0 → exec (.instCreate q tag n addr block kd) s = refuse 1) ∧
        (∀ addr block (kd : Fin 4), hostMode b ≠ 0 → 1024 < k → exec (.instCreate q tag n addr block kd) s = refuse 6) ∧
        (∀ (addr : Dword) (kd : Fin 4), hostMode b ≠ 0 → k ≤ 1024 → exec (.instCreate q tag n addr none kd) s = served (readFailed b q (word 0x80) addr.toNat kd.val)) ∧
        (∀ addr (kd : Fin 4) bytes, hostMode b ≠ 0 → k ≤ 1024 → st = 5 →
          ((b.inst k).create.isSome = true → exec (.instCreate q tag n addr (some bytes) kd) s = refuse 3) ∧
          ((b.inst k).create = none → exec (.instCreate q tag n addr (some bytes) kd) s = served
            ((b.setInst k { b.inst k with create := some (some q, word 0x80, takePad 128 bytes) }).answer q (word 0x80) 7 [] false))) ∧
        (∀ addr (kd : Fin 4) bytes, hostMode b ≠ 0 → k ≤ 1024 → st ≠ 5 →
          let fault := if k = 0 ∨ st ≠ 0 ∨ (hostMode b = 1 ∧ (b.host.vfEnable = false ∨ b.host.numVfs < k)) ∨ (hostMode b = 2 ∧ b.host.pasidEnable = false)
            then some (3, 0) else (blockFault b k (takePad 128 bytes)).map (fun f => (6, f))
          exec (.instCreate q tag n addr (some bytes) kd) s = match fault with
            | some (x, f) => answered (vinLog b Ev.CREATE_REFUSED k (leBytes 1 x ++ leBytes 1 f)) q (word 0x80) x []
            | none => answered (createInst b k (takePad 128 bytes)) q (word 0x80) 0 []) ∧
        ((k = 0 ∨ ¬ here) → exec (.instDestroy q tag n) s = answered b q (word 0x81) 3 []) ∧
        (k ≠ 0 → here → exec (.instDestroy q tag n) s = served (instDestroy (b.answer q (word 0x81) 7 [] false) k 2 (some (q, word 0x81)))) ∧
        ((¬ here ∨ st = 5) → exec (.instReset q tag n) s = answered b q (word 0x82) 3 []) ∧
        (here → st ≠ 5 → exec (.instReset q tag n) s = served (instReset (b.answer q (word 0x82) 7 [] false) k 2 (some (q, word 0x82)))) ∧
        ((1024 < k ∨ st ≠ 2) → exec (.instQuiesce q tag n) s = answered b q (word 0x83) 3 []) ∧
        (k ≤ 1024 → st = 2 → slotsUsed b k = 0 → exec (.instQuiesce q tag n) s = answered (setVinState b k 3) q (word 0x83) 0 []) ∧
        (k ≤ 1024 → st = 2 → slotsUsed b k ≠ 0 →
          let t := (setVinState b k 3).answer q (word 0x83) 7 [] false
          exec (.instQuiesce q tag n) s = served (t.setInst k { t.inst k with quiescers := (t.inst k).quiescers ++ [(q, word 0x83)] })) ∧
        ((1024 < k ∨ st ≠ 3) → exec (.instResume q tag n) s = answered b q (word 0x84) 3 []) ∧
        (k ≤ 1024 → st = 3 → exec (.instResume q tag n) s = answered (setVinState b k 2) q (word 0x84) 0 []) ∧
        (∀ (base : Dword) (depth : Byte),
          let d := depth.toNat
          let no := if hasFeature b 0 6 = false then 1 else if freeWindows b = 0 then 2 else if ¬ here ∨ (b.inst k).dirty.isSome = true then 3
            else if d < 8 ∨ 16 < d ∨ base.toNat % 4096 ≠ 0 then 6 else 0
          (no ≠ 0 → exec (.dirtyStart q tag n base depth) s = answered b q (word 0x86) no []) ∧
          (no = 0 →
            let t := (b.wr64 (Reg.VIN_DIRTY_BASE_LO k) (Reg.VIN_DIRTY_BASE_HI k) base.toNat).wr (Reg.VIN_DIRTY_IDX k) 0
            let t := (setWindows t (freeWindows (b.wr64 (Reg.VIN_DIRTY_BASE_LO k) (Reg.VIN_DIRTY_BASE_HI k) base.toNat) - 1)).answer q (word 0x86) 0 [] true
            exec (.dirtyStart q tag n base depth) s = served (t.setInst k { t.inst k with dirty := some { depth := d } }))) ∧
        ((¬ here ∨ (b.inst k).dirty = none) → exec (.dirtyStop q tag n) s = answered b q (word 0x87) 3 []) ∧
        (here → (b.inst k).dirty.isSome = true →
          let t := b.setInst k { b.inst k with stoppers := (b.inst k).stoppers ++ [(q, word 0x87)], stopping := true }
          exec (.dirtyStop q tag n) s = served (if (t.inst k).blocked.isEmpty then dirtyEnd t k else t.answer q (word 0x87) 7 [] false)))) ∧
    (let w := 0x88 + tag.toNat * 2 ^ 24
     (q ≠ .inst 0 → q ≠ .agent 0 → exec (.poolQuery q tag) s = answered b q w 1 []) ∧
     ((q = .inst 0 ∨ q = .agent 0) → exec (.poolQuery q tag) s = answered b q w 0
      (takePad 52 (leBytes 4 (b.rd Reg.HST_POOL).toNat) ++ leBytes 129 (maskOf 1025 (fun n => vinState b n != 0)))))

/-- SET_ENDPOINT_ID, GET_ENDPOINT_ID, GET_MCTP_VERSION_SUPPORT, GET_MESSAGE_TYPE_SUPPORT, MCTP_PACKET,
DOWNSTREAM_RESPONSE and DOWNSTREAM_RESPONSE_TIMEOUT (R296, R298, R312). -/
def Obligations.MctpAndPeers : Prop :=
  ∀ (s : State), s.pwr.down = false →
    (∀ (t : Fin 6) (src : Byte), domState s 1 = 0 → (2 ≤ t.val ∨ s.bit Reg.HST_LINK 9 = true) →
      let T := t.val
      let E := src.toNat
      let say (v : State) (cmd : Nat) (data : List Byte) : State :=
        { v with att := { v.att with out := v.att.out ++ [⟨T, E, none, 0x100 + cmd, data⟩] } }
      let answers (cmd : Nat) (data : List Byte) : Out := settled (if T = 0 then s else say s cmd data)
      (∀ eid : Byte,
        let id := eid.toNat
        exec (.setEndpointId t src eid) s = settled (if T = 0 then s else if id = 0 ∨ id = 0xFF ∨ (1 ≤ id ∧ id ≤ 7) then say s 1 (leBytes 1 2)
          else say { s with att := { s.att with eids := s.att.eids.filter (fun p => p.1 != T) ++ [(T, id)] } } 1
            (leBytes 1 0 ++ leBytes 1 0 ++ leBytes 1 id ++ leBytes 1 0))) ∧
      exec (.getEndpointId t src) s = answers 2 (leBytes 1 0 ++ leBytes 1 (((s.att.eids.find? (fun p => p.1 == T)).map Prod.snd).getD 0) ++ [0, 0]) ∧
      (∀ ty : Byte, exec (.getMctpVersionSupport t src ty) s =
        answers 4 (if ty.toNat ∈ [0xFF, 0, 5, 6] then [0, 1, 0xF1, 0xF3, 0xF1, 0] else [0x80, 0])) ∧
      exec (.getMessageTypeSupport t src) s = answers 5 [0, 2, 5, 6] ∧
      (∀ (tag : BitVec 3) (seq : BitVec 2) sof eof bytes,
        let run := exec (.mctpPacket t src tag seq sof eof bytes) s
        let mine (x : Assembly) : Bool := x.transport == T && x.eid == E
        let cur := s.att.asm.find? mine
        let clear (v : State) : State := { v with att := { v.att with asm := v.att.asm.filter (fun x => !mine x) } }
        let k := bytes.length
        let v := if cur.isSome then attDrop (clear s) T E 1 k false else clear s
        (T = 0 → run = settled s) ∧
        (T ≠ 0 → sof = true → eof = true → run = settled v) ∧
        (T ≠ 0 → sof = true → eof = false → run = settled (if 4 ≤ (v.att.asm.filter (fun x => x.transport == T)).length then attDrop v T E 1 k false
          else { v with att := { v.att with asm := v.att.asm ++ [⟨T, E, tag.toNat, (seq.toNat + 1) % 4, bytes⟩] } })) ∧
        (T ≠ 0 → sof = false → cur = none → run = settled (attDrop s T E 1 k false)) ∧
        (∀ x, T ≠ 0 → sof = false → cur = some x →
          let total := x.bytes.length + k
          let next := x.tag = tag.toNat ∧ x.seq = seq.toNat
          (¬ next → run = settled (attDrop (clear s) T E 1 total false)) ∧
          (next → 8192 < total → run = settled (attDrop (clear s) T E 2 total true)) ∧
          (next → total ≤ 8192 → eof = true → run = settled (clear s)) ∧
          (next → total ≤ 8192 → eof = false → run = settled { s with att := { s.att with asm := s.att.asm.map (fun y => if mine y then { y with seq := (seq.toNat + 1) % 4, bytes := y.bytes ++ bytes } else y) } })))) ∧
    (∀ (d : Fin 16), (domState s 1 ≠ 0 ∨ refreshOf s d.val = none) →
      exec (.downstreamResponseTimeout d) s = settled s ∧ ∀ msg, exec (.downstreamResponse d msg) s = settled s) ∧
    (∀ (d : Fin 16) r, domState s 1 = 0 → refreshOf s d.val = some r →
      let D := d.val
      let fails (step err : Nat) : State :=
        let v := refreshFail s D step err
        match (dsHolds v D).bind (compEntry v) with
        | some e => (fwCommit v (holdRecs e.holds true)).1
        | none => v
      let on (k : Nat) (chain vca : List Byte) : State := dsSend { s with att := { s.att with refresh := s.att.refresh.map (fun r => if r.peer = D then { r with step := k, retries := 0, chain := chain, vca := vca } else r) } } D k
      exec (.downstreamResponseTimeout d) s = settled (if r.retries < 2 then dsSend { s with att := { s.att with refresh := s.att.refresh.map (fun x => if x.peer = D then { x with retries := x.retries + 1 } else x) } } D r.step else fails r.step 0) ∧
      ∀ en msg, dsEntry s D = some en →
        let run := exec (.downstreamResponse d msg) s
        let code := leAt msg 1 1
        (code = 0x7F → run = settled (fails r.step (leAt msg 2 1))) ∧
        (code ≠ 0x7F → r.step = 1 → run = settled (if code = 0x63 ∧ bitOf (leAt msg 12 4) 7 = true ∧ bitOf (leAt msg 16 4) 1 = true
          then on 2 [] msg else fails 1 0)) ∧
        (code ≠ 0x7F → r.step = 2 → run = settled (if code = 0x02 ∧ (msg.drop 12).take 48 = (en.drop 16).take 48
          then on 3 (msg.drop 8) r.vca else fails 2 0)) ∧
        (code ≠ 0x7F → r.step ≠ 1 → r.step ≠ 2 →
          let dig := spdmDigest 0x12 "responder-measurements signing" (r.vca ++ [0x12, 0xE0] ++ r.req ++ msg.take (msg.length - 96))
          run = settled (if code ≠ 0x60 ∨ msg.length < 96 then fails 3 0
            else if (Config.peerKey r.chain).any (fun k => verifySig 1 k dig (msg.drop (msg.length - 96))) then refreshOk s D msg
            else fails 4 0)))

/-- GET_VERSION, GET_CAPABILITIES, NEGOTIATE_ALGORITHMS, GET_DIGESTS, GET_CERTIFICATE, CHALLENGE, GET_MEASUREMENTS,
KEY_EXCHANGE, FINISH, HEARTBEAT, END_SESSION, RESPOND_IF_READY, SESSION_TIMEOUT, SECURED_MESSAGE and
PREPARED_RESPONSE_EXPIRY (R296-R304, R307). -/
def Obligations.SpdmRequests : Prop :=
  ∀ (s : State) (t : Fin 6) (e : Byte) (ses : Option Word) (msg : List Byte) (us : Word),
    let T := t.val
    let E := e.toNat
    let S := ses.map BitVec.toNat
    let n := msg.length
    let got := s.inc Reg.ATT_CNT_RX
    let ver := leAt msg 0 1
    let bytes (code : Nat) (data : List Byte) : List Byte := leBytes 1 ver ++ leBytes 1 code ++ data
    let reply (v : State) (req code : Nat) (data : List Byte) (signed : Bool) : Out := settled (respond' v T E S req code data signed us.toNat)
    let noting (v : State) (f : AttCtx → List Byte → AttCtx) (code : Nat) (data : List Byte) : Out :=
      reply (mapCtx v T E (fun c => f c (msg ++ bytes code data))) (leAt msg 1 1) code data false
    let inVca (c : AttCtx) (b : List Byte) : AttCtx := { c with transcript := c.transcript ++ b }
    let inCerts (c : AttCtx) (b : List Byte) : AttCtx := { c with certs := c.certs ++ b }
    let inMeas (c : AttCtx) (b : List Byte) : AttCtx := { c with meas := c.meas ++ b }
    let err (v : State) (code : Nat) : Out := settled (attError v T E S code 0)
    let chained : List (Instr × Nat) := [(.getDigests t e ses msg us, 4), (.getCertificate t e ses msg us, 8),
      (.challenge t e ses msg us, if ver = 0x13 then 44 else 36), (.keyExchange t e ses msg us, 138 + leAt msg 136 2)]
    let rows : List (Instr × Nat) := chained ++ [(.getCapabilities t e ses msg us, 20), (.negotiateAlgorithms t e ses msg true us, leAt msg 4 2),
      (.negotiateAlgorithms t e ses msg false us, leAt msg 4 2), (.finish t e ses msg us, 52), (.heartbeat t e ses msg us, 4), (.endSession t e ses msg us, 4),
      (.getMeasurements t e ses msg us, if bitOf (leAt msg 2 1) 0 = false then 4 else if ver = 0x13 then 45 else 37)]
    let answers := domState s 1 = 0 ∧ (2 ≤ T ∨ s.bit Reg.HST_LINK 9 = true) ∧ transportUp s T = true
    (s.pwr.down = false → ¬ answers → ∀ r ∈ rows ++ [(.getVersion t e msg us, 4)], exec r.1 s = settled s) ∧
    (s.pwr.down = false → answers →
      (∀ r ∈ rows, (n < 4 → exec r.1 s = settled (attDrop got T E 7 n false)) ∧ (4 ≤ n → n ≠ r.2 → exec r.1 s = settled (attDrop got T E 4 n true S)) ∧
        (4 ≤ n → n = r.2 → S.any (fun i => (sessionOf s i).isNone) = true → exec r.1 s = settled (attDrop got T E 6 n false))) ∧
      (n < 4 → exec (.getVersion t e msg us) s = settled (attDrop got T E 7 n false)) ∧
      (4 < n → exec (.getVersion t e msg us) s = settled (attDrop got T E 4 n true)) ∧
      (n = 4 →
        let v := mapCtx (takeCtx got T E) T E (fun c =>
          { c with version := true, caps := false, algs := none, transcript := [], certs := [], meas := [], used := (takeCtx got T E).ot })
        let data : List Byte := [0, 0, 0, 2] ++ leBytes 2 0x1200 ++ leBytes 2 0x1300
        (ctxOf v T E = none → exec (.getVersion t e msg us) s = settled v) ∧
        ((ctxOf v T E).isSome = true → exec (.getVersion t e msg us) s =
          settled (respond' (mapCtx v T E (fun c => inVca c (msg ++ bytes 0x04 data))) T E none (leAt msg 1 1) 0x04 data false us.toNat)))) ∧
    (Asked s t e ses → ∀ r ∈ rows, n = r.2 → 4 ≤ n → ctxOf s T E = none → exec r.1 s = err got 0x04) ∧
    (∀ c, Asked s t e ses → ctxOf s T E = some c →
      let u := noted s t e
      (∀ r ∈ chained, n = r.2 → 4 ≤ n →
        (c.algs = none → exec r.1 s = err u 0x04) ∧ (c.algs = some false → exec r.1 s = err u 0x07) ∧
        (c.algs = some true → identity u = false → exec r.1 s = err u 0x05)) ∧
      (n = 20 →
        (c.version = false → exec (.getCapabilities t e ses msg us) s = err u 0x04) ∧
        (c.version = true → exec (.getCapabilities t e ses msg us) s =
          noting (mapCtx u T E (fun c => { c with caps := true, dts := leAt msg 12 4 })) inVca 0x61
            ([0, 0, 0, 12, 0, 0] ++ leBytes 4 (2 + 4 + 0x10 + 0x20 + 0x40 + 0x80 + 0x200 + 0x2000) ++ leBytes 4 8192 ++ leBytes 4 8192))) ∧
      (∀ ok, 4 ≤ n → n = leAt msg 4 2 →
        let sel (x : Nat) : Nat := if ok then x else 0
        (c.caps = false → exec (.negotiateAlgorithms t e ses msg ok us) s = err u 0x04) ∧
        (c.caps = true → exec (.negotiateAlgorithms t e ses msg ok us) s = noting (mapCtx u T E (fun c => { c with algs := some ok })) inVca 0x63
          ([3, 0] ++ leBytes 2 48 ++ leBytes 1 1 ++ [0] ++ leBytes 4 (sel 2) ++ leBytes 4 (sel 0x80) ++ leBytes 4 (sel 2) ++ List.replicate 16 0 ++
            leBytes 2 2 ++ leBytes 2 (sel 0x10) ++ leBytes 2 3 ++ leBytes 2 (sel 2) ++ leBytes 2 5 ++ leBytes 2 (sel 1)))) ∧
      (c.algs = some true → identity u = true →
        let all := chain u false
        (n = 4 → exec (.getDigests t e ses msg us) s = noting u inCerts 0x01 ([0, 1] ++ (sha384 all))) ∧
        (n = 8 →
          let off := leAt msg 4 2
          let part := (all.drop off).take (min (leAt msg 6 2) (min 8184 (c.dts - 8)))
          exec (.getCertificate t e ses msg us) s = if leAt msg 2 1 % 16 ≠ 0 ∨ all.length ≤ off then err u 0x01
            else noting u inCerts 0x02 ([0, 0] ++ leBytes 2 part.length ++ leBytes 2 (all.length - off - part.length) ++ part)) ∧
        (n = (if ver = 0x13 then 44 else 36) →
          (leAt msg 2 1 ≠ 0 → exec (.challenge t e ses msg us) s = err u 0x01) ∧
          (leAt msg 2 1 = 0 →
            let r := attRandom u 32
            let d := [0, 1] ++ (sha384 all) ++ r.1 ++ measSummary u (min 2 (leAt msg 3 1)) ++ leBytes 2 0 ++ msg.drop 36
            let g := spdmSign r.2 ver "responder-challenge_auth signing" (c.transcript ++ c.certs ++ msg ++ bytes 0x03 d)
            exec (.challenge t e ses msg us) s = reply (mapCtx g.2 T E (fun c => { c with certs := [] })) 0x83 0x03 (d ++ g.1) true)) ∧
        (n = 138 + leAt msg 136 2 →
          let full := 2 ≤ u.att.sessions.length
          let busy := u.att.sessions.any (fun x => !x.established)
          let point := ecDecode (4 :: (msg.drop 40).take 96)
          (full → exec (.keyExchange t e ses msg us) s = err u 0x0A) ∧
          (¬ full → busy = true → exec (.keyExchange t e ses msg us) s = err u 0x03) ∧
          (¬ full → busy = false → (leAt msg 3 1 ≠ 0 ∨ point = none) → exec (.keyExchange t e ses msg us) s = err u 0x01) ∧
          (∀ q, ¬ full → busy = false → leAt msg 3 1 = 0 → point = some q →
            let r := attRandom u 34
            let k := drawRandom r.2 48
            let b := u.att.sessions.any (fun x => !x.groupB)
            let d := leBytes 1 60 ++ [0] ++ r.1.take 2 ++ [0, 0] ++ r.1.drop 2 ++ (ecPublic k.1).drop 1 ++
              measSummary k.2 (min 2 (leAt msg 2 1)) ++ leBytes 2 0
            let hs := c.transcript ++ sha384 all ++ msg ++ bytes 0x64 d
            let g := spdmSign k.2 ver "responder-key_exchange_rsp signing" hs
            let secret := hmac384 (List.replicate 48 0) (ecShared k.1 (some q))
            let th := sha384 (hs ++ g.1)
            let rsp := expandAs secret ver 48 "rsp hs data" th
            let mac := verifyData rsp ver (hs ++ g.1)
            let x : Session := { id := leAt msg 4 2 + leNat (r.1.take 2) * 65536, transport := T, eid := E, established := false, groupB := b, ver := ver, hs := hs ++ g.1 ++ mac }
            let v := syncAtt { g.2 with att := { g.2.att with sessions := g.2.att.sessions ++ [x] } }
            exec (.keyExchange t e ses msg us) s = reply (putSecrets (v.setSigKey 7 { ty := 4, session := true, mat := secret }) (if b then 12 else 8) ver
              (expandAs secret ver 48 "req hs data" th) rsp) 0xE4 0x64 (d ++ g.1 ++ mac) true))) ∧
      (let signed := bitOf (leAt msg 2 1) 0
       let blocks := measBlocks u (leAt msg 3 1)
       let r := attRandom u 32
       let d := [0, 0] ++ leBytes 1 blocks.length ++ leBytes 3 blocks.flatten.length ++ blocks.flatten ++ r.1 ++ leBytes 2 0 ++
         (if ver = 0x13 then takePad 8 (msg.drop 37) else [])
       let g := spdmSign r.2 ver "responder-measurements signing" (c.transcript ++ c.meas ++ msg ++ bytes 0x60 d)
       n = (if signed = false then 4 else if ver = 0x13 then 45 else 37) →
        let bad := blocks = [] ∨ (signed = true ∧ leAt msg 36 1 % 16 ≠ 0)
        (bad → exec (.getMeasurements t e ses msg us) s = err u 0x01) ∧
        (¬ bad → signed = false → exec (.getMeasurements t e ses msg us) s = noting r.2 inMeas 0x60 d) ∧
        (¬ bad → signed = true → c.algs = none → exec (.getMeasurements t e ses msg us) s = err u 0x04) ∧
        (¬ bad → signed = true → c.algs = some false → exec (.getMeasurements t e ses msg us) s = err u 0x07) ∧
        (¬ bad → signed = true → c.algs = some true → exec (.getMeasurements t e ses msg us) s =
          reply (mapCtx g.2 T E (fun c => { c with meas := [] })) 0xE0 0x60 (d ++ g.1) true)) ∧
      (∀ x, S.bind (sessionOf u) = some x →
        let secret := (u.sigKey (sessionSlot x)).bytes
        (n = 52 → x.established = true → exec (.finish t e ses msg us) s = err u 0x04) ∧
        (n = 52 → x.established = false → verifyData secret ver (x.hs ++ msg.take 4) ≠ (msg.drop 4).take 48 →
          exec (.finish t e ses msg us) s = settled (endSession (attError u T E S 0x06 0) x.id 2)) ∧
        (n = 52 → x.established = false → verifyData secret ver (x.hs ++ msg.take 4) = (msg.drop 4).take 48 →
          let v : State := { u with att := { u.att with sessions := u.att.sessions.map (fun y => if y.id = x.id then { y with established := true, got := 0, hs := [] } else y) } }
          let master := hmac384 (expandAs (u.sigKey 7).bytes ver 48 "derived" []) (List.replicate 48 0)
          let th := sha384 (x.hs ++ msg ++ bytes 0x65 [0, 0])
          let w := putSecrets (v.setSigKey 7 {}) (sessionSlot x) ver (expandAs master ver 48 "req app data" th) (expandAs master ver 48 "rsp app data" th)
          exec (.finish t e ses msg us) s =
            reply (attLog (syncAtt w) Ev.SESSION_OPENED T (leBytes 4 x.id ++ leBytes 1 E)) 0xE5 0x65 [0, 0] false) ∧
        (n = 4 → exec (.heartbeat t e ses msg us) s = if x.established then reply u 0xE8 0x68 [0, 0] false else err u 0x04) ∧
        (n = 4 → exec (.endSession t e ses msg us) s = settled (endSession (respond' u T E S 0xEC 0x6C [0, 0] false us.toNat) x.id 0))) ∧
      (S.bind (sessionOf u) = none → (n = 52 → exec (.finish t e ses msg us) s = err u 0x04) ∧
        (n = 4 → exec (.heartbeat t e ses msg us) s = err u 0x04 ∧ exec (.endSession t e ses msg us) s = err u 0x04)) ∧
      (s.att.importing = none → n = 4 →
        (∀ code data, c.prepared = some (code, data) → exec (.respondIfReady t e ses msg us) s =
          reply (mapCtx u T E (fun c => { c with prepared := none })) 0xFF code data false) ∧
        (c.prepared = none → s.att.exporting.any (fun x => x.1 == T && x.2.1 == E) = true →
          exec (.respondIfReady t e ses msg us) s = settled (attError u T E S 0x42 12)) ∧
        (c.prepared = none → s.att.exporting.any (fun x => x.1 == T && x.2.1 == E) = false → exec (.respondIfReady t e ses msg us) s = err u 0x04))) ∧
    (Asked s t e ses → s.att.importing.isSome = true →
      exec (.respondIfReady t e ses msg us) s = settled (respondIfReady (importCommit s) T E S msg us.toNat)) ∧
    (s.pwr.down = false → exec (.preparedResponseExpiry t e) s = settled (mapCtx s T E (fun c => { c with prepared := none }))) ∧
    (∀ id : Word, s.pwr.down = false →
      let heard := domState s 1 = 0 ∧ (2 ≤ T ∨ s.bit Reg.HST_LINK 9 = true)
      (¬ heard → ∀ k cipher, exec (.securedMessage t e id k cipher) s = settled s) ∧
      (sessionOf s id.toNat = none → exec (.sessionTimeout id) s = settled s ∧
        (heard → ∀ k cipher, exec (.securedMessage t e id k cipher) s = settled (attDrop got T E 6 cipher.length false))) ∧
      (∀ x, sessionOf s id.toNat = some x →
        exec (.sessionTimeout id) s = settled (closeSessions ((List.range 4).foldl (fun s k => s.setSigKey (sessionSlot x + k) {}) s) (fun y => y.id == id.toNat) 1) ∧
        (heard → ∀ k cipher,
          let aad := leBytes 4 id.toNat ++ (if T = 0 then [] else leBytes 2 x.got) ++ leBytes 2 cipher.length
          let plain := aeadOpen (got.sigKey (sessionSlot x + 2)).bytes (messageIv got x) aad cipher
          let counted : State := { got with att := { got.att with sessions := got.att.sessions.map (fun y => if y.id = id.toNat then { y with got := y.got + 1 } else y) } }
          exec (.securedMessage t e id k cipher) s = settled (if k ≠ cipher.length ∨ plain = none
            then endSession (attDrop got T E 6 cipher.length false) id.toNat 2 else mapCtx counted T E (fun c => { c with used := got.ot })))))

/-- GET_PQC_CHAIN, PQC_ATTEST, GET_REPORT, CUSTODY_EXPORT, PUT_OBJECT, CUSTODY_IMPORT, GET_OBJECT, RELEASE_OBJECT,
OBJECT_BUFFER_TIMEOUT, DS_SET and DS_REFRESH (R258, R298, R308-R312). -/
def Obligations.VendorOperations : Prop :=
  (∀ (s : State) (t : Fin 6) (e : Byte) (ses : Option Word) (msg : List Byte) (us : Word), s.pwr.down = false → s.att.importing = none →
    let answers := domState s 1 = 0 ∧ (2 ≤ t.val ∨ s.bit Reg.HST_LINK 9 = true) ∧ transportUp s t.val = true
    let p := msg.drop 11
    ∀ r ∈ [(Instr.getPqcChain t e ses msg us, 8), (.pqcAttest t e ses msg us, 38), (.getReport t e ses msg us, 4),
      (.custodyExport t e ses msg us, 4), (.putObject t e ses msg us, 10 + leAt msg 19 2), (.getObject t e ses msg us, 10),
      (.releaseObject t e ses msg us, 4), (.custodyImport t e ses msg us, 4)],
      (¬ answers → exec r.1 s = settled s) ∧
      (answers → 4 ≤ msg.length → leAt msg 9 2 = p.length → p.length = r.2 → ses.any (fun i => (sessionOf s i.toNat).isNone) = true →
        exec r.1 s = settled (attDrop (s.inc Reg.ATT_CNT_RX) t.val e.toNat 6 msg.length false))) ∧
  (∀ (s : State) (t : Fin 6) (e : Byte) (ses : Option Word) (msg : List Byte) (us : Word), Asked s t e ses →
    let T := t.val
    let E := e.toNat
    let S := ses.map BitVec.toNat
    let n := msg.length
    let p := msg.drop 11
    let got := s.inc Reg.ATT_CNT_RX
    let rows : List (Instr × Nat × Nat) := [(.getPqcChain t e ses msg us, 8, 9), (.pqcAttest t e ses msg us, 38, 9), (.getReport t e ses msg us, 4, 0),
      (.custodyExport t e ses msg us, 4, 8), (.putObject t e ses msg us, 10 + leAt msg 19 2, 8), (.getObject t e ses msg us, 10, 0),
      (.releaseObject t e ses msg us, 4, 0)]
    let fits (want : Nat) : Prop := 4 ≤ n ∧ leAt msg 9 2 = p.length ∧ p.length = want
    (∀ r ∈ rows ++ (if s.att.importing = none then [(Instr.custodyImport t e ses msg us, 4, 8)] else []),
      (n < 4 → exec r.1 s = settled (attDrop got T E 7 n false)) ∧
      (4 ≤ n → (leAt msg 9 2 ≠ p.length ∨ p.length ≠ r.2.1) → exec r.1 s = settled (attDrop got T E 5 n true S)) ∧
      (fits r.2.1 → ctxOf s T E = none → exec r.1 s = settled (attError got T E S 0x04 0)) ∧
      (fits r.2.1 → (ctxOf s T E).isSome = true → T ≤ 1 → r.2.2 ≠ 0 → hasFeature got 0 r.2.2 = false →
        exec r.1 s = settled (attError got T E S 0x07 0))) ∧
    (∀ c, ctxOf s T E = some c →
      let u := noted s t e
      let may (f : Nat) : Prop := T ≤ 1 → hasFeature got 0 f = true
      let vd (op st h total : Nat) (data : List Byte) : List Byte := leBytes 2 3 ++ leBytes 1 2 ++ leBytes 2 0x1F3B ++ leBytes 2 (8 + data.length) ++
        leBytes 1 op ++ leBytes 1 st ++ leBytes 2 h ++ leBytes 4 total ++ data
      let send (v : State) (data : List Byte) (signed : Bool) : State := respond' v T E S 0xFE 0x7E data signed us.toNat
      let say (v : State) (op st h : Nat) : State := send v (vd op st h 0 []) false
      let full (v : State) : Prop := 4 ≤ v.att.objs.length + b2n v.att.exporting.isSome + b2n v.att.importing.isSome
      let prepare (v : State) (op kind : Nat) (body : List Byte) (sigs : Nat) : State :=
        if 4 ≤ v.att.objs.length + b2n v.att.exporting.isSome + b2n v.att.importing.isSome then say v op 2 0
        else
          let o := signObject v kind body sigs
          let r := putObject o.2 T E false o.1
          send r.1 (vd op 0 r.2 o.1.length []) true
      (fits 8 → may 9 →
        let all := chain u true
        exec (.getPqcChain t e ses msg us) s = settled (if identity u = false then attError u T E S 0x05 0
          else if 4096 < leAt p 6 2 ∨ all.length < leAt p 4 2 then say u 1 6 0
          else send u (vd 1 0 0 all.length ((all.drop (leAt p 4 2)).take (leAt p 6 2))) false)) ∧
      (fits 38 → may 9 →
        let i := leAt p 36 1
        let sigs := leAt p 37 1 % 4
        let blocks := if i = 0 then [] else measBlocks u i
        let r := attRandom u 32
        exec (.pqcAttest t e ses msg us) s = settled (if sigs = 0 ∨ (i ≠ 0 ∧ blocks.isEmpty = true) then say u 2 6 0
          else prepare r.2 2 1 ((p.drop 4).take 32 ++ r.1 ++ leBytes 4 blocks.length ++ leBytes 4 0 ++ blocks.flatten) sigs)) ∧
      (fits 4 →
        let arg := leAt p 2 2
        let who := transportSender T
        let body := bodyOf u (if arg = 0xFFFF then .range who else .entry arg)
        (body = none → exec (.getReport t e ses msg us) s = settled (say u 3 6 0)) ∧
        (∀ b, body = some b → exec (.getReport t e ses msg us) s = settled (prepare u 3 2 (signedBody u b) 3)) ∧
        (objectOf u T E arg = none → exec (.releaseObject t e ses msg us) s = settled (say u 8 6 arg)) ∧
        (∀ o, objectOf u T E arg = some o → exec (.releaseObject t e ses msg us) s = settled (say
          (syncAtt { u with att := { u.att with objs := u.att.objs.filter (fun x => x.handle != o.handle) } }) 8 0 o.handle))) ∧
      (fits 4 → may 8 →
        let open' := ldgState u = 2 ∨ ldgState u = 4
        let f := evrFlush u 0
        let v := attError { f with att := { f.att with exporting := some (T, E, 0) } } T E S 0x42 12
        exec (.custodyExport t e ses msg us) s = settled (if 2 < T then say u 4 1 0 else if ¬ open' then say u 4 3 0
          else if 4 ≤ u.att.objs.length + b2n u.att.exporting.isSome + b2n u.att.importing.isSome ∨ u.att.exporting.isSome = true then say u 4 2 0
          else if epochNeeded v = true ∨ ldgCommitting v = true then epochBegin v [.custody] else exportFinish v)) ∧
      (fits (10 + leAt msg 19 2) → may 8 →
        let h := leAt p 2 2
        let off := leAt p 4 4
        let data := p.drop 10
        let put := exec (.putObject t e ses msg us) s
        (4096 < data.length → put = settled (say u 5 6 h)) ∧
        (data.length ≤ 4096 → h = 0 → put = settled (if 4 ≤ u.att.objs.length + b2n u.att.exporting.isSome + b2n u.att.importing.isSome then say u 5 2 0 else if off ≠ 0 then say u 5 6 0
          else let r := putObject u T E true data; say r.1 5 0 r.2)) ∧
        (data.length ≤ 4096 → h ≠ 0 → objectOf u T E h = none → put = settled (say u 5 6 h)) ∧
        (∀ o, data.length ≤ 4096 → h ≠ 0 → objectOf u T E h = some o →
          put = settled (if o.upload = false ∨ off ≠ o.bytes.length ∨ 65536 < off + data.length then say u 5 6 h
            else say { u with att := { u.att with objs := u.att.objs.map (fun x => if x.handle = h then { x with bytes := x.bytes ++ data } else x) } } 5 0 h))) ∧
      (fits 10 →
        let h := leAt p 2 2
        let b := if h = 0xFFFE then (if u.att.counter.isEmpty then none else some u.att.counter) else (objectOf u T E h).map (fun o => o.bytes)
        (b = none → exec (.getObject t e ses msg us) s = settled (say u 7 6 h)) ∧
        (∀ x, b = some x → exec (.getObject t e ses msg us) s = settled (if 4096 < leAt p 8 2 ∨ x.length < leAt p 4 4 then say u 7 6 h
          else send u (vd 7 0 h x.length ((x.drop (leAt p 4 4)).take (leAt p 8 2))) false))) ∧
      (fits 4 → may 8 → s.att.importing = none →
        let h := leAt p 2 2
        let take := exec (.custodyImport t e ses msg us) s
        (2 < T → take = settled (say u 6 1 h)) ∧
        (T ≤ 2 → objectOf u T E h = none → take = settled (say u 6 6 h)) ∧
        (∀ o, T ≤ 2 → objectOf u T E h = some o → full u → take = settled (say u 6 2 h)) ∧
        (∀ o, T ≤ 2 → objectOf u T E h = some o → ¬ full u →
          let v := attError { u with att := { u.att with importing := some (T, E, h) } } T E S 0x42 12
          let r := fwCommit v [⟨0x06, 0, 1, 0, importEntry v o.bytes⟩]
          take = settled (match importFault u o.bytes with
            | some (k, st) => vendorReady (attLog (attError u T E S 0x42 12) Ev.CUSTODY_REFUSED T (leBytes 1 6 ++ leBytes 1 k ++ leBytes 1 st)) T E 6 st h 0
            | none =>
              if r.2 = 0 then importFinish (ldgLog r.1 Ev.EPOCH_COMMITTED (leBytes 8 (ldgEpoch r.1) ++ (ldgRoot r.1).take 28))
              else if r.2 = 0x01 ∨ r.2 = 0x14 then r.1
              else vendorReady (attLog { r.1 with att := { r.1.att with importing := none } } Ev.CUSTODY_REFUSED T
                (leBytes 1 6 ++ [0] ++ leBytes 1 3)) T E 6 3 h 0)))) ∧
    (s.att.importing.isSome = true → exec (.custodyImport t e ses msg us) s = settled (importCommit (custodyImport s T E S msg us.toNat)))) ∧
  (∀ (s : State) (h : BitVec 16), s.pwr.down = false → exec (.objectBufferTimeout h) s =
    settled (syncAtt { s with att := { s.att with objs := s.att.objs.filter (fun o => o.handle != h.toNat) } })) ∧
  (∀ (s : State) (tag : Byte) (d : BitVec 16), s.pwr.down = false →
    let due := domState s 1 = 0 ∧ (dsEntry s d.toNat).any (fun b => bitOf (leAt b 4 1) 0) = true ∧ refreshOf s d.toNat = none ∧ d.toNat < 16 ∧
      (dsEntry s d.toNat).any (fun b => leAt b 8 4 != 0) = true
    (due → exec (.dsRefresh none tag d) s = settled (refreshBegin s d.toNat none)) ∧ (¬ due → exec (.dsRefresh none tag d) s = settled s)) ∧
  (∀ (s : State) (q : Sender) (tag : Byte) (d : BitVec 16), Heard s q →
    let b := behalf s q
    let w (code : Nat) : Nat := code + d.toNat * 2 ^ 8 + tag.toNat * 2 ^ 24
    let may := q = .inst 0 ∨ q = .agent 0
    (¬ may → exec (.dsRefresh (some q) tag d) s = answered b q (w 0x71) 1 [] ∧ ∀ a en k, exec (.dsSet q tag d a en k) s = answered b q (w 0x70) 1 []) ∧
    (may → 16 ≤ d.toNat → exec (.dsRefresh (some q) tag d) s = answered b q (w 0x71) 6 [] ∧ ∀ a en k, exec (.dsSet q tag d a en k) s = answered b q (w 0x70) 6 []) ∧
    (may → d.toNat < 16 →
      (dsEnabled b d.toNat = false → exec (.dsRefresh (some q) tag d) s = answered b q (w 0x71) 3 []) ∧
      (dsEnabled b d.toNat = true → (refreshOf b d.toNat).isSome = true → exec (.dsRefresh (some q) tag d) s = answered b q (w 0x71) 2 []) ∧
      (dsEnabled b d.toNat = true → refreshOf b d.toNat = none → exec (.dsRefresh (some q) tag d) s =
        served (refreshBegin (b.answer q (w 0x71) 7 [] false) d.toNat (some (q, w 0x71)))) ∧
      (∀ (a : Dword) (k : Fin 4), exec (.dsSet q tag d a none k) s = served (readFailed b q (w 0x70) a.toNat k.val)) ∧
      (∀ a en k,
        let ok := en.length = 64 ∧ (leAt en 0 1 = 2 ∨ leAt en 0 1 = 3) ∧ leAt en 1 1 < 128 ∧ (leAt en 3 1 < 64 ∨ leAt en 3 1 = 0xFF) ∧ leAt en 4 1 < 4 ∧
          leAt en 5 3 = 0 ∧ leAt en 12 4 = 0
        let v := dropRefresh (refreshAnswer b d.toNat 3) d.toNat
        let v := setDsVal { v with att := { v.att with ds := v.att.ds.filter (fun p => p.1 != d.toNat) ++ [(d.toNat, en)] } } d.toNat (List.replicate 48 0)
        (ok → exec (.dsSet q tag d a (some en) k) s = answered (v.wr (Reg.ATT_DS_STAT d.toNat) (BitVec.ofNat 32 (leAt en 4 1 % 2))) q (w 0x70) 0 []) ∧
        (¬ ok → exec (.dsSet q tag d a (some en) k) s = answered b q (w 0x70) 6 []))))

/-- MBX_DATA_WRITE, MBX_GO, MBX_TAKE, MBX_DONE, MBX_AGT_RESET, I3C_TARGET_RESET, CHANNEL_SHUTDOWN_DONE, MBX_STALL,
AGENT_RETURN and KNOCK (R317, R319-R321, R324-R328, R394). -/
def Obligations.Mailboxes : Prop :=
  (∀ (s : State) (p : Party) (n : Fin 64),
    let u := touched s p
    let N := n.val
    let bad (a : Nat) : State := (u.inc (Reg.MBX_CNT_BAD N)).log Ev.BAD_WRITER .mailbox N (leBytes 4 a ++ leBytes 1 p.origin.code)
    let sends := mbxEn u N = true ∧ mbxIdentity u p = some (mbxSender u N)
    let gets := mbxEn u N = true ∧ mbxIdentity u p = some (mbxReceiver u N)
    (∀ (k : Fin 16) v (be : BitVec 4), Mailing s p .store (Reg.MBX_DATA N k.val) →
      (be = 0xF ∨ ∃ c, p = .core c) →
      (¬ sends → exec (.mbxDataWrite p n k v be) s = settled (bad (Reg.MBX_DATA N k.val))) ∧
      (sends → mbxGo u N = true → exec (.mbxDataWrite p n k v be) s = settled (u.setBit (Reg.MBX_STAT N) 2 true)) ∧
      (sends → mbxGo u N = false → exec (.mbxDataWrite p n k v be) s = settled
        ((u.wr (Reg.MBX_DATA N k.val) (mergeBe (u.rd (Reg.MBX_DATA N k.val)) v be)).setBit (Reg.MBX_WMASK N) k.val true))) ∧
    (∀ (k : Fin 16) v (be : BitVec 4) x, Mailing s p .store (Reg.MBX_DATA N k.val) → be ≠ 0xF → p = .agent x →
      exec (.mbxDataWrite p n k v be) s = settled u) ∧
    (∀ len : BitVec 5, Mailing s p .store (Reg.MBX_CTL N) →
      let l := len.toNat
      let t := u.setF (Reg.MBX_CTL N) 12 8 l
      let mask := t.fld (Reg.MBX_WMASK N) 15 0
      let whole := 1 ≤ l ∧ l ≤ 16 ∧ mask % 2 ^ l = 2 ^ l - 1
      let shut := u.mbx.down.contains (mbxSender u N) = true ∨ u.mbx.down.contains (mbxReceiver u N) = true
      (¬ sends → exec (.mbxGo p n len) s = settled (bad (Reg.MBX_CTL N))) ∧
      (sends → (mbxGo u N = true ∨ u.bit (Reg.MBX_STAT N) 5 = true) → exec (.mbxGo p n len) s = settled u) ∧
      (sends → mbxGo u N = false → u.bit (Reg.MBX_STAT N) 5 = false → shut → exec (.mbxGo p n len) s = settled (t.setBit (Reg.MBX_STAT N) 5 true)) ∧
      (sends → mbxGo u N = false → u.bit (Reg.MBX_STAT N) 5 = false → ¬ shut → whole →
        let v := (t.wr (Reg.MBX_WMASK N) 0).setBit (Reg.MBX_CTL N) 0 true
        let v := v.setF (Reg.MBX_CTL N) 31 16 (v.fld (Reg.MBX_CTL N) 31 16 + 1)
        let v := (v.setBit (Reg.MBX_STAT N) 0 false).inc (Reg.MBX_CNT_POSTED N)
        exec (.mbxGo p n len) s = settled (mbxInterrupt v (mbxReceiver v N) N true)) ∧
      (sends → mbxGo u N = false → u.bit (Reg.MBX_STAT N) 5 = false → ¬ shut → ¬ whole →
        exec (.mbxGo p n len) s = settled ((((t.wr (Reg.MBX_WMASK N) 0).setBit (Reg.MBX_STAT N) 1 true).inc (Reg.MBX_CNT_REJECT N)).log
          Ev.LEN_MISMATCH .mailbox N (leBytes 1 l ++ leBytes 2 mask ++ leBytes 1 (mbxSender u N))))) ∧
    (Mailing s p .load (Reg.MBX_CTL N) →
      let fresh := mbxGo u N = true ∧ u.bit (Reg.MBX_STAT N) 0 = false
      (¬ (gets ∧ fresh) → exec (.mbxTake p n) s = settled u) ∧
      (gets → fresh → exec (.mbxTake p n) s = settled ((N :: mbxReverse u N).foldl
        (fun s m => s.setBit (Reg.MBX_STAT m) 4 false) (u.setBit (Reg.MBX_STAT N) 0 true)))) ∧
    (Mailing s p .store (Reg.MBX_DONE N) →
      (¬ gets → exec (.mbxDone p n) s = settled (bad (Reg.MBX_DONE N))) ∧
      (gets → mbxGo u N = false → exec (.mbxDone p n) s = settled u) ∧
      (gets → mbxGo u N = true →
        let t := (u.setBit (Reg.MBX_CTL N) 0 false).setBit (Reg.MBX_STAT N) 0 false
        let t := mbxInterrupt t (mbxSender t N) N false
        exec (.mbxDone p n) s = settled (match (List.finRange 4).find? (fun a => answerChannel t (0x28 + a.val) == some N) with
          | some a => postAnswer t a
          | none => t))) ∧
    (∀ a : Fin 4, Mailing s p .store (Reg.MBX_AGT_RESET a.val) →
      (p = .agent a →
        let t := mbxReset u [0x28 + a.val]
        exec (.mbxAgtReset p a) s = settled { t with mbx := { t.mbx with away := (t.mbx.away ++ [a]).eraseDups } }) ∧
      (p ≠ .agent a → exec (.mbxAgtReset p a) s = settled ((u.inc Reg.SBX_VIEW_DENY).log Ev.BAD_WRITER .mailbox (0x40 + a.val)
        (leBytes 4 (Reg.MBX_AGT_RESET a.val) ++ leBytes 1 p.origin.code))))) ∧
  (∀ (s : State), s.pwr.down = false →
    (∀ a : Fin 2,
      let t := mbxReset s [0x28 + a.val]
      exec (.i3cTargetReset a) s = settled { t with mbx := { t.mbx with away := (t.mbx.away ++ [a.castLE (by decide)]).eraseDups } }) ∧
    (∀ id : BitVec 6,
      let i := id.toNat
      let t : State := { s with mbx := { s.mbx with down := s.mbx.down.filter (· != i) } }
      exec (.channelShutdownDone id) s = settled (if s.mbx.down.contains i then (List.range 64).foldl (fun s n =>
        if s.bit (Reg.MBX_STAT n) 5 = true ∧ mbxShut s n = false then mbxDecide (s.setBit (Reg.MBX_STAT n) 5 false) n else s) t else s)) ∧
    (∀ n : Fin 64,
      let N := n.val
      let other := (mbxReverse s N).find? (fun m => mbxGo s m && !s.bit (Reg.MBX_STAT m) 0)
      let waits := mbxGo s N = true ∧ s.bit (Reg.MBX_STAT N) 0 = false ∧ s.bit (Reg.MBX_STAT N) 4 = false
      ((other = none ∨ ¬ waits) → exec (.mbxStall n) s = settled s) ∧
      (∀ m, other = some m → waits → exec (.mbxStall n) s = settled
        (((s.setBit (Reg.MBX_STAT N) 4 true).setBit (Reg.MBX_STAT m) 4 true).log Ev.MBX_STALL .mailbox N
          (leBytes 1 N ++ leBytes 1 m ++ leBytes 1 (mbxSender s N) ++ leBytes 1 (mbxReceiver s N))))) ∧
    (∀ a : Fin 4, exec (.agentReturn a) s = settled (if s.mbx.away.contains a
      then mbxReturned { s with mbx := { s.mbx with away := s.mbx.away.filter (· != a) } } (0x28 + a.val) else s)) ∧
    (∀ ticks,
      (s.bit (Reg.SBD_TGT_CFG 0) 8 = false ∨ 34 ≤ ticks → exec (.knock ticks) s = settled s) ∧
      (s.bit (Reg.SBD_TGT_CFG 0) 8 = true → ticks ≤ 31 →
        exec (.knock ticks) s = settled (wake (pwrLog s Ev.KNOCK 0 (leBytes 1 ticks)) 5)) ∧
      (s.bit (Reg.SBD_TGT_CFG 0) 8 = true → 31 < ticks → ticks < 34 →
        let f := s.freeBytes 1
        exec (.knock ticks) s = settled (if bitOf (f.1.getD 0 0).toNat 0 then wake (pwrLog f.2 Ev.KNOCK 0 (leBytes 1 ticks)) 5 else f.2))))

/-- DETECTOR_EVENT, LOCKDOWN_RECORD_JOURNALED, BACKUP_SAMPLE, CELL_WINDOW_TIMEOUT, TMP_LOCK_WRITE, UNLOCK,
CELL_SERVICE_OPEN, CELL_SERVICE_CLOSE, FUSE_SOURCE and TAMPER_STATUS (R330-R332, R335-R338, R340, R341, R344, R346, R347). -/
def Obligations.TamperEvents : Prop :=
  (∀ (s : State), s.pwr.down = false →
    (∀ (src : Fin 15) (det : Fin 2) (stamp : BitVec 48) lasting extra,
      let x := src.val
      let d := det.val
      let run := exec (.detectorEvent src det stamp lasting extra) s
      let t := s.setBit Reg.TMP_ACTIVE (2 * x + d) (lasting && !fused s x)
      (detectorOn t x d = false → run = settled t) ∧
      (detectorOn t x d = true →
        let k := max stamp.toNat (vbatTick t)
        let u := tickTo t k
        let again := u.tmp.ticked.any (fun p => p.1 == 2 * x + d && p.2 == k)
        (again = true → run = settled (wake u 4)) ∧
        (again = false →
          let v : State := { u with tmp := { u.tmp with ticked := (2 * x + d, k) :: u.tmp.ticked.filter (fun p => p.1 != 2 * x + d) } }
          let w := u.rd (Reg.TMP_SRC_CFG x)
          let forced := forcedNow v
          let thresh := if forced then 1 else if x = 14 then 1 else max (getBits w 3 0) 1
          let window := max (getBits w 31 16) 1
          let all := u.tmp.hist.filter (fun e => e.src == x && decide (k < e.stamp + window)) ++ [(⟨x, d, k⟩ : TmpEvent)]
          (all.length < thresh → run = settled (wake ((({ v with tmp := { v.tmp with hist := v.tmp.hist ++ [(⟨x, d, k⟩ : TmpEvent)] } } : State).inc
            (Reg.TMP_SRC_CNT x)).log Ev.DETECTOR_EVENT .tamper x
              (leBytes 1 (d + 1) ++ leBytes 6 k ++ leBytes 1 all.length ++ (if x = 14 ∧ d = 0 then takePad 12 extra else []))) 4)) ∧
          (thresh ≤ all.length →
            let resp := if x = 14 then 3 + 4 * getBits w 6 6 else getBits w 6 4
            let a := ({ v with tmp := { v.tmp with hist := v.tmp.hist.filter (fun e => e.src != x) } } : State).setBit Reg.TMP_ALARM x true
            let a := a.log Ev.ALARM .tamper x (leBytes 1 (detMask all) ++ leBytes 6 k ++ leBytes 1 thresh ++ leBytes 2 window ++
              leBytes 1 (resp + 8) ++ leBytes 1 (b2n forced))
            run = settled (wake (lockByAlarm (clearUnits (respond a resp x) (bitOf resp 2 && !inForce a 2)) x) 4))))) ∧
    (s.tmp.target = none → exec .lockdownRecordJournaled s = settled s) ∧
    (∀ target, s.tmp.target = some target →
      let t : State := { s with tmp := { s.tmp with target := none } }
      let was := s.fld Reg.TMP_EVIDENCE 10 0
      let now := max was (min target 1024)
      let u := (t.setF Reg.TMP_EVIDENCE 10 0 now).setBit Reg.TMP_STAT 6 (decide (1024 ≤ now))
      exec .lockdownRecordJournaled s = settled (if was < 1024 ∧ 1024 ≤ now then (mreg5Event u 3 now).log Ev.EVIDENCE_FULL .tamper 0xFF [] else u)) ∧
    (∀ cell,
      let t := s.setBit Reg.TMP_STAT 5 false
      exec (.cellWindowTimeout cell) s = settled (if s.bit Reg.TMP_STAT 5 = false then s
        else if cell then (({ t with tmp := { t.tmp with canary := true, canaryWord := true } } : State).setBit Reg.TMP_ACTIVE 27 false).log
          Ev.CELL_WINDOW .tamper 13 (leBytes 1 0)
        else t.log Ev.CELL_WINDOW .tamper 13 (leBytes 1 2))) ∧
    (∀ p, Writer s p Reg.TMP_CTL → ∃ t, Eventful s t ∧ exec (.tmpLockWrite p) s = settled (if t.bit Reg.TMP_CTL 0 then t
      else
        let u := t.setBit Reg.TMP_CTL 0 true
        { u with tmp := { u.tmp with vbatCfg := vbatWords.map (fun a => (a, u.rd a)) } }))) ∧
  (∀ (s : State) quiet (seen : BitVec 30),
    (¬ (s.pwr.down = true ∧ s.tmp.cell = true) → exec (.backupSample quiet seen) s = .next s) ∧
    (s.pwr.down = true → s.tmp.cell = true →
      let t := (vbatTick s + 32 * (quiet + 1)) % 2 ^ 48
      let saw := (List.range 15).filterMap (fun x => let d := bitsOf seen.toNat (2 * x + 1) (2 * x); if d = 0 then none else some (x, d))
      exec (.backupSample quiet seen) s = .next (backupSources (tickTo s t) t saw))) ∧
  (∀ (s : State) (q : Sender) (tag : Byte), Heard s q →
    let b (code : Nat) : State := taken s q code
    let may := q = .agent 0 ∨ q = .inst 0
    let word (code x : Nat) : Nat := reqWord code x 0 tag.toNat
    let used (i code : Nat) : State := useTicket (b code) i code
    (∀ ticket : Word,
      ((¬ may ∨ validTicket s q ticket 0 = none) → exec (.unlock q tag ticket) s = answered (b 0x50) q (word 0x50 0) 1 []) ∧
      ((¬ may ∨ validTicket s q ticket 3 = none) → exec (.cellServiceOpen q tag ticket) s = answered (b 0x51) q (word 0x51 0) 1 []) ∧
      (∀ src : BitVec 16, (¬ may ∨ validTicket s q ticket 4 = none) → exec (.fuseSource q tag src ticket) s = answered (b 0x53) q (word 0x53 src.toNat) 1 []) ∧
      (∀ i, may → validTicket s q ticket 0 = some i →
        (lockedDown s = false → exec (.unlock q tag ticket) s = answered (used i 0x50) q (word 0x50 0) 3 []) ∧
        (lockedDown s = true → s.tmp.unlock.isSome = true → exec (.unlock q tag ticket) s = answered (used i 0x50) q (word 0x50 0) 2 []) ∧
        (lockedDown s = true → s.tmp.unlock = none →
          let t := (b 0x50).answer q (word 0x50 0) 7 [] false
          let r := fwCommit { t with tmp := { t.tmp with unlock := none } } [⟨0x07, 0, 0, ticket.toNat, []⟩]
          let u := match ticketSlot r.1 ticket.toNat with
            | some i => useTicket r.1 i 0x50
            | none => r.1
          exec (.unlock q tag ticket) s = if t.ilk.reliefAbsent then served { t with tmp := { t.tmp with unlock := some (q, word 0x50 0, ticket.toNat) } }
            else answered u q (word 0x50 0) (txStatus r.2) [])) ∧
      (∀ i, may → validTicket s q ticket 3 = some i →
        let t := used i 0x51
        (s.bit Reg.TMP_STAT 5 = true → exec (.cellServiceOpen q tag ticket) s = answered t q (word 0x51 0) 2 []) ∧
        (s.bit Reg.TMP_STAT 5 = false → exec (.cellServiceOpen q tag ticket) s =
          answered ((t.setBit Reg.TMP_STAT 5 true).log Ev.CELL_WINDOW .tamper 13 (leBytes 1 1)) q (word 0x51 0) 0 [])) ∧
      (∀ i (src : BitVec 16), may → validTicket s q ticket 4 = some i →
        let x := src.toNat
        let run := exec (.fuseSource q tag src ticket) s
        let permitted := bitOf (((ticketAt s i).map Ticket.sources).getD 0) x
        let t := used i 0x53
        (14 ≤ x → run = answered t q (word 0x53 x) 6 []) ∧
        (x < 14 → permitted = false → run = answered (b 0x53) q (word 0x53 x) 1 []) ∧
        (x < 14 → permitted = true → s.bit Reg.TMP_FUSED x = true → run = answered t q (word 0x53 x) 0 []) ∧
        (x < 14 → permitted = true → s.bit Reg.TMP_FUSED x = false → lcState s ≠ 0 → lcState s ≠ 2 → run = answered t q (word 0x53 x) 3 []) ∧
        (x < 14 → permitted = true → s.bit Reg.TMP_FUSED x = false → (lcState s = 0 ∨ lcState s = 2) →
          let u := (((t.answer q (word 0x53 x) 7 [] false).setBit Reg.TMP_FUSED x true).setBit Reg.TMP_ACTIVE (2 * x) false).setBit Reg.TMP_ACTIVE
            (2 * x + 1) false
          run = answered (u.log Ev.SOURCE_FUSED .tamper x (leBytes 4 (u.rd Reg.TMP_FUSED).toNat)) q (word 0x53 x) 0 []))) ∧
    (∀ cell,
      (¬ may → exec (.cellServiceClose q tag cell) s = answered (b 0x52) q (word 0x52 0) 1 []) ∧
      (may → s.bit Reg.TMP_STAT 5 = false → exec (.cellServiceClose q tag cell) s = answered (b 0x52) q (word 0x52 0) 3 []) ∧
      (may → s.bit Reg.TMP_STAT 5 = true →
        let t := (b 0x52).setBit Reg.TMP_STAT 5 false
        exec (.cellServiceClose q tag cell) s = answered (if cell then (({ t with tmp := { t.tmp with canary := true, canaryWord := true } } : State).setBit
          Reg.TMP_ACTIVE 27 false).log Ev.CELL_WINDOW .tamper 13 (leBytes 1 0) else t) q (word 0x52 0) 0 [])) ∧
    ((¬ may ∧ q ≠ .agent 1) → exec (.tamperStatus q tag) s = answered (b 0x54) q (word 0x54 0) 1 []) ∧
    ((may ∨ q = .agent 1) → exec (.tamperStatus q tag) s = answered (b 0x54) q (word 0x54 0) 0
      ([Reg.TMP_STAT, Reg.TMP_ALARM, Reg.TMP_ACTIVE, Reg.TMP_FUSED, Reg.TMP_EVIDENCE].flatMap (fun a => leBytes 4 (s.rd a).toNat))))

/-- EVR_WRITE_AGED, EVR_FLUSH_DONE, EVR_RECLAIM, NVM_FAULT_RETRY, EVR_CURSOR_WRITE, CORRELATE and SNAPSHOT (R352-R356,
R358, R361, R416, R418). -/
def Obligations.RecorderCommands : Prop :=
  (∀ (s : State), s.pwr.down = false →
    let e := s.evr
    exec .evrWriteAged s = settled (if e.nvmFault = true ∨ e.suspended = true then s else writeAged s e.dirty) ∧
    exec .evrReclaim s = settled (if e.reclaiming = false ∨ e.suspended = true then s else s.setEvr { e.reclaimed with reclaiming := e.reclaimed.crowded }) ∧
    (∀ fails, (e.writing = false ∨ e.suspended = true ∨ e.nvmFault = true) → exec (.evrFlushDone fails) s = settled s) ∧
    (∀ fails, e.writing = true → e.suspended = false → e.nvmFault = false →
      (e.dirty = [] → exec (.evrFlushDone fails) s = settled { s with evr := { e with writing := false } }) ∧
      (∀ r rs, e.dirty = r :: rs →
        let t : State := { s with evr := (List.replicate (min fails 3) ⟨r, false⟩).foldl Recorder.push e }
        (fails < 3 → exec (.evrFlushDone fails) s = settled (let u := writeRecords t false (r :: rs)
          { u with evr := { u.evr with writing := false } })) ∧
        (3 ≤ fails → exec (.evrFlushDone fails) s = settled (evrNvmFault t)))) ∧
    (∀ ok, (e.nvmFault = false ∨ e.suspended = true) → exec (.nvmFaultRetry ok) s = settled s) ∧
    (e.nvmFault = true → e.suspended = false →
      exec (.nvmFaultRetry true) s = settled (evrFlush { s with evr := { e with nvmFault := false } } 0) ∧
      (e.dirty = [] → exec (.nvmFaultRetry false) s = settled s) ∧
      (∀ r rs, e.dirty = r :: rs → exec (.nvmFaultRetry false) s = settled { s with evr := e.push ⟨r, false⟩ }))) ∧
  (∀ (s : State) (p : Party) (v : Word),
    let u := touched s p
    let moved (t : State) (c q : Nat) : State := (t.wr c v).wr q ((t.wr c v).rd q + 1)
    let stranger (k a : Nat) : State := (u.inc Reg.SBX_VIEW_DENY).log Ev.BAD_WRITER .mailbox k (leBytes 4 a ++ leBytes 1 p.origin.code)
    (Writer s p Reg.EVR_CURSOR → exec (.evrCursorWrite p 0 v) s = settled (moved s Reg.EVR_CURSOR Reg.EVR_WINDOW_SEQ)) ∧
    (Mailing s p .store Reg.VIN_0_EVR_CURSOR →
      (p = .inst 0 → hasFeature u 0 11 = true → exec (.evrCursorWrite p 1 v) s = settled (moved u Reg.VIN_0_EVR_CURSOR Reg.VIN_0_EVR_SEQ)) ∧
      (¬ (p = .inst 0 ∧ hasFeature u 0 11 = true) → exec (.evrCursorWrite p 1 v) s = settled (stranger 0x44 Reg.VIN_0_EVR_CURSOR))) ∧
    (∀ a : Fin 4,
      let k : Fin 6 := ⟨a.val + 2, by omega⟩
      let c := 0x20060200 + 128 * a.val
      Mailing s p .store c →
        (p = .agent a → exec (.evrCursorWrite p k v) s = settled (moved u c (c + 4))) ∧
        (p ≠ .agent a → exec (.evrCursorWrite p k v) s = settled (stranger (0x40 + a.val) c)))) ∧
  (∀ (s : State) (q : Sender) (tag : Byte), Heard s q →
    let b := behalf s q
    (∀ (host : Dword) (format : Byte) label,
      let w := reqWord 0x90 0 0 tag.toNat
      let may := q = .inst 0 ∨ q = .agent 0 ∨ q = .agent 1
      let soon := b.evr.corrRecent.any (fun p => p.1 == q.origin.code && p.2.1 == b.pcc && decide (b.ot < p.2.2 + 1024))
      (¬ may → exec (.correlate q tag host format label) s = answered b q w 1 []) ∧
      (may → soon = true → exec (.correlate q tag host format label) s = answered b q w 2 []) ∧
      (may → soon = false →
        let t := b.log Ev.CORRELATION q.origin 0 (leBytes 8 host.toNat ++ leBytes 1 format.toNat ++ [0, 0, 0] ++ takePad 16 label)
        let recent := (q.origin.code, t.pcc, t.ot) :: t.evr.corrRecent.filter (fun p => p.1 != q.origin.code)
        exec (.correlate q tag host format label) s = answered { t with evr := { t.evr with corrRecent := recent } } q w 0
          (leBytes 4 (t.evr.next - 1) ++ leBytes 4 t.pcc ++ leBytes 6 t.ot))) ∧
    (∀ us : Word,
      let w := reqWord 0x91 0 0 tag.toNat
      let t := if us.toNat < 100 then b else snapLatch b
      ((∃ n, q = .inst n ∧ n ≠ 0) → exec (.snapshot q tag us) s = answered b q w 1 []) ∧
      ((q = .inst 0 ∨ ∃ a, q = .agent a) → exec (.snapshot q tag us) s = answered t q w 0 (leBytes 4 (t.rd Reg.SBX_SNAP_SEQ).toNat))))

/-- STAFF_NONCE, LCS_DATA, STAFF_SUBMIT, LC_TRANSIT, ERASE_USER_SECRETS, DEBUG_ARM, OWNER_KEY_SET, LC_STATUS and
KEYSTORE_LOAD (R367, R369-R371, R374-R377, R379, R381). -/
def Obligations.LifeCycleRequests : Prop :=
  ∀ (s : State) (q : Sender) (tag : Byte), Heard s q →
    let b (code : Nat) : State := taken s q code
    let may := q = .agent 0 ∨ q = .inst 0
    let word (code x : Nat) : Nat := reqWord code x 0 tag.toNat
    let st := s.fld Reg.LCS_STATE 3 0
    (¬ may → ∀ off data len ticket target slot cosign hash,
      exec (.staffNonce q tag) s = answered (b 0xA0) q (word 0xA0 0) 1 [] ∧ exec (.lcsData q tag off data) s = answered (b 0xA1) q (word 0xA1 0) 1 [] ∧
      exec (.staffSubmit q tag len) s = answered (b 0xA2) q (word 0xA2 0) 1 [] ∧
      exec (.lcTransit q tag target ticket) s = answered (b 0xA3) q (word 0xA3 target.toNat) 1 [] ∧
      exec (.eraseUserSecrets q tag ticket) s = answered (b 0xA4) q (word 0xA4 0) 1 [] ∧ exec (.debugArm q tag ticket) s = answered (b 0xA5) q (word 0xA5 0) 1 [] ∧
      exec (.ownerKeySet q tag slot cosign hash) s = answered (b 0xA6) q (word 0xA6 slot.toNat) 1 [] ∧
      exec (.keystoreLoad q tag len) s = answered (b 0xA8) q (word 0xA8 0) 1 []) ∧
    (¬ may → q ≠ .agent 1 → exec (.lcStatus q tag) s = answered (b 0xA7) q (word 0xA7 0) 1 []) ∧
    ((may ∨ q = .agent 1) → exec (.lcStatus q tag) s = answered (b 0xA7) q (word 0xA7 0) 0
      ([Reg.LCS_STATE, Reg.LCS_OTP_KEYS, Reg.LCS_STAFF_COUNT].flatMap (fun a => leBytes 4 ((b 0xA7).rd a).toNat))) ∧
    (may →
      (s.bit Reg.SIG_STAT 11 = false → exec (.staffNonce q tag) s = answered (b 0xA0) q (word 0xA0 0) 3 []) ∧
      (s.bit Reg.SIG_STAT 11 = true →
        let b := b 0xA0
        let r := takePad 32 (Config.random b.freeCtr 32)
        let t : State := { b with freeCtr := b.freeCtr + 1, lcs := { b.lcs with nonce := some r } }
        exec (.staffNonce q tag) s = answered (t.setBit Reg.LCS_NONCE_STAT 0 true) q (word 0xA0 0) 0 r) ∧
      (∀ (off : Word) data,
        let b := b 0xA1
        let buf := if off.toNat = 0 then [] else s.lcs.buf
        let fits := off.toNat = buf.length ∧ off.toNat + 56 ≤ 65536
        (¬ fits → exec (.lcsData q tag off data) s = answered b q (word 0xA1 0) 6 []) ∧
        (fits → exec (.lcsData q tag off data) s =
          answered { b with lcs := { b.lcs with buf := buf ++ takePad 56 data } } q (word 0xA1 0) 0 [])) ∧
      (∀ len : Word,
        let b := b 0xA2
        let staff := b.lcs.buf.take len.toNat
        let fault := if b.lcs.buf.length < len.toNat then some 1 else staffFault b staff
        let t := acceptStaff b q staff
        exec (.staffSubmit q tag len) s = match fault with
          | some k => answered (b.fwLog Ev.STAFF_REFUSED 0 (leBytes 1 k)) q (word 0xA2 0) 4 (leBytes 1 k)
          | none => answered t q (word 0xA2 0) 0 (leBytes 4 (t.rd Reg.LCS_STAFF_COUNT).toNat)) ∧
      (∀ ticket : Word,
        let passes (u : State) (x : Nat) (code y : Nat) (k : Ticket) : Out :=
          if u.bit Reg.RTB_UPD_STAT 6 = true ∨ u.bit Reg.RTB_RCV_STAT 6 = true ∨ u.fld Reg.RTB_HND_STAT 3 0 ≠ 0 ∨ ldgCommitting u = true then answered u q (word code y) 2 []
          else
            let t := (fwCommit u (safeRecords u)).1
            answered (transitBegin t t.dutyOrigin x ticket.toNat k.digest) q (word code y) 0 []
        (∀ target, validTicket s q ticket 2 = none → exec (.lcTransit q tag target ticket) s = answered (b 0xA3) q (word 0xA3 target.toNat) 1 []) ∧
        (validTicket s q ticket 5 = none → exec (.eraseUserSecrets q tag ticket) s = answered (b 0xA4) q (word 0xA4 0) 1 []) ∧
        (validTicket s q ticket 1 = none → exec (.debugArm q tag ticket) s = answered (b 0xA5) q (word 0xA5 0) 1 []) ∧
        (∀ i target, validTicket s q ticket 2 = some i → ticketAt s i = none → exec (.lcTransit q tag target ticket) s = answered (b 0xA3) q (word 0xA3 target.toNat) 1 []) ∧
        (∀ i, validTicket s q ticket 5 = some i → ticketAt s i = none → exec (.eraseUserSecrets q tag ticket) s = answered (b 0xA4) q (word 0xA4 0) 1 []) ∧
        (∀ i (target : BitVec 16) k, validTicket s q ticket 2 = some i → ticketAt s i = some k →
          let x := target.toNat
          let run := exec (.lcTransit q tag target ticket) s
          let lets := k.target = x ∧ (x = 4 ∨ k.signer = 1) ∧ (x ≠ 2 ∨ st ≠ 3 ∨ keyUsable s 1 k.key = true)
          let u := useTicket (b 0xA3) i 0xA3
          (¬ lets → run = answered (b 0xA3) q (word 0xA3 x) 1 []) ∧
          (lets → transitAllowed s x = false → run = answered u q (word 0xA3 x) 3 []) ∧
          (lets → transitAllowed s x = true → run = passes u x 0xA3 x k)) ∧
        (∀ i k, validTicket s q ticket 5 = some i → ticketAt s i = some k →
          let u := useTicket (b 0xA4) i 0xA4
          let ready := st = 2 ∧ lockedDown s = false
          (k.signer ≠ 1 → exec (.eraseUserSecrets q tag ticket) s = answered (b 0xA4) q (word 0xA4 0) 1 []) ∧
          (k.signer = 1 → ¬ ready → exec (.eraseUserSecrets q tag ticket) s = answered u q (word 0xA4 0) 3 []) ∧
          (k.signer = 1 → ready → exec (.eraseUserSecrets q tag ticket) s = passes u 3 0xA4 0 k)) ∧
        (∀ i, validTicket s q ticket 1 = some i →
          let level := (((ticketAt s i).map Ticket.level).getD 0) % 4
          let u := useTicket (b 0xA5) i 0xA5
          (st ≠ 3 → exec (.debugArm q tag ticket) s = answered u q (word 0xA5 0) 3 []) ∧
          (st = 3 → exec (.debugArm q tag ticket) s = answered { u with lcs := { u.lcs with staffs := u.lcs.staffs.map (fun e => if e.counter = ticket.toNat then { e with pending := level + 1 } else e) } } q (word 0xA5 0) 0 []))) ∧
      (∀ (slot : BitVec 16) (cosign : Word) hash,
        let i := slot.toNat
        let open' := st = 1 ∨ st = 3
        let run := exec (.ownerKeySet q tag slot cosign hash) s
        let b := b 0xA6
        (¬ open' → run = answered b q (word 0xA6 i) 3 []) ∧ (open' → 4 ≤ i → run = answered b q (word 0xA6 i) 6 []) ∧
        (open' → i < 4 → s.bit Reg.LCS_OTP_KEYS i = true → run = answered b q (word 0xA6 i) 3 []) ∧
        (open' → i < 4 → s.bit Reg.LCS_OTP_KEYS i = false →
          let h := takePad 48 hash
          let t := (b.wrBytes (Reg.OTP_OKEY i 0) 12 h).setBit Reg.LCS_OTP_KEYS i (h.any (· != 0xFF))
          let t := if cosign.getLsbD 0 then t.setBit Reg.LCS_OTP_KEYS 12 true else t
          run = answered (t.fwLog Ev.OWNER_KEY_SET 0 (leBytes 1 i ++ h.take 28)) q (word 0xA6 i) 0 [])) ∧
      (∀ len : Word,
        let open' := st = 1 ∨ st = 3
        let b := b 0xA8
        (¬ open' → exec (.keystoreLoad q tag len) s = answered b q (word 0xA8 0) 3 []) ∧
        (open' → s.lcs.buf.length < len.toNat → exec (.keystoreLoad q tag len) s = answered b q (word 0xA8 0) 6 []) ∧
        (open' → len.toNat ≤ s.lcs.buf.length → exec (.keystoreLoad q tag len) s =
          answered { b with lcs := { b.lcs with staged := some (b.lcs.buf.take len.toNat) } } q (word 0xA8 0) 0 [])))

/-- MTM_MARCH, MTM_CHECKERBOARD, MTM_RETENTION, MTM_NVM_MARGIN_0, MTM_NVM_MARGIN_1, LC_ADVANCE, LC_EOL, MTM_DONE, IDCODE,
BYPASS, EXTEST, SAMPLE_PRELOAD, INTEST, DEBUG_HALT, DEBUG_STEP and DEBUG_RESUME (R365, R369, R378, R380). -/
def Obligations.MemoryTestsAndDebug : Prop :=
  (∀ (s : State) (p : Party), Writer s p Reg.MTM_CTL →
    let st := s.fld Reg.LCS_STATE 3 0
    let open' := st = 0 ∨ st = 1 ∨ st = 4
    let go (test target : Nat) : Word := (s.rd Reg.MTM_CTL &&& ~~~0xFFF) ||| BitVec.ofNat 32 (test + 16 * target)
    let unlocked (t : State) : State := { t with lcs := { t.lcs with mtmKey := false } }
    (¬ open' → (∀ m, exec (.mtmMarch p m) s = settled s ∧ exec (.mtmCheckerboard p m) s = settled s ∧ exec (.mtmRetention p m) s = settled s ∧
      exec (.mtmNvmMargin0 p m) s = settled s ∧ exec (.mtmNvmMargin1 p m) s = settled s) ∧ exec (.lcAdvance p) s = settled s ∧ exec (.lcEol p) s = settled s) ∧
    (open' → ∀ (m : Byte) (k : Nat) (i : Instr),
      (i, k) ∈ [(Instr.mtmMarch p m, 0), (.mtmCheckerboard p m, 1), (.mtmRetention p m, 2), (.mtmNvmMargin0 p m, 3), (.mtmNvmMargin1 p m, 4)] →
      (s.lcs.mtmKey = false → exec i s = settled (s.setBit Reg.MTM_STAT 3 true)) ∧
      (s.lcs.mtmKey = true → ∃ t, Eventful (s.wr Reg.MTM_CTL (go k m.toNat)) t ∧ exec i s = settled (
        if s.lcs.mtm.isSome = true ∨ mtmTarget m.toNat 0 = none then unlocked t
        else ({ unlocked t with lcs := { (unlocked t).lcs with mtm := some (k, m.toNat) } } : State).setBit Reg.MTM_STAT 0 true))) ∧
    (open' → s.lcs.mtmKey = false → exec (.lcAdvance p) s = settled (s.setBit Reg.MTM_STAT 3 true) ∧ exec (.lcEol p) s = settled (s.setBit Reg.MTM_STAT 3 true)) ∧
    (open' → s.lcs.mtmKey = true →
      (∃ t, Eventful (s.wr Reg.MTM_CTL (go 8 0)) t ∧ exec (.lcAdvance p) s = settled (
        if st = 0 ∧ provisioned s = true then transitBegin (unlocked t) .debug 1 0 (List.replicate 28 0) else unlocked t)) ∧
      (∃ t, Eventful (s.wr Reg.MTM_CTL (go 9 0)) t ∧ exec (.lcEol p) s = settled (
        if st = 0 then transitBegin (unlocked t) .debug 4 0 (List.replicate 28 0) else unlocked t)))) ∧
  (∀ s : State, s.pwr.down = false →
    (s.lcs.mtm = none → ∀ fail, exec (.mtmDone fail) s = settled s) ∧
    (∀ test target fail, s.lcs.mtm = some (test, target) →
      let t := match mtmTarget target (s.rd Reg.MTM_ADDR).toNat with
        | some r => ({ s with freeCtr := s.freeCtr + 1 } : State).wrMemN r.1 ((List.range r.2).map (fun i => Config.envmByte (r.1 + i) s.freeCtr))
        | none => s
      let t : State := { t with lcs := { t.lcs with mtm := none } }
      let bad := Option.isSome fail
      let t := (t.setBit Reg.MTM_STAT 0 false).setBit Reg.MTM_STAT 1 true
      exec (.mtmDone fail) s = settled ((if bad then (t.setBit Reg.MTM_STAT 2 true).wr Reg.MTM_FAIL_ADDR (BitVec.ofNat 32 (fail.getD 0).toNat) else t).log Ev.MTM_RUN .debug 0
        (leBytes 1 test ++ leBytes 1 target ++ leBytes 1 (b2n bad)))) ∧
    (let tap (level : Nat) (i : TapInstr) : Out := .next { s with tap := if level ≤ s.fld Reg.LCS_STATE 9 8 then i else .bypass }
     exec .idcode s = tap 0 .idcode ∧ exec .bypass s = tap 0 .bypass ∧ exec .extest s = tap 1 .extest ∧
     exec .samplePreload s = tap 1 .samplePreload ∧ exec .intest s = tap 1 .intest) ∧
    (∀ (p : Proc) (w : Wop), s.fld Reg.LCS_STATE 9 8 ≠ 3 →
      let t : State := { s with tap := .bypass }
      exec (.debugHalt p) s = settled t ∧ exec (.debugStep p w) s = settled t ∧ exec (.debugResume p) s = settled t) ∧
    (∀ (p : Proc) (w : Wop), s.fld Reg.LCS_STATE 9 8 = 3 →
      let halted (u : State) (on : Bool) : State := match p with
        | .core c => u.setCore c { u.core c with halted := on }
        | .engine e => u.setEngine e.val { u.engine e.val with halted := on }
        | .line n => u.setLine n.val { u.line n.val with halted := on }
      let t : State := { s with tap := .step }
      exec (.debugHalt p) s = settled (halted { s with tap := .halt } true) ∧
      exec (.debugResume p) s = settled (halted { s with tap := .resume } false) ∧
      (isHalted s p = false → exec (.debugStep p w) s = settled t) ∧
      (isHalted s p = true → exec (.debugStep p w) s = settled (halted (match p with
        | .line n => routeStep (halted t false) n
        | p => runWop p w (procBody p w) (halted t false)) true))))
end

