-- ==== Sys2Proof/Laws/Code.lean ====
section
/-! SUPPORT. The fields of a word of each format read back what the format put there (R31). -/

namespace Sys2Proof.Machine

/-! ### Fields of a joined word -/

theorem extract_cat_hi {a b : Nat} (x : BitVec a) (y : BitVec b) (lo n : Nat) (h : b ≤ lo) :
    (x ++ y).extractLsb' lo n = x.extractLsb' (lo - b) n := by
  ext i hi
  simp only [BitVec.getElem_extractLsb', BitVec.getLsbD_append]
  rw [if_neg (by omega)]
  congr 1
  omega

theorem extract_cat_lo {a b : Nat} (x : BitVec a) (y : BitVec b) (lo n : Nat) (h : lo + n ≤ b) :
    (x ++ y).extractLsb' lo n = y.extractLsb' lo n := by
  ext i hi
  simp only [BitVec.getElem_extractLsb', BitVec.getLsbD_append]
  rw [if_pos (by omega)]

theorem extract_all {n : Nat} (x : BitVec n) : x.extractLsb' 0 n = x := by
  ext i hi
  simp

/-! ### Format R -/

variable (m f : Nat) (d a b : RegNo)

@[simp] theorem fMajor_encR : fMajor (encR m d a b f) = m % 64 := by
  simp only [fMajor, encR]
  repeat (first | rw [extract_cat_lo _ _ _ _ (by omega)] | rw [extract_cat_hi _ _ _ _ (by omega)])
  simp

@[simp] theorem fRd_encR : fRd (encR m d a b f) = d := by
  simp only [fRd, encR]
  repeat (first | rw [extract_cat_lo _ _ _ _ (by omega)] | rw [extract_cat_hi _ _ _ _ (by omega)])
  simp

@[simp] theorem fRa_encR : fRa (encR m d a b f) = a := by
  simp only [fRa, encR]
  repeat (first | rw [extract_cat_lo _ _ _ _ (by omega)] | rw [extract_cat_hi _ _ _ _ (by omega)])
  simp

@[simp] theorem fRb_encR : fRb (encR m d a b f) = b := by
  simp only [fRb, encR]
  repeat (first | rw [extract_cat_lo _ _ _ _ (by omega)] | rw [extract_cat_hi _ _ _ _ (by omega)])
  simp

@[simp] theorem fFunc_encR : fFunc (encR m d a b f) = f % 2048 := by
  simp only [fFunc, encR]
  repeat (first | rw [extract_cat_lo _ _ _ _ (by omega)] | rw [extract_cat_hi _ _ _ _ (by omega)])
  simp

/-! ### Formats I, W and B -/

@[simp] theorem fMajor_encI (i : BitVec 16) : fMajor (encI m d a i) = m % 64 := by
  simp only [fMajor, encI]
  repeat (first | rw [extract_cat_lo _ _ _ _ (by omega)] | rw [extract_cat_hi _ _ _ _ (by omega)])
  simp

@[simp] theorem fRd_encI (i : BitVec 16) : fRd (encI m d a i) = d := by
  simp only [fRd, encI]
  repeat (first | rw [extract_cat_lo _ _ _ _ (by omega)] | rw [extract_cat_hi _ _ _ _ (by omega)])
  simp

@[simp] theorem fRa_encI (i : BitVec 16) : fRa (encI m d a i) = a := by
  simp only [fRa, encI]
  repeat (first | rw [extract_cat_lo _ _ _ _ (by omega)] | rw [extract_cat_hi _ _ _ _ (by omega)])
  simp

@[simp] theorem fImm_encI (i : BitVec 16) : fImm (encI m d a i) = i := by
  simp only [fImm, encI]
  repeat (first | rw [extract_cat_lo _ _ _ _ (by omega)] | rw [extract_cat_hi _ _ _ _ (by omega)])
  simp

/-- A field inside the immediate. -/
theorem extract_encI (i : BitVec 16) (lo n : Nat) (h : lo + n ≤ 16) :
    (encI m d a i).extractLsb' lo n = i.extractLsb' lo n := by
  simp only [encI]
  rw [extract_cat_lo _ _ _ _ h]

/-- A field inside rd's neighbour, bits [20:16]. -/
theorem extract_encI_ra (i : BitVec 16) (lo n : Nat) (h : 16 ≤ lo) (h' : lo + n ≤ 21) :
    (encI m d a i).extractLsb' lo n = a.extractLsb' (lo - 16) n := by
  simp only [encI]
  rw [extract_cat_hi _ _ _ _ h, extract_cat_lo _ _ _ _ (by omega)]

/-! ### Format J -/

@[simp] theorem fMajor_encJ (o : BitVec 26) : fMajor (encJ m o) = m % 64 := by
  simp only [fMajor, encJ]
  rw [extract_cat_hi _ _ _ _ (by omega)]
  simp

@[simp] theorem off26_encJ (o : BitVec 26) : (encJ m o).extractLsb' 0 26 = o := by
  simp only [encJ]
  rw [extract_cat_lo _ _ _ _ (by omega), extract_all]

/-! ### Format D -/

@[simp] theorem fMajor_encD (dc : BitVec 2) : fMajor (encD d a b dc f) = 0x34 := by
  simp only [fMajor, encD]
  repeat (first | rw [extract_cat_lo _ _ _ _ (by omega)] | rw [extract_cat_hi _ _ _ _ (by omega)])
  simp

@[simp] theorem fRd_encD (dc : BitVec 2) : fRd (encD d a b dc f) = d := by
  simp only [fRd, encD]
  repeat (first | rw [extract_cat_lo _ _ _ _ (by omega)] | rw [extract_cat_hi _ _ _ _ (by omega)])
  simp

@[simp] theorem fRa_encD (dc : BitVec 2) : fRa (encD d a b dc f) = a := by
  simp only [fRa, encD]
  repeat (first | rw [extract_cat_lo _ _ _ _ (by omega)] | rw [extract_cat_hi _ _ _ _ (by omega)])
  simp

@[simp] theorem fRb_encD (dc : BitVec 2) : fRb (encD d a b dc f) = b := by
  simp only [fRb, encD]
  repeat (first | rw [extract_cat_lo _ _ _ _ (by omega)] | rw [extract_cat_hi _ _ _ _ (by omega)])
  simp

@[simp] theorem dc_encD (dc : BitVec 2) : (encD d a b dc f).extractLsb' 9 2 = dc := by
  simp only [encD]
  repeat (first | rw [extract_cat_lo _ _ _ _ (by omega)] | rw [extract_cat_hi _ _ _ _ (by omega)])
  simp

@[simp] theorem func_encD (dc : BitVec 2) : (encD d a b dc f).extractLsb' 0 9 = BitVec.ofNat 9 f := by
  simp only [encD]
  repeat (first | rw [extract_cat_lo _ _ _ _ (by omega)] | rw [extract_cat_hi _ _ _ _ (by omega)])
  simp

/-! ### Format V -/

@[simp] theorem fMajor_encV (r : BitVec 8) : fMajor (encV a r f) = 0x3A := by
  simp only [fMajor, encV]
  repeat (first | rw [extract_cat_lo _ _ _ _ (by omega)] | rw [extract_cat_hi _ _ _ _ (by omega)])
  simp

@[simp] theorem fRd_encV (r : BitVec 8) : fRd (encV a r f) = 0 := by
  simp only [fRd, encV]
  repeat (first | rw [extract_cat_lo _ _ _ _ (by omega)] | rw [extract_cat_hi _ _ _ _ (by omega)])
  simp

@[simp] theorem fRa_encV (r : BitVec 8) : fRa (encV a r f) = a := by
  simp only [fRa, encV]
  repeat (first | rw [extract_cat_lo _ _ _ _ (by omega)] | rw [extract_cat_hi _ _ _ _ (by omega)])
  simp

@[simp] theorem reason_encV (r : BitVec 8) : (encV a r f).extractLsb' 8 8 = r := by
  simp only [encV]
  repeat (first | rw [extract_cat_lo _ _ _ _ (by omega)] | rw [extract_cat_hi _ _ _ _ (by omega)])
  simp

@[simp] theorem gap_encV (r : BitVec 8) : (encV a r f).extractLsb' 3 5 = 0 := by
  simp only [encV]
  repeat (first | rw [extract_cat_lo _ _ _ _ (by omega)] | rw [extract_cat_hi _ _ _ _ (by omega)])
  simp

@[simp] theorem kind_encV (r : BitVec 8) : (encV a r f).extractLsb' 0 3 = BitVec.ofNat 3 f := by
  simp only [encV]
  repeat (first | rw [extract_cat_lo _ _ _ _ (by omega)] | rw [extract_cat_hi _ _ _ _ (by omega)])
  simp

end Sys2Proof.Machine
end

