-- ==== Sys2Proof/Laws/Sparse.lean ====
section
/-! SUPPORT. Sparse tables: reading after a write, and that every table operation keeps the canonical form. -/

namespace Sys2Proof.Machine

variable {α : Type}

theorem Sparse.get_remove_self (d : Nat → α) (l : List (Nat × α)) (k : Nat) :
    Sparse.get d (Sparse.remove l k) k = d k := by
  induction l with
  | nil => rfl
  | cons p l ih =>
    obtain ⟨j, v⟩ := p
    by_cases h : j = k
    · simpa [Sparse.remove, h] using ih
    · simpa [Sparse.remove, h, Sparse.get] using ih

theorem Sparse.get_remove_of_ne (d : Nat → α) (l : List (Nat × α)) {k j : Nat} (h : j ≠ k) :
    Sparse.get d (Sparse.remove l k) j = Sparse.get d l j := by
  induction l with
  | nil => rfl
  | cons p l ih =>
    obtain ⟨i, v⟩ := p
    by_cases hi : i = k
    · subst hi
      simpa [Sparse.remove, Sparse.get, Ne.symm h] using ih
    · by_cases hj : i = j
      · subst hj
        simp [Sparse.remove, hi, Sparse.get]
      · simpa [Sparse.remove, hi, Sparse.get, hj] using ih

theorem Sparse.get_insert_self (d : Nat → α) (l : List (Nat × α)) (k : Nat) (v : α)
    (h : ∀ p ∈ l, p.1 ≠ k) : Sparse.get d (Sparse.insert l k v) k = v := by
  induction l with
  | nil => simp [Sparse.insert, Sparse.get]
  | cons p l ih =>
    obtain ⟨j, w⟩ := p
    by_cases hk : k < j
    · simp [Sparse.insert, hk, Sparse.get]
    · have hj : j ≠ k := h (j, w) (by simp)
      have := ih (fun q hq => h q (by simp [hq]))
      simpa [Sparse.insert, hk, Sparse.get, hj] using this

theorem Sparse.get_insert_of_ne (d : Nat → α) (l : List (Nat × α)) {k j : Nat} (v : α) (h : j ≠ k) :
    Sparse.get d (Sparse.insert l k v) j = Sparse.get d l j := by
  induction l with
  | nil => simp [Sparse.insert, Sparse.get, Ne.symm h]
  | cons p l ih =>
    obtain ⟨i, w⟩ := p
    by_cases hk : k < i
    · simp [Sparse.insert, hk, Sparse.get, Ne.symm h]
    · simp [Sparse.insert, hk, Sparse.get, ih]

theorem Sparse.ne_of_mem_remove (l : List (Nat × α)) (k : Nat) (p : Nat × α) (h : p ∈ Sparse.remove l k) :
    p.1 ≠ k := by
  simp [Sparse.remove] at h
  exact h.2

/-- Keys rising, as a chain. -/
theorem Sparse.sorted_iff (l : List (Nat × α)) :
    Sparse.sorted l = true ↔ l.Pairwise (fun p q => p.1 < q.1) := by
  induction l with
  | nil => simp [Sparse.sorted]
  | cons p l ih =>
    cases l with
    | nil => simp [Sparse.sorted]
    | cons q l =>
      obtain ⟨a, v⟩ := p
      obtain ⟨b, w⟩ := q
      simp only [Sparse.sorted, Bool.and_eq_true, decide_eq_true_eq, ih]
      constructor
      · rintro ⟨hab, hp⟩
        refine List.pairwise_cons.2 ⟨?_, hp⟩
        intro r hr
        rcases List.mem_cons.1 hr with rfl | hr
        · exact hab
        · exact lt_trans hab ((List.pairwise_cons.1 hp).1 r hr)
      · intro hp
        exact ⟨(List.pairwise_cons.1 hp).1 (b, w) (by simp), (List.pairwise_cons.1 hp).2⟩

theorem Sparse.mem_insert (l : List (Nat × α)) (k : Nat) (v : α) (p : Nat × α)
    (h : p ∈ Sparse.insert l k v) : p = (k, v) ∨ p ∈ l := by
  induction l with
  | nil => simpa [Sparse.insert] using h
  | cons q l ih =>
    obtain ⟨j, w⟩ := q
    by_cases hk : k < j
    · simpa [Sparse.insert, hk] using h
    · simp only [Sparse.insert, hk, if_false, List.mem_cons] at h ⊢
      rcases h with h | h
      · exact .inr (.inl h)
      · rcases ih h with h | h
        · exact .inl h
        · exact .inr (.inr h)

theorem Sparse.pairwise_insert (l : List (Nat × α)) (k : Nat) (v : α)
    (h : l.Pairwise (fun p q => p.1 < q.1)) (hk : ∀ p ∈ l, p.1 ≠ k) :
    (Sparse.insert l k v).Pairwise (fun p q => p.1 < q.1) := by
  induction l with
  | nil => simp [Sparse.insert]
  | cons q l ih =>
    obtain ⟨j, w⟩ := q
    have hp := List.pairwise_cons.1 h
    by_cases hlt : k < j
    · simp only [Sparse.insert, hlt, if_true]
      refine List.pairwise_cons.2 ⟨?_, h⟩
      intro p hp'
      rcases List.mem_cons.1 hp' with rfl | hp'
      · exact hlt
      · exact lt_trans hlt (hp.1 p hp')
    · simp only [Sparse.insert, hlt, if_false]
      refine List.pairwise_cons.2 ⟨?_, ih hp.2 (fun p hp' => hk p (by simp [hp']))⟩
      intro p hp'
      have hj : j ≠ k := hk (j, w) (by simp)
      rcases Sparse.mem_insert l k v p hp' with rfl | hp'
      · show j < k
        omega
      · exact hp.1 p hp'

variable [DecidableEq α]

/-- A read of the entry just written gives the value written. -/
@[simp] theorem Sparse.get_set_self (d : Nat → α) (l : List (Nat × α)) (k : Nat) (v : α) :
    Sparse.get d (Sparse.set d l k v) k = v := by
  unfold Sparse.set
  split
  · next h => rw [h]; exact Sparse.get_remove_self d l k
  · exact Sparse.get_insert_self d _ k v (fun p hp => Sparse.ne_of_mem_remove l k p hp)

/-- A write leaves every other entry alone. -/
theorem Sparse.get_set_of_ne (d : Nat → α) (l : List (Nat × α)) {k j : Nat} (v : α) (h : j ≠ k) :
    Sparse.get d (Sparse.set d l k v) j = Sparse.get d l j := by
  unfold Sparse.set
  split
  · exact Sparse.get_remove_of_ne d l h
  · rw [Sparse.get_insert_of_ne d _ v h, Sparse.get_remove_of_ne d l h]

omit [DecidableEq α] in
theorem Sparse.remove_remove (l : List (Nat × α)) (k : Nat) :
    Sparse.remove (Sparse.remove l k) k = Sparse.remove l k := by
  simp [Sparse.remove]

omit [DecidableEq α] in
theorem Sparse.remove_insert (l : List (Nat × α)) (k : Nat) (v : α) :
    Sparse.remove (Sparse.insert l k v) k = Sparse.remove l k := by
  induction l with
  | nil => simp [Sparse.insert, Sparse.remove]
  | cons p l ih =>
    obtain ⟨j, w⟩ := p
    by_cases hk : k < j
    · simp [Sparse.insert, hk, Sparse.remove]
    · by_cases hj : j = k
      · subst hj
        simpa [Sparse.insert, Sparse.remove] using ih
      · simpa [Sparse.insert, hk, Sparse.remove, hj] using ih

/-- The later of two writes of one entry stands. -/
@[simp] theorem Sparse.set_set (d : Nat → α) (l : List (Nat × α)) (k : Nat) (v w : α) :
    Sparse.set d (Sparse.set d l k v) k w = Sparse.set d l k w := by
  have h : Sparse.remove (Sparse.set d l k v) k = Sparse.remove l k := by
    unfold Sparse.set
    split
    · exact Sparse.remove_remove l k
    · rw [Sparse.remove_insert, Sparse.remove_remove]
  simp only [Sparse.set] at h ⊢
  rw [h]

/-! ### The canonical form -/

/-- The canonical form, said with the list's own predicates. -/
theorem Sparse.wf_iff (d : Nat → α) (l : List (Nat × α)) :
    Sparse.wf d l = true ↔ l.Pairwise (fun p q => p.1 < q.1) ∧ ∀ p ∈ l, p.2 ≠ d p.1 := by
  simp [Sparse.wf, Sparse.sorted_iff]

/-- Leaving out entries keeps the canonical form. -/
theorem Sparse.wf_filter (d : Nat → α) (l : List (Nat × α)) (f : Nat × α → Bool)
    (h : Sparse.wf d l = true) : Sparse.wf d (l.filter f) = true := by
  rw [Sparse.wf_iff] at h ⊢
  exact ⟨h.1.filter f, fun p hp => h.2 p (List.mem_of_mem_filter hp)⟩

/-- A write keeps the canonical form. -/
theorem Sparse.wf_set (d : Nat → α) (l : List (Nat × α)) (k : Nat) (v : α) (h : Sparse.wf d l = true) :
    Sparse.wf d (Sparse.set d l k v) = true := by
  have hr : Sparse.wf d (Sparse.remove l k) = true := Sparse.wf_filter d l _ h
  unfold Sparse.set
  split
  · exact hr
  · next hv =>
    rw [Sparse.wf_iff] at hr ⊢
    refine ⟨Sparse.pairwise_insert _ k v hr.1 (fun p hp => Sparse.ne_of_mem_remove l k p hp), ?_⟩
    intro p hp
    rcases Sparse.mem_insert _ k v p hp with rfl | hp
    · exact hv
    · exact hr.2 p hp

/-- The empty table is in canonical form. -/
@[simp] theorem Sparse.wf_nil (d : Nat → α) : Sparse.wf d ([] : List (Nat × α)) = true := rfl

end Sys2Proof.Machine
end

