-- ==== Sys2Proof/Laws/State.lean ====
section
/-! SUPPORT. What each named update of the state leaves in each field, and reading a register, a byte or a unit after a write. -/

namespace Sys2Proof.Machine

/-! ### State.wr -/

@[simp] theorem State.wr_pending (s : State) (a : Nat) (v : Word) : (s.wr a v).pending = s.pending := rfl
@[simp] theorem State.wr_freeCtr (s : State) (a : Nat) (v : Word) : (s.wr a v).freeCtr = s.freeCtr := rfl
@[simp] theorem State.wr_pcc (s : State) (a : Nat) (v : Word) : (s.wr a v).pcc = s.pcc := rfl
@[simp] theorem State.wr_ot (s : State) (a : Nat) (v : Word) : (s.wr a v).ot = s.ot := rfl
@[simp] theorem State.wr_mem (s : State) (a : Nat) (v : Word) : (s.wr a v).mem = s.mem := rfl
@[simp] theorem State.wr_held (s : State) (a : Nat) (v : Word) : (s.wr a v).held = s.held := rfl
@[simp] theorem State.wr_heldLow (s : State) (a : Nat) (v : Word) : (s.wr a v).heldLow = s.heldLow := rfl
@[simp] theorem State.wr_snap (s : State) (a : Nat) (v : Word) : (s.wr a v).snap = s.snap := rfl
@[simp] theorem State.wr_nvc (s : State) (a : Nat) (v : Word) : (s.wr a v).nvc = s.nvc := rfl
@[simp] theorem State.wr_cores (s : State) (a : Nat) (v : Word) : (s.wr a v).cores = s.cores := rfl
@[simp] theorem State.wr_duty (s : State) (a : Nat) (v : Word) : (s.wr a v).duty = s.duty := rfl
@[simp] theorem State.wr_stage2Ready (s : State) (a : Nat) (v : Word) : (s.wr a v).stage2Ready = s.stage2Ready := rfl
@[simp] theorem State.wr_retired (s : State) (a : Nat) (v : Word) : (s.wr a v).retired = s.retired := rfl
@[simp] theorem State.wr_engines (s : State) (a : Nat) (v : Word) : (s.wr a v).engines = s.engines := rfl
@[simp] theorem State.wr_yards (s : State) (a : Nat) (v : Word) : (s.wr a v).yards = s.yards := rfl
@[simp] theorem State.wr_owedG (s : State) (a : Nat) (v : Word) : (s.wr a v).owedG = s.owedG := rfl
@[simp] theorem State.wr_irq (s : State) (a : Nat) (v : Word) : (s.wr a v).irq = s.irq := rfl
@[simp] theorem State.wr_irq1 (s : State) (a : Nat) (v : Word) : (s.wr a v).irq1 = s.irq1 := rfl
@[simp] theorem State.wr_ilk (s : State) (a : Nat) (v : Word) : (s.wr a v).ilk = s.ilk := rfl
@[simp] theorem State.wr_evr (s : State) (a : Nat) (v : Word) : (s.wr a v).evr = s.evr := rfl
@[simp] theorem State.wr_lines (s : State) (a : Nat) (v : Word) : (s.wr a v).lines = s.lines := rfl
@[simp] theorem State.wr_tagKey (s : State) (a : Nat) (v : Word) : (s.wr a v).tagKey = s.tagKey := rfl
@[simp] theorem State.wr_answers (s : State) (a : Nat) (v : Word) : (s.wr a v).answers = s.answers := rfl
@[simp] theorem State.wr_hostOut (s : State) (a : Nat) (v : Word) : (s.wr a v).hostOut = s.hostOut := rfl
@[simp] theorem State.wr_tmp (s : State) (a : Nat) (v : Word) : (s.wr a v).tmp = s.tmp := rfl
@[simp] theorem State.wr_mbx (s : State) (a : Nat) (v : Word) : (s.wr a v).mbx = s.mbx := rfl
@[simp] theorem State.wr_home (s : State) (a : Nat) (v : Word) : (s.wr a v).home = s.home := rfl
@[simp] theorem State.wr_lanes (s : State) (a : Nat) (v : Word) : (s.wr a v).lanes = s.lanes := rfl
@[simp] theorem State.wr_sig (s : State) (a : Nat) (v : Word) : (s.wr a v).sig = s.sig := rfl
@[simp] theorem State.wr_bcast (s : State) (a : Nat) (v : Word) : (s.wr a v).bcast = s.bcast := rfl
@[simp] theorem State.wr_keyLoad (s : State) (a : Nat) (v : Word) : (s.wr a v).keyLoad = s.keyLoad := rfl
@[simp] theorem State.wr_lcs (s : State) (a : Nat) (v : Word) : (s.wr a v).lcs = s.lcs := rfl
@[simp] theorem State.wr_fix (s : State) (a : Nat) (v : Word) : (s.wr a v).fix = s.fix := rfl
@[simp] theorem State.wr_ledger (s : State) (a : Nat) (v : Word) : (s.wr a v).ledger = s.ledger := rfl
@[simp] theorem State.wr_host (s : State) (a : Nat) (v : Word) : (s.wr a v).host = s.host := rfl
@[simp] theorem State.wr_att (s : State) (a : Nat) (v : Word) : (s.wr a v).att = s.att := rfl
@[simp] theorem State.wr_pwr (s : State) (a : Nat) (v : Word) : (s.wr a v).pwr = s.pwr := rfl
@[simp] theorem State.wr_upd (s : State) (a : Nat) (v : Word) : (s.wr a v).upd = s.upd := rfl
@[simp] theorem State.wr_tap (s : State) (a : Nat) (v : Word) : (s.wr a v).tap = s.tap := rfl

/-! ### State.setF -/

@[simp] theorem State.setF_pending (s : State) (a hi lo v : Nat) : (s.setF a hi lo v).pending = s.pending := rfl
@[simp] theorem State.setF_freeCtr (s : State) (a hi lo v : Nat) : (s.setF a hi lo v).freeCtr = s.freeCtr := rfl
@[simp] theorem State.setF_pcc (s : State) (a hi lo v : Nat) : (s.setF a hi lo v).pcc = s.pcc := rfl
@[simp] theorem State.setF_ot (s : State) (a hi lo v : Nat) : (s.setF a hi lo v).ot = s.ot := rfl
@[simp] theorem State.setF_mem (s : State) (a hi lo v : Nat) : (s.setF a hi lo v).mem = s.mem := rfl
@[simp] theorem State.setF_held (s : State) (a hi lo v : Nat) : (s.setF a hi lo v).held = s.held := rfl
@[simp] theorem State.setF_heldLow (s : State) (a hi lo v : Nat) : (s.setF a hi lo v).heldLow = s.heldLow := rfl
@[simp] theorem State.setF_snap (s : State) (a hi lo v : Nat) : (s.setF a hi lo v).snap = s.snap := rfl
@[simp] theorem State.setF_nvc (s : State) (a hi lo v : Nat) : (s.setF a hi lo v).nvc = s.nvc := rfl
@[simp] theorem State.setF_cores (s : State) (a hi lo v : Nat) : (s.setF a hi lo v).cores = s.cores := rfl
@[simp] theorem State.setF_duty (s : State) (a hi lo v : Nat) : (s.setF a hi lo v).duty = s.duty := rfl
@[simp] theorem State.setF_stage2Ready (s : State) (a hi lo v : Nat) : (s.setF a hi lo v).stage2Ready = s.stage2Ready := rfl
@[simp] theorem State.setF_retired (s : State) (a hi lo v : Nat) : (s.setF a hi lo v).retired = s.retired := rfl
@[simp] theorem State.setF_engines (s : State) (a hi lo v : Nat) : (s.setF a hi lo v).engines = s.engines := rfl
@[simp] theorem State.setF_yards (s : State) (a hi lo v : Nat) : (s.setF a hi lo v).yards = s.yards := rfl
@[simp] theorem State.setF_owedG (s : State) (a hi lo v : Nat) : (s.setF a hi lo v).owedG = s.owedG := rfl
@[simp] theorem State.setF_irq (s : State) (a hi lo v : Nat) : (s.setF a hi lo v).irq = s.irq := rfl
@[simp] theorem State.setF_irq1 (s : State) (a hi lo v : Nat) : (s.setF a hi lo v).irq1 = s.irq1 := rfl
@[simp] theorem State.setF_ilk (s : State) (a hi lo v : Nat) : (s.setF a hi lo v).ilk = s.ilk := rfl
@[simp] theorem State.setF_evr (s : State) (a hi lo v : Nat) : (s.setF a hi lo v).evr = s.evr := rfl
@[simp] theorem State.setF_lines (s : State) (a hi lo v : Nat) : (s.setF a hi lo v).lines = s.lines := rfl
@[simp] theorem State.setF_tagKey (s : State) (a hi lo v : Nat) : (s.setF a hi lo v).tagKey = s.tagKey := rfl
@[simp] theorem State.setF_answers (s : State) (a hi lo v : Nat) : (s.setF a hi lo v).answers = s.answers := rfl
@[simp] theorem State.setF_hostOut (s : State) (a hi lo v : Nat) : (s.setF a hi lo v).hostOut = s.hostOut := rfl
@[simp] theorem State.setF_tmp (s : State) (a hi lo v : Nat) : (s.setF a hi lo v).tmp = s.tmp := rfl
@[simp] theorem State.setF_mbx (s : State) (a hi lo v : Nat) : (s.setF a hi lo v).mbx = s.mbx := rfl
@[simp] theorem State.setF_home (s : State) (a hi lo v : Nat) : (s.setF a hi lo v).home = s.home := rfl
@[simp] theorem State.setF_lanes (s : State) (a hi lo v : Nat) : (s.setF a hi lo v).lanes = s.lanes := rfl
@[simp] theorem State.setF_sig (s : State) (a hi lo v : Nat) : (s.setF a hi lo v).sig = s.sig := rfl
@[simp] theorem State.setF_bcast (s : State) (a hi lo v : Nat) : (s.setF a hi lo v).bcast = s.bcast := rfl
@[simp] theorem State.setF_keyLoad (s : State) (a hi lo v : Nat) : (s.setF a hi lo v).keyLoad = s.keyLoad := rfl
@[simp] theorem State.setF_lcs (s : State) (a hi lo v : Nat) : (s.setF a hi lo v).lcs = s.lcs := rfl
@[simp] theorem State.setF_fix (s : State) (a hi lo v : Nat) : (s.setF a hi lo v).fix = s.fix := rfl
@[simp] theorem State.setF_ledger (s : State) (a hi lo v : Nat) : (s.setF a hi lo v).ledger = s.ledger := rfl
@[simp] theorem State.setF_host (s : State) (a hi lo v : Nat) : (s.setF a hi lo v).host = s.host := rfl
@[simp] theorem State.setF_att (s : State) (a hi lo v : Nat) : (s.setF a hi lo v).att = s.att := rfl
@[simp] theorem State.setF_pwr (s : State) (a hi lo v : Nat) : (s.setF a hi lo v).pwr = s.pwr := rfl
@[simp] theorem State.setF_upd (s : State) (a hi lo v : Nat) : (s.setF a hi lo v).upd = s.upd := rfl
@[simp] theorem State.setF_tap (s : State) (a hi lo v : Nat) : (s.setF a hi lo v).tap = s.tap := rfl

/-! ### State.setBit -/

@[simp] theorem State.setBit_pending (s : State) (a i : Nat) (b : Bool) : (s.setBit a i b).pending = s.pending := rfl
@[simp] theorem State.setBit_freeCtr (s : State) (a i : Nat) (b : Bool) : (s.setBit a i b).freeCtr = s.freeCtr := rfl
@[simp] theorem State.setBit_pcc (s : State) (a i : Nat) (b : Bool) : (s.setBit a i b).pcc = s.pcc := rfl
@[simp] theorem State.setBit_ot (s : State) (a i : Nat) (b : Bool) : (s.setBit a i b).ot = s.ot := rfl
@[simp] theorem State.setBit_mem (s : State) (a i : Nat) (b : Bool) : (s.setBit a i b).mem = s.mem := rfl
@[simp] theorem State.setBit_held (s : State) (a i : Nat) (b : Bool) : (s.setBit a i b).held = s.held := rfl
@[simp] theorem State.setBit_heldLow (s : State) (a i : Nat) (b : Bool) : (s.setBit a i b).heldLow = s.heldLow := rfl
@[simp] theorem State.setBit_snap (s : State) (a i : Nat) (b : Bool) : (s.setBit a i b).snap = s.snap := rfl
@[simp] theorem State.setBit_nvc (s : State) (a i : Nat) (b : Bool) : (s.setBit a i b).nvc = s.nvc := rfl
@[simp] theorem State.setBit_cores (s : State) (a i : Nat) (b : Bool) : (s.setBit a i b).cores = s.cores := rfl
@[simp] theorem State.setBit_duty (s : State) (a i : Nat) (b : Bool) : (s.setBit a i b).duty = s.duty := rfl
@[simp] theorem State.setBit_stage2Ready (s : State) (a i : Nat) (b : Bool) : (s.setBit a i b).stage2Ready = s.stage2Ready := rfl
@[simp] theorem State.setBit_retired (s : State) (a i : Nat) (b : Bool) : (s.setBit a i b).retired = s.retired := rfl
@[simp] theorem State.setBit_engines (s : State) (a i : Nat) (b : Bool) : (s.setBit a i b).engines = s.engines := rfl
@[simp] theorem State.setBit_yards (s : State) (a i : Nat) (b : Bool) : (s.setBit a i b).yards = s.yards := rfl
@[simp] theorem State.setBit_owedG (s : State) (a i : Nat) (b : Bool) : (s.setBit a i b).owedG = s.owedG := rfl
@[simp] theorem State.setBit_irq (s : State) (a i : Nat) (b : Bool) : (s.setBit a i b).irq = s.irq := rfl
@[simp] theorem State.setBit_irq1 (s : State) (a i : Nat) (b : Bool) : (s.setBit a i b).irq1 = s.irq1 := rfl
@[simp] theorem State.setBit_ilk (s : State) (a i : Nat) (b : Bool) : (s.setBit a i b).ilk = s.ilk := rfl
@[simp] theorem State.setBit_evr (s : State) (a i : Nat) (b : Bool) : (s.setBit a i b).evr = s.evr := rfl
@[simp] theorem State.setBit_lines (s : State) (a i : Nat) (b : Bool) : (s.setBit a i b).lines = s.lines := rfl
@[simp] theorem State.setBit_tagKey (s : State) (a i : Nat) (b : Bool) : (s.setBit a i b).tagKey = s.tagKey := rfl
@[simp] theorem State.setBit_answers (s : State) (a i : Nat) (b : Bool) : (s.setBit a i b).answers = s.answers := rfl
@[simp] theorem State.setBit_hostOut (s : State) (a i : Nat) (b : Bool) : (s.setBit a i b).hostOut = s.hostOut := rfl
@[simp] theorem State.setBit_tmp (s : State) (a i : Nat) (b : Bool) : (s.setBit a i b).tmp = s.tmp := rfl
@[simp] theorem State.setBit_mbx (s : State) (a i : Nat) (b : Bool) : (s.setBit a i b).mbx = s.mbx := rfl
@[simp] theorem State.setBit_home (s : State) (a i : Nat) (b : Bool) : (s.setBit a i b).home = s.home := rfl
@[simp] theorem State.setBit_lanes (s : State) (a i : Nat) (b : Bool) : (s.setBit a i b).lanes = s.lanes := rfl
@[simp] theorem State.setBit_sig (s : State) (a i : Nat) (b : Bool) : (s.setBit a i b).sig = s.sig := rfl
@[simp] theorem State.setBit_bcast (s : State) (a i : Nat) (b : Bool) : (s.setBit a i b).bcast = s.bcast := rfl
@[simp] theorem State.setBit_keyLoad (s : State) (a i : Nat) (b : Bool) : (s.setBit a i b).keyLoad = s.keyLoad := rfl
@[simp] theorem State.setBit_lcs (s : State) (a i : Nat) (b : Bool) : (s.setBit a i b).lcs = s.lcs := rfl
@[simp] theorem State.setBit_fix (s : State) (a i : Nat) (b : Bool) : (s.setBit a i b).fix = s.fix := rfl
@[simp] theorem State.setBit_ledger (s : State) (a i : Nat) (b : Bool) : (s.setBit a i b).ledger = s.ledger := rfl
@[simp] theorem State.setBit_host (s : State) (a i : Nat) (b : Bool) : (s.setBit a i b).host = s.host := rfl
@[simp] theorem State.setBit_att (s : State) (a i : Nat) (b : Bool) : (s.setBit a i b).att = s.att := rfl
@[simp] theorem State.setBit_pwr (s : State) (a i : Nat) (b : Bool) : (s.setBit a i b).pwr = s.pwr := rfl
@[simp] theorem State.setBit_upd (s : State) (a i : Nat) (b : Bool) : (s.setBit a i b).upd = s.upd := rfl
@[simp] theorem State.setBit_tap (s : State) (a i : Nat) (b : Bool) : (s.setBit a i b).tap = s.tap := rfl

/-! ### State.inc -/

@[simp] theorem State.inc_pending (s : State) (a : Nat) : (s.inc a).pending = s.pending := rfl
@[simp] theorem State.inc_freeCtr (s : State) (a : Nat) : (s.inc a).freeCtr = s.freeCtr := rfl
@[simp] theorem State.inc_pcc (s : State) (a : Nat) : (s.inc a).pcc = s.pcc := rfl
@[simp] theorem State.inc_ot (s : State) (a : Nat) : (s.inc a).ot = s.ot := rfl
@[simp] theorem State.inc_mem (s : State) (a : Nat) : (s.inc a).mem = s.mem := rfl
@[simp] theorem State.inc_held (s : State) (a : Nat) : (s.inc a).held = s.held := rfl
@[simp] theorem State.inc_heldLow (s : State) (a : Nat) : (s.inc a).heldLow = s.heldLow := rfl
@[simp] theorem State.inc_snap (s : State) (a : Nat) : (s.inc a).snap = s.snap := rfl
@[simp] theorem State.inc_nvc (s : State) (a : Nat) : (s.inc a).nvc = s.nvc := rfl
@[simp] theorem State.inc_cores (s : State) (a : Nat) : (s.inc a).cores = s.cores := rfl
@[simp] theorem State.inc_duty (s : State) (a : Nat) : (s.inc a).duty = s.duty := rfl
@[simp] theorem State.inc_stage2Ready (s : State) (a : Nat) : (s.inc a).stage2Ready = s.stage2Ready := rfl
@[simp] theorem State.inc_retired (s : State) (a : Nat) : (s.inc a).retired = s.retired := rfl
@[simp] theorem State.inc_engines (s : State) (a : Nat) : (s.inc a).engines = s.engines := rfl
@[simp] theorem State.inc_yards (s : State) (a : Nat) : (s.inc a).yards = s.yards := rfl
@[simp] theorem State.inc_owedG (s : State) (a : Nat) : (s.inc a).owedG = s.owedG := rfl
@[simp] theorem State.inc_irq (s : State) (a : Nat) : (s.inc a).irq = s.irq := rfl
@[simp] theorem State.inc_irq1 (s : State) (a : Nat) : (s.inc a).irq1 = s.irq1 := rfl
@[simp] theorem State.inc_ilk (s : State) (a : Nat) : (s.inc a).ilk = s.ilk := rfl
@[simp] theorem State.inc_evr (s : State) (a : Nat) : (s.inc a).evr = s.evr := rfl
@[simp] theorem State.inc_lines (s : State) (a : Nat) : (s.inc a).lines = s.lines := rfl
@[simp] theorem State.inc_tagKey (s : State) (a : Nat) : (s.inc a).tagKey = s.tagKey := rfl
@[simp] theorem State.inc_answers (s : State) (a : Nat) : (s.inc a).answers = s.answers := rfl
@[simp] theorem State.inc_hostOut (s : State) (a : Nat) : (s.inc a).hostOut = s.hostOut := rfl
@[simp] theorem State.inc_tmp (s : State) (a : Nat) : (s.inc a).tmp = s.tmp := rfl
@[simp] theorem State.inc_mbx (s : State) (a : Nat) : (s.inc a).mbx = s.mbx := rfl
@[simp] theorem State.inc_home (s : State) (a : Nat) : (s.inc a).home = s.home := rfl
@[simp] theorem State.inc_lanes (s : State) (a : Nat) : (s.inc a).lanes = s.lanes := rfl
@[simp] theorem State.inc_sig (s : State) (a : Nat) : (s.inc a).sig = s.sig := rfl
@[simp] theorem State.inc_bcast (s : State) (a : Nat) : (s.inc a).bcast = s.bcast := rfl
@[simp] theorem State.inc_keyLoad (s : State) (a : Nat) : (s.inc a).keyLoad = s.keyLoad := rfl
@[simp] theorem State.inc_lcs (s : State) (a : Nat) : (s.inc a).lcs = s.lcs := rfl
@[simp] theorem State.inc_fix (s : State) (a : Nat) : (s.inc a).fix = s.fix := rfl
@[simp] theorem State.inc_ledger (s : State) (a : Nat) : (s.inc a).ledger = s.ledger := rfl
@[simp] theorem State.inc_host (s : State) (a : Nat) : (s.inc a).host = s.host := rfl
@[simp] theorem State.inc_att (s : State) (a : Nat) : (s.inc a).att = s.att := rfl
@[simp] theorem State.inc_pwr (s : State) (a : Nat) : (s.inc a).pwr = s.pwr := rfl
@[simp] theorem State.inc_upd (s : State) (a : Nat) : (s.inc a).upd = s.upd := rfl
@[simp] theorem State.inc_tap (s : State) (a : Nat) : (s.inc a).tap = s.tap := rfl

/-! ### State.addTo -/

@[simp] theorem State.addTo_pending (s : State) (a n : Nat) : (s.addTo a n).pending = s.pending := rfl
@[simp] theorem State.addTo_freeCtr (s : State) (a n : Nat) : (s.addTo a n).freeCtr = s.freeCtr := rfl
@[simp] theorem State.addTo_pcc (s : State) (a n : Nat) : (s.addTo a n).pcc = s.pcc := rfl
@[simp] theorem State.addTo_ot (s : State) (a n : Nat) : (s.addTo a n).ot = s.ot := rfl
@[simp] theorem State.addTo_mem (s : State) (a n : Nat) : (s.addTo a n).mem = s.mem := rfl
@[simp] theorem State.addTo_held (s : State) (a n : Nat) : (s.addTo a n).held = s.held := rfl
@[simp] theorem State.addTo_heldLow (s : State) (a n : Nat) : (s.addTo a n).heldLow = s.heldLow := rfl
@[simp] theorem State.addTo_snap (s : State) (a n : Nat) : (s.addTo a n).snap = s.snap := rfl
@[simp] theorem State.addTo_nvc (s : State) (a n : Nat) : (s.addTo a n).nvc = s.nvc := rfl
@[simp] theorem State.addTo_cores (s : State) (a n : Nat) : (s.addTo a n).cores = s.cores := rfl
@[simp] theorem State.addTo_duty (s : State) (a n : Nat) : (s.addTo a n).duty = s.duty := rfl
@[simp] theorem State.addTo_stage2Ready (s : State) (a n : Nat) : (s.addTo a n).stage2Ready = s.stage2Ready := rfl
@[simp] theorem State.addTo_retired (s : State) (a n : Nat) : (s.addTo a n).retired = s.retired := rfl
@[simp] theorem State.addTo_engines (s : State) (a n : Nat) : (s.addTo a n).engines = s.engines := rfl
@[simp] theorem State.addTo_yards (s : State) (a n : Nat) : (s.addTo a n).yards = s.yards := rfl
@[simp] theorem State.addTo_owedG (s : State) (a n : Nat) : (s.addTo a n).owedG = s.owedG := rfl
@[simp] theorem State.addTo_irq (s : State) (a n : Nat) : (s.addTo a n).irq = s.irq := rfl
@[simp] theorem State.addTo_irq1 (s : State) (a n : Nat) : (s.addTo a n).irq1 = s.irq1 := rfl
@[simp] theorem State.addTo_ilk (s : State) (a n : Nat) : (s.addTo a n).ilk = s.ilk := rfl
@[simp] theorem State.addTo_evr (s : State) (a n : Nat) : (s.addTo a n).evr = s.evr := rfl
@[simp] theorem State.addTo_lines (s : State) (a n : Nat) : (s.addTo a n).lines = s.lines := rfl
@[simp] theorem State.addTo_tagKey (s : State) (a n : Nat) : (s.addTo a n).tagKey = s.tagKey := rfl
@[simp] theorem State.addTo_answers (s : State) (a n : Nat) : (s.addTo a n).answers = s.answers := rfl
@[simp] theorem State.addTo_hostOut (s : State) (a n : Nat) : (s.addTo a n).hostOut = s.hostOut := rfl
@[simp] theorem State.addTo_tmp (s : State) (a n : Nat) : (s.addTo a n).tmp = s.tmp := rfl
@[simp] theorem State.addTo_mbx (s : State) (a n : Nat) : (s.addTo a n).mbx = s.mbx := rfl
@[simp] theorem State.addTo_home (s : State) (a n : Nat) : (s.addTo a n).home = s.home := rfl
@[simp] theorem State.addTo_lanes (s : State) (a n : Nat) : (s.addTo a n).lanes = s.lanes := rfl
@[simp] theorem State.addTo_sig (s : State) (a n : Nat) : (s.addTo a n).sig = s.sig := rfl
@[simp] theorem State.addTo_bcast (s : State) (a n : Nat) : (s.addTo a n).bcast = s.bcast := rfl
@[simp] theorem State.addTo_keyLoad (s : State) (a n : Nat) : (s.addTo a n).keyLoad = s.keyLoad := rfl
@[simp] theorem State.addTo_lcs (s : State) (a n : Nat) : (s.addTo a n).lcs = s.lcs := rfl
@[simp] theorem State.addTo_fix (s : State) (a n : Nat) : (s.addTo a n).fix = s.fix := rfl
@[simp] theorem State.addTo_ledger (s : State) (a n : Nat) : (s.addTo a n).ledger = s.ledger := rfl
@[simp] theorem State.addTo_host (s : State) (a n : Nat) : (s.addTo a n).host = s.host := rfl
@[simp] theorem State.addTo_att (s : State) (a n : Nat) : (s.addTo a n).att = s.att := rfl
@[simp] theorem State.addTo_pwr (s : State) (a n : Nat) : (s.addTo a n).pwr = s.pwr := rfl
@[simp] theorem State.addTo_upd (s : State) (a n : Nat) : (s.addTo a n).upd = s.upd := rfl
@[simp] theorem State.addTo_tap (s : State) (a n : Nat) : (s.addTo a n).tap = s.tap := rfl

/-! ### State.wrMem -/

@[simp] theorem State.wrMem_pending (s : State) (a : Nat) (b : Byte) : (s.wrMem a b).pending = s.pending := rfl
@[simp] theorem State.wrMem_freeCtr (s : State) (a : Nat) (b : Byte) : (s.wrMem a b).freeCtr = s.freeCtr := rfl
@[simp] theorem State.wrMem_pcc (s : State) (a : Nat) (b : Byte) : (s.wrMem a b).pcc = s.pcc := rfl
@[simp] theorem State.wrMem_ot (s : State) (a : Nat) (b : Byte) : (s.wrMem a b).ot = s.ot := rfl
@[simp] theorem State.wrMem_regs (s : State) (a : Nat) (b : Byte) : (s.wrMem a b).regs = s.regs := rfl
@[simp] theorem State.wrMem_held (s : State) (a : Nat) (b : Byte) : (s.wrMem a b).held = s.held := rfl
@[simp] theorem State.wrMem_heldLow (s : State) (a : Nat) (b : Byte) : (s.wrMem a b).heldLow = s.heldLow := rfl
@[simp] theorem State.wrMem_snap (s : State) (a : Nat) (b : Byte) : (s.wrMem a b).snap = s.snap := rfl
@[simp] theorem State.wrMem_nvc (s : State) (a : Nat) (b : Byte) : (s.wrMem a b).nvc = s.nvc := rfl
@[simp] theorem State.wrMem_cores (s : State) (a : Nat) (b : Byte) : (s.wrMem a b).cores = s.cores := rfl
@[simp] theorem State.wrMem_duty (s : State) (a : Nat) (b : Byte) : (s.wrMem a b).duty = s.duty := rfl
@[simp] theorem State.wrMem_stage2Ready (s : State) (a : Nat) (b : Byte) : (s.wrMem a b).stage2Ready = s.stage2Ready := rfl
@[simp] theorem State.wrMem_retired (s : State) (a : Nat) (b : Byte) : (s.wrMem a b).retired = s.retired := rfl
@[simp] theorem State.wrMem_engines (s : State) (a : Nat) (b : Byte) : (s.wrMem a b).engines = s.engines := rfl
@[simp] theorem State.wrMem_yards (s : State) (a : Nat) (b : Byte) : (s.wrMem a b).yards = s.yards := rfl
@[simp] theorem State.wrMem_owedG (s : State) (a : Nat) (b : Byte) : (s.wrMem a b).owedG = s.owedG := rfl
@[simp] theorem State.wrMem_irq (s : State) (a : Nat) (b : Byte) : (s.wrMem a b).irq = s.irq := rfl
@[simp] theorem State.wrMem_irq1 (s : State) (a : Nat) (b : Byte) : (s.wrMem a b).irq1 = s.irq1 := rfl
@[simp] theorem State.wrMem_ilk (s : State) (a : Nat) (b : Byte) : (s.wrMem a b).ilk = s.ilk := rfl
@[simp] theorem State.wrMem_evr (s : State) (a : Nat) (b : Byte) : (s.wrMem a b).evr = s.evr := rfl
@[simp] theorem State.wrMem_lines (s : State) (a : Nat) (b : Byte) : (s.wrMem a b).lines = s.lines := rfl
@[simp] theorem State.wrMem_tagKey (s : State) (a : Nat) (b : Byte) : (s.wrMem a b).tagKey = s.tagKey := rfl
@[simp] theorem State.wrMem_answers (s : State) (a : Nat) (b : Byte) : (s.wrMem a b).answers = s.answers := rfl
@[simp] theorem State.wrMem_hostOut (s : State) (a : Nat) (b : Byte) : (s.wrMem a b).hostOut = s.hostOut := rfl
@[simp] theorem State.wrMem_tmp (s : State) (a : Nat) (b : Byte) : (s.wrMem a b).tmp = s.tmp := rfl
@[simp] theorem State.wrMem_mbx (s : State) (a : Nat) (b : Byte) : (s.wrMem a b).mbx = s.mbx := rfl
@[simp] theorem State.wrMem_home (s : State) (a : Nat) (b : Byte) : (s.wrMem a b).home = s.home := rfl
@[simp] theorem State.wrMem_lanes (s : State) (a : Nat) (b : Byte) : (s.wrMem a b).lanes = s.lanes := rfl
@[simp] theorem State.wrMem_sig (s : State) (a : Nat) (b : Byte) : (s.wrMem a b).sig = s.sig := rfl
@[simp] theorem State.wrMem_bcast (s : State) (a : Nat) (b : Byte) : (s.wrMem a b).bcast = s.bcast := rfl
@[simp] theorem State.wrMem_keyLoad (s : State) (a : Nat) (b : Byte) : (s.wrMem a b).keyLoad = s.keyLoad := rfl
@[simp] theorem State.wrMem_lcs (s : State) (a : Nat) (b : Byte) : (s.wrMem a b).lcs = s.lcs := rfl
@[simp] theorem State.wrMem_fix (s : State) (a : Nat) (b : Byte) : (s.wrMem a b).fix = s.fix := rfl
@[simp] theorem State.wrMem_ledger (s : State) (a : Nat) (b : Byte) : (s.wrMem a b).ledger = s.ledger := rfl
@[simp] theorem State.wrMem_host (s : State) (a : Nat) (b : Byte) : (s.wrMem a b).host = s.host := rfl
@[simp] theorem State.wrMem_att (s : State) (a : Nat) (b : Byte) : (s.wrMem a b).att = s.att := rfl
@[simp] theorem State.wrMem_pwr (s : State) (a : Nat) (b : Byte) : (s.wrMem a b).pwr = s.pwr := rfl
@[simp] theorem State.wrMem_upd (s : State) (a : Nat) (b : Byte) : (s.wrMem a b).upd = s.upd := rfl
@[simp] theorem State.wrMem_tap (s : State) (a : Nat) (b : Byte) : (s.wrMem a b).tap = s.tap := rfl

/-! ### State.setCore -/

@[simp] theorem State.setCore_pending (s : State) (c : Fin 2) (x : Core) : (s.setCore c x).pending = s.pending := rfl
@[simp] theorem State.setCore_freeCtr (s : State) (c : Fin 2) (x : Core) : (s.setCore c x).freeCtr = s.freeCtr := rfl
@[simp] theorem State.setCore_pcc (s : State) (c : Fin 2) (x : Core) : (s.setCore c x).pcc = s.pcc := rfl
@[simp] theorem State.setCore_ot (s : State) (c : Fin 2) (x : Core) : (s.setCore c x).ot = s.ot := rfl
@[simp] theorem State.setCore_regs (s : State) (c : Fin 2) (x : Core) : (s.setCore c x).regs = s.regs := rfl
@[simp] theorem State.setCore_mem (s : State) (c : Fin 2) (x : Core) : (s.setCore c x).mem = s.mem := rfl
@[simp] theorem State.setCore_held (s : State) (c : Fin 2) (x : Core) : (s.setCore c x).held = s.held := rfl
@[simp] theorem State.setCore_heldLow (s : State) (c : Fin 2) (x : Core) : (s.setCore c x).heldLow = s.heldLow := rfl
@[simp] theorem State.setCore_snap (s : State) (c : Fin 2) (x : Core) : (s.setCore c x).snap = s.snap := rfl
@[simp] theorem State.setCore_nvc (s : State) (c : Fin 2) (x : Core) : (s.setCore c x).nvc = s.nvc := rfl
@[simp] theorem State.setCore_duty (s : State) (c : Fin 2) (x : Core) : (s.setCore c x).duty = s.duty := rfl
@[simp] theorem State.setCore_stage2Ready (s : State) (c : Fin 2) (x : Core) : (s.setCore c x).stage2Ready = s.stage2Ready := rfl
@[simp] theorem State.setCore_retired (s : State) (c : Fin 2) (x : Core) : (s.setCore c x).retired = s.retired := rfl
@[simp] theorem State.setCore_engines (s : State) (c : Fin 2) (x : Core) : (s.setCore c x).engines = s.engines := rfl
@[simp] theorem State.setCore_yards (s : State) (c : Fin 2) (x : Core) : (s.setCore c x).yards = s.yards := rfl
@[simp] theorem State.setCore_owedG (s : State) (c : Fin 2) (x : Core) : (s.setCore c x).owedG = s.owedG := rfl
@[simp] theorem State.setCore_irq (s : State) (c : Fin 2) (x : Core) : (s.setCore c x).irq = s.irq := rfl
@[simp] theorem State.setCore_irq1 (s : State) (c : Fin 2) (x : Core) : (s.setCore c x).irq1 = s.irq1 := rfl
@[simp] theorem State.setCore_ilk (s : State) (c : Fin 2) (x : Core) : (s.setCore c x).ilk = s.ilk := rfl
@[simp] theorem State.setCore_evr (s : State) (c : Fin 2) (x : Core) : (s.setCore c x).evr = s.evr := rfl
@[simp] theorem State.setCore_lines (s : State) (c : Fin 2) (x : Core) : (s.setCore c x).lines = s.lines := rfl
@[simp] theorem State.setCore_tagKey (s : State) (c : Fin 2) (x : Core) : (s.setCore c x).tagKey = s.tagKey := rfl
@[simp] theorem State.setCore_answers (s : State) (c : Fin 2) (x : Core) : (s.setCore c x).answers = s.answers := rfl
@[simp] theorem State.setCore_hostOut (s : State) (c : Fin 2) (x : Core) : (s.setCore c x).hostOut = s.hostOut := rfl
@[simp] theorem State.setCore_tmp (s : State) (c : Fin 2) (x : Core) : (s.setCore c x).tmp = s.tmp := rfl
@[simp] theorem State.setCore_mbx (s : State) (c : Fin 2) (x : Core) : (s.setCore c x).mbx = s.mbx := rfl
@[simp] theorem State.setCore_home (s : State) (c : Fin 2) (x : Core) : (s.setCore c x).home = s.home := rfl
@[simp] theorem State.setCore_lanes (s : State) (c : Fin 2) (x : Core) : (s.setCore c x).lanes = s.lanes := rfl
@[simp] theorem State.setCore_sig (s : State) (c : Fin 2) (x : Core) : (s.setCore c x).sig = s.sig := rfl
@[simp] theorem State.setCore_bcast (s : State) (c : Fin 2) (x : Core) : (s.setCore c x).bcast = s.bcast := rfl
@[simp] theorem State.setCore_keyLoad (s : State) (c : Fin 2) (x : Core) : (s.setCore c x).keyLoad = s.keyLoad := rfl
@[simp] theorem State.setCore_lcs (s : State) (c : Fin 2) (x : Core) : (s.setCore c x).lcs = s.lcs := rfl
@[simp] theorem State.setCore_fix (s : State) (c : Fin 2) (x : Core) : (s.setCore c x).fix = s.fix := rfl
@[simp] theorem State.setCore_ledger (s : State) (c : Fin 2) (x : Core) : (s.setCore c x).ledger = s.ledger := rfl
@[simp] theorem State.setCore_host (s : State) (c : Fin 2) (x : Core) : (s.setCore c x).host = s.host := rfl
@[simp] theorem State.setCore_att (s : State) (c : Fin 2) (x : Core) : (s.setCore c x).att = s.att := rfl
@[simp] theorem State.setCore_pwr (s : State) (c : Fin 2) (x : Core) : (s.setCore c x).pwr = s.pwr := rfl
@[simp] theorem State.setCore_upd (s : State) (c : Fin 2) (x : Core) : (s.setCore c x).upd = s.upd := rfl
@[simp] theorem State.setCore_tap (s : State) (c : Fin 2) (x : Core) : (s.setCore c x).tap = s.tap := rfl

/-! ### State.setEngine -/

@[simp] theorem State.setEngine_pending (s : State) (e : Nat) (x : Engine) : (s.setEngine e x).pending = s.pending := rfl
@[simp] theorem State.setEngine_freeCtr (s : State) (e : Nat) (x : Engine) : (s.setEngine e x).freeCtr = s.freeCtr := rfl
@[simp] theorem State.setEngine_pcc (s : State) (e : Nat) (x : Engine) : (s.setEngine e x).pcc = s.pcc := rfl
@[simp] theorem State.setEngine_ot (s : State) (e : Nat) (x : Engine) : (s.setEngine e x).ot = s.ot := rfl
@[simp] theorem State.setEngine_regs (s : State) (e : Nat) (x : Engine) : (s.setEngine e x).regs = s.regs := rfl
@[simp] theorem State.setEngine_mem (s : State) (e : Nat) (x : Engine) : (s.setEngine e x).mem = s.mem := rfl
@[simp] theorem State.setEngine_held (s : State) (e : Nat) (x : Engine) : (s.setEngine e x).held = s.held := rfl
@[simp] theorem State.setEngine_heldLow (s : State) (e : Nat) (x : Engine) : (s.setEngine e x).heldLow = s.heldLow := rfl
@[simp] theorem State.setEngine_snap (s : State) (e : Nat) (x : Engine) : (s.setEngine e x).snap = s.snap := rfl
@[simp] theorem State.setEngine_nvc (s : State) (e : Nat) (x : Engine) : (s.setEngine e x).nvc = s.nvc := rfl
@[simp] theorem State.setEngine_cores (s : State) (e : Nat) (x : Engine) : (s.setEngine e x).cores = s.cores := rfl
@[simp] theorem State.setEngine_duty (s : State) (e : Nat) (x : Engine) : (s.setEngine e x).duty = s.duty := rfl
@[simp] theorem State.setEngine_stage2Ready (s : State) (e : Nat) (x : Engine) : (s.setEngine e x).stage2Ready = s.stage2Ready := rfl
@[simp] theorem State.setEngine_retired (s : State) (e : Nat) (x : Engine) : (s.setEngine e x).retired = s.retired := rfl
@[simp] theorem State.setEngine_yards (s : State) (e : Nat) (x : Engine) : (s.setEngine e x).yards = s.yards := rfl
@[simp] theorem State.setEngine_owedG (s : State) (e : Nat) (x : Engine) : (s.setEngine e x).owedG = s.owedG := rfl
@[simp] theorem State.setEngine_irq (s : State) (e : Nat) (x : Engine) : (s.setEngine e x).irq = s.irq := rfl
@[simp] theorem State.setEngine_irq1 (s : State) (e : Nat) (x : Engine) : (s.setEngine e x).irq1 = s.irq1 := rfl
@[simp] theorem State.setEngine_ilk (s : State) (e : Nat) (x : Engine) : (s.setEngine e x).ilk = s.ilk := rfl
@[simp] theorem State.setEngine_evr (s : State) (e : Nat) (x : Engine) : (s.setEngine e x).evr = s.evr := rfl
@[simp] theorem State.setEngine_lines (s : State) (e : Nat) (x : Engine) : (s.setEngine e x).lines = s.lines := rfl
@[simp] theorem State.setEngine_tagKey (s : State) (e : Nat) (x : Engine) : (s.setEngine e x).tagKey = s.tagKey := rfl
@[simp] theorem State.setEngine_answers (s : State) (e : Nat) (x : Engine) : (s.setEngine e x).answers = s.answers := rfl
@[simp] theorem State.setEngine_hostOut (s : State) (e : Nat) (x : Engine) : (s.setEngine e x).hostOut = s.hostOut := rfl
@[simp] theorem State.setEngine_tmp (s : State) (e : Nat) (x : Engine) : (s.setEngine e x).tmp = s.tmp := rfl
@[simp] theorem State.setEngine_mbx (s : State) (e : Nat) (x : Engine) : (s.setEngine e x).mbx = s.mbx := rfl
@[simp] theorem State.setEngine_home (s : State) (e : Nat) (x : Engine) : (s.setEngine e x).home = s.home := rfl
@[simp] theorem State.setEngine_lanes (s : State) (e : Nat) (x : Engine) : (s.setEngine e x).lanes = s.lanes := rfl
@[simp] theorem State.setEngine_sig (s : State) (e : Nat) (x : Engine) : (s.setEngine e x).sig = s.sig := rfl
@[simp] theorem State.setEngine_bcast (s : State) (e : Nat) (x : Engine) : (s.setEngine e x).bcast = s.bcast := rfl
@[simp] theorem State.setEngine_keyLoad (s : State) (e : Nat) (x : Engine) : (s.setEngine e x).keyLoad = s.keyLoad := rfl
@[simp] theorem State.setEngine_lcs (s : State) (e : Nat) (x : Engine) : (s.setEngine e x).lcs = s.lcs := rfl
@[simp] theorem State.setEngine_fix (s : State) (e : Nat) (x : Engine) : (s.setEngine e x).fix = s.fix := rfl
@[simp] theorem State.setEngine_ledger (s : State) (e : Nat) (x : Engine) : (s.setEngine e x).ledger = s.ledger := rfl
@[simp] theorem State.setEngine_host (s : State) (e : Nat) (x : Engine) : (s.setEngine e x).host = s.host := rfl
@[simp] theorem State.setEngine_att (s : State) (e : Nat) (x : Engine) : (s.setEngine e x).att = s.att := rfl
@[simp] theorem State.setEngine_pwr (s : State) (e : Nat) (x : Engine) : (s.setEngine e x).pwr = s.pwr := rfl
@[simp] theorem State.setEngine_upd (s : State) (e : Nat) (x : Engine) : (s.setEngine e x).upd = s.upd := rfl
@[simp] theorem State.setEngine_tap (s : State) (e : Nat) (x : Engine) : (s.setEngine e x).tap = s.tap := rfl

/-! ### State.setYard -/

@[simp] theorem State.setYard_pending (s : State) (y : Nat) (x : Yard) : (s.setYard y x).pending = s.pending := rfl
@[simp] theorem State.setYard_freeCtr (s : State) (y : Nat) (x : Yard) : (s.setYard y x).freeCtr = s.freeCtr := rfl
@[simp] theorem State.setYard_pcc (s : State) (y : Nat) (x : Yard) : (s.setYard y x).pcc = s.pcc := rfl
@[simp] theorem State.setYard_ot (s : State) (y : Nat) (x : Yard) : (s.setYard y x).ot = s.ot := rfl
@[simp] theorem State.setYard_regs (s : State) (y : Nat) (x : Yard) : (s.setYard y x).regs = s.regs := rfl
@[simp] theorem State.setYard_mem (s : State) (y : Nat) (x : Yard) : (s.setYard y x).mem = s.mem := rfl
@[simp] theorem State.setYard_held (s : State) (y : Nat) (x : Yard) : (s.setYard y x).held = s.held := rfl
@[simp] theorem State.setYard_heldLow (s : State) (y : Nat) (x : Yard) : (s.setYard y x).heldLow = s.heldLow := rfl
@[simp] theorem State.setYard_snap (s : State) (y : Nat) (x : Yard) : (s.setYard y x).snap = s.snap := rfl
@[simp] theorem State.setYard_nvc (s : State) (y : Nat) (x : Yard) : (s.setYard y x).nvc = s.nvc := rfl
@[simp] theorem State.setYard_cores (s : State) (y : Nat) (x : Yard) : (s.setYard y x).cores = s.cores := rfl
@[simp] theorem State.setYard_duty (s : State) (y : Nat) (x : Yard) : (s.setYard y x).duty = s.duty := rfl
@[simp] theorem State.setYard_stage2Ready (s : State) (y : Nat) (x : Yard) : (s.setYard y x).stage2Ready = s.stage2Ready := rfl
@[simp] theorem State.setYard_retired (s : State) (y : Nat) (x : Yard) : (s.setYard y x).retired = s.retired := rfl
@[simp] theorem State.setYard_engines (s : State) (y : Nat) (x : Yard) : (s.setYard y x).engines = s.engines := rfl
@[simp] theorem State.setYard_owedG (s : State) (y : Nat) (x : Yard) : (s.setYard y x).owedG = s.owedG := rfl
@[simp] theorem State.setYard_irq (s : State) (y : Nat) (x : Yard) : (s.setYard y x).irq = s.irq := rfl
@[simp] theorem State.setYard_irq1 (s : State) (y : Nat) (x : Yard) : (s.setYard y x).irq1 = s.irq1 := rfl
@[simp] theorem State.setYard_ilk (s : State) (y : Nat) (x : Yard) : (s.setYard y x).ilk = s.ilk := rfl
@[simp] theorem State.setYard_evr (s : State) (y : Nat) (x : Yard) : (s.setYard y x).evr = s.evr := rfl
@[simp] theorem State.setYard_lines (s : State) (y : Nat) (x : Yard) : (s.setYard y x).lines = s.lines := rfl
@[simp] theorem State.setYard_tagKey (s : State) (y : Nat) (x : Yard) : (s.setYard y x).tagKey = s.tagKey := rfl
@[simp] theorem State.setYard_answers (s : State) (y : Nat) (x : Yard) : (s.setYard y x).answers = s.answers := rfl
@[simp] theorem State.setYard_hostOut (s : State) (y : Nat) (x : Yard) : (s.setYard y x).hostOut = s.hostOut := rfl
@[simp] theorem State.setYard_tmp (s : State) (y : Nat) (x : Yard) : (s.setYard y x).tmp = s.tmp := rfl
@[simp] theorem State.setYard_mbx (s : State) (y : Nat) (x : Yard) : (s.setYard y x).mbx = s.mbx := rfl
@[simp] theorem State.setYard_home (s : State) (y : Nat) (x : Yard) : (s.setYard y x).home = s.home := rfl
@[simp] theorem State.setYard_lanes (s : State) (y : Nat) (x : Yard) : (s.setYard y x).lanes = s.lanes := rfl
@[simp] theorem State.setYard_sig (s : State) (y : Nat) (x : Yard) : (s.setYard y x).sig = s.sig := rfl
@[simp] theorem State.setYard_bcast (s : State) (y : Nat) (x : Yard) : (s.setYard y x).bcast = s.bcast := rfl
@[simp] theorem State.setYard_keyLoad (s : State) (y : Nat) (x : Yard) : (s.setYard y x).keyLoad = s.keyLoad := rfl
@[simp] theorem State.setYard_lcs (s : State) (y : Nat) (x : Yard) : (s.setYard y x).lcs = s.lcs := rfl
@[simp] theorem State.setYard_fix (s : State) (y : Nat) (x : Yard) : (s.setYard y x).fix = s.fix := rfl
@[simp] theorem State.setYard_ledger (s : State) (y : Nat) (x : Yard) : (s.setYard y x).ledger = s.ledger := rfl
@[simp] theorem State.setYard_host (s : State) (y : Nat) (x : Yard) : (s.setYard y x).host = s.host := rfl
@[simp] theorem State.setYard_att (s : State) (y : Nat) (x : Yard) : (s.setYard y x).att = s.att := rfl
@[simp] theorem State.setYard_pwr (s : State) (y : Nat) (x : Yard) : (s.setYard y x).pwr = s.pwr := rfl
@[simp] theorem State.setYard_upd (s : State) (y : Nat) (x : Yard) : (s.setYard y x).upd = s.upd := rfl
@[simp] theorem State.setYard_tap (s : State) (y : Nat) (x : Yard) : (s.setYard y x).tap = s.tap := rfl

/-! ### State.setLine -/

@[simp] theorem State.setLine_pending (s : State) (n : Nat) (x : Line) : (s.setLine n x).pending = s.pending := rfl
@[simp] theorem State.setLine_freeCtr (s : State) (n : Nat) (x : Line) : (s.setLine n x).freeCtr = s.freeCtr := rfl
@[simp] theorem State.setLine_pcc (s : State) (n : Nat) (x : Line) : (s.setLine n x).pcc = s.pcc := rfl
@[simp] theorem State.setLine_ot (s : State) (n : Nat) (x : Line) : (s.setLine n x).ot = s.ot := rfl
@[simp] theorem State.setLine_regs (s : State) (n : Nat) (x : Line) : (s.setLine n x).regs = s.regs := rfl
@[simp] theorem State.setLine_mem (s : State) (n : Nat) (x : Line) : (s.setLine n x).mem = s.mem := rfl
@[simp] theorem State.setLine_held (s : State) (n : Nat) (x : Line) : (s.setLine n x).held = s.held := rfl
@[simp] theorem State.setLine_heldLow (s : State) (n : Nat) (x : Line) : (s.setLine n x).heldLow = s.heldLow := rfl
@[simp] theorem State.setLine_snap (s : State) (n : Nat) (x : Line) : (s.setLine n x).snap = s.snap := rfl
@[simp] theorem State.setLine_nvc (s : State) (n : Nat) (x : Line) : (s.setLine n x).nvc = s.nvc := rfl
@[simp] theorem State.setLine_cores (s : State) (n : Nat) (x : Line) : (s.setLine n x).cores = s.cores := rfl
@[simp] theorem State.setLine_duty (s : State) (n : Nat) (x : Line) : (s.setLine n x).duty = s.duty := rfl
@[simp] theorem State.setLine_stage2Ready (s : State) (n : Nat) (x : Line) : (s.setLine n x).stage2Ready = s.stage2Ready := rfl
@[simp] theorem State.setLine_retired (s : State) (n : Nat) (x : Line) : (s.setLine n x).retired = s.retired := rfl
@[simp] theorem State.setLine_engines (s : State) (n : Nat) (x : Line) : (s.setLine n x).engines = s.engines := rfl
@[simp] theorem State.setLine_yards (s : State) (n : Nat) (x : Line) : (s.setLine n x).yards = s.yards := rfl
@[simp] theorem State.setLine_owedG (s : State) (n : Nat) (x : Line) : (s.setLine n x).owedG = s.owedG := rfl
@[simp] theorem State.setLine_irq (s : State) (n : Nat) (x : Line) : (s.setLine n x).irq = s.irq := rfl
@[simp] theorem State.setLine_irq1 (s : State) (n : Nat) (x : Line) : (s.setLine n x).irq1 = s.irq1 := rfl
@[simp] theorem State.setLine_ilk (s : State) (n : Nat) (x : Line) : (s.setLine n x).ilk = s.ilk := rfl
@[simp] theorem State.setLine_evr (s : State) (n : Nat) (x : Line) : (s.setLine n x).evr = s.evr := rfl
@[simp] theorem State.setLine_tagKey (s : State) (n : Nat) (x : Line) : (s.setLine n x).tagKey = s.tagKey := rfl
@[simp] theorem State.setLine_answers (s : State) (n : Nat) (x : Line) : (s.setLine n x).answers = s.answers := rfl
@[simp] theorem State.setLine_hostOut (s : State) (n : Nat) (x : Line) : (s.setLine n x).hostOut = s.hostOut := rfl
@[simp] theorem State.setLine_tmp (s : State) (n : Nat) (x : Line) : (s.setLine n x).tmp = s.tmp := rfl
@[simp] theorem State.setLine_mbx (s : State) (n : Nat) (x : Line) : (s.setLine n x).mbx = s.mbx := rfl
@[simp] theorem State.setLine_home (s : State) (n : Nat) (x : Line) : (s.setLine n x).home = s.home := rfl
@[simp] theorem State.setLine_lanes (s : State) (n : Nat) (x : Line) : (s.setLine n x).lanes = s.lanes := rfl
@[simp] theorem State.setLine_sig (s : State) (n : Nat) (x : Line) : (s.setLine n x).sig = s.sig := rfl
@[simp] theorem State.setLine_bcast (s : State) (n : Nat) (x : Line) : (s.setLine n x).bcast = s.bcast := rfl
@[simp] theorem State.setLine_keyLoad (s : State) (n : Nat) (x : Line) : (s.setLine n x).keyLoad = s.keyLoad := rfl
@[simp] theorem State.setLine_lcs (s : State) (n : Nat) (x : Line) : (s.setLine n x).lcs = s.lcs := rfl
@[simp] theorem State.setLine_fix (s : State) (n : Nat) (x : Line) : (s.setLine n x).fix = s.fix := rfl
@[simp] theorem State.setLine_ledger (s : State) (n : Nat) (x : Line) : (s.setLine n x).ledger = s.ledger := rfl
@[simp] theorem State.setLine_host (s : State) (n : Nat) (x : Line) : (s.setLine n x).host = s.host := rfl
@[simp] theorem State.setLine_att (s : State) (n : Nat) (x : Line) : (s.setLine n x).att = s.att := rfl
@[simp] theorem State.setLine_pwr (s : State) (n : Nat) (x : Line) : (s.setLine n x).pwr = s.pwr := rfl
@[simp] theorem State.setLine_upd (s : State) (n : Nat) (x : Line) : (s.setLine n x).upd = s.upd := rfl
@[simp] theorem State.setLine_tap (s : State) (n : Nat) (x : Line) : (s.setLine n x).tap = s.tap := rfl

/-! ### Register words -/

@[simp] theorem State.rd_wr_self (s : State) (a : Nat) (v : Word) : (s.wr a v).rd a = v :=
  Sparse.get_set_self regReset s.regs a v

theorem State.rd_wr_of_ne (s : State) {a b : Nat} (v : Word) (h : b ≠ a) : (s.wr a v).rd b = s.rd b :=
  Sparse.get_set_of_ne regReset s.regs v h

theorem State.rd_setF_of_ne (s : State) {a b : Nat} (hi lo v : Nat) (h : b ≠ a) : (s.setF a hi lo v).rd b = s.rd b :=
  State.rd_wr_of_ne s _ h

theorem State.rd_setBit_of_ne (s : State) {a b : Nat} (i : Nat) (x : Bool) (h : b ≠ a) :
    (s.setBit a i x).rd b = s.rd b := State.rd_wr_of_ne s _ h

theorem State.rd_inc_of_ne (s : State) {a b : Nat} (h : b ≠ a) : (s.inc a).rd b = s.rd b := State.rd_wr_of_ne s _ h

/-- Two states with the same register words read alike. -/
theorem State.rd_congr {s t : State} (h : t.regs = s.regs) (a : Nat) : t.rd a = s.rd a := by
  unfold State.rd
  rw [h]

/-! ### Memory -/

/-- A byte just written reads as the value written; the boot ROM is not written. -/
theorem State.rdMem_wrMem_self (s : State) (a : Nat) (b : Byte) (h : 0x40000 ≤ a) : (s.wrMem a b).rdMem a = b := by
  simp [State.rdMem, State.wrMem, Nat.not_lt.2 h]

theorem State.rdMem_wrMem_of_ne (s : State) {a c : Nat} (b : Byte) (h : c ≠ a) : (s.wrMem a b).rdMem c = s.rdMem c := by
  simp [State.rdMem, State.wrMem, Sparse.get_set_of_ne memDefault s.mem b h]

/-- A write of several bytes leaves every byte outside them alone. -/
theorem State.rdMem_wrMemN (bs : List Byte) : ∀ (s : State) (a c : Nat), (c < a ∨ a + bs.length ≤ c) →
    (s.wrMemN a bs).rdMem c = s.rdMem c := by
  induction bs with
  | nil => intro s a c _; rfl
  | cons b bs ih =>
    intro s a c h
    simp only [List.length_cons] at h
    rw [State.wrMemN, ih _ _ _ (by omega), State.rdMem_wrMem_of_ne s b (by omega)]

theorem State.rdMem_congr {s t : State} (h : t.mem = s.mem) (a : Nat) : t.rdMem a = s.rdMem a := by
  unfold State.rdMem
  rw [h]

/-! ### Units by index -/

@[simp] theorem State.core_setCore_self (s : State) (c : Fin 2) (x : Core) : (s.setCore c x).core c = x :=
  Sparse.get_set_self _ s.cores c.val x

theorem State.core_setCore_of_ne (s : State) {c d : Fin 2} (x : Core) (h : d ≠ c) : (s.setCore c x).core d = s.core d :=
  Sparse.get_set_of_ne _ s.cores x (fun e => h (Fin.ext e))

@[simp] theorem State.engine_setEngine_self (s : State) (e : Nat) (x : Engine) : (s.setEngine e x).engine e = x :=
  Sparse.get_set_self _ s.engines e x

theorem State.engine_setEngine_of_ne (s : State) {e f : Nat} (x : Engine) (h : f ≠ e) :
    (s.setEngine e x).engine f = s.engine f := Sparse.get_set_of_ne _ s.engines x h

@[simp] theorem State.yard_setYard_self (s : State) (y : Nat) (x : Yard) : (s.setYard y x).yard y = x :=
  Sparse.get_set_self _ s.yards y x

theorem State.yard_setYard_of_ne (s : State) {y z : Nat} (x : Yard) (h : z ≠ y) : (s.setYard y x).yard z = s.yard z :=
  Sparse.get_set_of_ne _ s.yards x h

@[simp] theorem State.line_setLine_self (s : State) (n : Nat) (x : Line) : (s.setLine n x).line n = x :=
  Sparse.get_set_self _ s.lines n x

theorem State.line_setLine_of_ne (s : State) {n m : Nat} (x : Line) (h : m ≠ n) : (s.setLine n x).line m = s.line m :=
  Sparse.get_set_of_ne _ s.lines x h

@[simp] theorem State.setCore_setCore (s : State) (c : Fin 2) (x y : Core) :
    (s.setCore c x).setCore c y = s.setCore c y := by simp [State.setCore]

@[simp] theorem State.setEngine_setEngine (s : State) (e : Nat) (x y : Engine) :
    (s.setEngine e x).setEngine e y = s.setEngine e y := by simp [State.setEngine]

@[simp] theorem State.setLine_setLine (s : State) (n : Nat) (x y : Line) :
    (s.setLine n x).setLine n y = s.setLine n y := by simp [State.setLine]

@[simp] theorem State.wr_wr (s : State) (a : Nat) (v w : Word) : (s.wr a v).wr a w = s.wr a w := by simp [State.wr]

/-! ### The canonical form -/

/-- State.reset's memory and register words are in canonical form. -/
theorem State.memWf_reset : State.reset.memWf = true := rfl

theorem State.memWf_wrMem (s : State) (a : Nat) (b : Byte) (h : s.memWf = true) : (s.wrMem a b).memWf = true :=
  Sparse.wf_set memDefault s.mem a b h

theorem State.memWf_wrMemN (bs : List Byte) : ∀ (s : State) (a : Nat), s.memWf = true → (s.wrMemN a bs).memWf = true := by
  induction bs with
  | nil => intro s a h; exact h
  | cons b bs ih => intro s a h; exact ih _ _ (State.memWf_wrMem s a b h)

/-- Clearing a part of the memory keeps its canonical form. -/
theorem State.memWf_filter (s : State) (f : Host.Cell → Bool) (h : s.memWf = true) :
    ({ s with mem := s.mem.filter f } : State).memWf = true := Sparse.wf_filter memDefault s.mem f h

theorem State.regsWf_wr (s : State) (a : Nat) (v : Word) (h : s.regsWf = true) : (s.wr a v).regsWf = true :=
  Sparse.wf_set regReset s.regs a v h

end Sys2Proof.Machine
end

