-- ==== Sys2Proof/Laws/Frame.lean ====
section
/-! SUPPORT. The algebra of frames: what stays as it was through a composition of operations. -/

namespace Sys2Proof.Machine

theorem sameIn.refl (s : State) (p : Part) : sameIn s s p := by cases p <;> rfl

theorem sameIn.trans {s t u : State} {p : Part} (h : sameIn s t p) (k : sameIn t u p) : sameIn s u p := by
  cases p <;> exact Eq.trans k h

theorem AllBut.refl (ps : List Part) (s : State) : AllBut ps s s := fun p _ => sameIn.refl s p

theorem AllBut.trans {ps : List Part} {s t u : State} (h : AllBut ps s t) (k : AllBut ps t u) : AllBut ps s u :=
  fun p hp => (h p hp).trans (k p hp)

theorem AllBut.mono {ps qs : List Part} {s t : State} (h : AllBut ps s t) (hs : ∀ p, p ∈ ps → p ∈ qs) : AllBut qs s t :=
  fun p hp => h p (fun hm => hp (hs p hm))

/-- A fold of operations that keep a frame keeps it. -/
theorem AllBut.foldl {α : Type} {ps : List Part} {f : State → α → State} (h : ∀ s x, AllBut ps s (f s x)) :
    ∀ (l : List α) (s : State), AllBut ps s (l.foldl f s)
  | [], s => AllBut.refl ps s
  | x :: l, s => (h s x).trans (AllBut.foldl h l (f s x))

theorem AllBut.wr (s : State) (a : Nat) (v : Word) : AllBut [.regs] s (s.wr a v) := by
  intro p hp
  cases p <;> first | rfl | exact absurd (by decide) hp

theorem AllBut.setF (s : State) (a hi lo v : Nat) : AllBut [.regs] s (s.setF a hi lo v) := AllBut.wr s a _

theorem AllBut.setBit (s : State) (a i : Nat) (b : Bool) : AllBut [.regs] s (s.setBit a i b) := AllBut.wr s a _

theorem AllBut.inc (s : State) (a : Nat) : AllBut [.regs] s (s.inc a) := AllBut.wr s a _

theorem AllBut.wrMemN (s : State) (a : Nat) (bs : List Byte) : AllBut [.mem] s (s.wrMemN a bs) := by
  induction bs generalizing s a with
  | nil => exact AllBut.refl _ s
  | cons b bs ih =>
    refine AllBut.trans ?_ (ih (s.wrMem a b) (a + 1))
    intro p hp
    cases p <;> first | rfl | exact absurd (by decide) hp

theorem AllBut.setCore (s : State) (c : Fin 2) (x : Core) : AllBut [.cores] s (s.setCore c x) := by
  intro q hq; cases q <;> first | rfl | exact absurd (by decide) hq

theorem AllBut.setEngine (s : State) (c : Nat) (x : Engine) : AllBut [.engines] s (s.setEngine c x) := by
  intro q hq; cases q <;> first | rfl | exact absurd (by decide) hq

theorem coreFrame {s t : State} (h : AllBut [.regs, .held] s t) (c : Fin 2) : t.core c = s.core c := by
  have : t.cores = s.cores := h .cores (by decide)
  unfold State.core; rw [this]

theorem engFrame {s t : State} (h : AllBut [.regs, .held] s t) (e : Nat) : t.engine e = s.engine e := by
  have : t.engines = s.engines := h .engines (by decide)
  unfold State.engine; rw [this]

end Sys2Proof.Machine
end

