-- ==== Sys2Proof/Laws/Regs.lean ====
section
/-! SUPPORT. What writing register words, fields and bits leaves to read. -/

namespace Sys2Proof.Machine

theorem State.wrBytes_regs (s : State) (a n : Nat) (bs : List Byte) :
    ∃ m, s.wrBytes a n bs = { s with regs := m } := by
  induction n generalizing s a bs with
  | zero => exact ⟨s.regs, rfl⟩
  | succ n ih =>
    obtain ⟨m, hm⟩ := ih (s.wr a (BitVec.ofNat 32 (leAt bs 0 4))) (a + 4) (bs.drop 4)
    exact ⟨m, by rw [State.wrBytes, hm]; rfl⟩

/-- A byte string written to registers changes register words alone. -/
theorem AllBut.wrBytes (s : State) (a n : Nat) (bs : List Byte) : AllBut [.regs] s (s.wrBytes a n bs) := by
  obtain ⟨m, hm⟩ := State.wrBytes_regs s a n bs
  rw [hm]
  intro p hp
  cases p <;> first | rfl | exact absurd (by decide) hp

/-- A byte string written to `n` registers leaves every other register. -/
theorem State.rd_wrBytes_of_ne (s : State) (a n : Nat) (bs : List Byte) (b : Nat) (h : ∀ k < n, b ≠ a + 4 * k) :
    (s.wrBytes a n bs).rd b = s.rd b := by
  induction n generalizing s a bs with
  | zero => rfl
  | succ n ih =>
    have h0 := h 0 (by omega)
    rw [State.wrBytes, ih _ (a + 4) _ (fun k hk => ?_), State.rd_wr_of_ne _ _ (by omega)]
    have := h (k + 1) (by omega)
    omega

/-- Register `k` of `n` written from a byte string holds its bytes `4k` to `4k + 3`. -/
theorem State.rd_wrBytes (s : State) (a n : Nat) (bs : List Byte) (k : Nat) (h : k < n) :
    (s.wrBytes a n bs).rd (a + 4 * k) = BitVec.ofNat 32 (leAt bs (4 * k) 4) := by
  induction n generalizing s a bs k with
  | zero => omega
  | succ n ih =>
    rw [State.wrBytes]
    cases k with
    | zero =>
      rw [State.rd_wrBytes_of_ne _ _ _ _ _ (fun k _ => by omega)]
      simp
    | succ k =>
      rw [show a + 4 * (k + 1) = a + 4 + 4 * k by omega, ih _ _ _ k (by omega)]
      simp only [leAt, List.drop_drop]
      congr 4
      omega

/-- A field read back from a register just written. -/
theorem State.fld_wr_self (s : State) (a hi lo : Nat) (v : Word) : (s.wr a v).fld a hi lo = getBits v hi lo := by
  rw [State.fld, State.rd_wr_self]

theorem State.fld_wr_of_ne (s : State) {a b : Nat} (hi lo : Nat) (v : Word) (h : b ≠ a) :
    (s.wr a v).fld b hi lo = s.fld b hi lo := by
  rw [State.fld, State.rd_wr_of_ne s v h, State.fld]

/-- A bit read back from a register just written. -/
theorem State.bit_wr_self (s : State) (a i : Nat) (v : Word) : (s.wr a v).bit a i = v.getLsbD i := by
  rw [State.bit, State.rd_wr_self]

theorem State.bit_wr_of_ne (s : State) {a b : Nat} (i : Nat) (v : Word) (h : b ≠ a) :
    (s.wr a v).bit b i = s.bit b i := by
  rw [State.bit, State.rd_wr_of_ne s v h, State.bit]

/-- The bits of a field mask. -/
theorem getLsbD_fieldMask (hi lo i : Nat) (h : lo ≤ hi) (hi' : i < 32) :
    (fieldMask hi lo).getLsbD i = decide (lo ≤ i ∧ i ≤ hi) := by
  unfold fieldMask
  rw [BitVec.getLsbD_shiftLeft, BitVec.getLsbD_ofNat, Nat.testBit_two_pow_sub_one]
  by_cases h1 : lo ≤ i <;> by_cases h2 : i ≤ hi <;> simp [h1, h2, hi'] <;> omega

/-- The bits of a word with the field [hi:lo] replaced. -/
theorem getLsbD_setBits (w : Word) (hi lo v i : Nat) (h : lo ≤ hi) (hi32 : hi < 32) (hi' : i < 32) :
    (setBits w hi lo v).getLsbD i = if lo ≤ i ∧ i ≤ hi then v.testBit (i - lo) else w.getLsbD i := by
  unfold setBits
  rw [BitVec.getLsbD_or, BitVec.getLsbD_and, BitVec.getLsbD_and, BitVec.getLsbD_not, getLsbD_fieldMask _ _ _ h hi',
    BitVec.getLsbD_shiftLeft, BitVec.getLsbD_ofNat]
  by_cases hc : lo ≤ i ∧ i ≤ hi
  · rw [if_pos hc]
    have h1 : ¬ i < lo := by omega
    have h2 : i - lo < 32 := by omega
    simp [hc, h1, h2, hi']
  · rw [if_neg hc]
    simp [hc, hi']

/-- A field just written reads as it was written. -/
theorem getBits_setBits (w : Word) (hi lo v : Nat) (h : lo ≤ hi) (hi32 : hi < 32) :
    getBits (setBits w hi lo v) hi lo = v % 2 ^ (hi - lo + 1) := by
  apply Nat.eq_of_testBit_eq
  intro i
  unfold getBits bitsOf
  rw [Nat.testBit_mod_two_pow, Nat.testBit_mod_two_pow, Nat.testBit_div_two_pow]
  by_cases hc : i < hi - lo + 1
  · have := getLsbD_setBits w hi lo v (i + lo) h hi32 (by omega)
    rw [if_pos (by omega), BitVec.getLsbD, Nat.add_sub_cancel] at this
    simp only [hc, decide_true, Bool.true_and]
    exact this
  · simp [hc]

/-- A field beside one just written stays. -/
theorem getBits_setBits_of_ne (w : Word) (hi lo v hi' lo' : Nat) (h : lo ≤ hi) (hi32 : hi < 32) (h' : lo' ≤ hi')
    (hi32' : hi' < 32) (hd : hi' < lo ∨ hi < lo') : getBits (setBits w hi lo v) hi' lo' = getBits w hi' lo' := by
  apply Nat.eq_of_testBit_eq
  intro i
  unfold getBits bitsOf
  rw [Nat.testBit_mod_two_pow, Nat.testBit_mod_two_pow, Nat.testBit_div_two_pow, Nat.testBit_div_two_pow]
  by_cases hc : i < hi' - lo' + 1
  · have := getLsbD_setBits w hi lo v (i + lo') h hi32 (by omega)
    rw [if_neg (by omega), BitVec.getLsbD, BitVec.getLsbD] at this
    simp only [hc, decide_true, Bool.true_and]
    exact this
  · simp [hc]

/-- Bit `n` joined to a mask of `n` bits. -/
theorem testBit_maskOf_step {n m : Nat} {p : Nat → Bool} (hlt : m < 2 ^ n)
    (hb : ∀ k, m.testBit k = (decide (k < n) && p k)) (hp : p n = true) (k : Nat) :
    (2 ^ n + m).testBit k = (decide (k < n + 1) && p k) := by
  rcases Nat.lt_trichotomy k n with h | h | h
  · rw [Nat.testBit_two_pow_add_gt h, hb]
    simp [h, Nat.lt_succ_of_lt h]
  · subst h
    rw [Nat.testBit_two_pow_add_eq, hb]
    simp [hp]
  · rw [Nat.testBit_lt_two_pow]
    · simp [show ¬ k < n + 1 by omega]
    · calc 2 ^ n + m < 2 ^ n + 2 ^ n := by omega
        _ = 2 ^ (n + 1) := by omega
        _ ≤ 2 ^ k := Nat.pow_le_pow_right (by decide) h

theorem maskOf_succ (n : Nat) (p : Nat → Bool) : maskOf (n + 1) p = maskOf n p + if p n then 2 ^ n else 0 := by
  simp [maskOf, List.range_succ]

/-- A mask of `n` bits has the bits that its predicate gives. -/
theorem testBit_maskOf (p : Nat → Bool) : ∀ n, maskOf n p < 2 ^ n ∧ ∀ k, (maskOf n p).testBit k = (decide (k < n) && p k)
  | 0 => ⟨by simp [maskOf], fun k => by simp [maskOf]⟩
  | n + 1 => by
    obtain ⟨hlt, hb⟩ := testBit_maskOf p n
    have h2 : 2 ^ (n + 1) = 2 ^ n + 2 ^ n := by omega
    rw [maskOf_succ]
    by_cases hp : p n = true
    · rw [if_pos hp]
      refine ⟨by omega, fun k => ?_⟩
      rw [Nat.add_comm, testBit_maskOf_step hlt hb hp k]
    · rw [if_neg hp, Nat.add_zero]
      refine ⟨by omega, fun k => ?_⟩
      rw [hb]
      rcases Nat.lt_trichotomy k n with h | h | h
      · simp [h, Nat.lt_succ_of_lt h]
      · subst h; simp [hp]
      · simp [Nat.not_lt.2 (Nat.le_of_lt h), show ¬ k < n + 1 by omega]

/-- A bit just set reads as it was set; every other bit of the register stays. -/
theorem State.bit_setBit (s : State) (a i j : Nat) (x : Bool) (hi : i < 32) (hj : j < 32) :
    (s.setBit a i x).bit a j = if j = i then x else s.bit a j := by
  rw [State.setBit, State.setF, State.bit_wr_self, getLsbD_setBits _ _ _ _ _ (Nat.le_refl i) hi hj]
  by_cases h : j = i
  · subst h
    rw [if_pos ⟨Nat.le_refl j, Nat.le_refl j⟩, if_pos rfl, Nat.sub_self]
    cases x <;> rfl
  · rw [if_neg (by omega), if_neg h, State.bit]

theorem State.bit_setBit_of_ne (s : State) {a b : Nat} (i j : Nat) (x : Bool) (h : b ≠ a) :
    (s.setBit a i x).bit b j = s.bit b j := State.bit_wr_of_ne s _ _ h

end Sys2Proof.Machine
end

