-- ==== Sys2Proof/Laws/Log.lean ====
section
/-! SUPPORT. What an event may change: its record, the windows, its notifications (R323, R349-R358). -/

namespace Sys2Proof.Machine

theorem Eventful.refl (s : State) : Eventful s s := ⟨AllBut.refl _ s, fun _ _ => rfl⟩

theorem Eventful.trans {s t u : State} (h : Eventful s t) (k : Eventful t u) : Eventful s u :=
  ⟨h.1.trans k.1, fun a ha => (k.2 a ha).trans (h.2 a ha)⟩

theorem Eventful.foldl {α : Type} {f : State → α → State} (l : List α) (h : ∀ s, ∀ x ∈ l, Eventful s (f s x)) (s : State) :
    Eventful s (l.foldl f s) := by
  induction l generalizing s with
  | nil => exact Eventful.refl s
  | cons x l ih =>
    exact (h s x (List.mem_cons_self ..)).trans (ih (fun s y hy => h s y (List.mem_cons_of_mem _ hy)) (f s x))

theorem Eventful.wr (s : State) {a : Nat} (v : Word) (h : recorderWord a) : Eventful s (s.wr a v) :=
  ⟨(AllBut.wr s a v).mono (by simp), fun b hb => State.rd_wr_of_ne s v (fun e => hb (e ▸ h))⟩

theorem Eventful.wrBytes (s : State) (a n : Nat) (bs : List Byte) (h : ∀ k < n, recorderWord (a + 4 * k)) :
    Eventful s (s.wrBytes a n bs) :=
  ⟨(AllBut.wrBytes s a n bs).mono (by simp),
    fun b hb => State.rd_wrBytes_of_ne s a n bs b (fun k hk e => hb (e ▸ h k hk))⟩

/-- An operation that leaves the register words and all but the recorder's parts. -/
theorem Eventful.of {s t : State} (h : AllBut [.evr, .mbx, .irq, .irq1] s t) : Eventful s t :=
  ⟨h.mono (by simp), fun a _ => State.rd_congr (h .regs (by decide)) a⟩

theorem Eventful.bumpWindows (old : Recorder) (ws : List (Nat × Nat)) (h : ∀ w ∈ ws, recorderWord w.2) (s : State) :
    Eventful s (s.bumpWindows old ws) := by
  induction ws generalizing s with
  | nil => exact Eventful.refl s
  | cons w ws ih =>
    unfold State.bumpWindows
    refine Eventful.trans ?_ (ih (fun w hw => h w (List.mem_cons_of_mem _ hw)) _)
    split
    · exact Eventful.refl s
    · exact Eventful.wr s _ (h w (List.mem_cons_self ..))

theorem Eventful.setEvr (s : State) (e : Recorder) : Eventful s (s.setEvr e) := by
  unfold State.setEvr
  refine Eventful.trans (t := { s with evr := e }) (Eventful.of ?_) (Eventful.bumpWindows _ _ ?_ _)
  · intro p hp
    cases p <;> first | rfl | exact absurd (by decide) hp
  · unfold recorderWord
    decide

theorem Sev.code_lt (v : Sev) : v.code < 4 := by cases v <;> decide

theorem Eventful.putRam (s : State) (r : Record) : Eventful s (s.putRam r) := by
  have hr : ∀ v : Sev, recorderWord (Reg.EVR_REPLACED v.code) := by
    intro v; have := Sev.code_lt v; unfold recorderWord Reg.EVR_REPLACED; omega
  have hd : ∀ v : Sev, recorderWord (Reg.EVR_DROPPED v.code) := by
    intro v; have := Sev.code_lt v; unfold recorderWord Reg.EVR_DROPPED; omega
  have hi : recorderWord Reg.EVR_INT := by unfold recorderWord; decide
  unfold State.putRam
  dsimp only
  split
  · exact Eventful.setEvr _ _
  · split
    · exact Eventful.setEvr _ _
    · split
      · exact ((Eventful.setEvr _ _).trans (Eventful.wr _ _ (hr _))).trans (Eventful.wr _ _ hi)
      · exact (Eventful.wr _ _ (hd _)).trans (Eventful.wr _ _ hi)

theorem Eventful.mergeInto (s : State) (r : Record) : Eventful s (s.mergeInto r) := by
  unfold State.mergeInto
  dsimp only
  split
  · exact Eventful.setEvr _ _
  · exact Eventful.putRam _ _

theorem Eventful.afterRecord (s : State) (v : Sev) : Eventful s (s.afterRecord v) := by
  have hi : recorderWord Reg.EVR_INT := by unfold recorderWord; decide
  unfold State.afterRecord
  dsimp only
  have h1 : Eventful s (if v = .security then s.setBit Reg.EVR_INT 0 true else s) := by
    split
    · exact Eventful.wr _ _ hi
    · exact Eventful.refl s
  generalize (if v = .security then s.setBit Reg.EVR_INT 0 true else s) = u at h1 ⊢
  refine h1.trans ?_
  split
  · refine Eventful.of ?_
    intro p hp
    cases p <;> first | rfl | exact absurd (by decide) hp
  · exact Eventful.refl _

theorem Eventful.setPair (s : State) (lo hi n : Nat) (h1 : recorderWord lo) (h2 : recorderWord hi) :
    Eventful s (s.setPair lo hi n) := by
  unfold State.setPair
  split
  · exact Eventful.wr _ _ h1
  · exact Eventful.wr _ _ h2

theorem Eventful.mbxInterrupt (s : State) (i n : Nat) (b : Bool) : Eventful s (mbxInterrupt s i n b) := by
  unfold Machine.mbxInterrupt
  split
  · refine Eventful.trans (t := if b then s.setPair Reg.MBX_POST_LO Reg.MBX_POST_HI n
      else s.setPair Reg.MBX_DONE_LO Reg.MBX_DONE_HI n) ?_ (Eventful.of ?_)
    · split
      · exact Eventful.setPair _ _ _ _ (by unfold recorderWord; decide) (by unfold recorderWord; decide)
      · exact Eventful.setPair _ _ _ _ (by unfold recorderWord; decide) (by unfold recorderWord; decide)
    · intro p hp
      cases p <;> first | rfl | exact absurd (by decide) hp
  · split
    · dsimp only
      have h1 : Eventful s (s.setPair (Reg.MBX_AGT_PEND_LO (i - 0x28)) (Reg.MBX_AGT_PEND_HI (i - 0x28)) n) :=
        Eventful.setPair _ _ _ _ (by unfold recorderWord Reg.MBX_AGT_PEND_LO; omega)
          (by unfold recorderWord Reg.MBX_AGT_PEND_HI; omega)
      split
      · refine h1.trans (Eventful.of ?_)
        intro p hp
        cases p <;> first | rfl | exact absurd (by decide) hp
      · exact h1
    · exact Eventful.refl s

theorem Eventful.mbxSend (s : State) (n : Nat) (bs : List Byte) (hn : n < 64) : Eventful s (mbxSend s n bs) := by
  unfold Machine.mbxSend mbxPosted
  dsimp only
  refine Eventful.trans ?_ (Eventful.mbxInterrupt _ _ _ _)
  have h (a : Nat) (h : 0x20040000 ≤ a ∧ a < 0x20045000) : recorderWord a := Or.inl h
  refine Eventful.trans ?_ (Eventful.wr _ _ (h _ (by unfold Reg.MBX_CNT_POSTED; omega)))
  refine Eventful.trans ?_ (Eventful.wr _ _ (h _ (by unfold Reg.MBX_STAT; omega)))
  refine Eventful.trans ?_ (Eventful.wr _ _ (h _ (by unfold Reg.MBX_CTL; omega)))
  refine Eventful.trans ?_ (Eventful.wr _ _ (h _ (by unfold Reg.MBX_CTL; omega)))
  refine Eventful.trans ?_ (Eventful.wr _ _ (h _ (by unfold Reg.MBX_WMASK; omega)))
  refine Eventful.trans ?_ (Eventful.wr _ _ (h _ (by unfold Reg.MBX_CTL; omega)))
  exact Eventful.wrBytes _ _ _ _ (fun k hk => h _ (by unfold Reg.MBX_DATA; omega))

theorem Eventful.notifyAll (s : State) (comp : Nat) (body : List Byte) : Eventful s (notifyAll s comp body) := by
  unfold Machine.notifyAll
  refine Eventful.foldl _ (fun s n hn => ?_) s
  have hn : n < 64 := List.mem_range.1 (List.mem_filter.1 hn).1
  unfold notifyOn
  dsimp only
  have h1 (x : Mbx) : Eventful s { s with mbx := x } := by
    refine Eventful.of ?_
    intro p hp
    cases p <;> first | rfl | exact absurd (by decide) hp
  split
  · exact h1 _
  · have h2 := fun (x : Mbx) (bs : List Byte) => (h1 x).trans (Eventful.mbxSend { s with mbx := x } n bs hn)
    exact h2 _ _

/-- An event changes its record, the windows and its notifications alone. -/
theorem Eventful.record (s : State) (code origin detail : Nat) (payload : List Byte) (change derived : Bool) :
    Eventful s (s.record code origin detail payload change derived) := by
  have hd : ∀ v : Sev, recorderWord (Reg.EVR_DROPPED v.code) := by
    intro v; have := Sev.code_lt v; unfold recorderWord Reg.EVR_DROPPED; omega
  unfold State.record
  dsimp only
  split
  · exact (Eventful.mergeInto _ _).trans (Eventful.afterRecord _ _)
  · split
    · refine Eventful.trans (t := { s with evr := { s.evr with exhausted := true } }) (Eventful.of ?_) (Eventful.wr _ _ (hd _))
      intro p hp
      cases p <;> first | rfl | exact absurd (by decide) hp
    · unfold State.notifyRecord
      refine Eventful.trans (t := { s with evr := { s.evr with next := s.evr.next + 1 } }) (Eventful.of ?_) ?_
      · intro p hp
        cases p <;> first | rfl | exact absurd (by decide) hp
      · split
        · exact ((Eventful.putRam _ _).trans (Eventful.afterRecord _ _)).trans (Eventful.notifyAll _ _ _)
        · exact (Eventful.putRam _ _).trans (Eventful.afterRecord _ _)

theorem Eventful.log (s : State) (code : Nat) (o : Origin) (detail : Nat) (payload : List Byte) :
    Eventful s (s.log code o detail payload) := Eventful.record _ _ _ _ _ _ _

theorem Eventful.regChange (s : State) (o : Origin) (a : Nat) (old new : Word) (be : Nat) :
    Eventful s (s.regChange o a old new be) := Eventful.record _ _ _ _ _ _ _

end Sys2Proof.Machine
end

