-- ==== Sys2Proof/Laws/Ilk.lean ====
section
/-! SUPPORT. What the Interlocking's shared operations change: a handle's closure, ILK_ARM, aborts and failed votes
(R64, R68, R71-R73, R81). -/

namespace Sys2Proof.Machine

theorem State.core_congr {s t : State} (h : t.cores = s.cores) (c : Fin 2) : t.core c = s.core c := by
  unfold State.core
  rw [h]

theorem State.handle_congr {s t : State} (h : t.ilk = s.ilk) (k : Nat) : t.handle k = s.handle k := by
  unfold State.handle
  rw [h]

theorem State.handle_setHandle (s : State) (h : Nat) (x : Handle) (k : Nat) :
    (s.setHandle h x).handle k = if k = h then x else s.handle k := by
  unfold State.handle State.setHandle
  by_cases e : k = h
  · subst e; simp
  · rw [if_neg e]; exact Sparse.get_set_of_ne _ _ _ e

theorem AllBut.setHandle (s : State) (h : Nat) (x : Handle) : AllBut [.ilk] s (s.setHandle h x) := by
  intro q hq
  cases q <;> first | exact absurd (by decide) hq | rfl

theorem AllBut.raise (s : State) (n : Nat) : AllBut [.irq, .irq1] s (s.raise n) := by
  intro q hq
  cases q <;> first | exact absurd (by decide) hq | rfl

/-- A logged hardware update of one word changes that word and makes a record. -/
theorem State.setL_spec (s : State) (o : Origin) (a hi lo v : Nat) (ha : ¬ recorderWord a) :
    AllBut [.regs, .evr, .mbx, .irq, .irq1] s (s.setL o a hi lo v) ∧
    (s.setL o a hi lo v).rd a = setBits (s.rd a) hi lo v ∧
    (∀ b, ¬ recorderWord b → b ≠ a → (s.setL o a hi lo v).rd b = s.rd b) := by
  unfold State.setL
  dsimp only
  split
  · next h => exact ⟨AllBut.refl _ _, h, fun _ _ _ => rfl⟩
  · obtain ⟨r1, r2⟩ := Eventful.regChange (s.wr a (setBits (s.rd a) hi lo v)) o a (s.rd a) (setBits (s.rd a) hi lo v) 0
    exact ⟨((AllBut.wr _ _ _).mono (by simp)).trans r1, (r2 _ ha).trans (State.rd_wr_self _ _ _),
      fun b hb hn => (r2 b hb).trans (State.rd_wr_of_ne _ _ hn)⟩

theorem ilkArm_plain : ¬ recorderWord Reg.ILK_ARM := by unfold recorderWord; decide

/-- ILK_ARM follows the handles; nothing else but a record changes. -/
theorem syncArm_spec (s : State) (o : Origin) :
    AllBut [.regs, .evr, .mbx, .irq, .irq1] s (syncArm s o) ∧
    (∀ a, ¬ recorderWord a → a ≠ Reg.ILK_ARM → (syncArm s o).rd a = s.rd a) ∧
    (syncArm s o).rd Reg.ILK_ARM = setBits (s.rd Reg.ILK_ARM) 3 0
      ((List.map (fun h => if (s.handle h).state = .armed then 2 ^ h else 0) (List.range 4)).sum) := by
  obtain ⟨h1, h2, h3⟩ := State.setL_spec s o Reg.ILK_ARM 3 0
    ((List.map (fun h => if (s.handle h).state = .armed then 2 ^ h else 0) (List.range 4)).sum) ilkArm_plain
  exact ⟨h1, h3, h2⟩

theorem deliver_spec (s : State) (h st : Nat) (n : Bool) :
    AllBut [.cores, .irq, .irq1] s (deliver s h st n) := by
  unfold deliver
  split
  · exact AllBut.refl _ _
  · dsimp only
    split
    · split
      · exact (AllBut.setCore _ _ _).mono (by simp)
      · split
        · exact (AllBut.raise _ _).mono (by simp)
        · exact AllBut.refl _ _
    · split
      · exact (AllBut.raise _ _).mono (by simp)
      · exact AllBut.refl _ _

/-- A handle closes: it is FREE with its status, every other handle stays. -/
theorem closeHandle_spec (s : State) (h st : Nat) (n : Bool) (o : Origin) :
    (∀ k, (closeHandle s h st n o).handle k = if k = h then { lastStatus := st } else s.handle k) ∧
    (∀ a, ¬ recorderWord a → a ≠ Reg.ILK_ARM → (closeHandle s h st n o).rd a = s.rd a) ∧
    AllBut [.regs, .ilk, .cores, .evr, .mbx, .irq, .irq1] s (closeHandle s h st n o) ∧
    (closeHandle s h st n o).ilk.queue = s.ilk.queue ∧ (closeHandle s h st n o).ilk.journal = s.ilk.journal := by
  have hd := deliver_spec (s.setHandle h { lastStatus := st }) h st n
  obtain ⟨s1, s2, s3⟩ := syncArm_spec (deliver (s.setHandle h { lastStatus := st }) h st n) o
  have hi : (closeHandle s h st n o).ilk = (s.setHandle h { lastStatus := st }).ilk :=
    Eq.trans (s1 .ilk (by decide)) (hd .ilk (by decide))
  refine ⟨fun k => ?_, fun a ha hn => ?_, ?_, ?_, ?_⟩
  · rw [State.handle_congr hi, State.handle_setHandle]
  · exact (s2 a ha hn).trans (State.rd_congr (hd .regs (by decide)) a)
  · exact ((AllBut.setHandle _ _ _).mono (by simp)).trans ((hd.mono (by simp)).trans (s1.mono (by simp)))
  · rw [hi]; rfl
  · rw [hi]; rfl

/-- Handles close with one status. -/
theorem closeHandles_spec (st : Nat) (o : Origin) : ∀ (hs : List Nat) (s : State),
    (∀ k, (closeHandles s st o hs).handle k = if k ∈ hs then { lastStatus := st } else s.handle k) ∧
    (∀ a, ¬ recorderWord a → a ≠ Reg.ILK_ARM → (closeHandles s st o hs).rd a = s.rd a) ∧
    AllBut [.regs, .ilk, .cores, .evr, .mbx, .irq, .irq1] s (closeHandles s st o hs) ∧
    (closeHandles s st o hs).ilk.queue = s.ilk.queue ∧ (closeHandles s st o hs).ilk.journal = s.ilk.journal
  | [], s => ⟨fun k => by simp [closeHandles], fun _ _ _ => rfl, AllBut.refl _ _, rfl, rfl⟩
  | h :: hs, s => by
    obtain ⟨a1, a2, a3, a4, a5⟩ := closeHandle_spec s h st true o
    obtain ⟨b1, b2, b3, b4, b5⟩ := closeHandles_spec st o hs (closeHandle s h st true o)
    refine ⟨fun k => ?_, fun a ha hn => (b2 a ha hn).trans (a2 a ha hn), a3.trans b3, b4.trans a4, b5.trans a5⟩
    show (closeHandles (closeHandle s h st true o) st o hs).handle k = _
    rw [b1, a1]
    by_cases e : k = h <;> by_cases m : k ∈ hs <;> simp [e, m]

end Sys2Proof.Machine
end

