-- ==== Sys2Proof/Laws/Wop.lean ====
section
/-! SUPPORT. What executing an instruction can do: the shared operations of the Wemon instructions, each said once. -/

namespace Sys2Proof.Machine

/-! ### Register files -/

@[simp] theorem gAt_gSet_self (g : List (Nat × Dword)) (r : RegNo) (v : Dword) :
    gAt (gSet g r v) r = if r = 0 then 0 else v := by
  unfold gAt gSet
  split <;> simp [*]

theorem gAt_gSet_of_ne (g : List (Nat × Dword)) {r q : RegNo} (v : Dword) (h : q ≠ r) :
    gAt (gSet g r v) q = gAt g q := by
  unfold gAt gSet
  split
  · rfl
  · split
    · rfl
    · exact Sparse.get_set_of_ne _ g v (fun e => h (BitVec.eq_of_toNat_eq e))

/-- g0 reads 0 in every processor (R27). -/
@[simp] theorem greg_zero (s : State) (p : Proc) : greg s p 0 = 0 := by
  cases p
  · rfl
  · rfl
  · simp only [greg]
    split <;> rfl

/-! ### Readiness -/

/-- The registers, pc and map that an instruction sees are not changed by a return from PARK. -/
theorem greg_awake (s : State) (p : Proc) (r : RegNo) : greg (awake s p) p r = greg s p r := by
  cases p <;> simp only [awake]
  split <;> simp [greg]

theorem pcOf_awake (s : State) (p : Proc) : pcOf (awake s p) p = pcOf s p := by
  cases p <;> simp only [awake]
  split <;> simp [pcOf]

theorem awake_regs (s : State) (p : Proc) : (awake s p).regs = s.regs := by
  cases p <;> simp only [awake]
  split <;> rfl

theorem permits_awake (s : State) (c : Fin 2) (k : Access) (a : Nat) :
    ((awake s (.core c)).core c).permits k a = (s.core c).permits k a := by
  simp only [awake]
  split
  · rw [State.core_setCore_self]; rfl
  · rfl

theorem domState_congr {s t : State} (h : t.regs = s.regs) (d : Nat) : domState t d = domState s d := by
  unfold domState State.fld
  rw [State.rd_congr h]

theorem mapAnswers_congr {s t : State} (h : t.regs = s.regs) (k : Access) (a : Nat) :
    mapAnswers t k a = mapAnswers s k a := by
  have hr := State.rd_congr h
  simp only [mapAnswers, yardAnswers, domState, ldgState, State.fld, hr]

theorem accessFault_awake (s : State) (p : Proc) (k : Access) (a n : Nat) (at' : Bool) :
    accessFault (awake s p) p k a n at' = accessFault s p k a n at' := by
  cases p with
  | core c => simp only [accessFault, permits_awake, mapAnswers_congr (awake_regs s (.core c))]
  | engine e => rfl
  | line n => rfl

/-- A ready processor executes the instruction's body and, on a route, counts a step. -/
theorem runWop_ready {s : State} {p : Proc} {w : Wop} (h : Ready s p w) (body : State → State) :
    runWop p w body s = countStep (body (awake s p)) p := by
  obtain ⟨_, hr, hf, hw, _⟩ := h
  simp [runWop, execWop, hr, accessFault_awake, pcOf_awake, hf, hw]

theorem act_ready {s : State} {p : Proc} {w : Wop} (h : Ready s p w) (body : State → State) :
    act s (runWop p w body) = .next (countStep (body (awake s p)) p) := by
  rw [act, h.1, runWop_ready h]
  rfl

/-! ### Results -/

/-- A route's step counted below its bound changes its step count alone (R57). -/
theorem countStep_line {s : State} {n : Fin 32} {r : Route} (h : (s.line n.val).route = some r)
    (hb : r.steps + 1 < routeBound r) :
    countStep s (.line n) = s.setLine n.val { s.line n.val with route := some { r with steps := r.steps + 1 } } := by
  simp [countStep, h, Nat.not_le.2 hb]

/-- An update of the fields of one processor leaves everything else: it is the only one that changes. -/
theorem allBut_of (ps : List Part) (s t : State) (h : ∀ p, p ∈ ps ∨ sameIn s t p) : AllBut ps s t :=
  fun p hp => (h p).resolve_left hp

/-- The register file of a processor. -/
def regsOf (s : State) (p : Proc) : List (Nat × Dword) :=
  match p with
  | .core c => (s.core c).g
  | .engine e => (s.engine e.val).g
  | .line n => match (s.line n.val).route with
    | some r => r.g
    | none => []

/-- Only processor `p` has moved: its register file is `g`, its pc `a`. -/
def Moved (p : Proc) (g : List (Nat × Dword)) (a : Dword) (s t : State) : Prop :=
  match p with
  | .core c => ∃ x : Core, t = s.setCore c x ∧ x.g = g ∧ x.pc = a ∧
      { x with g := (s.core c).g, pc := (s.core c).pc, run := (s.core c).run } = s.core c
  | .engine e => ∃ x : Engine, t = s.setEngine e.val x ∧ x.g = g ∧ BitVec.ofNat 64 x.pc = a ∧
      { x with g := (s.engine e.val).g, pc := (s.engine e.val).pc } = s.engine e.val
  | .line n => ∃ (x : Line) (r q : Route), t = s.setLine n.val x ∧ (s.line n.val).route = some r ∧ x.route = some q ∧
      q.g = g ∧ BitVec.ofNat 64 (4 * q.pc) = a ∧ q.judge = r.judge ∧ q.bank = r.bank ∧
      { x with route := (s.line n.val).route } = s.line n.val

theorem greg_eq (s : State) (p : Proc) (r : RegNo) (h : stepLeft s p = true) : greg s p r = gAt (regsOf s p) r := by
  cases p with
  | core c => rfl
  | engine e => rfl
  | line n =>
    simp only [stepLeft] at h
    split at h
    · next x hx => simp [greg, regsOf, hx]
    · cases h

/-- What a processor that alone has moved shows: its registers, its pc, and that nothing else changed. -/
theorem moved_spec {p : Proc} {g : List (Nat × Dword)} {a : Dword} {s t : State} (h : Moved p g a s t) :
    (∀ r, greg t p r = gAt g r) ∧ pcOf t p = a ∧ OnlyProc p s t := by
  cases p with
  | core c =>
    obtain ⟨x, rfl, rfl, rfl, hx⟩ := h
    refine ⟨fun r => by simp [greg], by simp [pcOf], ?_, ?_, ?_⟩
    · intro q hq
      cases q <;> simp_all [sameIn]
    · exact fun d hd => State.core_setCore_of_ne s x hd
    · rw [State.core_setCore_self]
      exact hx
  | engine e =>
    obtain ⟨x, rfl, rfl, rfl, hx⟩ := h
    refine ⟨fun r => by simp [greg], by simp [pcOf], ?_, ?_, ?_⟩
    · intro q hq
      cases q <;> simp_all [sameIn]
    · exact fun f hf => State.engine_setEngine_of_ne s x hf
    · rw [State.engine_setEngine_self]
      exact hx
  | line n =>
    obtain ⟨x, r, q, rfl, hr, hq, rfl, rfl, hj, hb, hx⟩ := h
    refine ⟨fun k => by simp [greg, hq], by simp [pcOf, hq], ?_, ?_, ?_, ?_⟩
    · intro k hk
      cases k <;> simp_all [sameIn]
    · exact fun m hm => State.line_setLine_of_ne s x hm
    · rw [State.line_setLine_self]
      exact hx
    · rw [State.line_setLine_self, hq, hr, Option.map_some, Option.map_some, hj, hb]

/-- A ready processor that goes on at `a`, with its register file as it was. -/
theorem moved_setPc {s : State} {p : Proc} (h : stepLeft s p = true) (a : Dword)
    (ha : p.profile = .s → a.toNat % 4 = 0) :
    Moved p (regsOf s p) a s (countStep (setPc (awake s p) p a) p) := by
  cases p with
  | core c =>
    by_cases hp : (s.core c).run = .parked
    · exact ⟨{ s.core c with pc := a, run := .running }, by simp [countStep, setPc, awake, hp], rfl, rfl, rfl⟩
    · exact ⟨{ s.core c with pc := a }, by simp [countStep, setPc, awake, hp], rfl, rfl, rfl⟩
  | engine e =>
    exact ⟨{ s.engine e.val with pc := a.toNat }, by simp [countStep, setPc, awake], rfl,
      (BitVec.ofNat_toNat 64 a).trans (BitVec.setWidth_eq a), rfl⟩
  | line n =>
    simp only [stepLeft] at h
    split at h
    · next r hr =>
      have hb : ¬ routeBound r ≤ r.steps + 1 := Nat.not_le.2 (by simpa using h)
      have h4 : 4 * (a.toNat / 4) = a.toNat := by have := ha rfl; omega
      refine ⟨{ s.line n.val with route := some { r with pc := a.toNat / 4, steps := r.steps + 1 } }, r, _, ?_, hr, rfl,
        ?_, ?_, rfl, rfl, rfl⟩
      · simp [countStep, setPc, awake, hr]
        exact fun h => absurd h hb
      · simp [regsOf, hr]
      · show BitVec.ofNat 64 (4 * (a.toNat / 4)) = a
        rw [h4]
        exact (BitVec.ofNat_toNat 64 a).trans (BitVec.setWidth_eq a)
    · cases h

/-- A ready processor that writes rd and goes on at `a`. -/
theorem moved_setGreg {s : State} {p : Proc} (h : stepLeft s p = true) (rd : RegNo) (v a : Dword)
    (ha : p.profile = .s → a.toNat % 4 = 0) :
    Moved p (gSet (regsOf s p) rd v) a s (countStep (setPc (setGreg (awake s p) p rd v) p a) p) := by
  cases p with
  | core c =>
    by_cases hp : (s.core c).run = .parked
    · exact ⟨{ s.core c with g := gSet (s.core c).g rd v, pc := a, run := .running },
        by simp [countStep, setPc, setGreg, awake, hp], rfl, rfl, rfl⟩
    · exact ⟨{ s.core c with g := gSet (s.core c).g rd v, pc := a },
        by simp [countStep, setPc, setGreg, awake, hp], rfl, rfl, rfl⟩
  | engine e =>
    exact ⟨{ s.engine e.val with g := gSet (s.engine e.val).g rd v, pc := a.toNat },
      by simp [countStep, setPc, setGreg, awake], rfl, (BitVec.ofNat_toNat 64 a).trans (BitVec.setWidth_eq a), rfl⟩
  | line n =>
    simp only [stepLeft] at h
    split at h
    · next r hr =>
      have hb : ¬ routeBound r ≤ r.steps + 1 := Nat.not_le.2 (by simpa using h)
      have h4 : 4 * (a.toNat / 4) = a.toNat := by have := ha rfl; omega
      refine ⟨{ s.line n.val with route := some { r with g := gSet r.g rd v, pc := a.toNat / 4, steps := r.steps + 1 } },
        r, _, ?_, hr, rfl, ?_, ?_, rfl, rfl, rfl⟩
      · simp [countStep, setPc, setGreg, awake, hr]
        exact fun h => absurd h hb
      · simp [regsOf, hr]
      · show BitVec.ofNat 64 (4 * (a.toNat / 4)) = a
        rw [h4]
        exact (BitVec.ofNat_toNat 64 a).trans (BitVec.setWidth_eq a)
    · cases h

/-- The pc of a section processor is a word address (R31). -/
theorem pcOf_aligned (s : State) (p : Proc) (h : p.profile = .s) : (pcOf s p).toNat % 4 = 0 := by
  cases p with
  | core c => cases h
  | engine e => cases h
  | line n =>
    simp only [pcOf]
    split
    · simp
    · rfl

theorem next_aligned (s : State) (p : Proc) (h : p.profile = .s) : (pcOf s p + 4).toNat % 4 = 0 := by
  have := pcOf_aligned s p h
  simp
  omega

theorem pcOf_setGreg (s : State) (p : Proc) (rd : RegNo) (v : Dword) : pcOf (setGreg s p rd v) p = pcOf s p := by
  cases p <;> simp only [setGreg]
  · simp [pcOf]
  · simp [pcOf]
  · split <;> simp_all [pcOf]

/-- What writing a result and going on leaves (R34): the result, the next pc, every other register, every other
processor, all memory and register words. -/
theorem result_spec {s : State} {p : Proc} (h : stepLeft s p = true) (rd : RegNo) (v : Dword) :
    greg (countStep (result (awake s p) p rd v) p) p rd = (if rd = 0 then 0 else v) ∧
    pcOf (countStep (result (awake s p) p rd v) p) p = pcOf s p + 4 ∧
    KeepsRegs p rd s (countStep (result (awake s p) p rd v) p) ∧
    OnlyProc p s (countStep (result (awake s p) p rd v) p) := by
  have hm := moved_setGreg h rd v (pcOf s p + 4) (next_aligned s p)
  have e : result (awake s p) p rd v = setPc (setGreg (awake s p) p rd v) p (pcOf s p + 4) := by
    simp only [result, advance, pcOf_setGreg, pcOf_awake]
  rw [e]
  obtain ⟨hg, hpc, ho⟩ := moved_spec hm
  refine ⟨by rw [hg]; simp, hpc, fun r hr => ?_, ho⟩
  rw [hg, gAt_gSet_of_ne _ _ hr, greg_eq s p r h]

/-! ### Commands of instructions -/

/-- A register instruction's command: its body writes `v` to rd and goes on. -/
theorem writes_of {i : Instr} {w : Wop} {s : State} {p : Proc} {rd : RegNo} {v v' : Dword} {body : State → State}
    (he : exec i s = act s (runWop p w body)) (hb : Ready s p w → body (awake s p) = result (awake s p) p rd v)
    (hv : v' = v) : Writes i w s p rd v' := by
  intro h
  refine ⟨_, he.trans (act_ready h body), ?_⟩
  rw [hb h, hv]
  exact result_spec h.2.2.2.2 rd v

/-- A jump's command: its body goes on at `a`. -/
theorem goes_of {i : Instr} {w : Wop} {s : State} {p : Proc} {a : Dword} {body : State → State}
    (he : exec i s = act s (runWop p w body)) (hb : Ready s p w → body (awake s p) = setPc (awake s p) p a)
    (ha : p.profile = .s → a.toNat % 4 = 0) : Goes i w s p a := by
  intro h
  refine ⟨_, he.trans (act_ready h body), ?_⟩
  rw [hb h]
  obtain ⟨hg, hpc, ho⟩ := moved_spec (moved_setPc h.2.2.2.2 a ha)
  exact ⟨hpc, fun r => by rw [hg, greg_eq s p r h.2.2.2.2], ho⟩

/-- A branch of a section processor goes to a word address (R31, R32). -/
theorem there_aligned (s : State) (p : Proc) (off : Dword) (h : p.profile = .s) : (pcOf s p + 4 * off).toNat % 4 = 0 := by
  have := pcOf_aligned s p h
  simp
  omega

/-- As `act_ready`, for the commands after which votes and the mode are brought in step. -/
theorem actSettle_ready {s : State} {p : Proc} {w : Wop} (h : Ready s p w) (body : State → State) :
    actSettle s (runWop p w body) = settled (countStep (body (awake s p)) p) := by
  unfold actSettle act settled
  rw [h.1, if_neg (by simp)]
  beta_reduce
  rw [runWop_ready h]

/-- What going on leaves of a core and of an engine. -/
theorem onward_core (s : State) (c : Fin 2) : ∃ x : Core, onward s (.core c) = s.setCore c x ∧ x.g = (s.core c).g ∧ x.pc = (s.core c).pc + 4 := by
  unfold onward
  by_cases hp : (s.core c).run = .parked
  · exact ⟨{ s.core c with pc := (s.core c).pc + 4, run := .running }, by simp [advance, setPc, pcOf, awake, hp], rfl, rfl⟩
  · exact ⟨{ s.core c with pc := (s.core c).pc + 4 }, by simp [advance, setPc, pcOf, awake, hp], rfl, rfl⟩

theorem onward_engine (s : State) (e : Fin 512) : ∃ x : Engine, onward s (.engine e) = s.setEngine e.val x ∧ x.g = (s.engine e.val).g ∧ BitVec.ofNat 64 x.pc = BitVec.ofNat 64 (s.engine e.val).pc + 4 := by
  refine ⟨_, rfl, rfl, ?_⟩
  exact (BitVec.ofNat_toNat 64 _).trans (BitVec.setWidth_eq _)

/-- A core that executes instructions runs. -/
theorem awake_core (s : State) (c : Fin 2) (h : procReady s (.core c) = true) :
    (awake s (.core c)).core c = { s.core c with run := .running } ∧
    (∀ d, d ≠ c → (awake s (.core c)).core d = s.core d) ∧ AllBut [.cores] s (awake s (.core c)) := by
  by_cases hp : (s.core c).run = .parked
  · simp only [awake, hp, if_true]
    exact ⟨State.core_setCore_self s c _, fun d hd => State.core_setCore_of_ne s _ hd, AllBut.setCore s c _⟩
  · have hr : (s.core c).run = .running := by
      simp [procReady] at h
      rcases h.1.1.1 with h | h
      · exact h
      · exact absurd h.1 hp
    simp only [awake, hp, if_false]
    exact ⟨by rw [← hr], fun _ _ => trivial, AllBut.refl _ s⟩

/-- An exception of a core that is not in a handler (R39). -/
theorem raiseExc_core (s : State) (c : Fin 2) (cause : Nat) (val : Dword) (h : (s.core c).inTrap = false) :
    raiseExc s (.core c) cause val = s.setCore c ((s.core c).enter cause val) := by
  simp [raiseExc, coreException, h]

end Sys2Proof.Machine
end

