-- ==== Sys2Proof/Laws/Mem.lean ====
section
/-! SUPPORT. What loads and stores can do: byte strings in memory and in scratch, the access of a processor that has gone
on, a register's read. -/

namespace Sys2Proof.Machine

/-! ### Byte strings -/

@[simp] theorem leBytes_length (n w : Nat) : (leBytes n w).length = n := by
  induction n generalizing w with
  | zero => rfl
  | succ n ih => simp [leBytes, ih]

/-- A write of several bytes changes memory alone. -/
theorem State.wrMemN_eq (bs : List Byte) : ∀ (s : State) (a : Nat), ∃ m, s.wrMemN a bs = { s with mem := m } := by
  induction bs with
  | nil => exact fun s a => ⟨s.mem, rfl⟩
  | cons b bs ih =>
    intro s a
    obtain ⟨m, hm⟩ := ih (s.wrMem a b) (a + 1)
    exact ⟨m, by rw [State.wrMemN, hm]; rfl⟩

/-- Bytes just written read as written; the boot ROM is not written. -/
theorem State.rdMemN_wrMemN_self (bs : List Byte) : ∀ (s : State) (a : Nat), 0x40000 ≤ a →
    (s.wrMemN a bs).rdMemN a bs.length = bs := by
  induction bs with
  | nil => intros; rfl
  | cons b bs ih =>
    intro s a h
    simp only [State.wrMemN, List.length_cons, State.rdMemN]
    rw [ih _ _ (by omega), State.rdMem_wrMemN bs _ _ _ (Or.inl (by omega)), State.rdMem_wrMem_self s a b h]

theorem State.rdMemN_congr {s t : State} (h : t.mem = s.mem) (n : Nat) : ∀ a, t.rdMemN a n = s.rdMemN a n := by
  induction n with
  | zero => intro a; rfl
  | succ n ih => intro a; simp only [State.rdMemN, State.rdMem_congr h, ih]

/-- A byte of the map depends on memory and the recorder, journal and life-cycle units alone. -/
theorem State.rdByte_congr {s t : State} (hm : t.mem = s.mem) (hl : t.lcs = s.lcs) (hf : t.freeCtr = s.freeCtr)
    (hi : t.ilk = s.ilk) (he : t.evr = s.evr) (hh : t.home = s.home) (a : Nat) : t.rdByte a = s.rdByte a := by
  unfold State.rdByte lifeCycleByte journalByte logByte routeByte
  simp only [State.rdMem_congr hm, hl, hf, hi, he, hh]

theorem State.rdBytesN_congr {s t : State} (hm : t.mem = s.mem) (hl : t.lcs = s.lcs) (hf : t.freeCtr = s.freeCtr)
    (hi : t.ilk = s.ilk) (he : t.evr = s.evr) (hh : t.home = s.home) (n : Nat) :
    ∀ a, t.rdBytesN a n = s.rdBytesN a n := by
  induction n with
  | zero => intro a; rfl
  | succ n ih => intro a; simp only [State.rdBytesN, State.rdByte_congr hm hl hf hi he hh, ih]

/-! ### Scratch -/

theorem scratch_fold (bs : List Byte) : ∀ (m : List (Nat × Byte)) (o k : Nat) (j : Nat),
    Sparse.get (fun _ => (0 : Byte)) ((bs.zipIdx k).foldl (fun m p => Sparse.set (fun _ => (0 : Byte)) m (o + p.2) p.1) m) j =
      if o + k ≤ j ∧ j < o + k + bs.length then bs.getD (j - o - k) 0 else Sparse.get (fun _ => (0 : Byte)) m j := by
  induction bs with
  | nil => intro m o k j; simp
  | cons b bs ih =>
    intro m o k j
    simp only [List.zipIdx_cons, List.foldl_cons, ih, List.length_cons]
    by_cases h : j = o + k
    · subst h
      simp
    · rw [Sparse.get_set_of_ne _ _ _ h]
      by_cases h2 : o + (k + 1) ≤ j ∧ j < o + (k + 1) + bs.length
      · rw [if_pos h2, if_pos (by omega)]
        obtain ⟨i, hi⟩ : ∃ i, j - o - k = i + 1 := ⟨j - o - k - 1, by omega⟩
        rw [hi, show j - o - (k + 1) = i by omega]
        rfl
      · rw [if_neg h2, if_neg (by omega)]

/-- A bank just replaced is what it was replaced by. -/
@[simp] theorem bankOf_setBank_self (s : State) (n b : Nat) (x : Bank) : bankOf (setBank s n b x) n b = x := by
  unfold bankOf setBank
  split <;> simp

/-- A bank's replacement is a change of one port's line, which keeps its route. -/
theorem setBank_eq (s : State) (n b : Nat) (x : Bank) :
    setBank s n b x = s.setLine n (if b = 0 then { s.line n with bank0 := x } else { s.line n with bank1 := x }) := by
  unfold setBank
  split <;> rfl

@[simp] theorem scratchBank_setBank (s : State) (l b : Nat) (x : Bank) : scratchBank (setBank s l b x) l = scratchBank s l := by
  have hl : ((setBank s l b x).line l).route = (s.line l).route := by
    unfold setBank
    split <;> simp
  have ha : activeBank (setBank s l b x) l = activeBank s l := by
    rw [setBank_eq]; rfl
  unfold scratchBank
  rw [hl, ha]

/-- A section's scratch after a write: the bytes written, all others as before; the bank of its route is replaced. -/
theorem scratchWrite_spec (s : State) (l o : Nat) (bs : List Byte) :
    scratchBytes (scratchWrite s l o bs) l o bs.length = bs ∧
    (∀ j, (j < o ∨ o + bs.length ≤ j) → scratchBytes (scratchWrite s l o bs) l j 1 = scratchBytes s l j 1) ∧
    ∃ m, scratchWrite s l o bs = setBank s l (scratchBank s l) { bankOf s l (scratchBank s l) with scratch := m } := by
  have hf := scratch_fold bs (bankOf s l (scratchBank s l)).scratch o 0
  refine ⟨?_, ?_, _, rfl⟩
  · apply List.ext_getElem
    · simp [scratchBytes]
    · intro i h1 h2
      simp only [scratchBytes, scratchWrite, scratchBank_setBank, bankOf_setBank_self, List.getElem_map,
        List.getElem_range, hf]
      rw [if_pos (by omega)]
      simp [h2]
  · intro j hj
    simp only [scratchBytes, scratchWrite, scratchBank_setBank, bankOf_setBank_self, hf]
    simp only [List.range_one, List.map_cons, List.map_nil, Nat.add_zero]
    rw [if_neg (by omega)]

/-! ### Register reads -/

theorem mbxTake_frame (s : State) (p : Party) (n : Nat) : AllBut [.regs] s (mbxTake s p n) := by
  unfold mbxTake
  split
  · exact (AllBut.setBit s _ _ _).trans (AllBut.foldl (fun u m => AllBut.setBit u _ _ _) _ _)
  · exact AllBut.refl _ s

theorem setHeld_frame (s : State) (p : Party) (v : Option (Nat × Word)) : AllBut [.held] s (setHeld s p v) := by
  intro q hq
  cases q <;> first | rfl | exact absurd (by decide) hq

theorem ackStatus_frame (s : State) (p : Party) (a : Nat) : AllBut [.irq, .irq1] s (ackStatus s p a) := by
  intro q hq
  unfold ackStatus
  split
  · split <;> cases q <;> first | rfl | exact absurd (by decide) hq
  · exact AllBut.refl _ s q hq

/-- What a register's read by a core or an engine leaves: mailbox status bits, the reader's holding register and, of a core,
the latches of the interrupt sources whose status it has seen. -/
theorem readReg_frame (s : State) (p : Party) (a : Nat) (hp : ∀ x, p ≠ .agent x) :
    AllBut [.regs, .held, .irq, .irq1] s (readReg s p a).2 := by
  have ht : touched s p = s := by
    cases p <;> first | rfl | exact absurd rfl (hp _)
  have ha : AllBut [.regs, .held, .irq, .irq1] s (ackStatus s p a) := (ackStatus_frame s p a).mono (by simp)
  have hm : ∀ b : Bool, ∀ n, AllBut [.regs, .held, .irq, .irq1] s
      (if b then mbxTake (ackStatus s p a) p n else ackStatus s p a) := by
    intro b n
    split
    · exact ha.trans ((mbxTake_frame _ p n).mono (by simp))
    · exact ha
  simp only [readReg, ht]
  split
  · exact AllBut.refl _ s
  · have h := hm (decide (0x20040000 ≤ a ∧ a < 0x20044000 ∧ a % 0x100 = 0x40)) ((a - 0x20040000) / 0x100)
    simp only [decide_eq_true_eq] at h
    split
    · exact h.trans ((setHeld_frame _ p _).mono (by simp))
    · split
      · exact h.trans ((setHeld_frame _ p _).mono (by simp))
      · exact h

theorem readReg64_frame (s : State) (p : Party) (a : Nat) (hp : ∀ x, p ≠ .agent x) :
    AllBut [.regs, .held, .irq, .irq1] s (readReg64 s p a).2 := by
  have ht : touched s p = s := by
    cases p <;> first | rfl | exact absurd rfl (hp _)
  unfold readReg64
  split
  · simp only [ht]
    split
    · exact (ackStatus_frame s p a).mono (by simp)
    · exact AllBut.refl _ s
  · exact (readReg_frame s p a hp).trans (readReg_frame _ p _ hp)

theorem regLoad_frame (s : State) (p : Party) (a n : Nat) (hp : ∀ x, p ≠ .agent x) :
    AllBut [.regs, .held, .irq, .irq1] s (regLoad s p a n).2 := by
  unfold regLoad
  split
  · exact readReg64_frame s p a hp
  · exact readReg_frame s p _ hp

/-- A store of the low bytes of a value: they stand there, every other byte reads as before. -/
theorem stored_of (s u : State) (hm : u.mem = s.mem) (a n : Nat) (v : Dword) (h : 0x40000 ≤ a) :
    (u.wrMemN a (leBytes n v.toNat)).rdMemN a n = leBytes n v.toNat ∧ MemAllBut a n s (u.wrMemN a (leBytes n v.toNat)) := by
  constructor
  · have := State.rdMemN_wrMemN_self (leBytes n v.toNat) u a h
    rwa [leBytes_length] at this
  · intro b hb
    rw [State.rdMem_wrMemN _ _ _ _ (by rwa [leBytes_length]), State.rdMem_congr hm]

end Sys2Proof.Machine
end

