-- ==== Sys2Proof/Tests/Slice0.lean ====
section
/-! SUPPORT. The model's own tests: terms that WellFormed refuses, words of the spec's encoding, steps whose results the spec
gives, and for each statement of Obligations.lean states that meet its hypotheses. -/

namespace Sys2Proof.Tests

open Sys2Proof Sys2Proof.Machine

set_option Elab.async false

/-! ### Small states -/

/-- The state after reset with a core that runs. -/
abbrev coreAt : State := .reset

/-- Every domain in RUN and every PLL locked. -/
abbrev runAt : State :=
  domains.foldl (fun s d => s.wr (Reg.PWR_DOM_STAT d) 0) (State.reset.wr Reg.PWR_CLK_STAT 7)

/-- Engine 33 runs at 0 in yard 1. -/
abbrev engineAt : State := (runAt.setBit (Reg.YRD_CTL 1) 0 true).setEngine 33 { run := .running }

/-- The command route of section 5 has begun. -/
abbrev routeAt : State := runAt.setLine 5 { route := some ⟨false, 0, 0, [], 0⟩ }

/-- Engine 33 of yard 1, which runs, is `x`. -/
abbrev engineWith (x : Engine) : State := engineAt.setEngine 33 x

/-- A digest context of SHA-256 that a length was declared for, or was not. -/
abbrev shaCtx (declared : Option Nat) (st : CtxState) : DigestCtx := ⟨1, [], declared, [], st, []⟩

/-- A work item over one object of 256 bytes of PF0's memory, with a segment area. -/
abbrev itemAt : WorkItem :=
  ⟨⟨.ring 0 7, some 0, List.replicate 64 0, [⟨0x200000, 256, false⟩, ⟨0x100000, 64, true⟩], [], [], true⟩, 0, false, false, false⟩

/-- The descriptor of a DMA of 8 bytes between local 0xC000 and a remote address, with its control byte. -/
abbrev dmaAt (remote ctl : Nat) : List Byte :=
  leBytes 8 remote ++ leBytes 2 0xC000 ++ leBytes 2 8 ++ leBytes 1 ctl ++ leBytes 3 0

/-- An INLINE waybill of ring 0 over 256 bytes, SHA-256. -/
abbrev inlineAt : Waybill :=
  ⟨.ring 0 7, some 0, List.replicate 56 0 ++ [1, 0, 2, 0, 1, 0, 0, 0], [⟨0x200000, 256, false⟩], [], [], true⟩

/-- The accepted Consist has one component, 3, with section 5, report line 7 and hold line 9; its record is `rec`, its
state `st`. -/
abbrev compAt (rec : List Byte) (st : Nat) : State :=
  let s := runAt.wrMemN 0x10294000 (leBytes 4 0x54534E43 ++ List.replicate 12 0 ++ [1, 0, 0, 0] ++ leBytes 4 256)
  let s := s.wrMemN (0x10294000 + 256) ([3, 1, 0, 0] ++ leBytes 8 0 ++ [9, 0xFF, 0xFF, 0xFF, 7, 0xFF, 0, 0] ++ leBytes 4 0 ++
    leBytes 4 1000 ++ leBytes 4 50 ++ [5, 0, 0xFF, 0xFF] ++ leBytes 4 0 ++ leBytes 4 0x100000 ++ leBytes 4 0x100000 ++ leBytes 8 0)
  (s.wrBytes (Reg.RTB_REC 3 0) 48 (takePad 192 rec)).setF (Reg.RTB_COMP 3) 3 0 st
/-- The ledger in state `v` with capacity 8 pages. -/
abbrev ldgAt (v : Nat) : State := (runAt.setF Reg.LDG_STAT 2 0 v).wr Reg.LDG_PAGES 8

/-- Two commands wait. -/
theorem witness_StepRunsFront : ∃ c s rest, (s : State).pending = c :: rest ∧ rest ≠ [] :=
  ⟨.add (.core 0) 1 2 3, { State.reset with pending := [.add (.core 0) 1 2 3, .idcode] }, [.idcode], rfl, by simp⟩

/-- One entry that is enabled; the next tick makes a second full. -/
theorem witness_EmptyQueueTicks :
    let s : State := ({ runAt with ot := 1023, fix := { runAt.fix with tt := [(63, ⟨0, 1, 1, 0, 1, 1⟩)] } } : State).setBit (Reg.FIX_TT_STAT 63) 0 true
    s.pending = [] ∧ s.pwr.down = false ∧ (s.ot + 1) % 2 ^ 48 % 1024 = 0 ∧ (∀ e ∈ s.fix.tt, e.1 < 64) ∧ (s.fix.tt.map Prod.fst).Nodup ∧
    63 ∈ s.fix.tt.map Prod.fst ∧ s.bit (Reg.FIX_TT_STAT 63) 0 = true ∧ runAt.pending = [] ∧ runAt.pwr.down = false ∧ (runAt.ot + 1) % 2 ^ 48 % 1024 ≠ 0 ∧
    nextDelayed s = none ∧ nextDelayed runAt = none ∧ fwRuns State.reset = false ∧
    ({ runAt with pwr := { runAt.pwr with down := true } } : State).pending = [] ∧
    nextDelayed { runAt with pwr := { runAt.pwr with down := true } } = none ∧
    (nextDelayed { runAt with mbx := { runAt.mbx with delayed := [⟨.agent 0, .ledgerResume (.agent 0) 0, 0x50, 0⟩] } }).isSome = true := by decide +kernel

/-- The state after reset steps to its next tick. -/
theorem witness_StepKeepsForm : State.reset.wf = true ∧ step State.reset = .next (tick State.reset) := ⟨by decide +kernel, rfl⟩

/-- An instruction of each format, and the two with a condition at its limit. -/
theorem witness_EncodeDecode : wopOperandsOk (.add 31 0 31) = true ∧ wopOperandsOk (.extr 1 2 63 0) = true ∧ wopOperandsOk (.extr 1 2 0 63) = true ∧
    wopOperandsOk (.fence 7) = true ∧ wopOperandsOk (.jmp 0x2000000) = true ∧ wopOperandsOk (.extr 1 2 63 1) = false ∧ wopOperandsOk (.fence 0) = false := by decide

/-- A word of format R decodes. -/
theorem witness_DecodeEncode : decodeWop 0x00221801 = some (.add 1 2 3) := by decide

/-- A state without VIN_STBY, with and without the VBAT domain. -/
theorem witness_UnpoweredCommands : (powerLost runAt true).pwr.down = true ∧ (powerLost runAt true).tmp.cell = true ∧
    (powerLost runAt false).pwr.down = true ∧ (powerLost runAt false).tmp.cell = false := by decide +kernel

/-- A core that runs at reset is ready for each register-register instruction; a section processor on a route and an
engine that runs are ready for theirs. -/
theorem witness_AluResults : Ready coreAt (.core 0) (.divu 1 2 3) ∧ Ready engineAt (.engine 33) (.mulhu 1 2 3) ∧
    Ready routeAt (.line 5) (.add 1 2 3) := by decide

/-- Ready processors for the immediate instructions, EXTR up to the last bit among them. -/
theorem witness_ImmediateResults : Ready coreAt (.core 0) (.slti 1 2 0x8000) ∧ Ready coreAt (.core 0) (.extr 1 2 63 0) ∧
    Ready routeAt (.line 5) (.extr 1 2 0 63) ∧ Ready engineAt (.engine 33) (.insh 0 3 0xFFFF) := by decide

/-- Ready processors for branches, jumps and calls, a section processor with a branch among them. -/
theorem witness_BranchTargets : Ready coreAt (.core 0) (.jr 1 2 0xFFFC) ∧ Ready engineAt (.engine 33) (.call 0x3FFFFFF) ∧
    Ready routeAt (.line 5) (.bltu 1 2 0xFFFF) ∧ Ready routeAt (.line 5) (.jmp 1) := by decide

/-- Loads that a core (the SRAM's last word, a register), an engine (its own code, shared memory) and a section program (scratch)
may make. -/
theorem witness_LoadResults : Ready coreAt (.core 1) (.ldw 1 2 0) ∧ accessFault coreAt (.core 1) .load 0x013FFFFC 4 false = none ∧
    accessFault coreAt (.core 1) .load 0x20000000 8 false = none ∧ Ready engineAt (.engine 33) (.ldd 1 2 8) ∧
    accessFault engineAt (.engine 33) .load 0 8 false = none ∧ accessFault engineAt (.engine 33) .load 0x1FFFF8 8 false = none ∧
    readStalls coreAt (.core 1) 0x013FFFFC = false ∧ readStalls engineAt (.engine 33) 0x1FFFF8 = false ∧
    readStalls { coreAt with pwr := { coreAt.pwr with checks := [(0, 3)] } } (.core 1) 0x013FFFFC = true ∧
    Ready { coreAt with pwr := { coreAt.pwr with checks := [(0, 3)] } } (.core 1) (.ldw 1 2 0) ∧
    accessFault { coreAt with pwr := { coreAt.pwr with checks := [(0, 3)] } } (.core 1) .load 0x013FFFFC 4 false = none ∧
    Ready routeAt (.line 5) (.ldb 1 2 0) ∧ accessFault routeAt (.line 5) .load 0x47FF 1 false = none := by decide

/-- Stores that a core (SRAM, a register), an engine (its data area, shared memory) and a section program (scratch) may make. -/
theorem witness_StoreResults : Ready coreAt (.core 1) (.stw 1 2 0) ∧ accessFault coreAt (.core 1) .store 0x01000000 4 false = none ∧
    accessFault coreAt (.core 1) .store 0x20000000 8 false = none ∧ Ready engineAt (.engine 33) (.std 1 2 8) ∧
    accessFault engineAt (.engine 33) .store 0xF7F8 8 false = none ∧ accessFault engineAt (.engine 33) .store 0x1FFFF8 8 false = none ∧
    Ready routeAt (.line 5) (.stb 1 2 0) ∧ accessFault routeAt (.line 5) .store 0x4000 1 false = none := by decide

/-- Atomics in SRAM, on a register, in a bank under check and in a yard's shared memory. -/
theorem witness_AtomicResults : Ready coreAt (.core 1) (.cas 1 2 3) ∧ accessFault coreAt (.core 1) .load 0x01000008 8 true = none ∧
    accessFault coreAt (.core 1) .store 0x01000008 8 true = none ∧ accessFault coreAt (.core 1) .load 0x20000000 8 true = none ∧
    accessFault coreAt (.core 1) .store 0x20000000 8 true = none ∧ readStalls coreAt (.core 1) 0x20000000 = false ∧
    readStalls coreAt (.core 1) 0x01000008 = false ∧ readStalls engineAt (.engine 33) 0x100000 = false ∧
    readStalls { coreAt with pwr := { coreAt.pwr with checks := [(0, 0)] } } (.core 1) 0x01000008 = true ∧ Ready engineAt (.engine 33) (.amoadd 1 2 3) ∧
    accessFault engineAt (.engine 33) .load 0x100000 8 true = none ∧ accessFault engineAt (.engine 33) .store 0x100000 8 true = none ∧
    Ready engineAt (.engine 33) (.fence 7) := by decide

/-- A core that runs with a trap to raise; one with source 19 pending and enabled; one in a handler; an undecodable word; a misaligned
load and one outside the map. -/
theorem witness_ExceptionEntry :
    Ready coreAt (.core 0) (.trap 31) ∧ (coreAt.core 0).inTrap = false ∧ (coreAt.core 0).run = .running ∧
    accessFault coreAt (.core 0) .fetch (coreAt.core 0).pc.toNat 4 false = none ∧
    (decodeWop 0xFFFFFFFF).any (wopLegal .c) = false ∧ (decodeWop 0).any (wopLegal .c) = false ∧
    Ready coreAt (.core 0) (.ldw 1 0 2) ∧
    accessFault coreAt (.core 0) .load (greg coreAt (.core 0) 0 + (2 : BitVec 16).signExtend 64).toNat 4 false = some 2 ∧
    accessFault coreAt (.core 0) .load (greg coreAt (.core 0) 0 + (0xFFFC : BitVec 16).signExtend 64).toNat 4 false = some 6 ∧
    nextInterrupt (coreAt.setCore 1 { status := 1, ien := 1#64 <<< 19 }) 1 = some 19 ∧
    procReady (coreAt.setCore 1 { status := 1, ien := 1#64 <<< 19 }) (.core 1) = true ∧
    Ready (coreAt.setCore 1 { status := 4 }) (.core 1) .eret ∧
    ((coreAt.setCore 1 { status := 4 }).core 1).inTrap = true := by decide

/-- Executing processors and numbers outside the table: 9 in a core, CS_IPEND to MTS, CS_TVEC in an engine, CS_CYCLE in a section. -/
theorem witness_IllegalStateRegisters :
    (coreAt.pwr.down = false ∧ procReady coreAt (.core 0) = true ∧
      accessFault coreAt (.core 0) .fetch (pcOf coreAt (.core 0)).toNat 4 false = none) ∧
    (procReady engineAt (.engine 33) = true ∧
      accessFault engineAt (.engine 33) .fetch (pcOf engineAt (.engine 33)).toNat 4 false = none) ∧
    (procReady routeAt (.line 5) = true ∧
      accessFault routeAt (.line 5) .fetch (pcOf routeAt (.line 5)).toNat 4 false = none) ∧
    (9 : BitVec 12).toNat ∉ [0, 1, 2, 3, 4, 5, 6, 7, 8, 0x10] ∧ (7 : BitVec 12).toNat ∉ [0, 1, 2, 3, 4, 5, 6, 8] := by decide

/-- Processors ready for MFS, MTS, IDENT and PARK, with and without a wake. -/
theorem witness_StateRegisters : Ready coreAt (.core 1) (.mfs 3 7) ∧ Ready coreAt (.core 1) (.mfs 3 0x010) ∧
    Ready engineAt (.engine 33) (.mfs 3 0x010) ∧ Ready coreAt (.core 0) (.mts 3 8) ∧ Ready routeAt (.line 5) (.ident 3 2) ∧
    Ready engineAt (.engine 33) (.ident 3 4) ∧ Ready coreAt (.core 0) .park ∧ Ready engineAt (.engine 33) .park := by decide

/-- An operand of DINIT inside the layout and two outside it; a running context whose count meets the declared length, one
whose count does not; a finished context; a context to save and one to load. -/
theorem witness_DigestInstructions :
    (let x : Engine := { run := .running, g := [(2, 1)] }
     Ready (engineWith x) (.engine 33) (.dinit 1 2) ∧ (greg (engineWith x) (.engine 33) 2).toNat = 1 ∧ digestLen 1 ≠ 0 ∧
       digestLen 0 = 0) ∧
    (let x : Engine := { run := .running, g := [(2, 0xF000)], live := some (3, shaCtx (some 0) .running) }
     Ready (engineWith x) (.engine 33) (.dfin 3 2) ∧ Ready (engineWith x) (.engine 33) (.dfeed 3 2 0) ∧
       Ready (engineWith x) (.engine 33) (.dsave 3) ∧ Ready (engineWith x) (.engine 33) (.dcmp 1 2 2 3) ∧
       ((engineWith x).engine 33).live = some (3, shaCtx (some 0) .running) ∧
       codeBytes (engineWith x) 1 ≤ (greg (engineWith x) (.engine 33) 2).toNat) ∧
    (let x : Engine := { run := .running, live := some (0, shaCtx (some 5) .running) }
     Ready (engineWith x) (.engine 33) (.dfin 0 2) ∧
       (shaCtx (some 5) .running).declared.all (fun k => k == (shaCtx (some 5) .running).fed.length) = false) ∧
    (let x : Engine := { run := .running, slots := [(2, some (shaCtx none .done))] }
     Ready (engineWith x) (.engine 33) (.dload 2) ∧
       Sparse.get (fun _ => none) ((engineWith x).engine 33).slots 2 = some (shaCtx none .done)) := by decide

/-- An engine with a work item: streams of 0 and of 16 KiB; descriptors of DMA in (shared memory and the host) and out; tags that
have completed, that have not, and eight outstanding ones. -/
theorem witness_StreamInstructions :
    (let x : Engine := { run := .running, g := [(2, 0xB000), (3, 0x4000)], item := some itemAt }
     let s := engineWith x
     Ready s (.engine 33) (.sread 1 2 0) ∧ Ready s (.engine 33) (.sread 1 2 3) ∧ codeBytes s 1 ≤ 0xB000 ∧
       streamLeft itemAt = 256 ∧ dmaIssues s 0 = true ∧ dmaFails s 0 = false) ∧
    (let x : Engine := { run := .running, g := [(2, 0xB000), (3, 0x4001)], item := some itemAt,
                         tags := (List.range 8).map (fun k => ⟨k, true, 0xB000, 64, true, false, false, [], 0⟩) }
     let s := engineWith x
     Ready s (.engine 33) (.sread 1 2 3) ∧ ¬ ((x.tags.filter (fun t => !t.done)).length < 8) ∧
       Ready s (.engine 33) (.swait 1 0) ∧ (x.tags.find? (fun t => t.id == 0)).any (fun t => !t.done) = true) ∧
    (let x : Engine := { run := .running, tags := [⟨0, true, 0xB000, 64, true, true, false, [], 0⟩] }
     Ready (engineWith x) (.engine 33) (.swait 1 0) ∧ (x.tags.find? (fun t => t.id == 0)).any (fun t => t.done && !t.failed) = true) ∧
    (∀ d ∈ [dmaAt 0x04000000 2, dmaAt 0x04000000 3, dmaAt 0x100000 0],
      let x : Engine := { run := .running, g := [(2, 0xB000)], item := some itemAt }
      let s := (engineWith x).wrMemN (engineBase 33 + 0xB000) d
      Ready s (.engine 33) (.dma 1 2) ∧ (dmaDesc (localBytes s 33 0xB000 16)).ok = true ∧
        dmaRemoteOk s 33 itemAt (dmaDesc (localBytes s 33 0xB000 16)) = true ∧
        dmaAnswers s (dmaDesc (localBytes s 33 0xB000 16)) = true) := by decide

/-- An engine with nothing to take, one with a waybill to take, and one with an INLINE item whose results match. -/
theorem witness_WorkItemsTaken :
    (let x : Engine := { run := .running, g := [(2, 0xB000)] }
     let s := engineWith x
     Ready s (.engine 33) (.wbtake 1 2) ∧ codeBytes s 1 ≤ 0xB000 ∧ takeItem s 33 = none) ∧
    (let x : Engine := { run := .running, g := [(2, 0xB000)] }
     let s := ((engineWith x).wr Reg.FIX_CTL 1).wr Reg.FIX_YARDS 2
     takesItems s 33 = true ∧ Ready s (.engine 33) (.wbtake 1 2) ∧ dispatchable s inlineAt = true) ∧
    (let x : Engine := { run := .running, g := [(2, 0xB080)], item := some ⟨inlineAt, 256, false, false, false⟩ }
     let s := (engineWith x).wrMem (engineBase 33 + 0xB080) 1
     Ready s (.engine 33) (.wbdone 2) ∧ inlineAt.src = .ring 0 7 ∧ wbLedger inlineAt.bytes = false ∧ wbMode inlineAt.bytes = 2 ∧
       wbAlgB inlineAt.bytes = 0 ∧ wbSegmented inlineAt.bytes = false ∧ leAt (localBytes s 33 0xB080 1) 0 1 % 4 = 1) := by
  decide

/-- The scheduler gives that engine the waybill that waits. -/
theorem witness_WorkItemsTaken_item :
    (let s := ((engineWith { run := .running, g := [(2, 0xB000)] }).wr Reg.FIX_CTL 1).wr Reg.FIX_YARDS 2
     takeItem { s with fix := { s.fix with waiting := [inlineAt] } } 33 = some inlineAt) := by
  decide +kernel

/-- An engine outside the mask; one that arrives first and one that still owes its arrival after a break; two engines of a mask
that both wait, and two of which one does not. -/
theorem witness_Barriers :
    (let s := engineAt.wr (Reg.YRD_BAR_MASK 1) 1
     Ready s (.engine 33) (.barY 1) ∧ s.bit (Reg.YRD_BAR_MASK 1) 1 = false ∧ Ready s (.engine 33) (.barG 1)) ∧
    (let s := (engineAt.wr (Reg.YRD_BAR_MASK 1) 0x80000003).setBit (Reg.YRD_GBAR 1) 0 true
     Ready s (.engine 33) (.barY 1) ∧ s.bit (Reg.YRD_BAR_MASK 1) 1 = true ∧ (s.yard 1).owedY = [] ∧
       barJoined s 1 = true ∧ s.owedG = [] ∧ barLanes s 1 = [0, 1, 31] ∧
       waitsY s 32 = false ∧ waitsG s 32 = false ∧ barGlobal s = [32, 33, 63]) ∧
    (let s := ((engineAt.wr (Reg.YRD_BAR_MASK 1) 3).setEngine 32 { run := .waitY 4 }).setEngine 33 { run := .waitY 5 }
     barLanes s 1 = [0, 1] ∧ waitsY s 32 = true ∧ waitsY s 33 = true ∧ s.pwr.down = false) ∧
    (let s := (((engineAt.wr (Reg.YRD_BAR_MASK 1) 3).setBit (Reg.YRD_GBAR 1) 0 true).setEngine 32
       { run := .waitG 4 }).setEngine 33 { run := .waitG 5 }
     barGlobal s = [32, 33] ∧ waitsG s 32 = true ∧ waitsG s 33 = true) ∧
    (let s := (engineAt.wr (Reg.YRD_BAR_MASK 1) 2).setYard 1 { owedY := [1, 2] }
     (s.yard 1).owedY ≠ [] ∧ Ready s (.engine 33) (.barY 1)) := by decide

/-- Cores with both handles free, one and none; an open handle and a record (a hold set) to put; an operand of the other core's
handle and one that names none. -/
theorem witness_TransactionsBuilt :
    Ready coreAt (.core 0) (.topen 1) ∧ (coreAt.handle 0).state = .free ∧
    (let s := coreAt.setHandle 0 { state := .opened }
     Ready s (.core 0) (.topen 1) ∧ Ready s (.core 0) (.tdrop 0) ∧ handleOf (greg s (.core 0) 0) = some 0 ∧
       (s.handle 0).state = .opened ∧ (s.handle 1).state = .free) ∧
    (let s := (coreAt.setHandle 0 { state := .armed }).setHandle 2 { state := .lodged, recs := [⟨0x0F, 0, 1, 0, []⟩] }
     Ready s (.core 0) (.tdrop 0) ∧ (s.handle 0).state ∈ [.armed, .lodged] ∧ partnersOf s 0 = [2] ∧ (s.core (other 0)).run = .running) ∧
    (let s := (coreAt.setHandle 0 { state := .opened }).setHandle 1 { state := .lodged }
     (s.handle 0).state ≠ .free ∧ (s.handle 1).state ≠ .free) ∧
    (let s := ((coreAt.setCore 1 { g := [(2, 0x102), (3, 0x01200000), (4, 0x500), (5, 1)] }).setHandle 2 { state := .opened }).wrMemN
        0x01200000 (ActRec.bytes ⟨1, 2, 0x0000000100000001, 0, []⟩)
     Ready s (.core 1) (.tput 2 3) ∧ handleOf (greg s (.core 1) 2) = some 2 ∧ (greg s (.core 1) 3).toNat = 0x01200000 ∧
       inOwn 1 0x01200000 32 = true ∧ recordOk 1 0x01200000 (s.rdMemN 0x01200000 32) = true ∧
       sizeOk [takeRecord s (s.rdMemN 0x01200000 32)] = true ∧ handleOf (greg s (.core 1) 4) = none ∧ inOwn 1 0x01100000 32 = false ∧
       handleOf (greg s (.core 1) 5) = some 1 ∧ (s.handle 3).state ∉ [.opened, .armed, .lodged] ∧ recordOk 1 0x01200020 (s.rdMemN 0x01200020 32) = false) := by decide

/-- A handle of the other core; an open one with an error held, an empty one, one with a voted, journaled transaction with and
without room in the journal; an armed handle without subject, the relief core absent or not. -/
theorem witness_CommitAnswers :
    let rs : List ActRec := [⟨0x0E, 0, 5, 0, []⟩, ⟨0x05, 0, 1, 0, []⟩]
    let opened (x : Handle) : State := runAt.setHandle 0 x
    lineLocked runAt = true ∧ handleOf (greg runAt (.core 1) 2) = some 0 ∧ Ready runAt (.core 1) (.tcommit 1 2) ∧
    Ready (opened { state := .opened, held := some (0x13, 0) }) (.core 0) (.tcommit 1 2) ∧
    lineLocked (opened { state := .opened, recs := rs }) = true ∧ rs.any ActRec.isAction = true ∧ votedRecs rs = true ∧
    voteShape false rs = none ∧ voteShape true rs = some 0 ∧ powerFailing runAt = false ∧ journaledRecs rs = true ∧
    powerFailing (runAt.setBit Reg.PWR_STAT 0 true) = true ∧
    queuedBlocks runAt + entryBlocks rs ≤ runAt.ilk.journal.space ∧ votedRecs [⟨0x01, 0, 2 ^ 32 + 1, 0, []⟩] = false ∧ pairOf (opened { state := .opened, recs := rs }) 0 0 = none ∧
    (mirrorOf rs).isSome = false ∧ (mirrorOf (⟨0x0F, 2, 1, 0, []⟩ :: rs)).isSome = true ∧
    ¬ entryBlocks rs ≤ ({ dirty := List.range 32 } : Journal).space ∧
    subjectOf [⟨0x01, 0, 1, 0, []⟩] = none ∧ runAt.ilk.reliefAbsent = false ∧ runAt.pwr.down = false ∧
    ((opened { state := .armed }).handle 0).state = .armed := by decide +kernel

/-- An open handle that holds bit 3 of group 1, a second one that is armed for the same line. -/
theorem witness_HoldSetCommits :
    let s := (runAt.setHandle 0 { state := .opened, recs := [⟨0x01, 1, 8 * 2 ^ 32 + 8, 0, []⟩] }).setHandle 2
      { state := .armed, recs := [⟨0x01, 1, 8, 0, []⟩] }
    handleOf (greg s (.core 0) 2) = some 0 ∧ (s.handle 0).state = .opened ∧ (s.handle 0).recs = [⟨0x01, 1, 8 * 2 ^ 32 + 8, 0, []⟩] ∧
    (s.handle 0).held = none ∧ (s.handle 0).partner = none ∧ (s.handle 0).conflict = false ∧ s.ilk.queue = [] ∧
    s.ilk.busy = none ∧ lineLocked s = true ∧ Ready s (.core 0) (.tcommit 1 2) ∧ (s.handle 2).state = .armed ∧
    namesAny (s.handle 2).recs (lineResources 1 8) = true := by decide +kernel

/-- Core 0 and a level-3 debugger's view apart: a core that writes; a stopped yard in RUN and one asleep, a running one, engines
that are parked, faulted and wait at BAR.Y. -/
theorem witness_YardRunAndDoorbell :
    Writer runAt (.core 0) (Reg.YRD_CTL 15) ∧ Writer runAt (.core 1) (Reg.YRD_DOORBELL 0) ∧ Writer runAt (.core 0) (Reg.YRD_FAULT_MAP 15) ∧
    runAt.bit (Reg.YRD_CTL 15) 0 = false ∧ domState runAt (6 + 15) = 0 ∧ domState State.reset (6 + 15) ≠ 0 ∧
    State.reset.bit (Reg.YRD_CTL 15) 0 = false ∧ Writer State.reset (.core 0) (Reg.YRD_CTL 15) ∧
    Writer engineAt (.core 0) (Reg.YRD_CTL 1) ∧ engineAt.bit (Reg.YRD_CTL 1) 0 = true ∧
    ((engineWith { run := .faulted }).setBit (Reg.YRD_FAULT_MAP 1) 1 true).bit (Reg.YRD_FAULT_MAP 1) 1 = true ∧
    ((engineWith { run := .parked }).engine 33).run = .parked := by decide +kernel

/-- A key load and a broadcast that may begin, that are refused, and in progress. -/
theorem witness_BroadcastsAndKeyLoads :
    Writer runAt (.core 0) Reg.YRD_BCAST_GO ∧ Writer runAt (.core 1) Reg.YRD_KEY_GO ∧ runAt.bcast = none ∧ runAt.keyLoad = none ∧
    (∀ y ∈ maskYards 0x8001, runAt.bit (Reg.YRD_CTL y) 0 = false ∧ domState runAt (6 + y) = 0 ∧ 4 ≤ codeBytes runAt y) ∧
    engineAt.bit (Reg.YRD_CTL 1) 0 = true ∧ runAt.pwr.down = false ∧
    ({ runAt with bcast := some ⟨[0, 15], [1, 2], .lc 0⟩ } : State).bcast = some ⟨[0, 15], [1, 2], .lc 0⟩ ∧
    ({ runAt with keyLoad := some ⟨0x8001, 3, [1]⟩ } : State).keyLoad = some ⟨0x8001, 3, [1]⟩ := by decide +kernel

/-- A command route over a frame, a judge route over an entry; CNT is ready on either. -/
theorem witness_SectionFrameInstructions :
    let s := setFrame routeAt 5 (some { decoded := true, opcode := 3, addr := 0x1000, desc := 7 })
    let e : Entry := ⟨2, 0, 3, 0, 0, 3, 0, 0, [1, 2], 2, .judging, none, false, false⟩
    let q := runAt.setLine 5 { route := some ⟨true, 0, 0, [], 0⟩, queue := [e] }
    (s.line 5).route = some ⟨false, 0, 0, [], 0⟩ ∧ (s.line 5).frame = some { decoded := true, opcode := 3, addr := 0x1000, desc := 7 } ∧
    Ready s (.line 5) (.fop 1) ∧ Ready s (.line 5) (.faddr 1) ∧ Ready s (.line 5) (.fmode 1) ∧ Ready s (.line 5) (.rlook 1 2) ∧
    Ready s (.line 5) (.cnt 15) ∧ (q.line 5).queue.find? (fun e => e.progress == .judging) = some e ∧
    Ready q (.line 5) (.flen 1) ∧ Ready q (.line 5) (.fdata 1 2) := by decide +kernel

/-- A command route over an ARRAY_READ with a Served and with a Watched hit, over a WRITE, and a judge route. -/
theorem witness_SectionVerdicts :
    let b := (runAt.wr (Reg.DEP_EXT_CTL 0) (BitVec.ofNat 32 (5 + 128 + 512))).wr (Reg.DEP_EXT_LEN 0) 1
    let s := setFrame (b.setLine 5 { route := some ⟨false, 0, 0, [(2, 0xA00)], 0⟩ }) 5 (some { decoded := true, opcode := 3, kind := 0 })
    let w := (runAt.wr (Reg.DEP_EXT_CTL 0) (BitVec.ofNat 32 (5 + 64 + 512))).wr (Reg.DEP_EXT_LEN 0) 1
    let d := setFrame (w.setLine 5 { route := some ⟨false, 0, 0, [(2, 0x900)], 0⟩ }) 5 (some { decoded := true, opcode := 3, kind := 0 })
    let c := { d with tagKey := some [1] }
    Ready s (.line 5) (.pass 2 1) ∧ Ready s (.line 5) (.deny 2 1) ∧ Ready s (.line 5) (.serve 2 1) ∧ Ready s (.line 5) (.stage 2 1) ∧
    hitOf (greg s (.line 5) 2).toNat 2 = true ∧ liveExtent s 5 0 2 0 = some 0 ∧ holdPend s (extComp s 0) = false ∧
    flashUnavailable s 5 = false ∧ sealed s = false ∧ hitOf (greg s (.line 5) 2).toNat 1 = false ∧
    Ready c (.line 5) (.check 2 1) ∧ hitOf (greg c (.line 5) 2).toNat 1 = true ∧ c.tagKey.isSome = true ∧
    liveExtent c 5 0 1 0 = some 0 ∧ hitOf (greg c (.line 5) 2).toNat 2 = false := by decide +kernel

/-- A section in each of the points, a frame not yet decoded under an empty and a loaded bank, a read without verdict. -/
theorem witness_FramesBegin :
    runAt.pwr.down = false ∧ lineLocked runAt = true ∧ (runAt.line 31).selLow = false ∧ pointsOf runAt 31 = 0 ∧
    ((runAt.setLine 31 { selLow := true }).line 31).selLow = true ∧
    pointsOf (runAt.setF (Reg.SEC_CTL 31) 1 0 1) 31 = 1 ∧ pointsOf (runAt.setF (Reg.SEC_CTL 31) 1 0 2) 31 = 2 ∧
    (let s := setFrame runAt 3 (some {})
     (s.line 3).frame = some {} ∧ (bankOf s 3 (decodeFrame s 3 3 0 0).bank).ok = false) ∧
    (let s := setBank (setFrame runAt 3 (some {})) 3 0 ⟨true, [], [], [], []⟩
     (s.line 3).frame = some {} ∧ (bankOf s 3 (decodeFrame s 3 3 0 0).bank).ok = true) ∧
    (routeAt.line 5).route.isSome = true := by decide +kernel

/-- Frames of each kind at their select rise. -/
theorem witness_SelectRises :
    let s (f : Frame) : State := setFrame runAt 3 (some f)
    let q (f : Frame) : State := finishRoute ((s f).setLine 3 { (s f).line 3 with selLow := false }) 3
    let f : Frame := { decoded := true, kind := 3, verdict := some (0, 0) }
    let whole (f : Frame) : State := endFrame ((q f).inc (Reg.SEC_CNT_FRAMES 3)) 3 f 0
    runAt.pwr.down = false ∧ lineLocked (s f) = true ∧ ((s {}).line 3).frame = some {} ∧ ((s f).line 3).frame = some f ∧
    ((q f).line 3).frame = some f ∧ unitEdges 0 = 8 ∧ dataEdges 0 = 8 ∧ sealed (whole f) = false ∧
    sealed ((whole f).setBit Reg.TMP_STAT 1 true) = true ∧ (leBytes 4 7).length ≤ 4096 := by decide +kernel

/-- A section whose flash line is low with a driven frame, a waiting DEVICE operation and a queued entry; a checked page. -/
theorem witness_FlashLineEvents :
    let e : Entry := ⟨2, 0, 3, 0, 0, 3, 0, 0, [1, 2], 2, .passed, none, false, false⟩
    let low := (runAt.setBit (Reg.SEC_CFG 4) 0 true).setBit (Reg.SEC_PORT_STAT 4) 7 true
    runAt.pwr.down = false ∧ lineLocked runAt = true ∧ pointsOf (runAt.setF (Reg.SEC_CTL 4) 1 0 2) 4 = 2 ∧
    senseBlocks low 4 = true ∧ senseBlocks (low.setLine 4 { queue := [e] }) 4 = true ∧
    drivenFrame (setFrame runAt 4 (some { decoded := true, kind := 0, reply := .flash })) 4 = some (0, 0) ∧
    pointsOf runAt 4 ≠ 2 ∧ senseBlocks runAt 4 = false ∧ drivenFrame runAt 4 = none ∧
    checkedExtent { checks := [(7, [0])] } 0 = some 7 ∧ checkedExtent { frame := some { reply := .checked 6 } } 0 = some 6 ∧
    extHas (runAt.wr (Reg.DEP_EXT_LEN 7) 1) 7 0 = true := by decide +kernel

/-- A section with an entry in each progress, with and without a status entry that polls. -/
theorem witness_StagingQueueRuns :
    let e (p : Progress) : Entry := ⟨2, 0, 3, 0, 0, 3, 0, 0, [1, 2], 2, p, none, false, false⟩
    let s (p : Progress) : State := (runAt.setF (Reg.SEC_CTL 4) 1 0 2).setLine 4 { queue := [e p] }
    lineLocked (s .passed) = true ∧ ((s .passed).line 4).queue = [e .passed] ∧ powerFailing (s .passed) = false ∧
    powerFailing ((s .passed).setBit Reg.PWR_STAT 0 true) = true ∧ replaysTwice (s .replaying) 4 (e .replaying) = false ∧
    replaysTwice ((s .replaying).wr (Reg.SEC_PROFILE 4 3) 0xFFFFFFFF) 4 { e .replaying with addrLen := 0 } = true ∧
    pointsOf (s .passed) 4 ≠ 0 ∧ frameOnFlash ((s .passed).line 4) = false ∧ senseBlocks (s .passed) 4 = false ∧
    fenceHit (s .passed) 4 (e .passed) = none ∧
    fenceHit (((s .passed).wr (Reg.SEC_FENCE_LEN 4 0) 1).wr (Reg.SEC_FENCE_BASE 4 0) 1) 4 (e .passed) = some 0 ∧
    pollEntry (s .polling) 4 = none ∧ (pollEntry ((s .polling).wr (Reg.SEC_STATUS 4 0) 0x01000005) 4).isSome = true := by decide +kernel

/-- A section that the Ganger may read, and one with a page in hand. -/
theorem witness_GangerChecksPages :
    let x := (((((runAt.wr (Reg.DEP_EXT_CTL 9) (BitVec.ofNat 32 (4 + 64 + 512))).wr (Reg.DEP_EXT_LEN 9) 1).setF (Reg.SEC_CTL 4) 1 0 2).setBit
      Reg.GNG_CTL 0 true).wr Reg.GNG_BUDGET 0x000A03E8)
    x.pwr.down = false ∧ lineLocked x = true ∧ gangerMay x 4 100 = true ∧ gangerPick x 4 = some 0 ∧ liveAt x 4 0 = some 9 ∧
    extClass x 9 ≠ 2 ∧ extClass (x.wr (Reg.DEP_EXT_CTL 9) (BitVec.ofNat 32 (4 + 128 + 512))) 9 = 2 ∧
    gangerMay runAt 4 100 = false ∧ ((x.setLine 4 { ganger := some ⟨0, 9, 5⟩ }).line 4).ganger = some ⟨0, 9, 5⟩ := by decide +kernel

/-- A section with a DEVICE operation in progress; the V-port with a profile that passes, and one that may start a read. -/
theorem witness_PortConfiguration :
    let b := (runAt.setBit (Reg.SEC_DEV_STAT 5) 0 true).setLine 5 { dev := some (devOpOf runAt 5) }
    let g := runAt.wrBytes (Reg.SEC_PROFILE 33 0) 128 (builtInProfile (runAt.bit (Reg.SEC_PORT_STAT 33) 5))
    let h := (((g.setBit (Reg.SEC_PORT_STAT 33) 4 true).wr (Reg.SEC_DEV_OP 33) 0x200).wr (Reg.SEC_DEV_LEN 33) 16).wr (Reg.SEC_DEV_BUF 33)
      0x01000000
    Writer b (.core 0) (Reg.SEC_DEV_GO 5) ∧ b.bit (Reg.SEC_DEV_STAT 5) 0 = true ∧ (b.line 5).dev.isSome = true ∧
    Writer g (.core 0) (Reg.SEC_PROF_CHECK 33) ∧ profFault g 33 = none ∧ Writer h (.core 0) (Reg.SEC_DEV_GO 33) ∧
    h.bit (Reg.SEC_DEV_STAT 33) 0 = false ∧ devRefused h 33 (devOpOf h 33) = false := by decide +kernel

/-- A writer of each register, for a section that is ROUTED, one that is not, and the V-port. -/
theorem witness_PortWrites :
    Writer runAt (.core 0) (Reg.SEC_PROFILE 33 127) ∧ Writer runAt (.core 1) (Reg.SEC_CFG 31) ∧
    Writer runAt (.core 0) (policyReg 0 7) ∧ Writer runAt (.core 0) (policyReg 32 0) ∧ Writer runAt (.core 0) (Reg.SEC_PROF_CHECK 5) ∧
    Writer runAt (.core 0) (Reg.SEC_DEV_GO 33) ∧ (runAt.setF (Reg.SEC_CTL 31) 1 0 2).fld (Reg.SEC_CTL 31) 1 0 = 2 ∧
    runAt.fld (Reg.SEC_CTL 31) 1 0 ≠ 2 ∧ profFault runAt 5 = some (1, 0xFF) ∧ runAt.bit (Reg.SEC_DEV_STAT 33) 0 = false ∧
    devRefused runAt 33 (devOpOf runAt 33) = true ∧ privileged runAt (.core 0) = true := by decide +kernel

/-- A writer of each register, an extent in each kind of state, a load in progress that is refused. -/
theorem witness_ProgramLoadsAndExtents :
    let x := runAt.wr (Reg.DEP_EXT_CTL 255) 0x280
    Writer runAt (.core 0) (Reg.SEC_PGM_LOAD 31) ∧ runAt.bit (Reg.SEC_PGM_STAT 31) 0 = false ∧
    (runAt.setBit (Reg.SEC_PGM_STAT 31) 0 true).bit (Reg.SEC_PGM_STAT 31) 0 = true ∧
    loadFault runAt ⟨0, 0, 0, 0, .lc 0⟩ = some (15, 0xFFFF) ∧ ((runAt.setLine 3 { load := some ⟨0, 0, 0, 0, .lc 0⟩ }).line 3).load =
      some ⟨0, 0, 0, 0, .lc 0⟩ ∧ ((runAt.setLine 3 { load := some ⟨0, 0, 0, 0, .lc 0⟩ }).line 3).route = none ∧
    ((runAt.setLine 3 { route := some ⟨true, 0, 0, [], 1⟩ }).line 3).route = some ⟨true, 0, 0, [], 1⟩ ∧ activeBank runAt 3 = 0 ∧
    Writer x (.core 1) (Reg.DEP_EXT_CTL 255) ∧ extState x 255 = 2 ∧ extState x 0 = 0 ∧ extInUse x 255 = false ∧
    Writer runAt (.core 0) Reg.DEP_HOLD_PEND_HI ∧ Writer runAt (.core 0) Reg.DEP_HOLD_PEND_LO ∧ Writer runAt (.core 0) (Reg.HLD_LCFG 95) ∧
    Writer runAt (.core 0) Reg.HLD_FILTER ∧ Writer runAt (.core 0) Reg.HLD_LOCK ∧ runAt.bit Reg.HLD_LOCK 0 = false ∧
    holdState runAt 95 = true := by decide +kernel

/-- An empty program that every check accepts: a table of no region over a code area of one DENY. -/
theorem witness_ProgramAccepted :
    let img := leBytes 4 0x53574E4C ++ leBytes 2 1 ++ leBytes 2 0 ++ leBytes 4 4 ++ leBytes 2 0 ++ leBytes 2 0 ++ leBytes 2 1 ++
      leBytes 2 1 ++ leBytes 4 0 ++ List.replicate 8 0 ++ leBytes 4 (encodeWop (.deny 0 0)).toNat
    loadFault (runAt.wrMemN 0x01000000 img) ⟨0x01000000, 36, 0x01000000, 0, .lc 0⟩ = none := by decide +kernel

theorem wit_UnitRegisters : ∃ s : State, Writer s (.core 0) (Reg.EXM_LANE_SUBMIT 3) ∧ Writer s (.core 0) (Reg.EXM_LANE_ABORT 3) ∧
    Writer s (.core 0) (Reg.EXM_LANE_END 3) ∧ Writer s (.core 0) Reg.SIG_ABORT ∧ Writer s (.core 0) Reg.ILK_ARM ∧
    Writer s (.core 0) Reg.ATT_MREG_EXT_CTL :=
  ⟨.reset, by decide +kernel⟩
/-- A well-formed MEM job at 0x01001000. -/
abbrev exmDescAt : State := State.reset.wrMemN 0x01001000 ([2, 0, 0, 0, 0, 0, 0, 0] ++ leBytes 8 64 ++ leBytes 8 0x01000000 ++
  leBytes 8 0 ++ leBytes 8 0x01002000 ++ leBytes 8 0 ++ leBytes 8 0x77)
theorem wit_UnitRegisters_submit :
    exmDescOk exmDescAt 0 0x01001000 = true ∧ (exmDescAt.lane 3).holder = none ∧ exmDescOk exmDescAt 0 0x01001040 = false := by
  decide +kernel
theorem wit_UnitRegisters_job : ∃ s : State, domState s 1 = 0 ∧ s.pwr.down = false ∧ ∃ j, (s.lane 3).holder = some j ∧
    j.flash = false ∧ j.compare = true :=
  ⟨runAt.setLane 3 { holder := some ⟨0, 0, 2, false, true, 64, 0x01000000, 0x01000000, 0x01002000, 0, []⟩ }, by decide +kernel, by decide +kernel, _, rfl, rfl, rfl⟩
theorem wit_UnitRegisters_flash : ∃ s : State, domState s 1 = 0 ∧ s.pwr.down = false ∧ ∃ j, (s.lane 3).holder = some j ∧
    j.flash = true ∧ j.fed.length < j.len ∧ Writer s (.core 0) (Reg.EXM_LANE_END 3) :=
  ⟨runAt.setLane 3 { holder := some ⟨0, 0, 2, true, true, 64, 0x01000000, 0x01000000, 0x01002000, 0, []⟩ }, by decide +kernel, by decide +kernel, _, rfl, rfl,
    by decide +kernel, by decide +kernel⟩

/-- The S pipe, or a V pipe, has the job of operation `op` with key slot `k` and output slot `o`. -/
abbrev sigAt (n op k o : Nat) : State := setSigPipe runAt n [⟨0, 0x01001000, op, k, o, 0, 0x55, ⟨0, 0, 0, 0, 0, 0, 0⟩, none⟩]
theorem wit_SignatureOperations : ∀ op : Fin 14, (sigAt 2 op.val 0 1).pwr.down = false ∧ domState (sigAt 2 op.val 0 1) 1 = 0 ∧
    sigPipe (sigAt 2 op.val 0 1) 2 = [⟨0, 0x01001000, op.val, 0, 1, 0, 0x55, ⟨0, 0, 0, 0, 0, 0, 0⟩, none⟩] := by decide +kernel
theorem wit_SignatureOperations_key : ((sigStart runAt).sigKey 0).ty = 4 := by decide +kernel

/-- As `sigAt`, with key slot 3 of type `ty`, output slot `o`, inputs of these lengths, flags `f`, and the health tests
passing. -/
abbrev sigWith (op ty o l1 l2 l3 f : Nat) : State :=
  setSigPipe ((runAt.setSigKey 3 ⟨ty, true, false, [1]⟩).setBit Reg.SIG_STAT 11 true) 2
    [⟨0, 0x01001000, op, 3, o, f, 0x55, ⟨0x01002000, l1, 0x01003000, l2, 0x01004000, l3, 0x01005000⟩, none⟩]
/-- Whether the job of `s` has a key slot of type `ty`, inputs of these lengths, and the health tests pass. -/
def sigReady (s : State) (ty l1 l2 l3 : Nat) : Bool :=
  match sigPipe s 2 with
  | [j] => j.done == none && decide (j.key < 16) && (s.sigKey j.key).ty == ty && j.buf.len1 == l1 && j.buf.len2 == l2 &&
      j.buf.len3 == l3 && rbgOk s && !s.pwr.down && domState s 1 == 0
  | _ => false
theorem wit_SignatureOperations_run :
    sigReady (sigWith 2 1 4 48 0 0 0) 1 48 0 0 ∧ sigReady (sigWith 4 2 4 65536 0 0 1) 2 65536 0 0 ∧
    sigReady (sigWith 6 1 15 0 0 0 0) 1 0 0 0 ∧ sigReady (sigWith 7 3 15 0 0 97 0) 3 0 0 97 ∧
    sigReady (sigWith 8 4 0xFF 256 64 0 0) 4 256 64 0 ∧ sigReady (sigWith 8 4 15 256 64 0 2) 4 256 64 0 ∧
    sigReady (sigWith 9 5 4 65536 4096 12 0) 5 65536 4096 12 ∧ sigReady (sigWith 0x0A 5 4 16 4096 12 0) 5 16 4096 12 ∧
    sigReady ((sigWith 0x0B 4 15 1 0 0 0).wrMem 0x01002000 2) 4 1 0 0 ∧
    sigIn1 ((sigWith 0x0B 4 15 1 0 0 0).wrMem 0x01002000 2) ⟨0x01002000, 1, 0, 0, 0, 0, 0⟩ = [2] ∧
    sigReady (sigWith 0x0C 1 4 4096 0 0 0) 1 4096 0 0 ∧ sigReady (sigWith 0x0D 7 4 0 0 0 0) 7 0 0 0 := by decide +kernel
/-- No point is decoded from zeros; the base point is one. -/
theorem wit_SignatureOperations_points : ecDecode (List.replicate 97 0) = none := by decide +kernel

theorem wit_JobEndsAndExtensions : ∃ s : State, s.pwr.down = false ∧ domState s 1 = 0 ∧
    sigPipe s 2 = [⟨0, 0x01001000, 0x0D, 0, 0, 0, 0x55, ⟨0, 0, 0, 0, 0, 0, 0⟩, some (3, [])⟩,
      ⟨1, 0x01201000, 0x0D, 0, 0, 0, 0x56, ⟨0, 0, 0, 0, 0, 0, 0⟩, none⟩] :=
  ⟨setSigPipe runAt 2 _, by decide +kernel, by decide +kernel, rfl⟩
theorem wit_JobEndsAndExtensions_rbg : State.reset.pwr.down = false ∧ platformOn State.reset = false ∧
    (∃ s : State, platformOn s = true ∧ s.tagKey = none) :=
  ⟨by decide +kernel, by decide +kernel, setPlatformOn runAt true, by decide +kernel, by decide +kernel⟩
theorem wit_JobEndsAndExtensions_ext : ∃ s : State, s.att.ext = some (4, [1, 2]) ∧ s.pwr.down = false :=
  ⟨{ State.reset with att := { State.reset.att with ext := some (4, [1, 2]) } }, rfl, rfl⟩

theorem wit_NvcSnapshotsAndWords : ∃ s : State, s.nvc = none ∧ Writer s (.core 0) Reg.NVC_CTL ∧ Writer s (.core 0) Reg.NVC_ADDR ∧
    Writer s (.core 0) Reg.SBX_SNAP ∧ privileged s (.core 0) = true :=
  ⟨.reset, rfl, by decide +kernel⟩
abbrev nvcAt : State := (State.reset.wr Reg.NVC_ADDR 0x294000).wr Reg.NVC_LEN 16
theorem wit_NvcSnapshotsAndWords_go : nvcRegion (nvcAt.fld Reg.NVC_ADDR 23 0) = true ∧ nvcLocked nvcAt (nvcAt.fld Reg.NVC_ADDR 23 0) = false ∧
    powerFailing nvcAt = false ∧ nvcAt.fld Reg.NVC_ADDR 23 0 % 8 = 0 ∧ nvcAt.fld Reg.NVC_LEN 11 0 = 16 ∧
    nvcRegion (State.reset.fld Reg.NVC_ADDR 23 0) = false := by decide +kernel
theorem wit_NvcSnapshotsAndWords_done : ∃ s : State, s.pwr.down = false ∧ s.nvc = some ⟨1, 0x10294000, [0x12]⟩ :=
  ⟨{ State.reset with nvc := some _ }, rfl, rfl⟩
theorem wit_NvcSnapshotsAndWords_low : isPairLow Reg.TMP_VBAT_TICK_LO = true ∧ partyMay .reset (.core 0) .load Reg.TMP_VBAT_TICK_LO = true := by
  decide +kernel

/-- Handle 2 in service with the records `rs`, alone in the queue, its journal write in progress or not. -/
abbrev serviceAt (rs : List ActRec) (busy : Option Nat) : State :=
  let s := runAt.setHandle 2 { state := .service, recs := rs }
  { s with ilk := { s.ilk with queue := [2], busy := busy } }
theorem wit_JournalService : ∀ rs ∈ [[⟨1, 0, 2 ^ 32 + 1, 0, []⟩], [⟨5, 0, 7, 0, []⟩], [⟨1, 9, 0, 0, []⟩]],
    (serviceAt rs none).pwr.down = false ∧ lineLocked (serviceAt rs none) = true ∧ ((serviceAt rs none).handle 2).conflict = false := by
  decide +kernel
theorem wit_JournalService_checks : commitFault (serviceAt [⟨1, 0, 2 ^ 32 + 1, 0, []⟩] none) 0 [⟨1, 0, 2 ^ 32 + 1, 0, []⟩] = none ∧
    journaledRecs [⟨1, 0, 2 ^ 32 + 1, 0, []⟩] = false ∧ journaledRecs [⟨5, 0, 7, 0, []⟩] = true ∧
    powerFailing (serviceAt [] none) = false ∧ (serviceAt [] none).ilk.journal.entries = [] ∧
    entryBlocks [⟨5, 0, 7, 0, []⟩] ≤ (serviceAt [] none).ilk.journal.space := by decide +kernel
theorem wit_JournalService_busy : (serviceAt [⟨5, 0, 7, 0, []⟩] (some 2)).ilk.busy = some 2 ∧
    sectorFree (serviceAt [] none) 3 = false := by decide +kernel
theorem wit_JournalService_sector : ∃ s : State, s.pwr.down = false ∧ sectorFree s 3 = true :=
  ⟨{ State.reset with ilk := { State.reset.ilk with journal := { State.reset.ilk.journal with dirty := [3] } } }, rfl, by decide +kernel⟩

theorem wit_PowerDomains : Ready .reset (.core 0) (.pvset 1 2) ∧ Ready .reset (.core 0) (.pvclr 1 2) ∧
    Writer .reset (.core 0) (Reg.PWR_DOM_CFG 6) ∧ (greg (State.reset.setCore 0 { run := .running, g := [(2, 3)] }) (.core 0) 2).toNat = 3 := by
  decide +kernel
/-- Domain `d` in a state and phase. -/
abbrev domAt (d st ph : Nat) : State := setDomPhase (setDomState runAt d st) d ph
theorem wit_PowerDomains_phases : domPhase (domAt 6 0 1) 6 = 1 ∧ refuser (domAt 6 0 1) 6 3 = none ∧ domPhase (domAt 6 0 2) 6 = 2 ∧
    domPhase (domAt 6 3 3) 6 = 3 ∧ domState (domAt 1 3 3) 1 = 3 ∧ domState (domAt 1 1 3) 1 ≠ 3 := by decide +kernel
theorem wit_PowerDomains_refused : (refuser ((domAt 6 0 1).setEngine 3 { item := some itemAt }) 6 3).isSome = true := by decide +kernel
theorem wit_PowerDomains_wake : wakeEnabled (domAt 1 1 0) 3 = true ∧ wakeEnabled ((domAt 1 1 0).wr Reg.PWR_WAKE_EN 0) 0 = false ∧ domPhase (domAt 1 1 0) 1 = 0 := by
  decide +kernel
theorem wit_PowerDomains_prepare : wakeEnabled (domAt 1 0 1) 3 = true ∧ domPhase (domAt 1 0 1) 1 = 1 := by decide +kernel
theorem wit_PowerDomains_check : ∃ s : State, s.pwr.down = false ∧ (2, 3) ∈ s.pwr.checks ∧ (0, 3) ∈ s.pwr.checks ∧ (1, 3) ∈ s.pwr.checks :=
  ⟨{ runAt with pwr := { runAt.pwr with checks := [(2, 3), (0, 3), (1, 3)] } }, by decide +kernel, by decide +kernel, by decide +kernel,
    by decide +kernel⟩

theorem wit_ClocksAndVoltage : Writer .reset (.core 0) (Reg.PWR_YARD_OP 3) ∧ Writer .reset (.core 0) Reg.PWR_CLK_CTL ∧
    privileged .reset (.core 0) = true ∧ State.reset.fld (Reg.PWR_YARD_OP 3) 1 0 = 1 ∧ State.reset.fld (Reg.PWR_YARD_OP 3) 3 2 = 1 ∧
    State.reset.bit (Reg.PWR_YARD_OP 3) 4 = true := by decide +kernel
theorem wit_ClocksAndVoltage_pll : pllRuns (runAt.setBit Reg.PWR_CLK_CTL 5 true) 0 = true ∧ pllRuns (runAt.setBit Reg.PWR_CLK_CTL 5 false) 0 = false ∧
    runAt.bit Reg.PWR_CLK_STAT 0 = true ∧ State.reset.bit Reg.PWR_CLK_STAT 0 = false := by decide +kernel
theorem wit_ClocksAndVoltage_target : (State.reset.setBit (Reg.SBD_TGT_CFG 0) 8 true).bit (Reg.SBD_TGT_CFG 0) 8 = true ∧
    (State.reset.setBit (Reg.SBD_TGT_CFG 0) 8 false).bit (Reg.SBD_TGT_CFG 0) 8 = false := by decide +kernel

theorem wit_PlatformPower : State.reset.bit Reg.PWR_STAT 0 = false ∧ (State.reset.handle 5).state ≠ .service ∧
    Heard runAt (.agent 0) ∧ Heard runAt (.agent 1) ∧ Heard runAt (.agent 3) ∧ platformOn runAt = false ∧ powerFailing runAt = false := by decide +kernel
theorem wit_PlatformPower_fail : ∃ s : State, s.pwr.down = false ∧ s.bit Reg.PWR_STAT 0 = true ∧ s.evr.pfDone = false ∧ s.pwr.railsGone = false ∧
    powerFailing s = true :=
  ⟨runAt.setBit Reg.PWR_STAT 0 true, by decide +kernel⟩
theorem wit_PlatformPower_rails : ∃ s : State, s.pwr.down = false ∧ s.bit Reg.PWR_STAT 0 = true ∧ s.evr.pfDone = true ∧ s.pwr.railsGone = true :=
  ⟨{ runAt.setBit Reg.PWR_STAT 0 true with pwr := { runAt.pwr with railsGone := true }, evr := { runAt.evr with pfDone := true } }, by decide +kernel⟩
theorem wit_PlatformPower_on : ∃ s : State, Heard s (.agent 0) ∧ platformOn s = true ∧
    platformBusy s = false :=
  ⟨setPlatformOn runAt true, by decide +kernel⟩
theorem wit_PlatformPower_later : ∃ s : State, s.pwr.down = false ∧ reqReaches s (.agent 0) = false ∧ noAnswer s (.agent 0) = false ∧
    senderStands s (.agent 0) = true :=
  ⟨setDomState runAt 1 3, by decide +kernel⟩
theorem wit_PlatformPower_port : ∃ (d : DevOp) (e : Entry), ((runAt.setLine 2 { runAt.line 2 with dev := some d }).line 2).queue = [] ∧
    ((runAt.setLine 2 { runAt.line 2 with dev := some d }).line 2).dev = some d ∧ ((runAt.setLine 2 { runAt.line 2 with queue := [e] }).line 2).dev = none ∧
    ((runAt.setLine 2 { runAt.line 2 with queue := [e] }).line 2).queue = e :: [] :=
  ⟨⟨0, 0, 0, 0, 16, 0, false⟩, ⟨2, 0, 3, 0, 0, 3, 0, 0, [1, 2], 2, .polling, none, false, false⟩, by decide +kernel⟩

theorem wit_ResetsAndStarts : State.reset.pwr.down = false ∧ State.reset.retired = [] ∧ State.reset.stage2Ready = false ∧
    State.reset.ilk.reliefAbsent = false := by decide +kernel
theorem wit_ResetsAndStarts_fail : ∃ s : State, s.pwr.down = false ∧ s.bit Reg.PWR_STAT 0 = true ∧ s.bit Reg.TMP_STAT 5 = false ∧
    s.stage2Ready = true ∧ s.ilk.reliefAbsent = true ∧ s.retired = [] :=
  ⟨{ (runAt.setBit Reg.PWR_STAT 0 true) with stage2Ready := true, ilk := { runAt.ilk with reliefAbsent := true } }, by decide +kernel⟩
theorem wit_ResetsAndStarts_ok : ∃ s : State, s.pwr.down = false ∧ s.stage2Ready = false ∧ s.upd.fw.consist.isSome = true ∧ s.bit Reg.HLD_LOCK 0 = true ∧
    s.ilk.reliefAbsent = false :=
  ⟨(State.reset.setBit Reg.HLD_LOCK 0 true).mapFw (fun f => { f with consist := some 0 }), by decide +kernel⟩
theorem wit_ResetsAndStarts_down : ∃ s : State, s.pwr.down = true := ⟨powerLost .reset true, by decide +kernel⟩

/-- A DEVICE read of section 5 with destination `dest`, `left` bytes to go. -/
abbrev devReadAt (dest left : Nat) : State := runAt.setLine 5 { dev := some ⟨0, 0, dest, 0x1000, left, 0x01000000, false⟩ }
theorem wit_DeviceBurstsAndReports : lineLocked (devReadAt 0 64) = true ∧ devBlocked (devReadAt 0 64) 5 = false ∧
    laneHolds (devReadAt 0 64) 5 = false ∧ devBlocked (devReadAt 1 0) 5 = false := by decide +kernel
theorem wit_DeviceBurstsAndReports_line : ∃ s : State, s.pwr.down = false ∧ s.bit (Reg.HLD_LCFG 7) 8 = true ∧
    reportReady s 7 = false ∧ (components s).find? (fun e => e.reports.contains 7) = none ∧ compEntry s 3 = none :=
  ⟨runAt.setBit (Reg.HLD_LCFG 7) 8 true, by decide +kernel⟩
theorem wit_DeviceBurstsAndReports_late : (compEntry (compAt [] 3) 3).isSome = true ∧ compState (compAt [] 3) 3 = 3 ∧
    (compEntry (compAt [] 3) 3).map (fun e => e.reportMs) = some 50 := by decide +kernel
theorem wit_DeviceBurstsAndReports_trial :
    let r := rtbRec (compAt [0, 0, 0, 0, 0, 0, 4] 4) 3
    recTrial r = true ∧ trialPast (compAt [0, 0, 0, 0, 0, 0, 4] 4) r = true ∧ recTrial (rtbRec (compAt [] 4) 3) = false := by decide +kernel
theorem wit_DeviceBurstsAndReports_owner : ∃ l : Fin 96, ((components (compAt [] 3)).find? (fun e => e.reports.contains l.val)).isSome = true ∧
    ((compAt [] 3).setBit (Reg.HLD_LCFG l.val) 8 true).bit (Reg.HLD_LCFG l.val) 8 = true ∧
    reportReady ((compAt [] 3).setBit (Reg.HLD_LCFG l.val) 8 true) l.val = false := by decide +kernel
theorem wit_DeviceBurstsAndReports_write : devBlocked (devReadAt 2 16) 5 = false ∧ devBlocked (devReadAt 0 0) 5 = false ∧ laneHolds (devReadAt 0 0) 5 = false := by
  decide +kernel

theorem wit_UpdateRequests : Heard runAt (.agent 0) ∧ Heard runAt (.agent 2) ∧ mayUpdate runAt (.agent 0) = true ∧
    mayUpdate runAt (.agent 2) = false ∧ runAt.bit Reg.RTB_UPD_STAT 6 = false ∧ compEntry runAt 3 = none ∧ runAt.upd.push = none := by
  decide +kernel
theorem wit_UpdateRequests_comp : Heard (compAt [] 3) (.agent 0) ∧ (compEntry (compAt [] 3) 3).isSome = true ∧
    compState (compAt [] 3) 3 = 3 ∧ recActive (rtbRec (compAt [] 3) 3) = 0 ∧
    (restoreTarget (compAt [] 3) 3).isSome = true := by decide +kernel
theorem wit_UpdateRequests_open :
    let s := (compAt [] 3).setF Reg.RTB_UPD_STAT 10 0 (3 + 2 ^ 6)
    Heard s (.agent 0) ∧ updOpenAt (s) 3 0 = true := by decide +kernel
theorem wit_UpdateRequests_push : ∃ s : State, Heard s (.agent 0) ∧ s.upd.push = some ⟨.agent 0, 3, 0, 1, 100, 56, [], false⟩ :=
  ⟨{ (compAt [] 5) with upd := { (compAt [] 5).upd with push := some ⟨.agent 0, 3, 0, 1, 100, 56, [], false⟩ } }, by decide +kernel, rfl⟩
theorem wit_UpdateRequests_trial :
    let s : State := { (compAt [0, 0, 0, 0, 0, 0, 4, 0] 4) with upd := { (compAt [] 4).upd with opts := [(3, 1)] } }
    recTrial (rtbRec (s) 3) = true ∧ bitOf (updOpts (s) 3) 0 = true := by decide +kernel

theorem wit_LedgerRequests : Heard (ldgAt 0) (.agent 0) ∧ mayLedger (ldgAt 0) (.agent 0) = true ∧ mayLedger (ldgAt 0) (.agent 1) = false ∧
    Heard (ldgAt 0) (.agent 1) ∧ (ldgAt 0).att.importing = none ∧ (ldgAt 0).ledger.cap = 0 ∧ ldgState (ldgAt 2) = 2 ∧ ldgState (ldgAt 4) = 4 ∧
    ldgState (ldgAt 0) = 0 ∧ mayRecords (ldgAt 2) (.agent 0) 3 1 = true ∧ mayRecords (ldgAt 2) (.agent 1) 3 1 = false ∧
    ledgerRecord (ldgAt 2) 3 = none ∧ ldgPages (ldgAt 2) = 8 := by decide +kernel
theorem wit_LedgerRequests_page : ∃ s : State, ldgState s = 2 ∧ (ledgerRecord s 3).isSome = true ∧ epochNeeded s = true :=
  ⟨{ (ldgAt 2) with ledger := { (ldgAt 2).ledger with pages := [⟨0, [], true⟩] } }, by decide +kernel⟩
theorem wit_LedgerRequests_commit : ldgCommitting ((ldgAt 2).setBit Reg.LDG_STAT 4 true) = true := by decide +kernel

/-- The timetable has entry 3: records 0 to 15 of the device, a period of 60 s. -/
abbrev ttAt (p : Pass) : State :=
  let s := ldgAt 2
  { s with fix := { s.fix with tt := [(3, ⟨0, 16, 0, 0xFFFF, 1, 60⟩)], passes := [p] } }
theorem wit_FixityEvents : (ttEntry (ttAt { key := .entry 4, w0 := 0, owner := none, first := 0, count := 0, cur := 0, fed := [], startPcc := 0, startOt := 0 }) 3).isSome = true ∧
    (ttAt { key := .entry 4, w0 := 0, owner := none, first := 0, count := 0, cur := 0, fed := [], startPcc := 0, startOt := 0 }).pwr.down = false := by decide +kernel
theorem wit_FixityEvents_pass : ∃ s : State, s.pwr.down = false ∧ ∃ p, s.fix.passes.find? (fun p => p.key == .entry 3) = some p ∧
    p.over = true ∧ p.ending = false ∧ epochNeeded s = false ∧ ldgCommitting s = false :=
  ⟨ttAt { key := .entry 3, w0 := 0, owner := none, first := 0, count := 0, cur := 0, fed := [], startPcc := 0, startOt := 0 }, by decide +kernel, _, rfl, by decide +kernel⟩
theorem wit_FixityEvents_page : ∃ s : State, s.pwr.down = false ∧ ldgState s = 2 ∧ pageWanted s 2 = true ∧ pageAt s 2 = none ∧ 2 < ldgPages s :=
  ⟨{ (ldgAt 2) with ledger := { (ldgAt 2).ledger with waits := [⟨none, 0, false, 64⟩] } }, by decide +kernel⟩
theorem wit_FixityEvents_write : ∃ s : State, s.pwr.down = false ∧ ldgState s = 2 ∧ pageAt s 0 = some ⟨0, [], true⟩ ∧ epochNeeded s = true ∧
    s.fld Reg.LDG_CTL 31 16 ≠ 0 ∧ ldgCommitting s = false :=
  ⟨{ ((ldgAt 2).setF Reg.LDG_CTL 31 16 5) with ledger := { (ldgAt 2).ledger with pages := [⟨0, [], true⟩] } }, by decide +kernel⟩
theorem wit_FixityEvents_late : ∃ s : State, s.pwr.down = false ∧ ∃ e, ttEntry s 3 = some e ∧ s.bit (Reg.FIX_TT_STAT 3) 2 = true ∧
    s.bit (Reg.FIX_TT_STAT 3) 3 = false ∧ e.period ≤ (s.rd (Reg.FIX_TT_AGE 3)).toNat :=
  ⟨((ttAt { key := .entry 3, w0 := 0, owner := none, first := 0, count := 0, cur := 0, fed := [], startPcc := 0, startOt := 0 }).setBit (Reg.FIX_TT_STAT 3) 2 true).wr
    (Reg.FIX_TT_AGE 3) 61, by decide +kernel, _, rfl, by decide +kernel⟩

/-- The host link is up: PERST_N high, rate 1, width 4. -/
abbrev linkAt : State := runAt.setF Reg.HST_LINK 10 0 (1 + 4 * 2 ^ 3 + 2 ^ 9)
/-- The host link is up and HST_MODE is MEDIATED, VF Enable 1. -/
abbrev vfAt : State :=
  let t := linkAt.setF Reg.HST_MODE 1 0 1
  { t with host := { t.host with vfEnable := true, numVfs := 4, d3hot := [3], bme := [3] } }
theorem wit_HostLinkEvents_up : linkAt.pwr.down = false ∧ linkAt.bit Reg.HST_LINK 9 = true ∧ linkAt.bit Reg.HST_LINK 10 = false ∧
    hostMode linkAt ≠ 1 := by decide +kernel
theorem wit_HostLinkEvents_vf : vfAt.bit Reg.HST_LINK 9 = true ∧ hostMode vfAt = 1 ∧ vfAt.host.vfEnable = true ∧
    vfAt.host.d3hot.contains 3 = true := by decide +kernel
theorem wit_HostLinkEvents_down : (runAt.setBit Reg.HST_LINK 10 true).bit Reg.HST_LINK 10 = true ∧ runAt.bit Reg.HST_LINK 9 = false ∧
    (runAt.setBit Reg.HST_LINK 10 false).bit Reg.HST_LINK 10 = false ∧ domState (runAt.setBit Reg.HST_LINK 10 false) 23 = 0 ∧
    (16 : Nat) ∈ [1, 4, 8, 16] := by decide +kernel

theorem wit_InstanceRegisters : vinState State.reset 0 = 1 ∧ Writer .reset (.core 0) (Reg.VIN_CTL 0) ∧
    Writer .reset (.core 0) (Reg.VIN_SQ_TAIL 0) ∧ Writer .reset (.core 0) (Reg.VIN_CQ_HEAD 0) ∧ Writer .reset (.core 0) (Reg.VIN_CMD_TAIL 0) ∧
    Writer .reset (.core 0) (Reg.VIN_RSP_HEAD 0) ∧ Writer .reset (.core 0) Reg.VIN_0_DIRTY_DB ∧ Writer .reset (.core 0) (Reg.VIN_CTL 1024) ∧
    vinState State.reset 1024 = 0 := by decide +kernel
/-- Instance 0 is in state `st`. -/
abbrev pf0At (st : Nat) : State := linkAt.setF (Reg.VIN_STAT 0) 2 0 st
theorem wit_InstanceRegisters_states : vinState (pf0At 4) 0 = 4 ∧ Writer (pf0At 4) (.inst 0) (Reg.VIN_CTL 0) ∧ vinState (pf0At 2) 0 = 2 ∧
    (pf0At 2).bit (Reg.VIN_CTL 0) 1 = false ∧ (pf0At 2).bit (Reg.VIN_STAT 0) 7 = false := by decide +kernel
theorem wit_InstanceRegisters_doorbell : ringDiff ((pf0At 2).fld (Reg.VIN_SQ_TAIL 0) 15 0) ((pf0At 2).fld (Reg.VIN_SQ_HEAD 0) 15 0)
      ((pf0At 2).fld (Reg.VIN_RES 0) 12 8) = 0 ∧ 1 < 2 ^ (pf0At 2).fld (Reg.VIN_RES 0) 12 8 ∧
    ¬ 0xFFFF < 2 ^ (pf0At 2).fld (Reg.VIN_RES 0) 21 18 := by decide +kernel
theorem wit_InstanceRegisters_dirty : ∃ (s : State) (d : Dirty), Writer s (.inst 0) Reg.VIN_0_DIRTY_DB ∧ (s.inst 5).dirty = some d ∧ d.depth = 8 :=
  ⟨(pf0At 2).setInst 5 { dirty := some { depth := 8 } }, { depth := 8 }, by decide +kernel⟩

theorem wit_InstanceEvents_eval : ((pf0At 1).setBit (Reg.VIN_STAT 0) 7 true).bit (Reg.VIN_STAT 0) 7 = true ∧
    (pf0At 1).bit (Reg.VIN_STAT 0) 7 = false ∧ requested (pf0At 1) 0 &&& offered (pf0At 1) 0 = requested (pf0At 1) 0 ∧
    hostMode (pf0At 1) = 0 ∧ (pf0At 1).host.vfEnable = false ∧ requested (pf0At 1) 0 = 0 := by decide +kernel
theorem wit_InstanceEvents_evalBad : ∃ s : State, s.pwr.down = false ∧ s.bit (Reg.VIN_STAT 0) 7 = true ∧ requested s 0 = 0x30 :=
  ⟨((pf0At 1).setBit (Reg.VIN_STAT 0) 7 true).wr (Reg.HST_DRV_FEATURES 0) 0x30, by decide +kernel⟩
theorem wit_InstanceEvents_reset : drains (pf0At 4) 0 = false ∧ vinState (pf0At 4) 0 = 4 ∧ ((pf0At 4).inst 0).destroyNext = none ∧
    drains (pf0At 2) 0 = false ∧ vinState (pf0At 2) 0 = 2 ∧ vinState (pf0At 5) 0 = 5 ∧
    (((pf0At 4).setInst 0 { destroyNext := some 2 }).inst 0).destroyNext = some 2 := by decide +kernel
/-- Instance 0 is ACTIVE and its SQ and CMD rings hold an entry. -/
abbrev ringAt : State := ((pf0At 2).wr (Reg.VIN_SQ_TAIL 0) 1).wr (Reg.VIN_CMD_TAIL 0) 1
theorem wit_InstanceEvents_rings : dmaIssues ringAt 0 = true ∧ ringAt.bit Reg.PWR_STAT 0 = false ∧ ringHolds ringAt 0 0 = true ∧
    ringHolds ringAt 0 2 = true ∧ slotsUsed ringAt 0 < slotsOf ringAt 0 ∧ dmaFails ringAt 0 = false ∧ vinGen ringAt 0 = 0 ∧
    wbGen (List.replicate 64 0) = 0 ∧ wbGen (List.replicate 64 1) ≠ 0 := by decide +kernel
theorem wit_InstanceEvents_post : ∃ (s : State) (c : Nat × List Byte), s.pwr.down = false ∧ s.fix.done.find? (fun p => p.1 == 0) = some c ∧
    dmaIssues s 0 = true ∧ vinState s 0 = 2 ∧ dmaFails s 0 = false ∧ dirtyReady s 0 0 32 = true ∧
    1 % 2 ^ s.fld (Reg.VIN_RES 0) 17 13 ≠ 0 % 2 ^ s.fld (Reg.VIN_RES 0) 17 13 :=
  ⟨{ ringAt with fix := { ringAt.fix with done := [(0, [1, 2])] } }, (0, [1, 2]), by decide +kernel⟩
theorem wit_InstanceEvents_fails : ∃ s : State, s.pwr.down = false ∧ dmaFails s 3 = true ∧ (s.engine 33).item = some itemAt ∧
    (s.inst 3).unsig 0 ≠ 0 :=
  ⟨((engineWith { item := some itemAt }).setF Reg.HST_MODE 1 0 2).setInst 3 { unsigCq := 1 }, by decide +kernel⟩

theorem wit_InstanceRequests : Heard (pf0At 2) (.inst 0) ∧ Heard (pf0At 2) (.agent 0) ∧ Heard (pf0At 2) (.agent 1) ∧
    hostMode (behalf (pf0At 2) (.inst 0)) = 0 ∧ vinState (behalf (pf0At 2) (.inst 0)) 0 = 2 ∧ slotsUsed (behalf (pf0At 2) (.inst 0)) 0 = 0 ∧
    ((behalf (pf0At 2) (.inst 0)).inst 0).dirty = none ∧ hasFeature (behalf (pf0At 2) (.inst 0)) 0 6 = false := by decide +kernel
/-- MEDIATED with VF Enable, instance 3 in state `st` and with `x`; instance 0 has the dirty feature. -/
abbrev poolAt (st : Nat) (x : Inst) : State :=
  ((((vfAt.setF (Reg.VIN_STAT 0) 2 0 2).setBit (Reg.VIN_CTL 0) 1 true).wr (Reg.HST_DRV_FEATURES 0) 0x40).setF (Reg.VIN_STAT 3) 2 0 st).setInst 3 x
theorem wit_InstanceRequests_pool : Heard (poolAt 5 {}) (.inst 0) ∧ hostMode (behalf (poolAt 5 {}) (.inst 0)) = 1 ∧ vinState (behalf (poolAt 5 {}) (.inst 0)) 3 = 5 ∧
    vinState (behalf (poolAt 3 {}) (.inst 0)) 3 = 3 ∧ vinState (behalf (poolAt 0 {}) (.inst 0)) 3 = 0 ∧ ((behalf (poolAt 5 {}) (.inst 0)).inst 3).create = none := by
  decide +kernel
theorem wit_InstanceRequests_create : ((behalf (poolAt 5 { create := some (none, 0, []) }) (.inst 0)).inst 3).create.isSome = true ∧
    Heard (poolAt 5 { create := some (none, 0, []) }) (.inst 0) := by decide +kernel
theorem wit_InstanceRequests_dirty : Heard (poolAt 2 { dirty := some { depth := 8 } }) (.inst 0) ∧
    ((behalf (poolAt 2 { dirty := some { depth := 8 } }) (.inst 0)).inst 3).dirty.isSome = true ∧
    hasFeature (behalf (poolAt 2 {}) (.inst 0)) 0 6 = true ∧ freeWindows (behalf (poolAt 2 {}) (.inst 0)) ≠ 0 ∧
    ((behalf (poolAt 2 {}) (.inst 0)).inst 3).dirty = none := by decide +kernel
theorem wit_InstanceRequests_busy : ∃ s : State, Heard s (.inst 0) ∧ vinState (behalf s (.inst 0)) 0 = 2 ∧ slotsUsed (behalf s (.inst 0)) 0 ≠ 0 :=
  ⟨{ pf0At 2 with fix := { (pf0At 2).fix with done := [(0, [])] } }, by decide +kernel⟩

theorem wit_MctpAndPeers : domState runAt 1 = 0 ∧ runAt.pwr.down = false ∧ domState linkAt 1 = 0 ∧ linkAt.bit Reg.HST_LINK 9 = true ∧
    runAt.att.asm.find? (fun x => x.transport == 2 && x.eid == 9) = none ∧ refreshOf runAt 3 = none := by decide +kernel
theorem wit_MctpAndPeers_packet : ∃ (s : State) (x : Assembly), s.pwr.down = false ∧ domState s 1 = 0 ∧
    s.att.asm.find? (fun x => x.transport == 2 && x.eid == 9) = some x ∧ x.tag = 1 ∧ x.seq = 2 ∧ x.bytes.length = 16 :=
  ⟨{ runAt with att := { runAt.att with asm := [⟨2, 9, 1, 2, List.replicate 16 0⟩] } }, ⟨2, 9, 1, 2, List.replicate 16 0⟩, by decide +kernel⟩
/-- Peer 3, listed as `en`, is at step `k` of a refresh. -/
abbrev peerAt (k : Nat) (en : List Byte) : State :=
  { runAt with att := { runAt.att with ds := [(3, en)], refresh := [({ peer := 3, step := k, retries := 2, q := none } : Refresh)] } }
theorem wit_MctpAndPeers_peer : ∃ r, refreshOf (peerAt 2 [2]) 3 = some r ∧ domState (peerAt 2 [2]) 1 = 0 ∧ r.step = 2 ∧
    dsEntry (peerAt 2 [2]) 3 = some [2] ∧ leAt ([0, 0x7F] : List Byte) 1 1 = 0x7F ∧ (refreshOf (peerAt 3 [2]) 3).map (fun r => r.step) = some 3 ∧
    (refreshOf (peerAt 1 [2]) 3).map (fun r => r.step) = some 1 :=
  ⟨{ peer := 3, step := 2, retries := 2, q := none }, by decide +kernel⟩

/-- Transport 2 has an endpoint ID, and requester 9 there a context with the algorithms `algs` negotiated. -/
abbrev askedAt (algs : Option Bool) (ok : Bool) : State :=
  let t := runAt.setBit Reg.ATT_STAT 10 ok
  { t with att := { t.att with eids := [(2, 8)], ctxs := [{ transport := 2, eid := 9, version := true, caps := true, algs := algs }] } }
/-- With a session of that requester, and a response prepared. -/
abbrev sessionAt (up : Bool) : State :=
  let t := askedAt (some true) true
  { t with att := { t.att with sessions := [⟨7, 2, 9, up, false, 0, 0x12, []⟩] } }
theorem wit_SpdmRequests : Asked (askedAt (some true) true) 2 9 none ∧ (ctxOf (askedAt (some true) true) 2 9).isSome = true ∧
    identity (noted (askedAt (some true) true) 2 9) = true ∧
    (noted (askedAt (some true) true) 2 9).att.sessions.length < 2 ∧
    ctxOf (askedAt none false) 2 10 = none ∧ identity (noted (askedAt none false) 2 9) = false ∧
    (askedAt none false).att.importing = none := by decide +kernel
theorem wit_SpdmRequests_algs : (ctxOf (askedAt none false) 2 9).map AttCtx.algs = some none ∧
    (ctxOf (askedAt (some false) false) 2 9).map AttCtx.algs = some (some false) ∧
    (ctxOf (askedAt (some true) true) 2 9).map AttCtx.caps = some true ∧
    measBlocks (askedAt none false) 1 ≠ [] ∧ measBlocks (askedAt none false) 99 = [] := by decide +kernel
theorem wit_SpdmRequests_session : Asked (sessionAt true) 2 9 (some 7) ∧ (sessionOf (sessionAt true) 7).map (fun x => x.established) = some true ∧
    (sessionOf (sessionAt false) 7).map (fun x => x.established) = some false ∧ sessionOf (sessionAt true) 8 = none := by decide +kernel
theorem wit_SpdmRequests_lengths : ([0x13, 0x81, 0] : List Byte).length < 4 ∧ (List.replicate 9 (0 : Byte)).length ≠ 4 ∧
    (List.replicate 12 (0 : Byte)).length = 12 ∧ leAt ([0x13, 0xE3, 0, 0, 6, 0] : List Byte) 4 2 = 6 ∧ leAt (List.replicate 138 (0 : Byte)) 136 2 = 0 := by decide
theorem wit_SpdmRequests_prepared : ∃ (s : State) (c : AttCtx), Asked s 2 9 none ∧ ctxOf s 2 9 = some c ∧ c.prepared = some (0x7E, []) ∧ s.att.importing = none :=
  ⟨mapCtx (askedAt none false) 2 9 (fun c => { c with prepared := some (0x7E, []) }), { transport := 2, eid := 9, version := true, caps := true, algs := none, prepared := some (0x7E, []) }, by decide +kernel⟩
theorem wit_SpdmRequests_importing : ∃ s : State, Asked s 2 9 none ∧ s.att.importing.isSome = true ∧ s.att.exporting.any (fun x => x.1 == 2 && x.2.1 == 9) = true :=
  ⟨{ askedAt none false with att := { (askedAt none false).att with importing := some (2, 9, 1), exporting := some (2, 9, 0) } }, by decide +kernel⟩
theorem wit_SpdmRequests_away : runAt.pwr.down = false ∧ transportUp runAt 2 = false := by decide +kernel
theorem wit_SpdmRequests_gone : ((some 8 : Option Nat).any (fun i => (sessionOf (sessionAt true) i).isNone)) = true ∧ transportUp (sessionAt true) 2 = true := by decide +kernel
theorem wit_SpdmRequests_point : (ecDecode (ecEncode pG)).isSome = true ∧ ecDecode (4 :: List.replicate 96 0) = none := by decide +kernel

/-- A vendor message whose payload has `n` bytes, all `b`. -/
abbrev vendorMsg (n : Nat) (b : Byte) : List Byte := List.replicate 9 0 ++ leBytes 2 n ++ List.replicate n b
theorem wit_VendorOperations : 4 ≤ (vendorMsg 8 0).length ∧ leAt (vendorMsg 38 0) 9 2 = ((vendorMsg 38 0).drop 11).length ∧
    leAt (vendorMsg 4 0) 9 2 = 4 ∧ leAt (vendorMsg 10 0) 9 2 = ((vendorMsg 10 0).drop 11).length ∧ leAt (vendorMsg 10 0) 19 2 = 0 ∧
    ((vendorMsg 12 1).drop 11).length ≠ 10 ∧ leAt ((vendorMsg 10 0).drop 11) 2 2 = 0 := by decide +kernel
/-- PF0 asks over VDM, which has an endpoint ID; no feature is negotiated. -/
abbrev vdmAt : State := { linkAt with att := { linkAt.att with eids := [(1, 8)], ctxs := [{ transport := 1, eid := 9 }] } }
theorem wit_VendorOperations_feature : Asked vdmAt 1 9 none ∧ (ctxOf vdmAt 1 9).isSome = true ∧
    hasFeature (vdmAt.inc Reg.ATT_CNT_RX) 0 8 = false ∧ hasFeature (vdmAt.inc Reg.ATT_CNT_RX) 0 9 = false := by decide +kernel
/-- As `askedAt`, with buffer 1 of the requester. -/
abbrev objectAt : State := { askedAt (some true) true with att := { (askedAt (some true) true).att with objs := [⟨1, 2, 9, true, [5]⟩] } }
theorem wit_VendorOperations_objects : Asked objectAt 2 9 none ∧ (objectOf (noted objectAt 2 9) 2 9 1).isSome = true ∧
    (noted objectAt 2 9).att.objs.length < 4 ∧ objectOf (noted objectAt 2 9) 2 9 2 = none ∧
    bodyOf (noted objectAt 2 9) (.entry 0) = none ∧ objectAt.att.importing = none ∧
    (ctxOf objectAt 2 9).isSome = true ∧ leAt ([0, 0, 1, 0] : List Byte) 2 2 = 1 ∧ leAt ([0, 0, 2, 0] : List Byte) 2 2 = 2 := by decide +kernel
theorem wit_VendorOperations_full : ∃ s : State, Asked s 2 9 none ∧ s.att.objs.length = 4 ∧ (objectOf s 2 9 1).isSome = true ∧
    s.att.importing = none ∧ (ctxOf s 2 9).isSome = true :=
  ⟨{ objectAt with att := { objectAt.att with objs := [1, 2, 3, 4].map (fun h => ⟨h, 2, 9, true, [5]⟩) } }, by decide +kernel⟩
theorem wit_VendorOperations_far : ∃ s : State, Asked s 3 9 none ∧ (ctxOf s 3 9).isSome = true ∧ s.att.importing.isSome = true :=
  ⟨{ runAt with att := { runAt.att with eids := [(3, 8)], ctxs := [{ transport := 3, eid := 9 }], importing := some (3, 9, 1) } }, by decide +kernel⟩
theorem wit_VendorOperations_report : ∃ (s : State) (b : List Byte), Asked s 2 9 none ∧ bodyOf s (.entry 0) = some b :=
  ⟨{ askedAt none true with fix := { (askedAt none true).fix with bodies := [(.entry 0, [7])] } }, [7], by decide +kernel⟩
theorem wit_VendorOperations_peers : Heard linkAt (.agent 0) ∧ ¬ ((Sender.agent 1 : Sender) = .inst 0 ∨ (Sender.agent 1 : Sender) = .agent 0) ∧
    dsEnabled (behalf linkAt (.agent 0)) 3 = false ∧ Heard linkAt (.agent 1) := by decide +kernel
/-- Peer 3 is listed, enabled, with a period. -/
abbrev dsAt : State := { runAt with att := { runAt.att with ds := [(3, [2, 0, 0, 0xFF, 1, 0, 0, 0, 60, 0, 0, 0])] } }
theorem wit_VendorOperations_refresh : dsEnabled (behalf dsAt (.agent 0)) 3 = true ∧ refreshOf (behalf dsAt (.agent 0)) 3 = none ∧
    domState dsAt 1 = 0 ∧ (dsEntry dsAt 3).any (fun b => leAt b 8 4 != 0) = true ∧ Heard dsAt (.agent 0) := by decide +kernel
theorem wit_VendorOperations_busy : ∃ s : State, Heard s (.agent 0) ∧ dsEnabled (behalf s (.agent 0)) 3 = true ∧
    (refreshOf (behalf s (.agent 0)) 3).isSome = true :=
  ⟨{ dsAt with att := { dsAt.att with refresh := [({ peer := 3, step := 1, retries := 0, q := none } : Refresh)] } }, by decide +kernel⟩
theorem wit_VendorOperations_gone : transportUp objectAt 2 = true ∧ transportUp runAt 2 = false ∧
    ((some 8 : Option Word).any (fun i => (sessionOf objectAt i.toNat).isNone)) = true := by decide +kernel

/-- Channel 5 is bound from the signal box to agent 0 (or, `back`, the other way), its CTL and STAT as given. -/
abbrev mbxAt (back : Bool) (ctl stat : Word) : State :=
  ((runAt.wr (Reg.MBX_BIND 5) (BitVec.ofNat 32 (if back then 0x28 + 0x3F * 2 ^ 6 + 2 ^ 12 else 0x3F + 0x28 * 2 ^ 6 + 2 ^ 12))).wr (Reg.MBX_CTL 5) ctl).wr (Reg.MBX_STAT 5) stat
theorem wit_Mailboxes_send : Mailing (mbxAt false 0 0) (.core 0) .store (Reg.MBX_DATA 5 0) ∧ Mailing (mbxAt false 0 0) (.core 0) .store (Reg.MBX_CTL 5) ∧
    mbxEn (mbxAt false 0 0) 5 = true ∧ mbxIdentity (mbxAt false 0 0) (.core 0) = some (mbxSender (mbxAt false 0 0) 5) ∧
    mbxGo (mbxAt false 0 0) 5 = false ∧ mbxGo (mbxAt false 1 0) 5 = true ∧ (mbxAt false 0 0).mbx.down = [] ∧
    Mailing (mbxAt false 0 0) (.agent 0) .store (Reg.MBX_DATA 5 15) ∧
    mbxIdentity (mbxAt false 0 0) (.agent 0) ≠ some (mbxSender (mbxAt false 0 0) 5) := by decide +kernel
theorem wit_Mailboxes_whole : ((mbxAt false 0 0).wr (Reg.MBX_WMASK 5) 1).fld (Reg.MBX_WMASK 5) 15 0 % 2 ^ 1 = 2 ^ 1 - 1 ∧
    ¬ (mbxAt false 0 0).fld (Reg.MBX_WMASK 5) 15 0 % 2 ^ 16 = 2 ^ 16 - 1 := by decide +kernel
theorem wit_Mailboxes_shut : ∃ s : State, Mailing s (.core 0) .store (Reg.MBX_CTL 5) ∧ s.mbx.down.contains (mbxSender s 5) = true ∧
    mbxEn s 5 = true ∧ mbxIdentity s (.core 0) = some (mbxSender s 5) ∧ mbxGo s 5 = false ∧ s.bit (Reg.MBX_STAT 5) 5 = false :=
  ⟨{ mbxAt false 0 0 with mbx := { (mbxAt false 0 0).mbx with down := [0x3F] } }, by decide +kernel⟩
theorem wit_Mailboxes_take : Mailing (mbxAt true 1 0) (.core 0) .load (Reg.MBX_CTL 5) ∧ Mailing (mbxAt true 1 0) (.core 0) .store (Reg.MBX_DONE 5) ∧
    mbxEn (mbxAt true 1 0) 5 = true ∧ mbxIdentity (mbxAt true 1 0) (.core 0) = some (mbxReceiver (mbxAt true 1 0) 5) ∧
    mbxGo (mbxAt true 1 0) 5 = true ∧ (mbxAt true 1 0).bit (Reg.MBX_STAT 5) 0 = false ∧ mbxGo (mbxAt true 0 0) 5 = false ∧
    mbxIdentity (mbxAt true 1 0) (.core 1) = none := by decide +kernel
theorem wit_Mailboxes_agent : Mailing runAt (.agent 0) .store (Reg.MBX_AGT_RESET 0) ∧ Mailing runAt (.agent 1) .store (Reg.MBX_AGT_RESET 0) := by
  decide +kernel
theorem wit_Mailboxes_stall :
    let s := ((mbxAt false 1 0).wr (Reg.MBX_BIND 6) (BitVec.ofNat 32 (0x28 + 0x3F * 2 ^ 6 + 2 ^ 12))).wr (Reg.MBX_CTL 6) 1
    (mbxReverse s 5).find? (fun m => mbxGo s m && !s.bit (Reg.MBX_STAT m) 0) = some 6 ∧ mbxGo s 5 = true ∧
      s.bit (Reg.MBX_STAT 5) 0 = false ∧ s.bit (Reg.MBX_STAT 5) 4 = false := by decide +kernel
theorem wit_Mailboxes_knock : (runAt.setBit (Reg.SBD_TGT_CFG 0) 8 true).bit (Reg.SBD_TGT_CFG 0) 8 = true ∧
    (runAt.setBit (Reg.SBD_TGT_CFG 0) 8 false).bit (Reg.SBD_TGT_CFG 0) 8 = false ∧ 31 < 33 := by decide +kernel

theorem wit_TamperEvents_on : detectorOn (runAt.setBit Reg.TMP_ACTIVE 0 true) 0 0 = true ∧ fused runAt 0 = false ∧
    (tickTo runAt 5).tmp.ticked.any (fun p => p.1 == 0 && p.2 == 5) = false ∧ forcedNow runAt = true ∧
    detectorOn runAt 5 0 = false := by decide +kernel
theorem wit_TamperEvents_unforced : ∃ s : State, s.pwr.down = false ∧ detectorOn s 0 0 = true ∧ forcedNow s = false ∧ getBits (s.rd (Reg.TMP_SRC_CFG 0)) 3 0 = 3 :=
  ⟨({ runAt with stage2Ready := true } : State).setF Reg.LCS_STATE 3 0 2 |>.wr (Reg.TMP_SRC_CFG 0) 3, by decide +kernel⟩
theorem wit_TamperEvents_again : ∃ s : State, s.pwr.down = false ∧ detectorOn s 0 0 = true ∧ vbatTick s = 5 ∧
    (tickTo s 5).tmp.ticked.any (fun p => p.1 == 0 && p.2 == 5) = true :=
  ⟨{ tickTo runAt 5 with tmp := { (tickTo runAt 5).tmp with ticked := [(0, 5)] } }, by decide +kernel⟩
theorem wit_TamperEvents_target : ∃ s : State, s.pwr.down = false ∧ s.tmp.target = some 3 ∧ s.tmp.canary = true ∧ Writer s (.core 0) Reg.TMP_CTL ∧
    s.bit Reg.TMP_STAT 5 = true :=
  ⟨({ runAt with tmp := { runAt.tmp with target := some 3, canary := true } } : State).setBit Reg.TMP_STAT 5 true, by decide +kernel⟩
theorem wit_TamperEvents_backup : ∃ s : State, s.pwr.down = true ∧ s.tmp.cell = true :=
  ⟨{ runAt with pwr := { runAt.pwr with down := true }, tmp := { runAt.tmp with cell := true } }, rfl, rfl⟩
/-- PF0's ticket 7 in slot 1, with every scope and source; lockdown as `locked` says. -/
abbrev ticketAtW (locked : Bool) : State :=
  (setTicket (pf0At 2) 1 (some ⟨0, 2, 0, 0, 0x3FFF, []⟩) 7 0x3F Origin.pf0.code).setBit Reg.TMP_STAT 0 locked
theorem wit_TamperEvents_requests : Heard (ticketAtW true) (.inst 0) ∧ validTicket (ticketAtW true) (.inst 0) 7 0 = some 1 ∧
    validTicket (ticketAtW true) (.inst 0) 7 3 = some 1 ∧ validTicket (ticketAtW true) (.inst 0) 7 4 = some 1 ∧
    validTicket (ticketAtW true) (.inst 0) 8 0 = none ∧ Heard (ticketAtW true) (.agent 1) := by decide +kernel
theorem wit_TamperEvents_cases : lockedDown (ticketAtW true) = true ∧ lockedDown (ticketAtW false) = false ∧
    (ticketAtW true).tmp.unlock = none ∧ (ticketAtW true).bit Reg.TMP_STAT 5 = false ∧
    bitOf (((ticketAt (ticketAtW true) 1).map Ticket.sources).getD 0) 13 = true ∧
    (ticketAtW true).bit Reg.TMP_FUSED 13 = false ∧ lcState (ticketAtW true) = 0 := by decide +kernel
theorem wit_TamperEvents_state : ∃ s : State, Heard s (.inst 0) ∧ validTicket s (.inst 0) 7 4 = some 1 ∧ s.bit Reg.TMP_FUSED 13 = false ∧
    lcState s = 1 ∧ bitOf (((ticketAt s 1).map Ticket.sources).getD 0) 13 = true :=
  ⟨(ticketAtW false).setF Reg.LCS_STATE 3 0 1, by decide +kernel⟩

theorem wit_RecorderCommands : runAt.evr.nvmFault = false ∧ runAt.evr.suspended = false ∧ runAt.evr.writing = false ∧ runAt.pwr.down = false := by
  decide +kernel
/-- One unflushed record, the flush in progress, the writer stopped as `fault` says. -/
abbrev flushAt (fault : Bool) : State :=
  let t := runAt.log Ev.KNOCK .power 0 []
  { t with evr := { t.evr with writing := true, nvmFault := fault } }
theorem wit_RecorderCommands_flush : (flushAt false).evr.writing = true ∧ (flushAt false).evr.suspended = false ∧
    (flushAt false).evr.nvmFault = false ∧ (flushAt false).evr.dirty ≠ [] ∧ (flushAt true).evr.nvmFault = true ∧ (flushAt true).evr.dirty ≠ [] := by
  decide +kernel
theorem wit_RecorderCommands_empty : ∃ s : State, s.pwr.down = false ∧ s.evr.writing = true ∧ s.evr.suspended = false ∧ s.evr.nvmFault = false ∧ s.evr.dirty = [] :=
  ⟨{ runAt with evr := { runAt.evr with writing := true, ram := [] } }, by decide +kernel⟩
theorem wit_RecorderCommands_cursor : Writer runAt (.core 0) Reg.EVR_CURSOR ∧ Mailing linkAt (.inst 0) .store Reg.VIN_0_EVR_CURSOR ∧
    Mailing runAt (.agent 0) .store 0x20060200 ∧ Mailing runAt (.agent 1) .store 0x20060200 ∧ hasFeature linkAt 0 11 = false := by decide +kernel
theorem wit_RecorderCommands_feature : ∃ s : State, Mailing s (.inst 0) .store Reg.VIN_0_EVR_CURSOR ∧ hasFeature s 0 11 = true :=
  ⟨(linkAt.setBit (Reg.VIN_CTL 0) 1 true).wr (Reg.HST_DRV_FEATURES 0) 0x800, by decide +kernel⟩
theorem wit_RecorderCommands_correlate : Heard linkAt (.agent 0) ∧ Heard (pf0At 2) (.inst 0) ∧ Heard linkAt (.agent 2) ∧
    (behalf linkAt (.agent 0)).evr.corrRecent = [] := by decide +kernel
theorem wit_RecorderCommands_soon : ∃ s : State, Heard s (.agent 0) ∧ (behalf s (.agent 0)).evr.corrRecent.any (fun p =>
    p.1 == (Sender.agent 0).origin.code && p.2.1 == (behalf s (.agent 0)).pcc && decide ((behalf s (.agent 0)).ot < p.2.2 + 1024)) = true :=
  ⟨{ linkAt with evr := { linkAt.evr with corrRecent := [((Sender.agent 0).origin.code, linkAt.pcc, linkAt.ot)] } }, by decide +kernel⟩
theorem wit_RecorderCommands_other : ∃ s : State, Heard s (.inst 5) ∧ (5 : Fin 1025) ≠ 0 :=
  ⟨linkAt.setF (Reg.VIN_STAT 5) 2 0 2, by decide +kernel⟩

theorem wit_LifeCycleRequests_slot : ∃ s : State, Heard s (.inst 0) ∧ validTicket s (.inst 0) 7 2 = some 1 ∧
    validTicket s (.inst 0) 7 5 = some 1 ∧ ticketAt s 1 = none :=
  ⟨((pf0At 2).wr (Reg.LCS_TICKET 1) 7).wr (Reg.LCS_TICKET_INFO 1) (BitVec.ofNat 32 (0x103F + Origin.pf0.code * 2 ^ 6)), by decide +kernel⟩
theorem wit_LifeCycleRequests : Heard (pf0At 2) (.inst 0) ∧ Heard (pf0At 2) (.agent 1) ∧ Heard (pf0At 2) (.agent 2) ∧ Heard (pf0At 2) (.agent 0) ∧
    (pf0At 2).lcs.buf = [] ∧ validTicket (pf0At 2) (.agent 0) 7 2 = none := by decide +kernel
/-- The life cycle is in state `st`, the entropy source works as `rng` says, PF0 holds a ticket for target `target`. -/
abbrev lifeAt (st target : Nat) (rng : Bool) : State :=
  ((setTicket (pf0At 2) 1 (some ⟨1, 2, target, 2, 0, []⟩) 7 0x3F Origin.pf0.code).setF Reg.LCS_STATE 3 0 st).setBit Reg.SIG_STAT 11 rng
theorem wit_LifeCycleRequests_open : Heard (lifeAt 1 4 true) (.inst 0) ∧ (lifeAt 1 4 true).fld Reg.LCS_STATE 3 0 = 1 ∧
    (lifeAt 1 4 true).bit Reg.SIG_STAT 11 = true ∧ (lifeAt 2 4 false).bit Reg.SIG_STAT 11 = false ∧
    (lifeAt 2 4 false).fld Reg.LCS_STATE 3 0 = 2 ∧ (lifeAt 1 4 true).bit Reg.LCS_OTP_KEYS 3 = false := by decide +kernel
theorem wit_LifeCycleRequests_ticket :
    let b := lifeAt 1 4 true
    validTicket b (.inst 0) 7 2 = some 1 ∧ validTicket b (.inst 0) 7 5 = some 1 ∧ validTicket b (.inst 0) 7 1 = some 1 ∧
      ticketAt b 1 = some ⟨1, 2, 4, 2, 0, []⟩ ∧ transitAllowed b 4 = true ∧ transitAllowed b 3 = false := by
  decide +kernel
theorem wit_LifeCycleRequests_erase : (lifeAt 2 3 true).fld Reg.LCS_STATE 3 0 = 2 ∧
    lockedDown (lifeAt 2 3 true) = false ∧ Heard (lifeAt 2 3 true) (.inst 0) ∧ validTicket (lifeAt 2 3 true) (.inst 0) 7 5 = some 1 ∧
    (lifeAt 3 3 true).fld Reg.LCS_STATE 3 0 = 3 ∧ Heard (lifeAt 3 3 true) (.inst 0) := by decide +kernel
theorem wit_LifeCycleRequests_signer : ∃ s : State, Heard s (.inst 0) ∧ validTicket s (.inst 0) 7 5 = some 1 ∧
    (ticketAt s 1).map Ticket.signer = some 0 ∧ s.bit Reg.LCS_OTP_KEYS 3 = true ∧ s.fld Reg.LCS_STATE 3 0 = 1 :=
  ⟨((setTicket (pf0At 2) 1 (some ⟨0, 2, 2, 2, 0, []⟩) 7 0x3F Origin.pf0.code).setBit Reg.LCS_OTP_KEYS 3 true).setF Reg.LCS_STATE 3 0 1, by decide +kernel⟩

theorem wit_MemoryTestsAndDebug_closed : Writer (runAt.setF Reg.LCS_STATE 3 0 2) (.core 0) Reg.MTM_CTL ∧
    (runAt.setF Reg.LCS_STATE 3 0 2).fld Reg.LCS_STATE 3 0 = 2 ∧ (runAt.setF Reg.LCS_STATE 3 0 0).fld Reg.LCS_STATE 3 0 = 0 ∧
    Writer (runAt.setF Reg.LCS_STATE 3 0 0) (.core 0) Reg.MTM_CTL ∧ (runAt.setF Reg.LCS_STATE 3 0 0).lcs.mtmKey = false := by decide +kernel
theorem wit_MemoryTestsAndDebug_key : ∃ s : State, Writer s (.core 0) Reg.MTM_CTL ∧ s.fld Reg.LCS_STATE 3 0 = 0 ∧ s.lcs.mtmKey = true :=
  ⟨let t := runAt.setF Reg.LCS_STATE 3 0 0; { t with lcs := { t.lcs with mtmKey := true } }, by decide +kernel⟩
theorem wit_MemoryTestsAndDebug_test : ∃ s : State, s.pwr.down = false ∧ s.lcs.mtm = some (0, 16) ∧ (mtmTarget 16 0).isSome = true :=
  ⟨{ runAt with lcs := { runAt.lcs with mtm := some (0, 16) } }, by decide +kernel⟩
theorem wit_MemoryTestsAndDebug_none : runAt.lcs.mtm = none ∧ runAt.pwr.down = false := by decide +kernel
theorem wit_MemoryTestsAndDebug_level : (runAt.setF Reg.LCS_STATE 9 8 3).fld Reg.LCS_STATE 9 8 = 3 ∧ (runAt.setF Reg.LCS_STATE 9 8 1).fld Reg.LCS_STATE 9 8 ≠ 3 ∧
    isHalted (runAt.setF Reg.LCS_STATE 9 8 3) (.core 0) = false ∧
    isHalted ((runAt.setF Reg.LCS_STATE 9 8 3).setLine 5 { halted := true }) (.line 5) = true := by decide +kernel

end Sys2Proof.Tests
end

