-- ==== Sys2Proof/WellFormed.lean ====
section
/-! DEFINITION. Commands whose operands have the form that their rules give them. -/

namespace Sys2Proof

/-- The numbers of a configuration request lie in its registers' ranges (R276, R293, R298). -/
def CfgReq.wf : CfgReq → Bool
  | .vfs _ num => decide (num < 65536)
  | .busMaster fn _ => decide (fn < 256)
  | .pasid _ => true
  | .power fn _ => decide (fn < 256)
  | .msix fn entry addr data _ => decide (fn < 256 ∧ entry < 2048 ∧ addr < 2 ^ 64 ∧ data < 2 ^ 32)
  | .doe declared written => decide (declared ≤ 2 ^ 18 ∧ written ≤ 2 ^ 18)

/-- A locator entry of 16 bytes (R261). -/
def Feed.wf (f : Feed) : Bool := decide (f.addr < 2 ^ 64 ∧ f.count < 2 ^ 32)

/-- EXTR reads bits inside its register (R34); its field counts the length less 1. -/
def extrOk (pos lenM1 : BitVec 6) : Bool := decide (pos.toNat + lenM1.toNat < 64)

/-- Whether a command's operands have their form. A command that fails this is no input of the block; its meaning still
answers.
DESIGN CHOICE (log entry 75). -/
def Instr.wf : Instr → Bool
  | .extr _ _ _ pos lenM1 => extrOk pos lenM1
  | .tagResult _ _ page => page.length == 4096
  | .gangerPageDone _ page _ => page.length == 4096
  | .reportChange _ _ samples => decide (0 < samples)
  | .ttPassStart _ feeds => feeds.all (fun f => f.2.wf)
  | .auditRange _ _ _ _ _ feeds => feeds.all (fun f => f.2.wf)
  | .linkUp rate width _ => rate != 0 && [1, 4, 8, 16].contains width.val
  | .detectorEvent x det _ _ extra => extra.length == if x.val = 14 ∧ det.val = 0 then 12 else 0
  | .correlate _ _ _ _ label => label.length == 16
  | .lcsData _ _ _ data => data.length == 56
  | .ownerKeySet _ _ _ _ hash => hash.length == 48
  | .sleepPrepareDone d _ => d != 0
  | .sleepCommitDone d => d != 0
  | .domainRun d => d != 0
  | .securedMessage _ _ _ declared _ => decide (declared < 65536)
  | .streamTransferDone _ k _ _ => decide (k < 8)
  | .configurationRequest r => r.wf
  | _ => true

end Sys2Proof
end

section
/-! Control flow, exceptions and state registers of the Wemon processors (R29, R30, R32, R34, R39, R41): where branches and
jumps go, what an exception or interrupt of a core saves, and which state register numbers raise ILLEGAL. -/

namespace Sys2Proof.Machine

/-! ### Branches and jumps -/

theorem ltS_iff (a b : Dword) : ltS a b = true ↔ a.toInt < b.toInt := BitVec.slt_iff_toInt_lt

theorem not_ltS_iff (a b : Dword) : (!ltS a b) = true ↔ b.toInt ≤ a.toInt := by
  rw [Bool.not_eq_true', ← Bool.not_eq_true, ltS_iff, Int.not_lt]

theorem ltU_iff (a b : Dword) : ltU a b = true ↔ a.toNat < b.toNat := BitVec.ult_iff_lt

theorem not_ltU_iff (a b : Dword) : (!ltU a b) = true ↔ b.toNat ≤ a.toNat := by
  rw [Bool.not_eq_true', ← Bool.not_eq_true, ltU_iff, Nat.not_lt]

/-- A branch only sets the pc. -/
theorem opBranch_eq_setPc (f : Dword → Dword → Bool) (p : Proc) (ra rb : RegNo) (off : BitVec 16) (s : State) :
    opBranch f p ra rb off s =
      setPc s p (if f (greg s p ra) (greg s p rb) then branchTo (pcOf s p) off else pcOf s p + 4) := by
  unfold opBranch
  split <;> rfl

/-- A branch's command goes to its target where its comparison `f` says `c` of the two registers, else to the next
instruction. -/
theorem goes_of_branch {i : Instr} {w : Wop} {s : State} {p : Proc} {ra rb : RegNo} {off : BitVec 16}
    {f : Dword → Dword → Bool} {c : Prop} [Decidable c] (he : exec i s = act s (runWop p w (opBranch f p ra rb off)))
    (hc : f (greg s p ra) (greg s p rb) = true ↔ c) :
    Goes i w s p (if c then pcOf s p + 4 * off.signExtend 64 else pcOf s p + 4) := by
  refine goes_of he (fun _ => ?_) (fun hp => ?_)
  · simp only [opBranch_eq_setPc, greg_awake, pcOf_awake, branchTo, sext16, hc]
  · split
    · exact there_aligned s p _ hp
    · exact next_aligned s p hp

/-- The command of a jump that leaves `v` in rd: its body writes rd and goes on at `a`. -/
theorem links_of {i : Instr} {w : Wop} {s : State} {p : Proc} {rd : RegNo} {v a : Dword} {body : State → State}
    (he : exec i s = act s (runWop p w body)) (hb : body (awake s p) = setPc (setGreg (awake s p) p rd v) p a)
    (h : Ready s p w) (ha : p.profile = .s → a.toNat % 4 = 0) :
    ∃ t, exec i s = .next t ∧ greg t p rd = (if rd = 0 then 0 else v) ∧ pcOf t p = a ∧ KeepsRegs p rd s t ∧
      OnlyProc p s t := by
  have ⟨_, _, _, _, hleft⟩ := h
  refine ⟨_, he.trans (act_ready h body), ?_⟩
  rw [hb]
  obtain ⟨hg, hpc, ho⟩ := moved_spec (moved_setGreg hleft rd v a ha)
  refine ⟨by rw [hg, gAt_gSet_self], hpc, fun r hr => ?_, ho⟩
  rw [hg, gAt_gSet_of_ne _ _ hr, greg_eq s p r hleft]

/-- A section processor has no JR (R34). -/
theorem profile_ne_s_of_jr {p : Proc} {rd ra : RegNo} {imm : BitVec 16} (h : wopLegal p.profile (.jr rd ra imm) = true) :
    p.profile ≠ .s := by
  intro hp
  rw [hp] at h
  cases h

/-- Settles O11: a branch sets the pc alone, and CALL and JR write the return address beside it. -/
theorem branchTargets : Obligations.BranchTargets := by
  intro s p rd ra rb off imm far
  refine ⟨?beq, ?bne, ?blt, ?bge, ?bltu, ?bgeu, ?jmp, ?call, ?jr⟩
  case beq => exact goes_of_branch rfl beq_iff_eq
  case bne => exact goes_of_branch rfl bne_iff_ne
  case blt => exact goes_of_branch rfl (ltS_iff _ _)
  case bge => exact goes_of_branch rfl (not_ltS_iff _ _)
  case bltu => exact goes_of_branch rfl (ltU_iff _ _)
  case bgeu => exact goes_of_branch rfl (not_ltU_iff _ _)
  case jmp => exact goes_of rfl (fun _ => by rw [opJmp, jumpTo, pcOf_awake]) (there_aligned s p _)
  case call =>
    exact fun h => links_of rfl (by rw [opCall, jumpTo, pcOf_awake]) h (there_aligned s p _)
  case jr =>
    intro h
    have ⟨_, _, _, hlegal, _⟩ := h
    exact links_of rfl (by rw [opJr, sext16, pcOf_awake, greg_awake]) h
      (fun hp => absurd hp (profile_ne_s_of_jr hlegal))

/-! ### Exceptions and interrupts of a core -/

/-- CS_STATUS after an entry: trap, with pie where ie was set (R39). -/
theorem enterStatus_eq (st : Dword) : enterStatus st = if st.getLsbD 0 then 6 else 4 := by
  unfold enterStatus
  split <;> rfl

/-- An instruction of a ready core is its body: a core counts no steps. -/
theorem act_ready_core {s : State} {c : Fin 2} {w : Wop} (h : Ready s (.core c) w) (body : State → State) :
    act s (runWop (.core c) w body) = .next (body (awake s (.core c))) := act_ready h body

/-- A running core that enters its handler has taken the exception or interrupt. -/
theorem taken_setCore_enter (s : State) (c : Fin 2) (cause : Nat) (tval : Dword) (h : (s.core c).run = .running) :
    Taken c cause tval s (s.setCore c ((s.core c).enter cause tval)) := by
  refine ⟨?_, fun d hd => State.core_setCore_of_ne s _ hd⟩
  rw [State.core_setCore_self, Core.enter, enterStatus_eq, ← h]

/-- What a core saves does not depend on whether it has just returned from PARK. -/
theorem taken_of_awake {s t : State} {c : Fin 2} {cause : Nat} {tval : Dword} (hr : procReady s (.core c) = true)
    (h : Taken c cause tval (awake s (.core c)) t) : Taken c cause tval s t := by
  obtain ⟨hself, hother, _⟩ := awake_core s c hr
  obtain ⟨hc, hd⟩ := h
  refine ⟨?_, fun d hne => (hd d hne).trans (hother d hne)⟩
  rw [hc, hself]

/-- An exception of a running core outside its handler (R39). -/
theorem raiseExc_taken (s : State) (c : Fin 2) (cause : Nat) (val : Dword) (htrap : (s.core c).inTrap = false)
    (hrun : (s.core c).run = .running) :
    Taken c cause val s (raiseExc s (.core c) cause val) ∧ AllBut [.cores] s (raiseExc s (.core c) cause val) := by
  rw [raiseExc_core s c cause val htrap]
  exact ⟨taken_setCore_enter s c cause val hrun, AllBut.setCore s c _⟩

/-- An exception of a ready core outside its handler (R39). -/
theorem raiseExc_awake_taken {s : State} {c : Fin 2} (hr : procReady s (.core c) = true)
    (htrap : (s.core c).inTrap = false) (cause : Nat) (val : Dword) :
    Taken c cause val s (raiseExc (awake s (.core c)) (.core c) cause val) ∧
      AllBut [.cores] s (raiseExc (awake s (.core c)) (.core c) cause val) := by
  obtain ⟨hself, _, hbut⟩ := awake_core s c hr
  obtain ⟨ht, hb⟩ := raiseExc_taken (awake s (.core c)) c cause val (by rw [hself]; exact htrap) (by rw [hself])
  exact ⟨taken_of_awake hr ht, hbut.trans hb⟩

/-- A load whose access faults is that exception, with the address as its value (R35, R37, R44). -/
theorem opLoad_fault {s : State} {p : Proc} {n cause : Nat} {rd ra : RegNo} {imm : BitVec 16}
    (h : accessFault s p .load (greg s p ra + imm.signExtend 64).toNat n false = some cause) :
    opLoad n p rd ra imm (awake s p) = raiseExc (awake s p) p cause (greg s p ra + imm.signExtend 64) := by
  simp only [opLoad, addrOf, sext16, greg_awake, accessFault_awake, h, BitVec.ofNat_toNat, BitVec.setWidth_eq]

/-- An undecodable word of a ready processor whose fetch is permitted is ILLEGAL with that word (R33). -/
theorem execIllegalWord_eq {s : State} {p : Proc} {word : Word} (hdown : s.pwr.down = false) (hr : procReady s p = true)
    (hf : accessFault s p .fetch (pcOf s p).toNat 4 false = none)
    (hw : (decodeWop word).any (wopLegal p.profile) = false) :
    execIllegalWord p word s = .next (raiseExc (awake s p) p 1 (word.zeroExtend 64)) := by
  simp [execIllegalWord, act, hdown, hr, hw, pcOf_awake, accessFault_awake, hf]

/-- The sources pending in a core are not changed by its return from PARK. -/
theorem ipend_awake (s : State) (c : Fin 2) : ipend (awake s (.core c)) c = ipend s c := by
  simp only [awake]
  split
  · simp only [ipend, State.core_setCore_self]
    rfl
  · rfl

/-- The interrupt that a core takes next is not changed by its return from PARK. -/
theorem nextInterrupt_awake {s : State} {c : Fin 2} (hr : procReady s (.core c) = true) :
    nextInterrupt (awake s (.core c)) c = nextInterrupt s c := by
  obtain ⟨hself, _, _⟩ := awake_core s c hr
  simp only [nextInterrupt, ipend_awake, hself]

theorem AllBut.free (s : State) : AllBut [.freeCtr] s s.free.2 :=
  allBut_of _ s _ (fun q => by cases q <;> simp [sameIn, State.free])

/-- A pending enabled interrupt taken by a running core (R39, R41). -/
theorem takeInterrupt_taken {s : State} {c : Fin 2} {n : Nat} (hrun : (s.core c).run = .running)
    (hn : nextInterrupt s c = some n) :
    Taken c (0x40 + n) s.free.1 s (takeInterrupt s c) ∧ AllBut [.cores, .freeCtr] s (takeInterrupt s c) := by
  have e : takeInterrupt s c = s.free.2.setCore c ((s.free.2.core c).enter (0x40 + n) s.free.1) := by
    simp only [takeInterrupt, hn]
    rfl
  rw [e]
  refine ⟨taken_setCore_enter s.free.2 c _ _ hrun, ?_⟩
  exact ((AllBut.free s).mono (by simp)).trans ((AllBut.setCore s.free.2 c _).mono (by simp))

/-- ERET of a core in its handler (R39). -/
theorem opEret_core {s : State} {c : Fin 2} (h : (s.core c).inTrap = true) :
    opEret (.core c) s = s.setCore c (s.core c).leave := by
  simp [opEret, h]

/-- Settles O15: each of the faults is `raiseExc` of the core as it wakes, and an interrupt enters the handler the same
way. -/
theorem exceptionEntry : Obligations.ExceptionEntry := by
  intro s c
  refine ⟨?exception, ?trap, ?word, ?load, ?interrupt, ?eret⟩
  case exception =>
    exact fun htrap hrun cause val => raiseExc_taken s c cause val htrap hrun
  case trap =>
    intro code h htrap
    have ⟨_, hr, _, _, _⟩ := h
    exact ⟨_, act_ready_core h _, raiseExc_awake_taken hr htrap 7 _⟩
  case word =>
    intro word hdown hr htrap hf hw
    exact ⟨_, execIllegalWord_eq hdown hr hf hw, raiseExc_awake_taken hr htrap 1 _⟩
  case load =>
    intro rd ra imm cause h htrap hfault
    have ⟨_, hr, _, _, _⟩ := h
    exact ⟨_, (act_ready_core h _).trans (congrArg _ (opLoad_fault hfault)), raiseExc_awake_taken hr htrap cause _⟩
  case interrupt =>
    intro n hdown hr hn
    obtain ⟨hself, _, hbut⟩ := awake_core s c hr
    obtain ⟨ht, hb⟩ := takeInterrupt_taken (by rw [hself]) ((nextInterrupt_awake hr).trans hn)
    refine ⟨_, _, ?_, taken_of_awake hr ht, (hbut.mono (by simp)).trans hb⟩
    show execInterruptTaken c s = _
    simp [execInterruptTaken, act, hdown, hr]
  case eret =>
    intro h htrap
    have ⟨_, hr, _, _, _⟩ := h
    obtain ⟨hself, hother, hbut⟩ := awake_core s c hr
    have hin : ((awake s (.core c)).core c).inTrap = true := by rw [hself]; exact htrap
    refine ⟨_, (act_ready_core h _).trans (congrArg _ (opEret_core hin)), ?_, fun d hd => ?_, ?_⟩
    · rw [State.core_setCore_self, hself]
      rfl
    · rw [State.core_setCore_of_ne _ _ hd, hother d hd]
    · exact hbut.trans (AllBut.setCore _ c _)

/-! ### State register numbers -/

/-- A core or an engine counts no steps. -/
theorem countStep_of_ne_s {p : Proc} (h : p.profile ≠ .s) (s : State) : countStep s p = s := by
  cases p with
  | core c => rfl
  | engine e => rfl
  | line n => exact absurd rfl h

/-- An instruction that no section processor has and whose body raises ILLEGAL: whether it is refused by the profile or
by its body, its command is ILLEGAL with its word (R30, R33). -/
theorem act_illegal {s : State} {p : Proc} {w : Wop} {body : State → State} (hdown : s.pwr.down = false)
    (hr : procReady s p = true) (hf : accessFault s p .fetch (pcOf s p).toNat 4 false = none)
    (hs : wopInProfile .s w = false) (hb : body (awake s p) = illegal (awake s p) p w) :
    act s (runWop p w body) = .next (raiseExc (awake s p) p 1 ((encodeWop w).zeroExtend 64)) := by
  have hill : execWop p w body (awake s p) = illegal (awake s p) p w := by
    simp only [execWop, accessFault_awake, pcOf_awake, hf]
    split
    · next hlegal =>
      have hp : p.profile ≠ .s := fun hp => by simp [wopLegal, hp, hs] at hlegal
      rw [countStep_of_ne_s hp, hb]
    · rfl
  simp only [act, hdown, runWop, hr, hill]
  rfl

/-- A number that the table does not list for a processor's profile names no register that MFS reads (R30). -/
theorem stateReg_eq_none {p : Proc} {num : Nat} (h : num ∉ readableRegs p.profile) (s : State) :
    stateReg s p num = none := by
  cases p with
  | core c =>
    simp only [stateReg]
    split <;> simp_all [readableRegs, Proc.profile]
  | engine e => exact if_neg (by simpa [readableRegs, Proc.profile] using h)
  | line n => rfl

/-- A number that MTS does not write names no register of a core (R30). -/
theorem setStateReg_eq_none {num : Nat} (h : num ∉ writableRegs .c) (x : Core) (v : Dword) :
    setStateReg x num v = none := by
  unfold setStateReg
  split <;> simp_all [writableRegs]

/-- MFS of a number that its profile does not read raises ILLEGAL (R30). -/
theorem opMfs_illegal {p : Proc} {num : BitVec 12} (h : num.toNat ∉ readableRegs p.profile) (rd : RegNo) (s : State) :
    opMfs p rd num s = illegal s p (.mfs rd num) := by
  simp only [opMfs, stateReg_eq_none h]

/-- MTS of a number that its profile does not write raises ILLEGAL (R30). -/
theorem opMts_illegal {p : Proc} {num : BitVec 12} (h : num.toNat ∉ writableRegs p.profile) (rs : RegNo) (s : State) :
    opMts p rs num s = illegal s p (.mts rs num) := by
  cases p with
  | core c => simp only [opMts, setStateReg_eq_none h]
  | engine e => rfl
  | line n => rfl

/-- Settles O16: outside the table the bodies of MFS and MTS raise ILLEGAL, as the profile does where it lacks them. -/
theorem illegalStateRegisters : Obligations.IllegalStateRegisters := by
  intro s p r num hdown hr hf
  exact ⟨fun h => act_illegal hdown hr hf rfl (opMfs_illegal h r _),
    fun h => act_illegal hdown hr hf rfl (opMts_illegal h r _)⟩

end Sys2Proof.Machine
end

section
/-! PROOFS of the statements of the family 'other'. Proofs elaborated side by side wait for each other on stacks of their own,
which together go past the memory that the check grants: here they are elaborated one after the other. -/
set_option Elab.async false

section
/-! The encoding of the Wemon instructions (R31, R33, R34): every instruction is decoded from its own word, and a word that
decodes is the word of its instruction. -/

namespace Sys2Proof.Machine

/-! ### The instruction of a word -/

/-- The low field of an immediate that holds a shorter operand. -/
theorem extract_zeroExtend {n : Nat} (x : BitVec n) (h : n ≤ 16) : (x.zeroExtend 16).extractLsb' 0 n = x := by
  ext i hi
  simp [show i < 16 by omega, BitVec.getLsbD_eq_getElem hi]

/-- Above a shorter operand its immediate holds 0. -/
theorem extract_zeroExtend_above {n : Nat} (x : BitVec n) (lo k : Nat) (h : n ≤ lo) :
    (x.zeroExtend 16).extractLsb' lo k = 0 := by
  ext i hi
  simp [BitVec.getLsbD_of_ge x (lo + i) (by omega)]

/-- The halfword number of SETH and INSH, read back from the field that holds it. -/
theorem extract_hw (m : Nat) (d : RegNo) (hw : BitVec 2) (i : BitVec 16) :
    (encI m d (hw.zeroExtend 5) i).extractLsb' 16 2 = hw ∧ (encI m d (hw.zeroExtend 5) i).extractLsb' 18 3 = 0 := by
  rw [extract_encI_ra _ _ _ _ _ _ (by omega) (by omega), extract_encI_ra _ _ _ _ _ _ (by omega) (by omega)]
  revert hw
  decide

/-- The fields of EXTR's immediate. -/
theorem extract_extr (pos l : BitVec 6) :
    (((0#2) ++ pos ++ (0#2) ++ l : BitVec 16).extractLsb' 0 6 = l ∧
      ((0#2) ++ pos ++ (0#2) ++ l : BitVec 16).extractLsb' 8 6 = pos) ∧
    ((0#2) ++ pos ++ (0#2) ++ l : BitVec 16).extractLsb' 14 2 = 0 ∧
      ((0#2) ++ pos ++ (0#2) ++ l : BitVec 16).extractLsb' 6 2 = 0 := by
  refine ⟨⟨?_, ?_⟩, ?_, ?_⟩
  · rw [extract_cat_lo _ _ _ _ (by omega), extract_all]
  · rw [extract_cat_hi _ _ _ _ (by omega), extract_cat_hi _ _ _ _ (by omega), extract_cat_lo _ _ _ _ (by omega),
      extract_all]
  · rw [extract_cat_hi _ _ _ _ (by omega), extract_cat_hi _ _ _ _ (by omega), extract_cat_hi _ _ _ _ (by omega),
      extract_all]; rfl
  · rw [extract_cat_hi _ _ _ _ (by omega), extract_cat_lo _ _ _ _ (by omega), extract_all]; rfl

theorem onlyIf_true (x : Wop) : onlyIf true x = some x := rfl

/-- Settles O6: each instruction's format gives back its fields, and its fields the instruction. -/
theorem encodeDecode : Obligations.EncodeDecode := by
  intro i hi
  cases i
  case fence k => 
    simp [encodeWop, decodeWop, decodeI, extract_encI, extract_zeroExtend, extract_zeroExtend_above]
    simpa [wopOperandsOk, onlyIf] using hi
  case extr d a pos l =>
    obtain ⟨⟨h1, h2⟩, h3, h4⟩ := extract_extr pos l
    have h : pos.toNat + l.toNat + 1 ≤ 64 := by simpa [wopOperandsOk] using hi
    simp [encodeWop, decodeWop, decodeI, extract_encI, h1, h2, h3, h4, onlyIf, h]
  all_goals simp [encodeWop, decodeWop, decodeI, decodeAlu, decodeR, decodeD, decodeV, unusedOk, extract_encI, extract_hw,
    extract_zeroExtend, extract_zeroExtend_above, onlyIf_true]

/-! ### The word of an instruction -/

/-- Two neighbouring fields joined are one field. -/
theorem extract_join (w : Word) {hi lo m n : Nat} (h : hi = lo + n) :
    w.extractLsb' hi m ++ w.extractLsb' lo n = w.extractLsb' lo (m + n) :=
  BitVec.extractLsb'_append_extractLsb'_eq_extractLsb' h

/-- A field whose high bits are 0 is its low bits extended. -/
theorem zeroExtend_extract {w : Word} {lo n k : Nat} (h : w.extractLsb' (lo + n) k = 0) :
    (w.extractLsb' lo n).zeroExtend (n + k) = w.extractLsb' lo (n + k) := by
  ext i hi
  simp only [BitVec.truncate_eq_setWidth, BitVec.getElem_setWidth, BitVec.getLsbD_extractLsb', BitVec.getElem_extractLsb']
  by_cases hn : i < n
  · simp [hn]
  · have := congrArg (fun x => x.getLsbD (i - n)) h
    simp only [BitVec.getLsbD_extractLsb', show i - n < k by omega, show lo + n + (i - n) = lo + i by omega] at this
    simpa [hn] using this.symm

section
variable {w : Word} {m f : Nat} {d a b : RegNo}

/-- A word is its fields joined, in each format. -/
theorem encR_of_fields (hm : fMajor w = m) (hd : fRd w = d) (ha : fRa w = a) (hb : fRb w = b) (hf : fFunc w = f) :
    encR m d a b f = w := by
  subst hm hd ha hb hf
  simp only [encR, fMajor, fRd, fRa, fRb, fFunc, BitVec.ofNat_toNat, BitVec.setWidth_eq]
  rw [extract_join w (by rfl), extract_join w (by rfl), extract_join w (by rfl), extract_join w (by rfl), extract_all]

theorem encI_of_fields {i : BitVec 16} (hm : fMajor w = m) (hd : fRd w = d) (ha : fRa w = a) (hi : fImm w = i) :
    encI m d a i = w := by
  subst hm hd ha hi
  simp only [encI, fMajor, fRd, fRa, fImm, BitVec.ofNat_toNat, BitVec.setWidth_eq]
  rw [extract_join w (by rfl), extract_join w (by rfl), extract_join w (by rfl), extract_all]

theorem encJ_of_fields (hm : fMajor w = m) : encJ m (w.extractLsb' 0 26) = w := by
  subst hm
  simp only [encJ, fMajor, BitVec.ofNat_toNat, BitVec.setWidth_eq]
  rw [extract_join w (by rfl), extract_all]

theorem encD_of_fields (hm : fMajor w = 0x34) (hd : fRd w = d) (ha : fRa w = a) (hb : fRb w = b)
    (hf : (w.extractLsb' 0 9).toNat = f) : encD d a b (w.extractLsb' 9 2) f = w := by
  subst hd ha hb hf
  have hm : 0x34#6 = w.extractLsb' 26 6 := BitVec.eq_of_toNat_eq hm.symm
  simp only [encD, hm, fRd, fRa, fRb, BitVec.ofNat_toNat, BitVec.setWidth_eq]
  rw [extract_join w (by rfl), extract_join w (by rfl), extract_join w (by rfl), extract_join w (by rfl), extract_join w (by rfl), extract_all]

theorem encV_of_fields (hm : fMajor w = 0x3A) (hd : fRd w = 0) (hg : w.extractLsb' 3 5 = 0#5)
    (hf : (w.extractLsb' 0 3).toNat = f) : encV (fRa w) (w.extractLsb' 8 8) f = w := by
  subst hf
  have hw : w.extractLsb' 26 6 ++ w.extractLsb' 21 5 ++ w.extractLsb' 16 5 ++ w.extractLsb' 8 8 ++ w.extractLsb' 3 5 ++
      w.extractLsb' 0 3 = w := by
    rw [extract_join w (by rfl), extract_join w (by rfl), extract_join w (by rfl), extract_join w (by rfl),
      extract_join w (by rfl), extract_all]
  rw [show w.extractLsb' 26 6 = 0x3A#6 from BitVec.eq_of_toNat_eq hm, show w.extractLsb' 21 5 = 0#5 from hd, hg] at hw
  simpa only [encV, fRa, BitVec.ofNat_toNat, BitVec.setWidth_eq] using hw

end

theorem onlyIf_eq_some {b : Bool} {x i : Wop} : onlyIf b x = some i ↔ b = true ∧ x = i := by
  cases b <;> simp [onlyIf]

theorem unusedOk_iff (w : Word) (d a b : Bool) : unusedOk w d a b = true ↔
    (d = false → fRd w = 0) ∧ (a = false → fRa w = 0) ∧ (b = false → fRb w = 0) := by
  cases d <;> cases a <;> cases b <;> simp [unusedOk, and_assoc]

/-- What an operation table of the decoder answers is its word's instruction. -/
abbrev Decodes (w : Word) (o : Option Wop) : Prop := ∀ i, o = some i → wopOperandsOk i = true ∧ encodeWop i = w

theorem decodes_none (w : Word) : Decodes w none := nofun

theorem decodes_some {w : Word} {x : Wop} (ho : wopOperandsOk x = true) (h : encodeWop x = w) : Decodes w (some x) := by
  rintro i ⟨⟩
  exact ⟨ho, h⟩

theorem decodes_onlyIf {w : Word} {x : Wop} {b : Bool} (h : b = true → wopOperandsOk x = true ∧ encodeWop x = w) :
    Decodes w (onlyIf b x) := by
  intro i hi
  obtain ⟨hb, rfl⟩ := onlyIf_eq_some.1 hi
  exact h hb

theorem decodeAlu_decodes {w : Word} (hm : fMajor w = 0) : Decodes w (decodeAlu w) := by
  unfold decodeAlu
  dsimp only
  split
  case h_15 => exact decodes_none w
  all_goals exact decodes_some rfl (encR_of_fields hm rfl rfl rfl ‹_›)

theorem decodeD_decodes {w : Word} (hm : fMajor w = 0x34) : Decodes w (decodeD w) := by
  unfold decodeD
  dsimp only
  split
  case h_4 => exact decodes_some rfl (encD_of_fields hm rfl rfl rfl ‹_›)
  case h_7 => exact decodes_none w
  all_goals
    refine decodes_onlyIf fun hu => ⟨rfl, ?_⟩
    rw [unusedOk_iff] at hu
    exact encD_of_fields hm (by simp [hu]) (by simp [hu]) (by simp [hu]) ‹_›

theorem decodeV_decodes {w : Word} (hm : fMajor w = 0x3A) : Decodes w (decodeV w) := by
  unfold decodeV
  dsimp only
  split
  · exact decodes_none w
  · next hu =>
    obtain ⟨hd, hg⟩ : fRd w = 0 ∧ w.extractLsb' 3 5 = 0#5 := by simpa using hu
    split
    case h_6 => exact decodes_none w
    all_goals exact decodes_some rfl (encV_of_fields hm hd hg ‹_›)

theorem decodeR_decodes (w : Word) : Decodes w (decodeR w) := by
  unfold decodeR
  dsimp only
  split
  case h_27 => exact decodes_none w
  case h_1 | h_2 | h_3 | h_13 => exact decodes_some rfl (encR_of_fields ‹_› rfl rfl rfl ‹_›)
  all_goals
    refine decodes_onlyIf fun hu => ⟨rfl, ?_⟩
    rw [unusedOk_iff] at hu
    exact encR_of_fields ‹_› (by simp [hu]) (by simp [hu]) (by simp [hu]) ‹_›

theorem decodeI_decodes (w : Word) : Decodes w (decodeI w) := by
  unfold decodeI
  dsimp only
  split
  case h_5 | h_6 | h_7 =>
    refine decodes_onlyIf fun hu => ⟨rfl, encI_of_fields ‹_› rfl rfl ?_⟩
    exact (zeroExtend_extract (lo := 0) (n := 6) (k := 10) (by simpa using hu)).symm
  case h_10 | h_11 =>
    refine decodes_onlyIf fun hu => ⟨rfl, encI_of_fields ‹_› rfl ?_ rfl⟩
    exact (zeroExtend_extract (lo := 16) (n := 2) (k := 3) (by simpa using hu)).symm
  case h_12 =>
    refine decodes_onlyIf fun hu => ?_
    simp only [Bool.and_eq_true, beq_iff_eq, decide_eq_true_eq] at hu
    obtain ⟨⟨h14, h6⟩, hlen⟩ := hu
    refine ⟨by simpa [wopOperandsOk] using hlen, encI_of_fields ‹_› rfl rfl ?_⟩
    rw [← h14, extract_join w (by rfl), h14, ← h6, extract_join w (by rfl), extract_join w (by rfl)]
    rfl
  case h_21 =>
    refine decodes_onlyIf fun hu => ?_
    simp only [Bool.and_eq_true, beq_iff_eq] at hu
    obtain ⟨⟨⟨hd, ha⟩, h0⟩, hk⟩ := hu
    exact ⟨by simpa [wopOperandsOk] using hk,
      encI_of_fields ‹_› hd ha (zeroExtend_extract (lo := 0) (n := 3) (k := 13) h0).symm⟩
  case h_31 | h_32 =>
    refine decodes_onlyIf fun hu => ?_
    simp only [Bool.and_eq_true, beq_iff_eq] at hu
    exact ⟨rfl, encI_of_fields ‹_› rfl hu.1 (zeroExtend_extract (lo := 0) (n := 12) (k := 4) hu.2).symm⟩
  case h_33 =>
    refine decodes_onlyIf fun hu => ?_
    simp only [Bool.and_eq_true, beq_iff_eq] at hu
    exact ⟨rfl, encI_of_fields ‹_› rfl hu.1 (zeroExtend_extract (lo := 0) (n := 4) (k := 12) hu.2).symm⟩
  case h_28 | h_29 => exact decodes_some rfl (encJ_of_fields ‹_›)
  case h_34 => exact decodes_none w
  all_goals exact decodes_some rfl (encI_of_fields ‹_› rfl rfl rfl)

/-- Settles O7: each table of the decoder answers only instructions whose format joins the word's fields. -/
theorem decodeEncode : Obligations.DecodeEncode := by
  refine ⟨fun w => ?_, rfl, rfl⟩
  unfold decodeWop
  split
  case h_1 => exact decodeAlu_decodes ‹_›
  case h_2 => exact decodeD_decodes ‹_›
  case h_3 => exact decodeV_decodes ‹_›
  case h_12 => exact decodeI_decodes w
  all_goals exact decodeR_decodes w

end Sys2Proof.Machine
end

section
/-! The register and immediate instructions (R32, R34): each command's body writes the table's result to rd. -/

namespace Sys2Proof.Machine

variable {i : Instr} {w : Wop} {s : State} {p : Proc} {rd ra rb : RegNo} {v : Dword}

/-! ### The three forms -/

/-- The command of an instruction of two registers writes its function of them. -/
theorem writes_of_opRR (f : Dword → Dword → Dword) (he : exec i s = act s (runWop p w (opRR f p rd ra rb)))
    (hv : v = f (greg s p ra) (greg s p rb)) : Writes i w s p rd v :=
  writes_of he (fun _ => by rw [opRR, greg_awake, greg_awake]) hv

/-- The command of an instruction of a register and an immediate writes its function of them. -/
theorem writes_of_opRI (f : Dword → Dword → Dword) (ext : BitVec 16 → Dword) {imm : BitVec 16}
    (he : exec i s = act s (runWop p w (opRI f ext p rd ra imm))) (hv : v = f (greg s p ra) (ext imm)) :
    Writes i w s p rd v :=
  writes_of he (fun _ => by rw [opRI, greg_awake]) hv

/-- The command of a shift by an immediate writes its shift. -/
theorem writes_of_opRN (f : Dword → Dword → Dword) {n : BitVec 6}
    (he : exec i s = act s (runWop p w (opRN f p rd ra n))) (hv : v = f (greg s p ra) (n.zeroExtend 64)) :
    Writes i w s p rd v :=
  writes_of he (fun _ => by rw [opRN, greg_awake]) hv

/-! ### The functions -/

theorem oneIf_ltS (a b : Dword) : oneIf (ltS a b) = if a.toInt < b.toInt then 1 else 0 := by
  simp only [oneIf, ltS_iff]

theorem oneIf_ltU (a b : Dword) : oneIf (ltU a b) = if a.toNat < b.toNat then 1 else 0 := by
  simp only [oneIf, ltU_iff]

theorem divBy_eq (a b : Dword) : divBy a b = if b = 0 then BitVec.allOnes 64 else a / b := by
  unfold divBy
  split
  · rfl
  · exact BitVec.eq_of_toNat_eq (by simp [Nat.mod_eq_of_lt (Nat.lt_of_le_of_lt (Nat.div_le_self _ _) a.isLt)])

theorem remBy_eq (a b : Dword) : remBy a b = if b = 0 then a else a % b := by
  unfold remBy
  split
  · rfl
  · exact BitVec.eq_of_toNat_eq (by simp [Nat.mod_eq_of_lt (Nat.lt_of_le_of_lt (Nat.mod_le _ _) a.isLt)])

/-- A shift count of six bits is its own remainder by 64. -/
theorem shiftCount (n : BitVec 6) : (n.zeroExtend 64).toNat % 64 = n.toNat := by
  have := n.isLt
  simp
  omega

/-- The bits of SETH's result. -/
theorem getLsbD_setHalf (hw : BitVec 2) (imm : BitVec 16) (k : Nat) (h : k < 64) :
    (setHalf hw imm).getLsbD k = (decide (k / 16 = hw.toNat) && imm.getLsbD (k % 16)) := by
  simp only [setHalf, zext16, BitVec.getLsbD_shiftLeft, BitVec.truncate_eq_setWidth, BitVec.getLsbD_setWidth, h]
  rcases Nat.lt_trichotomy (k / 16) hw.toNat with hk | hk | hk
  · simp [show k < 16 * hw.toNat by omega, show k / 16 ≠ hw.toNat by omega]
  · simp [show ¬ k < 16 * hw.toNat by omega, hk, show k - 16 * hw.toNat = k % 16 by omega, show k % 16 < 64 by omega]
  · simp [show k / 16 ≠ hw.toNat by omega, BitVec.getLsbD_of_ge imm (k - 16 * hw.toNat) (by omega)]

/-- The bits of INSH's result. -/
theorem getLsbD_insHalf (a : Dword) (hw : BitVec 2) (imm : BitVec 16) (k : Nat) (h : k < 64) :
    (insHalf a hw imm).getLsbD k = if k / 16 = hw.toNat then imm.getLsbD (k % 16) else a.getLsbD k := by
  have hmask : ((0xFFFF#64) <<< (16 * hw.toNat)).getLsbD k = decide (k / 16 = hw.toNat) := by
    rw [BitVec.getLsbD_shiftLeft, show (0xFFFF#64) = BitVec.ofNat 64 (2 ^ 16 - 1) from rfl, BitVec.getLsbD_ofNat,
      Nat.testBit_two_pow_sub_one]
    by_cases hk : k / 16 = hw.toNat <;> simp [hk, h] <;> omega
  simp only [insHalf, BitVec.getLsbD_or, BitVec.getLsbD_and, BitVec.getLsbD_not, hmask, getLsbD_setHalf hw imm k h, h]
  by_cases hk : k / 16 = hw.toNat <;> simp [hk]

/-- The bits of EXTR's result. -/
theorem getLsbD_extract (a : Dword) (pos lenM1 : BitVec 6) (k : Nat) (h : k < 64) :
    (extract a pos lenM1).getLsbD k = (decide (k ≤ lenM1.toNat) && a.getLsbD (pos.toNat + k)) := by
  rw [extract, BitVec.getLsbD_ofNat, Nat.testBit_mod_two_pow, Nat.testBit_div_two_pow, Nat.add_comm k]
  simp [h, Nat.lt_succ_iff, BitVec.getLsbD]

/-! ### The obligations -/

/-- Settles O9: each command is the form of two registers with the table's function. -/
theorem aluResults : Obligations.AluResults := by
  intro s p rd ra rb
  refine ⟨?add, ?sub, ?and, ?or, ?xor, ?shl, ?shr, ?sar, ?slt, ?sltu, ?mul, ?mulhu, ?divu, ?remu⟩
  case slt => exact writes_of_opRR _ rfl (oneIf_ltS _ _).symm
  case sltu => exact writes_of_opRR _ rfl (oneIf_ltU _ _).symm
  case divu => exact writes_of_opRR _ rfl (divBy_eq _ _).symm
  case remu => exact writes_of_opRR _ rfl (remBy_eq _ _).symm
  all_goals exact writes_of_opRR _ rfl rfl

/-- Settles O10: each command is the form of an immediate or of a shift count with the table's function; SETH, INSH and
EXTR write a word of which every bit is named. -/
theorem immediateResults : Obligations.ImmediateResults := by
  intro s p rd ra imm n hw pos lenM1
  refine ⟨?addi, ?andi, ?ori, ?xori, ?shli, ?shri, ?sari, ?slti, ?sltui, ?seth, ?insh, ?extr⟩
  case shli => exact writes_of_opRN shlBy rfl (by rw [shlBy, shiftCount])
  case shri => exact writes_of_opRN shrBy rfl (by rw [shrBy, shiftCount])
  case sari => exact writes_of_opRN sarBy rfl (by rw [sarBy, shiftCount])
  case slti =>
    refine writes_of_opRI _ sext16 rfl ?_
    rw [oneIf_ltS, sext16, BitVec.toInt_signExtend_of_le (by decide)]
  case sltui => exact writes_of_opRI _ sext16 rfl (oneIf_ltU _ _).symm
  case seth => exact ⟨_, writes_of rfl (fun _ => rfl) rfl, getLsbD_setHalf hw imm⟩
  case insh =>
    exact ⟨_, writes_of rfl (fun _ => by rw [opInsh, greg_awake]) rfl, getLsbD_insHalf (greg s p rd) hw imm⟩
  case extr =>
    exact ⟨_, writes_of rfl (fun _ => by rw [opExtr, greg_awake]) rfl, getLsbD_extract (greg s p ra) pos lenM1⟩
  all_goals exact writes_of_opRI _ _ rfl rfl

end Sys2Proof.Machine
end

section
/-! The step, the state after reset, and a block without supply (R4, R28, R91, R287, R383, R404, R406). -/

namespace Sys2Proof.Machine

/-- Settles O1: by the definition of a step. -/
theorem stepRunsFront : Obligations.StepRunsFront := by
  intro c s rest h
  rw [step, h]

/-- The row of SEC_n_CTL is the first of its block. -/
theorem regReset_secCtl {n : Nat} (h : n < 34) : regReset (Reg.SEC_CTL n) = 0 := by
  have hr : rowAt (Reg.SEC_CTL n) = rows2010_0.head? := by
    unfold rowAt rowsOf Reg.SEC_CTL
    iterate 12 rw [if_neg (by omega)]
    rw [if_pos (by omega), List.append_assoc]
    refine List.find?_cons_of_pos ?_
    simp [RegRow.covers, matchDims, h]
  rw [regReset, hr]
  rfl

/-- The row of VIN_n_STAT is the second of its block. -/
theorem regReset_vinStat {n : Nat} (h : n ≤ 1024) : regReset (Reg.VIN_STAT n) = 0 := by
  have hr : rowAt (Reg.VIN_STAT n) = rows2041_0[1]? := by
    unfold rowAt rowsOf Reg.VIN_STAT
    iterate 20 rw [if_neg (by omega)]
    rw [if_pos (by omega)]
    refine (List.find?_cons_of_neg ?_).trans (List.find?_cons_of_pos ?_)
    · simp [RegRow.covers, matchDims]
      omega
    · simp [RegRow.covers, matchDims]
      omega
  rw [regReset, hr]
  rfl

/-- A register with no word of its own at reset reads as its reset value. -/
theorem State.rd_reset {a : Nat} (h : a ≠ 0x20038100 ∧ a ≠ 0x20410004 ∧ a ≠ 0x2041000C) :
    State.reset.rd a = regReset a := by
  obtain ⟨h1, h2, h3⟩ := h
  simp [State.rd, State.reset, Sparse.get, h1.symm, h2.symm, h3.symm]

/-- Every VIN_n_STAT but PF0's own reads 0 at reset. -/
theorem State.rd_reset_vinStat {n : Nat} (h0 : 0 < n) (h : n ≤ 1024) : State.reset.rd (Reg.VIN_STAT n) = 0 := by
  rw [State.rd_reset, regReset_vinStat h]
  unfold Reg.VIN_STAT
  omega

/-- Settles O3: the tables of the state after reset are empty but for three register words. -/
theorem resetState : Obligations.ResetState := by
  refine ⟨rfl, fun c r => ⟨?_, rfl, rfl⟩, fun n h => ?_, by decide, fun n h0 h => ?_, fun n h => ?_, fun _ => rfl,
    fun a h => ?_⟩
  · simp [greg, gAt, State.core, State.reset, Sparse.get]
  · rw [State.fld, State.rd_reset, regReset_secCtl h]
    · rfl
    · unfold Reg.SEC_CTL
      omega
  · rw [State.fld, State.rd_reset_vinStat h0 h]
    rfl
  · cases n with
    | zero => decide
    | succ n =>
      rw [State.fld, State.rd_reset_vinStat (Nat.succ_pos n) h]
      rfl
  · simp only [State.rdMem, if_neg (Nat.not_lt.2 h), State.reset, Sparse.get, memDefault]

/-- Settles O4: the tables of the state after reset are empty. -/
theorem resetForm : Obligations.ResetForm := rfl

/-- Settles O8: every command but these three acts only where the always-on domain is supplied. -/
theorem unpoweredCommands : Obligations.UnpoweredCommands := by
  intro c s h
  cases c
  case powerOnReset => trivial
  case backupSample quiet seen => exact fun hc => congrArg Host.Outcome.next (if_neg (by simp [hc]))
  case sleepRetry p d =>
    show (if d.val = 0 then act s id else _) = _
    split
    · exact congrArg Host.Outcome.next (if_pos h)
    · exact congrArg Host.Outcome.next (if_pos h)
  case dsRefresh q tag d => cases q <;> exact congrArg Host.Outcome.next (if_pos h)
  all_goals exact congrArg Host.Outcome.next (if_pos h)

end Sys2Proof.Machine
end

section
/-! Loads, stores, atomics and FENCE (R34, R35, R37, R46, R396): what each access leaves in its processor, in memory and in
the registers. -/

namespace Sys2Proof.Machine

/-! ### A processor that has gone on -/

theorem readStalls_awake (s : State) (p : Proc) (a : Nat) : readStalls (awake s p) p a = readStalls s p a := by
  cases p with
  | core c =>
    simp only [awake]
    split <;> rfl
  | engine e => rfl
  | line n => rfl

/-- The address of a load or store. -/
theorem addrOf_awake (s : State) (p : Proc) (ra : RegNo) (imm : BitVec 16) :
    addrOf (awake s p) p ra imm = (greg s p ra + imm.signExtend 64).toNat := by
  rw [addrOf, greg_awake, sext16]

/-- A stalled processor stays where it is; a section processor never stalls. -/
theorem countStep_awake_of_stall {s : State} {p : Proc} {a : Nat} (h : readStalls s p a = true) :
    countStep (awake s p) p = awake s p := by
  cases p with
  | core c => rfl
  | engine e => rfl
  | line n => cases h

/-- A register file may be written before or after the pc. -/
theorem setGreg_setPc (s : State) (p : Proc) (rd : RegNo) (v a : Dword) :
    setGreg (setPc s p a) p rd v = setPc (setGreg s p rd v) p a := by
  cases p with
  | core c => simp [setGreg, setPc]
  | engine e => simp [setGreg, setPc]
  | line n => cases h : (s.line n.val).route <;> simp [setGreg, setPc, h]

theorem setGreg_advance (s : State) (p : Proc) (rd : RegNo) (v : Dword) :
    setGreg (advance s p) p rd v = result s p rd v := by
  rw [advance, setGreg_setPc, result, advance, pcOf_setGreg]

/-- Going on to the next instruction moves the processor alone. -/
theorem moved_onward {s : State} {p : Proc} (h : stepLeft s p = true) :
    Moved p (regsOf s p) (pcOf s p + 4) s (countStep (onward s p) p) := by
  rw [onward, advance, pcOf_awake]
  exact moved_setPc h _ (next_aligned s p)

/-- What a processor that has gone on shows, before its route's step is counted. -/
theorem onward_spec {s : State} {p : Proc} {q : Party} (hq : procParty p = some q) (h : stepLeft s p = true) :
    (∀ r, greg (onward s p) p r = greg s p r) ∧ pcOf (onward s p) p = pcOf s p + 4 ∧ OnlyProc p s (onward s p) := by
  have hc : countStep (onward s p) p = onward s p := by
    cases p with
    | core c => rfl
    | engine e => rfl
    | line n => cases hq
  obtain ⟨hg, hpc, ho⟩ := moved_spec (moved_onward h)
  rw [hc] at hg hpc ho
  exact ⟨fun r => (hg r).trans (greg_eq s p r h).symm, hpc, ho⟩

/-- The parties that are processors are no agents. -/
theorem procParty_ne_agent {p : Proc} {q : Party} (h : procParty p = some q) (x : Fin 4) : q ≠ .agent x := by
  rintro rfl
  cases p <;> cases h

/-- A register's access after which a processor's register is written changes, beside the processor, what the access
changes. -/
theorem procBut_setGreg {s u t : State} {p : Proc} {q : Party} {ps : List Part} (hq : procParty p = some q)
    (ho : OnlyProc p s u) (hf : AllBut ps u t) (hp : procPart p ∉ ps) (rd : RegNo) (v : Dword) :
    ProcBut p ps s (setGreg t p rd v) ∧ pcOf (setGreg t p rd v) p = pcOf u p ∧
      (∀ r, r ≠ rd → greg (setGreg t p rd v) p r = greg u p r) ∧
      greg (setGreg t p rd v) p rd = (if rd = 0 then 0 else v) := by
  rw [pcOf_setGreg]
  cases p with
  | core c =>
    obtain ⟨hall, hother, hself⟩ := ho
    have hc : ∀ d, t.core d = u.core d := State.core_congr (hf .cores hp)
    refine ⟨⟨?_, fun d hd => ?_, ?_⟩, ?_, fun r hr => ?_, ?_⟩
    · exact ((hall.mono (by simp)).trans (hf.mono (by simp +contextual))).trans ((AllBut.setCore t c _).mono (by simp))
    · rw [setGreg, State.core_setCore_of_ne _ _ hd, hc, hother d hd]
    · rw [setGreg, State.core_setCore_self, hc]
      exact hself
    · simp only [pcOf, hc]
    · simp only [setGreg, greg, State.core_setCore_self, gAt_gSet_of_ne _ _ hr, hc]
    · simp only [setGreg, greg, State.core_setCore_self, gAt_gSet_self]
  | engine e =>
    obtain ⟨hall, hother, hself⟩ := ho
    have hc : ∀ f, t.engine f = u.engine f := fun f => by rw [State.engine, State.engine, hf .engines hp]
    refine ⟨⟨?_, fun d hd => ?_, ?_⟩, ?_, fun r hr => ?_, ?_⟩
    · exact ((hall.mono (by simp)).trans (hf.mono (by simp +contextual))).trans ((AllBut.setEngine t e.val _).mono (by simp))
    · rw [setGreg, State.engine_setEngine_of_ne _ _ hd, hc, hother d hd]
    · rw [setGreg, State.engine_setEngine_self, hc]
      exact hself
    · simp only [pcOf, hc]
    · simp only [setGreg, greg, State.engine_setEngine_self, gAt_gSet_of_ne _ _ hr, hc]
    · simp only [setGreg, greg, State.engine_setEngine_self, gAt_gSet_self]
  | line n => cases hq

/-! ### Loads -/

/-- A change of the processor's own registers leaves the bytes that its addresses name. -/
theorem scratchBytes_setRoute {s : State} {n : Nat} {r q : Route} (h : (s.line n).route = some r) (hb : q.bank = r.bank)
    (o k : Nat) : scratchBytes (s.setLine n { s.line n with route := some q }) n o k = scratchBytes s n o k := by
  simp [scratchBytes, scratchBank, bankOf, h, hb]

/-- What going on leaves of a section processor on a route. -/
theorem onward_line {s : State} {l : Fin 32} {r : Route} (h : (s.line l.val).route = some r) :
    ∃ q : Route, onward s (.line l) = s.setLine l.val { s.line l.val with route := some q } ∧ q.judge = r.judge ∧
      q.bank = r.bank ∧ q.steps = r.steps := by
  refine ⟨{ r with pc := (pcOf s (.line l) + 4).toNat / 4 }, ?_, rfl, rfl, rfl⟩
  simp only [onward, awake, advance, setPc, h]

/-- A load that is performed brings the bytes that its address names, or what a register shows. -/
theorem loadMem_bytes {s : State} {p : Proc} {a n : Nat} (hs : stepLeft s p = true)
    (h : a < 0x20000000 ∨ procParty p = none) :
    loadMem (onward s p) p a n = (valueOf (bytesAt s p a n), onward s p) := by
  cases p with
  | core c =>
    have ha : ¬ 0x20000000 ≤ a := by simpa [procParty] using h
    obtain ⟨x, hx, _⟩ := onward_core s c
    rw [loadMem, if_neg ha, hx]
    simp only [bytesAt, mapBytes, valueOf]
    rw [State.rdBytesN_congr (State.setCore_mem ..) (State.setCore_lcs ..) (State.setCore_freeCtr ..)
      (State.setCore_ilk ..) (State.setCore_evr ..) (State.setCore_home ..)]
  | engine e =>
    have ha : ¬ 0x20000000 ≤ a := by simpa [procParty] using h
    obtain ⟨x, hx, _⟩ := onward_engine s e
    rw [loadMem, if_neg ha, hx, State.rdMemN_congr (State.setEngine_mem ..)]
    rfl
  | line l =>
    simp only [stepLeft] at hs
    split at hs
    · next r hr =>
      obtain ⟨q, hx, _, hb, _⟩ := onward_line hr
      rw [loadMem, hx, scratchBytes_setRoute hr hb]
      rfl
    · cases hs

/-- A load of a register by a core or an engine is that party's read of it. -/
theorem loadMem_reg {s : State} {p : Proc} {q : Party} (hq : procParty p = some q) {a : Nat} (h : 0x20000000 ≤ a)
    (n : Nat) : loadMem s p a n = (BitVec.ofNat 64 (regLoad s q a n).1, (regLoad s q a n).2) := by
  cases p with
  | core c =>
    cases hq
    rw [loadMem, if_pos h]
  | engine e =>
    cases hq
    rw [loadMem, if_pos h]
  | line n => cases hq

/-- A load whose access is permitted. -/
theorem opLoad_awake {s : State} {p : Proc} {n : Nat} {rd ra : RegNo} {imm : BitVec 16}
    (h : accessFault s p .load (greg s p ra + imm.signExtend 64).toNat n false = none) :
    opLoad n p rd ra imm (awake s p) =
      if readStalls s p (greg s p ra + imm.signExtend 64).toNat = true then awake s p
      else setGreg (loadMem (onward s p) p (greg s p ra + imm.signExtend 64).toNat n).2 p rd
        (loadMem (onward s p) p (greg s p ra + imm.signExtend 64).toNat n).1 := by
  simp only [opLoad, addrOf_awake, accessFault_awake, h, readStalls_awake]
  rfl

/-- What a register's read leaves of a processor that has gone on and takes the value. -/
theorem regLoad_spec {s : State} {p : Proc} {q : Party} (hq : procParty p = some q) (hs : stepLeft s p = true)
    (rd : RegNo) (a n : Nat) (v : Dword) :
    ProcBut p [.regs, .held, .irq, .irq1] s (setGreg (regLoad (onward s p) q a n).2 p rd v) ∧
      pcOf (setGreg (regLoad (onward s p) q a n).2 p rd v) p = pcOf s p + 4 ∧
      KeepsRegs p rd s (setGreg (regLoad (onward s p) q a n).2 p rd v) ∧
      greg (setGreg (regLoad (onward s p) q a n).2 p rd v) p rd = (if rd = 0 then 0 else v) := by
  obtain ⟨hg, hpc, ho⟩ := onward_spec hq hs
  have hf := regLoad_frame (onward s p) q a n (procParty_ne_agent hq)
  obtain ⟨h1, h2, h3, h4⟩ := procBut_setGreg hq ho hf (by cases p <;> simp [procPart]) rd v
  exact ⟨h1, h2.trans hpc, fun r hr => (h3 r hr).trans (hg r), h4⟩

/-- The command of a load of `n` bytes. -/
theorem loads_of {i : Instr} {w : Wop} {s : State} {p : Proc} {n : Nat} {rd ra : RegNo} {imm : BitVec 16}
    (he : exec i s = act s (runWop p w (opLoad n p rd ra imm))) (h : Ready s p w)
    (hf : accessFault s p .load (greg s p ra + imm.signExtend 64).toNat n false = none) :
    let a := (greg s p ra + imm.signExtend 64).toNat
    (readStalls s p a = true → exec i s = .next (awake s p)) ∧
    (readStalls s p a = false → ∃ t, exec i s = .next t ∧ pcOf t p = pcOf s p + 4 ∧ KeepsRegs p rd s t ∧
      ((a < 0x20000000 ∨ procParty p = none) → OnlyProc p s t ∧
        greg t p rd = if rd = 0 then 0 else valueOf (bytesAt s p a n)) ∧
      (∀ q, procParty p = some q → 0x20000000 ≤ a → ProcBut p [.regs, .held, .irq, .irq1] s t ∧
        t = setGreg (regLoad (onward s p) q a n).2 p rd (BitVec.ofNat 64 (regLoad (onward s p) q a n).1) ∧
        greg t p rd = if rd = 0 then 0 else BitVec.ofNat 64 (regLoad (onward s p) q a n).1)) := by
  intro a
  obtain ⟨_, _, _, _, hs⟩ := id h
  rw [he.trans (act_ready h _), opLoad_awake hf]
  refine ⟨fun hstall => ?_, fun hstall => ?_⟩
  · rw [if_pos hstall, countStep_awake_of_stall hstall]
  · rw [if_neg (by rw [hstall]; simp)]
    refine ⟨_, rfl, ?_⟩
    by_cases hm : a < 0x20000000 ∨ procParty p = none
    · rw [loadMem_bytes hs hm]
      simp only [onward, setGreg_advance]
      obtain ⟨hg, hpc, hk, ho⟩ := result_spec hs rd (valueOf (bytesAt s p a n))
      refine ⟨hpc, hk, fun _ => ⟨ho, hg⟩, fun q hq ha => ?_⟩
      rcases hm with hm | hm
      · omega
      · rw [hq] at hm
        cases hm
    · obtain ⟨ha, hn⟩ := not_or.1 hm
      obtain ⟨q, hq⟩ := Option.ne_none_iff_exists'.1 hn
      have ha : 0x20000000 ≤ a := by omega
      have hc : ∀ t, countStep t p = t := countStep_of_ne_s (by rintro hp; cases p <;> cases hp; cases hq)
      rw [loadMem_reg hq ha, hc]
      obtain ⟨hb, hpc, hk, hg⟩ := regLoad_spec hq hs rd a n (BitVec.ofNat 64 (regLoad (onward s p) q a n).1)
      refine ⟨hpc, hk, fun h => absurd h hm, fun q' hq' _ => ?_⟩
      rw [hq] at hq'
      cases hq'
      exact ⟨hb, rfl, hg⟩

/-- Settles O12: the four loads are one operation at four widths. -/
theorem loadResults : Obligations.LoadResults := by
  intro s p rd ra imm
  exact ⟨loads_of rfl, loads_of rfl, loads_of rfl, loads_of rfl⟩

/-! ### Stores -/

/-- A core stores nothing in the boot ROM (R404). -/
theorem store_above_rom {s : State} {c : Fin 2} {a n : Nat} {x : Bool}
    (h : accessFault s (.core c) .store a n x = none) : 0x40000 ≤ a := by
  by_contra ha
  have hm : mapAnswers s .store a = false := by simp [mapAnswers, Nat.lt_of_not_le ha]
  simp only [accessFault, hm] at h
  split_ifs at h
  assumption

theorem engMap_above_rom (e a : Nat) : 0x40000 ≤ engMap e a := by
  unfold engMap engineBase sharedBase
  split <;> omega

/-- A store by a core or an engine, in a state that its processor alone has changed, to an address that is no register:
the bytes stand there, and nothing else changes. -/
theorem storeMem_spec {s u : State} {p : Proc} {q : Party} (hq : procParty p = some q) (ho : OnlyProc p s u) {a n : Nat}
    {x : Bool} (ha : a < 0x20000000) (hf : accessFault s p .store a n x = none) (v : Dword) :
    Stored p a n v s (storeMem u p a n v) ∧ StoreKeeps p s (storeMem u p a n v) ∧
      pcOf (storeMem u p a n v) p = pcOf u p ∧ ∀ r, greg (storeMem u p a n v) p r = greg u p r := by
  have ha : ¬ 0x20000000 ≤ a := Nat.not_le.2 ha
  cases p with
  | core c =>
    obtain ⟨hall, hother, hself⟩ := ho
    have hst := stored_of s u (hall .mem (by simp)) a n v (store_above_rom hf)
    have hw := AllBut.wrMemN u a (leBytes n v.toNat)
    rw [storeMem, if_neg ha]
    obtain ⟨m, hm⟩ := State.wrMemN_eq (leBytes n v.toNat) u a
    rw [hm] at hst hw ⊢
    exact ⟨hst, ⟨(hall.mono (by simp)).trans (hw.mono (by simp)), hother, hself⟩, rfl, fun _ => rfl⟩
  | engine e =>
    obtain ⟨hall, hother, hself⟩ := ho
    have hst := stored_of s u (hall .mem (by simp)) (engMap e.val a) n v (engMap_above_rom _ _)
    have hw := AllBut.wrMemN u (engMap e.val a) (leBytes n v.toNat)
    rw [storeMem, if_neg ha]
    obtain ⟨m, hm⟩ := State.wrMemN_eq (leBytes n v.toNat) u (engMap e.val a)
    rw [hm] at hst hw ⊢
    exact ⟨hst, ⟨(hall.mono (by simp)).trans (hw.mono (by simp)), hother, hself⟩, rfl, fun _ => rfl⟩
  | line n => cases hq

/-- A route's replacement within one bank leaves which bank's scratch its section reaches. -/
theorem scratchBank_setRoute {s : State} {n : Nat} {r q : Route} (h : (s.line n).route = some r) (hb : q.bank = r.bank) :
    scratchBank (s.setLine n { s.line n with route := some q }) n = scratchBank s n := by
  simp [scratchBank, h, hb]

theorem bankOf_setRoute (s : State) (n b : Nat) (q : Option Route) :
    bankOf (s.setLine n { s.line n with route := q }) n b = bankOf s n b := by
  simp [bankOf]

/-- A bank's replacement in a port whose route has changed. -/
theorem line_setBank_setRoute (s : State) (n b : Nat) (q q' : Option Route) (x : Bank) :
    { (setBank (s.setLine n { s.line n with route := q }) n b x).line n with route := q' } =
      { (setBank s n b x).line n with route := q' } := by
  simp only [setBank_eq, State.line_setLine_self]
  split <;> rfl

theorem Line.with_route {x : Line} {r : Option Route} (h : x.route = r) : { x with route := r } = x := by
  rw [← h]

theorem route_setBank (s : State) (n b : Nat) (x : Bank) : ((setBank s n b x).line n).route = (s.line n).route := by
  rw [setBank_eq, State.line_setLine_self]
  split <;> rfl

theorem AllBut.setLine (s : State) (n : Nat) (x : Line) : AllBut [.lines] s (s.setLine n x) :=
  allBut_of _ s _ (fun q => by cases q <;> simp [sameIn])

/-- A store of a section processor on a route, which goes on and counts a step: its bytes stand in the scratch of the
route's bank. -/
theorem scratchStore_spec {s : State} {l : Fin 32} (hs : stepLeft s (.line l) = true) (o : Nat) (bs : List Byte) :
    scratchBytes (countStep (scratchWrite (onward s (.line l)) l.val o bs) (.line l)) l.val o bs.length = bs ∧
    (∀ j, (j < o ∨ o + bs.length ≤ j) →
      scratchBytes (countStep (scratchWrite (onward s (.line l)) l.val o bs) (.line l)) l.val j 1 = scratchBytes s l.val j 1) ∧
    StoreKeeps (.line l) s (countStep (scratchWrite (onward s (.line l)) l.val o bs) (.line l)) ∧
    pcOf (countStep (scratchWrite (onward s (.line l)) l.val o bs) (.line l)) (.line l) = pcOf s (.line l) + 4 ∧
    ∀ r, greg (countStep (scratchWrite (onward s (.line l)) l.val o bs) (.line l)) (.line l) r = greg s (.line l) r := by
  have hm := moved_spec (moved_onward hs)
  simp only [stepLeft] at hs
  split at hs
  case h_2 => cases hs
  next r hr =>
  obtain ⟨q, hx, hj, hb, hsteps⟩ := onward_line hr
  obtain ⟨h1, h2, m, h3⟩ := scratchWrite_spec (onward s (.line l)) l.val o bs
  have hq : ((scratchWrite (onward s (.line l)) l.val o bs).line l.val).route = some q := by
    rw [h3, route_setBank, hx, State.line_setLine_self]
  have hlt : q.steps + 1 < routeBound q := by
    rw [hsteps, routeBound, hj]
    exact of_decide_eq_true hs
  have ho : (onward s (.line l)).line l.val = { s.line l.val with route := some q } := by
    rw [hx, State.line_setLine_self]
  obtain ⟨hg, hpc, _⟩ := hm
  have hfrom : ∀ j k, scratchBytes (onward s (.line l)) l.val j k = scratchBytes s l.val j k := fun j k => by
    rw [hx, scratchBytes_setRoute hr hb]
  rw [countStep_line (by rw [ho]) hlt] at hg hpc
  rw [countStep_line hq hlt]
  have hcount := scratchBytes_setRoute (q := { q with steps := q.steps + 1 }) hq rfl
  refine ⟨(hcount _ _).trans h1, fun j hj => ?_, ⟨?_, fun k hk => ?_, ⟨m, ?_⟩, ?_⟩, ?_, fun k => ?_⟩
  · exact (hcount _ _).trans ((h2 j hj).trans (hfrom _ _))
  · refine AllBut.trans ?_ (AllBut.setLine _ _ _)
    rw [h3, setBank_eq, hx]
    exact (AllBut.setLine _ _ _).trans (AllBut.setLine _ _ _)
  · rw [State.line_setLine_of_ne _ _ hk, h3, setBank_eq, State.line_setLine_of_ne _ _ hk, hx, State.line_setLine_of_ne _ _ hk]
  · rw [State.line_setLine_self, h3, hx, scratchBank_setRoute hr hb, bankOf_setRoute, line_setBank_setRoute, hr]
    exact Line.with_route (by rw [route_setBank, hr])
  · rw [State.line_setLine_self, hr, Option.map_some, Option.map_some, hj, hb]
  · rw [← hpc]
    simp [pcOf]
  · rw [greg_eq s _ _ (by simpa [stepLeft, hr] using hs), ← hg]
    simp [greg]

/-- The command of a store of `n` bytes. -/
theorem stores_of {i : Instr} {w : Wop} {s : State} {p : Proc} {n : Nat} {rs ra : RegNo} {imm : BitVec 16}
    (he : exec i s = actSettle s (runWop p w (opStore n p rs ra imm))) (h : Ready s p w)
    (hf : accessFault s p .store (greg s p ra + imm.signExtend 64).toNat n false = none) :
    let a := (greg s p ra + imm.signExtend 64).toNat
    ∃ u, exec i s = settled u ∧
      ((a < 0x20000000 ∨ procParty p = none) → Stored p a n (greg s p rs) s u ∧ pcOf u p = pcOf s p + 4 ∧
        (∀ r, greg u p r = greg s p r) ∧ StoreKeeps p s u) ∧
      (∀ q, procParty p = some q → 0x20000000 ≤ a →
        u = regStore (onward s p) q a n ((greg s p rs).toNat % 256 ^ n)) := by
  intro a
  obtain ⟨_, _, _, _, hs⟩ := id h
  have hop : opStore n p rs ra imm (awake s p) = storeMem (onward s p) p a n (greg s p rs) := by
    simp only [opStore, addrOf_awake, accessFault_awake, hf, greg_awake]
    rfl
  refine ⟨_, he.trans (actSettle_ready h _), ?_⟩
  rw [hop]
  cases hp : procParty p with
  | some q =>
    have hc : ∀ t, countStep t p = t := countStep_of_ne_s (by rintro hn; cases p <;> cases hn; cases hp)
    rw [hc]
    obtain ⟨hg, hpc, ho⟩ := onward_spec hp hs
    refine ⟨fun ha => ?_, fun q' hq' ha => ?_⟩
    · obtain ⟨h1, h2, h3, h4⟩ := storeMem_spec hp ho (ha.resolve_right nofun) hf (greg s p rs)
      exact ⟨h1, h3.trans hpc, fun r => (h4 r).trans (hg r), h2⟩
    · cases hq'
      cases p <;> cases hp <;> exact if_pos ha
  | none =>
    cases p with
    | core c => cases hp
    | engine e => cases hp
    | line l =>
      obtain ⟨h1, h2, h3, h4, h5⟩ := scratchStore_spec hs (a - 0x4000) (leBytes n (greg s (.line l) rs).toNat)
      rw [leBytes_length] at h1 h2
      exact ⟨fun _ => ⟨⟨h1, h2, h3.1 .mem (by decide)⟩, h4, h5, h3⟩, nofun⟩

/-- Settles O13: the four stores are one operation at four widths. -/
theorem storeResults : Obligations.StoreResults := by
  intro s p rs ra imm
  exact ⟨stores_of rfl, stores_of rfl, stores_of rfl, stores_of rfl⟩

/-! ### Atomics -/

/-- An instruction that no section processor has is executed by a processor that is a party to registers. -/
theorem procParty_of_legal {p : Proc} {w : Wop} (h : wopLegal p.profile w = true) (hs : wopInProfile .s w = false) :
    ∃ q, procParty p = some q := by
  cases p with
  | core c => exact ⟨_, rfl⟩
  | engine e => exact ⟨_, rfl⟩
  | line n => simp [wopLegal, Proc.profile, hs] at h

/-- The command of an atomic that stores what `f` makes of the old value. -/
theorem swaps_of {i : Instr} {w : Wop} {s : State} {p : Proc} {rd ra : RegNo} {f : Dword → Option Dword}
    {body : State → State} (he : exec i s = actSettle s (runWop p w body))
    (hb : body (awake s p) = opAtomic f p rd ra (awake s p)) (hw : wopInProfile .s w = false) (h : Ready s p w)
    (hl : accessFault s p .load (greg s p ra).toNat 8 true = none)
    (hst : accessFault s p .store (greg s p ra).toNat 8 true = none) :
    let a := (greg s p ra).toNat
    (readStalls s p a = true → exec i s = settled (awake s p)) ∧
    (readStalls s p a = false →
      (a < 0x20000000 →
        let old := valueOf (bytesAt s p a 8)
        ∃ u, exec i s = settled u ∧ greg u p rd = (if rd = 0 then 0 else old) ∧ KeepsRegs p rd s u ∧
          pcOf u p = pcOf s p + 4 ∧
          match f old with
          | some v => Stored p a 8 v s u ∧ StoreKeeps p s u
          | none => OnlyProc p s u) ∧
      (∀ q, procParty p = some q → 0x20000000 ≤ a →
        let r := regLoad (onward s p) q a 8
        let t := setGreg r.2 p rd (BitVec.ofNat 64 r.1)
        ProcBut p [.regs, .held, .irq, .irq1] s t ∧ pcOf t p = pcOf s p + 4 ∧ KeepsRegs p rd s t ∧
        greg t p rd = (if rd = 0 then 0 else BitVec.ofNat 64 r.1) ∧
        exec i s = settled (match f (BitVec.ofNat 64 r.1) with
          | some v => regStore t q a 8 v.toNat
          | none => t))) := by
  intro a
  obtain ⟨_, _, _, hlegal, hs⟩ := id h
  obtain ⟨q, hq⟩ := procParty_of_legal hlegal hw
  have hc : ∀ t, countStep t p = t := countStep_of_ne_s (by rintro hn; cases p <;> cases hn; cases hq)
  have hbody : body (awake s p) = if readStalls s p a = true then awake s p else
      match f (loadMem (onward s p) p a 8).1 with
      | some v => storeMem (setGreg (loadMem (onward s p) p a 8).2 p rd (loadMem (onward s p) p a 8).1) p a 8 v
      | none => setGreg (loadMem (onward s p) p a 8).2 p rd (loadMem (onward s p) p a 8).1 := by
    simp only [hb, opAtomic, atomicFault, greg_awake, accessFault_awake, hl, hst, readStalls_awake]
    rfl
  rw [he.trans (actSettle_ready h _), hc, hbody]
  refine ⟨fun hstall => by rw [if_pos hstall], fun hstall => ?_⟩
  rw [if_neg (by rw [hstall]; simp)]
  refine ⟨fun ha => ?_, fun q' hq' ha => ?_⟩
  · refine ⟨_, rfl, ?_⟩
    obtain ⟨hg, hpc, hk, ho⟩ := result_spec hs rd (valueOf (bytesAt s p a 8))
    rw [loadMem_bytes hs (.inl ha)]
    simp only [onward, setGreg_advance]
    rw [hc] at hg hpc hk ho
    cases f (valueOf (bytesAt s p a 8)) with
    | none => exact ⟨hg, hk, hpc, ho⟩
    | some v =>
      obtain ⟨h1, h2, h3, h4⟩ := storeMem_spec hq ho ha hst v
      exact ⟨(h4 rd).trans hg, fun r hr => (h4 r).trans (hk r hr), h3.trans hpc, h1, h2⟩
  · rw [hq] at hq'
    cases hq'
    obtain ⟨h1, h2, h3, h4⟩ := regLoad_spec hq hs rd a 8 (BitVec.ofNat 64 (regLoad (onward s p) q a 8).1)
    refine ⟨h1, h2, h3, h4, ?_⟩
    rw [loadMem_reg hq ha]
    cases f (BitVec.ofNat 64 (regLoad (onward s p) q a 8).1) with
    | none => rfl
    | some v =>
      have hv : v.toNat % 256 ^ 8 = v.toNat := Nat.mod_eq_of_lt v.isLt
      cases p <;> cases hq <;> simp only [storeMem, if_pos ha, hv]

/-- Settles O14: the three atomics are one operation with three functions of the old value; a fence only goes on. -/
theorem atomicResults : Obligations.AtomicResults := by
  intro s p rd ra rb kinds
  refine ⟨swaps_of (f := fun old => some (old + greg s p rb)) rfl ?_ rfl,
    swaps_of (f := fun _ => some (greg s p rb)) rfl ?_ rfl,
    swaps_of (f := fun old => if old = greg s p rd then some (greg s p rb) else none) rfl ?_ rfl,
    goes_of rfl (fun _ => by rw [opFence, advance, pcOf_awake]) (next_aligned s p)⟩
  · simp only [opAmoadd, greg_awake]
  · simp only [opAmoswap, greg_awake]
  · simp only [opCas, greg_awake]

end Sys2Proof.Machine
end

section
/-! State registers, identity values and PARK (R30, R50, R56). -/

namespace Sys2Proof.Machine

/-! ### Ready processors -/

theorem core_awake {s : State} {c : Fin 2} {w : Wop} (h : Ready s (.core c) w) :
    (awake s (.core c)).core c = { s.core c with run := .running } := (awake_core s c h.2.1).1

/-- An engine whose pc has been set to the next instruction's is there. -/
theorem pcOf_setEngine_next {s : State} {e : Fin 512} {x : Engine} (h : x.pc = (pcOf s (.engine e) + 4).toNat)
    (u : State) : pcOf (u.setEngine e.val x) (.engine e) = pcOf s (.engine e) + 4 := by
  rw [pcOf, State.engine_setEngine_self, h, BitVec.ofNat_toNat, BitVec.setWidth_eq]

/-- What a core does once it is awake it does beside its own return from PARK. -/
theorem coreNext_of_awake {s t : State} {c : Fin 2} {w : Wop} (h : Ready s (.core c) w) {x : Core} {ps : List Part}
    (hc : t.core c = { x with pc := (s.core c).pc + 4, run := .running })
    (ho : ∀ d, d ≠ c → t.core d = (awake s (.core c)).core d) (hb : AllBut (.cores :: ps) (awake s (.core c)) t) :
    CoreNext c x ps s t := by
  obtain ⟨_, hother, hall⟩ := awake_core s c h.2.1
  exact ⟨hc, fun d hd => (ho d hd).trans (hother d hd), (hall.mono (by simp)).trans hb⟩

/-! ### MFS and MTS -/

/-- MFS of a register that the read leaves as it is writes its value. -/
theorem mfs_writes {s : State} {p : Proc} {rd : RegNo} {num : BitVec 12} {v : Dword}
    (h : Ready s p (.mfs rd num) → stateReg (awake s p) p num.toNat = some (v, awake s p)) :
    Writes (.mfs p rd num) (.mfs rd num) s p rd v :=
  writes_of rfl (fun hr => by rw [opMfs, h hr]) rfl

/-- CS_CYCLE of a core: a free value, which it keeps (log entry 12). -/
theorem mfs_cycle_core {s : State} {c : Fin 2} {rd : RegNo} (h : Ready s (.core c) (.mfs rd 0x010)) :
    ∃ (t : State) (v : Dword), exec (.mfs (.core c) rd 0x010) s = .next t ∧
      CoreNext c { s.core c with g := gSet (s.core c).g rd v, cycle := v } [.freeCtr] s t := by
  refine ⟨_, (awake s (.core c)).free.1, act_ready h _, coreNext_of_awake h ?_ (fun d hd => ?_) ?_⟩
  · simp [countStep, opMfs, stateReg, result, advance, setPc, setGreg, pcOf, core_awake h]
  · simp [countStep, opMfs, stateReg, result, advance, setPc, setGreg, State.core_setCore_of_ne _ _ hd,
      State.free]
    rfl
  · exact allBut_of _ _ _ (fun q => by
      cases q <;> simp [sameIn, countStep, opMfs, stateReg, result, advance, setPc, setGreg, State.free])

/-- CS_CYCLE of an engine. -/
theorem mfs_cycle_engine {s : State} {e : Fin 512} {rd : RegNo} (h : Ready s (.engine e) (.mfs rd 0x010)) :
    ∃ (t : State) (v : Dword), exec (.mfs (.engine e) rd 0x010) s = .next t ∧
      EngineNext e { s.engine e.val with g := gSet (s.engine e.val).g rd v, cycle := v } [.freeCtr] s t := by
  refine ⟨_, s.free.1, act_ready h _, ?_, ?_, fun f hf => ?_, ?_⟩
  · simp [countStep, opMfs, stateReg, result, advance, setPc, setGreg, awake]
  · refine pcOf_setEngine_next ?_ _
    simp [setGreg, pcOf, awake]
  · simp [countStep, opMfs, stateReg, result, advance, setPc, setGreg, awake, State.engine_setEngine_of_ne _ _ hf]
    rfl
  · exact allBut_of _ _ _ (fun q => by
      cases q <;> simp [sameIn, countStep, opMfs, stateReg, result, advance, setPc, setGreg, State.free, awake])

/-- MTS of a register that the table writes replaces the core's own. -/
theorem mts_writes {s : State} {c : Fin 2} {rs : RegNo} {num : BitVec 12} {x : Core}
    (h : Ready s (.core c) (.mts rs num))
    (hx : setStateReg { s.core c with run := .running } num.toNat (greg s (.core c) rs) =
      some { x with run := .running }) (hpc : x.pc = (s.core c).pc) :
    ∃ t, exec (.mts (.core c) rs num) s = .next t ∧ CoreNext c x [] s t := by
  have hop : opMts (.core c) rs num (awake s (.core c)) =
      advance ((awake s (.core c)).setCore c { x with run := .running }) (.core c) := by
    simp only [opMts, core_awake h, greg_awake, hx]
  refine ⟨_, (act_ready h _).trans (congrArg _ (congrArg (countStep · _) hop)),
    coreNext_of_awake h ?_ (fun d hd => ?_) ?_⟩
  · simp [countStep, advance, setPc, pcOf, hpc]
  · simp [countStep, advance, setPc, State.core_setCore_of_ne _ _ hd]
  · exact allBut_of _ _ _ (fun q => by cases q <;> simp [sameIn, countStep, advance, setPc])

/-! ### IDENT -/

theorem identValue_awake (s : State) (p : Proc) (sel : Nat) : identValue (awake s p) p sel = identValue s p sel := by
  cases p with
  | core c =>
    have hd : (awake s (.core c)).duty = s.duty := by
      simp only [awake]
      split <;> rfl
    simp only [identValue, hd]
  | engine e => rfl
  | line n => rfl

/-- No selector above 3 names an identity value. -/
theorem identValue_eq_none {s : State} {p : Proc} {sel : Nat} (h : 3 < sel) : identValue s p sel = none := by
  obtain ⟨k, rfl⟩ : ∃ k, sel = k + 4 := ⟨sel - 4, by omega⟩
  cases p <;> rfl

/-- IDENT of a selector that names a value writes it. -/
theorem ident_writes {s : State} {p : Proc} {rd : RegNo} {sel : BitVec 4} {v : Nat}
    (h : identValue s p sel.toNat = some v) :
    Writes (.ident p rd sel) (.ident rd sel) s p rd (BitVec.ofNat 64 v) :=
  writes_of rfl (fun _ => by simp only [opIdent, identValue_awake, h]) rfl

/-! ### PARK -/

/-- What is pending in a core does not depend on its pc and running state. -/
theorem ipend_setCore (s : State) (c : Fin 2) (x : Core) (ht : x.timecmp = (s.core c).timecmp)
    (hc : x.cycle = (s.core c).cycle) : ipend (s.setCore c x) c = ipend s c := by
  unfold ipend
  simp only [State.core_setCore_self, ht, hc]
  rfl

/-- PARK of a core. -/
theorem park_core {s : State} {c : Fin 2} (h : Ready s (.core c) .park) : ∃ t, exec (.park (.core c)) s = .next t ∧
    t.core c = { s.core c with
      pc := (s.core c).pc + 4, run := if ipend s c &&& (s.core c).ien = 0 then .parked else .running } ∧
    (∀ d, d ≠ c → t.core d = s.core d) ∧ AllBut [.cores] s t := by
  obtain ⟨hself, hother, hall⟩ := awake_core s c h.2.1
  have hadv : advance (awake s (.core c)) (.core c) =
      (awake s (.core c)).setCore c { s.core c with pc := (s.core c).pc + 4, run := .running } := by
    simp only [advance, setPc, pcOf, hself]
  have hwake : wakesCore (advance (awake s (.core c)) (.core c)) c = (ipend s c &&& (s.core c).ien != 0) := by
    rw [hadv, wakesCore, ipend_setCore _ _ _ (by rw [hself]) (by rw [hself]), ipend_awake, State.core_setCore_self]
  refine ⟨_, act_ready h _, ?_⟩
  simp only [countStep, opPark, hwake]
  rw [hadv]
  by_cases hz : ipend s c &&& (s.core c).ien = 0
  · simp only [hz, bne_self_eq_false, if_true, Bool.false_eq_true, if_false, State.core_setCore_self, State.setCore_setCore]
    exact ⟨trivial, fun d hd => (State.core_setCore_of_ne _ _ hd).trans (hother d hd), hall.trans (AllBut.setCore _ _ _)⟩
  · simp only [hz, bne_iff_ne.2 hz, if_true, if_false, State.core_setCore_self]
    exact ⟨trivial, fun d hd => (State.core_setCore_of_ne _ _ hd).trans (hother d hd), hall.trans (AllBut.setCore _ _ _)⟩

/-- PARK of an engine. -/
theorem park_engine {s : State} {e : Fin 512} (h : Ready s (.engine e) .park) : ∃ t, exec (.park (.engine e)) s = .next t ∧
    EngineNext e { s.engine e.val with run := if (s.engine e.val).wake then .running else .parked } [] s t := by
  have hrun : (s.engine e.val).run = .running := by
    have := h.2.1
    simp only [procReady, Bool.and_eq_true, beq_iff_eq] at this
    exact this.1.1.1
  refine ⟨_, act_ready h _, ?_⟩
  by_cases hw : (s.engine e.val).wake = true
  · simp only [countStep, opPark, awake, advance, setPc, pcOf, State.engine_setEngine_self, hw, if_true]
    refine ⟨?_, ?_, fun f hf => State.engine_setEngine_of_ne _ _ hf, AllBut.setEngine _ _ _⟩
    · rw [State.engine_setEngine_self, ← hrun]
    · exact pcOf_setEngine_next rfl s
  · simp only [countStep, opPark, awake, advance, setPc, pcOf, State.engine_setEngine_self, hw, if_false,
      State.setEngine_setEngine, Bool.false_eq_true]
    refine ⟨?_, ?_, fun f hf => State.engine_setEngine_of_ne _ _ hf, AllBut.setEngine _ _ _⟩
    · rw [State.engine_setEngine_self]
    · exact pcOf_setEngine_next rfl s

/-- Settles O17: each register, selector and wake condition by its own lemma. -/
theorem stateRegisters : Obligations.StateRegisters := by
  refine ⟨fun s c rd => ?mfs, fun s c rd => mfs_cycle_core, fun s e rd => mfs_cycle_engine, fun s c rs => ?mts,
    fun s p rd => ?ident, fun s p rd sel hsel hp h => ?illegal, fun s c => park_core, fun s e => park_engine⟩
  case mfs =>
    simp only [List.forall_mem_cons, List.not_mem_nil, false_implies, implies_true, and_true]
    refine ⟨?_, ?_, ?_, ?_, ?_, ?_, ?_, mfs_writes fun h => ?ipend, ?_⟩
    case ipend => exact congrArg (fun v => some (v, _)) (ipend_awake s c)
    all_goals exact mfs_writes fun h => by simp [stateReg, core_awake h]
  case mts =>
    simp only [List.forall_mem_cons, List.not_mem_nil, false_implies, implies_true, and_true]
    refine ⟨?_, ?_, ?_, ?_, ?_, ?_, ?_, ?_⟩
    all_goals exact fun h => mts_writes h rfl rfl
  case ident =>
    intro values k hk
    refine ident_writes (v := values.getD k 0) ?_
    interval_cases k <;> cases p <;> simp [identValue, values, b2n]
  case illegal =>
    have hop : opIdent p rd sel (awake s p) = illegal (awake s p) p (.ident rd sel) := by
      simp only [opIdent, identValue_eq_none hsel]
    exact (act_ready h _).trans (congrArg _ ((congrArg (countStep · p) hop).trans (countStep_of_ne_s hp _)))

end Sys2Proof.Machine
end

section
/-! A step with nothing queued (R11, R25, R261, R262, R330, R380): the tick of operating time, the ages of the timetable and
its due flags. -/

namespace Sys2Proof.Machine

/-! ### Addresses -/

theorem ttAge_ne_ttStat (j k : Nat) : Reg.FIX_TT_AGE j ≠ Reg.FIX_TT_STAT k := by
  unfold Reg.FIX_TT_AGE Reg.FIX_TT_STAT
  omega

theorem ttAge_inj {j k : Nat} : Reg.FIX_TT_AGE j = Reg.FIX_TT_AGE k ↔ j = k := by
  unfold Reg.FIX_TT_AGE
  omega

theorem ttStat_inj {j k : Nat} : Reg.FIX_TT_STAT j = Reg.FIX_TT_STAT k ↔ j = k := by
  unfold Reg.FIX_TT_STAT
  omega

/-- The tick counter's words are not the timetable's. -/
theorem tick_ne_tt (k : Nat) : Reg.TMP_VBAT_TICK_LO ≠ Reg.FIX_TT_AGE k ∧ Reg.TMP_VBAT_TICK_LO ≠ Reg.FIX_TT_STAT k ∧
    Reg.TMP_VBAT_TICK_HI ≠ Reg.FIX_TT_AGE k ∧ Reg.TMP_VBAT_TICK_HI ≠ Reg.FIX_TT_STAT k := by
  unfold Reg.FIX_TT_AGE Reg.FIX_TT_STAT Reg.TMP_VBAT_TICK_LO Reg.TMP_VBAT_TICK_HI
  omega

/-! ### Ages -/

/-- One entry's second of age. -/
def ageEntry (s : State) (e : Nat × TtEntry) : State :=
  if s.bit (Reg.FIX_TT_STAT e.1) 0 then s.inc (Reg.FIX_TT_AGE e.1) else s

theorem ageEntries_eq (s : State) : ageEntries s = s.fix.tt.foldl ageEntry s := rfl

theorem AllBut.ageEntry (s : State) (e : Nat × TtEntry) : AllBut [.regs] s (ageEntry s e) := by
  unfold Machine.ageEntry
  split
  · exact AllBut.inc s _
  · exact AllBut.refl _ s

theorem rd_ageEntry_of_ne (s : State) (e : Nat × TtEntry) {a : Nat} (h : a ≠ Reg.FIX_TT_AGE e.1) :
    (ageEntry s e).rd a = s.rd a := by
  unfold ageEntry
  split
  · exact State.rd_inc_of_ne s h
  · rfl

theorem rd_ageEntry (s : State) (e : Nat × TtEntry) : (ageEntry s e).rd (Reg.FIX_TT_AGE e.1) =
    if s.bit (Reg.FIX_TT_STAT e.1) 0 = true then satInc (s.rd (Reg.FIX_TT_AGE e.1)) else s.rd (Reg.FIX_TT_AGE e.1) := by
  unfold ageEntry
  split
  · exact State.rd_wr_self _ _ _
  · rfl

theorem rd_foldl_ageEntry_of_ne (l : List (Nat × TtEntry)) {a : Nat} (h : ∀ e ∈ l, a ≠ Reg.FIX_TT_AGE e.1) (s : State) :
    (l.foldl ageEntry s).rd a = s.rd a := by
  induction l generalizing s with
  | nil => rfl
  | cons e l ih =>
    rw [List.foldl_cons, ih (fun x hx => h x (List.mem_cons_of_mem _ hx)), rd_ageEntry_of_ne _ _ (h e List.mem_cons_self)]

/-- Distinct entries age each once. -/
theorem rd_foldl_ageEntry (l : List (Nat × TtEntry)) (hl : (l.map Prod.fst).Nodup) (s : State) (k : Nat) :
    (l.foldl ageEntry s).rd (Reg.FIX_TT_AGE k) =
      if k ∈ l.map Prod.fst ∧ s.bit (Reg.FIX_TT_STAT k) 0 = true then satInc (s.rd (Reg.FIX_TT_AGE k))
      else s.rd (Reg.FIX_TT_AGE k) := by
  induction l generalizing s with
  | nil => simp
  | cons e l ih =>
    simp only [List.map_cons, List.nodup_cons] at hl
    have hbit : (ageEntry s e).bit (Reg.FIX_TT_STAT k) 0 = s.bit (Reg.FIX_TT_STAT k) 0 := by
      rw [State.bit, State.bit, rd_ageEntry_of_ne _ _ (ttAge_ne_ttStat _ _).symm]
    rw [List.foldl_cons]
    by_cases hk : k = e.1
    · subst hk
      rw [rd_foldl_ageEntry_of_ne l fun x hx h => hl.1 (by
        rw [ttAge_inj.1 h]
        exact List.mem_map_of_mem hx), rd_ageEntry]
      simp
    · rw [ih hl.2, hbit, rd_ageEntry_of_ne _ _ (fun h => hk (ttAge_inj.1 h))]
      simp only [List.map_cons, List.mem_cons, hk, false_or]

/-! ### Due flags -/

/-- Whether an entry is due does not depend on the flags that say so. -/
theorem ttDue_setBit (s : State) (j k : Nat) (b : Bool) : ttDue (s.setBit (Reg.FIX_TT_STAT j) 1 b) k = ttDue s k := by
  have h2 : (s.setBit (Reg.FIX_TT_STAT j) 1 b).bit (Reg.FIX_TT_STAT k) 2 = s.bit (Reg.FIX_TT_STAT k) 2 := by
    by_cases hk : k = j
    · subst hk
      rw [State.bit_setBit s _ 1 2 b (by decide) (by decide)]
      rfl
    · exact State.bit_setBit_of_ne s _ _ _ (fun h => hk (ttStat_inj.1 h))
  have hctl : Reg.FIX_CTL ≠ Reg.FIX_TT_STAT j := by unfold Reg.FIX_CTL Reg.FIX_TT_STAT; omega
  have hldg : Reg.LDG_STAT ≠ Reg.FIX_TT_STAT j := by unfold Reg.LDG_STAT Reg.FIX_TT_STAT; omega
  simp only [ttDue, h2, ttEntry, ldgState, State.fld, State.bit_setBit_of_ne s _ _ _ hctl, State.rd_setBit_of_ne s _ _ hldg,
    State.rd_setBit_of_ne s _ _ (ttAge_ne_ttStat k j), State.setBit_fix]

/-- The due flag of entry `k` in step with the entry. -/
def syncDue (s : State) (k : Nat) : State := s.setBit (Reg.FIX_TT_STAT k) 1 (ttDue s k)

theorem syncTt_eq (s : State) : syncTt s = (List.range 64).foldl syncDue s := rfl

theorem ttDue_foldl_syncDue (l : List Nat) (s : State) (k : Nat) : ttDue (l.foldl syncDue s) k = ttDue s k := by
  induction l generalizing s with
  | nil => rfl
  | cons j l ih => rw [List.foldl_cons, ih, syncDue, ttDue_setBit]

theorem rd_foldl_syncDue_of_ne (l : List Nat) {a : Nat} (h : ∀ k ∈ l, a ≠ Reg.FIX_TT_STAT k) (s : State) :
    (l.foldl syncDue s).rd a = s.rd a := by
  induction l generalizing s with
  | nil => rfl
  | cons j l ih =>
    rw [List.foldl_cons, ih (fun x hx => h x (List.mem_cons_of_mem _ hx)), syncDue,
      State.rd_setBit_of_ne _ _ _ (h j List.mem_cons_self)]

/-- Distinct flags follow each once. -/
theorem rd_foldl_syncDue {l : List Nat} (hl : l.Nodup) {k : Nat} (hk : k ∈ l) (s : State) :
    (l.foldl syncDue s).rd (Reg.FIX_TT_STAT k) = setBits (s.rd (Reg.FIX_TT_STAT k)) 1 1 (b2n (ttDue s k)) := by
  induction l generalizing s with
  | nil => cases hk
  | cons j l ih =>
    obtain ⟨hj, hl⟩ := List.nodup_cons.1 hl
    rw [List.foldl_cons]
    by_cases hkj : k = j
    · subst hkj
      rw [rd_foldl_syncDue_of_ne l fun x hx h => hj (by rwa [ttStat_inj.1 h])]
      exact State.rd_wr_self _ _ _
    · rw [ih hl ((List.mem_cons.1 hk).resolve_left hkj), syncDue, ttDue_setBit,
        State.rd_setBit_of_ne _ _ _ (fun h => hkj (ttStat_inj.1 h))]

/-! ### The tick -/

/-- A second of the timetable: every entry's age and every flag. -/
theorem syncTt_ageEntries_spec (s : State) (hl : (s.fix.tt.map Prod.fst).Nodup) :
    (∀ k, (syncTt (ageEntries s)).rd (Reg.FIX_TT_AGE k) =
      if k ∈ s.fix.tt.map Prod.fst ∧ s.bit (Reg.FIX_TT_STAT k) 0 = true then satInc (s.rd (Reg.FIX_TT_AGE k))
      else s.rd (Reg.FIX_TT_AGE k)) ∧
    (∀ k, k < 64 → (syncTt (ageEntries s)).rd (Reg.FIX_TT_STAT k) =
      setBits (s.rd (Reg.FIX_TT_STAT k)) 1 1 (b2n (ttDue (syncTt (ageEntries s)) k))) := by
  refine ⟨fun k => ?_, fun k hk => ?_⟩
  · rw [syncTt_eq, rd_foldl_syncDue_of_ne _ (fun _ _ => ttAge_ne_ttStat _ _), ageEntries_eq, rd_foldl_ageEntry _ hl]
  · rw [syncTt_eq, rd_foldl_syncDue List.nodup_range (List.mem_range.2 hk), ttDue_foldl_syncDue, ageEntries_eq,
      rd_foldl_ageEntry_of_ne _ (fun _ _ => (ttAge_ne_ttStat _ _).symm)]

/-- A second of the timetable leaves every other register. -/
theorem rd_syncTt_ageEntries (s : State) {a : Nat} (hage : ∀ e ∈ s.fix.tt, a ≠ Reg.FIX_TT_AGE e.1)
    (hstat : ∀ k < 64, a ≠ Reg.FIX_TT_STAT k) : (syncTt (ageEntries s)).rd a = s.rd a := by
  rw [syncTt_eq, rd_foldl_syncDue_of_ne _ (fun k hk => hstat k (List.mem_range.1 hk)), ageEntries_eq,
    rd_foldl_ageEntry_of_ne _ hage]

theorem AllBut.syncTt_ageEntries (s : State) : AllBut [.regs] s (syncTt (ageEntries s)) :=
  (AllBut.foldl AllBut.ageEntry _ s).trans (AllBut.foldl (fun u _ => AllBut.setBit u _ _ _) _ _)

/-- A pair reads back the value written to it. -/
theorem State.rd64_wr64 (s : State) {lo hi : Nat} (h : lo ≠ hi) {v : Nat} (hv : v < 2 ^ 64) :
    (s.wr64 lo hi v).rd64 lo hi = v := by
  rw [State.wr64, State.rd64, State.rd_wr_self, State.rd_wr_of_ne _ _ h, State.rd_wr_self]
  simp only [BitVec.toNat_ofNat]
  omega

/-- The counters of one tick: operating time, the tick counter, the memory test's key. -/
def tickCounters (s : State) : State :=
  ({ s with ot := (s.ot + 1) % 2 ^ 48, lcs := { s.lcs with mtmKey := false } } : State).wr64
    Reg.TMP_VBAT_TICK_LO Reg.TMP_VBAT_TICK_HI ((vbatTick s + 32) % 2 ^ 48)

/-- The state on which firmware goes on at a tick. -/
def ticked (s : State) : State :=
  if (s.ot + 1) % 2 ^ 48 % 1024 = 0 then syncTt (ageEntries (tickCounters s)) else tickCounters s

theorem tick_eq {s : State} (h : s.pwr.down = false) : tick s = settle (unpark (firmware (ticked s))) := by
  rw [tick, if_neg (by simp [h])]
  rfl

theorem AllBut.tickCounters (s : State) : AllBut [.ot, .lcs, .regs] s (tickCounters s) :=
  allBut_of _ _ _ (fun p => by cases p <;> simp [sameIn, Machine.tickCounters, State.wr64])

theorem rd_tickCounters (s : State) {a : Nat} (hlo : a ≠ Reg.TMP_VBAT_TICK_LO) (hhi : a ≠ Reg.TMP_VBAT_TICK_HI) :
    (tickCounters s).rd a = s.rd a := by
  rw [tickCounters, State.wr64, State.rd_wr_of_ne _ _ hhi, State.rd_wr_of_ne _ _ hlo]
  rfl

theorem vbatTick_tickCounters (s : State) : vbatTick (tickCounters s) = (vbatTick s + 32) % 2 ^ 48 := by
  rw [vbatTick, tickCounters, State.rd64_wr64 _ (by decide) (by omega), Nat.mod_mod]

theorem AllBut.ticked (s : State) : AllBut [.ot, .lcs, .regs] s (ticked s) := by
  unfold Machine.ticked
  split
  · exact (AllBut.tickCounters s).trans ((AllBut.syncTt_ageEntries _).mono (by simp))
  · exact AllBut.tickCounters s

/-- The timetable's second touches neither the counters nor the key. -/
theorem ticked_ot_lcs_vbatTick (s : State) : (ticked s).ot = (s.ot + 1) % 2 ^ 48 ∧
    (ticked s).lcs = { s.lcs with mtmKey := false } ∧ vbatTick (ticked s) = (vbatTick s + 32) % 2 ^ 48 := by
  unfold ticked
  split
  · have hb := AllBut.syncTt_ageEntries (tickCounters s)
    have hlo := rd_syncTt_ageEntries (tickCounters s) (fun e _ => (tick_ne_tt e.1).1) (fun k _ => (tick_ne_tt k).2.1)
    have hhi := rd_syncTt_ageEntries (tickCounters s) (fun e _ => (tick_ne_tt e.1).2.2.1)
      (fun k _ => (tick_ne_tt k).2.2.2)
    refine ⟨hb .ot (by decide), hb .lcs (by decide), ?_⟩
    rw [← vbatTick_tickCounters, vbatTick, vbatTick, State.rd64, State.rd64, hlo, hhi]
  · exact ⟨rfl, rfl, vbatTick_tickCounters s⟩

/-- Firmware that cannot run leaves everything but RTB_STAT.compacting. -/
theorem firmware_of_not_runs {s : State} (h : fwRuns s = false) : firmware s = s.setBit Reg.RTB_STAT 1 false := by
  have hd : Reg.PWR_DOM_STAT 1 ≠ Reg.RTB_STAT := by decide
  have hc : Reg.PWR_CLK_STAT ≠ Reg.RTB_STAT := by decide
  have hr : fwRuns (s.setBit Reg.RTB_STAT 1 false) = fwRuns s := by
    simp only [fwRuns, domState, domPhase, lineLocked, State.fld, State.rd_setBit_of_ne s _ _ hd,
      State.bit_setBit_of_ne s _ _ _ hc]
  simp only [firmware, hr, h, if_true]

/-- Settles O2: on an empty queue a step is a delayed request or a tick. -/
theorem emptyQueueTicks : Obligations.EmptyQueueTicks := by
  intro s hp
  have hstep : step s = idle s := by rw [step, hp]
  refine ⟨fun d hd => by rw [hstep, idle, hd], fun hn hdown => ?_, fun hn hdown => ?_⟩
  · rw [hstep, idle, hn]
    exact congrArg Host.Outcome.next (if_pos hdown)
  · have htt : (tickCounters s).fix = s.fix := rfl
    obtain ⟨hot', hlcs, hvbat⟩ := ticked_ot_lcs_vbatTick s
    refine ⟨ticked s, ?_, firmware_of_not_runs, hot', hlcs, hvbat, AllBut.ticked s, fun hot a ha => ?_, fun hot h64 hnd => ?_⟩
    · rw [hstep, idle, hn]
      exact congrArg Host.Outcome.next (tick_eq hdown)
    · rw [ticked, if_neg (by rwa [hot'] at hot)]
      simp only [List.mem_cons, List.not_mem_nil, or_false, not_or] at ha
      exact rd_tickCounters s ha.1 ha.2
    · rw [hot'] at hot
      obtain ⟨h1, h2⟩ := syncTt_ageEntries_spec (tickCounters s) hnd
      have hage (k : Nat) : (tickCounters s).rd (Reg.FIX_TT_AGE k) = s.rd (Reg.FIX_TT_AGE k) :=
        rd_tickCounters s (tick_ne_tt k).1.symm (tick_ne_tt k).2.2.1.symm
      have hstat (k : Nat) : (tickCounters s).rd (Reg.FIX_TT_STAT k) = s.rd (Reg.FIX_TT_STAT k) :=
        rd_tickCounters s (tick_ne_tt k).2.1.symm (tick_ne_tt k).2.2.2.symm
      simp only [State.bit, hage, hstat, htt] at h1 h2
      rw [ticked, if_pos hot]
      refine ⟨fun k _ => h1 k, h2, fun a hlo hhi ha => ?_⟩
      exact (rd_syncTt_ageEntries (tickCounters s) (fun e he => (ha e.1 (h64 e he)).1) (fun k hk => (ha k hk).2)).trans
        (rd_tickCounters s hlo hhi)

end Sys2Proof.Machine
end

section
/-! The digest instructions of an engine (R223-R229). -/

namespace Sys2Proof.Machine

/-! ### Engines that go on -/

/-- An engine of which `u` has made `x` and that then goes on. -/
theorem engineNext_advance {s u : State} {e : Fin 512} {x : Engine} {ps : List Part} (hx : u.engine e.val = x)
    (hpc : x.pc = (s.engine e.val).pc) (ho : ∀ f, f ≠ e.val → u.engine f = s.engine f)
    (hb : AllBut (.engines :: ps) s u) : EngineNext e x ps s (advance u (.engine e)) := by
  have hp : pcOf u (.engine e) = pcOf s (.engine e) := by simp only [pcOf, hx, hpc]
  refine ⟨?_, ?_, fun f hf => ?_, hb.trans ((AllBut.setEngine _ _ _).mono (by simp))⟩
  · simp only [advance, setPc, State.engine_setEngine_self, hx]
  · exact pcOf_setEngine_next (congrArg (fun a => (a + 4).toNat) hp) u
  · exact (State.engine_setEngine_of_ne _ _ hf).trans (ho f hf)

/-- As `engineNext_advance`, for an engine that also takes a result. -/
theorem engineNext_result {s u : State} {e : Fin 512} {x : Engine} {ps : List Part} (rd : RegNo) (v : Dword)
    (hx : u.engine e.val = x) (hpc : x.pc = (s.engine e.val).pc) (ho : ∀ f, f ≠ e.val → u.engine f = s.engine f)
    (hb : AllBut (.engines :: ps) s u) :
    EngineNext e { x with g := gSet x.g rd v } ps s (result u (.engine e) rd v) :=
  engineNext_advance (by rw [setGreg, State.engine_setEngine_self, hx]) hpc
    (fun f hf => (State.engine_setEngine_of_ne _ _ hf).trans (ho f hf))
    (hb.trans ((AllBut.setEngine _ _ _).mono (by simp)))

theorem advance_engine_regs (s : State) (e : Fin 512) : (advance s (.engine e)).regs = s.regs := rfl

theorem advance_engine_mem (s : State) (e : Fin 512) : (advance s (.engine e)).mem = s.mem := rfl

/-- An instruction of a ready engine is its body: an engine counts no steps and does not return from PARK by one. -/
theorem act_ready_engine {s : State} {e : Fin 512} {w : Wop} (h : Ready s (.engine e) w) (body : State → State) :
    act s (runWop (.engine e) w body) = .next (body s) := act_ready h body

/-! ### Contexts -/

theorem bitOf_eq (v i : Nat) : bitOf v i = decide (v / 2 ^ i % 2 = 1) := Nat.testBit_eq_decide_div_mod_eq

/-- The layout of DINIT's operand (R223). -/
theorem dinitBad_eq_false_iff (s : State) (y v : Nat) : dinitBad s y v = false ↔
    digestLen (v % 256) ≠ 0 ∧ v / 2 ^ 10 % 64 = 0 ∧
      (if decide (0x11 ≤ v % 256) = true then keyIn s y (v / 2 ^ 8 % 4) ≠ [] else v / 2 ^ 8 % 4 = 0) ∧
      (v / 2 ^ 16 % 2 = 0 → v / 2 ^ 17 = 0) := by
  by_cases hk : 0x11 ≤ v % 256 <;>
    simp [dinitBad, knownAlg, keyedAlg, bitsOf, hk, bitOf_eq, and_assoc, or_iff_not_imp_left]

theorem newCtx_eq (s : State) (y v : Nat) : newCtx s y v =
    ⟨v % 256, if decide (0x11 ≤ v % 256) = true then keyIn s y (v / 2 ^ 8 % 4) else [],
      if v / 2 ^ 16 % 2 = 1 then some (v / 2 ^ 17) else none, [], .running, []⟩ := by
  simp only [newCtx, keyedAlg, bitOf_eq, decide_eq_true_eq]
  rfl

theorem liveCtx_eq_some {s : State} {e : Nat} {dc : BitVec 2} {c : DigestCtx}
    (h : (s.engine e).live = some (dc.toNat, c)) : liveCtx s e dc = some c := by
  simp only [liveCtx, h, if_true]

theorem localLoad_of_le {s : State} {e a n : Nat} (h : a + n ≤ 0xF800) : localLoad s e a n = true := by
  simp [localLoad, h]

theorem localStore_of_le {s : State} {e a n : Nat} (h1 : codeBytes s (e / 32) ≤ a) (h2 : a + n ≤ 0xF800) :
    localStore s e a n = true := by
  simp [localStore, h1, h2]

/-- A change of an engine's own data before it goes on. -/
theorem engineNext_setEngine {s : State} {e : Fin 512} {x : Engine} (hpc : x.pc = (s.engine e.val).pc) :
    EngineNext e x [] s (advance (s.setEngine e.val x) (.engine e)) :=
  engineNext_advance (State.engine_setEngine_self s _ x) hpc (fun _ hf => State.engine_setEngine_of_ne s x hf)
    (AllBut.setEngine s _ x)

/-- A table with one entry replaced, read anywhere. -/
theorem sparse_get_set {α : Type} [DecidableEq α] (d : Nat → α) (l : List (Nat × α)) (k : Nat) (v : α) (j : Nat) :
    Sparse.get d (Sparse.set d l k v) j = if j = k then v else Sparse.get d l j := by
  by_cases h : j = k
  · rw [h, Sparse.get_set_self, if_pos rfl]
  · rw [Sparse.get_set_of_ne d l v h, if_neg h]

/-! ### Publication -/

theorem yrdDres_eq (y l k : Nat) : Reg.YRD_DRES y l k = Reg.YRD_DRES y l 0 + 4 * k := by
  unfold Reg.YRD_DRES
  omega

theorem yrdDstat_ne_yrdDres {y l : Nat} (h : l < 32) (k : Nat) (hk : k < 16) : Reg.YRD_DSTAT y l ≠ Reg.YRD_DRES y l k := by
  unfold Reg.YRD_DSTAT Reg.YRD_DRES
  omega

theorem AllBut.publish (s : State) (e alg dc st : Nat) (d : List Byte) : AllBut [.regs] s (publish s e alg dc st d) :=
  (AllBut.wrBytes _ _ _ _).trans (AllBut.wr _ _ _)

/-- What a DFIN publishes (R229). -/
theorem publish_spec (s : State) (e alg dc st : Nat) (d : List Byte) :
    (∀ k < 16, (publish s e alg dc st d).rd (Reg.YRD_DRES (e / 32) (e % 32) k) =
      BitVec.ofNat 32 (leAt (takePad 64 d) (4 * k) 4)) ∧
    (publish s e alg dc st d).rd (Reg.YRD_DSTAT (e / 32) (e % 32)) = BitVec.ofNat 32
      (alg + dc * 2 ^ 8 + st * 2 ^ 10 + (s.fld (Reg.YRD_DSTAT (e / 32) (e % 32)) 31 16 + 1) % 65536 * 2 ^ 16) ∧
    RegsAllBut (Reg.YRD_DSTAT (e / 32) (e % 32) :: (List.range 16).map (Reg.YRD_DRES (e / 32) (e % 32))) s
      (publish s e alg dc st d) := by
  have hl : e % 32 < 32 := Nat.mod_lt _ (by decide)
  refine ⟨fun k hk => ?_, State.rd_wr_self _ _ _, fun a ha => ?_⟩
  · unfold publish
    rw [State.rd_wr_of_ne _ _ (yrdDstat_ne_yrdDres hl k hk).symm, yrdDres_eq _ _ k, State.rd_wrBytes _ _ _ _ _ hk]
  · simp only [List.mem_cons, List.mem_map, List.mem_range, not_or, not_exists, not_and] at ha
    unfold publish
    rw [State.rd_wr_of_ne _ _ ha.1,
      State.rd_wrBytes_of_ne _ _ _ _ _ fun k hk h => ha.2 k hk ((yrdDres_eq _ _ _).trans h.symm)]

/-- What goes on after a publication shows it still. -/
theorem published_of {s u t : State} (e : Fin 512) (alg dc st : Nat) (d : List Byte) (hu : u.regs = s.regs)
    (ht : t.regs = (publish u e.val alg dc st d).regs) :
    (∀ k < 16, t.rd (Reg.YRD_DRES (e.val / 32) (e.val % 32) k) = BitVec.ofNat 32 (leAt (takePad 64 d) (4 * k) 4)) ∧
    t.rd (Reg.YRD_DSTAT (e.val / 32) (e.val % 32)) = BitVec.ofNat 32
      (alg + dc * 2 ^ 8 + st * 2 ^ 10 +
        (s.fld (Reg.YRD_DSTAT (e.val / 32) (e.val % 32)) 31 16 + 1) % 65536 * 2 ^ 16) ∧
    RegsAllBut (Reg.YRD_DSTAT (e.val / 32) (e.val % 32) ::
      (List.range 16).map (Reg.YRD_DRES (e.val / 32) (e.val % 32))) s t := by
  obtain ⟨h1, h2, h3⟩ := publish_spec u e.val alg dc st d
  refine ⟨fun k hk => (State.rd_congr ht _).trans (h1 k hk), (State.rd_congr ht _).trans ?_, fun a ha =>
    (State.rd_congr ht a).trans ((h3 a ha).trans (State.rd_congr hu a))⟩
  rw [h2, State.fld, State.fld, State.rd_congr hu]

/-- An engine that publishes a digest and goes on. -/
theorem engineNext_publish {s u : State} {e : Fin 512} {x : Engine} {ps : List Part} (hx : u.engine e.val = x)
    (hpc : x.pc = (s.engine e.val).pc) (ho : ∀ f, f ≠ e.val → u.engine f = s.engine f)
    (hb : AllBut (.engines :: ps) s u) (hr : .regs ∈ ps) (alg dc st : Nat) (d : List Byte) :
    EngineNext e x ps s (advance (publish u e.val alg dc st d) (.engine e)) := by
  have hp := AllBut.publish u e.val alg dc st d
  have he (f : Nat) : (publish u e.val alg dc st d).engine f = u.engine f := engFrame (hp.mono (by simp)) f
  exact engineNext_advance ((he _).trans hx) hpc (fun f hf => (he f).trans (ho f hf)) (hb.trans (hp.mono (by simp [hr])))

theorem localWrite_regs (s : State) (e a : Nat) (bs : List Byte) : (localWrite s e a bs).regs = s.regs :=
  AllBut.wrMemN s _ bs .regs (by decide)

/-- A write of memory does not depend on the engines. -/
theorem wrMemN_setEngine_mem (bs : List Byte) (e : Nat) (x : Engine) : ∀ (s : State) (a : Nat),
    ((s.setEngine e x).wrMemN a bs).mem = (s.wrMemN a bs).mem := by
  induction bs with
  | nil => exact fun _ _ => rfl
  | cons b bs ih => exact fun s a => ih (s.wrMem a b) (a + 1)

/-- A DFIN of context `dc`, now `c`, that writes digest `d` at `a` of local memory. -/
theorem dfin_spec (s : State) (e : Fin 512) (c : DigestCtx) (a : Nat) (d : List Byte) (dc : BitVec 2) (alg st : Nat) :
    ∃ u, u = localWrite (setLive s e.val (some (dc.toNat, c))) e.val a d ∧
      EngineNext e { s.engine e.val with live := some (dc.toNat, c) } [.mem, .regs] s
        (advance (publish u e.val alg dc.toNat st d) (.engine e)) ∧
      (advance (publish u e.val alg dc.toNat st d) (.engine e)).mem = (localWrite s e.val a d).mem ∧
      u.regs = s.regs := by
  refine ⟨_, rfl, ?_⟩
  have hw := AllBut.wrMemN (setLive s e.val (some (dc.toNat, c))) (engineBase e.val + a) d
  have hmem := wrMemN_setEngine_mem d e.val { s.engine e.val with live := some (dc.toNat, c) } s (engineBase e.val + a)
  have hregs := (localWrite_regs (setLive s e.val (some (dc.toNat, c))) e.val a d).trans (State.setEngine_regs s _ _)
  change AllBut _ _ (localWrite (setLive s e.val (some (dc.toNat, c))) e.val a d) at hw
  change (localWrite (setLive s e.val (some (dc.toNat, c))) e.val a d).mem = _ at hmem
  generalize localWrite (setLive s e.val (some (dc.toNat, c))) e.val a d = u at hw hmem hregs ⊢
  have he (f : Nat) : u.engine f = (setLive s e.val (some (dc.toNat, c))).engine f := by
    rw [State.engine, State.engine]
    exact congrArg (fun l => Sparse.get _ l f) (hw .engines (by decide))
  refine ⟨engineNext_publish ((he _).trans (State.engine_setEngine_self s _ _)) rfl
    (fun f hf => (he f).trans (State.engine_setEngine_of_ne s _ hf))
    (((AllBut.setEngine s _ _).mono (by simp)).trans (hw.mono (by simp))) (by simp) _ _ _ _, ?_, hregs⟩
  have hp : (publish u e.val alg dc.toNat st d).mem = u.mem := AllBut.publish u e.val alg dc.toNat st d .mem (by decide)
  exact (advance_engine_mem _ _).trans (hp.trans hmem)

/-- A DFIN of context `dc`, now `c`, that writes nothing in local memory. -/
theorem publish_setLive_spec (s : State) (e : Fin 512) (c : DigestCtx) (dc : BitVec 2) (alg st : Nat) (d : List Byte) :
    ∃ u, u = setLive s e.val (some (dc.toNat, c)) ∧
      EngineNext e { s.engine e.val with live := some (dc.toNat, c) } [.regs] s
        (advance (publish u e.val alg dc.toNat st d) (.engine e)) ∧ u.regs = s.regs := by
  refine ⟨_, rfl, ?_⟩
  have hself := State.engine_setEngine_self s e.val { s.engine e.val with live := some (dc.toNat, c) }
  have hne (f : Nat) (hf : f ≠ e.val) :=
    State.engine_setEngine_of_ne s { s.engine e.val with live := some (dc.toNat, c) } hf
  have hall := AllBut.setEngine s e.val { s.engine e.val with live := some (dc.toNat, c) }
  have hregs := State.setEngine_regs s e.val { s.engine e.val with live := some (dc.toNat, c) }
  rw [setLive]
  generalize s.setEngine e.val { s.engine e.val with live := some (dc.toNat, c) } = u at hself hne hall hregs ⊢
  exact ⟨engineNext_publish hself rfl hne (hall.mono (by simp)) (by simp) _ _ _ _, hregs⟩

/-- DFIN of a running context of the declared length (R228, R229). -/
theorem dfin_done {s : State} {e : Fin 512} {dc : BitVec 2} {ra : RegNo} {c : DigestCtx} (h : Ready s (.engine e) (.dfin dc ra))
    (hlive : (s.engine e.val).live = some (dc.toNat, c)) (hst : c.st = .running)
    (hlen : c.declared.all (fun k => k == c.fed.length) = true)
    (hstore : localStore s e.val (greg s (.engine e) ra).toNat (digestLen c.alg) = true) (d : List Byte)
    (hd : digestOf c.alg c.key c.fed = d) :
    ∃ u, exec (.dfin (.engine e) dc ra) s = .next (advance (publish u e.val c.alg dc.toNat 1 d) (.engine e)) ∧
      u = localWrite (setLive s e.val (some (dc.toNat, { c with st := .done, result := d }))) e.val
        (greg s (.engine e) ra).toNat d := by
  refine ⟨_, (act_ready_engine h _).trans (congrArg _ ?_), rfl⟩
  simp only [opDfin, onEngine, liveCtx_eq_some hlive, hst, ne_eq, not_true_eq_false, if_false, hstore, hlen,
    Bool.true_eq_false, hd]

/-- DFIN of a running context of another length than the declared one (R228). -/
theorem dfin_mismatch {s : State} {e : Fin 512} {dc : BitVec 2} {ra : RegNo} {c : DigestCtx}
    (h : Ready s (.engine e) (.dfin dc ra)) (hlive : (s.engine e.val).live = some (dc.toNat, c)) (hst : c.st = .running)
    (hlen : c.declared.all (fun k => k == c.fed.length) = false) :
    ∃ u, exec (.dfin (.engine e) dc ra) s = .next (advance (publish u e.val c.alg dc.toNat 2 []) (.engine e)) ∧
      u = setLive s e.val (some (dc.toNat, { c with st := .lengthMismatch })) := by
  refine ⟨_, (act_ready_engine h _).trans (congrArg _ ?_), rfl⟩
  simp only [opDfin, onEngine, liveCtx_eq_some hlive, hst, ne_eq, not_true_eq_false, if_false, hlen, if_true]

/-- DINIT with an operand of its layout (R227). -/
theorem dinit_good {s : State} {e : Fin 512} {dc : BitVec 2} {ra : RegNo} (h : Ready s (.engine e) (.dinit dc ra))
    (hg : dinitBad s (e.val / 32) (greg s (.engine e) ra).toNat = false) :
    exec (.dinit (.engine e) dc ra) s = .next (advance (setLive s e.val
      (some (dc.toNat, newCtx s (e.val / 32) (greg s (.engine e) ra).toNat))) (.engine e)) := by
  refine (act_ready_engine h _).trans (congrArg _ ?_)
  rw [opDinit, onEngine, if_neg (by rw [hg]; simp)]

/-- DINIT with an operand outside its layout (R227). -/
theorem dinit_bad {s : State} {e : Fin 512} {dc : BitVec 2} {ra : RegNo} (h : Ready s (.engine e) (.dinit dc ra))
    (hg : dinitBad s (e.val / 32) (greg s (.engine e) ra).toNat = true) :
    exec (.dinit (.engine e) dc ra) s =
      .next (raiseExc s (.engine e) 0x0A ((encodeWop (.dinit dc ra)).zeroExtend 64)) := by
  refine (act_ready_engine h _).trans (congrArg _ ?_)
  rw [opDinit, onEngine, if_pos hg]
  rfl

/-- DFEED of a running context (R228). -/
theorem dfeed_running {s : State} {e : Fin 512} {dc : BitVec 2} {ra rb : RegNo} {c : DigestCtx}
    (h : Ready s (.engine e) (.dfeed dc ra rb)) (hlive : (s.engine e.val).live = some (dc.toNat, c)) (hst : c.st = .running)
    (hload : localLoad s e.val (greg s (.engine e) ra).toNat (greg s (.engine e) rb).toNat = true) :
    exec (.dfeed (.engine e) dc ra rb) s = .next (advance (setLive s e.val (some (dc.toNat, { c with
      fed := c.fed ++ localBytes s e.val (greg s (.engine e) ra).toNat (greg s (.engine e) rb).toNat }))) (.engine e)) := by
  refine (act_ready_engine h _).trans (congrArg _ ?_)
  simp only [opDfeed, onEngine, liveCtx_eq_some hlive, hst, ne_eq, not_true_eq_false, if_false, hload, Bool.true_eq_false]

/-- DSAVE of the live context (R230). -/
theorem dsave_live {s : State} {e : Fin 512} {dc : BitVec 2} {c : DigestCtx} (h : Ready s (.engine e) (.dsave dc))
    (hlive : (s.engine e.val).live = some (dc.toNat, c)) (hblock : c.st = .running → c.fed.length % blockLen c.alg = 0) :
    exec (.dsave (.engine e) dc) s = .next (advance (s.setEngine e.val { s.engine e.val with
      live := none, slots := Sparse.set (fun _ => none) (s.engine e.val).slots dc.toNat (some c) }) (.engine e)) := by
  have hb : ¬ (c.st = .running ∧ c.fed.length % blockLen c.alg ≠ 0) := fun hc => hc.2 (hblock hc.1)
  refine (act_ready_engine h _).trans (congrArg _ ?_)
  simp only [opDsave, onEngine, liveCtx_eq_some hlive, if_neg hb]

/-- DLOAD of a saved context (R230). -/
theorem dload_saved {s : State} {e : Fin 512} {dc : BitVec 2} {c : DigestCtx} (h : Ready s (.engine e) (.dload dc))
    (hslot : Sparse.get (fun _ => none) (s.engine e.val).slots dc.toNat = some c) :
    exec (.dload (.engine e) dc) s = .next (advance (s.setEngine e.val { s.engine e.val with
      live := some (dc.toNat, c), slots := Sparse.set (fun _ => none) (s.engine e.val).slots dc.toNat none }) (.engine e)) := by
  refine (act_ready_engine h _).trans (congrArg _ ?_)
  simp only [opDload, onEngine, hslot]

/-- Settles O18: each digest instruction of a ready engine is its body, on its live context. -/
theorem digestInstructions : Obligations.DigestInstructions := by
  intro s e dc rd ra rb x v n y l keyed good publishes
  refine ⟨fun h => ⟨fun hg => ?init, fun hg => ?misuse⟩, fun c h hlive hst hle => ?feed,
    fun c h hlive hst => ⟨fun hlen hcode hle => ?done, fun hlen => ?mismatch⟩, fun c hlive hv hn => ?cmp,
    fun c h hlive hblock => ?save, fun c h hslot => ?load⟩
  case init =>
    refine ⟨_, dinit_good h ((dinitBad_eq_false_iff s _ _).2 hg), ?_⟩
    rw [newCtx_eq]
    exact engineNext_setEngine rfl
  case misuse =>
    refine dinit_bad h ?_
    rw [← Bool.not_eq_false, dinitBad_eq_false_iff]
    exact hg
  case feed => exact ⟨_, dfeed_running h hlive hst (localLoad_of_le hle), engineNext_setEngine rfl⟩
  case done =>
    intro d
    obtain ⟨u, ht, hu⟩ := dfin_done h hlive hst hlen (localStore_of_le hcode hle) d rfl
    obtain ⟨_, rfl, h1, h2, hregs⟩ := dfin_spec s e { c with st := .done, result := d } v d dc c.alg 1
    exact ⟨_, hu ▸ ht, h1, h2, published_of e c.alg dc.toNat 1 d hregs (advance_engine_regs _ _)⟩
  case mismatch =>
    obtain ⟨u, ht, hu⟩ := dfin_mismatch h hlive hst hlen
    obtain ⟨_, rfl, h1, hregs⟩ := publish_setLive_spec s e { c with st := .lengthMismatch } dc c.alg 2 []
    exact ⟨_, hu ▸ ht, h1, published_of e c.alg dc.toNat 2 [] hregs (advance_engine_regs _ _)⟩
  case cmp =>
    have h1 : localLoad s e.val (greg s (.engine e) ra).toNat (digestLen c.alg) = true := localLoad_of_le hv
    have h2 : localLoad s e.val (greg s (.engine e) rb).toNat (digestLen c.alg) = true := localLoad_of_le hn
    refine writes_of rfl (fun _ => ?_) rfl
    simp only [awake, opDcmp, onEngine, liveCtx_eq_some hlive, h1, h2, Bool.true_eq_false, if_false, oneIf,
      Bool.and_eq_true, beq_iff_eq]
    rfl
  case save => exact ⟨_, _, dsave_live h hlive hblock, engineNext_setEngine rfl, sparse_get_set _ _ _ _⟩
  case load => exact ⟨_, _, dload_saved h hslot, engineNext_setEngine rfl, sparse_get_set _ _ _ _⟩

end Sys2Proof.Machine
end

section
/-! Streams, transfers and their tags (R48, R59, R246). -/

namespace Sys2Proof.Machine

/-! ### The number of a new tag -/

/-- A search of `fuel` numbers from `k` on finds a number that no tag carries, or passes `fuel` numbers in use. -/
theorem freeTag_spec (ts : List Tag) : ∀ fuel k, (∀ u ∈ ts, u.id ≠ freeTag ts fuel k) ∨
    freeTag ts fuel k = k + fuel ∧ ∀ j < fuel, k + j ∈ ts.map Tag.id := by
  intro fuel
  induction fuel with
  | zero => exact fun k => .inr ⟨rfl, fun j hj => absurd hj (Nat.not_lt_zero j)⟩
  | succ fuel ih =>
    intro k
    rw [freeTag]
    by_cases h : ts.any (fun t => t.id == k) = true
    · rw [if_pos h]
      refine (ih (k + 1)).imp_right fun ⟨heq, hall⟩ => ⟨by omega, fun j hj => ?_⟩
      cases j with
      | zero => simpa using h
      | succ j => rw [← Nat.add_assoc, Nat.add_right_comm]; exact hall j (Nat.lt_of_succ_lt_succ hj)
    · rw [if_neg h]
      left
      simpa using h

/-- As many numbers as there are tags, and one more, cannot all be in use. -/
theorem freeTag_fresh (ts : List Tag) : ∀ u ∈ ts, u.id ≠ freeTag ts ts.length 0 := by
  rcases freeTag_spec ts ts.length 0 with h | ⟨heq, hall⟩
  · exact h
  · have hsub : List.range ts.length ⊆ ts.map Tag.id := fun j hj => by
      have := hall j (List.mem_range.1 hj)
      rwa [Nat.zero_add] at this
    have hperm := (List.nodup_range.subperm hsub).perm_of_length_le (by simp)
    intro u hu
    have hlt := List.mem_range.1 (hperm.mem_iff.2 (List.mem_map_of_mem hu))
    omega

/-! ### Opening a tag -/

/-- An engine of which `u` has made `x` opens a tag (R48): the tag has a number of its own, rd gets it, and of memory
only what the tag may bring to local memory can differ. -/
theorem openTag_spec {s u : State} {e : Fin 512} {x : Engine} (rd : RegNo) (tag : Nat → Tag)
    (hx : u.engine e.val = x) (hpc : x.pc = (s.engine e.val).pc) (ho : ∀ f, f ≠ e.val → u.engine f = s.engine f)
    (hb : AllBut [.engines, .mem, .freeCtr] s u) :
    ∃ k, (∀ t ∈ x.tags, t.id ≠ k) ∧
      EngineNext e { x with g := gSet x.g rd (BitVec.ofNat 64 k), tags := x.tags ++ [tag k] } [.mem, .freeCtr] s
        (openTag u (.engine e) e.val rd tag) ∧
      ((tag k).dest = 0 → (openTag u (.engine e) e.val rd tag).mem = u.mem) ∧
      MemAllBut (engineBase e.val + (tag k).dest) (tag k).len u (openTag u (.engine e) e.val rd tag) := by
  subst hx
  refine ⟨freeTag (u.engine e.val).tags (u.engine e.val).tags.length 0, freeTag_fresh _, ?_⟩
  generalize hk : freeTag (u.engine e.val).tags (u.engine e.val).tags.length 0 = k
  obtain ⟨v, hv⟩ : ∃ v, v = if (tag k).dest = 0 then u else
      localWrite (u.freeBytes (tag k).len).2 e.val (tag k).dest (u.freeBytes (tag k).len).1 := ⟨_, rfl⟩
  have hopen : openTag u (.engine e) e.val rd tag = result (v.setEngine e.val
      { v.engine e.val with tags := (u.engine e.val).tags ++ [tag k] }) (.engine e) rd (BitVec.ofNat 64 k) := by
    rw [hv, ← hk, openTag]
  have hbytes : AllBut [.mem, .freeCtr] u v := by
    rw [hv]
    split
    · exact AllBut.refl _ u
    · exact (allBut_of _ _ (u.freeBytes (tag k).len).2 (fun p => by cases p <;> simp [sameIn, State.freeBytes])).trans
        ((AllBut.wrMemN _ _ _).mono (by simp))
  have hzero : (tag k).dest = 0 → v.mem = u.mem := fun h0 => by rw [hv, if_pos h0]
  have hmem : MemAllBut (engineBase e.val + (tag k).dest) (tag k).len u v := by
    intro b hb
    rw [hv]
    split
    · rfl
    · exact State.rdMem_wrMemN _ _ _ b (by simpa [State.freeBytes] using hb)
  have heng (f : Nat) : v.engine f = u.engine f := by
    rw [State.engine, State.engine]
    exact congrArg (fun l => Sparse.get _ l f) (hbytes .engines (by decide))
  have hresult : (result (v.setEngine e.val { v.engine e.val with tags := (u.engine e.val).tags ++ [tag k] }) (.engine e) rd
      (BitVec.ofNat 64 k)).mem = v.mem := rfl
  rw [hopen]
  refine ⟨?_, fun h0 => hresult.trans (hzero h0), fun b hb => (State.rdMem_congr hresult b).trans (hmem b hb)⟩
  refine engineNext_result (x := { u.engine e.val with tags := (u.engine e.val).tags ++ [tag k] }) rd _ ?_ hpc
    (fun f hf => (State.engine_setEngine_of_ne _ _ hf).trans ((heng f).trans (ho f hf)))
    (hb.trans ((hbytes.mono (by simp)).trans ((AllBut.setEngine _ _ _).mono (by simp))))
  rw [State.engine_setEngine_self, heng]

/-! ### The instructions -/

/-- SREAD of a length of the rule, with room for a tag (R59). -/
theorem sread_opens {s : State} {e : Fin 512} {rd ra rb : RegNo} {i : WorkItem} {a n : Nat}
    (h : Ready s (.engine e) (.sread rd ra rb)) (hi : (s.engine e.val).item = some i)
    (ha : (greg s (.engine e) ra).toNat = a) (hn : (greg s (.engine e) rb).toNat = n) (hlen : n % 64 = 0) (hle : n ≤ 16384)
    (hstore : localStore s e.val a n = true) (hroom : tagsFull s e.val = false)
    (hdma : min n (streamLeft i) ≠ 0 → i.dropped = false →
      dmaIssues s (i.wb.owner.getD 0) = true ∧ dmaFails s (i.wb.owner.getD 0) = false) :
    exec (.sread (.engine e) rd ra rb) s = .next (openTag (s.setEngine e.val { s.engine e.val with
      item := some { i with streamed := i.streamed + min n (streamLeft i) } }) (.engine e) e.val rd
      (fun id => ⟨id, true, a, min n (streamLeft i), true, false, false, [], streamAddr i⟩)) := by
  refine (act_ready_engine h _).trans (congrArg _ ?_)
  have hrule : ¬ (n % 64 ≠ 0 ∨ 16384 < n) := by omega
  simp only [opSread, onEngine, hi, ha, hn, if_neg hrule, hstore, hroom, Bool.true_eq_false, Bool.false_eq_true, if_false]
  cases hhost : (min n (streamLeft i) != 0 && !i.dropped) with
  | false => simp
  | true =>
    obtain ⟨h1, h2⟩ := hdma (by simpa using (Bool.and_eq_true_iff.1 hhost).1) (by simpa using (Bool.and_eq_true_iff.1 hhost).2)
    simp [h1, h2]

/-- SREAD with 8 tags outstanding waits (R48). -/
theorem sread_waits {s : State} {e : Fin 512} {rd ra rb : RegNo} {i : WorkItem} {a n : Nat}
    (h : Ready s (.engine e) (.sread rd ra rb)) (hi : (s.engine e.val).item = some i)
    (ha : (greg s (.engine e) ra).toNat = a) (hn : (greg s (.engine e) rb).toNat = n) (hlen : n % 64 = 0) (hle : n ≤ 16384)
    (hstore : localStore s e.val a n = true) (hfull : tagsFull s e.val = true) :
    exec (.sread (.engine e) rd ra rb) s = .next s := by
  refine (act_ready_engine h _).trans (congrArg _ ?_)
  have hrule : ¬ (n % 64 ≠ 0 ∨ 16384 < n) := by omega
  simp only [opSread, onEngine, hi, ha, hn, if_neg hrule, hstore, hfull, Bool.true_eq_false, if_false, if_true]

/-- SREAD of a length outside the rule raises STREAM (R59). -/
theorem sread_faults {s : State} {e : Fin 512} {rd ra rb : RegNo} {i : WorkItem}
    (h : Ready s (.engine e) (.sread rd ra rb)) (hi : (s.engine e.val).item = some i)
    (hrule : (greg s (.engine e) rb).toNat % 64 ≠ 0 ∨ 16384 < (greg s (.engine e) rb).toNat) :
    exec (.sread (.engine e) rd ra rb) s =
      .next (raiseExc s (.engine e) 0x0B ((encodeWop (.sread rd ra rb)).zeroExtend 64)) := by
  refine (act_ready_engine h _).trans (congrArg _ ?_)
  simp only [opSread, onEngine, hi, if_pos hrule]
  rfl

/-- DMA of a descriptor that keeps to its table, with room for a tag (R246). -/
theorem dma_opens {s : State} {e : Fin 512} {rd ra : RegNo} {i : WorkItem} {d : DmaDesc}
    (h : Ready s (.engine e) (.dma rd ra)) (hi : (s.engine e.val).item = some i)
    (hload : localLoad s e.val (greg s (.engine e) ra).toNat 16 = true)
    (hd : dmaDesc (localBytes s e.val (greg s (.engine e) ra).toNat 16) = d) (hok : d.ok = true)
    (hhere : (if d.out then localLoad s e.val d.lcl d.len else localStore s e.val d.lcl d.len) = true)
    (hremote : dmaRemoteOk s e.val i d = true) (hroom : tagsFull s e.val = false)
    (h0 : d.space = 0 → dmaIssues s (i.wb.owner.getD 0) = true ∧ dmaFails s (i.wb.owner.getD 0) = false)
    (h1 : d.space ≠ 0 → dmaAnswers s d = true) :
    exec (.dma (.engine e) rd ra) s = .next (openTag (dmaStart s e.val i d).1 (.engine e) e.val rd (fun id =>
      ⟨id, false, if d.out then 0 else d.lcl, d.len, d.space == 0 && !d.out, false, false, (dmaStart s e.val i d).2,
        d.remote⟩)) := by
  refine (act_ready_engine h _).trans (congrArg _ ?_)
  have hans : dmaAnswers s d = true := by
    by_cases hs : d.space = 0
    · simp [dmaAnswers, hs]
    · exact h1 hs
  have hoff : (d.space == 0 && dmaFails s (i.wb.owner.getD 0)) = false := by
    by_cases hs : d.space = 0
    · simp [(h0 hs).2]
    · simp [hs]
  have hgo : ¬ (tagsFull s e.val = true ∨ d.space = 0 ∧ dmaIssues s (i.wb.owner.getD 0) = false) := by
    rintro (hf | ⟨hs, hn⟩)
    · simp [hroom] at hf
    · simp [(h0 hs).1] at hn
  simp only [opDma, onEngine, hi, hload, hd, hok, hhere, hremote, hoff, if_neg hgo, hans, Bool.true_eq_false, or_false, if_false,
    Bool.false_eq_true, Bool.not_true, Bool.or_false]

/-- SWAIT of a completed tag (R48). -/
theorem swait_done {s : State} {e : Fin 512} {rd ra : RegNo} {t : Tag} {k : Nat}
    (h : Ready s (.engine e) (.swait rd ra)) (hk : (greg s (.engine e) ra).toNat = k)
    (ht : (s.engine e.val).tags.find? (fun t => t.id == k) = some t) (hdone : t.done = true) (hok : t.failed = false) :
    ∃ u, u = (if t.dest = 0 then s else localWrite s e.val t.dest (t.data.take t.len)) ∧
      exec (.swait (.engine e) rd ra) s = .next (result (u.setEngine e.val { u.engine e.val with
        tags := (u.engine e.val).tags.filter (fun v => v.id != k) }) (.engine e) rd
          (BitVec.ofNat 64 (if t.dest = 0 then t.len else min t.data.length t.len))) := by
  refine ⟨_, rfl, (act_ready_engine h _).trans (congrArg _ ?_)⟩
  simp only [opSwait, onEngine, hk, ht, hdone, hok, Bool.true_eq_false, Bool.false_eq_true, if_false]

/-- SWAIT of an outstanding tag waits (R48). -/
theorem swait_waits {s : State} {e : Fin 512} {rd ra : RegNo} {t : Tag}
    (h : Ready s (.engine e) (.swait rd ra))
    (ht : (s.engine e.val).tags.find? (fun t => t.id == (greg s (.engine e) ra).toNat) = some t) (hdone : t.done = false) :
    exec (.swait (.engine e) rd ra) s = .next s := by
  refine (act_ready_engine h _).trans (congrArg _ ?_)
  simp only [opSwait, onEngine, ht, hdone, if_true]

/-- What a transfer into local memory finds (R246). -/
theorem dmaStart_in {s : State} {e : Nat} {i : WorkItem} {d : DmaDesc} (hans : dmaAnswers s d = true) (hout : d.out = false) :
    dmaStart s e i d = (s, if d.space = 0 then [] else mapBytes s d.remote d.len) := by
  simp only [dmaStart, hans, hout, Bool.true_eq_false, Bool.false_eq_true, if_false]
  split <;> rfl

/-- A transfer out of local memory into the internal map writes at once (R246). -/
theorem dmaStart_out {s : State} {e : Nat} {i : WorkItem} {d : DmaDesc} (hans : dmaAnswers s d = true) (hout : d.out = true)
    (hs : d.space ≠ 0) : dmaStart s e i d = (s.wrMemN d.remote (localBytes s e d.lcl d.len), []) := by
  simp only [dmaStart, hans, hout, if_neg hs, Bool.true_eq_false, if_false, if_true]

theorem dmaAnswers_of {s : State} {d : DmaDesc} (h : d.space ≠ 0 → dmaAnswers s d = true) : dmaAnswers s d = true := by
  by_cases hs : d.space = 0
  · simp [dmaAnswers, hs]
  · exact h hs

theorem tagsFull_eq_false {s : State} {e : Nat} (h : ((s.engine e).tags.filter (fun t => !t.done)).length < 8) :
    tagsFull s e = false := by
  simp [tagsFull, h]

theorem tagsFull_eq_true {s : State} {e : Nat} (h : ¬ ((s.engine e).tags.filter (fun t => !t.done)).length < 8) :
    tagsFull s e = true := by
  simpa [tagsFull] using h

/-- What SWAIT of a completed tag leaves (R48). -/
theorem swait_spec {s u : State} {e : Fin 512} (rd : RegNo) (v : Dword) (t : Tag) (k : Nat)
    (hu : u = if t.dest = 0 then s else localWrite s e.val t.dest (t.data.take t.len)) :
    EngineNext e { s.engine e.val with
        g := gSet (s.engine e.val).g rd v
        tags := (s.engine e.val).tags.filter (fun w => w.id != k) } [.mem] s
      (result (u.setEngine e.val { u.engine e.val with
        tags := (u.engine e.val).tags.filter (fun v => v.id != k) }) (.engine e) rd v) ∧
      u.mem = (s.wrMemN (engineBase e.val + t.dest) (if t.dest = 0 then [] else t.data.take t.len)).mem := by
  have hbytes : AllBut [.mem] s u := by
    rw [hu]
    split
    · exact AllBut.refl _ s
    · exact AllBut.wrMemN _ _ _
  have hmem : u.mem = (s.wrMemN (engineBase e.val + t.dest) (if t.dest = 0 then [] else t.data.take t.len)).mem := by
    rw [hu]
    split <;> rfl
  have heng (f : Nat) : u.engine f = s.engine f := by
    rw [State.engine, State.engine]
    exact congrArg (fun l => Sparse.get _ l f) (hbytes .engines (by decide))
  refine ⟨?_, hmem⟩
  refine engineNext_result (x := { s.engine e.val with tags := (s.engine e.val).tags.filter (fun w => w.id != k) }) rd v ?_ rfl
    (fun f hf => (State.engine_setEngine_of_ne _ _ hf).trans (heng f))
    ((hbytes.mono (by simp)).trans ((AllBut.setEngine _ _ _).mono (by simp)))
  rw [State.engine_setEngine_self, heng]

/-- The host's answer completes a tag (R48). -/
theorem transferDone_answered {s : State} {e k : Nat} {t : Tag} {bs : List Byte} {kind : Nat}
    (ht : (s.engine e).tags.find? (fun t => t.id == k && !t.done) = some t) (hok : t.failed = false)
    (hhost : t.fromHost = true) :
    transferDone s e k (some bs) kind =
      let u := s.setEngine e { s.engine e with tags := (s.engine e).tags.map (fun u =>
        if u.id = k then { t with done := true, data := takePad t.len bs } else u) }
      if t.stream then countBytes u t.len else u := by
  have hw : writeWaits s e t = false := by simp [writeWaits, hhost]
  simp only [transferDone, ht, hw, hok, hhost, Bool.false_eq_true, Bool.true_eq_false, if_false, if_true, Option.isNone_some,
    Bool.and_false, Bool.or_false, Option.getD_some]

/-- A transfer into local memory (R246). -/
theorem dma_in_spec {s : State} {e : Fin 512} {rd ra : RegNo} {i : WorkItem} {d : DmaDesc}
    (h : Ready s (.engine e) (.dma rd ra)) (hi : (s.engine e.val).item = some i)
    (hload : localLoad s e.val (greg s (.engine e) ra).toNat 16 = true)
    (hd : dmaDesc (localBytes s e.val (greg s (.engine e) ra).toNat 16) = d) (hok : d.ok = true)
    (hout : d.out = false) (hstore : localStore s e.val d.lcl d.len = true)
    (hremote : dmaRemoteOk s e.val i d = true) (hroom : tagsFull s e.val = false)
    (h0 : d.space = 0 → dmaIssues s (i.wb.owner.getD 0) = true ∧ dmaFails s (i.wb.owner.getD 0) = false)
    (h1 : d.space ≠ 0 → dmaAnswers s d = true) :
    ∃ t k, exec (.dma (.engine e) rd ra) s = .next t ∧ (∀ u ∈ (s.engine e.val).tags, u.id ≠ k) ∧
      EngineNext e { s.engine e.val with
        g := gSet (s.engine e.val).g rd (BitVec.ofNat 64 k)
        tags := (s.engine e.val).tags ++ [⟨k, false, d.lcl, d.len, d.space == 0, false, false,
          if d.space = 0 then [] else mapBytes s d.remote d.len, d.remote⟩] } [.mem, .freeCtr] s t ∧
      MemAllBut (engineBase e.val + d.lcl) d.len s t := by
  have hexec := dma_opens h hi hload hd hok (by rw [hout]; exact hstore) hremote hroom h0 h1
  rw [dmaStart_in (dmaAnswers_of h1) hout, hout] at hexec
  simp only [Bool.not_false, Bool.and_true, Bool.false_eq_true, if_false] at hexec
  obtain ⟨k, hfresh, hnext, -, hmem⟩ := openTag_spec (s := s) rd (fun id => ⟨id, false, d.lcl, d.len, d.space == 0, false,
    false, if d.space = 0 then [] else mapBytes s d.remote d.len, d.remote⟩) rfl rfl (fun _ _ => rfl) (AllBut.refl _ s)
  exact ⟨_, k, hexec, hfresh, hnext, hmem⟩

/-- A transfer out of local memory into the internal map (R246). -/
theorem dma_out_spec {s : State} {e : Fin 512} {rd ra : RegNo} {i : WorkItem} {d : DmaDesc}
    (h : Ready s (.engine e) (.dma rd ra)) (hi : (s.engine e.val).item = some i)
    (hload : localLoad s e.val (greg s (.engine e) ra).toNat 16 = true)
    (hd : dmaDesc (localBytes s e.val (greg s (.engine e) ra).toNat 16) = d) (hok : d.ok = true)
    (hout : d.out = true) (hs : d.space ≠ 0) (hhere : localLoad s e.val d.lcl d.len = true)
    (hremote : dmaRemoteOk s e.val i d = true) (hroom : tagsFull s e.val = false) (h1 : d.space ≠ 0 → dmaAnswers s d = true) :
    ∃ t k, exec (.dma (.engine e) rd ra) s = .next t ∧ (∀ u ∈ (s.engine e.val).tags, u.id ≠ k) ∧
      EngineNext e { s.engine e.val with
        g := gSet (s.engine e.val).g rd (BitVec.ofNat 64 k)
        tags := (s.engine e.val).tags ++ [⟨k, false, 0, d.len, false, false, false, [], d.remote⟩] } [.mem, .freeCtr] s t ∧
      t.mem = (s.wrMemN d.remote (localBytes s e.val d.lcl d.len)).mem := by
  have hexec := dma_opens h hi hload hd hok (by rw [hout]; exact hhere) hremote hroom (fun h0 => absurd h0 hs) h1
  rw [dmaStart_out (dmaAnswers_of h1) hout hs, hout] at hexec
  simp only [Bool.not_true, Bool.and_false, if_true] at hexec
  have hw := AllBut.wrMemN s d.remote (localBytes s e.val d.lcl d.len)
  generalize s.wrMemN d.remote (localBytes s e.val d.lcl d.len) = u at hexec hw ⊢
  have heng (f : Nat) : u.engine f = s.engine f := by
    rw [State.engine, State.engine]
    exact congrArg (fun l => Sparse.get _ l f) (hw .engines (by decide))
  obtain ⟨k, hfresh, hnext, hmem, -⟩ := openTag_spec (s := s) (u := u) rd
    (fun id => ⟨id, false, 0, d.len, false, false, false, [], d.remote⟩) (heng e.val) rfl (fun f _ => heng f) (hw.mono (by simp))
  exact ⟨_, k, hexec, hfresh, hnext, hmem rfl⟩

/-- Settles O19: each instruction is its body, a tag's number is fresh, and a tag's bytes stand only after SWAIT. -/
theorem streamInstructions : Obligations.StreamInstructions := by
  intro s e rd ra rb i x a n o room opens
  refine ⟨fun hi h hcode hle => ?sread, fun hi h ha hroom => ?dma, fun t h ht => ⟨fun hdone hok => ?swait,
    fun hdone => swait_waits h ht hdone⟩, fun t k bs kind hpwr ht hok hhost => ?transfer⟩
  case sread =>
    refine ⟨fun hn hmax hroom hdma => ?_, fun hn hmax hroom => sread_waits h hi rfl rfl hn hmax (localStore_of_le hcode hle)
      (tagsFull_eq_true hroom), fun hrule => sread_faults h hi hrule⟩
    have hexec := sread_opens h hi rfl rfl hn hmax (localStore_of_le hcode hle) (tagsFull_eq_false hroom) hdma
    obtain ⟨k, hfresh, hnext, -, hmem⟩ := openTag_spec (s := s) rd
      (fun id => ⟨id, true, a, min n (streamLeft i), true, false, false, [], streamAddr i⟩)
      (State.engine_setEngine_self s e.val { x with item := some { i with streamed := i.streamed + min n (streamLeft i) } })
      rfl (fun f hf => State.engine_setEngine_of_ne s _ hf) ((AllBut.setEngine s e.val _).mono (by simp))
    exact ⟨_, k, hexec, ⟨hfresh, rfl, hnext⟩, hmem⟩
  case dma =>
    refine fun hok hremote h0 h1 => ⟨fun hout hcode hle => ?_, fun hout hs hle => ?_⟩
    · obtain ⟨t, k, hexec, hfresh, hnext, hmem⟩ := dma_in_spec h hi (localLoad_of_le ha) rfl hok hout
        (localStore_of_le hcode hle) hremote (tagsFull_eq_false hroom) h0 h1
      exact ⟨t, k, hexec, ⟨hfresh, rfl, hnext⟩, hmem⟩
    · obtain ⟨t, k, hexec, hfresh, hnext, hmem⟩ := dma_out_spec h hi (localLoad_of_le ha) rfl hok hout hs
        (localLoad_of_le hle) hremote (tagsFull_eq_false hroom) h1
      exact ⟨t, k, hexec, ⟨hfresh, rfl, hnext⟩, hmem⟩
  case swait =>
    obtain ⟨u, hu, hexec⟩ := swait_done h rfl ht hdone hok
    obtain ⟨hnext, hmem⟩ := swait_spec (s := s) (e := e) rd
      (BitVec.ofNat 64 (if t.dest = 0 then t.len else min t.data.length t.len)) t a hu
    have hcount : (if t.dest = 0 then t.len else (if t.dest = 0 then [] else t.data.take t.len).length) =
        if t.dest = 0 then t.len else min t.data.length t.len := by
      split
      · rfl
      · rw [List.length_take, Nat.min_comm]
    refine ⟨_, hexec, ?_, hmem⟩
    rw [hcount]
    exact hnext
  case transfer =>
    have hexec : exec (.streamTransferDone e k (some bs) kind) s = settled (transferDone s e.val k (some bs) kind.val) :=
      congrArg Host.Outcome.next (if_neg (by simp [hpwr]))
    rw [hexec, transferDone_answered ht hok hhost]
    rfl

end Sys2Proof.Machine
end

section
/-! Work items: taking one and posting its results (R56, R244, R245, R247). -/

namespace Sys2Proof.Machine

/-! ### Reading a frame -/

theorem AllBut.memEq {ps : List Part} {s t : State} (h : AllBut ps s t) (hn : Part.mem ∉ ps := by decide) : t.mem = s.mem :=
  h .mem hn

theorem AllBut.regsEq {ps : List Part} {s t : State} (h : AllBut ps s t) (hn : Part.regs ∉ ps := by decide) :
    t.regs = s.regs := h .regs hn

theorem AllBut.fixEq {ps : List Part} {s t : State} (h : AllBut ps s t) (hn : Part.fix ∉ ps := by decide) : t.fix = s.fix :=
  h .fix hn

theorem AllBut.engineEq {ps : List Part} {s t : State} (h : AllBut ps s t) (f : Nat) (hn : Part.engines ∉ ps := by decide) :
    t.engine f = s.engine f := by
  rw [State.engine, State.engine]
  exact congrArg (fun l => Sparse.get _ l f) (h .engines hn)

/-! ### Waking engines -/

/-- What waking does to one engine (R56). -/
def woken (ys e : Nat) (x : Engine) : Engine :=
  if bitOf ys (e / 32) = true ∧ x.run ≠ .held then { x with wake := true, run := if x.run = .parked then .running else x.run }
  else x

theorem woken_same (ys e : Nat) (x : Engine) : { woken ys e x with wake := x.wake, run := x.run } = x := by
  unfold woken
  split <;> rfl

/-- Waking touches every engine alone and, where it is held, not at all. -/
theorem wakeEngines_engine (s : State) (e : Nat) :
    (wakeEngines s).engine e = woken (s.fld Reg.FIX_YARDS 15 0) e (s.engine e) := by
  unfold wakeEngines State.engine
  dsimp only
  generalize s.fld Reg.FIX_YARDS 15 0 = ys
  induction s.engines with
  | nil =>
    exact (if_neg fun h => h.2 rfl).symm
  | cons p l ih =>
    rcases p with ⟨j, x⟩
    rw [List.map_cons]
    by_cases hj : j = e
    · subst hj
      unfold woken
      split <;> simp_all [Sparse.get]
    · split <;> simp_all [Sparse.get]

theorem AllBut.wakeEngines (s : State) : AllBut [.engines] s (wakeEngines s) :=
  allBut_of _ _ _ (fun p => by cases p <;> simp [sameIn, Machine.wakeEngines])

/-- The scheduler's wake of the engines leaves every engine but for its wake latch and its sleep (R56). -/
theorem wakeFreed_spec (old s : State) : AllBut [.engines] s (wakeFreed old s) ∧
    ∀ e, { (wakeFreed old s).engine e with wake := (s.engine e).wake, run := (s.engine e).run } = s.engine e := by
  unfold wakeFreed
  split
  · exact ⟨AllBut.wakeEngines s, fun e => by rw [wakeEngines_engine]; exact woken_same _ _ _⟩
  · exact ⟨AllBut.refl _ s, fun _ => rfl⟩

/-! ### FIX_STAT and FIX_INFLIGHT -/

theorem syncFix_spec (s : State) : AllBut [.regs] s (syncFix s) ∧ RegsAllBut [Reg.FIX_STAT, Reg.FIX_INFLIGHT] s (syncFix s) := by
  refine ⟨(((AllBut.setBit _ _ _ _).trans (AllBut.setBit _ _ _ _)).trans (AllBut.setF _ _ _ _ _)).trans (AllBut.setF _ _ _ _ _),
    fun a ha => ?_⟩
  simp only [List.mem_cons, List.not_mem_nil, or_false, not_or] at ha
  obtain ⟨h1, h2⟩ := ha
  unfold syncFix
  rw [State.rd_setF_of_ne _ _ _ _ h2, State.rd_setF_of_ne _ _ _ _ h2, State.rd_setBit_of_ne _ _ _ h1,
    State.rd_setBit_of_ne _ _ _ h1]

/-! ### WBTAKE -/

/-- WBTAKE with an item in hand, or nothing to take (R56, R245). -/
theorem wbtake_none {s : State} {e : Fin 512} {rd ra : RegNo} (h : Ready s (.engine e) (.wbtake rd ra))
    (hstore : localStore s e.val (greg s (.engine e) ra).toNat 544 = true)
    (hnone : (s.engine e.val).item.isSome = true ∨
      takeItem (s.setEngine e.val { s.engine e.val with wake := false }) e.val = none) :
    exec (.wbtake (.engine e) rd ra) s =
      .next (result (s.setEngine e.val { s.engine e.val with wake := false }) (.engine e) rd 0) := by
  refine (act_ready_engine h _).trans (congrArg _ ?_)
  simp only [opWbtake, onEngine, hstore, Bool.true_eq_false, if_false, State.engine_setEngine_self]
  by_cases hi : (s.engine e.val).item.isSome = true
  · simp only [hi, if_true]
  · rw [if_neg hi, hnone.resolve_left hi]

/-- WBTAKE of an item (R245). -/
theorem wbtake_some {s : State} {e : Fin 512} {rd ra : RegNo} {w : Waybill} (h : Ready s (.engine e) (.wbtake rd ra))
    (hstore : localStore s e.val (greg s (.engine e) ra).toNat 544 = true) (hi : (s.engine e.val).item = none) {v : State}
    (hv : s.setEngine e.val { s.engine e.val with wake := false } = v) (hw : takeItem v e.val = some w) :
    ∃ u, u = localWrite (dispatched v w) e.val
        (greg s (.engine e) ra).toNat (itemBytes w) ∧
      exec (.wbtake (.engine e) rd ra) s = .next (result (syncFix (u.setEngine e.val { u.engine e.val with
        item := some ⟨w, 0, false, false, false⟩ })) (.engine e) rd 1) := by
  refine ⟨_, rfl, (act_ready_engine h _).trans (congrArg _ ?_)⟩
  have hitem : (v.engine e.val).item = none := by
    rw [← hv, State.engine_setEngine_self]
    exact hi
  simp only [opWbtake, onEngine, hstore, Bool.true_eq_false, if_false, hv, hitem, Option.isSome_none, Bool.false_eq_true, hw]

theorem takePad_length (n : Nat) (bs : List Byte) : (takePad n bs).length = n := by
  simp only [takePad, List.length_append, List.length_take, List.length_replicate]
  omega

theorem itemBytes_length (w : Waybill) (h : w.bytes.length = 64) : (itemBytes w).length = 544 := by
  simp only [itemBytes, List.length_append, leBytes_length, List.length_replicate, h, takePad_length]

/-- What a write leaves in memory depends on memory alone. -/
theorem State.wrMemN_mem_congr (bs : List Byte) : ∀ {s t : State} (_ : t.mem = s.mem) (a : Nat),
    (t.wrMemN a bs).mem = (s.wrMemN a bs).mem := by
  induction bs with
  | nil => exact fun h _ => h
  | cons b bs ih =>
    refine fun {s t} h a => ih (s := s.wrMem a b) (t := t.wrMem a b) ?_ (a + 1)
    simp only [State.wrMem, h]

theorem dispatched_waiting (v : State) (w : Waybill) : (dispatched v w).fix.waiting =
    v.fix.waiting.filter (fun x => !(x.src == w.src && x.bytes == w.bytes)) := by
  simp only [dispatched, unwait, setAccount, Waybill.same]

theorem dispatched_fix (v : State) (w : Waybill) : (dispatched v w).fix =
    { v.fix with accounts := (dispatched v w).fix.accounts, waiting := (dispatched v w).fix.waiting } := by
  simp only [dispatched, unwait, setAccount]

/-- What taking an item out of the queue and writing it to local memory leaves (R245, R248). -/
theorem taken_spec {s v u : State} {e : Fin 512} {w : Waybill} (a : Nat)
    (hv : s.setEngine e.val { s.engine e.val with wake := false } = v)
    (hu : u = localWrite (dispatched v w) e.val a (itemBytes w)) :
    u.engine e.val = { s.engine e.val with wake := false } ∧ (∀ f, f ≠ e.val → u.engine f = s.engine f) ∧
    AllBut [.engines, .mem, .fix] s u ∧ u.mem = (s.wrMemN (engineBase e.val + a) (itemBytes w)).mem ∧
    u.fix.waiting = s.fix.waiting.filter (fun x => !(x.src == w.src && x.bytes == w.bytes)) ∧
    (∃ paid, u.fix = { s.fix with accounts := paid, waiting := u.fix.waiting }) := by
  have hself : v.engine e.val = { s.engine e.val with wake := false } := by rw [← hv, State.engine_setEngine_self]
  have hne (f : Nat) (hf : f ≠ e.val) : v.engine f = s.engine f := by rw [← hv, State.engine_setEngine_of_ne _ _ hf]
  have hall : AllBut [.engines] s v := hv ▸ AllBut.setEngine s _ _
  have hd : AllBut [.fix] v (dispatched v w) := allBut_of _ _ _ (fun p => by
    cases p <;> simp [sameIn, dispatched, unwait, setAccount])
  have hw : AllBut [.mem] (dispatched v w) u := hu ▸ AllBut.wrMemN _ _ _
  have hvu : AllBut [.fix, .mem] v u := (hd.mono (by simp)).trans (hw.mono (by simp))
  have hfix : u.fix = (dispatched v w).fix := hw.fixEq
  refine ⟨(hvu.engineEq _).trans hself, fun f hf => (hvu.engineEq f).trans (hne f hf),
    (hall.mono (by simp)).trans (hvu.mono (by simp)), ?_, ?_, ⟨(dispatched v w).fix.accounts, ?_⟩⟩
  · rw [hu, localWrite, State.wrMemN_mem_congr _ hd.memEq, State.wrMemN_mem_congr _ hall.memEq]
  · rw [hfix, ← hall.fixEq]
    exact dispatched_waiting v w
  · rw [hfix, ← hall.fixEq]
    exact dispatched_fix v w

/-- What WBTAKE of an item leaves (R245, R248). -/
theorem wbtake_spec {s u : State} {e : Fin 512} {w : Waybill} (rd : RegNo)
    (hself : u.engine e.val = { s.engine e.val with wake := false }) (hne : ∀ f, f ≠ e.val → u.engine f = s.engine f)
    (hall : AllBut [.engines, .mem, .fix] s u) :
    ∃ t, t = result (syncFix (u.setEngine e.val { u.engine e.val with item := some ⟨w, 0, false, false, false⟩ }))
        (.engine e) rd 1 ∧
      EngineNext e { s.engine e.val with
          g := gSet (s.engine e.val).g rd 1, wake := false, item := some ⟨w, 0, false, false, false⟩ }
        [.mem, .fix, .regs] s t ∧
      t.mem = u.mem ∧ t.fix = u.fix ∧ RegsAllBut [Reg.FIX_STAT, Reg.FIX_INFLIGHT] s t := by
  refine ⟨_, rfl, ?_⟩
  have hset := AllBut.setEngine u e.val { u.engine e.val with item := some ⟨w, 0, false, false, false⟩ }
  have hsetself := State.engine_setEngine_self u e.val { u.engine e.val with item := some ⟨w, 0, false, false, false⟩ }
  have hsetne (f : Nat) (hf : f ≠ e.val) := State.engine_setEngine_of_ne u
    { u.engine e.val with item := some ⟨w, 0, false, false, false⟩ } hf
  generalize u.setEngine e.val { u.engine e.val with item := some ⟨w, 0, false, false, false⟩ } = z
    at hset hsetself hsetne ⊢
  obtain ⟨hsync, hregs⟩ := syncFix_spec z
  generalize syncFix z = y at hsync hregs ⊢
  have hnext : EngineNext e { s.engine e.val with
      g := gSet (s.engine e.val).g rd 1, wake := false, item := some ⟨w, 0, false, false, false⟩ } [.mem, .fix, .regs] s
      (result y (.engine e) rd 1) := by
    refine engineNext_result (x := { s.engine e.val with wake := false, item := some ⟨w, 0, false, false, false⟩ }) rd 1
      ?_ rfl (fun f hf => ?_) ?_
    · rw [hsync.engineEq, hsetself, hself]
    · rw [hsync.engineEq, hsetne f hf, hne f hf]
    · exact (hall.mono (by simp)).trans ((hset.mono (by simp)).trans (hsync.mono (by simp)))
  have hres : AllBut [.engines] y (result y (.engine e) rd 1) := (AllBut.setEngine _ _ _).trans (AllBut.setEngine _ _ _)
  refine ⟨hnext, hres.memEq.trans (hsync.memEq.trans hset.memEq), hres.fixEq.trans (hsync.fixEq.trans hset.fixEq),
    fun b hb => ?_⟩
  exact (State.rd_congr hres.regsEq b).trans ((hregs b hb).trans
    ((State.rd_congr hset.regsEq b).trans (State.rd_congr hall.regsEq b)))

/-! ### WBDONE -/

/-- WBDONE of an item (R247). -/
theorem wbdone_item {s : State} {e : Fin 512} {ra : RegNo} {i : WorkItem} {a : Nat} (h : Ready s (.engine e) (.wbdone ra))
    (ha : (greg s (.engine e) ra).toNat = a) (h1 : 0x80 ≤ a) (h2 : a + 0x20 ≤ 0xF800) (hi : (s.engine e.val).item = some i) :
    exec (.wbdone (.engine e) ra) s = .next (advance (wakeFreed s (syncFix (fixDone
      (s.setEngine e.val { s.engine e.val with item := none }) e.val i ((localBytes s e.val (a - 0x80) 0xA0).take 64)
      (((localBytes s e.val (a - 0x80) 0xA0).drop 64).take 64) ((localBytes s e.val (a - 0x80) 0xA0).drop 128))))
      (.engine e)) := by
  have hload : localLoad s e.val (a - 0x80) 0xA0 = true := localLoad_of_le (by omega)
  have hgo : ¬ (a < 0x80 ∨ localLoad s e.val (a - 0x80) 0xA0 = false) := by rw [hload]; simp; omega
  refine (act_ready_engine h _).trans (congrArg _ ?_)
  simp only [opWbdone, onEngine, ha, hi, if_neg hgo]

theorem fixDone_dropped (s : State) (e : Nat) {i : WorkItem} (resA resB cmpl : List Byte) (h : i.dropped = true) :
    fixDone s e i resA resB cmpl = s := by
  simp only [fixDone, h, if_true]

/-- The scheduler's compare of an INLINE waybill without a second algorithm (R244). -/
theorem matchBits_inline {w : Waybill} (resA resB : List Byte) (hm : wbMode w.bytes = 2) (hb : wbAlgB w.bytes = 0) :
    matchBits w resA resB = b2n (decide (resA.take (digestLen (wbAlgA w.bytes)) =
      (takePad 64 (w.expect.take 64)).take (digestLen (wbAlgA w.bytes)))) + 4 := by
  simp [matchBits, expectA, hm, hb, beq_eq_decide]

/-- An INLINE waybill whose program agrees with the scheduler's compare ends by that compare (R244, R247). -/
theorem fixDone_inline {s : State} {e : Nat} {i : WorkItem} {resA resB cmpl : List Byte} {same : Bool}
    (hd : i.dropped = false) (hc : i.cancelled = false) (hl : wbLedger i.wb.bytes = false) (hm : wbMode i.wb.bytes = 2)
    (hb : wbAlgB i.wb.bytes = 0) (hs : wbSegmented i.wb.bytes = false) (hbits : matchBits i.wb resA resB = b2n same + 4)
    (hagree : leAt cmpl 0 1 % 4 = b2n same) :
    fixDone s e i resA resB cmpl =
      fixComplete s i.wb (if same then 0 else 1) (b2n same + 4) i.streamed 0xFFFFFFFF 0 e := by
  cases same <;> simp [fixDone, hd, hc, hl, hm, hb, hs, hbits, hagree, b2n, noSegment]

/-- The completion of an INLINE waybill of a ring (R244, R283). -/
theorem fixComplete_inline {s : State} {w : Waybill} {n seq bytes seg e : Nat} {same : Bool} (hsrc : w.src = .ring n seq)
    (hm : wbMode w.bytes = 2) :
    let c := if same then Reg.FIX_CNT_PASS else Reg.FIX_CNT_FAIL
    let t := fixComplete s w (if same then 0 else 1) (b2n same + 4) bytes seg 0 e
    t.fix = { s.fix with done := s.fix.done ++
      [(n, completionBytes w seq (if same then 0 else 1) (b2n same + 4) bytes seg 0)] } ∧
    AllBut [.fix, .regs, .evr, .mbx, .irq, .irq1] s t ∧ t.rd c = satInc (s.rd c) ∧
    ∀ b, ¬ recorderWord b → b ≠ c → t.rd b = s.rd b := by
  intro c t
  obtain ⟨u, hu, hev⟩ : ∃ u, statusEvents s w (if same then 0 else 1) (b2n same + 4) seg 0 e = u ∧ Eventful (s.inc c) u := by
    refine ⟨_, rfl, ?_⟩
    cases hsame : same with
    | true => simp [statusEvents, c, hsame, Eventful.refl]
    | false => simpa [statusEvents, c, hsame, hm] using Eventful.log _ _ _ _ _
  obtain ⟨hall, hrd⟩ := hev
  have hfix : u.fix = s.fix := hall.fixEq
  have ht : t = { u with fix := { u.fix with done := u.fix.done ++
      [(n, completionBytes w seq (if same then 0 else 1) (b2n same + 4) bytes seg 0)] } } := by
    have hstat : ¬ ((if same then 0 else 1) = 0x10 ∨ (if same then 0 else 1) = 0x13) := by cases same <;> simp
    simp only [t, fixComplete, hu, hsrc, if_neg hstat]
  have hplain : ¬ recorderWord c := by
    unfold recorderWord c
    cases same <;> decide
  have htu (b : Nat) : t.rd b = u.rd b := State.rd_congr (by rw [ht]) b
  refine ⟨by rw [ht, hfix], ?_, (htu c).trans ((hrd c hplain).trans (State.rd_wr_self _ _ _)),
    fun b hb hbc => (htu b).trans ((hrd b hb).trans (State.rd_inc_of_ne _ hbc))⟩
  refine ((AllBut.inc s c).mono (by simp)).trans ((hall.mono (by simp)).trans ?_)
  rw [ht]
  exact allBut_of _ _ _ (fun p => by cases p <;> simp [sameIn])

/-- Bytes of a range from its start or from an offset on. -/
theorem State.rdMemN_take (s : State) : ∀ (n m a : Nat), n ≤ m → (s.rdMemN a m).take n = s.rdMemN a n := by
  intro n
  induction n with
  | zero => intro m a _; rfl
  | succ n ih =>
    intro m a h
    obtain ⟨m, rfl⟩ : ∃ k, m = k + 1 := ⟨m - 1, by omega⟩
    simp only [State.rdMemN, List.take_succ_cons, ih m (a + 1) (by omega)]

theorem State.rdMemN_drop (s : State) : ∀ (n m a : Nat), (s.rdMemN a (n + m)).drop n = s.rdMemN (a + n) m := by
  intro n
  induction n with
  | zero => intro m a; simp
  | succ n ih =>
    intro m a
    rw [Nat.add_right_comm, State.rdMemN, List.drop_succ_cons, ih m (a + 1), Nat.add_right_comm]
    rfl

theorem wbdone_result (s : State) (e a : Nat) : (localBytes s e a 0xA0).take 64 = localBytes s e a 64 :=
  State.rdMemN_take s 64 0xA0 _ (by decide)

theorem wbdone_matched (s : State) (e : Nat) {a : Nat} (h : 0x80 ≤ a) :
    leAt ((localBytes s e (a - 0x80) 0xA0).drop 128) 0 1 = leAt (localBytes s e a 1) 0 1 := by
  have h1 : (localBytes s e (a - 0x80) 0xA0).drop 128 = localBytes s e a 0x20 := by
    have hoff : engineBase e + (a - 0x80) + 128 = engineBase e + a := by omega
    rw [localBytes, State.rdMemN_drop s 128 0x20, hoff, localBytes]
  have h2 : (localBytes s e a 0x20).take 1 = localBytes s e a 1 := State.rdMemN_take s 1 0x20 _ (by decide)
  simp only [leAt, List.drop_zero, h1, h2, List.take_of_length_le (l := localBytes s e a 1) (i := 1) (by rfl)]

/-- What the end of an item leaves after the scheduler has taken it (R56, R247): `u` is the state with the engine's hands
empty, `d` the state with the completion posted. -/
theorem posted_spec {s u d : State} {e : Fin 512} (hu : s.setEngine e.val { s.engine e.val with item := none } = u)
    (hd : AllBut [.fix, .regs, .evr, .mbx, .irq, .irq1] u d) :
    ∃ t, t = advance (wakeFreed s (syncFix d)) (.engine e) ∧
      (t.engine e.val).item = none ∧ pcOf t (.engine e) = pcOf s (.engine e) + 4 ∧
      (∀ r, greg t (.engine e) r = greg s (.engine e) r) ∧
      (∀ f, f ≠ e.val → { t.engine f with wake := (s.engine f).wake, run := (s.engine f).run } = s.engine f) ∧
      { t.engine e.val with
        pc := (s.engine e.val).pc, item := (s.engine e.val).item
        wake := (s.engine e.val).wake, run := (s.engine e.val).run } = s.engine e.val ∧
      t.fix = d.fix ∧ AllBut [.engines, .fix, .regs, .evr, .mbx, .irq, .irq1] s t ∧
      RegsAllBut [Reg.FIX_STAT, Reg.FIX_INFLIGHT] d t := by
  refine ⟨_, rfl, ?_⟩
  have hself : u.engine e.val = { s.engine e.val with item := none } := hu ▸ State.engine_setEngine_self s _ _
  have hne (f : Nat) (hf : f ≠ e.val) : u.engine f = s.engine f := hu ▸ State.engine_setEngine_of_ne s _ hf
  have hsu : AllBut [.engines] s u := hu ▸ AllBut.setEngine s _ _
  obtain ⟨hsync, hregs⟩ := syncFix_spec d
  obtain ⟨hwake, hwoken⟩ := wakeFreed_spec s (syncFix d)
  generalize wakeFreed s (syncFix d) = w at hwake hwoken ⊢
  have heng (f : Nat) : (syncFix d).engine f = u.engine f := (hsync.engineEq f).trans (hd.engineEq f)
  generalize syncFix d = y at hsync hregs hwake hwoken heng
  have hpc : pcOf w (.engine e) = pcOf s (.engine e) := by
    have := congrArg Engine.pc (hwoken e.val)
    simpa only [pcOf, heng, hself] using congrArg (BitVec.ofNat 64) this
  have hadv : AllBut [.engines] w (advance w (.engine e)) := AllBut.setEngine _ _ _
  have hadvself : (advance w (.engine e)).engine e.val = { w.engine e.val with pc := (pcOf w (.engine e) + 4).toNat } :=
    State.engine_setEngine_self _ _ _
  have hadvne (f : Nat) (hf : f ≠ e.val) : (advance w (.engine e)).engine f = w.engine f :=
    State.engine_setEngine_of_ne _ _ hf
  have hadvpc : pcOf (advance w (.engine e)) (.engine e) = pcOf s (.engine e) + 4 :=
    pcOf_setEngine_next (by rw [hpc]) w
  generalize advance w (.engine e) = t at hadv hadvself hadvne hadvpc
  have hw := hwoken e.val
  rw [heng, hself] at hw
  refine ⟨?_, hadvpc, fun r => ?_, fun f hf => ?_, ?_, hadv.fixEq.trans (hwake.fixEq.trans hsync.fixEq), ?_, fun b hb => ?_⟩
  · rw [hadvself]
    exact congrArg Engine.item hw
  · have hg : (w.engine e.val).g = (s.engine e.val).g := by
      have := congrArg Engine.g hw
      exact this
    simp only [greg, hadvself, hg]
  · have hf' := hwoken f
    rw [heng, hne f hf] at hf'
    rw [hadvne f hf]
    exact hf'
  · rw [hadvself]
    exact congrArg (fun x => ({ x with pc := (s.engine e.val).pc, item := (s.engine e.val).item } : Engine)) hw
  · exact (hsu.mono (by simp)).trans ((hd.mono (by simp)).trans ((hsync.mono (by simp)).trans
      ((hwake.mono (by simp)).trans (hadv.mono (by simp)))))
  · exact (State.rd_congr hadv.regsEq b).trans ((State.rd_congr hwake.regsEq b).trans (hregs b hb))

/-- Settles O20: each instruction is its body, and the scheduler's compare settles an INLINE waybill. -/
theorem workItemsTaken : Obligations.WorkItemsTaken := by
  intro s e rd ra x a y bare res done
  refine ⟨fun h hcode hle => ⟨fun hnone => ?none, fun w hi hw => ?some⟩, fun i h h80 hle hi => ⟨?exec, fun hd => ?dropped,
    fun n seq hsrc hd hc hl hm hb hs => ?inline⟩⟩
  case none =>
    exact ⟨_, wbtake_none h (localStore_of_le hcode hle) hnone, engineNext_result (x := y) rd 0
      (State.engine_setEngine_self s _ _) rfl (fun f hf => State.engine_setEngine_of_ne s _ hf) (AllBut.setEngine s _ _)⟩
  case some =>
    obtain ⟨u, hu, hexec⟩ := wbtake_some h (localStore_of_le hcode hle) hi rfl hw
    obtain ⟨hself, hne, hall, hmem, hwait, hpaid⟩ := taken_spec a rfl hu
    obtain ⟨t, ht, hnext, htmem, htfix, hregs⟩ := wbtake_spec (w := w) rd hself hne hall
    rw [← ht] at hexec
    exact ⟨t, hexec, hnext, htmem.trans hmem, itemBytes_length w, by rw [htfix]; exact hwait, by rw [htfix]; exact hpaid, hregs⟩
  case exec => exact wbdone_item h rfl h80 hle hi
  case dropped => exact fixDone_dropped _ _ _ _ _ hd
  case inline =>
    intro len same hagree
    have hbits := matchBits_inline (w := i.wb) (res.take 64) ((res.drop 64).take 64) hm hb
    rw [show res.take 64 = localBytes s e.val (a - 0x80) 64 from wbdone_result s e.val (a - 0x80)] at hbits
    have hdone : done i = fixComplete bare i.wb (if same then 0 else 1) (b2n same + 4) i.streamed 0xFFFFFFFF 0 e.val :=
      fixDone_inline hd hc hl hm hb hs (by rw [show res.take 64 = _ from wbdone_result s e.val (a - 0x80)]; exact hbits)
        (by rw [show leAt (res.drop 128) 0 1 = _ from wbdone_matched s e.val h80]; exact hagree)
    have hexec : exec (.wbdone (.engine e) ra) s = .next (advance (wakeFreed s (syncFix (done i))) (.engine e)) :=
      wbdone_item h rfl h80 hle hi
    obtain ⟨hfix, hall, hcount, hrd⟩ := fixComplete_inline (s := bare) (w := i.wb) (n := n) (seq := seq) (bytes := i.streamed)
      (seg := 0xFFFFFFFF) (e := e.val) (same := same) hsrc hm
    rw [← hdone] at hfix hall hcount hrd
    obtain ⟨t, ht, hitem, hpc, hg, hother, hself, htfix, htall, hregs⟩ := posted_spec (s := s) (e := e) rfl hall
    have hbare : AllBut [.engines] s bare := AllBut.setEngine _ _ _
    have hstat : (if same then Reg.FIX_CNT_PASS else Reg.FIX_CNT_FAIL) ∉ [Reg.FIX_STAT, Reg.FIX_INFLIGHT] := by
      cases same <;> decide
    rw [← ht] at hexec
    refine ⟨t, hexec, hitem, hpc, hg, hother, hself, ?_, htall, (hregs _ hstat).trans (hcount.trans ?_), fun b hb hn => ?_⟩
    · rw [htfix, hfix, hbare.fixEq]
    · rw [State.rd_congr hbare.regsEq]
    · simp only [List.mem_cons, List.not_mem_nil, or_false, not_or] at hn
      obtain ⟨hn1, hn2, hn3⟩ := hn
      exact (hregs b (by simp [hn1, hn2])).trans ((hrd b hb hn3).trans (State.rd_congr hbare.regsEq b))

end Sys2Proof.Machine
end

section
/-! The barriers of the engines (R51, R52). -/

namespace Sys2Proof.Machine

/-! ### Release -/

/-- An engine with `v` in the rd of the barrier it waits at, running; any other engine as it is. -/
def freed (v : Dword) (x : Engine) : Engine :=
  match x.run with
  | .waitY rd => { (x.setReg rd v) with run := .running }
  | .waitG rd => { (x.setReg rd v) with run := .running }
  | _ => x

theorem freed_freed (v : Dword) (x : Engine) : freed v (freed v x) = freed v x := by
  unfold freed
  cases h : x.run <;> simp [h]

theorem engine_release (s : State) (v : Dword) (e f : Nat) :
    (release s v e).engine f = if f = e then freed v (s.engine e) else s.engine f := by
  unfold release freed
  dsimp only
  by_cases hf : f = e
  · subst hf
    cases (s.engine f).run <;> simp
  · cases (s.engine e).run <;> simp [hf, State.engine_setEngine_of_ne _ _ hf]

theorem release_frame (s : State) (v : Dword) (e : Nat) : AllBut [.engines] s (release s v e) := by
  unfold release
  dsimp only
  cases (s.engine e).run with
  | waitY rd => exact AllBut.setEngine _ _ _
  | waitG rd => exact AllBut.setEngine _ _ _
  | _ => exact AllBut.refl _ _

/-- A release of the engines of a list reaches each of them, and no other. -/
theorem engine_foldl_release (v : Dword) (l : List Nat) : ∀ (s : State) (f : Nat),
    (l.foldl (fun s e => release s v e) s).engine f = if f ∈ l then freed v (s.engine f) else s.engine f := by
  induction l with
  | nil => intro s f; simp
  | cons e l ih =>
    intro s f
    rw [List.foldl_cons, ih, engine_release]
    by_cases hf : f = e
    · subst hf
      by_cases hl : f ∈ l <;> simp [hl, freed_freed]
    · simp [hf]

theorem AllBut.foldl_release (v : Dword) (l : List Nat) (s : State) :
    AllBut [.engines] s (l.foldl (fun s e => release s v e) s) :=
  AllBut.foldl (fun s e => release_frame s v e) l s

theorem AllBut.syncBars (s : State) : AllBut [.regs] s (syncBars s) :=
  AllBut.foldl (fun _ _ => (AllBut.setBit _ _ _ _).trans (AllBut.setBit _ _ _ _)) _ s

theorem engine_syncBars (s : State) (e : Nat) : (syncBars s).engine e = s.engine e := (AllBut.syncBars s).engineEq e

theorem mem_barLanes {s : State} {y l : Nat} (h : l ∈ barLanes s y) : l < 32 := by
  simp only [barLanes, List.mem_filter, List.mem_range] at h
  exact h.1

theorem mem_barGlobal {s : State} {y l : Nat} (hl : l < 32) (hy : y < 16) :
    32 * y + l ∈ barGlobal s ↔ barJoined s y = true ∧ l ∈ barLanes s y := by
  simp only [barGlobal, List.mem_flatMap, List.mem_filter, List.mem_range, List.mem_map]
  constructor
  · rintro ⟨z, ⟨-, hz⟩, k, hk, heq⟩
    have := mem_barLanes hk
    obtain rfl : z = y := by omega
    obtain rfl : k = l := by omega
    exact ⟨hz, hk⟩
  · exact fun ⟨hj, hm⟩ => ⟨y, ⟨hy, hj⟩, l, hm, rfl⟩

/-! ### The rule of a yard's barriers -/

/-- The engines of yard `y`'s mask. -/
def maskEngines (s : State) (y : Nat) : List Nat := (barLanes s y).map (fun l => 32 * y + l)

/-- What the yard's own participants decide. -/
def settledYard (s : State) (y : Nat) : State :=
  let lanes := maskEngines s y
  let ys := lanes.filter (waitsY s)
  let gs := lanes.filter (waitsG s)
  if !ys.isEmpty && ys.length == lanes.length then ys.foldl (fun s e => release s 0 e) s
  else if !ys.isEmpty && !gs.isEmpty && ys.length + gs.length == lanes.length then
    breakG (breakY s y true (barLanes s y)) y true lanes
  else s

/-- What the participants of the global barrier decide. -/
def settledGlobal (s : State) : State :=
  if !(barGlobal s).isEmpty && (barGlobal s).all (waitsG s) then (barGlobal s).foldl (fun s e => release s 0 e) s else s

theorem settleBars_eq (s : State) (y : Nat) : settleBars s y = syncBars (settledGlobal (settledYard s y)) := rfl

theorem engine_settledGlobal (s : State) (e : Nat) : (settledGlobal s).engine e =
    if (barGlobal s ≠ [] ∧ ∀ f ∈ barGlobal s, waitsG s f = true) ∧ e ∈ barGlobal s then freed 0 (s.engine e)
    else s.engine e := by
  unfold settledGlobal
  by_cases h : barGlobal s ≠ [] ∧ ∀ f ∈ barGlobal s, waitsG s f = true
  · rw [if_pos (by simpa using h), engine_foldl_release]
    exact if_congr (and_iff_right h).symm rfl rfl
  · rw [if_neg (by simpa using h), if_neg fun hc => h hc.1]

/-- Every participant waits at BAR.Y: all are released. -/
theorem settledYard_released {s : State} {y : Nat} (hne : maskEngines s y ≠ [])
    (hall : ∀ e ∈ maskEngines s y, waitsY s e = true) :
    settledYard s y = (maskEngines s y).foldl (fun s e => release s 0 e) s := by
  have hf : (maskEngines s y).filter (waitsY s) = maskEngines s y := List.filter_eq_self.2 hall
  simp only [settledYard, hf]
  rw [if_pos (by simpa using hne)]

/-- No participant waits at BAR.Y: nothing happens. -/
theorem settledYard_none {s : State} {y : Nat} (h : ∀ e ∈ maskEngines s y, waitsY s e = false) : settledYard s y = s := by
  have hf : (maskEngines s y).filter (waitsY s) = [] := List.filter_eq_nil_iff.2 (by simpa using h)
  simp only [settledYard, hf, List.isEmpty_nil, Bool.not_true, Bool.false_and, Bool.false_eq_true, if_false]

/-- Two disjoint selections from a list that leave an entry out are together shorter than the list. -/
theorem length_filter_add_lt {α : Type} {p q : α → Bool} (hpq : ∀ x, p x = true → q x = false) {l : List α} {x : α}
    (hx : x ∈ l) (hp : p x = false) (hq : q x = false) : (l.filter p).length + (l.filter q).length < l.length := by
  have hsub : l.filter q = (l.filter (fun y => !p y)).filter q := by
    rw [List.filter_filter]
    refine List.filter_congr fun y _ => ?_
    cases hy : p y with
    | false => simp
    | true => simp [hpq y hy]
  have hlt : ((l.filter (fun y => !p y)).filter q).length < (l.filter (fun y => !p y)).length :=
    List.length_filter_lt_length_iff_exists.2 ⟨x, List.mem_filter.2 ⟨hx, by simp [hp]⟩, by simp [hq]⟩
  have hadd := List.length_eq_length_filter_add (l := l) p
  rw [← hsub] at hlt
  omega

/-- A participant waits at neither barrier: nothing happens. -/
theorem settledYard_waiting {s : State} {y e : Nat} (he : e ∈ maskEngines s y) (h1 : waitsY s e = false)
    (h2 : waitsG s e = false) : settledYard s y = s := by
  have hdisj (f : Nat) (hf : waitsY s f = true) : waitsG s f = false := by
    unfold waitsY at hf
    unfold waitsG
    cases hr : (s.engine f).run <;> simp_all
  have hlt := length_filter_add_lt hdisj he h1 h2
  simp only [settledYard, Bool.and_eq_true, beq_iff_eq]
  rw [if_neg fun h => by omega, if_neg fun h => by omega]

/-! ### Arriving -/

/-- An engine's own instruction that writes rd in place of a wait has gone on with it. -/
theorem setEngine_setReg (s : State) (e : Fin 512) (rd : RegNo) (v : Dword) :
    (advance s (.engine e)).setEngine e.val (((advance s (.engine e)).engine e.val).setReg rd v) =
      result s (.engine e) rd v := by
  have hset (x : Engine) : x.setReg rd v = { x with g := gSet x.g rd v } := by
    unfold Engine.setReg gSet
    split <;> rfl
  simp only [result, advance, setPc, setGreg, pcOf, hset, State.engine_setEngine_self, State.setEngine_setEngine]

theorem barY_outside {s : State} {e : Fin 512} {rd : RegNo} (h : s.bit (Reg.YRD_BAR_MASK (e.val / 32)) (e.val % 32) = false) :
    barrierY (advance s (.engine e)) e.val rd = result s (.engine e) rd 0 := by
  have hb : (advance s (.engine e)).bit (Reg.YRD_BAR_MASK (e.val / 32)) (e.val % 32) = false := h
  rw [← setEngine_setReg]
  simp only [barrierY, hb, if_true]

theorem barG_outside {s : State} {e : Fin 512} {rd : RegNo} (h : s.bit (Reg.YRD_BAR_MASK (e.val / 32)) (e.val % 32) = false ∨
    barJoined s (e.val / 32) = false) : barrierG (advance s (.engine e)) e.val rd = result s (.engine e) rd 0 := by
  have hb : (advance s (.engine e)).bit (Reg.YRD_BAR_MASK (e.val / 32)) (e.val % 32) = false ∨
      barJoined (advance s (.engine e)) (e.val / 32) = false := h
  rw [← setEngine_setReg]
  simp only [barrierG, if_pos hb]

theorem setEngine_run (s : State) (e : Fin 512) (run : EngRun) :
    (advance s (.engine e)).setEngine e.val { (advance s (.engine e)).engine e.val with run := run } =
      s.setEngine e.val { s.engine e.val with
        pc := (BitVec.ofNat 64 (s.engine e.val).pc + 4).toNat, run := run } := by
  simp only [advance, setPc, pcOf, State.engine_setEngine_self, State.setEngine_setEngine]

theorem barY_arrives {s : State} {e : Fin 512} {rd : RegNo} (h : s.bit (Reg.YRD_BAR_MASK (e.val / 32)) (e.val % 32) = true)
    (ho : (s.yard (e.val / 32)).owedY = []) : barrierY (advance s (.engine e)) e.val rd =
      settleBars (s.setEngine e.val { s.engine e.val with
        pc := (BitVec.ofNat 64 (s.engine e.val).pc + 4).toNat, run := .waitY rd }) (e.val / 32) := by
  have hb : (advance s (.engine e)).bit (Reg.YRD_BAR_MASK (e.val / 32)) (e.val % 32) = true := h
  have hy : (advance s (.engine e)).yard (e.val / 32) = s.yard (e.val / 32) := rfl
  rw [← setEngine_run]
  simp only [barrierY, hb, hy, ho, List.isEmpty_nil, Bool.true_eq_false, if_false, if_true]

theorem barG_arrives {s : State} {e : Fin 512} {rd : RegNo} (h : s.bit (Reg.YRD_BAR_MASK (e.val / 32)) (e.val % 32) = true)
    (hj : barJoined s (e.val / 32) = true) (ho : s.owedG = []) : barrierG (advance s (.engine e)) e.val rd =
      settleBars (s.setEngine e.val { s.engine e.val with
        pc := (BitVec.ofNat 64 (s.engine e.val).pc + 4).toNat, run := .waitG rd }) (e.val / 32) := by
  have hb : (advance s (.engine e)).bit (Reg.YRD_BAR_MASK (e.val / 32)) (e.val % 32) = true := h
  have hj' : barJoined (advance s (.engine e)) (e.val / 32) = true := hj
  have hg : (advance s (.engine e)).owedG = s.owedG := rfl
  rw [← setEngine_run]
  simp only [barrierG, hb, hj', hg, ho, List.isEmpty_nil, Bool.true_eq_false, or_self, if_false, if_true]

/-- An engine that goes on past a broken barrier: rd gets 1 in a state `u` in which it owes no more. -/
theorem engineNext_owed {s u : State} {e : Fin 512} (rd : RegNo) {ps : List Part}
    (hu : AllBut ps (advance s (.engine e)) u) (hn : .engines ∉ ps) :
    EngineNext e { s.engine e.val with g := gSet (s.engine e.val).g rd 1 } ps s
      (u.setEngine e.val ((u.engine e.val).setReg rd 1)) := by
  have heng (f : Nat) : u.engine f = (advance s (.engine e)).engine f := hu.engineEq f hn
  have hreg : (u.engine e.val).setReg rd 1 = { s.engine e.val with
      g := gSet (s.engine e.val).g rd 1, pc := (pcOf s (.engine e) + 4).toNat } := by
    rw [heng, advance, setPc, State.engine_setEngine_self]
    unfold Engine.setReg gSet
    split <;> rfl
  refine ⟨?_, ?_, fun f hf => ?_, (AllBut.setEngine s _ _ |>.mono (by simp)).trans ((hu.mono fun p hp => by simp [hp]).trans
    ((AllBut.setEngine _ _ _).mono (by simp)))⟩
  · rw [State.engine_setEngine_self, hreg]
  · simp only [pcOf, State.engine_setEngine_self, hreg, BitVec.ofNat_toNat, BitVec.setWidth_eq]
  · rw [State.engine_setEngine_of_ne _ _ hf, heng, advance, setPc, State.engine_setEngine_of_ne _ _ hf]

/-- BAR.Y of an engine that had still to arrive when the barrier broke (R52). -/
theorem barY_owed {s : State} {e : Fin 512} {rd : RegNo} (h : s.bit (Reg.YRD_BAR_MASK (e.val / 32)) (e.val % 32) = true)
    (ho : (s.yard (e.val / 32)).owedY ≠ []) :
    EngineNext e { s.engine e.val with g := gSet (s.engine e.val).g rd 1 } [.yards] s
      (barrierY (advance s (.engine e)) e.val rd) ∧
    ((barrierY (advance s (.engine e)) e.val rd).yard (e.val / 32)).owedY =
      (s.yard (e.val / 32)).owedY.filter (fun l => l != e.val % 32) := by
  have hb : (advance s (.engine e)).bit (Reg.YRD_BAR_MASK (e.val / 32)) (e.val % 32) = true := h
  have hy : (advance s (.engine e)).yard (e.val / 32) = s.yard (e.val / 32) := rfl
  have ho' : (s.yard (e.val / 32)).owedY.isEmpty = false := by simpa using ho
  obtain ⟨u, hu⟩ : ∃ u, u = (advance s (.engine e)).setYard (e.val / 32) { s.yard (e.val / 32) with
      owedY := (s.yard (e.val / 32)).owedY.filter (fun l => l != e.val % 32) } := ⟨_, rfl⟩
  have heq : barrierY (advance s (.engine e)) e.val rd = u.setEngine e.val ((u.engine e.val).setReg rd 1) := by
    simp only [barrierY, hb, hy, ho', Bool.true_eq_false, Bool.false_eq_true, if_false, hu]
    rfl
  have hyard : (u.setEngine e.val ((u.engine e.val).setReg rd 1)).yard (e.val / 32) = u.yard (e.val / 32) := rfl
  rw [heq]
  refine ⟨engineNext_owed rd ?_ (by decide), ?_⟩
  · rw [hu]
    exact allBut_of _ _ _ (fun p => by cases p <;> simp [sameIn, State.setYard])
  · rw [hyard, hu, State.yard_setYard_self]

/-- BAR.G of an engine that had still to arrive when the barrier broke (R52). -/
theorem barG_owed {s : State} {e : Fin 512} {rd : RegNo} (h : s.bit (Reg.YRD_BAR_MASK (e.val / 32)) (e.val % 32) = true)
    (hj : barJoined s (e.val / 32) = true) (ho : s.owedG ≠ []) :
    EngineNext e { s.engine e.val with g := gSet (s.engine e.val).g rd 1 } [.owedG] s
      (barrierG (advance s (.engine e)) e.val rd) ∧
    (barrierG (advance s (.engine e)) e.val rd).owedG = s.owedG.filter (fun f => f != e.val) := by
  have hb : (advance s (.engine e)).bit (Reg.YRD_BAR_MASK (e.val / 32)) (e.val % 32) = true := h
  have hj' : barJoined (advance s (.engine e)) (e.val / 32) = true := hj
  have hg : (advance s (.engine e)).owedG = s.owedG := rfl
  have ho' : s.owedG.isEmpty = false := by simpa using ho
  obtain ⟨u, hu⟩ : ∃ u : State, u = { advance s (.engine e) with owedG := s.owedG.filter (fun f => f != e.val) } := ⟨_, rfl⟩
  have heq : barrierG (advance s (.engine e)) e.val rd = u.setEngine e.val ((u.engine e.val).setReg rd 1) := by
    simp only [barrierG, hb, hj', hg, ho', Bool.true_eq_false, Bool.false_eq_true, or_self, if_false, hu]
    rfl
  have howed : (u.setEngine e.val ((u.engine e.val).setReg rd 1)).owedG = u.owedG := rfl
  rw [heq]
  refine ⟨engineNext_owed rd ?_ (by decide), by rw [howed, hu]⟩
  rw [hu]
  exact allBut_of _ _ _ (fun p => by cases p <;> simp [sameIn])

/-- Settles O21: an engine outside the mask goes on, one that arrives waits, and the last arrival releases every
participant. -/
theorem barriers : Obligations.Barriers := by
  refine ⟨fun s e rd => ?_, fun s y => ?_⟩
  · intro y x inMask waiting
    exact ⟨fun hm => writes_of rfl (fun _ => barY_outside hm) rfl, fun hm => writes_of rfl (fun _ => barG_outside hm) rfl,
      fun h hm ho => (act_ready_engine h _).trans (congrArg _ (barY_arrives hm ho)),
      fun h hm hj ho => (act_ready_engine h _).trans (congrArg _ (barG_arrives hm hj ho)),
      fun h hm ho => ⟨_, act_ready_engine h _, barY_owed hm ho⟩,
      fun h hm hj ho => ⟨_, act_ready_engine h _, barG_owed hm hj ho⟩⟩
  · intro released
    have hreleased (u : State) (e : Nat) (hu : u.engine e = freed 0 (s.engine e))
        (hw : waitsY s e = true ∨ waitsG s e = true) : released u e := by
      unfold freed Engine.setReg at hu
      unfold waitsY waitsG at hw
      cases hr : (s.engine e).run with
      | waitY rd => exact ⟨rd, .inl hr, by rw [hu, hr]; dsimp only; unfold gSet; split <;> rfl⟩
      | waitG rd => exact ⟨rd, .inr hr, by rw [hu, hr]; dsimp only; unfold gSet; split <;> rfl⟩
      | _ => simp [hr] at hw
    refine ⟨fun hp => congrArg Host.Outcome.next (if_neg (by simp [hp])), fun hne hall l hl => ?_, fun hj hne hall e he => ?_,
      fun l hl h1 h2 k hk => ?_⟩
    · have hmem : 32 * y.val + l ∈ maskEngines s y.val := List.mem_map_of_mem hl
      refine hreleased _ _ ?_ (.inl (hall l hl))
      rw [settleBars_eq, engine_syncBars, engine_settledGlobal, settledYard_released (List.ne_nil_of_mem hmem)
        (List.forall_mem_map.2 hall), engine_foldl_release, if_pos hmem, freed_freed, ite_self]
    · have hnone : settledYard s y.val = s := settledYard_none (List.forall_mem_map.2 fun l hl => by
        have hg := hall _ ((mem_barGlobal (mem_barLanes hl) y.isLt).2 ⟨hj, hl⟩)
        unfold waitsG at hg
        unfold waitsY
        cases hr : (s.engine (32 * y.val + l)).run <;> simp_all)
      refine hreleased _ _ ?_ (.inr (hall e he))
      rw [settleBars_eq, engine_syncBars, hnone, engine_settledGlobal, if_pos ⟨⟨hne, hall⟩, he⟩]
    · have hmem : 32 * y.val + l ∈ maskEngines s y.val := List.mem_map_of_mem hl
      rw [settleBars_eq, engine_syncBars, settledYard_waiting hmem h1 h2, engine_settledGlobal, if_neg]
      rintro ⟨⟨-, hall⟩, hk'⟩
      obtain ⟨hj, -⟩ := (mem_barGlobal (mem_barLanes hk) y.isLt).1 hk'
      have hg := hall _ ((mem_barGlobal (mem_barLanes hl) y.isLt).2 ⟨hj, hl⟩)
      simp [h2] at hg

end Sys2Proof.Machine
end

section
/-! Transactions opened, filled and dropped (R60-R65, R70, R73). -/

namespace Sys2Proof.Machine

/-! ### Cores that go on -/

theorem AllBut.coresEq {ps : List Part} {s t : State} (h : AllBut ps s t) (hn : Part.cores ∉ ps := by decide) :
    t.cores = s.cores := h .cores hn

theorem AllBut.ilkEq {ps : List Part} {s t : State} (h : AllBut ps s t) (hn : Part.ilk ∉ ps := by decide) : t.ilk = s.ilk :=
  h .ilk hn

/-- A part that has not changed need not be named. -/
theorem AllBut.drop {q : Part} {ps : List Part} {s t : State} (h : AllBut (q :: ps) s t) (hq : sameIn s t q) :
    AllBut ps s t := fun p hp => by
  by_cases hpq : p = q
  · exact hpq ▸ hq
  · exact h p (by simp [hpq, hp])

/-- A core of which `u` has made `x`, awake, and that then goes on. -/
theorem coreNext_advance {s u : State} {c : Fin 2} {x : Core} {ps : List Part}
    (hc : u.core c = { x with pc := (s.core c).pc, run := .running }) (ho : ∀ d, d ≠ c → u.core d = s.core d)
    (hb : AllBut (.cores :: ps) s u) : CoreNext c x ps s (advance u (.core c)) := by
  refine ⟨?_, fun d hd => (State.core_setCore_of_ne _ _ hd).trans (ho d hd), hb.trans ((AllBut.setCore _ _ _).mono (by simp))⟩
  simp only [advance, setPc, pcOf, State.core_setCore_self, hc]

/-- As `coreNext_advance`, for a core that also takes a result. -/
theorem coreNext_result {s u : State} {c : Fin 2} {x : Core} {ps : List Part} (rd : RegNo) (v : Dword)
    (hc : u.core c = { x with pc := (s.core c).pc, run := .running }) (ho : ∀ d, d ≠ c → u.core d = s.core d)
    (hb : AllBut (.cores :: ps) s u) : CoreNext c { x with g := gSet x.g rd v } ps s (result u (.core c) rd v) :=
  coreNext_advance (by rw [setGreg, State.core_setCore_self, hc]) (fun d hd => (State.core_setCore_of_ne _ _ hd).trans (ho d hd))
    (hb.trans ((AllBut.setCore _ _ _).mono (by simp)))

/-- A ready core is awake before its instruction's body runs. -/
theorem awake_spec {s : State} {c : Fin 2} {w : Wop} (h : Ready s (.core c) w) :
    (awake s (.core c)).core c = { s.core c with run := .running } ∧
    (∀ d, d ≠ c → (awake s (.core c)).core d = s.core d) ∧ AllBut [.cores] s (awake s (.core c)) := awake_core s c h.2.1

theorem advance_core_ilk (s : State) (c : Fin 2) : (advance s (.core c)).ilk = s.ilk := rfl

theorem result_core_ilk (s : State) (c : Fin 2) (rd : RegNo) (v : Dword) : (result s (.core c) rd v).ilk = s.ilk := rfl

theorem setHandle_ilk_congr {s t : State} (h : t.ilk = s.ilk) (k : Nat) (x : Handle) :
    (t.setHandle k x).ilk = (s.setHandle k x).ilk := by
  simp only [State.setHandle, h]

/-! ### TOPEN -/

theorem topen_free {s : State} {c : Fin 2} {rd : RegNo} {h : Nat} (hr : Ready s (.core c) (.topen rd))
    (hfree : (s.handle h).state = .free)
    (hlow : h = 2 * c.val ∨ (h = 2 * c.val + 1 ∧ (s.handle (2 * c.val)).state ≠ .free)) :
    ∃ t, exec (.topen (.core c) rd) s = .next t ∧
      CoreNext c { s.core c with g := gSet (s.core c).g rd (BitVec.ofNat 64 (0x100 + h)) } [.ilk] s t ∧
      t.ilk = (s.setHandle h { state := .opened, lastStatus := (s.handle h).lastStatus, relief := c != s.duty }).ilk := by
  obtain ⟨hself, hother, hall⟩ := awake_spec hr
  have hexec := act_ready hr (opTopen (.core c) rd)
  generalize hw : awake s (.core c) = w at hself hother hall hexec
  have hfind : [2 * c.val, 2 * c.val + 1].find? (fun h => (w.handle h).state == .free) = some h := by
    simp only [State.handle_congr hall.ilkEq, List.find?_cons]
    rcases hlow with rfl | ⟨rfl, hne⟩
    · simp [hfree]
    · have hb : ((s.handle (2 * c.val)).state == .free) = false := by simpa using hne
      simp [hfree, hb]
  have hbody : opTopen (.core c) rd w = result (w.setHandle h
      { state := .opened, lastStatus := (s.handle h).lastStatus, relief := c != s.duty })
      (.core c) rd (BitVec.ofNat 64 (0x100 + h)) := by
    have hduty : w.duty = s.duty := hall .duty (by decide)
    simp only [opTopen, onCore, hfind]
    simp only [State.handle_congr hall.ilkEq, hduty]
  rw [hbody] at hexec
  refine ⟨_, hexec, coreNext_result (x := s.core c) rd _ hself hother
    ((hall.mono (by simp)).trans ((AllBut.setHandle _ _ _).mono (by simp))), ?_⟩
  exact (result_core_ilk _ _ _ _).trans (setHandle_ilk_congr hall.ilkEq _ _)

theorem topen_full {s : State} {c : Fin 2} {rd : RegNo} (h0 : (s.handle (2 * c.val)).state ≠ .free)
    (h1 : (s.handle (2 * c.val + 1)).state ≠ .free) : Writes (.topen (.core c) rd) (.topen rd) s (.core c) rd 0x10 := by
  refine writes_of (v := 0x10) rfl (fun hr => ?_) rfl
  obtain ⟨-, -, hall⟩ := awake_spec hr
  have hb0 : ((s.handle (2 * c.val)).state == .free) = false := by simpa using h0
  have hb1 : ((s.handle (2 * c.val + 1)).state == .free) = false := by simpa using h1
  have hfind : [2 * c.val, 2 * c.val + 1].find? (fun h => ((awake s (.core c)).handle h).state == .free) = none := by
    simp [State.handle_congr hall.ilkEq, hb0, hb1]
  simp only [opTopen, onCore, hfind]

/-! ### TPUT -/

theorem ownsHandle_eq (c : Fin 2) : ownsHandle c = fun h => h / 2 == c.val := by
  funext h
  rw [ownsHandle, Bool.and_eq_right_iff_imp]
  intro hh
  have := beq_iff_eq.1 hh
  exact decide_eq_true (by omega)

theorem ownHandle_awake (s : State) (c : Fin 2) (r : RegNo) :
    ownHandle c (greg (awake s (.core c)) (.core c) r) =
      (handleOf (greg s (.core c) r)).filter (fun h => h / 2 == c.val) := by
  rw [greg_awake, ownHandle, ownsHandle_eq]

theorem takeRecord_awake (s : State) (c : Fin 2) (b : List Byte) : takeRecord (awake s (.core c)) b = takeRecord s b := by
  have hmem (a n : Nat) : (awake s (.core c)).rdMemN a n = s.rdMemN a n := by
    unfold awake
    dsimp only
    split
    · exact State.rdMemN_congr (State.setCore_mem s c _) n a
    · rfl
  have hlock : lockdownRecord (awake s (.core c)) = lockdownRecord s := by
    unfold awake
    dsimp only
    split <;> rfl
  simp only [takeRecord, hmem, hlock]

theorem putRecord_held {s w : State} {c : Fin 2} {h a : Nat} (hw : w.ilk = s.ilk) (hheld : (s.handle h).held.isSome = true) :
    putRecord w c h a = w := by
  simp only [putRecord, State.handle_congr hw, hheld, if_true]

/-- A well-formed record of the core's own memory is taken where the transaction keeps within its size (R62). -/
theorem putRecord_taken {s w : State} {c : Fin 2} {h a : Nat} (hw : w.ilk = s.ilk) (hmem : ∀ a n, w.rdMemN a n = s.rdMemN a n)
    (htake : ∀ b, takeRecord w b = takeRecord s b) (hheld : (s.handle h).held = none) (hin : inOwn c a 32 = true)
    (hok : recordOk c a (s.rdMemN a 32) = true) :
    putRecord w c h a = if sizeOk ((s.handle h).recs ++ [takeRecord s (s.rdMemN a 32)]) = true then
      w.setHandle h { s.handle h with recs := (s.handle h).recs ++ [takeRecord s (s.rdMemN a 32)] }
      else w.setHandle h { s.handle h with held := some (0x12, (s.handle h).recs.length) } := by
  simp only [putRecord, State.handle_congr hw, hheld, hin, hmem, htake, hok, Option.isSome_none, Bool.false_eq_true,
    Bool.true_eq_false, if_false, if_true]

/-- A bad record, or one elsewhere, is held with its index (R62, R63). -/
theorem putRecord_refused {s w : State} {c : Fin 2} {h a : Nat} (hw : w.ilk = s.ilk)
    (hmem : ∀ a n, w.rdMemN a n = s.rdMemN a n) (hheld : (s.handle h).held = none)
    (hbad : inOwn c a 32 = false ∨ recordOk c a (s.rdMemN a 32) = false) :
    putRecord w c h a = w.setHandle h { s.handle h with held := some (0x13, (s.handle h).recs.length) } := by
  have hrec : recordOk c a (if inOwn c a 32 then s.rdMemN a 32 else []) = false := by
    cases hin : inOwn c a 32 with
    | false => simp [recordOk, hin]
    | true => simpa [hin] using hbad
  simp only [putRecord, State.handle_congr hw, hheld, hmem, hrec, Option.isSome_none, Bool.false_eq_true, if_false, if_true]

/-- TPUT of an OPEN handle of the core's own leaves what taking the record leaves (R61-R63). -/
theorem tput_opened {s : State} {c : Fin 2} {ra rb : RegNo} {h : Nat} (hr : Ready s (.core c) (.tput ra rb))
    (hn : (handleOf (greg s (.core c) ra)).filter (fun h => h / 2 == c.val) = some h)
    (ho : (s.handle h).state = .opened) {ilk : Ilk}
    (hput : ∀ w : State, w.ilk = s.ilk → (∀ a n, w.rdMemN a n = s.rdMemN a n) → (∀ b, takeRecord w b = takeRecord s b) →
      AllBut [.ilk] w (putRecord w c h (greg s (.core c) rb).toNat) ∧
        (putRecord w c h (greg s (.core c) rb).toNat).ilk = ilk) :
    ∃ t, exec (.tput (.core c) ra rb) s = .next t ∧ CoreNext c (s.core c) [.ilk] s t ∧ t.ilk = ilk := by
  obtain ⟨hself, hother, hall⟩ := awake_spec hr
  have hexec := act_ready hr (opTput (.core c) ra rb)
  have hown := ownHandle_awake s c ra
  have hg := greg_awake s (.core c) rb
  have htake := takeRecord_awake s c
  generalize awake s (.core c) = w at hself hother hall hexec hown hg htake
  obtain ⟨hput1, hput2⟩ := hput w hall.ilkEq (fun a n => State.rdMemN_congr hall.memEq n a) htake
  have hfilter : (ownHandle c (greg w (.core c) ra)).filter (fun h => (w.handle h).state == .opened) = some h := by
    rw [hown, hn]
    simp [State.handle_congr hall.ilkEq, ho]
  have hbody : opTput (.core c) ra rb w = advance (putRecord w c h (greg s (.core c) rb).toNat) (.core c) := by
    simp only [opTput, onCore, hfilter, hg]
  rw [hbody] at hexec
  refine ⟨_, hexec, coreNext_advance ?_ (fun d hd => ?_) ((hall.mono (by simp)).trans (hput1.mono (by simp))),
    (advance_core_ilk _ _).trans hput2⟩
  · rw [State.core_congr hput1.coresEq, hself]
  · rw [State.core_congr hput1.coresEq, hother d hd]

/-- TPUT of a handle that the core does not own, or that is not OPEN (R62). -/
theorem tput_bad {s : State} {c : Fin 2} {ra rb : RegNo} (hr : Ready s (.core c) (.tput ra rb))
    (hn : ∀ h, (handleOf (greg s (.core c) ra)).filter (fun h => h / 2 == c.val) = some h → (s.handle h).state ≠ .opened) :
    exec (.tput (.core c) ra rb) s = .next (advance ((awake s (.core c)).log Ev.BAD_HANDLE (.lc c)
      ((greg s (.core c) ra).toNat % 256) []) (.core c)) := by
  obtain ⟨-, -, hall⟩ := awake_spec hr
  refine (act_ready hr _).trans (congrArg _ ?_)
  have hfilter : (ownHandle c (greg (awake s (.core c)) (.core c) ra)).filter
      (fun h => ((awake s (.core c)).handle h).state == .opened) = none := by
    rw [ownHandle_awake]
    simp only [State.handle_congr hall.ilkEq, Option.filter_eq_none_iff]
    exact fun h hh => by simpa using hn h hh
  simp only [opTput, onCore, hfilter, badHandle]
  rw [greg_awake]
  rfl

/-! ### TDROP -/

theorem setHandle_congr {s t : State} (h : t.ilk = s.ilk) (k : Nat) (x : Handle) :
    (t.setHandle k x).ilk = (s.setHandle k x).ilk := by
  simp only [State.setHandle, h]

/-- The core that has opened a handle. -/
def handleCore (h : Nat) : Fin 2 := if h < 2 then 0 else 1

/-- A handle's closure of which its core need not be told leaves the cores. -/
theorem deliver_cores {s : State} {h st : Nat} {n : Bool} (hr : ∀ r k, (s.core (handleCore h)).run ≠ .stalled r k) :
    (deliver s h st n).cores = s.cores := by
  unfold deliver
  split
  · rfl
  · dsimp only
    change (match (s.core (handleCore h)).run with
      | .stalled rd h' => _
      | _ => if n then s.raise 1 else s).cores = _
    cases hrun : (s.core (handleCore h)).run with
    | stalled r k => exact absurd hrun (hr r k)
    | _ => cases n <;> rfl

theorem closeHandle_ilk (s : State) (h st : Nat) (n : Bool) (o : Origin) :
    (closeHandle s h st n o).ilk = (s.setHandle h { lastStatus := st }).ilk :=
  ((syncArm_spec _ o).1.ilkEq).trans (deliver_spec _ h st n).ilkEq

theorem closeHandle_cores {s : State} {h st : Nat} {n : Bool} (o : Origin)
    (hr : ∀ r k, (s.core (handleCore h)).run ≠ .stalled r k) : (closeHandle s h st n o).cores = s.cores :=
  ((syncArm_spec _ o).1.coresEq).trans (deliver_cores (s := s.setHandle h { lastStatus := st }) hr)

/-- A drop: the handle is FREE with DROPPED, ILK_ARM follows and the event is recorded (R64, R65). -/
theorem dropHandle_spec {s : State} {h : Nat} (p cause : Nat) (n : Bool)
    (hr : ∀ r k, (s.core (handleCore h)).run ≠ .stalled r k) :
    (dropHandle s h p cause n).ilk = (s.setHandle h { lastStatus := 0x33 }).ilk ∧
    (dropHandle s h p cause n).cores = s.cores ∧ AllBut [.regs, .ilk, .evr, .mbx, .irq, .irq1] s (dropHandle s h p cause n) ∧
    (∀ a, ¬ recorderWord a → a ≠ Reg.ILK_ARM → (dropHandle s h p cause n).rd a = s.rd a) := by
  obtain ⟨-, hrd, hall, -, -⟩ := closeHandle_spec s h 0x33 n .interlocking
  have hcores := closeHandle_cores (st := 0x33) (n := n) .interlocking hr
  have hilk := closeHandle_ilk s h 0x33 n .interlocking
  obtain ⟨hlog, hlogrd⟩ := Eventful.log (closeHandle s h 0x33 n .interlocking) Ev.DROP .interlocking
    (subjectDetail (s.handle h).recs) (leBytes 1 h ++ leBytes 1 p ++ leBytes 1 0x33 ++ leBytes 1 cause)
  have hc : (dropHandle s h p cause n).cores = s.cores := hlog.coresEq.trans hcores
  refine ⟨hlog.ilkEq.trans hilk, hc, AllBut.drop (q := .cores) ?_ hc, fun a ha hn => (hlogrd a ha).trans (hrd a ha hn)⟩
  exact (hall.mono (by simp)).trans (hlog.mono (by simp))

/-- The drops of handles of the other core, one after the other. -/
theorem foldl_dropHandle_spec {c : Fin 2} (h : Nat) : ∀ (ps : List Nat) {s v : State}, (∀ k ∈ ps, handleCore k = c) →
    (∀ r k, (s.core c).run ≠ .stalled r k) → v.ilk = s.ilk →
    (ps.foldl (fun s k => dropHandle s k h 2 true) s).ilk =
      (ps.foldl (fun v k => v.setHandle k { lastStatus := 0x33 }) v).ilk ∧
    (ps.foldl (fun s k => dropHandle s k h 2 true) s).cores = s.cores ∧
    AllBut [.regs, .ilk, .evr, .mbx, .irq, .irq1] s (ps.foldl (fun s k => dropHandle s k h 2 true) s) ∧
    (∀ a, ¬ recorderWord a → a ≠ Reg.ILK_ARM → (ps.foldl (fun s k => dropHandle s k h 2 true) s).rd a = s.rd a) := by
  intro ps
  induction ps with
  | nil => exact fun _ _ hv => ⟨hv.symm, rfl, AllBut.refl _ _, fun _ _ _ => rfl⟩
  | cons k ps ih =>
    intro s v hps hr hv
    have hk : handleCore k = c := hps k List.mem_cons_self
    obtain ⟨h1, h2, h3, h4⟩ := dropHandle_spec (s := s) (h := k) h 2 true (by rw [hk]; exact hr)
    obtain ⟨i1, i2, i3, i4⟩ := ih (s := dropHandle s k h 2 true) (v := v.setHandle k { lastStatus := 0x33 })
      (fun j hj => hps j (List.mem_cons_of_mem _ hj)) (by rw [State.core_congr h2]; exact hr)
      ((setHandle_congr hv _ _).trans h1.symm)
    exact ⟨i1, i2.trans h2, h3.trans i3, fun a ha hn => (i4 a ha hn).trans (h4 a ha hn)⟩

/-- A ready core is not stalled, nor is it once awake. -/
theorem awake_not_stalled {s : State} {c : Fin 2} {w : Wop} (hr : Ready s (.core c) w) (r : RegNo) (k : Nat) :
    ((awake s (.core c)).core c).run ≠ .stalled r k := by
  rw [(awake_spec hr).1]
  simp

/-- The instruction's last word after a drop: the core has gone on, the rest is what the drop leaves. -/
theorem dropped_spec {s w u : State} {c : Fin 2} (hself : w.core c = { s.core c with run := .running })
    (hother : ∀ d, d ≠ c → w.core d = s.core d) (hall : AllBut [.cores] s w) (hcores : u.cores = w.cores)
    (hu : AllBut [.regs, .ilk, .evr, .mbx, .irq, .irq1] w u)
    (hrd : ∀ a, ¬ recorderWord a → a ≠ Reg.ILK_ARM → u.rd a = w.rd a) :
    (advance u (.core c)).core c = { s.core c with pc := (s.core c).pc + 4, run := .running } ∧
    (∀ d, d ≠ c → (advance u (.core c)).core d = s.core d) ∧
    AllBut [.cores, .ilk, .regs, .evr, .mbx, .irq, .irq1] s (advance u (.core c)) ∧
    (∀ a, ¬ recorderWord a → a ≠ Reg.ILK_ARM → (advance u (.core c)).rd a = s.rd a) := by
  refine ⟨?_, fun d hd => ?_, (hall.mono (by simp)).trans ((hu.mono (by simp)).trans ((AllBut.setCore _ _ _).mono (by simp))),
    fun a ha hn => (State.rd_congr (AllBut.setCore _ _ _).regsEq a).trans
      ((hrd a ha hn).trans (State.rd_congr hall.regsEq a))⟩
  · simp only [advance, setPc, pcOf, State.core_setCore_self, State.core_congr hcores, hself]
  · rw [advance, setPc, State.core_setCore_of_ne _ _ hd, State.core_congr hcores, hother d hd]

theorem handleCore_of_half {h : Nat} {c : Fin 2} (hc : h / 2 = c.val) : handleCore h = c := by
  unfold handleCore
  split <;> ext <;> simp <;> omega

theorem handleCore_other {h k : Nat} {c : Fin 2} (hc : h / 2 = c.val) (hk : k < 4) (hne : k / 2 ≠ h / 2) :
    handleCore k = other c := by
  unfold handleCore other
  fin_cases c <;> split <;> simp_all <;> omega

theorem half_of_named {c : Fin 2} {v : Dword} {h : Nat} (hn : (handleOf v).filter (fun h => h / 2 == c.val) = some h) :
    h / 2 = c.val := by
  simpa using (Option.filter_eq_some_iff.1 hn).2

/-- TDROP of an OPEN handle (R64, R65). -/
theorem tdrop_opened {s : State} {c : Fin 2} {ra : RegNo} {h : Nat} (hr : Ready s (.core c) (.tdrop ra))
    (hn : (handleOf (greg s (.core c) ra)).filter (fun h => h / 2 == c.val) = some h) (ho : (s.handle h).state = .opened) :
    ∃ u, exec (.tdrop (.core c) ra) s = settled u ∧ u.ilk = (s.setHandle h { lastStatus := 0x33 }).ilk ∧
      u.core c = { s.core c with pc := (s.core c).pc + 4, run := .running } ∧ (∀ d, d ≠ c → u.core d = s.core d) ∧
      AllBut [.cores, .ilk, .regs, .evr, .mbx, .irq, .irq1] s u ∧
      (∀ a, ¬ recorderWord a → a ≠ Reg.ILK_ARM → u.rd a = s.rd a) := by
  obtain ⟨hself, hother, hall⟩ := awake_spec hr
  have hexec := actSettle_ready hr (opTdrop (.core c) ra)
  have hstall := awake_not_stalled hr
  have hown := (ownHandle_awake s c ra).trans hn
  generalize awake s (.core c) = w at hself hother hall hexec hstall hown
  obtain ⟨h1, h2, h3, h4⟩ := dropHandle_spec (s := w) (h := h) (partnerOf w h) 0 false
    (by rw [handleCore_of_half (half_of_named hn)]; exact hstall)
  have hbody : opTdrop (.core c) ra w = advance (dropHandle w h (partnerOf w h) 0 false) (.core c) := by
    simp only [opTdrop, onCore, hown, State.handle_congr hall.ilkEq, ho]
  rw [hbody] at hexec
  exact ⟨_, hexec, (advance_core_ilk _ _).trans (h1.trans (setHandle_congr hall.ilkEq _ _)),
    dropped_spec hself hother hall h2 h3 h4⟩

theorem mem_partnersOf {s : State} {h k : Nat} (hk : k ∈ partnersOf s h) : k < 4 ∧ k / 2 ≠ h / 2 := by
  have hlive : k ∈ (List.range 4).filter (fun k => k / 2 != h / 2 && (s.handle k).state != .free &&
      (s.handle k).state != .service) := by
    unfold partnersOf at hk
    dsimp only at hk
    split at hk <;> exact List.mem_of_mem_filter hk
  simp only [List.mem_filter, List.mem_range, Bool.and_eq_true, bne_iff_ne] at hlive
  exact ⟨hlive.1, hlive.2.1.1⟩

theorem partnersOf_congr {s t : State} (h : t.ilk = s.ilk) (k : Nat) : partnersOf t k = partnersOf s k := by
  simp only [partnersOf, State.handle_congr h]

/-- TDROP of an ARMED or LODGED handle closes the other side of the pair as well (R73). -/
theorem tdrop_voting {s : State} {c : Fin 2} {ra : RegNo} {h : Nat} (hr : Ready s (.core c) (.tdrop ra))
    (hn : (handleOf (greg s (.core c) ra)).filter (fun h => h / 2 == c.val) = some h)
    (ho : (s.handle h).state ∈ [HState.armed, .lodged]) (hst : ∀ r k, (s.core (other c)).run ≠ .stalled r k) :
    ∃ u, exec (.tdrop (.core c) ra) s = settled u ∧
      u.ilk = ((partnersOf s h).foldl (fun v k => v.setHandle k { lastStatus := 0x33 })
        (s.setHandle h { lastStatus := 0x33 })).ilk ∧
      u.core c = { s.core c with pc := (s.core c).pc + 4, run := .running } ∧ (∀ d, d ≠ c → u.core d = s.core d) ∧
      AllBut [.cores, .ilk, .regs, .evr, .mbx, .irq, .irq1] s u ∧
      (∀ a, ¬ recorderWord a → a ≠ Reg.ILK_ARM → u.rd a = s.rd a) := by
  obtain ⟨hself, hother, hall⟩ := awake_spec hr
  have hexec := actSettle_ready hr (opTdrop (.core c) ra)
  have hstall := awake_not_stalled hr
  have hown := (ownHandle_awake s c ra).trans hn
  generalize awake s (.core c) = w at hself hother hall hexec hstall hown
  have hhalf := half_of_named hn
  have hoc : other c ≠ c := by fin_cases c <;> simp [other]
  obtain ⟨h1, h2, h3, h4⟩ := dropHandle_spec (s := w) (h := h) (partnerOf w h) 0 false
    (by rw [handleCore_of_half hhalf]; exact hstall)
  obtain ⟨i1, i2, i3, i4⟩ := foldl_dropHandle_spec (c := other c) h (partnersOf s h)
    (s := dropHandle w h (partnerOf w h) 0 false) (v := s.setHandle h { lastStatus := 0x33 })
    (fun k hk => handleCore_other hhalf (mem_partnersOf hk).1 (mem_partnersOf hk).2)
    (by rw [State.core_congr h2, hother _ hoc]; exact hst) ((setHandle_congr hall.ilkEq.symm _ _).trans h1.symm)
  have hbody : opTdrop (.core c) ra w = advance ((partnersOf s h).foldl (fun s k => dropHandle s k h 2 true)
      (dropHandle w h (partnerOf w h) 0 false)) (.core c) := by
    simp only [List.mem_cons, List.not_mem_nil, or_false] at ho
    rcases ho with ho | ho <;>
      simp only [opTdrop, onCore, hown, State.handle_congr hall.ilkEq, ho, dropWith, partnersOf_congr hall.ilkEq]
  rw [hbody] at hexec
  exact ⟨_, hexec, (advance_core_ilk _ _).trans i1,
    dropped_spec hself hother hall (i2.trans h2) (h3.trans i3) fun a ha hn => (i4 a ha hn).trans (h4 a ha hn)⟩

/-- TDROP of a handle that the core does not own, or in a state that it does not take (R64). -/
theorem tdrop_bad {s : State} {c : Fin 2} {ra : RegNo} (hr : Ready s (.core c) (.tdrop ra))
    (hn : ∀ h, (handleOf (greg s (.core c) ra)).filter (fun h => h / 2 == c.val) = some h →
      (s.handle h).state ∉ [HState.opened, .armed, .lodged]) :
    exec (.tdrop (.core c) ra) s = settled (advance ((awake s (.core c)).log Ev.BAD_HANDLE (.lc c)
      ((greg s (.core c) ra).toNat % 256) []) (.core c)) := by
  obtain ⟨-, -, hall⟩ := awake_spec hr
  refine (actSettle_ready hr _).trans (congrArg settled ?_)
  have hg := greg_awake s (.core c) ra
  have hown := ownHandle_awake s c ra
  rw [hg] at hown
  cases hnm : (handleOf (greg s (.core c) ra)).filter (fun h => h / 2 == c.val) with
  | none =>
    simp only [opTdrop, onCore, hown, hnm, badHandle, hg]
    rfl
  | some h =>
    have hst := hn h hnm
    simp only [opTdrop, onCore, hown, hnm, badHandle, hg, State.handle_congr hall.ilkEq]
    cases hs : (s.handle h).state <;> simp_all <;> rfl

/-- Settles O22: each instruction is its body on the handle it names; a drop closes the pair's handles one by one. -/
theorem transactionsBuilt : Obligations.TransactionsBuilt := by
  intro s c rd ra rb p x named bad
  refine ⟨fun h hr hfree hlow => topen_free hr hfree hlow, fun h0 h1 => topen_full h0 h1, fun h hr hn ho => ?tput,
    fun h hr hn ho => tdrop_opened hr hn ho, fun h hr hn ho hst => tdrop_voting hr hn ho hst,
    fun hr hn => tput_bad hr hn, fun hr hn => tdrop_bad hr hn⟩
  intro a y b puts
  refine ⟨fun hheld => ?_, fun hheld hin hok => ⟨fun hsize => ?_, fun hsize => ?_⟩, fun hheld hbad => ?_⟩
  · refine tput_opened hr hn ho fun w hw _ _ => ?_
    rw [putRecord_held hw hheld]
    exact ⟨AllBut.refl _ _, hw⟩
  · refine tput_opened hr hn ho fun w hw hmem htake => ?_
    rw [putRecord_taken hw hmem htake hheld hin hok, if_pos hsize]
    exact ⟨AllBut.setHandle _ _ _, setHandle_congr hw _ _⟩
  · refine tput_opened hr hn ho fun w hw hmem htake => ?_
    rw [putRecord_taken hw hmem htake hheld hin hok, if_neg (Bool.eq_false_iff.1 hsize)]
    exact ⟨AllBut.setHandle _ _ _, setHandle_congr hw _ _⟩
  · refine tput_opened hr hn ho fun w hw hmem _ => ?_
    rw [putRecord_refused hw hmem hheld hbad]
    exact ⟨AllBut.setHandle _ _ _, setHandle_congr hw _ _⟩

end Sys2Proof.Machine
end

section
/-! What TCOMMIT answers, and a vote that stays without its partner (R62-R64, R68-R73). -/

namespace Sys2Proof.Machine

/-! ### A transaction that ends within its TCOMMIT -/

/-- The core that waits in the TCOMMIT of a handle gets its status (R64). -/
theorem deliver_stalled {s : State} {c : Fin 2} {h st : Nat} {rd : RegNo} {n : Bool} (hc : h / 2 = c.val)
    (hr : (s.core c).run = .stalled rd h) : deliver s h st n =
      s.setCore c { s.core c with
        g := gSet (s.core c).g rd (BitVec.ofNat 64 st), run := .running, pc := (s.core c).pc + 4 } := by
  have h4 : ¬ 4 ≤ h := by omega
  have hcore : handleCore h = c := handleCore_of_half hc
  have hset : ((s.core c).setReg rd (BitVec.ofNat 64 st)) =
      { s.core c with g := gSet (s.core c).g rd (BitVec.ofNat 64 st) } := by
    unfold Core.setReg gSet
    split <;> rfl
  unfold handleCore at hcore
  simp only [deliver, if_neg h4, hcore, hr, if_true, hset]

/-- An abort of the one handle whose TCOMMIT core `c` executes (R64, R81): `w` is the state before. -/
theorem abortTx_own {w : State} {c : Fin 2} {rd : RegNo} {h : Nat} (hc : h / 2 = c.val) (rs : List ActRec) (st i : Nat) :
    ∃ u, u = abortTx (stallIn w c rd h) [h] rs st i .interlocking ∧
      u.core c = { w.core c with
        g := gSet (w.core c).g rd (BitVec.ofNat 64 st), pc := (w.core c).pc + 4, run := .running } ∧
      (∀ d, d ≠ c → u.core d = w.core d) ∧ u.handle h = { lastStatus := st } ∧ (∀ k, k ≠ h → u.handle k = w.handle k) ∧
      u.rd Reg.ILK_ABORT_COUNT = satInc (w.rd Reg.ILK_ABORT_COUNT) ∧
      (∀ a, ¬ recorderWord a → a ≠ Reg.ILK_ARM → a ≠ Reg.ILK_ABORT_COUNT → u.rd a = w.rd a) ∧
      u.ilk.queue = w.ilk.queue ∧ u.ilk.journal = w.ilk.journal ∧
      AllBut [.regs, .ilk, .cores, .evr, .mbx, .irq, .irq1] w u := by
  refine ⟨_, rfl, ?_⟩
  have hstall : AllBut [.cores] w (stallIn w c rd h) := AllBut.setCore _ _ _
  have hself : (stallIn w c rd h).core c = { w.core c with run := .stalled rd h } := State.core_setCore_self _ _ _
  have hne (d : Fin 2) (hd : d ≠ c) : (stallIn w c rd h).core d = w.core d := State.core_setCore_of_ne _ _ hd
  rw [abortTx]
  generalize stallIn w c rd h = z at hstall hself hne
  obtain ⟨hlog, hlogrd⟩ := Eventful.log (z.inc Reg.ILK_ABORT_COUNT) Ev.ABORT .interlocking (subjectDetail rs)
    (leBytes 1 st ++ leBytes 2 i)
  have hv : AllBut [.regs, .evr, .mbx, .irq, .irq1] z ((z.inc Reg.ILK_ABORT_COUNT).log Ev.ABORT .interlocking
    (subjectDetail rs) (leBytes 1 st ++ leBytes 2 i)) := ((AllBut.inc _ _).mono (by simp)).trans hlog
  have hcount := (hlogrd Reg.ILK_ABORT_COUNT (by unfold recorderWord; decide)).trans (State.rd_wr_self _ _ _)
  have hrd (a : Nat) (ha : ¬ recorderWord a) (hn : a ≠ Reg.ILK_ABORT_COUNT) :=
    (hlogrd a ha).trans (State.rd_inc_of_ne z hn)
  dsimp only
  generalize (z.inc Reg.ILK_ABORT_COUNT).log Ev.ABORT .interlocking (subjectDetail rs)
    (leBytes 1 st ++ leBytes 2 i) = v at hv hcount hrd ⊢
  have hcore (d : Fin 2) : v.core d = z.core d := State.core_congr hv.coresEq d
  obtain ⟨hh, hcrd, hall, hq, hj⟩ := closeHandle_spec v h st true .interlocking
  have hdeliver := deliver_stalled (s := v.setHandle h { lastStatus := st }) (st := st) (n := true) (rd := rd) hc
    (by rw [State.core_congr (AllBut.setHandle _ _ _).coresEq, hcore, hself])
  have hcores (d : Fin 2) : (closeHandle v h st true .interlocking).core d =
      (deliver (v.setHandle h { lastStatus := st }) h st true).core d := State.core_congr (syncArm_spec _ _).1.coresEq d
  have hset (d : Fin 2) : (v.setHandle h { lastStatus := st }).core d = v.core d :=
    State.core_congr (AllBut.setHandle _ _ _).coresEq d
  have hvilk : v.ilk = w.ilk := hv.ilkEq.trans hstall.ilkEq
  refine ⟨?_, fun d hd => ?_, (hh h).trans (if_pos rfl), fun k hk => (hh k).trans ((if_neg hk).trans (State.handle_congr hvilk k)),
    ?_, fun a ha h1 h2 => ?_, hq.trans (by rw [hvilk]), hj.trans (by rw [hvilk]),
    (hstall.mono (by simp)).trans ((hv.mono (by simp)).trans hall)⟩
  · rw [closeHandles, closeHandles, hcores, hdeliver, State.core_setCore_self, hset, hcore, hself]
  · rw [closeHandles, closeHandles, hcores, hdeliver, State.core_setCore_of_ne _ _ hd, hset, hcore, hne d hd]
  · exact (hcrd _ (by unfold recorderWord; decide) (by decide)).trans
      (hcount.trans (by rw [State.rd_congr hstall.regsEq]))
  · exact (hcrd a ha h1).trans ((hrd a ha h2).trans (State.rd_congr hstall.regsEq a))

/-! ### TCOMMIT -/

theorem lineLocked_congr {s t : State} (h : t.regs = s.regs) : lineLocked t = lineLocked s := by
  simp only [lineLocked, State.bit, State.rd_congr h]

/-- TCOMMIT of a handle that the core does not own or that is not OPEN (R62). -/
theorem tcommit_bad {s : State} {c : Fin 2} {rd ra : RegNo} {v : Nat} (hv : handleOf (greg s (.core c) ra) = some v)
    (hbad : v / 2 ≠ c.val ∨ (s.handle v).state ≠ .opened) (hl : lineLocked s = true) (hr : Ready s (.core c) (.tcommit rd ra)) :
    ∃ u, exec (.tcommit (.core c) rd ra) s = settled u ∧
      (u.core c = { s.core c with g := gSet (s.core c).g rd 0x11, pc := (s.core c).pc + 4, run := .running } ∧
        ∀ d, d ≠ c → u.core d = s.core d) ∧ AllBut [.cores] s u := by
  obtain ⟨hself, hother, hall⟩ := awake_spec hr
  have hexec := actSettle_ready hr (opTcommit (.core c) rd ra)
  have hown := ownHandle_awake s c ra
  generalize awake s (.core c) = w at hself hother hall hexec hown
  have hfilter : (ownHandle c (greg w (.core c) ra)).filter (fun h => (w.handle h).state == .opened) = none := by
    rw [hown, hv]
    simp only [State.handle_congr hall.ilkEq, Option.filter_eq_none_iff, Option.filter_eq_some_iff]
    rintro h ⟨hh, hc⟩
    obtain rfl : v = h := Option.some.inj hh
    have hne := hbad.resolve_left (by simpa using hc)
    simpa using hne
  have hbody : opTcommit (.core c) rd ra w = result w (.core c) rd 0x11 := by
    simp only [opTcommit, onCore, lineLocked_congr hall.regsEq, hl, Bool.true_eq_false, if_false, hfilter]
  rw [hbody] at hexec
  obtain ⟨h1, h2, h3⟩ := coreNext_result (x := s.core c) (ps := []) rd 0x11 hself hother hall
  exact ⟨_, hexec, ⟨h1, h2⟩, h3⟩

/-- TCOMMIT of an OPEN handle of the core's own is `commitOpen` (R64). -/
theorem tcommit_opened {s : State} {c : Fin 2} {rd ra : RegNo} {h : Nat} (hn : handleOf (greg s (.core c) ra) = some h)
    (hc : h / 2 = c.val) (ho : (s.handle h).state = .opened) (hl : lineLocked s = true)
    (hr : Ready s (.core c) (.tcommit rd ra)) :
    exec (.tcommit (.core c) rd ra) s = settled (commitOpen (awake s (.core c)) (.core c) c rd h) := by
  obtain ⟨-, -, hall⟩ := awake_spec hr
  refine (actSettle_ready hr _).trans (congrArg settled ?_)
  have hown := ownHandle_awake s c ra
  generalize awake s (.core c) = w at hall hown ⊢
  have hfilter : (ownHandle c (greg w (.core c) ra)).filter (fun h => (w.handle h).state == .opened) = some h := by
    rw [hown, hn]
    simp [State.handle_congr hall.ilkEq, ho, hc]
  simp only [opTcommit, onCore, lineLocked_congr hall.regsEq, hl, Bool.true_eq_false, if_false, hfilter]
  rfl

theorem queuedBlocks_congr {s t : State} (h : t.ilk = s.ilk) : queuedBlocks t = queuedBlocks s := by
  simp only [queuedBlocks, State.handle_congr h, h]

theorem powerFailing_congr {s t : State} (h : t.regs = s.regs) : powerFailing t = powerFailing s := by
  simp only [powerFailing, State.bit, State.rd_congr h]

theorem pairOf_congr {s t : State} (h : t.ilk = s.ilk) (c : Fin 2) (k : Nat) : pairOf t c k = pairOf s c k := by
  simp only [pairOf, State.handle_congr h]

/-- A transaction that cannot go into service for a reason of its own ends with that reason's status (R62, R63, R70). -/
theorem commitOpen_aborts {s w : State} {c : Fin 2} {rd : RegNo} {h st : Nat} (hilk : w.ilk = s.ilk) (hregs : w.regs = s.regs)
    (hst : (∃ i, (s.handle h).held = some (st, i)) ∨ ((s.handle h).held = none ∧
      (((s.handle h).recs.any ActRec.isAction = false ∧ st = 0x15) ∨
        ((s.handle h).recs.any ActRec.isAction = true ∧ (if votedRecs (s.handle h).recs then
          voteShape (s.handle h).relief (s.handle h).recs else none).isSome = true ∧ st = 0x13) ∨
        ((s.handle h).recs.any ActRec.isAction = true ∧ (if votedRecs (s.handle h).recs then
          voteShape (s.handle h).relief (s.handle h).recs else none) = none ∧
          (journaledRecs (s.handle h).recs && powerFailing s) = true ∧ st = 0x25)))) :
    ∃ i, commitOpen w (.core c) c rd h = abortTx (stallIn w c rd h) [h] (s.handle h).recs st i .interlocking := by
  unfold commitOpen
  simp only [State.handle_congr hilk, powerFailing_congr hregs]
  rcases hst with ⟨i, hheld⟩ | ⟨hheld, ⟨hact, rfl⟩ | ⟨hact, hshape, rfl⟩ | ⟨hact, hshape, hpower, rfl⟩⟩
  · exact ⟨i, by simp only [hheld]⟩
  · exact ⟨0x1FF, by simp only [hheld, hact, if_true]⟩
  · obtain ⟨i, hi⟩ := Option.isSome_iff_exists.1 hshape
    exact ⟨i, by simp only [hheld, hact, hi, Bool.true_eq_false, if_false]⟩
  · exact ⟨0x1FF, by simp only [hheld, hact, hshape, if_pos (Bool.and_eq_true_iff.1 hpower), Bool.true_eq_false, if_false]⟩

/-- A transaction that nothing aborts: the journal's room, the votes, the service (R63, R64, R70-R72). -/
theorem commitOpen_goes {s w : State} {c : Fin 2} {rd : RegNo} {h : Nat} (hilk : w.ilk = s.ilk) (hregs : w.regs = s.regs)
    (hheld : (s.handle h).held = none) (hact : (s.handle h).recs.any ActRec.isAction = true)
    (hshape : (if votedRecs (s.handle h).recs then voteShape (s.handle h).relief (s.handle h).recs else none) = none)
    (hpower : (journaledRecs (s.handle h).recs && powerFailing s) = false) :
    commitOpen w (.core c) c rd h =
      if journaledRecs (s.handle h).recs = true ∧ s.ilk.journal.space < queuedBlocks s + entryBlocks (s.handle h).recs then
        result w (.core c) rd 0x14
      else if votedRecs (s.handle h).recs = false then serveNow (stallIn w c rd h) h
      else match pairOf s c h with
        | none => waitVote w (.core c) rd h (mirrorOf (s.handle h).recs).isSome
        | some k =>
          if (mirrorOf (s.handle h).recs).isSome then resolvePair (stallIn w c rd h) k h
          else resolvePair (stallIn w c rd h) h k := by
  have hp : ¬ (journaledRecs (s.handle h).recs = true ∧ powerFailing s = true) := by
    rw [← Bool.and_eq_true, hpower]
    decide
  unfold commitOpen
  simp only [State.handle_congr hilk, powerFailing_congr hregs, queuedBlocks_congr hilk, pairOf_congr hilk, hheld, hact, hshape,
    if_neg hp, Bool.true_eq_false, if_false, hilk] <;> rfl

/-- The armed handles as a field of ILK_ARM (R71). -/
theorem armedSum_lt (s : State) :
    ((List.range 4).map (fun k => if (s.handle k).state = .armed then 2 ^ k else 0)).sum < 16 := by
  have hle (k : Nat) : (if (s.handle k).state = .armed then 2 ^ k else 0) ≤ 2 ^ k := by
    split
    · exact Nat.le_refl _
    · exact Nat.zero_le _
  have h0 := hle 0
  have h1 := hle 1
  have h2 := hle 2
  have h3 := hle 3
  simp only [List.range_succ, List.range_zero, List.nil_append, List.cons_append, List.map_cons, List.map_nil, List.sum_cons,
    List.sum_nil]
  omega

/-- The first TCOMMIT of a voted pair (R71): the handle waits for its partner. -/
theorem waitVote_spec {w : State} {c : Fin 2} {rd : RegNo} {h : Nat} (mirror : Bool)
    (hself : (w.core c).run = .running) :
    ∃ u, u = waitVote w (.core c) rd h mirror ∧
      u.core c = { w.core c with
        g := gSet (w.core c).g rd (if mirror then 2 else 1), pc := (w.core c).pc + 4, run := .running } ∧
      (∀ d, d ≠ c → u.core d = w.core d) ∧
      u.ilk = (w.setHandle h { w.handle h with state := if mirror then .lodged else .armed }).ilk ∧
      u.fld Reg.ILK_ARM 3 0 = ((List.range 4).map (fun k => if (u.handle k).state = .armed then 2 ^ k else 0)).sum ∧
      (∀ a, ¬ recorderWord a → a ≠ Reg.ILK_ARM → u.rd a = w.rd a) ∧
      AllBut [.regs, .ilk, .cores, .evr, .mbx, .irq, .irq1] w u := by
  refine ⟨_, rfl, ?_⟩
  have hset := AllBut.setHandle w h { w.handle h with state := if mirror then .lodged else .armed }
  have heq : waitVote w (.core c) rd h mirror = result (syncArm (w.setHandle h
      { w.handle h with state := if mirror then .lodged else .armed }) .interlocking) (.core c) rd
      (if mirror then 2 else 1) := rfl
  rw [heq]
  generalize w.setHandle h { w.handle h with state := if mirror then .lodged else .armed } = z at hset ⊢
  obtain ⟨hall, hrd, harm⟩ := syncArm_spec z .interlocking
  generalize syncArm z .interlocking = y at hall hrd harm ⊢
  have hcore (d : Fin 2) : y.core d = w.core d := (State.core_congr hall.coresEq d).trans (State.core_congr hset.coresEq d)
  obtain ⟨h1, h2, h3⟩ := coreNext_result (s := w) (u := y) (c := c) (x := w.core c) (ps := [.ilk, .regs, .evr, .mbx, .irq, .irq1])
    rd (if mirror then 2 else 1) (by rw [hcore, ← hself]) (fun d _ => hcore d)
    ((hset.mono (by simp)).trans (hall.mono (by simp)))
  have hregs : (result y (.core c) rd (if mirror then 2 else 1)).regs = y.regs := rfl
  have hilk : (result y (.core c) rd (if mirror then 2 else 1)).ilk = z.ilk := (result_core_ilk _ _ _ _).trans hall.ilkEq
  refine ⟨h1, h2, hilk, ?_, fun a ha hn => (State.rd_congr hregs a).trans ((hrd a ha hn).trans (State.rd_congr hset.regsEq a)),
    h3.mono (by simp)⟩
  have hsum := armedSum_lt z
  simp only [State.fld, State.rd_congr hregs, harm, State.handle_congr hilk]
  rw [getBits_setBits _ _ _ _ (by decide) (by decide)]
  exact Nat.mod_eq_of_lt hsum

/-! ### A vote without its partner -/

/-- A failed vote of one handle (R73). -/
theorem voteFail_one {s : State} {h : Nat} {x y : Option Nat} (hxy : x.toList ++ y.toList = [h]) (st : Nat) :
    (voteFail s x y st).handle h = { lastStatus := st } ∧ (∀ k, k ≠ h → (voteFail s x y st).handle k = s.handle k) ∧
    (voteFail s x y st).rd Reg.ILK_VOTE_FAIL_COUNT = satInc (s.rd Reg.ILK_VOTE_FAIL_COUNT) ∧
    (∀ a, ¬ recorderWord a → a ≠ Reg.ILK_ARM → a ≠ Reg.ILK_VOTE_FAIL_COUNT → (voteFail s x y st).rd a = s.rd a) ∧
    (voteFail s x y st).ilk.queue = s.ilk.queue ∧ (voteFail s x y st).ilk.journal = s.ilk.journal ∧
    AllBut [.regs, .ilk, .cores, .evr, .mbx, .irq, .irq1] s (voteFail s x y st) := by
  obtain ⟨v, hv, hev⟩ : ∃ v, voteFail s x y st = closeHandles v st .interlocking [h] ∧
      Eventful (s.inc Reg.ILK_VOTE_FAIL_COUNT) v := by
    unfold voteFail
    rw [hxy]
    exact ⟨_, rfl, Eventful.log _ _ _ _ _⟩
  obtain ⟨hall, hrd⟩ := hev
  obtain ⟨h1, h2, h3, h4, h5⟩ := closeHandles_spec st .interlocking [h] v
  have hilk : v.ilk = s.ilk := hall.ilkEq
  rw [hv]
  refine ⟨(h1 h).trans (if_pos (by simp)), fun k hk => (h1 k).trans ((if_neg (by simpa using hk)).trans (State.handle_congr hilk k)),
    ?_, fun a ha ha1 ha2 => (h2 a ha ha1).trans ((hrd a ha).trans (State.rd_inc_of_ne s ha2)), h4.trans (by rw [hilk]),
    h5.trans (by rw [hilk]), ((AllBut.inc _ _).mono (by simp)).trans ((hall.mono (by simp)).trans h3)⟩
  exact (h2 _ (by unfold recorderWord; decide) (by decide)).trans
    ((hrd _ (by unfold recorderWord; decide)).trans (State.rd_wr_self _ _ _))

/-- What a failed vote starts beside its closure depends on its subject (R73). -/
theorem voteFailed_subject {s : State} {h : Nat} {x y : Option Nat} (st : Nat)
    (hxy : (x = some h ∧ y = none) ∨ (x = none ∧ y = some h)) :
    (subjectOf (s.handle h).recs = none → voteFailed s x y st = voteFail s x y st) ∧
    (∀ n, subjectOf (s.handle h).recs = some (0, n) → voteFailed s x y st = stageVoteFailed (voteFail s x y st) n) := by
  rcases hxy with ⟨rfl, rfl⟩ | ⟨rfl, rfl⟩
  · exact ⟨fun hs => by simp only [voteFailed, hs], fun n hs => by simp only [voteFailed, hs]⟩
  · exact ⟨fun hs => by simp only [voteFailed, hs], fun n hs => by simp only [voteFailed, hs]⟩

/-- Settles O23: TCOMMIT is `commitOpen`, whose branches are the answers in the order of the rules. -/
theorem commitAnswers : Obligations.CommitAnswers := by
  intro s c rd ra p x gives
  refine ⟨fun v hv hbad hl hr => tcommit_bad hv hbad hl hr, fun h hn hc ho hl hr => ?opened, fun h hp => ?vote⟩
  case opened =>
    intro y acts room shape power inService
    have hexec := tcommit_opened hn hc ho hl hr
    obtain ⟨hself, hother, hall⟩ := awake_spec hr
    refine ⟨fun st hst => ?_, fun hheld hact hshape hpower hroom => ?_, fun hheld hact hshape hpower hroom => ?_⟩
    · obtain ⟨i, hi⟩ := commitOpen_aborts (c := c) (rd := rd) hall.ilkEq hall.regsEq hst
      obtain ⟨u, hu, hcore, ho, hh, hk, hcount, hrd, hq, hj, hb⟩ := abortTx_own (w := awake s (.core c)) (rd := rd) hc
        (s.handle h).recs st i
      rw [hi, ← hu] at hexec
      refine ⟨u, hexec, ⟨?_, fun d hd => (ho d hd).trans (hother d hd)⟩, hh, fun k hne => (hk k hne).trans
        (State.handle_congr hall.ilkEq k), hcount.trans (by rw [State.rd_congr hall.regsEq]),
        fun a ha h1 h2 => (hrd a ha h1 h2).trans (State.rd_congr hall.regsEq a), hq.trans (by rw [hall.ilkEq]),
        hj.trans (by rw [hall.ilkEq]), (hall.mono (by simp)).trans hb⟩
      rw [hcore, hself]
    · rw [commitOpen_goes hall.ilkEq hall.regsEq hheld hact hshape hpower, if_pos (by simpa [room] using hroom)] at hexec
      obtain ⟨h1, h2, h3⟩ := coreNext_result (x := s.core c) (ps := []) rd 0x14 hself hother hall
      exact ⟨_, hexec, ⟨h1, h2⟩, h3⟩
    · rw [commitOpen_goes hall.ilkEq hall.regsEq hheld hact hshape hpower, if_neg fun hlt =>
        Nat.not_lt.2 (of_decide_eq_true hroom hlt.1) hlt.2] at hexec
      refine ⟨fun hv => ?_, fun hv k hk => ?_, fun hv hk => ?_⟩
      · rw [if_pos hv] at hexec
        exact hexec
      · rw [if_neg (by rw [Bool.not_eq_false]; exact hv), hk] at hexec
        exact hexec
      · rw [if_neg (by rw [Bool.not_eq_false]; exact hv), hk] at hexec
        obtain ⟨u, hu, hcore, ho, hilk, hfld, hrd, hb⟩ := waitVote_spec (w := awake s (.core c)) (rd := rd) (h := h)
          (mirrorOf (s.handle h).recs).isSome (by rw [hself])
        refine ⟨u, hexec.trans (by rw [hu]), ⟨?_, fun d hd => (ho d hd).trans (hother d hd)⟩, ?_, hfld,
          fun a ha hn => (hrd a ha hn).trans (State.rd_congr hall.regsEq a), (hall.mono (by simp)).trans hb⟩
        · rw [hcore, hself]
        · rw [hilk, State.handle_congr hall.ilkEq]
          exact setHandle_congr hall.ilkEq _ _
  case vote =>
    intro st
    have hexec : exec (.voteMissing h) s = settled (if s.ilk.reliefAbsent then s
        else match (s.handle h.val).state with
          | .armed => voteFailed s (some h.val) none 0x32
          | .lodged => voteFailed s none (some h.val) 0x32
          | _ => s) := (congrArg Host.Outcome.next (if_neg (by simp [hp]))).trans rfl
    rw [hexec]
    refine ⟨fun hst => ?_, fun habs hst => ?_⟩
    · have hsame : (if s.ilk.reliefAbsent then s else match (s.handle h.val).state with
          | .armed => voteFailed s (some h.val) none 0x32
          | .lodged => voteFailed s none (some h.val) 0x32
          | _ => s) = s := by
        rcases hst with habs | ⟨harm, hlod⟩
        · rw [if_pos habs]
        · rw [ite_eq_left_iff]
          intro _
          cases hs : (s.handle h.val).state with
          | armed => exact absurd hs harm
          | lodged => exact absurd hs hlod
          | _ => rfl
      rw [hsame]
    · have hfails : ∃ x y, ((x = some h.val ∧ y = none) ∨ (x = none ∧ y = some h.val)) ∧
          (if s.ilk.reliefAbsent then s else match (s.handle h.val).state with
            | .armed => voteFailed s (some h.val) none 0x32
            | .lodged => voteFailed s none (some h.val) 0x32
            | _ => s) = voteFailed s x y 0x32 := by
        rw [if_neg (by simp [habs])]
        rcases hst with harm | hlod
        · exact ⟨some h.val, none, .inl ⟨rfl, rfl⟩, by rw [show (s.handle h.val).state = _ from harm]⟩
        · exact ⟨none, some h.val, .inr ⟨rfl, rfl⟩, by rw [show (s.handle h.val).state = _ from hlod]⟩
      obtain ⟨a, b, hab, heq⟩ := hfails
      obtain ⟨hsub, hstage⟩ := voteFailed_subject 0x32 hab
      rw [heq]
      exact ⟨voteFail s a b 0x32, voteFailed s a b 0x32, rfl, hsub, hstage,
        voteFail_one (by rcases hab with ⟨rfl, rfl⟩ | ⟨rfl, rfl⟩ <;> rfl) 0x32⟩

end Sys2Proof.Machine
end

section
/-! A transaction that sets holds commits within its TCOMMIT (R64, R66-R70, R74). -/

namespace Sys2Proof.Machine

/-! ### What one HOLD record does -/

/-- A HOLD record whose value is all ones under its mask sets the masked holds of its group (R66). -/
theorem bit_setHolds {s : State} {g m : Nat} {k : Nat} (hk : k < 32) :
    (setHolds s g m m).bit (Reg.HLD_STATE g) k = (bitOf m k || s.bit (Reg.HLD_STATE g) k) := by
  obtain ⟨hlt, htest⟩ := testBit_maskOf (fun k => if bitOf m k then bitOf m k else
    bitOf (s.rd (Reg.HLD_STATE g)).toNat k) 32
  unfold setHolds
  rw [State.bit_wr_self, BitVec.getLsbD_ofNat, htest]
  have hold : bitOf (s.rd (Reg.HLD_STATE g)).toNat k = s.bit (Reg.HLD_STATE g) k := rfl
  simp only [hk, decide_true, Bool.true_and, hold]
  cases bitOf m k <;> rfl

/-- Components whose states have not changed bring no further work. -/
theorem compChanges_self (s : State) : compChanges s s = s := by
  have h : ∀ l : List Nat, l.foldl (fun t c =>
      let was := compState s c
      let now := compState t c
      if now = 4 ∧ was ≠ 4 then
        ((List.range 16).filter (fun d => (refreshOf t d).isNone &&
          (dsEntry t d).any (fun en => leAt en 3 1 == c && bitOf (leAt en 4 1) 0))).foldl (fun s d => refreshBegin s d none) t
      else if (was = 3 ∨ was = 4) ∧ now ≠ 3 ∧ now ≠ 4 then dsHeldAgain t c
      else t) s = s := by
    intro l
    induction l with
    | nil => rfl
    | cons c l ih =>
      rw [List.foldl_cons]
      dsimp only
      rw [if_neg fun h => h.2 h.1, if_neg fun h => h.1.elim h.2.1 h.2.2]
      exact ih
  exact h _

/-! ### Conflicts marked -/

theorem marks_setConflict (s : State) (hs : List Nat) (res : List (Nat × Nat)) (h k : Nat) :
    marks (s.setHandle h { s.handle h with conflict := true }) hs res k = marks s hs res k := by
  unfold marks
  rw [State.handle_setHandle]
  split
  · next hk => subst hk; rfl
  · rfl

/-- The handles that a commit marks for conflict (R68, R69). -/
theorem foldl_marks (hs : List Nat) (res : List (Nat × Nat)) : ∀ (l : List Nat) (s : State),
    (∀ k, (l.foldl (fun s h => if marks s hs res h then s.setHandle h { s.handle h with conflict := true } else s) s).handle k =
      if k ∈ l ∧ marks s hs res k = true then { s.handle k with conflict := true } else s.handle k) ∧
    (l.foldl (fun s h => if marks s hs res h then s.setHandle h { s.handle h with conflict := true } else s) s).ilk.queue =
      s.ilk.queue ∧
    (l.foldl (fun s h => if marks s hs res h then s.setHandle h { s.handle h with conflict := true } else s) s).ilk.journal =
      s.ilk.journal ∧
    AllBut [.ilk] s
      (l.foldl (fun s h => if marks s hs res h then s.setHandle h { s.handle h with conflict := true } else s) s) := by
  intro l
  induction l with
  | nil => exact fun s => ⟨fun k => by simp, rfl, rfl, AllBut.refl _ _⟩
  | cons h l ih =>
    intro s
    rw [List.foldl_cons]
    by_cases hm : marks s hs res h = true
    · rw [if_pos hm]
      obtain ⟨h1, h2, h3, h4⟩ := ih (s.setHandle h { s.handle h with conflict := true })
      refine ⟨fun k => (h1 k).trans ?_, h2, h3, (AllBut.setHandle _ _ _).trans h4⟩
      rw [marks_setConflict, State.handle_setHandle]
      by_cases hk : k = h
      · subst hk
        by_cases hl : k ∈ l <;> simp [hm, hl]
      · simp [hk]
    · rw [if_neg hm]
      obtain ⟨h1, h2, h3, h4⟩ := ih s
      refine ⟨fun k => (h1 k).trans ?_, h2, h3, h4⟩
      by_cases hk : k = h
      · subst hk
        simp [hm]
      · simp [hk]

theorem resourcesOf_hold (g op : Nat) : resourcesOf [⟨0x01, g, op, 0, []⟩] = lineResources g (op % 2 ^ 32) := by
  simp [resourcesOf, ActRec.resources]

/-! ### The commit -/

/-- A transaction of one HOLD record that commits (R66, R67): its writes, its event, the conflicts, the closure. -/
theorem commitTx_hold (z : State) {h : Nat} (g op : Nat) (hh : h < 4) :
    commitTx z [h] [⟨0x01, g, op, 0, []⟩] 0 =
      let a := setHolds z g (op % 2 ^ 32) (op / 2 ^ 32)
      let b := (a.wr Reg.ILK_SEQ (a.rd Reg.ILK_SEQ + 1)).wrBytes (Reg.ILK_LAST_DIGEST 0) 12 (txDigest [⟨0x01, g, op, 0, []⟩])
      let d := b.log Ev.COMMIT .interlocking (subjectDetail [⟨0x01, g, op, 0, []⟩]) (leBytes 4 (b.rd Reg.ILK_SEQ).toNat ++
        leBytes 4 0 ++ (txDigest [⟨0x01, g, op, 0, []⟩]).take 28)
      closeHandle (markConflicts d [h] [⟨0x01, g, op, 0, []⟩]) h 0 true .interlocking := by
  have h5 : ([h].contains 5) = false := by simp; omega
  have hpoint (s : State) : pointed s [⟨0x01, g, op, 0, []⟩] 1 = [] := by simp [pointed, compsOf]
  have hdone (s : State) : firmwareDone s [⟨0x01, g, op, 0, []⟩] [] = s := by
    simp [firmwareDone, hpoint, subjectOf]
  unfold commitTx
  simp only [h5, Bool.false_eq_true, if_false, List.foldl_cons, List.foldl_nil, applyAct, closeHandles]
  rw [show (([⟨0x01, g, op, 0, []⟩] : List ActRec).filter (fun r => r.kind == 4)) = [] from rfl]
  simp only [List.map_nil, List.eraseDups_nil, hdone, compChanges_self]

/-- With nothing in service a transaction of one HOLD record goes into service and commits (R69). -/
theorem serveNow_hold {w : State} {h g op : Nat} (hrecs : (w.handle h).recs = [⟨0x01, g, op, 0, []⟩])
    (hpartner : (w.handle h).partner = none) (hconf : (w.handle h).conflict = false) (hq : w.ilk.queue = [])
    (hb : w.ilk.busy = none) (hl : lineLocked w = true) :
    serveNow w h = commitTx (popQueue (enterService w h)) [h] [⟨0x01, g, op, 0, []⟩] 0 := by
  have hqueue : (enterService w h).ilk.queue = [h] := by
    change w.ilk.queue ++ [h] = [h]
    rw [hq, List.nil_append]
  have hbusy : (enterService w h).ilk.busy = none := hb
  have hlock : lineLocked (enterService w h) = true := hl
  have hhandle : (enterService w h).handle h = { w.handle h with state := .service } :=
    (State.handle_setHandle w h { w.handle h with state := .service } h).trans (if_pos rfl)
  have hfault : serveFault (enterService w h) h = none := by
    simp [serveFault, txHandles, hhandle, hpartner, hconf, hrecs, commitFault, actionFault, journaledRecs]
  have htx : txHandles (enterService w h) h = [h] := by simp [txHandles, hhandle, hpartner]
  have hj : journaledRecs [⟨0x01, g, op, 0, []⟩] = false := by simp [journaledRecs]
  unfold serveNow
  dsimp only
  rw [if_pos ⟨hqueue, hlock⟩]
  unfold serveFront
  simp only [hbusy, hqueue, hfault, hhandle, hrecs, hj, htx, if_true]

theorem holdState_plain {g : Nat} (hg : g < 3) : ¬ recorderWord (Reg.HLD_STATE g) := by
  simp only [recorderWord, Reg.HLD_STATE]
  omega

theorem holdState_ne {g : Nat} (hg : g < 3) : Reg.HLD_STATE g ≠ Reg.ILK_ARM ∧ Reg.HLD_STATE g ≠ Reg.ILK_SEQ ∧
    (Reg.HLD_STATE g < Reg.ILK_LAST_DIGEST 0 ∨ Reg.ILK_LAST_DIGEST 0 + 48 ≤ Reg.HLD_STATE g) := by
  simp only [Reg.HLD_STATE, Reg.ILK_ARM, Reg.ILK_SEQ, Reg.ILK_LAST_DIGEST]
  omega

theorem lastDigest_plain {k : Nat} (hk : k < 12) :
    ¬ recorderWord (Reg.ILK_LAST_DIGEST k) ∧ Reg.ILK_LAST_DIGEST k ≠ Reg.ILK_ARM := by
  simp only [recorderWord, Reg.ILK_LAST_DIGEST, Reg.ILK_ARM]
  omega

/-- ILK_SEQ and ILK_LAST_DIGEST of a commit (R67). -/
theorem commitWords_spec (a : State) (dig : List Byte) :
    let b := (a.wr Reg.ILK_SEQ (a.rd Reg.ILK_SEQ + 1)).wrBytes (Reg.ILK_LAST_DIGEST 0) 12 dig
    AllBut [.regs] a b ∧ b.rd Reg.ILK_SEQ = a.rd Reg.ILK_SEQ + 1 ∧
    (∀ k < 12, b.rd (Reg.ILK_LAST_DIGEST k) = BitVec.ofNat 32 (leAt dig (4 * k) 4)) ∧
    (∀ k, k ≠ Reg.ILK_SEQ → (k < Reg.ILK_LAST_DIGEST 0 ∨ Reg.ILK_LAST_DIGEST 0 + 48 ≤ k) → b.rd k = a.rd k) := by
  intro b
  refine ⟨(AllBut.wr _ _ _).trans (AllBut.wrBytes _ _ _ _), ?_, fun k hk => ?_, fun k h1 h2 => ?_⟩
  · refine (State.rd_wrBytes_of_ne _ _ _ _ _ fun k hk => ?_).trans (State.rd_wr_self _ _ _)
    simp only [Reg.ILK_SEQ, Reg.ILK_LAST_DIGEST]
    omega
  · have hdig : Reg.ILK_LAST_DIGEST k = Reg.ILK_LAST_DIGEST 0 + 4 * k := by
      simp only [Reg.ILK_LAST_DIGEST]
      omega
    rw [hdig]
    exact State.rd_wrBytes _ _ _ _ _ hk
  · exact (State.rd_wrBytes_of_ne _ _ _ _ _ fun j hj => by omega).trans (State.rd_wr_of_ne _ _ h1)

/-- What the commit of a HOLD record leaves: `z` is the state in which its core waits for it. -/
theorem committed_hold {z : State} {c : Fin 2} {rd : RegNo} {h g op m : Nat} (hc : h / 2 = c.val)
    (hrun : (z.core c).run = .stalled rd h) (hg : g < 3) (hm1 : op % 2 ^ 32 = m) (hm2 : op / 2 ^ 32 = m) :
    ∃ u, u = commitTx z [h] [⟨0x01, g, op, 0, []⟩] 0 ∧
      u.core c = { z.core c with g := gSet (z.core c).g rd 0, pc := (z.core c).pc + 4, run := .running } ∧
      (∀ d, d ≠ c → u.core d = z.core d) ∧
      (∀ k < 32, u.bit (Reg.HLD_STATE g) k = (bitOf m k || z.bit (Reg.HLD_STATE g) k)) ∧
      u.rd Reg.ILK_SEQ = z.rd Reg.ILK_SEQ + 1 ∧
      (∀ k < 12, u.rd (Reg.ILK_LAST_DIGEST k) = BitVec.ofNat 32 (leAt (txDigest [⟨0x01, g, op, 0, []⟩]) (4 * k) 4)) ∧
      (∀ k, u.handle k = if k = h then { lastStatus := 0 } else
        if k < 6 ∧ marks z [h] (lineResources g m) k = true then { z.handle k with conflict := true } else z.handle k) ∧
      u.ilk.queue = z.ilk.queue ∧ u.ilk.journal = z.ilk.journal ∧
      (∀ a, ¬ recorderWord a → a ≠ Reg.HLD_STATE g → a ≠ Reg.ILK_SEQ → a ≠ Reg.ILK_ARM →
        (a < Reg.ILK_LAST_DIGEST 0 ∨ Reg.ILK_LAST_DIGEST 12 ≤ a) → u.rd a = z.rd a) ∧
      AllBut [.regs, .ilk, .cores, .evr, .mbx, .irq, .irq1] z u := by
  refine ⟨_, rfl, ?_⟩
  rw [commitTx_hold z g op (by omega), hm1, hm2]
  dsimp only
  have hholds (k : Nat) (hk : k < 32) := bit_setHolds (s := z) (g := g) (m := m) hk
  have ha : AllBut [.regs] z (setHolds z g m m) := AllBut.wr _ _ _
  have hard (a : Nat) (hne : a ≠ Reg.HLD_STATE g) : (setHolds z g m m).rd a = z.rd a := State.rd_wr_of_ne _ _ hne
  generalize setHolds z g m m = a at hholds ha hard ⊢
  obtain ⟨hb, hbseq, hbdig, hbrd⟩ := commitWords_spec a (txDigest [⟨0x01, g, op, 0, []⟩])
  generalize (a.wr Reg.ILK_SEQ (a.rd Reg.ILK_SEQ + 1)).wrBytes (Reg.ILK_LAST_DIGEST 0) 12 (txDigest [⟨0x01, g, op, 0, []⟩]) = b
    at hb hbseq hbdig hbrd ⊢
  obtain ⟨hd, hdrd⟩ := Eventful.log b Ev.COMMIT .interlocking (subjectDetail [⟨0x01, g, op, 0, []⟩])
    (leBytes 4 (b.rd Reg.ILK_SEQ).toNat ++ leBytes 4 0 ++ (txDigest [⟨0x01, g, op, 0, []⟩]).take 28)
  generalize b.log Ev.COMMIT .interlocking (subjectDetail [⟨0x01, g, op, 0, []⟩])
    (leBytes 4 (b.rd Reg.ILK_SEQ).toNat ++ leBytes 4 0 ++ (txDigest [⟨0x01, g, op, 0, []⟩]).take 28) = d at hd hdrd ⊢
  obtain ⟨hmh, hmq, hmj, hm⟩ := foldl_marks [h] (resourcesOf [⟨0x01, g, op, 0, []⟩]) (List.range 6) d
  rw [resourcesOf_hold, hm1] at hmh hmq hmj hm
  have hmark : markConflicts d [h] [⟨0x01, g, op, 0, []⟩] = (List.range 6).foldl (fun s k =>
      if marks s [h] (lineResources g m) k then s.setHandle k { s.handle k with conflict := true } else s) d := by
    rw [markConflicts, resourcesOf_hold, hm1]
  rw [hmark]
  generalize (List.range 6).foldl (fun s k =>
    if marks s [h] (lineResources g m) k then s.setHandle k { s.handle k with conflict := true } else s) d = e
    at hmh hmq hmj hm ⊢
  have hzd : AllBut [.regs, .evr, .mbx, .irq, .irq1] z d := ((ha.trans hb).mono (by simp)).trans hd
  have hcore (k : Fin 2) : (e.setHandle h { lastStatus := 0 }).core k = z.core k :=
    (State.core_congr (AllBut.setHandle _ _ _).coresEq k).trans
      ((State.core_congr hm.coresEq k).trans (State.core_congr hzd.coresEq k))
  obtain ⟨hcl, hclrd, hclall, hclq, hclj⟩ := closeHandle_spec e h 0 true .interlocking
  have hdeliver := deliver_stalled (s := e.setHandle h { lastStatus := 0 }) (st := 0) (n := true) (rd := rd) hc
    (by rw [hcore, hrun])
  have hcores (k : Fin 2) : (closeHandle e h 0 true .interlocking).core k =
      (deliver (e.setHandle h { lastStatus := 0 }) h 0 true).core k := State.core_congr (syncArm_spec _ _).1.coresEq k
  have hrd (k : Nat) (hk : ¬ recorderWord k) (hn : k ≠ Reg.ILK_ARM) : (closeHandle e h 0 true .interlocking).rd k = b.rd k :=
    (hclrd k hk hn).trans ((State.rd_congr hm.regsEq k).trans (hdrd k hk))
  have hdh (k : Nat) : d.handle k = z.handle k := State.handle_congr hzd.ilkEq k
  refine ⟨?_, fun k hk => ?_, fun k hk => ?_, ?_, fun k hk => ?_, fun k => ?_, hclq.trans (hmq.trans (by rw [hzd.ilkEq])),
    hclj.trans (hmj.trans (by rw [hzd.ilkEq])), fun k hk h1 h2 h3 h4 => ?_,
    (hzd.mono (by simp)).trans ((hm.mono (by simp)).trans hclall)⟩
  · rw [hcores, hdeliver, State.core_setCore_self, hcore]
    rfl
  · rw [hcores, hdeliver, State.core_setCore_of_ne _ _ hk, hcore]
  · rw [← hholds k hk, State.bit, State.bit, hrd _ (holdState_plain hg) (holdState_ne hg).1, hbrd _ (holdState_ne hg).2.1
      (holdState_ne hg).2.2]
  · rw [hrd _ (by unfold recorderWord; decide) (by decide), hbseq, hard _ (holdState_ne hg).2.1.symm]
  · rw [hrd _ (lastDigest_plain hk).1 (lastDigest_plain hk).2, hbdig k hk]
  · rw [hcl, hmh, hdh]
    have hmk : marks d [h] (lineResources g m) k = marks z [h] (lineResources g m) k := by simp only [marks, hdh]
    rw [hmk]
    simp only [List.mem_range]
  · rw [hrd k hk h3, hbrd k h2 (by simp only [Reg.ILK_LAST_DIGEST] at h4 ⊢; omega), hard k h1]

/-- Settles O24: with nothing in service TCOMMIT serves and commits the transaction in one go. -/
theorem holdSetCommits : Obligations.HoldSetCommits := by
  intro s c rd ra h g m op p r hn hc ho hrecs hheld hpartner hconf hg hm1 hm2 hq hb hl hr
  obtain ⟨hself, hother, hall⟩ := awake_spec hr
  have hexec := tcommit_opened hn hc ho hl hr
  have hsafe : votedRecs (s.handle h).recs = false := by
    have hbits : op / 2 ^ 32 = op % 2 ^ 32 := hm2.trans hm1.symm
    simp only [hrecs, votedRecs, r, List.any_cons, List.any_nil, List.all_cons, List.all_nil, ActRec.safe, hbits, BEq.rfl]
    decide
  have hact : (s.handle h).recs.any ActRec.isAction = true := by simp [hrecs, ActRec.isAction, r]
  have hj : journaledRecs (s.handle h).recs = false := by simp [hrecs, journaledRecs, r]
  rw [commitOpen_goes hall.ilkEq hall.regsEq hheld hact (by simp [hsafe]) (by simp [hj]), if_neg (by simp [hj]),
    if_pos hsafe] at hexec
  have hstall : AllBut [.cores] s (stallIn (awake s (.core c)) c rd h) := hall.trans (AllBut.setCore _ _ _)
  have hrun : (stallIn (awake s (.core c)) c rd h).core c = { s.core c with run := .stalled rd h } := by
    rw [stallIn, State.core_setCore_self, hself]
  have hothers (d : Fin 2) (hd : d ≠ c) : (stallIn (awake s (.core c)) c rd h).core d = s.core d :=
    (State.core_setCore_of_ne _ _ hd).trans (hother d hd)
  generalize stallIn (awake s (.core c)) c rd h = w at hexec hstall hrun hothers
  have hwh (k : Nat) : w.handle k = s.handle k := State.handle_congr hstall.ilkEq k
  rw [serveNow_hold (by rw [hwh, hrecs]) (by rw [hwh, hpartner]) (by rw [hwh, hconf]) (by rw [hstall.ilkEq, hq])
    (by rw [hstall.ilkEq, hb]) ((lineLocked_congr hstall.regsEq).trans hl)] at hexec
  have hz : AllBut [.ilk] w (popQueue (enterService w h)) :=
    allBut_of _ _ _ (fun q => by cases q <;> simp [sameIn, popQueue, enterService, State.setHandle])
  have hzq : (popQueue (enterService w h)).ilk.queue = [] := by
    change (w.ilk.queue ++ [h]).drop 1 = []
    rw [hstall.ilkEq, hq]
    rfl
  have hzj : (popQueue (enterService w h)).ilk.journal = w.ilk.journal := rfl
  have hzh (k : Nat) : (popQueue (enterService w h)).handle k = if k = h then { s.handle h with state := .service } else s.handle k := by
    rw [← hwh h, ← hwh k]
    exact State.handle_setHandle w h { w.handle h with state := .service } k
  generalize popQueue (enterService w h) = z at hexec hz hzq hzj hzh
  have hzcore (d : Fin 2) : z.core d = w.core d := State.core_congr hz.coresEq d
  have hzrd (a : Nat) : z.rd a = s.rd a := (State.rd_congr hz.regsEq a).trans (State.rd_congr hstall.regsEq a)
  obtain ⟨u, hu, hcore, hothercore, hbits, hseq, hdig, hhandle, huq, huj, hrd, hall'⟩ := committed_hold (z := z) (rd := rd)
    (op := op) hc (by rw [hzcore, hrun]) hg hm1 hm2
  refine ⟨u, hexec.trans (by rw [hu]), ?_, fun d hd => ?_, fun k hk => ?_, ?_, hdig, fun k => ?_, huq.trans hzq, ?_,
    fun a ha h1 h2 h3 h4 => ?_, (hstall.mono (by simp)).trans ((hz.mono (by simp)).trans hall')⟩
  · rw [hcore, hzcore, hrun]
  · rw [hothercore d hd, hzcore, hothers d hd]
  · rw [hbits k hk, State.bit, hzrd]
    rfl
  · rw [hseq, hzrd]
  · rw [hhandle]
    by_cases hk : k = h
    · rw [if_pos hk, if_pos hk]
    · rw [if_neg hk, if_neg hk]
      have hmk : marks z [h] (lineResources g m) k = (((s.handle k).state == .opened || (s.handle k).state == .armed) &&
          namesAny (s.handle k).recs (lineResources g m)) := by
        have hcont : ([h].contains k) = false := by simpa using hk
        simp only [marks, hzh, if_neg hk, hcont, Bool.not_false, Bool.true_and]
      rw [hmk, hzh, if_neg hk]
      by_cases h6 : k < 6
      · simp only [h6, true_and, decide_true, Bool.true_and]
        cases (((s.handle k).state == HState.opened || (s.handle k).state == .armed) &&
          namesAny (s.handle k).recs (lineResources g m)) <;> simp
      · simp [h6]
  · rw [huj, hzj, hstall.ilkEq]
  · rw [hrd a ha h1 h2 h3 h4, hzrd]

end Sys2Proof.Machine
end

section
/-! A word written to a register by a party that may write it (R7, R408-R410). -/

namespace Sys2Proof.Machine

theorem mergeBe_full (old v : Word) : mergeBe old v 0xF = v := by
  have hbits : (List.range 4).map (fun i => if (0xF : BitVec 4).getLsbD i then BitVec.ofNat 8 (v.toNat / 256 ^ i)
      else BitVec.ofNat 8 (old.toNat / 256 ^ i)) = leBytes 4 v.toNat := by
    simp [List.range_succ, leBytes, Nat.div_div_eq_div_mul]
  have hlt := v.isLt
  rw [mergeBe, hbits]
  refine BitVec.eq_of_toNat_eq ?_
  simp only [leBytes, leNat, BitVec.toNat_ofNat]
  omega

/-! ### The table's rows -/

/-- The table's row at address `a` has this base and these fields, and is no low word of a pair. -/
def RowIs (a base : Nat) (fields : List Field) : Prop :=
  ∃ r, rowAt a = some r ∧ r.base = base ∧ r.pairLow = false ∧ r.fields = fields

theorem rowIs_of {a base : Nat} {fields : List Field}
    (h : (rowAt a).map (fun r => (r.base, r.pairLow, r.fields)) = some (base, false, fields)) : RowIs a base fields := by
  obtain ⟨r, hr, heq⟩ := Option.map_eq_some_iff.1 h
  simp only [Prod.mk.injEq] at heq
  exact ⟨r, hr, heq⟩

/-! ### Parties -/

theorem writer_privileged {s : State} {p : Party} {a : Nat} (hw : Writer s p a) (hout : a < 0x20400010 ∨ 0x20900000 ≤ a) :
    privileged s p = true := by
  obtain ⟨-, -, -, hp, -⟩ := hw
  refine hp.resolve_right fun hu => ?_
  cases p with
  | inst n =>
    have := n.isLt
    simp [ownsUi] at hu
    omega
  | _ => simp [ownsUi] at hu

theorem touched_of_privileged {s : State} {p : Party} (h : privileged s p = true ∨ ownsUi p a = true) : touched s p = s := by
  cases p with
  | agent x => simp [privileged, ownsUi] at h
  | _ => rfl

/-- An address outside the blocks whose registers have owners of their own (R317, R358), the mirror and the MPU windows. -/
def PlainAddr (a : Nat) : Prop :=
  0x20000500 ≤ a ∧ (a < 0x20040000 ∨ 0x20061000 ≤ a) ∧ a < 0x20800000 ∧ a ≠ Reg.VIN_0_EVR_CURSOR

theorem ownedWrite_plain {s : State} {p : Party} {r : RegRow} {a : Nat} {v : Word} {be : BitVec 4} (h : PlainAddr a) :
    ownedWrite s p r a v be = none := by
  obtain ⟨-, h1, h2, h3⟩ := h
  unfold ownedWrite
  rw [if_neg (by omega), if_neg (by omega), if_neg (by omega), if_neg h3]

/-- A privileged party's write of a register that is no low word of a pair is accepted under its access codes (R7, R408). -/
theorem regWrite_privileged {s : State} {p : Party} {a : Nat} {r : RegRow} {v : Word} {be : BitVec 4} (hw : Writer s p a)
    (hp : privileged s p = true) (hr : rowAt a = some r) (hpl : r.pairLow = false) (ha : PlainAddr a) :
    regWrite s p a v be = acceptWrite s p r a v be := by
  obtain ⟨-, -, hreach, -, hheld⟩ := hw
  have hmirror : inMirror a = false := by
    obtain ⟨-, -, h, -⟩ := ha
    simp [inMirror]
    omega
  have hpair : isWritePair a = false := by simp [isWritePair, isPairLow, hr, hpl]
  have hmpu : isMpu a = false := by
    obtain ⟨h, -⟩ := ha
    simp [isMpu]
    omega
  have hword : writeWord s p a v be = acceptWrite s p r a v be := by
    simp only [writeWord, hr, ownedWrite_plain ha, hp, true_or, if_true, hmpu, Bool.false_eq_true, if_false]
    cases p <;> rfl
  have hat : regWrite.regWriteAt s p a v be = acceptWrite s p r a v be := by
    simp only [regWrite.regWriteAt, hmirror, hpair, hheld, hword, Bool.false_eq_true, false_and, if_false]
  have hdebug : ¬ (p = .debug ∧ debugLevel s ≠ 3) := by
    rintro ⟨rfl, hn⟩
    simp [privileged] at hp
    exact hn hp
  simp only [regWrite, touched_of_privileged (a := a) (.inl hp), hreach, if_neg hdebug, Bool.true_eq_false, if_false]
  cases p with
  | core c => exact hat
  | debug => exact hat
  | _ => exact absurd hp (by simp [privileged])

/-- The row command of such a write. -/
theorem writeRow_privileged {s : State} {p : Party} {a : Nat} {r : RegRow} (v : Word) (be : BitVec 4) (hw : Writer s p a)
    (hp : privileged s p = true) (hr : rowAt a = some r) (hpl : r.pairLow = false) (ha : PlainAddr a) :
    writeRow p a v be s = settled (acceptWrite s p r a v be) := by
  have hdown : s.pwr.down = false := hw.1
  have hmay : partyMay s p .store a = true := hw.2.1
  refine congrArg Host.Outcome.next ((if_neg (by simp [hdown])).trans ?_)
  dsimp only
  rw [if_pos hmay, regWrite_privileged hw hp hr hpl ha]

/-- The addresses whose writes can be discarded in silence lie in five blocks. -/
theorem discardQuiet_eq_false {s : State} {a : Nat}
    (h : (a < 0x20078000 ∨ 0x20078020 ≤ a) ∧ (a < 0x20120000 ∨ 0x20132000 ≤ a) ∧ (a < 0x20310010 ∨ 0x20400020 ≤ a) ∧
      (a < 0x20410000 ∨ 0x20500000 ≤ a)) : discardQuiet s a = false := by
  have h1 : decide (0x20310010 ≤ a ∧ a ≤ 0x20310020) = false := decide_eq_false (by omega)
  have h2 : (decide (0x20410000 ≤ a) && decide (a < 0x20500000)) = false := by
    rw [← Bool.decide_and]
    exact decide_eq_false (by omega)
  have h3 : decide (0x20400010 ≤ a ∧ a < 0x20400020) = false := decide_eq_false (by omega)
  have h4 : decide (0x20131000 ≤ a ∧ a < 0x20132000) = false := decide_eq_false (by omega)
  have h5 : decide (0x20078000 ≤ a ∧ a < 0x20078020) = false := decide_eq_false (by omega)
  have h6 : decide (0x20120000 ≤ a ∧ a < 0x20122000) = false := decide_eq_false (by omega)
  simp only [discardQuiet, portOnly, h1, h2, h3, h4, h5, h6, Bool.false_and, Bool.or_self]

/-- The registers whose writes can be discarded with a record are the sections' own and those of the holds. -/
theorem discardLogged_eq_false {s : State} {r : RegRow} {a : Nat}
    (h : r.base < 0x20090000 ∨ 0x20101000 ≤ r.base) : discardLogged s r a = false := by
  have h1 : decide (r.base = 0x20100004 ∨ r.base = 0x20100400) = false := decide_eq_false (by omega)
  have hne (b : Nat) (hb : 0x20090000 ≤ b ∧ b < 0x20101000) : (r.base == b) = false := beq_eq_false_iff_ne.2 (by omega)
  simp only [discardLogged, h1, hne 0x20100060 (by decide), hne 0x20100064 (by decide), hne 0x20100068 (by decide),
    hne 0x2010006C (by decide), hne 0x20100180 (by decide), hne Reg.HLD_FILTER (by decide), hne 0x20090100 (by decide),
    Bool.false_and, Bool.or_self]

/-- What an accepted write of a yard's register is (R42, R50-R56). -/
theorem acceptWrite_yard {s : State} {p : Party} {r : RegRow} {a : Nat} {v : Word} {be : BitVec 4}
    (ha : 0x20200000 ≤ a ∧ a < 0x20220000) (hb : 0x20200000 ≤ r.base) :
    acceptWrite s p r a v be = actYard s p.origin r a v (mergeBe 0 v be) be := by
  have hlogged : discardLogged s r a = false := discardLogged_eq_false (.inr (by omega))
  have hquiet : discardQuiet s a = false := discardQuiet_eq_false (by omega)
  unfold acceptWrite
  dsimp only
  rw [if_neg (by rw [hlogged]; decide), if_neg (by rw [hquiet]; decide), if_pos (by omega)]

theorem rowIs_yrdCtl (y : Fin 16) :
    RowIs (Reg.YRD_CTL y.val) 0x20200000 [⟨0, 0, .rw, true, .p⟩, ⟨1, 1, .wt, false, .p⟩] :=
  rowIs_of (by revert y; decide +kernel)

end Sys2Proof.Machine
end

section
/-! YRD_y_CTL, the doorbells and FAULT_MAP; broadcasts and key loads (R42, R50-R56, R228, R392). -/

namespace Sys2Proof.Machine

/-! ### The command's write -/

/-- A write of a yard's register is what the register's write does. -/
theorem yardRow {s : State} {p : Party} {a base : Nat} {fields : List Field} {v : Word} (hw : Writer s p a)
    (hrow : RowIs a base fields) (ha : 0x20200000 ≤ a ∧ a < 0x20220000) (hb : 0x20200000 ≤ base) :
    ∃ r : RegRow, r.base = base ∧ r.fields = fields ∧
      writeRow p a v 0xF s = settled (actYard s p.origin r a v v 0xF) := by
  obtain ⟨r, hr, hbase, hpl, hf⟩ := hrow
  have hp := writer_privileged hw (by omega)
  have hplain : PlainAddr a := by
    refine ⟨by omega, by omega, by omega, ?_⟩
    unfold Reg.VIN_0_EVR_CURSOR
    omega
  refine ⟨r, hbase, hf, ?_⟩
  rw [writeRow_privileged v 0xF hw hp hr hpl hplain, acceptWrite_yard ha (by omega), mergeBe_full]

theorem Eventful.noteChange (s : State) (o : Origin) (r : RegRow) (a : Nat) (old new : Word) (be : BitVec 4) :
    Eventful s (noteChange s o r a old new be) := by
  unfold Machine.noteChange
  split
  · exact Eventful.refl s
  · exact Eventful.regChange _ _ _ _ _ _

theorem noteChange_self (s : State) (o : Origin) (r : RegRow) (a : Nat) (w : Word) (be : BitVec 4) :
    noteChange s o r a w w be = s := by
  unfold noteChange
  rw [if_pos (by simp)]

theorem yrdCtl_bounds (y : Fin 16) : 0x20200000 ≤ Reg.YRD_CTL y.val ∧ Reg.YRD_CTL y.val < 0x20210000 := by
  unfold Reg.YRD_CTL
  omega

theorem yrdCtl_plain (y : Fin 16) : ¬ recorderWord (Reg.YRD_CTL y.val) := by
  have := yrdCtl_bounds y
  unfold recorderWord
  omega

theorem yrdCtl_yard (y : Fin 16) : (Reg.YRD_CTL y.val - 0x20200000) / 0x1000 = y.val := by
  unfold Reg.YRD_CTL
  omega

/-- A full write of YRD_y_CTL (R50, R52). -/
theorem actYard_ctl {s : State} {o : Origin} {r : RegRow} {y : Fin 16} {v : Word} {on brk : Bool} (hb : r.base = 0x20200000)
    (hon : v.getLsbD 0 = on) (hbrk : v.getLsbD 1 = brk) :
    actYard s o r (Reg.YRD_CTL y.val) v v 0xF =
      let t := runWrite (if on = true ∧ domState s (6 + y.val) ≠ 0 ∧ s.bit (Reg.YRD_CTL y.val) 0 = false then s
        else noteChange s o r (Reg.YRD_CTL y.val) (s.rd (Reg.YRD_CTL y.val))
          (setBits (s.rd (Reg.YRD_CTL y.val)) 0 0 (b2n on)) 0xF) y.val on
      if brk then breakBars t y.val else t := by
  subst hon hbrk
  unfold actYard
  dsimp only
  have h0 : (0xF : BitVec 4).getLsbD 0 = true := by decide
  rw [if_pos hb, h0, yrdCtl_yard]
  rfl

/-! ### Starting engines -/

/-- A change made to engines of yard `y`, one after the other, reaches each of them once. -/
theorem engine_foldl {y : Nat} {g : State → Nat → State} {F : Engine → Engine} {P : State → Prop}
    (hP : ∀ s k, P s → P (g s k))
    (hg : ∀ s k e, P s → k < 32 → (g s k).engine e = if e = 32 * y + k then F (s.engine e) else s.engine e) :
    ∀ (l : List Nat), l.Nodup → (∀ k ∈ l, k < 32) → ∀ (s : State) (e : Nat), P s →
      (l.foldl g s).engine e = if e / 32 = y ∧ e % 32 ∈ l then F (s.engine e) else s.engine e := by
  intro l
  induction l with
  | nil => intro _ _ s e _; simp
  | cons k l ih =>
    intro hnd hl s e hs
    have hk := hl k List.mem_cons_self
    obtain ⟨hkl, hnd⟩ := List.nodup_cons.1 hnd
    rw [List.foldl_cons, ih hnd (fun j hj => hl j (List.mem_cons_of_mem _ hj)) _ _ (hP s k hs), hg s k e hs hk]
    by_cases he : e = 32 * y + k
    · have hd : e / 32 = y := by omega
      have hm : e % 32 = k := by omega
      rw [if_pos he, if_neg (by rw [hm]; exact fun h => hkl h.2), if_pos ⟨hd, by rw [hm]; exact List.mem_cons_self⟩]
    · rw [if_neg he]
      refine if_congr (and_congr_right fun hd => ?_) rfl rfl
      simp only [List.mem_cons]
      exact ⟨.inr, fun h => h.resolve_left fun hm => he (by omega)⟩

theorem startEngines_spec (s : State) (y : Nat) (x : Engine) (run : Bool)
    (hx : x = if run then { run := .running, pc := s.fld (Reg.YRD_ENTRY y) 15 0 } else { run := .held }) :
    (∀ e, (startEngines s y run).engine e = if e / 32 = y then x else s.engine e) ∧
    AllBut [.engines, .yards, .owedG] s (startEngines s y run) := by
  have hset : AllBut [.yards, .owedG] s { s.setYard y { s.yard y with entry := s.fld (Reg.YRD_ENTRY y) 15 0, owedY := [] } with
      owedG := s.owedG.filter (fun e => e / 32 != y) } :=
    allBut_of _ _ _ (fun p => by cases p <;> simp [sameIn, State.setYard])
  have heq : startEngines s y run = (List.range 32).foldl (fun s i => s.setEngine (32 * y + i) x)
      { s.setYard y { s.yard y with entry := s.fld (Reg.YRD_ENTRY y) 15 0, owedY := [] } with
        owedG := s.owedG.filter (fun e => e / 32 != y) } := by
    rw [hx]
    rfl
  rw [heq]
  refine ⟨fun e => ?_, (hset.mono (by simp)).trans
    (AllBut.foldl (fun s i => (AllBut.setEngine s _ _).mono (by simp)) _ _)⟩
  rw [engine_foldl (y := y) (F := fun _ => x) (P := fun _ => True) (fun _ _ _ => trivial) (fun s k e _ _ => ?_) _
    List.nodup_range (fun k hk => List.mem_range.1 hk) _ _ trivial, hset.engineEq]
  · exact if_congr ⟨And.left, fun h => ⟨h, List.mem_range.2 (Nat.mod_lt _ (by decide))⟩⟩ rfl rfl
  · by_cases he : e = 32 * y + k
    · rw [if_pos he, he, State.engine_setEngine_self]
    · rw [if_neg he, State.engine_setEngine_of_ne _ _ he]

/-! ### Doorbells and FAULT_MAP -/

/-- What a doorbell does to an engine it names (R56). -/
theorem doorbellYard_spec (s : State) (y : Nat) (m : Word) :
    AllBut [.engines] s (doorbellYard s y m.toNat) ∧
    ∀ e, (doorbellYard s y m.toNat).engine e =
      if e / 32 = y ∧ m.getLsbD (e % 32) = true ∧ (s.engine e).run ≠ .held then
        { s.engine e with wake := true, run := if (s.engine e).run = .parked then .running else (s.engine e).run }
      else s.engine e := by
  constructor
  · refine AllBut.foldl (fun s k => ?_) _ s
    dsimp only
    split
    · exact AllBut.refl _ s
    · exact AllBut.setEngine _ _ _
  · intro e
    unfold doorbellYard
    rw [engine_foldl (y := y) (P := fun _ => True) (F := fun x => if x.run = .held then x else
        { x with wake := true, run := if x.run = .parked then .running else x.run })
      (fun _ _ _ => trivial) (fun s k e _ _ => ?_) _ (List.nodup_range.filter _) (fun k hk => ?_) _ _ trivial]
    · have hmem : e % 32 ∈ (List.range 32).filter (bitOf m.toNat) ↔ m.getLsbD (e % 32) = true := by
        simp only [List.mem_filter, List.mem_range]
        exact and_iff_right (Nat.mod_lt _ (by decide))
      by_cases hh : (s.engine e).run = .held
      · rw [if_pos hh, ite_self, if_neg fun h => h.2.2 hh]
      · rw [if_neg hh]
        exact if_congr (by rw [hmem]; exact ⟨fun h => ⟨h.1, h.2, hh⟩, fun h => ⟨h.1, h.2.1⟩⟩) rfl rfl
    · dsimp only
      by_cases he : e = 32 * y + k
      · rw [if_pos he, he]
        split
        · rfl
        · exact State.engine_setEngine_self _ _ _
      · rw [if_neg he]
        split
        · rfl
        · exact State.engine_setEngine_of_ne _ _ he
    · exact List.mem_range.1 (List.mem_of_mem_filter hk)

theorem restartEngine_frame (s : State) (e : Nat) : AllBut [.regs, .engines] s (restartEngine s e) := by
  have hset : AllBut [.regs, .engines] s (s.setBit (Reg.YRD_FAULT_MAP (e / 32)) (e % 32) false) :=
    (AllBut.setBit _ _ _ _).mono (by simp)
  unfold restartEngine
  dsimp only
  split
  · exact hset.trans ((AllBut.setEngine _ _ _).mono (by simp))
  · exact hset

theorem restartEngine_spec (s : State) {y k : Nat} (hk : k < 32) :
    (restartEngine s (32 * y + k)).regs = (s.setBit (Reg.YRD_FAULT_MAP y) k false).regs ∧
    AllBut [.regs, .engines] s (restartEngine s (32 * y + k)) ∧
    ∀ e, (restartEngine s (32 * y + k)).engine e = if e = 32 * y + k then
      (if (s.engine e).run = .faulted then { run := .running, pc := (s.yard y).entry } else s.engine e) else s.engine e := by
  have hd : (32 * y + k) / 32 = y := by omega
  have hm : (32 * y + k) % 32 = k := by omega
  have hset : AllBut [.regs, .engines] s (s.setBit (Reg.YRD_FAULT_MAP y) k false) := (AllBut.setBit _ _ _ _).mono (by simp)
  have heng (e : Nat) : (s.setBit (Reg.YRD_FAULT_MAP y) k false).engine e = s.engine e := (AllBut.setBit _ _ _ _).engineEq e
  have hyard : (s.setBit (Reg.YRD_FAULT_MAP y) k false).yard y = s.yard y := rfl
  unfold restartEngine
  dsimp only
  rw [hd, hm, heng, hyard]
  generalize s.setBit (Reg.YRD_FAULT_MAP y) k false = t at hset heng
  by_cases hf : (s.engine (32 * y + k)).run = .faulted
  · rw [if_pos hf]
    refine ⟨State.setEngine_regs _ _ _, hset.trans ((AllBut.setEngine _ _ _).mono (by simp)), fun e => ?_⟩
    by_cases he : e = 32 * y + k
    · subst he
      rw [State.engine_setEngine_self, if_pos rfl, if_pos hf]
    · rw [State.engine_setEngine_of_ne _ _ he, if_neg he, heng]
  · rw [if_neg hf]
    refine ⟨rfl, hset, fun e => ?_⟩
    rw [heng]
    by_cases he : e = 32 * y + k
    · rw [if_pos he, if_neg (by rw [he]; exact hf)]
    · rw [if_neg he]

/-- The bits of FAULT_MAP that a restart of engines clears (R42). -/
theorem foldl_restart_regs (y : Nat) : ∀ (l : List Nat), (∀ k ∈ l, k < 32) → ∀ s : State,
    AllBut [.regs, .engines] s (l.foldl (fun s k => restartEngine s (32 * y + k)) s) ∧
    (∀ a, a ≠ Reg.YRD_FAULT_MAP y → (l.foldl (fun s k => restartEngine s (32 * y + k)) s).rd a = s.rd a) ∧
    ∀ k < 32, (l.foldl (fun s k => restartEngine s (32 * y + k)) s).bit (Reg.YRD_FAULT_MAP y) k =
      (s.bit (Reg.YRD_FAULT_MAP y) k && !decide (k ∈ l)) := by
  intro l
  induction l with
  | nil => exact fun _ s => ⟨AllBut.refl _ _, fun _ _ => rfl, fun _ _ => by simp⟩
  | cons j l ih =>
    intro hl s
    have hj := hl j List.mem_cons_self
    obtain ⟨hregs, hall, -⟩ := restartEngine_spec s (y := y) hj
    obtain ⟨h1, h2, h3⟩ := ih (fun k hk => hl k (List.mem_cons_of_mem _ hk)) (restartEngine s (32 * y + j))
    refine ⟨hall.trans h1, fun a ha => (h2 a ha).trans ((State.rd_congr hregs a).trans (State.rd_setBit_of_ne _ _ _ ha)),
      fun k hk => ?_⟩
    rw [List.foldl_cons, h3 k hk, State.bit, State.rd_congr hregs]
    have hbit := State.bit_setBit s (Reg.YRD_FAULT_MAP y) j k false hj hk
    rw [State.bit] at hbit
    rw [hbit]
    by_cases hkj : k = j
    · simp [hkj]
    · simp [hkj, State.bit]

/-- A restart of engines (R42). -/
theorem restartEngines_spec (s : State) (y : Nat) (m : Word) :
    AllBut [.regs, .engines] s (restartEngines s y m.toNat) ∧
    (∀ a, a ≠ Reg.YRD_FAULT_MAP y → (restartEngines s y m.toNat).rd a = s.rd a) ∧
    (∀ k < 32, (restartEngines s y m.toNat).bit (Reg.YRD_FAULT_MAP y) k =
      (s.bit (Reg.YRD_FAULT_MAP y) k && !m.getLsbD k)) ∧
    ∀ e, (restartEngines s y m.toNat).engine e = if e / 32 = y ∧ m.getLsbD (e % 32) = true ∧
        s.bit (Reg.YRD_FAULT_MAP y) (e % 32) = true ∧ (s.engine e).run = .faulted then
      { run := .running, pc := (s.yard y).entry } else s.engine e := by
  have hl : ∀ k ∈ (List.range 32).filter (fun k => bitOf m.toNat k && s.bit (Reg.YRD_FAULT_MAP y) k), k < 32 :=
    fun k hk => List.mem_range.1 (List.mem_of_mem_filter hk)
  obtain ⟨h1, h2, h3⟩ := foldl_restart_regs y _ hl s
  refine ⟨h1, h2, fun k hk => ?_, fun e => ?_⟩
  · rw [restartEngines, h3 k hk]
    have hm : bitOf m.toNat k = m.getLsbD k := rfl
    simp only [List.mem_filter, List.mem_range, hk, true_and, hm]
    cases s.bit (Reg.YRD_FAULT_MAP y) k <;> cases m.getLsbD k <;> rfl
  · unfold restartEngines
    rw [engine_foldl (y := y) (P := fun t => t.yards = s.yards)
      (F := fun x => if x.run = .faulted then { run := .running, pc := (s.yard y).entry } else x)
      (fun t k ht => ?_) (fun t k e ht hk => ?_) _ (List.nodup_range.filter _) hl _ _ rfl]
    · have hmem : e % 32 ∈ (List.range 32).filter (fun k => bitOf m.toNat k && s.bit (Reg.YRD_FAULT_MAP y) k) ↔
          m.getLsbD (e % 32) = true ∧ s.bit (Reg.YRD_FAULT_MAP y) (e % 32) = true := by
        simp only [List.mem_filter, List.mem_range, Bool.and_eq_true]
        exact and_iff_right (Nat.mod_lt _ (by decide))
      by_cases hf : (s.engine e).run = .faulted
      · rw [if_pos hf]
        exact if_congr (by rw [hmem]; exact ⟨fun h => ⟨h.1, h.2.1, h.2.2, hf⟩, fun h => ⟨h.1, h.2.1, h.2.2.1⟩⟩) rfl rfl
      · rw [if_neg hf, ite_self, if_neg fun h => hf h.2.2.2]
    · have hy : (restartEngine t (32 * y + k)).yards = t.yards := restartEngine_frame t _ .yards (by decide)
      exact hy.trans ht
    · have hy : t.yard y = s.yard y := by
        rw [State.yard, ht]
        rfl
      rw [(restartEngine_spec t hk).2.2, hy]

/-! ### YRD_y_CTL -/

theorem domState_plain (y : Nat) (hy : y < 16) : ¬ recorderWord (Reg.PWR_DOM_STAT (6 + y)) := by
  unfold recorderWord Reg.PWR_DOM_STAT
  omega

theorem yrdEntry_plain (y : Fin 16) : ¬ recorderWord (Reg.YRD_ENTRY y.val) := by
  unfold recorderWord Reg.YRD_ENTRY
  omega

/-- A run written 1 to a stopped yard in RUN starts its engines (R50). -/
theorem runWrite_starts {s t : State} {y : Fin 16} (hev : Eventful s t) (hbit : s.bit (Reg.YRD_CTL y.val) 0 = false)
    (hdom : domState s (6 + y.val) = 0) :
    (runWrite t y.val true).bit (Reg.YRD_CTL y.val) 0 = true ∧
    (∀ e, (runWrite t y.val true).engine e =
      if e / 32 = y.val then { run := .running, pc := s.fld (Reg.YRD_ENTRY y.val) 15 0 } else s.engine e) ∧
    AllBut [.engines, .yards, .owedG, .regs, .evr, .mbx, .irq, .irq1] s (runWrite t y.val true) ∧
    ∀ a, ¬ recorderWord a → a ≠ Reg.YRD_CTL y.val → (runWrite t y.val true).rd a = s.rd a := by
  obtain ⟨hall, hrd⟩ := hev
  have htbit : t.bit (Reg.YRD_CTL y.val) 0 = false := by rw [State.bit, hrd _ (yrdCtl_plain y)]; exact hbit
  have htdom : domState t (6 + y.val) = 0 := by
    rw [domState, State.fld, hrd _ (domState_plain y.val y.isLt)]
    exact hdom
  have hrun : runWrite t y.val true = startEngines (t.setBit (Reg.YRD_CTL y.val) 0 true) y.val true := by
    unfold runWrite
    rw [if_pos rfl, if_neg (by rw [htbit]; decide), if_pos htdom]
  have hset : AllBut [.regs] t (t.setBit (Reg.YRD_CTL y.val) 0 true) := AllBut.setBit _ _ _ _
  have hsetrd (a : Nat) (ha : a ≠ Reg.YRD_CTL y.val) := State.rd_setBit_of_ne t 0 true ha
  have hsetbit := State.bit_setBit t (Reg.YRD_CTL y.val) 0 0 true (by decide) (by decide)
  rw [hrun]
  generalize t.setBit (Reg.YRD_CTL y.val) 0 true = u at hset hsetrd hsetbit
  have hentry : u.fld (Reg.YRD_ENTRY y.val) 15 0 = s.fld (Reg.YRD_ENTRY y.val) 15 0 := by
    rw [State.fld, hsetrd _ (by unfold Reg.YRD_ENTRY Reg.YRD_CTL; omega), hrd _ (yrdEntry_plain y)]
    rfl
  obtain ⟨h1, h2⟩ := startEngines_spec u y.val _ true rfl
  generalize startEngines u y.val true = w at h1 h2
  refine ⟨?_, fun e => ?_, (hall.mono (by simp)).trans ((hset.mono (by simp)).trans (h2.mono (by simp))),
    fun a ha hn => (State.rd_congr h2.regsEq a).trans ((hsetrd a hn).trans (hrd a ha))⟩
  · rw [State.bit, State.rd_congr h2.regsEq]
    exact hsetbit
  · rw [h1, hset.engineEq, hall.engineEq, ← hentry]
    rfl

theorem setBits_bit_self {w : Word} (h : w.getLsbD 0 = true) : setBits w 0 0 1 = w := by
  refine BitVec.eq_of_getLsbD_eq fun i hi => ?_
  rw [getLsbD_setBits w 0 0 1 i (by decide) (by decide) hi]
  by_cases h0 : i = 0
  · subst h0
    simp [h]
  · rw [if_neg (by omega)]

theorem rowIs_yrdDoorbell (y : Fin 16) : RowIs (Reg.YRD_DOORBELL y.val) 0x20200014 [⟨31, 0, .wt, false, .p⟩] :=
  rowIs_of (by revert y; decide +kernel)

theorem rowIs_yrdFaultMap (y : Fin 16) : RowIs (Reg.YRD_FAULT_MAP y.val) 0x20200020 [⟨31, 0, .rc, false, .u⟩] :=
  rowIs_of (by revert y; decide +kernel)

theorem actYard_doorbell {s : State} {o : Origin} {r : RegRow} {y : Fin 16} {m : Word} (hb : r.base = 0x20200014) :
    actYard s o r (Reg.YRD_DOORBELL y.val) m m 0xF = doorbellYard s y.val m.toNat := by
  have hy : (Reg.YRD_DOORBELL y.val - 0x20200000) / 0x1000 = y.val := by unfold Reg.YRD_DOORBELL; omega
  unfold actYard
  dsimp only
  rw [hb, hy]
  rfl

theorem actYard_faultMap {s : State} {o : Origin} {r : RegRow} {y : Fin 16} {m : Word} (hb : r.base = 0x20200020) :
    actYard s o r (Reg.YRD_FAULT_MAP y.val) m m 0xF = restartEngines s y.val m.toNat := by
  have hy : (Reg.YRD_FAULT_MAP y.val - 0x20200000) / 0x1000 = y.val := by unfold Reg.YRD_FAULT_MAP; omega
  unfold actYard
  dsimp only
  rw [hb, hy]
  rfl

/-- Settles O25: a write of a yard's register does what the register's write does. -/
theorem yardRunAndDoorbell : Obligations.YardRunAndDoorbell := by
  intro s p y
  have hctl := yrdCtl_bounds y
  have hb : 0x20200000 ≤ Reg.YRD_CTL y.val ∧ Reg.YRD_CTL y.val < 0x20220000 := by omega
  refine ⟨fun hw hbit hdom => ?start, fun hw hbit hdom => ?held, fun hw hbit => ?stop, fun hw hbit => ?brk, fun m hw => ?bell,
    fun m hw => ?map⟩
  case start =>
    obtain ⟨r, hbase, -, hexec⟩ := yardRow (v := 1) hw (rowIs_yrdCtl y) hb (by decide)
    rw [actYard_ctl (on := true) (brk := false) hbase (by decide) (by decide)] at hexec
    dsimp only at hexec
    rw [if_neg Bool.false_ne_true, if_neg fun h => h.2.1 hdom] at hexec
    exact ⟨_, hexec, runWrite_starts (Eventful.noteChange _ _ _ _ _ _ _) hbit hdom⟩
  case held =>
    obtain ⟨r, hbase, -, hexec⟩ := yardRow (v := 1) hw (rowIs_yrdCtl y) hb (by decide)
    rw [actYard_ctl (on := true) (brk := false) hbase (by decide) (by decide)] at hexec
    dsimp only at hexec
    rw [if_neg Bool.false_ne_true, if_pos ⟨rfl, hdom, hbit⟩] at hexec
    have hrun : runWrite s y.val true = holdRun s y.val := by
      unfold runWrite
      rw [if_pos rfl, if_neg (by rw [hbit]; decide), if_neg hdom]
    exact hexec.trans (congrArg settled hrun)
  case stop =>
    obtain ⟨r, hbase, -, hexec⟩ := yardRow (v := 0) hw (rowIs_yrdCtl y) hb (by decide)
    rw [actYard_ctl (on := false) (brk := false) hbase (by decide) (by decide)] at hexec
    dsimp only at hexec
    rw [if_neg Bool.false_ne_true, if_neg fun h => Bool.false_ne_true h.1] at hexec
    exact ⟨_, Eventful.noteChange _ _ _ _ _ _ _, hexec⟩
  case brk =>
    have hone : s.fld (Reg.YRD_CTL y.val) 0 0 = 1 := by
      have htest : (s.rd (Reg.YRD_CTL y.val)).toNat.testBit 0 = true := hbit
      rw [Nat.testBit_zero, decide_eq_true_eq] at htest
      simp only [State.fld, getBits, bitsOf]
      omega
    obtain ⟨r, hbase, -, hexec⟩ := yardRow (v := 3) hw (rowIs_yrdCtl y) hb (by decide)
    rw [actYard_ctl (on := true) (brk := true) hbase (by decide) (by decide)] at hexec
    dsimp only at hexec
    have hself : setBits (s.rd (Reg.YRD_CTL y.val)) 0 0 (b2n true) = s.rd (Reg.YRD_CTL y.val) := setBits_bit_self hbit
    have hrun : runWrite s y.val true = s := by
      unfold runWrite
      rw [if_pos rfl, if_pos hbit]
    rw [if_pos rfl, if_neg fun h => absurd (hbit.symm.trans h.2.2) (by decide), hself, noteChange_self, hrun] at hexec
    refine Eq.trans ?_ hexec
    change writeRow p _ _ 0xF s = _
    rw [hone]
    rfl
  case bell =>
    obtain ⟨r, hbase, -, hexec⟩ := yardRow (v := m) hw (rowIs_yrdDoorbell y) (by unfold Reg.YRD_DOORBELL; omega) (by decide)
    rw [actYard_doorbell hbase] at hexec
    exact ⟨_, hexec, doorbellYard_spec s y.val m⟩
  case map =>
    obtain ⟨r, hbase, -, hexec⟩ := yardRow (v := m) hw (rowIs_yrdFaultMap y) (by unfold Reg.YRD_FAULT_MAP; omega) (by decide)
    rw [actYard_faultMap hbase] at hexec
    exact ⟨_, hexec, restartEngines_spec s y.val m⟩

end Sys2Proof.Machine
end

section
/-! Program broadcasts and key loads (R53, R54, R228). -/

namespace Sys2Proof.Machine

/-! ### The requests -/

theorem rowIs_bcastGo : RowIs Reg.YRD_BCAST_GO 0x2021000C [⟨0, 0, .wt, false, .p⟩] := rowIs_of (by decide +kernel)

theorem rowIs_keyGo : RowIs Reg.YRD_KEY_GO 0x2021002C [⟨0, 0, .wt, false, .p⟩] := rowIs_of (by decide +kernel)

theorem bcastGo_exec {s : State} {p : Party} (hw : Writer s p Reg.YRD_BCAST_GO) :
    exec (.bcastGo p) s = settled (bcastGo s p.origin) := by
  obtain ⟨r, hbase, -, hexec⟩ := yardRow (v := 1) hw rowIs_bcastGo (by decide) (by decide)
  refine hexec.trans (congrArg settled ?_)
  unfold actYard
  dsimp only
  rw [hbase]
  rfl

theorem yrdKeyGo_exec {s : State} {p : Party} (hw : Writer s p Reg.YRD_KEY_GO) :
    exec (.yrdKeyGo p) s = settled (keyGo s (fun y => domState s (6 + y) == 0)) := by
  obtain ⟨r, hbase, -, hexec⟩ := yardRow (v := 1) hw rowIs_keyGo (by decide) (by decide)
  refine hexec.trans (congrArg settled ?_)
  unfold actYard
  dsimp only
  rw [hbase]
  rfl

/-- A broadcast is taken where every yard named is stopped, in RUN and has room for the image, and none is in progress. -/
theorem bcastGo_taken {s : State} {o : Origin} (h : s.bcast = none ∧ ∀ y ∈ maskYards (s.fld Reg.YRD_BCAST_MASK 15 0),
      s.bit (Reg.YRD_CTL y) 0 = false ∧ domState s (6 + y) = 0 ∧ s.fld Reg.YRD_BCAST_LEN 15 2 * 4 ≤ codeBytes s y) :
    bcastGo s o = ({ s with bcast := some ⟨maskYards (s.fld Reg.YRD_BCAST_MASK 15 0),
      s.rdBytesN (s.rd Reg.YRD_BCAST_SRC).toNat (s.fld Reg.YRD_BCAST_LEN 15 2 * 4), o⟩ } : State).setBit
        Reg.YRD_BCAST_STAT 0 true := by
  obtain ⟨hnone, hall⟩ := h
  unfold bcastGo
  dsimp only
  rw [if_neg]
  simp only [List.any_eq_true, Bool.or_eq_true, bne_iff_ne, decide_eq_true_eq, hnone, Option.isSome_none, Bool.false_eq_true,
    or_false, not_exists, not_and]
  rintro y hy ((hrun | hdom) | hlen)
  · exact absurd ((hall y hy).1.symm.trans hrun) (by decide)
  · exact hdom (hall y hy).2.1
  · exact absurd (hall y hy).2.2 (by omega)

theorem bcastGo_refused {s : State} {o : Origin} (h : ¬ (s.bcast = none ∧ ∀ y ∈ maskYards (s.fld Reg.YRD_BCAST_MASK 15 0),
      s.bit (Reg.YRD_CTL y) 0 = false ∧ domState s (6 + y) = 0 ∧ s.fld Reg.YRD_BCAST_LEN 15 2 * 4 ≤ codeBytes s y)) :
    Eventful (s.setBit Reg.YRD_BCAST_STAT 2 true) (bcastGo s o) := by
  unfold bcastGo
  dsimp only
  rw [if_pos]
  · exact Eventful.log _ _ _ _ _
  · by_contra hc
    refine h ?_
    simp only [List.any_eq_true, Bool.or_eq_true, bne_iff_ne, decide_eq_true_eq, not_or, not_exists, not_and,
      Bool.not_eq_true, Option.isSome_eq_false_iff, Option.isNone_iff_eq_none, not_not, Nat.not_lt] at hc
    obtain ⟨hall, hnone⟩ := hc
    exact ⟨hnone, fun y hy => ⟨(hall y hy).1.1, (hall y hy).1.2, (hall y hy).2⟩⟩

theorem keyGo_eq (s : State) : keyGo s (fun y => domState s (6 + y) == 0) =
    if s.keyLoad = none ∧ 0 < s.fld Reg.YRD_KEY_CTL 6 0 ∧ s.fld Reg.YRD_KEY_CTL 6 0 ≤ 64 ∧
        ∀ y ∈ maskYards (s.fld Reg.YRD_KEY_MASK 15 0), s.bit (Reg.YRD_CTL y) 0 = false ∧ domState s (6 + y) = 0 then
      ({ s with keyLoad := some ⟨s.fld Reg.YRD_KEY_MASK 15 0, s.fld Reg.YRD_KEY_CTL 9 8,
        s.rdMemN (s.rd Reg.YRD_KEY_SRC).toNat (s.fld Reg.YRD_KEY_CTL 6 0)⟩ } : State).setBit Reg.YRD_KEY_STAT 0 true
    else s.setBit Reg.YRD_KEY_STAT 2 true := by
  unfold keyGo
  dsimp only
  by_cases h : s.keyLoad = none ∧ 0 < s.fld Reg.YRD_KEY_CTL 6 0 ∧ s.fld Reg.YRD_KEY_CTL 6 0 ≤ 64 ∧
        ∀ y ∈ maskYards (s.fld Reg.YRD_KEY_MASK 15 0), s.bit (Reg.YRD_CTL y) 0 = false ∧ domState s (6 + y) = 0
  · rw [if_pos h, if_neg]
    obtain ⟨hnone, hpos, hle, hall⟩ := h
    rintro (hany | h0 | h64 | hsome)
    · simp only [List.any_eq_true, Bool.or_eq_true, Bool.not_eq_true', beq_eq_false_iff_ne] at hany
      obtain ⟨y, hy, hrun | hdom⟩ := hany
      · exact absurd ((hall y hy).1.symm.trans hrun) (by decide)
      · exact hdom (hall y hy).2
    · omega
    · omega
    · simp [hnone] at hsome
  · rw [if_neg h, if_pos]
    by_contra hc
    refine h ?_
    simp only [List.any_eq_true, Bool.or_eq_true, Bool.not_eq_true', beq_eq_false_iff_ne, not_or, not_exists, not_and,
      Bool.not_eq_true, not_not, Nat.not_lt, Option.isSome_eq_false_iff, Option.isNone_iff_eq_none] at hc
    obtain ⟨hall, h0, h64, hnone⟩ := hc
    exact ⟨hnone, Nat.pos_of_ne_zero h0, h64, fun y hy => hall y hy⟩

/-! ### The completions -/

theorem State.rdMemN_of_rdMem {s t : State} : ∀ (n b : Nat), (∀ a, b ≤ a → a < b + n → t.rdMem a = s.rdMem a) →
    t.rdMemN b n = s.rdMemN b n := by
  intro n
  induction n with
  | zero => exact fun _ _ => rfl
  | succ n ih =>
    intro b h
    rw [State.rdMemN, State.rdMemN, h b (Nat.le_refl b) (by omega), ih (b + 1) fun a h1 h2 => h a (by omega) (by omega)]

/-- An image written to the local memories of several engines: each holds it, and no other memory changes. -/
theorem foldl_image (img : List Byte) (hlen : img.length ≤ 0x10000) : ∀ (l : List Nat) (s : State),
    AllBut [.mem] s (l.foldl (fun s e => s.wrMemN (engineBase e) img) s) ∧
    (∀ a, (∀ e ∈ l, a < engineBase e ∨ engineBase e + img.length ≤ a) →
      (l.foldl (fun s e => s.wrMemN (engineBase e) img) s).rdMem a = s.rdMem a) ∧
    ∀ e, (e ∈ l ∨ s.rdMemN (engineBase e) img.length = img) →
      (l.foldl (fun s e => s.wrMemN (engineBase e) img) s).rdMemN (engineBase e) img.length = img := by
  intro l
  induction l with
  | nil => exact fun s => ⟨AllBut.refl _ _, fun _ _ => rfl, fun e h => h.resolve_left (by simp)⟩
  | cons f l ih =>
    intro s
    obtain ⟨h1, h2, h3⟩ := ih (s.wrMemN (engineBase f) img)
    refine ⟨(AllBut.wrMemN _ _ _).trans h1, fun a ha => ?_, fun e he => h3 e ?_⟩
    · exact (h2 a fun e he => ha e (List.mem_cons_of_mem _ he)).trans
        (State.rdMem_wrMemN _ _ _ _ (ha f List.mem_cons_self))
    · by_cases hef : e = f
      · subst hef
        exact .inr (State.rdMemN_wrMemN_self img s _ (by unfold engineBase; omega))
      · refine (he.imp_left fun h => (List.mem_cons.1 h).resolve_left hef).imp_right fun h => ?_
        refine (State.rdMemN_of_rdMem img.length _ fun a h1 h2 => State.rdMem_wrMemN _ _ _ _ ?_).trans h
        simp only [engineBase] at h1 h2 ⊢
        omega

theorem mem_yardEngines {ys : List Nat} {e : Nat} : e ∈ ys.flatMap yardEngines ↔ e / 32 ∈ ys := by
  simp only [yardEngines, List.mem_flatMap, List.mem_map, List.mem_range]
  constructor
  · rintro ⟨y, hy, l, hl, rfl⟩
    rwa [show (32 * y + l) / 32 = y by omega]
  · exact fun h => ⟨e / 32, h, e % 32, by omega, by omega⟩

/-- A broadcast that completes (R53): `b` is what it brings. -/
theorem bcastDone_spec {s : State} {b : Bcast} (hb : s.bcast = some b) (hlen : b.image.length ≤ 0x10000) :
    (bcastDone s).bcast = none ∧ (bcastDone s).bit Reg.YRD_BCAST_STAT 0 = false ∧
    (bcastDone s).bit Reg.YRD_BCAST_STAT 1 = true ∧
    (∀ e, e / 32 ∈ b.yards → (bcastDone s).rdMemN (engineBase e) b.image.length = b.image) ∧
    (∀ a, (∀ e, e / 32 ∈ b.yards → a < engineBase e ∨ engineBase e + b.image.length ≤ a) →
      (bcastDone s).rdMem a = s.rdMem a) := by
  obtain ⟨h1, h2, h3⟩ := foldl_image b.image hlen (b.yards.flatMap yardEngines) s
  unfold bcastDone
  rw [hb]
  dsimp only
  generalize (b.yards.flatMap yardEngines).foldl (fun s e => s.wrMemN (engineBase e) b.image) s = t at h1 h2 h3 ⊢
  obtain ⟨u, hu⟩ : ∃ u : State, u = { t with bcast := none } := ⟨_, rfl⟩
  rw [← hu]
  have humem : u.mem = t.mem := by rw [hu]
  have hubc : u.bcast = none := by rw [hu]
  have hbit1 := State.bit_setBit (u.setBit Reg.YRD_BCAST_STAT 0 false) Reg.YRD_BCAST_STAT 1 0 true (by decide) (by decide)
  have hbit0 := State.bit_setBit u Reg.YRD_BCAST_STAT 0 0 false (by decide) (by decide)
  have hbit11 := State.bit_setBit (u.setBit Reg.YRD_BCAST_STAT 0 false) Reg.YRD_BCAST_STAT 1 1 true (by decide) (by decide)
  have hset : AllBut [.regs] u ((u.setBit Reg.YRD_BCAST_STAT 0 false).setBit Reg.YRD_BCAST_STAT 1 true) :=
    (AllBut.setBit _ _ _ _).trans (AllBut.setBit _ _ _ _)
  generalize (u.setBit Reg.YRD_BCAST_STAT 0 false).setBit Reg.YRD_BCAST_STAT 1 true = w at hbit1 hbit11 hset ⊢
  obtain ⟨hall, hrd⟩ := Eventful.log w Ev.BCAST_DONE b.who 0 []
  generalize w.log Ev.BCAST_DONE b.who 0 [] = x at hall hrd
  have hxmem : x.mem = t.mem := hall.memEq.trans (hset.memEq.trans humem)
  have hstat : x.rd Reg.YRD_BCAST_STAT = w.rd Reg.YRD_BCAST_STAT := hrd _ (by unfold recorderWord; decide)
  have hxbc : x.bcast = u.bcast := by
    have h1 : x.bcast = w.bcast := hall .bcast (by decide)
    have h2 : w.bcast = u.bcast := hset .bcast (by decide)
    rw [h1, h2]
  refine ⟨hxbc.trans hubc, ?_, ?_, fun e he => ?_, fun a ha => ?_⟩
  · rw [State.bit, hstat]
    exact hbit1.trans ((if_neg (by decide)).trans hbit0)
  · rw [State.bit, hstat]
    exact hbit11
  · rw [State.rdMemN_congr hxmem]
    exact h3 e (.inl (mem_yardEngines.2 he))
  · rw [State.rdMem_congr hxmem]
    exact h2 a fun e he => ha e (mem_yardEngines.1 he)

/-- A key put into its slot of one yard (R228). -/
theorem putKey_spec (s : State) (y slot : Nat) (key : List Byte) (z k : Nat) :
    Sparse.get (fun _ => []) ((putKey s y slot key).yard z).keys k =
      if z = y ∧ k = slot then key else Sparse.get (fun _ => []) (s.yard z).keys k := by
  have hyard : (putKey s y slot key).yard z =
      (s.setYard y { s.yard y with keys := Sparse.set (fun _ => []) (s.yard y).keys slot key }).yard z := rfl
  rw [hyard]
  by_cases hz : z = y
  · subst hz
    rw [State.yard_setYard_self, sparse_get_set]
    simp
  · rw [State.yard_setYard_of_ne _ _ hz, if_neg fun h => hz h.1]

theorem foldl_putKey (slot : Nat) (key : List Byte) (z k : Nat) : ∀ (l : List Nat) (s : State),
    Sparse.get (fun _ => []) ((l.foldl (fun s y => putKey s y slot key) s).yard z).keys k =
      if z ∈ l ∧ k = slot then key else Sparse.get (fun _ => []) (s.yard z).keys k := by
  intro l
  induction l with
  | nil => intro s; simp
  | cons y l ih =>
    intro s
    rw [List.foldl_cons, ih, putKey_spec]
    by_cases hk : k = slot
    · by_cases hl : z ∈ l <;> by_cases hz : z = y <;> simp [hk, hl, hz]
    · simp [hk]

/-- A key load that completes (R228). -/
theorem keyDone_spec {s : State} {l : KeyLoad} (hl : s.keyLoad = some l) :
    (keyDone s).keyLoad = none ∧ (keyDone s).bit Reg.YRD_KEY_STAT 0 = false ∧ (keyDone s).bit Reg.YRD_KEY_STAT 1 = true ∧
    ∀ y slot, Sparse.get (fun _ => []) ((keyDone s).yard y).keys slot =
      if y < 16 ∧ bitOf l.yards y = true ∧ slot = l.slot then l.key else Sparse.get (fun _ => []) (s.yard y).keys slot := by
  have hkeys (y k : Nat) := foldl_putKey l.slot l.key y k (maskYards l.yards) s
  unfold keyDone
  rw [hl]
  dsimp only
  generalize (maskYards l.yards).foldl (fun s y => putKey s y l.slot l.key) s = t at hkeys ⊢
  obtain ⟨u, hu⟩ : ∃ u : State, u = { t with keyLoad := none } := ⟨_, rfl⟩
  rw [← hu]
  have hbit1 := State.bit_setBit (u.setBit Reg.YRD_KEY_STAT 0 false) Reg.YRD_KEY_STAT 1 0 true (by decide) (by decide)
  have hbit0 := State.bit_setBit u Reg.YRD_KEY_STAT 0 0 false (by decide) (by decide)
  have hbit11 := State.bit_setBit (u.setBit Reg.YRD_KEY_STAT 0 false) Reg.YRD_KEY_STAT 1 1 true (by decide) (by decide)
  have hset : AllBut [.regs] u ((u.setBit Reg.YRD_KEY_STAT 0 false).setBit Reg.YRD_KEY_STAT 1 true) :=
    (AllBut.setBit _ _ _ _).trans (AllBut.setBit _ _ _ _)
  have hload : ((u.setBit Reg.YRD_KEY_STAT 0 false).setBit Reg.YRD_KEY_STAT 1 true).keyLoad = u.keyLoad :=
    hset .keyLoad (by decide)
  have hyards : ((u.setBit Reg.YRD_KEY_STAT 0 false).setBit Reg.YRD_KEY_STAT 1 true).yards = u.yards :=
    hset .yards (by decide)
  refine ⟨hload.trans (by rw [hu]), hbit1.trans ((if_neg (by decide)).trans hbit0), hbit11, fun y slot => ?_⟩
  rw [State.yard, hyards, hu]
  refine (hkeys y slot).trans (if_congr ?_ rfl rfl)
  simp only [maskYards, List.mem_filter, List.mem_range, and_assoc]

/-- Settles O26: the registers start what the operands name, and a completion brings it to every yard named. -/
theorem broadcastsAndKeyLoads : Obligations.BroadcastsAndKeyLoads := by
  intro s
  refine ⟨fun p hw => ?_, fun b hp hb _ hlen => ⟨_, congrArg Host.Outcome.next (if_neg (by simp [hp])), bcastDone_spec hb hlen⟩,
    fun p hw => (yrdKeyGo_exec hw).trans (congrArg settled (keyGo_eq s)),
    fun l hp hl => ⟨_, congrArg Host.Outcome.next (if_neg (by simp [hp])), keyDone_spec hl⟩⟩
  intro ys len
  split
  · next h => exact (bcastGo_exec hw).trans (congrArg settled (bcastGo_taken h))
  · next h => exact ⟨_, bcastGo_refused h, bcastGo_exec hw⟩

end Sys2Proof.Machine
end

section
/-! O27: what a section program reads of the frame it runs on, and what it counts. -/

namespace Sys2Proof.Machine

section
variable {s : State} {n : Fin 32} {r : Route}

/-- On the command route a section program sees the frame in progress (R84, R115). -/
theorem frameView_command {f : Frame} (hr : (s.line n.val).route = some r) (hj : r.judge = false)
    (hf : (s.line n.val).frame = some f) : frameView s n.val = ⟨f.opcode, f.addr, 0, f.desc, []⟩ := by
  simp [frameView, hr, hj, hf]

/-- On the judge route a section program sees the staged entry that is being judged (R121). -/
theorem frameView_judge {e : Entry} (hr : (s.line n.val).route = some r) (hj : r.judge = true)
    (he : (s.line n.val).queue.find? (fun e => e.progress == .judging) = some e) :
    frameView s n.val = ⟨e.opcode, e.addr, e.flen, e.desc, e.data⟩ := by
  simp [frameView, hr, hj, he]

theorem routeMap_of_route (hr : (s.line n.val).route = some r) : routeMap s n.val = (bankOf s n.val r.bank).map := by
  simp [routeMap, hr]

/-- The instructions that read the frame give what its view shows. -/
theorem frame_reads {x : FrameView} (hx : frameView s n.val = x) (rd ra : RegNo) :
    Writes (.fop (.line n) rd) (.fop rd) s (.line n) rd (BitVec.ofNat 64 x.op) ∧
    Writes (.faddr (.line n) rd) (.faddr rd) s (.line n) rd (BitVec.ofNat 64 x.addr) ∧
    Writes (.flen (.line n) rd) (.flen rd) s (.line n) rd (BitVec.ofNat 64 x.len) ∧
    Writes (.fmode (.line n) rd) (.fmode rd) s (.line n) rd (BitVec.ofNat 64 x.desc) ∧
    Writes (.fdata (.line n) rd ra) (.fdata rd ra) s (.line n) rd
      (BitVec.ofNat 64 (leAt x.data (greg s (.line n) ra).toNat 8)) := by
  subst hx
  exact ⟨writes_of rfl (fun _ => rfl) rfl, writes_of rfl (fun _ => rfl) rfl, writes_of rfl (fun _ => rfl) rfl,
    writes_of rfl (fun _ => rfl) rfl, writes_of rfl (fun _ => rfl) rfl⟩

/-- CNT counts its register up and moves the section processor alone (R118). -/
theorem cnt_counts (k : RegNo) (h : Ready s (.line n) (.cnt k)) : ∃ t, exec (.cnt (.line n) k) s = .next t ∧
    t.rd (Reg.SEC_PCNT n.val k.toNat) = satInc (s.rd (Reg.SEC_PCNT n.val k.toNat)) ∧
    RegsAllBut [Reg.SEC_PCNT n.val k.toNat] s t ∧ pcOf t (.line n) = pcOf s (.line n) + 4 ∧
    (∀ q, greg t (.line n) q = greg s (.line n) q) ∧ AllBut [.regs, .lines] s t := by
  obtain ⟨u, hu⟩ : ∃ u, u = s.inc (Reg.SEC_PCNT n.val k.toNat) := ⟨_, rfl⟩
  have hl : u.line n.val = s.line n.val := by rw [hu]; rfl
  have hstep : stepLeft u (.line n) = true := by rw [hu]; exact h.2.2.2.2
  have hpc : pcOf u (.line n) = pcOf s (.line n) := by rw [hu]; rfl
  have hregs : regsOf u (.line n) = regsOf s (.line n) := by rw [hu]; rfl
  obtain ⟨hg, hpc', hall, -⟩ := moved_spec (moved_onward hstep)
  have hrd (a : Nat) : (countStep (onward u (.line n)) (.line n)).rd a = u.rd a :=
    congrArg (fun m => (Sparse.get regReset m a)) (show _ = u.regs from hall .regs (by decide))
  refine ⟨countStep (onward u (.line n)) (.line n), ?_, ?_, ?_, hpc'.trans (by rw [hpc]), ?_, ?_⟩
  · rw [hu]
    exact act_ready h _
  · rw [hrd, hu]
    exact State.rd_wr_self s _ _
  · intro a ha
    rw [hrd, hu]
    exact State.rd_inc_of_ne s (by simpa using ha)
  · intro q
    rw [hg, hregs, greg_eq s _ q h.2.2.2.2]
  · have hi : AllBut [.regs] s u := hu ▸ AllBut.inc s _
    exact (hi.mono (by simp)).trans (hall.mono (by simp))

end

/-- Settles O27: each instruction writes what the view of its frame shows; CNT counts one word. -/
theorem sectionFrameInstructions : Obligations.SectionFrameInstructions := by
  intro s n r rd ra k hr p v
  refine ⟨fun f hj hf => frame_reads (frameView_command hr hj hf) rd ra,
    fun e hj he => frame_reads (frameView_judge hr hj he) rd ra, ?_, cnt_counts k⟩
  exact writes_of rfl (fun _ => rfl) (by rw [← routeMap_of_route hr]; rfl)

end Sys2Proof.Machine
end

section
/-! O28: what a verdict changes, and what it answers. -/

namespace Sys2Proof.Machine

/-! ### What the operations of a verdict leave -/

/-- The register words of section `n`, its Ganger's among them. -/
def sectionWord (n : Fin 32) (a : Nat) : Prop :=
  a / 0x1000 = 0x20100 + n.val ∨ a = Reg.GNG_STAT ∨ a / 0x40 = 0x20141000 / 0x40 + n.val

theorem State.line_of_lines {s t : State} (h : t.lines = s.lines) (n : Nat) : t.line n = s.line n :=
  congrArg (fun m => Sparse.get (fun _ => ({} : Line)) m n) h

theorem SectionOnly.refl (n : Fin 32) (s : State) : SectionOnly n s s :=
  ⟨AllBut.refl _ s, fun _ _ => rfl, fun _ _ _ _ _ => rfl⟩

theorem SectionOnly.trans {n : Fin 32} {s t u : State} (h : SectionOnly n s t) (k : SectionOnly n t u) : SectionOnly n s u := by
  obtain ⟨h1, h2, h3⟩ := h
  obtain ⟨k1, k2, k3⟩ := k
  exact ⟨h1.trans k1, fun m hm => (k2 m hm).trans (h2 m hm),
    fun a h b c d => (k3 a h b c d).trans (h3 a h b c d)⟩

theorem SectionOnly.setLine (n : Fin 32) (s : State) (x : Line) : SectionOnly n s (s.setLine n.val x) :=
  ⟨(AllBut.setLine s n.val x).mono (by simp), fun _ hm => State.line_setLine_of_ne s x hm, fun _ _ _ _ _ => rfl⟩

theorem SectionOnly.of_eventful (n : Fin 32) {s t : State} (h : Eventful s t) : SectionOnly n s t :=
  ⟨h.1.mono (by simp), fun m _ => State.line_of_lines (h.1 .lines (by decide)) m, fun a ha _ _ _ => h.2 a ha⟩

/-- From `s` to `t` section `n` alone has changed, and neither its verdict registers nor its route. -/
def VerdictKept (n : Fin 32) (s t : State) : Prop :=
  SectionOnly n s t ∧ t.rd (Reg.SEC_LAST_VERDICT n.val) = s.rd (Reg.SEC_LAST_VERDICT n.val) ∧
    (∀ v, t.rd (verdictCounter n.val v) = s.rd (verdictCounter n.val v)) ∧
    (t.line n.val).route = (s.line n.val).route

/-- The words that a verdict itself writes: SEC_n_LAST_VERDICT and the five counters (R112). -/
def verdictWord (n : Fin 32) (a : Nat) : Prop :=
  0x201000C0 + n.val * 0x1000 ≤ a ∧ a ≤ 0x201000D0 + n.val * 0x1000 ∨ a = 0x201000E0 + n.val * 0x1000

theorem verdictWord_last (n : Fin 32) : verdictWord n (Reg.SEC_LAST_VERDICT n.val) := Or.inr rfl

theorem verdictWord_counter (n : Fin 32) (v : Nat) : verdictWord n (verdictCounter n.val v) := by
  unfold verdictWord verdictCounter Reg.SEC_CNT_PASS Reg.SEC_CNT_DENY Reg.SEC_CNT_STAGE Reg.SEC_CNT_SERVE Reg.SEC_CNT_CHECK
  split <;> omega

theorem not_recorderWord_of_verdictWord {n : Fin 32} {a : Nat} (h : verdictWord n a) : ¬ recorderWord a := by
  unfold verdictWord at h
  unfold recorderWord
  omega

namespace VerdictKept

theorem refl (n : Fin 32) (s : State) : VerdictKept n s s := ⟨.refl n s, rfl, fun _ => rfl, rfl⟩

theorem trans {n : Fin 32} {s t u : State} (h : VerdictKept n s t) (k : VerdictKept n t u) : VerdictKept n s u := by
  obtain ⟨h1, h2, h3, h4⟩ := h
  obtain ⟨k1, k2, k3, k4⟩ := k
  exact ⟨h1.trans k1, k2.trans h2, fun v => (k3 v).trans (h3 v), k4.trans h4⟩

theorem wr (n : Fin 32) (s : State) {a : Nat} (v : Word) (h : sectionWord n a) (hv : ¬ verdictWord n a) :
    VerdictKept n s (s.wr a v) := by
  refine ⟨⟨(AllBut.wr s a v).mono (by simp), fun _ _ => rfl, fun b _ h1 h2 h3 => State.rd_wr_of_ne s v ?_⟩,
    State.rd_wr_of_ne s v ?_, fun w => State.rd_wr_of_ne s v ?_, rfl⟩
  · rintro rfl
    exact h.elim h1 (fun h => h.elim h2 h3)
  · exact fun e => hv (e ▸ verdictWord_last n)
  · exact fun e => hv (e ▸ verdictWord_counter n w)

theorem setLine (n : Fin 32) (s : State) (x : Line) (h : x.route = (s.line n.val).route) :
    VerdictKept n s (s.setLine n.val x) :=
  ⟨.setLine n s x, rfl, fun _ => rfl, by rw [State.line_setLine_self, h]⟩

theorem of_eventful (n : Fin 32) {s t : State} (h : Eventful s t) : VerdictKept n s t :=
  ⟨.of_eventful n h, h.2 _ (not_recorderWord_of_verdictWord (verdictWord_last n)),
    fun v => h.2 _ (not_recorderWord_of_verdictWord (verdictWord_counter n v)),
    congrArg Line.route (State.line_of_lines (h.1 .lines (by decide)) n.val)⟩

theorem secLog (n : Fin 32) (s : State) (code : Nat) (payload : List Byte) :
    VerdictKept n s (secLog s code n.val payload) := of_eventful n (Eventful.log s code _ _ _)

theorem free (n : Fin 32) (s : State) : VerdictKept n s s.free.2 :=
  ⟨⟨(AllBut.free s).mono (by simp), fun _ _ => rfl, fun _ _ _ _ _ => rfl⟩, rfl, fun _ => rfl, rfl⟩

theorem setFrame (n : Fin 32) (s : State) (f : Option Frame) : VerdictKept n s (setFrame s n.val f) := setLine n s _ rfl

theorem drive (n : Fin 32) (s : State) (f : FlashFrame) : VerdictKept n s (drive s n.val f) := setLine n s _ rfl

theorem recordDeny (n : Fin 32) (s : State) (opcode ext kind route cs reason addr : Nat) :
    VerdictKept n s (recordDeny s n.val opcode ext kind route cs reason addr) := by
  refine ((wr n s _ (Or.inl ?_) ?_).trans (wr n _ _ (Or.inl ?_) ?_)).trans (secLog n _ _ _) <;>
    simp only [verdictWord, Reg.SEC_LAST_DENY, Reg.SEC_LAST_DENY_ADDR] <;> omega

theorem recordConverted (n : Fin 32) (s : State) (given reason opcode : Nat) :
    VerdictKept n s (recordConverted s n.val given reason opcode) := by
  refine (wr n s _ (Or.inl ?_) ?_).trans (secLog n _ _ _) <;>
    simp only [verdictWord, Reg.SEC_CNT_CONVERTED] <;> omega

theorem dropGanger (n : Fin 32) (s : State) (spent : Nat) : VerdictKept n s (dropGanger s n.val spent) := by
  refine ((setLine n s { s.line n.val with ganger := none } rfl).trans (wr n _ _ (Or.inr (Or.inr ?_)) ?_)).trans (wr n _ _ (Or.inr (Or.inl rfl)) ?_) <;>
    simp only [verdictWord, Reg.GNG_USED, Reg.GNG_STAT] <;> omega

theorem preemptGanger (n : Fin 32) (s : State) : VerdictKept n s (preemptGanger s n.val) := by
  unfold Machine.preemptGanger
  split
  · next g _ =>
    unfold gangerSpent
    dsimp only
    split
    · exact free n s
    · refine (((free n s).trans (dropGanger n _ _)).trans (wr n _ _ (Or.inl ?_) ?_)).trans
        (wr n _ _ (Or.inr (Or.inr ?_)) ?_) <;>
        simp only [verdictWord, Reg.SEC_CNT_PREEMPT, Reg.GNG_RETRY] <;> omega
  · exact refl n s

theorem wr_stageStat (n : Fin 32) (s : State) (v : Word) : VerdictKept n s (s.wr (Reg.SEC_STAGE_STAT n.val) v) := by
  refine wr n s v (Or.inl ?_) ?_ <;> simp only [verdictWord, Reg.SEC_STAGE_STAT] <;> omega

theorem syncStage (n : Fin 32) (s : State) : VerdictKept n s (syncStage s n.val) :=
  (wr_stageStat n s _).trans (wr_stageStat n _ _)

theorem setQueue (n : Fin 32) (s : State) (q : List Entry) : VerdictKept n s (setQueue s n.val q) :=
  (setLine n s { s.line n.val with queue := q } rfl).trans (syncStage n _)

theorem setFail (n : Fin 32) (s : State) (kind : Nat) : VerdictKept n s (setFail s n.val kind) := by
  unfold Machine.setFail
  split
  · exact wr_stageStat n s _
  · split
    · exact wr_stageStat n s _
    · exact refl n s

theorem denialResponse (n : Fin 32) (s : State) (kind : Nat) : VerdictKept n s (denialResponse s n.val kind) := by
  refine VerdictKept.trans (t := s.setBit (Reg.SEC_STAGE_STAT n.val) 3 false) (wr_stageStat n s _)
    (VerdictKept.trans ?_ (syncStage n _))
  split
  · exact setFail n _ kind
  · exact refl n _

theorem setIface (n : Fin 32) (s : State) (side new cause : Nat) : VerdictKept n s (setIface s n.val side new cause) := by
  unfold Machine.setIface
  dsimp only
  split
  · exact refl n s
  · refine (wr n s _ (Or.inl ?_) ?_).trans (secLog n _ _ _) <;>
      simp only [verdictWord, Reg.SEC_PORT_STAT] <;> omega

end VerdictKept

/-! ### The record of a verdict -/

/-- The word that SEC_n_LAST_VERDICT takes (R112). -/
def verdictRecord (v route : Nat) (conv : Bool) (why steps : Nat) : Word :=
  BitVec.ofNat 32 (v + route * 2 ^ 3 + b2n conv * 2 ^ 4 + (if v = 1 then why else 0) * 2 ^ 8 + (steps % 512) * 2 ^ 16)

theorem lastVerdict_ne_counter (n : Fin 32) (v : Nat) : Reg.SEC_LAST_VERDICT n.val ≠ verdictCounter n.val v := by
  unfold verdictCounter Reg.SEC_LAST_VERDICT Reg.SEC_CNT_PASS Reg.SEC_CNT_DENY Reg.SEC_CNT_STAGE Reg.SEC_CNT_SERVE
    Reg.SEC_CNT_CHECK
  split <;> omega

theorem recordVerdict_rd_of_not {n : Fin 32} {a : Nat} (s : State) (v route : Nat) (conv : Bool) (why steps : Nat)
    (h : ¬ verdictWord n a) : (recordVerdict s n.val v route conv why steps).rd a = s.rd a := by
  refine (State.rd_inc_of_ne _ ?_).trans (State.rd_wr_of_ne s _ ?_)
  · exact fun e => h (e ▸ verdictWord_counter n v)
  · exact fun e => h (e ▸ verdictWord_last n)

/-- The section after its route has ended, its registers not yet written. -/
def routeEnded (s : State) (n : Fin 32) : State := s.setLine n.val { s.line n.val with route := none }

/-- What a verdict shows that was recorded on `u` once the route had ended: no route, the recorded word, one count. -/
theorem verdict_recorded {n : Fin 32} {s u t : State} {v route : Nat} {conv : Bool} {why steps : Nat}
    (hu : VerdictKept n (routeEnded s n) u) (ht : VerdictKept n (recordVerdict u n.val v route conv why steps) t) :
    (t.line n.val).route = none ∧ t.rd (Reg.SEC_LAST_VERDICT n.val) = verdictRecord v route conv why steps ∧
      t.rd (verdictCounter n.val v) = satInc (s.rd (verdictCounter n.val v)) ∧ SectionOnly n s t := by
  obtain ⟨hu1, -, hu3, hu4⟩ := hu
  obtain ⟨ht1, ht2, ht3, ht4⟩ := ht
  have hr : SectionOnly n u (recordVerdict u n.val v route conv why steps) := by
    refine ⟨((AllBut.wr u _ _).trans (AllBut.inc _ _)).mono (by simp), fun _ _ => rfl, fun a _ h1 _ _ => ?_⟩
    refine recordVerdict_rd_of_not u v route conv why steps fun h => h1 ?_
    unfold verdictWord at h
    omega
  refine ⟨?_, ?_, ?_, ((SectionOnly.setLine n s _).trans hu1).trans (hr.trans ht1)⟩
  · rw [ht4]
    exact hu4.trans (congrArg Line.route (State.line_setLine_self s n.val _))
  · rw [ht2]
    exact (State.rd_inc_of_ne _ (lastVerdict_ne_counter n v)).trans (State.rd_wr_self u _ _)
  · rw [ht3]
    refine (State.rd_wr_self _ _ _).trans (congrArg satInc ?_)
    exact (State.rd_wr_of_ne u _ (lastVerdict_ne_counter n v).symm).trans (hu3 v)

end Sys2Proof.Machine
end

section
/-! O28: the verdicts of the command route and of the judge route. -/

namespace Sys2Proof.Machine

/-! ### What a record of a verdict leaves readable -/

theorem fld_of_rd {s t : State} {a : Nat} (h : t.rd a = s.rd a) (hi lo : Nat) : t.fld a hi lo = s.fld a hi lo := by
  rw [State.fld, State.fld, h]

theorem bit_of_rd {s t : State} {a : Nat} (h : t.rd a = s.rd a) (i : Nat) : t.bit a i = s.bit a i := by
  rw [State.bit, State.bit, h]

section
variable {n : Fin 32} {s t : State} (hrd : ∀ a, ¬ verdictWord n a → t.rd a = s.rd a)
include hrd

theorem sealed_kept : sealed t = sealed s :=
  bit_of_rd (hrd _ (by simp only [verdictWord, Reg.TMP_STAT]; omega)) 1

theorem flashUnavailable_kept (hq : (t.line n.val).queue = (s.line n.val).queue) :
    flashUnavailable t n.val = flashUnavailable s n.val := by
  have h1 : t.rd (Reg.SEC_STAGE_STAT n.val) = s.rd _ := hrd _ (by simp only [verdictWord, Reg.SEC_STAGE_STAT]; omega)
  have h2 : t.rd (Reg.SEC_PORT_STAT n.val) = s.rd _ := hrd _ (by simp only [verdictWord, Reg.SEC_PORT_STAT]; omega)
  have h3 : t.rd (Reg.SEC_CFG n.val) = s.rd _ := hrd _ (by simp only [verdictWord, Reg.SEC_CFG]; omega)
  have h4 : t.rd Reg.PWR_STAT = s.rd _ := hrd _ (by simp only [verdictWord, Reg.PWR_STAT]; omega)
  simp only [flashUnavailable, senseBlocks, powerFailing, lineBusy, State.bit, h1, h2, h3, h4, hq]

theorem extCtl_kept (x : Nat) : t.rd (Reg.DEP_EXT_CTL x) = s.rd (Reg.DEP_EXT_CTL x) :=
  hrd _ (by simp only [verdictWord, Reg.DEP_EXT_CTL]; omega)

theorem extComp_kept (x : Nat) : extComp t x = extComp s x := fld_of_rd (extCtl_kept hrd x) _ _

theorem liveExtent_kept (b cls a : Nat) : liveExtent t n.val b cls a = liveExtent s n.val b cls a := by
  have h1 (x : Nat) : t.rd (Reg.DEP_EXT_START x) = s.rd (Reg.DEP_EXT_START x) :=
    hrd _ (by simp only [verdictWord, Reg.DEP_EXT_START]; omega)
  have h2 (x : Nat) : t.rd (Reg.DEP_EXT_LEN x) = s.rd (Reg.DEP_EXT_LEN x) :=
    hrd _ (by simp only [verdictWord, Reg.DEP_EXT_LEN]; omega)
  simp only [liveExtent, extSection, extBank, extClass, extState, extHas, extEnd, extStart, extLen, State.fld,
    extCtl_kept hrd, h1, h2]
  rfl

theorem holdPend_kept (c : Nat) : holdPend t c = holdPend s c := by
  have h1 : t.rd Reg.DEP_HOLD_PEND_LO = s.rd _ := hrd _ (by simp only [verdictWord, Reg.DEP_HOLD_PEND_LO]; omega)
  have h2 : t.rd Reg.DEP_HOLD_PEND_HI = s.rd _ := hrd _ (by simp only [verdictWord, Reg.DEP_HOLD_PEND_HI]; omega)
  simp only [holdPend, State.bit, h1, h2]

end

/-! ### The command route -/

/-- `t` answers the frame of section `n` with verdict `v`, reason `why` and data source `d`. -/
def Answers (n : Fin 32) (f : Frame) (v why : Nat) (d : Reply) (t : State) : Prop :=
  (t.line n.val).frame = some { f with verdict := some (v, why), reply := d }

/-- What every verdict leaves: no route, the recorded word, one count, every other section as it was. -/
def Verdicted (n : Fin 32) (s t : State) (v route : Nat) (conv : Bool) (why steps : Nat) : Prop :=
  (t.line n.val).route = none ∧ t.rd (Reg.SEC_LAST_VERDICT n.val) = verdictRecord v route conv why steps ∧
    t.rd (verdictCounter n.val v) = satInc (s.rd (verdictCounter n.val v)) ∧ SectionOnly n s t

section
variable {s : State} {n : Fin 32} {r : Route} {f : Frame}

theorem routeEnded_line (s : State) (n : Fin 32) : (routeEnded s n).line n.val = { s.line n.val with route := none } :=
  State.line_setLine_self s n.val _

theorem line_recordVerdict (s : State) (n m v route : Nat) (conv : Bool) (why steps : Nat) :
    (recordVerdict s n v route conv why steps).line m = s.line m := rfl

/-- A verdict instruction that ends its route with no step left to count (R57, R112). -/
theorem verdict_exec {i : Instr} {w : Wop} {t : State} {v : Nat} {ra : RegNo} {reason : BitVec 8}
    (he : exec i s = act s (runWop (.line n) w (opVerdict v (.line n) ra reason))) (h : Ready s (.line n) w)
    (ht : routeVerdict s n.val v reason.toNat (greg s (.line n) ra).toNat = t) (hroute : (t.line n.val).route = none) :
    exec i s = .next t := by
  rw [he, act_ready h]
  refine congrArg Host.Outcome.next ?_
  show countStep (routeVerdict s n.val v reason.toNat (greg s (.line n) ra).toNat) (.line n) = t
  rw [ht, countStep, hroute]

theorem routeVerdict_command (hr : (s.line n.val).route = some r) (hj : r.judge = false) (v reason a : Nat) :
    routeVerdict s n.val v reason a = commandVerdict (routeEnded s n) n.val v reason a (r.steps + 1) := by
  simp [routeVerdict, hr, hj, routeEnded]

theorem routeVerdict_judge (hr : (s.line n.val).route = some r) (hj : r.judge = true) (v reason a : Nat) :
    routeVerdict s n.val v reason a = judgeVerdict (routeEnded s n) n.val v reason (r.steps + 1) := by
  simp [routeVerdict, hr, hj, routeEnded]

/-- A verdict that the hardware converts answers an ARRAY_READ that is not late with fill bytes (R113, R114). -/
theorem command_converted (hf : (s.line n.val).frame = some f) (hk : f.kind = 0) (hl : f.late = false) {v a why : Nat}
    (hc : conversion (routeEnded s n) n.val f v a = some why) (reason steps : Nat) :
    ∃ t, commandVerdict (routeEnded s n) n.val v reason a steps = t ∧ Verdicted n s t 1 0 true why steps ∧
      Answers n f 1 why .fill t := by
  have hfr : ((routeEnded s n).line n.val).frame = some f := by rw [routeEnded_line]; exact hf
  refine ⟨_, rfl, ?_⟩
  simp only [commandVerdict, hfr, hc]
  rw [if_pos ⟨hk, hl⟩]
  refine ⟨verdict_recorded (VerdictKept.recordConverted n _ _ _ _) ((VerdictKept.recordDeny n _ ..).trans
    (VerdictKept.setFrame n _ _)), ?_⟩
  rw [Answers, setFrame, State.line_setLine_self]

/-- DENY answers an ARRAY_READ that is not late with fill bytes (R112, R131). -/
theorem command_denied (hf : (s.line n.val).frame = some f) (hk : f.kind = 0) (hl : f.late = false) (reason a steps : Nat) :
    ∃ t, commandVerdict (routeEnded s n) n.val 1 reason a steps = t ∧ Verdicted n s t 1 0 false reason steps ∧
      Answers n f 1 reason .fill t := by
  have hfr : ((routeEnded s n).line n.val).frame = some f := by rw [routeEnded_line]; exact hf
  have hc : conversion (routeEnded s n) n.val f 1 a = none := by simp [conversion, hk]
  refine ⟨_, rfl, ?_⟩
  simp only [commandVerdict, hfr, hc]
  rw [if_pos hk, if_pos trivial, if_neg (by simp [hl])]
  refine ⟨verdict_recorded (VerdictKept.refl n _) ((VerdictKept.recordDeny n _ ..).trans (VerdictKept.setFrame n _ _)), ?_⟩
  rw [Answers, setFrame, State.line_setLine_self]

/-- The state in which a command route's verdict has been recorded. -/
def commandRecorded (s : State) (n : Fin 32) (v reason steps : Nat) : State :=
  recordVerdict (routeEnded s n) n.val v 0 false reason steps

theorem commandRecorded_rd {a : Nat} (h : ¬ verdictWord n a) (v reason steps : Nat) :
    (commandRecorded s n v reason steps).rd a = s.rd a := recordVerdict_rd_of_not _ v 0 false reason steps h

theorem commandRecorded_line (s : State) (n : Fin 32) (v reason steps : Nat) :
    (commandRecorded s n v reason steps).line n.val = { s.line n.val with route := none } := routeEnded_line s n

/-- PASS, SERVE or CHECK of an ARRAY_READ that is not late goes to its data source. -/
theorem command_read (hf : (s.line n.val).frame = some f) (hk : f.kind = 0) (hl : f.late = false) {v a : Nat} (hv : v ≠ 1)
    (hc : conversion (routeEnded s n) n.val f v a = none) (reason steps : Nat) :
    commandVerdict (routeEnded s n) n.val v reason a steps =
      readSource (commandRecorded s n v reason steps) n.val v { f with verdict := some (v, 0) } := by
  have hfr : ((routeEnded s n).line n.val).frame = some f := by rw [routeEnded_line]; exact hf
  simp only [commandVerdict, hfr, hc, hk, hl, hv, if_true, Bool.false_eq_true, if_false]
  rfl

/-- A frame answered from the flash, plainly or under its tags, after its verdict was recorded. -/
theorem driven_verdict (v reason steps : Nat) (g : Frame) (out : FlashFrame) :
    Verdicted n s (drive (setFrame (preemptGanger (commandRecorded s n v reason steps) n.val) n.val (some g)) n.val out)
      v 0 false reason steps ∧
    ((drive (setFrame (preemptGanger (commandRecorded s n v reason steps) n.val) n.val (some g)) n.val out).line n.val).frame =
      some g := by
  refine ⟨verdict_recorded (VerdictKept.refl n _) (((VerdictKept.preemptGanger n _).trans
    (VerdictKept.setFrame n _ _)).trans (VerdictKept.drive n _ _)), ?_⟩
  rw [drive, State.line_setLine_self, setFrame, State.line_setLine_self]

/-- PASS of an ARRAY_READ goes to the flash where it is available (R112, R131). -/
theorem command_passed (hf : (s.line n.val).frame = some f) (hk : f.kind = 0) (hl : f.late = false)
    (hu : flashUnavailable s n.val = false) (reason a steps : Nat) :
    ∃ t, commandVerdict (routeEnded s n) n.val 0 reason a steps = t ∧ Verdicted n s t 0 0 false reason steps ∧
      Answers n f 0 0 .flash t := by
  have hc : conversion (routeEnded s n) n.val f 0 a = none := by simp [conversion, hk]
  have hu' : flashUnavailable (commandRecorded s n 0 reason steps) n.val = false :=
    (flashUnavailable_kept (fun a h => commandRecorded_rd h _ _ _) (by rw [commandRecorded_line])).trans hu
  refine ⟨_, command_read hf hk hl (by decide) hc reason steps, ?_⟩
  simp only [readSource, hu']
  rw [if_neg (by decide), if_neg (by decide), if_neg Bool.false_ne_true]
  exact driven_verdict 0 reason steps _ _

/-- SERVE with a Served hit is answered from the Depot (R148). -/
theorem command_served (hf : (s.line n.val).frame = some f) (hk : f.kind = 0) (hl : f.late = false) {a x : Nat}
    (ha : hitOf a 2 = true) (hx : liveExtent s n.val f.bank 2 f.addr = some x) (hh : holdPend s (extComp s x) = false)
    (reason steps : Nat) :
    ∃ t, commandVerdict (routeEnded s n) n.val 3 reason a steps = t ∧ Verdicted n s t 3 0 false reason steps ∧
      Answers n f 3 0 (.depot x) t := by
  have hrd : ∀ a, ¬ verdictWord n a → (commandRecorded s n 3 reason steps).rd a = s.rd a :=
    fun a h => commandRecorded_rd h _ _ _
  have hc : conversion (routeEnded s n) n.val f 3 a = none := by simp [conversion, hk, ha]
  refine ⟨_, command_read hf hk hl (by decide) hc reason steps, ?_⟩
  simp only [readSource, if_true, liveExtent_kept hrd, hx, extComp_kept hrd, holdPend_kept hrd, hh, Bool.false_eq_true,
    if_false]
  refine ⟨verdict_recorded (VerdictKept.refl n _) (VerdictKept.setFrame n _ _), ?_⟩
  rw [Answers, setFrame, State.line_setLine_self]

/-- CHECK with a Watched hit is answered from the flash under the tags of its extent (R149). -/
theorem command_checked (hf : (s.line n.val).frame = some f) (hk : f.kind = 0) (hl : f.late = false) {a x : Nat}
    (ha : hitOf a 1 = true) (hu : flashUnavailable s n.val = false) (ht : s.tagKey.isSome = true)
    (hx : liveExtent s n.val f.bank 1 f.addr = some x) (hh : holdPend s (extComp s x) = false) (reason steps : Nat) :
    ∃ t, commandVerdict (routeEnded s n) n.val 4 reason a steps = t ∧ Verdicted n s t 4 0 false reason steps ∧
      Answers n f 4 0 (.checked x) t := by
  have hrd : ∀ a, ¬ verdictWord n a → (commandRecorded s n 4 reason steps).rd a = s.rd a :=
    fun a h => commandRecorded_rd h _ _ _
  have hu' : flashUnavailable (commandRecorded s n 4 reason steps) n.val = false :=
    (flashUnavailable_kept hrd (by rw [commandRecorded_line])).trans hu
  have ht' : (commandRecorded s n 4 reason steps).tagKey.isSome = true := ht
  have hc : conversion (routeEnded s n) n.val f 4 a = none := by simp [conversion, hk, ha]
  refine ⟨_, command_read hf hk hl (by decide) hc reason steps, ?_⟩
  simp only [readSource, ht', liveExtent_kept hrd, hx, extComp_kept hrd, holdPend_kept hrd, hh, hu', if_true]
  rw [if_neg (by decide), if_neg (by decide)]
  exact driven_verdict 4 reason steps _ _

/-- PASS and STAGE of a write-kind frame wait for the select rise where no SEAL is in force (R112, R120, R130). -/
theorem command_written (hf : (s.line n.val).frame = some f) (hk : writeKind f.kind = true) (hs : sealed s = false)
    {v a : Nat} (hv : v ≠ 1) (hc : conversion (routeEnded s n) n.val f v a = none) (reason steps : Nat) :
    ∃ t, commandVerdict (routeEnded s n) n.val v reason a steps = t ∧ Verdicted n s t v 0 false reason steps ∧
      Answers n f v 0 f.reply t := by
  have hfr : ((routeEnded s n).line n.val).frame = some f := by rw [routeEnded_line]; exact hf
  have h0 : f.kind ≠ 0 := by
    intro e
    rw [e] at hk
    cases hk
  have hs' : sealed (recordVerdict (routeEnded s n) n.val v 0 false reason steps) = false :=
    (sealed_kept (fun a h => commandRecorded_rd h v reason steps)).trans hs
  refine ⟨_, rfl, ?_⟩
  simp only [commandVerdict, hfr, hc, h0, hk, hs', hv, if_true, Bool.false_eq_true, if_false]
  refine ⟨verdict_recorded (VerdictKept.refl n _) (VerdictKept.setFrame n _ _), ?_⟩
  rw [Answers, setFrame, State.line_setLine_self]

/-! ### The judge route -/

variable {e : Entry}

theorem line_syncStage (s : State) (n m : Nat) : (syncStage s n).line m = s.line m := rfl

theorem line_setQueue (s : State) (n : Nat) (q : List Entry) : (setQueue s n q).line n = { s.line n with queue := q } :=
  (line_syncStage _ n n).trans (State.line_setLine_self s n _)

theorem line_secLog (s : State) (code n m : Nat) (bs : List Byte) : (secLog s code n bs).line m = s.line m :=
  State.line_of_lines ((Eventful.log s code _ _ _).1 .lines (by decide)) m

theorem line_wr (s : State) (a m : Nat) (v : Word) : (s.wr a v).line m = s.line m :=
  State.line_of_lines (AllBut.wr s a v .lines (by decide)) m

theorem line_setBit (s : State) (a i m : Nat) (b : Bool) : (s.setBit a i b).line m = s.line m := line_wr s a m _

theorem line_setF (s : State) (a hi lo v m : Nat) : (s.setF a hi lo v).line m = s.line m := line_wr s a m _

theorem line_setFail (s : State) (n kind m : Nat) : (setFail s n kind).line m = s.line m := by
  unfold setFail
  split
  · exact line_setBit s _ _ m _
  · split
    · exact line_setBit s _ _ m _
    · rfl

theorem line_denialResponse (s : State) (n kind m : Nat) : (denialResponse s n kind).line m = s.line m := by
  refine (line_syncStage _ n m).trans ?_
  split
  · exact line_setFail _ n kind m
  · rfl

theorem line_setIface (s : State) (n side new cause m : Nat) : (setIface s n side new cause).line m = s.line m := by
  unfold setIface
  dsimp only
  split
  · rfl
  · rw [line_secLog, line_setF]

theorem line_recordDeny (s : State) (n opcode ext kind route cs reason addr m : Nat) :
    (recordDeny s n opcode ext kind route cs reason addr).line m = s.line m := by
  unfold recordDeny
  rw [line_secLog, line_wr, line_wr]

/-- PASS on the judge route lets the staged entry pass (R121). -/
theorem judge_passed (he : (s.line n.val).queue.find? (fun e => e.progress == .judging) = some e) (hlen : e.flen ≤ 4096)
    (reason steps : Nat) :
    ∃ t, judgeVerdict (routeEnded s n) n.val 0 reason steps = t ∧ Verdicted n s t 0 1 false 0 steps ∧
      (t.line n.val).queue = (s.line n.val).queue.replace e { e with progress := .passed } := by
  have hq : ((routeEnded s n).line n.val).queue = (s.line n.val).queue := by rw [routeEnded_line]
  obtain ⟨u, hu⟩ : ∃ u, u = setQueue (recordVerdict (routeEnded s n) n.val 0 1 false 0 steps) n.val
    ((s.line n.val).queue.replace e { e with progress := .passed }) := ⟨_, rfl⟩
  have hkept : VerdictKept n (recordVerdict (routeEnded s n) n.val 0 1 false 0 steps) u :=
    hu ▸ VerdictKept.setQueue n _ _
  have huq : (u.line n.val).queue = (s.line n.val).queue.replace e { e with progress := .passed } := by
    rw [hu, line_setQueue]
  refine ⟨_, rfl, ?_⟩
  simp only [judgeVerdict, line_recordVerdict, hq, he, zero_ne_one, ne_eq, not_true_eq_false, if_false, Nat.not_lt.2 hlen, ← hu]
  split
  · next i _ =>
    refine ⟨verdict_recorded (VerdictKept.refl n _) (hkept.trans (VerdictKept.setIface n u 0 i 0)), ?_⟩
    rw [line_setIface, huq]
  · exact ⟨verdict_recorded (VerdictKept.refl n _) hkept, huq⟩

/-- DENY on the judge route removes the staged entry (R121, R127). -/
theorem judge_denied (he : (s.line n.val).queue.find? (fun e => e.progress == .judging) = some e) (reason steps : Nat) :
    ∃ t, judgeVerdict (routeEnded s n) n.val 1 reason steps = t ∧ Verdicted n s t 1 1 false reason steps ∧
      (t.line n.val).queue = (s.line n.val).queue.erase e := by
  have hq : ((routeEnded s n).line n.val).queue = (s.line n.val).queue := by rw [routeEnded_line]
  obtain ⟨w, hw⟩ : ∃ w, w = recordDeny (recordVerdict (routeEnded s n) n.val 1 1 false reason steps) n.val e.opcode e.ext e.kind
    1 e.cs reason e.addr := ⟨_, rfl⟩
  have hwq : (w.line n.val).queue = (s.line n.val).queue := by
    rw [hw, line_recordDeny, line_recordVerdict, hq]
  obtain ⟨u, hu⟩ : ∃ u, u = w.setLine n.val { w.line n.val with queue := (w.line n.val).queue.erase e } := ⟨_, rfl⟩
  have huq : (u.line n.val).queue = (s.line n.val).queue.erase e := by
    rw [hu, State.line_setLine_self, hwq]
  have hkept : VerdictKept n (recordVerdict (routeEnded s n) n.val 1 1 false reason steps) u :=
    hu ▸ hw ▸ (VerdictKept.recordDeny n _ ..).trans (VerdictKept.setLine n _ _ rfl)
  refine ⟨_, rfl, ?_⟩
  simp only [judgeVerdict, hq, he, Bool.false_eq_true, if_false, if_true, ← hw, ← hu]
  split
  · exact ⟨verdict_recorded (VerdictKept.refl n _) (hkept.trans (VerdictKept.syncStage n u)), huq⟩
  · refine ⟨verdict_recorded (VerdictKept.refl n _) (hkept.trans (VerdictKept.denialResponse n u e.kind)), ?_⟩
    rw [line_denialResponse, huq]

end

end Sys2Proof.Machine
end

section
/-! O28, assembled. -/

namespace Sys2Proof.Machine

/-- What a verdict of the route of `s` leaves in `t`, with what it answers (R57, R112). -/
def VerdictEnds (c : Instr) (n : Fin 32) (s : State) (v judge : Nat) (conv : Bool) (why steps : Nat)
    (post : State → Prop) : Prop :=
  ∃ t, exec c s = .next t ∧ (t.line n.val).route = none ∧
    t.rd (Reg.SEC_LAST_VERDICT n.val) = verdictRecord v judge conv why steps ∧
    t.rd (verdictCounter n.val v) = satInc (s.rd (verdictCounter n.val v)) ∧ post t ∧ SectionOnly n s t

/-- A verdict instruction whose route's verdict leaves `t`. -/
theorem verdictEnds_of {i : Instr} {w : Wop} {n : Fin 32} {s : State} {v v' judge : Nat} {conv : Bool} {why steps : Nat}
    {post : State → Prop} {ra : RegNo} {reason : BitVec 8}
    (he : exec i s = act s (runWop (.line n) w (opVerdict v (.line n) ra reason))) (h : Ready s (.line n) w)
    (ht : ∃ t, routeVerdict s n.val v reason.toNat (greg s (.line n) ra).toNat = t ∧
      Verdicted n s t v' judge conv why steps ∧ post t) :
    VerdictEnds i n s v' judge conv why steps post := by
  obtain ⟨t, ht, ⟨h1, h2, h3, h4⟩, hp⟩ := ht
  exact ⟨t, verdict_exec he h ht h1, h1, h2, h3, hp, h4⟩

section
variable {s : State} {n : Fin 32} {r : Route} {f : Frame} {ra : RegNo} {reason : BitVec 8}
  (hr : (s.line n.val).route = some r)
include hr

section
variable (hj : r.judge = false) (hf : (s.line n.val).frame = some f)
include hj hf

theorem converts_ends {i : Instr} {w : Wop} {v why : Nat} (hk : f.kind = 0) (hl : f.late = false)
    (he : exec i s = act s (runWop (.line n) w (opVerdict v (.line n) ra reason))) (h : Ready s (.line n) w)
    (hc : conversion s n.val f v (greg s (.line n) ra).toNat = some why) :
    VerdictEnds i n s 1 0 true why (r.steps + 1) (Answers n f 1 why .fill) :=
  verdictEnds_of he h (by
    rw [routeVerdict_command hr hj]
    exact command_converted hf hk hl hc _ _)

theorem deny_ends (hk : f.kind = 0) (hl : f.late = false) (h : Ready s (.line n) (.deny ra reason)) :
    VerdictEnds (.deny (.line n) ra reason) n s 1 0 false reason.toNat (r.steps + 1) (Answers n f 1 reason.toNat .fill) :=
  verdictEnds_of (v := 1) rfl h (by
    rw [routeVerdict_command hr hj]
    exact command_denied hf hk hl _ _ _)

theorem pass_ends (hk : f.kind = 0) (hl : f.late = false) (hu : flashUnavailable s n.val = false)
    (h : Ready s (.line n) (.pass ra reason)) :
    VerdictEnds (.pass (.line n) ra reason) n s 0 0 false reason.toNat (r.steps + 1) (Answers n f 0 0 .flash) :=
  verdictEnds_of (v := 0) rfl h (by
    rw [routeVerdict_command hr hj]
    exact command_passed hf hk hl hu _ _ _)

theorem serve_ends (hk : f.kind = 0) (hl : f.late = false) {x : Nat} (h : Ready s (.line n) (.serve ra reason))
    (ha : hitOf (greg s (.line n) ra).toNat 2 = true) (hx : liveExtent s n.val f.bank 2 f.addr = some x)
    (hh : holdPend s (extComp s x) = false) :
    VerdictEnds (.serve (.line n) ra reason) n s 3 0 false reason.toNat (r.steps + 1) (Answers n f 3 0 (.depot x)) :=
  verdictEnds_of (v := 3) rfl h (by
    rw [routeVerdict_command hr hj]
    exact command_served hf hk hl ha hx hh _ _)

theorem check_ends (hk : f.kind = 0) (hl : f.late = false) {x : Nat} (h : Ready s (.line n) (.check ra reason))
    (ha : hitOf (greg s (.line n) ra).toNat 1 = true) (hu : flashUnavailable s n.val = false) (ht : s.tagKey.isSome = true)
    (hx : liveExtent s n.val f.bank 1 f.addr = some x) (hh : holdPend s (extComp s x) = false) :
    VerdictEnds (.check (.line n) ra reason) n s 4 0 false reason.toNat (r.steps + 1) (Answers n f 4 0 (.checked x)) :=
  verdictEnds_of (v := 4) rfl h (by
    rw [routeVerdict_command hr hj]
    exact command_checked hf hk hl ha hu ht hx hh _ _)

theorem write_ends {i : Instr} {w : Wop} {v : Nat} (hv : v ≠ 1) (hk : writeKind f.kind = true) (hs : sealed s = false)
    (he : exec i s = act s (runWop (.line n) w (opVerdict v (.line n) ra reason))) (h : Ready s (.line n) w)
    (hc : conversion s n.val f v (greg s (.line n) ra).toNat = none) :
    VerdictEnds i n s v 0 false reason.toNat (r.steps + 1) (Answers n f v 0 f.reply) :=
  verdictEnds_of he h (by
    rw [routeVerdict_command hr hj]
    exact command_written hf hk hs hv hc _ _)

end

section
variable {e : Entry} (hj : r.judge = true)
  (he : (s.line n.val).queue.find? (fun e => e.progress == .judging) = some e)
include hj he

theorem judgePass_ends (hlen : e.flen ≤ 4096) (h : Ready s (.line n) (.pass ra reason)) :
    VerdictEnds (.pass (.line n) ra reason) n s 0 1 false 0 (r.steps + 1)
      (fun t => (t.line n.val).queue = (s.line n.val).queue.replace e { e with progress := .passed }) :=
  verdictEnds_of (v := 0) rfl h (by
    rw [routeVerdict_judge hr hj]
    exact judge_passed he hlen _ _)

theorem judgeDeny_ends (h : Ready s (.line n) (.deny ra reason)) :
    VerdictEnds (.deny (.line n) ra reason) n s 1 1 false reason.toNat (r.steps + 1)
      (fun t => (t.line n.val).queue = (s.line n.val).queue.erase e) :=
  verdictEnds_of (v := 1) rfl h (by
    rw [routeVerdict_judge hr hj]
    exact judge_denied he _ _)

end

end

/-- A write-kind frame's PASS is never converted (R113, R117). -/
theorem conversion_pass (s : State) (n : Nat) {f : Frame} (hk : writeKind f.kind = true) (hs : sealed s = false) (a : Nat) :
    conversion s n f 0 a = none := by
  have h0 : f.kind ≠ 0 := by
    intro e
    rw [e] at hk
    cases hk
  simp [conversion, h0, hk, hs]

/-- Settles O28: each verdict is followed through its route's end, its record and its answer. -/
theorem sectionVerdicts : Obligations.SectionVerdicts := by
  intro s n r ra reason hr hpass hdeny p a word ends
  have hb (j : Bool) (h : r.judge = j) : b2n r.judge = b2n j := congrArg b2n h
  -- the obligation's record names the reason of a DENY only
  have record (v j why why' : Nat) (conv : Bool) (hj : b2n r.judge = j) (hw : v = 1 → why' = why) :
      verdictRecord v j conv why' (r.steps + 1) = word v conv why := by
    subst hj
    by_cases hv : v = 1
    · rw [hw hv]
      rfl
    · simp [verdictRecord, word, hv]
  have finish {c : Instr} {v j : Nat} {conv : Bool} {why why' : Nat} {post : State → Prop} (hj : b2n r.judge = j)
      (hw : v = 1 → why' = why) (h : VerdictEnds c n s v j conv why' (r.steps + 1) post) : ends c v conv why post := by
    obtain ⟨t, h1, h2, h3, h4⟩ := h
    exact ⟨t, h1, h2, h3.trans (record v j why why' conv hj hw), h4⟩
  refine ⟨fun f hj hf hl => ⟨fun hk => ⟨?_, ?_, ?_, ?_, ?_, ?_, ?_⟩, fun hk hs => ⟨?_, ?_⟩⟩, fun e hj he hlen => ⟨?_, ?_⟩⟩
  · exact finish (hb _ hj) (fun _ => rfl) (deny_ends hr hj hf hk hl hdeny)
  · exact fun hu => finish (hb _ hj) (fun h => absurd h (by decide)) (pass_ends hr hj hf hk hl hu hpass)
  · exact fun x h ha hx hh => finish (hb _ hj) (fun h => absurd h (by decide)) (serve_ends hr hj hf hk hl h ha hx hh)
  · exact fun x h ha hu ht hx hh => finish (hb _ hj) (fun h => absurd h (by decide)) (check_ends hr hj hf hk hl h ha hu ht hx hh)
  · exact fun h => finish (hb _ hj) (fun _ => rfl) (converts_ends hr hj hf hk hl (v := 2) rfl h (by simp [conversion, hk]))
  · exact fun h ha => finish (hb _ hj) (fun _ => rfl)
      (converts_ends hr hj hf hk hl (v := 3) rfl h ((if_pos hk).trans (if_pos (Or.inr (Or.inl ⟨rfl, ha⟩)))))
  · exact fun h ha => finish (hb _ hj) (fun _ => rfl)
      (converts_ends hr hj hf hk hl (v := 4) rfl h ((if_pos hk).trans (if_pos (Or.inr (Or.inr ⟨rfl, ha⟩)))))
  · exact finish (hb _ hj) (fun h => absurd h (by decide))
      (write_ends hr hj hf (by decide) hk hs rfl hpass (conversion_pass s n.val hk hs _))
  · exact fun h hc => finish (hb _ hj) (fun h => absurd h (by decide)) (write_ends hr hj hf (by decide) hk hs rfl h hc)
  · exact finish (hb _ hj) (fun h => absurd h (by decide)) (judgePass_ends hr hj he hlen hpass)
  · exact finish (hb _ hj) (fun _ => rfl) (judgeDeny_ends hr hj he hdeny)

end Sys2Proof.Machine
end

section
/-! O29: how a component frame begins. -/

namespace Sys2Proof.Machine

/-- Commands that take the section clock run while it does (R399). -/
theorem clocked_of {s : State} (hp : s.pwr.down = false) (hl : lineLocked s = true) (f : State → State) :
    clocked s f = .next (f s) := by
  simp [clocked, act, hp, hl]

/-- The frame that the command and address phases have shown, on the section whose earlier route has ended (R85, R120). -/
def routedFrame (q : State) (n : Fin 32) (opcode ext : Byte) (addr : Word) (edges : Nat) : Frame :=
  { decodeFrame q n.val opcode.toNat ext.toNat addr.toNat with edges := edges }

/-- `q` with the decoded frame `f` in progress, an unknown opcode counted and logged (R85). -/
def framed (q : State) (n : Fin 32) (f : Frame) : State :=
  let t := setFrame (q.setLine n.val { q.line n.val with tagged := [] }) n.val (some f)
  if f.kind = 6 then secLog (t.inc (Reg.SEC_CNT_UNKNOWN n.val)) Ev.UNKNOWN_OPCODE n.val
    (leBytes 1 f.opcode ++ leBytes 1 f.ext ++ leBytes 1 (t.fld (Reg.SEC_PORT_STAT n.val) 1 0)) else t

theorem framed_eq (q : State) (n : Fin 32) (f : Frame) : framed q n f =
    (let t := q.setLine n.val { q.line n.val with frame := some f, tagged := [] }
    if f.kind = 6 then secLog (t.inc (Reg.SEC_CNT_UNKNOWN n.val)) Ev.UNKNOWN_OPCODE n.val
      (leBytes 1 f.opcode ++ leBytes 1 f.ext ++ leBytes 1 (q.fld (Reg.SEC_PORT_STAT n.val) 1 0)) else t) := by
  rw [framed, setFrame, State.line_setLine_self, State.setLine_setLine]
  rfl

theorem line_framed (q : State) (n : Fin 32) (f : Frame) :
    (framed q n f).line n.val = { q.line n.val with frame := some f, tagged := [] } := by
  rw [framed_eq]
  dsimp only
  split
  · rw [line_secLog, State.inc, line_wr, State.line_setLine_self]
  · exact State.line_setLine_self q n.val _

/-- The route of the frame `f` that `t` shows begins, or the frame is refused (R114, R120, R135). -/
def routeFrom (t : State) (n : Fin 32) (f : Frame) (k : Nat) : State :=
  if writeKind f.kind && (lineBusy (t.line n.val) || decide (2 ≤ (t.line n.val).queue.length)) then refuseRoute t n.val f 0xFC
  else if (bankOf t n.val f.bank).ok = false then refuseRoute t n.val f 0xF7
  else runRoute k (t.setLine n.val { t.line n.val with
    route := some ⟨false, leAt (bankOf t n.val f.bank).image 12 2, 0, [], f.bank⟩ }) n

theorem routeFrom_framed (q : State) (n : Fin 32) (f : Frame) (k : Nat) : routeFrom (framed q n f) n f k =
    (if writeKind f.kind && (lineBusy (q.line n.val) || decide (2 ≤ (q.line n.val).queue.length)) then
       refuseRoute (framed q n f) n.val f 0xFC
     else if (bankOf q n.val f.bank).ok = false then refuseRoute (framed q n f) n.val f 0xF7
     else runRoute k ((framed q n f).setLine n.val { q.line n.val with
       frame := some f, tagged := []
       route := some ⟨false, leAt (bankOf q n.val f.bank).image 12 2, 0, [], f.bank⟩ }) n) := by
  have hbank : bankOf (framed q n f) n.val f.bank = bankOf q n.val f.bank := by
    unfold bankOf
    rw [line_framed]
  unfold routeFrom
  rw [hbank, line_framed]
  rfl

section
variable {s : State} {n : Fin 32} (hp : s.pwr.down = false)
include hp

section
variable (hl : lineLocked s = true)
include hl

theorem selectFall_again (h : (s.line n.val).selLow = true) : exec (.selectFall n) s = .next s :=
by
  show execSelectFall n s = _
  rw [execSelectFall, clocked_of hp hl, if_pos h]

/-- A select fall by the points that the section acts under (R91). -/
theorem selectFall_eq (h : (s.line n.val).selLow = false) : exec (.selectFall n) s = .next
    (match pointsOf s n.val with
      | 2 => setFrame ((s.setLine n.val { s.line n.val with selLow := true }).setBit (Reg.SEC_PORT_STAT n.val) 9 true) n.val
          (some {})
      | 1 => secLog (recordFrame ((s.setLine n.val { s.line n.val with selLow := true }).inc (Reg.SEC_CNT_INTRUSION n.val))
          n.val {} 8) Ev.SELECT_INTRUSION n.val []
      | _ => recordFrame ((s.setLine n.val { s.line n.val with selLow := true }).inc (Reg.SEC_CNT_ISOLATED n.val)) n.val {} 9) := by
  show execSelectFall n s = _
  rw [execSelectFall, clocked_of hp hl, if_neg (by simp [h])]
  rfl

/-- After the command and address phases the command route begins, or the frame is refused (R85, R114, R120). -/
theorem commandRoute_eq {f0 : Frame} (hf : (s.line n.val).frame = some f0) (hd : f0.decoded = false) (opcode ext : Byte)
    (addr : Word) (k edges : Nat) : exec (.commandRoute n opcode ext addr ⟨k, edges⟩) s = .next
      (routeFrom (framed (finishRoute s n) n (routedFrame (finishRoute s n) n opcode ext addr edges)) n
        (routedFrame (finishRoute s n) n opcode ext addr edges) k) := by
  show execCommandRoute n opcode ext addr ⟨k, edges⟩ s = _
  rw [execCommandRoute, clocked_of hp hl, hf]
  refine congrArg Host.Outcome.next ((if_neg (by simp [hd])).trans ?_)
  rfl

/-- A verdict that is late marks its ARRAY_READ late, counts it and logs it (R88). -/
theorem lateVerdict_eq {f : Frame} (hf : (s.line n.val).frame = some f) (h : f.decoded = true ∧ f.kind = 0 ∧ f.verdict = none ∧
    f.late = false) (period : Word) : exec (.lateVerdict n period) s = .next
      (secLog (setFrame (s.inc (Reg.SEC_CNT_LATE n.val)) n.val (some { f with late := true })) Ev.LATE_VERDICT n.val
        (leBytes 1 f.opcode ++ leBytes 4 period.toNat)) := by
  show execLateVerdict n period s = _
  rw [execLateVerdict, clocked_of hp hl]
  simp only [hf]
  rw [if_pos h]

end

/-- A command route that has run its bound of steps ends by exception 8, with DENY 0xFF (R43, R57). -/
theorem stepLimit_eq {r : Route} (hr : (s.line n.val).route = some r) (hj : r.judge = false) :
    exec (.stepLimit n) s = .next (commandVerdict
        (secLog (s.setLine n.val { s.line n.val with route := none }) Ev.ROUTE_EXCEPTION n.val
          (leBytes 1 8 ++ leBytes 2 r.pc ++ leBytes 1 0)) n.val 1 0xFF 0 (routeBound r)) := by
  refine congrArg Host.Outcome.next ((if_neg (by simp [hp])).trans ?_)
  simp only [hr, routeException, State.line_setLine_self, State.setLine_setLine, hj, Bool.false_eq_true, if_false]
  rfl

end

/-- Settles O29: a select fall by the points, the decoded frame's route, a late verdict, and the bound of a command route. -/
theorem framesBegin : Obligations.FramesBegin := by
  intro s n hp hl
  refine ⟨selectFall_again hp hl, fun h => ⟨fun h2 => ?_, fun h1 => ?_, fun h0 => ?_⟩, fun f0 opcode ext addr hf hd k edges => ?_,
    fun f period hf hd hk hv hlate => lateVerdict_eq hp hl hf ⟨hd, hk, hv, hlate⟩ period,
    fun r f hr hj _ => stepLimit_eq hp hr hj⟩
  · rw [selectFall_eq hp hl h, h2]
    rfl
  · rw [selectFall_eq hp hl h, h1]
    rfl
  · rw [selectFall_eq hp hl h, h0]
    rfl
  · refine (commandRoute_eq hp hl hf hd opcode ext addr k edges).trans ?_
    rw [routeFrom_framed, framed_eq]
    rfl

end Sys2Proof.Machine
end

section
/-! O30: how a component frame ends at its select rise. -/

namespace Sys2Proof.Machine

/-- `s` with the select of section `n` high again. -/
def risen (s : State) (n : Fin 32) : State := s.setLine n.val { s.line n.val with selLow := false }

/-- A frame whose phases are over ends by its kind (R96, R112). -/
def endsFrame (q : State) (n : Fin 32) (f : Frame) (edges : Nat) (data : List Byte) (k : Nat) : State :=
  if f.kind = 6 then endFrame q n f 5
  else if f.kind ≤ 2 then endReadFrame q n f edges
  else endWriteFrame q n f edges data k

/-- What a select rise leaves of the frame of `t` (R96). -/
def riseFrom (t : State) (n : Fin 32) (early : Bool) (edges : Nat) (data : List Byte) (k : Nat) : State :=
  match (t.line n.val).frame with
  | none => t
  | some f0 =>
    if early = true ∨ f0.decoded = false then endFrame ((dropRoute t n.val).inc (Reg.SEC_CNT_VOID n.val)) n.val f0 1
    else match ((finishRoute t n).line n.val).frame with
      | none => finishRoute t n
      | some f => endsFrame (finishRoute t n) n f edges data k

section
variable {s : State} {n : Fin 32} (hp : s.pwr.down = false) (hl : lineLocked s = true)
  (edges : Nat) (data : List Byte) (k : Nat)

theorem frame_risen (s : State) (n : Fin 32) : ((risen s n).line n.val).frame = (s.line n.val).frame := by
  rw [risen, State.line_setLine_self]

include hp hl

theorem selectRise_eq (early : Bool) :
    exec (.selectRise n early edges data k) s = .next (riseFrom (risen s n) n early edges data k) := by
  show execSelectRise n early edges data k s = _
  rw [execSelectRise, clocked_of hp hl]
  rfl

theorem selectRise_idle (h : (s.line n.val).frame = none) (early : Bool) :
    exec (.selectRise n early edges data k) s = .next (risen s n) := by
  rw [selectRise_eq hp hl, riseFrom, frame_risen, h]

/-- A frame whose select rises in its command or address phase is VOID (R96). -/
theorem selectRise_void {f0 : Frame} {early : Bool} (h : (s.line n.val).frame = some f0) (he : early = true ∨ f0.decoded = false) :
    exec (.selectRise n early edges data k) s = .next
      (endFrame ((dropRoute (risen s n) n.val).inc (Reg.SEC_CNT_VOID n.val)) n.val f0 1) := by
  rw [selectRise_eq hp hl, riseFrom, frame_risen, h]
  exact congrArg _ (if_pos he)

theorem selectRise_ends {f0 f : Frame} (h : (s.line n.val).frame = some f0) (hd : f0.decoded = true)
    (hf : ((finishRoute (risen s n) n).line n.val).frame = some f) :
    exec (.selectRise n false edges data k) s = .next (endsFrame (finishRoute (risen s n) n) n f edges data k) := by
  rw [selectRise_eq hp hl, riseFrom, frame_risen, h, hf]
  exact congrArg _ (if_neg (by simp [hd]))

end

section
variable {q w : State} {n : Fin 32} {f : Frame} {edges : Nat} {data bs : List Byte} {k : Nat}

/-! ### Reads -/

theorem endsFrame_unknown (h : f.kind = 6) : endsFrame q n f edges data k = endFrame q n.val f 5 := if_pos h

theorem endsFrame_read (h : f.kind ≤ 2) : endsFrame q n f edges data k = endReadFrame q n.val f edges :=
  (if_neg (by omega)).trans (if_pos h)

theorem endReadFrame_data (hl : f.late = false) (he : 0 < edges) : endReadFrame q n.val f edges =
    (if edges % unitEdges f.desc = 0 then
      endFrame ((sentRead q n.val f (edges / dataEdges f.desc)).inc (Reg.SEC_CNT_FRAMES n.val)) n.val f 0
    else endFrame ((sentRead q n.val f (edges / dataEdges f.desc)).inc (Reg.SEC_CNT_TORN_READ n.val)) n.val f 3) :=
  (if_neg (by simp [hl])).trans (if_neg (by omega))

/-! ### Writes -/

theorem endsFrame_write (h : f.kind = 3 ∨ f.kind = 4 ∨ f.kind = 5) :
    endsFrame q n f edges data k = endWriteFrame q n f edges data k := (if_neg (by omega)).trans (if_neg (by omega))

theorem endsFrame_torn (h : f.kind = 3) (he : edges % unitEdges f.desc ≠ 0) : endsFrame q n f edges data k =
    secLog (endFrame (q.inc (Reg.SEC_CNT_TORN_WRITE n.val)) n.val f 4) Ev.TORN_WRITE n.val
      (leBytes 1 f.opcode ++ leBytes 4 f.addr ++ leBytes 4 edges) :=
  (endsFrame_write (Or.inl h)).trans ((if_pos h).trans (if_neg he))

theorem endsFrame_edges (h : f.kind = 4 ∨ f.kind = 5) (he : 0 < edges) :
    endsFrame q n f edges data k = endFrame (q.inc (Reg.SEC_CNT_VOID n.val)) n.val f 1 :=
  (endsFrame_write (Or.inr h)).trans ((if_neg (by omega)).trans (if_neg (by omega)))

/-- A complete write-kind frame takes its verdict with the bytes that it carried (R96, R112). -/
theorem endsFrame_whole (h : f.kind = 3 ∧ edges % unitEdges f.desc = 0 ∧ bs = data.take (edges / dataEdges f.desc) ∨
    (f.kind = 4 ∨ f.kind = 5) ∧ edges = 0 ∧ bs = []) : endsFrame q n f edges data k =
      stageFrame (endFrame (q.inc (Reg.SEC_CNT_FRAMES n.val)) n.val f 0) n f bs k := by
  obtain ⟨hk, he, rfl⟩ | ⟨hk, he, rfl⟩ := h
  · exact (endsFrame_write (Or.inl hk)).trans ((if_pos hk).trans (if_pos he))
  · exact (endsFrame_write (Or.inr hk)).trans ((if_neg (by omega)).trans (if_pos he))

/-! ### The verdict of a complete write-kind frame -/

/-- The hardware denies the frame at its select rise for `why` (R114, R127). -/
def deniedRise (t : State) (n : Fin 32) (f : Frame) (why : Nat) : State :=
  denialResponse (recordDeny t n.val f.opcode f.ext f.kind 0 f.cs why f.addr) n.val f.kind

theorem stageFrame_denied {why : Nat} (h : f.verdict = some (1, why)) :
    stageFrame w n f bs k = if why = 0xFC then w else denialResponse w n.val f.kind := by
  simp only [stageFrame, h]

theorem stageFrame_sealed (h : f.verdict = some (0, 0) ∨ f.verdict = some (2, 0)) (hs : sealed w = true) :
    stageFrame w n f bs k = deniedRise w n f 0xFA := by
  obtain h | h := h <;>
  · simp only [stageFrame, h]
    rw [if_pos hs]
    rfl

/-- A PASS beyond 4,096 bytes is converted (R114, R121). -/
theorem stageFrame_long {t : State} (h : f.verdict = some (0, 0)) (hs : sealed w = false) (hlen : 4096 < bs.length)
    (ht : t = recordConverted w n.val 0 0xFD f.opcode) : stageFrame w n f bs k =
      deniedRise (recordVerdict t n.val 1 0 true 0xFD (t.fld (Reg.SEC_LAST_VERDICT n.val) 24 16)) n f 0xFD := by
  subst ht
  simp only [stageFrame, h]
  rw [if_neg (by simp [hs]), if_pos ⟨trivial, hlen⟩]
  rfl

/-- A PASS joins the queue as passed (R121, R126). -/
theorem stageFrame_passed {t : State} (h : f.verdict = some (0, 0)) (hs : sealed w = false) (hlen : bs.length ≤ 4096)
    (ht : t = queueEmulation (trackAddr w n.val f.opcode (bs.head?.map (fun b => b.toNat))) n.val f.opcode f.kind) :
    stageFrame w n f bs k = (match (entryOf w n.val f bs true).newIface with
      | some i => setIface (setQueue t n.val ((t.line n.val).queue ++ [entryOf w n.val f bs true])) n.val 0 i 0
      | none => setQueue t n.val ((t.line n.val).queue ++ [entryOf w n.val f bs true])) := by
  subst ht
  simp only [stageFrame, h]
  rw [if_neg (by simp [hs]), if_neg (by omega)]
  rfl

/-- A STAGE joins the queue to be judged, and its judge route begins (R121). -/
theorem stageFrame_staged {t u : State} (h : f.verdict = some (2, 0)) (hs : sealed w = false)
    (ht : t = queueEmulation w n.val f.opcode f.kind)
    (hu : u = setQueue t n.val ((t.line n.val).queue ++ [entryOf w n.val f bs false])) :
    stageFrame w n f bs k = runRoute k (u.setLine n.val { u.line n.val with
      route := some ⟨true, leAt (bankOf u n.val f.bank).image 14 2, 0, [], f.bank⟩ }) n := by
  subst hu ht
  simp only [stageFrame, h]
  rw [if_neg (by simp [hs]), if_neg (by omega)]
  rfl

end

/-- Settles O30: a frame void, a read by its edges, a write-kind frame torn, void or whole with its verdict. -/
theorem selectRises : Obligations.SelectRises := by
  intro s n f edges data k hp hl r c
  refine ⟨fun h early => selectRise_idle hp hl edges data k h early,
    fun f0 early h he => selectRise_void hp hl edges data k h he, ?_⟩
  rintro f0 q h hd rfl hf unit whole bytes denied
  have rises (j : Nat) := selectRise_ends hp hl edges data j h hd hf
  refine ⟨fun h6 => (rises k).trans (congrArg _ (endsFrame_unknown h6)),
    fun h2 hlate => (rises k).trans (congrArg _ ((endsFrame_read h2).trans (if_pos hlate))),
    fun h2 hlate he => (rises k).trans (congrArg _ ((endsFrame_read h2).trans ((if_neg (by simp [hlate])).trans (if_pos he)))),
    ?_, fun h3 he => (rises k).trans (congrArg _ (endsFrame_torn h3 he)),
    fun h4 he => (rises k).trans (congrArg _ (endsFrame_edges h4 he)), fun bs hbs => ?_⟩
  · rintro u rfl h2 hlate he
    exact (rises k).trans (congrArg _ ((endsFrame_read h2).trans (endReadFrame_data hlate he)))
  · have whole' (j : Nat) := (rises j).trans (congrArg Host.Outcome.next (endsFrame_whole hbs))
    exact ⟨fun why hv => (whole' k).trans (congrArg _ (stageFrame_denied hv)),
      fun hv hs => (whole' k).trans (congrArg _ (stageFrame_sealed hv hs)),
      fun hv hs hlen => (whole' k).trans (congrArg _ (stageFrame_long hv hs hlen rfl)),
      fun hv hs hlen => (whole' k).trans (congrArg _ (stageFrame_passed hv hs hlen rfl)),
      fun hv hs j => (whole' j).trans (congrArg _ (stageFrame_staged hv hs rfl rfl))⟩

end Sys2Proof.Machine
end

section
/-! O31: F_SENSE_N, a component's reset, another master's conflict, a sense timeout, and tag results. -/

namespace Sys2Proof.Machine

/-- Commands that take the section clock and bring the platform in step run while the clock does (R399). -/
theorem clockedSettle_of {s : State} (hp : s.pwr.down = false) (hl : lineLocked s = true) (f : State → State) :
    clockedSettle s f = settled (f s) := clocked_of hp hl _

/-- A command that the always-on domain serves (log entry 9). -/
theorem act_of {s : State} (hp : s.pwr.down = false) (f : State → State) : act s f = .next (f s) := by
  simp [act, hp]

theorem noteTag_frame (l : Line) (a : Nat) : (noteTag l a).frame = l.frame := by
  unfold noteTag
  split <;> rfl

section
variable {s : State} {n : Fin 32} (hp : s.pwr.down = false)
include hp

theorem fSense_low : exec (.fSenseNChange n true) s = .next (s.setBit (Reg.SEC_PORT_STAT n.val) 7 true) := by
  show execFSenseNChange n true s = _
  rw [execFSenseNChange, act_of hp, if_pos rfl]

theorem fSense_high : exec (.fSenseNChange n false) s =
    .next ((s.setBit (Reg.SEC_PORT_STAT n.val) 7 false).setLine n.val { s.line n.val with triState := false }) := by
  show execFSenseNChange n false s = _
  rw [execFSenseNChange, act_of hp]
  refine congrArg Host.Outcome.next ?_
  rw [if_neg Bool.false_ne_true, line_setBit]

theorem cRst_routed {t : State} (ht : t = s.setLine n.val { s.line n.val with resets := (s.line n.val).resets + 1 })
    (h : pointsOf s n.val = 2) : exec (.cRstLow n) s = .next (resetAddrState
      (setIface (setIface t n.val 0 (powerOnIface t n.val) 2) n.val 1 (powerOnIface t n.val) 2) n.val) := by
  subst ht
  show execCRstLow n s = _
  rw [execCRstLow, act_of hp, if_pos h]

theorem cRst_other (h : pointsOf s n.val ≠ 2) : exec (.cRstLow n) s = .next s := by
  show execCRstLow n s = _
  rw [execCRstLow, act_of hp, if_neg h]

section
variable (hl : lineLocked s = true)
include hl

theorem masterConflict_driven {k a : Nat} {t : State} (h : s.bit (Reg.SEC_CFG n.val) 0 = true)
    (hd : drivenFrame s n.val = some (k, a)) (ht : t = (conflictEnd s n.val k).inc (Reg.SEC_CNT_CONFLICT n.val)) :
    exec (.masterConflict n) s = .next (secLog ((t.setLine n.val { t.line n.val with triState := true }).setBit
      (Reg.SEC_PORT_STAT n.val) 7 true) Ev.MASTER_CONFLICT n.val (leBytes 1 k ++ leBytes 4 a)) := by
  subst ht
  show execMasterConflict n s = _
  rw [execMasterConflict, clocked_of hp hl, if_neg (by simp [h]), hd]

theorem masterConflict_none (h : s.bit (Reg.SEC_CFG n.val) 0 = false ∨ drivenFrame s n.val = none) :
    exec (.masterConflict n) s = .next s := by
  show execMasterConflict n s = _
  rw [execMasterConflict, clocked_of hp hl]
  by_cases hb : s.bit (Reg.SEC_CFG n.val) 0 = false
  · rw [if_pos hb]
  · rw [if_neg hb, h.resolve_left hb]

theorem senseTimeout_high (h : senseBlocks s n.val = false) : exec (.senseTimeout n) s = .next s := by
  show execSenseTimeout n s = _
  rw [execSenseTimeout, clocked_of hp hl, if_pos h]

section
variable {t : State} (ht : t = if (s.line n.val).dev.isSome then endDev s n.val 3 else s) (h : senseBlocks s n.val = true)
include ht h

/-- A sense timeout discards an entry whose replay has not begun (R98). -/
theorem senseTimeout_passed {e : Entry} {q : List Entry} (hq : (t.line n.val).queue = e :: q) (he : e.progress = .passed) :
    exec (.senseTimeout n) s = .next (secLog (failEntry t n.val e) Ev.STAGE_DISCARD n.val
      (leBytes 1 3 ++ leBytes 1 e.opcode ++ leBytes 4 e.addr)) := by
  show execSenseTimeout n s = _
  rw [execSenseTimeout, clocked_of hp hl, if_neg (by simp [h])]
  dsimp only
  rw [← ht, hq]
  exact congrArg _ (if_pos he)

theorem senseTimeout_begun (hq : ∀ e ∈ (t.line n.val).queue.head?, e.progress ≠ .passed) :
    exec (.senseTimeout n) s = .next t := by
  show execSenseTimeout n s = _
  rw [execSenseTimeout, clocked_of hp hl, if_neg (by simp [h])]
  dsimp only
  rw [← ht]
  cases hqs : (t.line n.val).queue with
  | nil => rfl
  | cons e q => exact congrArg _ (if_neg (hq e (by simp [hqs])))

end

/-! ### Tag results -/

section
variable {addr : Word} {page : List Byte} {x : Nat} {key : List Byte} {v : State}
  (hx : checkedExtent (s.line n.val) addr.toNat = some x) (hk : s.tagKey = some key) (ha : addr.toNat % 4096 = 0)
  (hh : extHas s x addr.toNat = true) (hv : v = s.setLine n.val (noteTag (s.line n.val) addr.toNat))
include hx hk ha hh hv

/-- A whole page whose tag agrees counts (R149). -/
theorem tagResult_agrees (h : pageTag key n.val addr.toNat (takePad 4096 page) = storedTag s x addr.toNat) :
    exec (.tagResult n addr page) s = settled (v.inc (Reg.SEC_CNT_TAG_OK n.val)) := by
  subst hv
  show execTagResult n addr page s = _
  rw [execTagResult, clockedSettle_of hp hl]
  simp only [hx, hk]
  rw [if_neg (by simp [ha, hh])]
  exact congrArg settled (if_pos h)

/-- A whole page whose tag does not agree is counted, logged and answered with its region's response (R149, R151). -/
theorem tagResult_differs {op : Nat} (hop : op = match (s.line n.val).frame with
      | some f => f.opcode
      | none => s.fld (Reg.SEC_FRAME n.val) 7 0)
    (h : pageTag key n.val addr.toNat (takePad 4096 page) ≠ storedTag s x addr.toNat) :
    exec (.tagResult n addr page) s = settled (respondMismatch (secLog (v.inc (Reg.SEC_CNT_TAG_FAIL n.val)) Ev.TAG_MISMATCH n.val
      (leBytes 4 addr.toNat ++ leBytes 1 x ++ leBytes 1 (extComp s x) ++
        leBytes 1 (extResponse (v.inc (Reg.SEC_CNT_TAG_FAIL n.val)) x) ++ leBytes 1 op)) n.val x addr.toNat 0) := by
  have hline : (v.inc (Reg.SEC_CNT_TAG_FAIL n.val)).line n.val = noteTag (s.line n.val) addr.toNat := by
    rw [State.inc, line_wr, hv, State.line_setLine_self]
  have hrd (a : Nat) (hne : a ≠ Reg.SEC_CNT_TAG_FAIL n.val) : (v.inc (Reg.SEC_CNT_TAG_FAIL n.val)).rd a = s.rd a :=
    (State.rd_inc_of_ne v hne).trans (by rw [hv]; rfl)
  have hfld : (v.inc (Reg.SEC_CNT_TAG_FAIL n.val)).fld (Reg.SEC_FRAME n.val) 7 0 = s.fld (Reg.SEC_FRAME n.val) 7 0 :=
    fld_of_rd (hrd _ (by unfold Reg.SEC_FRAME Reg.SEC_CNT_TAG_FAIL; omega)) 7 0
  have hcomp : extComp (v.inc (Reg.SEC_CNT_TAG_FAIL n.val)) x = extComp s x :=
    fld_of_rd (hrd _ (by unfold Reg.DEP_EXT_CTL Reg.SEC_CNT_TAG_FAIL; omega)) 21 16
  show execTagResult n addr page s = _
  rw [execTagResult, clockedSettle_of hp hl]
  simp only [hx, hk]
  rw [if_neg (by simp [ha, hh])]
  refine congrArg settled ((if_neg h).trans ?_)
  rw [← hv, hcomp, hline, noteTag_frame, hfld, hop] <;> rfl

end

end

end

/-- Settles O31: each line event by what it finds in its section. -/
theorem flashLineEvents : Obligations.FlashLineEvents := by
  intro s n hp stat
  refine ⟨fSense_low hp, fSense_high hp, fun t ht h => cRst_routed hp ht h, cRst_other hp, fun hl =>
    ⟨fun k a t h hd ht => masterConflict_driven hp hl h hd ht, masterConflict_none hp hl, senseTimeout_high hp hl,
      fun t ht h => ⟨fun e q hq he => senseTimeout_passed hp hl ht h hq he, senseTimeout_begun hp hl ht h⟩,
      fun addr page x key v hx hk ha hh hv => ⟨tagResult_agrees hp hl hx hk ha hh hv,
        fun op hop h => tagResult_differs hp hl hx hk ha hh hv hop h⟩⟩⟩

end Sys2Proof.Machine
end

section
/-! O32: the staging queue's replay, polls, refresh and end, by the progress of its head. -/

namespace Sys2Proof.Machine

/-- `s` after the replay's frame has ended: SEC_n_PORT_STAT shows no replay. -/
def replayOver (s : State) (n : Fin 32) : State := s.setBit (Reg.SEC_PORT_STAT n.val) 8 false

/-- The end of the last replay of `e`, with what the frame itself changed already in `u` (R122, R124, R131). -/
def replayDone (u : State) (n : Fin 32) (e : Entry) (reads : List (Byte × Byte)) : State :=
  if e.kind = 5 then
    if powerFailing (completeHead u n.val) then completeHead u n.val
    else refreshEntry (completeHead u n.val) n.val e none reads
  else if powerFailing u then
    match (u.line n.val).queue with
    | e' :: _ => discardEntry u n.val e' 0xF8 4
    | [] => u
  else setHead u n.val .polling

section
variable {s : State} {n : Fin 32} {e : Entry} {q : List Entry} (hp : s.pwr.down = false) (hl : lineLocked s = true)
  (hq : (s.line n.val).queue = e :: q)
include hp hl hq

/-! ### The start of a replay -/

/-- Where the head has not passed, the flash is taken, the port blocked or the supply failing, the queue waits (R122). -/
theorem replayStart_waits (h : e.progress ≠ .passed ∨ (pointsOf s n.val = 0 ∧ e.half = false) ∨ frameOnFlash (s.line n.val) = true ∨
    senseBlocks s n.val = true ∨ powerFailing s = true) : exec (.replayStart n) s = .next s := by
  show execReplayStart n s = _
  rw [execReplayStart, clocked_of hp hl, hq]
  exact congrArg _ (if_pos h)

section
variable (hf : powerFailing s = false) (he : e.progress = .passed) (hpt : pointsOf s n.val ≠ 0 ∨ e.half = true)
  (hfr : frameOnFlash (s.line n.val) = false) (hb : senseBlocks s n.val = false)
include hf he hpt hfr hb

theorem replayStart_begins : exec (.replayStart n) s = .next
    (match (if e.half then none else fenceHit s n.val e) with
      | some fence => fenceDiscard s n.val e fence
      | none => setHead (staleExtents (((drive (preemptGanger s n.val) n.val (replayFrame s n.val e)).inc
          (Reg.SEC_CNT_REPLAY n.val)).setBit (Reg.SEC_PORT_STAT n.val) 8 true) n.val e) n.val .replaying) := by
  show execReplayStart n s = _
  rw [execReplayStart, clocked_of hp hl, hq]
  refine congrArg Host.Outcome.next ((if_neg ?_).trans rfl)
  rw [he, hfr, hb, hf]
  rintro (h | ⟨h0, hh⟩ | h | h | h)
  · exact h rfl
  · exact hpt.elim (fun k => k h0) (fun k => by rw [k] at hh; cases hh)
  all_goals cases h

/-- An entry that meets an enabled fence is denied (R194). -/
theorem replayStart_fenced {fence : Nat} (hh : e.half = false) (h : fenceHit s n.val e = some fence) :
    exec (.replayStart n) s = .next (secLog ((denyEntry s n.val e 0xF6 0).inc (Reg.SEC_CNT_FENCED n.val)) Ev.FENCED n.val
      (leBytes 1 fence ++ leBytes 1 e.opcode ++ leBytes 4 e.addr)) := by
  rw [replayStart_begins hp hl hq hf he hpt hfr hb, hh, h]
  rfl

theorem replayStart_replays (h : e.half = true ∨ fenceHit s n.val e = none) :
    exec (.replayStart n) s = .next (setHead (staleExtents (((drive (preemptGanger s n.val) n.val (replayFrame s n.val e)).inc
      (Reg.SEC_CNT_REPLAY n.val)).setBit (Reg.SEC_PORT_STAT n.val) 8 true) n.val e) n.val .replaying) := by
  have hn : (if e.half then none else fenceHit s n.val e) = none := by
    obtain h | h := h <;> simp [h]
  rw [replayStart_begins hp hl hq hf he hpt hfr hb, hn]

end

/-! ### The end of a replay -/

section
variable (reads : List (Byte × Byte)) (he : e.progress = .replaying)
include he

/-- A replay to CS0 of a frame without address passes once more to CS1 where that is used (R119). -/
theorem replayEnd_twice (h2 : replaysTwice s n.val e = true) : exec (.replayEnd n reads) s = .next
    (if powerFailing (replayOver s n) then discardEntry (replayOver s n) n.val e 0xF8 4
     else setQueue (replayOver s n) n.val ({ e with cs := 1, half := true, progress := .passed } :: q)) := by
  show execReplayEnd n reads s = _
  rw [execReplayEnd, clocked_of hp hl, hq]
  exact congrArg _ ((if_neg (not_not_intro he)).trans (if_pos h2))

theorem replayEnd_last (h2 : replaysTwice s n.val e = false) {t u : State} (ht : t = match e.newIface with
      | some i => setIface (replayOver s n) n.val 1 i 0
      | none => replayOver s n)
    (hu : u = if e.modeReset then resetAddrState (setIface (setIface t n.val 0 (powerOnIface t n.val) 1) n.val 1
      (powerOnIface t n.val) 1) n.val else t) :
    exec (.replayEnd n reads) s = .next (replayDone u n e reads) := by
  subst hu ht
  show execReplayEnd n reads s = _
  rw [execReplayEnd, clocked_of hp hl, hq]
  exact congrArg _ ((if_neg (not_not_intro he)).trans (if_neg (by simp [h2])))

theorem replayEnd_plain (h2 : replaysTwice s n.val e = false) (hi : e.newIface = none) (hm : e.modeReset = false) :
    exec (.replayEnd n reads) s = .next
      (if e.kind = 5 then
        (if powerFailing (completeHead (replayOver s n) n.val) then completeHead (replayOver s n) n.val
         else refreshEntry (completeHead (replayOver s n) n.val) n.val e none reads)
       else if powerFailing (replayOver s n) then discardEntry (replayOver s n) n.val e 0xF8 4
       else setHead (replayOver s n) n.val .polling) := by
  have hline : ((replayOver s n).line n.val).queue = e :: q := by rw [replayOver, line_setBit, hq]
  rw [replayEnd_last hp hl hq reads he h2 (t := replayOver s n) (u := replayOver s n) (by rw [hi]) (by simp [hm]), replayDone,
    hline]

/-- The end of a WRITE that selects a new interface puts the F-port into it (R100). -/
theorem replayEnd_iface {i : Nat} {u : State} (h2 : replaysTwice s n.val e = false) (hi : e.newIface = some i) (hk : e.kind ≠ 5)
    (hm : e.modeReset = false) (hu : u = setIface (replayOver s n) n.val 1 i 0) (hf : powerFailing u = false) :
    exec (.replayEnd n reads) s = .next (setHead u n.val .polling) := by
  rw [replayEnd_last hp hl hq reads he h2 (t := u) (u := u) (by rw [hi, hu]) (by simp [hm]), replayDone, if_neg hk,
    if_neg (by simp [hf])]

/-- The end of a mode reset puts both interfaces and the addressing state to their initial values (R100, R116). -/
theorem replayEnd_reset {u : State} (h2 : replaysTwice s n.val e = false) (hi : e.newIface = none) (hk : e.kind = 5)
    (hm : e.modeReset = true)
    (hu : u = completeHead (resetAddrState (setIface (setIface (replayOver s n) n.val 0 (powerOnIface (replayOver s n) n.val) 1)
      n.val 1 (powerOnIface (replayOver s n) n.val) 1) n.val) n.val) (hf : powerFailing u = false) :
    exec (.replayEnd n reads) s = .next (refreshEntry u n.val e none reads) := by
  rw [replayEnd_last hp hl hq reads he h2 (t := replayOver s n) (by rw [hi]) rfl, if_pos hm, replayDone, if_pos hk, ← hu,
    if_neg (by simp [hf])]

end

/-! ### Polls and the refresh -/

omit hq in
theorem busyPoll_failing (hf : powerFailing s = true) (v : Byte) : exec (.busyPoll n v) s = .next s := by
  show execBusyPoll n v s = _
  rw [execBusyPoll, clocked_of hp hl]
  refine congrArg Host.Outcome.next ?_
  dsimp only
  split
  · rfl
  · exact if_pos (Or.inl hf)

/-- A poll that shows the flash ready takes the head to its refresh reads, one that does not only its value (R124). -/
theorem busyPoll_polls {k w : Nat} {value : Byte} {u : State} (hpe : pollEntry s n.val = some (k, w)) (hf : powerFailing s = false)
    (he : e.progress = .polling) (hb : senseBlocks s n.val = false)
    (hu : u = storeShadows (driveStatus s n.val e.cs ((statusOps s n.val).filter (fun x => x.opcode == w % 256))) n.val
      [(BitVec.ofNat 8 w, value)]) :
    exec (.busyPoll n value) s = .next
      (if pollReady w value.toNat then setHead (u.setBit (Reg.SEC_STAGE_STAT n.val) 6 false) n.val .refreshing else u) := by
  subst hu
  show execBusyPoll n value s = _
  rw [execBusyPoll, clocked_of hp hl, hpe]
  dsimp only
  rw [hq]
  refine congrArg Host.Outcome.next ((if_neg ?_).trans ?_)
  · rw [hf, hb]
    simp [he]
  · simp only [List.head?_cons, Option.map_some, Option.getD_some, he]
    rfl

theorem stageEntryComplete_failing (hf : powerFailing s = true) (reads : List (Byte × Byte)) :
    exec (.stageEntryComplete n reads) s = .next s := by
  show execStageEntryComplete n reads s = _
  rw [execStageEntryComplete, clocked_of hp hl, hq]
  exact congrArg _ (if_pos (Or.inr hf))

/-- After the refresh the shadows hold the values read and the entry leaves the queue (R124, R128). -/
theorem stageEntryComplete_refreshes (hf : powerFailing s = false) (he : e.progress = .refreshing) (reads : List (Byte × Byte)) :
    exec (.stageEntryComplete n reads) s = .next
      (completeHead (refreshEntry s n.val e ((pollEntry s n.val).map (fun p => p.2 % 256)) reads) n.val) := by
  show execStageEntryComplete n reads s = _
  rw [execStageEntryComplete, clocked_of hp hl, hq]
  exact congrArg _ (if_neg (by simp [hf, he]))

theorem flashTimeout_failing (hf : powerFailing s = true) (us : Word) (reads : List (Byte × Byte)) :
    exec (.flashTimeout n us reads) s = .next s := by
  show execFlashTimeout n us reads s = _
  rw [execFlashTimeout, clocked_of hp hl, hq]
  exact congrArg _ (if_pos (Or.inr hf))

/-- A flash that stays busy counts a fault, is logged, and its entry ends (R124). -/
theorem flashTimeout_ends (us : Word) (reads : List (Byte × Byte)) {u : State} (hf : powerFailing s = false)
    (he : e.progress = .polling) (hu : u = if (pollEntry s n.val).isSome then s else refreshEntry s n.val e none reads) :
    exec (.flashTimeout n us reads) s = .next
      ((completeHead (secLog (flashFault u n.val (e.kind == 3) (e.kind == 4)) Ev.FLASH_TIMEOUT n.val
        (leBytes 1 e.opcode ++ leBytes 4 e.addr ++ leBytes 4 us.toNat)) n.val).setBit (Reg.SEC_STAGE_STAT n.val) 6
        (pollEntry s n.val).isSome) := by
  subst hu
  show execFlashTimeout n us reads s = _
  rw [execFlashTimeout, clocked_of hp hl, hq]
  exact congrArg _ (if_neg (by simp [hf, he]))

end

/-- Settles O32: each event of the queue by the progress of its head entry. -/
theorem stagingQueueRuns : Obligations.StagingQueueRuns := by
  intro s n e q hp hl hq t
  refine ⟨fun hf => ⟨replayStart_waits hp hl hq (by tauto), busyPoll_failing hp hl hf, stageEntryComplete_failing hp hl hq hf,
      flashTimeout_failing hp hl hq hf⟩, fun h => replayStart_waits hp hl hq (by tauto),
    fun hf he hpt hfr hb => ⟨fun fence hh h => replayStart_fenced hp hl hq hf he hpt hfr hb hh h,
      replayStart_replays hp hl hq hf he hpt hfr hb⟩,
    fun reads he h2 => replayEnd_twice hp hl hq reads he h2,
    fun reads he h2 hi hm => replayEnd_plain hp hl hq reads he h2 hi hm,
    fun reads i u he h2 hi hk hm hu hf => replayEnd_iface hp hl hq reads he h2 hi hk hm hu hf,
    fun reads u he h2 hi hk hm hu hf => replayEnd_reset hp hl hq reads he h2 hi hk hm hu hf,
    fun k w value u hpe hf he hb hu => busyPoll_polls hp hl hq hpe hf he hb hu,
    fun reads hf he => stageEntryComplete_refreshes hp hl hq hf he reads,
    fun us reads u hf he hu => flashTimeout_ends hp hl hq us reads hf he hu⟩

end Sys2Proof.Machine
end

section
/-! O33: the Ganger's frames, the checks of its pages, and its windows. -/

namespace Sys2Proof.Machine

/-! ### The end of a window -/

/-- What the windows of the sections `ks` leave: no use, and every page in hand (R154). -/
def Windowed (ks : List Nat) (s t : State) : Prop :=
  (∀ n ∈ ks, t.rd (Reg.GNG_USED n) = 0) ∧ (∀ a, (∀ n ∈ ks, a ≠ Reg.GNG_USED n) → t.rd a = s.rd a) ∧
    AllBut [.regs, .lines, .freeCtr] s t ∧
    ∀ n, { t.line n with ganger := none } = { s.line n with ganger := none } ∧
      (t.line n).ganger.map (fun g => (g.addr, g.extent)) = (s.line n).ganger.map (fun g => (g.addr, g.extent))

theorem gangerWindow_spec (s : State) (k : Nat) : Windowed [k] s (gangerWindow s k) := by
  obtain ⟨w, hw⟩ : ∃ w, w = s.wr (Reg.GNG_USED k) 0 := ⟨_, rfl⟩
  have hline (m : Nat) : w.line m = s.line m := hw ▸ line_wr s _ m _
  have hself : w.rd (Reg.GNG_USED k) = 0 := hw ▸ State.rd_wr_self s _ _
  have hrest (a : Nat) (ha : a ≠ Reg.GNG_USED k) : w.rd a = s.rd a := hw ▸ State.rd_wr_of_ne s _ ha
  have hall : AllBut [.regs, .lines, .freeCtr] s w := hw ▸ (AllBut.wr s _ _).mono (by simp)
  unfold gangerWindow
  rw [← hw]
  dsimp only
  split
  · exact ⟨by simpa using hself, fun a ha => hrest a (ha k (by simp)), hall, fun n => by rw [hline]; exact ⟨rfl, rfl⟩⟩
  · next g hg =>
    obtain ⟨v, hv⟩ : ∃ v, v = (gangerSpent w g).2 := ⟨_, rfl⟩
    have hfree : AllBut [.freeCtr] w v := hv ▸ AllBut.free w
    have hvl (m : Nat) : v.line m = w.line m := State.line_of_lines (hfree .lines (by decide)) m
    have hrd (a : Nat) : v.rd a = w.rd a := State.rd_congr (hfree .regs (by decide)) a
    rw [← hv]
    refine ⟨?_, fun a ha => (hrd a).trans (hrest a (ha k (by simp))),
      (hall.trans (hfree.mono (by simp))).trans ((AllBut.setLine v k _).mono (by simp)), fun n => ?_⟩
    · intro n hn
      rw [List.mem_singleton.1 hn]
      exact (hrd _).trans hself
    · by_cases hn : n = k
      · subst hn
        rw [State.line_setLine_self, ← hline n, hvl, hg]
        exact ⟨rfl, rfl⟩
      · rw [State.line_setLine_of_ne _ _ hn, hvl, hline]
        exact ⟨rfl, rfl⟩

theorem foldl_gangerWindow (ks : List Nat) (s : State) : Windowed ks s (ks.foldl gangerWindow s) := by
  induction ks generalizing s with
  | nil => exact ⟨fun n h => absurd h (by simp), fun a _ => rfl, AllBut.refl _ s, fun n => ⟨rfl, rfl⟩⟩
  | cons k ks ih =>
    obtain ⟨h1, h2, h3, h4⟩ := gangerWindow_spec s k
    obtain ⟨i1, i2, i3, i4⟩ := ih (gangerWindow s k)
    refine ⟨fun n hn => ?_, fun a ha => ?_, h3.trans i3, fun n => ?_⟩
    · by_cases hk : n ∈ ks
      · exact i1 n hk
      · obtain rfl : n = k := (List.mem_cons.1 hn).resolve_right hk
        refine (i2 _ fun m hm e => hk ?_).trans (h1 n (by simp))
        obtain rfl : n = m := by
          unfold Reg.GNG_USED at e
          omega
        exact hm
    · refine (i2 a fun m hm => ha m (List.mem_cons_of_mem _ hm)).trans (h2 a fun m hm => ?_)
      rw [List.mem_singleton.1 hm]
      exact ha k (by simp)
    · exact ⟨(i4 n).1.trans (h4 n).1, (i4 n).2.trans (h4 n).2⟩

section
variable {s : State} {n : Fin 32} (hp : s.pwr.down = false)
include hp

theorem gangerWindow_ends : ∃ t, exec .gangerWindow s = .next t ∧ Windowed (List.range 32) s t :=
  ⟨(List.range 32).foldl gangerWindow s, by
    show execGangerWindow s = _
    rw [execGangerWindow, act_of hp], foldl_gangerWindow _ s⟩

/-! ### Frames and pages -/

section
variable (hl : lineLocked s = true)
include hl

theorem gangerFrame_starts {clocks a x : Nat} (hm : gangerMay s n.val clocks = true) (ha : gangerPick s n.val = some a)
    (hx : liveAt s n.val a = some x) {c : Nat} (hc : c = csOf s n.val a) :
    exec (.gangerFrame n clocks) s = .next ((s.setBit Reg.GNG_STAT n.val true).setLine n.val { s.line n.val with
      ganger := some ⟨a, x, clocks⟩, out := some (deviceFrame s n.val (gangerEntry s n.val) c (flashAddr s n.val c a) []) }) := by
  subst hc
  show execGangerFrame n clocks s = _
  rw [execGangerFrame, clocked_of hp hl, if_neg (by simp [hm]), ha]
  dsimp only
  rw [hx]
  dsimp only
  rw [drive, State.line_setLine_self, State.setLine_setLine, line_setBit]

theorem gangerFrame_waits {clocks : Nat} (hm : gangerMay s n.val clocks = false) :
    exec (.gangerFrame n clocks) s = .next s := by
  show execGangerFrame n clocks s = _
  rw [execGangerFrame, clocked_of hp hl, if_pos hm]

variable {g : GangerPage} {t : State} {page pg : List Byte} (hg : (s.line n.val).ganger = some g)
  (ht : t = dropGanger s n.val g.clocks) (hpg : pg = takePad 4096 page)
include hg ht hpg

/-- A Served page is compared with its copy in the Depot (R156). -/
theorem gangerPageDone_served {copy : List Byte}
    (hc : copy = t.rdMemN (servedPage (extBase t g.extent + (g.addr - extStart t g.extent) / 4096)) 4096)
    (hs : extClass t g.extent = 2) (fault : Option Bool) : exec (.gangerPageDone n page fault) s = settled (gangerAdvance
      (if pg = copy then t.inc (Reg.GNG_PAGES n.val)
       else secLog (t.inc (Reg.GNG_DRIFT n.val)) Ev.DRIFT n.val
         (leBytes 4 g.addr ++ leBytes 1 g.extent ++ leBytes 4 (firstDiff pg copy))) n.val g.addr) := by
  show execGangerPageDone n page fault s = _
  rw [execGangerPageDone, clockedSettle_of hp hl, hg]
  dsimp only
  rw [← ht, if_pos hs, ← hc, ← hpg]

variable {key : List Byte} (hs : extClass t g.extent ≠ 2) (hk : s.tagKey = some key)
include hs hk

/-- A Watched page goes through the pair of comparators (R156, R221). -/
theorem gangerPageDone_watched {fault : Option Bool} {r : State × Bool}
    (hr : r = gangerCompare t n.val (decide (pageTag key n.val g.addr pg = storedTag t g.extent g.addr)) fault) :
    exec (.gangerPageDone n page fault) s = settled (gangerAdvance
      (if r.2 then r.1.inc (Reg.GNG_PAGES n.val)
       else respondMismatch (secLog (r.1.inc (Reg.GNG_TAG_FAIL n.val)) Ev.GANGER_TAG_MISMATCH n.val
          (leBytes 4 g.addr ++ leBytes 1 g.extent ++ leBytes 1 (extComp r.1 g.extent) ++ leBytes 1 (extResponse r.1 g.extent)))
          n.val g.extent g.addr 1) n.val g.addr) := by
  have hkt : t.tagKey = some key := by rw [ht]; exact hk
  show execGangerPageDone n page fault s = _
  rw [execGangerPageDone, clockedSettle_of hp hl, hg]
  dsimp only
  rw [← ht, if_neg hs, hkt]
  dsimp only
  rw [← hpg, ← hr]

theorem gangerPageDone_agrees (h : pageTag key n.val g.addr pg = storedTag t g.extent g.addr) :
    exec (.gangerPageDone n page none) s = settled (gangerAdvance (t.inc (Reg.GNG_PAGES n.val)) n.val g.addr) := by
  rw [gangerPageDone_watched hp hl hg ht hpg hs hk (fault := none) (r := (t, true)) (by simp [gangerCompare, flagPair, h]),
    if_pos rfl]

theorem gangerPageDone_fails {fault : Option Bool} {v : State}
    (h : fault.isSome = true ∨ pageTag key n.val g.addr pg ≠ storedTag t g.extent g.addr)
    (hv : v = (gangerCompare t n.val (decide (pageTag key n.val g.addr pg = storedTag t g.extent g.addr)) fault).1) :
    exec (.gangerPageDone n page fault) s = settled (gangerAdvance
      (respondMismatch (secLog (v.inc (Reg.GNG_TAG_FAIL n.val)) Ev.GANGER_TAG_MISMATCH n.val
        (leBytes 4 g.addr ++ leBytes 1 g.extent ++ leBytes 1 (extComp v g.extent) ++ leBytes 1 (extResponse v g.extent)))
        n.val g.extent g.addr 1) n.val g.addr) := by
  have hfail : (gangerCompare t n.val (decide (pageTag key n.val g.addr pg = storedTag t g.extent g.addr)) fault).2 = false := by
    cases fault with
    | none => simpa [gangerCompare, flagPair] using h
    | some b => simp [gangerCompare, flagPair]
  rw [gangerPageDone_watched hp hl hg ht hpg hs hk (fault := fault) rfl, if_neg (by simp [hfail]), ← hv]

end

end

/-- Settles O33: the window by its sections, one after the other; a frame by its budget; a page by its extent's class. -/
theorem gangerChecksPages : Obligations.GangerChecksPages := by
  intro s hp
  refine ⟨?_, fun n hl => ⟨fun clocks a x hm ha hx => gangerFrame_starts hp hl hm ha hx rfl,
    fun clocks hm => gangerFrame_waits hp hl hm, fun g page hg => ⟨fun hs fault => gangerPageDone_served hp hl hg rfl rfl rfl hs fault,
      fun key hs hk h => gangerPageDone_agrees hp hl hg rfl rfl hs hk h,
      fun key fault v hs hk h hv => gangerPageDone_fails hp hl hg rfl rfl hs hk h hv⟩⟩⟩
  obtain ⟨t, he, hz, hrest, hall, hline⟩ := gangerWindow_ends hp
  exact ⟨t, he, fun n hn => hz n (List.mem_range.2 hn), fun a ha => hrest a fun n hn => ha n (List.mem_range.1 hn), hall, hline⟩

end Sys2Proof.Machine
end

section
/-! O34: the profile, policy, check and DEVICE registers of a port. -/

namespace Sys2Proof.Machine

/-! ### Words of read-write fields -/

/-- `x` with the bits of `m` replaced by those of `w`. -/
def underMask (x w m : Word) : Word := (x &&& ~~~m) ||| (w &&& m)

theorem underMask_underMask (x w m k : Word) : underMask (underMask x w m) w k = underMask x w (m ||| k) := by
  refine BitVec.eq_of_getLsbD_eq fun i hi => ?_
  simp only [underMask, BitVec.getLsbD_or, BitVec.getLsbD_and, BitVec.getLsbD_not, hi, decide_true, Bool.true_and]
  cases m.getLsbD i <;> cases k.getLsbD i <;> simp

/-- The bits that a list of fields holds. -/
def fieldsMask (fs : List Field) : Word := fs.foldl (fun m f => m ||| fieldMask f.hi f.lo) 0

theorem foldl_underMask (w : Word) (fs : List Field) (x m : Word) :
    fs.foldl (fun x f => underMask x w (fieldMask f.hi f.lo)) (underMask x w m) =
      underMask x w (fs.foldl (fun m f => m ||| fieldMask f.hi f.lo) m) := by
  induction fs generalizing m with
  | nil => rfl
  | cons f fs ih => rw [List.foldl_cons, underMask_underMask, ih, List.foldl_cons]

/-- A register whose fields take the word written, none of them locked, keeps the rest (R7). -/
theorem regNew_underMask {r : RegRow} {l : Bool} (h : ∀ f ∈ r.fields, f.acc = .rw ∨ f.acc = .rwl ∧ l = false) (old w t : Word) :
    regNew r l old w t = underMask old w (fieldsMask r.fields) := by
  have h0 : underMask old w 0 = old := by
    show (old &&& ~~~0#32) ||| (w &&& 0#32) = old
    rw [BitVec.and_zero, BitVec.or_zero, BitVec.not_zero, BitVec.and_allOnes]
  have hstep : r.fields.foldl (fun x f => underMask x w (fieldMask f.hi f.lo)) (underMask old w 0) = _ :=
    foldl_underMask w r.fields old 0
  rw [h0] at hstep
  refine Eq.trans ?_ hstep
  refine List.foldl_ext _ _ old fun x f hf => ?_
  dsimp only
  obtain h | ⟨h, hl⟩ := h f hf
  · rw [h]
    rfl
  · rw [h, hl]
    rfl

theorem canonReg_of {a : Nat} (h : a < 0x20410040 ∨ 0x20410060 ≤ a) : canonReg a = a := if_neg (by omega)

/-- A register of such fields stored: its word under its mask, with the record of a change (R7, R359). -/
theorem storeReg_under {s : State} {r : RegRow} {a : Nat} {m : Word} (ha : a < 0x20410040 ∨ 0x20410060 ≤ a)
    (h : ∀ f ∈ r.fields, f.acc = .rw ∨ f.acc = .rwl ∧ rwlLocked s a = false) (hm : fieldsMask r.fields = m) (o : Origin)
    (v : Word) (be : BitVec 4) :
    Eventful (s.wr a (underMask (s.rd a) (mergeBe (s.rd a) v be) m)) (storeReg s o r a v be) := by
  unfold storeReg
  dsimp only
  rw [canonReg_of ha, regNew_underMask h, hm]
  exact Eventful.noteChange _ _ _ _ _ _ _

theorem storeReg_rw {s : State} {r : RegRow} {a : Nat} {m : Word} (ha : a < 0x20410040 ∨ 0x20410060 ≤ a)
    (h : ∀ f ∈ r.fields, f.acc = .rw) (hm : fieldsMask r.fields = m) (o : Origin) (v : Word) (be : BitVec 4) :
    Eventful (s.wr a (underMask (s.rd a) (mergeBe (s.rd a) v be) m)) (storeReg s o r a v be) :=
  storeReg_under ha (fun f hf => Or.inl (h f hf)) hm o v be

/-! ### The rows of the section pages -/

/-- The rows of the table for the section pages. -/
def sectionRows : List RegRow := rows2010_0 ++ rows2010_1 ++ rows2010_2

theorem covers_page {r : RegRow} {n x : Nat} {ds : List (Nat × Nat)} (hd : r.dims = (0x1000, 34) :: ds) (hn : n < 34)
    (h0 : 0x20100000 ≤ r.base) (hx : r.base ≤ 0x20100000 + x) (hlt : x < 0x1000) :
    r.covers (0x20100000 + n * 0x1000 + x) = r.covers (0x20100000 + x) := by
  have e1 : (0x20100000 + n * 0x1000 + x - r.base) / 0x1000 = n := by omega
  have e2 : (0x20100000 + n * 0x1000 + x - r.base) % 0x1000 = 0x20100000 + x - r.base := by omega
  have e3 : (0x20100000 + x - r.base) / 0x1000 = 0 := by omega
  have e4 : (0x20100000 + x - r.base) % 0x1000 = 0x20100000 + x - r.base := by omega
  simp only [RegRow.covers, matchDims, hd, e1, e2, e3, e4, hn, hx, decide_true, Bool.true_and,
    decide_eq_true (show r.base ≤ 0x20100000 + n * 0x1000 + x by omega), decide_eq_true (show 0 < 34 by omega)]

/-- Every port's page holds the same registers: a row found for page 0 among rows that start at most at `x` is found for
every page. -/
theorem rowAt_page {n x lo i : Nat} {r : RegRow} (hn : n < 34) (hlo : lo ≤ x) (hx : x < 0x1000)
    (hrows : (sectionRows.take i).all (fun r => r.dims.head? == some (0x1000, 34) && decide (0x20100000 ≤ r.base) &&
      decide (r.base ≤ 0x20100000 + lo)) = true)
    (h : (sectionRows.take i).find? (fun r => r.covers (0x20100000 + x)) = some r) :
    rowAt (0x20100000 + n * 0x1000 + x) = some r := by
  have hof : rowsOf (0x20100000 + n * 0x1000 + x) = sectionRows := by
    unfold rowsOf
    iterate 12 rw [if_neg (by omega)]
    rw [if_pos (by omega)]
    rfl
  have hsame : (sectionRows.take i).find? (fun r => r.covers (0x20100000 + n * 0x1000 + x)) = some r := by
    rw [← h]
    refine List.find?_congr fun q hq => ?_
    have hq := List.all_eq_true.1 hrows q hq
    simp only [Bool.and_eq_true, beq_iff_eq, decide_eq_true_eq] at hq
    obtain ⟨⟨hd, h0⟩, h1⟩ := hq
    obtain ⟨ds, hds⟩ := List.head?_eq_some_iff.1 hd
    exact covers_page hds hn h0 (by omega) hx
  rw [rowAt, hof, ← List.take_append_drop i sectionRows, List.find?_append, hsame]
  rfl

theorem rowIs_page {n x lo i base : Nat} {fields : List Field} (hn : n < 34) (hlo : lo ≤ x) (hx : x < 0x1000)
    (hrows : (sectionRows.take i).all (fun r => r.dims.head? == some (0x1000, 34) && decide (0x20100000 ≤ r.base) &&
      decide (r.base ≤ 0x20100000 + lo)) = true)
    (h : ((sectionRows.take i).find? (fun r => r.covers (0x20100000 + x))).map (fun r => (r.base, r.pairLow, r.fields)) =
      some (base, false, fields)) :
    RowIs (0x20100000 + n * 0x1000 + x) base fields := by
  obtain ⟨r, hr, heq⟩ := Option.map_eq_some_iff.1 h
  simp only [Prod.mk.injEq] at heq
  exact ⟨r, rowAt_page hn hlo hx hrows hr, heq⟩

theorem rowIs_profile (n : Fin 34) (k : Fin 128) : RowIs (Reg.SEC_PROFILE n.val k.val) 0x20100400 [⟨31, 0, .rw, true, .p⟩] := by
  have h : RowIs (0x20100000 + n.val * 0x1000 + (0x400 + k.val * 4)) 0x20100400 [⟨31, 0, .rw, true, .p⟩] :=
    rowIs_page (lo := 0x400) (i := 25) n.isLt (by omega) (by omega) (by decide +kernel) (by revert k; decide +kernel)
  exact (show 0x20100000 + n.val * 0x1000 + (0x400 + k.val * 4) = Reg.SEC_PROFILE n.val k.val by
    unfold Reg.SEC_PROFILE; omega) ▸ h

theorem rowIs_cfg (n : Fin 34) : RowIs (Reg.SEC_CFG n.val) 0x20100004 [⟨0, 0, .rw, true, .p⟩] :=
  rowIs_of (by revert n; decide +kernel)

theorem rowIs_profCheck (n : Fin 34) : RowIs (Reg.SEC_PROF_CHECK n.val) 0x20100200 [⟨0, 0, .wt, false, .p⟩] :=
  rowIs_of (by revert n; decide +kernel)

theorem rowIs_devGo (n : Fin 34) : RowIs (Reg.SEC_DEV_GO n.val) 0x20100110 [⟨0, 0, .wt, false, .p⟩] :=
  rowIs_of (by revert n; decide +kernel)

/-- The bits of policy register `k` (R137). -/
def policyMask (k : Fin 8) : Word := if k = 0 then 0x00FF03FF else if k = 3 then 0x0000FFFF else 0xFFFFFFFF

/-- The bases of the policy registers' rows. -/
def policyBases : List Nat := [0x20100060, 0x20100064, 0x20100068, 0x2010006C, 0x20100180]

/-- A policy register is of read-write fields, which hold its mask. -/
theorem row_policy (n : Fin 34) (k : Fin 8) : ∃ r, rowAt (policyReg n.val k) = some r ∧ r.base ∈ policyBases ∧
    r.pairLow = false ∧ (∀ f ∈ r.fields, f.acc = .rw) ∧ fieldsMask r.fields = policyMask k := by
  have h : (rowAt (policyReg n.val k)).any (fun r => decide (r.base ∈ policyBases) && !r.pairLow &&
      r.fields.all (fun f => f.acc == .rw) && fieldsMask r.fields == policyMask k) = true := by
    revert n k
    decide +kernel
  cases hr : rowAt (policyReg n.val k) with
  | none => simp [hr] at h
  | some r =>
    simp only [hr, Option.any_some, Bool.and_eq_true, decide_eq_true_eq, Bool.not_eq_true', List.all_eq_true, beq_iff_eq] at h
    obtain ⟨⟨⟨h1, h2⟩, h3⟩, h4⟩ := h
    exact ⟨r, rfl, h1, h2, h3, h4⟩

/-! ### What an accepted write of a section page's register is -/

section
variable {s : State} {p : Party} {r : RegRow} {a : Nat} {v : Word} {be : BitVec 4} (ha : 0x20100000 ≤ a ∧ a < 0x20122000)
include ha

theorem acceptWrite_section (hl : discardLogged s r a = false) (hq : portOnly a = false) :
    acceptWrite s p r a v be = actSec s p.origin r a v (mergeBe 0 v be) be := by
  have h1 : decide (0x20310010 ≤ a ∧ a ≤ 0x20310020) = false := decide_eq_false (by omega)
  have h2 : decide (0x20410000 ≤ a) = false := decide_eq_false (by omega)
  have h3 : decide (0x20400010 ≤ a ∧ a < 0x20400020) = false := decide_eq_false (by omega)
  have h4 : decide (0x20131000 ≤ a ∧ a < 0x20132000) = false := decide_eq_false (by omega)
  have h5 : decide (0x20078000 ≤ a ∧ a < 0x20078020) = false := decide_eq_false (by omega)
  have hquiet : discardQuiet s a = false := by
    simp only [discardQuiet, h1, h2, h3, h4, h5, hq, Bool.false_and, Bool.or_self]
  unfold acceptWrite
  dsimp only
  rw [if_neg (by rw [hl]; decide), if_neg (by rw [hquiet]; decide), if_neg (by omega), if_pos (by omega)]

omit ha in
/-- A register that the H-port and the V-port do not have ignores writes there (R106, R137). -/
theorem acceptWrite_portOnly (hl : discardLogged s r a = false) (hq : portOnly a = true) : acceptWrite s p r a v be = s := by
  have hquiet : discardQuiet s a = true := by
    simp only [discardQuiet, hq, Bool.or_true]
  unfold acceptWrite
  dsimp only
  rw [if_neg (by rw [hl]; decide), if_pos hquiet]

/-- A write that a section in the points ROUTED discards (R103, R137). -/
theorem acceptWrite_routed (hl : discardLogged s r a = true) : ∃ t, Eventful s t ∧
    acceptWrite s p r a v be = t.setBit (Reg.SEC_PORT_STAT (secOf a)) 10 true := by
  refine ⟨s.regChange p.origin a (s.rd a) (s.rd a) be.toNat, Eventful.regChange _ _ _ _ _ _, ?_⟩
  unfold acceptWrite
  dsimp only
  rw [if_pos hl, discarded]
  exact if_pos (by omega)

end

theorem plain_section {a : Nat} (ha : 0x20100000 ≤ a ∧ a < 0x20122000) : PlainAddr a := by
  refine ⟨by omega, by omega, by omega, ?_⟩
  unfold Reg.VIN_0_EVR_CURSOR
  omega

/-- The row command of a section page's register whose write is neither discarded nor ignored. -/
theorem sectionRow {s : State} {p : Party} {a base : Nat} {fields : List Field} (v : Word) (be : BitVec 4) (hw : Writer s p a)
    (hrow : RowIs a base fields) (ha : 0x20100000 ≤ a ∧ a < 0x20122000) :
    ∃ r : RegRow, r.base = base ∧ r.fields = fields ∧ writeRow p a v be s = settled (acceptWrite s p r a v be) := by
  obtain ⟨r, hr, hbase, hpl, hf⟩ := hrow
  exact ⟨r, hbase, hf, writeRow_privileged v be hw (writer_privileged hw (by omega)) hr hpl (plain_section ha)⟩

/-! ### Which writes a ROUTED section discards -/

/-- Whether port `n` is a section in the points ROUTED by its register (R103, R137). -/
def portRouted (s : State) (n : Fin 34) : Bool := decide (n.val < 32) && (s.fld (Reg.SEC_CTL n.val) 1 0 == 2)

/-- The bases of the rows that a ROUTED section keeps from being written: profile, configuration and policy. -/
def guardedBases : List Nat := [0x20100004, 0x20100400, 0x20100060, 0x20100064, 0x20100068, 0x2010006C, 0x20100180]

theorem discardLogged_guarded {s : State} {r : RegRow} {a : Nat} {n : Fin 34} (hr : r.base ∈ guardedBases) (ha : secOf a = n.val) :
    discardLogged s r a = portRouted s n := by
  have h1 : (r.base == Reg.HLD_FILTER) = false := by
    revert hr
    generalize r.base = b
    revert b
    decide
  have h2 : (r.base == 0x20090100) = false := by
    revert hr
    generalize r.base = b
    revert b
    decide
  have h3 : (decide (r.base = 0x20100004 ∨ r.base = 0x20100400) || (r.base == 0x20100060 || r.base == 0x20100064 ||
      r.base == 0x20100068 || r.base == 0x2010006C || r.base == 0x20100180)) = true := by
    revert hr
    generalize r.base = b
    revert b
    decide
  unfold discardLogged portRouted
  rw [ha, h1, h2]
  rw [Bool.false_and, Bool.false_and, Bool.or_false, Bool.or_false, Bool.and_assoc, Bool.and_assoc,
    ← Bool.and_or_distrib_right, h3, Bool.true_and]

theorem discardLogged_trigger {s : State} {r : RegRow} {a : Nat} (hr : r.base ∈ [0x20100110, 0x20100200, 0x20100310]) :
    discardLogged s r a = false := by
  simp only [List.mem_cons, List.not_mem_nil, or_false] at hr
  obtain h | h | h := hr <;> simp [discardLogged, h, Reg.HLD_FILTER]

end Sys2Proof.Machine
end

section
/-! O34, assembled: each port register under its access code. -/

namespace Sys2Proof.Machine

section
variable {s : State} {p : Party} {n : Fin 34} {v : Word} {be : BitVec 4}

/-- The word of a register stored under its mask, by byte lanes. -/
def storedUnder (s : State) (a : Nat) (m v : Word) (be : BitVec 4) : State :=
  s.wr a (underMask (s.rd a) (mergeBe (s.rd a) v be) m)

theorem profile_bounds (n : Fin 34) (k : Fin 128) :
    0x20100000 ≤ Reg.SEC_PROFILE n.val k.val ∧ Reg.SEC_PROFILE n.val k.val < 0x20122000 := by
  unfold Reg.SEC_PROFILE
  omega

theorem secOf_profile (n : Fin 34) (k : Fin 128) : secOf (Reg.SEC_PROFILE n.val k.val) = n.val := by
  unfold secOf Reg.SEC_PROFILE
  omega

/-- The profile's words, unlike the section-code registers, stand in every port's page. -/
theorem portOnly_of {a : Nat} (h : 0x3B0 ≤ a % 0x1000 ∨ 0xF4 ≤ a % 0x1000 ∧ a % 0x1000 < 0x180 ∨
    0x1A0 ≤ a % 0x1000 ∧ a % 0x1000 < 0x300) : portOnly a = false := by
  unfold portOnly
  dsimp only
  have h1 : (a % 0x1000 == 4) = false := beq_eq_false_iff_ne.2 (by omega)
  have h2 : decide (0x60 ≤ a % 0x1000 ∧ a % 0x1000 < 0xEC) = false := decide_eq_false (by omega)
  have h3 : decide (0xF0 ≤ a % 0x1000 ∧ a % 0x1000 < 0xF4) = false := decide_eq_false (by omega)
  have h4 : decide (0x180 ≤ a % 0x1000 ∧ a % 0x1000 < 0x1A0) = false := decide_eq_false (by omega)
  have h5 : decide (0x300 ≤ a % 0x1000 ∧ a % 0x1000 < 0x3B0) = false := decide_eq_false (by omega)
  rw [h1, h2, h3, h4, h5]
  exact Bool.and_false _

/-! ### The profile -/

section
variable {k : Fin 128} (hw : Writer s p (Reg.SEC_PROFILE n.val k.val))
include hw

theorem profileWrite_free (h : portRouted s n = false) : ∃ t,
    Eventful (storedUnder s (Reg.SEC_PROFILE n.val k.val) 0xFFFFFFFF v be) t ∧
      exec (.profileWrite p n (some k) v be) s = settled (t.setBit (Reg.SEC_PORT_STAT n.val) 4 false) := by
  have ha := profile_bounds n k
  obtain ⟨r, hbase, hf, he⟩ := sectionRow v be hw (rowIs_profile n k) ha
  refine ⟨_, storeReg_rw (r := r) (by omega) (by simp [hf]) (by rw [hf]; decide) p.origin v be, he.trans (congrArg settled ?_)⟩
  rw [acceptWrite_section ha ((discardLogged_guarded (by rw [hbase]; decide) (secOf_profile n k)).trans h)
    (portOnly_of (by unfold Reg.SEC_PROFILE; omega)), actSec, secOf_profile]
  dsimp only
  rw [if_neg (by omega), if_neg (by omega), if_neg (by omega), if_pos hbase]

theorem profileWrite_routed (h : portRouted s n = true) : ∃ t, Eventful s t ∧
    exec (.profileWrite p n (some k) v be) s = settled (t.setBit (Reg.SEC_PORT_STAT n.val) 10 true) := by
  have ha := profile_bounds n k
  obtain ⟨r, hbase, hf, he⟩ := sectionRow v be hw (rowIs_profile n k) ha
  obtain ⟨t, ht, hacc⟩ := acceptWrite_routed (p := p) (v := v) (be := be) ha
    ((discardLogged_guarded (by rw [hbase]; decide) (secOf_profile n k)).trans h)
  refine ⟨t, ht, he.trans (congrArg settled ?_)⟩
  rw [hacc, secOf_profile]

end

/-! ### The configuration -/

theorem cfg_bounds (n : Fin 34) : 0x20100000 ≤ Reg.SEC_CFG n.val ∧ Reg.SEC_CFG n.val < 0x20122000 := by
  unfold Reg.SEC_CFG
  omega

theorem secOf_cfg (n : Fin 34) : secOf (Reg.SEC_CFG n.val) = n.val := by
  unfold secOf Reg.SEC_CFG
  omega

/-- Below the H-port no register of a section page is hidden (R106, R137). -/
theorem portOnly_section {a : Nat} (h : a < 0x20120000) : portOnly a = false := by
  unfold portOnly
  rw [decide_eq_false (by omega)]
  rfl

theorem portRouted_port (h : 32 ≤ n.val) : portRouted s n = false := by
  unfold portRouted
  rw [decide_eq_false (by omega)]
  rfl

/-- A guarded register's write that is neither discarded nor ignored stores its word under its mask (R103, R137). -/
theorem guarded_stored {r : RegRow} {a : Nat} {m : Word} (ha : 0x20100000 ≤ a ∧ a < 0x20122000) (hs : secOf a = n.val)
    (hb : r.base ∈ guardedBases) (hne : r.base ≠ 0x20100400) (hf : ∀ f ∈ r.fields, f.acc = .rw) (hm : fieldsMask r.fields = m)
    (hn : n.val < 32) (h : portRouted s n = false) :
    Eventful (storedUnder s a m v be) (acceptWrite s p r a v be) := by
  have hlt : a < 0x20120000 := by
    unfold secOf at hs
    omega
  rw [acceptWrite_section ha ((discardLogged_guarded hb hs).trans h) (portOnly_section hlt), actSec]
  have hnot : ∀ b ∈ [0x20100110, 0x20100200, 0x20100310, 0x20131000], r.base ≠ b := by
    revert hb
    generalize r.base = c
    revert c
    decide
  dsimp only
  rw [if_neg (hnot _ (by decide)), if_neg (hnot _ (by decide)), if_neg (hnot _ (by decide)), if_neg hne,
    if_neg (hnot _ (by decide))]
  exact storeReg_rw (by omega) hf hm _ v be

section
variable (hw : Writer s p (Reg.SEC_CFG n.val))
include hw

theorem cfgWrite_port (h : 32 ≤ n.val) : exec (.profileWrite p n none v be) s = settled s := by
  obtain ⟨r, hbase, hf, he⟩ := sectionRow v be hw (rowIs_cfg n) (cfg_bounds n)
  refine he.trans (congrArg settled ?_)
  refine acceptWrite_portOnly ((discardLogged_guarded (by rw [hbase]; decide) (secOf_cfg n)).trans (portRouted_port h)) ?_
  have h1 : decide (0x20120000 ≤ Reg.SEC_CFG n.val ∧ Reg.SEC_CFG n.val < 0x20122000) = true :=
    decide_eq_true (by unfold Reg.SEC_CFG; omega)
  have h2 : (Reg.SEC_CFG n.val % 0x1000 == 4) = true := beq_iff_eq.2 (by unfold Reg.SEC_CFG; omega)
  unfold portOnly
  dsimp only
  rw [h1, h2]
  rfl

theorem cfgWrite_free (hn : n.val < 32) (h : portRouted s n = false) : ∃ t,
    Eventful (storedUnder s (Reg.SEC_CFG n.val) 1 v be) t ∧ exec (.profileWrite p n none v be) s = settled t := by
  obtain ⟨r, hbase, hf, he⟩ := sectionRow v be hw (rowIs_cfg n) (cfg_bounds n)
  exact ⟨_, guarded_stored (cfg_bounds n) (secOf_cfg n) (by rw [hbase]; decide) (by rw [hbase]; decide) (by simp [hf])
    (by rw [hf]; decide) hn h, he⟩

theorem cfgWrite_routed (h : portRouted s n = true) : ∃ t, Eventful s t ∧
    exec (.profileWrite p n none v be) s = settled (t.setBit (Reg.SEC_PORT_STAT n.val) 10 true) := by
  obtain ⟨r, hbase, hf, he⟩ := sectionRow v be hw (rowIs_cfg n) (cfg_bounds n)
  obtain ⟨t, ht, hacc⟩ := acceptWrite_routed (p := p) (v := v) (be := be) (cfg_bounds n)
    ((discardLogged_guarded (by rw [hbase]; decide) (secOf_cfg n)).trans h)
  exact ⟨t, ht, he.trans (congrArg settled (by rw [hacc, secOf_cfg]))⟩

end

/-! ### The policy registers -/

theorem policy_bounds (n : Fin 34) (k : Fin 8) : 0x20100000 ≤ policyReg n.val k ∧ policyReg n.val k < 0x20122000 := by
  unfold policyReg Reg.SEC_POL Reg.SEC_STATUS
  split <;> omega

theorem secOf_policy (n : Fin 34) (k : Fin 8) : secOf (policyReg n.val k) = n.val := by
  unfold secOf policyReg Reg.SEC_POL Reg.SEC_STATUS
  split <;> omega

/-- A policy register is a section-code register: the H-port and the V-port have none (R137). -/
theorem portOnly_policy (h : 32 ≤ n.val) (k : Fin 8) : portOnly (policyReg n.val k) = true := by
  revert k h
  revert n
  decide +kernel

/-- The policy register's row, and its command (R137). -/
theorem policyRow {k : Fin 8} (hw : Writer s p (policyReg n.val k)) : ∃ r : RegRow, r.base ∈ policyBases ∧
    (∀ f ∈ r.fields, f.acc = .rw) ∧ fieldsMask r.fields = policyMask k ∧
    exec (.policyWrite p n k v be) s = settled (acceptWrite s p r (policyReg n.val k) v be) := by
  obtain ⟨r, hr, hb, hpl, hf, hm⟩ := row_policy n k
  have ha := policy_bounds n k
  exact ⟨r, hb, hf, hm, writeRow_privileged v be hw (writer_privileged hw (by omega)) hr hpl (plain_section ha)⟩

theorem guarded_of_policy {b : Nat} (h : b ∈ policyBases) : b ∈ guardedBases ∧ b ≠ 0x20100400 := by
  revert b
  decide

section
variable {k : Fin 8} (hw : Writer s p (policyReg n.val k))
include hw

theorem policyWrite_port (h : 32 ≤ n.val) : exec (.policyWrite p n k v be) s = settled s := by
  obtain ⟨r, hb, hf, hm, he⟩ := policyRow (v := v) (be := be) hw
  exact he.trans (congrArg settled (acceptWrite_portOnly ((discardLogged_guarded (guarded_of_policy hb).1
    (secOf_policy n k)).trans (portRouted_port h)) (portOnly_policy h k)))

theorem policyWrite_free (hn : n.val < 32) (h : portRouted s n = false) : ∃ t,
    Eventful (storedUnder s (policyReg n.val k) (policyMask k) v be) t ∧ exec (.policyWrite p n k v be) s = settled t := by
  obtain ⟨r, hb, hf, hm, he⟩ := policyRow (v := v) (be := be) hw
  obtain ⟨hg, hne⟩ := guarded_of_policy hb
  exact ⟨_, guarded_stored (policy_bounds n k) (secOf_policy n k) hg hne hf hm hn h, he⟩

theorem policyWrite_routed (h : portRouted s n = true) : ∃ t, Eventful s t ∧
    exec (.policyWrite p n k v be) s = settled (t.setBit (Reg.SEC_PORT_STAT n.val) 10 true) := by
  obtain ⟨r, hb, hf, hm, he⟩ := policyRow (v := v) (be := be) hw
  obtain ⟨t, ht, hacc⟩ := acceptWrite_routed (p := p) (v := v) (be := be) (policy_bounds n k)
    ((discardLogged_guarded (guarded_of_policy hb).1 (secOf_policy n k)).trans h)
  exact ⟨t, ht, he.trans (congrArg settled (by rw [hacc, secOf_policy]))⟩

end

/-! ### The profile check -/

/-- A trigger register of a section page does what its base names. -/
theorem trigger_row {a base : Nat} {fields : List Field} (hw : Writer s p a) (hrow : RowIs a base fields)
    (ha : 0x20100000 ≤ a ∧ a < 0x20122000) (hb : base ∈ [0x20100110, 0x20100200, 0x20100310]) (hq : portOnly a = false) :
    ∃ r : RegRow, r.base = base ∧ writeRow p a 1 0xF s = settled (actSec s p.origin r a 1 1 0xF) := by
  obtain ⟨r, hbase, hf, he⟩ := sectionRow 1 0xF hw hrow ha
  refine ⟨r, hbase, he.trans (congrArg settled ?_)⟩
  rw [acceptWrite_section ha (discardLogged_trigger (by rw [hbase]; exact hb)) hq, mergeBe_full]

theorem profCheck_row (hw : Writer s p (Reg.SEC_PROF_CHECK n.val)) : exec (.profCheck p n) s = settled (profCheck s n.val) := by
  obtain ⟨r, hbase, he⟩ := trigger_row hw (rowIs_profCheck n) (by unfold Reg.SEC_PROF_CHECK; omega) (by decide)
    (portOnly_of (by unfold Reg.SEC_PROF_CHECK; omega))
  refine he.trans (congrArg settled ?_)
  have hs : secOf (Reg.SEC_PROF_CHECK n.val) = n.val := by
    unfold secOf Reg.SEC_PROF_CHECK
    omega
  rw [actSec, hs]
  dsimp only
  rw [if_neg (by omega), if_pos hbase]
  rfl

/-- A write to a port's own registers leaves its profile. -/
theorem powerOnIface_wr (s : State) {a : Nat} (w : Word) (h : a % 0x1000 < 0x400) (_ : 0x20100000 ≤ a) :
    powerOnIface (s.wr a w) n.val = powerOnIface s n.val := by
  unfold powerOnIface profByte
  rw [State.rd_wr_of_ne]
  unfold Reg.SEC_PROFILE
  omega

/-- A profile that passes sets prof_ok, clears the fault and puts both interfaces to the power-on interface (R102). -/
theorem profCheck_passes (hw : Writer s p (Reg.SEC_PROF_CHECK n.val)) (h : profFault s n.val = none) :
    exec (.profCheck p n) s = settled (identReset ((((s.wr (Reg.SEC_PROF_FAULT n.val) 0xFF00).setBit
      (Reg.SEC_PORT_STAT n.val) 4 true).setF (Reg.SEC_PORT_STAT n.val) 1 0 (powerOnIface s n.val)).setF
      (Reg.SEC_PORT_STAT n.val) 3 2 (powerOnIface s n.val)) n.val) := by
  have hpow : powerOnIface ((s.wr (Reg.SEC_PROF_FAULT n.val) 0xFF00).setBit (Reg.SEC_PORT_STAT n.val) 4 true) n.val =
      powerOnIface s n.val :=
    (powerOnIface_wr _ _ (by unfold Reg.SEC_PORT_STAT; omega) (by unfold Reg.SEC_PORT_STAT; omega)).trans
      (powerOnIface_wr _ _ (by unfold Reg.SEC_PROF_FAULT; omega) (by unfold Reg.SEC_PROF_FAULT; omega))
  rw [profCheck_row hw, profCheck, h]
  dsimp only
  rw [hpow]

theorem profCheck_fails (hw : Writer s p (Reg.SEC_PROF_CHECK n.val)) {c e : Nat} (h : profFault s n.val = some (c, e)) :
    exec (.profCheck p n) s = settled (secLog
      ((s.wr (Reg.SEC_PROF_FAULT n.val) (BitVec.ofNat 32 (c + 256 * e))).setBit (Reg.SEC_PORT_STAT n.val) 4 false)
      Ev.PROFILE_BAD n.val (leBytes 1 c ++ leBytes 1 e)) := by
  rw [profCheck_row hw, profCheck, h]

/-! ### DEV_GO -/

section
variable (hw : Writer s p (Reg.SEC_DEV_GO n.val))
include hw

theorem devGo_row : exec (.devGo p n) s = settled (sealEnds (devGo s n.val) n.val) := by
  obtain ⟨r, hbase, he⟩ := trigger_row hw (rowIs_devGo n) (by unfold Reg.SEC_DEV_GO; omega) (by decide)
    (portOnly_of (by unfold Reg.SEC_DEV_GO; omega))
  refine he.trans (congrArg settled ?_)
  have hs : secOf (Reg.SEC_DEV_GO n.val) = n.val := by
    unfold secOf Reg.SEC_DEV_GO
    omega
  rw [actSec, hs]
  dsimp only
  rw [if_pos hbase]
  rfl

omit hw in
/-- SEAL turns away only a restore that the port did not begin (R130, R206). -/
theorem sealEnds_of_dev {t : State} (h : (t.line n.val).dev.isSome = true) : sealEnds t n.val = t := by
  unfold sealEnds
  refine if_neg ?_
  rintro ⟨-, -, hn, -⟩
  simp only [Option.isNone_iff_eq_none] at hn
  rw [hn] at h
  cases h

theorem devGo_busy (hb : s.bit (Reg.SEC_DEV_STAT n.val) 0 = true) (hd : (s.line n.val).dev.isSome = true) :
    exec (.devGo p n) s = settled s := by
  rw [devGo_row hw, devGo, if_pos hb, sealEnds_of_dev hd]

theorem devGo_starts (hb : s.bit (Reg.SEC_DEV_STAT n.val) 0 = false) (hr : devRefused s n.val (devOpOf s n.val) = false) :
    exec (.devGo p n) s = settled
      ((s.setLine n.val { s.line n.val with dev := some (devOpOf s n.val) }).setBit (Reg.SEC_DEV_STAT n.val) 0 true) := by
  rw [devGo_row hw, devGo, if_neg (by simp [hb])]
  dsimp only
  rw [if_neg (by simp [hr]), sealEnds_of_dev]
  rw [line_setBit, State.line_setLine_self]
  rfl

theorem devGo_refused (hb : s.bit (Reg.SEC_DEV_STAT n.val) 0 = false) (hr : devRefused s n.val (devOpOf s n.val) = true) :
    exec (.devGo p n) s = settled (sealEnds (endDev s n.val 2) n.val) := by
  rw [devGo_row hw, devGo, if_neg (by simp [hb])]
  dsimp only
  rw [if_pos hr]

end

end

/-- Settles O34: each register of a port under its access code, its points, and what it triggers. -/
theorem portConfiguration : Obligations.PortConfiguration := by
  intro s p n routed stored
  refine ⟨fun k v be _ hw => ⟨fun h => profileWrite_free hw h, fun h => profileWrite_routed hw h⟩,
    fun v be _ hw => ⟨fun h => cfgWrite_port hw h, fun hn h => cfgWrite_free hw hn h, fun h => cfgWrite_routed hw h⟩,
    fun k v be _ hw => ⟨fun h => policyWrite_port hw h, fun hn h => policyWrite_free hw hn h, fun h => policyWrite_routed hw h⟩,
    fun hw => ⟨fun h => profCheck_passes hw h, fun c e h => profCheck_fails hw h⟩, fun hw hb hd => devGo_busy hw hb hd,
    fun hw hb => ⟨fun hr => devGo_starts hw hb hr, fun hr => devGo_refused hw hb hr⟩⟩

end Sys2Proof.Machine
end

section
/-! O35: program loads and the banks of a section. -/

namespace Sys2Proof.Machine

/-! ### Banks -/

theorem activeBank_lt (s : State) (n : Nat) : activeBank s n < 2 := by
  unfold activeBank State.fld getBits bitsOf
  omega

theorem bankOf_congr {s t : State} {n : Nat} (h : t.line n = s.line n) (b : Nat) : bankOf t n b = bankOf s n b := by
  unfold bankOf
  rw [h]

theorem bankOf_setBank_of_ne (s : State) (n : Nat) {a b : Nat} (x : Bank) (h : a = 0 ↔ b ≠ 0) :
    bankOf (setBank s n b x) n a = bankOf s n a := by
  unfold bankOf setBank
  by_cases hb : b = 0
  · have ha : a ≠ 0 := fun e => h.1 e hb
    rw [if_pos hb, State.line_setLine_self, if_neg ha, if_neg ha]
  · have ha : a = 0 := h.2 hb
    rw [if_neg hb, State.line_setLine_self, if_pos ha, if_pos ha]

theorem bankOf_setLine {s : State} {n : Nat} {x : Line} (h0 : x.bank0 = (s.line n).bank0) (h1 : x.bank1 = (s.line n).bank1)
    (b : Nat) : bankOf (s.setLine n x) n b = bankOf s n b := by
  unfold bankOf
  rw [State.line_setLine_self, h0, h1]

theorem load_setBank (s : State) (n b : Nat) (x : Bank) : ((setBank s n b x).line n).load = (s.line n).load := by
  unfold setBank
  split <;> rw [State.line_setLine_self]

theorem AllBut.setBank (s : State) (n b : Nat) (x : Bank) : AllBut [.lines] s (setBank s n b x) := by
  unfold Machine.setBank
  split
  · exact AllBut.setLine s n _
  · exact AllBut.setLine s n _

/-- The standby bank is the one that is not active. -/
theorem standby_ne (s : State) (n : Nat) : activeBank s n = 0 ↔ 1 - activeBank s n ≠ 0 := by
  have := activeBank_lt s n
  omega

theorem line_wrBytes (s : State) (a k : Nat) (bs : List Byte) (m : Nat) : (s.wrBytes a k bs).line m = s.line m :=
  State.line_of_lines (AllBut.wrBytes s a k bs .lines (by decide)) m

theorem line_log (s : State) (code : Nat) (o : Origin) (d : Nat) (bs : List Byte) (m : Nat) :
    (s.log code o d bs).line m = s.line m := State.line_of_lines ((Eventful.log s code o d bs).1 .lines (by decide)) m

theorem rd_setLine (s : State) (n : Nat) (x : Line) (a : Nat) : (s.setLine n x).rd a = s.rd a :=
  State.rd_congr (AllBut.setLine s n x .regs (by decide)) a

theorem rd_setBank (s : State) (n b : Nat) (x : Bank) (a : Nat) : (setBank s n b x).rd a = s.rd a :=
  State.rd_congr (AllBut.setBank s n b x .regs (by decide)) a

/-- A field beside a bit just set stays. -/
theorem fld_setBit (s : State) (a i hi lo : Nat) (x : Bool) (h : lo ≤ hi) (h32 : hi < 32) (hi32 : i < 32) (hd : hi < i ∨ i < lo) :
    (s.setBit a i x).fld a hi lo = s.fld a hi lo := by
  rw [State.setBit, State.setF, State.fld_wr_self, getBits_setBits_of_ne _ _ _ _ _ _ (Nat.le_refl i) hi32 h h32 hd, State.fld]

/-! ### The load's command -/

section
variable {s : State} {p : Party} {n : Fin 32}

theorem rowIs_pgmLoad (n : Fin 32) : RowIs (Reg.SEC_PGM_LOAD n.val) 0x20100310 [⟨0, 0, .wt, false, .p⟩] :=
  rowIs_of (by revert n; decide +kernel)

theorem pgmLoad_row (hw : Writer s p (Reg.SEC_PGM_LOAD n.val)) : exec (.pgmLoad p n) s = settled (pgmLoad s n.val p.origin) := by
  have hn := n.isLt
  obtain ⟨r, hbase, he⟩ := trigger_row hw (rowIs_pgmLoad n) (by unfold Reg.SEC_PGM_LOAD; omega) (by decide)
    (portOnly_section (by unfold Reg.SEC_PGM_LOAD; omega))
  refine he.trans (congrArg settled ?_)
  have hs : secOf (Reg.SEC_PGM_LOAD n.val) = n.val := by
    unfold secOf Reg.SEC_PGM_LOAD
    omega
  rw [actSec, hs]
  dsimp only
  rw [if_neg (by omega), if_neg (by omega), if_pos hbase]
  rfl

theorem pgmLoad_busy (hw : Writer s p (Reg.SEC_PGM_LOAD n.val)) (h : s.bit (Reg.SEC_PGM_STAT n.val) 0 = true) :
    exec (.pgmLoad p n) s = settled s := by
  rw [pgmLoad_row hw, pgmLoad, if_pos h]

/-- A load samples its parameters, takes the standby bank out of use and leaves the active one (R132). -/
theorem pgmLoad_starts (hw : Writer s p (Reg.SEC_PGM_LOAD n.val)) (h : s.bit (Reg.SEC_PGM_STAT n.val) 0 = false) :
    ∃ u, exec (.pgmLoad p n) s = settled u ∧ u.bit (Reg.SEC_PGM_STAT n.val) 0 = true ∧
      u.bit (Reg.SEC_PGM_STAT n.val) 3 = false ∧
      (u.line n.val).load = some ⟨(s.rd (Reg.SEC_PGM_SRC n.val)).toNat, s.fld (Reg.SEC_PGM_LEN n.val) 15 0,
        (s.rd (Reg.SEC_PGM_MAP_SRC n.val)).toNat, s.fld (Reg.SEC_PGM_MAP_CNT n.val) 6 0, p.origin⟩ ∧
      bankOf u n.val (activeBank s n.val) = bankOf s n.val (activeBank s n.val) ∧
      (bankOf u n.val (1 - activeBank s n.val)).ok = false ∧ AllBut [.regs, .lines] s u := by
  obtain ⟨w, hw0⟩ : ∃ w, w = (s.setBit (Reg.SEC_PGM_STAT n.val) 0 true).setBit (Reg.SEC_PGM_STAT n.val) 3 false := ⟨_, rfl⟩
  have hwline : w.line n.val = s.line n.val := by rw [hw0, line_setBit, line_setBit]
  have hwrd (a : Nat) (ha : a ≠ Reg.SEC_PGM_STAT n.val) : w.rd a = s.rd a := by
    rw [hw0]
    exact (State.rd_wr_of_ne _ _ ha).trans (State.rd_wr_of_ne s _ ha)
  have hw3 : w.bit (Reg.SEC_PGM_STAT n.val) 3 = false := by
    rw [hw0, State.bit_setBit _ _ 3 3 false (by decide) (by decide), if_pos rfl]
  have hw00 : w.bit (Reg.SEC_PGM_STAT n.val) 0 = true := by
    rw [hw0, State.bit_setBit _ _ 3 0 false (by decide) (by decide), if_neg (by decide),
      State.bit_setBit _ _ 0 0 true (by decide) (by decide), if_pos rfl]
  have hw4 : activeBank w n.val = activeBank s n.val := by
    rw [activeBank, activeBank, hw0]
    exact (fld_setBit _ _ 3 4 4 false (by decide) (by decide) (by decide) (by decide)).trans
      (fld_setBit s _ 0 4 4 true (by decide) (by decide) (by decide) (by decide))
  obtain ⟨v, hv⟩ : ∃ v, v = setBank w n.val (1 - activeBank s n.val) { bankOf w n.val (1 - activeBank s n.val) with ok := false } :=
    ⟨_, rfl⟩
  have hvrd (a : Nat) : v.rd a = w.rd a := by rw [hv]; exact rd_setBank w _ _ _ a
  obtain ⟨l, hl⟩ : ∃ l : PgmLoad, l = ⟨(s.rd (Reg.SEC_PGM_SRC n.val)).toNat, s.fld (Reg.SEC_PGM_LEN n.val) 15 0,
    (s.rd (Reg.SEC_PGM_MAP_SRC n.val)).toNat, s.fld (Reg.SEC_PGM_MAP_CNT n.val) 6 0, p.origin⟩ := ⟨_, rfl⟩
  have hload : (⟨(v.rd (Reg.SEC_PGM_SRC n.val)).toNat, v.fld (Reg.SEC_PGM_LEN n.val) 15 0,
      (v.rd (Reg.SEC_PGM_MAP_SRC n.val)).toNat, v.fld (Reg.SEC_PGM_MAP_CNT n.val) 6 0, p.origin⟩ : PgmLoad) = l := by
    simp only [State.fld, hvrd]
    rw [hwrd _ (by unfold Reg.SEC_PGM_SRC Reg.SEC_PGM_STAT; omega), hwrd _ (by unfold Reg.SEC_PGM_LEN Reg.SEC_PGM_STAT; omega),
      hwrd _ (by unfold Reg.SEC_PGM_MAP_SRC Reg.SEC_PGM_STAT; omega),
      hwrd _ (by unfold Reg.SEC_PGM_MAP_CNT Reg.SEC_PGM_STAT; omega), hl, State.fld, State.fld]
  have hu : pgmLoad s n.val p.origin = v.setLine n.val { v.line n.val with load := some l } := by
    rw [pgmLoad, if_neg (by simp [h])]
    dsimp only
    rw [← hw0, hw4, ← hv, hload]
  have hbank (b : Nat) : bankOf (pgmLoad s n.val p.origin) n.val b = bankOf v n.val b := by
    rw [hu]
    exact bankOf_setLine (x := { v.line n.val with load := some l }) rfl rfl b
  refine ⟨_, pgmLoad_row hw, ?_, ?_, ?_, ?_, ?_, ?_⟩
  · rw [hu]
    exact (bit_of_rd ((rd_setLine _ _ _ _).trans (hvrd _)) 0).trans hw00
  · rw [hu]
    exact (bit_of_rd ((rd_setLine _ _ _ _).trans (hvrd _)) 3).trans hw3
  · rw [hu, State.line_setLine_self, hl]
  · rw [hbank, hv, bankOf_setBank_of_ne _ _ _ (standby_ne s n.val), bankOf_congr hwline]
  · rw [hbank, hv, bankOf_setBank_self]
  · rw [hu]
    have h1 : AllBut [.regs] s w := hw0 ▸ (AllBut.setBit s _ _ _).trans (AllBut.setBit _ _ _ _)
    have h2 : AllBut [.lines] w v := hv ▸ AllBut.setBank w _ _ _
    exact ((h1.mono (by simp)).trans (h2.mono (by simp))).trans ((AllBut.setLine v _ _).mono (by simp))

/-! ### The end of a load -/

section
variable (hp : s.pwr.down = false)
include hp

theorem progLoaded_eq : exec (.progLoaded n) s = .next (progLoaded s n.val) := by
  show execProgLoaded n s = _
  rw [execProgLoaded, act_of hp]

/-- A load waits while the route in progress runs under the standby bank (R132). -/
theorem progLoaded_waits {r : Route} (hr : (s.line n.val).route = some r) (hb : r.bank = 1 - activeBank s n.val) :
    exec (.progLoaded n) s = .next s := by
  rw [progLoaded_eq hp, progLoaded]
  cases (s.line n.val).load with
  | none => rfl
  | some l =>
    simp only [hr, hb]
    rw [if_pos (by simp)]

/-- The state in which a load has ended, its bank not yet replaced. -/
def loadEnded (s : State) (n : Fin 32) : State :=
  ((s.setLine n.val { s.line n.val with load := none }).setBit (Reg.SEC_PGM_STAT n.val) 0 false).setBit
    (Reg.SEC_PGM_STAT n.val) 1 true

omit hp in
/-- A loaded bank in place of the standby bank: the load is over, busy is 0, done 1, the active bank stays. -/
theorem loadEnded_setBank (s : State) (n : Fin 32) (x : Bank) {t : State}
    (ht : t = setBank (loadEnded s n) n.val (1 - activeBank s n.val) x) :
    (t.line n.val).load = none ∧ t.bit (Reg.SEC_PGM_STAT n.val) 0 = false ∧ t.bit (Reg.SEC_PGM_STAT n.val) 1 = true ∧
      bankOf t n.val (1 - activeBank s n.val) = x ∧ bankOf t n.val (activeBank s n.val) = bankOf s n.val (activeBank s n.val) := by
  obtain ⟨v, hv⟩ : ∃ v, v = s.setLine n.val { s.line n.val with load := none } := ⟨_, rfl⟩
  have hw : loadEnded s n = (v.setBit (Reg.SEC_PGM_STAT n.val) 0 false).setBit (Reg.SEC_PGM_STAT n.val) 1 true := by
    rw [hv]
    rfl
  have hline : (loadEnded s n).line n.val = v.line n.val := by rw [hw, line_setBit, line_setBit]
  subst ht
  refine ⟨?_, ?_, ?_, bankOf_setBank_self _ _ _ _, ?_⟩
  · rw [load_setBank, hline, hv, State.line_setLine_self]
  · rw [bit_of_rd (rd_setBank _ _ _ _ _), hw, State.bit_setBit _ _ 1 0 true (by decide) (by decide), if_neg (by decide),
      State.bit_setBit _ _ 0 0 false (by decide) (by decide), if_pos rfl]
  · rw [bit_of_rd (rd_setBank _ _ _ _ _), hw, State.bit_setBit _ _ 1 1 true (by decide) (by decide), if_pos rfl]
  · rw [bankOf_setBank_of_ne _ _ _ (standby_ne s n.val), bankOf_congr hline, hv]
    exact bankOf_setLine (x := { s.line n.val with load := none }) rfl rfl _

omit hp in
/-- A state that shows section `n`'s load as `t` does, one status bit apart. -/
theorem bit_setBit_stat (t : State) (n : Fin 32) (i j : Nat) (x : Bool) (hi : i < 32) (hj : j < 32) :
    (t.setBit (Reg.SEC_PGM_STAT n.val) i x).bit (Reg.SEC_PGM_STAT n.val) j =
      if j = i then x else t.bit (Reg.SEC_PGM_STAT n.val) j := State.bit_setBit t _ i j x hi hj

omit hp in
theorem bit_wrDigest (t : State) (n : Fin 32) (d : List Byte) (i : Nat) :
    (t.wrBytes (Reg.SEC_PGM_STBY_DIGEST n.val 0) 12 d).bit (Reg.SEC_PGM_STAT n.val) i = t.bit (Reg.SEC_PGM_STAT n.val) i :=
  bit_of_rd (State.rd_wrBytes_of_ne t _ _ d _ fun k hk => by unfold Reg.SEC_PGM_STBY_DIGEST Reg.SEC_PGM_STAT; omega) i

omit hp in
theorem bit_stat_log (t : State) (n : Fin 32) (code : Nat) (o : Origin) (d : Nat) (bs : List Byte) (i : Nat) :
    (t.log code o d bs).bit (Reg.SEC_PGM_STAT n.val) i = t.bit (Reg.SEC_PGM_STAT n.val) i :=
  bit_of_rd ((Eventful.log t code o d bs).2 _ (by unfold recorderWord Reg.SEC_PGM_STAT; omega)) i

variable {l : PgmLoad} (hl : (s.line n.val).load = some l)
  (hr : ∀ r, (s.line n.val).route = some r → r.bank ≠ 1 - activeBank s n.val)
include hl hr

omit hp hl in
theorem route_elsewhere :
    (match (s.line n.val).route with | some r => r.bank == 1 - activeBank s n.val | none => false) = false := by
  split
  · next r h => exact beq_eq_false_iff_ne.2 (hr r h)
  · rfl

/-- A load whose program or table fails leaves the standby bank empty (R133, R134). -/
theorem progLoaded_refused {c i : Nat} (hf : loadFault s l = some (c, i)) :
    ∃ u, exec (.progLoaded n) s = .next u ∧ (u.line n.val).load = none ∧
      u.bit (Reg.SEC_PGM_STAT n.val) 0 = false ∧ u.bit (Reg.SEC_PGM_STAT n.val) 1 = true ∧
      u.bit (Reg.SEC_PGM_STAT n.val) 2 = true ∧ bankOf u n.val (1 - activeBank s n.val) = {} ∧
      bankOf u n.val (activeBank s n.val) = bankOf s n.val (activeBank s n.val) := by
  obtain ⟨t, ht⟩ : ∃ t, t = setBank (loadEnded s n) n.val (1 - activeBank s n.val) {} := ⟨_, rfl⟩
  obtain ⟨h1, h2, h3, h4, h5⟩ := loadEnded_setBank s n {} ht
  obtain ⟨u, hu⟩ : ∃ u, u = ((t.setBit (Reg.SEC_PGM_STAT n.val) 2 true).wrBytes (Reg.SEC_PGM_STBY_DIGEST n.val 0) 12 []).log
    Ev.PROGRAM_REFUSED l.who n.val (leBytes 1 c ++ leBytes 2 i) := ⟨_, rfl⟩
  have hpu : progLoaded s n.val = u := by
    rw [progLoaded, hl]
    refine (if_neg fun h => Bool.false_ne_true ((route_elsewhere hr).symm.trans h)).trans ?_
    rw [hf, hu, ht]
    rfl
  have hline : u.line n.val = t.line n.val := by rw [hu, line_log, line_wrBytes, line_setBit]
  have hbit (j : Nat) : u.bit (Reg.SEC_PGM_STAT n.val) j = (t.setBit (Reg.SEC_PGM_STAT n.val) 2 true).bit (Reg.SEC_PGM_STAT n.val) j := by
    rw [hu, bit_stat_log, bit_wrDigest]
  refine ⟨u, (progLoaded_eq hp).trans (congrArg _ hpu), ?_, ?_, ?_, ?_, ?_, ?_⟩
  · rw [hline, h1]
  · rw [hbit, bit_setBit_stat _ _ 2 0 _ (by decide) (by decide), if_neg (by decide), h2]
  · rw [hbit, bit_setBit_stat _ _ 2 1 _ (by decide) (by decide), if_neg (by decide), h3]
  · rw [hbit, bit_setBit_stat _ _ 2 2 _ (by decide) (by decide), if_pos rfl]
  · rw [bankOf_congr hline, h4]
  · rw [bankOf_congr hline, h5]

/-- A load that passes leaves the checked program, its regions and its digest in the standby bank (R132). -/
theorem progLoaded_accepted (hf : loadFault s l = none) :
    ∃ u, exec (.progLoaded n) s = .next u ∧ (u.line n.val).load = none ∧
      u.bit (Reg.SEC_PGM_STAT n.val) 0 = false ∧ u.bit (Reg.SEC_PGM_STAT n.val) 1 = true ∧
      u.bit (Reg.SEC_PGM_STAT n.val) 3 = true ∧
      bankOf u n.val (activeBank s n.val) = bankOf s n.val (activeBank s n.val) ∧
      bankOf u n.val (1 - activeBank s n.val) = ⟨true, s.rdMemN l.src l.len,
        (List.range l.mapCnt).map (regionOf (s.rdMemN l.mapSrc (16 * l.mapCnt))),
        (sha384 (s.rdMemN l.src l.len ++ s.rdMemN l.mapSrc (16 * l.mapCnt))), []⟩ := by
  obtain ⟨d, hd⟩ : ∃ d, d = sha384 (s.rdMemN l.src l.len ++ s.rdMemN l.mapSrc (16 * l.mapCnt)) := ⟨_, rfl⟩
  obtain ⟨x, hx⟩ : ∃ x : Bank, x = ⟨true, s.rdMemN l.src l.len,
    (List.range l.mapCnt).map (regionOf (s.rdMemN l.mapSrc (16 * l.mapCnt))), d, []⟩ := ⟨_, rfl⟩
  obtain ⟨t, ht⟩ : ∃ t, t = setBank (loadEnded s n) n.val (1 - activeBank s n.val) x := ⟨_, rfl⟩
  obtain ⟨h1, h2, h3, h4, h5⟩ := loadEnded_setBank s n x ht
  obtain ⟨u, hu⟩ : ∃ u, u = secLog ((t.wrBytes (Reg.SEC_PGM_STBY_DIGEST n.val 0) 12 d).setBit (Reg.SEC_PGM_STAT n.val) 3 true)
    Ev.PROG_LOADED n.val (leBytes 1 (1 - activeBank s n.val) ++ d.take 28) := ⟨_, rfl⟩
  have hmem (a k : Nat) : (loadEnded s n).rdMemN a k = s.rdMemN a k := by
    refine State.rdMemN_congr ?_ k a
    have h1 : AllBut [.lines, .regs] s (loadEnded s n) :=
      (((AllBut.setLine s n.val _).mono (by simp)).trans ((AllBut.setBit _ _ _ _).mono (by simp))).trans
        ((AllBut.setBit _ _ _ _).mono (by simp))
    exact h1 .mem (by decide)
  have hpu : progLoaded s n.val = u := by
    rw [progLoaded, hl]
    refine (if_neg fun h => Bool.false_ne_true ((route_elsewhere hr).symm.trans h)).trans ?_
    rw [hf]
    dsimp only
    rw [hu, ht, hx, hd, ← hmem, ← hmem, loadEnded]
  have hline : u.line n.val = t.line n.val := by rw [hu, line_secLog, line_setBit, line_wrBytes]
  have hbit (j : Nat) (hj : j < 32) : u.bit (Reg.SEC_PGM_STAT n.val) j = if j = 3 then true else t.bit (Reg.SEC_PGM_STAT n.val) j := by
    rw [hu, secLog, bit_stat_log, bit_setBit_stat _ _ 3 j _ (by decide) hj, bit_wrDigest]
  refine ⟨u, (progLoaded_eq hp).trans (congrArg _ hpu), ?_, ?_, ?_, ?_, ?_, ?_⟩
  · rw [hline, h1]
  · rw [hbit 0 (by decide), if_neg (by decide), h2]
  · rw [hbit 1 (by decide), if_neg (by decide), h3]
  · rw [hbit 3 (by decide), if_pos rfl]
  · rw [bankOf_congr hline, h5]
  · rw [bankOf_congr hline, h4, hx, hd]

end

end

end Sys2Proof.Machine
end

section
/-! O35: the extents, the hold bridges and the hold configuration. -/

namespace Sys2Proof.Machine

/-- The row command of a register outside the owned blocks that is no low word of a pair. -/
theorem plainRow {s : State} {p : Party} {a base : Nat} {fields : List Field} (v : Word) (be : BitVec 4) (hw : Writer s p a)
    (hrow : RowIs a base fields) (ha : PlainAddr a) (hout : a < 0x20400010 ∨ 0x20900000 ≤ a) :
    ∃ r : RegRow, r.base = base ∧ r.fields = fields ∧ writeRow p a v be s = settled (acceptWrite s p r a v be) := by
  obtain ⟨r, hr, hbase, hpl, hf⟩ := hrow
  exact ⟨r, hbase, hf, writeRow_privileged v be hw (writer_privileged hw hout) hr hpl ha⟩

/-- Of the Depot's registers only the geometry of an extent can ignore a write (R146). -/
theorem discardQuiet_depot {s : State} {a : Nat} (ha : 0x20122000 ≤ a ∧ a < 0x20200000) (h : a < 0x20131000 ∨ a % 16 = 0) :
    discardQuiet s a = false := by
  have h1 : decide (0x20310010 ≤ a ∧ a ≤ 0x20310020) = false := decide_eq_false (by omega)
  have h2 : decide (0x20410000 ≤ a) = false := decide_eq_false (by omega)
  have h3 : decide (0x20400010 ≤ a ∧ a < 0x20400020) = false := decide_eq_false (by omega)
  have h4 : (decide (0x20131000 ≤ a ∧ a < 0x20132000) && a % 16 != 0) = false := by
    obtain h | h := h
    · rw [decide_eq_false (by omega)]
      rfl
    · rw [h]
      exact Bool.and_false _
  have h5 : decide (0x20078000 ≤ a ∧ a < 0x20078020) = false := decide_eq_false (by omega)
  have h6 : decide (0x20120000 ≤ a ∧ a < 0x20122000) = false := decide_eq_false (by omega)
  simp only [discardQuiet, portOnly, h1, h2, h3, h4, h5, h6, Bool.false_and, Bool.or_self]

section
variable {s : State} {p : Party}

/-! ### Extents -/

section
variable {x : Fin 256} {v : Word}

/-- The read-write fields of an extent's control word (R146). -/
def extFields : List Field :=
  [⟨4, 0, .rw, true, .p⟩, ⟨5, 5, .rw, true, .p⟩, ⟨7, 6, .rw, true, .p⟩, ⟨10, 8, .rw, true, .p⟩, ⟨21, 16, .rw, true, .p⟩]

theorem rowIs_extCtl (x : Fin 256) : RowIs (Reg.DEP_EXT_CTL x.val) 0x20131000 extFields :=
  rowIs_of (by revert x; decide +kernel)

/-- `s` with the geometry of a FREE extent stored and its state left FREE (R146). -/
def extStored (s : State) (x : Fin 256) (v : Word) : State :=
  if extState s x.val = 0 then s.wr (Reg.DEP_EXT_CTL x.val)
    ((s.rd (Reg.DEP_EXT_CTL x.val) &&& ~~~0x3F07FF) ||| (v &&& 0x3F00FF)) else s

/-- The state field of a FREE extent's word is not stored with its geometry. -/
theorem setBits_extState (v : Word) : setBits v 10 8 0 &&& 0x3F07FF = v &&& 0x3F00FF := by
  have h : setBits v 10 8 0 = v &&& ~~~0x700#32 := by
    unfold setBits
    have hm : fieldMask 10 8 = 0x700#32 := by decide
    have hz : (BitVec.ofNat 32 0 <<< 8) &&& fieldMask 10 8 = 0#32 := by decide
    rw [hz, hm, BitVec.or_zero]
  rw [h]
  exact BitVec.and_assoc v _ _

/-- A full write of an extent's control word, with the record of its change. -/
theorem extentWrite_eq (hw : Writer s p (Reg.DEP_EXT_CTL x.val)) : ∃ t,
    Eventful (extStateWrite (extStored s x v) x.val (getBits v 10 8)) t ∧ exec (.extentStateWrite p x v 0xF) s = settled t := by
  have hx := x.isLt
  have ha : 0x20131000 ≤ Reg.DEP_EXT_CTL x.val ∧ Reg.DEP_EXT_CTL x.val < 0x20132000 := by
    unfold Reg.DEP_EXT_CTL
    omega
  have hplain : PlainAddr (Reg.DEP_EXT_CTL x.val) := by
    refine ⟨by omega, by omega, by omega, ?_⟩
    unfold Reg.VIN_0_EVR_CURSOR
    omega
  have hi : (Reg.DEP_EXT_CTL x.val - 0x20131000) / 16 = x.val := by
    unfold Reg.DEP_EXT_CTL
    omega
  obtain ⟨r, hbase, hf, he⟩ := plainRow v 0xF hw (rowIs_extCtl x) hplain (by omega)
  have hlogged : discardLogged s r (Reg.DEP_EXT_CTL x.val) = false := discardLogged_eq_false (.inr (by omega))
  have hquiet : discardQuiet s (Reg.DEP_EXT_CTL x.val) = false :=
    discardQuiet_depot (by omega) (.inr (by unfold Reg.DEP_EXT_CTL; omega))
  have hreg : regNew r false (s.rd (Reg.DEP_EXT_CTL x.val)) (setBits v 10 8 0) 0 =
      (s.rd (Reg.DEP_EXT_CTL x.val) &&& ~~~0x3F07FF) ||| (v &&& 0x3F00FF) := by
    rw [regNew_underMask (fun f hfm => Or.inl ?_), underMask, hf, show fieldsMask extFields = 0x3F07FF by decide,
      setBits_extState]
    rw [hf] at hfm
    revert f
    decide
  obtain ⟨t, ht⟩ : ∃ t, t = extStored s x v := ⟨_, rfl⟩
  refine ⟨noteChange (extStateWrite t x.val (getBits v 10 8)) p.origin r (Reg.DEP_EXT_CTL x.val)
    (s.rd (Reg.DEP_EXT_CTL x.val)) ((extStateWrite t x.val (getBits v 10 8)).rd (Reg.DEP_EXT_CTL x.val)) 0xF,
    ht ▸ Eventful.noteChange _ _ _ _ _ _ _, he.trans (congrArg settled ?_)⟩
  unfold acceptWrite
  dsimp only
  rw [if_neg (by rw [hlogged]; decide), if_neg (by rw [hquiet]; decide), if_neg (by omega), if_pos (by omega), actSec]
  dsimp only
  rw [if_neg (by omega), if_neg (by omega), if_neg (by omega), if_neg (by omega), if_pos hbase, hi, mergeBe_full, hreg]
  have hbe : (0xF : BitVec 4).getLsbD 1 = true := by decide
  rw [hbe, if_pos rfl, ht, extStored]

theorem extStored_of_used (h : extState s x.val ≠ 0) : extStored s x v = s := if_neg h

theorem extStateWrite_freed (h : extState s x.val ≠ 0) : extStateWrite s x.val 0 =
    (if extInUse s x.val then extRefused s x.val 5 else setExtState s x.val 0) := by
  unfold extStateWrite
  split <;> simp_all

theorem extStateWrite_armed (h : extState s x.val ≠ 0) : extStateWrite s x.val 1 =
    (if extInUse s x.val then extRefused s x.val 5
     else if extClass s x.val = 1 ∧ s.tagKey = none then extRefused s x.val 7 else setExtState s x.val 1) := by
  unfold extStateWrite
  split <;> simp_all

theorem extStateWrite_other (h : extState s x.val ≠ 0) {c : Nat} (hc : 2 ≤ c) : extStateWrite s x.val c = s := by
  unfold extStateWrite
  split
  · contradiction
  · rfl
  · omega
  · omega
  · rfl

end

/-! ### Hold bridges -/

theorem regNew_rc {r : RegRow} (h : r.fields = [⟨31, 0, .rc, true, .p⟩]) (l : Bool) (old w t : Word) :
    regNew r l old w t = old &&& ~~~t := by
  have hm : fieldMask 31 0 = BitVec.allOnes 32 := by decide
  simp only [regNew, h, List.foldl_cons, List.foldl_nil, hm, BitVec.and_allOnes]

theorem rowIs_holdPend (high : Bool) : ∃ base, 0x20130030 ≤ base ∧ base ≤ 0x20130034 ∧
    RowIs (if high then Reg.DEP_HOLD_PEND_HI else Reg.DEP_HOLD_PEND_LO) base [⟨31, 0, .rc, true, .p⟩] := by
  cases high with
  | false => exact ⟨0x20130030, by decide, by decide, rowIs_of (by decide +kernel)⟩
  | true => exact ⟨0x20130034, by decide, by decide, rowIs_of (by decide +kernel)⟩

/-- Ones written to a hold bridge's word clear its bits (R151). -/
theorem holdPendWrite_eq {high : Bool} {m : Word} {a : Nat}
    (haeq : a = if high then Reg.DEP_HOLD_PEND_HI else Reg.DEP_HOLD_PEND_LO) (hw : Writer s p a) :
    ∃ t, exec (.holdPendWrite p high m) s = settled t ∧ Eventful (s.wr a (s.rd a &&& ~~~m)) t := by
  obtain ⟨base, hb1, hb2, hrow⟩ := rowIs_holdPend high
  rw [← haeq] at hrow
  have ha : 0x20130030 ≤ a ∧ a ≤ 0x20130034 := by
    rw [haeq]
    cases high <;> decide
  have hplain : PlainAddr a := by
    refine ⟨by omega, by omega, by omega, ?_⟩
    unfold Reg.VIN_0_EVR_CURSOR
    omega
  obtain ⟨r, hbase, hf, he⟩ := plainRow m 0xF hw hrow hplain (by omega)
  have hlogged : discardLogged s r a = false := discardLogged_eq_false (.inr (by omega))
  have hquiet : discardQuiet s a = false := discardQuiet_depot (by omega) (.inl (by omega))
  have hacc : acceptWrite s p r a m 0xF = storeReg s p.origin r a m 0xF := by
    unfold acceptWrite
    dsimp only
    rw [if_neg (by rw [hlogged]; decide), if_neg (by rw [hquiet]; decide), if_neg (by omega), if_pos (by omega), actSec]
    dsimp only
    rw [if_neg (by omega), if_neg (by omega), if_neg (by omega), if_neg (by omega), if_neg (by omega)]
  refine ⟨storeReg s p.origin r a m 0xF, ?_, ?_⟩
  · rw [← hacc, ← he, haeq]
    rfl
  · unfold storeReg
    dsimp only
    rw [canonReg_of (by omega), regNew_rc hf, mergeBe_full]
    exact Eventful.noteChange _ _ _ _ _ _ _

/-! ### Hold configuration and its lock -/

/-- The rows of the hold configuration: fields that the lock holds (R160). -/
theorem rowIs_holdCfg (l : Option (Fin 96)) : ∃ fields, RowIs (match l with
      | some l => Reg.HLD_LCFG l.val
      | none => Reg.HLD_FILTER) (if l = none then Reg.HLD_FILTER else 0x20090100) fields ∧
    (∀ f ∈ fields, f.acc = .rwl) ∧ fieldsMask fields = if l = none then 0xFF else 0x307 := by
  cases l with
  | none => exact ⟨[⟨7, 0, .rwl, true, .p⟩], rowIs_of (by decide +kernel), by decide, by decide⟩
  | some l =>
    refine ⟨[⟨0, 0, .rwl, true, .p⟩, ⟨1, 1, .rwl, true, .p⟩, ⟨2, 2, .rwl, true, .p⟩, ⟨8, 8, .rwl, true, .p⟩, ⟨9, 9, .rwl, true, .p⟩],
      rowIs_of (by revert l; decide +kernel), by decide, ?_⟩
    rw [if_neg (Option.some_ne_none l)]
    decide

/-- A write of a register that no block serves stores it (R7). -/
theorem actBox_store {o : Origin} {r : RegRow} {a : Nat} {v t : Word} {be : BitVec 4} (ha : 0x20090040 ≤ a ∧ a < 0x20091000)
    (hne : a ≠ Reg.HLD_LOCK) (hb : r.base ≠ 0x20081024) : actBox s o r a v t be = storeReg s o r a v be := by
  unfold actBox
  rw [if_neg (by unfold Reg.SBX_SNAP; omega), if_neg hne, if_neg (by unfold Reg.MBX_LOCK; omega),
    if_neg (by unfold Reg.TMP_CTL; omega), if_neg (by unfold Reg.NVC_CTL; omega), if_neg (by unfold Reg.PWR_CLK_CTL; omega),
    if_neg (by omega), if_neg (by omega), if_neg hb, if_neg (by unfold Reg.MTM_KEY; omega)]

/-- An accepted write between the sections' and the yards' blocks that has no unit goes to the remaining registers. -/
theorem acceptWrite_box {r : RegRow} {a : Nat} {v : Word} {be : BitVec 4} (hl : discardLogged s r a = false)
    (ha : 0x20090000 ≤ a ∧ a < 0x200A0000) : acceptWrite s p r a v be = actBox s p.origin r a v (mergeBe 0 v be) be := by
  have hquiet : discardQuiet s a = false := discardQuiet_eq_false (by omega)
  have hunit : isUnit a = false := by
    have h0 : decide (0x20031000 ≤ a ∧ a < 0x20033200) = false := decide_eq_false (by omega)
    have h (b : Nat) (hb : b < 0x20090000 ∨ 0x200A0000 ≤ b) : (a == b) = false := beq_eq_false_iff_ne.2 (by omega)
    unfold isUnit
    rw [h0, h Reg.SIG_SUBMIT (by decide), h Reg.SIG_ABORT (by decide), h Reg.ILK_ARM (by decide),
      h Reg.ATT_MREG_EXT_CTL (by decide)]
    rfl
  unfold acceptWrite
  dsimp only
  rw [if_neg (by rw [hl]; decide), if_neg (by rw [hquiet]; decide), if_neg (by omega), if_neg (by omega), if_neg (by omega),
    if_neg (by omega), if_neg (by rw [hunit]; decide), if_neg (by unfold Reg.EVR_CURSOR; omega),
    if_neg (by unfold Reg.MTM_CTL; omega)]

/-- HLD_LCFG and HLD_FILTER take their fields until the lock, HLD_LCFG of a line that is held alone (R160). -/
theorem holdCfgWrite_eq {l : Option (Fin 96)} {v : Word} {a : Nat}
    (haeq : a = match l with
      | some l => Reg.HLD_LCFG l.val
      | none => Reg.HLD_FILTER) {m : Word} (hm : m = if l = none then 0xFF else 0x307)
    (hw : Writer s p a) : ∃ t, exec (.holdCfgWrite p l v 0xF) s = settled t ∧
      Eventful (if !s.bit Reg.HLD_LOCK 0 && l.all (fun l => holdState s l.val) then s.wr a ((s.rd a &&& ~~~m) ||| (v &&& m)) else s) t := by
  obtain ⟨fields, hrow, hacc, hmask⟩ := rowIs_holdCfg l
  have hrow' : RowIs a (if l = none then Reg.HLD_FILTER else 0x20090100) fields := haeq ▸ hrow
  have ha : 0x20090040 ≤ a ∧ a < 0x20091000 ∧ a ≠ Reg.HLD_LOCK := by
    rw [haeq]
    cases l with
    | none => decide
    | some l =>
      have := l.isLt
      unfold Reg.HLD_LCFG Reg.HLD_LOCK
      dsimp only
      omega
  have hplain : PlainAddr a := by
    refine ⟨by omega, by omega, by omega, ?_⟩
    unfold Reg.VIN_0_EVR_CURSOR
    omega
  obtain ⟨r, hbase, hf, he⟩ := plainRow v 0xF hw hrow' hplain (by omega)
  have hexec : exec (.holdCfgWrite p l v 0xF) s = settled (acceptWrite s p r a v 0xF) := by
    rw [← he, haeq]
    rfl
  have hlogged : discardLogged s r a = !(!s.bit Reg.HLD_LOCK 0 && l.all (fun l => holdState s l.val)) := by
    cases l with
    | none =>
      have hb : r.base = Reg.HLD_FILTER := hbase
      simp [discardLogged, hb, Reg.HLD_FILTER, holdCfgLocked]
    | some l =>
      have hb : r.base = 0x20090100 := hbase
      have hi : (a - 0x20090100) / 4 = l.val := by
        rw [haeq]
        unfold Reg.HLD_LCFG
        dsimp only
        omega
      simp [discardLogged, hb, Reg.HLD_FILTER, holdCfgLocked, hi]
  by_cases ho : (!s.bit Reg.HLD_LOCK 0 && l.all (fun l => holdState s l.val)) = true
  · refine ⟨_, hexec, ?_⟩
    rw [if_pos ho]
    have hl : discardLogged s r a = false := by rw [hlogged, ho]; rfl
    have hne : r.base ≠ 0x20081024 := by
      rw [hbase]
      split <;> decide
    rw [acceptWrite_box hl (by omega), actBox_store ⟨ha.1, ha.2.1⟩ ha.2.2 hne]
    have hlock : rwlLocked s a = false := by
      unfold rwlLocked
      rw [if_neg (by omega), if_neg (by omega)]
    have h := storeReg_under (s := s) (a := a) (by omega) (r := r) (m := m)
      (fun f hfm => Or.inr ⟨hacc f (hf ▸ hfm), hlock⟩) (by rw [hf, hmask, hm]) p.origin v 0xF
    rwa [mergeBe_full] at h
  · refine ⟨_, hexec, ?_⟩
    rw [if_neg ho]
    have hl : discardLogged s r a = true := by rw [hlogged, Bool.eq_false_iff.2 ho]; rfl
    unfold acceptWrite
    dsimp only
    rw [if_pos hl, discarded, if_neg (by omega)]
    exact Eventful.regChange _ _ _ _ _ _

/-- A write beside an event's record reaches both states alike. -/
theorem Eventful.wr_wr {s t : State} (h : Eventful s t) (a : Nat) (v : Word) : Eventful (s.wr a v) (t.wr a v) := by
  obtain ⟨h1, h2⟩ := h
  refine ⟨?_, fun b hb => ?_⟩
  · intro q hq
    have hq' := h1 q hq
    have hr : q ∉ [Part.regs] := fun hm => hq (by simp_all)
    have e1 := AllBut.wr s a v q hr
    have e2 := AllBut.wr t a v q hr
    cases q <;> exact Eq.trans e2 (Eq.trans hq' (Eq.symm e1))
  · by_cases hab : b = a
    · subst hab
      rw [State.rd_wr_self, State.rd_wr_self]
    · rw [State.rd_wr_of_ne _ _ hab, State.rd_wr_of_ne _ _ hab, h2 b hb]

theorem Eventful.setBit_setBit {s t : State} (h : Eventful s t) {a : Nat} (ha : ¬ recorderWord a) (i : Nat) (b : Bool) :
    Eventful (s.setBit a i b) (t.setBit a i b) := by
  have h2 := h.2 a ha
  unfold State.setBit State.setF
  rw [h2]
  exact h.wr_wr a _

/-- HLD_LOCK sets the lock, logged (R160). -/
theorem holdLockWrite_eq (hw : Writer s p Reg.HLD_LOCK) (h0 : s.bit Reg.HLD_LOCK 0 = false) :
    ∃ t, exec (.holdLockWrite p) s = settled t ∧
      Eventful ((s.setBit Reg.HLD_LOCK 0 true).setBit Reg.HLD_STAT 1 true) t := by
  have hrow : RowIs Reg.HLD_LOCK 0x20090048 [⟨0, 0, .rs, true, .p⟩] := rowIs_of (by decide +kernel)
  obtain ⟨r, hbase, hf, he⟩ := plainRow 1 0xF hw hrow (by unfold PlainAddr; decide) (by decide)
  have hlogged : discardLogged s r Reg.HLD_LOCK = false := by
    simp [discardLogged, hbase, Reg.HLD_FILTER]
  obtain ⟨w, hw0⟩ : ∃ w, w = noteChange s p.origin r Reg.HLD_LOCK (s.rd Reg.HLD_LOCK) 1 0xF := ⟨_, rfl⟩
  have hev : Eventful s w := hw0 ▸ Eventful.noteChange _ _ _ _ _ _ _
  have hlock : ¬ recorderWord Reg.HLD_LOCK := by unfold recorderWord; decide
  have hstat : ¬ recorderWord Reg.HLD_STAT := by unfold recorderWord; decide
  have hacc : acceptWrite s p r Reg.HLD_LOCK 1 0xF = holdLock w := by
    rw [acceptWrite_box hlogged (by decide), mergeBe_full, hw0]
    rfl
  refine ⟨holdLock w, he.trans (congrArg settled hacc), ?_⟩
  rw [holdLock, if_neg (by rw [bit_of_rd (hev.2 _ hlock), h0]; decide)]
  exact ((hev.setBit_setBit hlock 0 true).setBit_setBit hstat 1 true).trans (Eventful.log _ _ _ _ _)

end

/-- Settles O35: the load by its registers and its end, the extents by their state field, the hold registers by their locks. -/
theorem programLoadsAndExtents : Obligations.ProgramLoadsAndExtents := by
  refine ⟨fun s p n => ⟨fun hw => ⟨pgmLoad_busy hw, pgmLoad_starts hw⟩, fun r hp hr hb => progLoaded_waits hp hr hb,
      fun l hp hl hr => ⟨fun c i hf => progLoaded_refused hp hl hr hf, progLoaded_accepted hp hl hr⟩⟩,
    fun s p x v hw => ?_, fun s p high m => holdPendWrite_eq rfl, fun s p l v => holdCfgWrite_eq rfl rfl,
    fun s p hw h0 => holdLockWrite_eq hw h0⟩
  obtain ⟨t, ht, he⟩ := extentWrite_eq (v := v) hw
  refine ⟨fun hs hv => ⟨t, ?_, he⟩, fun hs hv => ⟨t, ?_, he⟩, fun hs hv => ⟨t, ?_, he⟩, fun hs => ⟨t, ?_, he⟩⟩
  · rwa [extStored_of_used hs, hv, extStateWrite_freed hs] at ht
  · rwa [extStored_of_used hs, hv, extStateWrite_armed hs] at ht
  · rwa [extStored_of_used hs, extStateWrite_other hs hv] at ht
  · rwa [extStored, if_pos hs] at ht

end Sys2Proof.Machine
end

section
/-! O36: the registers of the Examiner, the signature unit, ILK_ARM and the measurement extension. -/

namespace Sys2Proof.Machine

section
variable {s : State} {c : Fin 2}

/-! ### The write of a unit's register by a core -/

/-- A core's write of a unit's register acts for that core (R73, R218-R222, R232, R306). -/
theorem acceptWrite_unit {r : RegRow} {a : Nat} {v : Word} {be : BitVec 4} (hu : isUnit a = true)
    (ha : 0x20010000 ≤ a ∧ a < 0x20040000 ∨ 0x20500000 ≤ a) (hb : r.base < 0x20090000 ∨ 0x20101000 ≤ r.base) :
    acceptWrite s (.core c) r a v be = actUnit s (Party.core c).origin c r a v (mergeBe 0 v be) be := by
  have hlogged : discardLogged s r a = false := discardLogged_eq_false hb
  have hquiet : discardQuiet s a = false := discardQuiet_eq_false (by omega)
  unfold acceptWrite
  dsimp only
  rw [if_neg (by rw [hlogged]; decide), if_neg (by rw [hquiet]; decide), if_neg (by omega), if_neg (by omega), if_neg (by omega),
    if_neg (by omega), if_pos hu]

theorem unitRow {a base : Nat} {fields : List Field} (v : Word) (hw : Writer s (.core c) a) (hrow : RowIs a base fields)
    (hu : isUnit a = true) (ha : 0x20010000 ≤ a ∧ a < 0x20040000 ∨ 0x20500000 ≤ a ∧ a < 0x20600000)
    (hb : base < 0x20090000 ∨ 0x20101000 ≤ base) : ∃ r : RegRow, r.base = base ∧ r.fields = fields ∧
      writeRow (.core c) a v 0xF s = settled (actUnit s (Party.core c).origin c r a v v 0xF) := by
  have hplain : PlainAddr a := by
    refine ⟨by omega, by omega, by omega, ?_⟩
    unfold Reg.VIN_0_EVR_CURSOR
    omega
  obtain ⟨r, hr, hbase, hpl, hf⟩ := hrow
  refine ⟨r, hbase, hf, ?_⟩
  rw [writeRow_privileged v 0xF hw rfl hr hpl hplain, acceptWrite_unit hu (by omega) (by rw [hbase]; exact hb), mergeBe_full]

/-! ### The Examiner's lanes -/

section
variable {l : Fin 34}

theorem rowIs_exmSubmit (l : Fin 34) : RowIs (Reg.EXM_LANE_SUBMIT l.val) 0x20031000 [⟨31, 6, .wt, false, .p⟩] :=
  rowIs_of (by revert l; decide +kernel)

theorem rowIs_exmAbort (l : Fin 34) :
    RowIs (Reg.EXM_LANE_ABORT l.val) 0x20031004 [⟨0, 0, .wt, false, .p⟩, ⟨1, 1, .wt, false, .p⟩] :=
  rowIs_of (by revert l; decide +kernel)

theorem rowIs_exmEnd (l : Fin 34) : RowIs (Reg.EXM_LANE_END l.val) 0x20031008 [⟨0, 0, .wt, false, .p⟩] :=
  rowIs_of (by revert l; decide +kernel)

/-- A write of a lane's register at offset `o` of its page (R216). -/
theorem laneRow {o base : Nat} {fields : List Field} (v : Word) (ho : o < 0x100) (hw : Writer s (.core c) (0x20031000 + o + l.val * 0x100))
    (hrow : RowIs (0x20031000 + o + l.val * 0x100) base fields) (hb : base < 0x20090000) : ∃ r : RegRow, r.base = base ∧
      (0x20031000 + o + l.val * 0x100 - 0x20031000) / 0x100 = l.val ∧
      writeRow (.core c) (0x20031000 + o + l.val * 0x100) v 0xF s =
        settled (actUnit s (Party.core c).origin c r (0x20031000 + o + l.val * 0x100) v v 0xF) := by
  have hl := l.isLt
  have hu : isUnit (0x20031000 + o + l.val * 0x100) = true := by
    unfold isUnit
    rw [decide_eq_true (by omega)]
    rfl
  obtain ⟨r, hbase, -, he⟩ := unitRow v hw hrow hu (by omega) (by omega)
  exact ⟨r, hbase, by omega, he⟩

theorem exmSubmit_row {desc : Word} (hw : Writer s (.core c) (Reg.EXM_LANE_SUBMIT l.val)) :
    exec (.exmSubmit (.core c) l desc) s = settled (exmSubmit s c l.val (desc &&& fieldMask 31 6).toNat) := by
  obtain ⟨r, hbase, hi, he⟩ := laneRow (o := 0) desc (by decide) hw (rowIs_exmSubmit l) (by decide)
  refine he.trans (congrArg settled ?_)
  rw [actUnit, hi]
  exact if_pos hbase

theorem exmAbort_row {v : Word} (hw : Writer s (.core c) (Reg.EXM_LANE_ABORT l.val)) :
    writeRow (.core c) (Reg.EXM_LANE_ABORT l.val) v 0xF s = settled (exmAbort s c l.val (v.getLsbD 0) (v.getLsbD 1)) := by
  obtain ⟨r, hbase, hi, he⟩ := laneRow (o := 4) v (by decide) hw (rowIs_exmAbort l) (by decide)
  refine he.trans (congrArg settled ?_)
  rw [actUnit, hi]
  exact (if_neg (by omega)).trans (if_pos hbase)

theorem exmEnd_row (hw : Writer s (.core c) (Reg.EXM_LANE_END l.val)) :
    exec (.exmEnd (.core c) l) s = settled (exmEndWrite s l.val) := by
  obtain ⟨r, hbase, hi, he⟩ := laneRow (o := 8) 1 (by decide) hw (rowIs_exmEnd l) (by decide)
  refine he.trans (congrArg settled ?_)
  rw [actUnit, hi]
  exact (if_neg (by omega)).trans ((if_neg (by omega)).trans (if_pos hbase))

/-! ### Submission -/

section
variable {a : Nat}

theorem exmSubmit_started (hd : exmDescOk s c a = true) (hh : (s.lane l.val).holder = none) : exmSubmit s c l.val a =
    syncLane (exmStatus (s.setLane l.val { s.lane l.val with holder := some (exmJobOf s c a) }) (exmJobOf s c a) 0x02) l.val := by
  rw [exmSubmit]
  dsimp only
  rw [if_neg (by simp [hd]), hh]

theorem exmSubmit_held (hd : exmDescOk s c a = true) (hh : (s.lane l.val).holder.isSome = true) : exmSubmit s c l.val a =
    (if bitOf (leAt (s.rdMemN a 64) 1 1) 2 = true ∨ 4 ≤ (s.lane l.val).queue.length then
      exmLast ((exmStatus s (exmJobOf s c a) 0x10).inc (Reg.EXM_LANE_BUSY_COUNT l.val)) l.val 0x10 false false
    else syncLane (exmStatus (s.setLane l.val { s.lane l.val with queue := (s.lane l.val).queue ++ [exmJobOf s c a] })
      (exmJobOf s c a) 0x01) l.val) := by
  obtain ⟨j, hj⟩ := Option.isSome_iff_exists.1 hh
  rw [exmSubmit]
  dsimp only
  rw [if_neg (by simp [hd]), hj]

theorem exmSubmit_malformed (hd : exmDescOk s c a = false) : exmSubmit s c l.val a =
    (exmLast (exmStatus s ⟨c, a, 0, false, false, 0, 0, 0, 0, 0, []⟩ 0x11) l.val 0x11 false false).raise 2 := if_pos hd

end

/-! ### The end of a job -/

section
variable {j : ExmJob} (hj : (s.lane l.val).holder = some j)
include hj

theorem exmAbortHolder_of : exmAbortHolder s l.val = exmEnd s l.val j 0x13 false false none := by
  rw [exmAbortHolder, hj]

theorem exmEndWrite_of : exmEndWrite s l.val = if j.flash = true ∧ j.fed.length < j.len then
      exmEnd (s.log Ev.LENGTH_MISMATCH .examiner l.val (leBytes 8 j.len ++ leBytes 8 j.fed.length ++ leBytes 8 j.tag))
        l.val j 0x12 false true none
    else s := by
  rw [exmEndWrite, hj]

theorem comparesFlash_of : comparesFlash s l.val = (j.flash && j.compare && decide (j.len ≤ j.fed.length)) := by
  rw [comparesFlash, hj]

variable (hp : s.pwr.down = false) (hr : domState s 1 = 0)
include hp hr

omit hj in
theorem exmJobDone_of {err : Bool} {fault : Option Bool} {r : State × Bool} (h : exmDone s l.val err fault = r) :
    exec (.exmJobDone l err fault) s = settled (exmFollow r.1 l.val r.2 (comparesFlash s l.val) (sfdpBytes s l.val)) := by
  subst h
  show execExmJobDone l err fault s = _
  rw [execExmJobDone, actSettle, act_of hp, if_neg (not_not_intro hr)]
  rfl

theorem exmJobDone_sourceError {fault : Option Bool} (hf : j.flash = false) (hs : sfdpBytes s l.val = none) :
    exec (.exmJobDone l true fault) s = settled (exmEnd s l.val j 0x13 false false none) := by
  have hd : exmDone s l.val true fault = (exmEnd s l.val j 0x13 false false none, false) := by
    rw [exmDone, hj]
    exact (if_neg (by simp [hf])).trans (if_pos ⟨hf, rfl⟩)
  rw [exmJobDone_of hp hr hd, hs, comparesFlash_of hj, hf]
  rfl

theorem exmJobDone_waits {err : Bool} {fault : Option Bool} (hf : j.flash = true) (hlen : j.fed.length < j.len) :
    exec (.exmJobDone l err fault) s = settled s := by
  have hd : exmDone s l.val err fault = (s, false) := by
    rw [exmDone, hj]
    exact if_pos ⟨hf, hlen⟩
  have hs : sfdpBytes s l.val = none := by
    rw [sfdpBytes, hj]
    exact if_neg fun h => by omega
  rw [exmJobDone_of hp hr hd, hs, comparesFlash_of hj, decide_eq_false (by omega), Bool.and_false]
  rfl

section
variable {err : Bool} (hlen : j.flash = true → j.len ≤ j.fed.length) (herr : err = true → j.flash = true) {k : ExmJob} {t : State}
  (hk : k = { j with fed := if j.flash then j.fed else s.rdBytesN j.src j.len })
  (ht : t = syncLane (s.setLane l.val { s.lane l.val with holder := some k }) l.val)
include hlen herr hk ht

omit hp hr in
/-- A job that has its bytes ends by its compare (R217, R221). -/
theorem exmDone_ends (fault : Option Bool) : exmDone s l.val err fault =
    (if j.compare = false then (exmEnd t l.val k 0x03 false false (some (digestOf j.alg [] k.fed)), false)
    else
      let p := flagPair (decide (t.rdMemN j.expected (digestLen j.alg) = digestOf j.alg [] k.fed)) fault
      if p.1 = p.2 then (exmEnd (flagFault t l.val 0 p) l.val k 0x14 p.1 p.2 none, true)
      else (exmEnd t l.val k 0x03 p.1 p.2 (some (digestOf j.alg [] k.fed)), false)) := by
  subst hk ht
  rw [exmDone, hj]
  refine (if_neg ?_).trans ((if_neg ?_).trans rfl)
  · rintro ⟨h1, h2⟩
    have := hlen h1
    omega
  · rintro ⟨h1, h2⟩
    rw [herr h2] at h1
    cases h1

theorem exmJobDone_digest (fault : Option Bool) (hc : j.compare = false) : exec (.exmJobDone l err fault) s =
    settled (exmFollow (exmEnd t l.val k 0x03 false false (some (digestOf j.alg [] k.fed))) l.val false
      (comparesFlash s l.val) (sfdpBytes s l.val)) :=
  exmJobDone_of hp hr (r := (exmEnd t l.val k 0x03 false false (some (digestOf j.alg [] k.fed)), false))
    ((exmDone_ends hj hlen herr hk ht fault).trans (if_pos hc))

theorem exmJobDone_compared {same : Bool} (hs : same = decide (t.rdMemN j.expected (digestLen j.alg) = digestOf j.alg [] k.fed))
    (hc : j.compare = true) : exec (.exmJobDone l err none) s =
    settled (exmFollow (exmEnd t l.val k 0x03 same (!same) (some (digestOf j.alg [] k.fed))) l.val false
      (comparesFlash s l.val) (sfdpBytes s l.val)) := by
  subst hs
  refine exmJobDone_of hp hr (r := (_, false)) ((exmDone_ends hj hlen herr hk ht none).trans ((if_neg (by simp [hc])).trans ?_))
  exact if_neg (by simp [flagPair])

theorem exmJobDone_flagFault (b : Bool) (hc : j.compare = true) : exec (.exmJobDone l err (some b)) s =
    settled (exmFollow (exmEnd ((t.inc Reg.EXM_FLAG_FAULT_COUNT).log Ev.FLAG_PAIR_FAULT .examiner l.val
      (leBytes 1 l.val ++ leBytes 1 0 ++ leBytes 1 (if b then 3 else 0))) l.val k 0x14 b b none) l.val true
      (comparesFlash s l.val) (sfdpBytes s l.val)) := by
  refine exmJobDone_of hp hr (r := (_, true)) ((exmDone_ends hj hlen herr hk ht (some b)).trans ((if_neg (by simp [hc])).trans ?_))
  cases b <;> rfl

end

end

end

/-! ### The other units -/

theorem sigAbort_row (hw : Writer s (.core c) Reg.SIG_ABORT) : exec (.sigAbort (.core c)) s = settled (sigAbortMine s c) := by
  obtain ⟨r, hbase, -, he⟩ := unitRow 1 hw (rowIs_of (base := 0x20038010) (fields := [⟨0, 0, .wt, false, .p⟩]) (by decide +kernel))
    (by decide) (by decide) (by decide)
  refine he.trans (congrArg settled ?_)
  unfold actUnit
  rw [if_neg (by omega), if_neg (by omega), if_neg (by omega), if_neg (by decide), if_pos rfl]
  rfl

/-- A 1 written to ILK_ARM drops the armed handle of the writing core (R73). -/
theorem ilkArmWrite_row {m : Word} {hs : List Nat} (hw : Writer s (.core c) Reg.ILK_ARM)
    (hhs : hs = (List.range 4).filter (fun h => m.getLsbD h && ownsHandle c h && (s.handle h).state == .armed)) :
    exec (.ilkArmWrite (.core c) m) s = settled (hs.foldl (fun u h => dropWith u h 1 false) s) := by
  subst hhs
  obtain ⟨r, hbase, -, he⟩ := unitRow m hw (rowIs_of (base := 0x20010008) (fields := [⟨3, 0, .rc, true, .p⟩]) (by decide +kernel))
    (by decide) (by decide) (by decide)
  refine he.trans (congrArg settled ?_)
  unfold actUnit
  rw [if_neg (by omega), if_neg (by omega), if_neg (by omega), if_neg (by decide), if_neg (by decide), if_pos rfl]

/-- The fields of ATT_MREG_EXT_CTL: register, length and go (R306). -/
def mregFields : List Field := [⟨3, 0, .rw, false, .p⟩, ⟨16, 4, .rw, false, .p⟩, ⟨31, 31, .wt, false, .p⟩]

theorem regNew_mreg {r : RegRow} (h : r.fields = mregFields) (l : Bool) (old v t : Word) :
    regNew r l old (v ||| 0x80000000) t = (old &&& ~~~0x0001FFFF) ||| (v &&& 0x0001FFFF) := by
  have hsplit : regNew r l old (v ||| 0x80000000) t =
      underMask (underMask old (v ||| 0x80000000) (fieldMask 3 0)) (v ||| 0x80000000) (fieldMask 16 4) := by
    rw [regNew, h]
    rfl
  have hm : fieldMask 3 0 ||| fieldMask 16 4 = 0x0001FFFF := by decide
  have hgo : (v ||| 0x80000000) &&& 0x0001FFFF = v &&& 0x0001FFFF := by
    refine BitVec.eq_of_getLsbD_eq fun i hi => ?_
    have hz : BitVec.getLsbD (0x80000000 : Word) i = true → BitVec.getLsbD (0x0001FFFF : Word) i = false := by
      revert i
      decide
    rw [BitVec.getLsbD_and, BitVec.getLsbD_and, BitVec.getLsbD_or]
    cases h1 : BitVec.getLsbD (0x80000000 : Word) i with
    | false => rw [Bool.or_false]
    | true => rw [hz h1, Bool.and_false, Bool.and_false]
  rw [hsplit, underMask_underMask, hm, underMask, hgo]

/-- An extension with go stores its register and length and takes the bytes they describe, or is refused (R306). -/
theorem mregExtendGo_row {v : Word} (hw : Writer s (.core c) Reg.ATT_MREG_EXT_CTL) : ∃ t,
    Eventful (s.wr Reg.ATT_MREG_EXT_CTL ((s.rd Reg.ATT_MREG_EXT_CTL &&& ~~~0x0001FFFF) ||| (v &&& 0x0001FFFF))) t ∧
      exec (.mregExtendGo (.core c) v) s = settled (mregGo t c) := by
  obtain ⟨r, hbase, hf, he⟩ := unitRow (v ||| 0x80000000) hw (rowIs_of (base := 0x20500404) (fields := mregFields)
    (by decide +kernel)) (by decide) (by decide) (by decide)
  have hgo : (v ||| 0x80000000).getLsbD 31 = true := by
    rw [BitVec.getLsbD_or]
    exact Bool.or_eq_true_iff.2 (Or.inr (by decide))
  refine ⟨storeReg s (Party.core c).origin r Reg.ATT_MREG_EXT_CTL (v ||| 0x80000000) 0xF, ?_, he.trans (congrArg settled ?_)⟩
  · unfold storeReg
    dsimp only
    rw [canonReg_of (by decide), mergeBe_full, regNew_mreg hf]
    exact Eventful.noteChange _ _ _ _ _ _ _
  · unfold actUnit
    rw [if_neg (by omega), if_neg (by omega), if_neg (by omega), if_neg (by decide), if_neg (by decide), if_neg (by decide),
      if_pos rfl, if_pos hgo]

end

/-- Settles O36: each unit's register by what its write triggers, and the end of an Examiner job. -/
theorem unitRegisters : Obligations.UnitRegisters := by
  intro s c p
  refine ⟨fun l desc hw => ?_, fun l j hj => ⟨fun hw => ?_, fun hw => ?_, fun fault hp hr hf hs => exmJobDone_sourceError hj hp hr hf hs,
      fun err fault hp hr hf hlen => exmJobDone_waits hj hp hr hf hlen⟩, fun l hw => ?_,
    fun l j err hj hp hr hlen herr => ⟨fun fault hc => exmJobDone_digest hj hp hr hlen herr rfl rfl fault hc,
      fun hc => exmJobDone_compared hj hp hr hlen herr rfl rfl rfl hc,
      fun b hc => exmJobDone_flagFault hj hp hr hlen herr rfl rfl b hc⟩,
    sigAbort_row, fun m hs hw hhs => ilkArmWrite_row hw hhs, fun v hw => mregExtendGo_row hw⟩
  · refine ⟨fun hd hh => ?_, fun hd hh hq => ?_, fun hd hh hq => ?_, fun hd => ⟨⟨c, _, 0, false, false, 0, 0, 0, 0, 0, []⟩, rfl, rfl, ?_⟩⟩
    · rw [exmSubmit_row hw, exmSubmit_started hd hh]
    · rw [exmSubmit_row hw, exmSubmit_held hd hh, if_neg]
      obtain ⟨h1, h2⟩ := hq
      simpa [Nat.not_le.2 h2] using h1
    · rw [exmSubmit_row hw, exmSubmit_held hd hh, if_pos]
      by_contra hn
      obtain ⟨h1, h2⟩ := not_or.1 hn
      exact hq ⟨by simpa using h1, Nat.not_le.1 h2⟩
    · exact (exmSubmit_row hw).trans (congrArg settled (exmSubmit_malformed hd))
  · exact (exmAbort_row hw).trans (congrArg settled (exmAbortHolder_of hj))
  · rw [exmEnd_row hw, exmEndWrite_of hj]
  · exact exmAbort_row hw

end Sys2Proof.Machine
end

section
/-! O37: what each operation of the signature unit leaves of the job at the head of its pipe. -/

namespace Sys2Proof.Machine

section
variable {s : State} {j : SigJob}

/-- A usable key slot: its number names one and it is of the type asked (R233). -/
theorem sigKeyOk_iff {ty : Nat} : sigKeyOk s j ty = true ↔ j.key < 16 ∧ (s.sigKey j.key).ty = ty := by
  simp [sigKeyOk]

theorem sigKeyOk_false {ty : Nat} (h : ¬ (j.key < 16 ∧ (s.sigKey j.key).ty = ty)) : sigKeyOk s j ty = false :=
  Bool.eq_false_iff.2 fun hk => h (sigKeyOk_iff.1 hk)

theorem not_sigKeyOk_false {ty : Nat} (h : j.key < 16 ∧ (s.sigKey j.key).ty = ty) : ¬ sigKeyOk s j ty = false := by
  simp [sigKeyOk_iff.2 h]

/-! ### The common ends -/

theorem withRandom_ok {r : SigEnd × State} (h : rbgOk s = true) : withRandom s j r = r := if_pos h

theorem withRandom_failing {r : SigEnd × State} (h : rbgOk s = false) : withRandom s j r = ((0x16, []), rbgStops s (.lc j.core)) :=
  if_neg (by simp [h])

theorem withOutSlot_ok {r : SigEnd × State} (h : j.out < 16) : withOutSlot s j r = r := if_neg (by omega)

theorem withOutSlot_none {r : SigEnd × State} (h : 16 ≤ j.out) : withOutSlot s j r = ((0x14, []), s) := if_pos h

/-- The job at the head of a pipe, not yet carried out, is carried out by its operation (R232). -/
theorem sigOp_carried {n op : Nat} {js : List SigJob} {f : State → SigJob → SigEnd × State} (hp : s.pwr.down = false)
    (hr : domState s 1 = 0) (hj : sigPipe s n = j :: js) (hd : j.done = none) (ho : j.op = op) {st : Nat} {out : List Byte} {t : State}
    (hf : f s j = ((st, out), t)) : sigOp s n op f = jobCarried t n j js st out := by
  rw [sigOp, actSettle, act_of hp, if_pos hr, sigRun, hj]
  dsimp only
  rw [if_neg (by simp [ho, hd]), hf]
  rfl

/-! ### Verifications -/

theorem opEcdsaVerify_eq : opEcdsaVerify s j =
    (if j.buf.len1 = 48 ∧ j.buf.len2 = 96 ∧ j.buf.len3 = 97 then
      (verdictEnd (verifySig 1 (sigIn3 s j.buf) (sigIn1 s j.buf) (sigIn2 s j.buf)), s) else ((0x12, []), s)) := by
  unfold opEcdsaVerify
  by_cases h : j.buf.len1 = 48 ∧ j.buf.len2 = 96 ∧ j.buf.len3 = 97
  · exact (if_neg (by tauto)).trans (if_pos h).symm
  · exact (if_pos (by tauto)).trans (if_neg h).symm

theorem opMldsaVerify_eq : opMldsaVerify s j =
    (if j.buf.len1 ≤ 65536 ∧ j.buf.len2 = 4627 ∧ j.buf.len3 = 2592 then
      (verdictEnd (verifySig 2 (sigIn3 s j.buf) (sigIn1 s j.buf) (sigIn2 s j.buf)), s) else ((0x12, []), s)) := by
  unfold opMldsaVerify
  by_cases h : j.buf.len1 ≤ 65536 ∧ j.buf.len2 = 4627 ∧ j.buf.len3 = 2592
  · exact (if_neg (by omega)).trans (if_pos h).symm
  · exact (if_pos (by omega)).trans (if_neg h).symm

theorem opLmsVerify_eq : opLmsVerify s j =
    (if j.buf.len1 ≤ 65536 ∧ (j.buf.len3 = 48 ∨ j.buf.len3 = 56) then
      (verdictEnd (verifySig 3 (sigIn3 s j.buf) (sigIn1 s j.buf) (sigIn2 s j.buf)), s) else ((0x12, []), s)) := by
  unfold opLmsVerify
  by_cases h : j.buf.len1 ≤ 65536 ∧ (j.buf.len3 = 48 ∨ j.buf.len3 = 56)
  · exact (if_neg (by omega)).trans (if_pos h).symm
  · exact (if_pos (by omega)).trans (if_neg h).symm

/-- A verification's command: VALID, INVALID, or BAD_LENGTH where its lengths are not its operation's. -/
theorem sigOp_verify {n op : Nat} {js : List SigJob} {f : State → SigJob → SigEnd × State} (hp : s.pwr.down = false)
    (hr : domState s 1 = 0) (hj : sigPipe s n = j :: js) (hd : j.done = none) (ho : j.op = op) {p : Prop} [Decidable p] {b : Bool}
    (hf : f s j = if p then (verdictEnd b, s) else ((0x12, []), s)) :
    sigOp s n op f = if p then jobCarried s n j js (if b then 4 else 5) [] else jobCarried s n j js 0x12 [] := by
  by_cases h : p
  · rw [if_pos h] at hf ⊢
    exact sigOp_carried hp hr hj hd ho hf
  · rw [if_neg h] at hf ⊢
    exact sigOp_carried hp hr hj hd ho hf

/-! ### Signatures -/

theorem opEcdsaSign_length (h : j.buf.len1 ≠ 48) : opEcdsaSign s j = ((0x12, []), s) := if_pos h

theorem opEcdsaSign_key (h : j.buf.len1 = 48) (hk : ¬ (j.key < 16 ∧ (s.sigKey j.key).ty = 1)) :
    opEcdsaSign s j = ((0x14, []), s) := (if_neg (not_not_intro h)).trans (if_pos (sigKeyOk_false hk))

theorem opEcdsaSign_draw (h : j.buf.len1 = 48) (hk : j.key < 16 ∧ (s.sigKey j.key).ty = 1) : opEcdsaSign s j =
    withRandom s j ((0x03, (ecdsaDraw s (s.sigKey j.key).bytes (sigIn1 s j.buf) 8).1),
      (ecdsaDraw s (s.sigKey j.key).bytes (sigIn1 s j.buf) 8).2) :=
  (if_neg (not_not_intro h)).trans (if_neg (not_sigKeyOk_false hk))

theorem opMldsaSign_length (h : 65536 < j.buf.len1) : opMldsaSign s j = ((0x12, []), s) := if_pos h

theorem opMldsaSign_key (h : j.buf.len1 ≤ 65536) (hk : ¬ (j.key < 16 ∧ (s.sigKey j.key).ty = 2)) :
    opMldsaSign s j = ((0x14, []), s) := (if_neg (by omega)).trans (if_pos (sigKeyOk_false hk))

theorem opMldsaSign_sign (h : j.buf.len1 ≤ 65536) (hk : j.key < 16 ∧ (s.sigKey j.key).ty = 2) : opMldsaSign s j =
    (if bitOf j.flags 0 then withRandom s j
      (mldsaEnd { s with freeCtr := s.freeCtr + 1 } j (mlSign (s.sigKey j.key).bytes (sigIn1 s j.buf)
        (takePad 32 (Config.random s.freeCtr 32))))
    else mldsaEnd s j (mlSign (s.sigKey j.key).bytes (sigIn1 s j.buf) (List.replicate 32 0))) :=
  (if_neg (by omega)).trans (if_neg (not_sigKeyOk_false hk))

/-- The end of an ML-DSA signing job, its signature found or not (R235). -/
def signedEnd (t : State) (n : Nat) (j : SigJob) (js : List SigJob) (sg : Option (List Byte)) : Out :=
  match sg with
  | some g => jobCarried t n j js 3 (takePad 4627 g)
  | none => jobCarried ((t.inc Reg.SIG_EXHAUSTED).log Ev.SIGN_EXHAUSTED (.lc j.core) 0 (leBytes 1 j.key ++ leBytes 4 j.tag))
      n j js 0x15 []

theorem sigOp_signed {n op : Nat} {js : List SigJob} {f : State → SigJob → SigEnd × State} (hp : s.pwr.down = false)
    (hr : domState s 1 = 0) (hj : sigPipe s n = j :: js) (hd : j.done = none) (ho : j.op = op) {t : State} {sg : Option (List Byte)}
    (hf : f s j = mldsaEnd t j sg) : sigOp s n op f = signedEnd t n j js sg := by
  cases sg with
  | some g => exact sigOp_carried hp hr hj hd ho hf
  | none => exact sigOp_carried hp hr hj hd ho hf

/-! ### Keys and secrets -/

theorem opEcEphemeral_slot (h : 16 ≤ j.out) : opEcEphemeral s j = ((0x14, []), s) := withOutSlot_none h

theorem opEcEphemeral_draw (h : j.out < 16) : opEcEphemeral s j = withRandom s j
    ((0x03, takePad 97 (ecPublic (takePad 48 (Config.random s.freeCtr 48)))),
      ({ s with freeCtr := s.freeCtr + 1 } : State).setSigKey j.out ⟨3, true, false, takePad 48 (Config.random s.freeCtr 48)⟩) :=
  withOutSlot_ok h

theorem opEcdh_length (h : j.buf.len3 ≠ 97) : opEcdh s j = ((0x12, []), s) := if_pos h

theorem opEcdh_key (h : j.buf.len3 = 97) (hk : ¬ (j.key < 16 ∧ (s.sigKey j.key).ty = 3) ∨ 16 ≤ j.out) :
    opEcdh s j = ((0x14, []), s) := by
  refine (if_neg (not_not_intro h)).trans ?_
  by_cases hok : j.key < 16 ∧ (s.sigKey j.key).ty = 3
  · exact (if_neg (not_sigKeyOk_false hok)).trans (withOutSlot_none (hk.resolve_left (not_not_intro hok)))
  · exact if_pos (sigKeyOk_false hok)

theorem opEcdh_invalid (h : j.buf.len3 = 97) (hk : j.key < 16 ∧ (s.sigKey j.key).ty = 3) (ho : j.out < 16)
    (hq : ecDecode (sigIn3 s j.buf) = none) : opEcdh s j = ((0x05, []), s) := by
  refine (if_neg (not_not_intro h)).trans ((if_neg (not_sigKeyOk_false hk)).trans ((withOutSlot_ok ho).trans ?_))
  rw [hq]

theorem opEcdh_shared (h : j.buf.len3 = 97) (hk : j.key < 16 ∧ (s.sigKey j.key).ty = 3) (ho : j.out < 16) {q : Nat × Nat}
    (hq : ecDecode (sigIn3 s j.buf) = some q) : opEcdh s j =
      ((0x03, []), s.setSigKey j.out ⟨4, true, false, takePad 48 (ecShared (s.sigKey j.key).bytes (some q))⟩) := by
  refine (if_neg (not_not_intro h)).trans ((if_neg (not_sigKeyOk_false hk)).trans ((withOutSlot_ok ho).trans ?_))
  rw [hq]

section
variable (h1 : j.buf.len1 ≤ 256) (h2 : j.buf.len2 ≤ 64)
include h1 h2

theorem opDerive_key (hk : ¬ (j.key < 16 ∧ (s.sigKey j.key).ty = 4)) : opDerive s j = ((0x14, []), s) :=
  (if_neg (by omega)).trans (if_pos (sigKeyOk_false hk))

variable (hk : j.key < 16 ∧ (s.sigKey j.key).ty = 4)
include hk

theorem opDerive_mac (ho : j.out = 0xFF) (he : bitOf j.flags 1 = false) :
    opDerive s j = ((0x03, digestOf 0x12 (s.sigKey j.key).bytes (sigIn1 s j.buf)), s) :=
  (if_neg (by omega)).trans ((if_neg (not_sigKeyOk_false hk)).trans (if_pos ⟨ho, he⟩))

theorem opDerive_slot (ho : 16 ≤ j.out) (hne : ¬ (j.out = 0xFF ∧ bitOf j.flags 1 = false)) : opDerive s j = ((0x14, []), s) :=
  (if_neg (by omega)).trans ((if_neg (not_sigKeyOk_false hk)).trans ((if_neg hne).trans (withOutSlot_none ho)))

theorem opDerive_derives (ho : j.out < 16) : opDerive s j = ((0x03, []), s.free.2.setSigKey j.out
    ⟨if s.free.1.getLsbD 0 then 5 else 4, (s.sigKey j.key).session, false,
      hkdf (s.sigKey j.key).bytes (if bitOf j.flags 1 then some (sigIn2 s j.buf) else none) (sigIn1 s j.buf)
        (if s.free.1.getLsbD 0 then 32 else 48)⟩) :=
  (if_neg (by omega)).trans ((if_neg (not_sigKeyOk_false hk)).trans
    ((if_neg (fun h : j.out = 0xFF ∧ bitOf j.flags 1 = false => by omega)).trans (withOutSlot_ok ho)))

end

theorem opDerive_length (h : 256 < j.buf.len1 ∨ 64 < j.buf.len2) : opDerive s j = ((0x12, []), s) := if_pos h

/-! ### Authenticated encryption -/

theorem opAeadSeal_length (h : j.buf.len3 ≠ 12 ∨ 4096 < j.buf.len2 ∨ 65536 < j.buf.len1) : opAeadSeal s j = ((0x12, []), s) :=
  if_pos h

theorem opAeadSeal_key (h3 : j.buf.len3 = 12) (h2 : j.buf.len2 ≤ 4096) (h1 : j.buf.len1 ≤ 65536)
    (hk : ¬ (j.key < 16 ∧ (s.sigKey j.key).ty = 5)) : opAeadSeal s j = ((0x14, []), s) :=
  (if_neg (by omega)).trans (if_pos (sigKeyOk_false hk))

theorem opAeadSeal_seals (h3 : j.buf.len3 = 12) (h2 : j.buf.len2 ≤ 4096) (h1 : j.buf.len1 ≤ 65536)
    (hk : j.key < 16 ∧ (s.sigKey j.key).ty = 5) : opAeadSeal s j = ((0x03, takePad (j.buf.len1 + 16)
      (aeadSeal (s.sigKey j.key).bytes (sigIn3 s j.buf) (sigIn2 s j.buf) (sigIn1 s j.buf))), s) :=
  (if_neg (by omega)).trans (if_neg (not_sigKeyOk_false hk))

theorem opAeadOpen_length (h : j.buf.len3 ≠ 12 ∨ 4096 < j.buf.len2 ∨ 65552 < j.buf.len1 ∨ j.buf.len1 < 16) :
    opAeadOpen s j = ((0x12, []), s) := if_pos h

section
variable (h3 : j.buf.len3 = 12) (h2 : j.buf.len2 ≤ 4096) (h16 : 16 ≤ j.buf.len1) (h1 : j.buf.len1 ≤ 65552)
include h3 h2 h16 h1

theorem opAeadOpen_key (hk : ¬ (j.key < 16 ∧ (s.sigKey j.key).ty = 5)) : opAeadOpen s j = ((0x14, []), s) :=
  (if_neg (by omega)).trans (if_pos (sigKeyOk_false hk))

variable (hk : j.key < 16 ∧ (s.sigKey j.key).ty = 5)
include hk

theorem opAeadOpen_fails (ho : aeadOpen (s.sigKey j.key).bytes (sigIn3 s j.buf) (sigIn2 s j.buf) (sigIn1 s j.buf) = none) :
    opAeadOpen s j = ((0x05, []), s) := by
  refine (if_neg (by omega)).trans ((if_neg (not_sigKeyOk_false hk)).trans ?_)
  rw [ho]

theorem opAeadOpen_opens {plain : List Byte}
    (ho : aeadOpen (s.sigKey j.key).bytes (sigIn3 s j.buf) (sigIn2 s j.buf) (sigIn1 s j.buf) = some plain) :
    opAeadOpen s j = ((0x03, takePad (j.buf.len1 - 16) plain), s) := by
  refine (if_neg (by omega)).trans ((if_neg (not_sigKeyOk_false hk)).trans ?_)
  rw [ho]

end

/-! ### Key pairs, random bytes and erasure -/

theorem opKeygen_length (h : j.buf.len1 ≠ 1 ∨ leNat (sigIn1 s j.buf) ≠ 1 ∧ leNat (sigIn1 s j.buf) ≠ 2) :
    opKeygen s j = ((0x12, []), s) := if_pos h

section
variable {ty : Nat} (hty : ty = 1 ∨ ty = 2) (h1 : j.buf.len1 = 1) (hi : leNat (sigIn1 s j.buf) = ty)
include hty h1 hi

theorem opKeygen_key (hk : ¬ (j.key < 16 ∧ (s.sigKey j.key).ty = 4) ∨ 16 ≤ j.out) : opKeygen s j = ((0x14, []), s) := by
  refine (if_neg (by omega)).trans ?_
  by_cases hok : j.key < 16 ∧ (s.sigKey j.key).ty = 4
  · exact (if_neg (not_sigKeyOk_false hok)).trans (withOutSlot_none (hk.resolve_left (not_not_intro hok)))
  · exact if_pos (sigKeyOk_false hok)

theorem opKeygen_pair (hk : j.key < 16 ∧ (s.sigKey j.key).ty = 4) (ho : j.out < 16) : opKeygen s j =
    ((0x03, (keyPair ty (s.sigKey j.key).bytes).2), s.setSigKey j.out ⟨ty, false, false, (keyPair ty (s.sigKey j.key).bytes).1⟩) := by
  refine (if_neg (by omega)).trans ((if_neg (not_sigKeyOk_false hk)).trans ((withOutSlot_ok ho).trans ?_))
  rw [hi]

end

theorem opRandom_length (h : j.buf.len1 = 0 ∨ 4096 < j.buf.len1) : opRandom s j = ((0x12, []), s) := if_pos h

theorem opRandom_draw (h0 : 0 < j.buf.len1) (h1 : j.buf.len1 ≤ 4096) : opRandom s j = withRandom s j
    ((0x03, takePad j.buf.len1 (Config.random s.freeCtr j.buf.len1)), { s with freeCtr := s.freeCtr + 1 }) := if_neg (by omega)

theorem opErase_key (h : 16 ≤ j.key ∨ (s.sigKey j.key).ty = 0) : opErase s j = ((0x14, []), s) := if_pos h

theorem opErase_erases (h : j.key < 16) (ht : (s.sigKey j.key).ty ≠ 0) : opErase s j = ((0x03, []), s.setSigKey j.key {}) :=
  if_neg (by omega)

end

/-- Settles O37: each operation's value on the job at the head of its pipe, then the pipe's record of it. -/
theorem signatureOperations : Obligations.SignatureOperations := by
  intro s n j js hp hr hj hd x i1 i2 i3 key has ends drawn verdict noRandom
  have run {op : Nat} {f : State → SigJob → SigEnd × State} (ho : j.op = op) {st : Nat} {out : List Byte} {t : State}
      (hf : f s j = ((st, out), t)) : sigOp s n op f = jobCarried t n j js st out := sigOp_carried hp hr hj hd ho hf
  refine ⟨fun v hv => ?_, fun hn => ?_⟩
  · subst hv
    exact ⟨fun ho => sigOp_verify hp hr hj hd ho opEcdsaVerify_eq, fun ho => sigOp_verify hp hr hj hd ho opMldsaVerify_eq,
      fun ho => sigOp_verify hp hr hj hd ho opLmsVerify_eq⟩
  · subst hn
    refine ⟨fun ho => ⟨fun h => run ho (opEcdsaSign_length h), fun h hk => run ho (opEcdsaSign_key h hk),
        fun h hk hb => run ho ((opEcdsaSign_draw h hk).trans (withRandom_failing hb)),
        fun h hk hb => run ho ((opEcdsaSign_draw h hk).trans (withRandom_ok hb))⟩,
      fun ho => ?_,
      fun ho => ⟨fun h => run ho (opEcEphemeral_slot h), fun h hb => run ho ((opEcEphemeral_draw h).trans (withRandom_failing hb)),
        fun h hb => run ho ((opEcEphemeral_draw h).trans (withRandom_ok hb))⟩,
      fun ho => ⟨fun h => run ho (opEcdh_length h), fun h hk => run ho (opEcdh_key h hk),
        fun h hk hs hq => run ho (opEcdh_invalid h hk hs hq), fun q h hk hs hq => run ho (opEcdh_shared h hk hs hq)⟩,
      fun ho => ⟨fun h => run ho (opDerive_length h), fun h1 h2 hk => run ho (opDerive_key h1 h2 hk),
        fun h1 h2 hk hs he => run ho (opDerive_mac h1 h2 hk hs he), fun h1 h2 hk hs hne => run ho (opDerive_slot h1 h2 hk hs hne),
        fun h1 h2 hk hs => run ho (opDerive_derives h1 h2 hk hs)⟩,
      fun ho => ⟨fun h => run ho (opAeadSeal_length h), fun h3 h2 h1 => ?_⟩,
      fun ho => ⟨fun h => run ho (opAeadOpen_length h), fun h3 h2 h16 h1 => ⟨fun hk => run ho (opAeadOpen_key h3 h2 h16 h1 hk),
        fun hk hop => run ho (opAeadOpen_fails h3 h2 h16 h1 hk hop),
        fun plain hk hop => run ho (opAeadOpen_opens h3 h2 h16 h1 hk hop)⟩⟩,
      fun ho => ⟨fun h => run ho (opKeygen_length h), fun ty hty h1 hi => ⟨fun hk => run ho (opKeygen_key hty h1 hi hk),
        fun hk hs => run ho (opKeygen_pair hty h1 hi hk hs)⟩⟩,
      fun ho => ⟨fun h => run ho (opRandom_length h), fun h0 h1 => ?_⟩,
      fun ho => ⟨fun h => run ho (opErase_key h), fun h ht => run ho (opErase_erases h ht)⟩⟩
    · exact ⟨fun h => run ho (opMldsaSign_length h), fun h hk => run ho (opMldsaSign_key h hk),
        fun h hk hh hb => run ho ((opMldsaSign_sign h hk).trans ((if_pos hh).trans (withRandom_failing hb))),
        fun h hk hh hb => sigOp_signed hp hr hj hd ho ((opMldsaSign_sign h hk).trans ((if_pos hh).trans (withRandom_ok hb))),
        fun h hk hh => sigOp_signed hp hr hj hd ho ((opMldsaSign_sign h hk).trans (if_neg (by rw [hh]; decide)))⟩
    · by_cases hk : j.key < 16 ∧ (s.sigKey j.key).ty = 5
      · exact (run ho (opAeadSeal_seals h3 h2 h1 hk)).trans (if_pos hk).symm
      · exact (run ho (opAeadSeal_key h3 h2 h1 hk)).trans (if_neg hk).symm
    · cases hb : rbgOk s with
      | true => exact run ho ((opRandom_draw h0 h1).trans (withRandom_ok hb))
      | false => exact run ho ((opRandom_draw h0 h1).trans (withRandom_failing hb))

end Sys2Proof.Machine
end

section
/-! O38: the end of a signature job, the random bit generator's health, and the end of an extension. -/

namespace Sys2Proof.Machine

section
variable {s : State}

/-- While the always-on domain has its supply a command that settles gives the settled state. -/
theorem actSettle_of (hp : s.pwr.down = false) (f : State → State) : actSettle s f = settled (f s) := act_of hp _

/-- The random bit generator works once its health tests have passed. -/
theorem rbgOk_rbgPass : rbgOk (rbgPass s) = true := by
  rw [rbgOk, rbgPass, State.bit_setBit _ _ _ _ _ (by decide) (by decide), if_pos rfl]

theorem platformOn_rbgPass : platformOn (rbgPass s) = platformOn s :=
  State.bit_setBit_of_ne _ _ _ _ (by decide)

/-- A health test that passes with the platform off or with a tag key draws nothing. -/
theorem execRbgOk_kept (hp : s.pwr.down = false) (h : platformOn s = false ∨ s.tagKey.isSome = true) :
    execRbgOk s = settled (rbgPass s) := by
  refine (actSettle_of hp _).trans (congrArg settled (if_neg ?_))
  rw [platformOn_rbgPass]
  rintro ⟨hon, hk⟩
  rcases h with h | h
  · exact Bool.false_ne_true (h.symm.trans hon)
  · rw [show s.tagKey = none from hk] at h
    exact Bool.false_ne_true h

/-- A platform start that lacks its tag key draws it when the health tests pass (R134). -/
theorem execRbgOk_draws (hp : s.pwr.down = false) (hon : platformOn s = true) (hk : s.tagKey = none) :
    execRbgOk s = settled { rbgPass s with tagKey := some (takePad 32 (Config.random s.freeCtr 32)), freeCtr := s.freeCtr + 1 } :=
  (actSettle_of hp _).trans (congrArg settled ((if_pos ⟨platformOn_rbgPass.trans hon, hk⟩).trans (if_pos rbgOk_rbgPass)))

/-- The end of the job at a pipe's head, with what its operation made (R230). -/
def jobEnd (s : State) (n : Nat) (j : SigJob) (js : List SigJob) (d : SigEnd) : State :=
  setSigPipe ((sigStatus (s.wrMemN (j.desc + 44) (leBytes 4 d.2.length)) j.core j.desc d.1).raise 3) n js

theorem sigEnd_last {n : Nat} {j : SigJob} {d : SigEnd} (hj : sigPipe s n = [j]) (hd : j.done = some d) :
    sigEnd s n = jobEnd s n j [] d := by
  simp only [sigEnd, hj, hd]; rfl

theorem sigEnd_next {n : Nat} {j k : SigJob} {ks : List SigJob} {d : SigEnd} (hj : sigPipe s n = j :: k :: ks)
    (hd : j.done = some d) : sigEnd s n = sigStatus (jobEnd s n j (k :: ks) d) k.core k.desc 0x02 := by
  simp only [sigEnd, hj, hd]; rfl

theorem execMregExtended_of (hp : s.pwr.down = false) {r : Nat} {v : List Byte} (hx : s.att.ext = some (r, v)) :
    execMregExtended s = settled (attLog (((({ s with att := { s.att with ext := none } } : State).wrBytes (Reg.ATT_MREG r 0) 12
      (sha384 (mreg s r ++ v))).setBit Reg.ATT_MREG_EXT_STAT 0 false).setBit Reg.ATT_MREG_EXT_STAT 1 true)
        Ev.MREG_EXTENDED 0 (leBytes 1 r ++ takePad 16 v)) := by
  rw [execMregExtended, actSettle_of hp, mregDone, hx]
  rfl

theorem execSigJobDone_last (hp : s.pwr.down = false) {n : Fin 3} {j : SigJob} {d : SigEnd} (hr : domState s 1 = 0)
    (hj : sigPipe s n.val = [j]) (hd : j.done = some d) : execSigJobDone n s = settled (jobEnd s n j [] d) := by
  rw [execSigJobDone, actSettle_of hp, if_pos hr, sigEnd_last hj hd]

theorem execSigJobDone_next (hp : s.pwr.down = false) {n : Fin 3} {j k : SigJob} {ks : List SigJob} {d : SigEnd}
    (hr : domState s 1 = 0) (hj : sigPipe s n.val = j :: k :: ks) (hd : j.done = some d) :
    execSigJobDone n s = settled (sigStatus (jobEnd s n j (k :: ks) d) k.core k.desc 0x02) := by
  rw [execSigJobDone, actSettle_of hp, if_pos hr, sigEnd_next hj hd]

end

/-- Settles O38: each event is its own function of the state, taken once the supply is there. -/
theorem jobEndsAndExtensions : Obligations.JobEndsAndExtensions := by
  intro s hp
  refine ⟨fun n j js d hr hj hd => ⟨fun hjs => ?_, fun k ks hjs => ?_⟩, fun test => ?_,
    ⟨execRbgOk_kept hp, execRbgOk_draws hp⟩, fun r v hx => ?_⟩
  · subst hjs
    exact execSigJobDone_last hp hr hj hd
  · subst hjs
    exact execSigJobDone_next hp hr hj hd
  · exact actSettle_of hp fun s => rbgFail s test.toNat
  · exact execMregExtended_of hp hx

end Sys2Proof.Machine
end

section
/-! O40: the service of the transaction at the head of the queue, and what the journal does for it. -/

namespace Sys2Proof.Machine

section
variable {s : State}

/-! ### A transaction comes up for service -/

section
variable {h : Nat} {hs : List Nat}

/-- While nothing is in its journal write, the transaction that comes up leaves the rest queued. -/
theorem popQueue_of_idle (hb : s.ilk.busy = none) (hq : s.ilk.queue = h :: hs) :
    popQueue s = { s with ilk := { s.ilk with queue := hs } } := by
  rw [popQueue, hq, ← hb]
  rfl

/-- The service of the transaction at the head of the queue (R68, R75). -/
def frontServed (s : State) (h : Nat) : State :=
  match serveFault s h with
  | some (st, i) => abortTx (popQueue s) (txHandles s h) (s.handle h).recs st i .interlocking
  | none =>
    if journaledRecs (s.handle h).recs = false then commitTx (popQueue s) (txHandles s h) (s.handle h).recs 0
    else if s.ilk.journal.unsettled = true ∨ s.ilk.journal.space < entryBlocks (s.handle h).recs then s
    else beginJournal s h (s.handle h).recs

theorem serveFront_frontServed (hb : s.ilk.busy = none) (hq : s.ilk.queue = h :: hs) : serveFront s = frontServed s h := by
  rw [serveFront, hb, hq]
  rfl

theorem frontServed_abort {st i : Nat} (hf : serveFault s h = some (st, i)) :
    frontServed s h = abortTx (popQueue s) (txHandles s h) (s.handle h).recs st i .interlocking := by
  rw [frontServed, hf]

theorem frontServed_of_sound (hf : serveFault s h = none) : frontServed s h =
    if journaledRecs (s.handle h).recs = false then commitTx (popQueue s) (txHandles s h) (s.handle h).recs 0
    else if s.ilk.journal.unsettled = true ∨ s.ilk.journal.space < entryBlocks (s.handle h).recs then s
    else beginJournal s h (s.handle h).recs := by
  rw [frontServed, hf]

variable (hc : (txHandles s h).any (fun k => (s.handle k).conflict) = false)

theorem serveFault_conflict (h' : (txHandles s h).any (fun k => (s.handle k).conflict) = true) :
    serveFault s h = some (0x20, 0x1FF) := if_pos h'

include hc in
theorem serveFault_record {f : Nat × Nat} (hf : commitFault s 0 (s.handle h).recs = some f) : serveFault s h = some f := by
  simp only [serveFault, hc, hf]
  rfl

include hc in
theorem serveFault_power (hf : commitFault s 0 (s.handle h).recs = none) :
    serveFault s h = if journaledRecs (s.handle h).recs = true ∧ powerFailing s = true then some (0x25, 0x1FF) else none := by
  simp only [serveFault, hc, hf]
  rfl

end

/-! ### The journal -/

theorem unsettled_iff (j : Journal) : j.unsettled = true ↔ ∃ e ∈ j.entries, e.complete = true ∧ e.applied = false := by
  simp [Journal.unsettled]

theorem mem_sectorsOf (n start k : Nat) : n ∈ sectorsOf start k ↔ ∃ i < k, n = (start + i) % 256 / 8 := by
  simp [sectorsOf, eq_comm]

/-- A home write leaves the Interlocking alone. -/
theorem homeWrite_ilk (r : ActRec) : (homeWrite s r).ilk = s.ilk := by
  have append (t : State) (k : Nat) (b : List Byte) : (homeAppend t k b).ilk = t.ilk := by
    simp only [homeAppend]
    split <;> rfl
  have ring (t : State) (b : List Byte) : (ringAppend t b).ilk = t.ilk := by
    simp only [ringAppend, setRing, State.setF_ilk, (AllBut.wrMemN _ _ _).ilkEq]
    rw [apply_ite State.ilk]
    exact ite_self _
  unfold homeWrite
  split
  · exact append ..
  · exact append ..
  · exact ring ..
  · rfl
  · rfl

theorem foldl_homeWrite_ilk (rs : List ActRec) (s : State) : (rs.foldl homeWrite s).ilk = s.ilk := by
  induction rs generalizing s with
  | nil => rfl
  | cons r rs ih => exact (ih (homeWrite s r)).trans (homeWrite_ilk r)

theorem execCommitServed_frontServed {h : Nat} {hs : List Nat} (hp : s.pwr.down = false) (hl : lineLocked s = true)
    (hb : s.ilk.busy = none) (hq : s.ilk.queue = h :: hs) : execCommitServed s = settled (frontServed s h) := by
  rw [execCommitServed, clockedSettle_of hp hl, serveFront_frontServed hb hq]

/-- What a transaction without a fault comes to: a commit, the wait for the journal, or its journal entry. -/
theorem frontServed_commits {h : Nat} (hf : serveFault s h = none) (hj : journaledRecs (s.handle h).recs = false) :
    frontServed s h = commitTx (popQueue s) (txHandles s h) (s.handle h).recs 0 :=
  (frontServed_of_sound hf).trans (if_pos hj)

theorem frontServed_waits {h : Nat} (hf : serveFault s h = none) (hj : journaledRecs (s.handle h).recs = true)
    (hw : (∃ e ∈ s.ilk.journal.entries, e.complete = true ∧ e.applied = false) ∨
      s.ilk.journal.space < entryBlocks (s.handle h).recs) : frontServed s h = s :=
  (frontServed_of_sound hf).trans ((if_neg (by simp [hj])).trans (if_pos (hw.imp_left (unsettled_iff _).2)))

theorem frontServed_begins {h : Nat} (hf : serveFault s h = none) (hj : journaledRecs (s.handle h).recs = true)
    (hall : ∀ e ∈ s.ilk.journal.entries, e.complete = true → e.applied = true)
    (hsp : entryBlocks (s.handle h).recs ≤ s.ilk.journal.space) : frontServed s h = beginJournal s h (s.handle h).recs := by
  refine (frontServed_of_sound hf).trans ((if_neg (by simp [hj])).trans (if_neg ?_))
  rw [unsettled_iff]
  rintro (⟨e, hm, hcm, hap⟩ | hlt)
  · exact Bool.false_ne_true (hap.symm.trans (hall e hm hcm))
  · omega

theorem execJournalRecordComplete_of {h : Nat} (hp : s.pwr.down = false) (hb : s.ilk.busy = some h) (ok : Bool) :
    execJournalRecordComplete ok s = settled (if ok then
        commitTx { popQueue s with ilk := { (popQueue s).ilk with journal := completeLast s.ilk.journal } } (txHandles s h)
          (s.handle h).recs (s.ilk.journal.next - 1)
      else abortTx ((popQueue s).log Ev.JOURNAL_FAULT .interlocking (subjectDetail (s.handle h).recs)
        (leBytes 4 (s.ilk.journal.next - 1))) (txHandles s h) (s.handle h).recs 0x24 0x1FF .interlocking) := by
  rw [execJournalRecordComplete, actSettle_of hp, journalEnd, hb]
  rfl

theorem journalApplied_of {e : JEntry} (he : s.ilk.journal.entries.find? (fun e => e.complete && !e.applied) = some e) :
    (journalApplied s).home = (e.recs.foldl homeWrite s).home ∧
      (journalApplied s).ilk.journal.entries =
        s.ilk.journal.entries.map (fun x => if x.jseq = e.jseq then { x with applied := true } else x) := by
  rw [journalApplied, he]
  exact ⟨rfl, congrArg (fun i : Ilk => i.journal.entries.map _) (foldl_homeWrite_ilk e.recs s)⟩

theorem execJournalSectorErase_kept (hp : s.pwr.down = false) {n : Fin 32} (hn : sectorFree s n.val = false) :
    execJournalSectorErase n s = .next s := by
  rw [execJournalSectorErase, act_of hp, if_neg (by simp [hn])]

theorem execJournalSectorErase_free (hp : s.pwr.down = false) {n : Fin 32} (hn : sectorFree s n.val = true) :
    execJournalSectorErase n s = .next (eraseSector s n.val) := by
  rw [execJournalSectorErase, act_of hp, if_pos hn]

end

theorem AllBut.eraseSector (s : State) (k : Nat) : AllBut [.ilk] s (eraseSector s k) := by
  intro p hp
  cases p
  case ilk => exact absurd (by decide) hp
  all_goals rfl

/-- Settles O40: the first reason against a transaction ends it; without one it commits, waits or takes its journal entry. -/
theorem journalService : Obligations.JournalService := by
  intro s hp
  refine ⟨fun h hs hl hb hq => ?_, fun h hb => ⟨?_, completeLast s.ilk.journal, ?_, rfl, rfl, rfl, rfl⟩,
    fun e he => ⟨journalApplied s, ?_, journalApplied_of he⟩, fun n => ⟨fun hn => ?_, fun hn => ?_⟩⟩
  · have run := execCommitServed_frontServed hp hl hb hq
    have hpop := popQueue_of_idle hb hq
    have abort {st i : Nat} (hf : serveFault s h = some (st, i)) := run.trans (congrArg settled (hpop ▸ frontServed_abort hf))
    refine ⟨fun hc => abort (serveFault_conflict hc), fun st i hc hf => abort (serveFault_record hc hf), fun hc hf => ?_⟩
    have hpw := serveFault_power hc hf
    refine ⟨fun hj hpf => abort (hpw.trans (if_pos ⟨hj, hpf⟩)), fun hj => ?_, fun hj hpf hw => ?_, fun hj hpf hall hsp => ?_⟩
    · exact run.trans (congrArg settled (hpop ▸ frontServed_commits (hpw.trans (if_neg (by simp [hj]))) hj))
    · exact run.trans (congrArg settled (frontServed_waits (hpw.trans (if_neg (by simp [hpf]))) hj hw))
    · refine ⟨_, _, run.trans (congrArg settled (frontServed_begins (hpw.trans (if_neg (by simp [hpf]))) hj hall hsp)),
        rfl, rfl, rfl, rfl, rfl, rfl, rfl, rfl, fun n => ?_⟩
      rw [List.mem_eraseDups, List.mem_append, mem_sectorsOf]
  · exact execJournalRecordComplete_of hp hb false
  · exact execJournalRecordComplete_of hp hb true
  · exact actSettle_of hp journalApplied
  · exact execJournalSectorErase_kept hp hn
  · exact ⟨eraseSector s n.val, execJournalSectorErase_free hp hn, .eraseSector s n.val, rfl, rfl, rfl, rfl⟩

end Sys2Proof.Machine
end

section
/-! O41: votes, sleep entry, waking and the retained banks of the power domains. -/

namespace Sys2Proof.Machine

section
variable {s : State}

/-! ### Writes of the power block's registers -/

/-- An accepted write of a register of the power block goes to the registers without a unit of their own. -/
theorem acceptWrite_power {p : Party} {r : RegRow} {a : Nat} {v : Word} {be : BitVec 4} (hb : r.base < 0x20090000)
    (ha : 0x20080000 ≤ a ∧ a < 0x20090000) : acceptWrite s p r a v be = actBox s p.origin r a v (mergeBe 0 v be) be := by
  have hquiet : discardQuiet s a = false := discardQuiet_eq_false (by omega)
  have hunit : isUnit a = false := by
    have h0 : decide (0x20031000 ≤ a ∧ a < 0x20033200) = false := decide_eq_false (by omega)
    have h (b : Nat) (hb : b < 0x20080000 ∨ 0x20090000 ≤ b) : (a == b) = false := beq_eq_false_iff_ne.2 (by omega)
    unfold isUnit
    rw [h0, h Reg.SIG_SUBMIT (by decide), h Reg.SIG_ABORT (by decide), h Reg.ILK_ARM (by decide),
      h Reg.ATT_MREG_EXT_CTL (by decide)]
    rfl
  unfold acceptWrite
  dsimp only
  rw [if_neg (by rw [discardLogged_eq_false (.inl hb)]; decide), if_neg (by rw [hquiet]; decide), if_neg (by omega),
    if_neg (by omega), if_neg (by omega), if_neg (by omega), if_neg (by rw [hunit]; decide),
    if_neg (by unfold Reg.EVR_CURSOR; omega), if_neg (by unfold Reg.MTM_CTL; omega)]

/-- A write of a power block's register by a party that may write it (R7, R408). -/
theorem powerRow {p : Party} {a base : Nat} {fields : List Field} (v : Word) (be : BitVec 4) (hw : Writer s p a)
    (hrow : RowIs a base fields) (ha : 0x20080000 ≤ a ∧ a < 0x20090000) (hb : base < 0x20090000) :
    ∃ r : RegRow, r.base = base ∧ r.fields = fields ∧
      writeRow p a v be s = settled (actBox s p.origin r a v (mergeBe 0 v be) be) := by
  obtain ⟨r, hbase, hf, he⟩ := plainRow v be hw hrow ⟨by omega, by omega, by omega, by unfold Reg.VIN_0_EVR_CURSOR; omega⟩ (by omega)
  exact ⟨r, hbase, hf, he.trans (congrArg settled (acceptWrite_power (hbase ▸ hb) ha))⟩

theorem rowIs_domCfg (d : Fin 25) (h : d ≠ 0) :
    RowIs (Reg.PWR_DOM_CFG d.val) 0x20081024 [⟨1, 0, .rw, true, .p⟩, ⟨2, 2, .wt, false, .p⟩] :=
  rowIs_of (by revert d; decide +kernel)

/-- The retry bit leaves a domain's configuration as it is. -/
theorem storeReg_retry {r : RegRow} {a : Nat} (hf : r.fields = [⟨1, 0, .rw, true, .p⟩, ⟨2, 2, .wt, false, .p⟩])
    (ha : a < 0x20410040) (o : Origin) : Eventful (s.wr a (s.rd a)) (storeReg s o r a (s.rd a ||| 4) 0xF) := by
  have hnew (l : Bool) (w t : Word) : regNew r l w (w ||| 4) t = w := by
    rw [regNew, hf]
    have hm : fieldMask 1 0 = 3#32 := by decide
    simp only [List.foldl_cons, List.foldl_nil, hm]
    ext i hi
    have hbits : (4#32)[i] = true → (3#32)[i] = false := by revert i hi; decide
    simp only [BitVec.getElem_or, BitVec.getElem_and, BitVec.getElem_not]
    cases w[i] <;> cases h4 : (4#32)[i] <;> cases h3 : (3#32)[i] <;> simp_all
  unfold storeReg
  dsimp only
  rw [canonReg_of (.inl ha), mergeBe_full, hnew]
  exact Eventful.noteChange _ _ _ _ _ _ _

theorem sleepRetry_eq {p : Party} {d : Fin 25} (hd : d ≠ 0) (hw : Writer s p (Reg.PWR_DOM_CFG d.val)) :
    ∃ t, Eventful (s.wr (Reg.PWR_DOM_CFG d.val) (s.rd (Reg.PWR_DOM_CFG d.val))) t ∧
      execSleepRetry p d s = settled (sleepBegin t d.val) := by
  have hd0 : d.val ≠ 0 := fun h => hd (Fin.ext h)
  have ha : Reg.PWR_DOM_CFG d.val = 0x20081004 + d.val * 0x20 := rfl
  obtain ⟨r, hbase, hf, he⟩ := powerRow (s.rd (Reg.PWR_DOM_CFG d.val) ||| 4) 0xF hw (rowIs_domCfg d hd) (by omega) (by decide)
  refine ⟨_, storeReg_retry hf (by omega) p.origin, ?_⟩
  rw [execSleepRetry, if_neg hd0, he, mergeBe_full]
  refine congrArg settled ?_
  have hretry : (s.rd (Reg.PWR_DOM_CFG d.val) ||| 4).getLsbD 2 = true := by simp
  have hdom : (Reg.PWR_DOM_CFG d.val - 0x20081024) / 32 + 1 = d.val := by omega
  unfold actBox
  rw [if_neg (by unfold Reg.SBX_SNAP; omega), if_neg (by unfold Reg.HLD_LOCK; omega), if_neg (by unfold Reg.MBX_LOCK; omega),
    if_neg (by unfold Reg.TMP_CTL; omega), if_neg (by unfold Reg.NVC_CTL; omega), if_neg (by unfold Reg.PWR_CLK_CTL; omega),
    if_neg (by omega), if_neg (by omega), if_pos hbase]
  dsimp only
  rw [if_pos hretry, hdom]

/-! ### Votes -/

/-- What PVSET and PVCLR do to the vote word of the domain they name (R387). -/
theorem pvote_eq {c : Fin 2} {ra rb : RegNo} {on : Bool} {w : Wop} (h : Ready s (.core c) w) :
    actSettle s (runWop (.core c) w (opPvote on w (.core c) ra rb)) =
      settled (fwVote (onward s (.core c)) c ((greg s (.core c) ra).toNat % 256) ((greg s (.core c) rb).toNat % 32) on) := by
  rw [actSettle_ready h, ← greg_awake s (.core c) ra, ← greg_awake s (.core c) rb]
  rfl

theorem fwVote_set {c : Fin 2} {d i : Nat} {on : Bool} (h1 : 1 ≤ d) (h2 : d ≤ 24) (h3 : i < 24) :
    fwVote s c d i on = syncDomain (s.setBit (Reg.PWR_VOTE d) i on) d := if_neg (by omega)

theorem fwVote_bad {c : Fin 2} {d i : Nat} {on : Bool} (h : ¬ (1 ≤ d ∧ d ≤ 24 ∧ i < 24)) :
    fwVote s c d i on = s.log Ev.VOTE_BAD (.lc c) d (leBytes 1 d ++ leBytes 1 i) := if_pos (by omega)

theorem pvotes {c : Fin 2} {ra rb : RegNo} {on : Bool} {w : Wop} (h : Ready s (.core c) w) {d k : Nat}
    (hd : (greg s (.core c) ra).toNat % 256 = d) (hk : (greg s (.core c) rb).toNat % 32 = k) :
    (1 ≤ d → d ≤ 24 → k < 24 → actSettle s (runWop (.core c) w (opPvote on w (.core c) ra rb)) =
        settled (syncDomain ((onward s (.core c)).setBit (Reg.PWR_VOTE d) k on) d)) ∧
      (¬ (1 ≤ d ∧ d ≤ 24 ∧ k < 24) → actSettle s (runWop (.core c) w (opPvote on w (.core c) ra rb)) =
        settled ((onward s (.core c)).log Ev.VOTE_BAD (.lc c) d (leBytes 1 d ++ leBytes 1 k))) := by
  subst hd hk
  exact ⟨fun h1 h2 h3 => (pvote_eq h).trans (congrArg settled (fwVote_set h1 h2 h3)),
    fun hb => (pvote_eq h).trans (congrArg settled (fwVote_bad hb))⟩

/-! ### Sleep entry and exit -/

section
variable {d : Nat}

theorem sleepPrepared_refused (h : domPhase s d = 1) {b : Nat} (hb : refuser s d (domTarget s d) = some b) (slow : Option Byte) :
    sleepPrepared s d slow = sleepRefuse s d b false := by
  unfold sleepPrepared
  rw [if_neg (not_not_intro h), hb]

theorem sleepPrepared_slow (h : domPhase s d = 1) {b : Byte} (hn : refuser s d (domTarget s d) = none) :
    sleepPrepared s d (some b) = sleepRefuse s d b.toNat true := by
  unfold sleepPrepared
  rw [if_neg (not_not_intro h), hn]

theorem sleepPrepared_ready (h : domPhase s d = 1) (hn : refuser s d (domTarget s d) = none) : sleepPrepared s d none =
    if 6 ≤ d ∧ d < 22 ∧ s.bit (Reg.PWR_YARD_OP (d - 6)) 4 = false then s else setDomPhase s d 2 := by
  unfold sleepPrepared
  rw [if_neg (not_not_intro h), hn]

/-- The state in which a domain has just entered its sleep state, the wakes held against it taken. -/
def asleep (s : State) (d : Nat) : State :=
  let u := enterSleep s d (domTarget s d)
  { u with pwr := { u.pwr with woken := u.pwr.woken.filter (· != d) } }

theorem asleep_voteWord : voteWord (asleep s d) d = voteWord (enterSleep s d (domTarget s d)) d := rfl

theorem sleepCommitted_stays (h : domPhase s d = 2) (hv : voteWord (enterSleep s d (domTarget s d)) d = 0)
    (hw : d ∉ (enterSleep s d (domTarget s d)).pwr.woken) : sleepCommitted s d = setDomPhase (asleep s d) d 0 := by
  rw [sleepCommitted, if_neg (not_not_intro h)]
  exact if_neg (by simp [hv, hw])

theorem sleepCommitted_bounces (h : domPhase s d = 2)
    (hv : voteWord (enterSleep s d (domTarget s d)) d ≠ 0 ∨ d ∈ (enterSleep s d (domTarget s d)).pwr.woken) :
    sleepCommitted s d = setPendingOn (pwrLog ((startExit (asleep s d) d).inc (Reg.PWR_BOUNCE_COUNT d)) Ev.SLEEP_BOUNCED d
      (leBytes 1 (domTarget s d) ++
        leBytes 1 (b2n (!(voteWord (enterSleep s d (domTarget s d)) d != 0))))) d true := by
  rw [sleepCommitted, if_neg (not_not_intro h)]
  exact if_pos (by simpa using hv)

theorem b2n_unvoted (v : Nat) : b2n (!(v != 0)) = if v = 0 then 1 else 0 := by
  by_cases hv : v = 0 <;> simp [b2n, hv]

/-- The state in which a domain that has left its sleep state is in RUN. -/
def inRun (s : State) (d : Nat) : State :=
  let u := setPendingOn (setDomPhase (setDomState s d 0) d 0) d false
  { u with pwr := { u.pwr with woken := u.pwr.woken.filter (· != d) } }

theorem domainRun_of (h : domPhase s d = 3) : domainRun s d =
    if d = 1 then
      if domState s d = 3 then (signalBoxReset (inRun s d) noneBad false).raise 6
      else (resumeCores ((inRun s d).setBit Reg.PWR_STAT 4 false)).raise 6
    else if 6 ≤ d ∧ d < 22 ∧ (inRun s d).pwr.runHeld.contains (d - 6) = true then
      let t : State := { inRun s d with pwr := { (inRun s d).pwr with runHeld := (inRun s d).pwr.runHeld.filter (· != d - 6) } }
      startEngines (t.setL t.dutyOrigin (Reg.YRD_CTL (d - 6)) 0 0 1) (d - 6) true
    else inRun s d :=
  if_neg (not_not_intro h)

end

/-! ### Waking and retention -/

theorem wake_disabled {i : Nat} (h : wakeEnabled s i = false) : wake s i = s := if_pos (.inr (.inl h))

/-- The state with the cause of a wake shown and its record made. -/
def wakeNoted (s : State) (i : Nat) : State :=
  let t := s.setBit Reg.PWR_WAKE_CAUSE i true
  pwrLog t Ev.WAKE 0 (leBytes 1 (t.fld Reg.PWR_WAKE_CAUSE 6 0))

theorem wakeNoted_eventful (i : Nat) : Eventful (s.setBit Reg.PWR_WAKE_CAUSE i true) (wakeNoted s i) := Eventful.log _ _ _ _ _

theorem domPhase_wakeNoted (i : Nat) : domPhase (wakeNoted s i) 1 = domPhase s 1 :=
  fld_of_rd (((wakeNoted_eventful i).2 _ (by unfold recorderWord; decide)).trans
    (State.rd_setBit_of_ne _ _ _ (by decide))) 3 2

theorem wake_of {i : Nat} (hi : i < 7) (he : wakeEnabled s i = true) (h0 : domState s 1 ≠ 0 ∨ domPhase s 1 ≠ 0)
    (h3 : domPhase s 1 ≠ 3) : wake s i =
      if domPhase s 1 = 0 then startExit (wakeNoted s i) 1
      else if domPhase s 1 = 1 then
        pwrLog ((setDomPhase (wakeNoted s i) 1 0).inc (Reg.PWR_ABORT_COUNT 1)) Ev.SLEEP_ABORTED 1
          (leBytes 1 (domTarget (wakeNoted s i) 1) ++ leBytes 4 (voteWord (wakeNoted s i) 1))
      else
        let u := setPendingOn (wakeNoted s i) 1 true
        { u with pwr := { u.pwr with woken := if u.pwr.woken.contains 1 then u.pwr.woken else u.pwr.woken ++ [1] } } := by
  have hk : ¬ (7 ≤ i ∨ wakeEnabled s i = false ∨ (domState s 1 = 0 ∧ domPhase s 1 = 0) ∨ domPhase s 1 = 3) := by
    rw [he]
    simp only [Bool.true_eq_false, false_or]
    omega
  rw [← domPhase_wakeNoted i]
  exact if_neg hk

/-- A bank's check as it stands before its outcome (R397). -/
def checkTaken (s : State) (kind bank : Nat) : State :=
  { s with pwr := { s.pwr with checks := s.pwr.checks.filter (· != (kind, bank)) } }

theorem retentionDone_idle {kind bank : Nat} (h : (kind, bank) ∉ s.pwr.checks) (upset : Bool) :
    retentionDone s kind bank upset = s := by
  have hc : s.pwr.checks.contains (kind, bank) = false := by simpa using h
  unfold retentionDone retentionChecked
  simp only [hc, Bool.false_eq_true, if_true, if_false, false_and]

theorem retentionDone_kept {kind bank : Nat} (h : (kind, bank) ∈ s.pwr.checks) :
    retentionDone s kind bank false = checkTaken s kind bank := by
  have hc : s.pwr.checks.contains (kind, bank) = true := by simpa using h
  unfold retentionDone retentionChecked
  simp only [hc, Bool.true_eq_false, Bool.false_eq_true, if_true, if_false, false_and, and_false]
  rfl

/-- A bank whose content changed, cleared, with its loss recorded at bit `i` of PWR_RET_LOST. -/
def bankLost (s : State) (kind bank i : Nat) : State :=
  pwrLog (wipeMem ((checkTaken s kind bank).setBit Reg.PWR_RET_LOST i true) (fun a => inRange a (bankBase kind bank) 0x100000))
    Ev.RET_LOST (bankDomain kind bank) (leBytes 1 kind ++ leBytes 1 bank)

theorem retentionDone_lost {kind bank : Nat} (h : (kind, bank) ∈ s.pwr.checks) : retentionDone s kind bank true =
    let u := bankLost s kind bank (if kind = 0 then 12 + bank else if kind = 1 then bank else 16 + bank)
    let v := if kind = 1 then freeExts u .power 0 (fun s x => extUses s x bank) else u
    if kind = 0 then signalBoxReset v noneBad false else v := by
  have hc : s.pwr.checks.contains (kind, bank) = true := by simpa using h
  unfold retentionDone retentionChecked
  simp only [hc, Bool.true_eq_false, if_false, true_and]
  rfl

end

/-- Settles O41: each command is one function of the domain's phase, and what it answers is that function's branch. -/
theorem powerDomains : Obligations.PowerDomains := by
  intro s
  refine ⟨fun c ra rb on => ?_, fun hp d hd => ⟨fun hph => ?_, fun hph => ?_, fun hph => ?_⟩, fun p d => ⟨fun hp => ?_, fun hd _ hw => sleepRetry_eq hd hw⟩,
    fun hp i => ?_, fun hp k b => ?_⟩
  · cases on
    · exact fun h => pvotes h rfl rfl
    · exact fun h => pvotes h rfl rfl
  · have run (slow : Option Byte) : execSleepPrepareDone d slow s = settled (sleepPrepared s d.val slow) := by
      rw [execSleepPrepareDone, actSettle_of hp, if_neg hd]
    refine ⟨fun b slow hb => (run _).trans (congrArg settled (sleepPrepared_refused hph hb slow)),
      fun b hn => (run _).trans (congrArg settled (sleepPrepared_slow hph hn)),
      fun hn hs => (run _).trans (congrArg settled ((sleepPrepared_ready hph hn).trans (if_neg hs))),
      fun hn hs => (run _).trans (congrArg settled ((sleepPrepared_ready hph hn).trans (if_pos hs)))⟩
  · have run : execSleepCommitDone d s = settled (sleepCommitted s d.val) := by
      rw [execSleepCommitDone, actSettle_of hp, if_neg hd]
    refine ⟨fun hv hw => run.trans (congrArg settled (sleepCommitted_stays hph hv hw)), fun hv => ?_⟩
    exact run.trans (congrArg settled ((sleepCommitted_bounces hph hv).trans (by rw [b2n_unvoted]; rfl)))
  · have run : execDomainRun d s = settled (domainRun s d.val) := by
      rw [execDomainRun, actSettle_of hp, if_neg hd]
    have hrun := domainRun_of hph
    refine ⟨fun h1 h3 => ?_, fun h1 h3 => ?_, fun y hy hlt hm => ?_, fun h1 hn => ?_⟩
    · exact run.trans (congrArg settled (hrun.trans ((if_pos h1).trans (if_pos (h1 ▸ h3)))))
    · exact run.trans (congrArg settled (hrun.trans ((if_pos h1).trans (if_neg (h1 ▸ h3)))))
    · have hyd : d.val - 6 = y := by omega
      rw [hyd] at hrun
      refine run.trans (congrArg settled (hrun.trans ((if_neg (by omega)).trans (if_pos ⟨by omega, by omega, ?_⟩))))
      exact List.contains_iff_mem.2 hm
    · refine run.trans (congrArg settled (hrun.trans ((if_neg h1).trans (if_neg ?_))))
      rintro ⟨h6, h22, hc⟩
      exact hn (d.val - 6) (by omega) (by omega) (List.contains_iff_mem.1 hc)
  · show execSleepRetry p 0 s = _
    exact act_of hp id
  · have run : execWake i s = settled (wake s i.val) := actSettle_of hp fun s => wake s i.val
    refine ⟨fun h => run.trans (congrArg settled (wake_disabled h)), fun he h0 hph => ?_, fun he hph => ?_⟩
    · exact run.trans (congrArg settled ((wake_of i.isLt he (.inl h0) (by omega)).trans (if_pos hph)))
    · exact ⟨wakeNoted s i.val, wakeNoted_eventful i.val,
        run.trans (congrArg settled ((wake_of i.isLt he (.inr (by omega)) (by omega)).trans ((if_neg (by omega)).trans (if_pos hph))))⟩
  · have run (upset : Bool) : execRetentionCheckDone k b upset s = settled (retentionDone s k.val b.val upset) :=
      actSettle_of hp fun s => retentionDone s k.val b.val upset
    refine ⟨fun h upset => (run upset).trans (congrArg settled (retentionDone_idle h upset)),
      fun h => (run false).trans (congrArg settled (retentionDone_kept h)), fun h hk => ?_, fun h hk => ?_⟩
    · refine (run true).trans (congrArg settled ((retentionDone_lost h).trans ?_))
      simp only [if_neg hk]
      rfl
    · refine (run true).trans (congrArg settled ((retentionDone_lost h).trans ?_))
      simp only [hk, if_pos, if_neg Nat.one_ne_zero]
      rfl

end Sys2Proof.Machine
end

section
/-! O42: yard operating points, the clock control, the PLLs, the crystal, the core timer and the I3C targets. -/

namespace Sys2Proof.Machine

section
variable {s : State}

/-! ### Operating points (R398) -/

theorem rowIs_yardOp (y : Fin 16) : RowIs (Reg.PWR_YARD_OP y.val) 0x20080100
    [⟨1, 0, .rw, true, .p⟩, ⟨3, 2, .rw, true, .p⟩, ⟨4, 4, .ro, false, .u⟩, ⟨5, 5, .rc, false, .u⟩] :=
  rowIs_of (by revert y; decide +kernel)

theorem execYardOpWrite_of {p : Party} {y : Fin 16} {v : Word} {be : BitVec 4} (hw : Writer s p (Reg.PWR_YARD_OP y.val)) :
    execYardOpWrite p y v be s = settled (if be.getLsbD 0 then yardOpWrite s p.origin y.val v be.toNat else s) := by
  have ha : Reg.PWR_YARD_OP y.val = 0x20080100 + y.val * 4 := rfl
  obtain ⟨r, hbase, -, he⟩ := powerRow v be hw (rowIs_yardOp y) (by omega) (by decide)
  refine he.trans (congrArg settled ?_)
  have hy : (Reg.PWR_YARD_OP y.val - 0x20080100) / 4 = y.val := by omega
  unfold actBox
  rw [if_neg (by unfold Reg.SBX_SNAP; omega), if_neg (by unfold Reg.HLD_LOCK; omega), if_neg (by unfold Reg.MBX_LOCK; omega),
    if_neg (by unfold Reg.TMP_CTL; omega), if_neg (by unfold Reg.NVC_CTL; omega), if_neg (by unfold Reg.PWR_CLK_CTL; omega),
    if_neg (by omega), if_pos (by omega), hy]

/-- A yard's operating point after the acknowledge of an order error in the word written. -/
def orderTaken (s : State) (a : Nat) (v : Word) : State := if getBits v 5 5 = 1 then s.setBit a 5 false else s

/-- The yard's operating point with its new fields; a new voltage has yet to settle. -/
def opChanged (s : State) (a vs dv ovs : Nat) : State :=
  if vs ≠ ovs then ((s.setF a 1 0 vs).setF a 3 2 dv).setBit a 4 false else (s.setF a 1 0 vs).setF a 3 2 dv

section
variable {o : Origin} {y be : Nat} {v : Word}

theorem yardOpWrite_same (h : getBits v 1 0 = s.fld (Reg.PWR_YARD_OP y) 1 0 ∧ getBits v 3 2 = s.fld (Reg.PWR_YARD_OP y) 3 2) :
    yardOpWrite s o y v be = orderTaken s (Reg.PWR_YARD_OP y) v := if_pos h

variable (h : ¬ (getBits v 1 0 = s.fld (Reg.PWR_YARD_OP y) 1 0 ∧ getBits v 3 2 = s.fld (Reg.PWR_YARD_OP y) 3 2))
include h

theorem yardOpWrite_wrong (hw : (getBits v 1 0 ≠ s.fld (Reg.PWR_YARD_OP y) 1 0 ∧ getBits v 3 2 ≠ s.fld (Reg.PWR_YARD_OP y) 3 2) ∨
      getBits v 1 0 < getBits v 3 2 ∨ (s.fld (Reg.PWR_YARD_OP y) 3 2 < getBits v 3 2 ∧ s.bit (Reg.PWR_YARD_OP y) 4 = false) ∨
      getBits v 1 0 = 3) : yardOpWrite s o y v be =
    pwrLog ((orderTaken s (Reg.PWR_YARD_OP y) v).setBit (Reg.PWR_YARD_OP y) 5 true) Ev.DVFS_ORDER (6 + y)
      (leBytes 1 y ++ leBytes 1 (s.fld (Reg.PWR_YARD_OP y) 1 0) ++ leBytes 1 (s.fld (Reg.PWR_YARD_OP y) 3 2) ++ leBytes 4 v.toNat) :=
  (if_neg h).trans (if_pos hw)

theorem yardOpWrite_taken (hw : ¬ ((getBits v 1 0 ≠ s.fld (Reg.PWR_YARD_OP y) 1 0 ∧ getBits v 3 2 ≠ s.fld (Reg.PWR_YARD_OP y) 3 2) ∨
      getBits v 1 0 < getBits v 3 2 ∨ (s.fld (Reg.PWR_YARD_OP y) 3 2 < getBits v 3 2 ∧ s.bit (Reg.PWR_YARD_OP y) 4 = false) ∨
      getBits v 1 0 = 3)) :
    Eventful (opChanged (orderTaken s (Reg.PWR_YARD_OP y) v) (Reg.PWR_YARD_OP y) (getBits v 1 0) (getBits v 3 2)
      (s.fld (Reg.PWR_YARD_OP y) 1 0)) (yardOpWrite s o y v be) := by
  have he : yardOpWrite s o y v be = (opChanged (orderTaken s (Reg.PWR_YARD_OP y) v) (Reg.PWR_YARD_OP y) (getBits v 1 0) (getBits v 3 2)
      (s.fld (Reg.PWR_YARD_OP y) 1 0)).regChange o (Reg.PWR_YARD_OP y) _ _ be := (if_neg h).trans (if_neg hw)
  rw [he]
  exact Eventful.regChange _ _ _ _ _ _

end

/-! ### The clock control (R400) -/

theorem rowIs_clkCtl : RowIs Reg.PWR_CLK_CTL 0x20080030
    [⟨4, 0, .rw, true, .p⟩, ⟨5, 5, .rw, true, .p⟩, ⟨6, 6, .rw, true, .p⟩, ⟨7, 7, .rw, true, .p⟩] :=
  rowIs_of (by decide +kernel)

theorem execClkCtlWrite_of {p : Party} {v : Word} {be : BitVec 4} (hw : Writer s p Reg.PWR_CLK_CTL) :
    execClkCtlWrite p v be s = settled (clkCtlWrite s p.origin (mergeBe (s.rd Reg.PWR_CLK_CTL) v be) be.toNat) := by
  obtain ⟨r, -, -, he⟩ := powerRow v be hw rowIs_clkCtl (by decide) (by decide)
  exact he.trans rfl

/-- The clock control with the word written: a PLL that is off has no lock, and is not selected. -/
def clkStored (s : State) (w : Word) : State :=
  if w.getLsbD 5 then s.wr Reg.PWR_CLK_CTL (w &&& 0xFF)
  else ((s.wr Reg.PWR_CLK_CTL (w &&& 0xFF)).setBit Reg.PWR_CLK_STAT 0 false).setBit Reg.PWR_CLK_CTL 6 false

theorem clkCtlWrite_early {o : Origin} {w : Word} {be : Nat} (h : w.getLsbD 6 = true ∧ s.bit Reg.PWR_CLK_STAT 0 = false) :
    clkCtlWrite s o w be = pwrLog s Ev.CLOCK_ORDER 0 (leBytes 4 Reg.PWR_CLK_CTL ++ leBytes 4 w.toNat) := if_pos h

theorem clkCtlWrite_stored {o : Origin} {w : Word} {be : Nat} (h : ¬ (w.getLsbD 6 = true ∧ s.bit Reg.PWR_CLK_STAT 0 = false)) :
    Eventful (if w.getLsbD 7 then clkStored s w else (clkStored s w).setBit Reg.PWR_CLK_STAT 1 false) (clkCtlWrite s o w be) := by
  have hm : fieldMask 7 0 = (0xFF : Word) := by decide
  have hb (i : Nat) (hi : i < 8) : (w &&& 0xFF : Word).getLsbD i = w.getLsbD i := by
    have : (0xFF : Word).getLsbD i = true := by revert i hi; decide
    rw [BitVec.getLsbD_and, this, Bool.and_true]
  unfold clkCtlWrite
  dsimp only
  rw [if_neg h, hm, hb 5 (by decide), hb 7 (by decide)]
  have h5 : (if w.getLsbD 5 = false then ((s.wr Reg.PWR_CLK_CTL (w &&& 0xFF)).setBit Reg.PWR_CLK_STAT 0 false).setBit Reg.PWR_CLK_CTL 6 false
      else s.wr Reg.PWR_CLK_CTL (w &&& 0xFF)) = clkStored s w := by
    unfold clkStored
    cases w.getLsbD 5 <;> rfl
  have h7 (t : State) : (if w.getLsbD 7 = false then t.setBit Reg.PWR_CLK_STAT 1 false else t) =
      if w.getLsbD 7 then t else t.setBit Reg.PWR_CLK_STAT 1 false := by
    cases w.getLsbD 7 <;> rfl
  rw [h5, h7]
  generalize (if w.getLsbD 7 then clkStored s w else (clkStored s w).setBit Reg.PWR_CLK_STAT 1 false) = u
  split
  · exact Eventful.refl _
  · exact Eventful.regChange _ _ _ _ _ _

/-! ### PLLs, the core timer and the I3C targets -/

theorem lockLost_idle {k : Nat} (h : s.bit Reg.PWR_CLK_STAT k = false) (r : Bool) : lockLost s k r = s := if_pos h

theorem lockLost_of {k : Nat} (h : s.bit Reg.PWR_CLK_STAT k = true) (r : Bool) : lockLost s k r =
    let t := (s.setBit Reg.PWR_CLK_STAT k false).setBit Reg.PWR_CLK_STAT 3 r
    let u := if k = 0 then t.setL .power Reg.PWR_CLK_CTL 6 6 0 else t
    wake (if powerFailing u then u else detectorEvent u 1 1 (vbatTick u) []) 4 :=
  if_neg (by simp [h])

theorem targetStat_none {a : BitVec 7} (i2c ibi : Bool) :
    targetStat a false i2c ibi = BitVec.ofNat 32 ((if i2c then 256 else 0) + (if ibi then 512 else 0)) := by
  cases i2c <;> cases ibi <;> rfl

theorem targetStat_some {a : BitVec 7} (i2c ibi : Bool) :
    targetStat a true i2c ibi = BitVec.ofNat 32 (a.toNat + 128 + ((if i2c then 256 else 0) + (if ibi then 512 else 0))) := by
  cases i2c <;> cases ibi <;> rfl

theorem pllLock_eq (hp : s.pwr.down = false) (k : Fin 3) : execPllLock k s = settled
    (if pllRuns s k.val then (s.setBit Reg.PWR_CLK_STAT 3 true).setBit Reg.PWR_CLK_STAT k.val true else s) := by
  rw [execPllLock, actSettle_of hp]

theorem csTimecmpReached_eq (hp : s.pwr.down = false) (c : Fin 2) : execCsTimecmpReached c s = settled (s.setCore c
    { s.core c with cycle := if (s.core c).cycle.toNat < (s.core c).timecmp.toNat then (s.core c).timecmp else (s.core c).cycle }) := by
  rw [execCsTimecmpReached, actSettle_of hp]

theorem i3cDynamicAddress_eq (hp : s.pwr.down = false) (t : Fin 2) (a : Option (BitVec 7)) (i2c ibi : Bool) :
    execI3cDynamicAddress t a i2c ibi s = settled (if s.bit (Reg.SBD_TGT_CFG t.val) 8 then
      s.wr (Reg.SBD_TGT_STAT t.val) (targetStat (a.getD 0) a.isSome i2c ibi) else s) := by
  rw [execI3cDynamicAddress, actSettle_of hp]

end

/-- Settles O42: each command is its own function of the state, and what it answers that function's branch. -/
theorem clocksAndVoltage : Obligations.ClocksAndVoltage := by
  intro s hp
  refine ⟨fun p y v be _ hw => ?_, fun y => actSettle_of hp fun s => s.setBit (Reg.PWR_YARD_OP y.val) 4 true, fun p v be _ hw => ?_,
    fun k => ⟨fun h => ?_, fun h => ?_, fun r h => ?_, fun r h => ?_⟩, actSettle_of hp fun s => s.setBit Reg.PWR_CLK_STAT 4 true,
    fun c => ⟨_, csTimecmpReached_eq hp c, AllBut.setCore _ _ _, fun d hd => State.core_setCore_of_ne _ _ hd, ?_⟩,
    fun t addr i2c ibi => ⟨fun h a => ?_, fun h => ?_, fun h => ?_⟩⟩
  · have run := execYardOpWrite_of (v := v) (be := be) hw
    exact ⟨fun hb => run.trans (congrArg settled (if_neg (by rw [hb]; decide))),
      fun hb hs => run.trans (congrArg settled ((if_pos hb).trans (yardOpWrite_same hs))),
      fun hb hs hx => run.trans (congrArg settled ((if_pos hb).trans (yardOpWrite_wrong hs hx))),
      fun hb hs hx => ⟨_, yardOpWrite_taken hs hx, run.trans (congrArg settled (if_pos hb))⟩⟩
  · have run := execClkCtlWrite_of (v := v) (be := be) hw
    exact ⟨fun he => run.trans (congrArg settled (clkCtlWrite_early he)),
      fun he => ⟨clkStored s _, _, rfl, clkCtlWrite_stored he, run⟩⟩
  · exact (pllLock_eq hp k).trans (congrArg settled (if_pos h))
  · exact (pllLock_eq hp k).trans (congrArg settled (if_neg (by simp [h])))
  · exact (actSettle_of hp fun s => lockLost s k.val r).trans (congrArg settled (lockLost_idle h r))
  · exact (actSettle_of hp fun s => lockLost s k.val r).trans (congrArg settled (lockLost_of h r))
  · rw [State.core_setCore_self]
    refine congrArg (fun x => { s.core c with cycle := x }) ?_
    simp only [← Nat.not_lt, ite_not]
  · exact (i3cDynamicAddress_eq hp t a i2c ibi).trans (congrArg settled (if_neg (by simp [h])))
  · exact (i3cDynamicAddress_eq hp t (some addr) i2c ibi).trans (congrArg settled ((if_pos h).trans (congrArg _ (targetStat_some i2c ibi))))
  · exact (i3cDynamicAddress_eq hp t none i2c ibi).trans (congrArg settled ((if_pos h).trans (congrArg _ (targetStat_none i2c ibi))))

end Sys2Proof.Machine
end

section
/-! O44: resets of the signal box and of its cores, the start of stage 2, and the loss and return of the supply. -/

namespace Sys2Proof.Machine

section
variable {s : State}

/-! ### The signal box -/

theorem noStage_ready (t : State) : (if t.retired.isEmpty then t else noStage t 1 2) =
    if t.retired = [] then t else t.fwLog Ev.NO_STAGE 1 (leBytes 1 (Sparse.get (fun _ => 0) t.upd.stageFails 1) ++ [2]) := by
  cases t.retired <;> rfl

/-! ### Lockstep mismatches (R19, R212) -/

section
variable {c : Fin 2} {us : Nat}

/-- The state with a core's mismatch counted up to 15; the third retires the core. -/
def mismatchCounted (s : State) (c : Fin 2) (n : Nat) : State :=
  let t := s.setF Reg.RTB_FAILOVER (4 * c.val + 3) (4 * c.val) n
  if n = 3 then (({ t with retired := c :: t.retired } : State).setBit Reg.RTB_FAILOVER 8 true).log Ev.CORE_RETIRED (.lc c) 0
    (leBytes 1 c.val ++ [3]) else t

theorem countMismatch_eq : countMismatch s c =
    mismatchCounted s c (min (s.fld Reg.RTB_FAILOVER (4 * c.val + 3) (4 * c.val) + 1) 15) := by
  unfold countMismatch mismatchCounted mismatchLo
  dsimp only
  split
  · next h => rw [h]; rfl
  · rfl

theorem lockstepMismatch_retired (h : c ∈ s.retired) : lockstepMismatch s c us = s := if_pos (List.contains_iff_mem.2 h)

theorem not_retired (h : c ∉ s.retired) : ¬ s.retired.contains c = true := fun hc => h (List.contains_iff_mem.1 hc)

theorem lockstepMismatch_unready (h : c ∉ s.retired) (hr : s.stage2Ready = false) :
    lockstepMismatch s c us = signalBoxReset (countMismatch s c) noneBad false :=
  (if_neg (not_retired h)).trans (if_pos hr)

theorem lockstepMismatch_ready (h : c ∉ s.retired) (hr : s.stage2Ready = true) : lockstepMismatch s c us =
    if c ≠ (countMismatch s c).duty then resetCore (countMismatch s c) c
    else if s.ilk.reliefAbsent then
      signalBoxReset ((countMismatch s c).log Ev.DUTY_LOST (.lc c) 0
        (leBytes 1 c.val ++ leBytes 1 (b2n ((countMismatch s c).retired.contains (other c))))) noneBad false
    else
      let u := failoverDrop (({ countMismatch s c with duty := other c } : State).raiseIn (other c) 18) c
      let v := u.setF Reg.RTB_FAILOVER 31 16 (min 65535 (u.fld Reg.RTB_FAILOVER 31 16 + 1))
      resetCore (handoverByFailover (v.log Ev.FAILOVER (.lc c) 0 (leBytes 1 c.val ++ leBytes 4 us))) c :=
  (if_neg (not_retired h)).trans (if_neg (by simp [hr]))

theorem leBytes_contained (l : List (Fin 2)) (d : Fin 2) : leBytes 1 (b2n (l.contains d)) = [if d ∈ l then 1 else 0] := by
  by_cases h : d ∈ l
  · rw [List.contains_iff_mem.2 h, if_pos h]; rfl
  · rw [Bool.eq_false_iff.2 fun hc => h (List.contains_iff_mem.1 hc), if_neg h]; rfl

end

/-! ### The relief core and stage 2 -/

theorem coreRejoined_ignored (h : s.ilk.reliefAbsent = false ∨ s.retired ≠ []) : coreRejoined s = s :=
  if_pos (h.imp_right fun hr => by simpa using hr)

theorem coreRejoined_of (ha : s.ilk.reliefAbsent = true) (hr : s.retired = []) : coreRejoined s =
    let t : State := { s with ilk := { s.ilk with reliefAbsent := false }, upd := { s.upd with absentAt := none } }
    let step := t.fld Reg.RTB_HND_STAT 3 0
    let t := if step = 5 then t.fwL Reg.RTB_HND_STAT 3 0 6 else if step = 11 then t.fwL Reg.RTB_HND_STAT 3 0 0
      else stageWindows (stageWindows t 1 t.relief) 2 t.relief
    t.log Ev.CORE_REJOINED (.lc t.relief) 0
      (leBytes 1 t.relief.val ++ leBytes 4 ((s.ot - s.upd.absentAt.getD s.ot) * 1000 / 1024)) :=
  if_neg (by simp [ha, hr])

theorem stage2Ready_refused {svn build : Nat} (h : ¬ (s.stage2Ready = false ∧ s.upd.fw.consist.isSome = true ∧
    s.bit Reg.HLD_LOCK 0 = true ∧ s.ilk.reliefAbsent = false)) : stage2Ready s svn build = s := by
  refine if_pos ?_
  rw [mayBeReady]
  by_contra hn
  apply h
  simpa [not_or, and_assoc] using hn

theorem stage2Ready_taken {svn build : Nat} (h : s.stage2Ready = false ∧ s.upd.fw.consist.isSome = true ∧
    s.bit Reg.HLD_LOCK 0 = true ∧ s.ilk.reliefAbsent = false) : stage2Ready s svn build =
      let v := match s.upd.fw.stages.find? (fun p => p.1 == 2) with
        | some p => (p.2.svn, p.2.build)
        | none => (svn, build)
      let u := ({ s with stage2Ready := true } : State).fwLog Ev.STAGE2_READY 2
        (leBytes 4 v.1 ++ leBytes 4 v.2 ++ leBytes 4 (s.rd Reg.ILK_SEQ).toNat)
      (List.range 64).foldl revertOld (flushVlatch (syncForced u 0)) := by
  obtain ⟨h1, h2, h3, h4⟩ := h
  refine (if_neg ?_).trans rfl
  simp [mayBeReady, h1, h2, h3, h4]

/-! ### Loss of the supply (R383) -/

/-- What the loss of the supply keeps: memory of the eNVM, the home copies and the journal, and with a cell the latch. -/
theorem powerLost_keeps (cell : Bool) : (powerLost s cell).pwr.down = true ∧ (powerLost s cell).home = s.home ∧
    (powerLost s cell).ilk.journal = s.ilk.journal ∧ (powerLost s cell).pending = s.pending ∧ (powerLost s cell).pcc = s.pcc ∧
    (powerLost s cell).mem = s.mem.filter (fun x => decide (0x10000000 ≤ x.1 ∧ x.1 < 0x11000000)) ∧
    (powerLost s cell).cores = State.reset.cores ∧ (powerLost s cell).engines = State.reset.engines ∧
    (powerLost s cell).lines = State.reset.lines ∧ (powerLost s cell).lcs.copies = s.lcs.copies ∧
    (powerLost s cell).evr.slots = s.evr.slots ∧ (powerLost s cell).evr.ram = State.reset.evr.ram ∧
    (powerLost s cell).tmp.latch = (if cell then s.tmp.latch else State.reset.tmp.latch) ∧ (powerLost s cell).tagKey = none := by
  cases cell <;> exact ⟨rfl, rfl, rfl, rfl, rfl, rfl, rfl, rfl, rfl, rfl, rfl, rfl, rfl, rfl⟩

/-- The state in which the loss of the supply finds the platform: a VOLT event and the end of a service window. -/
def supplyFails (s : State) : State :=
  let a := if s.bit Reg.PWR_STAT 0 then s else detectorEvent s 0 0 (vbatTick s) []
  if a.bit Reg.TMP_STAT 5 then a.log Ev.CELL_WINDOW .tamper 13 [3] else a

theorem execVinStbyLoss_of (hp : s.pwr.down = false) (cell : Bool) :
    execVinStbyLoss cell s = .next (powerLost (supplyFails s) cell) := by
  rw [execVinStbyLoss, act_of hp, vinStbyLoss, if_neg (by simp [hp])]
  rfl

theorem execVinStbyLoss_down (hp : s.pwr.down = true) (cell : Bool) : execVinStbyLoss cell s = .next s := by
  rw [execVinStbyLoss, act, if_pos hp]

/-! ### The commands -/

theorem execSignalBoxReset_of (hp : s.pwr.down = false) (bad : BitVec 64) (badMin : Bool) : execSignalBoxReset bad badMin s =
    settled (let t := lcStartup (bootSignalBox (ilkReset s) (fun c => bad.getLsbD c) badMin) false
      if t.retired = [] then t else t.fwLog Ev.NO_STAGE 1 (leBytes 1 (Sparse.get (fun _ => 0) t.upd.stageFails 1) ++ [2])) := by
  rw [execSignalBoxReset, actSettle_of hp]
  exact congrArg settled (noStage_ready _)

theorem execLockstepMismatch_of (hp : s.pwr.down = false) (c : Fin 2) (us : Word) :
    execLockstepMismatch c us s = settled (lockstepMismatch s c us.toNat) := by
  rw [execLockstepMismatch, actSettle_of hp]

theorem execCoreRejoined_of (hp : s.pwr.down = false) : execCoreRejoined s = settled (unlockTry (coreRejoined s)) := by
  rw [execCoreRejoined, actSettle_of hp]

theorem execStage2Ready_of (hp : s.pwr.down = false) (svn build : Word) :
    execStage2Ready svn build s = settled (stage2Ready s svn.toNat build.toNat) := by
  rw [execStage2Ready, actSettle_of hp]

theorem execTrstNAssert_of (hp : s.pwr.down = false) : execTrstNAssert s = .next { s with tap := .idcode } := by
  rw [execTrstNAssert, act_of hp]

end

/-- Settles O44: each command is one function of the state; the loss of the supply keeps what `powerLost` carries over. -/
theorem resetsAndStarts : Obligations.ResetsAndStarts := by
  intro s
  refine ⟨fun hp => ⟨fun bad badMin => execSignalBoxReset_of hp bad badMin, fun c us => ?_, fun h => ?_, fun ha hr => ?_,
    fun svn build => ⟨fun h => ?_, fun h => ?_⟩, execTrstNAssert_of hp,
    fun cell => ⟨_, execVinStbyLoss_of hp cell, powerLost_keeps cell⟩⟩, fun cell hp => execVinStbyLoss_down hp cell,
    fun pfw v33 bad badMin badLock canaryLost corrupt => rfl⟩
  · have run := execLockstepMismatch_of hp c us
    have hcount := countMismatch_eq (s := s) (c := c)
    have ready (h : c ∉ s.retired) (hr : s.stage2Ready = true) := run.trans (congrArg settled (lockstepMismatch_ready h hr))
    rw [hcount] at ready
    refine ⟨fun h => run.trans (congrArg settled (lockstepMismatch_retired h)),
      fun h hr => run.trans (congrArg settled ((lockstepMismatch_unready h hr).trans (by rw [hcount]; rfl))),
      fun h hr hd => (ready h hr).trans (congrArg settled (if_pos hd)), fun h hr hd ha => ?_, fun h hr hd ha => ?_⟩
    · refine (ready h hr).trans (congrArg settled ((if_neg (not_not_intro hd)).trans ((if_pos ha).trans ?_)))
      rw [leBytes_contained]
      rfl
    · exact (ready h hr).trans (congrArg settled ((if_neg (not_not_intro hd)).trans (if_neg (by simp [ha]))))
  · exact (execCoreRejoined_of hp).trans (congrArg (fun u => settled (unlockTry u)) (coreRejoined_ignored h))
  · exact (execCoreRejoined_of hp).trans (congrArg (fun u => settled (unlockTry u)) (coreRejoined_of ha hr))
  · exact (execStage2Ready_of hp svn build).trans (congrArg settled (stage2Ready_refused h))
  · exact (execStage2Ready_of hp svn build).trans (congrArg settled (stage2Ready_taken h))

end Sys2Proof.Machine
end

section
/-! O45: DEVICE bursts and their ends, report inputs, the report timeout and the trial deadline. -/

namespace Sys2Proof.Machine

section
variable {s : State}

/-! ### DEVICE operations (R104, R105) -/

section
variable {n : Fin 34} {d : DevOp} (hp : s.pwr.down = false) (hl : lineLocked s = true) (hd : (s.line n.val).dev = some d)
include hp hl hd

theorem devBurstDone_waits (data : List Byte)
    (h : d.dest ≠ 0 ∨ devBlocked s n = true ∨ laneHolds s n.val = true ∨ d.left = 0) : execDevBurstDone n data s = .next s := by
  rw [execDevBurstDone, clocked_of hp hl]
  simp only [hd]
  rw [if_pos h]

theorem devBurstDone_takes (data : List Byte) (hb : devBlocked s n = false) (h0 : d.dest = 0) (hleft : d.left ≠ 0)
    (hlane : laneHolds s n.val = false) :
    let k := min d.left (4096 - d.addr % 4096)
    let bs := takePad k data
    let t := drive s n.val (deviceFrame s n.val (opEntry s n.val d.entry) d.cs d.addr [])
    let t := t.setLine n.val { t.line n.val with dev := some { d with addr := d.addr + k, left := d.left - k, dropped := false } }
    execDevBurstDone n data s =
      .next (feedLane (fillBurst (captureResponse t n.val d.entry d.addr bs) n.val d.cs d.addr d.dropped bs) n.val bs) := by
  dsimp only
  rw [execDevBurstDone, clocked_of hp hl]
  simp only [hd]
  rw [if_neg (by simp [h0, hb, hlane, hleft])]

theorem devFrameDone_blocked (data : List Byte) (hb : devBlocked s n = true) : execDevFrameDone n data s = .next s := by
  rw [execDevFrameDone, clocked_of hp hl]
  simp only [hd]
  rw [if_pos hb]

/-- The end of a read to the Examiner, once no byte is left. -/
theorem devFrameDone_lane (data : List Byte) (hb : devBlocked s n = false) (h0 : d.dest = 0) :
    execDevFrameDone n data s = .next (if d.left = 0 then endDev s n.val 0 else s) := by
  rw [execDevFrameDone, clocked_of hp hl]
  simp only [hd]
  rw [if_neg (by simp [hb]), h0]
  rfl

theorem devFrameDone_memory (data : List Byte) (hb : devBlocked s n = false) (h1 : d.dest = 1) :
    let bs := takePad d.left data
    let t := drive s n.val (deviceFrame s n.val (opEntry s n.val d.entry) d.cs d.addr [])
    let u := endDev (captureResponse (t.wrMemN d.buf bs) n.val d.entry d.addr bs) n.val 0
    execDevFrameDone n data s = .next (identRead u n.val (opEntry u n.val d.entry).opcode bs) := by
  dsimp only
  rw [execDevFrameDone, clocked_of hp hl]
  simp only [hd]
  rw [if_neg (by simp [hb]), h1]
  rfl

theorem devFrameDone_program (data : List Byte) (hb : devBlocked s n = false) (h2 : 2 ≤ d.dest) :
    let t := drive s n.val (deviceFrame s n.val (opEntry s n.val d.entry) d.cs d.addr (s.rdMemN d.buf d.left))
    let t := t.setLine n.val { t.line n.val with resetSeen := d.entry :: (t.line n.val).resetSeen }
    let t := if n.val < 32 then trackAddr t n.val (opEntry t n.val d.entry).opcode
      (if d.left = 0 then none else some (s.rdMem d.buf).toNat) else t
    execDevFrameDone n data s = .next (endDev
      (if recovering t n.val = true ∧ kindOf (opEntry t n.val d.entry).desc = 3 then t.inc Reg.RTB_RCV_PAGES else t) n.val 0) := by
  obtain ⟨k, hk⟩ := Nat.exists_eq_add_of_le' h2
  dsimp only
  rw [execDevFrameDone, clocked_of hp hl]
  simp only [hd]
  rw [if_neg (by simp [hb]), hk]
  rfl

end

/-! ### Report inputs (R162, R185, R188) -/

theorem components_congr {t : State} (h : t.mem = s.mem) : components t = components s := by
  have hr : consistSource t = consistSource s := by
    funext off n
    exact State.rdMemN_congr h _ _
  rw [components, components, hr]

section
variable {l samples : Nat} {ready : Bool}

/-- A level read at a report input, shown with its change bit and its interrupt, a ready level recorded. -/
def reportShown (s : State) (l : Nat) (ready : Bool) : State :=
  let t := ((s.setBit (Reg.HLD_REPORT (l / 32)) (l % 32) ready).setBit (Reg.HLD_RPT_CHG (l / 32)) (l % 32) true).raise 7
  if ready then t.log Ev.REPORT_READY .power l [BitVec.ofNat 8 (((reportOwner s l).map (fun e => e.num)).getD 0xFF)] else t

theorem reportShown_frame : AllBut [.regs, .evr, .mbx, .irq, .irq1] s (reportShown s l ready) := by
  unfold reportShown
  have h1 (a b : Nat) : AllBut [.regs, .evr, .mbx, .irq, .irq1] s (((s.setBit a (l % 32) ready).setBit b (l % 32) true).raise 7) :=
    (((AllBut.setBit _ _ _ _).trans (AllBut.setBit _ _ _ _)).mono (by simp)).trans ((AllBut.raise _ _).mono (by simp))
  dsimp only
  split
  · exact (h1 _ _).trans (Eventful.log _ _ _ _ _).1
  · exact h1 _ _

theorem reportOwner_shown : reportOwner (reportShown s l ready) l = reportOwner s l := by
  rw [reportOwner, reportOwner, components_congr reportShown_frame.memEq]

theorem upd_reportShown : (reportShown s l ready).upd = s.upd := reportShown_frame .upd (by decide)

theorem reportChange_ignored (h : s.bit (Reg.HLD_LCFG l) 8 = false ∨ reportReady s l = ready ∨ samples < s.fld Reg.HLD_FILTER 7 0 + 1) :
    reportChange s l ready samples = s := if_pos h

/-- What a report's new level means for the component that owns the line (R185, R188). -/
def reportMeans (u : State) (l : Nat) (ready : Bool) (e : CompEntry) : State :=
  if ready then
    if compState u e.num = 3 ∧ linesReady u e = true
    then unholdPrereq (noteReady (setCompState u e.num 4) e.num true) (components u) else u
  else if u.upd.fw.ready.contains e.num then
    let v := u.log Ev.REPORT_LOST .power l (leBytes 1 e.num)
    if compState v e.num = 4 ∧ linesReady v e = false then setCompState v e.num 3 else v
  else u

theorem reportChange_shown (hb : s.bit (Reg.HLD_LCFG l) 8 = true) (hne : reportReady s l ≠ ready)
    (hs : s.fld Reg.HLD_FILTER 7 0 < samples) : reportChange s l ready samples =
      match reportOwner s l with
      | none => reportShown s l ready
      | some e => reportMeans (reportShown s l ready) l ready e := by
  have hn : ¬ (s.bit (Reg.HLD_LCFG l) 8 = false ∨ reportReady s l = ready ∨ samples < s.fld Reg.HLD_FILTER 7 0 + 1) := by
    rw [hb]
    simp only [Bool.true_eq_false, hne, false_or]
    omega
  have hown (a b : Nat) : reportOwner (((s.setBit a (l % 32) ready).setBit b (l % 32) true).raise 7) l = reportOwner s l :=
    congrArg (List.find? _) (components_congr rfl)
  have hnum : leBytes 1 (match reportOwner s l with
      | some e => e.num
      | none => 0xFF) = [BitVec.ofNat 8 (((reportOwner s l).map (fun e => e.num)).getD 0xFF)] := by
    cases reportOwner s l <;> rfl
  have hu : (if ready then (((s.setBit (Reg.HLD_REPORT (l / 32)) (l % 32) ready).setBit (Reg.HLD_RPT_CHG (l / 32)) (l % 32) true).raise 7).log
      Ev.REPORT_READY .power l (leBytes 1 (match reportOwner s l with
        | some e => e.num
        | none => 0xFF)) else
      (((s.setBit (Reg.HLD_REPORT (l / 32)) (l % 32) ready).setBit (Reg.HLD_RPT_CHG (l / 32)) (l % 32) true).raise 7)) =
      reportShown s l ready := by
    rw [hnum]
    rfl
  unfold reportChange
  rw [if_neg hn]
  dsimp only
  rw [hown]
  refine Eq.trans (b := match reportOwner (reportShown s l ready) l with
      | none => reportShown s l ready
      | some e => reportMeans (reportShown s l ready) l ready e) ?_ (by rw [reportOwner_shown])
  rw [← hu]
  rfl

end

end

/-- Settles O45: every command's branch, by what the port, the line or the component shows. -/
theorem deviceBurstsAndReports : Obligations.DeviceBurstsAndReports := by
  intro s hp
  refine ⟨fun n d data hl hd => ⟨fun hb => ⟨devBurstDone_waits hp hl hd data (.inr (.inl hb)), devFrameDone_blocked hp hl hd data hb⟩,
      fun h => devBurstDone_waits hp hl hd data ?_, fun hb h0 hleft hlane => devBurstDone_takes hp hl hd data hb h0 hleft hlane,
      fun hb h0 hleft => (devFrameDone_lane hp hl hd data hb h0).trans (congrArg Host.Outcome.next (if_pos hleft)),
      fun hb h0 hleft => (devFrameDone_lane hp hl hd data hb h0).trans (congrArg Host.Outcome.next (if_neg hleft)),
      fun hb h1 => devFrameDone_memory hp hl hd data hb h1, fun hb h2 => devFrameDone_program hp hl hd data hb h2⟩,
    fun l ready samples => ?_, fun c e waited he => ?_, fun c e he => ?_, fun c waited he => ?_⟩
  · tauto
  · have run : execReportChange l ready samples s = settled (confirmReady (compChanges s (reportChange s l.val ready samples))) := by
      rw [execReportChange, actSettle_of hp]
    refine ⟨fun h => run.trans (by rw [reportChange_ignored h]), fun hb hne hs => ?_⟩
    rw [reportChange_shown hb hne hs] at run
    have ready' (e : CompEntry) (ho : reportOwner s l.val = some e) (v : State)
        (hv : reportMeans (reportShown s l.val ready) l.val ready e = v) :
        execReportChange l ready samples s = settled (confirmReady (compChanges s v)) := by
      rw [run, ho, ← hv]
    refine ⟨fun ho => ?_, fun e ho hr hc hl => ready' e ho _ ?_, fun e ho hr hc => ready' e ho _ ?_,
      fun e ho hr hm => ready' e ho _ ?_, fun e ho hr hm => ready' e ho _ ?_⟩
    · have ho' : reportOwner s l.val = none := ho
      rw [ho'] at run
      exact run
    · exact (if_pos hr).trans (if_pos ⟨hc, hl⟩)
    · exact (if_pos hr).trans (if_neg (by rintro ⟨h1, h2⟩; rcases hc with h | h; exacts [h h1, Bool.false_ne_true (h.symm.trans h2)]))
    · refine (if_neg (by simp [hr])).trans (if_pos ?_)
      rw [upd_reportShown]
      exact List.contains_iff_mem.2 hm
    · refine (if_neg (by simp [hr])).trans (if_neg ?_)
      rw [upd_reportShown]
      exact fun hc => hm (List.contains_iff_mem.1 hc)
  · have run : execReportTimeout c waited s = settled (reportTimeout s c.val waited) := by
      rw [execReportTimeout, actSettle_of hp]
    rw [reportTimeout, he] at run
    exact ⟨fun h => run.trans (congrArg settled (if_pos (by omega))), fun h => run.trans (congrArg settled (if_neg (by omega)))⟩
  · have run : execTrialDeadline c s = settled (revertTrial s c.val) := by
      rw [execTrialDeadline, actSettle_of hp]
    rw [revertTrial, he] at run
    exact ⟨fun h => run.trans (congrArg settled (if_neg h)), fun h => run.trans (congrArg settled (if_pos h))⟩
  · refine ⟨?_, ?_⟩
    · show execReportTimeout c waited s = _
      rw [execReportTimeout, actSettle_of hp, reportTimeout, he]
    · show execTrialDeadline c s = _
      rw [execTrialDeadline, actSettle_of hp, revertTrial, he]

end Sys2Proof.Machine
end

section
/-! The request layer: what firmware's taking of a request leaves, and what an event's record leaves of what requests read. -/

namespace Sys2Proof.Machine

/-! ### A request that reaches firmware -/

section
variable {s : State} {q : Sender}

/-- Taking a request makes its record and names the requester, and changes nothing else (R207, R359). -/
theorem taken_eventful (s : State) (q : Sender) (code : Nat) : Eventful s (taken s q code) := by
  have hlog : Eventful s (logRequest s q code) := by
    unfold logRequest
    dsimp only
    split
    · exact Eventful.log _ _ _ _ _
    · exact Eventful.refl s
  exact hlog.trans (Eventful.wr _ _ (by unfold recorderWord; decide))

/-- A request that firmware hears is carried out on the state that has taken it. -/
theorem request_heard (h : Heard s q) (c : Request) (code : Nat) (f : State → State) :
    request c code q s f = served (f (taken s q code)) := by
  obtain ⟨hp, hr⟩ := h
  rw [request, actSettle_of hp, if_pos hr]
  rfl

end

/-! ### What a record leaves of the registers and of memory -/

section
variable {s t : State} (h : Eventful s t)
include h

theorem Eventful.mem_eq : t.mem = s.mem := h.1 .mem (by decide)
theorem Eventful.upd_eq : t.upd = s.upd := h.1 .upd (by decide)
theorem Eventful.pwr_eq : t.pwr = s.pwr := h.1 .pwr (by decide)
theorem Eventful.host_eq : t.host = s.host := h.1 .host (by decide)
theorem Eventful.fix_eq : t.fix = s.fix := h.1 .fix (by decide)
theorem Eventful.ledger_eq : t.ledger = s.ledger := h.1 .ledger (by decide)
theorem Eventful.tmp_eq : t.tmp = s.tmp := h.1 .tmp (by decide)
theorem Eventful.lcs_eq : t.lcs = s.lcs := h.1 .lcs (by decide)
theorem Eventful.att_eq : t.att = s.att := h.1 .att (by decide)
theorem Eventful.sig_eq : t.sig = s.sig := h.1 .sig (by decide)
theorem Eventful.ilk_eq : t.ilk = s.ilk := h.1 .ilk (by decide)
theorem Eventful.pcc_eq : t.pcc = s.pcc := h.1 .pcc (by decide)
theorem Eventful.ot_eq : t.ot = s.ot := h.1 .ot (by decide)
theorem Eventful.home_eq : t.home = s.home := h.1 .home (by decide)
theorem Eventful.lines_eq : t.lines = s.lines := h.1 .lines (by decide)
theorem Eventful.stage2Ready_eq : t.stage2Ready = s.stage2Ready := h.1 .stage2Ready (by decide)

theorem Eventful.bit_eq {a : Nat} (ha : ¬ recorderWord a) (i : Nat) : t.bit a i = s.bit a i := bit_of_rd (h.2 a ha) i
theorem Eventful.fld_eq {a : Nat} (ha : ¬ recorderWord a) (hi lo : Nat) : t.fld a hi lo = s.fld a hi lo := fld_of_rd (h.2 a ha) hi lo

theorem Eventful.rdBytes_eq {n : Nat} : ∀ {a : Nat}, (∀ k < n, ¬ recorderWord (a + 4 * k)) → t.rdBytes a n = s.rdBytes a n := by
  induction n with
  | zero => exact fun _ => rfl
  | succ n ih =>
    intro a ha
    rw [State.rdBytes, State.rdBytes, h.2 a (ha 0 (by omega)), ih fun k hk => ?_]
    rw [show a + 4 + 4 * k = a + 4 * (k + 1) by omega]
    exact ha (k + 1) (by omega)

theorem Eventful.rdMemN_eq (a n : Nat) : t.rdMemN a n = s.rdMemN a n := State.rdMemN_congr h.mem_eq n a

/-! ### Components and their records -/

theorem Eventful.consist_eq : consistSource t = consistSource s := by
  funext off n
  exact h.rdMemN_eq _ _

theorem Eventful.compEntry_eq (c : Nat) : compEntry t c = compEntry s c := by
  rw [compEntry, compEntry, components, components, h.consist_eq]

theorem Eventful.recoveryFlags_eq (i : Nat) : recoveryFlags t i = recoveryFlags s i := by
  have hle (off n : Nat) : consistLe t off n = consistLe s off n := congrArg leNat (h.rdMemN_eq _ _)
  simp only [recoveryFlags, hle]

theorem Eventful.rtbRec_eq {c : Nat} (hc : c < 256) : rtbRec t c = rtbRec s c :=
  h.rdBytes_eq fun k hk => by unfold recorderWord Reg.RTB_REC; omega

theorem Eventful.compState_eq {c : Nat} (hc : c < 256) : compState t c = compState s c :=
  h.fld_eq (by unfold recorderWord Reg.RTB_COMP; omega) 3 0

theorem Eventful.trialPast_eq (r : List Byte) : trialPast t r = trialPast s r := by
  rw [trialPast, trialPast, h.pcc_eq, h.ot_eq]

theorem Eventful.updOpts_eq (c : Nat) : updOpts t c = updOpts s c := by rw [updOpts, updOpts, h.upd_eq]

theorem Eventful.identBad_eq (e : CompEntry) : identBad t e = identBad s e := by
  unfold identBad
  refine congrArg e.sections.any (funext fun n => h.bit_eq ?_ 6)
  unfold recorderWord Reg.SEC_PORT_STAT
  omega

theorem Eventful.restoreTarget_eq {c : Nat} (hc : c < 256) : restoreTarget t c = restoreTarget s c := by
  have hf : hasFailed t c = hasFailed s c := by
    funext x
    rw [hasFailed, hasFailed, h.upd_eq]
  rw [restoreTarget, restoreTarget, h.rtbRec_eq hc, hf]

theorem Eventful.recoverSource_eq {e : CompEntry} (he : e.num < 256) (x mask : Nat) :
    recoverSource t e x mask = recoverSource s e x mask := by
  have hall (i : Nat) : allImages t e i = allImages s e i := by
    simp only [allImages, h.recoveryFlags_eq]
  rw [recoverSource, recoverSource, hall, hall, h.rtbRec_eq he]

theorem Eventful.lastSlot_eq (c : Nat) : lastSlot t c = lastSlot s c := by rw [lastSlot, lastSlot, h.upd_eq]

/-! ### Features -/

theorem Eventful.negotiated_eq (n : Nat) : negotiated t n = negotiated s n := by
  unfold negotiated
  rw [h.bit_eq (by unfold recorderWord Reg.VIN_CTL; omega) 1,
    h.rdBytes_eq (n := 4) (a := Reg.HST_DRV_FEATURES 0) (fun k hk => by unfold recorderWord Reg.HST_DRV_FEATURES; omega),
    h.rdBytes_eq (n := 4) (a := Reg.VIN_DRV_FEAT n 0) (fun k hk => by unfold recorderWord Reg.VIN_DRV_FEAT; omega)]

theorem Eventful.hasFeature_eq (n b : Nat) : hasFeature t n b = hasFeature s n b := by
  rw [hasFeature, hasFeature, h.negotiated_eq]

theorem Eventful.mayUpdate_eq (q : Sender) : mayUpdate t q = mayUpdate s q := by
  cases q with
  | agent a => rfl
  | inst n => exact congrArg ((n.val == 0) && ·) (h.hasFeature_eq 0 10)

theorem Eventful.pushStatus_eq (q : Sender) (restart : Bool) {c : Nat} (hc : c < 256) (img total slot : Nat) :
    pushStatus t q restart c img total slot = pushStatus s q restart c img total slot := by
  have hsealed : sealed t = sealed s := h.bit_eq (by unfold recorderWord; decide) 1
  have hrcv : t.bit Reg.RTB_RCV_STAT 6 = s.bit Reg.RTB_RCV_STAT 6 := h.bit_eq (by unfold recorderWord; decide) 6
  simp only [pushStatus, h.mayUpdate_eq, h.upd_eq, h.stage2Ready_eq, hsealed, hrcv, h.compEntry_eq, h.compState_eq hc,
    h.identBad_eq, h.recoveryFlags_eq, h.rtbRec_eq hc]

end

end Sys2Proof.Machine
end

section
/-! O46: the update, trial, recovery and push requests. -/

namespace Sys2Proof.Machine

section
variable {s u : State} {q : Sender} {w0 c : Nat} (h : Eventful s u) (hc : c < 256)

/-! ### UPDATE_BEGIN (R193) -/

include h hc in
theorem beginStatus_congr : beginStatus u q c = beginStatus s q c := by
  have hb : u.bit Reg.RTB_UPD_STAT 6 = s.bit Reg.RTB_UPD_STAT 6 := h.bit_eq (by unfold recorderWord; decide) 6
  rw [beginStatus, beginStatus, h.rtbRec_eq hc, h.mayUpdate_eq, hb, h.compState_eq hc]

theorem beginStatus_denied (hm : mayUpdate s q = false) : beginStatus s q c = 1 := if_pos hm

section
variable (hm : mayUpdate s q = true)
include hm

theorem beginStatus_allowed : beginStatus s q c =
    if 64 ≤ c then 6
    else if recTrial (rtbRec s c) = true ∨ s.bit Reg.RTB_UPD_STAT 6 = true then 2
    else if (compState s c ≠ 3 ∧ compState s c ≠ 4) ∨ 2 ≤ recActive (rtbRec s c) then 3
    else 0 := if_neg (by simp [hm])

theorem beginStatus_busy (hc : c < 64) (hb : recTrial (rtbRec s c) = true ∨ s.bit Reg.RTB_UPD_STAT 6 = true) : beginStatus s q c = 2 :=
  (beginStatus_allowed hm).trans ((if_neg (by omega)).trans (if_pos hb))

variable (hlt : c < 64) (ht : recTrial (rtbRec s c) = false) (ho : s.bit Reg.RTB_UPD_STAT 6 = false)
include hlt ht ho

theorem beginStatus_state (hs : (compState s c ≠ 3 ∧ compState s c ≠ 4) ∨ 2 ≤ recActive (rtbRec s c)) : beginStatus s q c = 3 :=
  (beginStatus_allowed hm).trans ((if_neg (by omega)).trans ((if_neg (by simp [ht, ho])).trans (if_pos hs)))

theorem beginStatus_ok (hs : compState s c = 3 ∨ compState s c = 4) (ha : recActive (rtbRec s c) < 2) : beginStatus s q c = 0 :=
  (beginStatus_allowed hm).trans ((if_neg (by omega)).trans ((if_neg (by simp [ht, ho])).trans (if_neg (by omega))))

end

theorem updateBegin_refused {st : Nat} (hst : beginStatus u q c = st) (hne : st ≠ 0) :
    updateBegin u q w0 c = (u.fwLog Ev.UPDATE_REFUSED c (leBytes 1 st ++ [0])).answer q w0 st [] true := by
  subst hst
  exact if_pos hne

theorem updateBegin_commits (hst : beginStatus u q c = 0) : updateBegin u q w0 c =
    let x := 1 - recActive (rtbRec u c)
    let t := fwCommit u [updSubject c, rtbAct c (rtbRec u c) (nextGen (clearSlot (rtbRec u c) x))]
    if t.2 ≠ 0 then (t.1.fwLog Ev.UPDATE_REFUSED c (leBytes 1 (txStatus t.2) ++ [0])).answer q w0 (txStatus t.2) [] true
    else ((t.1.fwL Reg.RTB_UPD_STAT 10 0 (c + 2 ^ 6)).fwLog Ev.UPDATE_BEGIN c
      (leBytes 1 x ++ leBytes 1 q.origin.code)).answer q w0 0 [] true :=
  if_neg (not_not_intro hst)

/-! ### UPDATE_COMMIT, TRIAL_CONFIRM and UPDATE_ABORT (R195, R199, R204) -/

/-- An update of a component is open at a step by the update status. -/
theorem updOpenAt_iff {k : Nat} : updOpenAt s c k = true ↔
    s.bit Reg.RTB_UPD_STAT 6 = true ∧ s.fld Reg.RTB_UPD_STAT 5 0 = c ∧ s.fld Reg.RTB_UPD_STAT 10 8 = k := by
  simp [updOpenAt, and_assoc]

include h in
theorem updOpenAt_congr (k : Nat) : updOpenAt u c k = updOpenAt s c k := by
  have hr : ¬ recorderWord Reg.RTB_UPD_STAT := by unfold recorderWord; decide
  rw [updOpenAt, updOpenAt, h.bit_eq hr, h.fld_eq hr, h.fld_eq hr]

theorem updateCommit_denied {opts : Nat} (hm : mayUpdate u q = false) :
    updateCommit u q w0 c opts = (u.fwLog Ev.UPDATE_REFUSED c (leBytes 1 1 ++ [0])).answer q w0 1 [] true := if_pos hm

theorem updateCommit_state {opts : Nat} (hm : mayUpdate u q = true) (hn : compEntry u c = none ∨ updOpenAt u c 0 = false) :
    updateCommit u q w0 c opts = (u.fwLog Ev.UPDATE_REFUSED c (leBytes 1 3 ++ [0])).answer q w0 3 [] true := by
  unfold updateCommit
  rw [if_neg (by simp [hm])]
  rcases hn with hn | hn
  · rw [hn]; rfl
  · cases compEntry u c with
    | none => rfl
    | some e => exact if_pos hn

/-- The state with the update of a component waiting for its stage, its options and its request kept (R195). -/
def updWaits (v : State) (q : Sender) (w0 c opts : Nat) : State :=
  let v := v.mapFw (fun f => { f with since := f.since.filter (fun p => p.1 != c) ++ [(c, v.ot)] })
  { v with upd := { v.upd with opts := Sparse.set (fun _ => 0) v.upd.opts c (opts % 4), who := v.upd.who ++ [(c, (q, w0))] } }

theorem updWaits_spec (v : State) (opts : Nat) :
    AllBut [.upd] v (updWaits v q w0 c opts) ∧ (updWaits v q w0 c opts).upd.who = v.upd.who ++ [(c, (q, w0))] ∧
      updOpts (updWaits v q w0 c opts) c = opts % 4 ∧
      (updWaits v q w0 c opts).upd.fw.since = v.upd.fw.since.filter (fun p => p.1 != c) ++ [(c, v.ot)] := by
  refine ⟨?_, rfl, Sparse.get_set_self _ _ _ _, rfl⟩
  intro p hp
  cases p
  case upd => exact absurd (by decide) hp
  all_goals rfl

theorem updateCommit_takes {opts : Nat} {e : CompEntry} (hm : mayUpdate u q = true) (he : compEntry u c = some e)
    (ho : updOpenAt u c 0 = true) : updateCommit u q w0 c opts =
      let t := fwCommit u (takeRecs e)
      if t.2 ≠ 0 then (t.1.fwLog Ev.UPDATE_REFUSED c (leBytes 1 (txStatus t.2) ++ [0])).answer q w0 (txStatus t.2) [] true
      else (updWaits (compChanges t.1 (setCompState (t.1.fwL Reg.RTB_UPD_STAT 10 8 1) c 1)) q w0 c opts).answer q w0 7 [] false := by
  unfold updateCommit
  rw [if_neg (by simp [hm]), he]
  exact if_neg (by simp [ho])

theorem trialConfirm_denied (hm : mayUpdate u q = false) : trialConfirm u q w0 c = u.answer q w0 1 [] true := if_pos hm

theorem trialConfirm_allowed (hm : mayUpdate u q = true) : trialConfirm u q w0 c =
    if c < 64 ∧ recTrial (rtbRec u c) = true ∧ trialPast u (rtbRec u c) = false ∧ bitOf (updOpts u c) 0 = true
    then (confirmTrial u c).1.answer q w0 (txStatus (confirmTrial u c).2) [] true
    else u.answer q w0 3 [] true := by
  refine (if_neg (by simp [hm])).trans ?_
  by_cases hd : c < 64 ∧ recTrial (rtbRec u c) = true ∧ trialPast u (rtbRec u c) = false ∧ bitOf (updOpts u c) 0 = true
  · refine (if_neg ?_).trans (if_pos hd).symm
    obtain ⟨h1, h2, h3, h4⟩ := hd
    simp [h1, h2, h3, h4]
  · refine (if_pos ?_).trans (if_neg hd).symm
    by_contra hn
    apply hd
    simpa [not_or] using hn

/-! ### RECOVER (R205) -/

section
variable {mask : Nat}

theorem recover_denied (hm : mayUpdate u q = false) : recover u q w0 c mask = u.answer q w0 1 [] true := if_pos hm

theorem recover_none (hm : mayUpdate u q = true) (hn : compEntry u c = none ∨ restoreTarget u c = none) :
    recover u q w0 c mask = u.answer q w0 3 [] true := by
  unfold recover
  rw [if_neg (by simp [hm])]
  rcases hn with hn | hn
  · rw [hn]
  · rw [hn]
    cases compEntry u c <;> rfl

/-- Another recovery, update or push is in progress. -/
def recoverBusy (s : State) : Prop :=
  s.bit Reg.RTB_RCV_STAT 6 = true ∨ s.bit Reg.RTB_UPD_STAT 6 = true ∨ s.upd.push ≠ none ∨ s.upd.fw.recover ≠ []

/-- The component's state admits a recovery, and its parts identify. -/
def recoverReady (s : State) (c : Nat) (e : CompEntry) : Prop :=
  (compState s c = 3 ∨ compState s c = 4 ∨ compState s c = 5) ∧ identBad s e = false

variable {e : CompEntry} {y : Nat} (hm : mayUpdate u q = true) (he : compEntry u c = some e) (hy : restoreTarget u c = some y)
include hm he hy

theorem recover_busy (hb : recoverBusy u) : recover u q w0 c mask = u.answer q w0 2 [] true := by
  unfold recover
  rw [if_neg (by simp [hm]), he, hy]
  refine if_pos ?_
  simpa only [recoverBusy, Option.isSome_iff_ne_none, List.isEmpty_eq_false_iff] using hb

theorem recover_idle (hb : ¬ recoverBusy u) : recover u q w0 c mask =
    if (¬(compState u c = 3 ∨ compState u c = 4) ∧ compState u c ≠ 5) ∨ identBad u e = true then u.answer q w0 3 [] true
    else match recoverSource u e y mask with
      | none => u.answer q w0 3 [] true
      | some src =>
        if compState u c = 5 then recoverTaken u q w0 c mask src y
        else
          let t := fwCommit u (takeRecs e)
          if t.2 = 0 then recoverTaken t.1 q w0 c mask src y else t.1.answer q w0 (txStatus t.2) [] true := by
  unfold recover
  rw [if_neg (by simp [hm]), he, hy]
  refine (if_neg ?_).trans rfl
  intro hn
  apply hb
  simpa only [recoverBusy, Option.isSome_iff_ne_none, List.isEmpty_eq_false_iff] using hn

theorem recover_refused (hb : ¬ recoverBusy u) (hr : ¬ recoverReady u c e ∨ recoverSource u e y mask = none) :
    recover u q w0 c mask = u.answer q w0 3 [] true := by
  rw [recover_idle hm he hy hb]
  split
  · rfl
  · next hn =>
    have hready : recoverReady u c e := by
      refine ⟨by omega, Bool.eq_false_iff.2 fun h => hn (.inr h)⟩
    rw [hr.resolve_left (not_not_intro hready)]

theorem recover_takes (hb : ¬ recoverBusy u) (hr : recoverReady u c e) {src : Nat} (hs : recoverSource u e y mask = some src) :
    recover u q w0 c mask =
      if compState u c = 5 then recoverTaken u q w0 c mask src y
      else
        let t := fwCommit u (takeRecs e)
        if t.2 = 0 then recoverTaken t.1 q w0 c mask src y else t.1.answer q w0 (txStatus t.2) [] true := by
  obtain ⟨h1, h2⟩ := hr
  rw [recover_idle hm he hy hb, if_neg (by rw [h2]; simp only [Bool.false_eq_true, or_false]; omega), hs]

end

/-! ### PUSH_OPEN, PUSH_DATA and PUSH_CLOSE (R206-R209) -/

/-- The state with the push set up that its request describes. -/
def pushSet (u : State) (q : Sender) (c img total y : Nat) : State :=
  let p : Push := { q := q, comp := c, image := img, slot := y, total := total, next := 0 }
  { u with upd := { u.upd with fw := { u.upd.fw with restore := none }, push := some p } }

/-- The answer to a push request that was set up. -/
def pushKept (s : State) (q : Sender) (w0 c img total x : Nat) : State :=
  let s := s.mapFw (fun f => { f with restore := none })
  ({ s with upd := { s.upd with push := some { q := q, comp := c, image := img, slot := x, total := total, next := 0 } } } : State).answer q w0 0 [] true

theorem pushKept_eq {img total x : Nat} : pushKept u q w0 c img total x = (pushSet u q c img total x).answer q w0 0 [] true := rfl

/-- A push request refused and logged. -/
theorem pushRefuse_eq (st off : Nat) : pushRefuse u q w0 c st off =
    (u.fwLog Ev.PUSH_REFUSED c (leBytes 1 st ++ leBytes 4 off)).answer q w0 st [] true := rfl

/-- Whether a push of the same data is open already, so that PUSH_OPEN starts it again. -/
def pushAgain (s : State) (q : Sender) (c img : Nat) : Bool :=
  match s.upd.push with
  | some p => p.q == q && p.comp == c && p.image == img && !p.closed
  | none => false

section
variable {img total slot : Nat}

theorem pushOpen_refused {st : Nat} (hst : pushStatus u q (pushAgain u q c img) c img total slot = st) (hne : st ≠ 0) :
    pushOpen u q w0 c img total slot = pushRefuse u q w0 c st 0 := by
  subst hst
  exact if_pos hne

theorem pushOpen_taken (hst : pushStatus u q (pushAgain u q c img) c img total slot = 0) :
    pushOpen u q w0 c img total slot =
      if pushAgain u q c img = true then pushKept u q w0 c img total ((u.upd.push.map (fun p => p.slot)).getD 0)
      else if 64 ≤ c then pushKept u q w0 c img total (1 - lastSlot u c)
      else
        let x := (pushSlot (rtbRec u c) slot).getD 0
        let t := recoveryBegin u c 2 x
        if t.2 = 0 then pushKept t.1 q w0 c img total x else pushRefuse t.1 q w0 c (txStatus t.2) 0 := by
  unfold pushOpen
  exact if_neg (not_not_intro hst)

end

/-- A push is the sender's own, of the component and image named, and still open. -/
def pushMine (p : Push) (q : Sender) (c img : Nat) : Prop := p.q = q ∧ p.comp = c ∧ p.image = img ∧ p.closed = false

/-- How many bytes one request of a sender may carry (R207, R285). -/
def pushMost (q : Sender) : Nat :=
  match q with
  | .agent _ => 56
  | .inst _ => 4096

/-- The bytes are the next of the push, and keep to its length. -/
def pushFits (p : Push) (most off n : Nat) : Prop :=
  off = p.next ∧ (most = 56 → off % 56 = 0) ∧ n ≠ 0 ∧ n ≤ most ∧ off + n ≤ p.total

section
variable {img off addr kind : Nat} {bs : List Byte}

theorem pushData_denied (hm : mayUpdate u q = false) : pushData u q w0 c img off addr (some bs) kind = u.answer q w0 1 [] true := by
  unfold pushData
  cases u.upd.push with
  | none => exact if_neg (by simp [hm])
  | some p => exact if_pos hm

theorem pushData_closed (hm : mayUpdate u q = true) (hp : u.upd.push = none) :
    pushData u q w0 c img off addr (some bs) kind = pushRefuse u q w0 c 3 off := by
  unfold pushData
  rw [hp]
  exact if_pos hm

theorem pushData_unread : pushData u q w0 c img off addr none kind = readFailed u q w0 addr kind := by
  unfold pushData
  cases u.upd.push <;> rfl

variable {p : Push} (hm : mayUpdate u q = true) (hp : u.upd.push = some p)
include hm hp

theorem pushData_open : pushData u q w0 c img off addr (some bs) kind =
    if p.q ≠ q ∨ p.comp ≠ c ∨ p.image ≠ img ∨ p.closed = true then pushRefuse u q w0 c 3 off
    else if off ≠ p.next ∨ (pushMost q = 56 ∧ off % 56 ≠ 0) ∨ bs.length = 0 ∨ pushMost q < bs.length ∨ p.total < off + bs.length
    then pushRefuse u q w0 c 6 off
    else ({ u with upd := { u.upd with push := some { p with next := off + bs.length, data := p.data ++ bs } } } : State).answer q w0 0 [] true := by
  unfold pushData
  rw [hp]
  exact if_neg (by simp [hm])

theorem pushClose_open : pushClose u q w0 c img =
    if p.q ≠ q ∨ p.comp ≠ c ∨ p.image ≠ img ∨ p.closed = true then pushRefuse u q w0 c 3 p.next
    else if p.next < p.total then pushRefuse u q w0 c 6 p.next
    else
      let t : State := { u with upd := { u.upd with push := some { p with closed := true } } }
      if c < 64 then ({ t with upd := { t.upd with who := t.upd.who ++ [(c, (q, w0))] } } : State).answer q w0 7 [] false
      else t.answer q w0 0 [] true := by
  unfold pushClose
  rw [hp]
  exact if_neg (by simp [hm])

end

theorem not_pushMine_iff {p : Push} {img : Nat} :
    ¬ pushMine p q c img ↔ p.q ≠ q ∨ p.comp ≠ c ∨ p.image ≠ img ∨ p.closed = true := by
  rw [pushMine, not_and_or, not_and_or, not_and_or, Bool.not_eq_false]

theorem not_pushFits_iff {p : Push} {most off n : Nat} : ¬ pushFits p most off n ↔
    off ≠ p.next ∨ (most = 56 ∧ off % 56 ≠ 0) ∨ n = 0 ∨ most < n ∨ p.total < off + n := by
  rw [pushFits]
  omega

end

end Sys2Proof.Machine
end

section
/-! O46: the update requests as commands. -/

namespace Sys2Proof.Machine

section
variable {s : State} {q : Sender} {tag comp : Byte} (hh : Heard s q)

theorem byte_lt (b : Byte) : b.toNat < 256 := b.isLt

/-! ### Each request as it runs on the state that has taken it -/

include hh

theorem execUpdateBegin_of : execUpdateBegin q tag comp s =
    served (updateBegin (taken s q 0x40) q (reqWord 0x40 comp.toNat 0 tag.toNat) comp.toNat) := request_heard hh _ _ _

theorem execUpdateCommit_of (opts : Word) : execUpdateCommit q tag comp opts s =
    served (updateCommit (taken s q 0x41) q (reqWord 0x41 comp.toNat 0 tag.toNat) comp.toNat opts.toNat) := request_heard hh _ _ _

theorem execTrialConfirm_of : execTrialConfirm q tag comp s =
    served (trialConfirm (taken s q 0x42) q (reqWord 0x42 comp.toNat 0 tag.toNat) comp.toNat) := request_heard hh _ _ _

theorem execUpdateAbort_of : execUpdateAbort q tag comp s = served (
    if mayUpdate (taken s q 0x43) q = false then (taken s q 0x43).answer q (reqWord 0x43 comp.toNat 0 tag.toNat) 1 [] true
    else if updOpenAt (taken s q 0x43) comp.toNat 0 then
      (updClose (taken s q 0x43) comp.toNat 0).answer q (reqWord 0x43 comp.toNat 0 tag.toNat) 0 [] true
    else (taken s q 0x43).answer q (reqWord 0x43 comp.toNat 0 tag.toNat) 3 [] true) := request_heard hh _ _ _

theorem execRecover_of (mask : Word) : execRecover q tag comp mask s =
    served (recover (taken s q 0x48) q (reqWord 0x48 comp.toNat 0 tag.toNat) comp.toNat mask.toNat) := request_heard hh _ _ _

theorem execPushOpen_of (img : Byte) (total : Word) (slot : Byte) : execPushOpen q tag comp img total slot s =
    served (pushOpen (taken s q 0x49) q (reqWord 0x49 comp.toNat img.toNat tag.toNat) comp.toNat img.toNat total.toNat slot.toNat) :=
  request_heard hh _ _ _

theorem execPushData_of (img : Byte) (off : Word) (addr : Dword) (data : HostRead) (k : Fin 4) :
    execPushData q tag comp img off addr data k s = served (pushData (taken s q 0x4A) q
      (reqWord 0x4A comp.toNat img.toNat tag.toNat) comp.toNat img.toNat off.toNat addr.toNat data k.val) := request_heard hh _ _ _

theorem execPushClose_of (img : Byte) : execPushClose q tag comp img s =
    served (pushClose (taken s q 0x4B) q (reqWord 0x4B comp.toNat img.toNat tag.toNat) comp.toNat img.toNat) := request_heard hh _ _ _

theorem execStatus_of : execStatus q tag comp s = served (
    let u := taken s q 0x4C
    let w0 := reqWord 0x4C comp.toNat 0 tag.toNat
    if mayUpdate u q = false then u.answer q w0 1 [] true
    else if 64 ≤ comp.toNat then u.answer q w0 6 [] true
    else u.answer q w0 0 (leBytes 4 (u.rd Reg.RTB_UPD_STAT).toNat ++ leBytes 4 (u.rd Reg.RTB_RCV_STAT).toNat ++
      leBytes 1 (leAt (rtbRec u comp.toNat) 6 1)) true) := request_heard hh _ _ _

/-! ### UPDATE_ABORT and STATUS -/

theorem updateAbort_denied (hm : mayUpdate s q = false) : execUpdateAbort q tag comp s =
    answered (taken s q 0x43) q (reqWord 0x43 comp.toNat 0 tag.toNat) 1 [] :=
  (execUpdateAbort_of hh).trans (congrArg served (if_pos (((taken_eventful s q 0x43).mayUpdate_eq q).trans hm)))

theorem updateAbort_allowed (hm : mayUpdate s q = true) : execUpdateAbort q tag comp s =
    if updOpenAt s comp.toNat 0 then answered (updClose (taken s q 0x43) comp.toNat 0) q (reqWord 0x43 comp.toNat 0 tag.toNat) 0 []
    else answered (taken s q 0x43) q (reqWord 0x43 comp.toNat 0 tag.toNat) 3 [] := by
  have hev := taken_eventful s q 0x43
  rw [execUpdateAbort_of hh, if_neg (by rw [hev.mayUpdate_eq, hm]; decide), updOpenAt_congr hev]
  exact apply_ite served _ _ _

theorem status_denied (hm : mayUpdate s q = false) : execStatus q tag comp s =
    answered (taken s q 0x4C) q (reqWord 0x4C comp.toNat 0 tag.toNat) 1 [] :=
  (execStatus_of hh).trans (congrArg served (if_pos (((taken_eventful s q 0x4C).mayUpdate_eq q).trans hm)))

theorem status_allowed (hm : mayUpdate s q = true) : execStatus q tag comp s =
    if 64 ≤ comp.toNat then answered (taken s q 0x4C) q (reqWord 0x4C comp.toNat 0 tag.toNat) 6 []
    else answered (taken s q 0x4C) q (reqWord 0x4C comp.toNat 0 tag.toNat) 0 (leBytes 4 (s.rd Reg.RTB_UPD_STAT).toNat ++
      leBytes 4 (s.rd Reg.RTB_RCV_STAT).toNat ++ leBytes 1 (leAt (rtbRec s comp.toNat) 6 1)) := by
  have hev := taken_eventful s q 0x4C
  refine (execStatus_of hh).trans ?_
  dsimp only
  rw [if_neg (by rw [hev.mayUpdate_eq, hm]; decide), hev.2 _ (by unfold recorderWord; decide), hev.2 _ (by unfold recorderWord; decide),
    hev.rtbRec_eq (byte_lt comp)]
  exact apply_ite served _ _ _

/-! ### UPDATE_BEGIN, UPDATE_COMMIT and TRIAL_CONFIRM -/

theorem updateBegin_status {st : Nat} (hst : beginStatus s q comp.toNat = st) (hne : st ≠ 0) : execUpdateBegin q tag comp s =
    answered ((taken s q 0x40).fwLog Ev.UPDATE_REFUSED comp.toNat (leBytes 1 st ++ [0])) q (reqWord 0x40 comp.toNat 0 tag.toNat) st [] :=
  (execUpdateBegin_of hh).trans (congrArg served
    (updateBegin_refused ((beginStatus_congr (taken_eventful s q 0x40) (byte_lt comp)).trans hst) hne))

theorem updateBegin_begins (hst : beginStatus s q comp.toNat = 0) :
    let x := 1 - recActive (rtbRec s comp.toNat)
    let t := fwCommit (taken s q 0x40) [updSubject comp.toNat, rtbAct comp.toNat (rtbRec s comp.toNat)
      (nextGen (clearSlot (rtbRec s comp.toNat) x))]
    (t.2 ≠ 0 → execUpdateBegin q tag comp s = answered (t.1.fwLog Ev.UPDATE_REFUSED comp.toNat (leBytes 1 (txStatus t.2) ++ [0])) q
      (reqWord 0x40 comp.toNat 0 tag.toNat) (txStatus t.2) []) ∧
    (t.2 = 0 → execUpdateBegin q tag comp s = answered ((t.1.fwL Reg.RTB_UPD_STAT 10 0 (comp.toNat + 2 ^ 6)).fwLog Ev.UPDATE_BEGIN
      comp.toNat (leBytes 1 x ++ leBytes 1 q.origin.code)) q (reqWord 0x40 comp.toNat 0 tag.toNat) 0 []) := by
  have hev := taken_eventful s q 0x40
  have run := (execUpdateBegin_of (tag := tag) (comp := comp) hh).trans (congrArg served
    (updateBegin_commits ((beginStatus_congr hev (byte_lt comp)).trans hst)))
  rw [hev.rtbRec_eq (byte_lt comp)] at run
  exact ⟨fun hne => run.trans (congrArg served (if_pos hne)), fun h0 => run.trans (congrArg served (if_neg (not_not_intro h0)))⟩

theorem updateCommit_refuses_denied (hm : mayUpdate s q = false) (opts : Word) : execUpdateCommit q tag comp opts s =
    answered ((taken s q 0x41).fwLog Ev.UPDATE_REFUSED comp.toNat (leBytes 1 1 ++ [0])) q (reqWord 0x41 comp.toNat 0 tag.toNat) 1 [] :=
  (execUpdateCommit_of hh opts).trans (congrArg served (updateCommit_denied (((taken_eventful s q 0x41).mayUpdate_eq q).trans hm)))

theorem updateCommit_refuses_state (hm : mayUpdate s q = true) (opts : Word)
    (hn : compEntry s comp.toNat = none ∨ updOpenAt s comp.toNat 0 = false) : execUpdateCommit q tag comp opts s =
    answered ((taken s q 0x41).fwLog Ev.UPDATE_REFUSED comp.toNat (leBytes 1 3 ++ [0])) q (reqWord 0x41 comp.toNat 0 tag.toNat) 3 [] := by
  have hev := taken_eventful s q 0x41
  refine (execUpdateCommit_of hh opts).trans (congrArg served (updateCommit_state ((hev.mayUpdate_eq q).trans hm) ?_))
  rwa [hev.compEntry_eq, updOpenAt_congr hev]

theorem updateCommit_of (hm : mayUpdate s q = true) (opts : Word) {e : CompEntry} (he : compEntry s comp.toNat = some e)
    (ho : updOpenAt s comp.toNat 0 = true) : execUpdateCommit q tag comp opts s =
      let t := fwCommit (taken s q 0x41) (takeRecs e)
      let w0 := reqWord 0x41 comp.toNat 0 tag.toNat
      served (if t.2 ≠ 0 then
          (t.1.fwLog Ev.UPDATE_REFUSED comp.toNat (leBytes 1 (txStatus t.2) ++ [0])).answer q w0 (txStatus t.2) [] true
        else (updWaits (compChanges t.1 (setCompState (t.1.fwL Reg.RTB_UPD_STAT 10 8 1) comp.toNat 1)) q w0 comp.toNat
          opts.toNat).answer q w0 7 [] false) := by
  have hev := taken_eventful s q 0x41
  exact (execUpdateCommit_of hh opts).trans (congrArg served (updateCommit_takes ((hev.mayUpdate_eq q).trans hm)
    ((hev.compEntry_eq _).trans he) ((updOpenAt_congr hev 0).trans ho)))

theorem trialConfirm_refuses_denied (hm : mayUpdate s q = false) : execTrialConfirm q tag comp s =
    answered (taken s q 0x42) q (reqWord 0x42 comp.toNat 0 tag.toNat) 1 [] :=
  (execTrialConfirm_of hh).trans (congrArg served (trialConfirm_denied (((taken_eventful s q 0x42).mayUpdate_eq q).trans hm)))

theorem trialConfirm_of (hm : mayUpdate s q = true) : execTrialConfirm q tag comp s = served (
    let u := taken s q 0x42
    if comp.toNat < 64 ∧ recTrial (rtbRec s comp.toNat) = true ∧ trialPast s (rtbRec s comp.toNat) = false ∧
      bitOf (updOpts s comp.toNat) 0 = true
    then (confirmTrial u comp.toNat).1.answer q (reqWord 0x42 comp.toNat 0 tag.toNat) (txStatus (confirmTrial u comp.toNat).2) [] true
    else u.answer q (reqWord 0x42 comp.toNat 0 tag.toNat) 3 [] true) := by
  have hev := taken_eventful s q 0x42
  rw [execTrialConfirm_of hh, trialConfirm_allowed ((hev.mayUpdate_eq q).trans hm), hev.rtbRec_eq (byte_lt comp), hev.trialPast_eq,
    hev.updOpts_eq]

/-! ### RECOVER -/

theorem recover_refuses_denied (hm : mayUpdate s q = false) (mask : Word) : execRecover q tag comp mask s =
    answered (taken s q 0x48) q (reqWord 0x48 comp.toNat 0 tag.toNat) 1 [] :=
  (execRecover_of hh mask).trans (congrArg served (recover_denied (((taken_eventful s q 0x48).mayUpdate_eq q).trans hm)))

theorem recover_refuses_none (hm : mayUpdate s q = true) (mask : Word)
    (hn : compEntry s comp.toNat = none ∨ restoreTarget s comp.toNat = none) : execRecover q tag comp mask s =
    answered (taken s q 0x48) q (reqWord 0x48 comp.toNat 0 tag.toNat) 3 [] := by
  have hev := taken_eventful s q 0x48
  refine (execRecover_of hh mask).trans (congrArg served (recover_none ((hev.mayUpdate_eq q).trans hm) ?_))
  rwa [hev.compEntry_eq, hev.restoreTarget_eq (byte_lt comp)]

end

section
variable {s u : State} (h : Eventful s u)
include h

theorem recoverBusy_congr : recoverBusy u ↔ recoverBusy s := by
  rw [recoverBusy, recoverBusy, h.bit_eq (by unfold recorderWord; decide), h.bit_eq (by unfold recorderWord; decide), h.upd_eq]

theorem recoverReady_congr {c : Nat} (hc : c < 256) (e : CompEntry) : recoverReady u c e ↔ recoverReady s c e := by
  rw [recoverReady, recoverReady, h.compState_eq hc, h.identBad_eq]

theorem pushAgain_congr {q : Sender} {c img : Nat} : pushAgain u q c img = pushAgain s q c img := by
  rw [pushAgain, pushAgain, h.upd_eq]

end

theorem compEntry_num {s : State} {c : Nat} {e : CompEntry} (he : compEntry s c = some e) : e.num = c := by
  simpa using List.find?_some he

section
variable {s : State} {q : Sender} {tag comp : Byte} (hh : Heard s q) (hm : mayUpdate s q = true)
include hh hm

/-- RECOVER of a component that has a slot to restore (R205). -/
theorem recover_answers (mask : Word) {e : CompEntry} {y : Nat} (he : compEntry s comp.toNat = some e)
    (hy : restoreTarget s comp.toNat = some y) :
    let u := taken s q 0x48
    let w0 := reqWord 0x48 comp.toNat 0 tag.toNat
    let c := comp.toNat
    (recoverBusy s → execRecover q tag comp mask s = answered u q w0 2 []) ∧
    (¬ recoverBusy s → (¬ recoverReady s c e ∨ recoverSource s e y mask.toNat = none) →
      execRecover q tag comp mask s = answered u q w0 3 []) ∧
    (∀ src, ¬ recoverBusy s → recoverReady s c e → recoverSource s e y mask.toNat = some src →
      (compState s c = 5 → execRecover q tag comp mask s = served (recoverTaken u q w0 c mask.toNat src y)) ∧
      (compState s c ≠ 5 →
        let t := fwCommit u (takeRecs e)
        execRecover q tag comp mask s = if t.2 = 0 then served (recoverTaken t.1 q w0 c mask.toNat src y)
          else answered t.1 q w0 (txStatus t.2) [])) := by
  have hev := taken_eventful s q 0x48
  have hc := byte_lt comp
  have hmu := (hev.mayUpdate_eq q).trans hm
  have heu := (hev.compEntry_eq _).trans he
  have hyu := (hev.restoreTarget_eq hc).trans hy
  have hnum : e.num < 256 := (compEntry_num he).symm ▸ hc
  have hsrc := hev.recoverSource_eq hnum y mask.toNat
  have run := execRecover_of (tag := tag) (comp := comp) hh mask
  refine ⟨fun hb => run.trans (congrArg served (recover_busy hmu heu hyu ((recoverBusy_congr hev).2 hb))),
    fun hb hr => run.trans (congrArg served (recover_refused hmu heu hyu (fun h => hb ((recoverBusy_congr hev).1 h)) ?_)),
    fun src hb hr hs => ?_⟩
  · rwa [recoverReady_congr hev hc, hsrc]
  · have taken := run.trans (congrArg served (recover_takes hmu heu hyu (fun h => hb ((recoverBusy_congr hev).1 h))
      ((recoverReady_congr hev hc e).2 hr) (hsrc.trans hs)))
    rw [hev.compState_eq hc] at taken
    exact ⟨fun h5 => taken.trans (congrArg served (if_pos h5)),
      fun h5 => (taken.trans (congrArg served (if_neg h5))).trans (apply_ite served _ _ _)⟩

end

end Sys2Proof.Machine
end

section
/-! O46: the push requests as commands, and the statement. -/

namespace Sys2Proof.Machine

section
variable {s : State} {q : Sender} {tag comp img : Byte} (hh : Heard s q)
include hh

/-! ### PUSH_OPEN -/

omit hh in
theorem pushStatus_taken (code : Nat) (total : Word) (slot : Byte) :
    pushStatus (taken s q code) q (pushAgain (taken s q code) q comp.toNat img.toNat) comp.toNat img.toNat total.toNat slot.toNat =
      pushStatus s q (pushAgain s q comp.toNat img.toNat) comp.toNat img.toNat total.toNat slot.toNat := by
  have hev := taken_eventful s q code
  rw [pushAgain_congr hev, hev.pushStatus_eq q _ (byte_lt comp)]

theorem pushOpen_refuses {total : Word} {slot : Byte} {st : Nat}
    (hst : pushStatus s q (pushAgain s q comp.toNat img.toNat) comp.toNat img.toNat total.toNat slot.toNat = st) (hne : st ≠ 0) :
    execPushOpen q tag comp img total slot s = answered ((taken s q 0x49).fwLog Ev.PUSH_REFUSED comp.toNat (leBytes 1 st ++ leBytes 4 0))
      q (reqWord 0x49 comp.toNat img.toNat tag.toNat) st [] :=
  (execPushOpen_of hh img total slot).trans (congrArg served (pushOpen_refused ((pushStatus_taken 0x49 total slot).trans hst) hne))

theorem pushOpen_of {total : Word} {slot : Byte}
    (hst : pushStatus s q (pushAgain s q comp.toNat img.toNat) comp.toNat img.toNat total.toNat slot.toNat = 0) :
    let u := taken s q 0x49
    let w0 := reqWord 0x49 comp.toNat img.toNat tag.toNat
    let c := comp.toNat
    execPushOpen q tag comp img total slot s = served (
      if pushAgain s q c img.toNat = true then
        (pushSet u q c img.toNat total.toNat ((s.upd.push.map (fun p => p.slot)).getD 0)).answer q w0 0 [] true
      else if 64 ≤ c then (pushSet u q c img.toNat total.toNat (1 - lastSlot s c)).answer q w0 0 [] true
      else
        let x := (pushSlot (rtbRec s c) slot.toNat).getD 0
        let t := recoveryBegin u c 2 x
        if t.2 = 0 then (pushSet t.1 q c img.toNat total.toNat x).answer q w0 0 [] true else pushRefuse t.1 q w0 c (txStatus t.2) 0) := by
  have hev := taken_eventful s q 0x49
  have run := pushOpen_taken (w0 := reqWord 0x49 comp.toNat img.toNat tag.toNat) ((pushStatus_taken 0x49 total slot).trans hst)
  rw [pushAgain_congr hev, hev.upd_eq, hev.lastSlot_eq, hev.rtbRec_eq (byte_lt comp)] at run
  simp only [pushKept_eq] at run
  exact (execPushOpen_of hh img total slot).trans (congrArg served run)

/-! ### PUSH_DATA and PUSH_CLOSE -/

section
variable {off : Word} {addr : Dword} {bs : List Byte} {k : Fin 4}

theorem pushData_refuses_denied (hm : mayUpdate s q = false) : execPushData q tag comp img off addr (some bs) k s =
    answered (taken s q 0x4A) q (reqWord 0x4A comp.toNat img.toNat tag.toNat) 1 [] :=
  (execPushData_of hh img off addr (some bs) k).trans (congrArg served (pushData_denied (((taken_eventful s q 0x4A).mayUpdate_eq q).trans hm)))

theorem pushData_refuses_closed (hm : mayUpdate s q = true) (hp : s.upd.push = none) :
    execPushData q tag comp img off addr (some bs) k s = answered ((taken s q 0x4A).fwLog Ev.PUSH_REFUSED comp.toNat
      (leBytes 1 3 ++ leBytes 4 off.toNat)) q (reqWord 0x4A comp.toNat img.toNat tag.toNat) 3 [] := by
  have hev := taken_eventful s q 0x4A
  exact (execPushData_of hh img off addr (some bs) k).trans (congrArg served
    (pushData_closed ((hev.mayUpdate_eq q).trans hm) ((congrArg (·.push) hev.upd_eq).trans hp)))

theorem pushData_of (hm : mayUpdate s q = true) {p : Push} (hp : s.upd.push = some p) :
    let u := taken s q 0x4A
    let w0 := reqWord 0x4A comp.toNat img.toNat tag.toNat
    let refused (st : Nat) : Out :=
      answered (u.fwLog Ev.PUSH_REFUSED comp.toNat (leBytes 1 st ++ leBytes 4 off.toNat)) q w0 st []
    let mine := pushMine p q comp.toNat img.toNat
    let fits := pushFits p (pushMost q) off.toNat bs.length
    (¬ mine → execPushData q tag comp img off addr (some bs) k s = refused 3) ∧
    (mine → ¬ fits → execPushData q tag comp img off addr (some bs) k s = refused 6) ∧
    (mine → fits → execPushData q tag comp img off addr (some bs) k s = answered
      { u with upd := { u.upd with push := some { p with next := off.toNat + bs.length, data := p.data ++ bs } } } q w0 0 []) := by
  have hev := taken_eventful s q 0x4A
  have run := (execPushData_of (tag := tag) (comp := comp) hh img off addr (some bs) k).trans (congrArg served
    (pushData_open (w0 := reqWord 0x4A comp.toNat img.toNat tag.toNat) (c := comp.toNat) (img := img.toNat) ((hev.mayUpdate_eq q).trans hm) ((congrArg (·.push) hev.upd_eq).trans hp)))
  refine ⟨fun h => run.trans (congrArg served (if_pos (not_pushMine_iff.1 h))),
    fun h hf => run.trans (congrArg served ((if_neg fun hn => not_pushMine_iff.2 hn h).trans (if_pos (not_pushFits_iff.1 hf)))),
    fun h hf => run.trans (congrArg served ((if_neg fun hn => not_pushMine_iff.2 hn h).trans
      (if_neg fun hn => not_pushFits_iff.2 hn hf)))⟩

end

theorem pushClose_refuses_denied (hm : mayUpdate s q = false) : execPushClose q tag comp img s =
    answered (taken s q 0x4B) q (reqWord 0x4B comp.toNat img.toNat tag.toNat) 1 [] :=
  (execPushClose_of hh img).trans (congrArg served (if_pos (((taken_eventful s q 0x4B).mayUpdate_eq q).trans hm)))

theorem pushClose_refuses_closed (hm : mayUpdate s q = true) (hp : s.upd.push = none) : execPushClose q tag comp img s =
    answered ((taken s q 0x4B).fwLog Ev.PUSH_REFUSED comp.toNat (leBytes 1 3 ++ leBytes 4 0)) q
      (reqWord 0x4B comp.toNat img.toNat tag.toNat) 3 [] := by
  have hev := taken_eventful s q 0x4B
  rw [execPushClose_of hh img, pushClose, if_neg (by rw [hev.mayUpdate_eq, hm]; decide), hev.upd_eq, hp]
  rfl

theorem pushClose_of (hm : mayUpdate s q = true) {p : Push} (hp : s.upd.push = some p) :
    let u := taken s q 0x4B
    let w0 := reqWord 0x4B comp.toNat img.toNat tag.toNat
    let refused (st off : Nat) : Out := answered (u.fwLog Ev.PUSH_REFUSED comp.toNat (leBytes 1 st ++ leBytes 4 off)) q w0 st []
    let mine := pushMine p q comp.toNat img.toNat
    let t : State := { u with upd := { u.upd with push := some { p with closed := true } } }
    (¬ mine → execPushClose q tag comp img s = refused 3 p.next) ∧
    (mine → p.next < p.total → execPushClose q tag comp img s = refused 6 p.next) ∧
    (mine → p.total ≤ p.next → comp.toNat < 64 → execPushClose q tag comp img s = served
      (({ t with upd := { t.upd with who := t.upd.who ++ [(comp.toNat, (q, w0))] } } : State).answer q w0 7 [] false)) ∧
    (mine → p.total ≤ p.next → 64 ≤ comp.toNat → execPushClose q tag comp img s = answered t q w0 0 []) := by
  have hev := taken_eventful s q 0x4B
  have run := (execPushClose_of (tag := tag) (comp := comp) hh img).trans (congrArg served
    (pushClose_open (w0 := reqWord 0x4B comp.toNat img.toNat tag.toNat) (c := comp.toNat) (img := img.toNat)
      ((hev.mayUpdate_eq q).trans hm) ((congrArg (·.push) hev.upd_eq).trans hp)))
  have own (h : pushMine p q comp.toNat img.toNat) := run.trans (congrArg served (if_neg fun hn => not_pushMine_iff.2 hn h))
  exact ⟨fun h => run.trans (congrArg served (if_pos (not_pushMine_iff.1 h))),
    fun h hlt => (own h).trans (congrArg served (if_pos hlt)),
    fun h hlt hc => (own h).trans (congrArg served ((if_neg (by omega)).trans (if_pos hc))),
    fun h hlt hc => (own h).trans (congrArg served ((if_neg (by omega)).trans (if_neg (by omega))))⟩

end

section
variable {s : State} {q : Sender} {tag comp : Byte} (hh : Heard s q)
include hh

/-- What the statement says of PUSH_OPEN, PUSH_DATA and PUSH_CLOSE (R206-R209, R284). -/
theorem pushOpen_answers (img : Byte) (total : Word) (slot : Byte) :
    let c := comp.toNat
    let w0 := reqWord 0x49 c img.toNat tag.toNat
    let u := taken s q 0x49
    let again := pushAgain s q c img.toNat
    let st := pushStatus s q again c img.toNat total.toNat slot.toNat
    let refused (v : State) (st : Nat) : Out := answered (v.fwLog Ev.PUSH_REFUSED c (leBytes 1 st ++ leBytes 4 0)) q w0 st []
    (st ≠ 0 → execPushOpen q tag comp img total slot s = refused u st) ∧
    (∀ p, st = 0 → again = true → s.upd.push = some p →
      execPushOpen q tag comp img total slot s = answered (pushSet u q c img.toNat total.toNat p.slot) q w0 0 []) ∧
    (st = 0 → again = false → 64 ≤ c →
      execPushOpen q tag comp img total slot s = answered (pushSet u q c img.toNat total.toNat (1 - lastSlot s c)) q w0 0 []) ∧
    (st = 0 → again = false → c < 64 →
      let y := (pushSlot (rtbRec s c) slot.toNat).getD 0
      let t := recoveryBegin u c 2 y
      (t.2 ≠ 0 → execPushOpen q tag comp img total slot s = refused t.1 (txStatus t.2)) ∧
      (t.2 = 0 → execPushOpen q tag comp img total slot s = answered (pushSet t.1 q c img.toNat total.toNat y) q w0 0 [])) := by
  refine ⟨fun hne => pushOpen_refuses hh rfl hne, fun p h0 ha hp => ?_, fun h0 ha hc => ?_, fun h0 ha hc => ?_⟩
  · refine (pushOpen_of hh h0).trans (congrArg served ((if_pos ha).trans ?_))
    rw [hp]
    rfl
  · exact (pushOpen_of hh h0).trans (congrArg served ((if_neg (by rw [ha]; decide)).trans (if_pos hc)))
  · have run := (pushOpen_of (tag := tag) hh h0).trans (congrArg served ((if_neg (by rw [ha]; decide)).trans (if_neg (by omega))))
    exact ⟨fun hne => run.trans (congrArg served (if_neg hne)), fun h0 => run.trans (congrArg served (if_pos h0))⟩

end

/-- Settles O46: each request is its own function of the state that has taken it, which reads what the state before showed. -/
theorem updateRequests : Obligations.UpdateRequests := by
  intro s q tag comp hh
  have hopen : updOpenAt s comp.toNat 0 = true ↔ _ := updOpenAt_iff
  refine ⟨fun hm opts mask => ⟨updateBegin_status hh (beginStatus_denied hm) (by decide), updateCommit_refuses_denied hh hm opts,
      trialConfirm_refuses_denied hh hm, updateAbort_denied hh hm, recover_refuses_denied hh hm mask, status_denied hh hm⟩,
    fun hm => ⟨fun hc => ⟨updateBegin_status hh ((beginStatus_allowed hm).trans (if_pos hc)) (by decide),
        (status_allowed hh hm).trans (if_pos hc)⟩,
      fun hc hb => updateBegin_status hh (beginStatus_busy hm hc hb) (by decide),
      fun hc ht ho hs => updateBegin_status hh (beginStatus_state hm hc ht ho hs) (by decide),
      fun hc ht ho hs ha => updateBegin_begins hh (beginStatus_ok hm hc ht ho hs ha), fun opts hn => ?_, fun opts e he ho => ?_, ?_,
      fun ho => ?_, fun ho => ?_, fun hc => (status_allowed hh hm).trans (if_neg (by omega)),
      fun mask hn => recover_refuses_none hh hm mask hn, fun mask e y he hy => ?_⟩,
    fun img => ⟨fun total slot => pushOpen_answers hh img total slot, fun off addr bs k => ⟨pushData_refuses_denied hh,
        pushData_refuses_closed hh, fun p hm hp => pushData_of hh hm hp⟩, fun off addr k => ?_, pushClose_refuses_denied hh,
      pushClose_refuses_closed hh, fun p hm hp => pushClose_of hh hm hp⟩⟩
  · exact updateCommit_refuses_state hh hm opts (hn.imp_right fun h => Bool.eq_false_iff.2 fun ho => h (hopen.1 ho))
  · have run := updateCommit_of (tag := tag) hh hm opts he (hopen.2 ho)
    exact ⟨fun hne => run.trans (congrArg served (if_pos hne)),
      fun h0 => ⟨_, run.trans (congrArg served (if_neg (not_not_intro h0))), updWaits_spec _ _⟩⟩
  · exact ⟨fun hd => (trialConfirm_of hh hm).trans (congrArg served (if_neg hd)),
      fun hd => (trialConfirm_of hh hm).trans (congrArg served (if_pos hd))⟩
  · exact (updateAbort_allowed hh hm).trans (if_neg fun h => ho (hopen.1 h))
  · exact (updateAbort_allowed hh hm).trans (if_pos (hopen.2 ho))
  · obtain ⟨h1, h2, h3⟩ := recover_answers (tag := tag) hh hm mask he hy
    refine ⟨h1, h2, h3, fun u src w0 => ⟨fun h => ?_, fun h => ?_, fun h => ?_⟩⟩
    · subst h; rfl
    · subst h; rfl
    · subst h; rfl
  · exact (execPushData_of hh img off addr none k).trans (congrArg served pushData_unread)

end Sys2Proof.Machine
end

section
/-! O47: the ledger, record, timetable, audit and report requests. -/

namespace Sys2Proof.Machine

/-! ### What a record leaves of the ledger's state -/

section
variable {s t : State} (h : Eventful s t)
include h

theorem Eventful.ldgState_eq : ldgState t = ldgState s := h.fld_eq (by unfold recorderWord; decide) 2 0

theorem Eventful.ldgPages_eq : ldgPages t = ldgPages s := congrArg BitVec.toNat (h.2 _ (by unfold recorderWord; decide))

theorem Eventful.ldgRoot_eq : ldgRoot t = ldgRoot s :=
  h.rdBytes_eq fun k hk => by unfold recorderWord Reg.LDG_ROOT; omega

theorem Eventful.ldgWroot_eq : ldgWroot t = ldgWroot s :=
  h.rdBytes_eq fun k hk => by unfold recorderWord Reg.LDG_WROOT; omega

theorem Eventful.ldgCommitting_eq : ldgCommitting t = ldgCommitting s := h.bit_eq (by unfold recorderWord; decide) 4

theorem Eventful.epochNeeded_eq : epochNeeded t = epochNeeded s := by
  rw [epochNeeded, epochNeeded, h.ldgState_eq, h.ldgWroot_eq, h.ldgRoot_eq, h.ledger_eq]

theorem Eventful.ldgUsable_eq : ldgUsable t = ldgUsable s := by rw [ldgUsable, ldgUsable, h.ldgState_eq]

theorem Eventful.mayLedger_eq (q : Sender) : mayLedger t q = mayLedger s q := by
  cases q with
  | agent a => rfl
  | inst n => exact congrArg ((n.val == 0) && ·) (h.hasFeature_eq 0 0)

theorem Eventful.inst_eq (n : Nat) : t.inst n = s.inst n := by rw [State.inst, State.inst, h.host_eq]

theorem Eventful.rangeOk_eq (o : Option Nat) (first count : Nat) : rangeOk t o first count = rangeOk s o first count := by
  cases o <;> simp only [rangeOk, h.ldgPages_eq, h.inst_eq]

theorem Eventful.mayRecords_eq (q : Sender) (first count : Nat) : mayRecords t q first count = mayRecords s q first count := by
  unfold mayRecords
  cases ownerOf q with
  | none => exact h.mayLedger_eq q
  | some n => simp only [h.hasFeature_eq, h.rangeOk_eq]

theorem Eventful.ttOk_eq (b : List Byte) : ttOk t b = ttOk s b := by simp only [ttOk, h.rangeOk_eq]

theorem Eventful.openOk_eq (pages : Nat) (ns : List (List Byte)) : openOk t pages ns = openOk s pages ns := by
  rw [openOk, openOk, h.ldgRoot_eq]

theorem Eventful.ledgerRecord_eq (i : Nat) : ledgerRecord t i = ledgerRecord s i := by
  rw [ledgerRecord, ledgerRecord, pageAt, pageAt, h.ledger_eq]

theorem Eventful.bodyOf_eq (k : PassKey) : bodyOf t k = bodyOf s k := by rw [bodyOf, bodyOf, h.fix_eq]

end

/-- A usable ledger is open or held (R252). -/
theorem ldgUsable_iff {s : State} : ldgUsable s = true ↔ ldgState s = 2 ∨ ldgState s = 4 := by simp [ldgUsable]

theorem ldgUsable_false {s : State} (h : ¬ (ldgState s = 2 ∨ ldgState s = 4)) : ldgUsable s = false :=
  Bool.eq_false_iff.2 fun hu => h (ldgUsable_iff.1 hu)

/-! ### LEDGER_OPEN and LEDGER_REBUILD (R252, R253) -/

/-- A ledger can be opened or rebuilt: it is closed or has failed to authenticate, and no import is in progress. -/
def ldgClosed (s : State) : Prop := (ldgState s = 0 ∨ ldgState s = 3) ∧ s.att.importing = none

/-- Bases and page count are within their rules. -/
def ldgPlaced (leaf tree pages : Nat) : Prop := leaf % 4096 = 0 ∧ tree % 4096 = 0 ∧ pages ≠ 0 ∧ pages ≤ 2 ^ 31

section
variable {s : State} {q : Sender} {leaf tree pages : Nat}

theorem Eventful.openStatus_eq {t : State} (h : Eventful s t) (rebuild : Bool) :
    openStatus t q leaf tree pages rebuild = openStatus s q leaf tree pages rebuild := by
  rw [openStatus, openStatus, h.mayLedger_eq, h.ldgState_eq, h.att_eq, h.ledger_eq]

theorem openStatus_denied (rebuild : Bool) (hm : mayLedger s q = false) : openStatus s q leaf tree pages rebuild = 1 := if_pos hm

variable (hm : mayLedger s q = true)
include hm

theorem openStatus_state (rebuild : Bool) (hc : ¬ ldgClosed s) : openStatus s q leaf tree pages rebuild = 3 := by
  refine (if_neg (by simp [hm])).trans (if_pos ?_)
  by_contra hn
  apply hc
  rw [not_or, not_and_or, not_not, not_not, Bool.not_eq_true, Option.isSome_eq_false_iff, Option.isNone_iff_eq_none] at hn
  exact hn

theorem openStatus_closed (rebuild : Bool) (hc : ldgClosed s) : openStatus s q leaf tree pages rebuild =
    if leaf % 4096 ≠ 0 ∨ tree % 4096 ≠ 0 ∨ pages = 0 ∨ 2 ^ 31 < pages then 6
    else if rebuild = false ∧ s.ledger.cap ≠ 0 ∧ s.ledger.cap ≠ pages then 3
    else 0 := by
  obtain ⟨h1, h2⟩ := hc
  refine (if_neg (by simp [hm])).trans (if_neg ?_)
  rw [h2]
  simp only [Option.isSome_none, Bool.false_eq_true, or_false]
  omega

theorem openStatus_range (rebuild : Bool) (hc : ldgClosed s) (hp : ¬ ldgPlaced leaf tree pages) :
    openStatus s q leaf tree pages rebuild = 6 := by
  refine (openStatus_closed hm rebuild hc).trans (if_pos ?_)
  rw [ldgPlaced] at hp
  omega

theorem openStatus_placed (rebuild : Bool) (hc : ldgClosed s) (hp : ldgPlaced leaf tree pages) :
    openStatus s q leaf tree pages rebuild = if rebuild = false ∧ s.ledger.cap ≠ 0 ∧ s.ledger.cap ≠ pages then 3 else 0 := by
  refine (openStatus_closed hm rebuild hc).trans (if_neg ?_)
  rw [ldgPlaced] at hp
  omega

end

section
variable {u : State} {q : Sender} {w0 leaf tree pages kind : Nat}

theorem ledgerOpen_refused {nodes : Option (List (List Byte))} {st : Nat} (hst : openStatus u q leaf tree pages false = st) (hne : st ≠ 0) :
    ledgerOpen u q w0 leaf tree pages nodes kind = u.answer q w0 st [] true := by
  subst hst
  exact if_pos hne

theorem ledgerRebuild_refused {leaves : Option (List (Nat × List Byte))} {st : Nat} (hst : openStatus u q leaf tree pages true = st)
    (hne : st ≠ 0) : ledgerRebuild u q w0 leaf tree pages leaves kind = u.answer q w0 st [] true := by
  subst hst
  exact if_pos hne

/-- Bringing the ledger's status in step leaves its epoch. -/
theorem ldgEpoch_syncLedger : ldgEpoch (syncLedger u) = ldgEpoch u := by
  have hrd (a : Nat) (h : a < Reg.LDG_STAT ∨ Reg.LDG_STAT < a ∧ a < Reg.LDG_WROOT 0) : (syncLedger u).rd a = u.rd a := by
    unfold syncLedger
    dsimp only
    rw [State.rd_setF_of_ne _ _ _ _ (by omega), State.rd_setBit_of_ne _ _ _ (by omega),
      State.rd_wrBytes_of_ne _ _ _ _ _ (fun k hk => by unfold Reg.LDG_STAT at h; unfold Reg.LDG_WROOT at *; omega)]
  rw [ldgEpoch, ldgEpoch, State.rd64, State.rd64, hrd _ (by unfold Reg.LDG_WROOT; decide), hrd _ (by unfold Reg.LDG_WROOT; decide)]

/-- The ledger opened on nodes that authenticate (R253). -/
def ledgerOpened (u : State) (leaf tree pages : Nat) (ns : List (List Byte)) : State :=
  let t := syncLedger (setLdgState (ledgerVote (loadCache (setBases u leaf tree pages) pages ns)) 2)
  ldgLog t Ev.LEDGER_OPENED (leBytes 8 (ldgEpoch t) ++ leBytes 4 pages)

theorem ledgerOpen_unread (hst : openStatus u q leaf tree pages false = 0) :
    ledgerOpen u q w0 leaf tree pages none kind = readFailed u q w0 tree kind := if_neg (not_not_intro hst)

theorem ledgerOpen_read {ns : List (List Byte)} (hst : openStatus u q leaf tree pages false = 0) :
    ledgerOpen u q w0 leaf tree pages (some ns) kind =
      if openOk u pages ns = false then u.answer q w0 4 [] true
      else advancePasses ((ledgerOpened u leaf tree pages ns).answer q w0 0 [] true) := by
  have hopen : ledgerOpened u leaf tree pages ns = ldgLog (syncLedger (setLdgState (ledgerVote (loadCache (setBases u leaf tree pages) pages ns)) 2))
      Ev.LEDGER_OPENED (leBytes 8 (ldgEpoch (setLdgState (ledgerVote (loadCache (setBases u leaf tree pages) pages ns)) 2)) ++
        leBytes 4 pages) := by
    rw [← ldgEpoch_syncLedger]
    rfl
  rw [hopen]
  exact if_neg (not_not_intro hst)

theorem ledgerRebuild_unread (hst : openStatus u q leaf tree pages true = 0) :
    ledgerRebuild u q w0 leaf tree pages none kind = readFailed u q w0 leaf kind := if_neg (not_not_intro hst)

/-- The ledger with its tree recomputed from the leaf pages read (R253). -/
def ledgerRebuilt (u : State) (leaf tree pages : Nat) (ls : List (Nat × List Byte)) : State :=
  let t := rebuildTree (setLdgState (ledgerVote (setBases u leaf tree pages)) 5) ls
  { t with ledger := { t.ledger with rebuilt := true } }

theorem ledgerRebuild_read {ls : List (Nat × List Byte)} (hst : openStatus u q leaf tree pages true = 0) :
    ledgerRebuild u q w0 leaf tree pages (some ls) kind =
      (epochBegin (ledgerRebuilt u leaf tree pages ls) [.rebuilt (some q) w0]).answer q w0 7 [] false := if_neg (not_not_intro hst)

end

end Sys2Proof.Machine
end

section
/-! O47: the ledger requests as commands, and the statement. -/

namespace Sys2Proof.Machine

/-- A requester may ask for the report of its own last range (R263). -/
def reportsOwn (s : State) (q : Sender) : Bool :=
  match q with
  | .inst n => hasFeature s n.val 0
  | .agent a => a.val == 0

/-- A report of the requester's own last range. -/
def ownReport (s : State) (q : Sender) (arg : BitVec 16) : Prop :=
  arg = 0xFFFF ∧ match q with
    | .inst n => hasFeature s n.val 0 = true
    | .agent a => a.val = 0

theorem ownReport_iff {s : State} {q : Sender} (arg : BitVec 16) : ownReport s q arg ↔ arg = 0xFFFF ∧ reportsOwn s q = true := by
  cases q with
  | agent a => simp [ownReport, reportsOwn]
  | inst n => rfl

theorem Eventful.reportsOwn_eq {s t : State} (h : Eventful s t) (q : Sender) : reportsOwn t q = reportsOwn s q := by
  cases q with
  | agent a => rfl
  | inst n => exact h.hasFeature_eq n.val 0

section
variable {s : State} {q : Sender} {tag : Byte} (hh : Heard s q)
include hh

/-! ### LEDGER_OPEN and LEDGER_REBUILD -/

section
variable {leaf tree : Dword} {pages : Word} {kind : Fin 4}

theorem execLedgerOpen_of (nodes : Option (List (List Byte))) : execLedgerOpen q tag leaf tree pages nodes kind s =
    served (ledgerOpen (taken s q 0x60) q (fixWord 0x60 0 tag) leaf.toNat tree.toNat pages.toNat nodes kind.val) := request_heard hh _ _ _

theorem execLedgerRebuild_of (leaves : Option (List (Nat × List Byte))) : execLedgerRebuild q tag leaf tree pages leaves kind s =
    served (ledgerRebuild (taken s q 0x63) q (fixWord 0x63 0 tag) leaf.toNat tree.toNat pages.toNat leaves kind.val) := request_heard hh _ _ _

theorem ledgerOpen_status {st : Nat} (nodes : Option (List (List Byte)))
    (hst : openStatus s q leaf.toNat tree.toNat pages.toNat false = st) (hne : st ≠ 0) :
    execLedgerOpen q tag leaf tree pages nodes kind s = answered (taken s q 0x60) q (fixWord 0x60 0 tag) st [] :=
  (execLedgerOpen_of hh nodes).trans (congrArg served
    (ledgerOpen_refused (((taken_eventful s q 0x60).openStatus_eq false).trans hst) hne))

theorem ledgerRebuild_status {st : Nat} (leaves : Option (List (Nat × List Byte)))
    (hst : openStatus s q leaf.toNat tree.toNat pages.toNat true = st) (hne : st ≠ 0) :
    execLedgerRebuild q tag leaf tree pages leaves kind s = answered (taken s q 0x63) q (fixWord 0x63 0 tag) st [] :=
  (execLedgerRebuild_of hh leaves).trans (congrArg served
    (ledgerRebuild_refused (((taken_eventful s q 0x63).openStatus_eq true).trans hst) hne))

end

/-! ### LEDGER_COMMIT, LEDGER_CLOSE and LEDGER_RESUME (R258, R262, R264) -/

theorem execLedgerCommit_of : execLedgerCommit q tag s = served (
    let u := taken s q 0x61
    let w0 := fixWord 0x61 0 tag
    if mayLedger s q = false then u.answer q w0 1 [] true
    else if ldgUsable s = false then u.answer q w0 3 [] true
    else if epochNeeded s = true ∨ ldgCommitting s = true then (epochBegin u [.answer (some q) w0]).answer q w0 7 [] false
    else u.answer q w0 0 [] true) := by
  have hev := taken_eventful s q 0x61
  rw [execLedgerCommit, request_heard hh]
  dsimp only
  rw [hev.mayLedger_eq, hev.ldgUsable_eq, commitFor, hev.epochNeeded_eq, hev.ldgCommitting_eq]

theorem execLedgerClose_of : execLedgerClose q tag s = served (
    let u := taken s q 0x64
    let w0 := fixWord 0x64 0 tag
    if mayLedger s q = false then u.answer q w0 1 [] true
    else if ldgUsable s = false then u.answer q w0 3 [] true
    else if epochNeeded s = true ∨ ldgCommitting s = true then (epochBegin u [.close (some q) w0]).answer q w0 7 [] false
    else (ledgerLost u).answer q w0 0 [] true) := by
  have hev := taken_eventful s q 0x64
  rw [execLedgerClose, request_heard hh]
  dsimp only
  rw [hev.mayLedger_eq, hev.ldgUsable_eq, commitFor, hev.epochNeeded_eq, hev.ldgCommitting_eq]

theorem execLedgerResume_of : execLedgerResume q tag s = served (
    let u := taken s q 0x62
    let w0 := fixWord 0x62 0 tag
    if mayLedger s q = false then u.answer q w0 1 [] true
    else if ldgState s ≠ 4 then u.answer q w0 3 [] true
    else advancePasses (wakeFreed u ((syncLedger (applyLate (setLdgState u 2))).answer q w0 0 [] true))) := by
  have hev := taken_eventful s q 0x62
  rw [execLedgerResume, request_heard hh]
  dsimp only
  rw [hev.mayLedger_eq, hev.ldgState_eq]

/-! ### TT_SET and TT_CLEAR (R261) -/

theorem execTtSet_of (k : BitVec 16) (addr : Dword) (e : HostRead) (kind : Fin 4) : execTtSet q tag k addr e kind s = served (
    let u := taken s q 0x68
    let w0 := fixWord 0x68 k.toNat tag
    if mayLedger s q = false then u.answer q w0 1 [] true
    else if 64 ≤ k.toNat then u.answer q w0 6 [] true
    else match e with
      | none => readFailed u q w0 addr.toNat kind.val
      | some b => if ttOk s b then (ttPut u k.toNat (ttEntryOf b)).answer q w0 0 [] true else u.answer q w0 6 [] true) := by
  have hev := taken_eventful s q 0x68
  rw [execTtSet, request_heard hh]
  dsimp only
  rw [hev.mayLedger_eq]
  cases e with
  | none => rfl
  | some b => simp only [hev.ttOk_eq]

theorem execTtClear_of (k : BitVec 16) : execTtClear q tag k s = served (
    let u := taken s q 0x69
    let w0 := fixWord 0x69 k.toNat tag
    if mayLedger s q = false then u.answer q w0 1 [] true
    else if 64 ≤ k.toNat then u.answer q w0 6 [] true
    else (ttDrop u k.toNat).answer q w0 0 [] true) := by
  have hev := taken_eventful s q 0x69
  rw [execTtClear, request_heard hh]
  dsimp only
  rw [hev.mayLedger_eq]

/-! ### RECORD_RETIRE, RECORD_READ and AUDIT_RANGE (R259, R263, R309) -/

/-- The code of a record request. -/
def recordCode (retire : Bool) : Nat := if retire then 0x65 else 0x66

/-- The state in which a record request waits for its page. -/
def recordWaits (u : State) (q : Sender) (w0 idx : Nat) (retire : Bool) : State :=
  syncFix { u with ledger := { u.ledger with waits := u.ledger.waits ++ [⟨some q, w0, retire, idx⟩] } }

omit hh in
theorem recordWaits_spec (u : State) (w0 idx : Nat) (retire : Bool) :
    (recordWaits u q w0 idx retire).ledger.waits = u.ledger.waits ++ [⟨some q, w0, retire, idx⟩] ∧
      AllBut [.ledger, .regs] u (recordWaits u q w0 idx retire) := by
  have hset : AllBut [.ledger, .regs] u
      ({ u with ledger := { u.ledger with waits := u.ledger.waits ++ [⟨some q, w0, retire, idx⟩] } } : State) := by
    intro p hp
    cases p
    case ledger => exact absurd (by decide) hp
    all_goals rfl
  have hsync := (syncFix_spec ({ u with ledger := { u.ledger with waits := u.ledger.waits ++ [⟨some q, w0, retire, idx⟩] } } : State)).1
  exact ⟨congrArg (·.waits) (hsync .ledger (by decide)), hset.trans (hsync.mono (by simp))⟩

omit hh in
theorem recordRequest_of (idx : Dword) (retire : Bool) (code : Nat) (w0 : Nat) :
    served (recordRequest (taken s q code) q w0 idx.toNat retire) = served (
      let u := taken s q code
      if mayRecords s q idx.toNat 1 = false then u.answer q w0 1 [] true
      else if ldgUsable s = false then u.answer q w0 3 [] true
      else if 32 * ldgPages s ≤ idx.toNat then u.answer q w0 6 [] true
      else match ledgerRecord s idx.toNat with
        | some r => if retire then (recordUpdate u idx.toNat .retire).answer q w0 0 [] true else u.answer q w0 0 r true
        | none => (recordWaits u q w0 idx.toNat retire).answer q w0 7 [] false) := by
  have hev := taken_eventful s q code
  rw [recordRequest, hev.mayRecords_eq, hev.ldgUsable_eq, hev.ldgPages_eq, hev.ledgerRecord_eq]
  rfl

theorem execRecordRetire_of (idx : Dword) : execRecordRetire q tag idx s =
    served (recordRequest (taken s q 0x65) q (fixWord 0x65 0 tag) idx.toNat true) := request_heard hh _ _ _

theorem execRecordRead_of (idx : Dword) : execRecordRead q tag idx s =
    served (recordRequest (taken s q 0x66) q (fixWord 0x66 0 tag) idx.toNat false) := request_heard hh _ _ _

theorem execAuditRange_of (first count table : Dword) (feeds : List (Nat × Feed)) : execAuditRange q tag first count table feeds s = served (
    let u := taken s q 0x6A
    let w0 := fixWord 0x6A 0 tag
    if mayRecords s q first.toNat count.toNat = false then u.answer q w0 1 [] true
    else if ldgUsable s = false then u.answer q w0 3 [] true
    else if count = 0 ∨ table.toNat % 16 ≠ 0 ∨ rangeOk s none first.toNat count.toNat = false then u.answer q w0 6 [] true
    else if s.fix.passes.any (fun p => p.key == .range q) then u.answer q w0 2 [] true
    else advancePasses (startPass (u.answer q w0 7 [] false) (.range q) w0 (ownerOf q) first.toNat count.toNat first.toNat feeds)) := by
  have hev := taken_eventful s q 0x6A
  rw [execAuditRange, request_heard hh]
  dsimp only
  rw [hev.mayRecords_eq, hev.ldgUsable_eq, hev.rangeOk_eq, hev.fix_eq]

/-! ### REPORT (R263, R311) -/

theorem execReport_of (arg : BitVec 16) (addr : Dword) : execReport q tag arg addr s = served (
    let u := taken s q 0x6C
    let w0 := fixWord 0x6C arg.toNat tag
    let k := reportKey q arg.toNat
    if mayLedger s q = false ∧ ¬(arg = 0xFFFF ∧ reportsOwn s q = true) then u.answer q w0 1 [] true
    else if arg ≠ 0xFFFF ∧ 64 ≤ arg.toNat then u.answer q w0 6 [] true
    else if (bodyOf s k).isNone then u.answer q w0 3 [] true
    else if epochNeeded s = true ∨ ldgCommitting s = true then (epochBegin u [.report (some q) w0 k addr.toNat]).answer q w0 7 [] false
    else reportOut u (some q) w0 k addr.toNat) := by
  have hev := taken_eventful s q 0x6C
  rw [execReport, request_heard hh]
  dsimp only
  rw [hev.mayLedger_eq, commitFor, hev.epochNeeded_eq, hev.ldgCommitting_eq, hev.bodyOf_eq, ← hev.reportsOwn_eq]
  rfl

/-! ### The statement's groups -/

theorem ledger_denied (hm : mayLedger s q = false) (leaf tree : Dword) (pages : Word) (nodes : Option (List (List Byte)))
    (leaves : Option (List (Nat × List Byte))) (kind : Fin 4) (k : BitVec 16) (addr : Dword) (e : HostRead) :
    execLedgerOpen q tag leaf tree pages nodes kind s = answered (taken s q 0x60) q (fixWord 0x60 0 tag) 1 [] ∧
    execLedgerCommit q tag s = answered (taken s q 0x61) q (fixWord 0x61 0 tag) 1 [] ∧
    execLedgerResume q tag s = answered (taken s q 0x62) q (fixWord 0x62 0 tag) 1 [] ∧
    execLedgerRebuild q tag leaf tree pages leaves kind s = answered (taken s q 0x63) q (fixWord 0x63 0 tag) 1 [] ∧
    execLedgerClose q tag s = answered (taken s q 0x64) q (fixWord 0x64 0 tag) 1 [] ∧
    execTtSet q tag k addr e kind s = answered (taken s q 0x68) q (fixWord 0x68 k.toNat tag) 1 [] ∧
    execTtClear q tag k s = answered (taken s q 0x69) q (fixWord 0x69 k.toNat tag) 1 [] :=
  ⟨ledgerOpen_status hh nodes (openStatus_denied false hm) (by decide), (execLedgerCommit_of hh).trans (congrArg served (if_pos hm)),
    (execLedgerResume_of hh).trans (congrArg served (if_pos hm)), ledgerRebuild_status hh leaves (openStatus_denied true hm) (by decide),
    (execLedgerClose_of hh).trans (congrArg served (if_pos hm)), (execTtSet_of hh k addr e kind).trans (congrArg served (if_pos hm)),
    (execTtClear_of hh k).trans (congrArg served (if_pos hm))⟩

omit hh in
theorem ledger_opens (hm : mayLedger s q = true) {leaf tree : Dword} {pages : Word} (hc : ldgClosed s)
    (hp : ldgPlaced leaf.toNat tree.toNat pages.toNat) (hf : s.ledger.cap = 0 ∨ s.ledger.cap = pages.toNat) :
    openStatus (taken s q 0x60) q leaf.toNat tree.toNat pages.toNat false = 0 := by
  rw [(taken_eventful s q 0x60).openStatus_eq, openStatus_placed hm false hc hp]
  exact if_neg (by rintro ⟨-, h1, h2⟩; exact hf.elim h1 h2)

omit hh in
theorem ledger_rebuilds (hm : mayLedger s q = true) {leaf tree : Dword} {pages : Word} (hc : ldgClosed s)
    (hp : ldgPlaced leaf.toNat tree.toNat pages.toNat) :
    openStatus (taken s q 0x63) q leaf.toNat tree.toNat pages.toNat true = 0 := by
  rw [(taken_eventful s q 0x63).openStatus_eq, openStatus_placed hm true hc hp]
  exact if_neg (by rintro ⟨h, -⟩; exact Bool.false_ne_true h.symm)

omit hh in
/-- What a record request answers, whichever of the two it is. -/
theorem record_answers (idx : Dword) (retire : Bool) {o : Out}
    (ho : o = served (recordRequest (taken s q (recordCode retire)) q (fixWord (recordCode retire) 0 tag) idx.toNat retire)) :
    let u := taken s q (recordCode retire)
    let w := fixWord (recordCode retire) 0 tag
    let usable := ldgState s = 2 ∨ ldgState s = 4
    (mayRecords s q idx.toNat 1 = false → o = answered u q w 1 []) ∧
    (mayRecords s q idx.toNat 1 = true → ¬ usable → o = answered u q w 3 []) ∧
    (mayRecords s q idx.toNat 1 = true → usable → 32 * ldgPages s ≤ idx.toNat → o = answered u q w 6 []) ∧
    (mayRecords s q idx.toNat 1 = true → usable → idx.toNat < 32 * ldgPages s →
      (∀ r, ledgerRecord s idx.toNat = some r → o = if retire then answered (recordUpdate u idx.toNat .retire) q w 0 []
        else answered u q w 0 r) ∧
      (ledgerRecord s idx.toNat = none → ∃ t, o = served (t.answer q w 7 [] false) ∧
        t.ledger.waits = s.ledger.waits ++ [⟨some q, w, retire, idx.toNat⟩] ∧ AllBut [.ledger, .regs] u t)) := by
  subst ho
  have run := recordRequest_of (s := s) (q := q) idx retire (recordCode retire) (fixWord (recordCode retire) 0 tag)
  have allowed (h : mayRecords s q idx.toNat 1 = true) := run.trans (congrArg served (if_neg (by rw [h]; decide)))
  have usable (h : mayRecords s q idx.toNat 1 = true) (hu : ldgState s = 2 ∨ ldgState s = 4) :=
    (allowed h).trans (congrArg served (if_neg (by rw [ldgUsable_iff.2 hu]; decide)))
  refine ⟨fun h => run.trans (congrArg served (if_pos h)), fun h hu => (allowed h).trans (congrArg served (if_pos (ldgUsable_false hu))),
    fun h hu hi => (usable h hu).trans (congrArg served (if_pos hi)), fun h hu hi => ⟨fun r hr => ?_, fun hr => ?_⟩⟩
  · refine (usable h hu).trans ((congrArg served (if_neg (by omega))).trans ?_)
    rw [hr]
    exact apply_ite served _ _ _
  · have hev := taken_eventful s q (recordCode retire)
    obtain ⟨hw, ha⟩ := recordWaits_spec (q := q) (taken s q (recordCode retire)) (fixWord (recordCode retire) 0 tag) idx.toNat retire
    refine ⟨_, (usable h hu).trans ((congrArg served (if_neg (by omega))).trans ?_), ?_, ha⟩
    · rw [hr]
    · rw [hw, hev.ledger_eq]

end

/-- Settles O47: each request is its own function of the state that has taken it, which reads what the state before showed. -/
theorem ledgerRequests : Obligations.LedgerRequests := by
  intro s q tag hh
  refine ⟨fun hm leaf tree pages nodes leaves kind k addr e => ledger_denied hh hm leaf tree pages nodes leaves kind k addr e,
    fun hm leaf tree pages => ⟨fun nodes leaves kind hc => ⟨ledgerOpen_status hh nodes (openStatus_state hm false hc) (by decide),
          ledgerRebuild_status hh leaves (openStatus_state hm true hc) (by decide)⟩,
      fun nodes leaves kind hc hp => ⟨ledgerOpen_status hh nodes (openStatus_range hm false hc hp) (by decide),
          ledgerRebuild_status hh leaves (openStatus_range hm true hc hp) (by decide)⟩,
      fun nodes kind hc hp hf => ledgerOpen_status hh nodes ((openStatus_placed hm false hc hp).trans
          (if_pos ⟨rfl, fun h => hf (.inl h), fun h => hf (.inr h)⟩)) (by decide),
      fun kind hc hp hf => (execLedgerOpen_of hh none).trans (congrArg served (ledgerOpen_unread (ledger_opens hm hc hp hf))),
      fun ns kind hc hp hf hok => ?_, fun ns kind hc hp hf hok => ?_,
      fun kind hc hp => (execLedgerRebuild_of hh none).trans (congrArg served (ledgerRebuild_unread (ledger_rebuilds hm hc hp))),
      fun ls kind hc hp => (execLedgerRebuild_of hh (some ls)).trans (congrArg served (ledgerRebuild_read (ledger_rebuilds hm hc hp)))⟩,
    fun hm => ?_, fun idx retire => ?_, fun first count table feeds => ?_, fun arg addr => ?_⟩
  · refine (execLedgerOpen_of hh (some ns)).trans (congrArg served ((ledgerOpen_read (ledger_opens hm hc hp hf)).trans (if_pos ?_)))
    rw [(taken_eventful s q 0x60).openOk_eq, hok]
  · refine (execLedgerOpen_of hh (some ns)).trans (congrArg served ((ledgerOpen_read (ledger_opens hm hc hp hf)).trans (if_neg ?_)))
    rw [(taken_eventful s q 0x60).openOk_eq, hok]
    decide
  · have hd : ¬ mayLedger s q = false := by rw [hm]; decide
    have commit := (execLedgerCommit_of (tag := tag) hh).trans (congrArg served (if_neg hd))
    have close := (execLedgerClose_of (tag := tag) hh).trans (congrArg served (if_neg hd))
    have resume := (execLedgerResume_of (tag := tag) hh).trans (congrArg served (if_neg hd))
    have usable (h : ldgState s = 2 ∨ ldgState s = 4) : ¬ ldgUsable s = false := by rw [ldgUsable_iff.2 h]; decide
    refine ⟨fun h => ⟨commit.trans (congrArg served (if_pos (ldgUsable_false h))), close.trans (congrArg served (if_pos (ldgUsable_false h)))⟩,
      fun h hdue => ⟨commit.trans (congrArg served ((if_neg (usable h)).trans (if_pos hdue))),
        close.trans (congrArg served ((if_neg (usable h)).trans (if_pos hdue)))⟩,
      fun h hdue => ⟨commit.trans (congrArg served ((if_neg (usable h)).trans (if_neg hdue))),
        close.trans (congrArg served ((if_neg (usable h)).trans (if_neg hdue)))⟩,
      fun h => resume.trans (congrArg served (if_pos h)), fun h => resume.trans (congrArg served (if_neg (not_not_intro h))),
      fun k addr kind bs e => ?_⟩
    have set (e : HostRead) := (execTtSet_of (tag := tag) hh k addr e kind).trans (congrArg served (if_neg hd))
    have clear := (execTtClear_of (tag := tag) hh k).trans (congrArg served (if_neg hd))
    exact ⟨fun hk => ⟨(set e).trans (congrArg served (if_pos hk)), clear.trans (congrArg served (if_pos hk))⟩,
      fun hk => ⟨(set none).trans (congrArg served (if_neg (by omega))), clear.trans (congrArg served (if_neg (by omega))),
        ((set (some bs)).trans (congrArg served (if_neg (by omega)))).trans (apply_ite served _ _ _)⟩⟩
  · cases retire
    · exact record_answers idx false (execRecordRead_of hh idx)
    · exact record_answers idx true (execRecordRetire_of hh idx)
  · have run := execAuditRange_of (tag := tag) hh first count table feeds
    have allowed (h : mayRecords s q first.toNat count.toNat = true) := run.trans (congrArg served (if_neg (by rw [h]; decide)))
    have usable (h : mayRecords s q first.toNat count.toNat = true) (hu : ldgState s = 2 ∨ ldgState s = 4) :=
      (allowed h).trans (congrArg served (if_neg (by rw [ldgUsable_iff.2 hu]; decide)))
    have hok : (count ≠ 0 ∧ table.toNat % 16 = 0 ∧ first.toNat + count.toNat ≤ 32 * ldgPages s) ↔
        ¬ (count = 0 ∨ table.toNat % 16 ≠ 0 ∨ rangeOk s none first.toNat count.toNat = false) := by
      simp [rangeOk, not_or]
    refine ⟨fun h => run.trans (congrArg served (if_pos h)), fun h hu => (allowed h).trans (congrArg served (if_pos (ldgUsable_false hu))),
      fun h hu ho => (usable h hu).trans (congrArg served (if_pos (not_not.1 fun hn => ho (hok.2 hn)))),
      fun h hu ho hr => (usable h hu).trans (congrArg served ((if_neg (hok.1 ho)).trans (if_pos hr))),
      fun h hu ho hr => (usable h hu).trans (congrArg served ((if_neg (hok.1 ho)).trans (if_neg (by rw [hr]; decide))))⟩
  · have run := execReport_of (tag := tag) hh arg addr
    have hown := ownReport_iff (s := s) (q := q) arg
    have allowed (h : mayLedger s q = true ∨ ownReport s q arg) := run.trans (congrArg served (if_neg (by
      rintro ⟨h1, h2⟩
      exact h.elim (fun h => Bool.false_ne_true (h1.symm.trans h)) fun h => h2 (hown.1 h))))
    refine ⟨fun h ho => run.trans (congrArg served (if_pos ⟨h, fun hn => ho (hown.2 hn)⟩)),
      fun h ha h64 => (allowed h).trans (congrArg served (if_pos ⟨ha, h64⟩)), fun h ha => ?_⟩
    have named := (allowed h).trans (congrArg served (if_neg (by rintro ⟨h1, h2⟩; exact ha.elim h1 (by omega))))
    refine ⟨fun hb => named.trans (congrArg served (if_pos (by rw [hb]; rfl))), fun hb hd => ?_, fun hb hd => ?_⟩
    · exact named.trans (congrArg served ((if_neg (by simpa using hb)).trans (if_pos hd)))
    · exact named.trans (congrArg served ((if_neg (by simpa using hb)).trans (if_neg hd)))

end Sys2Proof.Machine
end

section
/-! O48: ledger pages, epochs, timetable passes and the rate window. -/

namespace Sys2Proof.Machine

section
variable {s : State} (hp : s.pwr.down = false)

/-! ### Pages (R256, R257) -/

/-- A page that something waits for, that the ledger has and does not hold. -/
def pageDue (s : State) (j : Nat) : Prop :=
  pageWanted s j = true ∧ (ldgState s = 2 ∨ ldgState s = 4) ∧ pageAt s j = none ∧ j < ldgPages s

theorem pageDue_iff {j : Nat} : pageDue s j ↔
    ¬ (pageWanted s j = false ∨ ldgUsable s = false ∨ (pageAt s j).isSome = true ∨ ldgPages s ≤ j) := by
  rw [not_or, not_or, not_or, Bool.not_eq_false, Bool.not_eq_false, ldgUsable_iff, Bool.not_eq_true, Option.isSome_eq_false_iff,
    Option.isNone_iff_eq_none, not_le, pageDue]

section
variable {page : Word} {path : List (List Byte)} {kind : Fin 4}

include hp in
theorem ledgerPageAuth_unwanted (data : HostRead) (h : ¬ pageDue s page.toNat) : execLedgerPageAuth page data path kind s = settled s := by
  rw [execLedgerPageAuth, actSettle_of hp]
  exact congrArg settled (if_pos (not_not.1 fun hn => h (pageDue_iff.2 hn)))

variable (h : pageDue s page.toNat)
include h

include hp in
theorem ledgerPageAuth_of (data : HostRead) : execLedgerPageAuth page data path kind s = settled (match data with
    | some d => wakeFreed s (refuseFollowers (pageAuth s page.toNat d path))
    | none => pageReadError (dmaErrorEvent s 0 (leafAddr s page.toNat) kind.val 5) page.toNat) := by
  rw [execLedgerPageAuth, actSettle_of hp]
  exact congrArg settled (if_neg (pageDue_iff.1 h))

theorem pageDue_open : ¬ ((ldgState s ≠ 2 ∧ ldgState s ≠ 4) ∨ (pageAt s page.toNat).isSome = true ∨ ldgPages s ≤ page.toNat) := by
  obtain ⟨-, hl, ha, hlt⟩ := h
  rw [ha, Option.isSome_none]
  simp only [Bool.false_eq_true, false_or]
  omega

theorem pageAuth_fails {d : List Byte} {level : Nat} (hf : authFault s page.toNat d path = some level) :
    pageAuth s page.toNat d path = ledgerAuthFail s page.toNat level := by
  refine (if_neg (pageDue_open h)).trans ?_
  rw [hf]

theorem pageAuth_admits {d : List Byte} (hf : authFault s page.toNat d path = none) : pageAuth s page.toNat d path =
    advancePasses (serveRecords (admitPage (applyLate ((bufferPage s page.toNat (takePad 4096 d) path).inc Reg.LDG_CNT_AUTH)) page.toNat)
      page.toNat) := by
  refine (if_neg (pageDue_open h)).trans ?_
  rw [hf]

end

include hp

theorem ledgerWriteback_of (page : Word) : execLedgerWriteback page s = settled
    (if ldgUsable s = true ∧ (pageAt s page.toNat).any (fun p => p.changed) = true
      then advancePasses (syncFix (writeBack s page.toNat)) else s) := by
  rw [execLedgerWriteback, actSettle_of hp]

/-! ### Epochs (R258) -/

theorem epochTimer_of : execEpochTimer s = settled
    (if s.fld Reg.LDG_CTL 31 16 ≠ 0 ∧ epochNeeded s = true ∧ ldgCommitting s = false then epochBegin s [] else s) := by
  rw [execEpochTimer, actSettle_of hp]

omit hp in
theorem epochBegin_free (h : ldgCommitting s = false) (after : List AfterCommit) : epochBegin s after =
    (writeBackAll { s with ledger := { s.ledger with after := s.ledger.after ++ after } }).setBit Reg.LDG_STAT 4 true :=
  if_neg (by rw [h]; decide)

theorem epochCommitted_idle (h : ldgCommitting s = false) : execEpochCommitted s = settled s := by
  rw [execEpochCommitted, actSettle_of hp, epochCommit, if_pos h]

/-- The end of a commit, by how its transaction ended. -/
def commitEnded (t : State × Nat) : State :=
  let u : State := { t.1 with ledger := { t.1.ledger with after := [], queued := [] } }
  if t.2 = 0 then
    advancePasses (wakeFreed t.1 (epochQueued (t.1.ledger.after.foldl afterEpoch (epochEnded u)) t.1.ledger.queued))
  else if t.2 = 0x01 ∨ t.2 = 0x14 then t.1
  else advancePasses ((t.1.ledger.after ++ t.1.ledger.queued).foldl afterRefusal (epochRefused u))

theorem epochCommitted_of (h : ldgCommitting s = true) :
    execEpochCommitted s = settled (commitEnded (fwCommit s [⟨0x06, 0, ldgEpoch s + 1, 0, epochPayload s⟩])) := by
  rw [execEpochCommitted, actSettle_of hp, epochCommit, if_neg (by rw [h]; decide)]
  rfl

/-! ### Passes (R261, R262) -/

section
variable {k : Fin 64} {feeds : List (Nat × Feed)}

theorem ttPassStart_feeds (h : s.fix.passes.any (fun p => p.key == .entry k.val) = true) : execTtPassStart k feeds s =
    settled (advancePasses (mapPass s (.entry k.val) (fun p => { p with fed := p.fed ++ feeds }))) := by
  rw [execTtPassStart, actSettle_of hp]
  exact congrArg settled (if_pos h)

variable (h : s.fix.passes.any (fun p => p.key == .entry k.val) = false)
include h

theorem ttPassStart_none (he : ttEntry s k.val = none) : execTtPassStart k feeds s = settled s := by
  rw [execTtPassStart, actSettle_of hp]
  refine congrArg settled ((if_neg (by rw [h]; decide)).trans ?_)
  rw [he]

/-- The pass of a timetable entry begun at a cursor, its age and failures 0 (R262). -/
def passStarted (s : State) (k : Nat) (e : TtEntry) (cur : Nat) (feeds : List (Nat × Feed)) : State :=
  let t := (s.setBit (Reg.FIX_TT_STAT k) 2 true).setBit (Reg.FIX_TT_STAT k) 3 false
  let t := syncTt (((t.wr (Reg.FIX_TT_AGE k) 0).wr (Reg.FIX_TT_FAILS k) 0).wr64 (Reg.FIX_TT_CUR_LO k) (Reg.FIX_TT_CUR_HI k) cur)
  advancePasses (startPass t (.entry k) 0 e.who e.first e.count cur feeds)

/-- An entry's saved cursor lies within its records. -/
abbrev passResumes (s : State) (k : Nat) (e : TtEntry) : Prop :=
  e.first < s.rd64 (Reg.FIX_TT_CUR_LO k) (Reg.FIX_TT_CUR_HI k) ∧
    s.rd64 (Reg.FIX_TT_CUR_LO k) (Reg.FIX_TT_CUR_HI k) < e.first + e.count

/-- An entry is due, and no due entry is longer overdue. -/
def passTurn (s : State) (k : Nat) : Prop := ttDue s k = true ∧ ∀ i < 64, ttDue s i = true → ttLate s i ≤ ttLate s k

omit hp h in
theorem passTurn_iff (k : Nat) : passTurn s k ↔
    (ttDue s k && (List.range 64).all (fun i => !ttDue s i || decide (ttLate s i ≤ ttLate s k))) = true := by
  rw [Bool.and_eq_true, List.all_eq_true, passTurn]
  refine and_congr_right fun _ => forall_congr' fun i => ?_
  rw [List.mem_range, Bool.or_eq_true, Bool.not_eq_true', decide_eq_true_iff]
  refine imp_congr_right fun _ => ?_
  cases ttDue s i <;> simp

theorem ttPassStart_of {e : TtEntry} (he : ttEntry s k.val = some e) : execTtPassStart k feeds s = settled
    (if (ttDue s k.val && (List.range 64).all (fun i => !ttDue s i || decide (ttLate s i ≤ ttLate s k.val))) = false ∧
        (decide (passResumes s k.val e) = false ∨ ldgState s ≠ 2) then s
      else passStarted s k.val e (if decide (passResumes s k.val e) = true then s.rd64 (Reg.FIX_TT_CUR_LO k.val) (Reg.FIX_TT_CUR_HI k.val)
        else e.first) feeds) := by
  rw [execTtPassStart, actSettle_of hp]
  refine congrArg settled ((if_neg (by rw [h]; decide)).trans ?_)
  rw [he]
  rfl

end

/-- The pass that PASS_DONE names: a requester's range, or a timetable entry's. -/
def passKey (who : Option Sender) (k : Fin 64) : PassKey :=
  match who with
  | some q => .range q
  | none => .entry k.val

theorem passDone_of (who : Option Sender) (k : Fin 64) : execPassDone who k s = settled (
    match s.fix.passes.find? (fun p => p.key == passKey who k) with
    | none => s
    | some p =>
      if p.over = false ∨ p.ending = true then s
      else if epochNeeded s = true ∨ ldgCommitting s = true then
        ttSave (epochBegin (mapPass s (passKey who k) (fun p => { p with ending := true })) [.pass (passKey who k)])
      else ttSave (finishPass s (passKey who k))) := by
  unfold execPassDone
  rw [actSettle_of hp]
  rfl

theorem passOverdue_of (k : Fin 64) : execPassOverdue k s = settled (match ttEntry s k.val with
    | none => s
    | some e =>
      if s.bit (Reg.FIX_TT_STAT k.val) 2 = false ∨ s.bit (Reg.FIX_TT_STAT k.val) 3 = true ∨
        (s.rd (Reg.FIX_TT_AGE k.val)).toNat < e.period then s
      else (s.setBit (Reg.FIX_TT_STAT k.val) 3 true).fwLog Ev.PASS_OVERDUE k.val (leBytes 4 (s.rd (Reg.FIX_TT_AGE k.val)).toNat ++
        leBytes 8 (s.rd64 (Reg.FIX_TT_CUR_LO k.val) (Reg.FIX_TT_CUR_HI k.val)))) :=
  actSettle_of hp _

/-! ### The timetable's progress and the rate window (R23, R261) -/

omit hp in
theorem AllBut.ttSave (s : State) : AllBut [.fix] s (ttSave s) := by
  intro p hp
  cases p
  case fix => exact absurd (by decide) hp
  all_goals rfl

/-- FIX_RATE with the mean of the window that has ended, whose first byte count is kept for the next. -/
def rateTaken (s : State) : State :=
  let n := s.rd64 Reg.FIX_BYTES_LO Reg.FIX_BYTES_HI
  let t := s.wr Reg.FIX_RATE (BitVec.ofNat 32 ((n - s.fix.rateBase) / 10000000))
  { t with fix := { t.fix with rateBase := n } }

theorem fixRateWindow_of : execFixRateWindow s = settled (rateTaken s) := by
  rw [execFixRateWindow, actSettle_of hp]
  rfl

omit hp in
theorem rateTaken_spec : AllBut [.fix, .regs] s (rateTaken s) ∧ RegsAllBut [Reg.FIX_RATE] s (rateTaken s) ∧
    (rateTaken s).rd Reg.FIX_RATE =
      BitVec.ofNat 32 ((s.rd64 Reg.FIX_BYTES_LO Reg.FIX_BYTES_HI - s.fix.rateBase) / 10000000) ∧
    (rateTaken s).fix.rateBase = s.rd64 Reg.FIX_BYTES_LO Reg.FIX_BYTES_HI := by
  refine ⟨?_, fun a ha => State.rd_wr_of_ne _ _ (by simpa using ha), State.rd_wr_self _ _ _, rfl⟩
  intro p hp
  cases p
  case fix => exact absurd (by decide) hp
  case regs => exact absurd (by decide) hp
  all_goals rfl

end

/-- Settles O48: each event is its own function of the ledger's, the passes' and the timetable's state. -/
theorem fixityEvents : Obligations.FixityEvents := by
  intro s hp
  refine ⟨fun page data path kind => ⟨fun h => ledgerPageAuth_unwanted hp data h, fun h => ledgerPageAuth_of (path := path) hp h none,
      fun d level h hf => ?_, fun d h hf => ?_⟩,
    fun page => ⟨fun p hu ha hc => ?_, fun h => ?_, fun p ha hc => ?_⟩, ⟨fun h => (epochTimer_of hp).trans (congrArg settled (if_neg h)),
      fun h => ?_⟩, epochCommitted_idle hp, fun h => ?_, fun k feeds => ⟨ttPassStart_feeds hp, ttPassStart_none hp, fun e hr he => ?_⟩,
    fun who k => ⟨fun hn => ?_, fun p hf => ?_⟩, fun k => ⟨fun hn => ?_, fun e he => ?_⟩,
    ⟨ttSave s, actSettle_of hp ttSave, AllBut.ttSave s, rfl, rfl⟩, ⟨_, fixRateWindow_of hp, rateTaken_spec⟩⟩
  · refine (ledgerPageAuth_of (kind := kind) hp h (some d)).trans ?_
    dsimp only
    rw [pageAuth_fails h hf]
  · refine (ledgerPageAuth_of (kind := kind) hp h (some d)).trans ?_
    dsimp only
    rw [pageAuth_admits h hf]
  · exact (ledgerWriteback_of hp page).trans (congrArg settled (if_pos ⟨ldgUsable_iff.2 hu, by rw [ha]; exact hc⟩))
  · refine (ledgerWriteback_of hp page).trans (congrArg settled (if_neg ?_))
    rintro ⟨hu, hc⟩
    rcases h with h | h
    · exact h (ldgUsable_iff.1 hu)
    · rw [h] at hc
      exact Bool.false_ne_true hc
  · refine (ledgerWriteback_of hp page).trans (congrArg settled (if_neg ?_))
    rintro ⟨-, h⟩
    rw [ha] at h
    exact Bool.false_ne_true (hc.symm.trans h)
  · exact (epochTimer_of hp).trans (congrArg settled ((if_pos h).trans (epochBegin_free h.2.2 [])))
  · have run := epochCommitted_of hp h
    refine ⟨fun h0 => run.trans (congrArg settled (if_pos h0)), fun hw => run.trans (congrArg settled ((if_neg (by omega)).trans (if_pos hw))),
      fun h0 h1 h2 => run.trans (congrArg settled ((if_neg h0).trans (if_neg (by omega))))⟩
  · have run := ttPassStart_of (feeds := feeds) hp hr he
    have hturn := passTurn_iff (s := s) k.val
    refine ⟨fun ht hres => run.trans (congrArg settled (if_pos ?_)), fun ht hres => run.trans (congrArg settled ?_),
      fun hres ht => run.trans (congrArg settled ?_)⟩
    · refine ⟨Bool.eq_false_iff.2 fun hn => ht (hturn.2 hn), ?_⟩
      by_contra hn
      rw [not_or, Bool.not_eq_false, decide_eq_true_iff, not_not] at hn
      exact hres hn
    · rw [if_neg, if_neg (by rw [decide_eq_true_iff]; exact hres)]
      · rfl
      · rintro ⟨hf, -⟩
        exact Bool.false_ne_true (hf.symm.trans (hturn.1 ht))
    · rw [if_neg, if_pos (decide_eq_true hres)]
      · rfl
      · rintro ⟨hf, hn⟩
        rcases ht with ht | ht
        · exact Bool.false_ne_true (hf.symm.trans (hturn.1 ht))
        · exact hn.elim (fun h => Bool.false_ne_true (h.symm.trans (decide_eq_true hres))) fun h => h ht
  · have hn' : s.fix.passes.find? (fun p => p.key == passKey who k) = none := hn
    refine (passDone_of hp who k).trans ?_
    rw [hn']
  · have hf' : s.fix.passes.find? (fun p => p.key == passKey who k) = some p := hf
    have run := passDone_of hp who k
    rw [hf'] at run
    have ends (h1 : p.over = true) (h2 : p.ending = false) := run.trans (congrArg settled (if_neg (by rw [h1, h2]; decide)))
    exact ⟨fun h => run.trans (congrArg settled (if_pos h)), fun h1 h2 h => (ends h1 h2).trans (congrArg settled (if_pos h)),
      fun h1 h2 h3 h4 => (ends h1 h2).trans (congrArg settled (if_neg (by rw [h3, h4]; decide)))⟩
  · refine (passOverdue_of hp k).trans ?_
    rw [hn]
  · have run := passOverdue_of hp k
    rw [he] at run
    refine ⟨fun h => run.trans (congrArg settled (if_pos ?_)), fun h => run.trans (congrArg settled (if_neg ?_))⟩
    · by_contra hn
      rw [not_or, not_or, Bool.not_eq_false, Bool.not_eq_true, not_lt] at hn
      exact h hn
    · obtain ⟨h1, h2, h3⟩ := h
      rw [h1, h2]
      simp only [Bool.true_eq_false, Bool.false_eq_true, false_or]
      omega

end Sys2Proof.Machine
end

section
/-! O49 fails: a function whose Bus Master Enable is set sends the MSI-X messages that it left pending. -/

namespace Sys2Proof.Machine

/-- The host link is up and HST_MODE is MEDIATED; VF 1 has left the message of its first MSI-X entry pending, unmasked. -/
def msixLeft : State :=
  let s := (State.reset.setBit Reg.HST_LINK 9 true).wr Reg.HST_MODE 1
  { s with host := { s.host with msix := [((1, 0), ⟨0x1000, 5, false, true⟩)] } }

/-- How many writes the outcome of a command has sent to the host. -/
def sentTo : Out → Nat
  | .next u => u.hostOut.length
  | _ => 0

/-- Bus Master Enable set for VF 1 sends the pending message. -/
theorem busMaster_sends : sentTo (execConfigurationRequest (.busMaster 1 true) msixLeft) = 1 := by decide +kernel

/-- What the statement says of Bus Master Enable sends nothing. -/
theorem busMaster_claimed : sentTo (settled (dirtyDrain
    { msixLeft with host := { msixLeft.host with bme := 1 :: msixLeft.host.bme.filter (· != 1) } } (Fin.ofNat 1025 1))) = 0 := by
  decide +kernel

/-- Refutes O49: Bus Master Enable set in MEDIATED mode first sends the messages that the function's unmasked MSI-X entries
left pending (R276), which the statement leaves out: from `msixLeft` the model sends VF 1's message, the statement none. -/
theorem not_hostLinkEvents : ¬ Obligations.HostLinkEvents := by
  intro h
  obtain ⟨-, -, -, -, -, -, -, -, -, -, -, hcfg⟩ := h msixLeft (by decide +kernel)
  obtain ⟨-, -, -, hbme, -⟩ := hcfg (by decide +kernel)
  have heq : execConfigurationRequest (.busMaster 1 true) msixLeft = settled (dirtyDrain
      { msixLeft with host := { msixLeft.host with bme := 1 :: msixLeft.host.bme.filter (· != 1) } } (Fin.ofNat 1025 1)) :=
    hbme 1 true (by decide) (by decide +kernel)
  have hsent := congrArg sentTo heq
  rw [busMaster_sends, busMaster_claimed] at hsent
  exact absurd hsent (by decide)

end Sys2Proof.Machine
end

section
/-! O51: feature evaluation, the end of a reset, the rings and interrupt coalescing. -/

namespace Sys2Proof.Machine

section
variable {s : State} (n : Fin 1025)

/-! ### Feature evaluation (R274, R275) -/

/-- The feature set that Instance n asks for is one that it may have. -/
def featuresGood (s : State) (n : Nat) : Prop :=
  let f := requested s n
  f &&& offered s n = f ∧ ¬ (bitOf f 4 = true ∧ bitOf f 5 = true) ∧
    (n = 0 → (modeOf f = hostMode s ∨ instancesUp s = 0) ∧ (bitOf f 5 = false ∨ s.host.vfEnable = false)) ∧
    ((bitOf f 1 = true ∨ bitOf f 2 = true ∨ bitOf f 3 = true ∨ bitOf f 7 = true) → bitOf f 0 = true) ∧
    (bitOf f 6 = true → bitOf f 4 = true ∨ bitOf f 5 = true)

theorem featureCause_le (s : State) (k : Nat) : featureCause s k ≤ 4 := by
  unfold featureCause
  dsimp only
  split_ifs <;> omega

theorem featureCause_eq_zero_iff (k : Nat) : featureCause s k = 0 ↔ featuresGood s k := by
  unfold featureCause featuresGood
  dsimp only
  split_ifs with h1 h2 h3 h4
  · exact ⟨nofun, fun h => absurd h.1 h1⟩
  · rw [Bool.and_eq_true] at h2
    exact ⟨nofun, fun h => absurd h2 h.2.1⟩
  · refine ⟨nofun, fun ⟨_, _, h, _⟩ => ?_⟩
    obtain ⟨hm, hv⟩ := h h3.1
    grind
  · refine ⟨nofun, fun ⟨_, _, _, ha, hb⟩ => ?_⟩
    simp only [Bool.or_eq_true, Bool.and_eq_true, Bool.not_eq_true'] at h4
    grind
  · simp only [Bool.or_eq_true, Bool.and_eq_true, Bool.not_eq_true'] at h2 h4
    grind

variable (hp : s.pwr.down = false)
include hp

theorem featureEvalDone_of : execFeatureEvalDone n s = settled (featureEval s n.val) := by
  rw [execFeatureEvalDone, actSettle_of hp]

theorem sqFetch_of (entry list block : HostRead) (k : Fin 4) :
    execSqFetch n entry list block k s = settled (sqFetch s n.val entry list block k.val) := by
  rw [execSqFetch, actSettle_of hp]

theorem cmdFetch_of (entry : HostRead) (k : Fin 4) : execCmdFetch n entry k s = settled (cmdFetch s n.val entry k.val) := by
  rw [execCmdFetch, actSettle_of hp]

theorem cqPost_of : execCqPost n s = settled (cqPost s n.val) := by
  rw [execCqPost, actSettle_of hp]

theorem instanceResetDone_of (us : Word) :
    execInstanceResetDone n us s = settled (if drains s n.val then s else resetDone s n.val us.toNat) := by
  rw [execInstanceResetDone, actSettle_of hp]

omit hp in
theorem featureEval_good {k : Nat} (hr : s.bit (Reg.VIN_STAT k) 7 = true) (hg : featuresGood s k) :
    featureEval s k =
      let on := ((s.setBit (Reg.VIN_STAT k) 7 false).setF (Reg.VIN_STAT k) 10 8 0).setBit (Reg.VIN_CTL k) 1 true
      stateInt (vinLog (if k = 0 then syncOffers (on.setL .pf0 Reg.HST_MODE 1 0 (modeOf (requested s k))) else on)
        Ev.FEATURES_ACCEPTED k (leBytes 2 k ++ leBytes 16 (requested s k))) k := by
  have hc := (featureCause_eq_zero_iff k).2 hg
  refine (if_neg (by rw [hr]; decide)).trans ?_
  dsimp only
  rw [hc]
  exact congrArg (stateInt · k) (if_pos rfl)

omit hp in
theorem featureEval_refused {k : Nat} (hr : s.bit (Reg.VIN_STAT k) 7 = true) (hg : ¬ featuresGood s k) :
    featureEval s k = stateInt (vinLog ((s.setBit (Reg.VIN_STAT k) 7 false).setF (Reg.VIN_STAT k) 10 8 (featureCause s k))
      Ev.FEATURES_REFUSED k (leBytes 2 k ++ leBytes 1 (featureCause s k) ++ leBytes 16 (requested s k))) k := by
  refine (if_neg (by rw [hr]; decide)).trans ?_
  exact congrArg (stateInt · k) (if_neg (mt (featureCause_eq_zero_iff k).1 hg))

theorem featureEvalDone_idle (hr : s.bit (Reg.VIN_STAT n.val) 7 = false) : execFeatureEvalDone n s = settled s :=
  (featureEvalDone_of n hp).trans (congrArg settled (if_pos hr))

theorem featureEvalDone_good (hr : s.bit (Reg.VIN_STAT n.val) 7 = true) (hg : featuresGood s n.val) :
    execFeatureEvalDone n s = settled (
      let on := ((s.setBit (Reg.VIN_STAT n.val) 7 false).setF (Reg.VIN_STAT n.val) 10 8 0).setBit (Reg.VIN_CTL n.val) 1 true
      stateInt (vinLog (if n.val = 0 then syncOffers (on.setL .pf0 Reg.HST_MODE 1 0 (modeOf (requested s n.val))) else on)
        Ev.FEATURES_ACCEPTED n.val (leBytes 2 n.val ++ leBytes 16 (requested s n.val))) n.val) :=
  (featureEvalDone_of n hp).trans (congrArg settled (featureEval_good hr hg))

theorem featureEvalDone_refused (hr : s.bit (Reg.VIN_STAT n.val) 7 = true) (hg : ¬ featuresGood s n.val) :
    ∃ c, 1 ≤ c ∧ c ≤ 4 ∧ execFeatureEvalDone n s = settled (stateInt (vinLog
      ((s.setBit (Reg.VIN_STAT n.val) 7 false).setF (Reg.VIN_STAT n.val) 10 8 c) Ev.FEATURES_REFUSED n.val
      (leBytes 2 n.val ++ leBytes 1 c ++ leBytes 16 (requested s n.val))) n.val) :=
  ⟨featureCause s n.val, Nat.one_le_iff_ne_zero.2 (mt (featureCause_eq_zero_iff n.val).1 hg), featureCause_le s n.val,
    (featureEvalDone_of n hp).trans (congrArg settled (featureEval_refused hr hg))⟩

/-! ### The end of a reset (R284, R285) -/

/-- The state once Instance n's drain has ended and its resetters are answered. -/
def resetAnswered (s : State) (n us : Nat) : State :=
  let t := setVinState (resetEvent (clearIndices s n) n us) n 1
  (s.inst n).resetters.foldl (fun s w => s.answer w.1 w.2 0 [] true) (t.setInst n { t.inst n with resetters := [] })

omit hp in
theorem resetDone_resetting {k us : Nat} (h4 : vinState s k = 4) : resetDone s k us =
    match (s.inst k).destroyNext with
    | some cause => resetBegin (((resetAnswered s k us).setInst k { (resetAnswered s k us).inst k with destroyNext := none }).setBit
        (Reg.VIN_STAT k) 3 false) k 5 cause
    | none => if (resetAnswered s k us).bit (Reg.VIN_STAT k) 3 then enableNow ((resetAnswered s k us).setBit (Reg.VIN_STAT k) 3 false) k
        else resetAnswered s k us :=
  if_pos h4

omit hp in
theorem resetDone_destroying {k us : Nat} (h5 : vinState s k = 5) :
    resetDone s k us = destroyEnd (resetEvent (clearIndices s k) k us) k :=
  (if_neg (by rw [h5]; decide)).trans (if_pos h5)

theorem instanceResetDone_idle (us : Word) (h : drains s n.val = true ∨ (vinState s n.val ≠ 4 ∧ vinState s n.val ≠ 5)) :
    execInstanceResetDone n us s = settled s := by
  refine (instanceResetDone_of n hp us).trans (congrArg settled ?_)
  by_cases hd : drains s n.val = true
  · exact if_pos hd
  · obtain ⟨h4, h5⟩ := h.resolve_left hd
    exact (if_neg hd).trans ((if_neg h4).trans (if_neg h5))

theorem instanceResetDone_drained (us : Word) (hd : drains s n.val = false) :
    execInstanceResetDone n us s = settled (resetDone s n.val us.toNat) :=
  (instanceResetDone_of n hp us).trans (congrArg settled (if_neg (by rw [hd]; decide)))

/-! ### The rings (R281, R283, R288, R401) -/

/-- Instance n may fetch an SQ entry. -/
def sqReady (s : State) (n : Nat) : Prop :=
  vinState s n = 2 ∧ dmaIssues s n = true ∧ s.bit Reg.PWR_STAT 0 = false ∧ ringHolds s n 0 = true ∧ slotsUsed s n < slotsOf s n

omit hp in
theorem sqReady_iff {k : Nat} : sqReady s k ↔ ¬ (vinState s k ≠ 2 ∨ dmaIssues s k = false ∨ s.bit Reg.PWR_STAT 0 = true ∨
    ringHolds s k 0 = false ∨ slotsOf s k ≤ slotsUsed s k) := by
  simp only [sqReady, not_or, not_not, Bool.not_eq_false, Bool.not_eq_true, not_le]

theorem sqFetch_unready (entry list block : HostRead) (k : Fin 4) (h : ¬ sqReady s n.val) :
    execSqFetch n entry list block k s = settled s :=
  (sqFetch_of n hp entry list block k).trans (congrArg settled (if_pos (not_not.1 (mt sqReady_iff.2 h))))

theorem sqFetch_ready (entry list block : HostRead) (k : Fin 4) (h : sqReady s n.val) :
    execSqFetch n entry list block k s = settled (match entry with
      | none => ringFails s n.val 0 (ringEntryAddr s n.val 0 (s.fld (Reg.VIN_SQ_HEAD n.val) 15 0)) k.val
      | some w => if dmaFails s n.val then ringFails s n.val 0 (ringEntryAddr s n.val 0 (s.fld (Reg.VIN_SQ_HEAD n.val) 15 0)) 0
          else syncFix (sqEntry s n.val w list block k.val)) :=
  (sqFetch_of n hp entry list block k).trans (congrArg settled (if_neg (sqReady_iff.1 h)))

/-- The state once Instance n's SQ head and its count of submissions have moved past an entry. -/
def sqMoved (s : State) (n : Nat) : State :=
  (s.setF (Reg.VIN_SQ_HEAD n) 15 0 ((s.fld (Reg.VIN_SQ_HEAD n) 15 0 + 1) % 2 ^ s.fld (Reg.VIN_RES n) 12 8)).wr (Reg.VIN_SUBMITTED n)
    (s.rd (Reg.VIN_SUBMITTED n) + 1)

omit hp in
theorem submitted_setF_head (k v : Nat) :
    (s.setF (Reg.VIN_SQ_HEAD k) 15 0 v).rd (Reg.VIN_SUBMITTED k) = s.rd (Reg.VIN_SUBMITTED k) :=
  State.rd_setF_of_ne s _ _ _ (by unfold Reg.VIN_SUBMITTED Reg.VIN_SQ_HEAD; omega)

omit hp in
theorem vinGen_sqMoved (k : Nat) : vinGen (sqMoved s k) k = vinGen s k := by
  refine fld_of_rd ?_ _ _
  rw [sqMoved, State.rd_wr_of_ne _ _ (by unfold Reg.VIN_SUBMITTED Reg.VIN_STAT; omega),
    State.rd_setF_of_ne s _ _ _ (by unfold Reg.VIN_STAT Reg.VIN_SQ_HEAD; omega)]

omit hp in
theorem sqEntry_eq (k : Nat) (w : List Byte) (list block : HostRead) (kind : Nat) : sqEntry s k w list block kind =
    if wbGen w ≠ vinGen s k then (sqMoved s k).inc (Reg.VIN_LATE_DISCARD k)
    else submit (sqMoved s k) ⟨.ring k (s.rd (Reg.VIN_SUBMITTED k)).toNat, some k, takePad 64 w, [], [], [], false⟩ list block kind := by
  rw [← vinGen_sqMoved, sqEntry, submitted_setF_head]
  rfl

/-- Instance n may fetch a CMD entry. -/
def cmdReady (s : State) (n : Nat) : Prop :=
  vinState s n = 2 ∧ dmaIssues s n = true ∧ ringHolds s n 2 = true

omit hp in
theorem cmdReady_iff {k : Nat} : cmdReady s k ↔ ¬ (vinState s k ≠ 2 ∨ dmaIssues s k = false ∨ ringHolds s k 2 = false) := by
  simp only [cmdReady, not_or, not_not, Bool.not_eq_false]

theorem cmdFetch_unready (entry : HostRead) (k : Fin 4) (h : ¬ cmdReady s n.val) : execCmdFetch n entry k s = settled s :=
  (cmdFetch_of n hp entry k).trans (congrArg settled (if_pos (not_not.1 (mt cmdReady_iff.2 h))))

theorem cmdFetch_fails (entry : HostRead) (k : Fin 4) (h : cmdReady s n.val) (hf : entry = none ∨ dmaFails s n.val = true) :
    execCmdFetch n entry k s = settled (ringFails s n.val 2
      (ringEntryAddr s n.val 2 (s.fld (Reg.VIN_CMD_HEAD n.val) 15 0)) (if entry = none then k.val else 0)) :=
  (cmdFetch_of n hp entry k).trans (congrArg settled ((if_neg (cmdReady_iff.1 h)).trans (if_pos hf)))

theorem cmdFetch_moves (entry : HostRead) (k : Fin 4) (h : cmdReady s n.val) (he : entry.isSome = true) (hf : dmaFails s n.val = false) :
    execCmdFetch n entry k s = settled (s.setF (Reg.VIN_CMD_HEAD n.val) 15 0
      ((s.fld (Reg.VIN_CMD_HEAD n.val) 15 0 + 1) % 2 ^ s.fld (Reg.VIN_RES n.val) 21 18)) := by
  have hn : ¬ (entry = none ∨ dmaFails s n.val = true) := by
    rw [hf]
    rintro (h | h)
    · rw [h] at he; exact absurd he (by decide)
    · exact absurd h (by decide)
  exact (cmdFetch_of n hp entry k).trans (congrArg settled ((if_neg (cmdReady_iff.1 h)).trans (if_neg hn)))

theorem cqPost_empty (h : s.fix.done.find? (fun p => p.1 == n.val) = none) : execCqPost n s = settled s := by
  rw [cqPost_of n hp, cqPost, h]

/-- Instance n may post the completion at its CQ's tail. -/
def cqReady (s : State) (n : Nat) : Prop :=
  (vinState s n = 2 ∨ vinState s n = 3) ∧ dmaIssues s n = true ∧
    (s.fld (Reg.VIN_CQ_TAIL n) 15 0 + 1) % 2 ^ s.fld (Reg.VIN_RES n) 17 13 ≠ s.fld (Reg.VIN_CQ_HEAD n) 15 0 % 2 ^ s.fld (Reg.VIN_RES n) 17 13

omit hp in
theorem cqReady_iff {k : Nat} : cqReady s k ↔ ¬ ((vinState s k ≠ 2 ∧ vinState s k ≠ 3) ∨ dmaIssues s k = false ∨
    ringFull (s.fld (Reg.VIN_CQ_TAIL k) 15 0) (s.fld (Reg.VIN_CQ_HEAD k) 15 0) (ringLog s k 1) = true) := by
  have hl : ringLog s k 1 = s.fld (Reg.VIN_RES k) 17 13 := rfl
  rw [cqReady, hl]
  simp only [ringFull, not_or, Bool.not_eq_false, beq_iff_eq, ne_eq, and_congr_left_iff]
  intro _
  omega

/-- What CQ_POST does with the completion c that Instance n may post. -/
def cqPosted (s : State) (n : Nat) (c : Nat × List Byte) : State :=
  let tail := s.fld (Reg.VIN_CQ_TAIL n) 15 0
  let lg := s.fld (Reg.VIN_RES n) 17 13
  let addr := s.rd64 (Reg.VIN_CQ_BASE_LO n) (Reg.VIN_CQ_BASE_HI n) + 32 * tail
  let ph := (s.inst n).cqPhase
  let tail' := (tail + 1) % 2 ^ lg
  let t := issueWrite { s with fix := { s.fix with done := s.fix.done.erase c } } n addr (takePad 31 c.2 ++ leBytes 1 (b2n ph))
  let u := (t.setF (Reg.VIN_CQ_TAIL n) 15 0 tail').setInst n { t.inst n with cqPhase := if tail' = 0 then !ph else ph }
  quiesceCheck (intPosted (u.inc (Reg.VIN_COMPLETED n)) n 0) n

section
variable {c : Nat × List Byte} (hc : s.fix.done.find? (fun p => p.1 == n.val) = some c)
include hc

theorem cqPost_unready (h : ¬ cqReady s n.val) : execCqPost n s = settled s := by
  rw [cqPost_of n hp, cqPost, hc]
  exact congrArg settled (if_pos (not_not.1 (mt cqReady_iff.2 h)))

theorem cqPost_ready (h : cqReady s n.val) : execCqPost n s = settled (
    let addr := s.rd64 (Reg.VIN_CQ_BASE_LO n.val) (Reg.VIN_CQ_BASE_HI n.val) + 32 * s.fld (Reg.VIN_CQ_TAIL n.val) 15 0
    if dmaFails s n.val then ringFails s n.val 1 addr 0
    else if dirtyReady s n.val addr 32 = false then dirtyFull s n.val
    else cqPosted s n.val c) := by
  rw [cqPost_of n hp, cqPost, hc]
  exact congrArg settled (if_neg (cqReady_iff.1 h))

end

/-! ### DMA errors and interrupt coalescing (R289, R293) -/

theorem dmaError_of (ring : Fin 5) (e : Option (Fin 512)) (addr : Dword) (k : Fin 4) :
    execDmaError n ring e addr k s = settled (match e with
      | none => ringFails s n.val ring.val (ringAddr s n.val ring.val) k.val
      | some e => match (s.engine e.val).item with
        | none => s
        | some i => itemReadError (dmaErrorEvent s (i.wb.owner.getD 0) addr.toNat k.val 5) e.val) :=
  actSettle_of hp _

omit hp in
theorem ringFails_eq (k ring addr kind : Nat) : ringFails s k ring addr kind =
    if vinState s k = 2 ∨ vinState s k = 3 then
      dmaErrorEvent (vinLog (setVinState s k 6) Ev.INSTANCE_FAILED k (leBytes 1 ring ++ leBytes 8 addr)) k addr kind ring
    else s := by
  by_cases h : vinState s k = 2 ∨ vinState s k = 3
  · rw [if_pos h]
    exact if_neg (by omega)
  · rw [if_neg h]
    exact if_pos (by omega)

theorem dmaError_idle (ring : Fin 5) (e : Fin 512) (addr : Dword) (k : Fin 4) (h : (s.engine e.val).item = none) :
    execDmaError n ring (some e) addr k s = settled s := by
  rw [dmaError_of n hp]
  dsimp only
  rw [h]

theorem dmaError_item (ring : Fin 5) (e : Fin 512) (addr : Dword) (k : Fin 4) {i : WorkItem} (h : (s.engine e.val).item = some i) :
    execDmaError n ring (some e) addr k s =
      settled (itemReadError (dmaErrorEvent s (i.wb.owner.getD 0) addr.toNat k.val 5) e.val) := by
  rw [dmaError_of n hp]
  dsimp only
  rw [h]

theorem intCoalTimeout_of (src : Fin 4) : execIntCoalTimeout n src s = settled (
    if src = 2 ∨ (s.inst n.val).unsig src.val = 0 then s
    else intNow (s.setInst n.val ((s.inst n.val).setUnsig src.val 0)) n.val src.val) := by
  rw [execIntCoalTimeout, actSettle_of hp]

omit hp in
theorem intNow_eq (k src : Nat) : intNow s k src = msixSend (s.setBit (Reg.VIN_INT_STAT k) src true) k
    ((s.setBit (Reg.VIN_INT_STAT k) src true).fld (Reg.VIN_INT_MAP k) (5 * src + 4) (5 * src)) := by
  have hmap : (s.setBit (Reg.VIN_INT_STAT k) src true).rd (Reg.VIN_INT_MAP k) = s.rd (Reg.VIN_INT_MAP k) :=
    State.rd_setBit_of_ne s _ _ (by unfold Reg.VIN_INT_MAP Reg.VIN_INT_STAT; omega)
  rw [intNow, intVec, fld_of_rd hmap]

end

/-- Settles O51: each happening of an Instance does what its state then calls for. -/
theorem instanceEvents : Obligations.InstanceEvents := by
  intro s m hp
  refine ⟨featureEvalDone_idle m hp, fun hr => ⟨featureEvalDone_good m hp hr, featureEvalDone_refused m hp hr⟩,
    fun us => ⟨instanceResetDone_idle m hp us, fun hd h5 => ?_, fun hd h4 hn => ?_, fun k hd h4 hk => ?_⟩,
    fun entry list block k => ⟨sqFetch_unready m hp entry list block k, fun hr he => ?_, fun w hr he => ⟨fun hf => ?_, fun hf hg => ?_,
      fun hf hg => ?_⟩⟩,
    fun entry k => ⟨cmdFetch_unready m hp entry k, cmdFetch_fails m hp entry k, cmdFetch_moves m hp entry k⟩,
    cqPost_empty m hp,
    fun c hc => ⟨cqPost_unready m hp hc, fun hr hf => ?_, fun hr hf hd => ?_, fun hr hf hd => ?_⟩,
    fun ring addr k => ?_, fun ring e addr k => ⟨dmaError_idle m hp ring e addr k, fun i => dmaError_item m hp ring e addr k⟩,
    fun src => ⟨fun h => ?_, fun h2 hu => ?_⟩⟩
  · exact (instanceResetDone_drained m hp us hd).trans (congrArg settled (resetDone_destroying h5))
  · refine (instanceResetDone_drained m hp us hd).trans (congrArg settled ((resetDone_resetting h4).trans ?_))
    rw [hn]
    rfl
  · refine (instanceResetDone_drained m hp us hd).trans (congrArg settled ((resetDone_resetting h4).trans ?_))
    rw [hk]
    rfl
  · rw [he]
    exact sqFetch_ready m hp none list block k hr
  · rw [he]
    exact (sqFetch_ready m hp (some w) list block k hr).trans (congrArg settled (if_pos hf))
  · rw [he]
    refine (sqFetch_ready m hp (some w) list block k hr).trans (congrArg settled ((if_neg (by rw [hf]; decide)).trans ?_))
    exact congrArg syncFix ((sqEntry_eq m.val w list block k.val).trans (if_pos hg))
  · rw [he]
    refine (sqFetch_ready m hp (some w) list block k hr).trans (congrArg settled ((if_neg (by rw [hf]; decide)).trans ?_))
    exact congrArg syncFix ((sqEntry_eq m.val w list block k.val).trans (if_neg (not_not.2 hg)))
  · exact (cqPost_ready m hp hc hr).trans (congrArg settled (if_pos hf))
  · exact (cqPost_ready m hp hc hr).trans (congrArg settled ((if_neg (by rw [hf]; decide)).trans (if_pos hd)))
  · exact (cqPost_ready m hp hc hr).trans (congrArg settled ((if_neg (by rw [hf]; decide)).trans (if_neg (by rw [hd]; decide))))
  · exact (dmaError_of m hp ring none addr k).trans (congrArg settled (ringFails_eq m.val ring.val (ringAddr s m.val ring.val) k.val))
  · exact (intCoalTimeout_of m hp src).trans (congrArg settled (if_pos h))
  · exact (intCoalTimeout_of m hp src).trans (congrArg settled ((if_neg (by rw [not_or]; exact ⟨h2, hu⟩)).trans (intNow_eq m.val src.val)))

end Sys2Proof.Machine
end

section
/-! O52: the Instance and pool requests. -/

namespace Sys2Proof.Machine

section
variable {s : State} {q : Sender} {tag : Byte} (hh : Heard s q) {n : BitVec 16}

theorem fromPf0_iff : fromPf0 q = true ↔ q = .inst 0 := by rw [fromPf0, beq_iff_eq]

theorem fromPf0_eq_false (h : q ≠ .inst 0) : fromPf0 q = false := by rw [← Bool.not_eq_true, fromPf0_iff]; exact h

/-- A request that is not one of those recorded leaves nothing but whose it is. -/
theorem taken_unlogged {code : Nat} (h : loggedCode code = false) : taken s q code = behalf s q := by
  have hlog : logRequest s q code = s := if_neg (by rw [h]; decide)
  rw [taken, hlog]

include hh in
/-- A request outside the recorded codes is carried out on the state that names its requester. -/
theorem request_unlogged (c : Request) {code : Nat} (h : loggedCode code = false) (f : State → State) :
    request c code q s f = served (f (behalf s q)) := by
  rw [request_heard hh, taken_unlogged h]

theorem instHere_iff {b : State} {k : Nat} : instHere b k = true ↔ k ≤ 1024 ∧ vinState b k ≠ 0 := by
  rw [instHere, Bool.and_eq_true, decide_eq_true_iff, bne_iff_ne]

theorem instHere_eq_false_iff {b : State} {k : Nat} : instHere b k = false ↔ ¬ (k ≤ 1024 ∧ vinState b k ≠ 0) := by
  rw [← Bool.not_eq_true, instHere_iff]

/-! ### What each request does, on the state that names its requester -/

section
variable (b : State) (q : Sender) (tag : Byte) (n : BitVec 16)

/-- What INST_CREATE does (R279, R280). -/
def createAnswer (addr : Dword) (block : HostRead) (kind : Fin 4) : State :=
  if fromPf0 q = false ∨ hostMode b = 0 then createRefuse b q (hostWord 0x80 n tag) n.toNat 1
  else if 1024 < n.toNat then createRefuse b q (hostWord 0x80 n tag) n.toNat 6
  else match block with
    | none => readFailed b q (hostWord 0x80 n tag) addr.toNat kind.val
    | some x =>
      if vinState b n.toNat = 5 then
        if (b.inst n.toNat).create.isSome then createRefuse b q (hostWord 0x80 n tag) n.toNat 3
        else (b.setInst n.toNat { b.inst n.toNat with create := some (some q, hostWord 0x80 n tag, takePad 128 x) }).answer q
          (hostWord 0x80 n tag) 7 [] false
      else tryCreate b (some q) (hostWord 0x80 n tag) n.toNat (takePad 128 x)

/-- What INST_DESTROY does (R279). -/
def destroyAnswer : State :=
  if fromPf0 q = false then b.answer q (hostWord 0x81 n tag) 1 [] true
  else if n = 0 ∨ instHere b n.toNat = false then b.answer q (hostWord 0x81 n tag) 3 [] true
  else instDestroy (b.answer q (hostWord 0x81 n tag) 7 [] false) n.toNat 2 (some (q, hostWord 0x81 n tag))

/-- What INST_RESET does (R284). -/
def resetAnswer : State :=
  if fromPf0 q = false then b.answer q (hostWord 0x82 n tag) 1 [] true
  else if instHere b n.toNat = false ∨ vinState b n.toNat = 5 then b.answer q (hostWord 0x82 n tag) 3 [] true
  else instReset (b.answer q (hostWord 0x82 n tag) 7 [] false) n.toNat 2 (some (q, hostWord 0x82 n tag))

/-- The state with Instance k quiescing for the requester. -/
def quiescing (b : State) (q : Sender) (w0 k : Nat) : State :=
  let t := (setVinState b k 3).answer q w0 7 [] false
  t.setInst k { t.inst k with quiescers := (t.inst k).quiescers ++ [(q, w0)] }

/-- What INST_QUIESCE does (R286). -/
def quiesceAnswer : State :=
  if fromPf0 q = false then b.answer q (hostWord 0x83 n tag) 1 [] true
  else if 1024 < n.toNat ∨ vinState b n.toNat ≠ 2 then b.answer q (hostWord 0x83 n tag) 3 [] true
  else if slotsUsed b n.toNat = 0 then (setVinState b n.toNat 3).answer q (hostWord 0x83 n tag) 0 [] true
  else quiescing b q (hostWord 0x83 n tag) n.toNat

/-- What INST_RESUME does (R286). -/
def resumeAnswer : State :=
  if fromPf0 q = false then b.answer q (hostWord 0x84 n tag) 1 [] true
  else if 1024 < n.toNat ∨ vinState b n.toNat ≠ 3 then b.answer q (hostWord 0x84 n tag) 3 [] true
  else (setVinState b n.toNat 2).answer q (hostWord 0x84 n tag) 0 [] true

/-- What INST_QUERY does (R290). -/
def queryAnswer : State :=
  if fromPf0 q = false ∧ q ≠ .agent 0 then b.answer q (hostWord 0x85 n tag) 1 [] true
  else if 1024 < n.toNat then b.answer q (hostWord 0x85 n tag) 6 [] true
  else b.answer q (hostWord 0x85 n tag) 0 (instQuery b n.toNat) true

/-- The state with dirty logging started for Instance k. -/
def dirtyStarted (b : State) (q : Sender) (w0 k base depth : Nat) : State :=
  let t := (b.wr64 (Reg.VIN_DIRTY_BASE_LO k) (Reg.VIN_DIRTY_BASE_HI k) base).wr (Reg.VIN_DIRTY_IDX k) 0
  let t := (setWindows t (freeWindows (b.wr64 (Reg.VIN_DIRTY_BASE_LO k) (Reg.VIN_DIRTY_BASE_HI k) base) - 1)).answer q w0 0 [] true
  t.setInst k { t.inst k with dirty := some { depth := depth } }

/-- What DIRTY_START does (R291, R292). -/
def dirtyStartAnswer (base : Dword) (depth : Byte) : State :=
  if dirtyStartStatus b q n.toNat base.toNat depth.toNat ≠ 0 then
    b.answer q (hostWord 0x86 n tag) (dirtyStartStatus b q n.toNat base.toNat depth.toNat) [] true
  else dirtyStarted b q (hostWord 0x86 n tag) n.toNat base.toNat depth.toNat

/-- The state with the dirty logging of Instance k stopping for the requester. -/
def dirtyStopping (b : State) (q : Sender) (w0 k : Nat) : State :=
  let t := b.setInst k { b.inst k with stoppers := (b.inst k).stoppers ++ [(q, w0)], stopping := true }
  if (t.inst k).blocked.isEmpty then dirtyEnd t k else t.answer q w0 7 [] false

/-- What DIRTY_STOP does (R292). -/
def dirtyStopAnswer : State :=
  if fromPf0 q = false then b.answer q (hostWord 0x87 n tag) 1 [] true
  else if instHere b n.toNat = false ∨ (b.inst n.toNat).dirty.isNone = true then b.answer q (hostWord 0x87 n tag) 3 [] true
  else dirtyStopping b q (hostWord 0x87 n tag) n.toNat

/-- What POOL_QUERY does (R278). -/
def poolAnswer : State :=
  if fromPf0 q = false ∧ q ≠ .agent 0 then b.answer q (hostWord 0x88 0 tag) 1 [] true
  else b.answer q (hostWord 0x88 0 tag) 0 (takePad 52 (leBytes 4 (b.rd Reg.HST_POOL).toNat) ++
    leBytes 129 (maskOf 1025 (fun n => vinState b n != 0))) true

end

section
include hh

theorem instCreate_of (addr : Dword) (block : HostRead) (kind : Fin 4) :
    execInstCreate q tag n addr block kind s = served (createAnswer (behalf s q) q tag n addr block kind) :=
  request_unlogged hh _ (by decide) _

theorem instDestroy_of : execInstDestroy q tag n s = served (destroyAnswer (behalf s q) q tag n) :=
  request_unlogged hh _ (by decide) _

theorem instReset_of : execInstReset q tag n s = served (resetAnswer (behalf s q) q tag n) :=
  request_unlogged hh _ (by decide) _

theorem instQuiesce_of : execInstQuiesce q tag n s = served (quiesceAnswer (behalf s q) q tag n) :=
  request_unlogged hh _ (by decide) _

theorem instResume_of : execInstResume q tag n s = served (resumeAnswer (behalf s q) q tag n) :=
  request_unlogged hh _ (by decide) _

theorem instQuery_of : execInstQuery q tag n s = served (queryAnswer (behalf s q) q tag n) :=
  request_unlogged hh _ (by decide) _

theorem dirtyStart_of (base : Dword) (depth : Byte) :
    execDirtyStart q tag n base depth s = served (dirtyStartAnswer (behalf s q) q tag n base depth) :=
  request_unlogged hh _ (by decide) _

theorem dirtyStop_of : execDirtyStop q tag n s = served (dirtyStopAnswer (behalf s q) q tag n) :=
  request_unlogged hh _ (by decide) _

theorem poolQuery_of : execPoolQuery q tag s = served (poolAnswer (behalf s q) q tag) :=
  request_unlogged hh _ (by decide) _

end

/-! ### Requests from another sender -/

section
variable (b : State) (hq : q ≠ .inst 0)
include hq

theorem createAnswer_denied (addr : Dword) (block : HostRead) (kind : Fin 4) :
    createAnswer b q tag n addr block kind = createRefuse b q (hostWord 0x80 n tag) n.toNat 1 :=
  if_pos (.inl (fromPf0_eq_false hq))

theorem destroyAnswer_denied : destroyAnswer b q tag n = b.answer q (hostWord 0x81 n tag) 1 [] true := if_pos (fromPf0_eq_false hq)

theorem resetAnswer_denied : resetAnswer b q tag n = b.answer q (hostWord 0x82 n tag) 1 [] true := if_pos (fromPf0_eq_false hq)

theorem quiesceAnswer_denied : quiesceAnswer b q tag n = b.answer q (hostWord 0x83 n tag) 1 [] true := if_pos (fromPf0_eq_false hq)

theorem resumeAnswer_denied : resumeAnswer b q tag n = b.answer q (hostWord 0x84 n tag) 1 [] true := if_pos (fromPf0_eq_false hq)

theorem dirtyStartAnswer_denied (base : Dword) (depth : Byte) :
    dirtyStartAnswer b q tag n base depth = b.answer q (hostWord 0x86 n tag) 1 [] true := by
  have hst : dirtyStartStatus b q n.toNat base.toNat depth.toNat = 1 := if_pos (.inl (fromPf0_eq_false hq))
  rw [dirtyStartAnswer, hst, if_pos (by decide)]

theorem dirtyStopAnswer_denied : dirtyStopAnswer b q tag n = b.answer q (hostWord 0x87 n tag) 1 [] true := if_pos (fromPf0_eq_false hq)

theorem queryAnswer_denied (ha : q ≠ .agent 0) : queryAnswer b q tag n = b.answer q (hostWord 0x85 n tag) 1 [] true :=
  if_pos ⟨fromPf0_eq_false hq, ha⟩

theorem poolAnswer_denied (ha : q ≠ .agent 0) : poolAnswer b q tag = b.answer q (hostWord 0x88 0 tag) 1 [] true :=
  if_pos ⟨fromPf0_eq_false hq, ha⟩

end

/-! ### Queries (R278, R290) -/

theorem mayQuery (hq : q = .inst 0 ∨ q = .agent 0) : ¬ (fromPf0 q = false ∧ q ≠ .agent 0) := by
  rintro ⟨hf, ha⟩
  obtain h | h := hq
  · rw [fromPf0_iff.2 h] at hf
    exact absurd hf (by decide)
  · exact ha h

theorem queryAnswer_eq (b : State) (hq : q = .inst 0 ∨ q = .agent 0) : queryAnswer b q tag n =
    if 1024 < n.toNat then b.answer q (hostWord 0x85 n tag) 6 [] true
    else b.answer q (hostWord 0x85 n tag) 0 (instQuery b n.toNat) true := if_neg (mayQuery hq)

theorem poolAnswer_eq (b : State) (hq : q = .inst 0 ∨ q = .agent 0) : poolAnswer b q tag =
    b.answer q (hostWord 0x88 0 tag) 0 (takePad 52 (leBytes 4 (b.rd Reg.HST_POOL).toNat) ++
      leBytes 129 (maskOf 1025 (fun n => vinState b n != 0))) true := if_neg (mayQuery hq)

/-! ### PF0's requests -/

section
variable (b : State) (hq : q = .inst 0)
include hq

theorem pf0_asks : ¬ fromPf0 q = false := by rw [fromPf0_iff.2 hq]; decide

section
variable (hm : hostMode b ≠ 0)
include hm

theorem createAnswer_mediated (addr : Dword) (block : HostRead) (kind : Fin 4) : createAnswer b q tag n addr block kind =
    if 1024 < n.toNat then createRefuse b q (hostWord 0x80 n tag) n.toNat 6
    else match block with
      | none => readFailed b q (hostWord 0x80 n tag) addr.toNat kind.val
      | some x =>
        if vinState b n.toNat = 5 then
          if (b.inst n.toNat).create.isSome then createRefuse b q (hostWord 0x80 n tag) n.toNat 3
          else (b.setInst n.toNat { b.inst n.toNat with create := some (some q, hostWord 0x80 n tag, takePad 128 x) }).answer q
            (hostWord 0x80 n tag) 7 [] false
        else tryCreate b (some q) (hostWord 0x80 n tag) n.toNat (takePad 128 x) :=
  if_neg (not_or.2 ⟨pf0_asks hq, hm⟩)

variable (hk : n.toNat ≤ 1024)
include hk

theorem createAnswer_unread (addr : Dword) (kind : Fin 4) :
    createAnswer b q tag n addr none kind = readFailed b q (hostWord 0x80 n tag) addr.toNat kind.val :=
  (createAnswer_mediated b hq hm addr none kind).trans (if_neg (not_lt.2 hk))

theorem createAnswer_waits (addr : Dword) (kind : Fin 4) (x : List Byte) (h5 : vinState b n.toNat = 5) :
    createAnswer b q tag n addr (some x) kind =
      if (b.inst n.toNat).create.isSome then createRefuse b q (hostWord 0x80 n tag) n.toNat 3
      else (b.setInst n.toNat { b.inst n.toNat with create := some (some q, hostWord 0x80 n tag, takePad 128 x) }).answer q
        (hostWord 0x80 n tag) 7 [] false :=
  (createAnswer_mediated b hq hm addr (some x) kind).trans ((if_neg (not_lt.2 hk)).trans (if_pos h5))

theorem createAnswer_tries (addr : Dword) (kind : Fin 4) (x : List Byte) (h5 : vinState b n.toNat ≠ 5) :
    createAnswer b q tag n addr (some x) kind = tryCreate b (some q) (hostWord 0x80 n tag) n.toNat (takePad 128 x) :=
  (createAnswer_mediated b hq hm addr (some x) kind).trans ((if_neg (not_lt.2 hk)).trans (if_neg h5))

end

omit hq in
theorem createAnswer_unmediated (addr : Dword) (block : HostRead) (kind : Fin 4) (hm : hostMode b = 0) :
    createAnswer b q tag n addr block kind = createRefuse b q (hostWord 0x80 n tag) n.toNat 1 := if_pos (.inr hm)

theorem createAnswer_beyond (addr : Dword) (block : HostRead) (kind : Fin 4) (hm : hostMode b ≠ 0) (hk : 1024 < n.toNat) :
    createAnswer b q tag n addr block kind = createRefuse b q (hostWord 0x80 n tag) n.toNat 6 :=
  (createAnswer_mediated b hq hm addr block kind).trans (if_pos hk)

theorem destroyAnswer_none (h : n.toNat = 0 ∨ ¬ (n.toNat ≤ 1024 ∧ vinState b n.toNat ≠ 0)) :
    destroyAnswer b q tag n = b.answer q (hostWord 0x81 n tag) 3 [] true := by
  refine (if_neg (pf0_asks hq)).trans (if_pos (h.imp (fun h0 => ?_) instHere_eq_false_iff.2))
  exact BitVec.eq_of_toNat_eq h0

theorem destroyAnswer_here (h0 : n.toNat ≠ 0) (h : n.toNat ≤ 1024 ∧ vinState b n.toNat ≠ 0) : destroyAnswer b q tag n =
    instDestroy (b.answer q (hostWord 0x81 n tag) 7 [] false) n.toNat 2 (some (q, hostWord 0x81 n tag)) := by
  refine (if_neg (pf0_asks hq)).trans (if_neg (not_or.2 ⟨fun hn => h0 ?_, fun hf => instHere_eq_false_iff.1 hf h⟩))
  rw [hn]
  rfl

theorem resetAnswer_none (h : ¬ (n.toNat ≤ 1024 ∧ vinState b n.toNat ≠ 0) ∨ vinState b n.toNat = 5) :
    resetAnswer b q tag n = b.answer q (hostWord 0x82 n tag) 3 [] true :=
  (if_neg (pf0_asks hq)).trans (if_pos (h.imp_left instHere_eq_false_iff.2))

theorem resetAnswer_here (h : n.toNat ≤ 1024 ∧ vinState b n.toNat ≠ 0) (h5 : vinState b n.toNat ≠ 5) : resetAnswer b q tag n =
    instReset (b.answer q (hostWord 0x82 n tag) 7 [] false) n.toNat 2 (some (q, hostWord 0x82 n tag)) :=
  (if_neg (pf0_asks hq)).trans (if_neg (not_or.2 ⟨fun hf => instHere_eq_false_iff.1 hf h, h5⟩))

theorem quiesceAnswer_none (h : 1024 < n.toNat ∨ vinState b n.toNat ≠ 2) :
    quiesceAnswer b q tag n = b.answer q (hostWord 0x83 n tag) 3 [] true := (if_neg (pf0_asks hq)).trans (if_pos h)

theorem quiesceAnswer_active (hk : n.toNat ≤ 1024) (h2 : vinState b n.toNat = 2) : quiesceAnswer b q tag n =
    if slotsUsed b n.toNat = 0 then (setVinState b n.toNat 3).answer q (hostWord 0x83 n tag) 0 [] true
    else quiescing b q (hostWord 0x83 n tag) n.toNat :=
  (if_neg (pf0_asks hq)).trans (if_neg (not_or.2 ⟨not_lt.2 hk, not_not.2 h2⟩))

theorem resumeAnswer_none (h : 1024 < n.toNat ∨ vinState b n.toNat ≠ 3) :
    resumeAnswer b q tag n = b.answer q (hostWord 0x84 n tag) 3 [] true := (if_neg (pf0_asks hq)).trans (if_pos h)

theorem resumeAnswer_quiesced (hk : n.toNat ≤ 1024) (h3 : vinState b n.toNat = 3) : resumeAnswer b q tag n =
    (setVinState b n.toNat 2).answer q (hostWord 0x84 n tag) 0 [] true :=
  (if_neg (pf0_asks hq)).trans (if_neg (not_or.2 ⟨not_lt.2 hk, not_not.2 h3⟩))

theorem dirtyStartStatus_pf0 (k base depth : Nat) : dirtyStartStatus b q k base depth =
    if hasFeature b 0 6 = false then 1 else if freeWindows b = 0 then 2
    else if ¬ (k ≤ 1024 ∧ vinState b k ≠ 0) ∨ (b.inst k).dirty.isSome = true then 3
    else if depth < 8 ∨ 16 < depth ∨ base % 4096 ≠ 0 then 6 else 0 := by
  simp only [dirtyStartStatus, eq_false (pf0_asks hq), false_or, instHere_eq_false_iff]

theorem dirtyStopAnswer_none (h : ¬ (n.toNat ≤ 1024 ∧ vinState b n.toNat ≠ 0) ∨ (b.inst n.toNat).dirty = none) :
    dirtyStopAnswer b q tag n = b.answer q (hostWord 0x87 n tag) 3 [] true :=
  (if_neg (pf0_asks hq)).trans (if_pos (h.imp instHere_eq_false_iff.2 Option.isNone_iff_eq_none.2))

theorem dirtyStopAnswer_logs (h : n.toNat ≤ 1024 ∧ vinState b n.toNat ≠ 0) (hd : (b.inst n.toNat).dirty.isSome = true) :
    dirtyStopAnswer b q tag n = dirtyStopping b q (hostWord 0x87 n tag) n.toNat := by
  refine (if_neg (pf0_asks hq)).trans (if_neg (not_or.2 ⟨fun hf => instHere_eq_false_iff.1 hf h, ?_⟩))
  rw [Option.isNone_iff_eq_none]
  exact Option.isSome_iff_ne_none.1 hd

end

end

/-- Settles O52: each request of the pool is answered, and done, as its sender and its Instance call for. -/
theorem instanceRequests : Obligations.InstanceRequests := by
  intro s q tag hh
  refine ⟨fun n => ⟨fun hq addr block kd base depth => ⟨?_, ?_, ?_, ?_, ?_, ?_, ?_⟩, fun hq ha => ?_, fun hq => ?_, fun hq =>
    ⟨fun addr block kd hm => ?_, fun addr block kd hm hk => ?_, fun addr kd hm hk => ?_,
      fun addr kd bytes hm hk h5 => ⟨fun hc => ?_, fun hc => ?_⟩, fun addr kd bytes hm hk h5 => ?_,
      fun h => ?_, fun h0 h => ?_, fun h => ?_, fun h h5 => ?_, fun h => ?_, fun hk h2 hu => ?_, fun hk h2 hu => ?_, fun h => ?_,
      fun hk h3 => ?_, fun base depth => ⟨fun hno => ?_, fun hno => ?_⟩, fun h => ?_, fun h hd => ?_⟩⟩,
    fun hq ha => ?_, fun hq => ?_⟩
  · exact (instCreate_of hh addr block kd).trans (congrArg served (createAnswer_denied _ hq addr block kd))
  · exact (instDestroy_of hh).trans (congrArg served (destroyAnswer_denied _ hq))
  · exact (instReset_of hh).trans (congrArg served (resetAnswer_denied _ hq))
  · exact (instQuiesce_of hh).trans (congrArg served (quiesceAnswer_denied _ hq))
  · exact (instResume_of hh).trans (congrArg served (resumeAnswer_denied _ hq))
  · exact (dirtyStart_of hh base depth).trans (congrArg served (dirtyStartAnswer_denied _ hq base depth))
  · exact (dirtyStop_of hh).trans (congrArg served (dirtyStopAnswer_denied _ hq))
  · exact (instQuery_of hh).trans (congrArg served (queryAnswer_denied _ hq ha))
  · exact (instQuery_of hh).trans ((congrArg served (queryAnswer_eq _ hq)).trans (apply_ite served _ _ _))
  · exact (instCreate_of hh addr block kd).trans (congrArg served (createAnswer_unmediated _ addr block kd hm))
  · exact (instCreate_of hh addr block kd).trans (congrArg served (createAnswer_beyond _ hq addr block kd hm hk))
  · exact (instCreate_of hh addr none kd).trans (congrArg served (createAnswer_unread _ hq hm hk addr kd))
  · exact (instCreate_of hh addr (some bytes) kd).trans (congrArg served ((createAnswer_waits _ hq hm hk addr kd bytes h5).trans (if_pos hc)))
  · refine (instCreate_of hh addr (some bytes) kd).trans (congrArg served ((createAnswer_waits _ hq hm hk addr kd bytes h5).trans
      (if_neg ?_)))
    rw [hc]
    decide
  · refine (instCreate_of hh addr (some bytes) kd).trans ((congrArg served (createAnswer_tries _ hq hm hk addr kd bytes h5)).trans ?_)
    have hfault : createFault (behalf s q) n.toNat (takePad 128 bytes) = _ := if_neg hm
    rw [tryCreate, ← hfault]
    cases createFault (behalf s q) n.toNat (takePad 128 bytes) with
    | none => rfl
    | some xf =>
      obtain ⟨x, f⟩ := xf
      rfl
  · exact (instDestroy_of hh).trans (congrArg served (destroyAnswer_none _ hq h))
  · exact (instDestroy_of hh).trans (congrArg served (destroyAnswer_here _ hq h0 h))
  · exact (instReset_of hh).trans (congrArg served (resetAnswer_none _ hq h))
  · exact (instReset_of hh).trans (congrArg served (resetAnswer_here _ hq h h5))
  · exact (instQuiesce_of hh).trans (congrArg served (quiesceAnswer_none _ hq h))
  · exact (instQuiesce_of hh).trans (congrArg served ((quiesceAnswer_active _ hq hk h2).trans (if_pos hu)))
  · exact (instQuiesce_of hh).trans (congrArg served ((quiesceAnswer_active _ hq hk h2).trans (if_neg hu)))
  · exact (instResume_of hh).trans (congrArg served (resumeAnswer_none _ hq h))
  · exact (instResume_of hh).trans (congrArg served (resumeAnswer_quiesced _ hq hk h3))
  · refine (dirtyStart_of hh base depth).trans (congrArg served ?_)
    rw [dirtyStartAnswer, dirtyStartStatus_pf0 _ hq]
    exact if_pos hno
  · refine (dirtyStart_of hh base depth).trans (congrArg served ?_)
    rw [dirtyStartAnswer, dirtyStartStatus_pf0 _ hq]
    exact if_neg (not_not.2 hno)
  · exact (dirtyStop_of hh).trans (congrArg served (dirtyStopAnswer_none _ hq h))
  · exact (dirtyStop_of hh).trans (congrArg served (dirtyStopAnswer_logs _ hq h hd))
  · exact (poolQuery_of hh).trans (congrArg served (poolAnswer_denied _ hq ha))
  · exact (poolQuery_of hh).trans (congrArg served (poolAnswer_eq _ hq))

end Sys2Proof.Machine
end

section
/-! O53: MCTP control messages and packets, and the answers of downstream peers. -/

namespace Sys2Proof.Machine

section
variable {s : State} (hp : s.pwr.down = false)

/-! ### Control messages (R296) -/

section
variable (t : Fin 6) (hd : domState s 1 = 0) (hl : 2 ≤ t.val ∨ s.bit Reg.HST_LINK 9 = true)
include hp hd hl

theorem attRow_of (f : State → State) : attRow t s f = settled (f s) := by
  rw [attRow, actSettle_of hp, if_pos ⟨hd, hl⟩]

theorem mctpControl_of (src cmd : Nat) (data : State → List Byte) :
    mctpControl t src cmd s data = settled (if t.val = 0 then s else mctpAnswer s t.val src cmd (data s)) := by
  rw [mctpControl, attRow_of hp t hd hl]
  exact congrArg settled (if_congr Fin.ext_iff rfl rfl)

theorem setEndpointId_of (src eid : Byte) : execSetEndpointId t src eid s = settled (setEid s t.val src.toNat eid.toNat) :=
  attRow_of hp t hd hl _

theorem getEndpointId_of (src : Byte) : execGetEndpointId t src s = settled (if t.val = 0 then s
    else mctpAnswer s t.val src.toNat 2 (leBytes 1 0 ++ leBytes 1 (eidOf s t.val) ++ [0, 0])) :=
  mctpControl_of hp t hd hl _ _ _

theorem getMctpVersionSupport_of (src ty : Byte) : execGetMctpVersionSupport t src ty s = settled (if t.val = 0 then s
    else mctpAnswer s t.val src.toNat 4 (if ty.toNat ∈ [0xFF, 0, 5, 6] then [0, 1, 0xF1, 0xF3, 0xF1, 0] else [0x80, 0])) := by
  refine (mctpControl_of hp t hd hl _ _ _).trans (congrArg settled (if_congr Iff.rfl rfl ?_))
  exact congrArg (mctpAnswer s t.val src.toNat 4) (if_congr List.contains_iff_mem rfl rfl)

theorem getMessageTypeSupport_of (src : Byte) : execGetMessageTypeSupport t src s = settled (if t.val = 0 then s
    else mctpAnswer s t.val src.toNat 5 [0, 2, 5, 6]) :=
  mctpControl_of hp t hd hl _ _ _

theorem mctpPacket_of (src : Byte) (tag : BitVec 3) (seq : BitVec 2) (sof eof : Bool) (bytes : List Byte) :
    execMctpPacket t src tag seq sof eof bytes s = settled (mctpPacket s t.val src.toNat tag.toNat seq.toNat sof eof bytes) :=
  attRow_of hp t hd hl _

end

/-! ### Packets (R296) -/

/-- The assembly is that of requester e on transport t. -/
def assemblyOf (t e : Nat) (x : Assembly) : Bool := x.transport == t && x.eid == e

/-- The state without the assembly of requester e on transport t. -/
def asmCleared (s : State) (t e : Nat) : State :=
  { s with att := { s.att with asm := s.att.asm.filter (fun x => !assemblyOf t e x) } }

/-- The state in which a first packet of k bytes finds requester e of transport t. -/
def asmFresh (s : State) (t e k : Nat) : State :=
  if (s.att.asm.find? (assemblyOf t e)).isSome then attDrop (asmCleared s t e) t e 1 k false else asmCleared s t e

section
variable {t src tag seq : Nat} {eof : Bool} {bytes : List Byte}

variable (ht : t ≠ 0)
include ht

theorem mctpPacket_single : mctpPacket s t src tag seq true true bytes = asmFresh s t src bytes.length :=
  (if_neg ht).trans ((if_pos rfl).trans (if_pos rfl))

theorem mctpPacket_first : mctpPacket s t src tag seq true false bytes =
    let v := asmFresh s t src bytes.length
    if 4 ≤ (v.att.asm.filter (fun x => x.transport == t)).length then attDrop v t src 1 bytes.length false
    else { v with att := { v.att with asm := v.att.asm ++ [⟨t, src, tag, (seq + 1) % 4, bytes⟩] } } :=
  (if_neg ht).trans ((if_pos rfl).trans (if_neg Bool.false_ne_true))

theorem mctpPacket_stray (hc : s.att.asm.find? (assemblyOf t src) = none) :
    mctpPacket s t src tag seq false eof bytes = attDrop s t src 1 bytes.length false := by
  refine (if_neg ht).trans ((if_neg Bool.false_ne_true).trans ?_)
  change (match s.att.asm.find? (assemblyOf t src) with | none => _ | some x => _) = _
  rw [hc]

theorem mctpPacket_later {x : Assembly} (hc : s.att.asm.find? (assemblyOf t src) = some x) :
    mctpPacket s t src tag seq false eof bytes =
      if x.tag ≠ tag ∨ x.seq ≠ seq then attDrop (asmCleared s t src) t src 1 (x.bytes.length + bytes.length) false
      else if 8192 < x.bytes.length + bytes.length then attDrop (asmCleared s t src) t src 2 (x.bytes.length + bytes.length) true
      else if eof then asmCleared s t src
      else { s with att := { s.att with asm := s.att.asm.map (fun y =>
        if assemblyOf t src y then { y with seq := (seq + 1) % 4, bytes := y.bytes ++ bytes } else y) } } := by
  refine (if_neg ht).trans ((if_neg Bool.false_ne_true).trans ?_)
  change (match s.att.asm.find? (assemblyOf t src) with | none => _ | some x => _) = _
  rw [hc]
  rfl

end

/-! ### Downstream peers (R312) -/

/-- The state with one more repetition of peer D's step counted. -/
def peerRetried (s : State) (D : Nat) : State :=
  let up (x : Refresh) : Refresh := if x.peer = D then { x with retries := x.retries + 1 } else x
  { s with att := { s.att with refresh := s.att.refresh.map up } }

section
variable (d : Fin 16)

include hp in
theorem downstreamResponseTimeout_of : execDownstreamResponseTimeout d s = settled (match refreshOf s d.val with
    | none => s
    | some r =>
      if domState s 1 ≠ 0 then s
      else if r.retries < 2 then dsSend (peerRetried s d.val) d.val r.step
      else peerFails s d.val r.step 0) :=
  actSettle_of hp _

include hp in
theorem downstreamResponse_of (msg : List Byte) : execDownstreamResponse d msg s = settled (
    match refreshOf s d.val, dsEntry s d.val with
    | some r, some en => if domState s 1 = 0 then peerAnswer s d.val r en msg else s
    | _, _ => s) :=
  actSettle_of hp _

section
variable (h : domState s 1 ≠ 0 ∨ refreshOf s d.val = none)
include hp h

theorem downstreamResponseTimeout_idle : execDownstreamResponseTimeout d s = settled s := by
  rw [downstreamResponseTimeout_of hp d]
  refine congrArg settled ?_
  split
  · rfl
  next r hr => exact if_pos (h.resolve_right (by rw [hr]; nofun))

theorem downstreamResponse_idle (msg : List Byte) : execDownstreamResponse d msg s = settled s := by
  rw [downstreamResponse_of hp d]
  refine congrArg settled ?_
  split
  next r en hr he => exact if_neg (h.resolve_right (by rw [hr]; nofun))
  · rfl

end

section
variable {r : Refresh} (hd : domState s 1 = 0) (hr : refreshOf s d.val = some r)
include hp hd hr

theorem downstreamResponseTimeout_open : execDownstreamResponseTimeout d s = settled (
    if r.retries < 2 then dsSend (peerRetried s d.val) d.val r.step else peerFails s d.val r.step 0) := by
  rw [downstreamResponseTimeout_of hp d, hr]
  exact congrArg settled (if_neg (not_not.2 hd))

theorem downstreamResponse_open {en : List Byte} (he : dsEntry s d.val = some en) (msg : List Byte) :
    execDownstreamResponse d msg s = settled (peerAnswer s d.val r en msg) := by
  rw [downstreamResponse_of hp d, hr, he]
  exact congrArg settled (if_pos hd)

end

section
variable {D : Nat} {r : Refresh} {en msg : List Byte}

theorem peerAnswer_error (hc : leAt msg 1 1 = 0x7F) : peerAnswer s D r en msg = peerFails s D r.step (leAt msg 2 1) := if_pos hc

variable (hc : leAt msg 1 1 ≠ 0x7F)
include hc

theorem peerAnswer_algorithms (h1 : r.step = 1) : peerAnswer s D r en msg =
    if leAt msg 1 1 = 0x63 ∧ bitOf (leAt msg 12 4) 7 = true ∧ bitOf (leAt msg 16 4) 1 = true then peerStep s D 2 [] msg
    else peerFails s D 1 0 := (if_neg hc).trans (if_pos h1)

theorem peerAnswer_chain (h2 : r.step = 2) : peerAnswer s D r en msg =
    if leAt msg 1 1 = 0x02 ∧ (msg.drop 12).take 48 = (en.drop 16).take 48 then peerStep s D 3 (msg.drop 8) r.vca
    else peerFails s D 2 0 := (if_neg hc).trans ((if_neg (by rw [h2]; decide)).trans (if_pos h2))

theorem peerAnswer_measurements (h1 : r.step ≠ 1) (h2 : r.step ≠ 2) : peerAnswer s D r en msg =
    let dig := spdmDigest 0x12 "responder-measurements signing" (r.vca ++ [0x12, 0xE0] ++ r.req ++ msg.take (msg.length - 96))
    if leAt msg 1 1 ≠ 0x60 ∨ msg.length < 96 then peerFails s D 3 0
    else if (Config.peerKey r.chain).any (fun k => verifySig 1 k dig (msg.drop (msg.length - 96))) then refreshOk s D msg
    else peerFails s D 4 0 := by
  refine (if_neg hc).trans ((if_neg h1).trans ((if_neg h2).trans (if_congr Iff.rfl rfl ?_)))
  cases Config.peerKey r.chain with
  | none => rfl
  | some k => rfl

end

end

end

/-- Settles O53: control messages, packets and the answers of peers do what the state of the transport and of the refresh
calls for. -/
theorem mctpAndPeers : Obligations.MctpAndPeers := by
  intro s hp
  refine ⟨fun t src hd hl => ⟨fun eid => setEndpointId_of hp t hd hl src eid, getEndpointId_of hp t hd hl src,
    fun ty => getMctpVersionSupport_of hp t hd hl src ty, getMessageTypeSupport_of hp t hd hl src, fun tag seq sof eof bytes => ?_⟩,
    fun d h => ⟨downstreamResponseTimeout_idle hp d h, downstreamResponse_idle hp d h⟩,
    fun d r hd hr => ⟨downstreamResponseTimeout_open hp d hd hr, fun en msg he => ?_⟩⟩
  · have run := mctpPacket_of hp t hd hl src tag seq sof eof bytes
    refine ⟨fun h0 => ?_, fun h0 hs he => ?_, fun h0 hs he => ?_, fun h0 hs hc => ?_, fun x h0 hs hc =>
      ⟨fun hn => ?_, fun ⟨htag, hseq⟩ hlen => ?_, fun ⟨htag, hseq⟩ hlen he => ?_, fun ⟨htag, hseq⟩ hlen he => ?_⟩⟩
    · exact run.trans (congrArg settled (if_pos h0))
    · subst hs he
      exact run.trans (congrArg settled (mctpPacket_single h0))
    · subst hs he
      exact run.trans (congrArg settled (mctpPacket_first h0))
    · subst hs
      exact run.trans (congrArg settled (mctpPacket_stray h0 hc))
    · subst hs
      exact run.trans (congrArg settled ((mctpPacket_later h0 hc).trans (if_pos (not_and_or.1 hn))))
    · subst hs
      exact run.trans (congrArg settled ((mctpPacket_later h0 hc).trans ((if_neg (by simp [htag, hseq])).trans (if_pos hlen))))
    · subst hs
      exact run.trans (congrArg settled ((mctpPacket_later h0 hc).trans ((if_neg (by simp [htag, hseq])).trans
        ((if_neg (not_lt.2 hlen)).trans (if_pos he)))))
    · subst hs
      exact run.trans (congrArg settled ((mctpPacket_later h0 hc).trans ((if_neg (by simp [htag, hseq])).trans
        ((if_neg (not_lt.2 hlen)).trans (if_neg (by rw [he]; decide))))))
  · have run := downstreamResponse_open hp d hd hr he msg
    exact ⟨fun hc => run.trans (congrArg settled (peerAnswer_error hc)),
      fun hc h1 => run.trans (congrArg settled (peerAnswer_algorithms hc h1)),
      fun hc h2 => run.trans (congrArg settled (peerAnswer_chain hc h2)),
      fun hc h1 h2 => run.trans (congrArg settled (peerAnswer_measurements hc h1 h2))⟩

end Sys2Proof.Machine
end

section
/-! O54: the SPDM requests and the events of sessions. -/

namespace Sys2Proof.Machine

section
variable {s : State} {t : Fin 6} {e : Byte} {ses : Option Word} {msg : List Byte} {us : Word}

/-! ### A message's way to its answer (R296-R298) -/

/-- The command of the row is an SPDM request whose message has the row's length. -/
def SpdmRow (s : State) (t : Fin 6) (e : Byte) (ses : Option Word) (msg : List Byte) (r : Instr × Nat) : Prop :=
  ∃ f, exec r.1 s = attRow t s (fun s => spdm s t.val e.toNat (ses.map BitVec.toNat) msg r.2 f)

/-- The command of the row is an SPDM request that needs algorithms and the certificate chains. -/
def ChainedRow (s : State) (t : Fin 6) (e : Byte) (ses : Option Word) (msg : List Byte) (r : Instr × Nat) : Prop :=
  ∃ f : State → AttCtx → State, exec r.1 s = attRow t s (fun s => spdm s t.val e.toNat (ses.map BitVec.toNat) msg r.2 (fun s c =>
    needAlgs s t.val e.toNat (ses.map BitVec.toNat) c (fun s =>
      if identity s = false then attError s t.val e.toNat (ses.map BitVec.toNat) 0x05 0 else f s c)))

theorem ChainedRow.spdmRow {r : Instr × Nat} (h : ChainedRow s t e ses msg r) : SpdmRow s t e ses msg r :=
  let ⟨f, hf⟩ := h
  ⟨fun s c => needAlgs s t.val e.toNat (ses.map BitVec.toNat) c (fun s =>
    if identity s = false then attError s t.val e.toNat (ses.map BitVec.toNat) 0x05 0 else f s c), hf⟩

theorem getDigests_chained : ChainedRow s t e ses msg (.getDigests t e ses msg us, 4) := ⟨_, rfl⟩
theorem getCertificate_chained : ChainedRow s t e ses msg (.getCertificate t e ses msg us, 8) := ⟨_, rfl⟩
theorem challenge_chained : ChainedRow s t e ses msg (.challenge t e ses msg us, if leAt msg 0 1 = 0x13 then 44 else 36) := ⟨_, rfl⟩
theorem keyExchangeLen_eq (msg : List Byte) : keyExchangeLen msg = 138 + leAt msg 136 2 := by unfold keyExchangeLen; omega

/-- The state with a handshake opened for the point q and answered (R299, R301, R303). -/
def exchangeOpened (t e : Nat) (ses : Option Nat) (msg : List Byte) (us : Nat) (u : State) (c : AttCtx) (q : Nat × Nat) : State :=
  let ver := leAt msg 0 1
  let r := attRandom u 34
  let k := drawRandom r.2 48
  let b := u.att.sessions.any (fun x => !x.groupB)
  let d := leBytes 1 60 ++ [0] ++ r.1.take 2 ++ [0, 0] ++ r.1.drop 2 ++ (ecPublic k.1).drop 1 ++
    measSummary k.2 (min 2 (leAt msg 2 1)) ++ leBytes 2 0
  let hs := c.transcript ++ sha384 (chain u false) ++ msg ++ responseBytes msg 0x64 d
  let g := spdmSign k.2 ver "responder-key_exchange_rsp signing" hs
  let secret := hmac384 (List.replicate 48 0) (ecShared k.1 (some q))
  let th := sha384 (hs ++ g.1)
  let rsp := expandAs secret ver 48 "rsp hs data" th
  let mac := verifyData rsp ver (hs ++ g.1)
  let x : Session := { id := leAt msg 4 2 + leNat (r.1.take 2) * 65536, transport := t, eid := e, established := false, groupB := b, ver := ver, hs := hs ++ g.1 ++ mac }
  let v := syncAtt { g.2 with att := { g.2.att with sessions := g.2.att.sessions ++ [x] } }
  respond' (putSecrets (v.setSigKey 7 { ty := 4, session := true, mat := secret }) (if b then 12 else 8) ver
    (expandAs secret ver 48 "req hs data" th) rsp) t e ses 0xE4 0x64 (d ++ g.1 ++ mac) true us

/-- What KEY_EXCHANGE does once algorithms and chains are there (R299). -/
def exchangeAnswer (t e : Nat) (ses : Option Nat) (msg : List Byte) (us : Nat) (u : State) (c : AttCtx) : State :=
  if 2 ≤ u.att.sessions.length then attError u t e ses 0x0A 0
  else if u.att.sessions.any (fun x => !x.established) then attError u t e ses 0x03 0
  else if leAt msg 3 1 ≠ 0 then attError u t e ses 0x01 0
  else match ecDecode (4 :: (msg.drop 40).take 96) with
    | none => attError u t e ses 0x01 0
    | some q => exchangeOpened t e ses msg us u c q

theorem keyExchange_eq (s : State) (t e : Nat) (ses : Option Nat) (msg : List Byte) (us : Nat) : keyExchange s t e ses msg us =
    spdm s t e ses msg (keyExchangeLen msg) (fun s c => needAlgs s t e ses c (fun s =>
      if identity s = false then attError s t e ses 0x05 0 else exchangeAnswer t e ses msg us s c)) := by
  unfold keyExchange
  congr 1

theorem keyExchange_chained : ChainedRow s t e ses msg (.keyExchange t e ses msg us, 138 + leAt msg 136 2) := by
  rw [← keyExchangeLen_eq]
  have run : exec (.keyExchange t e ses msg us) s =
      attRow t s (fun s => keyExchange s t.val e.toNat (ses.map BitVec.toNat) msg us.toNat) := rfl
  refine ⟨exchangeAnswer t.val e.toNat (ses.map BitVec.toNat) msg us.toNat, run.trans ?_⟩
  exact congrArg (attRow t s) (funext fun s => keyExchange_eq s t.val e.toNat _ msg us.toNat)

theorem getCapabilities_row : SpdmRow s t e ses msg (.getCapabilities t e ses msg us, 20) := ⟨_, rfl⟩
theorem negotiateAlgorithms_row (ok : Bool) : SpdmRow s t e ses msg (.negotiateAlgorithms t e ses msg ok us, leAt msg 4 2) := ⟨_, rfl⟩
theorem finish_row : SpdmRow s t e ses msg (.finish t e ses msg us, 52) := ⟨_, rfl⟩
theorem heartbeat_row : SpdmRow s t e ses msg (.heartbeat t e ses msg us, 4) := ⟨_, rfl⟩
theorem endSession_row : SpdmRow s t e ses msg (.endSession t e ses msg us, 4) := ⟨_, rfl⟩

/-- The length that GET_MEASUREMENTS' fields imply. -/
def measurementsLen (msg : List Byte) : Nat := if bitOf (leAt msg 2 1) 0 = false then 4 else if leAt msg 0 1 = 0x13 then 45 else 37

theorem measurementsLen_eq (msg : List Byte) :
    (if bitOf (leAt msg 2 1) 0 = true then (if leAt msg 0 1 = 0x13 then 45 else 37) else 4) = measurementsLen msg := by
  rw [measurementsLen]
  cases bitOf (leAt msg 2 1) 0 <;> rfl

/-- The record of the measurements that GET_MEASUREMENTS names, with its nonce. -/
def measRecord (u : State) (msg : List Byte) : List Byte :=
  let blocks := measBlocks u (leAt msg 3 1)
  [0, 0] ++ leBytes 1 blocks.length ++ leBytes 3 blocks.flatten.length ++ blocks.flatten ++ (attRandom u 32).1 ++ leBytes 2 0 ++
    (if leAt msg 0 1 = 0x13 then takePad 8 (msg.drop 37) else [])

/-- The signature of the measurements' transcript. -/
def measSigned (u : State) (c : AttCtx) (msg : List Byte) : List Byte × State :=
  spdmSign (attRandom u 32).2 (leAt msg 0 1) "responder-measurements signing"
    (c.transcript ++ c.meas ++ msg ++ responseBytes msg 0x60 (measRecord u msg))

/-- What GET_MEASUREMENTS does in a context (R307). -/
def measAnswer (t e : Nat) (ses : Option Nat) (msg : List Byte) (us : Nat) (u : State) (c : AttCtx) : State :=
  if (measBlocks u (leAt msg 3 1)).isEmpty = true ∨ (bitOf (leAt msg 2 1) 0 = true ∧ leAt msg 36 1 % 16 ≠ 0) then attError u t e ses 0x01 0
  else if bitOf (leAt msg 2 1) 0 then
    needAlgs u t e ses c (fun _ => respond' (mapCtx (measSigned u c msg).2 t e (fun c => { c with meas := [] })) t e ses 0xE0 0x60
      (measRecord u msg ++ (measSigned u c msg).1) true us)
  else respondNoted noteMeas (attRandom u 32).2 t e ses msg 0x60 (measRecord u msg) us

theorem getMeasurements_eq (s : State) (t e : Nat) (ses : Option Nat) (msg : List Byte) (us : Nat) :
    getMeasurements s t e ses msg us = spdm s t e ses msg (measurementsLen msg) (measAnswer t e ses msg us) := by
  rw [← measurementsLen_eq]
  unfold getMeasurements
  refine congrArg (spdm s t e ses msg _) (funext fun u => funext fun c => ?_)
  unfold measAnswer needAlgs
  cases hb : bitOf (leAt msg 2 1) 0
  · rfl
  · rfl

theorem getMeasurements_row : SpdmRow s t e ses msg (.getMeasurements t e ses msg us, measurementsLen msg) := by
  have run : exec (.getMeasurements t e ses msg us) s =
      attRow t s (fun s => getMeasurements s t.val e.toNat (ses.map BitVec.toNat) msg us.toNat) := rfl
  refine ⟨measAnswer t.val e.toNat (ses.map BitVec.toNat) msg us.toNat, run.trans ?_⟩
  exact congrArg (attRow t s) (funext fun s => getMeasurements_eq s t.val e.toNat _ msg us.toNat)

end

end Sys2Proof.Machine
end

section
/-! O54: the answers to the SPDM requests. -/

namespace Sys2Proof.Machine

section
variable {s : State} {t : Fin 6} {e : Byte} {ses : Option Word} {msg : List Byte} {us : Word}

/-! ### What reaches a request's answer (R296-R298) -/

/-- SPDM is answered on transport t. -/
def Answering (s : State) (t : Fin 6) : Prop :=
  domState s 1 = 0 ∧ (2 ≤ t.val ∨ s.bit Reg.HST_LINK 9 = true) ∧ transportUp s t.val = true

section
variable {T E want : Nat} {S : Option Nat} {f : State → AttCtx → State}

theorem spdm_down (h : transportUp s T = false) : spdm s T E S msg want f = s := if_pos h

variable (hup : transportUp s T = true)
include hup

theorem spdm_short (h : msg.length < 4) : spdm s T E S msg want f = attDrop (s.inc Reg.ATT_CNT_RX) T E 7 msg.length false :=
  (if_neg (by rw [hup]; decide)).trans (if_pos h)

variable (h4 : 4 ≤ msg.length)
include h4

theorem spdm_wrongLength (h : msg.length ≠ want) :
    spdm s T E S msg want f = attDrop (s.inc Reg.ATT_CNT_RX) T E 4 msg.length true S :=
  (if_neg (by rw [hup]; decide)).trans ((if_neg (not_lt.2 h4)).trans (if_pos h))

variable (hn : msg.length = want)
include hn

theorem spdm_sessionless (h : S.any (fun i => (sessionOf s i).isNone) = true) :
    spdm s T E S msg want f = attDrop (s.inc Reg.ATT_CNT_RX) T E 6 msg.length false :=
  (if_neg (by rw [hup]; decide)).trans ((if_neg (not_lt.2 h4)).trans ((if_neg (not_not.2 hn)).trans (if_pos h)))

variable (hs : S.any (fun i => (sessionOf s i).isNone) = false)
include hs

theorem spdm_arrives : spdm s T E S msg want f = match ctxOf s T E with
    | none => attError (s.inc Reg.ATT_CNT_RX) T E S 0x04 0
    | some c => f (touchCtx (s.inc Reg.ATT_CNT_RX) T E) c := by
  have hs' : ¬ S.any (fun i => (sessionOf (s.inc Reg.ATT_CNT_RX) i).isNone) = true := by
    rw [show S.any (fun i => (sessionOf (s.inc Reg.ATT_CNT_RX) i).isNone) = S.any (fun i => (sessionOf s i).isNone) from rfl, hs]
    decide
  exact (if_neg (by rw [hup]; decide)).trans ((if_neg (not_lt.2 h4)).trans ((if_neg (not_not.2 hn)).trans (if_neg hs')))

theorem spdm_stranger (hc : ctxOf s T E = none) : spdm s T E S msg want f = attError (s.inc Reg.ATT_CNT_RX) T E S 0x04 0 := by
  rw [spdm_arrives hup h4 hn hs, hc]

theorem spdm_known {c : AttCtx} (hc : ctxOf s T E = some c) :
    spdm s T E S msg want f = f (touchCtx (s.inc Reg.ATT_CNT_RX) T E) c := by
  rw [spdm_arrives hup h4 hn hs, hc]

end

theorem attRow_silent (hp : s.pwr.down = false) (h : ¬ (domState s 1 = 0 ∧ (2 ≤ t.val ∨ s.bit Reg.HST_LINK 9 = true)))
    (f : State → State) : attRow t s f = settled s := by
  rw [attRow, actSettle_of hp, if_neg h]

theorem SpdmRow.silent {r : Instr × Nat} (h : SpdmRow s t e ses msg r) (hp : s.pwr.down = false) (hno : ¬ Answering s t) :
    exec r.1 s = settled s := by
  obtain ⟨f, hf⟩ := h
  rw [hf]
  by_cases hrow : domState s 1 = 0 ∧ (2 ≤ t.val ∨ s.bit Reg.HST_LINK 9 = true)
  · rw [attRow_of hp t hrow.1 hrow.2]
    exact congrArg settled (spdm_down (Bool.eq_false_iff.2 fun hup => hno ⟨hrow.1, hrow.2, hup⟩))
  · exact attRow_silent hp hrow _

theorem SpdmRow.drops {r : Instr × Nat} (h : SpdmRow s t e ses msg r) (hp : s.pwr.down = false) (ha : Answering s t) :
    (msg.length < 4 → exec r.1 s = settled (attDrop (s.inc Reg.ATT_CNT_RX) t.val e.toNat 7 msg.length false)) ∧
    (4 ≤ msg.length → msg.length ≠ r.2 →
      exec r.1 s = settled (attDrop (s.inc Reg.ATT_CNT_RX) t.val e.toNat 4 msg.length true (ses.map BitVec.toNat))) ∧
    (4 ≤ msg.length → msg.length = r.2 → (ses.map BitVec.toNat).any (fun i => (sessionOf s i).isNone) = true →
      exec r.1 s = settled (attDrop (s.inc Reg.ATT_CNT_RX) t.val e.toNat 6 msg.length false)) := by
  obtain ⟨f, hf⟩ := h
  obtain ⟨hd, hl, hup⟩ := ha
  rw [hf, attRow_of hp t hd hl]
  exact ⟨fun h => congrArg settled (spdm_short hup h), fun h4 h => congrArg settled (spdm_wrongLength hup h4 h),
    fun h4 hn h => congrArg settled (spdm_sessionless hup h4 hn h)⟩

section
variable (ha : Asked s t e ses)
include ha

theorem asked_session : (ses.map BitVec.toNat).any (fun i => (sessionOf s i).isNone) = false := by
  obtain ⟨-, -, -, -, hs⟩ := ha
  rw [Option.any_map]
  exact hs

theorem SpdmRow.stranger {r : Instr × Nat} (h : SpdmRow s t e ses msg r) (hn : msg.length = r.2) (h4 : 4 ≤ msg.length)
    (hc : ctxOf s t.val e.toNat = none) :
    exec r.1 s = settled (attError (s.inc Reg.ATT_CNT_RX) t.val e.toNat (ses.map BitVec.toNat) 0x04 0) := by
  obtain ⟨f, hf⟩ := h
  have hs := asked_session ha
  obtain ⟨hp, hd, hl, hup, -⟩ := ha
  rw [hf, attRow_of hp t hd hl]
  exact congrArg settled (spdm_stranger hup h4 hn hs hc)

variable {c : AttCtx} (hc : ctxOf s t.val e.toNat = some c)
include hc

/-- A request of its length in a context is answered on the state that has counted it. -/
theorem attRow_spdm {want : Nat} {f : State → AttCtx → State} (h4 : 4 ≤ msg.length) (hn : msg.length = want) :
    attRow t s (fun s => spdm s t.val e.toNat (ses.map BitVec.toNat) msg want f) = settled (f (noted s t e) c) := by
  have hs := asked_session ha
  obtain ⟨hp, hd, hl, hup, -⟩ := ha
  rw [attRow_of hp t hd hl]
  exact congrArg settled (spdm_known hup h4 hn hs hc)

omit ha hc in
theorem needAlgs_selected {u : State} {T E : Nat} {S : Option Nat} {f : State → State} (h : c.algs = some true) :
    needAlgs u T E S c f = f u := by
  rw [needAlgs, h]

omit ha hc in
theorem needAlgs_unselected {u : State} {T E : Nat} {S : Option Nat} {f : State → State} (h : c.algs = some false) :
    needAlgs u T E S c f = attError u T E S 0x07 0 := by
  rw [needAlgs, h]

omit ha hc in
theorem needAlgs_early {u : State} {T E : Nat} {S : Option Nat} {f : State → State} (h : c.algs = none) :
    needAlgs u T E S c f = attError u T E S 0x04 0 := by
  rw [needAlgs, h]

theorem ChainedRow.refuses {r : Instr × Nat} (h : ChainedRow s t e ses msg r) (hn : msg.length = r.2) (h4 : 4 ≤ msg.length) :
    (c.algs = none → exec r.1 s = settled (attError (noted s t e) t.val e.toNat (ses.map BitVec.toNat) 0x04 0)) ∧
    (c.algs = some false → exec r.1 s = settled (attError (noted s t e) t.val e.toNat (ses.map BitVec.toNat) 0x07 0)) ∧
    (c.algs = some true → identity (noted s t e) = false →
      exec r.1 s = settled (attError (noted s t e) t.val e.toNat (ses.map BitVec.toNat) 0x05 0)) := by
  obtain ⟨f, hf⟩ := h
  rw [hf, attRow_spdm ha hc h4 hn]
  exact ⟨fun h => congrArg settled (needAlgs_early h), fun h => congrArg settled (needAlgs_unselected h),
    fun h hi => congrArg settled ((needAlgs_selected h).trans (if_pos hi))⟩

/-! ### The answers (R299, R300, R304, R307) -/

/-- The state with CHALLENGE answered by its signed response (R300). -/
def challengeSigned (t e : Nat) (ses : Option Nat) (msg : List Byte) (us : Nat) (u : State) (c : AttCtx) : State :=
  let r := attRandom u 32
  let d := [0, 1] ++ (sha384 (chain u false)) ++ r.1 ++ measSummary u (min 2 (leAt msg 3 1)) ++ leBytes 2 0 ++ msg.drop 36
  let g := spdmSign r.2 (leAt msg 0 1) "responder-challenge_auth signing" (c.transcript ++ c.certs ++ msg ++ responseBytes msg 0x03 d)
  respond' (mapCtx g.2 t e (fun c => { c with certs := [] })) t e ses 0x83 0x03 (d ++ g.1) true us

theorem getCapabilities_of (hn : msg.length = 20) : execGetCapabilities t e ses msg us s = settled (
    if c.version = false then attError (noted s t e) t.val e.toNat (sesNat ses) 0x04 0
    else respondNoted noteVca (mapCtx (noted s t e) t.val e.toNat (fun c => { c with caps := true, dts := leAt msg 12 4 })) t.val
      e.toNat (sesNat ses) msg 0x61 ([0, 0, 0, 12, 0, 0] ++ leBytes 4 capFlags ++ leBytes 4 8192 ++ leBytes 4 8192) us.toNat) :=
  attRow_spdm ha hc (by omega) hn

theorem negotiateAlgorithms_of (ok : Bool) (h4 : 4 ≤ msg.length) (hn : msg.length = leAt msg 4 2) :
    execNegotiateAlgorithms t e ses msg ok us s = settled (
      let sel (x : Nat) : Nat := if ok then x else 0
      if c.caps = false then attError (noted s t e) t.val e.toNat (sesNat ses) 0x04 0
      else respondNoted noteVca (mapCtx (noted s t e) t.val e.toNat (fun c => { c with algs := some ok })) t.val e.toNat (sesNat ses) msg
        0x63 ([3, 0] ++ leBytes 2 48 ++ leBytes 1 1 ++ [0] ++ leBytes 4 (sel 2) ++ leBytes 4 (sel 0x80) ++ leBytes 4 (sel 2) ++
          List.replicate 16 0 ++ leBytes 2 2 ++ leBytes 2 (sel 0x10) ++ leBytes 2 3 ++ leBytes 2 (sel 2) ++ leBytes 2 5 ++
          leBytes 2 (sel 1)) us.toNat) :=
  attRow_spdm ha hc h4 hn

section
variable (hal : c.algs = some true) (hid : identity (noted s t e) = true)
include hal hid

theorem getDigests_of (hn : msg.length = 4) : execGetDigests t e ses msg us s = settled (
    respondNoted noteCerts (noted s t e) t.val e.toNat (sesNat ses) msg 0x01 ([0, 1] ++ sha384 (chain (noted s t e) false)) us.toNat) := by
  refine (attRow_spdm ha hc (by omega) hn).trans (congrArg settled ?_)
  exact (needAlgs_selected hal).trans (if_neg (by rw [hid]; decide))

theorem getCertificate_of (hn : msg.length = 8) : execGetCertificate t e ses msg us s = settled (
    let u := noted s t e
    let off := leAt msg 4 2
    let part := ((chain u false).drop off).take (min (leAt msg 6 2) (min 8184 (c.dts - 8)))
    if leAt msg 2 1 % 16 ≠ 0 ∨ (chain u false).length ≤ off then attError u t.val e.toNat (sesNat ses) 0x01 0
    else respondNoted noteCerts u t.val e.toNat (sesNat ses) msg 0x02
      ([0, 0] ++ leBytes 2 part.length ++ leBytes 2 ((chain u false).length - off - part.length) ++ part) us.toNat) := by
  refine (attRow_spdm ha hc (by omega) hn).trans (congrArg settled ?_)
  exact (needAlgs_selected hal).trans (if_neg (by rw [hid]; decide))

omit ha hc hal hid in
theorem challenge_eq (s : State) (t e : Nat) (ses : Option Nat) (msg : List Byte) (us : Nat) : challenge s t e ses msg us =
    spdm s t e ses msg (if leAt msg 0 1 = 0x13 then 44 else 36) (fun s c => needAlgs s t e ses c (fun s =>
      if identity s = false then attError s t e ses 0x05 0
      else if leAt msg 2 1 ≠ 0 then attError s t e ses 0x01 0 else challengeSigned t e ses msg us s c)) := by
  unfold challenge
  congr 1

theorem challenge_of (hn : msg.length = if leAt msg 0 1 = 0x13 then 44 else 36) : execChallenge t e ses msg us s = settled (
    if leAt msg 2 1 ≠ 0 then attError (noted s t e) t.val e.toNat (sesNat ses) 0x01 0
    else challengeSigned t.val e.toNat (sesNat ses) msg us.toNat (noted s t e) c) := by
  have run : execChallenge t e ses msg us s = attRow t s (fun s => challenge s t.val e.toNat (sesNat ses) msg us.toNat) := rfl
  rw [run, funext fun s => challenge_eq s t.val e.toNat (sesNat ses) msg us.toNat]
  refine (attRow_spdm ha hc (by split at hn <;> omega) hn).trans (congrArg settled ?_)
  exact (needAlgs_selected hal).trans (if_neg (by rw [hid]; decide))

theorem keyExchange_of (hn : msg.length = 138 + leAt msg 136 2) : execKeyExchange t e ses msg us s =
    settled (exchangeAnswer t.val e.toNat (sesNat ses) msg us.toNat (noted s t e) c) := by
  have run : execKeyExchange t e ses msg us s = attRow t s (fun s => keyExchange s t.val e.toNat (sesNat ses) msg us.toNat) := rfl
  rw [run, funext fun s => keyExchange_eq s t.val e.toNat (sesNat ses) msg us.toNat]
  refine (attRow_spdm ha hc (by omega) (by rw [keyExchangeLen_eq, hn])).trans (congrArg settled ?_)
  exact (needAlgs_selected hal).trans (if_neg (by rw [hid]; decide))

end

theorem getMeasurements_of (hn : msg.length = measurementsLen msg) : execGetMeasurements t e ses msg us s =
    settled (measAnswer t.val e.toNat (sesNat ses) msg us.toNat (noted s t e) c) := by
  have run : execGetMeasurements t e ses msg us s =
    attRow t s (fun s => getMeasurements s t.val e.toNat (sesNat ses) msg us.toNat) := rfl
  rw [run, funext fun s => getMeasurements_eq s t.val e.toNat (sesNat ses) msg us.toNat]
  exact attRow_spdm ha hc (by rw [hn, measurementsLen]; split_ifs <;> omega) hn

end

end

end Sys2Proof.Machine
end

section
/-! O54: the requests of sessions, collected responses and secured messages. -/

namespace Sys2Proof.Machine

section
variable {s : State} {t : Fin 6} {e : Byte} {ses : Option Word} {msg : List Byte} {us : Word}

/-! ### GET_VERSION (R297) -/

/-- A context that starts over at time now. -/
def AttCtx.restarted (c : AttCtx) (now : Nat) : AttCtx :=
  { c with version := true, caps := false, algs := none, transcript := [], certs := [], meas := [], used := now }

/-- The state in which a requester's context has started over. -/
def versionTaken (s : State) (T E : Nat) : State :=
  mapCtx (takeCtx (s.inc Reg.ATT_CNT_RX) T E) T E (fun c => c.restarted (takeCtx (s.inc Reg.ATT_CNT_RX) T E).ot)

section
variable (hp : s.pwr.down = false)
include hp

theorem getVersion_silent (hno : ¬ Answering s t) : execGetVersion t e msg us s = settled s := by
  by_cases hrow : domState s 1 = 0 ∧ (2 ≤ t.val ∨ s.bit Reg.HST_LINK 9 = true)
  · refine (attRow_of hp t hrow.1 hrow.2 _).trans (congrArg settled (if_pos ?_))
    exact Bool.eq_false_iff.2 fun hup => hno ⟨hrow.1, hrow.2, hup⟩
  · exact attRow_silent hp hrow _

variable (ha : Answering s t)
include ha

theorem getVersion_of : execGetVersion t e msg us s = settled (
    if msg.length < 4 then attDrop (s.inc Reg.ATT_CNT_RX) t.val e.toNat 7 msg.length false
    else if msg.length ≠ 4 then attDrop (s.inc Reg.ATT_CNT_RX) t.val e.toNat 4 msg.length true
    else if (ctxOf (versionTaken s t.val e.toNat) t.val e.toNat).isNone then versionTaken s t.val e.toNat
    else respondNoted noteVca (versionTaken s t.val e.toNat) t.val e.toNat none msg 0x04
      ([0, 0, 0, 2] ++ leBytes 2 0x1200 ++ leBytes 2 0x1300) us.toNat) := by
  obtain ⟨hd, hl, hup⟩ := ha
  exact (attRow_of hp t hd hl _).trans (congrArg settled (if_neg (by rw [hup]; decide)))

theorem getVersion_short (h : msg.length < 4) :
    execGetVersion t e msg us s = settled (attDrop (s.inc Reg.ATT_CNT_RX) t.val e.toNat 7 msg.length false) :=
  (getVersion_of hp ha).trans (congrArg settled (if_pos h))

theorem getVersion_long (h : 4 < msg.length) :
    execGetVersion t e msg us s = settled (attDrop (s.inc Reg.ATT_CNT_RX) t.val e.toNat 4 msg.length true) :=
  (getVersion_of hp ha).trans (congrArg settled ((if_neg (by omega)).trans (if_pos (by omega))))

variable (hn : msg.length = 4)
include hn

theorem getVersion_full (hc : ctxOf (versionTaken s t.val e.toNat) t.val e.toNat = none) :
    execGetVersion t e msg us s = settled (versionTaken s t.val e.toNat) :=
  (getVersion_of hp ha).trans (congrArg settled ((if_neg (by omega)).trans ((if_neg (by omega)).trans
    (if_pos (Option.isNone_iff_eq_none.2 hc)))))

theorem getVersion_answers (hc : (ctxOf (versionTaken s t.val e.toNat) t.val e.toNat).isSome = true) :
    execGetVersion t e msg us s = settled (respondNoted noteVca (versionTaken s t.val e.toNat) t.val e.toNat none msg 0x04
      ([0, 0, 0, 2] ++ leBytes 2 0x1200 ++ leBytes 2 0x1300) us.toNat) :=
  (getVersion_of hp ha).trans (congrArg settled ((if_neg (by omega)).trans ((if_neg (by omega)).trans
    (if_neg (by rw [Option.isNone_iff_eq_none]; exact Option.isSome_iff_ne_none.1 hc)))))

end

/-! ### Sessions (R299-R302) -/

/-- The state with session x established by FINISH and the requester answered (R299, R301). -/
def sessionOpened (t e : Nat) (ses : Option Nat) (msg : List Byte) (us : Nat) (u : State) (x : Session) : State :=
  let ver := leAt msg 0 1
  let v : State := { u with att := { u.att with sessions := u.att.sessions.map (fun y => if y.id = x.id then { y with established := true, got := 0, hs := [] } else y) } }
  let master := hmac384 (expandAs (u.sigKey 7).bytes ver 48 "derived" []) (List.replicate 48 0)
  let th := sha384 (x.hs ++ msg ++ responseBytes msg 0x65 [0, 0])
  let w := putSecrets (v.setSigKey 7 {}) (sessionSlot x) ver (expandAs master ver 48 "req app data" th) (expandAs master ver 48 "rsp app data" th)
  respond' (attLog (syncAtt w) Ev.SESSION_OPENED t (leBytes 4 x.id ++ leBytes 1 e)) t e ses 0xE5 0x65 [0, 0] false us

/-- What FINISH does for session x. -/
def finishAnswer (t e : Nat) (ses : Option Nat) (msg : List Byte) (us : Nat) (u : State) (x : Session) : State :=
  if x.established then attError u t e ses 0x04 0
  else if verifyData (u.sigKey (sessionSlot x)).bytes (leAt msg 0 1) (x.hs ++ msg.take 4) ≠ (msg.drop 4).take 48 then
    endSession (attError u t e ses 0x06 0) x.id 2
  else sessionOpened t e ses msg us u x

theorem finish_eq (s : State) (t e : Nat) (ses : Option Nat) (msg : List Byte) (us : Nat) : finish s t e ses msg us =
    spdm s t e ses msg 52 (fun u _ => match ses.bind (sessionOf u) with
      | none => attError u t e ses 0x04 0
      | some x => finishAnswer t e ses msg us u x) := by
  unfold finish
  congr 1

section
variable (ha : Asked s t e ses) {c : AttCtx} (hc : ctxOf s t.val e.toNat = some c)
include ha hc

theorem finish_of (hn : msg.length = 52) : execFinish t e ses msg us s = settled (match (sesNat ses).bind (sessionOf (noted s t e)) with
    | none => attError (noted s t e) t.val e.toNat (sesNat ses) 0x04 0
    | some x => finishAnswer t.val e.toNat (sesNat ses) msg us.toNat (noted s t e) x) := by
  have run : execFinish t e ses msg us s = attRow t s (fun s => finish s t.val e.toNat (sesNat ses) msg us.toNat) := rfl
  rw [run, funext fun s => finish_eq s t.val e.toNat (sesNat ses) msg us.toNat]
  exact attRow_spdm ha hc (by omega) hn

theorem heartbeat_of (hn : msg.length = 4) : execHeartbeat t e ses msg us s = settled (
    match (sesNat ses).bind (sessionOf (noted s t e)) with
    | some x => if x.established then respond' (noted s t e) t.val e.toNat (sesNat ses) 0xE8 0x68 [0, 0] false us.toNat
        else attError (noted s t e) t.val e.toNat (sesNat ses) 0x04 0
    | none => attError (noted s t e) t.val e.toNat (sesNat ses) 0x04 0) :=
  attRow_spdm ha hc (by omega) hn

theorem endSession_of (hn : msg.length = 4) : execEndSession t e ses msg us s = settled (
    match (sesNat ses).bind (sessionOf (noted s t e)) with
    | some x => endSession (respond' (noted s t e) t.val e.toNat (sesNat ses) 0xEC 0x6C [0, 0] false us.toNat) x.id 0
    | none => attError (noted s t e) t.val e.toNat (sesNat ses) 0x04 0) :=
  attRow_spdm ha hc (by omega) hn

section
variable (hx : (sesNat ses).bind (sessionOf (noted s t e)) = none)
include hx

theorem finish_sessionless (hn : msg.length = 52) :
    execFinish t e ses msg us s = settled (attError (noted s t e) t.val e.toNat (sesNat ses) 0x04 0) := by
  rw [finish_of ha hc hn, hx]

theorem heartbeat_sessionless (hn : msg.length = 4) :
    execHeartbeat t e ses msg us s = settled (attError (noted s t e) t.val e.toNat (sesNat ses) 0x04 0) := by
  rw [heartbeat_of ha hc hn, hx]

theorem endSession_sessionless (hn : msg.length = 4) :
    execEndSession t e ses msg us s = settled (attError (noted s t e) t.val e.toNat (sesNat ses) 0x04 0) := by
  rw [endSession_of ha hc hn, hx]

end

section
variable {x : Session} (hx : (sesNat ses).bind (sessionOf (noted s t e)) = some x)
include hx

theorem finish_session (hn : msg.length = 52) :
    execFinish t e ses msg us s = settled (finishAnswer t.val e.toNat (sesNat ses) msg us.toNat (noted s t e) x) := by
  rw [finish_of ha hc hn, hx]

theorem heartbeat_session (hn : msg.length = 4) : execHeartbeat t e ses msg us s = if x.established
    then settled (respond' (noted s t e) t.val e.toNat (sesNat ses) 0xE8 0x68 [0, 0] false us.toNat)
    else settled (attError (noted s t e) t.val e.toNat (sesNat ses) 0x04 0) := by
  rw [heartbeat_of ha hc hn, hx]
  exact apply_ite settled _ _ _

theorem endSession_session (hn : msg.length = 4) : execEndSession t e ses msg us s =
    settled (endSession (respond' (noted s t e) t.val e.toNat (sesNat ses) 0xEC 0x6C [0, 0] false us.toNat) x.id 0) := by
  rw [endSession_of ha hc hn, hx]

end

/-! ### Collected responses (R300) -/

section
variable (hi : s.att.importing = none) (hn : msg.length = 4)
include hi hn

theorem respondIfReady_of : execRespondIfReady t e ses msg us s = settled (match c.prepared with
    | some (code, data) => respond' (mapCtx (noted s t e) t.val e.toNat (fun c => { c with prepared := none })) t.val e.toNat
        (sesNat ses) 0xFF code data false us.toNat
    | none => if s.att.exporting.any (fun x => x.1 == t.val && x.2.1 == e.toNat) ||
          s.att.importing.any (fun x => x.1 == t.val && x.2.1 == e.toNat)
        then attError (noted s t e) t.val e.toNat (sesNat ses) 0x42 12 else attError (noted s t e) t.val e.toNat (sesNat ses) 0x04 0) := by
  have hs := asked_session ha
  obtain ⟨hp, hd, hl, hup, -⟩ := ha
  have himp : importCommit s = s := by rw [importCommit, hi]
  refine (attRow_of hp t hd hl _).trans (congrArg settled ?_)
  rw [himp]
  exact spdm_known hup (by omega) hn hs hc

theorem respondIfReady_prepared {code : Nat} {data : List Byte} (hr : c.prepared = some (code, data)) :
    execRespondIfReady t e ses msg us s = settled (respond' (mapCtx (noted s t e) t.val e.toNat (fun c => { c with prepared := none }))
      t.val e.toNat (sesNat ses) 0xFF code data false us.toNat) := by
  rw [respondIfReady_of ha hc hi hn, hr]

theorem respondIfReady_unprepared (hr : c.prepared = none) : execRespondIfReady t e ses msg us s = settled (
    if s.att.exporting.any (fun x => x.1 == t.val && x.2.1 == e.toNat) = true
    then attError (noted s t e) t.val e.toNat (sesNat ses) 0x42 12 else attError (noted s t e) t.val e.toNat (sesNat ses) 0x04 0) := by
  rw [respondIfReady_of ha hc hi hn, hr, hi, Option.any_none, Bool.or_false]

end

end

theorem respondIfReady_import (ha : Asked s t e ses) : execRespondIfReady t e ses msg us s =
    settled (respondIfReady (importCommit s) t.val e.toNat (sesNat ses) msg us.toNat) := by
  obtain ⟨hp, hd, hl, -, -⟩ := ha
  exact attRow_of hp t hd hl _

/-! ### Secured messages and timeouts (R298, R302) -/

section
variable (hp : s.pwr.down = false)
include hp

theorem preparedResponseExpiry_of :
    execPreparedResponseExpiry t e s = settled (mapCtx s t.val e.toNat (fun c => { c with prepared := none })) :=
  actSettle_of hp _

variable {id : Word}

theorem sessionTimeout_of : execSessionTimeout id s = settled (endSession s id.toNat 1) := actSettle_of hp _

theorem sessionTimeout_none (hx : sessionOf s id.toNat = none) : execSessionTimeout id s = settled s := by
  rw [sessionTimeout_of hp, endSession, hx]

theorem sessionTimeout_some {x : Session} (hx : sessionOf s id.toNat = some x) : execSessionTimeout id s = settled (closeSessions
    ((List.range 4).foldl (fun s k => s.setSigKey (sessionSlot x + k) {}) s) (fun y => y.id == id.toNat) 1) := by
  rw [sessionTimeout_of hp, endSession, hx]

theorem securedMessage_silent (hno : ¬ (domState s 1 = 0 ∧ (2 ≤ t.val ∨ s.bit Reg.HST_LINK 9 = true))) (declared : Nat)
    (cipher : List Byte) : execSecuredMessage t e id declared cipher s = settled s :=
  attRow_silent hp hno _

variable (hrow : domState s 1 = 0 ∧ (2 ≤ t.val ∨ s.bit Reg.HST_LINK 9 = true)) (declared : Nat) (cipher : List Byte)
include hrow

theorem securedMessage_of : execSecuredMessage t e id declared cipher s =
    settled (securedMessage s t.val e.toNat id.toNat declared cipher) :=
  attRow_of hp t hrow.1 hrow.2 _

theorem securedMessage_sessionless (hx : sessionOf s id.toNat = none) : execSecuredMessage t e id declared cipher s =
    settled (attDrop (s.inc Reg.ATT_CNT_RX) t.val e.toNat 6 cipher.length false) := by
  have hx' : sessionOf (s.inc Reg.ATT_CNT_RX) id.toNat = none := hx
  rw [securedMessage_of hp hrow, securedMessage, hx']

/-- The state in which a message of the session is decrypted and counted. -/
def messageTaken (s : State) (t e id : Nat) : State :=
  let got := s.inc Reg.ATT_CNT_RX
  let counted : State := { got with att := { got.att with sessions := got.att.sessions.map (fun y => if y.id = id then { y with got := y.got + 1 } else y) } }
  mapCtx counted t e (fun c => { c with used := got.ot })

theorem securedMessage_session {x : Session} (hx : sessionOf s id.toNat = some x) : execSecuredMessage t e id declared cipher s =
    settled (
      let got := s.inc Reg.ATT_CNT_RX
      let aad := leBytes 4 id.toNat ++ (if t.val = 0 then [] else leBytes 2 x.got) ++ leBytes 2 cipher.length
      if declared ≠ cipher.length ∨ aeadOpen (got.sigKey (sessionSlot x + 2)).bytes (messageIv got x) aad cipher = none then
        endSession (attDrop got t.val e.toNat 6 cipher.length false) id.toNat 2
      else messageTaken s t.val e.toNat id.toNat) := by
  have hx' : sessionOf (s.inc Reg.ATT_CNT_RX) id.toNat = some x := hx
  rw [securedMessage_of hp hrow, securedMessage, hx']
  rfl

end

end

end Sys2Proof.Machine
end

section
/-! O54: the SPDM requests settled. -/

namespace Sys2Proof.Machine

section
variable {s : State} {t : Fin 6} {e : Byte} {ses : Option Word} {msg : List Byte} {us : Word}

/-- The requests that need algorithms and chains, with the lengths of their messages. -/
def chainedRows (t : Fin 6) (e : Byte) (ses : Option Word) (msg : List Byte) (us : Word) : List (Instr × Nat) :=
  [(.getDigests t e ses msg us, 4), (.getCertificate t e ses msg us, 8),
    (.challenge t e ses msg us, if leAt msg 0 1 = 0x13 then 44 else 36), (.keyExchange t e ses msg us, 138 + leAt msg 136 2)]

/-- The SPDM requests that need a context, with the lengths of their messages. -/
def spdmRows (t : Fin 6) (e : Byte) (ses : Option Word) (msg : List Byte) (us : Word) : List (Instr × Nat) :=
  chainedRows t e ses msg us ++ [(.getCapabilities t e ses msg us, 20), (.negotiateAlgorithms t e ses msg true us, leAt msg 4 2),
    (.negotiateAlgorithms t e ses msg false us, leAt msg 4 2), (.finish t e ses msg us, 52), (.heartbeat t e ses msg us, 4),
    (.endSession t e ses msg us, 4), (.getMeasurements t e ses msg us, measurementsLen msg)]

theorem chainedRows_chained : ∀ r ∈ chainedRows t e ses msg us, ChainedRow s t e ses msg r := by
  unfold chainedRows
  simp only [List.forall_mem_cons]
  exact ⟨getDigests_chained, getCertificate_chained, challenge_chained, keyExchange_chained, List.forall_mem_nil _⟩

theorem spdmRows_row : ∀ r ∈ spdmRows t e ses msg us, SpdmRow s t e ses msg r := by
  refine List.forall_mem_append.2 ⟨fun r hr => (chainedRows_chained r hr).spdmRow, ?_⟩
  simp only [List.forall_mem_cons]
  exact ⟨getCapabilities_row, negotiateAlgorithms_row true, negotiateAlgorithms_row false, finish_row, heartbeat_row, endSession_row,
    getMeasurements_row, List.forall_mem_nil _⟩

theorem spdmRows_silent (hp : s.pwr.down = false) (hno : ¬ Answering s t) :
    ∀ r ∈ spdmRows t e ses msg us ++ [(.getVersion t e msg us, 4)], exec r.1 s = settled s := by
  refine List.forall_mem_append.2 ⟨fun r hr => (spdmRows_row r hr).silent hp hno, ?_⟩
  rintro r hr
  rw [List.mem_singleton.1 hr]
  exact getVersion_silent hp hno

section
variable {T E n : Nat} {S : Option Nat} {u : State} {c : AttCtx}

section
variable (hf : ¬ 2 ≤ u.att.sessions.length) (hb : u.att.sessions.any (fun x => !x.established) = false)
include hf hb

theorem exchangeAnswer_invalid (h : leAt msg 3 1 ≠ 0 ∨ ecDecode (4 :: (msg.drop 40).take 96) = none) :
    exchangeAnswer T E S msg n u c = attError u T E S 0x01 0 := by
  refine (if_neg hf).trans ((if_neg (by rw [hb]; decide)).trans ?_)
  split
  · rfl
  next hz =>
    rw [h.resolve_left hz]

theorem exchangeAnswer_opens (hz : leAt msg 3 1 = 0) {q : Nat × Nat} (hq : ecDecode (4 :: (msg.drop 40).take 96) = some q) :
    exchangeAnswer T E S msg n u c = exchangeOpened T E S msg n u c q := by
  refine (if_neg hf).trans ((if_neg (by rw [hb]; decide)).trans ((if_neg (not_not.2 hz)).trans ?_))
  rw [hq]

end

section
variable (hbad : ¬ (measBlocks u (leAt msg 3 1) = [] ∨ (bitOf (leAt msg 2 1) 0 = true ∧ leAt msg 36 1 % 16 ≠ 0)))
include hbad

theorem measAnswer_plain (hs : bitOf (leAt msg 2 1) 0 = false) : measAnswer T E S msg n u c =
    respondNoted noteMeas (attRandom u 32).2 T E S msg 0x60 (measRecord u msg) n :=
  (if_neg (mt (Or.imp_left List.isEmpty_iff.1) hbad)).trans (if_neg (by rw [hs]; decide))

theorem measAnswer_signed (hs : bitOf (leAt msg 2 1) 0 = true) : measAnswer T E S msg n u c =
    needAlgs u T E S c (fun _ => respond' (mapCtx (measSigned u c msg).2 T E (fun c => { c with meas := [] })) T E S 0xE0 0x60
      (measRecord u msg ++ (measSigned u c msg).1) true n) :=
  (if_neg (mt (Or.imp_left List.isEmpty_iff.1) hbad)).trans (if_pos hs)

end

end

end

/-- Settles O54: each SPDM request is dropped, refused or answered, and each session event handled, as the state calls for. -/
theorem spdmRequests : Obligations.SpdmRequests := by
  intro s t e ses msg us
  refine ⟨?_, fun hp ha => ⟨?_, ?_, ?_, ?_⟩, ?_, fun c ha hc => ⟨?_, ?_, ?_, ?_, ?_, ?_, ?_, ?_⟩, ?_, ?_, ?_⟩
  · exact spdmRows_silent
  · exact fun r hr => (spdmRows_row r hr).drops hp ha
  · exact getVersion_short hp ha
  · exact getVersion_long hp ha
  · exact fun hn => ⟨getVersion_full hp ha hn, getVersion_answers hp ha hn⟩
  · exact fun ha r hr hn h4 hc => (spdmRows_row r hr).stranger ha hn h4 hc
  · exact fun r hr hn h4 => (chainedRows_chained r hr).refuses ha hc hn h4
  · exact fun hn => ⟨fun hv => (getCapabilities_of ha hc hn).trans (congrArg settled (if_pos hv)),
      fun hv => (getCapabilities_of ha hc hn).trans (congrArg settled (if_neg (by rw [hv]; decide)))⟩
  · exact fun ok h4 hn => ⟨fun hv => (negotiateAlgorithms_of ha hc ok h4 hn).trans (congrArg settled (if_pos hv)),
      fun hv => (negotiateAlgorithms_of ha hc ok h4 hn).trans (congrArg settled (if_neg (by rw [hv]; decide)))⟩
  · refine fun hal hid => ⟨getDigests_of ha hc hal hid, fun hn => ?_, fun hn => ⟨fun h => ?_, fun h => ?_⟩,
      fun hn => ⟨fun hf => ?_, fun hf hb => ?_, fun hf hb hbad => ?_, fun q hf hb hz hq => ?_⟩⟩
    · exact (getCertificate_of ha hc hal hid hn).trans (apply_ite settled _ _ _)
    · exact (challenge_of ha hc hal hid hn).trans (congrArg settled (if_pos h))
    · exact (challenge_of ha hc hal hid hn).trans (congrArg settled (if_neg (not_not.2 h)))
    · exact (keyExchange_of ha hc hal hid hn).trans (congrArg settled (if_pos hf))
    · exact (keyExchange_of ha hc hal hid hn).trans (congrArg settled ((if_neg hf).trans (if_pos hb)))
    · exact (keyExchange_of ha hc hal hid hn).trans (congrArg settled (exchangeAnswer_invalid hf hb hbad))
    · exact (keyExchange_of ha hc hal hid hn).trans (congrArg settled (exchangeAnswer_opens hf hb hz hq))
  · refine fun hn => ⟨fun hbad => ?_, fun hbad hs => ?_, fun hbad hs hal => ?_, fun hbad hs hal => ?_, fun hbad hs hal => ?_⟩
    · exact (getMeasurements_of ha hc hn).trans (congrArg settled (if_pos (hbad.imp_left List.isEmpty_iff.2)))
    · exact (getMeasurements_of ha hc hn).trans (congrArg settled (measAnswer_plain hbad hs))
    · exact (getMeasurements_of ha hc hn).trans (congrArg settled ((measAnswer_signed hbad hs).trans (needAlgs_early hal)))
    · exact (getMeasurements_of ha hc hn).trans (congrArg settled ((measAnswer_signed hbad hs).trans (needAlgs_unselected hal)))
    · exact (getMeasurements_of ha hc hn).trans (congrArg settled ((measAnswer_signed hbad hs).trans (needAlgs_selected hal)))
  · refine fun x hx => ⟨fun hn he => ?_, fun hn he hm => ?_, fun hn he hm => ?_, heartbeat_session ha hc hx, endSession_session ha hc hx⟩
    · exact (finish_session ha hc hx hn).trans (congrArg settled (if_pos he))
    · exact (finish_session ha hc hx hn).trans (congrArg settled ((if_neg (by rw [he]; decide)).trans (if_pos hm)))
    · exact (finish_session ha hc hx hn).trans (congrArg settled ((if_neg (by rw [he]; decide)).trans (if_neg (not_not.2 hm))))
  · exact fun hx => ⟨finish_sessionless ha hc hx,
      fun hn => ⟨heartbeat_sessionless ha hc hx hn, endSession_sessionless ha hc hx hn⟩⟩
  · refine fun hi hn => ⟨fun code data => respondIfReady_prepared ha hc hi hn, fun hr he => ?_, fun hr he => ?_⟩
    · exact (respondIfReady_unprepared ha hc hi hn hr).trans (congrArg settled (if_pos he))
    · exact (respondIfReady_unprepared ha hc hi hn hr).trans (congrArg settled (if_neg (by rw [he]; decide)))
  · exact fun ha _ => respondIfReady_import ha
  · exact preparedResponseExpiry_of
  · refine fun id hp => ⟨fun hno k cipher => ?_, fun hx => ⟨sessionTimeout_none hp hx, fun hrow k cipher =>
      securedMessage_sessionless hp hrow k cipher hx⟩, fun x hx => ⟨sessionTimeout_some hp hx, fun hrow k cipher => ?_⟩⟩
    · exact securedMessage_silent hp hno k cipher
    · exact securedMessage_session hp hrow k cipher hx

end Sys2Proof.Machine
end

section
/-! O55: a vendor operation's way to its answer. -/

namespace Sys2Proof.Machine

/-! ### An import in progress is left as it is -/

theorem attError_importing (s : State) (t e : Nat) (ses : Option Nat) (err data : Nat) :
    (attError s t e ses err data).att.importing = s.att.importing := rfl

theorem attLog_att (s : State) (code detail : Nat) (payload : List Byte) : (attLog s code detail payload).att = s.att :=
  (Eventful.log s _ _ _ _).att_eq

theorem attDrop_importing (s : State) (t e x len : Nat) (reply : Bool) (ses : Option Nat) :
    (attDrop s t e x len reply ses).att.importing = s.att.importing := by
  have hlog := attLog_att (s.inc Reg.ATT_CNT_DROP) Ev.MSG_DROPPED t (leBytes 1 x ++ leBytes 1 e ++ leBytes 4 len)
  unfold attDrop
  dsimp only
  split
  · exact (attError_importing _ _ _ _ _ _).trans (congrArg Att.importing hlog :)
  · exact (congrArg Att.importing hlog :)

theorem vendorReady_importing (s : State) (t e op st h total : Nat) : (vendorReady s t e op st h total).att.importing = s.att.importing :=
  rfl

theorem respond_importing (s : State) (t e : Nat) (ses : Option Nat) (req code : Nat) (data : List Byte) (signed : Bool) (us : Nat) :
    (respond' s t e ses req code data signed us).att.importing = s.att.importing := by
  have hlog := attLog_att ((attSend s t e ses code data).inc Reg.ATT_CNT_LATE) Ev.LATE_RESPONSE t (leBytes 1 req ++ leBytes 4 us)
  unfold respond'
  dsimp only
  split
  · rfl
  · split
    · rfl
    · generalize (if signed = true then 4096 else 1000) = bound
      split
      · exact (congrArg Att.importing hlog :)
      · rfl

theorem vendorStatus_importing (s : State) (t e : Nat) (ses : Option Nat) (op st h us : Nat) :
    (vendorStatus s t e ses op st h us).att.importing = s.att.importing := respond_importing s t e ses _ _ _ _ us

theorem importCommit_none {s : State} (h : s.att.importing = none) : importCommit s = s := by rw [importCommit, h]

section
variable {s : State} {t : Fin 6} {e : Byte} {ses : Option Word} {msg : List Byte} {us : Word}

/-! ### Vendor messages (R298, R308) -/

/-- The command of the row is a vendor operation whose payload has the row's length, under the row's feature; what follows it
leaves a state with the import of s as it is. -/
def VendorRow (s : State) (t : Fin 6) (e : Byte) (ses : Option Word) (msg : List Byte) (i : Instr) (want feature : Nat) : Prop :=
  ∃ (g : State → State) (f : State → AttCtx → List Byte → State),
    exec i s = attRow t s (fun s => g (vendor s t.val e.toNat (ses.map BitVec.toNat) msg want feature f)) ∧
      ∀ v : State, v.att.importing = s.att.importing → g v = v

theorem vendorRow_of {i : Instr} {want feature : Nat} {f : State → AttCtx → List Byte → State}
    (h : exec i s = attRow t s (fun s => vendor s t.val e.toNat (ses.map BitVec.toNat) msg want feature f)) :
    VendorRow s t e ses msg i want feature := ⟨id, f, h, fun _ _ => rfl⟩

theorem getPqcChain_row : VendorRow s t e ses msg (.getPqcChain t e ses msg us) 8 9 := vendorRow_of rfl
theorem pqcAttest_row : VendorRow s t e ses msg (.pqcAttest t e ses msg us) 38 9 := vendorRow_of rfl
theorem getReport_row : VendorRow s t e ses msg (.getReport t e ses msg us) 4 0 := vendorRow_of rfl
theorem custodyExport_row : VendorRow s t e ses msg (.custodyExport t e ses msg us) 4 8 := vendorRow_of rfl
theorem putObject_row : VendorRow s t e ses msg (.putObject t e ses msg us) (10 + leAt msg 19 2) 8 := vendorRow_of rfl
theorem getObject_row : VendorRow s t e ses msg (.getObject t e ses msg us) 10 0 := vendorRow_of rfl
theorem releaseObject_row : VendorRow s t e ses msg (.releaseObject t e ses msg us) 4 0 := vendorRow_of rfl

theorem custodyImport_row (hi : s.att.importing = none) : VendorRow s t e ses msg (.custodyImport t e ses msg us) 4 8 :=
  ⟨importCommit, _, rfl, fun _ hv => importCommit_none (hv.trans hi)⟩

/-- A vendor message's payload has the length that the operation wants. -/
def VendorFits (msg : List Byte) (want : Nat) : Prop :=
  4 ≤ msg.length ∧ leAt msg 9 2 = (msg.drop 11).length ∧ (msg.drop 11).length = want

section
variable {T E want feature : Nat} {S : Option Nat} {f : State → AttCtx → List Byte → State}

theorem vendor_down (h : transportUp s T = false) : vendor s T E S msg want feature f = s := if_pos h

variable (hup : transportUp s T = true)
include hup

theorem vendor_short (h : msg.length < 4) :
    vendor s T E S msg want feature f = attDrop (s.inc Reg.ATT_CNT_RX) T E 7 msg.length false :=
  (if_neg (by rw [hup]; decide)).trans (if_pos h)

theorem vendor_wrongLength (h4 : 4 ≤ msg.length) (h : leAt msg 9 2 ≠ (msg.drop 11).length ∨ (msg.drop 11).length ≠ want) :
    vendor s T E S msg want feature f = attDrop (s.inc Reg.ATT_CNT_RX) T E 5 msg.length true S :=
  (if_neg (by rw [hup]; decide)).trans ((if_neg (not_lt.2 h4)).trans (if_pos h))

variable (hf : VendorFits msg want)
include hf

theorem vendor_fits : vendor s T E S msg want feature f =
    let got := s.inc Reg.ATT_CNT_RX
    if S.any (fun i => (sessionOf s i).isNone) then attDrop got T E 6 msg.length false
    else match ctxOf s T E with
      | none => attError got T E S 0x04 0
      | some c =>
        if T ≤ 1 ∧ feature ≠ 0 ∧ hasFeature got 0 feature = false then attError got T E S 0x07 0
        else f (touchCtx got T E) c (msg.drop 11) := by
  obtain ⟨h4, hlen, hwant⟩ := hf
  exact (if_neg (by rw [hup]; decide)).trans ((if_neg (not_lt.2 h4)).trans (if_neg (by rw [hlen, hwant]; simp)))

theorem vendor_sessionless (hs : S.any (fun i => (sessionOf s i).isNone) = true) :
    vendor s T E S msg want feature f = attDrop (s.inc Reg.ATT_CNT_RX) T E 6 msg.length false :=
  (vendor_fits hup hf).trans (if_pos hs)

variable (hs : S.any (fun i => (sessionOf s i).isNone) = false)
include hs

theorem vendor_stranger (hc : ctxOf s T E = none) :
    vendor s T E S msg want feature f = attError (s.inc Reg.ATT_CNT_RX) T E S 0x04 0 := by
  refine (vendor_fits hup hf).trans ((if_neg (by rw [hs]; decide)).trans ?_)
  rw [hc]

section
variable {c : AttCtx} (hc : ctxOf s T E = some c)
include hc

theorem vendor_unnegotiated (ht : T ≤ 1) (h0 : feature ≠ 0) (hno : hasFeature (s.inc Reg.ATT_CNT_RX) 0 feature = false) :
    vendor s T E S msg want feature f = attError (s.inc Reg.ATT_CNT_RX) T E S 0x07 0 := by
  refine (vendor_fits hup hf).trans ((if_neg (by rw [hs]; decide)).trans ?_)
  rw [hc]
  exact if_pos ⟨ht, h0, hno⟩

theorem vendor_known (hmay : feature ≠ 0 → T ≤ 1 → hasFeature (s.inc Reg.ATT_CNT_RX) 0 feature = true) :
    vendor s T E S msg want feature f = f (touchCtx (s.inc Reg.ATT_CNT_RX) T E) c (msg.drop 11) := by
  refine (vendor_fits hup hf).trans ((if_neg (by rw [hs]; decide)).trans ?_)
  rw [hc]
  refine if_neg ?_
  rintro ⟨ht, h0, hno⟩
  exact absurd ((hmay h0 ht).symm.trans hno) (by decide)

end

end

/-! ### What every vendor operation refuses (R298, R308) -/

section
variable {i : Instr} {want feature : Nat} (h : VendorRow s t e ses msg i want feature)
include h

theorem VendorRow.silent (hp : s.pwr.down = false) (hno : ¬ Answering s t) : exec i s = settled s := by
  obtain ⟨g, f, hrun, hg⟩ := h
  rw [hrun]
  by_cases hrow : domState s 1 = 0 ∧ (2 ≤ t.val ∨ s.bit Reg.HST_LINK 9 = true)
  · rw [attRow_of hp t hrow.1 hrow.2, vendor_down (Bool.eq_false_iff.2 fun hup => hno ⟨hrow.1, hrow.2, hup⟩), hg s rfl]
  · exact attRow_silent hp hrow _

theorem VendorRow.ends (hp : s.pwr.down = false) (ha : Answering s t) {v : State} (hv : v.att.importing = s.att.importing)
    (hend : ∀ f, vendor s t.val e.toNat (ses.map BitVec.toNat) msg want feature f = v) : exec i s = settled v := by
  obtain ⟨g, f, hrun, hg⟩ := h
  obtain ⟨hd, hl, -⟩ := ha
  rw [hrun, attRow_of hp t hd hl, hend f, hg v hv]

theorem VendorRow.sessionless (hp : s.pwr.down = false) (ha : Answering s t) (hf : VendorFits msg want)
    (hs : (ses.map BitVec.toNat).any (fun i => (sessionOf s i).isNone) = true) :
    exec i s = settled (attDrop (s.inc Reg.ATT_CNT_RX) t.val e.toNat 6 msg.length false) :=
  h.ends hp ha (attDrop_importing _ _ _ _ _ _ _) fun _ => vendor_sessionless ha.2.2 hf hs

theorem VendorRow.refuses (ha : Asked s t e ses) :
    (msg.length < 4 → exec i s = settled (attDrop (s.inc Reg.ATT_CNT_RX) t.val e.toNat 7 msg.length false)) ∧
    (4 ≤ msg.length → (leAt msg 9 2 ≠ (msg.drop 11).length ∨ (msg.drop 11).length ≠ want) →
      exec i s = settled (attDrop (s.inc Reg.ATT_CNT_RX) t.val e.toNat 5 msg.length true (ses.map BitVec.toNat))) ∧
    (VendorFits msg want → ctxOf s t.val e.toNat = none →
      exec i s = settled (attError (s.inc Reg.ATT_CNT_RX) t.val e.toNat (ses.map BitVec.toNat) 0x04 0)) ∧
    (VendorFits msg want → (ctxOf s t.val e.toNat).isSome = true → t.val ≤ 1 → feature ≠ 0 →
      hasFeature (s.inc Reg.ATT_CNT_RX) 0 feature = false →
      exec i s = settled (attError (s.inc Reg.ATT_CNT_RX) t.val e.toNat (ses.map BitVec.toNat) 0x07 0)) := by
  have hs := asked_session ha
  obtain ⟨hp, hd, hl, hup, -⟩ := ha
  have ha' : Answering s t := ⟨hd, hl, hup⟩
  refine ⟨fun hn => h.ends hp ha' (attDrop_importing _ _ _ _ _ _ _) fun _ => vendor_short hup hn,
    fun h4 hn => h.ends hp ha' (attDrop_importing _ _ _ _ _ _ _) fun _ => vendor_wrongLength hup h4 hn,
    fun hf hc => h.ends hp ha' rfl fun _ => vendor_stranger hup hf hs hc, fun hf hc ht h0 hno => ?_⟩
  obtain ⟨c, hc⟩ := Option.isSome_iff_exists.1 hc
  exact h.ends hp ha' rfl fun _ => vendor_unnegotiated hup hf hs hc ht h0 hno

end

/-- A vendor operation of its length, with its feature, is answered on the state that has counted it. -/
theorem attRow_vendor (ha : Asked s t e ses) {c : AttCtx} (hc : ctxOf s t.val e.toNat = some c) {want feature : Nat}
    {f : State → AttCtx → List Byte → State} (hf : VendorFits msg want)
    (hmay : feature ≠ 0 → t.val ≤ 1 → hasFeature (s.inc Reg.ATT_CNT_RX) 0 feature = true) (g : State → State) :
    attRow t s (fun s => g (vendor s t.val e.toNat (ses.map BitVec.toNat) msg want feature f)) =
      settled (g (f (noted s t e) c (msg.drop 11))) := by
  have hs := asked_session ha
  obtain ⟨hp, hd, hl, hup, -⟩ := ha
  rw [attRow_of hp t hd hl]
  exact congrArg (fun v => settled (g v)) (vendor_known hup hf hs hc hmay)

end

end Sys2Proof.Machine
end

section
/-! O55: the vendor operations. -/

namespace Sys2Proof.Machine

theorem buffersFull_iff {v : State} :
    buffersFull v = true ↔ 4 ≤ v.att.objs.length + b2n v.att.exporting.isSome + b2n v.att.importing.isSome := decide_eq_true_iff

theorem prepareObject_eq (v : State) (t e : Nat) (ses : Option Nat) (op kind : Nat) (body : List Byte) (sigs us : Nat) :
    prepareObject v t e ses op kind body sigs us =
      if 4 ≤ v.att.objs.length + b2n v.att.exporting.isSome + b2n v.att.importing.isSome then vendorStatus v t e ses op 2 0 us
      else
        let o := signObject v kind body sigs
        let r := putObject o.2 t e false o.1
        respond' r.1 t e ses 0xFE 0x7E (vendorData op 0 r.2 o.1.length []) true us :=
  if_congr buffersFull_iff rfl rfl

theorem custodyCtx_eq_false_iff {t : Nat} : custodyCtx t = false ↔ 2 < t := by rw [custodyCtx, decide_eq_false_iff_not, not_le]

section
variable {s : State} {t : Fin 6} {e : Byte} {ses : Option Word} {msg : List Byte} {us : Word}
variable (ha : Asked s t e ses) {c : AttCtx} (hc : ctxOf s t.val e.toNat = some c)
include ha hc

/-- A vendor operation of its length, under feature f where its transport has features. -/
theorem attRow_offered {want feature : Nat} {f : State → AttCtx → List Byte → State} (hf : VendorFits msg want)
    (hmay : t.val ≤ 1 → hasFeature (s.inc Reg.ATT_CNT_RX) 0 feature = true) :
    attRow t s (fun s => vendor s t.val e.toNat (ses.map BitVec.toNat) msg want feature f) =
      settled (f (noted s t e) c (msg.drop 11)) := attRow_vendor ha hc hf (fun _ => hmay) id

theorem attRow_plain {want : Nat} {f : State → AttCtx → List Byte → State} (hf : VendorFits msg want) :
    attRow t s (fun s => vendor s t.val e.toNat (ses.map BitVec.toNat) msg want 0 f) =
      settled (f (noted s t e) c (msg.drop 11)) := attRow_vendor ha hc hf (fun h => absurd rfl h) id

theorem getPqcChain_of (hf : VendorFits msg 8) (hmay : t.val ≤ 1 → hasFeature (s.inc Reg.ATT_CNT_RX) 0 9 = true) :
    execGetPqcChain t e ses msg us s = settled (
      let u := noted s t e
      let p := msg.drop 11
      let all := chain u true
      if identity u = false then attError u t.val e.toNat (sesNat ses) 0x05 0
      else if 4096 < leAt p 6 2 ∨ all.length < leAt p 4 2 then vendorStatus u t.val e.toNat (sesNat ses) 1 6 0 us.toNat
      else respond' u t.val e.toNat (sesNat ses) 0xFE 0x7E
        (vendorData 1 0 0 all.length ((all.drop (leAt p 4 2)).take (leAt p 6 2))) false us.toNat) :=
  attRow_offered ha hc hf hmay

theorem pqcAttest_of (hf : VendorFits msg 38) (hmay : t.val ≤ 1 → hasFeature (s.inc Reg.ATT_CNT_RX) 0 9 = true) :
    execPqcAttest t e ses msg us s = settled (
      let u := noted s t e
      let p := msg.drop 11
      let i := leAt p 36 1
      let blocks := if i = 0 then [] else measBlocks u i
      if leAt p 37 1 % 4 = 0 ∨ (i ≠ 0 ∧ blocks.isEmpty = true) then vendorStatus u t.val e.toNat (sesNat ses) 2 6 0 us.toNat
      else prepareObject (attRandom u 32).2 t.val e.toNat (sesNat ses) 2 1
        ((p.drop 4).take 32 ++ (attRandom u 32).1 ++ leBytes 4 blocks.length ++ leBytes 4 0 ++ blocks.flatten) (leAt p 37 1 % 4) us.toNat) :=
  attRow_offered ha hc hf hmay

section
variable (hf : VendorFits msg 4)
include hf

theorem getReport_of : execGetReport t e ses msg us s = settled (
    match bodyOf (noted s t e) (reportKey (transportSender t.val) (leAt (msg.drop 11) 2 2)) with
    | none => vendorStatus (noted s t e) t.val e.toNat (sesNat ses) 3 6 0 us.toNat
    | some b => prepareObject (noted s t e) t.val e.toNat (sesNat ses) 3 2 (signedBody (noted s t e) b) 3 us.toNat) :=
  attRow_plain ha hc hf

theorem releaseObject_of : execReleaseObject t e ses msg us s = settled (
    match objectOf (noted s t e) t.val e.toNat (leAt (msg.drop 11) 2 2) with
    | none => vendorStatus (noted s t e) t.val e.toNat (sesNat ses) 8 6 (leAt (msg.drop 11) 2 2) us.toNat
    | some o => vendorStatus (freeObject (noted s t e) o.handle) t.val e.toNat (sesNat ses) 8 0 o.handle us.toNat) :=
  attRow_plain ha hc hf

theorem getReport_unknown (h : bodyOf (noted s t e) (reportKey (transportSender t.val) (leAt (msg.drop 11) 2 2)) = none) :
    execGetReport t e ses msg us s = settled (vendorStatus (noted s t e) t.val e.toNat (sesNat ses) 3 6 0 us.toNat) := by
  rw [getReport_of ha hc hf, h]

theorem getReport_known {b : List Byte}
    (h : bodyOf (noted s t e) (reportKey (transportSender t.val) (leAt (msg.drop 11) 2 2)) = some b) :
    execGetReport t e ses msg us s =
      settled (prepareObject (noted s t e) t.val e.toNat (sesNat ses) 3 2 (signedBody (noted s t e) b) 3 us.toNat) := by
  rw [getReport_of ha hc hf, h]

theorem releaseObject_unknown (h : objectOf (noted s t e) t.val e.toNat (leAt (msg.drop 11) 2 2) = none) :
    execReleaseObject t e ses msg us s =
      settled (vendorStatus (noted s t e) t.val e.toNat (sesNat ses) 8 6 (leAt (msg.drop 11) 2 2) us.toNat) := by
  rw [releaseObject_of ha hc hf, h]

theorem releaseObject_known {o : AttObj} (h : objectOf (noted s t e) t.val e.toNat (leAt (msg.drop 11) 2 2) = some o) :
    execReleaseObject t e ses msg us s =
      settled (vendorStatus (freeObject (noted s t e) o.handle) t.val e.toNat (sesNat ses) 8 0 o.handle us.toNat) := by
  rw [releaseObject_of ha hc hf, h]

end

/-- The state in which an export has flushed the recorder and announced a later answer (R311). -/
def exportBegun (u : State) (t e : Nat) (ses : Option Nat) : State :=
  attError { evrFlush u 0 with att := { (evrFlush u 0).att with exporting := some (t, e, 0) } } t e ses 0x42 12

theorem custodyExport_of (hf : VendorFits msg 4) (hmay : t.val ≤ 1 → hasFeature (s.inc Reg.ATT_CNT_RX) 0 8 = true) :
    execCustodyExport t e ses msg us s = settled (
      let u := noted s t e
      let say (st : Nat) : State := vendorStatus u t.val e.toNat (sesNat ses) 4 st 0 us.toNat
      let v := exportBegun u t.val e.toNat (sesNat ses)
      if 2 < t.val then say 1 else if ¬ (ldgState u = 2 ∨ ldgState u = 4) then say 3
      else if 4 ≤ u.att.objs.length + b2n u.att.exporting.isSome + b2n u.att.importing.isSome ∨ u.att.exporting.isSome = true then say 2
      else if epochNeeded v = true ∨ ldgCommitting v = true then epochBegin v [.custody] else exportFinish v) := by
  refine (attRow_offered ha hc hf hmay).trans (congrArg settled ?_)
  exact if_congr custodyCtx_eq_false_iff rfl (if_congr not_or.symm rfl (if_congr (or_congr_left buffersFull_iff) rfl rfl))

/-- The state in which an object's upload has grown by data. -/
def objectGrown (u : State) (h : Nat) (data : List Byte) : State :=
  { u with att := { u.att with objs := u.att.objs.map (fun x => if x.handle = h then { x with bytes := x.bytes ++ data } else x) } }

/-- What PUT_OBJECT does (R308). -/
def putAnswer (t e : Nat) (ses : Option Nat) (us : Nat) (u : State) (p : List Byte) : State :=
  let say (st h : Nat) : State := vendorStatus u t e ses 5 st h us
  let h := leAt p 2 2
  let off := leAt p 4 4
  let data := p.drop 10
  if 4096 < data.length then say 6 h
  else if h = 0 then
    if buffersFull u then say 2 0
    else if off ≠ 0 then say 6 0
    else vendorStatus (putObject u t e true data).1 t e ses 5 0 (putObject u t e true data).2 us
  else match objectOf u t e h with
    | none => say 6 h
    | some o =>
      if o.upload = false ∨ off ≠ o.bytes.length ∨ 65536 < off + data.length then say 6 h
      else vendorStatus (objectGrown u h data) t e ses 5 0 h us

theorem putObject_of (hf : VendorFits msg (10 + leAt msg 19 2)) (hmay : t.val ≤ 1 → hasFeature (s.inc Reg.ATT_CNT_RX) 0 8 = true) :
    execPutObject t e ses msg us s = settled (putAnswer t.val e.toNat (sesNat ses) us.toNat (noted s t e) (msg.drop 11)) :=
  attRow_offered ha hc hf hmay

/-- The bytes that GET_OBJECT's handle names (R308). -/
def bytesHeld (u : State) (t e h : Nat) : Option (List Byte) :=
  if h = 0xFFFE then (if u.att.counter.isEmpty then none else some u.att.counter) else (objectOf u t e h).map AttObj.bytes

theorem getObject_of (hf : VendorFits msg 10) : execGetObject t e ses msg us s = settled (
    let u := noted s t e
    let p := msg.drop 11
    match bytesHeld u t.val e.toNat (leAt p 2 2) with
    | none => vendorStatus u t.val e.toNat (sesNat ses) 7 6 (leAt p 2 2) us.toNat
    | some b =>
      if 4096 < leAt p 8 2 ∨ b.length < leAt p 4 4 then vendorStatus u t.val e.toNat (sesNat ses) 7 6 (leAt p 2 2) us.toNat
      else respond' u t.val e.toNat (sesNat ses) 0xFE 0x7E
        (vendorData 7 0 (leAt p 2 2) b.length ((b.drop (leAt p 4 4)).take (leAt p 8 2))) false us.toNat) :=
  attRow_plain ha hc hf

/-! ### CUSTODY_IMPORT (R311) -/

/-- The state in which an import of the object of handle h has announced a later answer. -/
def importBegun (u : State) (t e : Nat) (ses : Option Nat) (h : Nat) : State :=
  attError { u with att := { u.att with importing := some (t, e, h) } } t e ses 0x42 12

/-- What CUSTODY_IMPORT does before its commit. -/
def importAnswer (t e : Nat) (ses : Option Nat) (us : Nat) (u : State) (p : List Byte) : State :=
  let h := leAt p 2 2
  if custodyCtx t = false then vendorStatus u t e ses 6 1 h us
  else match objectOf u t e h with
    | none => vendorStatus u t e ses 6 6 h us
    | some o =>
      if buffersFull u = true ∨ u.att.importing.isSome = true then vendorStatus u t e ses 6 2 h us
      else match importFault u o.bytes with
        | some (k, st) =>
          vendorReady (attLog (attError u t e ses 0x42 12) Ev.CUSTODY_REFUSED t (leBytes 1 6 ++ leBytes 1 k ++ leBytes 1 st)) t e 6 st h 0
        | none => importBegun u t e ses h

theorem custodyImport_of (hf : VendorFits msg 4) (hmay : t.val ≤ 1 → hasFeature (s.inc Reg.ATT_CNT_RX) 0 8 = true) :
    execCustodyImport t e ses msg us s =
      settled (importCommit (importAnswer t.val e.toNat (sesNat ses) us.toNat (noted s t e) (msg.drop 11))) :=
  attRow_vendor ha hc hf (fun _ => hmay) importCommit

end

section
variable {T E n : Nat} {S : Option Nat} {u : State} {p : List Byte}

theorem putAnswer_long (hl : 4096 < (p.drop 10).length) : putAnswer T E S n u p = vendorStatus u T E S 5 6 (leAt p 2 2) n := if_pos hl

section
variable (hl : (p.drop 10).length ≤ 4096)
include hl

theorem putAnswer_new (h0 : leAt p 2 2 = 0) : putAnswer T E S n u p =
    if 4 ≤ u.att.objs.length + b2n u.att.exporting.isSome + b2n u.att.importing.isSome then vendorStatus u T E S 5 2 0 n
    else if leAt p 4 4 ≠ 0 then vendorStatus u T E S 5 6 0 n
    else vendorStatus (putObject u T E true (p.drop 10)).1 T E S 5 0 (putObject u T E true (p.drop 10)).2 n :=
  (if_neg (not_lt.2 hl)).trans ((if_pos h0).trans (if_congr buffersFull_iff rfl rfl))

variable (h0 : leAt p 2 2 ≠ 0)
include h0

theorem putAnswer_unknown (ho : objectOf u T E (leAt p 2 2) = none) :
    putAnswer T E S n u p = vendorStatus u T E S 5 6 (leAt p 2 2) n := by
  refine (if_neg (not_lt.2 hl)).trans ((if_neg h0).trans ?_)
  rw [ho]

theorem putAnswer_known {o : AttObj} (ho : objectOf u T E (leAt p 2 2) = some o) : putAnswer T E S n u p =
    if o.upload = false ∨ leAt p 4 4 ≠ o.bytes.length ∨ 65536 < leAt p 4 4 + (p.drop 10).length then vendorStatus u T E S 5 6 (leAt p 2 2) n
    else vendorStatus (objectGrown u (leAt p 2 2) (p.drop 10)) T E S 5 0 (leAt p 2 2) n := by
  refine (if_neg (not_lt.2 hl)).trans ((if_neg h0).trans ?_)
  rw [ho]

end

theorem importAnswer_denied (ht : 2 < T) : importAnswer T E S n u p = vendorStatus u T E S 6 1 (leAt p 2 2) n :=
  if_pos (custodyCtx_eq_false_iff.2 ht)

section
variable (ht : T ≤ 2)
include ht

theorem importAnswer_unknown (ho : objectOf u T E (leAt p 2 2) = none) :
    importAnswer T E S n u p = vendorStatus u T E S 6 6 (leAt p 2 2) n := by
  refine (if_neg (mt custodyCtx_eq_false_iff.1 (not_lt.2 ht))).trans ?_
  rw [ho]

variable {o : AttObj} (ho : objectOf u T E (leAt p 2 2) = some o)
include ho

theorem importAnswer_known : importAnswer T E S n u p =
    if buffersFull u = true ∨ u.att.importing.isSome = true then vendorStatus u T E S 6 2 (leAt p 2 2) n
    else match importFault u o.bytes with
      | some (k, st) => vendorReady (attLog (attError u T E S 0x42 12) Ev.CUSTODY_REFUSED T
          (leBytes 1 6 ++ leBytes 1 k ++ leBytes 1 st)) T E 6 st (leAt p 2 2) 0
      | none => importBegun u T E S (leAt p 2 2) := by
  refine (if_neg (mt custodyCtx_eq_false_iff.1 (not_lt.2 ht))).trans ?_
  rw [ho]

theorem importAnswer_full (hb : buffersFull u = true) : importAnswer T E S n u p = vendorStatus u T E S 6 2 (leAt p 2 2) n :=
  (importAnswer_known ht ho).trans (if_pos (.inl hb))

section
variable (hb : ¬ buffersFull u = true) (hi : u.att.importing = none)
include hb hi

omit ho ht in
theorem importFree : ¬ (buffersFull u = true ∨ u.att.importing.isSome = true) := by
  rw [hi, Option.isSome_none, not_or]
  exact ⟨hb, Bool.false_ne_true⟩

theorem importAnswer_faulty {k st : Nat} (hk : importFault u o.bytes = some (k, st)) : importAnswer T E S n u p =
    vendorReady (attLog (attError u T E S 0x42 12) Ev.CUSTODY_REFUSED T (leBytes 1 6 ++ leBytes 1 k ++ leBytes 1 st)) T E 6 st
      (leAt p 2 2) 0 := by
  refine (importAnswer_known ht ho).trans ((if_neg (importFree hb hi)).trans ?_)
  rw [hk]

theorem importAnswer_begins (hk : importFault u o.bytes = none) : importAnswer T E S n u p = importBegun u T E S (leAt p 2 2) := by
  refine (importAnswer_known ht ho).trans ((if_neg (importFree hb hi)).trans ?_)
  rw [hk]

end

omit ht in
/-- The commit of an import whose object is there: it ends the import, waits, or is refused. -/
theorem importCommit_begun : importCommit (importBegun u T E S (leAt p 2 2)) =
    let v := importBegun u T E S (leAt p 2 2)
    let r := fwCommit v [⟨0x06, 0, 1, 0, importEntry v o.bytes⟩]
    if r.2 = 0 then importFinish (ldgLog r.1 Ev.EPOCH_COMMITTED (leBytes 8 (ldgEpoch r.1) ++ (ldgRoot r.1).take 28))
    else if r.2 = 0x01 ∨ r.2 = 0x14 then r.1
    else vendorReady (attLog { r.1 with att := { r.1.att with importing := none } } Ev.CUSTODY_REFUSED T
      (leBytes 1 6 ++ [0] ++ leBytes 1 3)) T E 6 3 (leAt p 2 2) 0 := by
  have hi : (importBegun u T E S (leAt p 2 2)).att.importing = some (T, E, leAt p 2 2) := rfl
  have ho' : objectOf (importBegun u T E S (leAt p 2 2)) T E (leAt p 2 2) = some o := ho
  rw [importCommit, hi]
  dsimp only
  rw [ho']

end

end

end Sys2Proof.Machine
end

section
/-! O55: the downstream table, and the vendor operations settled. -/

namespace Sys2Proof.Machine

/-! ### DS_SET and DS_REFRESH (R312) -/

theorem objectBufferTimeout_of {s : State} (hp : s.pwr.down = false) (h : BitVec 16) :
    execObjectBufferTimeout h s = settled (freeObject s h.toNat) := actSettle_of hp _

section
variable {s : State} {tag : Byte} {d : BitVec 16}

/-- The period timer starts a refresh of peer d. -/
def refreshDue (s : State) (d : Nat) : Prop :=
  domState s 1 = 0 ∧ dsEnabled s d = true ∧ (refreshOf s d).isNone = true ∧ d < 16 ∧
    (dsEntry s d).any (fun b => leAt b 8 4 != 0) = true

theorem dsRefresh_due (hp : s.pwr.down = false) (h : refreshDue s d.toNat) :
    execDsRefresh none tag d s = settled (refreshBegin s d.toNat none) :=
  (actSettle_of hp _).trans (congrArg settled (if_pos h))

theorem dsRefresh_idle (hp : s.pwr.down = false) (h : ¬ refreshDue s d.toNat) : execDsRefresh none tag d s = settled s :=
  (actSettle_of hp _).trans (congrArg settled (if_neg h))

theorem mayDs_iff {q : Sender} : mayDs q = true ↔ q = .inst 0 ∨ q = .agent 0 := by
  rw [mayDs, Bool.or_eq_true, beq_iff_eq, beq_iff_eq]

theorem mayDs_eq_false_iff {q : Sender} : mayDs q = false ↔ ¬ (q = .inst 0 ∨ q = .agent 0) := by
  rw [← mayDs_iff, Bool.not_eq_true]

theorem dsOk_iff {b : List Byte} : dsOk b = true ↔ b.length = 64 ∧ (leAt b 0 1 = 2 ∨ leAt b 0 1 = 3) ∧ leAt b 1 1 < 128 ∧
    (leAt b 3 1 < 64 ∨ leAt b 3 1 = 0xFF) ∧ leAt b 4 1 < 4 ∧ leAt b 5 3 = 0 ∧ leAt b 12 4 = 0 := by
  simp only [dsOk, Bool.and_eq_true, Bool.or_eq_true, beq_iff_eq, decide_eq_true_eq, and_assoc]

/-- The words that name a DS request of peer d. -/
def dsWord (code : Nat) (d : BitVec 16) (tag : Byte) : Nat := code + d.toNat * 2 ^ 8 + tag.toNat * 2 ^ 24

/-- What a requester's DS_REFRESH does. -/
def dsRefreshAnswer (b : State) (q : Sender) (tag : Byte) (d : BitVec 16) : State :=
  if mayDs q = false then b.answer q (dsWord 0x71 d tag) 1 [] true
  else if 16 ≤ d.toNat then b.answer q (dsWord 0x71 d tag) 6 [] true
  else if dsEnabled b d.toNat = false then b.answer q (dsWord 0x71 d tag) 3 [] true
  else if (refreshOf b d.toNat).isSome then b.answer q (dsWord 0x71 d tag) 2 [] true
  else refreshBegin (b.answer q (dsWord 0x71 d tag) 7 [] false) d.toNat (some (q, dsWord 0x71 d tag))

/-- What DS_SET does. -/
def dsSetAnswer (b : State) (q : Sender) (tag : Byte) (d : BitVec 16) (addr : Dword) (entry : HostRead) (kind : Fin 4) : State :=
  if mayDs q = false then b.answer q (dsWord 0x70 d tag) 1 [] true
  else if 16 ≤ d.toNat then b.answer q (dsWord 0x70 d tag) 6 [] true
  else match entry with
    | none => readFailed b q (dsWord 0x70 d tag) addr.toNat kind.val
    | some x => if dsOk x then (dsPut b d.toNat x).answer q (dsWord 0x70 d tag) 0 [] true
        else b.answer q (dsWord 0x70 d tag) 6 [] true

section
variable {q : Sender} (hh : Heard s q)
include hh

theorem dsRefresh_of : execDsRefresh (some q) tag d s = served (dsRefreshAnswer (behalf s q) q tag d) :=
  request_unlogged hh _ (by decide) _

theorem dsSet_of (addr : Dword) (entry : HostRead) (kind : Fin 4) :
    execDsSet q tag d addr entry kind s = served (dsSetAnswer (behalf s q) q tag d addr entry kind) :=
  request_unlogged hh _ (by decide) _

end

section
variable {q : Sender} {b : State}

theorem dsRefreshAnswer_denied (hq : ¬ (q = .inst 0 ∨ q = .agent 0)) :
    dsRefreshAnswer b q tag d = b.answer q (dsWord 0x71 d tag) 1 [] true := if_pos (mayDs_eq_false_iff.2 hq)

theorem dsSetAnswer_denied (hq : ¬ (q = .inst 0 ∨ q = .agent 0)) (addr : Dword) (entry : HostRead) (kind : Fin 4) :
    dsSetAnswer b q tag d addr entry kind = b.answer q (dsWord 0x70 d tag) 1 [] true := if_pos (mayDs_eq_false_iff.2 hq)

variable (hq : q = .inst 0 ∨ q = .agent 0)
include hq

theorem dsRefreshAnswer_beyond (hd : 16 ≤ d.toNat) : dsRefreshAnswer b q tag d = b.answer q (dsWord 0x71 d tag) 6 [] true :=
  (if_neg (mt mayDs_eq_false_iff.1 (not_not.2 hq))).trans (if_pos hd)

theorem dsSetAnswer_beyond (hd : 16 ≤ d.toNat) (addr : Dword) (entry : HostRead) (kind : Fin 4) :
    dsSetAnswer b q tag d addr entry kind = b.answer q (dsWord 0x70 d tag) 6 [] true :=
  (if_neg (mt mayDs_eq_false_iff.1 (not_not.2 hq))).trans (if_pos hd)

variable (hd : d.toNat < 16)
include hd

theorem dsRefreshAnswer_within : dsRefreshAnswer b q tag d =
    if dsEnabled b d.toNat = false then b.answer q (dsWord 0x71 d tag) 3 [] true
    else if (refreshOf b d.toNat).isSome then b.answer q (dsWord 0x71 d tag) 2 [] true
    else refreshBegin (b.answer q (dsWord 0x71 d tag) 7 [] false) d.toNat (some (q, dsWord 0x71 d tag)) :=
  (if_neg (mt mayDs_eq_false_iff.1 (not_not.2 hq))).trans (if_neg (not_le.2 hd))

theorem dsSetAnswer_unread (addr : Dword) (kind : Fin 4) :
    dsSetAnswer b q tag d addr none kind = readFailed b q (dsWord 0x70 d tag) addr.toNat kind.val :=
  (if_neg (mt mayDs_eq_false_iff.1 (not_not.2 hq))).trans (if_neg (not_le.2 hd))

theorem dsSetAnswer_read (addr : Dword) (x : List Byte) (kind : Fin 4) : dsSetAnswer b q tag d addr (some x) kind =
    if dsOk x then (dsPut b d.toNat x).answer q (dsWord 0x70 d tag) 0 [] true else b.answer q (dsWord 0x70 d tag) 6 [] true :=
  (if_neg (mt mayDs_eq_false_iff.1 (not_not.2 hq))).trans (if_neg (not_le.2 hd))

end

end

section
variable {s : State} {t : Fin 6} {e : Byte} {ses : Option Word} {msg : List Byte} {us : Word}

/-- The vendor operations but CUSTODY_IMPORT, with the lengths of their payloads and their features. -/
def vendorRows (t : Fin 6) (e : Byte) (ses : Option Word) (msg : List Byte) (us : Word) : List (Instr × Nat × Nat) :=
  [(.getPqcChain t e ses msg us, 8, 9), (.pqcAttest t e ses msg us, 38, 9), (.getReport t e ses msg us, 4, 0),
    (.custodyExport t e ses msg us, 4, 8), (.putObject t e ses msg us, 10 + leAt msg 19 2, 8), (.getObject t e ses msg us, 10, 0),
    (.releaseObject t e ses msg us, 4, 0)]

theorem vendorRows_row : ∀ r ∈ vendorRows t e ses msg us, VendorRow s t e ses msg r.1 r.2.1 r.2.2 := by
  unfold vendorRows
  simp only [List.forall_mem_cons]
  exact ⟨getPqcChain_row, pqcAttest_row, getReport_row, custodyExport_row, putObject_row, getObject_row, releaseObject_row,
    List.forall_mem_nil _⟩

theorem vendorRows_import_row : ∀ r ∈ vendorRows t e ses msg us ++
      (if s.att.importing = none then [(Instr.custodyImport t e ses msg us, 4, 8)] else []),
    VendorRow s t e ses msg r.1 r.2.1 r.2.2 := by
  refine List.forall_mem_append.2 ⟨vendorRows_row, ?_⟩
  split
  next hi =>
    intro r hr
    rw [List.mem_singleton.1 hr]
    exact custodyImport_row hi
  · exact List.forall_mem_nil _

/-- Every vendor operation is some row's, under some feature. -/
theorem vendorRow_all (hi : s.att.importing = none) :
    ∀ r ∈ [(Instr.getPqcChain t e ses msg us, 8), (.pqcAttest t e ses msg us, 38), (.getReport t e ses msg us, 4),
      (.custodyExport t e ses msg us, 4), (.putObject t e ses msg us, 10 + leAt msg 19 2), (.getObject t e ses msg us, 10),
      (.releaseObject t e ses msg us, 4), (.custodyImport t e ses msg us, 4)], ∃ feature, VendorRow s t e ses msg r.1 r.2 feature := by
  simp only [List.forall_mem_cons]
  exact ⟨⟨9, getPqcChain_row⟩, ⟨9, pqcAttest_row⟩, ⟨0, getReport_row⟩, ⟨8, custodyExport_row⟩, ⟨8, putObject_row⟩, ⟨0, getObject_row⟩,
    ⟨0, releaseObject_row⟩, ⟨8, custodyImport_row hi⟩, List.forall_mem_nil _⟩

section
variable (ha : Asked s t e ses) {c : AttCtx} (hc : ctxOf s t.val e.toNat = some c)
include ha hc

section
variable (hf : VendorFits msg 10)
include hf

theorem getObject_unknown (h : bytesHeld (noted s t e) t.val e.toNat (leAt (msg.drop 11) 2 2) = none) :
    execGetObject t e ses msg us s =
      settled (vendorStatus (noted s t e) t.val e.toNat (sesNat ses) 7 6 (leAt (msg.drop 11) 2 2) us.toNat) := by
  rw [getObject_of ha hc hf]
  dsimp only
  rw [h]

theorem getObject_known {x : List Byte} (h : bytesHeld (noted s t e) t.val e.toNat (leAt (msg.drop 11) 2 2) = some x) :
    execGetObject t e ses msg us s = settled (
      let u := noted s t e
      let p := msg.drop 11
      if 4096 < leAt p 8 2 ∨ x.length < leAt p 4 4 then vendorStatus u t.val e.toNat (sesNat ses) 7 6 (leAt p 2 2) us.toNat
      else respond' u t.val e.toNat (sesNat ses) 0xFE 0x7E
        (vendorData 7 0 (leAt p 2 2) x.length ((x.drop (leAt p 4 4)).take (leAt p 8 2))) false us.toNat) := by
  rw [getObject_of ha hc hf]
  dsimp only
  rw [h]

end

section
variable (hf : VendorFits msg 4) (hmay : t.val ≤ 1 → hasFeature (s.inc Reg.ATT_CNT_RX) 0 8 = true) (hi : s.att.importing = none)
include hf hmay hi

/-- An import that does not begin ends with its answer. -/
theorem custodyImport_ends {v : State} (hv : v.att.importing = s.att.importing)
    (h : importAnswer t.val e.toNat (sesNat ses) us.toNat (noted s t e) (msg.drop 11) = v) :
    execCustodyImport t e ses msg us s = settled v := by
  rw [custodyImport_of ha hc hf hmay, h, importCommit_none (hv.trans hi)]

theorem custodyImport_denied (ht : 2 < t.val) : execCustodyImport t e ses msg us s =
    settled (vendorStatus (noted s t e) t.val e.toNat (sesNat ses) 6 1 (leAt (msg.drop 11) 2 2) us.toNat) :=
  custodyImport_ends ha hc hf hmay hi (vendorStatus_importing _ _ _ _ _ _ _ _) (importAnswer_denied ht)

section
variable (ht : t.val ≤ 2)
include ht

theorem custodyImport_unknown (ho : objectOf (noted s t e) t.val e.toNat (leAt (msg.drop 11) 2 2) = none) :
    execCustodyImport t e ses msg us s =
      settled (vendorStatus (noted s t e) t.val e.toNat (sesNat ses) 6 6 (leAt (msg.drop 11) 2 2) us.toNat) :=
  custodyImport_ends ha hc hf hmay hi (vendorStatus_importing _ _ _ _ _ _ _ _) (importAnswer_unknown ht ho)

variable {o : AttObj} (ho : objectOf (noted s t e) t.val e.toNat (leAt (msg.drop 11) 2 2) = some o)
include ho

theorem custodyImport_full (hb : buffersFull (noted s t e) = true) : execCustodyImport t e ses msg us s =
    settled (vendorStatus (noted s t e) t.val e.toNat (sesNat ses) 6 2 (leAt (msg.drop 11) 2 2) us.toNat) :=
  custodyImport_ends ha hc hf hmay hi (vendorStatus_importing _ _ _ _ _ _ _ _) (importAnswer_full ht ho hb)

theorem custodyImport_taken (hb : ¬ buffersFull (noted s t e) = true) : execCustodyImport t e ses msg us s = settled (
    let h := leAt (msg.drop 11) 2 2
    let v := importBegun (noted s t e) t.val e.toNat (sesNat ses) h
    let r := fwCommit v [⟨0x06, 0, 1, 0, importEntry v o.bytes⟩]
    match importFault (noted s t e) o.bytes with
    | some (k, st) => vendorReady (attLog (attError (noted s t e) t.val e.toNat (sesNat ses) 0x42 12) Ev.CUSTODY_REFUSED t.val
        (leBytes 1 6 ++ leBytes 1 k ++ leBytes 1 st)) t.val e.toNat 6 st h 0
    | none =>
      if r.2 = 0 then importFinish (ldgLog r.1 Ev.EPOCH_COMMITTED (leBytes 8 (ldgEpoch r.1) ++ (ldgRoot r.1).take 28))
      else if r.2 = 0x01 ∨ r.2 = 0x14 then r.1
      else vendorReady (attLog { r.1 with att := { r.1.att with importing := none } } Ev.CUSTODY_REFUSED t.val
        (leBytes 1 6 ++ [0] ++ leBytes 1 3)) t.val e.toNat 6 3 h 0) := by
  have hu : (noted s t e).att.importing = none := hi
  dsimp only
  split
  next k st hk =>
    refine custodyImport_ends ha hc hf hmay hi ?_ (importAnswer_faulty ht ho hb hu hk)
    exact (vendorReady_importing _ _ _ _ _ _ _).trans (congrArg Att.importing (attLog_att _ _ _ _) :)
  next hk =>
    rw [custodyImport_of ha hc hf hmay, importAnswer_begins ht ho hb hu hk]
    exact congrArg settled (importCommit_begun ho)

end

end

end

end

end Sys2Proof.Machine
end

section
/-! O55 settled. -/

namespace Sys2Proof.Machine

section
variable {s : State} {t : Fin 6} {e : Byte} {ses : Option Word} {msg : List Byte} {us : Word}

theorem VendorRow.unanswered {i : Instr} {want feature : Nat} (h : VendorRow s t e ses msg i want feature) (hp : s.pwr.down = false) :
    (¬ Answering s t → exec i s = settled s) ∧
    (Answering s t → 4 ≤ msg.length → leAt msg 9 2 = (msg.drop 11).length → (msg.drop 11).length = want →
      ses.any (fun i => (sessionOf s i.toNat).isNone) = true →
      exec i s = settled (attDrop (s.inc Reg.ATT_CNT_RX) t.val e.toNat 6 msg.length false)) :=
  ⟨h.silent hp, fun ha h4 hlen hw hs => h.sessionless hp ha ⟨h4, hlen, hw⟩ (by rw [Option.any_map]; exact hs)⟩

theorem custodyImport_row_of (ha : Asked s t e ses) : execCustodyImport t e ses msg us s =
    settled (importCommit (custodyImport s t.val e.toNat (sesNat ses) msg us.toNat)) := by
  obtain ⟨hp, hd, hl, -, -⟩ := ha
  exact attRow_of hp t hd hl _

end

/-- Settles O55: each vendor operation and each request of the downstream table is refused, or done, as the state calls for. -/
theorem vendorOperations : Obligations.VendorOperations := by
  refine ⟨fun s t e ses msg us hp hi => ?_, fun s t e ses msg us ha => ⟨?_, fun c hc => ⟨?_, ?_, ?_, ?_, ?_, ?_, ?_⟩, ?_⟩, ?_, ?_, ?_⟩
  · intro answers p r hr
    obtain ⟨feature, hrow⟩ := vendorRow_all hi r hr
    exact hrow.unanswered hp
  · exact fun r hr => (vendorRows_import_row r hr).refuses ha
  · exact fun hf hmay => getPqcChain_of ha hc hf hmay
  · exact fun hf hmay => (pqcAttest_of ha hc hf hmay).trans (congrArg settled (if_congr Iff.rfl rfl (prepareObject_eq _ _ _ _ _ _ _ _ _)))
  · exact fun hf => ⟨getReport_unknown ha hc hf,
      fun b hb => (getReport_known ha hc hf hb).trans (congrArg settled (prepareObject_eq _ _ _ _ _ _ _ _ _)),
      releaseObject_unknown ha hc hf, fun o => releaseObject_known ha hc hf⟩
  · exact fun hf hmay => custodyExport_of ha hc hf hmay
  · refine fun hf hmay => ⟨fun hl => ?_, fun hl h0 => ?_, fun hl h0 ho => ?_, fun o hl h0 ho => ?_⟩
    · exact (putObject_of ha hc hf hmay).trans (congrArg settled (putAnswer_long hl))
    · exact (putObject_of ha hc hf hmay).trans (congrArg settled (putAnswer_new hl h0))
    · exact (putObject_of ha hc hf hmay).trans (congrArg settled (putAnswer_unknown hl h0 ho))
    · exact (putObject_of ha hc hf hmay).trans (congrArg settled (putAnswer_known hl h0 ho))
  · exact fun hf => ⟨getObject_unknown ha hc hf, fun x => getObject_known ha hc hf⟩
  · refine fun hf hmay hi => ⟨custodyImport_denied ha hc hf hmay hi, fun ht ho => custodyImport_unknown ha hc hf hmay hi ht ho,
      fun o ht ho hb => ?_, fun o ht ho hb => ?_⟩
    · exact custodyImport_full ha hc hf hmay hi ht ho (buffersFull_iff.2 hb)
    · exact custodyImport_taken ha hc hf hmay hi ht ho (mt buffersFull_iff.1 hb)
  · exact fun _ => custodyImport_row_of ha
  · exact fun s h hp => objectBufferTimeout_of hp h
  · refine fun s tag d hp => ⟨fun ⟨hd, hen, hr, hlt, hper⟩ => ?_, fun hno => ?_⟩
    · exact dsRefresh_due (tag := tag) hp ⟨hd, hen, Option.isNone_iff_eq_none.2 hr, hlt, hper⟩
    · exact dsRefresh_idle (tag := tag) hp fun ⟨hd, hen, hr, hlt, hper⟩ => hno ⟨hd, hen, Option.isNone_iff_eq_none.1 hr, hlt, hper⟩
  · refine fun s q tag d hh => ⟨fun hq => ⟨?_, fun a en k => ?_⟩, fun hq hd => ⟨?_, fun a en k => ?_⟩,
      fun hq hd => ⟨fun hen => ?_, fun hen hr => ?_, fun hen hr => ?_, fun a k => ?_, fun a en k => ⟨fun hok => ?_, fun hok => ?_⟩⟩⟩
    · exact (dsRefresh_of hh).trans (congrArg served (dsRefreshAnswer_denied hq))
    · exact (dsSet_of hh a en k).trans (congrArg served (dsSetAnswer_denied hq a en k))
    · exact (dsRefresh_of hh).trans (congrArg served (dsRefreshAnswer_beyond hq hd))
    · exact (dsSet_of hh a en k).trans (congrArg served (dsSetAnswer_beyond hq hd a en k))
    · exact (dsRefresh_of hh).trans (congrArg served ((dsRefreshAnswer_within hq hd).trans (if_pos hen)))
    · exact (dsRefresh_of hh).trans (congrArg served ((dsRefreshAnswer_within hq hd).trans
        ((if_neg (by rw [hen]; decide)).trans (if_pos hr))))
    · exact (dsRefresh_of hh).trans (congrArg served ((dsRefreshAnswer_within hq hd).trans
        ((if_neg (by rw [hen]; decide)).trans (if_neg (by rw [hr]; decide)))))
    · exact (dsSet_of hh a none k).trans (congrArg served (dsSetAnswer_unread hq hd a k))
    · exact (dsSet_of hh a (some en) k).trans (congrArg served ((dsSetAnswer_read hq hd a en k).trans (if_pos (dsOk_iff.2 hok))))
    · exact (dsSet_of hh a (some en) k).trans (congrArg served ((dsSetAnswer_read hq hd a en k).trans (if_neg (mt dsOk_iff.1 hok))))

end Sys2Proof.Machine
end

section
/-! Writes of a register by its owner, and O57: detector events, the evidence counter, the cell window and the BACKUP samples. -/

namespace Sys2Proof.Machine

/-! ### A write in the privileged view or by the owner (R7, R408-R410) -/

section
variable {s : State} {p : Party} {a : Nat} {r : RegRow} {v : Word}

theorem writeWord_taken (hr : rowAt a = some r) (hown : ownedWrite s p r a v 0xF = none) (hm : isMpu a = false)
    (hv : privileged s p = true ∨ (ownsUi p a = true ∧ r.fields.any (fun f => f.view == .ui) = true)) :
    writeWord s p a v 0xF = acceptWrite s p r a v 0xF := by
  simp only [writeWord, hr, hown, if_pos hv, hm, Bool.false_eq_true, if_false]
  cases p <;> rfl

/-- A whole word that the owner of a register, or a party in the privileged view, writes to it is accepted under the register's
access codes. -/
theorem writeRow_taken (hw : Writer s p a) (hr : rowAt a = some r) (hpl : r.pairLow = false)
    (hown : ownedWrite s p r a v 0xF = none) (hm : isMpu a = false) (hmir : inMirror a = false)
    (hui : ownsUi p a = true → r.fields.any (fun f => f.view == .ui) = true) :
    writeRow p a v 0xF s = settled (acceptWrite s p r a v 0xF) := by
  obtain ⟨hdown, hmay, hreach, hview, hheld⟩ := hw
  have hpair : isWritePair a = false := by simp [isWritePair, isPairLow, hr, hpl]
  have hword := writeWord_taken hr hown hm (hview.imp_right fun h => ⟨h, hui h⟩)
  have hat : regWrite.regWriteAt s p a v 0xF = acceptWrite s p r a v 0xF := by
    simp only [regWrite.regWriteAt, hmir, hpair, hheld, hword, Bool.false_eq_true, false_and, if_false]
  have hdebug : ¬ (p = .debug ∧ debugLevel s ≠ 3) := by
    rintro ⟨rfl, hn⟩
    simp [privileged, ownsUi] at hview
    exact hn hview
  have hreg : regWrite s p a v 0xF = acceptWrite s p r a v 0xF := by
    simp only [regWrite, touched_of_privileged hview, hreach, if_neg hdebug, Bool.true_eq_false, if_false, ne_eq,
      not_true_eq_false]
    cases p <;> exact hat
  refine congrArg Host.Outcome.next ((if_neg (by simp [hdown])).trans ?_)
  dsimp only
  rw [if_pos hmay, hreg]

end

section
variable {s : State}

/-! ### Detector events (R330-R332, R335) -/

theorem rd_tickTo {k a : Nat} (hlo : a ≠ Reg.TMP_VBAT_TICK_LO) (hhi : a ≠ Reg.TMP_VBAT_TICK_HI) :
    (tickTo s k).rd a = s.rd a := by
  unfold tickTo
  split
  · rw [State.wr64, State.rd_wr_of_ne _ _ hhi, State.rd_wr_of_ne _ _ hlo]
  · rfl

theorem detectorOn_tickTo {k x d : Nat} : detectorOn (tickTo s k) x d = detectorOn s x d := by
  have hfused : (tickTo s k).rd Reg.TMP_FUSED = s.rd Reg.TMP_FUSED := rd_tickTo (by decide) (by decide)
  have hstat : (tickTo s k).rd Reg.TMP_STAT = s.rd Reg.TMP_STAT := rd_tickTo (by decide) (by decide)
  have hsrc : (tickTo s k).rd (Reg.TMP_SRC_CFG x) = s.rd (Reg.TMP_SRC_CFG x) :=
    rd_tickTo (by unfold Reg.TMP_SRC_CFG Reg.TMP_VBAT_TICK_LO; omega) (by unfold Reg.TMP_SRC_CFG Reg.TMP_VBAT_TICK_HI; omega)
  have hext : (tickTo s k).rd (Reg.TMP_EXT_CFG (x - 5)) = s.rd (Reg.TMP_EXT_CFG (x - 5)) :=
    rd_tickTo (by unfold Reg.TMP_EXT_CFG Reg.TMP_VBAT_TICK_LO; omega) (by unfold Reg.TMP_EXT_CFG Reg.TMP_VBAT_TICK_HI; omega)
  unfold detectorOn fused
  rw [bit_of_rd hfused, bit_of_rd hstat, bit_of_rd hsrc, bit_of_rd hext]

/-- Event x's detector d has already been taken at tick k. -/
def tickTaken (u : State) (x d k : Nat) : Bool := u.tmp.ticked.any (fun p => p.1 == 2 * x + d && p.2 == k)

/-- The state that has taken tick k's event of detector d. -/
def tickNoted (u : State) (x d k : Nat) : State :=
  { u with tmp := { u.tmp with ticked := (2 * x + d, k) :: u.tmp.ticked.filter (fun p => p.1 != 2 * x + d) } }

/-- The events that count with one of source x's detector d at tick k, that one with them. -/
def eventsWith (u : State) (x d k : Nat) : List TmpEvent :=
  counted u.tmp.hist x k (cfgWindow (u.rd (Reg.TMP_SRC_CFG x))) ++ [⟨x, d, k⟩]

/-- The threshold of source x in force. -/
def thresholdOf (u : State) (x : Nat) : Nat := if forcedNow u then 1 else cfgThresh x (u.rd (Reg.TMP_SRC_CFG x))

/-- The state that has counted an event short of the threshold. -/
def eventCounted (v : State) (x d k n : Nat) (extra : List Byte) : State :=
  (({ v with tmp := { v.tmp with hist := v.tmp.hist ++ [(⟨x, d, k⟩ : TmpEvent)] } } : State).inc (Reg.TMP_SRC_CNT x)).log
    Ev.DETECTOR_EVENT .tamper x (leBytes 1 (d + 1) ++ leBytes 6 k ++ leBytes 1 n ++ extra)

theorem detectorEvent_on {x d k : Nat} {extra : List Byte} (hon : detectorOn s x d = true) : detectorEvent s x d k extra =
    if tickTaken (tickTo s k) x d k = true then tickTo s k
    else
      let v := tickNoted (tickTo s k) x d k
      let all := eventsWith v x d k
      if thresholdOf v x ≤ all.length then
        alarm v x (detMask all) k (thresholdOf v x) (cfgWindow (v.rd (Reg.TMP_SRC_CFG x))) (forcedNow v)
      else eventCounted v x d k all.length extra := by
  refine if_congr ?_ rfl rfl
  rw [detectorOn_tickTo, hon]
  exact or_iff_right (by decide)

section
variable (hp : s.pwr.down = false)
include hp

theorem detectorEvent_of (src : Fin 15) (det : Fin 2) (stamp : BitVec 48) (lasting : Bool) (extra : List Byte) :
    execDetectorEvent src det stamp lasting extra s = settled (
      let t := setActive s src.val det.val lasting
      if detectorOn t src.val det.val then
        wake (detectorEvent t src.val det.val (max stamp.toNat (vbatTick t))
          (if src.val = 14 ∧ det.val = 0 then takePad 12 extra else [])) 4
      else t) := actSettle_of hp _

theorem detectorEvent_off {src : Fin 15} {det : Fin 2} {stamp : BitVec 48} {lasting : Bool} {extra : List Byte}
    (h : detectorOn (setActive s src.val det.val lasting) src.val det.val = false) :
    execDetectorEvent src det stamp lasting extra s = settled (setActive s src.val det.val lasting) :=
  (detectorEvent_of hp src det stamp lasting extra).trans (congrArg settled (if_neg (by rw [h]; decide)))

/-- An event of a detector that takes part: taken before at its tick, counted, or an alarm. -/
theorem detectorEvent_taken {src : Fin 15} {det : Fin 2} {stamp : BitVec 48} {lasting : Bool} {extra : List Byte}
    (h : detectorOn (setActive s src.val det.val lasting) src.val det.val = true) :
    execDetectorEvent src det stamp lasting extra s = settled (wake (
      let t := setActive s src.val det.val lasting
      let k := max stamp.toNat (vbatTick t)
      let v := tickNoted (tickTo t k) src.val det.val k
      let all := eventsWith v src.val det.val k
      if tickTaken (tickTo t k) src.val det.val k = true then tickTo t k
      else if thresholdOf v src.val ≤ all.length then
        alarm v src.val (detMask all) k (thresholdOf v src.val) (cfgWindow (v.rd (Reg.TMP_SRC_CFG src.val))) (forcedNow v)
      else eventCounted v src.val det.val k all.length (if src.val = 14 ∧ det.val = 0 then takePad 12 extra else [])) 4) :=
  (detectorEvent_of hp src det stamp lasting extra).trans (congrArg settled ((if_pos h).trans
    (congrArg (wake · 4) (detectorEvent_on h))))

/-! ### The evidence counter, the cell window and the lock (R337, R344, R346) -/

theorem lockdownRecordJournaled_of : execLockdownRecordJournaled s = settled (match s.tmp.target with
    | some t => advanceEvidence { s with tmp := { s.tmp with target := none } } t
    | none => s) := actSettle_of hp _

theorem lockdownRecordJournaled_none (h : s.tmp.target = none) : execLockdownRecordJournaled s = settled s := by
  rw [lockdownRecordJournaled_of hp, h]

theorem lockdownRecordJournaled_some {k : Nat} (h : s.tmp.target = some k) : execLockdownRecordJournaled s =
    settled (advanceEvidence { s with tmp := { s.tmp with target := none } } k) := by
  rw [lockdownRecordJournaled_of hp, h]

omit hp in
/-- The cell window closed: with a cell the canary is written again. -/
theorem cellClose_eq (s : State) (cell timeout : Bool) : cellClose s cell timeout =
    let t := s.setBit Reg.TMP_STAT 5 false
    if cell then (({ t with tmp := { t.tmp with canary := true, canaryWord := true } } : State).setBit Reg.TMP_ACTIVE 27 false).log
      Ev.CELL_WINDOW .tamper 13 (leBytes 1 0)
    else if timeout then t.log Ev.CELL_WINDOW .tamper 13 (leBytes 1 2) else t := by
  cases cell with
  | true => rfl
  | false => rfl

theorem cellWindowTimeout_of (cell : Bool) : execCellWindowTimeout cell s = settled (
    if s.bit Reg.TMP_STAT 5 = false then s else cellClose s cell true) := by
  refine (actSettle_of hp _).trans (congrArg settled ?_)
  cases s.bit Reg.TMP_STAT 5 <;> rfl

omit hp in
theorem tmpLockWrite_of {p : Party} (hw : Writer s p Reg.TMP_CTL) :
    ∃ t, Eventful s t ∧ execTmpLockWrite p s = settled (tmpLock t) := by
  have hrow : ∃ r, rowAt Reg.TMP_CTL = some r ∧ r.base = Reg.TMP_CTL ∧ r.pairLow = false :=
    ⟨_, rfl, rfl, rfl⟩
  obtain ⟨r, hr, hbase, hpl⟩ := hrow
  have hno : ownsUi p Reg.TMP_CTL = false := by
    cases p with
    | inst n =>
      have hfar : ¬ (0x20410000 + 0x100 * n.val ≤ Reg.TMP_CTL ∧ Reg.TMP_CTL < 0x20410100 + 0x100 * n.val) := by
        unfold Reg.TMP_CTL
        omega
      simp only [ownsUi, decide_eq_false hfar, Bool.false_or, Bool.and_eq_false_iff]
      exact .inr rfl
    | _ => rfl
  have hown : ownedWrite s p r Reg.TMP_CTL 1 0xF = none := by
    unfold ownedWrite Reg.TMP_CTL
    rw [if_neg (by omega), if_neg (by omega), if_neg (by omega), if_neg (by decide)]
  refine ⟨_, Eventful.noteChange s p.origin r Reg.TMP_CTL (s.rd Reg.TMP_CTL) 1 0xF,
    (writeRow_taken hw hr hpl hown rfl rfl (by rw [hno]; nofun)).trans (congrArg settled ?_)⟩
  have hlogged : discardLogged s r Reg.TMP_CTL = false := discardLogged_eq_false (.inl (by rw [hbase]; decide))
  have hquiet : discardQuiet s Reg.TMP_CTL = false := discardQuiet_eq_false (by decide)
  refine (if_neg (by rw [hlogged]; decide)).trans ((if_neg (by rw [hquiet]; decide)).trans ?_)
  rfl

end

/-! ### On the cell alone (R341) -/

theorem backupSample_idle {quiet : Nat} {seen : BitVec 30} (h : ¬ (s.pwr.down = true ∧ s.tmp.cell = true)) :
    execBackupSample quiet seen s = .next s := congrArg Host.Outcome.next (if_neg h)

theorem backupSample_cell {quiet : Nat} {seen : BitVec 30} (hd : s.pwr.down = true) (hc : s.tmp.cell = true) :
    execBackupSample quiet seen s = .next (
      let t := (vbatTick s + 32 * (quiet + 1)) % 2 ^ 48
      backupSources (tickTo s t) t (seenSources seen)) := congrArg Host.Outcome.next (if_pos ⟨hd, hc⟩)

end

end Sys2Proof.Machine
end

section
/-! O57: the tamper requests. -/

namespace Sys2Proof.Machine

/-! ### Tickets (R338, R347) -/

section
variable {s t : State}

theorem Eventful.ticketSlot_eq (h : Eventful s t) (v : Nat) : ticketSlot t v = ticketSlot s v := by
  have hat (i : Nat) (hi : i ∈ List.range 4) :
      (t.bit (Reg.LCS_TICKET_INFO i) 12 && (t.rd (Reg.LCS_TICKET i)).toNat == v) =
      (s.bit (Reg.LCS_TICKET_INFO i) 12 && (s.rd (Reg.LCS_TICKET i)).toNat == v) := by
    have hi := List.mem_range.1 hi
    rw [h.bit_eq (by unfold recorderWord Reg.LCS_TICKET_INFO; omega), h.2 _ (by unfold recorderWord Reg.LCS_TICKET; omega)]
  exact List.find?_congr hat

theorem ticketSlot_lt {v i : Nat} (h : ticketSlot s v = some i) : i < 4 := List.mem_range.1 (List.mem_of_find?_eq_some h)

theorem Eventful.validTicket_eq (h : Eventful s t) (q : Sender) (v : Word) (scope : Nat) :
    validTicket t q v scope = validTicket s q v scope := by
  unfold validTicket
  rw [h.ticketSlot_eq]
  cases hi : ticketSlot s v.toNat with
  | none => rfl
  | some i =>
    have hlt := ticketSlot_lt hi
    dsimp only
    rw [h.fld_eq (by unfold recorderWord Reg.LCS_TICKET_INFO; omega), h.bit_eq (by unfold recorderWord Reg.LCS_TICKET_INFO; omega)]

theorem validTicket_lt {q : Sender} {v : Word} {scope i : Nat} (h : validTicket s q v scope = some i) : i < 4 := by
  unfold validTicket at h
  split at h
  next j hj =>
    split at h
    · rw [← Option.some.inj h]
      exact ticketSlot_lt hj
    · exact absurd h nofun
  · exact absurd h nofun

/-- A ticket used changes its own registers, and no other but the recorder's. -/
theorem rd_useTicket {i code a : Nat} (ha : ¬ recorderWord a) (hv : a ≠ Reg.LCS_TICKET i) (hn : a ≠ Reg.LCS_TICKET_INFO i) :
    (useTicket s i code).rd a = s.rd a := by
  refine ((Eventful.log (setTicket s i none 0 0 0) _ _ _ _).2 a ha).trans ?_
  rw [setTicket]
  exact (State.rd_wr_of_ne _ _ hn).trans (State.rd_wr_of_ne _ _ hv)

/-- What a command with a taken ticket reads outside the tickets' registers and the recorder's. -/
theorem rd_usedTicket (h : Eventful s t) {i code a : Nat} (hi : i < 4) (ha : ¬ recorderWord a) (hout : a < 0x20070060 ∨ 0x20070080 ≤ a) :
    (useTicket t i code).rd a = s.rd a := by
  rw [rd_useTicket ha (by unfold Reg.LCS_TICKET; omega) (by unfold Reg.LCS_TICKET_INFO; omega), h.2 a ha]

end

theorem mayControl_iff {q : Sender} : mayControl q = true ↔ q = .agent 0 ∨ q = .inst 0 := by
  rw [mayControl, Bool.or_eq_true, beq_iff_eq, beq_iff_eq]

theorem mayControl_eq_false_iff {q : Sender} : mayControl q = false ↔ ¬ (q = .agent 0 ∨ q = .inst 0) := by
  rw [← mayControl_iff, Bool.not_eq_true]

section
variable {s : State} {q : Sender} {tag : Byte} {ticket : Word}

section
variable {b : State} {w0 scope : Nat} {f : Nat → State}

theorem withTicket_denied (h : ¬ (q = .agent 0 ∨ q = .inst 0) ∨ validTicket b q ticket scope = none) :
    withTicket b q w0 ticket scope f = b.answer q w0 1 [] true := by
  by_cases hq : mayControl q = false
  · exact if_pos hq
  · refine (if_neg hq).trans ?_
    rw [h.resolve_left (mt mayControl_eq_false_iff.2 hq)]

theorem withTicket_valid (hq : q = .agent 0 ∨ q = .inst 0) {i : Nat} (hi : validTicket b q ticket scope = some i) :
    withTicket b q w0 ticket scope f = f i := by
  refine (if_neg (mt mayControl_eq_false_iff.1 (not_not.2 hq))).trans ?_
  rw [hi]

end

/-! ### What each request does, on the state that has taken it -/

/-- The word that names a tamper request. -/
def tamperWord (code x : Nat) (tag : Byte) : Nat := reqWord code x 0 tag.toNat

/-- UNLOCK's transaction tried for the ticket (R338). -/
def unlockAnswer (b : State) (q : Sender) (w0 : Nat) (ticket : Word) (i : Nat) : State :=
  if lockedDown b = false then (useTicket b i 0x50).answer q w0 3 [] true
  else if b.tmp.unlock.isSome then (useTicket b i 0x50).answer q w0 2 [] true
  else
    let t := b.answer q w0 7 [] false
    unlockTry { t with tmp := { t.tmp with unlock := some (q, w0, ticket.toNat) } }

/-- What CELL_SERVICE_OPEN does with its ticket used (R344). -/
def cellOpenAnswer (t : State) (q : Sender) (w0 : Nat) : State :=
  if t.bit Reg.TMP_STAT 5 then t.answer q w0 2 [] true
  else ((t.setBit Reg.TMP_STAT 5 true).log Ev.CELL_WINDOW .tamper 13 (leBytes 1 1)).answer q w0 0 [] true

/-- What FUSE_SOURCE does with a permitted source below 14 and its ticket used (R347). -/
def fuseAnswer (t : State) (q : Sender) (w0 x : Nat) : State :=
  if t.bit Reg.TMP_FUSED x then t.answer q w0 0 [] true
  else if lcState t ≠ 0 ∧ lcState t ≠ 2 then t.answer q w0 3 [] true
  else (blowFuse (t.answer q w0 7 [] false) x).answer q w0 0 [] true

section
variable (hh : Heard s q)
include hh

theorem unlock_of : execUnlock q tag ticket s = served (withTicket (taken s q 0x50) q (tamperWord 0x50 0 tag) ticket 0
    (unlockAnswer (taken s q 0x50) q (tamperWord 0x50 0 tag) ticket)) := request_heard hh _ _ _

theorem cellServiceOpen_of : execCellServiceOpen q tag ticket s = served (withTicket (taken s q 0x51) q (tamperWord 0x51 0 tag) ticket 3
    (fun i => cellOpenAnswer (useTicket (taken s q 0x51) i 0x51) q (tamperWord 0x51 0 tag))) := request_heard hh _ _ _

theorem fuseSource_of (src : BitVec 16) : execFuseSource q tag src ticket s =
    served (withTicket (taken s q 0x53) q (tamperWord 0x53 src.toNat tag) ticket 4 (fun i =>
      if 14 ≤ src.toNat then (useTicket (taken s q 0x53) i 0x53).answer q (tamperWord 0x53 src.toNat tag) 6 [] true
      else if bitOf (ticketSources (taken s q 0x53) i) src.toNat = false then
        (taken s q 0x53).answer q (tamperWord 0x53 src.toNat tag) 1 [] true
      else fuseAnswer (useTicket (taken s q 0x53) i 0x53) q (tamperWord 0x53 src.toNat tag) src.toNat)) := request_heard hh _ _ _

theorem cellServiceClose_of (cell : Bool) : execCellServiceClose q tag cell s = served (
    if mayControl q = false then (taken s q 0x52).answer q (tamperWord 0x52 0 tag) 1 [] true
    else if (taken s q 0x52).bit Reg.TMP_STAT 5 = false then (taken s q 0x52).answer q (tamperWord 0x52 0 tag) 3 [] true
    else (cellClose (taken s q 0x52) cell false).answer q (tamperWord 0x52 0 tag) 0 [] true) := request_heard hh _ _ _

theorem tamperStatus_of : execTamperStatus q tag s = served (
    if mayControl q = false ∧ q ≠ .agent 1 then (taken s q 0x54).answer q (tamperWord 0x54 0 tag) 1 [] true
    else (taken s q 0x54).answer q (tamperWord 0x54 0 tag) 0
      ([Reg.TMP_STAT, Reg.TMP_ALARM, Reg.TMP_ACTIVE, Reg.TMP_FUSED, Reg.TMP_EVIDENCE].flatMap
        (fun a => leBytes 4 ((taken s q 0x54).rd a).toNat)) true) := request_heard hh _ _ _

/-! ### Requests without a ticket (R338, R347) -/

section
variable {scope : Nat} (h : ¬ (q = .agent 0 ∨ q = .inst 0) ∨ validTicket s q ticket scope = none)
include h

omit hh in
theorem ticketless (code : Nat) : ¬ (q = .agent 0 ∨ q = .inst 0) ∨ validTicket (taken s q code) q ticket scope = none :=
  h.imp_right ((taken_eventful s q code).validTicket_eq q ticket scope).trans

end

theorem unlock_denied (h : ¬ (q = .agent 0 ∨ q = .inst 0) ∨ validTicket s q ticket 0 = none) :
    execUnlock q tag ticket s = answered (taken s q 0x50) q (tamperWord 0x50 0 tag) 1 [] :=
  (unlock_of hh).trans (congrArg served (withTicket_denied (ticketless h 0x50)))

theorem cellServiceOpen_denied (h : ¬ (q = .agent 0 ∨ q = .inst 0) ∨ validTicket s q ticket 3 = none) :
    execCellServiceOpen q tag ticket s = answered (taken s q 0x51) q (tamperWord 0x51 0 tag) 1 [] :=
  (cellServiceOpen_of hh).trans (congrArg served (withTicket_denied (ticketless h 0x51)))

theorem fuseSource_denied (src : BitVec 16) (h : ¬ (q = .agent 0 ∨ q = .inst 0) ∨ validTicket s q ticket 4 = none) :
    execFuseSource q tag src ticket s = answered (taken s q 0x53) q (tamperWord 0x53 src.toNat tag) 1 [] :=
  (fuseSource_of hh src).trans (congrArg served (withTicket_denied (ticketless h 0x53)))

/-! ### Requests with a ticket -/

section
variable (hq : q = .agent 0 ∨ q = .inst 0) {i : Nat}
include hq

section
variable (hi : validTicket s q ticket 0 = some i)
include hi

theorem unlock_valid : execUnlock q tag ticket s = served (unlockAnswer (taken s q 0x50) q (tamperWord 0x50 0 tag) ticket i) :=
  (unlock_of hh).trans (congrArg served (withTicket_valid hq (((taken_eventful s q 0x50).validTicket_eq q ticket 0).trans hi)))

omit hh hq hi in
theorem lockedDown_taken (code : Nat) : lockedDown (taken s q code) = lockedDown s :=
  (taken_eventful s q code).bit_eq (by unfold recorderWord; decide) 0

theorem unlock_unlocked (hl : lockedDown s = false) : execUnlock q tag ticket s =
    answered (useTicket (taken s q 0x50) i 0x50) q (tamperWord 0x50 0 tag) 3 [] :=
  (unlock_valid hh hq hi).trans (congrArg served (if_pos ((lockedDown_taken 0x50).trans hl)))

variable (hl : lockedDown s = true)
include hl

theorem unlock_busy (hu : s.tmp.unlock.isSome = true) : execUnlock q tag ticket s =
    answered (useTicket (taken s q 0x50) i 0x50) q (tamperWord 0x50 0 tag) 2 [] := by
  refine (unlock_valid hh hq hi).trans (congrArg served ((if_neg (by rw [lockedDown_taken, hl]; decide)).trans (if_pos ?_)))
  rw [(taken_eventful s q 0x50).tmp_eq, hu]

omit hh hq hi hl in
theorem unlockTry_waiting {t : State} {w0 k : Nat} : unlockTry { t with tmp := { t.tmp with unlock := some (q, w0, k) } } =
    if t.ilk.reliefAbsent then { t with tmp := { t.tmp with unlock := some (q, w0, k) } }
    else
      let r := fwCommit { t with tmp := { t.tmp with unlock := none } } [⟨0x07, 0, 0, k, []⟩]
      let u := match ticketSlot r.1 k with
        | some i => useTicket r.1 i 0x50
        | none => r.1
      u.answer q w0 (txStatus r.2) [] true := rfl

theorem unlock_tries (hu : s.tmp.unlock = none) : execUnlock q tag ticket s = served (
    let t := (taken s q 0x50).answer q (tamperWord 0x50 0 tag) 7 [] false
    unlockTry { t with tmp := { t.tmp with unlock := some (q, tamperWord 0x50 0 tag, ticket.toNat) } }) := by
  refine (unlock_valid hh hq hi).trans (congrArg served ((if_neg (by rw [lockedDown_taken, hl]; decide)).trans (if_neg ?_)))
  rw [(taken_eventful s q 0x50).tmp_eq, hu]
  decide

end

section
variable (hi : validTicket s q ticket 3 = some i)
include hi

theorem cellServiceOpen_valid : execCellServiceOpen q tag ticket s =
    served (cellOpenAnswer (useTicket (taken s q 0x51) i 0x51) q (tamperWord 0x51 0 tag)) :=
  (cellServiceOpen_of hh).trans (congrArg served
    (withTicket_valid hq (((taken_eventful s q 0x51).validTicket_eq q ticket 3).trans hi)))

omit hh hq in
theorem window_usedTicket : (useTicket (taken s q 0x51) i 0x51).bit Reg.TMP_STAT 5 = s.bit Reg.TMP_STAT 5 :=
  bit_of_rd (rd_usedTicket (taken_eventful s q 0x51) (validTicket_lt hi) (by unfold recorderWord; decide) (by decide)) 5

theorem cellServiceOpen_open (h : s.bit Reg.TMP_STAT 5 = true) : execCellServiceOpen q tag ticket s =
    answered (useTicket (taken s q 0x51) i 0x51) q (tamperWord 0x51 0 tag) 2 [] :=
  (cellServiceOpen_valid hh hq hi).trans (congrArg served (if_pos ((window_usedTicket hi).trans h)))

theorem cellServiceOpen_opens (h : s.bit Reg.TMP_STAT 5 = false) : execCellServiceOpen q tag ticket s =
    answered (((useTicket (taken s q 0x51) i 0x51).setBit Reg.TMP_STAT 5 true).log Ev.CELL_WINDOW .tamper 13 (leBytes 1 1)) q
      (tamperWord 0x51 0 tag) 0 [] :=
  (cellServiceOpen_valid hh hq hi).trans (congrArg served (if_neg (by rw [window_usedTicket hi, h]; decide)))

end

section
variable {src : BitVec 16} (hi : validTicket s q ticket 4 = some i)
include hi

theorem fuseSource_valid : execFuseSource q tag src ticket s = served (
    if 14 ≤ src.toNat then (useTicket (taken s q 0x53) i 0x53).answer q (tamperWord 0x53 src.toNat tag) 6 [] true
    else if bitOf (((ticketAt s i).map Ticket.sources).getD 0) src.toNat = false then
      (taken s q 0x53).answer q (tamperWord 0x53 src.toNat tag) 1 [] true
    else fuseAnswer (useTicket (taken s q 0x53) i 0x53) q (tamperWord 0x53 src.toNat tag) src.toNat) := by
  have hat : ticketSources (taken s q 0x53) i = ((ticketAt s i).map Ticket.sources).getD 0 := by
    rw [ticketSources, ticketAt, (taken_eventful s q 0x53).lcs_eq, ticketAt]
  rw [← hat]
  exact (fuseSource_of hh src).trans (congrArg served
    (withTicket_valid hq (((taken_eventful s q 0x53).validTicket_eq q ticket 4).trans hi)))

theorem fuseSource_beyond (hx : 14 ≤ src.toNat) : execFuseSource q tag src ticket s =
    answered (useTicket (taken s q 0x53) i 0x53) q (tamperWord 0x53 src.toNat tag) 6 [] :=
  (fuseSource_valid hh hq hi).trans (congrArg served (if_pos hx))

variable (hx : src.toNat < 14)
include hx

theorem fuseSource_forbidden (hp : bitOf (((ticketAt s i).map Ticket.sources).getD 0) src.toNat = false) :
    execFuseSource q tag src ticket s = answered (taken s q 0x53) q (tamperWord 0x53 src.toNat tag) 1 [] :=
  (fuseSource_valid hh hq hi).trans (congrArg served ((if_neg (not_le.2 hx)).trans (if_pos hp)))

variable (hp : bitOf (((ticketAt s i).map Ticket.sources).getD 0) src.toNat = true)
include hp

theorem fuseSource_permitted : execFuseSource q tag src ticket s =
    served (fuseAnswer (useTicket (taken s q 0x53) i 0x53) q (tamperWord 0x53 src.toNat tag) src.toNat) :=
  (fuseSource_valid hh hq hi).trans (congrArg served ((if_neg (not_le.2 hx)).trans (if_neg (by rw [hp]; decide))))

omit hh hq hx hp in
theorem fused_usedTicket (x : Nat) : (useTicket (taken s q 0x53) i 0x53).bit Reg.TMP_FUSED x = s.bit Reg.TMP_FUSED x :=
  bit_of_rd (rd_usedTicket (taken_eventful s q 0x53) (validTicket_lt hi) (by unfold recorderWord; decide) (by decide)) x

omit hh hq hx hp in
theorem lcState_usedTicket : lcState (useTicket (taken s q 0x53) i 0x53) = lcState s :=
  fld_of_rd (rd_usedTicket (taken_eventful s q 0x53) (validTicket_lt hi) (by unfold recorderWord; decide) (by decide)) 3 0

theorem fuseSource_blown (h : s.bit Reg.TMP_FUSED src.toNat = true) : execFuseSource q tag src ticket s =
    answered (useTicket (taken s q 0x53) i 0x53) q (tamperWord 0x53 src.toNat tag) 0 [] :=
  (fuseSource_permitted hh hq hi hx hp).trans (congrArg served (if_pos ((fused_usedTicket hi _).trans h)))

variable (h : s.bit Reg.TMP_FUSED src.toNat = false)
include h

theorem fuseSource_elsewhere (h0 : lcState s ≠ 0) (h2 : lcState s ≠ 2) : execFuseSource q tag src ticket s =
    answered (useTicket (taken s q 0x53) i 0x53) q (tamperWord 0x53 src.toNat tag) 3 [] :=
  (fuseSource_permitted hh hq hi hx hp).trans (congrArg served ((if_neg (by rw [fused_usedTicket hi, h]; decide)).trans
    (if_pos (by rw [lcState_usedTicket hi]; exact ⟨h0, h2⟩))))

theorem fuseSource_blows (hst : lcState s = 0 ∨ lcState s = 2) : execFuseSource q tag src ticket s =
    answered (blowFuse ((useTicket (taken s q 0x53) i 0x53).answer q (tamperWord 0x53 src.toNat tag) 7 [] false) src.toNat) q
      (tamperWord 0x53 src.toNat tag) 0 [] :=
  (fuseSource_permitted hh hq hi hx hp).trans (congrArg served ((if_neg (by rw [fused_usedTicket hi, h]; decide)).trans
    (if_neg (by rw [lcState_usedTicket hi]; omega))))

end

theorem cellServiceClose_closed {cell : Bool} (h : s.bit Reg.TMP_STAT 5 = false) :
    execCellServiceClose q tag cell s = answered (taken s q 0x52) q (tamperWord 0x52 0 tag) 3 [] := by
  refine (cellServiceClose_of hh cell).trans (congrArg served ((if_neg (mt mayControl_eq_false_iff.1 (not_not.2 hq))).trans (if_pos ?_)))
  rw [(taken_eventful s q 0x52).bit_eq (by unfold recorderWord; decide), h]

theorem cellServiceClose_closes {cell : Bool} (h : s.bit Reg.TMP_STAT 5 = true) :
    execCellServiceClose q tag cell s = answered (cellClose (taken s q 0x52) cell false) q (tamperWord 0x52 0 tag) 0 [] := by
  refine (cellServiceClose_of hh cell).trans (congrArg served ((if_neg (mt mayControl_eq_false_iff.1 (not_not.2 hq))).trans (if_neg ?_)))
  rw [(taken_eventful s q 0x52).bit_eq (by unfold recorderWord; decide), h]
  decide

end

theorem cellServiceClose_denied {cell : Bool} (hq : ¬ (q = .agent 0 ∨ q = .inst 0)) :
    execCellServiceClose q tag cell s = answered (taken s q 0x52) q (tamperWord 0x52 0 tag) 1 [] :=
  (cellServiceClose_of hh cell).trans (congrArg served (if_pos (mayControl_eq_false_iff.2 hq)))

theorem tamperStatus_denied (hq : ¬ (q = .agent 0 ∨ q = .inst 0) ∧ q ≠ .agent 1) :
    execTamperStatus q tag s = answered (taken s q 0x54) q (tamperWord 0x54 0 tag) 1 [] :=
  (tamperStatus_of hh).trans (congrArg served (if_pos ⟨mayControl_eq_false_iff.2 hq.1, hq.2⟩))

omit hh in
theorem Eventful.words_eq {t : State} (h : Eventful s t) {l : List Nat} (hl : ∀ a ∈ l, ¬ recorderWord a) :
    l.flatMap (fun a => leBytes 4 (t.rd a).toNat) = l.flatMap (fun a => leBytes 4 (s.rd a).toNat) :=
  List.flatMap_congr fun a ha => by rw [h.2 a (hl a ha)]

theorem tamperStatus_shown (hq : (q = .agent 0 ∨ q = .inst 0) ∨ q = .agent 1) :
    execTamperStatus q tag s = answered (taken s q 0x54) q (tamperWord 0x54 0 tag) 0
      ([Reg.TMP_STAT, Reg.TMP_ALARM, Reg.TMP_ACTIVE, Reg.TMP_FUSED, Reg.TMP_EVIDENCE].flatMap (fun a => leBytes 4 (s.rd a).toNat)) := by
  rw [← (taken_eventful s q 0x54).words_eq (by unfold recorderWord; decide)]
  refine (tamperStatus_of hh).trans (congrArg served (if_neg ?_))
  rintro ⟨hf, ha⟩
  exact hq.elim (mayControl_eq_false_iff.1 hf) ha

end

end

/-- Settles O57: detector events, the evidence counter, the cell window, the samples in BACKUP and the tamper requests do what
the rules say. -/
theorem tamperEvents : Obligations.TamperEvents := by
  refine ⟨fun s hp => ⟨fun src det stamp lasting extra => ⟨detectorEvent_off hp, fun hon => ⟨fun hag => ?_, fun hag => ⟨fun hth => ?_,
      fun hth => ?_⟩⟩⟩, lockdownRecordJournaled_none hp, fun k => lockdownRecordJournaled_some hp, fun cell => ?_, fun p hw => ?_⟩,
    fun s quiet seen => ⟨backupSample_idle, backupSample_cell⟩,
    fun s q tag hh => ⟨fun ticket => ⟨unlock_denied hh, cellServiceOpen_denied hh, fun src => fuseSource_denied hh src,
      fun i hq hi => ⟨unlock_unlocked hh hq hi, unlock_busy hh hq hi, fun hl hu => ?_⟩,
      fun i hq hi => ⟨cellServiceOpen_open hh hq hi, cellServiceOpen_opens hh hq hi⟩,
      fun i src hq hi => ⟨fuseSource_beyond hh hq hi, fuseSource_forbidden hh hq hi, fuseSource_blown hh hq hi,
        fuseSource_elsewhere hh hq hi, fuseSource_blows hh hq hi⟩⟩,
      fun cell => ⟨cellServiceClose_denied hh, fun hq => cellServiceClose_closed hh hq, fun hq hw => ?_⟩, tamperStatus_denied hh, tamperStatus_shown hh⟩⟩
  · exact (detectorEvent_taken hp hon).trans (congrArg (fun v => settled (wake v 4)) (if_pos hag))
  · exact (detectorEvent_taken hp hon).trans (congrArg (fun v => settled (wake v 4))
      ((if_neg (ne_true_of_eq_false hag)).trans (if_neg (not_le.2 hth))))
  · exact (detectorEvent_taken hp hon).trans (congrArg (fun v => settled (wake v 4)) ((if_neg (ne_true_of_eq_false hag)).trans (if_pos hth)))
  · exact (cellWindowTimeout_of hp cell).trans (congrArg settled (if_congr Iff.rfl rfl (cellClose_eq s cell true)))
  · exact tmpLockWrite_of hw
  · exact (unlock_tries hh hq hi hl hu).trans ((congrArg served unlockTry_waiting).trans (apply_ite served _ _ _))
  · exact (cellServiceClose_closes hh hq hw).trans (congrArg (answered · q _ 0 []) (cellClose_eq _ cell false))

end Sys2Proof.Machine
end

section
/-! Writes of registers with owners of their own (R317, R358), and O58: the recorder's commands. -/

namespace Sys2Proof.Machine

/-! ### A write of a register that has an owner -/

section
variable {s : State} {p : Party} {a : Nat} {v : Word} {be : BitVec 4}

theorem regWrite_mailing (hm : Mailing s p .store a) (hmir : inMirror a = false) (hpair : isWritePair a = false)
    (hbe : be = 0xF ∨ ∃ c, p = .core c) : regWrite s p a v be = writeWord (touched s p) p a v be := by
  obtain ⟨-, -, hreach, hnd, hheld, -⟩ := hm
  have hat : regWrite.regWriteAt (touched s p) p a v be = writeWord (touched s p) p a v be := by
    simp only [regWrite.regWriteAt, hmir, hpair, hheld, Bool.false_eq_true, false_and, if_false]
  have hdebug : ¬ (p = .debug ∧ debugLevel (touched s p) ≠ 3) := fun h => hnd h.1
  simp only [regWrite, hreach, if_neg hdebug, Bool.true_eq_false, if_false]
  obtain rfl | ⟨c, rfl⟩ := hbe
  · cases p <;> exact hat
  · exact hat

/-- A write of an owned register that the writer reaches, on the state in which an agent has returned. -/
theorem writeRow_mailing (hm : Mailing s p .store a) (hmir : inMirror a = false) (hpair : isWritePair a = false)
    (hbe : be = 0xF ∨ ∃ c, p = .core c) : writeRow p a v be s = settled (writeWord (touched s p) p a v be) := by
  have hreg := regWrite_mailing (v := v) hm hmir hpair hbe
  obtain ⟨hdown, hmay, -⟩ := hm
  refine (actSettle_of hdown _).trans (congrArg settled ((if_pos hmay).trans hreg))

theorem writeWord_owned {u w : State} {r : RegRow} (hr : rowAt a = some r) (ho : ownedWrite u p r a v be = some w) :
    writeWord u p a v be = w := by
  rw [writeWord, hr]
  dsimp only
  rw [ho]

theorem isWritePair_rowIs {base : Nat} {fields : List Field} (h : RowIs a base fields) : isWritePair a = false := by
  obtain ⟨r, hr, -, hpl, -⟩ := h
  simp [isWritePair, isPairLow, hr, hpl]

end

/-! ### The window cursors (R358) -/

section
variable {s u : State} {p : Party} {v : Word}

/-- A cursor moved to v, and its sequence with it. -/
def cursorMoved (t : State) (c q : Nat) (v : Word) : State := (t.wr c v).wr q ((t.wr c v).rd q + 1)

theorem evrCursorWrite_own (hw : Writer s p Reg.EVR_CURSOR) :
    execEvrCursorWrite p 0 v s = settled (cursorMoved s Reg.EVR_CURSOR Reg.EVR_WINDOW_SEQ v) := by
  obtain ⟨r, hr, hbase, hpl, -⟩ : RowIs Reg.EVR_CURSOR Reg.EVR_CURSOR [⟨31, 0, .rw, false, .p⟩] := rowIs_of (by decide +kernel)
  have hpriv := writer_privileged hw (by decide)
  have hno : ownsUi p Reg.EVR_CURSOR = true → r.fields.any (fun f => f.view == .ui) = true := by
    intro h
    cases p with
    | inst n => exact absurd hpriv (by simp [privileged])
    | _ => exact absurd h (by simp [ownsUi])
  have hown : ownedWrite s p r Reg.EVR_CURSOR v 0xF = none := rfl
  refine (writeRow_taken hw hr hpl hown rfl rfl hno).trans (congrArg settled ?_)
  have hlogged : discardLogged s r Reg.EVR_CURSOR = false := discardLogged_eq_false (.inl (by rw [hbase]; decide))
  have hquiet : discardQuiet s Reg.EVR_CURSOR = false := discardQuiet_eq_false (by decide)
  refine (if_neg (by rw [hlogged]; decide)).trans ((if_neg (by rw [hquiet]; decide)).trans ?_)
  exact congrArg (cursorMoved s Reg.EVR_CURSOR Reg.EVR_WINDOW_SEQ) (mergeBe_full _ _)

theorem origin_pf0_iff : p.origin = .pf0 ↔ p = .inst 0 := by
  cases p with
  | inst n =>
    have h0 : n.val = 0 ↔ n = 0 := Fin.val_eq_zero_iff
    simp only [Party.origin, Party.inst.injEq]
    split
    next h => exact ⟨fun _ => h0.1 h, fun _ => rfl⟩
    next h => exact ⟨nofun, fun h' => absurd (h0.2 h') h⟩
  | agent a => fin_cases a <;> simp [Party.origin, agentOrigin]
  | _ => simp [Party.origin]

/-- The cursor of PF0's window has PF0 as its owner while PF0 has the recorder's feature. -/
theorem ownedWrite_cursor (r : RegRow) : ownedWrite u p r Reg.VIN_0_EVR_CURSOR v 0xF =
    if p = .inst 0 ∧ hasFeature u 0 11 = true then none else some (badOwner u p 0x44 Reg.VIN_0_EVR_CURSOR) := by
  unfold ownedWrite
  rw [if_neg (by decide), if_neg (by decide), if_neg (by decide), if_pos rfl]
  exact if_congr (and_congr_left' origin_pf0_iff) rfl rfl

theorem rowIs_pf0Cursor : RowIs Reg.VIN_0_EVR_CURSOR Reg.VIN_0_EVR_CURSOR [⟨31, 0, .rw, false, .ui⟩] := rowIs_of (by decide +kernel)

theorem discardQuiet_pf0Cursor : discardQuiet u Reg.VIN_0_EVR_CURSOR = false := by
  have h : ∀ a b c : Bool, ((false && a && b) || (true && true && ((false || false) && c || (false && a))) || (false && b) ||
    (false && a && b) || (false && c) || false) = false := by decide
  exact h _ _ _

theorem acceptWrite_pf0Cursor {r : RegRow} (hb : r.base = Reg.VIN_0_EVR_CURSOR) :
    acceptWrite u p r Reg.VIN_0_EVR_CURSOR v 0xF = cursorMoved u Reg.VIN_0_EVR_CURSOR Reg.VIN_0_EVR_SEQ v := by
  have hlogged : discardLogged u r Reg.VIN_0_EVR_CURSOR = false := discardLogged_eq_false (.inr (by rw [hb]; decide))
  refine (if_neg (by rw [hlogged]; decide)).trans ((if_neg (by rw [discardQuiet_pf0Cursor]; decide)).trans
    ((if_neg (by decide)).trans ((if_neg (by decide)).trans ((if_pos (by decide)).trans ?_))))
  unfold actInst
  dsimp only
  rw [hb, if_neg (by decide), if_neg (by decide), if_neg (by decide), if_neg (by decide), if_neg (by decide), if_neg (by decide),
    if_pos rfl]
  exact congrArg (cursorMoved u Reg.VIN_0_EVR_CURSOR Reg.VIN_0_EVR_SEQ) (mergeBe_full _ _)

theorem evrCursorWrite_pf0 (hm : Mailing s p .store Reg.VIN_0_EVR_CURSOR) : execEvrCursorWrite p 1 v s = settled (
    if p = .inst 0 ∧ hasFeature (touched s p) 0 11 = true then cursorMoved (touched s p) Reg.VIN_0_EVR_CURSOR Reg.VIN_0_EVR_SEQ v
    else badOwner (touched s p) p 0x44 Reg.VIN_0_EVR_CURSOR) := by
  obtain ⟨r, hr, hbase, hpl, hf⟩ := rowIs_pf0Cursor
  refine (writeRow_mailing hm rfl (isWritePair_rowIs rowIs_pf0Cursor) (.inl rfl)).trans (congrArg settled ?_)
  have hown := ownedWrite_cursor (u := touched s p) (p := p) (v := v) r
  split
  next h =>
    rw [if_pos h] at hown
    rw [writeWord_taken hr hown rfl (.inr ⟨by rw [h.1]; decide, by rw [hf]; rfl⟩), acceptWrite_pf0Cursor hbase]
  next h =>
    rw [if_neg h] at hown
    exact writeWord_owned hr hown

/-! An agent's own window -/

/-- The cursor of agent a's window. -/
def agentCursor (a : Fin 4) : Nat := 0x20060200 + 128 * a.val

theorem rowIs_agentCursor (a : Fin 4) : RowIs (agentCursor a) 0x20060200 [⟨31, 0, .rw, false, .ui⟩] :=
  rowIs_of (by revert a; decide +kernel)

theorem origin_agent_iff {a : Fin 4} : p.origin = agentOrigin a ↔ p = .agent a := by
  cases p with
  | agent x => revert a x; decide
  | inst n => fin_cases a <;> (simp only [Party.origin, agentOrigin, reduceCtorEq, iff_false]; split <;> simp)
  | _ => fin_cases a <;> simp [Party.origin, agentOrigin]

theorem ownedWrite_agentCursor (r : RegRow) (a : Fin 4) : ownedWrite u p r (agentCursor a) v 0xF =
    some (if p = .agent a then cursorMoved u (agentCursor a) (agentCursor a + 4) v
      else badOwner u p (0x40 + a.val) (agentCursor a)) := by
  have hidx : (agentCursor a - 0x20060200) / 128 = a.val := by unfold agentCursor; omega
  have hmod : agentCursor a % 128 = 0 := by unfold agentCursor; omega
  have hown : (⟨(agentCursor a - 0x20060200) / 128 % 4, by omega⟩ : Fin 4) = a := Fin.ext ((congrArg (· % 4) hidx).trans (Nat.mod_eq_of_lt a.isLt))
  unfold ownedWrite
  rw [if_neg (by unfold agentCursor; omega), if_neg (by unfold agentCursor; omega), if_pos (by unfold agentCursor; omega)]
  dsimp only
  rw [hown, hidx, mergeBe_full]
  exact congrArg some (if_congr origin_agent_iff rfl rfl)

theorem evrCursorWrite_agent (a : Fin 4) (hm : Mailing s p .store (agentCursor a)) :
    writeRow p (agentCursor a) v 0xF s = settled (if p = .agent a then cursorMoved (touched s p) (agentCursor a) (agentCursor a + 4) v
      else badOwner (touched s p) p (0x40 + a.val) (agentCursor a)) := by
  obtain ⟨r, hr, -⟩ := rowIs_agentCursor a
  have hmir : inMirror (agentCursor a) = false := decide_eq_false (by unfold agentCursor; omega)
  refine (writeRow_mailing hm hmir (isWritePair_rowIs (rowIs_agentCursor a)) (.inl rfl)).trans (congrArg settled ?_)
  exact writeWord_owned hr (ownedWrite_agentCursor r a)

end

end Sys2Proof.Machine
end

section
/-! O58 settled: the recorder's events, CORRELATE and SNAPSHOT. -/

namespace Sys2Proof.Machine

section
variable {s : State} (hp : s.pwr.down = false)
include hp

/-! ### The writer (R352, R353, R356) -/

theorem evrWriteAged_of : execEvrWriteAged s = settled (
    if s.evr.nvmFault = true ∨ s.evr.suspended = true then s else writeAged s s.evr.dirty) :=
  (actSettle_of hp _).trans (congrArg settled (if_congr (Bool.or_eq_true _ _ ▸ Iff.rfl) rfl rfl))

theorem evrReclaim_of : execEvrReclaim s = settled (if s.evr.reclaiming = false ∨ s.evr.suspended = true then s
    else s.setEvr { s.evr.reclaimed with reclaiming := s.evr.reclaimed.crowded }) := actSettle_of hp _

theorem evrFlushDone_of (fails : Nat) : execEvrFlushDone fails s = settled (
    if s.evr.writing = true ∧ s.evr.suspended = false then evrFlush s fails else s) := actSettle_of hp _

theorem evrFlushDone_idle {fails : Nat} (h : s.evr.writing = false ∨ s.evr.suspended = true ∨ s.evr.nvmFault = true) :
    execEvrFlushDone fails s = settled s := by
  refine (evrFlushDone_of hp fails).trans (congrArg settled ?_)
  split
  next hw =>
    obtain h | h | h := h
    · exact absurd (hw.1.symm.trans h) (by decide)
    · exact absurd (hw.2.symm.trans h) (by decide)
    · exact if_pos h
  · rfl

section
variable {fails : Nat} (hw : s.evr.writing = true) (hs : s.evr.suspended = false) (hf : s.evr.nvmFault = false)
include hw hs hf

theorem evrFlushDone_clean (hd : s.evr.dirty = []) : execEvrFlushDone fails s = settled { s with evr := { s.evr with writing := false } } := by
  refine (evrFlushDone_of hp fails).trans (congrArg settled ((if_pos ⟨hw, hs⟩).trans ((if_neg (by rw [hf]; decide)).trans ?_)))
  rw [hd]

omit hp hw hs hf in
/-- The recorder once the failed programs of record r have used up their slots. -/
def slotsVoided (s : State) (r : Record) (fails : Nat) : State :=
  { s with evr := (List.replicate (min fails 3) ⟨r, false⟩).foldl Recorder.push s.evr }

theorem evrFlushDone_dirty {r : Record} {rs : List Record} (hd : s.evr.dirty = r :: rs) : execEvrFlushDone fails s = settled (
    if 3 ≤ fails then evrNvmFault (slotsVoided s r fails)
    else
      let u := writeRecords (slotsVoided s r fails) false (r :: rs)
      { u with evr := { u.evr with writing := false } }) := by
  refine (evrFlushDone_of hp fails).trans (congrArg settled ((if_pos ⟨hw, hs⟩).trans ((if_neg (by rw [hf]; decide)).trans ?_)))
  rw [hd]
  rfl

end

theorem nvmFaultRetry_of (ok : Bool) : execNvmFaultRetry ok s = settled (nvmRetry s ok) := actSettle_of hp _

theorem nvmFaultRetry_idle (ok : Bool) (h : s.evr.nvmFault = false ∨ s.evr.suspended = true) : execNvmFaultRetry ok s = settled s :=
  (nvmFaultRetry_of hp ok).trans (congrArg settled (if_pos h))

section
variable (hf : s.evr.nvmFault = true) (hs : s.evr.suspended = false)
include hf hs

omit hp in
theorem writerStopped : ¬ (s.evr.nvmFault = false ∨ s.evr.suspended = true) := by
  rw [hf, hs]
  decide

theorem nvmFaultRetry_ok : execNvmFaultRetry true s = settled (evrFlush { s with evr := { s.evr with nvmFault := false } } 0) :=
  (nvmFaultRetry_of hp true).trans (congrArg settled ((if_neg (writerStopped hf hs)).trans (if_pos rfl)))

theorem nvmFaultRetry_fails : execNvmFaultRetry false s = settled (match s.evr.dirty with
    | r :: _ => { s with evr := s.evr.push ⟨r, false⟩ }
    | [] => s) :=
  (nvmFaultRetry_of hp false).trans (congrArg settled ((if_neg (writerStopped hf hs)).trans (if_neg Bool.false_ne_true)))

theorem nvmFaultRetry_clean (hd : s.evr.dirty = []) : execNvmFaultRetry false s = settled s := by
  rw [nvmFaultRetry_fails hp hf hs, hd]

theorem nvmFaultRetry_dirty {r : Record} {rs : List Record} (hd : s.evr.dirty = r :: rs) :
    execNvmFaultRetry false s = settled { s with evr := s.evr.push ⟨r, false⟩ } := by
  rw [nvmFaultRetry_fails hp hf hs, hd]

end

end

/-! ### CORRELATE and SNAPSHOT (R361, R416) -/

section
variable {s : State} {q : Sender} {tag : Byte} (hh : Heard s q)

/-- Who may correlate: PF0, I3C-0 and I3C-1. -/
def correlates (q : Sender) : Bool :=
  match q with
  | .inst n => n.val == 0
  | .agent a => decide (a.val < 2)

theorem correlates_iff : correlates q = true ↔ q = .inst 0 ∨ q = .agent 0 ∨ q = .agent 1 := by
  cases q with
  | agent a => revert a; decide
  | inst n =>
    simp only [correlates, beq_iff_eq, Sender.inst.injEq, reduceCtorEq, or_false]
    exact Fin.val_eq_zero_iff

/-- CORRELATE by its sender came within a second of its last. -/
def correlatedSoon (b : State) (q : Sender) : Bool :=
  b.evr.corrRecent.any (fun p => p.1 == q.origin.code && p.2.1 == b.pcc && decide (b.ot < p.2.2 + 1024))

/-- The state with a correlation recorded and noted as the sender's last. -/
def correlationNoted (t : State) (q : Sender) : State :=
  { t with evr := { t.evr with corrRecent := (q.origin.code, t.pcc, t.ot) :: t.evr.corrRecent.filter (fun p => p.1 != q.origin.code) } }

theorem reqWord_toNat (code : Nat) (hc : code < 2 ^ 8) : (BitVec.ofNat 32 (reqWord code 0 0 tag.toNat)).toNat = reqWord code 0 0 tag.toNat := by
  have htag := tag.isLt
  rw [BitVec.toNat_ofNat, reqWord]
  exact Nat.mod_eq_of_lt (by omega)

include hh in
theorem correlate_of (host : Dword) (format : Byte) (label : List Byte) : execCorrelate q tag host format label s = served (
    let b := behalf s q
    let w := reqWord 0x90 0 0 tag.toNat
    let t := b.log Ev.CORRELATION q.origin 0 (leBytes 8 host.toNat ++ leBytes 1 format.toNat ++ [0, 0, 0] ++ takePad 16 label)
    if correlates q = false then b.answer q w 1 [] true
    else if correlatedSoon b q = true then b.answer q w 2 [] true
    else (correlationNoted t q).answer q w 0 (leBytes 4 (t.evr.next - 1) ++ leBytes 4 t.pcc ++ leBytes 6 t.ot) true) := by
  rw [← reqWord_toNat 0x90 (by decide)]
  exact request_unlogged hh _ (by decide) _

section
variable {host : Dword} {format : Byte} {label : List Byte}

include hh in
theorem correlate_denied (hq : ¬ (q = .inst 0 ∨ q = .agent 0 ∨ q = .agent 1)) : execCorrelate q tag host format label s =
    answered (behalf s q) q (reqWord 0x90 0 0 tag.toNat) 1 [] :=
  (correlate_of hh host format label).trans (congrArg served (if_pos (Bool.eq_false_iff.2 (mt correlates_iff.1 hq))))

variable (hq : q = .inst 0 ∨ q = .agent 0 ∨ q = .agent 1)
include hh hq

theorem correlate_soon (h : correlatedSoon (behalf s q) q = true) : execCorrelate q tag host format label s =
    answered (behalf s q) q (reqWord 0x90 0 0 tag.toNat) 2 [] :=
  (correlate_of hh host format label).trans (congrArg served
    ((if_neg (by rw [correlates_iff.2 hq]; decide)).trans (if_pos h)))

theorem correlate_records (h : correlatedSoon (behalf s q) q = false) : execCorrelate q tag host format label s =
    let t := (behalf s q).log Ev.CORRELATION q.origin 0 (leBytes 8 host.toNat ++ leBytes 1 format.toNat ++ [0, 0, 0] ++ takePad 16 label)
    answered (correlationNoted t q) q (reqWord 0x90 0 0 tag.toNat) 0 (leBytes 4 (t.evr.next - 1) ++ leBytes 4 t.pcc ++ leBytes 6 t.ot) :=
  (correlate_of hh host format label).trans (congrArg served
    ((if_neg (by rw [correlates_iff.2 hq]; decide)).trans (if_neg (by rw [h]; decide))))

end

/-- Who may take a snapshot: PF0 and the agents. -/
def snapshots (q : Sender) : Bool :=
  match q with
  | .inst n => n.val == 0
  | .agent _ => true

include hh

theorem snapshot_of (us : Word) : execSnapshot q tag us s = served (
    let b := behalf s q
    let w := reqWord 0x91 0 0 tag.toNat
    let t := if us.toNat < 100 then b else snapLatch b
    if snapshots q = false then b.answer q w 1 [] true
    else t.answer q w 0 (leBytes 4 (t.rd Reg.SBX_SNAP_SEQ).toNat) true) := request_unlogged hh _ (by decide) _

theorem snapshot_denied (us : Word) (hq : ∃ n, q = .inst n ∧ n ≠ 0) :
    execSnapshot q tag us s = answered (behalf s q) q (reqWord 0x91 0 0 tag.toNat) 1 [] := by
  obtain ⟨n, rfl, hn⟩ := hq
  refine (snapshot_of hh us).trans (congrArg served (if_pos ?_))
  exact beq_eq_false_iff_ne.2 (mt Fin.val_eq_zero_iff.1 hn)

theorem snapshot_taken (us : Word) (hq : q = .inst 0 ∨ ∃ a, q = .agent a) : execSnapshot q tag us s =
    let t := if us.toNat < 100 then behalf s q else snapLatch (behalf s q)
    answered t q (reqWord 0x91 0 0 tag.toNat) 0 (leBytes 4 (t.rd Reg.SBX_SNAP_SEQ).toNat) := by
  have hsnap : ¬ snapshots q = false := by
    obtain rfl | ⟨a, rfl⟩ := hq <;> exact Bool.true_eq_false ▸ id
  exact (snapshot_of hh us).trans (congrArg served (if_neg hsnap))

end

/-- Settles O58: the writer's events, the window cursors, CORRELATE and SNAPSHOT do what the recorder's state calls for. -/
theorem recorderCommands : Obligations.RecorderCommands := by
  refine ⟨fun s hp => ⟨evrWriteAged_of hp, evrReclaim_of hp, fun fails => evrFlushDone_idle hp, fun fails hw hs hf =>
      ⟨evrFlushDone_clean hp hw hs hf, fun r rs hd => ⟨fun h3 => ?_, fun h3 => ?_⟩⟩, nvmFaultRetry_idle hp,
      fun hf hs => ⟨nvmFaultRetry_ok hp hf hs, nvmFaultRetry_clean hp hf hs, fun r rs => nvmFaultRetry_dirty hp hf hs⟩⟩,
    fun s p v => ⟨evrCursorWrite_own, fun hm => ⟨fun hq hfe => ?_, fun hno => ?_⟩, fun a hm => ⟨fun ha => ?_, fun ha => ?_⟩⟩,
    fun s q tag hh => ⟨fun host format label => ⟨correlate_denied hh, correlate_soon hh, correlate_records hh⟩,
      fun us => ⟨snapshot_denied hh us, snapshot_taken hh us⟩⟩⟩
  · exact (evrFlushDone_dirty hp hw hs hf hd).trans (congrArg settled (if_neg (not_le.2 h3)))
  · exact (evrFlushDone_dirty hp hw hs hf hd).trans (congrArg settled (if_pos h3))
  · exact (evrCursorWrite_pf0 hm).trans (congrArg settled (if_pos ⟨hq, hfe⟩))
  · exact (evrCursorWrite_pf0 hm).trans (congrArg settled (if_neg hno))
  · exact (evrCursorWrite_agent a hm).trans (congrArg settled (if_pos ha))
  · exact (evrCursorWrite_agent a hm).trans (congrArg settled (if_neg ha))

end Sys2Proof.Machine
end

section
/-! O59: the life-cycle requests. -/

namespace Sys2Proof.Machine

section
variable {s : State} {q : Sender} {tag : Byte} (hh : Heard s q)

/-- The word that names a life-cycle request. -/
def lcsWord (code x : Nat) (tag : Byte) : Nat := reqWord code x 0 tag.toNat

section
include hh

theorem lcsRequest_heard (c : Request) (code w0 : Nat) (f : State → State) : lcsRequest c code q w0 s f = served (
    if mayControl q then f (taken s q code) else (taken s q code).answer q w0 1 [] true) := request_heard hh c code _

theorem lcsRequest_denied (c : Request) (code w0 : Nat) (f : State → State) (hq : ¬ (q = .agent 0 ∨ q = .inst 0)) :
    lcsRequest c code q w0 s f = answered (taken s q code) q w0 1 [] :=
  (lcsRequest_heard hh c code w0 f).trans (congrArg served (if_neg (mt mayControl_iff.1 hq)))

theorem lcsRequest_allowed (c : Request) (code w0 : Nat) (f : State → State) (hq : q = .agent 0 ∨ q = .inst 0) :
    lcsRequest c code q w0 s f = served (f (taken s q code)) :=
  (lcsRequest_heard hh c code w0 f).trans (congrArg served (if_pos (mayControl_iff.2 hq)))

end

/-! ### What a life-cycle request reads of the state that has taken it -/

theorem lcState_taken (code : Nat) : lcState (taken s q code) = s.fld Reg.LCS_STATE 3 0 :=
  (taken_eventful s q code).fld_eq (by unfold recorderWord; decide) 3 0

theorem lcs_taken (code : Nat) : (taken s q code).lcs = s.lcs := (taken_eventful s q code).lcs_eq

theorem ticketAt_taken (code i : Nat) : ticketAt (taken s q code) i = ticketAt s i := by rw [ticketAt, lcs_taken, ticketAt]

theorem keyUsable_congr {t : State} (h : t.rd Reg.LCS_OTP_KEYS = s.rd Reg.LCS_OTP_KEYS) (signer i : Nat) :
    keyUsable t signer i = keyUsable s signer i := by
  simp only [keyUsable, bit_of_rd h]

section
variable {code i : Nat} (hi : i < 4)
include hi

theorem lcState_used : lcState (useTicket (taken s q code) i code) = s.fld Reg.LCS_STATE 3 0 :=
  fld_of_rd (rd_usedTicket (taken_eventful s q code) hi (by unfold recorderWord; decide) (by decide)) 3 0

theorem lockedDown_used : lockedDown (useTicket (taken s q code) i code) = lockedDown s :=
  bit_of_rd (rd_usedTicket (taken_eventful s q code) hi (by unfold recorderWord; decide) (by decide)) 0

theorem lcGen_used : lcGen (useTicket (taken s q code) i code) = lcGen s :=
  fld_of_rd (rd_usedTicket (taken_eventful s q code) hi (by unfold recorderWord; decide) (by decide)) 6 4

theorem transitAllowed_used (x : Nat) : transitAllowed (useTicket (taken s q code) i code) x = transitAllowed s x := by
  have hkeys : (useTicket (taken s q code) i code).rd Reg.LCS_OTP_KEYS = s.rd Reg.LCS_OTP_KEYS :=
    rd_usedTicket (taken_eventful s q code) hi (by unfold recorderWord; decide) (by decide)
  have hkey : keyUsable (useTicket (taken s q code) i code) 1 = keyUsable s 1 := funext (keyUsable_congr hkeys 1)
  have hst : lcState (useTicket (taken s q code) i code) = lcState s := lcState_used hi
  unfold transitAllowed
  rw [hst, lockedDown_used hi, lcGen_used hi, hkey]

end

theorem transitTicket_taken (code : Nat) (k : Ticket) (x : Nat) : transitTicket (taken s q code) k x = transitTicket s k x := by
  have hkey : keyUsable (taken s q code) 1 k.key = keyUsable s 1 k.key :=
    keyUsable_congr ((taken_eventful s q code).2 _ (by unfold recorderWord; decide)) 1 k.key
  have hst : lcState (taken s q code) = lcState s := lcState_taken code
  rw [transitTicket, transitTicket, hkey, hst]

theorem transitTicket_iff {k : Ticket} {x : Nat} : transitTicket s k x = true ↔
    k.target = x ∧ (x = 4 ∨ k.signer = 1) ∧ (x ≠ 2 ∨ s.fld Reg.LCS_STATE 3 0 ≠ 3 ∨ keyUsable s 1 k.key = true) := by
  simp only [transitTicket, lcState, Bool.and_eq_true, Bool.or_eq_true, beq_iff_eq, bne_iff_ne, and_assoc, or_assoc]

theorem transitBusy_iff {u : State} : transitBusy u = true ↔
    u.bit Reg.RTB_UPD_STAT 6 = true ∨ u.bit Reg.RTB_RCV_STAT 6 = true ∨ u.fld Reg.RTB_HND_STAT 3 0 ≠ 0 ∨ ldgCommitting u = true := by
  simp only [transitBusy, Bool.or_eq_true, bne_iff_ne, or_assoc]

/-- A transition that is authorised and allowed is busy, or begins on the platform made safe. -/
theorem lcTransit_eq (u : State) (q : Sender) (w0 x : Nat) (ticket : Word) (k : Ticket) : served (lcTransit u q w0 x ticket k) =
    if u.bit Reg.RTB_UPD_STAT 6 = true ∨ u.bit Reg.RTB_RCV_STAT 6 = true ∨ u.fld Reg.RTB_HND_STAT 3 0 ≠ 0 ∨ ldgCommitting u = true
    then answered u q w0 2 []
    else
      let t := (fwCommit u (safeRecords u)).1
      answered (transitBegin t t.dutyOrigin x ticket.toNat k.digest) q w0 0 [] :=
  (apply_ite served _ _ _).trans (if_congr transitBusy_iff rfl rfl)

/-! ### STAFF_NONCE, LCS_DATA and STAFF_SUBMIT (R375-R377) -/

section
variable (hq : q = .agent 0 ∨ q = .inst 0)
include hh hq

theorem staffNonce_of : execStaffNonce q tag s = served (
    let b := taken s q 0xA0
    let r := takePad 32 (Config.random b.freeCtr 32)
    let t : State := { b with freeCtr := b.freeCtr + 1, lcs := { b.lcs with nonce := some r } }
    if rbgOk b = false then b.answer q (lcsWord 0xA0 0 tag) 3 [] true
    else (t.setBit Reg.LCS_NONCE_STAT 0 true).answer q (lcsWord 0xA0 0 tag) 0 r true) := lcsRequest_allowed hh _ _ _ _ hq

omit hh hq in
theorem rbgOk_taken (code : Nat) : rbgOk (taken s q code) = s.bit Reg.SIG_STAT 11 :=
  (taken_eventful s q code).bit_eq (by unfold recorderWord; decide) 11

theorem staffNonce_refused (hr : s.bit Reg.SIG_STAT 11 = false) :
    execStaffNonce q tag s = answered (taken s q 0xA0) q (lcsWord 0xA0 0 tag) 3 [] :=
  (staffNonce_of hh hq).trans (congrArg served (if_pos ((rbgOk_taken 0xA0).trans hr)))

theorem staffNonce_drawn (hr : s.bit Reg.SIG_STAT 11 = true) : execStaffNonce q tag s =
    let b := taken s q 0xA0
    let r := takePad 32 (Config.random b.freeCtr 32)
    let t : State := { b with freeCtr := b.freeCtr + 1, lcs := { b.lcs with nonce := some r } }
    answered (t.setBit Reg.LCS_NONCE_STAT 0 true) q (lcsWord 0xA0 0 tag) 0 r :=
  (staffNonce_of hh hq).trans (congrArg served (if_neg (by rw [rbgOk_taken, hr]; decide)))

/-- The upload that data at an offset continues. -/
def uploadAt (s : State) (off : Word) : List Byte := if off.toNat = 0 then [] else s.lcs.buf

theorem lcsData_of (off : Word) (data : List Byte) : execLcsData q tag off data s = served (
    let b := taken s q 0xA1
    if off.toNat ≠ (uploadAt s off).length ∨ 65536 < off.toNat + 56 then b.answer q (lcsWord 0xA1 0 tag) 6 [] true
    else ({ b with lcs := { b.lcs with buf := uploadAt s off ++ takePad 56 data } } : State).answer q (lcsWord 0xA1 0 tag) 0 [] true) := by
  have hbuf : uploadAt s off = uploadAt (taken s q 0xA1) off := by rw [uploadAt, uploadAt, lcs_taken]
  rw [hbuf]
  exact lcsRequest_allowed hh _ _ _ _ hq

section
variable {off : Word} {data : List Byte}

theorem lcsData_refused (h : ¬ (off.toNat = (uploadAt s off).length ∧ off.toNat + 56 ≤ 65536)) :
    execLcsData q tag off data s = answered (taken s q 0xA1) q (lcsWord 0xA1 0 tag) 6 [] :=
  (lcsData_of hh hq off data).trans (congrArg served (if_pos (by omega)))

theorem lcsData_appended (h : off.toNat = (uploadAt s off).length ∧ off.toNat + 56 ≤ 65536) :
    execLcsData q tag off data s = answered { taken s q 0xA1 with
      lcs := { (taken s q 0xA1).lcs with buf := uploadAt s off ++ takePad 56 data } } q (lcsWord 0xA1 0 tag) 0 [] :=
  (lcsData_of hh hq off data).trans (congrArg served (if_neg (by omega)))

end

theorem staffSubmit_of (len : Word) : execStaffSubmit q tag len s =
    match submitFault (taken s q 0xA2) len.toNat with
    | some k => answered ((taken s q 0xA2).fwLog Ev.STAFF_REFUSED 0 (leBytes 1 k)) q (lcsWord 0xA2 0 tag) 4 (leBytes 1 k)
    | none =>
      let t := acceptStaff (taken s q 0xA2) q ((taken s q 0xA2).lcs.buf.take len.toNat)
      answered t q (lcsWord 0xA2 0 tag) 0 (leBytes 4 (t.rd Reg.LCS_STAFF_COUNT).toNat) := by
  refine (lcsRequest_allowed hh _ _ _ _ hq).trans ?_
  cases submitFault (taken s q 0xA2) len.toNat <;> rfl

/-! ### OWNER_KEY_SET and KEYSTORE_LOAD (R379, R381) -/

/-- The state with an owner key's hash written into its slot. -/
def ownerKeyPut (b : State) (i : Nat) (cosign : Word) (hash : List Byte) : State :=
  let h := takePad 48 hash
  let t := (b.wrBytes (Reg.OTP_OKEY i 0) 12 h).setBit Reg.LCS_OTP_KEYS i (h.any (· != 0xFF))
  let t := if cosign.getLsbD 0 then t.setBit Reg.LCS_OTP_KEYS 12 true else t
  t.fwLog Ev.OWNER_KEY_SET 0 (leBytes 1 i ++ h.take 28)

theorem ownerKeySet_of (slot : BitVec 16) (cosign : Word) (hash : List Byte) : execOwnerKeySet q tag slot cosign hash s = served (
    let b := taken s q 0xA6
    let w := lcsWord 0xA6 slot.toNat tag
    if lcState b ≠ 1 ∧ lcState b ≠ 3 then b.answer q w 3 [] true
    else if 4 ≤ slot.toNat then b.answer q w 6 [] true
    else if b.bit Reg.LCS_OTP_KEYS slot.toNat then b.answer q w 3 [] true
    else (ownerKeyPut b slot.toNat cosign hash).answer q w 0 [] true) := lcsRequest_allowed hh _ _ _ _ hq

section
variable {slot : BitVec 16} {cosign : Word} {hash : List Byte}

theorem ownerKeySet_closed (h : ¬ (s.fld Reg.LCS_STATE 3 0 = 1 ∨ s.fld Reg.LCS_STATE 3 0 = 3)) :
    execOwnerKeySet q tag slot cosign hash s = answered (taken s q 0xA6) q (lcsWord 0xA6 slot.toNat tag) 3 [] :=
  (ownerKeySet_of hh hq slot cosign hash).trans (congrArg served (if_pos (by rw [lcState_taken]; exact not_or.1 h)))

variable (h : s.fld Reg.LCS_STATE 3 0 = 1 ∨ s.fld Reg.LCS_STATE 3 0 = 3)
include h

omit hh hq in
theorem keysOpen (code : Nat) : ¬ (lcState (taken s q code) ≠ 1 ∧ lcState (taken s q code) ≠ 3) := by
  rw [lcState_taken]
  omega

theorem ownerKeySet_beyond (hi : 4 ≤ slot.toNat) :
    execOwnerKeySet q tag slot cosign hash s = answered (taken s q 0xA6) q (lcsWord 0xA6 slot.toNat tag) 6 [] :=
  (ownerKeySet_of hh hq slot cosign hash).trans (congrArg served ((if_neg (keysOpen h 0xA6)).trans (if_pos hi)))

variable (hi : slot.toNat < 4)
include hi

omit hh hq h hi in
theorem otpKey_taken (code i : Nat) : (taken s q code).bit Reg.LCS_OTP_KEYS i = s.bit Reg.LCS_OTP_KEYS i :=
  (taken_eventful s q code).bit_eq (by unfold recorderWord; decide) i

theorem ownerKeySet_written (hb : s.bit Reg.LCS_OTP_KEYS slot.toNat = true) :
    execOwnerKeySet q tag slot cosign hash s = answered (taken s q 0xA6) q (lcsWord 0xA6 slot.toNat tag) 3 [] :=
  (ownerKeySet_of hh hq slot cosign hash).trans (congrArg served ((if_neg (keysOpen h 0xA6)).trans ((if_neg (not_le.2 hi)).trans
    (if_pos ((otpKey_taken _ _).trans hb)))))

theorem ownerKeySet_writes (hb : s.bit Reg.LCS_OTP_KEYS slot.toNat = false) : execOwnerKeySet q tag slot cosign hash s =
    answered (ownerKeyPut (taken s q 0xA6) slot.toNat cosign hash) q (lcsWord 0xA6 slot.toNat tag) 0 [] :=
  (ownerKeySet_of hh hq slot cosign hash).trans (congrArg served ((if_neg (keysOpen h 0xA6)).trans ((if_neg (not_le.2 hi)).trans
    (if_neg (by rw [otpKey_taken, hb]; decide)))))

end

theorem keystoreLoad_of (len : Word) : execKeystoreLoad q tag len s = served (
    let b := taken s q 0xA8
    if lcState b ≠ 1 ∧ lcState b ≠ 3 then b.answer q (lcsWord 0xA8 0 tag) 3 [] true
    else if b.lcs.buf.length < len.toNat then b.answer q (lcsWord 0xA8 0 tag) 6 [] true
    else ({ b with lcs := { b.lcs with staged := some (b.lcs.buf.take len.toNat) } } : State).answer q (lcsWord 0xA8 0 tag) 0 [] true) :=
  lcsRequest_allowed hh _ _ _ _ hq

section
variable {len : Word}

theorem keystoreLoad_closed (h : ¬ (s.fld Reg.LCS_STATE 3 0 = 1 ∨ s.fld Reg.LCS_STATE 3 0 = 3)) :
    execKeystoreLoad q tag len s = answered (taken s q 0xA8) q (lcsWord 0xA8 0 tag) 3 [] :=
  (keystoreLoad_of hh hq len).trans (congrArg served (if_pos (by rw [lcState_taken]; exact not_or.1 h)))

variable (h : s.fld Reg.LCS_STATE 3 0 = 1 ∨ s.fld Reg.LCS_STATE 3 0 = 3)
include h

theorem keystoreLoad_beyond (hl : s.lcs.buf.length < len.toNat) :
    execKeystoreLoad q tag len s = answered (taken s q 0xA8) q (lcsWord 0xA8 0 tag) 6 [] :=
  (keystoreLoad_of hh hq len).trans (congrArg served ((if_neg (keysOpen h 0xA8)).trans (if_pos (by rw [lcs_taken]; exact hl))))

theorem keystoreLoad_stages (hl : len.toNat ≤ s.lcs.buf.length) : execKeystoreLoad q tag len s =
    answered { taken s q 0xA8 with lcs := { (taken s q 0xA8).lcs with staged := some ((taken s q 0xA8).lcs.buf.take len.toNat) } } q
      (lcsWord 0xA8 0 tag) 0 [] :=
  (keystoreLoad_of hh hq len).trans (congrArg served ((if_neg (keysOpen h 0xA8)).trans (if_neg (by rw [lcs_taken]; omega))))

end

end

/-! ### LC_STATUS (R367) -/

section
include hh

theorem lcStatus_of : execLcStatus q tag s = served (
    if mayControl q = false ∧ q ≠ .agent 1 then (taken s q 0xA7).answer q (lcsWord 0xA7 0 tag) 1 [] true
    else (taken s q 0xA7).answer q (lcsWord 0xA7 0 tag) 0 ([Reg.LCS_STATE, Reg.LCS_OTP_KEYS, Reg.LCS_STAFF_COUNT].flatMap
      (fun a => leBytes 4 ((taken s q 0xA7).rd a).toNat)) true) := request_heard hh _ _ _

theorem lcStatus_denied (hq : ¬ (q = .agent 0 ∨ q = .inst 0)) (h1 : q ≠ .agent 1) :
    execLcStatus q tag s = answered (taken s q 0xA7) q (lcsWord 0xA7 0 tag) 1 [] :=
  (lcStatus_of hh).trans (congrArg served (if_pos ⟨mayControl_eq_false_iff.2 hq, h1⟩))

theorem lcStatus_shown (hq : (q = .agent 0 ∨ q = .inst 0) ∨ q = .agent 1) : execLcStatus q tag s =
    answered (taken s q 0xA7) q (lcsWord 0xA7 0 tag) 0 ([Reg.LCS_STATE, Reg.LCS_OTP_KEYS, Reg.LCS_STAFF_COUNT].flatMap
      (fun a => leBytes 4 ((taken s q 0xA7).rd a).toNat)) := by
  refine (lcStatus_of hh).trans (congrArg served (if_neg ?_))
  rintro ⟨hf, ha⟩
  exact hq.elim (mayControl_eq_false_iff.1 hf) ha

end

end

end Sys2Proof.Machine
end

section
/-! O59: the life-cycle requests that need a ticket, and all of them settled. -/

namespace Sys2Proof.Machine

section
variable {s : State} {q : Sender} {tag : Byte} {ticket : Word} (hh : Heard s q)

/-! ### LC_TRANSIT, ERASE_USER_SECRETS and DEBUG_ARM (R369-R371, R374, R381) -/

/-- What LC_TRANSIT into x does with a ticket of its scope in slot i. -/
def transitAnswer (b : State) (q : Sender) (w0 x : Nat) (ticket : Word) (i : Nat) : State :=
  match ticketAt b i with
  | none => b.answer q w0 1 [] true
  | some k =>
    if transitTicket b k x = false then b.answer q w0 1 [] true
    else if transitAllowed (useTicket b i 0xA3) x = false then (useTicket b i 0xA3).answer q w0 3 [] true
    else lcTransit (useTicket b i 0xA3) q w0 x ticket k

/-- What ERASE_USER_SECRETS does with a ticket of its scope in slot i. -/
def eraseAnswer (b : State) (q : Sender) (w0 : Nat) (ticket : Word) (i : Nat) : State :=
  match ticketAt b i with
  | none => b.answer q w0 1 [] true
  | some k =>
    if k.signer ≠ 1 then b.answer q w0 1 [] true
    else if lcState (useTicket b i 0xA4) ≠ 2 ∨ lockedDown (useTicket b i 0xA4) = true then (useTicket b i 0xA4).answer q w0 3 [] true
    else lcTransit (useTicket b i 0xA4) q w0 3 ticket k

/-- The state with the debug level of the ticket's staff pending. -/
def armPending (u : State) (ticket : Word) (level : Nat) : State :=
  { u with lcs := { u.lcs with staffs := u.lcs.staffs.map (fun e => if e.counter = ticket.toNat then { e with pending := level + 1 } else e) } }

/-- What DEBUG_ARM does with a ticket of its scope in slot i. -/
def armAnswer (b : State) (q : Sender) (w0 : Nat) (ticket : Word) (i : Nat) : State :=
  if lcState (useTicket b i 0xA5) ≠ 3 then (useTicket b i 0xA5).answer q w0 3 [] true
  else (armPending (useTicket b i 0xA5) ticket ((((ticketAt b i).map Ticket.level).getD 0) % 4)).answer q w0 0 [] true

section
include hh

theorem lcTransit_of (target : BitVec 16) : execLcTransit q tag target ticket s = served (
    withTicket (taken s q 0xA3) q (lcsWord 0xA3 target.toNat tag) ticket 2
      (transitAnswer (taken s q 0xA3) q (lcsWord 0xA3 target.toNat tag) target.toNat ticket)) := request_heard hh _ _ _

theorem eraseUserSecrets_of : execEraseUserSecrets q tag ticket s = served (
    withTicket (taken s q 0xA4) q (lcsWord 0xA4 0 tag) ticket 5 (eraseAnswer (taken s q 0xA4) q (lcsWord 0xA4 0 tag) ticket)) :=
  request_heard hh _ _ _

theorem debugArm_of : execDebugArm q tag ticket s = served (
    withTicket (taken s q 0xA5) q (lcsWord 0xA5 0 tag) ticket 1 (armAnswer (taken s q 0xA5) q (lcsWord 0xA5 0 tag) ticket)) :=
  request_heard hh _ _ _

theorem lcTransit_ticketless (target : BitVec 16) (h : ¬ (q = .agent 0 ∨ q = .inst 0) ∨ validTicket s q ticket 2 = none) :
    execLcTransit q tag target ticket s = answered (taken s q 0xA3) q (lcsWord 0xA3 target.toNat tag) 1 [] :=
  (lcTransit_of hh target).trans (congrArg served (withTicket_denied (ticketless h 0xA3)))

theorem eraseUserSecrets_ticketless (h : ¬ (q = .agent 0 ∨ q = .inst 0) ∨ validTicket s q ticket 5 = none) :
    execEraseUserSecrets q tag ticket s = answered (taken s q 0xA4) q (lcsWord 0xA4 0 tag) 1 [] :=
  (eraseUserSecrets_of hh).trans (congrArg served (withTicket_denied (ticketless h 0xA4)))

theorem debugArm_ticketless (h : ¬ (q = .agent 0 ∨ q = .inst 0) ∨ validTicket s q ticket 1 = none) :
    execDebugArm q tag ticket s = answered (taken s q 0xA5) q (lcsWord 0xA5 0 tag) 1 [] :=
  (debugArm_of hh).trans (congrArg served (withTicket_denied (ticketless h 0xA5)))

end

section
variable (hq : q = .agent 0 ∨ q = .inst 0) {i : Nat}
include hh hq

section
variable {target : BitVec 16} (hi : validTicket s q ticket 2 = some i)
include hi

theorem lcTransit_valid : execLcTransit q tag target ticket s =
    served (transitAnswer (taken s q 0xA3) q (lcsWord 0xA3 target.toNat tag) target.toNat ticket i) :=
  (lcTransit_of hh target).trans (congrArg served
    (withTicket_valid hq (((taken_eventful s q 0xA3).validTicket_eq q ticket 2).trans hi)))

theorem lcTransit_lapsed (hk : ticketAt s i = none) :
    execLcTransit q tag target ticket s = answered (taken s q 0xA3) q (lcsWord 0xA3 target.toNat tag) 1 [] := by
  rw [lcTransit_valid hh hq hi, transitAnswer, ticketAt_taken, hk]
  rfl

section
variable {k : Ticket} (hk : ticketAt s i = some k)
include hk

theorem lcTransit_ticket : execLcTransit q tag target ticket s = served (
    let b := taken s q 0xA3
    let w := lcsWord 0xA3 target.toNat tag
    if transitTicket s k target.toNat = false then b.answer q w 1 [] true
    else if transitAllowed s target.toNat = false then (useTicket b i 0xA3).answer q w 3 [] true
    else lcTransit (useTicket b i 0xA3) q w target.toNat ticket k) := by
  rw [lcTransit_valid hh hq hi, transitAnswer, ticketAt_taken, hk]
  dsimp only
  rw [transitTicket_taken, transitAllowed_used (validTicket_lt hi)]

theorem lcTransit_unauthorised (h : ¬ transitTicket s k target.toNat = true) :
    execLcTransit q tag target ticket s = answered (taken s q 0xA3) q (lcsWord 0xA3 target.toNat tag) 1 [] :=
  (lcTransit_ticket hh hq hi hk).trans (congrArg served (if_pos (Bool.eq_false_iff.2 h)))

variable (h : transitTicket s k target.toNat = true)
include h

theorem lcTransit_disallowed (ha : transitAllowed s target.toNat = false) : execLcTransit q tag target ticket s =
    answered (useTicket (taken s q 0xA3) i 0xA3) q (lcsWord 0xA3 target.toNat tag) 3 [] :=
  (lcTransit_ticket hh hq hi hk).trans (congrArg served ((if_neg (by rw [h]; decide)).trans (if_pos ha)))

theorem lcTransit_passes (ha : transitAllowed s target.toNat = true) : execLcTransit q tag target ticket s =
    served (lcTransit (useTicket (taken s q 0xA3) i 0xA3) q (lcsWord 0xA3 target.toNat tag) target.toNat ticket k) :=
  (lcTransit_ticket hh hq hi hk).trans (congrArg served ((if_neg (by rw [h]; decide)).trans (if_neg (by rw [ha]; decide))))

end

end

section
variable (hi : validTicket s q ticket 5 = some i)
include hi

theorem eraseUserSecrets_valid : execEraseUserSecrets q tag ticket s =
    served (eraseAnswer (taken s q 0xA4) q (lcsWord 0xA4 0 tag) ticket i) :=
  (eraseUserSecrets_of hh).trans (congrArg served
    (withTicket_valid hq (((taken_eventful s q 0xA4).validTicket_eq q ticket 5).trans hi)))

theorem eraseUserSecrets_lapsed (hk : ticketAt s i = none) :
    execEraseUserSecrets q tag ticket s = answered (taken s q 0xA4) q (lcsWord 0xA4 0 tag) 1 [] := by
  rw [eraseUserSecrets_valid hh hq hi, eraseAnswer, ticketAt_taken, hk]
  rfl

section
variable {k : Ticket} (hk : ticketAt s i = some k)
include hk

theorem eraseUserSecrets_ticket : execEraseUserSecrets q tag ticket s = served (
    let b := taken s q 0xA4
    let w := lcsWord 0xA4 0 tag
    if k.signer ≠ 1 then b.answer q w 1 [] true
    else if s.fld Reg.LCS_STATE 3 0 ≠ 2 ∨ lockedDown s = true then (useTicket b i 0xA4).answer q w 3 [] true
    else lcTransit (useTicket b i 0xA4) q w 3 ticket k) := by
  rw [eraseUserSecrets_valid hh hq hi, eraseAnswer, ticketAt_taken, hk]
  dsimp only
  rw [lcState_used (validTicket_lt hi), lockedDown_used (validTicket_lt hi)]

theorem eraseUserSecrets_unauthorised (h : k.signer ≠ 1) :
    execEraseUserSecrets q tag ticket s = answered (taken s q 0xA4) q (lcsWord 0xA4 0 tag) 1 [] :=
  (eraseUserSecrets_ticket hh hq hi hk).trans (congrArg served (if_pos h))

variable (h : k.signer = 1)
include h

theorem eraseUserSecrets_disallowed (hr : ¬ (s.fld Reg.LCS_STATE 3 0 = 2 ∧ lockedDown s = false)) :
    execEraseUserSecrets q tag ticket s = answered (useTicket (taken s q 0xA4) i 0xA4) q (lcsWord 0xA4 0 tag) 3 [] := by
  refine (eraseUserSecrets_ticket hh hq hi hk).trans (congrArg served ((if_neg (not_not.2 h)).trans (if_pos ?_)))
  rwa [not_and_or, Bool.not_eq_false] at hr

theorem eraseUserSecrets_passes (hr : s.fld Reg.LCS_STATE 3 0 = 2 ∧ lockedDown s = false) : execEraseUserSecrets q tag ticket s =
    served (lcTransit (useTicket (taken s q 0xA4) i 0xA4) q (lcsWord 0xA4 0 tag) 3 ticket k) := by
  refine (eraseUserSecrets_ticket hh hq hi hk).trans (congrArg served ((if_neg (not_not.2 h)).trans (if_neg ?_)))
  rwa [not_or, not_not, Bool.not_eq_true]

end

end

section
variable (hi : validTicket s q ticket 1 = some i)
include hi

theorem debugArm_valid : execDebugArm q tag ticket s = served (
    let b := taken s q 0xA5
    if s.fld Reg.LCS_STATE 3 0 ≠ 3 then (useTicket b i 0xA5).answer q (lcsWord 0xA5 0 tag) 3 [] true
    else (armPending (useTicket b i 0xA5) ticket ((((ticketAt s i).map Ticket.level).getD 0) % 4)).answer q (lcsWord 0xA5 0 tag) 0 []
      true) := by
  rw [debugArm_of hh, withTicket_valid hq (((taken_eventful s q 0xA5).validTicket_eq q ticket 1).trans hi), armAnswer, ticketAt_taken,
    lcState_used (validTicket_lt hi)]

theorem debugArm_elsewhere (h : s.fld Reg.LCS_STATE 3 0 ≠ 3) :
    execDebugArm q tag ticket s = answered (useTicket (taken s q 0xA5) i 0xA5) q (lcsWord 0xA5 0 tag) 3 [] :=
  (debugArm_valid hh hq hi).trans (congrArg served (if_pos h))

theorem debugArm_arms (h : s.fld Reg.LCS_STATE 3 0 = 3) : execDebugArm q tag ticket s =
    answered (armPending (useTicket (taken s q 0xA5) i 0xA5) ticket ((((ticketAt s i).map Ticket.level).getD 0) % 4)) q
      (lcsWord 0xA5 0 tag) 0 [] :=
  (debugArm_valid hh hq hi).trans (congrArg served (if_neg (not_not.2 h)))

end

end

end

/-- Settles O59: each life-cycle request is denied, refused or carried out as its sender, its ticket and the state call for. -/
theorem lifeCycleRequests : Obligations.LifeCycleRequests := by
  intro s q tag hh
  refine ⟨fun hq off data len ticket target slot cosign hash => ⟨?_, ?_, ?_, ?_, ?_, ?_, ?_, ?_⟩, lcStatus_denied hh, lcStatus_shown hh,
    fun hq => ⟨staffNonce_refused hh hq, staffNonce_drawn hh hq, fun off data => ⟨lcsData_refused hh hq, lcsData_appended hh hq⟩,
      fun len => staffSubmit_of hh hq len, fun ticket => ⟨fun target h => ?_, fun h => ?_, fun h => ?_, fun i target hi hk => ?_,
        fun i hi hk => ?_, fun i target k hi hk => ⟨fun h => ?_, fun h ha => ?_, fun h ha => ?_⟩,
        fun i k hi hk => ⟨fun h => ?_, fun h hr => ?_, fun h hr => ?_⟩, fun i hi => ⟨fun h => ?_, fun h => ?_⟩⟩,
      fun slot cosign hash => ⟨ownerKeySet_closed hh hq, ownerKeySet_beyond hh hq, ownerKeySet_written hh hq, ownerKeySet_writes hh hq⟩,
      fun len => ⟨keystoreLoad_closed hh hq, keystoreLoad_beyond hh hq, keystoreLoad_stages hh hq⟩⟩⟩
  · exact lcsRequest_denied hh _ _ _ _ hq
  · exact lcsRequest_denied hh _ _ _ _ hq
  · exact lcsRequest_denied hh _ _ _ _ hq
  · exact lcTransit_ticketless hh target (.inl hq)
  · exact eraseUserSecrets_ticketless hh (.inl hq)
  · exact debugArm_ticketless hh (.inl hq)
  · exact lcsRequest_denied hh _ _ _ _ hq
  · exact lcsRequest_denied hh _ _ _ _ hq
  · exact lcTransit_ticketless hh target (.inr h)
  · exact eraseUserSecrets_ticketless hh (.inr h)
  · exact debugArm_ticketless hh (.inr h)
  · exact lcTransit_lapsed hh hq hi hk
  · exact eraseUserSecrets_lapsed hh hq hi hk
  · exact lcTransit_unauthorised hh hq hi hk (mt transitTicket_iff.1 h)
  · exact lcTransit_disallowed hh hq hi hk (transitTicket_iff.2 h) ha
  · exact (lcTransit_passes hh hq hi hk (transitTicket_iff.2 h) ha).trans (lcTransit_eq _ _ _ _ _ _)
  · exact eraseUserSecrets_unauthorised hh hq hi hk h
  · exact eraseUserSecrets_disallowed hh hq hi hk h hr
  · exact (eraseUserSecrets_passes hh hq hi hk h hr).trans (lcTransit_eq _ _ _ _ _ _)
  · exact debugArm_elsewhere hh hq hi h
  · exact debugArm_arms hh hq hi h

end Sys2Proof.Machine
end

section
/-! O60: writes of MTM_CTL, the end of a memory test, and the TAP's instructions. -/

namespace Sys2Proof.Machine

section
variable {s : State} {p : Party}

theorem State.rdBytes_congr {t u : State} {n : Nat} : ∀ {a : Nat}, (∀ k < n, t.rd (a + 4 * k) = u.rd (a + 4 * k)) →
    t.rdBytes a n = u.rdBytes a n := by
  induction n with
  | zero => exact fun _ => rfl
  | succ n ih =>
    intro a h
    have h0 : t.rd a = u.rd a := h 0 (Nat.succ_pos n)
    have hrest : t.rdBytes (a + 4) n = u.rdBytes (a + 4) n := ih fun k hk => by
      have := h (k + 1) (Nat.succ_lt_succ hk)
      rwa [Nat.mul_succ, Nat.add_comm (4 * k), ← Nat.add_assoc] at this
    rw [State.rdBytes, State.rdBytes, h0, hrest]

/-! ### MTM_CTL (R369) -/

/-- MTM_CTL as a write of this test and target with go leaves it. -/
def mtmCommand (s : State) (test target : Nat) : Word := (s.rd Reg.MTM_CTL &&& ~~~0xFFF) ||| BitVec.ofNat 32 (test + 16 * target)

/-- The word that such a write carries. -/
def mtmWord (test target : Nat) : Word := BitVec.ofNat 32 (test + target * 2 ^ 4 + 2 ^ 31)

section
variable {test target : Nat} (ht : test < 16) (hg : target < 256)
include ht hg

theorem mtmWord_toNat : (mtmWord test target).toNat = test + target * 2 ^ 4 + 2 ^ 31 := by
  rw [mtmWord, BitVec.toNat_ofNat]
  omega

/-- The word has its go bit. -/
theorem mtmWord_go : (mtmWord test target).getLsbD 31 = true := by
  rw [← BitVec.testBit_toNat, mtmWord_toNat ht hg, Nat.add_comm, Nat.testBit_two_pow_add_eq,
    Nat.testBit_lt_two_pow (by omega)]
  rfl

theorem mtmWord_fields : mtmWord test target &&& 0xFFF = BitVec.ofNat 32 (test + 16 * target) := by
  refine BitVec.eq_of_toNat_eq ?_
  rw [BitVec.toNat_and, mtmWord_toNat ht hg, BitVec.toNat_ofNat]
  show _ &&& (2 ^ 12 - 1) = _
  rw [Nat.and_two_pow_sub_one_eq_mod]
  omega

theorem mtmCommand_under (s : State) : underMask (s.rd Reg.MTM_CTL) (mtmWord test target) 0xFFF = mtmCommand s test target := by
  rw [underMask, mtmWord_fields ht hg, mtmCommand]

theorem mtmCommand_low (s : State) : (mtmCommand s test target).toNat % 2 ^ 12 = test + 16 * target := by
  rw [← Nat.and_two_pow_sub_one_eq_mod]
  have h : mtmCommand s test target &&& 0xFFF = BitVec.ofNat 32 (test + 16 * target) := by
    rw [← mtmCommand_under ht hg, ← mtmWord_fields ht hg, underMask]
    ext i hi
    simp only [BitVec.getElem_or, BitVec.getElem_and, BitVec.getElem_not]
    cases (s.rd Reg.MTM_CTL)[i] <;> cases (mtmWord test target)[i] <;> cases (0xFFF#32)[i] <;> rfl
  have hn := congrArg BitVec.toNat h
  rw [BitVec.toNat_and, BitVec.toNat_ofNat] at hn
  refine hn.trans (Nat.mod_eq_of_lt (by omega))

theorem mtmCommand_test (s : State) : getBits (mtmCommand s test target) 3 0 = test := by
  have h := mtmCommand_low ht hg s
  unfold getBits bitsOf
  omega

theorem mtmCommand_target (s : State) : getBits (mtmCommand s test target) 11 4 = target := by
  have h := mtmCommand_low ht hg s
  unfold getBits bitsOf
  omega

/-- The store of MTM_CTL: its fields, with the record of a change; go reads 0. -/
theorem storeReg_mtm {r : RegRow} (hf : r.fields = [⟨3, 0, .rw, true, .p⟩, ⟨11, 4, .rw, true, .p⟩, ⟨31, 31, .wt, false, .p⟩]) (o : Origin) :
    Eventful (s.wr Reg.MTM_CTL (mtmCommand s test target)) (storeReg s o r Reg.MTM_CTL (mtmWord test target) 0xF) := by
  have hnew (l : Bool) (old w t : Word) : regNew r l old w t = underMask old w 0xFFF := by
    have h : regNew r l old w t = underMask (underMask old w 0xF) w 0xFF0 := by
      rw [regNew, hf]
      rfl
    rw [h, underMask_underMask]
    rfl
  unfold storeReg
  dsimp only
  rw [canonReg_of (.inl (by decide)), mergeBe_full, hnew, mtmCommand_under ht hg]
  exact Eventful.noteChange _ _ _ _ _ _ _

end

theorem mtmOpen_iff : mtmOpen s = true ↔ s.fld Reg.LCS_STATE 3 0 = 0 ∨ s.fld Reg.LCS_STATE 3 0 = 1 ∨ s.fld Reg.LCS_STATE 3 0 = 4 := by
  simp only [mtmOpen, lcState, Bool.or_eq_true, beq_iff_eq, or_assoc]

theorem discardQuiet_mtm : discardQuiet s Reg.MTM_CTL = !mtmOpen s := by
  have h : ∀ a b c d e f g : Bool, ((false && a && b) || (false && c && d) || (false && e) || (false && f && g) ||
    (true && !mtmOpen s) || false) = !mtmOpen s := by simp
  exact h _ _ _ _ _ _ _

/-- A write of MTM_CTL with go, once it is taken. -/
def mtmTaken (s : State) (o : Origin) (r : RegRow) (v : Word) : State :=
  let t := if s.lcs.mtmKey = false then s else storeReg s o r Reg.MTM_CTL v 0xF
  mtmGo t (t.fld Reg.MTM_CTL 3 0) (t.fld Reg.MTM_CTL 11 4)

theorem acceptWrite_mtm (p : Party) {r : RegRow} (hbase : r.base = Reg.MTM_CTL) {v : Word} (hv : v.getLsbD 31 = true) :
    acceptWrite s p r Reg.MTM_CTL v 0xF = if mtmOpen s = true then mtmTaken s p.origin r v else s := by
  have hlogged : discardLogged s r Reg.MTM_CTL = false := discardLogged_eq_false (.inl (by rw [hbase]; decide))
  refine (if_neg (by rw [hlogged]; decide)).trans ?_
  rw [discardQuiet_mtm]
  cases hopen : mtmOpen s with
  | false => rfl
  | true =>
    refine ((if_neg (by decide)).trans ((if_neg (by decide)).trans ((if_neg (by decide)).trans ((if_neg (by decide)).trans
      ((if_neg (by decide)).trans ((if_neg (by decide)).trans ((if_neg (by decide)).trans (if_pos rfl)))))))).trans ?_
    rw [mergeBe_full, hv, if_pos rfl, if_pos rfl]
    simp only [true_and]
    rfl

variable (hw : Writer s p Reg.MTM_CTL)
include hw

theorem mtmWrite_row {test target : Nat} (ht : test < 16) (hg : target < 256) : ∃ r : RegRow,
    r.fields = [⟨3, 0, .rw, true, .p⟩, ⟨11, 4, .rw, true, .p⟩, ⟨31, 31, .wt, false, .p⟩] ∧
      mtmWrite p test target s = settled (if mtmOpen s = true then mtmTaken s p.origin r (mtmWord test target) else s) := by
  obtain ⟨r, hbase, hf, he⟩ := plainRow (mtmWord test target) 0xF hw
    (rowIs_of (base := Reg.MTM_CTL) (fields := [⟨3, 0, .rw, true, .p⟩, ⟨11, 4, .rw, true, .p⟩, ⟨31, 31, .wt, false, .p⟩]) (by decide +kernel))
    ⟨by decide, .inr (by decide), by decide, by decide⟩ (.inl (by decide))
  exact ⟨r, hf, he.trans (congrArg settled (acceptWrite_mtm p hbase (mtmWord_go ht hg)))⟩

/-- Outside BLANK, TEST and EOL a write of MTM_CTL is discarded. -/
theorem mtmWrite_closed {test target : Nat} (ht : test < 16) (hg : target < 256)
    (h : ¬ (s.fld Reg.LCS_STATE 3 0 = 0 ∨ s.fld Reg.LCS_STATE 3 0 = 1 ∨ s.fld Reg.LCS_STATE 3 0 = 4)) :
    mtmWrite p test target s = settled s := by
  obtain ⟨r, -, he⟩ := mtmWrite_row hw ht hg
  exact he.trans (congrArg settled (if_neg (mt mtmOpen_iff.1 h)))

section
variable (ho : s.fld Reg.LCS_STATE 3 0 = 0 ∨ s.fld Reg.LCS_STATE 3 0 = 1 ∨ s.fld Reg.LCS_STATE 3 0 = 4)
include ho

/-- Without the key the write is ignored and locked_out set. -/
theorem mtmWrite_locked {test target : Nat} (ht : test < 16) (hg : target < 256) (hk : s.lcs.mtmKey = false) :
    mtmWrite p test target s = settled (s.setBit Reg.MTM_STAT 3 true) := by
  obtain ⟨r, -, he⟩ := mtmWrite_row hw ht hg
  rw [he, if_pos (mtmOpen_iff.2 ho), mtmTaken, if_pos hk]
  exact congrArg settled (if_pos hk)

/-- The key used up. -/
def mtmUnlocked (t : State) : State := { t with lcs := { t.lcs with mtmKey := false } }

/-- With the key the write takes effect on the state that has stored it. -/
theorem mtmWrite_keyed {test target : Nat} (ht : test < 16) (hg : target < 256) (hk : s.lcs.mtmKey = true) :
    ∃ t, Eventful (s.wr Reg.MTM_CTL (mtmCommand s test target)) t ∧ t.lcs.mtmKey = true ∧
      mtmWrite p test target s = settled (mtmGo t test target) := by
  obtain ⟨r, hf, he⟩ := mtmWrite_row hw ht hg
  have hev := storeReg_mtm (s := s) ht hg hf p.origin
  have hfld (hi lo : Nat) : (storeReg s p.origin r Reg.MTM_CTL (mtmWord test target) 0xF).fld Reg.MTM_CTL hi lo =
      getBits (mtmCommand s test target) hi lo :=
    (hev.fld_eq (by unfold recorderWord; decide) hi lo).trans (State.fld_wr_self _ _ _ _ _)
  refine ⟨_, hev, (congrArg (·.mtmKey) hev.lcs_eq).trans hk, he.trans (congrArg settled ?_)⟩
  rw [if_pos (mtmOpen_iff.2 ho), mtmTaken, if_neg (by rw [hk]; decide), hfld, hfld, mtmCommand_test ht hg, mtmCommand_target ht hg]

/-- A test of the table runs where none does and its memory exists (R369). -/
theorem mtmTest_keyed {test target : Nat} (ht : test < 5) (hg : target < 256) (hk : s.lcs.mtmKey = true) :
    ∃ t, Eventful (s.wr Reg.MTM_CTL (mtmCommand s test target)) t ∧ mtmWrite p test target s = settled (
      if t.lcs.mtm.isSome = true ∨ mtmTarget target 0 = none then mtmUnlocked t
      else ({ mtmUnlocked t with lcs := { (mtmUnlocked t).lcs with mtm := some (test, target) } } : State).setBit Reg.MTM_STAT 0 true) := by
  obtain ⟨t, hev, hkey, he⟩ := mtmWrite_keyed hw ho (show test < 16 by omega) hg hk
  refine ⟨t, hev, he.trans (congrArg settled ((if_neg (by rw [hkey]; decide)).trans ((if_neg (by omega)).trans ((if_neg (by omega)).trans
    (if_congr ?_ rfl rfl)))))⟩
  exact or_congr_right (or_iff_right (by omega))

theorem lcAdvance_keyed (hk : s.lcs.mtmKey = true) : ∃ t, Eventful (s.wr Reg.MTM_CTL (mtmCommand s 8 0)) t ∧
    mtmWrite p 8 0 s = settled (if s.fld Reg.LCS_STATE 3 0 = 0 ∧ provisioned s = true then
      transitBegin (mtmUnlocked t) .debug 1 0 (List.replicate 28 0) else mtmUnlocked t) := by
  obtain ⟨t, hev, hkey, he⟩ := mtmWrite_keyed hw ho (test := 8) (target := 0) (by decide) (by decide) hk
  have hst : (mtmUnlocked t).fld Reg.LCS_STATE 3 0 = s.fld Reg.LCS_STATE 3 0 :=
    (hev.fld_eq (by unfold recorderWord; decide) 3 0).trans (State.fld_wr_of_ne _ _ _ _ (by decide))
  have hkeys : (mtmUnlocked t).fld Reg.LCS_OTP_KEYS 11 8 = s.fld Reg.LCS_OTP_KEYS 11 8 :=
    (hev.fld_eq (by unfold recorderWord; decide) 11 8).trans (State.fld_wr_of_ne _ _ _ _ (by decide))
  have hserial : (mtmUnlocked t).rdBytes (Reg.LCS_SERIAL 0) 4 = s.rdBytes (Reg.LCS_SERIAL 0) 4 :=
    State.rdBytes_congr fun k hk => (hev.2 _ (by unfold recorderWord Reg.LCS_SERIAL; omega)).trans
      (State.rd_wr_of_ne _ _ (by unfold Reg.LCS_SERIAL Reg.MTM_CTL; omega))
  have hprov : provisioned (mtmUnlocked t) = provisioned s := by unfold provisioned; rw [hkeys, hserial]
  refine ⟨t, hev, he.trans (congrArg settled ((if_neg (by rw [hkey]; decide)).trans ((if_pos rfl).trans (if_congr ?_ rfl rfl))))⟩
  exact and_congr (Eq.congr_left hst) (Eq.congr_left hprov)

theorem lcEol_keyed (hk : s.lcs.mtmKey = true) : ∃ t, Eventful (s.wr Reg.MTM_CTL (mtmCommand s 9 0)) t ∧
    mtmWrite p 9 0 s = settled (if s.fld Reg.LCS_STATE 3 0 = 0 then
      transitBegin (mtmUnlocked t) .debug 4 0 (List.replicate 28 0) else mtmUnlocked t) := by
  obtain ⟨t, hev, hkey, he⟩ := mtmWrite_keyed hw ho (test := 9) (target := 0) (by decide) (by decide) hk
  have hst : (mtmUnlocked t).fld Reg.LCS_STATE 3 0 = s.fld Reg.LCS_STATE 3 0 :=
    (hev.fld_eq (by unfold recorderWord; decide) 3 0).trans (State.fld_wr_of_ne _ _ _ _ (by decide))
  refine ⟨t, hev, he.trans (congrArg settled ((if_neg (by rw [hkey]; decide)).trans ((if_neg (by decide)).trans ((if_pos rfl).trans
    (if_congr (Eq.congr_left hst) rfl rfl)))))⟩

end

end

/-! ### The end of a test, and the TAP (R369, R378, R380) -/

section
variable {s : State} (hp : s.pwr.down = false)
include hp

theorem mtmDone_of (fail : Option Word) : execMtmDone fail s = settled (mtmEnd s fail.isSome (fail.getD 0).toNat) := actSettle_of hp _

theorem mtmDone_idle (fail : Option Word) (h : s.lcs.mtm = none) : execMtmDone fail s = settled s := by
  rw [mtmDone_of hp, mtmEnd, h]

theorem tapSelect_of (level : Nat) (i : TapInstr) : act s (fun s => tapSelect s level i) = .next (tapSelect s level i) := act_of hp _

theorem debugAct_of (i : TapInstr) (f : State → State) : debugAct s i f = settled (
    if debugLevel s = 3 then f { s with tap := i } else { s with tap := .bypass }) := actSettle_of hp _

theorem debugAct_below (i : TapInstr) (f : State → State) (h : s.fld Reg.LCS_STATE 9 8 ≠ 3) :
    debugAct s i f = settled { s with tap := .bypass } := (debugAct_of hp i f).trans (congrArg settled (if_neg h))

theorem debugAct_open (i : TapInstr) (f : State → State) (h : s.fld Reg.LCS_STATE 9 8 = 3) :
    debugAct s i f = settled (f { s with tap := i }) := (debugAct_of hp i f).trans (congrArg settled (if_pos h))

/-- Below level 3 the debug port's instruction is BYPASS. -/
theorem debug_below (q : Proc) (w : Wop) (h : s.fld Reg.LCS_STATE 9 8 ≠ 3) :
    execDebugHalt q s = settled { s with tap := .bypass } ∧ execDebugStep q w s = settled { s with tap := .bypass } ∧
      execDebugResume q s = settled { s with tap := .bypass } :=
  ⟨debugAct_below hp _ _ h, debugAct_below hp _ _ h, debugAct_below hp _ _ h⟩

theorem debugHalt_open (q : Proc) (h : s.fld Reg.LCS_STATE 9 8 = 3) :
    execDebugHalt q s = settled (setHalt { s with tap := .halt } q true) := debugAct_open hp _ _ h

theorem debugResume_open (q : Proc) (h : s.fld Reg.LCS_STATE 9 8 = 3) :
    execDebugResume q s = settled (setHalt { s with tap := .resume } q false) := debugAct_open hp _ _ h

theorem debugStep_running (q : Proc) (w : Wop) (h : s.fld Reg.LCS_STATE 9 8 = 3) (hh : isHalted s q = false) :
    execDebugStep q w s = settled { s with tap := .step } :=
  (debugAct_open hp _ _ h).trans (congrArg settled (if_neg (ne_true_of_eq_false (by cases q <;> exact hh))))

theorem debugStep_halted (q : Proc) (w : Wop) (h : s.fld Reg.LCS_STATE 9 8 = 3) (hh : isHalted s q = true) :
    execDebugStep q w s = settled (setHalt (debugRun (setHalt { s with tap := .step } q false) q w) q true) :=
  (debugAct_open hp _ _ h).trans (congrArg settled (if_pos (by cases q <;> exact hh)))

end

/-- Settles O60: the memory tests take their key and their state, and the TAP's instructions their debug level. -/
theorem memoryTestsAndDebug : Obligations.MemoryTestsAndDebug := by
  refine ⟨fun s p hw => ⟨fun hn => ⟨fun m => ⟨?_, ?_, ?_, ?_, ?_⟩, ?_, ?_⟩, fun ho m k i hi => ⟨fun hk => ?_, fun hk => ?_⟩,
      fun ho hk => ⟨?_, ?_⟩, fun ho hk => ⟨?_, ?_⟩⟩,
    fun s hp => ⟨fun h fail => mtmDone_idle hp fail h, fun test target fail h => ?_, ⟨?_, ?_, ?_, ?_, ?_⟩,
      fun p w h => debug_below hp p w h, fun p w h => ⟨?_, ?_, debugStep_running hp p w h, fun hh => ?_⟩⟩⟩
  · exact mtmWrite_closed hw (by decide) m.isLt hn
  · exact mtmWrite_closed hw (by decide) m.isLt hn
  · exact mtmWrite_closed hw (by decide) m.isLt hn
  · exact mtmWrite_closed hw (by decide) m.isLt hn
  · exact mtmWrite_closed hw (by decide) m.isLt hn
  · exact mtmWrite_closed (test := 8) (target := 0) hw (by decide) (by decide) hn
  · exact mtmWrite_closed (test := 9) (target := 0) hw (by decide) (by decide) hn
  · have h := mtmWrite_locked hw ho (test := k) (target := m.toNat)
    simp only [List.mem_cons, Prod.mk.injEq, List.not_mem_nil, or_false] at hi
    obtain ⟨rfl, rfl⟩ | ⟨rfl, rfl⟩ | ⟨rfl, rfl⟩ | ⟨rfl, rfl⟩ | ⟨rfl, rfl⟩ := hi <;> exact h (by decide) m.isLt hk
  · have h (hlt : k < 5) : ∃ t, Eventful (s.wr Reg.MTM_CTL (mtmCommand s k m.toNat)) t ∧ mtmWrite p k m.toNat s = settled (
        if s.lcs.mtm.isSome = true ∨ mtmTarget m.toNat 0 = none then mtmUnlocked t
        else ({ mtmUnlocked t with lcs := { (mtmUnlocked t).lcs with mtm := some (k, m.toNat) } } : State).setBit Reg.MTM_STAT 0 true) := by
      obtain ⟨t, hev, he⟩ := mtmTest_keyed hw ho hlt m.isLt hk
      exact ⟨t, hev, he.trans (by rw [hev.lcs_eq]; rfl)⟩
    simp only [List.mem_cons, Prod.mk.injEq, List.not_mem_nil, or_false] at hi
    obtain ⟨rfl, rfl⟩ | ⟨rfl, rfl⟩ | ⟨rfl, rfl⟩ | ⟨rfl, rfl⟩ | ⟨rfl, rfl⟩ := hi <;> exact h (by decide)
  · exact mtmWrite_locked (test := 8) (target := 0) hw ho (by decide) (by decide) hk
  · exact mtmWrite_locked (test := 9) (target := 0) hw ho (by decide) (by decide) hk
  · exact lcAdvance_keyed hw ho hk
  · exact lcEol_keyed hw ho hk
  · refine (mtmDone_of hp fail).trans (congrArg settled ?_)
    rw [mtmEnd, h]
    rfl
  · exact tapSelect_of hp 0 .idcode
  · exact tapSelect_of hp 0 .bypass
  · exact tapSelect_of hp 1 .extest
  · exact tapSelect_of hp 1 .samplePreload
  · exact tapSelect_of hp 1 .intest
  · exact (debugHalt_open hp p h).trans (by cases p <;> rfl)
  · exact (debugResume_open hp p h).trans (by cases p <;> rfl)
  · exact (debugStep_halted hp p w h hh).trans (by cases p <;> rfl)

end Sys2Proof.Machine
end

section
/-! O56 fails: a DONE ends the stall of its channel. -/

namespace Sys2Proof.Machine

/-- Channel 0, bound from agent 1 to agent 0, holds a message that was marked as stalled and not taken. -/
def mailboxStalled : State :=
  ((State.reset.wr (Reg.MBX_BIND 0) (0x29 + 0x28 * 2 ^ 6 + 2 ^ 12)).wr (Reg.MBX_CTL 0) 1).wr (Reg.MBX_STAT 0) 0x10

/-- Whether channel 0 shows a stall after the outcome of a command. -/
def showsStall : Out → Bool
  | .next u => u.bit (Reg.MBX_STAT 0) 4
  | _ => false

theorem mailboxStalled_mailing : Mailing mailboxStalled (.agent 0) .store (Reg.MBX_DONE 0) := by decide +kernel

/-- The receiver's DONE ends the stall. -/
theorem done_unstalls : showsStall (execMbxDone (.agent 0) 0 mailboxStalled) = false := by decide +kernel

/-- What the statement says of DONE keeps the stall. -/
def doneClaimed (s : State) : State :=
  let t := (s.setBit (Reg.MBX_CTL 0) 0 false).setBit (Reg.MBX_STAT 0) 0 false
  let t := mbxInterrupt t (mbxSender t 0) 0 false
  match (List.finRange 4).find? (fun a => answerChannel t (0x28 + a.val) == some 0) with
  | some a => postAnswer t a
  | none => t

theorem doneClaimed_stalls : showsStall (settled (doneClaimed mailboxStalled)) = true := by decide +kernel

theorem touched_mailboxStalled : touched mailboxStalled (.agent 0) = mailboxStalled := rfl

/-- Refutes O56: the receiver's DONE of a channel that is marked as stalled ends the stall in the model (R324 gives a stall both go = 1), which the statement
leaves out: from `mailboxStalled` the model clears STAT.stall, the statement keeps it. -/
theorem not_mailboxes : ¬ Obligations.Mailboxes := by
  intro h
  obtain ⟨hchannels, -⟩ := h
  obtain ⟨-, -, -, -, hdone, -⟩ := hchannels mailboxStalled (.agent 0) 0
  obtain ⟨-, -, hgets⟩ := hdone mailboxStalled_mailing
  rw [touched_mailboxStalled] at hgets
  have heq : execMbxDone (.agent 0) 0 mailboxStalled = settled (doneClaimed mailboxStalled) :=
    hgets (by decide +kernel) (by decide +kernel)
  have hshows := congrArg showsStall heq
  rw [done_unstalls, doneClaimed_stalls] at hshows
  exact absurd hshows (by decide)

end Sys2Proof.Machine
end

section
/-! O50: the owner's writes of an Instance's control and doorbell registers. -/

namespace Sys2Proof.Machine

/-! ### The rows of the Instance pages -/

/-- The rows of the table for the Instance pages. -/
def instanceRows : List RegRow := rows2041_0 ++ rows2041_1

/-- The register at offset x of Instance n's page. -/
def instReg (n x : Nat) : Nat := 0x20410000 + n * 0x100 + x

theorem covers_instance {r : RegRow} {n x : Nat} {ds : List (Nat × Nat)} (hd : r.dims = (0x100, 1025) :: ds) (hn : n < 1025)
    (h0 : 0x20410000 ≤ r.base) (h1 : r.base < 0x20410100) (hx : r.base ≤ 0x20410000 + x ∨ ds = []) (hlt : x < 0x100) :
    r.covers (instReg n x) = r.covers (0x20410000 + x) := by
  unfold instReg
  by_cases hle : r.base ≤ 0x20410000 + x
  · have e1 : (0x20410000 + n * 0x100 + x - r.base) / 0x100 = n := by omega
    have e2 : (0x20410000 + n * 0x100 + x - r.base) % 0x100 = 0x20410000 + x - r.base := by omega
    have e3 : (0x20410000 + x - r.base) / 0x100 = 0 := by omega
    have e4 : (0x20410000 + x - r.base) % 0x100 = 0x20410000 + x - r.base := by omega
    simp only [RegRow.covers, matchDims, hd, e1, e2, e3, e4, hn, decide_true, Bool.true_and,
      decide_eq_true (show r.base ≤ 0x20410000 + n * 0x100 + x by omega), decide_eq_true (show r.base ≤ 0x20410000 + x by omega),
      decide_eq_true (show 0 < 1025 by omega)]
  · have hnone : r.covers (0x20410000 + x) = false := by
      rw [RegRow.covers, decide_eq_false (by omega), Bool.false_and]
    rw [hnone, RegRow.covers, hd, hx.resolve_left hle, matchDims, matchDims]
    by_cases hpage : r.base ≤ 0x20410000 + n * 0x100 + x
    · have hres : ¬ (0x20410000 + n * 0x100 + x - r.base) % 0x100 = 0 := by omega
      rw [beq_eq_false_iff_ne.2 hres, Bool.and_false, Bool.and_false]
    · rw [decide_eq_false hpage, Bool.false_and]

/-- Every Instance's page holds the same registers. -/
theorem rowIs_instance {n x i base : Nat} {fields : List Field} (hn : n < 1025) (hx : x < 0x100)
    (hrows : (instanceRows.take i).all (fun r => r.dims.head? == some (0x100, 1025) && decide (0x20410000 ≤ r.base) &&
      decide (r.base < 0x20410100) && (decide (r.base ≤ 0x20410000 + x) || r.dims.tail == [])) = true)
    (h : ((instanceRows.take i).find? (fun r => r.covers (0x20410000 + x))).map (fun r => (r.base, r.pairLow, r.fields)) =
      some (base, false, fields)) : RowIs (instReg n x) base fields := by
  obtain ⟨r, hr, heq⟩ := Option.map_eq_some_iff.1 h
  simp only [Prod.mk.injEq] at heq
  refine ⟨r, ?_, heq⟩
  have hof : rowsOf (instReg n x) = instanceRows := by
    unfold rowsOf instReg
    iterate 20 rw [if_neg (by omega)]
    rw [if_pos (by omega)]
    rfl
  have hsame : (instanceRows.take i).find? (fun r => r.covers (instReg n x)) = some r := by
    rw [← hr]
    refine List.find?_congr fun q hq => ?_
    have hq := List.all_eq_true.1 hrows q hq
    simp only [Bool.and_eq_true, Bool.or_eq_true, beq_iff_eq, decide_eq_true_eq] at hq
    obtain ⟨⟨⟨hd, h0⟩, h1⟩, h2⟩ := hq
    obtain ⟨ds, hds⟩ := List.head?_eq_some_iff.1 hd
    exact covers_instance hds hn h0 h1 (h2.imp_right fun h => by rw [hds] at h; exact h) hx
  rw [rowAt, hof, ← List.take_append_drop i instanceRows, List.find?_append, hsame]
  rfl

/-- The fields of VIN_n_CTL. -/
def ctlFields : List Field := [⟨0, 0, .rw, false, .ui⟩, ⟨1, 1, .rw, false, .ui⟩, ⟨2, 2, .wt, false, .ui⟩]

theorem rowIs_vinCtl (n : Fin 1025) : RowIs (instReg n.val 0) 0x20410000 ctlFields :=
  rowIs_instance (i := 1) n.isLt (by decide) (by decide +kernel) (by decide +kernel)

/-- The offset of a ring's doorbell (R282). -/
def bellOff (ring : Fin 4) : Nat := if ring = 0 then 0x60 else if ring = 1 then 0x68 else if ring = 2 then 0x70 else 0x78

theorem bellOff_range (ring : Fin 4) : 0x60 ≤ bellOff ring ∧ bellOff ring < 0x80 := by revert ring; decide

theorem rowIs_doorbell (n : Fin 1025) (ring : Fin 4) :
    RowIs (instReg n.val (bellOff ring)) (0x20410000 + bellOff ring) [⟨15, 0, .rw, false, .ui⟩] :=
  rowIs_instance (i := 21) n.isLt (by revert ring; decide) (by revert ring; decide +kernel) (by revert ring; decide +kernel)

theorem rowIs_dirtyDb : RowIs Reg.VIN_0_DIRTY_DB Reg.VIN_0_DIRTY_DB [⟨15, 0, .wt, false, .ui⟩, ⟨26, 16, .wt, false, .ui⟩] :=
  rowIs_of (by decide +kernel)

/-! ### A write of one of these registers -/

section
variable {s : State} {p : Party} {n : Fin 1025} {x base : Nat} {fields : List Field} {v : Word}

theorem discardQuiet_instance (hx : x = 0 ∨ 0x60 ≤ x ∧ x < 0x100) : discardQuiet s (instReg n.val x) = false := by
  have hn := n.isLt
  have hoff : instReg n.val x % 0x100 = x := by unfold instReg; omega
  have h1 : decide (0x20310010 ≤ instReg n.val x ∧ instReg n.val x ≤ 0x20310020) = false :=
    decide_eq_false (by unfold instReg; omega)
  have h2 : ((x == 0x18) || decide (0x20 ≤ x ∧ x < 0x40)) = false := by
    rw [decide_eq_false (by omega), beq_eq_false_iff_ne.2 (by omega), Bool.or_false]
  have h3 : decide (0x50 ≤ x ∧ x < 0x60) = false := decide_eq_false (by omega)
  have h4 : decide (0x20400010 ≤ instReg n.val x ∧ instReg n.val x < 0x20400020) = false :=
    decide_eq_false (by unfold instReg; omega)
  have h5 : decide (0x20131000 ≤ instReg n.val x ∧ instReg n.val x < 0x20132000) = false :=
    decide_eq_false (by unfold instReg; omega)
  have h6 : decide (0x20078000 ≤ instReg n.val x ∧ instReg n.val x < 0x20078020) = false :=
    decide_eq_false (by unfold instReg; omega)
  have h7 : portOnly (instReg n.val x) = false := by
    unfold portOnly
    rw [decide_eq_false (by unfold instReg; omega)]
    rfl
  simp only [discardQuiet, hoff, h1, h2, h3, h4, h5, h6, h7, Bool.false_and, Bool.and_false, Bool.or_self]

/-- A write of a control or doorbell register of an Instance takes the register's effect. -/
theorem instanceRow (hw : Writer s p (instReg n.val x)) (hrow : RowIs (instReg n.val x) base fields)
    (hui : fields.any (fun f => f.view == .ui) = true) (hx : x = 0 ∨ 0x60 ≤ x ∧ x < 0x100) (hbase : 0x20410000 ≤ base)
    (hc : instReg n.val x ≠ Reg.VIN_0_EVR_CURSOR) : ∃ r : RegRow, r.base = base ∧
      writeRow p (instReg n.val x) v 0xF s = settled (actInst s p.origin r (instReg n.val x) v v 0xF) := by
  obtain ⟨r, hr, hb, hpl, hf⟩ := hrow
  have hn := n.isLt
  have hplain : PlainAddr (instReg n.val x) :=
    ⟨by unfold instReg; omega, .inr (by unfold instReg; omega), by unfold instReg; omega, hc⟩
  have hmpu : isMpu (instReg n.val x) = false := decide_eq_false (by unfold instReg; omega)
  have hmir : inMirror (instReg n.val x) = false := decide_eq_false (by unfold instReg; omega)
  refine ⟨r, hb, (writeRow_taken hw hr hpl (ownedWrite_plain hplain) hmpu hmir fun _ => by rw [hf]; exact hui).trans
    (congrArg settled ?_)⟩
  have hlogged : discardLogged s r (instReg n.val x) = false := discardLogged_eq_false (.inr (by omega))
  refine (if_neg (by rw [hlogged]; decide)).trans ((if_neg (by rw [discardQuiet_instance hx]; decide)).trans
    ((if_neg (by unfold instReg; omega)).trans ((if_neg (by unfold instReg; omega)).trans ((if_pos (by unfold instReg; omega)).trans ?_))))
  rw [mergeBe_full]

theorem instReg_page (n : Fin 1025) (hx : x < 0x100) : (instReg n.val x - 0x20410000) / 0x100 % 1025 = n.val := by
  have := n.isLt
  unfold instReg
  omega

/-- What a write of VIN_n_CTL does (R274, R281, R288). -/
def ctlWritten (s : State) (n : Fin 1025) (v : Word) : State :=
  let s := if v.getLsbD 0 then enableWrite s n.val else s
  let s := if v.getLsbD 1 then featuresWrite s n.val else s
  if v.getLsbD 2 then instReset s n.val 0 none else s

theorem vinCtl_written (hw : Writer s p (Reg.VIN_CTL n.val)) (v : Word) :
    writeRow p (Reg.VIN_CTL n.val) v 0xF s = settled (ctlWritten s n v) := by
  obtain ⟨r, hb, he⟩ := instanceRow (v := v) (x := 0) hw (rowIs_vinCtl n) rfl (.inl rfl) (by decide)
    (by unfold instReg Reg.VIN_0_EVR_CURSOR; omega)
  refine he.trans (congrArg settled ?_)
  unfold actInst
  dsimp only
  rw [hb, if_pos rfl, instReg_page n (by decide)]
  rfl

theorem doorbellReg_eq (n : Fin 1025) : ∀ ring : Fin 4, doorbellReg n.val ring.val = instReg n.val (bellOff ring)
  | 0 => Nat.add_right_comm 0x20410000 0x60 (n.val * 0x100)
  | 1 => Nat.add_right_comm 0x20410000 0x68 (n.val * 0x100)
  | 2 => Nat.add_right_comm 0x20410000 0x70 (n.val * 0x100)
  | 3 => Nat.add_right_comm 0x20410000 0x78 (n.val * 0x100)

theorem doorbell_written (ring : Fin 4) (hw : Writer s p (doorbellReg n.val ring.val)) (v : Word) :
    writeRow p (doorbellReg n.val ring.val) v 0xF s = settled (doorbell s n ring.val (getBits v 15 0)) := by
  rw [doorbellReg_eq] at hw ⊢
  have hoff : 0x60 ≤ bellOff ring ∧ bellOff ring < 0x80 := bellOff_range ring
  obtain ⟨r, hb, he⟩ := instanceRow (v := v) hw (rowIs_doorbell n ring) rfl (.inr (by omega)) (by omega)
    (by unfold instReg Reg.VIN_0_EVR_CURSOR; omega)
  refine he.trans (congrArg settled ?_)
  have hpage : (⟨(instReg n.val (bellOff ring) - 0x20410000) / 0x100 % 1025, Nat.mod_lt _ (by decide)⟩ : Fin 1025) = n :=
    Fin.ext (instReg_page n (by omega))
  unfold actInst
  dsimp only
  rw [hpage, hb, mergeBe_full]
  fin_cases ring <;> rfl

theorem dirtyDb_written (hw : Writer s p Reg.VIN_0_DIRTY_DB) (v : Word) : writeRow p Reg.VIN_0_DIRTY_DB v 0xF s = settled (
    if h : getBits v 26 16 < 1025 then dirtyDb s ⟨getBits v 26 16, h⟩ (getBits v 15 0) else s) := by
  obtain ⟨r, hb, he⟩ := instanceRow (v := v) (n := 0) (x := 0xF0) hw rowIs_dirtyDb rfl (.inr (by decide)) (by decide) (by decide)
  refine he.trans (congrArg settled ?_)
  unfold actInst
  dsimp only
  rw [hb, if_neg (by decide), if_neg (by decide), if_neg (by decide), if_neg (by decide), if_neg (by decide), if_pos (by decide)]
  simp only [mergeBe_full]

end

/-! ### What the writes do -/

section
variable {s : State} {p : Party} {n : Fin 1025}

section
variable (hw : Writer s p (Reg.VIN_CTL n.val))
include hw

theorem enableWrite_of : execEnableWrite p n s = settled (enableWrite s n.val) := vinCtl_written hw 1

theorem featuresOkWrite_of : execFeaturesOkWrite p n s = settled (featuresWrite s n.val) := vinCtl_written hw 2

theorem instanceResetWrite_of : execInstanceResetWrite p n s = settled (instReset s n.val 0 none) := vinCtl_written hw 4

theorem enableWrite_created (h : vinState s n.val = 1) : execEnableWrite p n s = settled (enableNow s n.val) :=
  (enableWrite_of hw).trans (congrArg settled (if_pos h))

theorem enableWrite_resetting (h : vinState s n.val = 4) :
    execEnableWrite p n s = settled (s.setBit (Reg.VIN_STAT n.val) 3 true) :=
  (enableWrite_of hw).trans (congrArg settled ((if_neg (by omega)).trans (if_pos h)))

theorem enableWrite_other (h1 : vinState s n.val ≠ 1) (h4 : vinState s n.val ≠ 4) : execEnableWrite p n s = settled s :=
  (enableWrite_of hw).trans (congrArg settled ((if_neg h1).trans (if_neg h4)))

theorem featuresOkWrite_busy (h : s.bit (Reg.VIN_CTL n.val) 1 = true ∨ s.bit (Reg.VIN_STAT n.val) 7 = true ∨ vinState s n.val = 0) :
    execFeaturesOkWrite p n s = settled s := (featuresOkWrite_of hw).trans (congrArg settled (if_pos h))

theorem featuresOkWrite_starts (h : ¬ (s.bit (Reg.VIN_CTL n.val) 1 = true ∨ s.bit (Reg.VIN_STAT n.val) 7 = true ∨ vinState s n.val = 0)) :
    execFeaturesOkWrite p n s = settled (s.setBit (Reg.VIN_STAT n.val) 7 true) :=
  (featuresOkWrite_of hw).trans (congrArg settled (if_neg h))

omit hw in
/-- A reset of an Instance that names no requester. -/
theorem instReset_none (s : State) (n : Nat) : instReset s n 0 none =
    if vinState s n = 0 ∨ vinState s n = 5 then s
    else
      let t := if vinState s n = 4 then s else resetBegin s n 4 0
      t.setInst n (t.inst n) := by
  unfold instReset
  simp only [Option.any_none, Bool.false_eq_true, if_false, Option.toList_none, List.append_nil]

theorem instanceResetWrite_gone (h : vinState s n.val = 0 ∨ vinState s n.val = 5) : execInstanceResetWrite p n s = settled s := by
  rw [instanceResetWrite_of hw, instReset_none, if_pos h]

theorem instanceResetWrite_resetting (h : vinState s n.val = 4) :
    execInstanceResetWrite p n s = settled (s.setInst n.val (s.inst n.val)) := by
  rw [instanceResetWrite_of hw, instReset_none, if_neg (by omega)]
  simp only [if_pos h]

theorem instanceResetWrite_begins (h0 : vinState s n.val ≠ 0) (h4 : vinState s n.val ≠ 4) (h5 : vinState s n.val ≠ 5) :
    execInstanceResetWrite p n s = settled ((resetBegin s n.val 4 0).setInst n.val ((resetBegin s n.val 4 0).inst n.val)) := by
  rw [instanceResetWrite_of hw, instReset_none, if_neg (by omega)]
  simp only [if_neg h4]

end

section
variable (ring : Fin 4) (v : Word) (hw : Writer s p (doorbellReg n.val ring.val))
include hw

/-- A doorbell outside ACTIVE and QUIESCED is discarded. -/
theorem doorbell_dead (h : ¬ (vinState s n.val = 2 ∨ vinState s n.val = 3)) :
    writeRow p (doorbellReg n.val ring.val) v 0xF s = settled s :=
  (doorbell_written ring hw v).trans (congrArg settled (if_pos (not_or.1 h)))

section
variable (hl : vinState s n.val = 2 ∨ vinState s n.val = 3)
include hl

theorem doorbell_valid (h : doorbellOk s n.val ring.val (getBits v 15 0) = true) :
    writeRow p (doorbellReg n.val ring.val) v 0xF s = settled (
      if ring.val = 3 then rspDrain (s.setF (doorbellReg n.val ring.val) 15 0 (getBits v 15 0)) n
      else s.setF (doorbellReg n.val ring.val) 15 0 (getBits v 15 0)) :=
  (doorbell_written ring hw v).trans (congrArg settled ((if_neg (mt not_or.2 (not_not.2 hl))).trans (if_pos h)))

theorem doorbell_invalid (h : doorbellOk s n.val ring.val (getBits v 15 0) ≠ true) :
    writeRow p (doorbellReg n.val ring.val) v 0xF s = settled (
      let head := s.fld (if ring.val = 0 ∨ ring.val = 2 then deviceReg n.val ring.val else doorbellReg n.val ring.val) 15 0
      let tail := s.fld (if ring.val = 0 ∨ ring.val = 2 then doorbellReg n.val ring.val else deviceReg n.val ring.val) 15 0
      stateInt (vinLog ((s.setBit (Reg.VIN_STAT n.val) 5 true).inc (Reg.VIN_DB_BAD n.val)) Ev.DOORBELL_BAD n.val
        (leBytes 1 ring.val ++ leBytes 2 (getBits v 15 0) ++ leBytes 2 head ++ leBytes 2 tail)) n.val) :=
  (doorbell_written ring hw v).trans (congrArg settled ((if_neg (mt not_or.2 (not_not.2 hl))).trans (if_neg h)))

end

end

section
variable {v : Word} (hw : Writer s p Reg.VIN_0_DIRTY_DB)
include hw

theorem dirtyDb_beyond (h : 1025 ≤ getBits v 26 16) : execDirtyDb p v s = settled s :=
  (dirtyDb_written hw v).trans (congrArg settled (dif_neg (by omega)))

theorem dirtyDb_at (h : getBits v 26 16 = n.val) : execDirtyDb p v s = settled (dirtyDb s n (getBits v 15 0)) := by
  have hlt : getBits v 26 16 < 1025 := h ▸ n.isLt
  have hn : (⟨getBits v 26 16, hlt⟩ : Fin 1025) = n := Fin.ext h
  refine (dirtyDb_written hw v).trans (congrArg settled ((dif_pos hlt).trans ?_))
  rw [hn]

theorem dirtyDb_idle (h : getBits v 26 16 = n.val) (hd : (s.inst n.val).dirty = none) : execDirtyDb p v s = settled s := by
  rw [dirtyDb_at hw h, dirtyDb, hd]

theorem dirtyDb_logging (h : getBits v 26 16 = n.val) {d : Dirty} (hd : (s.inst n.val).dirty = some d) :
    execDirtyDb p v s = settled (
      let head := getBits v 15 0
      let old := s.fld (Reg.VIN_DIRTY_IDX n.val) 31 16
      let tail := s.fld (Reg.VIN_DIRTY_IDX n.val) 15 0
      if head < 2 ^ d.depth ∧ ringDiff head old d.depth ≤ ringDiff tail old d.depth then
        dirtyDrain ((s.setInst n.val { s.inst n.val with dirty := some { d with recent := d.recent.drop (ringDiff head old d.depth) } }).setF
          (Reg.VIN_DIRTY_IDX n.val) 31 16 head) n
      else stateInt (vinLog ((s.setBit (Reg.VIN_STAT 0) 5 true).inc (Reg.VIN_DB_BAD 0)) Ev.DOORBELL_BAD 0
        (leBytes 1 4 ++ leBytes 2 head ++ leBytes 2 old ++ leBytes 2 tail)) 0) := by
  rw [dirtyDb_at hw h, dirtyDb, hd]

end

theorem doorbellOk_iff {ring i : Nat} : doorbellOk s n.val ring i = true ↔
    i < 2 ^ ringLog s n.val ring ∧ (if ring = 0 ∨ ring = 2 then
      ringDiff (s.fld (doorbellReg n.val ring) 15 0) (s.fld (deviceReg n.val ring) 15 0) (ringLog s n.val ring) ≤
        ringDiff i (s.fld (deviceReg n.val ring) 15 0) (ringLog s n.val ring)
      else ringDiff i (s.fld (doorbellReg n.val ring) 15 0) (ringLog s n.val ring) ≤
        ringDiff (s.fld (deviceReg n.val ring) 15 0) (s.fld (doorbellReg n.val ring) 15 0) (ringLog s n.val ring)) := by
  unfold doorbellOk
  dsimp only
  split <;> simp only [Bool.and_eq_true, decide_eq_true_eq]

end

/-- Settles O50: the owner's writes of an Instance's control, doorbell and dirty-ring registers. -/
theorem instanceRegisters : Obligations.InstanceRegisters := by
  intro s p n
  refine ⟨fun hw => ⟨enableWrite_created hw, enableWrite_resetting hw, enableWrite_other hw,
    ⟨featuresOkWrite_busy hw, featuresOkWrite_starts hw⟩, instanceResetWrite_gone hw, instanceResetWrite_resetting hw,
    instanceResetWrite_begins hw⟩, fun v => ⟨?_, ?_, ?_, ?_⟩, fun v hw => ⟨dirtyDb_beyond hw, dirtyDb_idle hw, fun d h hd =>
      ⟨fun hv => ?_, fun hv => ?_⟩⟩⟩
  · exact fun hw => ⟨doorbell_dead 0 v hw, fun hl hv => doorbell_valid 0 v hw hl (doorbellOk_iff.2 hv),
      fun hl hv => doorbell_invalid 0 v hw hl (mt doorbellOk_iff.1 hv)⟩
  · exact fun hw => ⟨doorbell_dead 1 v hw, fun hl hv => doorbell_valid 1 v hw hl (doorbellOk_iff.2 hv),
      fun hl hv => doorbell_invalid 1 v hw hl (mt doorbellOk_iff.1 hv)⟩
  · exact fun hw => ⟨doorbell_dead 2 v hw, fun hl hv => doorbell_valid 2 v hw hl (doorbellOk_iff.2 hv),
      fun hl hv => doorbell_invalid 2 v hw hl (mt doorbellOk_iff.1 hv)⟩
  · exact fun hw => ⟨doorbell_dead 3 v hw, fun hl hv => doorbell_valid 3 v hw hl (doorbellOk_iff.2 hv),
      fun hl hv => doorbell_invalid 3 v hw hl (mt doorbellOk_iff.1 hv)⟩
  · exact (dirtyDb_logging hw h hd).trans (congrArg settled (if_pos hv))
  · exact (dirtyDb_logging hw h hd).trans (congrArg settled (if_neg hv))

end Sys2Proof.Machine
end

section
/-! The end of the power-fail flush: what records and the flush leave of the recorder, of PWR_STAT and of the power state. -/

namespace Sys2Proof.Machine

/-! ### Records keep the end of the flush (R355) -/

/-- Whether the power-fail flush has ended is in `t` what it is in `s`. -/
def FlushKept (s t : State) : Prop := t.evr.pfDone = s.evr.pfDone

theorem FlushKept.trans {s t u : State} (h : FlushKept s t) (k : FlushKept t u) : FlushKept s u := Eq.trans k h

theorem FlushKept.of_evr {s t : State} (h : t.evr = s.evr) : FlushKept s t := congrArg Recorder.pfDone h

theorem FlushKept.foldl {α : Type} {f : State → α → State} (h : ∀ s x, FlushKept s (f s x)) (l : List α) (s : State) :
    FlushKept s (l.foldl f s) := by
  induction l generalizing s with
  | nil => rfl
  | cons x l ih => exact (h s x).trans (ih _)

theorem evr_bumpWindows (old : Recorder) (ws : List (Nat × Nat)) (s : State) : (s.bumpWindows old ws).evr = s.evr := by
  induction ws generalizing s with
  | nil => rfl
  | cons w ws ih =>
    refine (ih _).trans ?_
    split <;> rfl

/-- The recorder replaced by one that agrees on it. -/
theorem FlushKept.setEvr (s : State) {e : Recorder} (h : e.pfDone = s.evr.pfDone) : FlushKept s (s.setEvr e) :=
  (congrArg Recorder.pfDone (evr_bumpWindows s.evr windowRegs { s with evr := e })).trans h

theorem FlushKept.wr (s : State) (a : Nat) (v : Word) : FlushKept s (s.wr a v) := rfl

theorem FlushKept.evrLost (s : State) : FlushKept s s.evrLost := FlushKept.wr _ _ _

theorem FlushKept.countDrop (s : State) (v : Sev) : FlushKept s (s.countDrop v) := FlushKept.wr _ _ _

theorem FlushKept.putRam (s : State) (r : Record) : FlushKept s (s.putRam r) := by
  unfold State.putRam
  dsimp only
  split
  · exact FlushKept.setEvr s rfl
  split
  · exact FlushKept.setEvr s rfl
  split
  · refine FlushKept.trans (FlushKept.trans ?_ (FlushKept.wr _ _ _)) (FlushKept.evrLost _)
    exact FlushKept.setEvr s rfl
  · exact (FlushKept.countDrop s _).trans (FlushKept.evrLost _)

theorem FlushKept.mergeInto (s : State) (r : Record) : FlushKept s (s.mergeInto r) := by
  unfold State.mergeInto
  dsimp only
  split
  · exact FlushKept.setEvr s rfl
  · exact FlushKept.putRam s _

theorem FlushKept.afterRecord (s : State) (v : Sev) : FlushKept s (s.afterRecord v) := by
  have hint : FlushKept s (if v = .security then s.setBit Reg.EVR_INT 0 true else s) := by split <;> rfl
  unfold State.afterRecord
  generalize (if v = .security then s.setBit Reg.EVR_INT 0 true else s) = t at hint
  dsimp only
  split <;> exact hint

theorem evr_mbxInterrupt (s : State) (i n : Nat) (b : Bool) : (mbxInterrupt s i n b).evr = s.evr := by
  have hpair (s : State) (lo hi n : Nat) : (s.setPair lo hi n).evr = s.evr := by
    unfold State.setPair
    split <;> rfl
  unfold mbxInterrupt
  split
  · split
    · exact hpair s _ _ n
    · exact hpair s _ _ n
  split
  · dsimp only
    split <;> exact hpair s _ _ n
  · rfl

theorem evr_wr (s : State) (a : Nat) (v : Word) : (s.wr a v).evr = s.evr := rfl

theorem evr_mbxPosted (s : State) (n : Nat) : (mbxPosted s n).evr = s.evr := by
  simp only [mbxPosted, evr_mbxInterrupt, State.inc, State.setBit, State.setF, evr_wr]

theorem evr_mbxSend (s : State) (n : Nat) (bs : List Byte) : (mbxSend s n bs).evr = s.evr := by
  have hbytes : (s.wrBytes (Reg.MBX_DATA n 0) 16 bs).evr = s.evr := AllBut.wrBytes s _ _ _ .evr (by decide)
  rw [mbxSend, evr_mbxPosted, State.setF, evr_wr, hbytes]

theorem FlushKept.notifyAll (s : State) (comp : Nat) (body : List Byte) : FlushKept s (notifyAll s comp body) := by
  refine FlushKept.foldl (fun s n => FlushKept.of_evr ?_) _ s
  unfold notifyOn
  dsimp only
  split
  · rfl
  · exact evr_mbxSend _ _ _

theorem FlushKept.kept (s : State) (r : Record) (v : Sev) : FlushKept s (((s.putRam r).afterRecord v).notifyRecord r) := by
  refine FlushKept.trans ((FlushKept.putRam s r).trans (FlushKept.afterRecord (s.putRam r) v)) ?_
  unfold State.notifyRecord
  split
  · exact FlushKept.notifyAll _ _ _
  · rfl

theorem FlushKept.record (s : State) (code origin detail : Nat) (payload : List Byte) (change derived : Bool) :
    FlushKept s (s.record code origin detail payload change derived) := by
  unfold State.record
  dsimp only
  split
  · exact (FlushKept.mergeInto s _).trans (FlushKept.afterRecord _ _)
  split
  · rfl
  · exact FlushKept.trans (s := s) (t := { s with evr := { s.evr with next := s.evr.next + 1 } }) rfl (FlushKept.kept _ _ _)

theorem FlushKept.setL (s : State) (o : Origin) (a hi lo v : Nat) : FlushKept s (s.setL o a hi lo v) := by
  unfold State.setL
  dsimp only
  split
  · rfl
  · exact FlushKept.trans (s := s) (t := s.wr a _) rfl (FlushKept.record _ _ _ _ _ _ _)

/-! ### The flush writes the record and the windows alone -/

theorem Eventful.bumpSuper (old : Recorder) (q : Nat) (s : State) : Eventful s (bumpSuper old q s) := by
  have hwords : ∀ w ∈ windowRegs, recorderWord w.2 := by
    unfold recorderWord
    decide
  refine Eventful.foldl _ (fun s w hw => ?_) s
  dsimp only
  split
  · exact Eventful.wr _ _ (hwords w hw)
  · exact Eventful.refl s

theorem Eventful.evrLost (s : State) : Eventful s s.evrLost := Eventful.wr _ _ (by unfold recorderWord; decide)

theorem Eventful.writeRecord (s : State) (r : Record) (pf : Bool) : Eventful s (writeRecord s r pf) := by
  have hreplaced (v : Sev) : recorderWord (Reg.EVR_REPLACED v.code) := by
    have := Sev.code_lt v
    unfold recorderWord Reg.EVR_REPLACED
    omega
  have hdropped (v : Sev) : recorderWord (Reg.EVR_DROPPED v.code) := by
    have := Sev.code_lt v
    unfold recorderWord Reg.EVR_DROPPED
    omega
  unfold Machine.writeRecord
  dsimp only
  split
  · exact (Eventful.setEvr _ _).trans (Eventful.bumpSuper _ _ _)
  split
  · exact Eventful.setEvr _ _
  split
  · exact ((Eventful.setEvr _ _).trans (Eventful.wr _ _ (hreplaced _))).trans (Eventful.evrLost _)
  · exact ((Eventful.setEvr _ _).trans (Eventful.wr _ _ (hdropped _))).trans (Eventful.evrLost _)

theorem Eventful.writeRecords (pf : Bool) (rs : List Record) (s : State) : Eventful s (writeRecords s pf rs) := by
  induction rs generalizing s with
  | nil => exact Eventful.refl s
  | cons r rs ih => exact (Eventful.writeRecord s r pf).trans (ih _)

/-- A recorder that differs is all that an update of its own part leaves. -/
theorem Eventful.evr (s : State) (e : Recorder) : Eventful s { s with evr := e } := by
  refine Eventful.of fun p hp => ?_
  cases p with
  | evr => exact absurd (by decide) hp
  | _ => rfl

theorem Eventful.evrPowerFail (s : State) (us : Nat) : Eventful s (evrPowerFail s us) := by
  unfold Machine.evrPowerFail
  dsimp only
  refine (Eventful.evr s { s.evr with suspended := true }).trans ?_
  split
  · exact Eventful.evr _ _
  · exact ((Eventful.writeRecords _ _ _).trans ((Eventful.log _ _ _ _ _).trans (Eventful.writeRecords _ _ _))).trans (Eventful.evr _ _)

theorem pfDone_evrPowerFail (s : State) (us : Nat) : (evrPowerFail s us).evr.pfDone = true := by
  unfold evrPowerFail
  dsimp only
  split <;> rfl

/-! ### PWR_STAT and the power state after the flush -/

section
variable {s : State} {us : Nat}

theorem powerFailed_done (h : s.evr.pfDone = true) : powerFailed s us = s := if_pos (.inr h)

section
variable (hf : s.bit Reg.PWR_STAT 0 = true)
include hf

/-- PWR_STAT with standby entered, before its record. -/
def standbyShown (s : State) (us : Nat) : State := (evrPowerFail s us).setBit Reg.PWR_STAT 2 true

/-- The state that has flushed and entered STANDBY. -/
theorem powerFailed_flushes (h : s.evr.pfDone = false) : powerFailed s us =
    let t := dropTagKey (setPlatformOn (standbyShown s us) false)
    { t with pwr := { t.pwr with standby := true, goingOff := false } } :=
  if_neg (by rw [hf, h]; decide)

omit hf in
theorem rd_standby : (setPlatformOn (standbyShown s us) false).rd Reg.PWR_STAT =
    setBits ((standbyShown s us).rd Reg.PWR_STAT) 3 3 0 :=
  (State.setL_spec _ _ _ _ _ _ (by unfold recorderWord; decide)).2.1

omit hf in
theorem bit_standby {i : Nat} (hi : i < 32) (h3 : i ≠ 3) :
    (setPlatformOn (standbyShown s us) false).bit Reg.PWR_STAT i = if i = 2 then true else s.bit Reg.PWR_STAT i := by
  have hkept : (standbyShown s us).bit Reg.PWR_STAT i = if i = 2 then true else s.bit Reg.PWR_STAT i := by
    rw [standbyShown, State.bit_setBit _ _ _ _ _ (by decide) hi, (Eventful.evrPowerFail s us).bit_eq (by unfold recorderWord; decide)]
  rw [← hkept, State.bit, rd_standby, getLsbD_setBits _ _ _ _ _ (by decide) (by decide) hi, if_neg (by omega), State.bit]

omit hf in
theorem platformOn_standby : (setPlatformOn (standbyShown s us) false).bit Reg.PWR_STAT 3 = false := by
  rw [State.bit, rd_standby, getLsbD_setBits _ _ _ _ _ (by decide) (by decide) (by decide), if_pos (by decide)]
  rfl

omit hf in
theorem pwr_standby : (setPlatformOn (standbyShown s us) false).pwr = s.pwr :=
  Eq.trans (b := (standbyShown s us).pwr) ((State.setL_spec _ .power Reg.PWR_STAT 3 3 0 (by unfold recorderWord; decide)).1 .pwr (by decide))
    (Eventful.evrPowerFail s us).pwr_eq

/-- The registers after the flush are those that the standby shows. -/
theorem regs_powerFailed (h : s.evr.pfDone = false) : (powerFailed s us).regs = (setPlatformOn (standbyShown s us) false).regs := by
  rw [powerFailed_flushes hf h]
  rfl

theorem pwr_powerFailed (h : s.evr.pfDone = false) :
    (powerFailed s us).pwr = { (setPlatformOn (standbyShown s us) false).pwr with standby := true, goingOff := false } := by
  rw [powerFailed_flushes hf h]
  rfl

theorem evr_powerFailed (h : s.evr.pfDone = false) : (powerFailed s us).evr = (setPlatformOn (standbyShown s us) false).evr := by
  rw [powerFailed_flushes hf h]
  rfl

theorem bit_powerFailed (h : s.evr.pfDone = false) (i : Nat) :
    (powerFailed s us).bit Reg.PWR_STAT i = (setPlatformOn (standbyShown s us) false).bit Reg.PWR_STAT i :=
  bit_of_rd (State.rd_congr (regs_powerFailed hf h) _) i

/-- Power still fails after the flush. -/
theorem failing_powerFailed : (powerFailed s us).bit Reg.PWR_STAT 0 = true := by
  cases h : s.evr.pfDone with
  | true => rwa [powerFailed_done h]
  | false => rw [bit_powerFailed hf h, bit_standby (by decide) (by decide), if_neg (by decide), hf]

theorem railsGone_powerFailed : (powerFailed s us).pwr.railsGone = s.pwr.railsGone := by
  cases h : s.evr.pfDone with
  | true => rw [powerFailed_done h]
  | false => rw [pwr_powerFailed hf h, pwr_standby]

theorem pfDone_powerFailed (h : s.evr.pfDone = false) : (powerFailed s us).evr.pfDone = true := by
  have hkept : FlushKept (standbyShown s us) (setPlatformOn (standbyShown s us) false) := FlushKept.setL _ _ _ _ _ _
  rw [evr_powerFailed hf h, hkept]
  exact pfDone_evrPowerFail s us

theorem standby_powerFailed (h : s.evr.pfDone = false) : (powerFailed s us).bit Reg.PWR_STAT 2 = true ∧
    platformOn (powerFailed s us) = false ∧ (powerFailed s us).pwr.standby = true ∧ (powerFailed s us).pwr.goingOff = false ∧
      (powerFailed s us).tagKey = none := by
  refine ⟨?_, ?_, ?_, ?_, ?_⟩
  · rw [bit_powerFailed hf h, bit_standby (by decide) (by decide), if_pos rfl]
  · rw [platformOn, bit_powerFailed hf h, platformOn_standby]
  · rw [pwr_powerFailed hf h]
  · rw [pwr_powerFailed hf h]
  · rw [powerFailed_flushes hf h]
    rfl

end

end

end Sys2Proof.Machine
end

section
/-! The domains' state words: what leaves them as they are, up to the reset of PF0. -/

namespace Sys2Proof.Machine

/-- A word in the place of PWR_DOM_d_STAT. -/
def DomWord (a : Nat) : Prop := 0x20081000 ≤ a ∧ a < 0x20081400 ∧ a % 32 = 8

/-- Every domain's state word is in `t` what it is in `s`. -/
def DomKept (s t : State) : Prop := ∀ a, DomWord a → t.rd a = s.rd a

theorem DomKept.refl (s : State) : DomKept s s := fun _ _ => rfl

theorem DomKept.trans {s t u : State} (h : DomKept s t) (k : DomKept t u) : DomKept s u :=
  fun a ha => (k a ha).trans (h a ha)

theorem DomKept.of_regs {s t : State} (h : t.regs = s.regs) : DomKept s t := fun a _ => State.rd_congr h a

theorem DomKept.of_eventful {s t : State} (h : Eventful s t) : DomKept s t := fun a ha => h.2 a (by
  obtain ⟨h1, h2, -⟩ := ha
  unfold recorderWord
  omega)

theorem DomKept.foldl {α : Type} {f : State → α → State} (h : ∀ s x, DomKept s (f s x)) (l : List α) (s : State) :
    DomKept s (l.foldl f s) := by
  induction l generalizing s with
  | nil => exact DomKept.refl s
  | cons x l ih => exact (h s x).trans (ih _)

theorem DomKept.ite {s t u : State} {c : Prop} [Decidable c] (h : DomKept s t) (k : DomKept s u) : DomKept s (if c then t else u) := by
  split
  · exact h
  · exact k

/-! ### Single words -/

section
variable (s : State) {a : Nat} (ha : ¬ DomWord a)
include ha

theorem DomKept.wr (v : Word) : DomKept s (s.wr a v) := fun _ hb => State.rd_wr_of_ne s v fun e => ha (e ▸ hb)

theorem DomKept.setF (hi lo v : Nat) : DomKept s (s.setF a hi lo v) := DomKept.wr s ha _

theorem DomKept.setBit (i : Nat) (x : Bool) : DomKept s (s.setBit a i x) := DomKept.wr s ha _

theorem DomKept.inc : DomKept s (s.inc a) := DomKept.wr s ha _

theorem DomKept.addTo (n : Nat) : DomKept s (s.addTo a n) := DomKept.wr s ha _

theorem DomKept.setL (o : Origin) (hi lo v : Nat) : DomKept s (s.setL o a hi lo v) := by
  unfold State.setL
  dsimp only
  split
  · exact DomKept.refl s
  · exact (DomKept.wr s ha _).trans (DomKept.of_eventful (Eventful.regChange _ _ _ _ _ _))

end

theorem DomKept.log (s : State) (code : Nat) (o : Origin) (detail : Nat) (payload : List Byte) :
    DomKept s (s.log code o detail payload) := DomKept.of_eventful (Eventful.log _ _ _ _ _)

theorem DomKept.vinLog (s : State) (code n : Nat) (payload : List Byte) : DomKept s (vinLog s code n payload) := DomKept.log _ _ _ _ _

theorem DomKept.setInst (s : State) (n : Nat) (x : Inst) : DomKept s (s.setInst n x) := DomKept.of_regs rfl

theorem DomKept.toHost (s : State) (n a : Nat) (bs : List Byte) : DomKept s (s.toHost n a bs) := DomKept.of_regs rfl

theorem not_domWord_instance {a : Nat} (h : 0x20100000 ≤ a) : ¬ DomWord a := by
  rintro ⟨-, h2, -⟩
  omega

/-! ### Interrupts and the rings of an Instance -/

theorem DomKept.msixSend (s : State) (n v : Nat) : DomKept s (msixSend s n v) := by
  unfold Machine.msixSend
  split
  · exact DomKept.refl s
  · dsimp only
    split
    · exact DomKept.of_regs rfl
    · exact DomKept.of_regs rfl

theorem DomKept.intNow (s : State) (n src : Nat) : DomKept s (intNow s n src) :=
  (DomKept.setBit s (not_domWord_instance (by unfold Reg.VIN_INT_STAT; omega)) _ _).trans (DomKept.msixSend _ _ _)

theorem DomKept.stateInt (s : State) (n : Nat) : DomKept s (stateInt s n) := DomKept.intNow s n 2

theorem DomKept.intPosted (s : State) (n src : Nat) : DomKept s (intPosted s n src) := by
  unfold Machine.intPosted
  dsimp only
  have hset := DomKept.setBit s (a := Reg.VIN_INT_STAT n) (not_domWord_instance (by unfold Reg.VIN_INT_STAT; omega)) src true
  exact DomKept.ite (hset.trans ((DomKept.setInst _ _ _).trans (DomKept.intNow _ _ _))) (hset.trans (DomKept.setInst _ _ _))

theorem DomKept.setVinState (s : State) (n st : Nat) : DomKept s (setVinState s n st) := by
  refine ((DomKept.setL s ?_ _ _ _ _).trans (DomKept.setL _ ?_ _ _ _ _)).trans (DomKept.stateInt _ _)
  · exact not_domWord_instance (by unfold Reg.VIN_STAT; omega)
  · exact not_domWord_instance (by decide)

theorem DomKept.dmaErrorEvent (s : State) (n addr kind access : Nat) : DomKept s (dmaErrorEvent s n addr kind access) :=
  (DomKept.inc s (not_domWord_instance (by decide))).trans (DomKept.log _ _ _ _ _)

theorem DomKept.ringFails (s : State) (n ring addr kind : Nat) : DomKept s (ringFails s n ring addr kind) :=
  DomKept.ite (DomKept.refl s) (((DomKept.setVinState s n 6).trans (DomKept.vinLog _ _ _ _)).trans (DomKept.dmaErrorEvent _ _ _ _ _))

theorem DomKept.dirtyFull (s : State) (n : Nat) : DomKept s (dirtyFull s n) :=
  DomKept.ite (DomKept.refl s) ((DomKept.setBit s (not_domWord_instance (by unfold Reg.VIN_STAT; omega)) _ _).trans
    (DomKept.vinLog _ _ _ _))

theorem DomKept.dirtyEntry (s : State) (n page : Nat) : DomKept s (dirtyEntry s n page) := by
  unfold Machine.dirtyEntry
  split
  · exact DomKept.refl s
  · dsimp only
    refine ((((DomKept.toHost s _ _ _).trans (DomKept.setInst _ _ _)).trans (DomKept.setF _ ?_ _ _ _))).trans (DomKept.intPosted _ _ _)
    exact not_domWord_instance (by unfold Reg.VIN_DIRTY_IDX; omega)

theorem DomKept.issueWrite (s : State) (n addr : Nat) (bs : List Byte) : DomKept s (issueWrite s n addr bs) :=
  (DomKept.foldl (fun s p => DomKept.dirtyEntry s n p) _ s).trans (DomKept.toHost _ _ _ _)

theorem DomKept.rspPost (s : State) (n : Nat) (q : Sender) : DomKept s (rspPost s n q) := by
  unfold Machine.rspPost
  split
  · exact DomKept.refl s
  next x xs h =>
    dsimp only
    refine DomKept.ite (DomKept.refl s) (DomKept.ite (DomKept.ringFails _ _ _ _ _) (DomKept.ite (DomKept.dirtyFull _ _) ?_))
    refine DomKept.trans (t := { s with answers := s.answers.erase x }) (DomKept.of_regs rfl) ?_
    refine (((DomKept.issueWrite _ _ _ _).trans (DomKept.setF _ ?_ _ _ _)).trans (DomKept.setInst _ _ _)).trans (DomKept.intPosted _ _ _)
    exact not_domWord_instance (by unfold Reg.VIN_RSP_TAIL; omega)

theorem DomKept.rspDrain (s : State) (n : Fin 1025) : DomKept s (rspDrain s n) :=
  DomKept.foldl (fun s _ => DomKept.rspPost s n.val (.inst n)) _ s

/-! ### Answers -/

theorem DomKept.postAnswer (s : State) (a : Fin 4) : DomKept s (postAnswer s a) := by
  unfold Machine.postAnswer
  split
  next x xs n h hn =>
    refine DomKept.ite (DomKept.refl s) (DomKept.trans (t := { s with answers := s.answers.erase x }) (DomKept.of_regs rfl)
      (DomKept.of_eventful (Eventful.mbxSend _ n _ ?_)))
    exact List.mem_range.1 (List.mem_of_find?_eq_some hn)
  · exact DomKept.refl s

theorem DomKept.answer (s : State) (q : Sender) (w0 st : Nat) (r : List Byte) (final : Bool) : DomKept s (s.answer q w0 st r final) := by
  unfold State.answer
  dsimp only
  have hparts (l : List Answer) : DomKept s { s with answers := l } := DomKept.of_regs rfl
  split
  · exact (hparts _).trans (DomKept.postAnswer _ _)
  · refine DomKept.ite (DomKept.addTo s ?_ _) ((hparts _).trans (DomKept.rspDrain _ _))
    exact not_domWord_instance (by unfold Reg.VIN_LATE_DISCARD; omega)

theorem DomKept.reply (s : State) (q : Option Sender) (w0 st : Nat) (r : List Byte) (final : Bool) :
    DomKept s (s.reply q w0 st r final) := by
  cases q with
  | none => exact DomKept.refl s
  | some q => exact DomKept.answer s q w0 st r final

/-! ### Work items and the ledger -/

theorem DomKept.syncFix (s : State) : DomKept s (syncFix s) := fun a ha => (syncFix_spec s).2 a (by
  obtain ⟨-, h2, -⟩ := ha
  simp only [List.mem_cons, List.not_mem_nil, or_false]
  unfold Reg.FIX_STAT Reg.FIX_INFLIGHT
  omega)

theorem DomKept.statusEvents (s : State) (w : Waybill) (status mtch seg detail engine : Nat) :
    DomKept s (statusEvents s w status mtch seg detail engine) := by
  have hfix (a : Nat) (h : 0x20300000 ≤ a) : ¬ DomWord a := not_domWord_instance (by omega)
  unfold Machine.statusEvents
  dsimp only
  refine DomKept.ite (DomKept.inc s (hfix _ (by decide))) (DomKept.ite (DomKept.ite (DomKept.refl s)
    ((DomKept.inc s (hfix _ (by decide))).trans (DomKept.log _ _ _ _ _))) (DomKept.ite ?_ (DomKept.ite
    ((DomKept.inc s (hfix _ (by decide))).trans (DomKept.log _ _ _ _ _)) (DomKept.refl s))))
  refine DomKept.trans ?_ (DomKept.log _ _ _ _ _)
  have hcount : DomKept s (s.inc (if status = 0x11 then Reg.FIX_CNT_LENGTH else Reg.FIX_CNT_REJECT)) :=
    DomKept.inc s (hfix _ (by split <;> decide))
  exact DomKept.ite (hcount.trans (DomKept.setBit _ (hfix _ (by decide)) _ _)) hcount

theorem DomKept.ttFail (s : State) (k : PassKey) (status : Nat) : DomKept s (ttFail s k status) := by
  cases k with
  | entry i => exact DomKept.ite (DomKept.inc s (not_domWord_instance (by unfold Reg.FIX_TT_FAILS; omega))) (DomKept.refl s)
  | range q => exact DomKept.refl s

theorem DomKept.fixComplete (s : State) (w : Waybill) (status mtch bytes seg detail engine : Nat) :
    DomKept s (fixComplete s w status mtch bytes seg detail engine) := by
  unfold Machine.fixComplete
  dsimp only
  refine (DomKept.statusEvents s w status mtch seg detail engine).trans ?_
  split
  · exact DomKept.of_regs rfl
  next k h => exact (DomKept.of_regs rfl : DomKept _ (mapPass _ k _)).trans (DomKept.ttFail _ _ _)

theorem DomKept.endWaiting (s : State) (p : Waybill → Bool) (status detail : Nat) : DomKept s (endWaiting s p status detail) := by
  refine DomKept.trans (t := { s with fix := { s.fix with waiting := s.fix.waiting.filter (fun w => !p w) } }) (DomKept.of_regs rfl) ?_
  exact (DomKept.foldl (fun s w => DomKept.fixComplete s w status 0 0 noSegment detail 0) _ _).trans (DomKept.syncFix _)

theorem DomKept.closeLedger (s : State) : DomKept s (closeLedger s) := by
  have hldg (a : Nat) (h : 0x20300000 ≤ a) : ¬ DomWord a := not_domWord_instance (by omega)
  have hvote (d : Nat) : ¬ DomWord (Reg.PWR_VOTE d) := by
    rintro ⟨-, -, h⟩
    unfold Reg.PWR_VOTE at h
    omega
  have hdrop : DomKept s (dropLedger s) := by
    refine DomKept.trans (t := { s with ledger := { s.ledger with pages := [], nodes := [], late := [] } }) (DomKept.of_regs rfl) ?_
    exact (DomKept.setF _ (hldg _ (by decide)) _ _ _).trans (DomKept.setBit _ (hldg _ (by decide)) _ _)
  unfold Machine.closeLedger
  dsimp only
  refine DomKept.trans (hdrop.trans (t := dropLedger s)
    (DomKept.of_regs rfl : DomKept _ { dropLedger s with ledger := { (dropLedger s).ledger with cache := [], rebuilt := false } })) ?_
  exact (((DomKept.setL _ (hldg _ (by decide)) _ _ _ _).trans (DomKept.setBit _ (hldg _ (by decide)) _ _)).trans
    (DomKept.setBit _ (hvote _) _ _)).trans (DomKept.log _ _ _ _ _)

theorem DomKept.ledgerLost (s : State) : DomKept s (ledgerLost s) := by
  unfold Machine.ledgerLost
  dsimp only
  refine DomKept.ite (DomKept.refl s) ?_
  refine DomKept.trans ?_ ((DomKept.closeLedger _).trans (DomKept.endWaiting _ _ _ _))
  refine DomKept.trans ?_ (DomKept.foldl (fun s a => ?_) _ _)
  · exact DomKept.trans (t := { s with ledger := { s.ledger with waits := [], after := [], queued := [] } }) (DomKept.of_regs rfl)
      (DomKept.foldl (fun s w => DomKept.reply s _ _ _ _ _) _ _)
  split
  · exact DomKept.reply _ _ _ _ _ _
  · exact DomKept.reply _ _ _ _ _ _
  · exact DomKept.reply _ _ _ _ _ _
  · exact DomKept.reply _ _ _ _ _ _
  · exact DomKept.refl s

/-! ### Resets of instances -/

theorem DomKept.discardInst (s : State) (n : Nat) : DomKept s (discardInst s n) := by
  unfold Machine.discardInst
  dsimp only
  refine DomKept.trans ?_ (DomKept.syncFix _)
  refine DomKept.trans ?_ (DomKept.addTo _ (not_domWord_instance (by unfold Reg.VIN_LATE_DISCARD; omega)) _)
  exact DomKept.of_regs rfl

theorem DomKept.orphanAll (s : State) (n : Nat) : DomKept s (orphanAll s n) := by
  unfold Machine.orphanAll
  dsimp only
  refine DomKept.trans ?_ (DomKept.addTo _ (not_domWord_instance (by unfold Reg.VIN_LATE_DISCARD; omega)) _)
  exact DomKept.foldl (fun s p => DomKept.setInst s _ _) _ s

theorem DomKept.quiesceCheck (s : State) (n : Nat) : DomKept s (quiesceCheck s n) :=
  DomKept.ite (DomKept.refl s) ((DomKept.setInst s _ _).trans (DomKept.foldl (fun s _ => DomKept.answer s _ _ _ _ _) _ _))

theorem DomKept.setWindows (s : State) (free : Nat) : DomKept s (setWindows s free) := by
  refine ((DomKept.setF s ?_ _ _ _).trans (DomKept.setBit _ ?_ _ _)).trans (DomKept.stateInt _ _)
  · exact not_domWord_instance (by decide)
  · exact not_domWord_instance (by decide)

theorem DomKept.dirtyEnd (s : State) (n : Nat) : DomKept s (dirtyEnd s n) := by
  refine DomKept.trans ?_ (DomKept.foldl (fun s _ => DomKept.answer s _ _ _ _ _) _ _)
  refine DomKept.trans ((DomKept.setInst s _ _).trans (DomKept.setBit _ ?_ _ _)) (DomKept.setWindows _ _)
  exact not_domWord_instance (by unfold Reg.VIN_STAT; omega)

theorem DomKept.resetBegin (s : State) (n st cause : Nat) : DomKept s (resetBegin s n st cause) := by
  have hstat : ¬ DomWord (Reg.VIN_STAT n) := not_domWord_instance (by unfold Reg.VIN_STAT; omega)
  unfold Machine.resetBegin
  dsimp only
  have h1 := ((DomKept.setF s hstat 31 16 (vinGen s n + 1)).trans (DomKept.setInst _ n { s.inst n with cause := cause, blocked := [] })).trans
    (DomKept.setVinState _ n st)
  have h2 := h1.trans (DomKept.setBit _ hstat 6 false)
  refine DomKept.ite (DomKept.trans ?_ (DomKept.dirtyEnd _ _)) ?_
  · exact DomKept.trans (DomKept.trans (DomKept.ite (h2.trans (DomKept.orphanAll _ _)) h2) (DomKept.discardInst _ _)) (DomKept.quiesceCheck _ _)
  · exact DomKept.trans (DomKept.trans (DomKept.ite (h2.trans (DomKept.orphanAll _ _)) h2) (DomKept.discardInst _ _)) (DomKept.quiesceCheck _ _)

theorem DomKept.instReset (s : State) (n cause : Nat) (w : Option (Sender × Nat)) : DomKept s (instReset s n cause w) := by
  have hbegin : DomKept s (if vinState s n = 4 then s else Machine.resetBegin s n 4 cause) :=
    DomKept.ite (DomKept.refl s) (DomKept.resetBegin s n 4 cause)
  refine DomKept.ite (DomKept.refl s) (DomKept.ite (hbegin.trans (DomKept.addTo _ ?_ _)) (hbegin.trans (DomKept.setInst _ _ _)))
  exact not_domWord_instance (by unfold Reg.VIN_LATE_DISCARD; omega)

theorem DomKept.instDestroy (s : State) (n cause : Nat) (w : Option (Sender × Nat)) : DomKept s (instDestroy s n cause w) := by
  have hbegin : DomKept s (if vinState s n = 5 then s
      else if vinState s n = 4 then s.setInst n { s.inst n with destroyNext := some cause } else Machine.resetBegin s n 5 cause) :=
    DomKept.ite (DomKept.refl s) (DomKept.ite (DomKept.setInst _ _ _) (DomKept.resetBegin s n 5 cause))
  exact DomKept.ite (DomKept.refl s) (hbegin.trans (DomKept.setInst _ _ _))

theorem DomKept.pf0Reset (s : State) : DomKept s (pf0Reset s) := by
  have hvin (a : Nat) (h : 0x20400000 ≤ a) : ¬ DomWord a := not_domWord_instance (by omega)
  unfold Machine.pf0Reset
  dsimp only
  refine DomKept.trans ?_ (DomKept.of_regs rfl)
  refine DomKept.trans ?_ (DomKept.setL _ (hvin _ (by decide)) _ _ _ _)
  refine DomKept.trans ?_ ((DomKept.setBit _ (hvin _ (by decide)) _ _).trans (DomKept.setBit _ (hvin _ (by decide)) _ _))
  refine DomKept.trans ?_ (DomKept.instReset _ 0 3 none)
  exact (DomKept.ledgerLost s).trans (DomKept.foldl (fun s n => DomKept.instDestroy s n 3 none) _ _)

end Sys2Proof.Machine
end

section
/-! O43: power failure, the loss and the return of the main rails, and the platform's requests. -/

namespace Sys2Proof.Machine

/-! ### The main rails fail: every domain is OFF (R383, R401) -/

theorem get_filter_of_pos {d : Nat → Word} {k : Nat} {f : Nat × Word → Bool} (hf : ∀ v, f (k, v) = true) (l : List (Nat × Word)) :
    Sparse.get d (l.filter f) k = Sparse.get d l k := by
  induction l with
  | nil => rfl
  | cons p l ih =>
    obtain ⟨j, v⟩ := p
    by_cases hj : j = k
    · subst hj
      rw [List.filter_cons_of_pos (hf v)]
      simp only [Sparse.get, if_true]
    · cases h : f (j, v) with
      | true => rw [List.filter_cons_of_pos h, Sparse.get, Sparse.get, if_neg hj, if_neg hj, ih]
      | false => rw [List.filter_cons_of_neg (by rw [h]; decide), ih, Sparse.get, if_neg hj]

theorem DomKept.resetRegs (s : State) {lo : Nat} (hi : Nat) (h : 0x20081400 ≤ lo) : DomKept s (resetRegs s lo hi) := by
  rintro a ⟨-, h2, -⟩
  refine get_filter_of_pos (fun v => ?_) s.regs
  rw [decide_eq_false (show ¬ lo ≤ a by omega)]
  rfl

theorem DomKept.setLine (s : State) (n : Nat) (x : Line) : DomKept s (s.setLine n x) := DomKept.of_regs rfl

theorem DomKept.setYard (s : State) (y : Nat) (x : Yard) : DomKept s (s.setYard y x) := DomKept.of_regs rfl

theorem DomKept.setEngine (s : State) (e : Nat) (x : Engine) : DomKept s (s.setEngine e x) := DomKept.of_regs rfl

theorem DomKept.resetBlocks (s : State) (d : Nat) : DomKept s (resetBlocks s d) := by
  unfold Machine.resetBlocks
  dsimp only
  refine DomKept.ite (DomKept.refl s) (DomKept.ite (DomKept.foldl (fun s i => ?_) _ s) (DomKept.ite ?_ (DomKept.ite
    (DomKept.resetRegs s _ (by decide)) (DomKept.ite (DomKept.pf0Reset s) ?_))))
  · refine DomKept.trans ?_ (DomKept.setBit _ (not_domWord_instance (by unfold Reg.SEC_PORT_STAT; omega)) _ _)
    exact (DomKept.resetRegs s _ (by unfold Reg.SEC_CTL; omega)).trans (DomKept.setLine _ _ _)
  · refine DomKept.trans ?_ (DomKept.setYard _ _ _)
    exact (DomKept.resetRegs s _ (by unfold Reg.YRD_CTL; omega)).trans (DomKept.foldl (fun s _ => DomKept.setEngine s _ _) _ _)
  · exact (DomKept.of_regs rfl : DomKept s { s with nvc := none }).trans (DomKept.resetRegs _ _ (by decide))

theorem DomKept.stopPlls (s : State) (d : Nat) : DomKept s (stopPlls s d) := by
  have hclk (a : Nat) (h : a < 0x20081000) : ¬ DomWord a := fun ha => absurd ha.1 (by omega)
  refine DomKept.ite ?_ (DomKept.ite (DomKept.setBit s (hclk _ (by decide)) _ _) (DomKept.refl s))
  exact ((DomKept.setBit s (hclk _ (by decide)) _ _).trans (DomKept.setBit _ (hclk _ (by decide)) _ _)).trans
    (DomKept.setL _ (hclk _ (by decide)) _ _ _ _)

/-- Entering OFF sets the domain's own state alone. -/
theorem DomKept.enterOff (s : State) (d : Nat) : DomKept (setDomState s d 3) (enterSleep s d 3) := by
  refine DomKept.trans ?_ (DomKept.resetBlocks _ d)
  exact (DomKept.stopPlls _ _).trans (DomKept.of_regs rfl)

/-- A domain brought to OFF by failing rails. -/
def railed (s : State) (d : Nat) : State := setPendingOn (setDomPhase (enterSleep s d 3) d 0) d false

/-- Domain d is OFF with no phase running. -/
def DomOff (s : State) (d : Nat) : Prop := domState s d = 3 ∧ domPhase s d = 0

theorem domWord_stat {d : Nat} (h : d ≤ 24) : DomWord (Reg.PWR_DOM_STAT d) := by
  unfold DomWord Reg.PWR_DOM_STAT
  omega

theorem DomOff.congr {s t : State} {d : Nat} (h : t.rd (Reg.PWR_DOM_STAT d) = s.rd (Reg.PWR_DOM_STAT d)) (ho : DomOff s d) : DomOff t d :=
  ⟨(fld_of_rd h 1 0).trans ho.1, (fld_of_rd h 3 2).trans ho.2⟩

theorem railed_other (s : State) {d k : Nat} (hk : k ≤ 24) (hne : k ≠ d) :
    (railed s d).rd (Reg.PWR_DOM_STAT k) = s.rd (Reg.PWR_DOM_STAT k) := by
  have hreg : Reg.PWR_DOM_STAT k ≠ Reg.PWR_DOM_STAT d := by
    unfold Reg.PWR_DOM_STAT
    omega
  rw [railed, setPendingOn, State.rd_setBit_of_ne _ _ _ hreg, setDomPhase, State.rd_setF_of_ne _ _ _ _ hreg,
    DomKept.enterOff s d _ (domWord_stat hk), setDomState, State.rd_setF_of_ne _ _ _ _ hreg]

theorem railed_self (s : State) {d : Nat} (hd : d ≤ 24) : DomOff (railed s d) d := by
  have hword : (railed s d).rd (Reg.PWR_DOM_STAT d) =
      setBits (setBits (setBits (s.rd (Reg.PWR_DOM_STAT d)) 1 0 3) 3 2 0) 4 4 0 := by
    rw [railed, setPendingOn, State.setBit, State.setF, State.rd_wr_self, setDomPhase, State.setF, State.rd_wr_self,
      DomKept.enterOff s d _ (domWord_stat hd), setDomState, State.setF, State.rd_wr_self]
    rfl
  constructor
  · rw [domState, State.fld, hword, getBits_setBits_of_ne _ _ _ _ _ _ (by decide) (by decide) (by decide) (by decide) (by decide),
      getBits_setBits_of_ne _ _ _ _ _ _ (by decide) (by decide) (by decide) (by decide) (by decide),
      getBits_setBits _ _ _ _ (by decide) (by decide)]
    rfl
  · rw [domPhase, State.fld, hword, getBits_setBits_of_ne _ _ _ _ _ _ (by decide) (by decide) (by decide) (by decide) (by decide),
      getBits_setBits _ _ _ _ (by decide) (by decide)]
    rfl

theorem foldl_railed {l : List Nat} : ∀ {s : State} {d : Nat}, d ≤ 24 → (d ∈ l ∨ DomOff s d) → DomOff (l.foldl railed s) d := by
  induction l with
  | nil => exact fun _ h => h.resolve_left (List.not_mem_nil)
  | cons k l ih =>
    intro s d hd h
    refine ih hd ?_
    by_cases hk : d = k
    · exact .inr (hk ▸ railed_self s hd)
    · exact (h.imp_left fun h => (List.mem_cons.1 h).resolve_left hk).imp_right fun h => h.congr (railed_other s hd hk)

/-- The state after the rails have failed. -/
def railsLost (s : State) : State :=
  let t := domains.foldl railed s
  { t with pwr := { t.pwr with railsGone := true, woken := [], runHeld := [], seals := [], checks := [] }
           stage2Ready := false, tagKey := none }

theorem domOff_railsLost (s : State) {d : Nat} (h1 : 1 ≤ d) (h2 : d ≤ 24) : DomOff (railsLost s) d := by
  have hd : d ∈ domains := List.mem_map.2 ⟨d - 1, List.mem_range.2 (by omega), by omega⟩
  have hregs : (railsLost s).regs = (domains.foldl railed s).regs := rfl
  exact (foldl_railed h2 (.inl hd)).congr (State.rd_congr hregs _)

theorem railsFail_of {s : State} (hf : s.bit Reg.PWR_STAT 0 = true) (hr : s.pwr.railsGone = false) : railsFail s = railsLost s :=
  if_neg (by rw [hf, hr]; decide)

section
variable {s : State} (hp : s.pwr.down = false)
include hp

theorem mainRailsFail_of (us : Word) :
    execMainRailsFail us s = settled (railsFail (if s.pwr.railsGone then s else powerFailed s us.toNat)) := actSettle_of hp _

theorem mainRailsFail_gone (us : Word) (h : s.pwr.railsGone = true) : execMainRailsFail us s = settled s := by
  rw [mainRailsFail_of hp, if_pos h]
  exact congrArg settled (if_pos (.inr h))

theorem mainRailsFail_lost (us : Word) (hf : s.bit Reg.PWR_STAT 0 = true) (h : s.pwr.railsGone = false) :
    execMainRailsFail us s = settled (railsLost (powerFailed s us.toNat)) := by
  rw [mainRailsFail_of hp, if_neg (ne_true_of_eq_false h),
    railsFail_of (failing_powerFailed hf) ((railsGone_powerFailed hf).trans h)]

/-! ### PFW_N falls (R401, R402) -/

theorem pfwNFall_of : execPfwNFall s = settled (powerFail s) := actSettle_of hp _

theorem pfwNFall_again (h : s.bit Reg.PWR_STAT 0 = true) : execPfwNFall s = settled s :=
  (pfwNFall_of hp).trans (congrArg settled (if_pos h))

omit hp in
/-- The state that has recorded the failure, before the safe set is committed. -/
def failureNoted (s : State) : State :=
  let t := (List.range 34).foldl powerFailPort ((s.setBit Reg.PWR_STAT 0 true).setBit Reg.PWR_STAT 1 true)
  let t := pwrLog t Ev.PF_WARN 0 (lineMask (holdClaimed t))
  { t with evr := { t.evr with writing := true, suspended := true } }

omit hp in
/-- The safe set put into service. -/
def safeSet (t : State) : State := enterService (t.setHandle 5 { recs := safeRecords t, lastStatus := (t.handle 5).lastStatus }) 5

section
variable (h : s.bit Reg.PWR_STAT 0 = false)
include h

theorem pfwNFall_noted : execPfwNFall s = settled (powerFailLodge (failureNoted s)) := by
  rw [pfwNFall_of hp, powerFail, if_neg (ne_true_of_eq_false h), powerFailPorts, failureNoted]

theorem pfwNFall_lodged (hs : ((failureNoted s).handle 5).state = .service) : execPfwNFall s = settled (failureNoted s) :=
  (pfwNFall_noted hp h).trans (congrArg settled (if_pos hs))

theorem pfwNFall_lodges (hs : ((failureNoted s).handle 5).state ≠ .service) : execPfwNFall s = settled (
    if (safeSet (failureNoted s)).ilk.busy.isNone ∧ (safeSet (failureNoted s)).ilk.queue = [5] ∧ lineLocked (safeSet (failureNoted s)) = true
    then serveFront (safeSet (failureNoted s)) else safeSet (failureNoted s)) :=
  (pfwNFall_noted hp h).trans (congrArg settled (if_neg hs))

end

/-! ### The flush and PFW_N's rise (R355, R401) -/

theorem pfFlush_of (us : Word) : execPfFlush us s = settled (powerFailed s us.toNat) := actSettle_of hp _

theorem pfwNRise_of (us : Word) : execPfwNRise us s = settled (pfwRise s us.toNat) := actSettle_of hp _

theorem unfailing (us : Word) (h : s.bit Reg.PWR_STAT 0 = false) :
    execPfFlush us s = settled s ∧ execPfwNRise us s = settled s ∧ execMainRailsFail us s = settled s := by
  have hflush : powerFailed s us.toNat = s := if_pos (.inl h)
  refine ⟨(pfFlush_of hp us).trans (congrArg settled hflush), (pfwNRise_of hp us).trans (congrArg settled (if_pos h)),
    (mainRailsFail_of hp us).trans (congrArg settled ?_)⟩
  rw [hflush, ite_self]
  exact if_pos (.inl h)

theorem pfwNRise_railed (us : Word) (hf : s.bit Reg.PWR_STAT 0 = true) (h : s.pwr.railsGone = true) : execPfwNRise us s = settled (
    let v := evrResume (s.setBit Reg.PWR_STAT 0 false)
    let v := setDomState (v.setBit (Reg.PWR_VOTE 24) 0 true) 24 0
    platformStart (pfwWake { v with pwr := { v.pwr with railsGone := false } } true)) := by
  refine (pfwNRise_of hp us).trans (congrArg settled ((if_neg (by rw [hf]; decide)).trans ?_))
  have hgone : (evrResume (s.setBit Reg.PWR_STAT 0 false)).pwr.railsGone = true := h
  have hoff : (s.bit Reg.PWR_STAT 2 || s.pwr.railsGone) = true := by rw [h, Bool.or_true]
  simp only [if_pos h, hoff, if_pos hgone, if_true]

theorem pfwNRise_flushed (us : Word) (hf : s.bit Reg.PWR_STAT 0 = true) (h : s.pwr.railsGone = false) : execPfwNRise us s = settled (
    let f := powerFailed s us.toNat
    let v := evrResume (f.setBit Reg.PWR_STAT 0 false)
    if f.bit Reg.PWR_STAT 2 then platformStart (pfwWake { v with pwr := { v.pwr with railsGone := false } } true)
    else pfwWake { v with pwr := { v.pwr with railsGone := false } } false) := by
  refine (pfwNRise_of hp us).trans (congrArg settled ((if_neg (by rw [hf]; decide)).trans ?_))
  have hkept : (powerFailed s us.toNat).pwr.railsGone = false := (railsGone_powerFailed hf).trans h
  have hgone : (evrResume ((powerFailed s us.toNat).setBit Reg.PWR_STAT 0 false)).pwr.railsGone ≠ true := ne_true_of_eq_false hkept
  simp only [if_neg (ne_true_of_eq_false h), hkept, Bool.or_false, if_neg hgone]
  cases (powerFailed s us.toNat).bit Reg.PWR_STAT 2 with
  | true => simp only [if_true]
  | false => simp only [Bool.false_eq_true, if_false]

end

/-! ### A port when power fails (R142, R402) -/

theorem AllBut.wr64 (s : State) (lo hi v : Nat) : AllBut [.regs] s (s.wr64 lo hi v) := (AllBut.wr _ _ _).trans (AllBut.wr _ _ _)

/-- Ending the job of a lane leaves the ports. -/
theorem lines_exmAbortHolder (s : State) (l : Nat) : (exmAbortHolder s l).lines = s.lines := by
  have hmem (s : State) (a : Nat) (bs : List Byte) : (s.wrMemN a bs).lines = s.lines := AllBut.wrMemN s a bs .lines (by decide)
  have hstatus (s : State) (j : ExmJob) (w : Nat) : (exmStatus s j w).lines = s.lines := by
    unfold exmStatus
    split
    · exact hmem _ _ _
    · rfl
  have hwr64 (s : State) (lo hi v : Nat) : (s.wr64 lo hi v).lines = s.lines := AllBut.wr64 s lo hi v .lines (by decide)
  have hsync (s : State) : (syncLane s l).lines = s.lines := by
    unfold syncLane
    dsimp only
    split
    · simp only [State.setF_lines]
    · exact (hwr64 _ _ _ _).trans (by simp only [State.setF_lines])
  have hnext (s : State) : (exmNext s l).lines = s.lines := by
    unfold exmNext
    split
    · exact hsync _
    · exact (hsync _).trans (hstatus _ _ _)
  unfold exmAbortHolder
  split
  · have hbytes (s : State) (a n : Nat) (bs : List Byte) : (s.wrBytes a n bs).lines = s.lines := AllBut.wrBytes s a n bs .lines (by decide)
    have hraise (s : State) : (s.raise 2).lines = s.lines := rfl
    simp only [exmEnd, hnext, hraise, exmLast, State.setF_lines, hbytes, hstatus]
  · rfl

theorem queue_endDev (s : State) (n result : Nat) : ((endDev s n result).line n).queue = (s.line n).queue := by
  have hlines (t : State) (ht : t.lines = s.lines) : (t.line n).queue = (s.line n).queue :=
    congrArg (fun l => (Sparse.get (fun _ => {}) l n).queue) ht
  simp only [endDev, line_setF, State.line_setLine_self]
  split
  · split
    · exact hlines _ (lines_exmAbortHolder s n)
    · rfl
  · rfl

theorem powerFailPort_device {w : State} {n : Nat} {d : DevOp} (hq : (w.line n).queue = []) (hd : (w.line n).dev = some d) :
    powerFailPort w n = if d.dest = 2 then w else endDev w n 4 := by
  unfold powerFailPort
  rw [hd]
  dsimp only
  have hqueue : ((if d.dest = 2 then w else endDev w n 4).line n).queue = [] := by
    split
    · exact hq
    · exact (queue_endDev w n 4).trans hq
  rw [hqueue]

theorem powerFailPort_entry {w : State} {n : Nat} {e : Entry} {es : List Entry} (hd : (w.line n).dev = none)
    (hq : (w.line n).queue = e :: es) : powerFailPort w n =
      if e.progress = .polling ∨ e.progress = .refreshing ∨ e.half = true ∧ e.progress = .passed then discardEntry w n e 0xF8 4 else w := by
  unfold powerFailPort
  rw [hd]
  dsimp only
  rw [hq]

/-! ### The platform's requests (R383, R384, R385) -/

section
variable {s : State} {q : Sender} {tag : Byte}

theorem request_delayed (hp : s.pwr.down = false) (hr : reqReaches s q = false) (hn : noAnswer s q = false)
    (hs : senderStands s q = true) (c : Request) (code : Nat) (f : State → State) :
    request c code q s f = settled { s with mbx := { s.mbx with delayed := s.mbx.delayed ++ [⟨q, c, code, s.ot⟩] } } :=
  (actSettle_of hp _).trans (congrArg settled ((if_neg (by rw [hr]; decide)).trans ((if_neg (by rw [hn]; decide)).trans (if_pos hs))))

theorem platformOn_taken (s : State) (q : Sender) (code : Nat) : platformOn (taken s q code) = platformOn s :=
  (taken_eventful s q code).bit_eq (by unfold recorderWord; decide) 3

theorem powerFailing_taken (s : State) (q : Sender) (code : Nat) : powerFailing (taken s q code) = powerFailing s :=
  (taken_eventful s q code).bit_eq (by unfold recorderWord; decide) 0

theorem platformBusy_taken (s : State) (q : Sender) (code : Nat) : platformBusy (taken s q code) = platformBusy s := by
  have h := taken_eventful s q code
  unfold platformBusy
  rw [h.bit_eq (by unfold recorderWord; decide), h.bit_eq (by unfold recorderWord; decide), h.fld_eq (by unfold recorderWord; decide),
    h.lcs_eq, h.att_eq]

section
variable (hh : Heard s q)
include hh

theorem platformOff_of : execPlatformOff q tag s = served (
    let s := taken s q 0xB0
    let w0 := reqWord 0xB0 0 0 tag.toNat
    if mayControl q = false then s.answer q w0 1 [] true
    else if platformOn s = false then s.answer q w0 3 [] true
    else if platformBusy s then s.answer q w0 2 [] true
    else platformOff s q w0) := request_heard hh _ _ _

theorem platformOn_of : execPlatformOn q tag s = served (
    let s := taken s q 0xB1
    let w0 := reqWord 0xB1 0 0 tag.toNat
    if mayControl q = false then s.answer q w0 1 [] true
    else if platformOn s then s.answer q w0 3 [] true
    else if powerFailing s then s.answer q w0 2 [] true
    else (platformStart s).answer q w0 0 [] true) := request_heard hh _ _ _

theorem powerStatus_of : execPowerStatus q tag s = served (
    let s := taken s q 0xB2
    let w0 := reqWord 0xB2 0 0 tag.toNat
    if mayControl q = false ∧ q ≠ .agent 1 ∧ q ≠ .agent 2 then s.answer q w0 1 [] true
    else s.answer q w0 0 (powerStatus s) true) := request_heard hh _ _ _

theorem platform_denied (hq : mayControl q = false) :
    execPlatformOff q tag s = answered (taken s q 0xB0) q (reqWord 0xB0 0 0 tag.toNat) 1 [] ∧
      execPlatformOn q tag s = answered (taken s q 0xB1) q (reqWord 0xB1 0 0 tag.toNat) 1 [] :=
  ⟨(platformOff_of hh).trans (congrArg served (if_pos hq)), (platformOn_of hh).trans (congrArg served (if_pos hq))⟩

theorem powerStatus_denied (hq : mayControl q = false) (h1 : q ≠ .agent 1) (h2 : q ≠ .agent 2) :
    execPowerStatus q tag s = answered (taken s q 0xB2) q (reqWord 0xB2 0 0 tag.toNat) 1 [] :=
  (powerStatus_of hh).trans (congrArg served (if_pos ⟨hq, h1, h2⟩))

theorem powerStatus_shown (hq : mayControl q = true ∨ q = .agent 1 ∨ q = .agent 2) :
    execPowerStatus q tag s = answered (taken s q 0xB2) q (reqWord 0xB2 0 0 tag.toNat) 0 (powerStatus (taken s q 0xB2)) := by
  refine (powerStatus_of hh).trans (congrArg served (if_neg ?_))
  rintro ⟨h, h1, h2⟩
  obtain hq | hq | hq := hq
  · rw [h] at hq
    exact absurd hq (by decide)
  · exact h1 hq
  · exact h2 hq

section
variable (hq : mayControl q = true)
include hq

theorem platformOff_again (hon : platformOn s = false) :
    execPlatformOff q tag s = answered (taken s q 0xB0) q (reqWord 0xB0 0 0 tag.toNat) 3 [] :=
  (platformOff_of hh).trans (congrArg served ((if_neg (by rw [hq]; decide)).trans (if_pos ((platformOn_taken s q _).trans hon))))

section
variable (hon : platformOn s = true)
include hon

theorem platformOff_takes : execPlatformOff q tag s = served (
    if platformBusy s then (taken s q 0xB0).answer q (reqWord 0xB0 0 0 tag.toNat) 2 [] true
    else platformOff (taken s q 0xB0) q (reqWord 0xB0 0 0 tag.toNat)) :=
  (platformOff_of hh).trans (congrArg served ((if_neg (by rw [hq]; decide)).trans ((if_neg (by rw [platformOn_taken, hon]; decide)).trans
    (by rw [platformBusy_taken]))))

theorem platformOff_busy (hb : platformBusy s = true) :
    execPlatformOff q tag s = answered (taken s q 0xB0) q (reqWord 0xB0 0 0 tag.toNat) 2 [] :=
  (platformOff_takes hh hq hon).trans (congrArg served (if_pos hb))

theorem platformOff_accepted (hb : platformBusy s = false) :
    execPlatformOff q tag s = served (platformOff (taken s q 0xB0) q (reqWord 0xB0 0 0 tag.toNat)) :=
  (platformOff_takes hh hq hon).trans (congrArg served (if_neg (ne_true_of_eq_false hb)))

theorem platformOn_again : execPlatformOn q tag s = answered (taken s q 0xB1) q (reqWord 0xB1 0 0 tag.toNat) 3 [] :=
  (platformOn_of hh).trans (congrArg served ((if_neg (by rw [hq]; decide)).trans (if_pos ((platformOn_taken s q _).trans hon))))

end

section
variable (hon : platformOn s = false)
include hon

theorem platformOn_takes : execPlatformOn q tag s = served (
    if powerFailing s then (taken s q 0xB1).answer q (reqWord 0xB1 0 0 tag.toNat) 2 [] true
    else (platformStart (taken s q 0xB1)).answer q (reqWord 0xB1 0 0 tag.toNat) 0 [] true) :=
  (platformOn_of hh).trans (congrArg served ((if_neg (by rw [hq]; decide)).trans ((if_neg (by rw [platformOn_taken, hon]; decide)).trans
    (by rw [powerFailing_taken]))))

theorem platformOn_failing (hf : powerFailing s = true) :
    execPlatformOn q tag s = answered (taken s q 0xB1) q (reqWord 0xB1 0 0 tag.toNat) 2 [] :=
  (platformOn_takes hh hq hon).trans (congrArg served (if_pos hf))

theorem platformOn_starts (hf : powerFailing s = false) :
    execPlatformOn q tag s = answered (platformStart (taken s q 0xB1)) q (reqWord 0xB1 0 0 tag.toNat) 0 [] :=
  (platformOn_takes hh hq hon).trans (congrArg served (if_neg (ne_true_of_eq_false hf)))

end

end

end

end

end Sys2Proof.Machine
end

section
/-! O43, assembled. -/

namespace Sys2Proof.Machine

/-- Settles O43: power failure, the platform's start and stop, and their requests. -/
theorem platformPower : Obligations.PlatformPower := by
  intro s
  refine ⟨fun hp => ⟨pfwNFall_again hp, fun h hs => ?_, fun h hs hn => ?_, fun h hs hb hq hl => ?_, ?_,
      fun w n d hq hd => powerFailPort_device hq hd, fun w n e es hd hq => powerFailPort_entry hd hq, fun us hf hd => ?_,
      fun us hf hd => ?_, fun us h => unfailing hp us h, fun us _ h => mainRailsFail_gone hp us h, fun us hf h => ?_,
      fun us hf h => pfwNRise_flushed hp us hf h, fun us hf h => pfwNRise_railed hp us hf h⟩,
    fun q tag hp hr hn hs p hmem => ?_, fun q tag hh => ⟨fun hq => ?_, fun hq h1 h2 => ?_, fun hq => ?_, fun hq hon => ?_,
      fun hq hon hb => ?_, fun hq hon hb => ?_, fun hq hon => ?_, fun hq hon hf => ?_, fun hq hon hf => ?_⟩⟩
  · have hl : execPfwNFall s = settled (failureNoted s) := pfwNFall_lodged hp h hs
    exact hl
  · exact (pfwNFall_lodges hp h hs).trans (congrArg settled (if_neg (mt (And.imp_left Option.isNone_iff_eq_none.1) hn)))
  · exact (pfwNFall_lodges hp h hs).trans (congrArg settled (if_pos ⟨Option.isNone_iff_eq_none.2 hb, hq, hl⟩))
  · exact List.take_left' (by rw [List.length_map, List.length_range])
  · obtain ⟨hshown, hoff, hstandby, hgoing, hkey⟩ := standby_powerFailed (us := us.toNat) hf hd
    exact ⟨_, pfFlush_of hp us, hstandby, hgoing, hshown, hoff, pfDone_powerFailed hf hd, hkey⟩
  · exact (pfFlush_of hp us).trans (congrArg settled (powerFailed_done hd))
  · exact ⟨_, mainRailsFail_lost hp us hf h, rfl, rfl, rfl, rfl, fun d h1 h2 => domOff_railsLost _ h1 h2⟩
  · simp only [List.mem_cons, List.not_mem_nil, or_false] at hmem
    obtain rfl | rfl | rfl := hmem
    · exact request_delayed hp hr hn hs _ _ _
    · exact request_delayed hp hr hn hs _ _ _
    · exact request_delayed hp hr hn hs _ _ _
  · exact platform_denied hh (mayControl_eq_false_iff.2 hq)
  · exact powerStatus_denied hh (mayControl_eq_false_iff.2 hq) h1 h2
  · exact powerStatus_shown hh (hq.imp_left mayControl_iff.2)
  · exact platformOff_again hh (mayControl_iff.2 hq) hon
  · exact platformOff_busy hh (mayControl_iff.2 hq) hon hb
  · exact platformOff_accepted hh (mayControl_iff.2 hq) hon hb
  · exact platformOn_again hh (mayControl_iff.2 hq) hon
  · exact platformOn_failing hh (mayControl_iff.2 hq) hon hf
  · exact platformOn_starts hh (mayControl_iff.2 hq) hon hf

end Sys2Proof.Machine
end

section
/-! O5: the canonical form of memory and register words, and the operations that touch either. -/

namespace Sys2Proof.Machine

/-- The state is in canonical form (R404, R411). -/
def Wf (s : State) : Prop := s.wf = true

theorem wf_iff {s : State} : Wf s ↔ s.memWf = true ∧ s.regsWf = true := by
  unfold Wf State.wf
  exact Bool.and_eq_true_iff

/-- A state with the same memory and the same register words. -/
theorem wf_same {s t : State} (h : Wf s) (hm : t.mem = s.mem) (hr : t.regs = s.regs) : Wf t := by
  rw [wf_iff] at h ⊢
  unfold State.memWf State.regsWf at h ⊢
  rw [hm, hr]
  exact h

/-! ### Composition -/

theorem wf_ite {s t : State} {c : Prop} [Decidable c] (h : Wf s) (k : Wf t) : Wf (if c then s else t) := by
  split
  · exact h
  · exact k

theorem wf_dite {c : Prop} [Decidable c] {f : c → State} {g : ¬ c → State} (h : ∀ x, Wf (f x)) (k : ∀ x, Wf (g x)) :
    Wf (if x : c then f x else g x) := by
  split
  · exact h _
  · exact k _

theorem wf_foldl {α : Type} {f : State → α → State} (hf : ∀ s x, Wf s → Wf (f s x)) (l : List α) {s : State} (h : Wf s) :
    Wf (l.foldl f s) := by
  induction l generalizing s with
  | nil => exact h
  | cons x l ih => exact ih (hf s x h)

theorem wf_foldl_fst {α β : Type} {f : State × β → α → State × β} (hf : ∀ p x, Wf p.1 → Wf (f p x).1) (l : List α) {p : State × β}
    (h : Wf p.1) : Wf (l.foldl f p).1 := by
  induction l generalizing p with
  | nil => exact h
  | cons x l ih => exact ih (hf p x h)

/-! ### Memory and register words -/

theorem wf_wr {s : State} {a : Nat} {v : Word} (h : Wf s) : Wf (s.wr a v) := by
  rw [wf_iff] at h ⊢
  exact ⟨h.1, State.regsWf_wr s a v h.2⟩

theorem wf_wrMem {s : State} {a : Nat} {b : Byte} (h : Wf s) : Wf (s.wrMem a b) := by
  rw [wf_iff] at h ⊢
  exact ⟨State.memWf_wrMem s a b h.1, h.2⟩

theorem wf_wrMemN {bs : List Byte} {s : State} {a : Nat} (h : Wf s) : Wf (s.wrMemN a bs) := by
  induction bs generalizing s a with
  | nil => exact h
  | cons b bs ih =>
    rw [State.wrMemN]
    exact ih (wf_wrMem h)

theorem wf_wrBytes {n a : Nat} {bs : List Byte} {s : State} (h : Wf s) : Wf (s.wrBytes a n bs) := by
  induction n generalizing s a bs with
  | zero =>
    rw [State.wrBytes]
    exact h
  | succ n ih =>
    rw [State.wrBytes]
    exact ih (wf_wr h)

/-- Memory cleared in part. -/
theorem wf_memFilter {s : State} (f : Host.Cell → Bool) (h : Wf s) : Wf { s with mem := s.mem.filter f } := by
  rw [wf_iff] at h ⊢
  exact ⟨State.memWf_filter s f h.1, h.2⟩

/-- Register words reset in part. -/
theorem wf_regsFilter {s : State} (f : Nat × Word → Bool) (h : Wf s) : Wf { s with regs := s.regs.filter f } := by
  rw [wf_iff] at h ⊢
  exact ⟨h.1, Sparse.wf_filter regReset s.regs f h.2⟩

/-! ### Outcomes -/

/-- The next state, where the outcome has one, is in canonical form. -/
def WfOut (o : Out) : Prop := ∀ t, o = .next t → Wf t

theorem wfOut_ite {o r : Out} {c : Prop} [Decidable c] (h : WfOut o) (k : WfOut r) : WfOut (if c then o else r) := by
  split
  · exact h
  · exact k

theorem wf_next {s : State} (h : Wf s) : WfOut (.next s) := fun _ ht => Host.Outcome.next.inj ht ▸ h

end Sys2Proof.Machine
end

section
/-! O5: what keeps the canonical form: registers, mailboxes, the recorder and the host link. -/

namespace Sys2Proof.Machine

/-! ### Updates of the other fields -/

theorem wf_withCores {s : State} {cores : List (Nat × Core)} (h : Wf s) : Wf { s with cores := cores } :=
  wf_same h rfl rfl

theorem wf_withEngines {s : State} {engines : List (Nat × Engine)} (h : Wf s) : Wf { s with engines := engines } :=
  wf_same h rfl rfl

theorem wf_withYards {s : State} {yards : List (Nat × Yard)} (h : Wf s) : Wf { s with yards := yards } :=
  wf_same h rfl rfl

theorem wf_withFreeCtr {s : State} {freeCtr : Nat} (h : Wf s) : Wf { s with freeCtr := freeCtr } :=
  wf_same h rfl rfl

theorem wf_withIrqIrq1 {s : State} {irq irq1 : Dword} (h : Wf s) : Wf { s with irq := irq, irq1 := irq1 } :=
  wf_same h rfl rfl

theorem wf_withIrq {s : State} {irq : Dword} (h : Wf s) : Wf { s with irq := irq } :=
  wf_same h rfl rfl

theorem wf_withIrq1 {s : State} {irq1 : Dword} (h : Wf s) : Wf { s with irq1 := irq1 } :=
  wf_same h rfl rfl

theorem wf_withHostOut {s : State} {hostOut : List HostWrite} (h : Wf s) : Wf { s with hostOut := hostOut } :=
  wf_same h rfl rfl

theorem wf_withMbx {s : State} {mbx : Mbx} (h : Wf s) : Wf { s with mbx := mbx } :=
  wf_same h rfl rfl

theorem wf_withAnswers {s : State} {answers : List Answer} (h : Wf s) : Wf { s with answers := answers } :=
  wf_same h rfl rfl

theorem wf_withEvr {s : State} {evr : Recorder} (h : Wf s) : Wf { s with evr := evr } :=
  wf_same h rfl rfl

theorem wf_withHost {s : State} {host : HostLink} (h : Wf s) : Wf { s with host := host } :=
  wf_same h rfl rfl

theorem wf_withLanes {s : State} {lanes : List (Nat × Lane)} (h : Wf s) : Wf { s with lanes := lanes } :=
  wf_same h rfl rfl

theorem wf_withLines {s : State} {lines : List (Nat × Line)} (h : Wf s) : Wf { s with lines := lines } :=
  wf_same h rfl rfl

theorem wf_withIlk {s : State} {ilk : Ilk} (h : Wf s) : Wf { s with ilk := ilk } :=
  wf_same h rfl rfl

theorem wf_withUpd {s : State} {upd : Update} (h : Wf s) : Wf { s with upd := upd } :=
  wf_same h rfl rfl

theorem wf_withHome {s : State} {home : Home} (h : Wf s) : Wf { s with home := home } :=
  wf_same h rfl rfl

theorem wf_withAtt {s : State} {att : Att} (h : Wf s) : Wf { s with att := att } :=
  wf_same h rfl rfl

theorem wf_withSig {s : State} {sig : Sig} (h : Wf s) : Wf { s with sig := sig } :=
  wf_same h rfl rfl

theorem wf_withKeyLoad {s : State} {keyLoad : Option KeyLoad} (h : Wf s) : Wf { s with keyLoad := keyLoad } :=
  wf_same h rfl rfl

theorem wf_withTmp {s : State} {tmp : Tamper} (h : Wf s) : Wf { s with tmp := tmp } :=
  wf_same h rfl rfl

theorem wf_withLcs {s : State} {lcs : Lcs} (h : Wf s) : Wf { s with lcs := lcs } :=
  wf_same h rfl rfl

theorem wf_withLcsFixAtt {s : State} {lcs : Lcs} {fix : Fix} {att : Att} (h : Wf s) :
    Wf { s with lcs := lcs, fix := fix, att := att } :=
  wf_same h rfl rfl

theorem wf_withLedger {s : State} {ledger : Ledger} (h : Wf s) : Wf { s with ledger := ledger } :=
  wf_same h rfl rfl

theorem wf_withFix {s : State} {fix : Fix} (h : Wf s) : Wf { s with fix := fix } :=
  wf_same h rfl rfl

theorem wf_withEnginesAnswersFixLedger {s : State} {engines : List (Nat × Engine)} {answers : List Answer} {fix : Fix}
    {ledger : Ledger} (h : Wf s) :
    Wf { s with engines := engines, answers := answers, fix := fix, ledger := ledger } :=
  wf_same h rfl rfl

theorem wf_withIlkUpd {s : State} {ilk : Ilk} {upd : Update} (h : Wf s) : Wf { s with ilk := ilk, upd := upd } :=
  wf_same h rfl rfl

theorem wf_withDuty {s : State} {duty : Fin 2} (h : Wf s) : Wf { s with duty := duty } :=
  wf_same h rfl rfl

theorem wf_withNvc {s : State} {nvc : Option NvcOp} (h : Wf s) : Wf { s with nvc := nvc } :=
  wf_same h rfl rfl

theorem wf_withPwr {s : State} {pwr : Pwr} (h : Wf s) : Wf { s with pwr := pwr } :=
  wf_same h rfl rfl

theorem wf_withTagKey {s : State} {tagKey : Option (List Byte)} (h : Wf s) : Wf { s with tagKey := tagKey } :=
  wf_same h rfl rfl

theorem wf_withStage2ReadyTagKeyPwr {s : State} {stage2Ready : Bool} {tagKey : Option (List Byte)} {pwr : Pwr} (h : Wf s) :
    Wf { s with stage2Ready := stage2Ready, tagKey := tagKey, pwr := pwr } :=
  wf_same h rfl rfl

theorem wf_withCoresDutyStage2Ready {s : State} {cores : List (Nat × Core)} {duty : Fin 2} {stage2Ready : Bool} (h : Wf s) :
    Wf { s with cores := cores, duty := duty, stage2Ready := stage2Ready } :=
  wf_same h rfl rfl

theorem wf_withIrqIrq1TmpLanesUpd {s : State} {irq irq1 : Dword} {tmp : Tamper} {lanes : List (Nat × Lane)} {upd : Update}
    (h : Wf s) :
    Wf { s with irq := irq, irq1 := irq1, tmp := tmp, lanes := lanes, upd := upd } :=
  wf_same h rfl rfl

theorem wf_withRetired {s : State} {retired : List (Fin 2)} (h : Wf s) : Wf { s with retired := retired } :=
  wf_same h rfl rfl

theorem wf_withStage2Ready {s : State} {stage2Ready : Bool} (h : Wf s) : Wf { s with stage2Ready := stage2Ready } :=
  wf_same h rfl rfl

theorem wf_withPccOtPwr {s : State} {pcc ot : Nat} {pwr : Pwr} (h : Wf s) : Wf { s with pcc := pcc, ot := ot, pwr := pwr } :=
  wf_same h rfl rfl

theorem wf_withOwedG {s : State} {owedG : List Nat} (h : Wf s) : Wf { s with owedG := owedG } :=
  wf_same h rfl rfl

theorem wf_withBcast {s : State} {bcast : Option Bcast} (h : Wf s) : Wf { s with bcast := bcast } :=
  wf_same h rfl rfl

theorem wf_withHeld {s : State} {held : List Held} (h : Wf s) : Wf { s with held := held } :=
  wf_same h rfl rfl

theorem wf_withSnap {s : State} {snap : List (Nat × Word)} (h : Wf s) : Wf { s with snap := snap } :=
  wf_same h rfl rfl

theorem wf_withHeldLow {s : State} {heldLow : List Held} (h : Wf s) : Wf { s with heldLow := heldLow } :=
  wf_same h rfl rfl

theorem wf_withTap {s : State} {tap : TapInstr} (h : Wf s) : Wf { s with tap := tap } :=
  wf_same h rfl rfl

theorem wf_withOtLcs {s : State} {ot : Nat} {lcs : Lcs} (h : Wf s) : Wf { s with ot := ot, lcs := lcs } :=
  wf_same h rfl rfl

theorem wf_withPending {s : State} {pending : List Instr} (h : Wf s) : Wf { s with pending := pending } :=
  wf_same h rfl rfl

/-! ### State -/

theorem wf_reset : Wf State.reset := resetForm

/-! ### RegOps -/

theorem wf_setF {s : State} {a hi lo v : Nat} (h : Wf s) : Wf (s.setF a hi lo v) := by
  unfold State.setF
  exact wf_wr h

theorem wf_setBit {s : State} {a i : Nat} {b : Bool} (h : Wf s) : Wf (s.setBit a i b) := by
  unfold State.setBit
  exact wf_setF h

theorem wf_inc {s : State} {a : Nat} (h : Wf s) : Wf (s.inc a) := by
  unfold State.inc
  exact wf_wr h

theorem wf_addTo {s : State} {a n : Nat} (h : Wf s) : Wf (s.addTo a n) := by
  unfold State.addTo
  exact wf_wr h

theorem wf_wr64 {s : State} {lo hi v : Nat} (h : Wf s) : Wf (s.wr64 lo hi v) := by
  unfold State.wr64
  exact wf_wr (wf_wr h)

theorem wf_setCore {s : State} {c : Fin 2} {x : Core} (h : Wf s) : Wf (s.setCore c x) := by
  unfold State.setCore
  exact wf_withCores h

theorem wf_setEngine {s : State} {e : Nat} {x : Engine} (h : Wf s) : Wf (s.setEngine e x) := by
  unfold State.setEngine
  exact wf_withEngines h

theorem wf_setYard {s : State} {y : Nat} {x : Yard} (h : Wf s) : Wf (s.setYard y x) := by
  unfold State.setYard
  exact wf_withYards h

theorem wf_free {s : State} (h : Wf s) : Wf s.free.2 := by
  unfold State.free
  dsimp only
  exact wf_withFreeCtr h

theorem wf_freeBytes {s : State} {n : Nat} (h : Wf s) : Wf (s.freeBytes n).2 := by
  unfold State.freeBytes
  dsimp only
  exact wf_withFreeCtr h

theorem wf_raise {s : State} {n : Nat} (h : Wf s) : Wf (s.raise n) := by
  unfold State.raise
  exact wf_withIrqIrq1 h

theorem wf_raiseIn {s : State} {c : Fin 2} {n : Nat} (h : Wf s) : Wf (s.raiseIn c n) := by
  unfold State.raiseIn
  exact wf_ite (wf_withIrq h) (wf_withIrq1 h)

theorem wf_toHost {s : State} {inst addr : Nat} {bytes : List Byte} (h : Wf s) : Wf (s.toHost inst addr bytes) := by
  unfold State.toHost
  exact wf_withHostOut h

/-! ### MbxBase -/

theorem wf_setPair {s : State} {lo hi n : Nat} (h : Wf s) : Wf (s.setPair lo hi n) := by
  unfold State.setPair
  exact wf_ite (wf_setBit h) (wf_setBit h)

theorem wf_mbxInterrupt {s : State} {i n : Nat} {isPost : Bool} (h : Wf s) : Wf (mbxInterrupt s i n isPost) := by
  unfold mbxInterrupt
  extract_lets _ s1
  have h1 : Wf s1 := wf_setPair h
  exact wf_ite (wf_raise (wf_ite (wf_setPair h) (wf_setPair h))) (wf_ite (wf_ite (wf_withMbx h1) h1) h)

theorem wf_mbxPosted {s : State} {n : Nat} (h : Wf s) : Wf (mbxPosted s n) := by
  unfold mbxPosted
  extract_lets s1 s2 s3
  have h1 : Wf s1 := wf_setBit (wf_wr h)
  have h2 : Wf s2 := wf_setF h1
  have h3 : Wf s3 := wf_inc (wf_setBit h2)
  exact wf_mbxInterrupt h3

theorem wf_mbxSend {s : State} {n : Nat} {bytes : List Byte} (h : Wf s) : Wf (mbxSend s n bytes) := by
  unfold mbxSend
  exact wf_mbxPosted (wf_setF (wf_wrBytes h))

theorem wf_postAnswer {s : State} {a : Fin 4} (h : Wf s) : Wf (postAnswer s a) := by
  unfold postAnswer
  split
  · exact wf_ite h (wf_mbxSend (wf_withAnswers h))
  · exact h

theorem wf_notifyOn {s : State} {comp n : Nat} {body : List Byte} (h : Wf s) : Wf (notifyOn s comp body n) := by
  unfold notifyOn
  extract_lets _ _ _ s1
  have h1 : Wf s1 := wf_withMbx h
  exact wf_ite h1 (wf_mbxSend h1)

theorem wf_notifyAll {s : State} {comp : Nat} {body : List Byte} (h : Wf s) : Wf (notifyAll s comp body) := by
  unfold notifyAll
  exact wf_foldl (fun _ _ k1 => wf_notifyOn k1) _ h

/-! ### Ops -/

theorem wf_bumpSeq {s : State} {a : Nat} (h : Wf s) : Wf (s.bumpSeq a) := by
  unfold State.bumpSeq
  exact wf_wr h

theorem wf_bumpWindows {old : Recorder} {ws : List (Nat × Nat)} {s : State} (h : Wf s) : Wf (s.bumpWindows old ws) := by
  induction ws generalizing s with
  | nil =>
    rw [State.bumpWindows]
    exact h
  | cons w ws ih =>
    rw [State.bumpWindows]
    exact ih (wf_ite h (wf_bumpSeq h))

theorem wf_setEvr {s : State} {e : Recorder} (h : Wf s) : Wf (s.setEvr e) := by
  unfold State.setEvr
  exact wf_bumpWindows (wf_withEvr h)

theorem wf_countDrop {s : State} {v : Sev} (h : Wf s) : Wf (s.countDrop v) := by
  unfold State.countDrop
  exact wf_inc h

theorem wf_evrLost {s : State} (h : Wf s) : Wf s.evrLost := by
  unfold State.evrLost
  exact wf_setBit h

theorem wf_putRam {s : State} {r : Record} (h : Wf s) : Wf (s.putRam r) := by
  unfold State.putRam
  extract_lets
  refine wf_ite (wf_setEvr h) ?_
  split
  · exact wf_setEvr h
  · split
    · exact wf_evrLost (wf_inc (wf_setEvr h))
    · exact wf_evrLost (wf_countDrop h)

theorem wf_mergeInto {s : State} {r : Record} (h : Wf s) : Wf (s.mergeInto r) := by
  unfold State.mergeInto
  extract_lets
  exact wf_ite (wf_setEvr h) (wf_putRam h)

theorem wf_afterRecord {s : State} {v : Sev} (h : Wf s) : Wf (s.afterRecord v) := by
  unfold State.afterRecord
  extract_lets s1
  have h1 : Wf s1 := wf_ite (wf_setBit h) h
  exact wf_ite (wf_withEvr h1) h1

theorem wf_notifyRecord {s : State} {r : Record} (h : Wf s) : Wf (s.notifyRecord r) := by
  unfold State.notifyRecord
  exact wf_ite (wf_notifyAll h) h

theorem wf_record {s : State} {code origin detail : Nat} {payload : List Byte} {change derived : Bool} (h : Wf s) :
    Wf (s.record code origin detail payload change derived) := by
  unfold State.record
  extract_lets
  split
  · exact wf_afterRecord (wf_mergeInto h)
  · exact wf_ite (wf_countDrop (wf_withEvr h)) (wf_notifyRecord (wf_afterRecord (wf_putRam (wf_withEvr h))))

theorem wf_log {s : State} {code detail : Nat} {o : Origin} {payload : List Byte} (h : Wf s) :
    Wf (s.log code o detail payload) := by
  unfold State.log
  exact wf_record h

theorem wf_regChange {s : State} {o : Origin} {a be : Nat} {old new : Word} (h : Wf s) :
    Wf (s.regChange o a old new be) := by
  unfold State.regChange
  extract_lets
  exact wf_record h

theorem wf_setL {s : State} {o : Origin} {a hi lo v : Nat} (h : Wf s) : Wf (s.setL o a hi lo v) := by
  unfold State.setL
  extract_lets
  exact wf_ite h (wf_regChange (wf_wr h))

/-! ### HostBase -/

theorem wf_setInst {s : State} {n : Nat} {x : Inst} (h : Wf s) : Wf (s.setInst n x) := by
  unfold State.setInst
  extract_lets
  exact wf_withHost h

theorem wf_vinLog {s : State} {code n : Nat} {payload : List Byte} (h : Wf s) : Wf (vinLog s code n payload) := by
  unfold vinLog
  exact wf_log h

theorem wf_setMsix {s : State} {k : Nat × Nat} {m : Msix} (h : Wf s) : Wf (s.setMsix k m) := by
  unfold State.setMsix
  extract_lets
  exact wf_withHost h

theorem wf_msixSend {s : State} {n v : Nat} (h : Wf s) : Wf (msixSend s n v) := by
  unfold msixSend
  split
  · exact h
  · extract_lets
    exact wf_ite (wf_setMsix h) (wf_toHost h)

theorem wf_intNow {s : State} {n src : Nat} (h : Wf s) : Wf (intNow s n src) := by
  unfold intNow
  exact wf_msixSend (wf_setBit h)

theorem wf_stateInt {s : State} {n : Nat} (h : Wf s) : Wf (stateInt s n) := by
  unfold stateInt
  exact wf_intNow h

theorem wf_intPosted {s : State} {n src : Nat} (h : Wf s) : Wf (intPosted s n src) := by
  unfold intPosted
  extract_lets s1
  have h1 : Wf s1 := wf_setBit h
  exact wf_ite (wf_intNow (wf_setInst h1)) (wf_setInst h1)

theorem wf_setVinState {s : State} {n st : Nat} (h : Wf s) : Wf (setVinState s n st) := by
  unfold setVinState
  extract_lets s1
  have h1 : Wf s1 := wf_setL h
  exact wf_stateInt (wf_setL h1)

theorem wf_dmaErrorEvent {s : State} {n addr kind access : Nat} (h : Wf s) : Wf (dmaErrorEvent s n addr kind access) := by
  unfold dmaErrorEvent
  exact wf_log (wf_inc h)

theorem wf_ringFails {s : State} {n ring addr kind : Nat} (h : Wf s) : Wf (ringFails s n ring addr kind) := by
  unfold ringFails
  extract_lets s1
  have h1 : Wf s1 := wf_vinLog (wf_setVinState h)
  exact wf_ite h (wf_dmaErrorEvent h1)

theorem wf_dirtyEntry {s : State} {n page : Nat} (h : Wf s) : Wf (dirtyEntry s n page) := by
  unfold dirtyEntry
  extract_lets
  split
  · exact h
  · extract_lets s1
    have h1 : Wf s1 := wf_toHost h
    exact wf_intPosted (wf_setF (wf_setInst h1))

theorem wf_dirtyFull {s : State} {n : Nat} (h : Wf s) : Wf (dirtyFull s n) := by
  unfold dirtyFull
  exact wf_ite h (wf_vinLog (wf_setBit h))

theorem wf_issueWrite {s : State} {n addr : Nat} {bytes : List Byte} (h : Wf s) : Wf (issueWrite s n addr bytes) := by
  unfold issueWrite
  extract_lets
  exact wf_toHost (wf_foldl (fun _ _ k1 => wf_dirtyEntry k1) _ h)

theorem wf_instWrite {s : State} {n addr : Nat} {bytes : List Byte} (h : Wf s) : Wf (instWrite s n addr bytes) := by
  unfold instWrite
  extract_lets
  exact wf_ite h (wf_ite (wf_dmaErrorEvent h) (wf_ite (wf_setInst h) (wf_ite (wf_issueWrite h) (wf_dirtyFull
      (wf_setInst h)))))

theorem wf_drainBlocked {fuel n : Nat} {s : State} (h : Wf s) : Wf (drainBlocked fuel s n) := by
  induction fuel generalizing s with
  | zero =>
    rw [drainBlocked]
    exact h
  | succ fuel ih =>
    rw [drainBlocked]
    split
    · exact wf_setBit h
    · exact wf_ite (ih (wf_issueWrite (wf_setInst h))) h
    · exact wf_ite (ih (wf_issueWrite (wf_setInst h))) h

theorem wf_rspPost {s : State} {n : Nat} {q : Sender} (h : Wf s) : Wf (rspPost s n q) := by
  unfold rspPost
  extract_lets
  split
  · exact h
  · extract_lets s1 s2 _ s3
    have h1 : Wf s1 := wf_withAnswers h
    have h2 : Wf s2 := wf_issueWrite h1
    have h3 : Wf s3 := wf_setInst (wf_setF h2)
    exact wf_ite h (wf_ite (wf_ringFails h) (wf_ite (wf_dirtyFull h) (wf_intPosted h3)))

theorem wf_rspDrain {s : State} {n : Fin 1025} (h : Wf s) : Wf (rspDrain s n) := by
  unfold rspDrain
  exact wf_foldl (fun _ _ k1 => wf_rspPost k1) _ h

theorem wf_answer {s : State} {q : Sender} {w0 status : Nat} {result : List Byte} {final : Bool} (h : Wf s) :
    Wf (s.answer q w0 status result final) := by
  unfold State.answer
  extract_lets
  split
  · exact wf_postAnswer (wf_withAnswers h)
  · exact wf_ite (wf_addTo h) (wf_rspDrain (wf_withAnswers h))

theorem wf_reply {s : State} {q : Option Sender} {w0 status : Nat} {result : List Byte} {final : Bool} (h : Wf s) :
    Wf (s.reply q w0 status result final) := by
  unfold State.reply
  split
  · exact wf_answer h
  · exact h

/-! ### EvrOps -/

theorem wf_bumpSuper {old : Recorder} {q : Nat} {s : State} (h : Wf s) : Wf (bumpSuper old q s) := by
  unfold bumpSuper
  exact wf_foldl (fun _ _ k1 => wf_ite (wf_bumpSeq k1) k1) _ h

theorem wf_writeRecord {s : State} {r : Record} {pf : Bool} (h : Wf s) : Wf (writeRecord s r pf) := by
  unfold writeRecord
  extract_lets
  refine wf_ite (wf_bumpSuper (wf_setEvr h)) (wf_ite (wf_setEvr h) ?_)
  split
  · exact wf_evrLost (wf_inc (wf_setEvr h))
  · exact wf_evrLost (wf_countDrop (wf_setEvr h))

theorem wf_writeRecords {pf : Bool} {rs : List Record} {s : State} (h : Wf s) : Wf (writeRecords s pf rs) := by
  induction rs generalizing s with
  | nil =>
    rw [writeRecords]
    exact h
  | cons r rs ih =>
    rw [writeRecords]
    exact ih (wf_writeRecord h)

theorem wf_evrNvmFault {s : State} (h : Wf s) : Wf (evrNvmFault s) := by
  unfold evrNvmFault
  extract_lets _ s1 s2
  have h1 : Wf s1 := wf_withEvr h
  have h2 : Wf s2 := wf_setBit h1
  exact wf_ite h (wf_log h2)

theorem wf_evrFlush {s : State} {fails : Nat} (h : Wf s) : Wf (evrFlush s fails) := by
  unfold evrFlush
  extract_lets
  refine wf_ite h ?_
  split
  · exact wf_withEvr h
  · extract_lets _ s1 s2
    have h1 : Wf s1 := wf_withEvr h
    have h2 : Wf s2 := wf_writeRecords h1
    exact wf_ite (wf_evrNvmFault h1) (wf_withEvr h2)

theorem wf_noteSuper {s : State} {r : Record} (h : Wf s) : Wf (noteSuper s r) := by
  unfold noteSuper
  extract_lets
  exact wf_ite (wf_withEvr h) h

theorem wf_writeAged {rs : List Record} {s : State} (h : Wf s) : Wf (writeAged s rs) := by
  induction rs generalizing s with
  | nil =>
    rw [writeAged]
    exact h
  | cons r rs ih =>
    rw [writeAged]
    exact ih (wf_ite (wf_writeRecord (wf_noteSuper h)) h)

theorem wf_evrReclaim {s : State} (h : Wf s) : Wf (evrReclaim s) := by
  unfold evrReclaim
  extract_lets
  exact wf_ite h (wf_setEvr h)

theorem wf_evrPowerFail {s : State} {us : Nat} (h : Wf s) : Wf (evrPowerFail s us) := by
  unfold evrPowerFail
  extract_lets _ s1 _ _ s2 s3 s4
  have h1 : Wf s1 := wf_withEvr h
  have h2 : Wf s2 := wf_writeRecords h1
  have h3 : Wf s3 := wf_log h2
  have h4 : Wf s4 := wf_writeRecords h3
  exact wf_ite (wf_withEvr h1) (wf_withEvr h4)

theorem wf_evrResume {s : State} (h : Wf s) : Wf (evrResume s) := by
  unfold evrResume
  extract_lets
  exact wf_withEvr h

theorem wf_evrStartup {s : State} {corrupt : List Nat} (h : Wf s) : Wf (evrStartup s corrupt) := by
  unfold evrStartup
  extract_lets _ _ _ _ top _ s1 s2
  have h1 : Wf s1 := wf_setEvr h
  have h2 : Wf s2 := wf_ite h1 (wf_log h1)
  cases htop : top with
  | none => exact h2
  | some r => exact wf_ite h2 (wf_log h2)

theorem wf_cursorWrite {s : State} {c q : Nat} {v : Word} (h : Wf s) : Wf (cursorWrite s c q v) := by
  unfold cursorWrite
  exact wf_bumpSeq (wf_wr h)

theorem wf_onBehalf {s : State} {q : Sender} {f : State → State} (hs : Wf s) (hf : ∀ y0, Wf y0 → Wf (f y0)) :
    Wf (onBehalf s q f) := by
  unfold onBehalf
  extract_lets _ s1
  have h1 : Wf s1 := wf_wr hs
  exact wf_setBit (hf _ h1)

theorem wf_correlate {s : State} {q : Sender} {w0 : Word} {host : Dword} {format : Byte} {label : List Byte} (h : Wf s) :
    Wf (correlate s q w0 host format label) := by
  unfold correlate
  extract_lets _ s1 _ _ _ s2
  have h1 : Wf s1 := wf_log h
  have h2 : Wf s2 := wf_withEvr h1
  exact wf_ite (wf_answer h) (wf_ite (wf_answer h) (wf_answer h2))

end Sys2Proof.Machine
end

section
/-! O5: what keeps the canonical form: the Examiner, the sections, the Interlocking's handles and the hold lines. -/

namespace Sys2Proof.Machine

/-! ### ExmOps -/

theorem wf_setLane {s : State} {l : Nat} {x : Lane} (h : Wf s) : Wf (s.setLane l x) := by
  unfold State.setLane
  exact wf_withLanes h

theorem wf_exmStatus {s : State} {j : ExmJob} {w : Nat} (h : Wf s) : Wf (exmStatus s j w) := by
  unfold exmStatus
  exact wf_ite (wf_wrMemN h) h

theorem wf_syncLane {s : State} {l : Nat} (h : Wf s) : Wf (syncLane s l) := by
  unfold syncLane
  extract_lets _ _ s1
  have h1 : Wf s1 := wf_setF (wf_setF h)
  split
  · exact wf_setF h1
  · extract_lets s2
    have h2 : Wf s2 := wf_setF (wf_setF h1)
    exact wf_wr64 h2

theorem wf_exmLast {s : State} {l status : Nat} {m mn : Bool} (h : Wf s) : Wf (exmLast s l status m mn) := by
  unfold exmLast
  extract_lets
  exact wf_setF (wf_setF (wf_setF h))

theorem wf_exmNext {s : State} {l : Nat} (h : Wf s) : Wf (exmNext s l) := by
  unfold exmNext
  split
  · exact wf_syncLane (wf_setLane h)
  · exact wf_syncLane (wf_exmStatus (wf_setLane h))

theorem wf_exmEnd {s : State} {l status : Nat} {j : ExmJob} {m mn : Bool} {res : Option (List Byte)} (h : Wf s) :
    Wf (exmEnd s l j status m mn res) := by
  unfold exmEnd
  extract_lets s1 s2 s3 s4
  have h1 : Wf s1 := wf_exmStatus h
  have h2 : Wf s2 := by
    unfold s2
    split
    · exact wf_wrMemN h1
    · exact h1
  have h3 : Wf s3 := wf_wrBytes h2
  have h4 : Wf s4 := wf_setF (wf_exmLast h3)
  exact wf_exmNext (wf_raise h4)

theorem wf_exmAbortHolder {s : State} {l : Nat} (h : Wf s) : Wf (exmAbortHolder s l) := by
  unfold exmAbortHolder
  split
  · exact wf_exmEnd h
  · exact h

theorem wf_exmAbortQueued {s : State} {l : Nat} {p : ExmJob → Bool} (h : Wf s) : Wf (exmAbortQueued s l p) := by
  unfold exmAbortQueued
  extract_lets _ s1 s2
  have h1 : Wf s1 := wf_foldl (fun _ _ k3 => wf_raise (wf_exmStatus k3)) _ h
  have h2 : Wf s2 := wf_setLane h1
  exact wf_ite (wf_syncLane (wf_wrBytes (wf_exmLast h2))) h2

theorem wf_exmSubmit {s : State} {c : Fin 2} {l a : Nat} (h : Wf s) : Wf (exmSubmit s c l a) := by
  unfold exmSubmit
  extract_lets
  refine wf_ite (wf_raise (wf_exmLast (wf_exmStatus h))) ?_
  split
  · exact wf_syncLane (wf_exmStatus (wf_setLane h))
  · exact wf_ite (wf_exmLast (wf_inc (wf_exmStatus h))) (wf_syncLane (wf_exmStatus (wf_setLane h)))

theorem wf_feedLane {s : State} {l : Nat} {bytes : List Byte} (h : Wf s) : Wf (feedLane s l bytes) := by
  unfold feedLane
  extract_lets
  split
  · exact wf_ite (wf_syncLane (wf_setLane h)) h
  · exact h

theorem wf_flagFault {s : State} {l kind : Nat} {p : Bool × Bool} (h : Wf s) : Wf (flagFault s l kind p) := by
  unfold flagFault
  exact wf_log (wf_inc h)

theorem wf_exmDone {s : State} {l : Nat} {err : Bool} {fault : Option Bool} (h : Wf s) : Wf (exmDone s l err fault).1 := by
  unfold exmDone
  extract_lets
  split
  · dsimp only
    exact h
  · extract_lets _ _ s1
    have h1 : Wf s1 := wf_syncLane (wf_setLane h)
    split
    · dsimp only
      exact h
    · split
      · dsimp only
        exact wf_exmEnd h
      · split
        · dsimp only
          exact wf_exmEnd h1
        · split
          · dsimp only
            exact wf_exmEnd (wf_flagFault h1)
          · dsimp only
            exact wf_exmEnd h1

theorem wf_exmEndWrite {s : State} {l : Nat} (h : Wf s) : Wf (exmEndWrite s l) := by
  unfold exmEndWrite
  split
  · extract_lets s1
    have h1 : Wf s1 := wf_log h
    exact wf_ite (wf_exmEnd h1) h
  · exact h

theorem wf_exmAbort {s : State} {c : Fin 2} {l : Nat} {holder mine : Bool} (h : Wf s) : Wf (exmAbort s c l holder mine) := by
  unfold exmAbort
  extract_lets s1
  have h1 : Wf s1 := wf_ite (wf_exmAbortQueued h) h
  exact wf_ite (wf_exmAbortHolder h1) h1

theorem wf_exmClearLane {s : State} {l : Nat} (h : Wf s) : Wf (exmClearLane s l).1 := by
  unfold exmClearLane
  extract_lets _ s1 s2
  have h1 : Wf s1 := wf_exmAbortQueued h
  have h2 : Wf s2 := wf_exmAbortHolder h1
  dsimp only
  exact h2

/-! ### SecOps -/

theorem wf_setLine {s : State} {n : Nat} {x : Line} (h : Wf s) : Wf (s.setLine n x) := by
  unfold State.setLine
  exact wf_withLines h

theorem wf_secLog {s : State} {code n : Nat} {payload : List Byte} (h : Wf s) : Wf (secLog s code n payload) := by
  unfold secLog
  exact wf_log h

theorem wf_setBank {s : State} {n b : Nat} {x : Bank} (h : Wf s) : Wf (setBank s n b x) := by
  unfold setBank
  extract_lets
  exact wf_ite (wf_setLine h) (wf_setLine h)

theorem wf_syncDepot {s : State} (h : Wf s) : Wf (syncDepot s) := by
  unfold syncDepot
  exact wf_wr (wf_wr h)

theorem wf_syncStage {s : State} {n : Nat} (h : Wf s) : Wf (syncStage s n) := by
  unfold syncStage
  extract_lets
  exact wf_setBit (wf_setF h)

theorem wf_setQueue {s : State} {n : Nat} {q : List Entry} (h : Wf s) : Wf (setQueue s n q) := by
  unfold setQueue
  extract_lets
  exact wf_syncStage (wf_setLine h)

theorem wf_setFail {s : State} {n kind : Nat} (h : Wf s) : Wf (setFail s n kind) := by
  unfold setFail
  exact wf_ite (wf_setBit h) (wf_ite (wf_setBit h) h)

theorem wf_denialResponse {s : State} {n kind : Nat} (h : Wf s) : Wf (denialResponse s n kind) := by
  unfold denialResponse
  extract_lets s1
  have h1 : Wf s1 := wf_setBit h
  exact wf_syncStage (wf_ite (wf_setFail h1) h1)

theorem wf_recordVerdict {s : State} {n v route reason steps : Nat} {conv : Bool} (h : Wf s) :
    Wf (recordVerdict s n v route conv reason steps) := by
  unfold recordVerdict
  exact wf_inc (wf_wr h)

theorem wf_recordDeny {s : State} {n opcode ext kind route cs reason addr : Nat} (h : Wf s) :
    Wf (recordDeny s n opcode ext kind route cs reason addr) := by
  unfold recordDeny
  extract_lets s1 s2
  have h1 : Wf s1 := wf_wr h
  have h2 : Wf s2 := wf_wr h1
  exact wf_secLog h2

theorem wf_recordConverted {s : State} {n given reason opcode : Nat} (h : Wf s) :
    Wf (recordConverted s n given reason opcode) := by
  unfold recordConverted
  exact wf_secLog (wf_inc h)

theorem wf_dropGanger {s : State} {n spent : Nat} (h : Wf s) : Wf (dropGanger s n spent) := by
  unfold dropGanger
  extract_lets _ s1
  have h1 : Wf s1 := wf_setLine h
  exact wf_setBit (wf_addTo h1)

theorem wf_gangerSpent {s : State} {g : GangerPage} (h : Wf s) : Wf (gangerSpent s g).2 := by
  unfold gangerSpent
  extract_lets s1
  have h1 : Wf s1.2 := wf_free h
  dsimp only
  exact h1

theorem wf_preemptGanger {s : State} {n : Nat} (h : Wf s) : Wf (preemptGanger s n) := by
  unfold preemptGanger
  split
  · extract_lets s1
    have h1 : Wf s1.2 := wf_gangerSpent h
    exact wf_ite h1 (wf_inc (wf_inc (wf_dropGanger h1)))
  · exact h

theorem wf_stopGanger {s : State} {n : Nat} (h : Wf s) : Wf (stopGanger s n) := by
  unfold stopGanger
  split
  · extract_lets s1
    have h1 : Wf s1.2 := wf_gangerSpent h
    exact wf_dropGanger h1
  · exact h

theorem wf_drive {s : State} {n : Nat} {f : FlashFrame} (h : Wf s) : Wf (drive s n f) := by
  unfold drive
  extract_lets
  exact wf_setLine h

theorem wf_driveStatus {s : State} {n cs : Nat} {es : List OpEntry} (h : Wf s) : Wf (driveStatus s n cs es) := by
  unfold driveStatus
  exact wf_foldl (fun _ _ k1 => wf_drive k1) _ h

theorem wf_setFrame {s : State} {n : Nat} {f : Option Frame} (h : Wf s) : Wf (setFrame s n f) := by
  unfold setFrame
  extract_lets
  exact wf_setLine h

theorem wf_unavailable {s : State} {n : Nat} {f : Frame} (h : Wf s) : Wf (unavailable s n f) := by
  unfold unavailable
  exact wf_setFrame (wf_inc h)

theorem wf_readSource {s : State} {n v : Nat} {f : Frame} (h : Wf s) : Wf (readSource s n v f) := by
  unfold readSource
  refine wf_ite ?_ (wf_ite ?_ (wf_ite (wf_unavailable h) (wf_drive (wf_setFrame (wf_preemptGanger h)))))
  · split
    · exact wf_unavailable (wf_inc h)
    · exact wf_ite (wf_unavailable h) (wf_setFrame h)
  · split
    · exact wf_unavailable (wf_inc h)
    · exact wf_ite (wf_unavailable h) (wf_drive (wf_setFrame (wf_preemptGanger h)))

theorem wf_commandVerdict {s : State} {n v reason ra steps : Nat} (h : Wf s) :
    Wf (commandVerdict s n v reason ra steps) := by
  unfold commandVerdict
  extract_lets s1
  have h1 : Wf s1 := wf_recordVerdict h
  split
  · exact h
  · extract_lets
    split
    · extract_lets s2 s3 s4
      have h2 : Wf s2 := wf_recordConverted h
      have h3 : Wf s3 := wf_recordVerdict h2
      have h4 : Wf s4 := wf_recordDeny h3
      exact wf_setFrame h4
    · exact wf_ite (wf_ite (wf_setFrame (wf_recordDeny h1)) (wf_ite (wf_setFrame h1) (wf_readSource h1))) (wf_ite
          (wf_ite (wf_setFrame (wf_recordDeny h1)) (wf_ite (wf_setFrame (wf_recordDeny h1)) (wf_setFrame h1)))
          (wf_setFrame h1))

theorem wf_refuseRoute {s : State} {n why : Nat} {f : Frame} (h : Wf s) : Wf (refuseRoute s n f why) := by
  unfold refuseRoute
  extract_lets s1 s2
  have h1 : Wf s1 := wf_recordVerdict h
  have h2 : Wf s2 := wf_ite (wf_recordDeny h1) h1
  exact wf_setFrame h2

theorem wf_denyEntry {s : State} {n reason route : Nat} {e : Entry} (h : Wf s) : Wf (denyEntry s n e reason route) := by
  unfold denyEntry
  extract_lets s1 s2 _ s3
  have h1 : Wf s1 := wf_inc h
  have h2 : Wf s2 := wf_recordDeny h1
  have h3 : Wf s3 := wf_setLine h2
  exact wf_denialResponse h3

theorem wf_discardEntry {s : State} {n reason cause : Nat} {e : Entry} (h : Wf s) :
    Wf (discardEntry s n e reason cause) := by
  unfold discardEntry
  extract_lets s1
  have h1 : Wf s1 := wf_denyEntry h
  exact wf_secLog h1

theorem wf_discardUnreplayed {n reason cause : Nat} {es : List Entry} {s : State} (h : Wf s) :
    Wf (discardUnreplayed s n reason cause es) := by
  induction es generalizing s with
  | nil =>
    rw [discardUnreplayed]
    exact h
  | cons e es ih =>
    rw [discardUnreplayed]
    exact ih (wf_ite (wf_discardEntry h) h)

theorem wf_setIface {s : State} {n side new cause : Nat} (h : Wf s) : Wf (setIface s n side new cause) := by
  unfold setIface
  extract_lets
  exact wf_ite h (wf_secLog (wf_setF h))

theorem wf_resetAddrState {s : State} {n : Nat} (h : Wf s) : Wf (resetAddrState s n) := by
  unfold resetAddrState
  exact wf_wr h

theorem wf_trackAddr {s : State} {n opcode : Nat} {first : Option Nat} (h : Wf s) : Wf (trackAddr s n opcode first) := by
  unfold trackAddr
  extract_lets _ _ _ s1
  have h1 : Wf s1 := by
    refine wf_ite h (wf_ite (wf_setF h) (wf_ite (wf_setF h) (wf_ite ?_ h)))
    split
    · exact wf_setF h
    · exact h
  exact wf_ite h (wf_secLog h1)

theorem wf_queueEmulation {s : State} {n opcode kind : Nat} (h : Wf s) : Wf (queueEmulation s n opcode kind) := by
  unfold queueEmulation
  extract_lets _ s1 s2
  have h1 : Wf s1 := wf_ite (wf_setBit h) h
  have h2 : Wf s2 := wf_ite (wf_setBit h1) h1
  exact wf_ite (wf_setBit (wf_setBit h2)) h2

theorem wf_judgeVerdict {s : State} {n v reason steps : Nat} (h : Wf s) : Wf (judgeVerdict s n v reason steps) := by
  unfold judgeVerdict
  extract_lets s1
  have h1 : Wf s1 := wf_recordVerdict h
  split
  · exact h
  · extract_lets _ s2
    have h2 : Wf s2 := wf_setQueue h1
    refine wf_ite (wf_ite (wf_syncStage (wf_setLine (wf_recordDeny (wf_recordVerdict (wf_ite
        (wf_recordConverted h) h))))) (wf_denialResponse (wf_setLine (wf_recordDeny (wf_recordVerdict (wf_ite
        (wf_recordConverted h) h)))))) (wf_ite (wf_ite (wf_syncStage (wf_setLine (wf_recordDeny (wf_recordVerdict
        (wf_ite (wf_recordConverted h) h))))) (wf_denialResponse (wf_setLine (wf_recordDeny (wf_recordVerdict (wf_ite
        (wf_recordConverted h) h)))))) (wf_ite (wf_ite (wf_syncStage (wf_setLine (wf_recordDeny (wf_recordVerdict
        (wf_ite (wf_recordConverted h) h))))) (wf_denialResponse (wf_setLine (wf_recordDeny (wf_recordVerdict (wf_ite
        (wf_recordConverted h) h)))))) ?_))
    split
    · exact wf_setIface h2
    · exact h2

theorem wf_routeException {s : State} {n cause : Nat} (h : Wf s) : Wf (routeException s n cause) := by
  unfold routeException
  extract_lets _ s1
  have h1 : Wf s1 := wf_setLine h
  split
  · exact h
  · extract_lets s2
    have h2 : Wf s2 := wf_secLog h1
    exact wf_ite (wf_judgeVerdict h2) (wf_commandVerdict h2)

theorem wf_routeVerdict {s : State} {n v reason ra : Nat} (h : Wf s) : Wf (routeVerdict s n v reason ra) := by
  unfold routeVerdict
  extract_lets _ s1
  have h1 : Wf s1 := wf_setLine h
  split
  · exact h
  · exact wf_ite (wf_judgeVerdict h1) (wf_commandVerdict h1)

theorem wf_recordFrame {s : State} {n outcome : Nat} {f : Frame} (h : Wf s) : Wf (recordFrame s n f outcome) := by
  unfold recordFrame
  exact wf_wr (wf_wr h)

theorem wf_endFrame {s : State} {n outcome : Nat} {f : Frame} (h : Wf s) : Wf (endFrame s n f outcome) := by
  unfold endFrame
  exact wf_setFrame (wf_setBit (wf_recordFrame h))

theorem wf_postHint {s : State} {n a : Nat} (h : Wf s) : Wf (postHint s n a) := by
  unfold postHint
  extract_lets
  exact wf_ite h (wf_ite (wf_setF h) (wf_setF (wf_setLine h)))

theorem wf_uncheckedPages {n : Nat} {ps : List Nat} {s : State} (h : Wf s) : Wf (uncheckedPages s n ps) := by
  induction ps generalizing s with
  | nil =>
    rw [uncheckedPages]
    exact h
  | cons p ps ih =>
    rw [uncheckedPages]
    exact ih (wf_postHint (wf_inc h))

theorem wf_awaitTags {s : State} {n x : Nat} {pages : List Nat} (h : Wf s) : Wf (awaitTags s n x pages) := by
  unfold awaitTags
  extract_lets
  exact wf_setLine h

theorem wf_endRead {s : State} {n count : Nat} {f : Frame} (h : Wf s) : Wf (endRead s n f count) := by
  unfold endRead
  split
  · extract_lets s1
    have h1 : Wf s1 := wf_awaitTags h
    exact wf_uncheckedPages h1
  · exact wf_ite (wf_inc h) h
  · exact h

theorem wf_sentRead {s : State} {n count : Nat} {f : Frame} (h : Wf s) : Wf (sentRead s n f count) := by
  unfold sentRead
  extract_lets _ s1
  have h1 : Wf s1 := wf_setLine h
  exact wf_ite (wf_endRead h1) h1

theorem wf_dropRoute {s : State} {n : Nat} (h : Wf s) : Wf (dropRoute s n) := by
  unfold dropRoute
  extract_lets
  split
  · exact wf_ite h (wf_setLine h)
  · exact h

theorem wf_cutFrame {s : State} {n : Nat} (h : Wf s) : Wf (cutFrame s n) := by
  unfold cutFrame
  extract_lets s1
  have h1 : Wf s1 := wf_dropRoute h
  split
  · exact h
  · exact wf_ite (wf_endFrame (wf_inc h1)) (wf_ite (wf_endFrame h1) (wf_ite (wf_secLog (wf_endFrame (wf_inc h1)))
        (wf_ite (wf_endFrame (wf_inc h1)) (wf_ite (wf_endFrame h1) (wf_ite (wf_endFrame (wf_inc h1)) (wf_endFrame
        (wf_inc (wf_sentRead h1))))))))

theorem wf_failHold {s : State} {n : Nat} (h : Wf s) : Wf (failHold s n) := by
  unfold failHold
  extract_lets
  exact wf_ite (wf_raise (wf_setLine h)) h

theorem wf_failEntry {s : State} {n : Nat} {e : Entry} (h : Wf s) : Wf (failEntry s n e) := by
  unfold failEntry
  extract_lets s1 s2
  have h1 : Wf s1 := wf_denyEntry h
  have h2 : Wf s2 := wf_failHold (wf_inc h1)
  exact wf_syncStage (wf_setFail h2)

theorem wf_endDev {s : State} {n result : Nat} (h : Wf s) : Wf (endDev s n result) := by
  unfold endDev
  extract_lets s1 _ s2
  have h1 : Wf s1 := by
    unfold s1
    split
    · exact wf_ite (wf_exmAbortHolder h) h
    · exact h
  have h2 : Wf s2 := wf_setLine h1
  exact wf_setF (wf_setF (wf_setF h2))

theorem wf_identReset {s : State} {n : Nat} (h : Wf s) : Wf (identReset s n) := by
  unfold identReset
  extract_lets
  exact wf_ite (wf_setLine h) h

theorem wf_setPoints {s : State} {n p : Nat} (h : Wf s) : Wf (setPoints s n p) := by
  unfold setPoints
  extract_lets _ s1 s2 s3 s4 s5 _ s6 s7
  have h1 : Wf s1 := wf_setF h
  have h2 : Wf s2 := wf_ite (wf_cutFrame h1) h1
  have h3 : Wf s3 := wf_ite (wf_stopGanger h2) h2
  have h4 : Wf s4 := wf_ite (wf_discardUnreplayed h3) h3
  have h5 : Wf s5 := by
    unfold s5
    split
    · exact wf_ite h4 (wf_endDev h4)
    · exact h4
  have h6 : Wf s6 := wf_ite (wf_setLine h5) h5
  have h7 : Wf s7 := wf_resetAddrState h6
  exact wf_ite h1 (wf_ite (wf_syncStage (wf_setLine h7)) (wf_identReset (wf_setLine h6)))

theorem wf_swapBanks {s : State} {n : Nat} (h : Wf s) : Wf (swapBanks s n) := by
  unfold swapBanks
  extract_lets _ _ _ _ s1 s2 s3 s4 s5 s6
  have h1 : Wf s1 := wf_setBank h
  have h2 : Wf s2 := wf_setF h1
  have h3 : Wf s3 := wf_setF h2
  have h4 : Wf s4 := wf_setF h3
  have h5 : Wf s5 := wf_wrBytes h4
  have h6 : Wf s6 := wf_wrBytes h5
  exact wf_wr h6

theorem wf_bridgeRead {s : State} {n : Nat} {f : Frame} (h : Wf s) : Wf (bridgeRead s n f) := by
  unfold bridgeRead
  extract_lets
  exact wf_unavailable (wf_endRead h)

theorem wf_bridgeFrame {s : State} {c n : Nat} (h : Wf s) : Wf (bridgeFrame s c n) := by
  unfold bridgeFrame
  split
  · exact h
  · split
    · exact wf_ite (wf_bridgeRead h) h
    · exact wf_ite (wf_bridgeRead h) h
    · exact h

theorem wf_setHoldPend {s : State} {c : Nat} (h : Wf s) : Wf (setHoldPend s c) := by
  unfold setHoldPend
  extract_lets s1
  have h1 : Wf s1 := wf_ite (wf_setL h) (wf_setL h)
  exact wf_foldl (fun _ _ k2 => wf_bridgeFrame k2) _ h1

theorem wf_tagMismatch {s : State} {n x addr src : Nat} (h : Wf s) : Wf (tagMismatch s n x addr src) := by
  unfold tagMismatch
  extract_lets _ s1 s2 s3
  have h1 : Wf s1 := wf_wr h
  have h2 : Wf s2 := wf_wr h1
  have h3 : Wf s3 := wf_raise h2
  exact wf_ite (wf_setHoldPend h3) h3

/-! ### SecAct -/

theorem wf_devGo {s : State} {n : Nat} (h : Wf s) : Wf (devGo s n) := by
  unfold devGo
  extract_lets
  exact wf_ite h (wf_ite (wf_endDev h) (wf_setBit (wf_setLine h)))

theorem wf_profCheck {s : State} {n : Nat} (h : Wf s) : Wf (profCheck s n) := by
  unfold profCheck
  extract_lets s1 s2
  have h1 : Wf s1 := wf_wr h
  have h2 : Wf s2 := wf_setBit h1
  split
  · exact wf_identReset (wf_setF (wf_setF h2))
  · extract_lets s3
    have h3 : Wf s3 := wf_wr h
    exact wf_secLog (wf_setBit h3)

theorem wf_pgmLoad {s : State} {n : Nat} {who : Origin} (h : Wf s) : Wf (pgmLoad s n who) := by
  unfold pgmLoad
  extract_lets _ s1 _ _ s2
  have h1 : Wf s1 := wf_setBit (wf_setBit h)
  have h2 : Wf s2 := wf_setBank h1
  exact wf_ite h (wf_setLine h2)

theorem wf_progLoaded {s : State} {n : Nat} (h : Wf s) : Wf (progLoaded s n) := by
  unfold progLoaded
  split
  · exact h
  · extract_lets _ _ f _ s1 s2
    have h1 : Wf s1 := wf_setBit (wf_setLine h)
    have h2 : Wf s2 := wf_setBit h1
    refine wf_ite h ?_
    cases hf : f with
    | some c => exact wf_log (wf_wrBytes (wf_setBit (wf_setBank h2)))
    | none => exact wf_secLog (wf_setBit (wf_wrBytes (wf_setBank h2)))

theorem wf_extRefused {s : State} {x cause : Nat} (h : Wf s) : Wf (extRefused s x cause) := by
  unfold extRefused
  exact wf_secLog (wf_wr h)

theorem wf_setExtState {s : State} {x v : Nat} (h : Wf s) : Wf (setExtState s x v) := by
  unfold setExtState
  extract_lets s1
  have h1 : Wf s1 := wf_setF h
  exact wf_syncDepot (wf_ite (wf_wr h1) h1)

theorem wf_moveExt {s : State} {o : Origin} {x v be : Nat} (h : Wf s) : Wf (moveExt s o x v be) := by
  unfold moveExt
  extract_lets _ s1
  have h1 : Wf s1 := wf_setExtState h
  exact wf_ite h1 (wf_regChange h1)

theorem wf_freeExts {s : State} {o : Origin} {be : Nat} {p : State → Nat → Bool} (h : Wf s) : Wf (freeExts s o be p) := by
  unfold freeExts
  exact wf_foldl (fun _ _ k1 => wf_ite (wf_moveExt k1) k1) _ h

theorem wf_extStateWrite {s : State} {x v : Nat} (h : Wf s) : Wf (extStateWrite s x v) := by
  unfold extStateWrite
  split
  · split
    · exact wf_setExtState h
    · exact wf_extRefused h
  · exact h
  · exact wf_ite (wf_extRefused h) (wf_setExtState h)
  · exact wf_ite (wf_extRefused h) (wf_ite (wf_extRefused h) (wf_setExtState h))
  · exact h

theorem wf_skipPage {s : State} {x a : Nat} (h : Wf s) : Wf (skipPage s x a) := by
  unfold skipPage
  exact wf_ite (wf_setF h) h

theorem wf_fillExtent {s : State} {x a : Nat} {page : List Byte} (h : Wf s) : Wf (fillExtent s x a page) := by
  unfold fillExtent
  extract_lets _ s1 s2
  have h1 : Wf s1 := by
    refine wf_ite (wf_wrMemN h) ?_
    split
    · exact wf_wrMemN h
    · exact h
  have h2 : Wf s2 := wf_setF h1
  exact wf_ite (wf_ite (wf_secLog (wf_moveExt h2)) h2) (wf_skipPage h)

theorem wf_fillBurst {s : State} {n cs a : Nat} {dropped : Bool} {page : List Byte} (h : Wf s) :
    Wf (fillBurst s n cs a dropped page) := by
  unfold fillBurst
  split
  · exact h
  · exact wf_foldl (fun _ _ k1 => wf_ite (wf_skipPage k1) (wf_fillExtent k1)) _ h

/-! ### IlkBase -/

theorem wf_setHandle {s : State} {h : Nat} {x : Handle} (hs : Wf s) : Wf (s.setHandle h x) := by
  unfold State.setHandle
  extract_lets
  exact wf_withIlk hs

theorem wf_syncArm {s : State} {o : Origin} (h : Wf s) : Wf (syncArm s o) := by
  unfold syncArm
  extract_lets
  exact wf_setL h

theorem wf_deliver {s : State} {h status : Nat} {notify : Bool} (hs : Wf s) : Wf (deliver s h status notify) := by
  unfold deliver
  extract_lets
  refine wf_ite hs ?_
  split
  · extract_lets
    exact wf_ite (wf_setCore hs) (wf_ite (wf_raise hs) hs)
  · exact wf_ite (wf_raise hs) hs

theorem wf_closeHandle {s : State} {h status : Nat} {notify : Bool} {o : Origin} (hs : Wf s) :
    Wf (closeHandle s h status notify o) := by
  unfold closeHandle
  extract_lets s1
  have h1 : Wf s1 := wf_setHandle hs
  exact wf_syncArm (wf_deliver h1)

theorem wf_closeHandles {status : Nat} {o : Origin} {hs : List Nat} {s : State} (h : Wf s) :
    Wf (closeHandles s status o hs) := by
  induction hs generalizing s with
  | nil =>
    rw [closeHandles]
    exact h
  | cons k hs ih =>
    rw [closeHandles]
    exact ih (wf_closeHandle h)

theorem wf_abortTx {s : State} {hs : List Nat} {rs : List ActRec} {status idx : Nat} {o : Origin} (h : Wf s) :
    Wf (abortTx s hs rs status idx o) := by
  unfold abortTx
  extract_lets s1
  have h1 : Wf s1 := wf_log (wf_inc h)
  exact wf_closeHandles h1

theorem wf_beginJournal {s : State} {h : Nat} {rs : List ActRec} (hs : Wf s) : Wf (beginJournal s h rs) := by
  unfold beginJournal
  extract_lets
  exact wf_withIlk hs

theorem wf_enterService {s : State} {h : Nat} (hs : Wf s) : Wf (enterService s h) := by
  unfold enterService
  extract_lets _ s1
  have h1 : Wf s1 := wf_setHandle hs
  exact wf_withIlk h1

theorem wf_lodgeLockdown {s : State} (h : Wf s) : Wf (lodgeLockdown s) := by
  unfold lodgeLockdown
  extract_lets
  exact wf_enterService (wf_setHandle h)

/-! ### HldOps -/

theorem wf_fwLog {s : State} {code detail : Nat} {payload : List Byte} (h : Wf s) : Wf (s.fwLog code detail payload) := by
  unfold State.fwLog
  exact wf_log h

theorem wf_fwL {s : State} {a hi lo v : Nat} (h : Wf s) : Wf (s.fwL a hi lo v) := by
  unfold State.fwL
  extract_lets
  exact wf_ite h (wf_regChange (wf_wr h))

theorem wf_mapFw {s : State} {f : Fw → Fw} (h : Wf s) : Wf (s.mapFw f) := by
  unfold State.mapFw
  extract_lets
  exact wf_withUpd h

theorem wf_setHolds {s : State} {g mask value : Nat} (h : Wf s) : Wf (setHolds s g mask value) := by
  unfold setHolds
  extract_lets
  exact wf_wr h

theorem wf_holdLock {s : State} (h : Wf s) : Wf (holdLock s) := by
  unfold holdLock
  extract_lets s1
  have h1 : Wf s1 := wf_setBit (wf_setBit h)
  exact wf_ite h (wf_log h1)

theorem wf_holdCompare {ls : List Nat} {s : State} (h : Wf s) : Wf (holdCompare s ls) := by
  induction ls generalizing s with
  | nil =>
    rw [holdCompare]
    exact h
  | cons l ls ih =>
    rw [holdCompare]
    exact ih (wf_ite h (wf_ite (wf_fwL (wf_mapFw (wf_log h))) (wf_log h)))

theorem wf_setCompState {s : State} {c v : Nat} (h : Wf s) : Wf (setCompState s c v) := by
  unfold setCompState
  exact wf_fwL h

theorem wf_noteReady {s : State} {c : Nat} {b : Bool} (h : Wf s) : Wf (noteReady s c b) := by
  unfold noteReady
  exact wf_mapFw h

theorem wf_markReleased {s : State} {c : Nat} (h : Wf s) : Wf (markReleased s c) := by
  unfold markReleased
  extract_lets
  exact wf_noteReady (wf_setCompState h)

theorem wf_unholdPrereq {es : List CompEntry} {s : State} (h : Wf s) : Wf (unholdPrereq s es) := by
  induction es generalizing s with
  | nil =>
    rw [unholdPrereq]
    exact h
  | cons e es ih =>
    rw [unholdPrereq]
    exact ih (wf_ite (wf_setCompState h) h)

theorem wf_holdPrereq {es : List CompEntry} {s : State} (h : Wf s) : Wf (holdPrereq s es) := by
  induction es generalizing s with
  | nil =>
    rw [holdPrereq]
    exact h
  | cons e es ih =>
    rw [holdPrereq]
    refine ih ?_
    split
    · exact wf_ite (wf_fwLog (wf_setCompState h)) h
    · exact h

theorem wf_holdDependants {s : State} (h : Wf s) : Wf (holdDependants s) := by
  unfold holdDependants
  exact wf_foldl (fun _ _ k1 => wf_holdPrereq k1) _ h

theorem wf_heldFail {s : State} {c reason : Nat} (h : Wf s) : Wf (heldFail s c reason) := by
  unfold heldFail
  exact wf_holdDependants (wf_fwLog (wf_setCompState h))

theorem wf_reportChange {s : State} {l samples : Nat} {ready : Bool} (h : Wf s) : Wf (reportChange s l ready samples) := by
  unfold reportChange
  extract_lets s1 s2 _ s3
  have h1 : Wf s1 := wf_setBit h
  have h2 : Wf s2 := wf_raise (wf_setBit h1)
  have h3 : Wf s3 := wf_ite (wf_log h2) h2
  refine wf_ite h ?_
  split
  · exact h3
  · extract_lets s4
    have h4 : Wf s4 := wf_log h3
    exact wf_ite (wf_ite (wf_unholdPrereq (wf_noteReady (wf_setCompState h3))) h3) (wf_ite (wf_ite
        (wf_setCompState h4) h4) h3)

theorem wf_reportTimeout {s : State} {c waited : Nat} (h : Wf s) : Wf (reportTimeout s c waited) := by
  unfold reportTimeout
  split
  · exact h
  · exact wf_ite h (wf_log h)

theorem wf_syncRtb {s : State} {c : Nat} (h : Wf s) : Wf (syncRtb s c) := by
  unfold syncRtb
  extract_lets
  exact wf_ite (wf_setBit (wf_ite (wf_setBit h) (wf_setBit h))) (wf_setBit (wf_ite (wf_setBit h) (wf_setBit h)))

theorem wf_putRec {s : State} {c : Nat} {rec : List Byte} (h : Wf s) : Wf (putRec s c rec) := by
  unfold putRec
  exact wf_syncRtb (wf_wrBytes h)

theorem wf_applyRtb {s : State} {c : Nat} {payload : List Byte} (h : Wf s) : Wf (applyRtb s c payload) := by
  unfold applyRtb
  exact wf_putRec h

theorem wf_homeAppend {s : State} {key : Nat} {b : List Byte} (h : Wf s) : Wf (homeAppend s key b) := by
  unfold homeAppend
  extract_lets _ _ s1
  have h1 : Wf s1 := wf_withHome h
  exact wf_ite (wf_setBit h1) h1

theorem wf_spoilCopies {s : State} {key : Nat} (h : Wf s) : Wf (spoilCopies s key) := by
  unfold spoilCopies
  extract_lets
  exact wf_withHome h

theorem wf_loadRecs {bad : Nat → Bool} {cs : List Nat} {s : State} (h : Wf s) : Wf (loadRecs s bad cs) := by
  induction cs generalizing s with
  | nil =>
    rw [loadRecs]
    exact h
  | cons c cs ih =>
    rw [loadRecs]
    exact ih (wf_ite (wf_fwLog (wf_putRec (wf_spoilCopies (wf_setPair h)))) (wf_putRec h))

theorem wf_loadMinver {s : State} {bad : Bool} (h : Wf s) : Wf (loadMinver s bad) := by
  unfold loadMinver
  extract_lets s1 _ s2
  have h1 : Wf s1 := wf_ite (wf_spoilCopies h) h
  have h2 : Wf s2 := wf_foldl (fun _ _ k3 => wf_wr k3) _ h1
  exact wf_ite (wf_fwLog (wf_setBit h2)) h2

end Sys2Proof.Machine
end

section
/-! O5: what keeps the canonical form: the signature unit, tamper, the life cycle and the Consist. -/

namespace Sys2Proof.Machine

/-! ### AttBase -/

theorem wf_syncAtt {s : State} (h : Wf s) : Wf (syncAtt s) := by
  unfold syncAtt
  extract_lets _ s1 s2
  have h1 : Wf s1 := wf_setF h
  have h2 : Wf s2 := wf_setBit h1
  exact wf_setF (wf_setF h2)

theorem wf_attLog {s : State} {code detail : Nat} {payload : List Byte} (h : Wf s) : Wf (attLog s code detail payload) := by
  unfold attLog
  exact wf_fwLog h

theorem wf_closeSessions {s : State} {p : Session → Bool} {cause : Nat} (h : Wf s) : Wf (closeSessions s p cause) := by
  unfold closeSessions
  extract_lets _ _ s1
  have h1 : Wf s1 := wf_withAtt h
  exact wf_syncAtt (wf_foldl (fun _ _ k2 => wf_attLog k2) _ h1)

theorem wf_attReset {s : State} (h : Wf s) : Wf (attReset s) := by
  unfold attReset
  extract_lets _ _ s1
  have h1 : Wf s1 := wf_syncAtt (wf_withAtt h)
  exact wf_foldl (fun _ _ k2 => wf_wr k2) _ h1

/-! ### SigOps -/

theorem wf_setSigKey {s : State} {k : Nat} {x : SigKey} (h : Wf s) : Wf (s.setSigKey k x) := by
  unfold State.setSigKey
  extract_lets
  exact wf_wr (wf_withSig h)

theorem wf_sigStart {s : State} (h : Wf s) : Wf (sigStart s) := by
  unfold sigStart
  extract_lets s1
  have h1 : Wf s1 := wf_foldl (fun _ _ k2 => wf_setSigKey k2) _ h
  exact wf_setSigKey h1

theorem wf_syncSig {s : State} (h : Wf s) : Wf (syncSig s) := by
  unfold syncSig
  extract_lets _ s1
  have h1 : Wf s1 := wf_setF (wf_setF h)
  exact wf_setF (wf_setF (wf_setF h1))

theorem wf_setSigPipe {s : State} {p : Nat} {js : List SigJob} (h : Wf s) : Wf (setSigPipe s p js) := by
  unfold setSigPipe
  extract_lets
  refine wf_syncSig ?_
  split <;> exact wf_withSig h

theorem wf_sigStatus {s : State} {c : Fin 2} {desc w : Nat} (h : Wf s) : Wf (sigStatus s c desc w) := by
  unfold sigStatus
  exact wf_ite (wf_wrMemN h) h

theorem wf_sigSubmit {s : State} {c : Fin 2} {a : Nat} (h : Wf s) : Wf (sigSubmit s c a) := by
  unfold sigSubmit
  extract_lets
  exact wf_ite (wf_sigStatus h) (wf_ite (wf_raise (wf_sigStatus h)) (wf_sigStatus (wf_setSigPipe h)))

theorem wf_rbgStops {s : State} {o : Origin} (h : Wf s) : Wf (rbgStops s o) := by
  unfold rbgStops
  extract_lets
  exact wf_ite h (wf_log (wf_withSig h))

theorem wf_withRandom {s : State} {j : SigJob} {r : SigEnd × State} (hs : Wf s) (hr : Wf r.2) : Wf (withRandom s j r).2 := by
  unfold withRandom
  split
  · exact hr
  · dsimp only
    exact wf_rbgStops hs

theorem wf_drawRandom {s : State} {n : Nat} (h : Wf s) : Wf (drawRandom s n).2 := by
  unfold drawRandom
  dsimp only
  exact wf_withFreeCtr h

theorem wf_opEcdsaVerify {s : State} {j : SigJob} (h : Wf s) : Wf (opEcdsaVerify s j).2 := by
  unfold opEcdsaVerify
  extract_lets
  split
  · dsimp only
    exact h
  · dsimp only
    exact h

theorem wf_ecdsaDraw {s : State} {key dig : List Byte} {n : Nat} (h : Wf s) : Wf (ecdsaDraw s key dig n).2 := by
  unfold ecdsaDraw
  extract_lets
  dsimp only
  exact wf_withFreeCtr h

theorem wf_opEcdsaSign {s : State} {j : SigJob} (h : Wf s) : Wf (opEcdsaSign s j).2 := by
  unfold opEcdsaSign
  extract_lets _ s1
  have h1 : Wf s1.2 := wf_ecdsaDraw h
  split
  · dsimp only
    exact h
  · split
    · dsimp only
      exact h
    · exact wf_withRandom h h1

theorem wf_opMldsaVerify {s : State} {j : SigJob} (h : Wf s) : Wf (opMldsaVerify s j).2 := by
  unfold opMldsaVerify
  extract_lets
  split
  · dsimp only
    exact h
  · dsimp only
    exact h

theorem wf_mldsaEnd {s : State} {j : SigJob} {sg : Option (List Byte)} (h : Wf s) : Wf (mldsaEnd s j sg).2 := by
  unfold mldsaEnd
  split
  · dsimp only
    exact h
  · dsimp only
    exact wf_log (wf_inc h)

theorem wf_opMldsaSign {s : State} {j : SigJob} (h : Wf s) : Wf (opMldsaSign s j).2 := by
  unfold opMldsaSign
  extract_lets _ _ s1
  have h1 : Wf s1.2 := wf_drawRandom h
  split
  · dsimp only
    exact h
  · split
    · dsimp only
      exact h
    · split
      · exact wf_withRandom h (wf_mldsaEnd h1)
      · exact wf_mldsaEnd h

theorem wf_opLmsVerify {s : State} {j : SigJob} (h : Wf s) : Wf (opLmsVerify s j).2 := by
  unfold opLmsVerify
  extract_lets
  split
  · dsimp only
    exact h
  · dsimp only
    exact h

theorem wf_withOutSlot {s : State} {j : SigJob} {r : SigEnd × State} (hs : Wf s) (hr : Wf r.2) :
    Wf (withOutSlot s j r).2 := by
  unfold withOutSlot
  split
  · dsimp only
    exact hs
  · exact hr

theorem wf_opEcEphemeral {s : State} {j : SigJob} (h : Wf s) : Wf (opEcEphemeral s j).2 := by
  unfold opEcEphemeral
  extract_lets s1
  have h1 : Wf s1.2 := wf_drawRandom h
  exact wf_withOutSlot h (wf_withRandom h (wf_setSigKey h1))

theorem wf_opEcdh {s : State} {j : SigJob} (h : Wf s) : Wf (opEcdh s j).2 := by
  unfold opEcdh
  extract_lets
  split
  · dsimp only
    exact h
  · split
    · dsimp only
      exact h
    · refine wf_withOutSlot h ?_
      split
      · dsimp only
        exact h
      · extract_lets
        dsimp only
        exact wf_setSigKey h

theorem wf_opDerive {s : State} {j : SigJob} (h : Wf s) : Wf (opDerive s j).2 := by
  unfold opDerive
  extract_lets _ _ _ _ s1
  have h1 : Wf s1.2 := wf_free h
  split
  · dsimp only
    exact h
  · split
    · dsimp only
      exact h
    · split
      · dsimp only
        exact h
      · exact wf_withOutSlot h (wf_setSigKey h1)

theorem wf_opAeadSeal {s : State} {j : SigJob} (h : Wf s) : Wf (opAeadSeal s j).2 := by
  unfold opAeadSeal
  extract_lets
  split
  · dsimp only
    exact h
  · split
    · dsimp only
      exact h
    · dsimp only
      exact h

theorem wf_opAeadOpen {s : State} {j : SigJob} (h : Wf s) : Wf (opAeadOpen s j).2 := by
  unfold opAeadOpen
  extract_lets
  split
  · dsimp only
    exact h
  · split
    · dsimp only
      exact h
    · split
      · dsimp only
        exact h
      · dsimp only
        exact h

theorem wf_opKeygen {s : State} {j : SigJob} (h : Wf s) : Wf (opKeygen s j).2 := by
  unfold opKeygen
  extract_lets
  split
  · dsimp only
    exact h
  · split
    · dsimp only
      exact h
    · exact wf_withOutSlot h (wf_setSigKey h)

theorem wf_opRandom {s : State} {j : SigJob} (h : Wf s) : Wf (opRandom s j).2 := by
  unfold opRandom
  extract_lets _ s1
  have h1 : Wf s1.2 := wf_drawRandom h
  split
  · dsimp only
    exact h
  · exact wf_withRandom h h1

theorem wf_opErase {s : State} {j : SigJob} (h : Wf s) : Wf (opErase s j).2 := by
  unfold opErase
  split
  · dsimp only
    exact h
  · dsimp only
    exact wf_setSigKey h

theorem wf_sigRun {s : State} {p op : Nat} {f : State → SigJob → SigEnd × State}
    (hs : Wf s) (hf : ∀ y0 y1, Wf y0 → Wf (f y0 y1).2) :
    Wf (sigRun s p op f) := by
  unfold sigRun
  split
  · exact hs
  · extract_lets s1 s2
    have h1 : Wf s1.2 := hf _ _ hs
    have h2 : Wf s2 := wf_wrMemN h1
    exact wf_ite hs (wf_setSigPipe h2)

theorem wf_sigEnd {s : State} {p : Nat} (h : Wf s) : Wf (sigEnd s p) := by
  unfold sigEnd
  split
  · exact h
  · split
    · exact h
    · extract_lets s1 s2
      have h1 : Wf s1 := wf_wrMemN h
      have h2 : Wf s2 := wf_raise (wf_sigStatus h1)
      split
      · exact wf_setSigPipe h2
      · exact wf_sigStatus (wf_setSigPipe h2)

theorem wf_sigAbortPipe {s : State} {p : Nat} {started : Bool} {c : SigJob → Bool} (h : Wf s) :
    Wf (sigAbortPipe s p started c).1 := by
  have hpipe (left : List SigJob) (ends : Nat × SigJob → Bool) (l : List (Nat × SigJob)) : Wf (setSigPipe
      ((l.filter ends).foldl
      (fun s x => (sigStatus s x.2.core x.2.desc 0x13).raise 3) s) p left) :=
    wf_setSigPipe (wf_foldl (fun _ _ k => wf_raise (wf_sigStatus k)) _ h)
  unfold sigAbortPipe
  dsimp only
  split
  · exact wf_ite (hpipe _ _ _) (wf_sigStatus (hpipe _ _ _))
  · exact hpipe _ _ _

theorem wf_sigAbortMine {s : State} {c : Fin 2} (h : Wf s) : Wf (sigAbortMine s c) := by
  unfold sigAbortMine
  extract_lets
  exact wf_sigAbortPipe (wf_sigAbortPipe (wf_sigAbortPipe h))

theorem wf_sigReset {s : State} (h : Wf s) : Wf (sigReset s) := by
  unfold sigReset
  extract_lets
  exact wf_sigStart (wf_withSig h)

theorem wf_sigZeroise {s : State} {x : Nat} (h : Wf s) : Wf (sigZeroise s x) := by
  unfold sigZeroise
  extract_lets _ _ s1 s2 s3
  have h1 : Wf s1.1 := wf_sigAbortPipe h
  have h2 : Wf s2 := wf_foldl (fun _ _ k4 => wf_setSigKey k4) _ h1
  have h3 : Wf s3 := wf_log h2
  exact wf_closeSessions h3

theorem wf_rbgFail {s : State} {test : Nat} (h : Wf s) : Wf (rbgFail s test) := by
  unfold rbgFail
  extract_lets
  exact wf_setBit (wf_withSig h)

theorem wf_rbgPass {s : State} (h : Wf s) : Wf (rbgPass s) := by
  unfold rbgPass
  extract_lets
  exact wf_setBit (wf_withSig h)

theorem wf_syncKeys {s : State} {y : Nat} (h : Wf s) : Wf (syncKeys s y) := by
  unfold syncKeys
  exact wf_wr h

theorem wf_putKey {s : State} {y slot : Nat} {key : List Byte} (h : Wf s) : Wf (putKey s y slot key) := by
  unfold putKey
  extract_lets
  exact wf_syncKeys (wf_setYard h)

theorem wf_clearKeys {s : State} {y : Nat} (h : Wf s) : Wf (clearKeys s y) := by
  unfold clearKeys
  extract_lets
  exact wf_syncKeys (wf_setYard h)

theorem wf_keyGo {s : State} {inRun : Nat → Bool} (h : Wf s) : Wf (keyGo s inRun) := by
  unfold keyGo
  extract_lets
  exact wf_ite (wf_setBit h) (wf_setBit (wf_withKeyLoad h))

theorem wf_keyDone {s : State} (h : Wf s) : Wf (keyDone s) := by
  unfold keyDone
  split
  · exact h
  · extract_lets s1
    have h1 : Wf s1 := wf_foldl (fun _ _ k2 => wf_putKey k2) _ h
    exact wf_setBit (wf_setBit (wf_withKeyLoad h1))

theorem wf_alarmEngines {s : State} (h : Wf s) : Wf (alarmEngines s) := by
  unfold alarmEngines
  exact wf_withEngines h

/-! ### TmpOps -/

theorem wf_mregExtend {s : State} {m : Nat} {v : List Byte} (h : Wf s) : Wf (mregExtend s m v) := by
  unfold mregExtend
  exact wf_wrBytes h

theorem wf_mreg5Event {s : State} {event count : Nat} (h : Wf s) : Wf (mreg5Event s event count) := by
  unfold mreg5Event
  exact wf_mregExtend h

theorem wf_syncForced {s : State} {why : Nat} (h : Wf s) : Wf (syncForced s why) := by
  unfold syncForced
  extract_lets _ _ s1
  have h1 : Wf s1 := wf_setBit h
  exact wf_ite (wf_log (wf_withTmp h1)) h1

theorem wf_sealOn {s : State} (h : Wf s) : Wf (sealOn s) := by
  unfold sealOn
  extract_lets s1
  have h1 : Wf s1 := wf_setBit h
  exact wf_ite h (wf_foldl (fun _ _ k2 => wf_discardUnreplayed k2) _ h1)

theorem wf_holdOn {s : State} (h : Wf s) : Wf (holdOn s) := by
  unfold holdOn
  exact wf_setBit (wf_setBit h)

theorem wf_zeroOn {s : State} {x : Nat} (h : Wf s) : Wf (zeroOn s x) := by
  unfold zeroOn
  exact wf_ite h (wf_foldl (fun _ _ k1 => wf_clearKeys k1) _ (wf_sigZeroise (wf_setBit h)))

theorem wf_respond {s : State} {resp x : Nat} (h : Wf s) : Wf (respond s resp x) := by
  unfold respond
  extract_lets s1 s2 s3
  have h1 : Wf s1 := wf_ite (wf_sealOn h) h
  have h2 : Wf s2 := wf_ite (wf_holdOn h1) h1
  have h3 : Wf s3 := wf_ite (wf_zeroOn h2) h2
  exact wf_ite (wf_withTmp h3) h3

theorem wf_clearTag {s : State} {l : Nat} (h : Wf s) : Wf (clearTag s l).1 := by
  unfold clearTag
  extract_lets _ _ s1
  have h1 : Wf s1 := wf_ite (wf_setLine h) h
  split
  · extract_lets s2
    have h2 : Wf s2.2 := wf_gangerSpent h1
    split
    · dsimp only
      exact wf_inc (wf_dropGanger h2)
    · dsimp only
      exact h1
  · dsimp only
    exact h1

theorem wf_clearUnits {s : State} {zero : Bool} (h : Wf s) : Wf (clearUnits s zero) := by
  unfold clearUnits
  extract_lets _ s1 s2
  have h1 : Wf s1.1 := by
    unfold s1
    refine wf_foldl_fst (fun _ _ k4 => ?_) _ ?_
    · exact wf_exmClearLane k4
    · exact h
  have h2 : Wf s2.1 := by
    unfold s2
    refine wf_foldl_fst (fun _ _ k3 => ?_) _ ?_
    · exact wf_clearTag k3
    · exact wf_setBit h1
  exact wf_log (wf_alarmEngines h2)

theorem wf_setLatch {s : State} {sources : Nat} {o : Origin} {recorded : Bool} (h : Wf s) :
    Wf (setLatch s sources o recorded) := by
  unfold setLatch
  extract_lets _ _ s1 s2
  have h1 : Wf s1 := wf_withTmp h
  have h2 : Wf s2 := wf_ite (wf_setL h1) (wf_setBit h1)
  exact wf_log (wf_mreg5Event h2)

theorem wf_markRelease {s : State} (h : Wf s) : Wf (markRelease s) := by
  unfold markRelease
  exact wf_foldl (fun _ _ k1 => wf_ite (wf_setHandle k1) k1) _ h

theorem wf_lockByAlarm {s : State} {x : Nat} (h : Wf s) : Wf (lockByAlarm s x) := by
  unfold lockByAlarm
  extract_lets _ _ s1
  have h1 : Wf s1 := wf_withTmp h
  exact wf_ite (wf_markRelease h1) (wf_lodgeLockdown (wf_setLatch h))

theorem wf_lockResponse {s : State} (h : Wf s) : Wf (lockResponse s) := by
  unfold lockResponse
  exact wf_ite h (wf_lodgeLockdown (wf_setLatch h))

theorem wf_advanceEvidence {s : State} {target : Nat} (h : Wf s) : Wf (advanceEvidence s target) := by
  unfold advanceEvidence
  extract_lets _ _ s1 s2
  have h1 : Wf s1 := wf_setF h
  have h2 : Wf s2 := wf_setBit h1
  exact wf_ite (wf_log (wf_mreg5Event h2)) h2

theorem wf_applyLock {s : State} {payload : List Byte} {byHardware : Bool} (h : Wf s) :
    Wf (applyLock s payload byHardware) := by
  unfold applyLock
  extract_lets _ s1
  have h1 : Wf s1 := wf_setLatch h
  exact wf_ite (wf_withTmp h) (wf_ite h (wf_withTmp h1))

theorem wf_reenter {s : State} {again : Option Nat} (h : Wf s) : Wf (reenter s again) := by
  unfold reenter
  split
  · exact h
  · extract_lets
    exact wf_lodgeLockdown (wf_setLatch (wf_respond h))

theorem wf_applyRelease {s : State} {ticket : Nat} (h : Wf s) : Wf (applyRelease s ticket) := by
  unfold applyRelease
  extract_lets _ _ _ _ s1 s2 s3
  have h1 : Wf s1 := wf_setF (wf_withTmp h)
  have h2 : Wf s2 := wf_wr (wf_setBit h1)
  have h3 : Wf s3 := wf_log (wf_mreg5Event h2)
  exact wf_reenter h3

theorem wf_tickTo {s : State} {stamp : Nat} (h : Wf s) : Wf (tickTo s stamp) := by
  unfold tickTo
  exact wf_ite (wf_wr64 h) h

theorem wf_alarm {s : State} {x dets stamp thresh window : Nat} {forced : Bool} (h : Wf s) :
    Wf (alarm s x dets stamp thresh window forced) := by
  unfold alarm
  extract_lets _ _ _ s1 s2 s3
  have h1 : Wf s1 := wf_withTmp h
  have h2 : Wf s2 := wf_setBit h1
  have h3 : Wf s3 := wf_log h2
  exact wf_lockByAlarm (wf_clearUnits (wf_respond h3))

theorem wf_detectorEvent {s : State} {x det stamp : Nat} {extra : List Byte} (h : Wf s) :
    Wf (detectorEvent s x det stamp extra) := by
  unfold detectorEvent
  extract_lets s1 _ _ s2 _ _ _ _ _ _ _ s3
  have h1 : Wf s1 := wf_tickTo h
  have h2 : Wf s2 := wf_withTmp h1
  have h3 : Wf s3 := wf_withTmp h2
  exact wf_ite h1 (wf_ite (wf_alarm h2) (wf_log (wf_inc h3)))

theorem wf_setActive {s : State} {x det : Nat} {on : Bool} (h : Wf s) : Wf (setActive s x det on) := by
  unfold setActive
  exact wf_setBit h

theorem wf_logicFlagEvent {s : State} (h : Wf s) : Wf (logicFlagEvent s) := by
  unfold logicFlagEvent
  exact wf_detectorEvent h

theorem wf_tmpLock {s : State} (h : Wf s) : Wf (tmpLock s) := by
  unfold tmpLock
  extract_lets s1
  have h1 : Wf s1 := wf_setBit h
  exact wf_ite h (wf_withTmp h1)

theorem wf_vlatchPut {s : State} {x dets stamp : Nat} (h : Wf s) : Wf (vlatchPut s x dets stamp) := by
  unfold vlatchPut
  extract_lets _ _ _ s1 s2 s3
  have h1 : Wf s1 := wf_withTmp h
  have h2 : Wf s2 := wf_wr h1
  have h3 : Wf s3 := wf_wr h2
  exact wf_ite (wf_setF (wf_setF h3)) (wf_setF h3)

theorem wf_backupSource {s : State} {stamp x dets : Nat} (h : Wf s) : Wf (backupSource s stamp x dets) := by
  unfold backupSource
  extract_lets
  exact wf_ite h (wf_ite (wf_vlatchPut (wf_withTmp h)) (wf_withTmp h))

theorem wf_backupSources {stamp : Nat} {l : List (Nat × Nat)} {s : State} (h : Wf s) : Wf (backupSources s stamp l) := by
  induction l generalizing s with
  | nil =>
    rw [backupSources]
    exact h
  | cons x l ih =>
    rw [backupSources]
    exact ih (wf_backupSource h)

theorem wf_cellClose {s : State} {cell timeout : Bool} (h : Wf s) : Wf (cellClose s cell timeout) := by
  unfold cellClose
  extract_lets s1 _ _ s2
  have h1 : Wf s1 := wf_setBit h
  have h2 : Wf s2 := wf_ite (wf_setActive (wf_withTmp h1)) h1
  exact wf_ite (wf_log h2) h2

theorem wf_lockdownAtPowerUp {s : State} {unreadable : Bool} (h : Wf s) : Wf (lockdownAtPowerUp s unreadable) := by
  unfold lockdownAtPowerUp
  extract_lets _ _ s1 _ _ s2 s3 _ s4 s5
  have h1 : Wf s1 := wf_setBit h
  have h2 : Wf s2 := wf_setBit (wf_setBit h1)
  have h3 : Wf s3 := wf_ite (wf_holdOn h2) h2
  have h4 : Wf s4 := wf_withTmp h3
  have h5 : Wf s5 := wf_setBit h4
  exact wf_ite (wf_mreg5Event h1) (wf_ite (wf_advanceEvidence (wf_mreg5Event h5)) (wf_lodgeLockdown (wf_setLatch
      (wf_mreg5Event h3))))

theorem wf_canaryAtPowerUp {s : State} {lost : Bool} (h : Wf s) : Wf (canaryAtPowerUp s lost) := by
  unfold canaryAtPowerUp
  extract_lets
  exact wf_ite (wf_withTmp h) (wf_ite (wf_detectorEvent (wf_setActive (wf_withTmp h))) h)

theorem wf_logVlatch {s : State} {i : Nat} (h : Wf s) : Wf (logVlatch s i) := by
  unfold logVlatch
  extract_lets
  exact wf_record h

theorem wf_flushVlatch {s : State} (h : Wf s) : Wf (flushVlatch s) := by
  unfold flushVlatch
  extract_lets s1 _ s2 _ s3
  have h1 : Wf s1 := wf_foldl (fun _ _ k4 => wf_logVlatch k4) _ h
  have h2 : Wf s2 := wf_ite h1 (wf_record h1)
  have h3 : Wf s3 := wf_withTmp h2
  exact wf_ite h (wf_wr h3)

theorem wf_blowFuse {s : State} {x : Nat} (h : Wf s) : Wf (blowFuse s x) := by
  unfold blowFuse
  extract_lets s1
  have h1 : Wf s1 := wf_setActive (wf_setActive (wf_setBit h))
  exact wf_log h1

/-! ### LcsOps -/

theorem wf_programCopies {s : State} {w : Nat} (h : Wf s) : Wf (programCopies s w) := by
  unfold programCopies
  extract_lets _ _ s1 s2
  have h1 : Wf s1 := wf_withLcs h
  have h2 : Wf s2 := wf_foldl (fun _ _ k4 => wf_wr64 k4) _ h1
  exact wf_foldl (fun _ _ k3 => wf_ite k3 (wf_fwLog k3)) _ h2

theorem wf_setLcState {s : State} {st gen level : Nat} (h : Wf s) : Wf (setLcState s st gen level) := by
  unfold setLcState
  extract_lets
  exact wf_wr h

theorem wf_wipeMem {s : State} {p : Nat → Bool} (h : Wf s) : Wf (wipeMem s p) := wf_memFilter _ h

theorem wf_wiped {s : State} {sectors : Nat} (h : Wf s) : Wf (wiped s sectors) := by
  unfold wiped
  exact wf_wr h

theorem wf_wipeTables {s : State} (h : Wf s) : Wf (wipeTables s) := by
  unfold wipeTables
  extract_lets
  exact wf_withLcsFixAtt h

theorem wf_wipeFor {s : State} {st : Nat} (h : Wf s) : Wf (wipeFor s st) := by
  unfold wipeFor
  extract_lets s1 s2
  have h1 : Wf s1 := wf_wipeTables (wf_wiped (wf_wipeMem h))
  have h2 : Wf s2 := wf_wipeTables (wf_wiped (wf_wipeMem h))
  exact wf_ite (wf_setF h1) (wf_ite (wf_withLcs h2) h)

theorem wf_lcStartup {s : State} {powerUp : Bool} (h : Wf s) : Wf (lcStartup s powerUp) := by
  unfold lcStartup
  extract_lets _ _ s1 _ _ _ s2 s3 pend _ s4 s5 s6 s7
  have h1 : Wf s1 := wf_programCopies h
  have h2 : Wf s2 := wf_ite (wf_wipeFor h1) h1
  have h3 : Wf s3 := wf_ite (wf_programCopies h2) h2
  have h4 : Wf s4 := wf_setLcState h3
  have h5 : Wf s5 := wf_fwLog h4
  have h6 : Wf s6 := wf_ite (wf_fwLog h5) h5
  have h7 : Wf s7 := by
    unfold s7
    cases hpend : pend with
    | some p => exact wf_fwLog h6
    | none => exact h6
  exact wf_wr h7

theorem wf_lcMeasure {s : State} (h : Wf s) : Wf (lcMeasure s) := by
  unfold lcMeasure
  extract_lets s1
  have h1 : Wf s1 := wf_mregExtend h
  exact wf_fwL (wf_fwL h1)

theorem wf_setTicket {s : State} {i value scope origin : Nat} {t : Option Ticket} (h : Wf s) :
    Wf (setTicket s i t value scope origin) := by
  unfold setTicket
  extract_lets _ s1
  have h1 : Wf s1 := wf_withLcs h
  exact wf_wr (wf_wr h1)

theorem wf_useTicket {s : State} {i code : Nat} (h : Wf s) : Wf (useTicket s i code) := by
  unfold useTicket
  extract_lets
  exact wf_fwLog (wf_setTicket h)

theorem wf_clearTickets {s : State} (h : Wf s) : Wf (clearTickets s) := by
  unfold clearTickets
  extract_lets s1
  have h1 : Wf s1 := wf_foldl (fun _ _ k2 => wf_setTicket k2) _ h
  exact wf_wr (wf_withLcs h1)

theorem wf_acceptStaff {s : State} {q : Sender} {staff : List Byte} (h : Wf s) : Wf (acceptStaff s q staff) := by
  unfold acceptStaff
  extract_lets _ _ _ _ _ _ _ _ s1 s2 _ _ s3
  have h1 : Wf s1 := wf_withLcs h
  have h2 : Wf s2 := wf_wr (wf_wr h1)
  have h3 : Wf s3 := wf_setTicket h2
  exact wf_fwLog h3

theorem wf_scramble {s : State} {base len : Nat} (h : Wf s) : Wf (scramble s base len) := by
  unfold scramble
  exact wf_wrMemN (wf_withFreeCtr h)

theorem wf_transitBegin {s : State} {o : Origin} {st ticket : Nat} {digest : List Byte} (h : Wf s) :
    Wf (transitBegin s o st ticket digest) := by
  unfold transitBegin
  extract_lets _ _ _ _ s1 s2
  have h1 : Wf s1 := wf_withLcs h
  have h2 : Wf s2 := wf_log h1
  exact wf_syncForced (wf_setL (wf_programCopies h2))

theorem wf_mtmGo {s : State} {test target : Nat} (h : Wf s) : Wf (mtmGo s test target) := by
  unfold mtmGo
  extract_lets _ s1
  have h1 : Wf s1 := wf_withLcs h
  exact wf_ite (wf_setBit h) (wf_ite (wf_ite (wf_transitBegin h1) h1) (wf_ite (wf_ite (wf_transitBegin h1) h1)
      (wf_ite h1 (wf_setBit (wf_withLcs h1)))))

theorem wf_mtmEnd {s : State} {fail : Bool} {addr : Nat} (h : Wf s) : Wf (mtmEnd s fail addr) := by
  unfold mtmEnd
  split
  · exact h
  · extract_lets s1 _ s2 s3 s4
    have h1 : Wf s1 := by
      unfold s1
      split
      · exact wf_scramble h
      · exact h
    have h2 : Wf s2 := wf_withLcs h1
    have h3 : Wf s3 := wf_setBit (wf_setBit h2)
    have h4 : Wf s4 := wf_ite (wf_wr (wf_setBit h3)) h3
    exact wf_log h4

end Sys2Proof.Machine
end

section
/-! O5: what keeps the canonical form: the ledger, the scheduler, the mailboxes and the instances. -/

namespace Sys2Proof.Machine

/-! ### LdgOps -/

theorem wf_setLdgState {s : State} {v : Nat} (h : Wf s) : Wf (setLdgState s v) := by
  unfold setLdgState
  exact wf_setL h

theorem wf_syncLedger {s : State} (h : Wf s) : Wf (syncLedger s) := by
  unfold syncLedger
  extract_lets s1
  have h1 : Wf s1 := wf_wrBytes h
  exact wf_setF (wf_setBit h1)

theorem wf_writeNode {s : State} {j k : Nat} {d : List Byte} (h : Wf s) : Wf (writeNode s j k d).1 := by
  unfold writeNode
  extract_lets
  dsimp only
  exact wf_toHost (wf_withLedger h)

theorem wf_writeBack {s : State} {j : Nat} (h : Wf s) : Wf (writeBack s j) := by
  unfold writeBack
  extract_lets
  split
  · exact h
  · extract_lets s1 s2 _ _ s3
    have h1 : Wf s1 := wf_toHost h
    have h2 : Wf s2.1 := by
      unfold s2
      refine wf_foldl_fst (fun _ _ k4 => ?_) _ ?_
      · exact wf_writeNode k4
      · exact h1
    have h3 : Wf s3 := h2
    exact wf_syncLedger (wf_inc (wf_withLedger h3))

theorem wf_writeBackAll {s : State} (h : Wf s) : Wf (writeBackAll s) := by
  unfold writeBackAll
  exact wf_foldl (fun _ _ k1 => wf_writeBack k1) _ h

theorem wf_dropPage {s : State} {j : Nat} (h : Wf s) : Wf (dropPage s j) := by
  unfold dropPage
  extract_lets
  exact wf_withLedger h

theorem wf_makeRoom {s : State} (h : Wf s) : Wf (makeRoom s) := by
  unfold makeRoom
  refine wf_ite h ?_
  split
  · exact h
  · exact wf_dropPage (wf_ite (wf_writeBack h) h)

theorem wf_bufferPage {s : State} {j : Nat} {data : List Byte} {path : List (List Byte)} (h : Wf s) :
    Wf (bufferPage s j data path) := by
  unfold bufferPage
  extract_lets s1
  have h1 : Wf s1 := wf_makeRoom h
  exact wf_withLedger h1

theorem wf_applyUpd {s : State} {idx : Nat} {u : RecUpd} (h : Wf s) : Wf (applyUpd s idx u) := by
  unfold applyUpd
  extract_lets
  exact wf_syncLedger (wf_withLedger h)

theorem wf_recordUpdate {s : State} {idx : Nat} {u : RecUpd} (h : Wf s) : Wf (recordUpdate s idx u) := by
  unfold recordUpdate
  extract_lets
  exact wf_ite (wf_applyUpd h) (wf_withLedger h)

theorem wf_applyLate {s : State} (h : Wf s) : Wf (applyLate s) := by
  unfold applyLate
  extract_lets _ _ _ s1
  have h1 : Wf s1 := wf_withLedger h
  exact wf_ite h (wf_foldl (fun _ _ k2 => wf_applyUpd k2) _ h1)

theorem wf_applyEpoch {s : State} {payload : List Byte} (h : Wf s) : Wf (applyEpoch s payload) := by
  unfold applyEpoch
  extract_lets _ s1 s2 _ s3
  have h1 : Wf s1 := wf_wr64 (wf_wrBytes h)
  have h2 : Wf s2 := wf_ite (wf_wr64 h1) h1
  have h3 : Wf s3 := wf_withLedger h2
  exact wf_setBit h3

theorem wf_setRing {s : State} {i : Nat} (h : Wf s) : Wf (setRing s i) := by
  unfold setRing
  exact wf_setF (wf_setF h)

theorem wf_ringAppend {s : State} {entry : List Byte} (h : Wf s) : Wf (ringAppend s entry) := by
  unfold ringAppend
  exact wf_setRing (wf_wrMemN (wf_ite (wf_memFilter _ h) h))

theorem wf_ringStart {s : State} (h : Wf s) : Wf (ringStart s) := by
  unfold ringStart
  extract_lets s1
  have h1 : Wf s1 := wf_wr64 (wf_wrBytes h)
  split
  · exact wf_setRing (wf_applyEpoch h)
  · exact wf_withLedger h1

theorem wf_epochBegin {s : State} {after : List AfterCommit} (h : Wf s) : Wf (epochBegin s after) := by
  unfold epochBegin
  extract_lets
  exact wf_ite (wf_withLedger h) (wf_setBit (wf_writeBackAll (wf_withLedger h)))

theorem wf_ldgLog {s : State} {code : Nat} {payload : List Byte} (h : Wf s) : Wf (ldgLog s code payload) := by
  unfold ldgLog
  exact wf_fwLog h

theorem wf_epochEnded {s : State} (h : Wf s) : Wf (epochEnded s) := by
  unfold epochEnded
  extract_lets _ _ s1 s2 s3 s4 s5
  have h1 : Wf s1 := wf_setBit (wf_withLedger h)
  have h2 : Wf s2 := wf_ldgLog h1
  have h3 : Wf s3 := wf_ite (wf_ldgLog h2) h2
  have h4 : Wf s4 := wf_ite (wf_setLdgState h3) h3
  have h5 : Wf s5 := wf_ite (wf_setLdgState h4) h4
  exact wf_syncLedger (wf_applyLate h5)

theorem wf_epochRefused {s : State} (h : Wf s) : Wf (epochRefused s) := by
  unfold epochRefused
  extract_lets _ s1
  have h1 : Wf s1 := wf_setBit (wf_withLedger h)
  exact wf_syncLedger (wf_applyLate h1)

theorem wf_dropLedger {s : State} (h : Wf s) : Wf (dropLedger s) := by
  unfold dropLedger
  extract_lets _ _ s1
  have h1 : Wf s1 := wf_setF (wf_withLedger h)
  exact wf_setBit h1

theorem wf_dropUpdates {s : State} (h : Wf s) : Wf (dropUpdates s) := by
  unfold dropUpdates
  exact wf_setBit (wf_wrBytes (wf_dropLedger h))

theorem wf_closeLedger {s : State} (h : Wf s) : Wf (closeLedger s) := by
  unfold closeLedger
  extract_lets s1 _ s2 s3 s4
  have h1 : Wf s1 := wf_dropLedger h
  have h2 : Wf s2 := wf_withLedger h1
  have h3 : Wf s3 := wf_setBit (wf_setLdgState h2)
  have h4 : Wf s4 := wf_setBit h3
  exact wf_ldgLog h4

theorem wf_setBases {s : State} {leaf tree pages : Nat} (h : Wf s) : Wf (setBases s leaf tree pages) := by
  unfold setBases
  extract_lets
  exact wf_fwL (wf_fwL (wf_fwL (wf_fwL (wf_fwL h))))

theorem wf_loadCache {s : State} {pages : Nat} {nodes : List (List Byte)} (h : Wf s) : Wf (loadCache s pages nodes) := by
  unfold loadCache
  extract_lets
  exact wf_withLedger h

theorem wf_ledgerVote {s : State} (h : Wf s) : Wf (ledgerVote s) := by
  unfold ledgerVote
  exact wf_setBit h

theorem wf_rebuildLevel {s : State} {k : Nat} {below : List (List Byte)} (h : Wf s) : Wf (rebuildLevel s k below).1 := by
  unfold rebuildLevel
  extract_lets
  dsimp only
  exact wf_foldl (fun _ _ k1 => wf_toHost k1) _ h

theorem wf_rebuildLevels (l : List Nat) {p : State × List (List Byte)} (h : Wf p.1) :
    Wf (l.foldl (fun r k => rebuildLevel r.1 k r.2) p).1 :=
  wf_foldl_fst (fun _ _ k => wf_rebuildLevel k) l h

theorem wf_rebuildTree {s : State} {pages : List (Nat × List Byte)} (h : Wf s) : Wf (rebuildTree s pages) := by
  unfold rebuildTree
  exact wf_syncLedger (wf_rebuildLevels _ (wf_withLedger (wf_rebuildLevels _ h)))

/-! ### FixOps -/

theorem wf_setAccount {s : State} {a v : Nat} (h : Wf s) : Wf (setAccount s a v) := by
  unfold setAccount
  extract_lets
  exact wf_withFix h

theorem wf_rejoin {s : State} {a : Nat} (h : Wf s) : Wf (rejoin s a) := by
  unfold rejoin
  extract_lets
  refine wf_ite h ?_
  split
  · exact wf_ite (wf_setAccount h) h
  · exact h

theorem wf_syncFix {s : State} (h : Wf s) : Wf (syncFix s) := by
  unfold syncFix
  extract_lets _ s1 s2
  have h1 : Wf s1 := wf_setBit h
  have h2 : Wf s2 := wf_setBit h1
  exact wf_setF (wf_setF h2)

theorem wf_wakeEngines {s : State} (h : Wf s) : Wf (wakeEngines s) := by
  unfold wakeEngines
  extract_lets
  exact wf_withEngines h

theorem wf_wakeFreed {old s : State} (hs : Wf s) : Wf (wakeFreed old s) := by
  unfold wakeFreed
  exact wf_ite (wf_wakeEngines hs) hs

theorem wf_wbLog {s : State} {code : Nat} {w : Waybill} {payload : List Byte} (h : Wf s) : Wf (wbLog s code w payload) := by
  unfold wbLog
  exact wf_log h

theorem wf_mapPass {s : State} {k : PassKey} {f : Pass → Pass} (h : Wf s) : Wf (mapPass s k f) := by
  unfold mapPass
  extract_lets
  exact wf_withFix h

theorem wf_ttFail {s : State} {k : PassKey} {status : Nat} (h : Wf s) : Wf (ttFail s k status) := by
  unfold ttFail
  split
  · exact wf_ite (wf_inc h) h
  · exact h

theorem wf_statusEvents {s : State} {w : Waybill} {status mtch seg detail engine : Nat} (h : Wf s) :
    Wf (statusEvents s w status mtch seg detail engine) := by
  unfold statusEvents
  extract_lets _ _ s1 s2
  have h1 : Wf s1 := wf_inc h
  have h2 : Wf s2 := wf_ite (wf_setBit h1) h1
  exact wf_ite (wf_inc h) (wf_ite (wf_ite h (wf_log (wf_inc h))) (wf_ite (wf_log h2) (wf_ite (wf_log (wf_inc h)) h)))

theorem wf_fixComplete {s : State} {w : Waybill} {status mtch bytes seg detail engine : Nat} (h : Wf s) :
    Wf (fixComplete s w status mtch bytes seg detail engine) := by
  unfold fixComplete
  extract_lets s1
  have h1 : Wf s1 := wf_statusEvents h
  split
  · extract_lets
    exact wf_withFix h1
  · exact wf_ttFail (wf_mapPass h1)

theorem wf_unwait {s : State} {w : Waybill} (h : Wf s) : Wf (unwait s w) := by
  unfold unwait
  extract_lets
  exact wf_withFix h

theorem wf_readied {s : State} {w : Waybill} (h : Wf s) : Wf (readied s w) := by
  unfold readied
  extract_lets s1
  have h1 : Wf s1 := wf_rejoin h
  exact wf_wakeEngines (wf_withFix h1)

theorem wf_admitRecord {s : State} {w : Waybill} {r : List Byte} (h : Wf s) : Wf (admitRecord s w r) := by
  unfold admitRecord
  extract_lets s1
  have h1 : Wf s1 := wf_fixComplete (wf_unwait h)
  split
  · exact wf_fixComplete (wf_unwait h)
  · exact wf_ite (wf_ite h1 (wf_recordUpdate h1)) (wf_readied h)

theorem wf_submit {s : State} {w : Waybill} {list block : HostRead} {kind : Nat} (h : Wf s) :
    Wf (submit s w list block kind) := by
  unfold submit
  extract_lets _ _ _ s1
  have h1 : Wf s1 := wf_withFix h
  split
  · exact wf_fixComplete (wf_ite (wf_dmaErrorEvent h) h)
  · refine wf_ite ?_ (wf_readied h1)
    split
    · exact wf_admitRecord h1
    · exact h1

theorem wf_admitPage {s : State} {j : Nat} (h : Wf s) : Wf (admitPage s j) := by
  unfold admitPage
  extract_lets
  exact wf_foldl (fun _ _ k1 => wf_admitRecord k1) _ h

theorem wf_endWaiting {s : State} {p : Waybill → Bool} {status detail : Nat} (h : Wf s) :
    Wf (endWaiting s p status detail) := by
  unfold endWaiting
  extract_lets _ _ s1
  have h1 : Wf s1 := wf_withFix h
  exact wf_syncFix (wf_foldl (fun _ _ k2 => wf_fixComplete k2) _ h1)

theorem wf_fixLockdown {s : State} (h : Wf s) : Wf (fixLockdown s) := by
  unfold fixLockdown
  extract_lets
  exact wf_endWaiting (wf_withFix h)

theorem wf_fixUnlock {s : State} (h : Wf s) : Wf (fixUnlock s) := by
  unfold fixUnlock
  exact wf_setBit h

theorem wf_dispatched {s : State} {w : Waybill} (h : Wf s) : Wf (dispatched s w) := by
  unfold dispatched
  extract_lets _ s1
  have h1 : Wf s1 := wf_setAccount h
  exact wf_unwait h1

theorem wf_fixDone {s : State} {e : Nat} {i : WorkItem} {resA resB cmpl : List Byte} (h : Wf s) :
    Wf (fixDone s e i resA resB cmpl) := by
  unfold fixDone
  extract_lets _ _ _ _ _ _ _ s1 _ _ s2 s3
  have h1 : Wf s1 := wf_ite (wf_wbLog h) h
  have h2 : Wf s2 := wf_ite (wf_instWrite h1) h1
  have h3 : Wf s3 := wf_ite (wf_recordUpdate h2) (wf_ite (wf_recordUpdate h2) h2)
  exact wf_ite h (wf_ite (wf_fixComplete h) (wf_ite (wf_fixComplete h) (wf_fixComplete h3)))

theorem wf_ttCursor {s : State} {k : PassKey} {cur : Nat} (h : Wf s) : Wf (ttCursor s k cur) := by
  unfold ttCursor
  split
  · exact wf_wr64 h
  · exact h

theorem wf_passStep {s t : State} {k : PassKey} (h : Wf s) (ht : passStep s k = some t) : Wf t := by
  unfold passStep at ht
  split at ht
  · exact absurd ht nofun
  split at ht
  · exact absurd ht nofun
  split at ht
  · dsimp only at ht
    split at ht
    · exact Option.some.inj ht ▸ wf_mapPass (wf_ttCursor (wf_mapPass h))
    · exact Option.some.inj ht ▸ wf_submit (wf_mapPass (wf_ttCursor (wf_mapPass h)))
  · split at ht
    · exact Option.some.inj ht ▸ wf_ttCursor (wf_mapPass h)
    · exact absurd ht nofun
  · exact absurd ht nofun

theorem wf_advancePass {fuel : Nat} {s : State} {k : PassKey} (h : Wf s) : Wf (advancePass fuel s k) := by
  induction fuel generalizing s with
  | zero =>
    rw [advancePass]
    exact h
  | succ fuel ih =>
    rw [advancePass]
    split
    next t ht => exact ih (wf_passStep h ht)
    · exact h

theorem wf_advancePasses {s : State} (h : Wf s) : Wf (advancePasses s) := by
  unfold advancePasses
  exact wf_syncFix (wf_foldl (fun _ _ k1 => wf_advancePass k1) _ h)

theorem wf_startPass {s : State} {k : PassKey} {w0 first count cur : Nat} {owner : Option Nat} {fed : List (Nat × Feed)}
    (h : Wf s) :
    Wf (startPass s k w0 owner first count cur fed) := by
  unfold startPass
  extract_lets
  exact wf_withFix h

theorem wf_makeReport {s : State} {p : Pass} (h : Wf s) : Wf (makeReport s p) := by
  unfold makeReport
  extract_lets
  exact wf_fwLog (wf_withFix h)

theorem wf_finishPass {s : State} {k : PassKey} (h : Wf s) : Wf (finishPass s k) := by
  unfold finishPass
  extract_lets
  split
  · exact h
  · extract_lets
    split
    · extract_lets s3 s4 s5
      have h3 : Wf s3 := wf_setBit (wf_setBit (wf_withFix h))
      have h4 : Wf s4 := wf_setF h3
      have h5 : Wf s5 := wf_fwLog h4
      exact wf_ite (wf_makeReport h5) h5
    · exact wf_answer (wf_makeReport (wf_fwLog (wf_withFix h)))

theorem wf_withEnginesLedger {s : State} {engines : List (Nat × Engine)} {ledger : Ledger} (h : Wf s) :
    Wf { s with engines := engines, ledger := ledger } := wf_same h rfl rfl

theorem wf_ledgerAuthFail {s : State} {j level : Nat} (h : Wf s) : Wf (ledgerAuthFail s j level) := by
  unfold ledgerAuthFail
  exact wf_endWaiting (wf_foldl (fun _ _ k => wf_reply k) _ (wf_withEnginesLedger (wf_dropUpdates (wf_ldgLog (wf_inc
      (wf_setLdgState h))))))

theorem wf_serveRecords {s : State} {j : Nat} (h : Wf s) : Wf (serveRecords s j) := by
  unfold serveRecords
  extract_lets _ _ s1
  have h1 : Wf s1 := wf_withLedger h
  exact wf_foldl (fun _ _ k2 => wf_ite (wf_reply (wf_recordUpdate k2)) (wf_reply k2)) _ h1

theorem wf_pageAuth {s : State} {j : Nat} {data : List Byte} {path : List (List Byte)} (h : Wf s) :
    Wf (pageAuth s j data path) := by
  unfold pageAuth
  extract_lets s1 s2
  have h1 : Wf s1 := wf_inc (wf_bufferPage h)
  have h2 : Wf s2 := wf_admitPage (wf_applyLate h1)
  refine wf_ite h ?_
  split
  · exact wf_ledgerAuthFail h
  · exact wf_advancePasses (wf_serveRecords h2)

theorem wf_pageReadError {s : State} {j : Nat} (h : Wf s) : Wf (pageReadError s j) := by
  unfold pageReadError
  extract_lets _ _ s1 s2
  have h1 : Wf s1 := wf_withLedger h
  have h2 : Wf s2 := wf_foldl (fun _ _ k3 => wf_reply k3) _ h1
  exact wf_endWaiting h2

/-! ### MbxOps -/

theorem wf_badWriter {s : State} {p : Party} {detail addr : Nat} (h : Wf s) : Wf (badWriter s p detail addr) := by
  unfold badWriter
  exact wf_log h

theorem wf_badChannel {s : State} {p : Party} {n addr : Nat} (h : Wf s) : Wf (badChannel s p n addr) := by
  unfold badChannel
  exact wf_badWriter (wf_inc h)

theorem wf_mbxDataWrite {s : State} {p : Party} {n k : Nat} {v : Word} {be : BitVec 4} (h : Wf s) :
    Wf (mbxDataWrite s p n k v be) := by
  unfold mbxDataWrite
  extract_lets
  exact wf_ite (wf_badChannel h) (wf_ite (wf_setBit h) (wf_setBit (wf_wr h)))

theorem wf_mbxDecide {s : State} {n : Nat} (h : Wf s) : Wf (mbxDecide s n) := by
  unfold mbxDecide
  extract_lets _ _ _ s1
  have h1 : Wf s1 := wf_setBit (wf_wr h)
  exact wf_ite (wf_mbxPosted h) (wf_log (wf_inc h1))

theorem wf_mbxCtlWrite {s : State} {p : Party} {n : Nat} {v : Word} {be : BitVec 4} (h : Wf s) :
    Wf (mbxCtlWrite s p n v be) := by
  unfold mbxCtlWrite
  extract_lets _ _ s1
  have h1 : Wf s1 := wf_ite (wf_setF h) h
  exact wf_ite (wf_badChannel h) (wf_ite h (wf_ite h1 (wf_ite (wf_setBit h1) (wf_mbxDecide h1))))

theorem wf_mbxUnstall {s : State} {n : Nat} (h : Wf s) : Wf (mbxUnstall s n) := by
  unfold mbxUnstall
  exact wf_foldl (fun _ _ k1 => wf_setBit k1) _ h

theorem wf_mbxTake {s : State} {p : Party} {n : Nat} (h : Wf s) : Wf (mbxTake s p n) := by
  unfold mbxTake
  exact wf_ite (wf_mbxUnstall (wf_setBit h)) h

theorem wf_mbxDone {s : State} {p : Party} {n : Nat} (h : Wf s) : Wf (mbxDone s p n) := by
  unfold mbxDone
  extract_lets s1 s2
  have h1 : Wf s1 := wf_setBit (wf_setBit h)
  have h2 : Wf s2 := wf_mbxInterrupt (wf_mbxUnstall h1)
  refine wf_ite (wf_badChannel h) (wf_ite h ?_)
  split
  · exact wf_postAnswer h2
  · exact h2

theorem wf_mbxWithdraw {s : State} {n cause : Nat} (h : Wf s) : Wf (mbxWithdraw s n cause) := by
  unfold mbxWithdraw
  extract_lets s1
  have h1 : Wf s1 := wf_mbxUnstall (wf_wr (wf_setBit h))
  exact wf_log (wf_setBit h1)

theorem wf_mbxResetOne {s : State} {ids : List Nat} {n : Nat} (h : Wf s) : Wf (mbxResetOne s ids n) := by
  unfold mbxResetOne
  extract_lets _ _ _ s1 s2 s3 s4
  have h1 : Wf s1 := wf_setF h
  have h2 : Wf s2 := wf_wr (wf_setBit h1)
  have h3 : Wf s3 := wf_ite (wf_ite (wf_mbxWithdraw h2) h2) h
  have h4 : Wf s4 := wf_setF h3
  exact wf_ite h (wf_ite (wf_ite (wf_setBit h4) h4) h3)

theorem wf_mbxReset {s : State} {ids : List Nat} (h : Wf s) : Wf (mbxReset s ids) := by
  unfold mbxReset
  extract_lets s1
  have h1 : Wf s1 := wf_foldl (fun _ _ k2 => wf_mbxResetOne k2) _ h
  exact wf_withMbx h1

theorem wf_agentReset {s : State} {a : Fin 4} (h : Wf s) : Wf (agentReset s a) := by
  unfold agentReset
  extract_lets s1
  have h1 : Wf s1 := wf_mbxReset h
  exact wf_withMbx h1

theorem wf_mbxReturned {s : State} {i : Nat} (h : Wf s) : Wf (mbxReturned s i) := by
  unfold mbxReturned
  exact wf_foldl (fun _ _ k1 => wf_mbxInterrupt k1) _ h

theorem wf_agentReturn {s : State} {a : Fin 4} (h : Wf s) : Wf (agentReturn s a) := by
  unfold agentReturn
  extract_lets
  exact wf_ite (wf_mbxReturned (wf_withMbx h)) h

theorem wf_touched {s : State} {p : Party} (h : Wf s) : Wf (touched s p) := by
  unfold touched
  split
  · exact wf_agentReturn h
  · exact h

theorem wf_mbxShutdownDone {s : State} {i : Nat} (h : Wf s) : Wf (mbxShutdownDone s i) := by
  unfold mbxShutdownDone
  extract_lets _ s1
  have h1 : Wf s1 := wf_withMbx h
  exact wf_foldl (fun _ _ k2 => wf_ite (wf_mbxDecide (wf_setBit k2)) k2) _ h1

theorem wf_mbxStall {s : State} {n : Nat} (h : Wf s) : Wf (mbxStall s n) := by
  unfold mbxStall
  split
  · exact wf_ite (wf_log (wf_setBit (wf_setBit h))) h
  · exact h

theorem wf_mbxTxEpoch {s : State} {n : Nat} (h : Wf s) : Wf (mbxTxEpoch s n) := by
  unfold mbxTxEpoch
  exact wf_setF h

theorem wf_mbxRebind {s : State} {n : Nat} {w : Word} (h : Wf s) : Wf (mbxRebind s n w) := by
  unfold mbxRebind
  extract_lets _ s1
  have h1 : Wf s1 := wf_ite (wf_mbxWithdraw (wf_mbxTxEpoch h)) h
  exact wf_wr h1

theorem wf_mbxSignalBoxReset {s : State} (h : Wf s) : Wf (mbxSignalBoxReset s) := by
  unfold mbxSignalBoxReset
  extract_lets s1 s2 s3
  have h1 : Wf s1 := wf_mbxReset h
  have h2 : Wf s2 := wf_foldl (fun _ _ k4 => wf_mbxRebind k4) _ h1
  have h3 : Wf s3 := wf_setBit h2
  exact wf_mbxReturned (wf_withAnswers h3)

theorem wf_mbxLock {s : State} (h : Wf s) : Wf (mbxLock s) := by
  unfold mbxLock
  exact wf_ite h (wf_log (wf_setBit h))

/-! ### HostOps -/

theorem wf_syncOffers {s : State} (h : Wf s) : Wf (syncOffers s) := by
  unfold syncOffers
  exact wf_foldl (fun _ _ k1 => wf_wrBytes k1) _ h

theorem wf_featuresWrite {s : State} {n : Nat} (h : Wf s) : Wf (featuresWrite s n) := by
  unfold featuresWrite
  exact wf_ite h (wf_setBit h)

theorem wf_featureEval {s : State} {n : Nat} (h : Wf s) : Wf (featureEval s n) := by
  unfold featureEval
  extract_lets _ _ s1 s2 s3 s4
  have h1 : Wf s1 := wf_setF (wf_setBit h)
  have h2 : Wf s2 := wf_setBit h1
  have h3 : Wf s3 := wf_ite (wf_syncOffers (wf_setL h2)) h2
  have h4 : Wf s4 := wf_ite (wf_vinLog h3) (wf_vinLog h1)
  exact wf_ite h (wf_stateInt h4)

theorem wf_enableNow {s : State} {n : Nat} (h : Wf s) : Wf (enableNow s n) := by
  unfold enableNow
  exact wf_ite (wf_setVinState (wf_setBit h)) (wf_stateInt (wf_setBit h))

theorem wf_enableWrite {s : State} {n : Nat} (h : Wf s) : Wf (enableWrite s n) := by
  unfold enableWrite
  exact wf_ite (wf_enableNow h) (wf_ite (wf_setBit h) h)

theorem wf_setWindows {s : State} {free : Nat} (h : Wf s) : Wf (setWindows s free) := by
  unfold setWindows
  extract_lets s1
  have h1 : Wf s1 := wf_setBit (wf_setF h)
  exact wf_stateInt h1

theorem wf_setPool {s : State} {vectors slots : Nat} (h : Wf s) : Wf (setPool s vectors slots) := by
  unfold setPool
  exact wf_stateInt (wf_setF (wf_setF h))

theorem wf_createInst {s : State} {n : Nat} {b : List Byte} (h : Wf s) : Wf (createInst s n b) := by
  unfold createInst
  extract_lets _ _ s1 s2 s3 s4 _ s5 s6 s7 s8 s9
  have h1 : Wf s1 := wf_wr h
  have h2 : Wf s2 := wf_ite (wf_wr (wf_wr h1)) h1
  have h3 : Wf s3 := wf_setPool h2
  have h4 : Wf s4 := wf_setInst h3
  have h5 : Wf s5 := wf_wr (wf_wr (wf_wr (wf_wr h4)))
  have h6 : Wf s6 := wf_wr (wf_wr (wf_wr (wf_wr h5)))
  have h7 : Wf s7 := wf_wr h6
  have h8 : Wf s8 := wf_ite (wf_setF h7) h7
  have h9 : Wf s9 := wf_syncOffers (wf_setVinState h8)
  exact wf_vinLog h9

theorem wf_tryCreate {s : State} {q : Option Sender} {w0 n : Nat} {b : List Byte} (h : Wf s) :
    Wf (tryCreate s q w0 n b) := by
  unfold tryCreate
  split
  · exact wf_reply (wf_vinLog h)
  · exact wf_reply (wf_createInst h)

theorem wf_orphanAll {s : State} {n : Nat} (h : Wf s) : Wf (orphanAll s n) := by
  unfold orphanAll
  extract_lets _ s1
  have h1 : Wf s1 := wf_foldl (fun _ _ k2 => wf_setInst k2) _ h
  exact wf_addTo h1

theorem wf_discardInst {s : State} {n : Nat} (h : Wf s) : Wf (discardInst s n) := by
  unfold discardInst
  extract_lets _ _ _ _ _ _ _ _ _ _ _ _ _ s1
  have h1 : Wf s1 := wf_withEnginesAnswersFixLedger h
  exact wf_syncFix (wf_addTo h1)

theorem wf_quiesceCheck {s : State} {n : Nat} (h : Wf s) : Wf (quiesceCheck s n) := by
  unfold quiesceCheck
  extract_lets _ _ s1
  have h1 : Wf s1 := wf_setInst h
  exact wf_ite h (wf_foldl (fun _ _ k2 => wf_answer k2) _ h1)

theorem wf_dirtyEnd {s : State} {n : Nat} (h : Wf s) : Wf (dirtyEnd s n) := by
  unfold dirtyEnd
  extract_lets _ _ s1 s2
  have h1 : Wf s1 := wf_setInst h
  have h2 : Wf s2 := wf_setWindows (wf_setBit h1)
  exact wf_foldl (fun _ _ k3 => wf_answer k3) _ h2

theorem wf_resetBegin {s : State} {n st cause : Nat} (h : Wf s) : Wf (resetBegin s n st cause) := by
  unfold resetBegin
  extract_lets s1 _ s2 s3 s4
  have h1 : Wf s1 := wf_setF h
  have h2 : Wf s2 := wf_setVinState (wf_setInst h1)
  have h3 : Wf s3 := wf_setBit h2
  have h4 : Wf s4 := wf_quiesceCheck (wf_discardInst (wf_ite (wf_orphanAll h3) h3))
  exact wf_ite (wf_dirtyEnd h4) h4

theorem wf_instReset {s : State} {n cause : Nat} {w : Option (Sender × Nat)} (h : Wf s) : Wf (instReset s n cause w) := by
  unfold instReset
  extract_lets s1
  have h1 : Wf s1 := wf_ite h (wf_resetBegin h)
  exact wf_ite h (wf_ite (wf_addTo h1) (wf_setInst h1))

theorem wf_instDestroy {s : State} {n cause : Nat} {w : Option (Sender × Nat)} (h : Wf s) :
    Wf (instDestroy s n cause w) := by
  unfold instDestroy
  extract_lets _ s1
  have h1 : Wf s1 := wf_ite h (wf_ite (wf_setInst h) (wf_resetBegin h))
  exact wf_ite h (wf_setInst h1)

theorem wf_clearIndices {s : State} {n : Nat} (h : Wf s) : Wf (clearIndices s n) := by
  unfold clearIndices
  extract_lets s1 _ s2 s3
  have h1 : Wf s1 := wf_foldl (fun _ _ k4 => wf_wr k4) _ h
  have h2 : Wf s2 := wf_setInst h1
  have h3 : Wf s3 := wf_setBit (wf_setBit (wf_setBit h2))
  exact wf_ite (wf_syncOffers h3) h3

theorem wf_resetEvent {s : State} {n us : Nat} (h : Wf s) : Wf (resetEvent s n us) := by
  unfold resetEvent
  exact wf_vinLog h

theorem wf_destroyEnd {s : State} {n : Nat} (h : Wf s) : Wf (destroyEnd s n) := by
  unfold destroyEnd
  extract_lets _ s1 s2 s3 s4 s5 s6 s7
  have h1 : Wf s1 := wf_setPool h
  have h2 : Wf s2 := wf_ite (wf_setWindows h1) h1
  have h3 : Wf s3 := wf_setInst h2
  have h4 : Wf s4 := wf_foldl (fun _ _ k9 => wf_wr k9) _ h3
  have h5 : Wf s5 := wf_wrBytes h4
  have h6 : Wf s6 := wf_vinLog (wf_setVinState h5)
  have h7 : Wf s7 := wf_foldl (fun _ _ k8 => wf_answer k8) _ h6
  split
  · exact wf_tryCreate h7
  · exact h7

theorem wf_resetDone {s : State} {n us : Nat} (h : Wf s) : Wf (resetDone s n us) := by
  unfold resetDone
  extract_lets _ s1 s2 _ s3 s4 _ s5
  have h1 : Wf s1 := wf_resetEvent (wf_clearIndices h)
  have h2 : Wf s2 := wf_setVinState h1
  have h3 : Wf s3 := wf_setInst h2
  have h4 : Wf s4 := wf_foldl (fun _ _ k6 => wf_answer k6) _ h3
  have h5 : Wf s5 := wf_setInst h4
  refine wf_ite ?_ (wf_ite (wf_destroyEnd (wf_resetEvent (wf_clearIndices h))) h)
  split
  · exact wf_resetBegin (wf_setBit h5)
  · exact wf_ite (wf_enableNow (wf_setBit h4)) h4

theorem wf_doorbell {s : State} {n : Fin 1025} {ring v : Nat} (h : Wf s) : Wf (doorbell s n ring v) := by
  unfold doorbell
  extract_lets s1 _ _ s2
  have h1 : Wf s1 := wf_setF h
  have h2 : Wf s2 := wf_inc (wf_setBit h)
  exact wf_ite h (wf_ite (wf_ite (wf_rspDrain h1) h1) (wf_stateInt (wf_vinLog h2)))

theorem wf_sqEntry {s : State} {n kind : Nat} {w : List Byte} {list block : HostRead} (h : Wf s) :
    Wf (sqEntry s n w list block kind) := by
  unfold sqEntry
  extract_lets _ _ s1 s2
  have h1 : Wf s1 := wf_setF h
  have h2 : Wf s2 := wf_wr h1
  exact wf_ite (wf_inc h2) (wf_submit h2)

theorem wf_sqFetch {s : State} {n kind : Nat} {entry list block : HostRead} (h : Wf s) :
    Wf (sqFetch s n entry list block kind) := by
  unfold sqFetch
  extract_lets
  refine wf_ite h ?_
  split
  · exact wf_ringFails h
  · exact wf_ite (wf_ringFails h) (wf_syncFix (wf_sqEntry h))

theorem wf_cmdFetch {s : State} {n kind : Nat} {entry : HostRead} (h : Wf s) : Wf (cmdFetch s n entry kind) := by
  unfold cmdFetch
  extract_lets
  exact wf_ite h (wf_ite (wf_ringFails h) (wf_setF h))

theorem wf_cqPost {s : State} {n : Nat} (h : Wf s) : Wf (cqPost s n) := by
  unfold cqPost
  extract_lets
  split
  · exact h
  · extract_lets s1 s2 _ s3
    have h1 : Wf s1 := wf_withFix h
    have h2 : Wf s2 := wf_issueWrite h1
    have h3 : Wf s3 := wf_setInst (wf_setF h2)
    exact wf_ite h (wf_ite (wf_ringFails h) (wf_ite (wf_dirtyFull h) (wf_quiesceCheck (wf_intPosted (wf_inc h3)))))

theorem wf_dirtyDrain {s : State} {n : Fin 1025} (h : Wf s) : Wf (dirtyDrain s n) := by
  unfold dirtyDrain
  extract_lets s1 s2
  have h1 : Wf s1 := wf_drainBlocked h
  have h2 : Wf s2 := wf_ite (wf_dirtyEnd h1) h1
  exact wf_rspDrain h2

theorem wf_dirtyDb {s : State} {n : Fin 1025} {head : Nat} (h : Wf s) : Wf (dirtyDb s n head) := by
  unfold dirtyDb
  extract_lets _ _ _ s1
  have h1 : Wf s1 := wf_inc (wf_setBit h)
  split
  · exact h
  · extract_lets _ s2
    have h2 : Wf s2 := wf_setInst h
    exact wf_ite (wf_dirtyDrain (wf_setF h2)) (wf_stateInt (wf_vinLog h1))

theorem wf_ledgerLost {s : State} (h : Wf s) : Wf (ledgerLost s) := by
  unfold ledgerLost
  extract_lets _ _ _ s1 s2 s3
  have h1 : Wf s1 := wf_withLedger h
  have h2 : Wf s2 := wf_foldl (fun _ _ k5 => wf_reply k5) _ h1
  have h3 : Wf s3 := by
    refine wf_foldl (fun _ _ k4 => ?_) _ h2
    split
    · exact wf_reply k4
    · exact wf_reply k4
    · exact wf_reply k4
    · exact wf_reply k4
    · exact k4
  exact wf_ite h (wf_endWaiting (wf_closeLedger h3))

theorem wf_pf0Reset {s : State} (h : Wf s) : Wf (pf0Reset s) := by
  unfold pf0Reset
  extract_lets s1 s2 s3 s4 s5
  have h1 : Wf s1 := wf_ledgerLost h
  have h2 : Wf s2 := wf_foldl (fun _ _ k6 => wf_instDestroy k6) _ h1
  have h3 : Wf s3 := wf_instReset h2
  have h4 : Wf s4 := wf_setBit (wf_setBit h3)
  have h5 : Wf s5 := wf_setL h4
  exact wf_withHost h5

theorem wf_hostVote {s : State} (h : Wf s) : Wf (hostVote s) := by
  unfold hostVote
  exact wf_setBit h

theorem wf_linkDown {s : State} {cause : Nat} (h : Wf s) : Wf (linkDown s cause) := by
  unfold linkDown
  extract_lets s1
  have h1 : Wf s1 := wf_setF h
  exact wf_stateInt (wf_log h1)

end Sys2Proof.Machine
end

section
/-! O5: what keeps the canonical form: attestation and the Interlocking's commits. -/

namespace Sys2Proof.Machine

/-! ### AttOps -/

theorem wf_mldsaDraw {s : State} {key m : List Byte} {n : Nat} (h : Wf s) : Wf (mldsaDraw s key m n).2 := by
  unfold mldsaDraw
  extract_lets
  dsimp only
  exact wf_withFreeCtr h

theorem wf_signAliases {s : State} {cdi seed : List Byte} (h : Wf s) : Wf (signAliases s cdi seed) := by
  unfold signAliases
  extract_lets _ _ s1 s2 s3
  have h1 : Wf s1.2 := wf_ecdsaDraw h
  have h2 : Wf s2.2 := wf_mldsaDraw h1
  have h3 : Wf s3 := h2
  exact wf_withAtt h3

theorem wf_copyStaged {s : State} (h : Wf s) : Wf (copyStaged s) := by
  unfold copyStaged
  extract_lets s1
  have h1 : Wf s1 := wf_wipeMem h
  split
  · exact h
  · exact wf_wrMemN (wf_withLcs h1)

theorem wf_romIdentity {s : State} (h : Wf s) : Wf (romIdentity s) := by
  unfold romIdentity
  extract_lets s1 _ _ s2 s3 _ s4
  have h1 : Wf s1 := wf_copyStaged h
  have h2 : Wf s2 := wf_setSigKey (wf_setSigKey h1)
  have h3 : Wf s3 := wf_foldl (fun _ _ k5 => wf_setSigKey k5) _ h2
  have h4 : Wf s4 := wf_setBit h3
  exact wf_ite (wf_signAliases h4) (wf_attLog (wf_withAtt h4))

theorem wf_mapCtx {s : State} {t e : Nat} {f : AttCtx → AttCtx} (h : Wf s) : Wf (mapCtx s t e f) := by
  unfold mapCtx
  extract_lets
  exact wf_withAtt h

theorem wf_dropCtx {s : State} {c : AttCtx} (h : Wf s) : Wf (dropCtx s c) := by
  unfold dropCtx
  extract_lets
  exact wf_syncAtt (wf_withAtt h)

theorem wf_takeCtx {s : State} {t e : Nat} (h : Wf s) : Wf (takeCtx s t e) := by
  unfold takeCtx
  extract_lets s1
  have h1 : Wf s1 := by
    refine wf_ite h ?_
    split
    · exact wf_dropCtx h
    · exact h
  exact wf_ite h (wf_ite (wf_syncAtt (wf_withAtt h1)) h1)

theorem wf_attSend {s : State} {t e code : Nat} {ses : Option Nat} {data : List Byte} (h : Wf s) :
    Wf (attSend s t e ses code data) := by
  unfold attSend
  extract_lets
  exact wf_withAtt h

theorem wf_attError {s : State} {t e err data : Nat} {ses : Option Nat} (h : Wf s) : Wf (attError s t e ses err data) := by
  unfold attError
  exact wf_inc (wf_attSend h)

theorem wf_attDrop {s : State} {t e case' len : Nat} {reply : Bool} {ses : Option Nat} (h : Wf s) :
    Wf (attDrop s t e case' len reply ses) := by
  unfold attDrop
  extract_lets s1
  have h1 : Wf s1 := wf_fwLog (wf_inc h)
  exact wf_ite (wf_attError h1) h1

theorem wf_respond' {s : State} {t e req code us : Nat} {ses : Option Nat} {data : List Byte} {signed : Bool} (h : Wf s) :
    Wf (respond' s t e ses req code data signed us) := by
  unfold respond'
  extract_lets _ s1
  have h1 : Wf s1 := wf_attSend h
  exact wf_ite (wf_attError h) (wf_ite (wf_attError (wf_mapCtx h)) (wf_ite (wf_fwLog (wf_inc h1)) h1))

theorem wf_respondNoted {note : AttCtx → List Byte → AttCtx} {s : State} {t e code us : Nat} {ses : Option Nat}
    {msg data : List Byte} (h : Wf s) :
    Wf (respondNoted note s t e ses msg code data us) := by
  unfold respondNoted
  exact wf_respond' (wf_mapCtx h)

theorem wf_touchCtx {s : State} {t e : Nat} (h : Wf s) : Wf (touchCtx s t e) := by
  unfold touchCtx
  exact wf_mapCtx h

theorem wf_spdm {s : State} {t e want : Nat} {ses : Option Nat} {msg : List Byte} {f : State → AttCtx → State}
    (hs : Wf s) (hf : ∀ y0 y1, Wf y0 → Wf (f y0 y1)) :
    Wf (spdm s t e ses msg want f) := by
  unfold spdm
  extract_lets s1
  have h1 : Wf s1 := wf_inc hs
  refine wf_ite hs (wf_ite (wf_attDrop h1) (wf_ite (wf_attDrop h1) (wf_ite (wf_attDrop h1) ?_)))
  split
  · exact wf_attError h1
  · exact hf _ _ (wf_touchCtx h1)

theorem wf_aliasSign {s : State} {dig : List Byte} (h : Wf s) : Wf (aliasSign s dig).2 := by
  unfold aliasSign
  exact wf_ecdsaDraw h

theorem wf_spdmSign {s : State} {v : Nat} {label : String} {m : List Byte} (h : Wf s) : Wf (spdmSign s v label m).2 := by
  unfold spdmSign
  exact wf_aliasSign h

theorem wf_aliasMldsa {s : State} {m : List Byte} (h : Wf s) : Wf (aliasMldsa s m).2 := by
  unfold aliasMldsa
  exact wf_mldsaDraw h

theorem wf_attRandom {s : State} {n : Nat} (h : Wf s) : Wf (attRandom s n).2 := by
  unfold attRandom
  exact wf_drawRandom h

theorem wf_getVersion {s : State} {t e us : Nat} {msg : List Byte} (h : Wf s) : Wf (getVersion s t e msg us) := by
  unfold getVersion
  extract_lets s1 s2
  have h1 : Wf s1 := wf_takeCtx (wf_inc h)
  have h2 : Wf s2 := wf_mapCtx h1
  exact wf_ite h (wf_ite (wf_attDrop (wf_inc h)) (wf_ite (wf_attDrop (wf_inc h)) (wf_ite h2 (wf_respondNoted h2))))

theorem wf_getCapabilities {s : State} {t e us : Nat} {ses : Option Nat} {msg : List Byte} (h : Wf s) :
    Wf (getCapabilities s t e ses msg us) := by
  unfold getCapabilities
  exact wf_spdm h (fun _ _ k1 => wf_ite (wf_attError k1) (wf_respondNoted (wf_mapCtx k1)))

theorem wf_negotiateAlgorithms {s : State} {t e us : Nat} {ses : Option Nat} {msg : List Byte} {supported : Bool}
    (h : Wf s) :
    Wf (negotiateAlgorithms s t e ses msg supported us) := by
  unfold negotiateAlgorithms
  extract_lets
  exact wf_spdm h (fun _ _ k1 => wf_ite (wf_attError k1) (wf_respondNoted (wf_mapCtx k1)))

theorem wf_needAlgs {s : State} {t e : Nat} {ses : Option Nat} {c : AttCtx} {f : State → State}
    (hs : Wf s) (hf : ∀ y0, Wf y0 → Wf (f y0)) :
    Wf (needAlgs s t e ses c f) := by
  unfold needAlgs
  split
  · exact wf_attError hs
  · exact wf_attError hs
  · exact hf _ hs

theorem wf_getDigests {s : State} {t e us : Nat} {ses : Option Nat} {msg : List Byte} (h : Wf s) :
    Wf (getDigests s t e ses msg us) := by
  unfold getDigests
  exact wf_spdm h (fun _ _ k1 => wf_needAlgs k1 (fun _ k2 => wf_ite (wf_attError k2) (wf_respondNoted k2)))

theorem wf_getCertificate {s : State} {t e us : Nat} {ses : Option Nat} {msg : List Byte} (h : Wf s) :
    Wf (getCertificate s t e ses msg us) := by
  unfold getCertificate
  extract_lets
  exact wf_spdm h (fun _ _ k1 => wf_needAlgs k1 (fun _ k2 => wf_ite (wf_attError k2) (wf_ite (wf_attError k2)
      (wf_respondNoted k2))))

theorem wf_getMeasurements {s : State} {t e us : Nat} {ses : Option Nat} {msg : List Byte} (h : Wf s) :
    Wf (getMeasurements s t e ses msg us) := by
  unfold getMeasurements
  extract_lets
  refine wf_spdm h (fun s c hs => ?_)
  extract_lets _ _ body
  have hb {x : State} (hx : Wf x) : Wf (body x).2 := by
    have h0 : Wf (attRandom x 32).2 := wf_attRandom hx
    unfold body
    dsimp only
    split
    · dsimp only
      exact wf_spdmSign h0
    · exact h0
  exact wf_ite (wf_attError hs) (wf_ite (wf_needAlgs hs (fun _ hx => wf_respond' (wf_mapCtx (hb hx)))) (wf_respondNoted
      (hb hs)))

theorem wf_challenge {s : State} {t e us : Nat} {ses : Option Nat} {msg : List Byte} (h : Wf s) :
    Wf (challenge s t e ses msg us) := by
  unfold challenge
  extract_lets
  exact wf_spdm h (fun _ _ k1 => wf_needAlgs k1 (fun _ k2 => wf_ite (wf_attError k2) (wf_ite (wf_attError k2)
      (wf_respond' (wf_mapCtx (wf_spdmSign (wf_attRandom k2)))))))

theorem wf_putSecrets {s : State} {base v : Nat} {req rsp : List Byte} (h : Wf s) : Wf (putSecrets s base v req rsp) := by
  unfold putSecrets
  extract_lets s1
  have h1 : Wf s1 := wf_setSigKey (wf_setSigKey h)
  exact wf_setSigKey (wf_setSigKey h1)

theorem wf_keyExchange {s : State} {t e us : Nat} {ses : Option Nat} {msg : List Byte} (h : Wf s) :
    Wf (keyExchange s t e ses msg us) := by
  unfold keyExchange
  extract_lets
  refine wf_spdm h (fun _ _ k1 => wf_needAlgs k1 (fun _ k2 => wf_ite (wf_attError k2) (wf_ite (wf_attError k2) (wf_ite
      (wf_attError k2) (wf_ite (wf_attError k2) ?_)))))
  extract_lets s3 _ _ s4 _ _ _ s5 _ s6
  have h3 : Wf s3.2 := wf_attRandom k2
  have h4 : Wf s4.2 := wf_drawRandom h3
  have h5 : Wf s5.2 := wf_spdmSign h4
  have h6 : Wf s6 := h5
  split
  · exact wf_attError k2
  · extract_lets _ _ _ _ s7 s8
    have h7 : Wf s7 := wf_syncAtt (wf_withAtt h6)
    have h8 : Wf s8 := wf_putSecrets (wf_setSigKey h7)
    exact wf_respond' h8

theorem wf_endSession {s : State} {id cause : Nat} (h : Wf s) : Wf (endSession s id cause) := by
  unfold endSession
  split
  · exact h
  · extract_lets s1
    have h1 : Wf s1 := wf_foldl (fun _ _ k2 => wf_setSigKey k2) _ h
    exact wf_closeSessions h1

theorem wf_finish {s : State} {t e us : Nat} {ses : Option Nat} {msg : List Byte} (h : Wf s) :
    Wf (finish s t e ses msg us) := by
  unfold finish
  extract_lets
  refine wf_spdm h (fun _ _ k1 => ?_)
  extract_lets
  split
  · exact wf_attError k1
  · extract_lets _ _ _ s2 _ _ s3 s4
    have h2 : Wf s2 := wf_withAtt k1
    have h3 : Wf s3 := wf_putSecrets (wf_setSigKey h2)
    have h4 : Wf s4 := wf_attLog (wf_syncAtt h3)
    exact wf_ite (wf_attError k1) (wf_ite (wf_endSession (wf_attError k1)) (wf_respond' h4))

theorem wf_heartbeat {s : State} {t e us : Nat} {ses : Option Nat} {msg : List Byte} (h : Wf s) :
    Wf (heartbeat s t e ses msg us) := by
  unfold heartbeat
  refine wf_spdm h (fun _ _ k1 => ?_)
  split
  · exact wf_ite (wf_respond' k1) (wf_attError k1)
  · exact wf_attError k1

theorem wf_endSessionReq {s : State} {t e us : Nat} {ses : Option Nat} {msg : List Byte} (h : Wf s) :
    Wf (endSessionReq s t e ses msg us) := by
  unfold endSessionReq
  refine wf_spdm h (fun _ _ k1 => ?_)
  split
  · exact wf_endSession (wf_respond' k1)
  · exact wf_attError k1

theorem wf_respondIfReady {s : State} {t e us : Nat} {ses : Option Nat} {msg : List Byte} (h : Wf s) :
    Wf (respondIfReady s t e ses msg us) := by
  unfold respondIfReady
  refine wf_spdm h (fun _ _ k1 => ?_)
  split
  · exact wf_respond' (wf_mapCtx k1)
  · exact wf_ite (wf_attError k1) (wf_attError k1)

theorem wf_securedMessage {s : State} {t e id declared : Nat} {cipher : List Byte} (h : Wf s) :
    Wf (securedMessage s t e id declared cipher) := by
  unfold securedMessage
  extract_lets s1
  have h1 : Wf s1 := wf_inc h
  split
  · exact wf_attDrop h1
  · extract_lets
    exact wf_ite (wf_endSession (wf_attDrop h1)) (wf_mapCtx (wf_withAtt h1))

theorem wf_vendor {s : State} {t e want feature : Nat} {ses : Option Nat} {msg : List Byte}
    {f : State → AttCtx → List Byte → State} (hs : Wf s) (hf : ∀ y0 y1 y2, Wf y0 → Wf (f y0 y1 y2)) :
    Wf (vendor s t e ses msg want feature f) := by
  unfold vendor
  extract_lets s1
  have h1 : Wf s1 := wf_inc hs
  refine wf_ite hs (wf_ite (wf_attDrop h1) (wf_ite (wf_attDrop h1) (wf_ite (wf_attDrop h1) ?_)))
  split
  · exact wf_attError h1
  · exact wf_ite (wf_attError h1) (hf _ _ _ (wf_touchCtx h1))

theorem wf_putObject {s : State} {t e : Nat} {upload : Bool} {bytes : List Byte} (h : Wf s) :
    Wf (putObject s t e upload bytes).1 := by
  unfold putObject
  extract_lets
  dsimp only
  exact wf_syncAtt (wf_withAtt h)

theorem wf_signObject {s : State} {kind sigs : Nat} {body : List Byte} (h : Wf s) : Wf (signObject s kind body sigs).2 := by
  unfold signObject
  extract_lets _ _ _ _ s1 s2 s3 s4
  have h1 : Wf s1.2 := wf_aliasSign h
  have h2 : Wf s2.2 := by
    unfold s2
    split
    · dsimp only
      exact h1
    · dsimp only
      exact h
  have h3 : Wf s3.2 := wf_aliasMldsa h2
  have h4 : Wf s4.2 := by
    unfold s4
    split
    · dsimp only
      exact h3
    · dsimp only
      exact h2
  dsimp only
  exact h4

theorem wf_vendorStatus {s : State} {t e op status handle us : Nat} {ses : Option Nat} (h : Wf s) :
    Wf (vendorStatus s t e ses op status handle us) := by
  unfold vendorStatus
  exact wf_respond' h

theorem wf_getPqcChain {s : State} {t e us : Nat} {ses : Option Nat} {msg : List Byte} (h : Wf s) :
    Wf (getPqcChain s t e ses msg us) := by
  unfold getPqcChain
  exact wf_vendor h (fun _ _ _ k1 => wf_ite (wf_attError k1) (wf_ite (wf_vendorStatus k1) (wf_respond' k1)))

theorem wf_prepareObject {s : State} {t e op kind sigs us : Nat} {ses : Option Nat} {body : List Byte} (h : Wf s) :
    Wf (prepareObject s t e ses op kind body sigs us) := by
  unfold prepareObject
  extract_lets s1 s2
  have h1 : Wf s1.2 := wf_signObject h
  have h2 : Wf s2.1 := wf_putObject h1
  exact wf_ite (wf_vendorStatus h) (wf_respond' h2)

theorem wf_pqcAttest {s : State} {t e us : Nat} {ses : Option Nat} {msg : List Byte} (h : Wf s) :
    Wf (pqcAttest s t e ses msg us) := by
  unfold pqcAttest
  exact wf_vendor h (fun _ _ _ k1 => wf_ite (wf_vendorStatus k1) (wf_prepareObject (wf_attRandom k1)))

theorem wf_getReport {s : State} {t e us : Nat} {ses : Option Nat} {msg : List Byte} (h : Wf s) :
    Wf (getReport s t e ses msg us) := by
  unfold getReport
  refine wf_vendor h (fun _ _ _ k1 => ?_)
  split
  · exact wf_vendorStatus k1
  · exact wf_prepareObject k1

theorem wf_putObjectReq {s : State} {t e us : Nat} {ses : Option Nat} {msg : List Byte} (h : Wf s) :
    Wf (putObjectReq s t e ses msg us) := by
  unfold putObjectReq
  refine wf_vendor h (fun _ _ _ k1 => wf_ite (wf_vendorStatus k1) (wf_ite (wf_ite (wf_vendorStatus k1) (wf_ite
      (wf_vendorStatus k1) (wf_vendorStatus (wf_putObject k1)))) ?_))
  extract_lets _ s2
  have h2 : Wf s2 := wf_withAtt k1
  split
  · exact wf_vendorStatus k1
  · exact wf_ite (wf_vendorStatus k1) (wf_vendorStatus h2)

theorem wf_getObject {s : State} {t e us : Nat} {ses : Option Nat} {msg : List Byte} (h : Wf s) :
    Wf (getObject s t e ses msg us) := by
  unfold getObject
  refine wf_vendor h (fun _ _ _ hs => ?_)
  extract_lets _ o
  cases o with
  | none => exact wf_vendorStatus hs
  | some b => exact wf_ite (wf_vendorStatus hs) (wf_respond' hs)

theorem wf_freeObject {s : State} {h : Nat} (hs : Wf s) : Wf (freeObject s h) := by
  unfold freeObject
  extract_lets
  exact wf_syncAtt (wf_withAtt hs)

theorem wf_releaseObject {s : State} {t e us : Nat} {ses : Option Nat} {msg : List Byte} (h : Wf s) :
    Wf (releaseObject s t e ses msg us) := by
  unfold releaseObject
  refine wf_vendor h (fun _ _ _ k1 => ?_)
  split
  · exact wf_vendorStatus k1
  · exact wf_vendorStatus (wf_freeObject k1)

theorem wf_vendorReady {s : State} {t e op status handle total : Nat} (h : Wf s) :
    Wf (vendorReady s t e op status handle total) := by
  unfold vendorReady
  exact wf_mapCtx h

theorem wf_exportFinish {s : State} (h : Wf s) : Wf (exportFinish s) := by
  unfold exportFinish
  extract_lets _ s1 s2 s3
  have h1 : Wf s1 := wf_withAtt h
  have h2 : Wf s2 := wf_ite (wf_setLdgState h1) h1
  have h3 : Wf s3.2 := wf_signObject h2
  split
  · exact h
  · extract_lets s4 s5
    have h4 : Wf s4 := wf_attLog h3
    have h5 : Wf s5.1 := wf_putObject h4
    exact wf_vendorReady h5

theorem wf_exportRefused {s : State} (h : Wf s) : Wf (exportRefused s) := by
  unfold exportRefused
  extract_lets
  split
  · exact h
  · extract_lets s1
    have h1 : Wf s1 := wf_attLog (wf_withAtt h)
    exact wf_vendorReady h1

theorem wf_custodyExport {s : State} {t e us : Nat} {ses : Option Nat} {msg : List Byte} (h : Wf s) :
    Wf (custodyExport s t e ses msg us) := by
  unfold custodyExport
  exact wf_vendor h (fun _ _ _ k1 => wf_ite (wf_vendorStatus k1) (wf_ite (wf_vendorStatus k1) (wf_ite
      (wf_vendorStatus k1) (wf_ite (wf_epochBegin (wf_attError (wf_withAtt (wf_evrFlush k1)))) (wf_exportFinish
      (wf_attError (wf_withAtt (wf_evrFlush k1))))))))

theorem wf_custodyImport {s : State} {t e us : Nat} {ses : Option Nat} {msg : List Byte} (h : Wf s) :
    Wf (custodyImport s t e ses msg us) := by
  unfold custodyImport
  refine wf_vendor h (fun _ _ _ k1 => wf_ite (wf_vendorStatus k1) ?_)
  extract_lets
  split
  · exact wf_vendorStatus k1
  · refine wf_ite (wf_vendorStatus k1) ?_
    split
    · exact wf_vendorReady (wf_attLog (wf_attError k1))
    · exact wf_attError (wf_withAtt k1)

theorem wf_importFinish {s : State} (h : Wf s) : Wf (importFinish s) := by
  unfold importFinish
  extract_lets _ s1
  have h1 : Wf s1 := wf_withAtt h
  split
  · exact h
  · split
    · exact h1
    · extract_lets s2 s3 _ s4 s5 s6 s7
      have h2 : Wf s2.2 := wf_signObject h1
      have h3 : Wf s3 := h2
      have h4 : Wf s4 := wf_withAtt h3
      have h5 : Wf s5 := wf_wrMemN h4
      have h6 : Wf s6 := wf_attLog h5
      have h7 : Wf s7.1 := wf_putObject h6
      exact wf_vendorReady h7

theorem wf_mregGo {s : State} {c : Fin 2} (h : Wf s) : Wf (mregGo s c) := by
  unfold mregGo
  extract_lets
  exact wf_ite (wf_attLog (wf_setBit h)) (wf_setBit (wf_withAtt h))

theorem wf_mregDone {s : State} (h : Wf s) : Wf (mregDone s) := by
  unfold mregDone
  extract_lets
  split
  · exact h
  · extract_lets s1
    have h1 : Wf s1 := wf_mregExtend (wf_withAtt h)
    exact wf_attLog (wf_setBit (wf_setBit h1))

theorem wf_mctpAnswer {s : State} {t src cmd : Nat} {data : List Byte} (h : Wf s) : Wf (mctpAnswer s t src cmd data) := by
  unfold mctpAnswer
  exact wf_attSend h

theorem wf_setEid {s : State} {t src eid : Nat} (h : Wf s) : Wf (setEid s t src eid) := by
  unfold setEid
  extract_lets
  exact wf_ite h (wf_ite (wf_mctpAnswer h) (wf_mctpAnswer (wf_withAtt h)))

theorem wf_mctpPacket {s : State} {t src tag seq : Nat} {sof eof : Bool} {bytes : List Byte} (h : Wf s) :
    Wf (mctpPacket s t src tag seq sof eof bytes) := by
  unfold mctpPacket
  extract_lets _ cur _ s1 s2
  have h1 : Wf s1 := wf_withAtt h
  have h2 : Wf s2 := wf_ite (wf_attDrop h1) h1
  refine wf_ite h (wf_ite (wf_ite h2 (wf_ite (wf_attDrop h2) (wf_withAtt h2))) ?_)
  cases hcur : cur with
  | none => exact wf_attDrop h
  | some x => exact wf_ite (wf_attDrop h1) (wf_ite (wf_attDrop h1) (wf_ite h1 (wf_withAtt h)))

theorem wf_setDsVal {s : State} {d : Nat} {v : List Byte} (h : Wf s) : Wf (setDsVal s d v) := by
  unfold setDsVal
  extract_lets
  exact wf_withAtt h

theorem wf_dropRefresh {s : State} {d : Nat} (h : Wf s) : Wf (dropRefresh s d) := by
  unfold dropRefresh
  extract_lets
  exact wf_withAtt h

theorem wf_dsSend {s : State} {d step : Nat} (h : Wf s) : Wf (dsSend s d step) := by
  unfold dsSend
  extract_lets s1 _ _ s2
  have h1 : Wf s1.2 := wf_attRandom h
  have h2 : Wf s2 := h1
  split
  · exact h
  · extract_lets
    exact wf_ite (wf_attSend (wf_withAtt h2)) (wf_attSend h)

theorem wf_refreshBegin {s : State} {d : Nat} {q : Option (Sender × Nat)} (h : Wf s) : Wf (refreshBegin s d q) := by
  unfold refreshBegin
  extract_lets _ s1
  have h1 : Wf s1 := wf_withAtt h
  exact wf_dsSend (wf_setF h1)

theorem wf_refreshAnswer {s : State} {d status : Nat} (h : Wf s) : Wf (refreshAnswer s d status) := by
  unfold refreshAnswer
  split
  · exact wf_answer h
  · exact h

theorem wf_refreshOk {s : State} {d : Nat} {response : List Byte} (h : Wf s) : Wf (refreshOk s d response) := by
  unfold refreshOk
  extract_lets _ s1
  have h1 : Wf s1 := wf_wr (wf_setDsVal (wf_refreshAnswer h))
  exact wf_attLog (wf_dropRefresh h1)

theorem wf_refreshFail {s : State} {d step err : Nat} (h : Wf s) : Wf (refreshFail s d step err) := by
  unfold refreshFail
  extract_lets s1 s2
  have h1 : Wf s1 := wf_setDsVal (wf_refreshAnswer h)
  have h2 : Wf s2 := wf_inc (wf_setF h1)
  exact wf_attLog (wf_dropRefresh h2)

theorem wf_dsHeldAgain {s : State} {c : Nat} (h : Wf s) : Wf (dsHeldAgain s c) := by
  unfold dsHeldAgain
  exact wf_foldl (fun _ _ k1 => wf_setF (wf_setDsVal (wf_dropRefresh (wf_refreshAnswer k1)))) _ h

theorem wf_compChanges {s0 s : State} (hs : Wf s) : Wf (compChanges s0 s) := by
  unfold compChanges
  exact wf_foldl (fun _ _ k1 => wf_ite (wf_foldl (fun _ _ k2 => wf_refreshBegin k2) _ k1) (wf_ite
      (wf_dsHeldAgain k1) k1)) _ hs

/-! ### IlkCommit -/

theorem wf_setFence {s : State} {n f base pages : Nat} {en : Bool} (h : Wf s) : Wf (setFence s n f base pages en) := by
  unfold setFence
  extract_lets s1
  have h1 : Wf s1 := wf_fwL h
  exact wf_fwL h1

theorem wf_fenceSlot {s : State} {e : CompEntry} {x : Nat} {en : Bool} (h : Wf s) : Wf (fenceSlot s e x en) := by
  unfold fenceSlot
  refine wf_foldl (fun _ _ k1 => wf_foldl (fun _ _ k2 => ?_) _ k1) _ h
  split
  · exact wf_ite (wf_setFence k2) (wf_fwL k2)
  · exact k2

theorem wf_freeBank {s : State} {n b : Nat} (h : Wf s) : Wf (freeBank s n b) := by
  unfold freeBank
  exact wf_foldl (fun _ _ k1 => wf_ite (wf_extRefused k1) (wf_moveExt k1)) _ h

theorem wf_sidingEvents {s : State} {c : Nat} {old new : List Byte} (h : Wf s) : Wf (sidingEvents s c old new) := by
  unfold sidingEvents
  exact wf_foldl (fun _ _ k1 => wf_ite k1 (wf_ite (wf_fwLog k1) (wf_fwLog k1))) _ h

theorem wf_updAnswer {s : State} {c status : Nat} {result : List Byte} (h : Wf s) : Wf (updAnswer s c status result) := by
  unfold updAnswer
  extract_lets _ _ s1
  have h1 : Wf s1 := wf_withUpd h
  exact wf_foldl (fun _ _ k2 => wf_answer k2) _ h1

theorem wf_updClose {s : State} {c step : Nat} (h : Wf s) : Wf (updClose s c step) := by
  unfold updClose
  exact wf_ite (wf_fwL (wf_fwL h)) h

theorem wf_activeMd {s : State} {rec : List Byte} (h : Wf s) : Wf (activeMd s rec).2 := by
  unfold activeMd
  split
  · dsimp only
    exact h
  · split
    · dsimp only
      exact h
    · exact wf_freeBytes h

theorem wf_activeSvn {s : State} {rec : List Byte} (h : Wf s) : Wf (activeSvn s rec).2 := by
  unfold activeSvn
  split
  · dsimp only
    exact h
  · split
    · dsimp only
      exact h
    · exact wf_freeBytes h

theorem wf_fwExtend {s : State} {m : Nat} {v : List Byte} (h : Wf s) : Wf (fwExtend s m v) := by
  unfold fwExtend
  exact wf_attLog (wf_mregExtend h)

theorem wf_extendReady {s : State} (h : Wf s) : Wf (extendReady s) := by
  unfold extendReady
  refine wf_foldl (fun _ _ k1 => ?_) _ h
  extract_lets
  split
  · exact k1
  · exact wf_ite (wf_fwExtend (wf_withUpd k1)) k1

theorem wf_measureSlot {s : State} {c x : Nat} {svn md : List Byte} (h : Wf s) : Wf (measureSlot s c x svn md) := by
  unfold measureSlot
  extract_lets
  exact wf_extendReady (wf_withUpd h)

theorem wf_measureComp {s : State} {c : Nat} {rec svn md : List Byte} (h : Wf s) : Wf (measureComp s c rec svn md) := by
  unfold measureComp
  exact wf_measureSlot h

theorem wf_heldNoSlot {s : State} {c reason : Nat} (h : Wf s) : Wf (heldNoSlot s c reason) := by
  unfold heldNoSlot
  exact wf_measureSlot (wf_heldFail h)

theorem wf_accepted {s : State} {c : Nat} {rec : List Byte} (h : Wf s) : Wf (accepted s c rec) := by
  unfold accepted
  extract_lets s1 s2 s3 s4 s5
  have h1 : Wf s1.2 := wf_activeSvn h
  have h2 : Wf s2.2 := wf_activeMd h1
  have h3 : Wf s3 := wf_fwLog h2
  have h4 : Wf s4 := wf_ite (wf_setCompState h3) (wf_ite h3 (wf_setCompState h3))
  have h5 : Wf s5 := wf_mapFw h4
  exact wf_holdPrereq (wf_measureComp (wf_fwL h5))

theorem wf_switched {s : State} {c : Nat} {old new : List Byte} (h : Wf s) : Wf (switched s c old new) := by
  unfold switched
  extract_lets s1 s2 s3 s4 s5 s6 s7
  have h1 : Wf s1.2 := by
    unfold s1
    split
    · dsimp only
      exact h
    · exact wf_freeBytes h
  have h2 : Wf s2 := wf_fwLog h1
  have h3 : Wf s3 := wf_mapFw h2
  have h4 : Wf s4 := wf_unholdPrereq (wf_fwL (wf_markReleased h3))
  have h5 : Wf s5 := wf_measureComp h4
  have h6 : Wf s6 := wf_updClose h5
  have h7 : Wf s7 := by
    unfold s7
    split
    · exact wf_ite (wf_fenceSlot h6) h6
    · exact h6
  exact wf_updAnswer h7

theorem wf_confirmed {s : State} {c : Nat} {new : List Byte} (h : Wf s) : Wf (confirmed s c new) := by
  unfold confirmed
  extract_lets s1
  have h1 : Wf s1 := wf_fwLog h
  split
  · exact h1
  · extract_lets s2
    have h2 : Wf s2 := wf_foldl (fun _ _ k3 => wf_freeBank k3) _ h1
    exact wf_fenceSlot h2

theorem wf_reverted {s : State} {c : Nat} {old : List Byte} {rs : List ActRec} (h : Wf s) : Wf (reverted s c old rs) := by
  unfold reverted
  extract_lets _ _ _ s1 s2 s3 s4
  have h1 : Wf s1 := wf_fwLog h
  have h2 : Wf s2 := wf_fwL (wf_setCompState h1)
  have h3 : Wf s3 := wf_mapFw h2
  have h4 : Wf s4 := wf_ite h1 (wf_ite (wf_mapFw h3) h3)
  split
  · exact wf_fenceSlot h4
  · exact h4

theorem wf_rtbDone {s : State} {rs : List ActRec} {c : Nat} {old : List Byte} (h : Wf s) : Wf (rtbDone s rs c old) := by
  unfold rtbDone
  extract_lets _ _ _ s1
  have h1 : Wf s1 := wf_ite (wf_reverted h) (wf_ite (wf_accepted h) (wf_ite (wf_switched h) (wf_ite (wf_confirmed h) h)))
  exact wf_sidingEvents h1

theorem wf_updateFailed {s : State} {c : Nat} (h : Wf s) : Wf (updateFailed s c) := by
  unfold updateFailed
  extract_lets s1 s2 s3
  have h1 : Wf s1.2 := by
    unfold s1
    split
    · dsimp only
      exact h
    · exact wf_freeBytes h
  have h2 : Wf s2 := wf_fwLog h1
  have h3 : Wf s3 := wf_updAnswer (wf_updClose (wf_unholdPrereq (wf_markReleased h2)))
  exact wf_mapFw h3

theorem wf_recovered {s : State} {c : Nat} (h : Wf s) : Wf (recovered s c) := by
  unfold recovered
  extract_lets s1 s2
  have h1 : Wf s1 := wf_fwL (wf_fwL h)
  have h2 : Wf s2 := wf_fwLog h1
  exact wf_ite (wf_updAnswer h2) h

theorem wf_recoveryFail {s : State} {status cause : Nat} (h : Wf s) : Wf (recoveryFail s status cause) := by
  unfold recoveryFail
  exact wf_ite (wf_holdDependants (wf_updAnswer (wf_withUpd (wf_mapFw (wf_fwLog (wf_setCompState (wf_fwL (wf_fwL h)))))))) h

theorem wf_releasedGroup {s : State} {es : List CompEntry} (h : Wf s) : Wf (releasedGroup s es) := by
  unfold releasedGroup
  split
  · exact h
  · extract_lets s1 s2
    have h1 : Wf s1 := wf_fwLog h
    have h2 : Wf s2 := wf_foldl (fun _ _ k3 => wf_recovered (wf_markReleased k3)) _ h1
    exact wf_unholdPrereq h2

theorem wf_putMpu {s : State} {c : Fin 2} {a : Nat} {v : Word} (h : Wf s) : Wf (putMpu s c a v) := by
  unfold putMpu
  extract_lets
  exact wf_ite h (wf_regChange (wf_setCore h))

theorem wf_setWindow {s : State} {c : Fin 2} {w base last attr : Nat} (h : Wf s) : Wf (setWindow s c w base last attr) := by
  unfold setWindow
  extract_lets s1
  have h1 : Wf s1 := wf_putMpu (wf_putMpu h)
  exact wf_ite h (wf_putMpu h1)

theorem wf_stageWindows {s : State} {n : Nat} {c : Fin 2} (h : Wf s) : Wf (stageWindows s n c) := by
  unfold stageWindows
  extract_lets _ s1 s2 s3 s4 s5
  have h1 : Wf s1 := wf_setWindow h
  have h2 : Wf s2 := wf_setWindow h1
  have h3 : Wf s3 := wf_setWindow h2
  have h4 : Wf s4 := wf_setWindow h3
  have h5 : Wf s5 := wf_setWindow h4
  exact wf_ite (wf_setWindow h3) (wf_setWindow (wf_setWindow h5))

theorem wf_swapWindows {s : State} {c : Fin 2} (h : Wf s) : Wf (swapWindows s c) := by
  unfold swapWindows
  extract_lets _ _ _ s1
  have h1 : Wf s1 := wf_setWindow h
  exact wf_setWindow h1

theorem wf_stage1Locks {s : State} (h : Wf s) : Wf (stage1Locks s) := by
  unfold stage1Locks
  extract_lets s1
  have h1 : Wf s1 := wf_ite h (wf_mbxLock (wf_regChange h))
  exact wf_fwL h1

theorem wf_romSteps {s : State} {md : List Byte} (h : Wf s) : Wf (romSteps s md) := by
  unfold romSteps
  extract_lets
  exact wf_romIdentity (wf_lcMeasure (wf_fwExtend (wf_fwExtend h)))

theorem wf_stageOf {s : State} {rs : List ActRec} {n : Nat} (h : Wf s) : Wf (stageOf s rs n).2 := by
  unfold stageOf
  extract_lets s1
  have h1 : Wf s1.2 := wf_freeBytes h
  split
  · dsimp only
    exact h
  · dsimp only
    exact h1

theorem wf_keepStage {s : State} {n : Nat} {t : Stage} (h : Wf s) : Wf (keepStage s n t) := by
  unfold keepStage
  exact wf_mapFw h

theorem wf_stageAccepted {s : State} {n : Nat} {rs : List ActRec} (h : Wf s) : Wf (stageAccepted s n rs) := by
  unfold stageAccepted
  extract_lets s1 s2 _ s3 s4 s5 s6 s7
  have h1 : Wf s1.2 := wf_stageOf h
  have h2 : Wf s2 := h1
  have h3 : Wf s3 := wf_withUpd h2
  have h4 : Wf s4 := wf_mapFw (wf_keepStage h3)
  have h5 : Wf s5 := wf_fwLog h4
  have h6 : Wf s6 := wf_ite (wf_stage1Locks h5) h5
  have h7 : Wf s7 := wf_foldl (fun _ _ k8 => wf_stageWindows k8) _ h6
  exact wf_ite (wf_romSteps h7) (wf_fwExtend h7)

theorem wf_restartCore {s : State} {c : Fin 2} (h : Wf s) : Wf (restartCore s c) := by
  unfold restartCore
  extract_lets s1 s2
  have h1 : Wf s1 := wf_swapWindows h
  have h2 : Wf s2 := wf_setCore h1
  exact wf_withIlkUpd h2

theorem wf_measureConsist {s : State} (h : Wf s) : Wf (measureConsist s) := by
  unfold measureConsist
  extract_lets s1
  have h1 : Wf s1 := wf_fwExtend h
  exact wf_foldl (fun _ _ k2 => wf_fwExtend k2) _ h1

theorem wf_handoverAccepted {s : State} {rs : List ActRec} (h : Wf s) : Wf (handoverAccepted s rs) := by
  unfold handoverAccepted
  extract_lets s1 s2 s3 s4
  have h1 : Wf s1.2 := wf_stageOf h
  have h2 : Wf s2 := wf_fwLog h1
  have h3 : Wf s3 := wf_fwExtend (wf_keepStage h2)
  have h4 : Wf s4 := wf_fwL h3
  exact wf_ite (wf_holdCompare (wf_measureConsist h4)) h4

theorem wf_handoverDone {s : State} (h : Wf s) : Wf (handoverDone s) := by
  unfold handoverDone
  extract_lets s1 _ _ s2 s3 s4
  have h1 : Wf s1.2 := wf_freeBytes h
  have h2 : Wf s2 := wf_setF (wf_fwL h1)
  have h3 : Wf s3 := wf_fwLog h2
  have h4 : Wf s4 := wf_mapFw (wf_keepStage h3)
  exact wf_restartCore h4

theorem wf_firmwareDone {s : State} {rs : List ActRec} {olds : List (Nat × List Byte)} (h : Wf s) :
    Wf (firmwareDone s rs olds) := by
  unfold firmwareDone
  extract_lets s1 s2
  have h1 : Wf s1 := wf_foldl (fun _ _ k4 => wf_ite (wf_setCompState k4) k4) _ h
  have h2 : Wf s2 := wf_foldl (fun _ _ k3 => wf_rtbDone k3) _ h1
  split
  · exact wf_ite (wf_stageAccepted h2) h2
  · exact wf_ite (wf_updateFailed h2) h2
  · exact wf_ite (wf_handoverDone h2) (wf_handoverAccepted h2)
  · exact wf_releasedGroup h2
  · exact h2

theorem wf_applyAct {s : State} {hw : Bool} {r : ActRec} (h : Wf s) : Wf (applyAct s hw r) := by
  unfold applyAct
  extract_lets s1
  have h1 : Wf s1 := wf_applyRelease h
  split
  · exact wf_setHolds h
  · exact wf_setPoints h
  · exact wf_swapBanks h
  · exact wf_applyRtb h
  · exact wf_wr h
  · exact wf_applyEpoch h
  · exact wf_ite (wf_applyLock h) (wf_ite h1 (wf_advancePasses (wf_fixUnlock h1)))
  · exact wf_mbxRebind h
  · exact wf_withDuty h
  · exact h

theorem wf_markConflicts {s : State} {hs : List Nat} {rs : List ActRec} (h : Wf s) : Wf (markConflicts s hs rs) := by
  unfold markConflicts
  exact wf_foldl (fun _ _ k1 => wf_ite (wf_setHandle k1) k1) _ h

theorem wf_commitTx {s : State} {hs : List Nat} {rs : List ActRec} {jseq : Nat} (h : Wf s) : Wf (commitTx s hs rs jseq) := by
  unfold commitTx
  extract_lets _ s1 s2 s3 s4 s5 s6 s7
  have h1 : Wf s1 := wf_foldl (fun _ _ k8 => wf_applyAct k8) _ h
  have h2 : Wf s2 := wf_ite (wf_setBit h1) h1
  have h3 : Wf s3 := wf_wr h2
  have h4 : Wf s4 := wf_wrBytes h3
  have h5 : Wf s5 := wf_log h4
  have h6 : Wf s6 := wf_markConflicts h5
  have h7 : Wf s7 := wf_closeHandles h6
  exact wf_compChanges (wf_firmwareDone h7)

theorem wf_popQueue {s : State} (h : Wf s) : Wf (popQueue s) := by
  unfold popQueue
  extract_lets
  exact wf_withIlk h

theorem wf_serveFront {s : State} (h : Wf s) : Wf (serveFront s) := by
  unfold serveFront
  split
  · extract_lets
    split
    · exact wf_abortTx (wf_popQueue h)
    · exact wf_ite (wf_commitTx (wf_popQueue h)) (wf_ite h (wf_beginJournal h))
  · exact h

theorem wf_journalEnd {s : State} {ok : Bool} (h : Wf s) : Wf (journalEnd s ok) := by
  unfold journalEnd
  extract_lets _ s1
  have h1 : Wf s1 := wf_popQueue h
  split
  · exact h
  · extract_lets _ _ s2
    have h2 : Wf s2 := wf_log h1
    exact wf_ite (wf_commitTx (wf_withIlk h1)) (wf_abortTx h2)

theorem wf_homeWrite {s : State} {r : ActRec} (h : Wf s) : Wf (homeWrite s r) := by
  unfold homeWrite
  extract_lets
  split
  · exact wf_homeAppend h
  · exact wf_homeAppend h
  · exact wf_ringAppend h
  · exact wf_withHome h
  · exact h

theorem wf_journalApplied {s : State} (h : Wf s) : Wf (journalApplied s) := by
  unfold journalApplied
  split
  · exact h
  · extract_lets s1
    have h1 : Wf s1 := wf_foldl (fun _ _ k2 => wf_homeWrite k2) _ h
    exact wf_withIlk h1

theorem wf_eraseSector {s : State} {k : Nat} (h : Wf s) : Wf (eraseSector s k) := by
  unfold eraseSector
  extract_lets
  exact wf_withIlk h

theorem wf_eraseFree {s : State} (h : Wf s) : Wf (eraseFree s) := by
  unfold eraseFree
  exact wf_foldl (fun _ _ k1 => wf_ite (wf_eraseSector k1) k1) _ h

theorem wf_drainIlk {fuel : Nat} {s : State} (h : Wf s) : Wf (drainIlk fuel s) := by
  induction fuel generalizing s with
  | zero =>
    rw [drainIlk]
    exact h
  | succ fuel ih =>
    rw [drainIlk]
    exact wf_ite (ih (wf_journalEnd h)) (wf_ite h (wf_ite (ih (wf_journalApplied h)) (ih (wf_serveFront (wf_eraseFree h)))))

theorem wf_fwCommit {s : State} {rs : List ActRec} (h : Wf s) : Wf (fwCommit s rs).1 := by
  unfold fwCommit
  extract_lets s1 s2 s3
  have h1 : Wf s1 := wf_drainIlk h
  have h2 : Wf s2 := wf_journalApplied h1
  have h3 : Wf s3 := wf_popQueue (wf_beginJournal h2)
  split
  · dsimp only
    exact h1
  · split
    · dsimp only
      exact wf_abortTx h1
    · split
      · dsimp only
        exact wf_commitTx h1
      · split
        · dsimp only
          exact wf_abortTx h1
        · split
          · dsimp only
            exact h2
          · dsimp only
            exact wf_commitTx (wf_withIlk h3)

theorem wf_dropHandle {s : State} {h p cause : Nat} {notify : Bool} (hs : Wf s) : Wf (dropHandle s h p cause notify) := by
  unfold dropHandle
  extract_lets _ s1
  have h1 : Wf s1 := wf_closeHandle hs
  exact wf_log h1

theorem wf_dropWith {s : State} {h cause : Nat} {notify : Bool} (hs : Wf s) : Wf (dropWith s h cause notify) := by
  unfold dropWith
  extract_lets
  exact wf_foldl (fun _ _ k1 => wf_dropHandle k1) _ (wf_dropHandle hs)

theorem wf_dropOpen {s : State} {cause : Nat} {hs : List Nat} (h : Wf s) : Wf (dropOpen s cause hs) := by
  unfold dropOpen
  refine wf_foldl (fun _ _ k1 => ?_) _ h
  split
  · exact wf_dropHandle k1
  · exact wf_dropHandle k1
  · exact wf_dropHandle k1
  · exact k1

theorem wf_failoverDrop {s : State} {c : Fin 2} (h : Wf s) : Wf (failoverDrop s c) := by
  unfold failoverDrop
  extract_lets _ _ s1
  have h1 : Wf s1 := by
    refine wf_foldl (fun _ _ k3 => ?_) _ h
    split
    · exact wf_dropWith k3
    · exact wf_dropWith k3
    · exact wf_dropWith k3
    · exact k3
  exact wf_foldl (fun _ _ k2 => wf_ite (wf_dropHandle k2) k2) _ h1

theorem wf_voteFail {s : State} {h m : Option Nat} {status : Nat} (hs : Wf s) : Wf (voteFail s h m status) := by
  unfold voteFail
  extract_lets _ _ _ s1
  have h1 : Wf s1 := wf_log (wf_inc hs)
  exact wf_closeHandles h1

theorem wf_replayLatch {s : State} {r : ActRec} (h : Wf s) :
    Wf (if r.kind = 0x07 then { s with tmp := { s.tmp with latch := r.operand == 1 } } else s) :=
  wf_ite (wf_withTmp h) h

theorem wf_replayEntry {s : State} {e : JEntry} (h : Wf s) : Wf (replayEntry s e) := by
  unfold replayEntry
  refine wf_ite ?_ (wf_ite (wf_log (wf_setBit h)) h)
  refine wf_log (wf_setBit (wf_foldl (fun _ _ hs => ?_) _ (wf_foldl (fun _ _ hs => wf_homeWrite hs) _ h)))
  exact wf_replayLatch hs

theorem wf_replayJournal {s : State} (h : Wf s) : Wf (replayJournal s) := by
  unfold replayJournal
  extract_lets s1
  have h1 : Wf s1 := wf_foldl (fun _ _ k2 => wf_replayEntry k2) _ h
  exact wf_withIlk h1

theorem wf_ilkReset {s : State} (h : Wf s) : Wf (ilkReset s) := by
  unfold ilkReset
  extract_lets s1 s2 s3 s4
  have h1 : Wf s1 := wf_drainIlk h
  have h2 : Wf s2 := wf_dropOpen h1
  have h3 : Wf s3 := wf_wr h2
  have h4 : Wf s4 := wf_wr (wf_setF h3)
  exact wf_withIlk h4

end Sys2Proof.Machine
end

section
/-! O5: what keeps the canonical form: power, resets, the yards and register access. -/

namespace Sys2Proof.Machine

/-! ### PwrOps -/

theorem wf_pwrLog {s : State} {code detail : Nat} {payload : List Byte} (h : Wf s) : Wf (pwrLog s code detail payload) := by
  unfold pwrLog
  exact wf_log h

theorem wf_setDomState {s : State} {d v : Nat} (h : Wf s) : Wf (setDomState s d v) := by
  unfold setDomState
  exact wf_setF h

theorem wf_setDomPhase {s : State} {d v : Nat} (h : Wf s) : Wf (setDomPhase s d v) := by
  unfold setDomPhase
  exact wf_setF h

theorem wf_setPendingOn {s : State} {d : Nat} {b : Bool} (h : Wf s) : Wf (setPendingOn s d b) := by
  unfold setPendingOn
  exact wf_setBit h

theorem wf_resetRegs {s : State} {lo hi : Nat} (h : Wf s) : Wf (resetRegs s lo hi) := wf_regsFilter _ h

theorem wf_loseMem {s : State} {d : Nat} {kept : List (Nat × Nat)} (h : Wf s) : Wf (loseMem s d kept) := by
  unfold loseMem
  exact wf_wipeMem h

theorem wf_resetEngines {s : State} {y : Nat} (h : Wf s) : Wf (resetEngines s y) := by
  unfold resetEngines
  exact wf_foldl (fun _ _ k1 => wf_setEngine k1) _ h

theorem wf_resetBlocks {s : State} {d : Nat} (h : Wf s) : Wf (resetBlocks s d) := by
  unfold resetBlocks
  extract_lets _ s1
  have h1 : Wf s1 := wf_resetEngines (wf_resetRegs h)
  exact wf_ite h (wf_ite (wf_foldl (fun _ _ k2 => wf_setBit (wf_setLine (wf_resetRegs k2))) _ h) (wf_ite (wf_setYard h1)
      (wf_ite (wf_resetRegs h) (wf_ite (wf_pf0Reset h) (wf_resetRegs (wf_withNvc h))))))

theorem wf_stopPlls {s : State} {d : Nat} (h : Wf s) : Wf (stopPlls s d) := by
  unfold stopPlls
  exact wf_ite (wf_setL (wf_setBit (wf_setBit h))) (wf_ite (wf_setBit h) h)

theorem wf_enterSleep {s : State} {d target : Nat} (h : Wf s) : Wf (enterSleep s d target) := by
  unfold enterSleep
  extract_lets _ s1 _ _ s2
  have h1 : Wf s1 := wf_stopPlls (wf_setDomState h)
  have h2 : Wf s2 := wf_loseMem (wf_withPwr h1)
  exact wf_ite (wf_ite (wf_foldl (fun _ _ k3 => wf_setEngine k3) _ h2) h2) (wf_ite (wf_resetBlocks (wf_loseMem
      (wf_withPwr h1))) h1)

theorem wf_startExit {s : State} {d : Nat} (h : Wf s) : Wf (startExit s d) := by
  unfold startExit
  extract_lets _ s1
  have h1 : Wf s1 := wf_ite (wf_withPwr h) h
  exact wf_ite (wf_setPendingOn (wf_setDomPhase h)) (wf_setPendingOn (wf_setDomPhase h1))

theorem wf_voteSet {s : State} {d : Nat} (h : Wf s) : Wf (voteSet s d) := by
  unfold voteSet
  extract_lets s1
  have h1 : Wf s1 := wf_inc (wf_setDomPhase h)
  split
  · exact wf_ite h (wf_startExit h)
  · exact wf_pwrLog h1
  · exact wf_setPendingOn h
  · exact h

theorem wf_sleepBegin {s : State} {d : Nat} (h : Wf s) : Wf (sleepBegin s d) := by
  unfold sleepBegin
  extract_lets _ s1
  have h1 : Wf s1 := wf_withPwr h
  exact wf_ite (wf_setDomPhase h1) h

theorem wf_syncDomain {s : State} {d : Nat} (h : Wf s) : Wf (syncDomain s d) := by
  unfold syncDomain
  extract_lets _ _ s1 _ s2
  have h1 : Wf s1 := wf_wr h
  have h2 : Wf s2 := wf_withPwr h1
  exact wf_ite (wf_voteSet h2) (wf_ite (wf_sleepBegin (wf_withPwr h1)) h1)

theorem wf_syncMode {s : State} (h : Wf s) : Wf (syncMode s) := by
  unfold syncMode
  extract_lets _ s1 _ _ s2
  have h1 : Wf s1 := wf_withPwr h
  have h2 : Wf s2 := wf_setF (wf_setF h1)
  exact wf_ite h2 (wf_pwrLog h2)

theorem wf_setPlatformOn {s : State} {b : Bool} (h : Wf s) : Wf (setPlatformOn s b) := by
  unfold setPlatformOn
  exact wf_setL h

theorem wf_finishOff {s : State} (h : Wf s) : Wf (finishOff s) := by
  unfold finishOff
  refine wf_ite ?_ h
  extract_lets q _ s1 s2
  have h1 : Wf s1 := wf_withPwr h
  have h2 : Wf s2 := wf_setPlatformOn h1
  cases hq : q with
  | some q => exact wf_answer h2
  | none => exact h2

theorem wf_syncOutage {s : State} {e : CompEntry} (h : Wf s) : Wf (syncOutage s e) := by
  unfold syncOutage
  extract_lets _ s1
  have h1 : Wf s1 := wf_withUpd h
  split
  · exact wf_withUpd h
  · exact wf_fwLog h1
  · exact h

theorem wf_syncOutages {s : State} (h : Wf s) : Wf (syncOutages s) := by
  unfold syncOutages
  exact wf_foldl (fun _ _ k1 => wf_syncOutage k1) _ h

theorem wf_lockWaybills {s : State} (h : Wf s) : Wf (lockWaybills s) := by
  unfold lockWaybills
  exact wf_ite (wf_fixLockdown h) h

theorem wf_settle {s : State} (h : Wf s) : Wf (settle s) := by
  unfold settle
  exact wf_syncOutages (wf_syncMode (wf_finishOff (wf_foldl (fun _ _ k1 => wf_syncDomain k1) _ (wf_lockWaybills
      (wf_syncForced h)))))

theorem wf_fwVote {s : State} {c : Fin 2} {d i : Nat} {on : Bool} (h : Wf s) : Wf (fwVote s c d i on) := by
  unfold fwVote
  exact wf_ite (wf_log h) (wf_syncDomain (wf_setBit h))

theorem wf_sleepRefuse {s : State} {d block : Nat} {timeout : Bool} (h : Wf s) : Wf (sleepRefuse s d block timeout) := by
  unfold sleepRefuse
  extract_lets s1 s2
  have h1 : Wf s1 := wf_inc (wf_setDomPhase h)
  have h2 : Wf s2 := wf_wr h1
  exact wf_pwrLog h2

theorem wf_sleepPrepared {s : State} {d : Nat} {slow : Option Byte} (h : Wf s) : Wf (sleepPrepared s d slow) := by
  unfold sleepPrepared
  refine wf_ite h ?_
  split
  · exact wf_sleepRefuse h
  · exact wf_sleepRefuse h
  · exact wf_ite h (wf_setDomPhase h)

theorem wf_sleepCommitted {s : State} {d : Nat} (h : Wf s) : Wf (sleepCommitted s d) := by
  unfold sleepCommitted
  extract_lets _ s1 _ _ _ s2 s3
  have h1 : Wf s1 := wf_enterSleep h
  have h2 : Wf s2 := wf_withPwr h1
  have h3 : Wf s3 := wf_inc (wf_startExit h2)
  exact wf_ite h (wf_ite (wf_setPendingOn (wf_pwrLog h3)) (wf_setDomPhase h2))

theorem wf_holdRun {s : State} {y : Nat} (h : Wf s) : Wf (holdRun s y) := by
  unfold holdRun
  extract_lets _ s1
  have h1 : Wf s1 := wf_withPwr h
  exact wf_syncDomain (wf_setPendingOn h1)

theorem wf_wake {s : State} {i : Nat} (h : Wf s) : Wf (wake s i) := by
  unfold wake
  extract_lets s1 s2 s3
  have h1 : Wf s1 := wf_setBit h
  have h2 : Wf s2 := wf_pwrLog h1
  have h3 : Wf s3 := wf_setPendingOn h2
  exact wf_ite h (wf_ite (wf_startExit h2) (wf_ite (wf_pwrLog (wf_inc (wf_setDomPhase h2))) (wf_withPwr h3)))

theorem wf_knockCounts {s : State} {ticks : Nat} (h : Wf s) : Wf (knockCounts s ticks).2 := by
  unfold knockCounts
  extract_lets s1
  have h1 : Wf s1.2 := wf_freeBytes h
  split
  · dsimp only
    exact h
  · split
    · dsimp only
      exact h
    · dsimp only
      exact h1

theorem wf_retentionChecked {s : State} {kind bank : Nat} {upset : Bool} (h : Wf s) :
    Wf (retentionChecked s kind bank upset) := by
  unfold retentionChecked
  extract_lets _ s1 _ s2 s3 s4
  have h1 : Wf s1 := wf_withPwr h
  have h2 : Wf s2 := wf_setBit h1
  have h3 : Wf s3 := wf_wipeMem h2
  have h4 : Wf s4 := wf_pwrLog h3
  exact wf_ite h (wf_ite h1 (wf_ite (wf_freeExts h4) h4))

theorem wf_yardOpWrite {s : State} {o : Origin} {y be : Nat} {v : Word} (h : Wf s) : Wf (yardOpWrite s o y v be) := by
  unfold yardOpWrite
  extract_lets _ _ s1 _ _ _ _ _ s2 s3
  have h1 : Wf s1 := wf_ite (wf_setBit h) h
  have h2 : Wf s2 := wf_setF (wf_setF h1)
  have h3 : Wf s3 := wf_ite (wf_setBit h2) h2
  exact wf_ite h1 (wf_ite (wf_pwrLog (wf_setBit h1)) (wf_regChange h3))

theorem wf_clkCtlWrite {s : State} {o : Origin} {v : Word} {be : Nat} (h : Wf s) : Wf (clkCtlWrite s o v be) := by
  unfold clkCtlWrite
  extract_lets _ _ _ s1 s2 s3
  have h1 : Wf s1 := wf_wr h
  have h2 : Wf s2 := wf_ite (wf_setBit (wf_setBit h1)) h1
  have h3 : Wf s3 := wf_ite (wf_setBit h2) h2
  exact wf_ite (wf_pwrLog h) (wf_ite h3 (wf_regChange h3))

theorem wf_powerFailPort {s : State} {n : Nat} (h : Wf s) : Wf (powerFailPort s n) := by
  unfold powerFailPort
  extract_lets s1
  have h1 : Wf s1 := by
    unfold s1
    split
    · exact wf_ite h (wf_endDev h)
    · exact h
  split
  · exact wf_ite (wf_discardEntry h1) h1
  · exact h1

theorem wf_powerFailPorts {s : State} (h : Wf s) : Wf (powerFailPorts s) := by
  unfold powerFailPorts
  exact wf_foldl (fun _ _ k1 => wf_powerFailPort k1) _ h

theorem wf_powerFailLodge {s : State} (h : Wf s) : Wf (powerFailLodge s) := by
  unfold powerFailLodge
  extract_lets s1
  have h1 : Wf s1 := wf_enterService (wf_setHandle h)
  exact wf_ite h (wf_ite (wf_serveFront h1) h1)

theorem wf_powerFail {s : State} (h : Wf s) : Wf (powerFail s) := by
  unfold powerFail
  extract_lets s1 s2
  have h1 : Wf s1 := wf_powerFailPorts (wf_setBit (wf_setBit h))
  have h2 : Wf s2 := wf_pwrLog h1
  exact wf_ite h (wf_powerFailLodge (wf_withEvr h2))

theorem wf_dropTagKey {s : State} (h : Wf s) : Wf (dropTagKey s) := by
  unfold dropTagKey
  exact wf_wipeMem (wf_withTagKey h)

theorem wf_drawTagKey {s : State} (h : Wf s) : Wf (drawTagKey s) := by
  unfold drawTagKey
  extract_lets s1 s2
  have h1 : Wf s1.2 := wf_drawRandom h
  have h2 : Wf s2 := h1
  exact wf_ite (wf_withTagKey h2) (wf_rbgStops h)

theorem wf_platformStart {s : State} (h : Wf s) : Wf (platformStart s) := by
  unfold platformStart
  extract_lets s1 s2 _ s3 s4 s5 s6 _ s7 s8
  have h1 : Wf s1 := wf_setPlatformOn h
  have h2 : Wf s2 := wf_setBit h1
  have h3 : Wf s3 := wf_withPwr h2
  have h4 : Wf s4 := wf_drawTagKey (wf_dropTagKey h3)
  have h5 : Wf s5 := wf_freeExts h4
  have h6 : Wf s6 := wf_foldl (fun _ _ k10 => wf_ite (wf_setBit k10) k10) _ h5
  have h7 : Wf s7 := wf_withUpd h6
  have h8 : Wf s8 := wf_mapFw h7
  exact wf_foldl (fun _ _ k9 => wf_fwL (wf_setCompState k9)) _ h8

theorem wf_powerFailed {s : State} {us : Nat} (h : Wf s) : Wf (powerFailed s us) := by
  unfold powerFailed
  extract_lets s1 s2
  have h1 : Wf s1 := wf_evrPowerFail h
  have h2 : Wf s2 := wf_dropTagKey (wf_setPlatformOn (wf_setBit h1))
  exact wf_ite h (wf_withPwr h2)

theorem wf_railsFail {s : State} (h : Wf s) : Wf (railsFail s) := by
  unfold railsFail
  extract_lets s1
  have h1 : Wf s1 := wf_foldl (fun _ _ k2 => wf_setPendingOn (wf_setDomPhase (wf_enterSleep k2))) _ h
  exact wf_ite h (wf_withStage2ReadyTagKeyPwr h1)

theorem wf_platformOffRest {s : State} (h : Wf s) : Wf (platformOffRest s) := by
  unfold platformOffRest
  extract_lets s1 s2 s3 s4
  have h1 : Wf s1 := wf_ite (wf_closeLedger h) h
  have h2 : Wf s2 := wf_fwL h1
  have h3 : Wf s3 := wf_dropTagKey h2
  have h4 : Wf s4 := wf_foldl (fun _ _ k6 => wf_ite (wf_fwL k6) k6) _ h3
  exact wf_foldl (fun _ _ k5 => wf_syncDomain (wf_setF k5)) _ h4

theorem wf_platformOff {s : State} {q : Sender} {w0 : Nat} (h : Wf s) : Wf (platformOff s q w0) := by
  unfold platformOff
  extract_lets s1 _ s2 s3
  have h1 : Wf s1 := wf_answer h
  have h2 : Wf s2 := wf_withPwr h1
  have h3 : Wf s3 := wf_fwCommit h2
  exact wf_ite (wf_epochBegin h3) (wf_platformOffRest h3)

/-! ### ResetOps -/

theorem wf_bootCores {s : State} (h : Wf s) : Wf (bootCores s) := by
  unfold bootCores
  extract_lets s1
  have h1 : Wf s1 := wf_withCoresDutyStage2Ready h
  exact wf_foldl (fun _ _ k2 => wf_setCore k2) _ h1

theorem wf_loadRouteBook {s : State} {bad : Nat → Bool} {badMin : Bool} (h : Wf s) : Wf (loadRouteBook s bad badMin) := by
  unfold loadRouteBook
  extract_lets s1
  have h1 : Wf s1 := wf_wr (wf_wr h)
  exact wf_loadMinver (wf_loadRecs (wf_setBit h1))

theorem wf_clearMregs {s : State} (h : Wf s) : Wf (clearMregs s) := by
  unfold clearMregs
  extract_lets s1
  have h1 : Wf s1 := wf_foldl (fun _ _ k2 => wf_wrBytes k2) _ h
  exact wf_wr h1

theorem wf_bootSignalBox {s : State} {bad : Nat → Bool} {badMin : Bool} (h : Wf s) : Wf (bootSignalBox s bad badMin) := by
  unfold bootSignalBox
  extract_lets _ s1 _ _ s2 s3 s4 s5 s6 s7 s8 s9 s10 _ s11 s12
  have h1 : Wf s1 := wf_bootCores h
  have h2 : Wf s2 := wf_withIrqIrq1TmpLanesUpd h1
  have h3 : Wf s3 := wf_wr (wf_setBit (wf_setBit h2))
  have h4 : Wf s4 := wf_resetRegs h3
  have h5 : Wf s5 := wf_sigReset h4
  have h6 : Wf s6 := wf_clearMregs (wf_attReset (wf_clearTickets (wf_mbxSignalBoxReset h5)))
  have h7 : Wf s7 := wf_resetRegs h6
  have h8 : Wf s8 := wf_resetRegs (wf_resetRegs h7)
  have h9 : Wf s9 := wf_setBit (wf_setBit h8)
  have h10 : Wf s10 := wf_setL h9
  have h11 : Wf s11 := wf_withIlk h10
  have h12 : Wf s12 := wf_loadRouteBook (wf_replayJournal h11)
  exact wf_syncForced h12

theorem wf_noStage {s : State} {n cause : Nat} (h : Wf s) : Wf (noStage s n cause) := by
  unfold noStage
  exact wf_fwLog h

theorem wf_signalBoxReset {s : State} {bad : Nat → Bool} {badMin : Bool} (h : Wf s) : Wf (signalBoxReset s bad badMin) := by
  unfold signalBoxReset
  extract_lets s1
  have h1 : Wf s1 := wf_lcStartup (wf_bootSignalBox (wf_ilkReset h))
  exact wf_ite h1 (wf_noStage h1)

theorem wf_stageVoteFailed {s : State} {n : Nat} (h : Wf s) : Wf (stageVoteFailed s n) := by
  unfold stageVoteFailed
  extract_lets _ _ s1 s2
  have h1 : Wf s1 := wf_withUpd h
  have h2 : Wf s2 := wf_ite (wf_noStage h1) h1
  exact wf_signalBoxReset h2

theorem wf_acceptVoteFailed {s : State} {cs : List Nat} {status : Nat} (h : Wf s) : Wf (acceptVoteFailed s cs status) := by
  unfold acceptVoteFailed
  split
  · extract_lets s1
    have h1 : Wf s1 := wf_mapFw h
    exact wf_ite (wf_recoveryFail h) (wf_heldNoSlot h1)
  · exact wf_ite (wf_mapFw h) h

theorem wf_handoverVoteFailed {s : State} (h : Wf s) : Wf (handoverVoteFailed s) := by
  unfold handoverVoteFailed
  exact wf_restartCore (wf_fwL h)

theorem wf_voteFailed {s : State} {h m : Option Nat} {status : Nat} (hs : Wf s) : Wf (voteFailed s h m status) := by
  unfold voteFailed
  extract_lets _ s1
  have h1 : Wf s1 := wf_voteFail hs
  split
  · exact wf_stageVoteFailed h1
  · exact wf_acceptVoteFailed h1
  · exact wf_ite (wf_handoverVoteFailed h1) h1
  · exact h1

theorem wf_countMismatch {s : State} {c : Fin 2} (h : Wf s) : Wf (countMismatch s c) := by
  unfold countMismatch
  extract_lets _ _ s1 s2
  have h1 : Wf s1 := wf_setF h
  have h2 : Wf s2 := wf_withRetired h1
  exact wf_ite (wf_log (wf_setBit h2)) h1

theorem wf_resetCore {s : State} {c : Fin 2} (h : Wf s) : Wf (resetCore s c) := by
  unfold resetCore
  extract_lets s1 s2 s3 s4
  have h1 : Wf s1 := wf_sigAbortMine h
  have h2 : Wf s2 := wf_foldl (fun _ _ k5 => wf_exmAbortQueued k5) _ h1
  have h3 : Wf s3 := wf_setCore h2
  have h4 : Wf s4 := wf_ite (wf_withIrq h3) (wf_withIrq1 h3)
  exact wf_withIlkUpd h4

theorem wf_handoverByFailover {s : State} (h : Wf s) : Wf (handoverByFailover s) := by
  unfold handoverByFailover
  extract_lets
  split
  · exact wf_ite (wf_mapFw (wf_keepStage (wf_fwL h))) h
  · exact h

theorem wf_lockstepMismatch {s : State} {c : Fin 2} {us : Nat} (h : Wf s) : Wf (lockstepMismatch s c us) := by
  unfold lockstepMismatch
  extract_lets _ _ s1 s2 s3 s4 s5 s6
  have h1 : Wf s1 := wf_countMismatch h
  have h2 : Wf s2 := wf_log h1
  have h3 : Wf s3 := wf_withDuty h1
  have h4 : Wf s4 := wf_failoverDrop (wf_raiseIn h3)
  have h5 : Wf s5 := wf_setF h4
  have h6 : Wf s6 := wf_log h5
  exact wf_ite h (wf_ite (wf_signalBoxReset h1) (wf_ite (wf_resetCore h1) (wf_ite (wf_signalBoxReset h2) (wf_resetCore
      (wf_handoverByFailover h6)))))

theorem wf_coreRejoined {s : State} (h : Wf s) : Wf (coreRejoined s) := by
  unfold coreRejoined
  extract_lets _ _ _ s1 _ s2
  have h1 : Wf s1 := wf_withIlkUpd h
  have h2 : Wf s2 := wf_ite (wf_fwL h1) (wf_ite (wf_fwL h1) (wf_stageWindows (wf_stageWindows h1)))
  exact wf_ite h (wf_log h2)

theorem wf_consistAccepted {s : State} {src : Nat} (h : Wf s) : Wf (consistAccepted s src) := by
  unfold consistAccepted
  extract_lets _ s1 s2
  have h1 : Wf s1 := wf_fwLog h
  have h2 : Wf s2 := wf_measureConsist (wf_mapFw h1)
  exact wf_ite (wf_holdCompare h2) h2

theorem wf_revertOld {s : State} {c : Nat} (h : Wf s) : Wf (revertOld s c) := by
  unfold revertOld
  extract_lets
  exact wf_ite (wf_fwCommit h) h

theorem wf_stage2Ready {s : State} {svn build : Nat} (h : Wf s) : Wf (stage2Ready s svn build) := by
  unfold stage2Ready
  extract_lets s1 _ s2 s3
  have h1 : Wf s1 := wf_withStage2Ready h
  have h2 : Wf s2 := wf_fwLog h1
  have h3 : Wf s3 := wf_flushVlatch (wf_syncForced h2)
  exact wf_ite h (wf_foldl (fun _ _ k4 => wf_revertOld k4) _ h3)

/-- What a loss of power keeps of the register words: those kept, on the words after reset. -/
theorem wf_keptRegs {l m : List (Nat × Word)} (hl : Sparse.wf regReset l = true) :
    Sparse.wf regReset (m.foldl (fun r p => Sparse.set regReset r p.1 p.2) l) = true := by
  induction m generalizing l with
  | nil => exact hl
  | cons p m ih => exact ih (Sparse.wf_set regReset l p.1 p.2 hl)

/-- A state whose memory and register words are in canonical form. -/
theorem wf_of_parts {s : State} (hm : Sparse.wf memDefault s.mem = true) (hr : Sparse.wf regReset s.regs = true) : Wf s :=
  wf_iff.2 ⟨hm, hr⟩

theorem wf_powerLost {s : State} {cell : Bool} (h : Wf s) : Wf (powerLost s cell) := by
  obtain ⟨hmem, -⟩ := wf_iff.1 h
  obtain ⟨-, hreset⟩ := wf_iff.1 wf_reset
  unfold powerLost
  extract_lets _ _ _ _ _ _ _ _ _ _ _ r
  have hr : Wf r := wf_of_parts (Sparse.wf_filter _ _ _ hmem) (wf_keptRegs hreset)
  exact wf_ite hr (wf_setBit hr)

theorem wf_vinStbyLoss {s : State} {cell : Bool} (h : Wf s) : Wf (vinStbyLoss s cell) := by
  unfold vinStbyLoss
  extract_lets s1 s2
  have h1 : Wf s1 := wf_ite h (wf_detectorEvent h)
  have h2 : Wf s2 := wf_ite (wf_log h1) h1
  exact wf_ite h (wf_powerLost h2)

theorem wf_ttStart {s : State} (h : Wf s) : Wf (ttStart s) := by
  unfold ttStart
  exact wf_foldl (fun _ _ k1 => wf_wr64 (wf_wr (wf_setBit k1))) _ h

theorem wf_senseBanks {s : State} {v33 : BitVec 5} (h : Wf s) : Wf (senseBanks s v33) := by
  unfold senseBanks
  exact wf_foldl (fun _ _ k1 => wf_setBit k1) _ h

theorem wf_powerOnReset {s : State} {p : PowerUp} (h : Wf s) : Wf (powerOnReset s p) := by
  unfold powerOnReset
  extract_lets s1 _ s2 s3 _ s4 s5 s6 _ s7 s8 s9 s10
  have h1 : Wf s1 := wf_ite h (wf_powerLost h)
  have h2 : Wf s2 := wf_senseBanks (wf_withPccOtPwr h1)
  have h3 : Wf s3 := wf_evrStartup h2
  have h4 : Wf s4 := wf_withTmp h3
  have h5 : Wf s5 := wf_setDomState (wf_setBit h4)
  have h6 : Wf s6 := wf_bootSignalBox h5
  have h7 : Wf s7 := wf_withTmp h6
  have h8 : Wf s8 := wf_ttStart (wf_ringStart (wf_lcStartup h7))
  have h9 : Wf s9 := wf_canaryAtPowerUp (wf_lockdownAtPowerUp h8)
  have h10 : Wf s10 := wf_setDomState (wf_setF (wf_setBit h9))
  exact wf_ite (wf_platformStart h9) (wf_withPwr h10)

theorem wf_resumeCores {s : State} (h : Wf s) : Wf (resumeCores s) := by
  unfold resumeCores
  exact wf_foldl (fun _ _ k1 => wf_ite k1 (wf_setCore k1)) _ h

theorem wf_startEngines {s : State} {y : Nat} {run : Bool} (h : Wf s) : Wf (startEngines s y run) := by
  unfold startEngines
  extract_lets _ _ _ s1 s2
  have h1 : Wf s1 := wf_setYard h
  have h2 : Wf s2 := wf_withOwedG h1
  exact wf_foldl (fun _ _ k3 => wf_setEngine k3) _ h2

theorem wf_domainRun {s : State} {d : Nat} (h : Wf s) : Wf (domainRun s d) := by
  unfold domainRun
  extract_lets _ s1 _ s2 _ _ s3
  have h1 : Wf s1 := wf_setPendingOn (wf_setDomPhase (wf_setDomState h))
  have h2 : Wf s2 := wf_withPwr h1
  have h3 : Wf s3 := wf_withPwr h2
  exact wf_ite h (wf_ite (wf_ite (wf_raise (wf_signalBoxReset h2)) (wf_raise (wf_resumeCores (wf_setBit h2)))) (wf_ite
      (wf_startEngines (wf_setL h3)) h2))

theorem wf_act {s : State} {f : State → State} (hs : Wf s) (hf : ∀ y0, Wf y0 → Wf (f y0)) : WfOut (act s f) := by
  unfold act
  exact wf_next (wf_ite hs (hf _ hs))

theorem wf_clocked {s : State} {f : State → State} (hs : Wf s) (hf : ∀ y0, Wf y0 → Wf (f y0)) : WfOut (clocked s f) := by
  unfold clocked
  exact wf_act hs (fun _ k1 => wf_ite (hf _ k1) k1)

theorem wf_unpark {s : State} (h : Wf s) : Wf (unpark s) := by
  unfold unpark
  extract_lets s1
  have h1 : Wf s1 := wf_foldl (fun _ _ k2 => wf_ite (wf_setCore k2) k2) _ h
  exact wf_ite (wf_wake h1) h1

theorem wf_actSettle {s : State} {f : State → State} (hs : Wf s) (hf : ∀ y0, Wf y0 → Wf (f y0)) : WfOut (actSettle s f) := by
  unfold actSettle
  exact wf_act hs (fun _ k1 => wf_settle (wf_unpark (hf _ k1)))

theorem wf_clockedSettle {s : State} {f : State → State} (hs : Wf s) (hf : ∀ y0, Wf y0 → Wf (f y0)) :
    WfOut (clockedSettle s f) := by
  unfold clockedSettle
  exact wf_clocked hs (fun _ k1 => wf_settle (wf_unpark (hf _ k1)))

/-! ### YardOps -/

theorem wf_endItem {s : State} {e : Nat} (h : Wf s) : Wf (endItem s e) := by
  unfold endItem
  extract_lets _ s1
  have h1 : Wf s1 := wf_setEngine h
  split
  · exact h
  · exact wf_wakeFreed (wf_syncFix (wf_ite h1 (wf_fixComplete h1)))

theorem wf_syncBar {s : State} {y : Nat} (h : Wf s) : Wf (syncBar s y) := by
  unfold syncBar
  exact wf_setBit (wf_setBit h)

theorem wf_syncBars {s : State} (h : Wf s) : Wf (syncBars s) := by
  unfold syncBars
  exact wf_foldl (fun _ _ k1 => wf_syncBar k1) _ h

theorem wf_release {s : State} {v : Dword} {e : Nat} (h : Wf s) : Wf (release s v e) := by
  unfold release
  extract_lets
  split
  · extract_lets
    exact wf_setEngine h
  · extract_lets
    exact wf_setEngine h
  · exact h

theorem wf_barBroken {s : State} {y : Nat} {mixed : Bool} (h : Wf s) : Wf (barBroken s y mixed) := by
  unfold barBroken
  extract_lets s1 s2
  have h1 : Wf s1 := wf_setBit h
  have h2 : Wf s2 := wf_ite (wf_setBit h1) h1
  exact wf_log h2

theorem wf_breakY {s : State} {y : Nat} {mixed : Bool} {arrived : List Nat} (h : Wf s) : Wf (breakY s y mixed arrived) := by
  unfold breakY
  extract_lets _ _ s1 _ s2
  have h1 : Wf s1 := wf_foldl (fun _ _ k3 => wf_release k3) _ h
  have h2 : Wf s2 := wf_setYard h1
  exact wf_syncBar (wf_barBroken h2)

theorem wf_breakG {s : State} {y : Nat} {mixed : Bool} {arrived : List Nat} (h : Wf s) : Wf (breakG s y mixed arrived) := by
  unfold breakG
  extract_lets _ _ s1 s2 s3
  have h1 : Wf s1 := wf_foldl (fun _ _ k5 => wf_release k5) _ h
  have h2 : Wf s2 := wf_withOwedG h1
  have h3 : Wf s3 := wf_foldl (fun _ _ k4 => wf_ite (wf_setBit (wf_setBit k4)) (wf_setBit k4)) _ h2
  exact wf_syncBars (wf_barBroken h3)

theorem wf_breakBars {s : State} {y : Nat} (h : Wf s) : Wf (breakBars s y) := by
  unfold breakBars
  extract_lets s1
  have h1 : Wf s1 := wf_breakY h
  exact wf_ite (wf_breakG h1) h1

theorem wf_settleBars {s : State} {y : Nat} (h : Wf s) : Wf (settleBars s y) := by
  unfold settleBars
  extract_lets _ _ _ s1 _ s2
  have h1 : Wf s1 := wf_ite (wf_foldl (fun _ _ k4 => wf_release k4) _ h) (wf_ite (wf_breakG (wf_breakY h)) h)
  have h2 : Wf s2 := wf_ite (wf_foldl (fun _ _ k3 => wf_release k3) _ h1) h1
  exact wf_syncBars h2

theorem wf_barrierY {s : State} {e : Nat} {rd : RegNo} (h : Wf s) : Wf (barrierY s e rd) := by
  unfold barrierY
  extract_lets _ _ _ s1
  have h1 : Wf s1 := wf_setYard h
  exact wf_ite (wf_setEngine h) (wf_ite (wf_settleBars (wf_setEngine h)) (wf_setEngine h1))

theorem wf_barrierG {s : State} {e : Nat} {rd : RegNo} (h : Wf s) : Wf (barrierG s e rd) := by
  unfold barrierG
  extract_lets _ _ s1
  have h1 : Wf s1 := wf_withOwedG h
  exact wf_ite (wf_setEngine h) (wf_ite (wf_settleBars (wf_setEngine h)) (wf_setEngine h1))

theorem wf_barChanged {s : State} {y : Nat} (h : Wf s) : Wf (barChanged s y) := by
  unfold barChanged
  extract_lets _ _ s1 s2 _ s3 s4
  have h1 : Wf s1 := wf_ite (wf_breakY h) h
  have h2 : Wf s2 := wf_ite (wf_breakG h1) h1
  have h3 : Wf s3 := wf_setYard h2
  have h4 : Wf s4 := wf_withOwedG h3
  exact wf_settleBars h4

theorem wf_engineFault {s : State} {e cause pc val : Nat} (h : Wf s) : Wf (engineFault s e cause pc val) := by
  unfold engineFault
  extract_lets _ _ s1 s2 s3 _ s4 s5 s6
  have h1 : Wf s1 := wf_ite (wf_wr (wf_wr (wf_wr h))) h
  have h2 : Wf s2 := wf_setBit h1
  have h3 : Wf s3 := wf_endItem h2
  have h4 : Wf s4 := wf_setEngine h3
  have h5 : Wf s5 := wf_log h4
  have h6 : Wf s6 := wf_ite (wf_breakY h5) h5
  exact wf_ite (wf_breakG h6) h6

theorem wf_restartEngine {s : State} {e : Nat} (h : Wf s) : Wf (restartEngine s e) := by
  unfold restartEngine
  extract_lets _ s1
  have h1 : Wf s1 := wf_setBit h
  exact wf_ite (wf_setEngine h1) h1

theorem wf_restartEngines {s : State} {y m : Nat} (h : Wf s) : Wf (restartEngines s y m) := by
  unfold restartEngines
  exact wf_foldl (fun _ _ k1 => wf_restartEngine k1) _ h

theorem wf_doorbellYard {s : State} {y m : Nat} (h : Wf s) : Wf (doorbellYard s y m) := by
  unfold doorbellYard
  exact wf_foldl (fun _ _ k1 => wf_ite k1 (wf_setEngine k1)) _ h

theorem wf_runWrite {s : State} {y : Nat} {on : Bool} (h : Wf s) : Wf (runWrite s y on) := by
  unfold runWrite
  extract_lets _ s1 s2 s3
  have h1 : Wf s1 := wf_withPwr h
  have h2 : Wf s2 := wf_foldl (fun _ _ k4 => wf_endItem k4) _ h1
  have h3 : Wf s3 := wf_startEngines (wf_setBit h2)
  exact wf_ite (wf_ite h (wf_ite (wf_startEngines (wf_setBit h)) (wf_holdRun h))) (wf_ite (wf_settleBars h3) h1)

theorem wf_bcastGo {s : State} {o : Origin} (h : Wf s) : Wf (bcastGo s o) := by
  unfold bcastGo
  extract_lets
  exact wf_ite (wf_log (wf_setBit h)) (wf_setBit (wf_withBcast h))

theorem wf_bcastDone {s : State} (h : Wf s) : Wf (bcastDone s) := by
  unfold bcastDone
  split
  · exact h
  · extract_lets s1 s2 s3
    have h1 : Wf s1 := wf_foldl (fun _ _ k4 => wf_wrMemN k4) _ h
    have h2 : Wf s2 := wf_withBcast h1
    have h3 : Wf s3 := wf_setBit (wf_setBit h2)
    exact wf_log h3

/-! ### RegAccess -/

theorem wf_setHeld {s : State} {p : Party} {v : Option (Nat × Word)} (h : Wf s) : Wf (setHeld s p v) := by
  unfold setHeld
  extract_lets
  exact wf_withHeld h

theorem wf_ackStatus {s : State} {p : Party} {a : Nat} (h : Wf s) : Wf (ackStatus s p a) := by
  unfold ackStatus
  split
  · exact wf_ite (wf_withIrq h) (wf_withIrq1 h)
  · exact h

theorem wf_readReg {s : State} {p : Party} {a : Nat} (h : Wf s) : Wf (readReg s p a).2 := by
  unfold readReg
  extract_lets s1 _ s2 s3
  have h1 : Wf s1 := wf_touched h
  have h2 : Wf s2 := wf_ackStatus h1
  have h3 : Wf s3 := wf_ite (wf_mbxTake h2) h2
  split
  · dsimp only
    exact h1
  · split
    · dsimp only
      exact wf_setHeld h3
    · split
      · dsimp only
        exact wf_setHeld h3
      · dsimp only
        exact h3

theorem wf_readReg64 {s : State} {p : Party} {a : Nat} (h : Wf s) : Wf (readReg64 s p a).2 := by
  unfold readReg64
  extract_lets s1 s2 s3
  have h1 : Wf s1 := wf_touched h
  have h2 : Wf s2.2 := wf_readReg h
  have h3 : Wf s3.2 := wf_readReg h2
  split
  · split
    · dsimp only
      exact wf_ackStatus h1
    · dsimp only
      exact h1
  · dsimp only
    exact h3

theorem wf_snapLatch {s : State} (h : Wf s) : Wf (snapLatch s) := by
  unfold snapLatch
  extract_lets s1 s2
  have h1 : Wf s1 := wf_withSnap h
  have h2 : Wf s2 := wf_wr (wf_wr h1)
  exact wf_wr (wf_wr h2)

theorem wf_nvcEnd {s : State} {cause : Nat} (h : Wf s) : Wf (nvcEnd s cause) := by
  unfold nvcEnd
  extract_lets s1 s2
  have h1 : Wf s1 := wf_setBit (wf_withNvc h)
  have h2 : Wf s2 := wf_setF (wf_setBit h1)
  exact wf_raise (wf_ite h2 (wf_setBit h2))

theorem wf_nvcGo {s : State} (h : Wf s) : Wf (nvcGo s) := by
  unfold nvcGo
  extract_lets _ s1
  have h1 : Wf s1 := wf_setF h
  exact wf_ite h (wf_ite (wf_nvcEnd h1) (wf_setBit (wf_withNvc h1)))

theorem wf_nvcDone {s : State} {bad : Bool} (h : Wf s) : Wf (nvcDone s bad) := by
  unfold nvcDone
  split
  · exact h
  · extract_lets
    exact wf_ite (wf_nvcEnd (wf_wrMemN h)) (wf_nvcEnd (wf_wrMemN h))

theorem wf_noteChange {s : State} {o : Origin} {r : RegRow} {a : Nat} {old new : Word} {be : BitVec 4} (h : Wf s) :
    Wf (noteChange s o r a old new be) := by
  unfold noteChange
  exact wf_ite h (wf_regChange h)

theorem wf_storeReg {s : State} {o : Origin} {r : RegRow} {a : Nat} {v : Word} {be : BitVec 4} (h : Wf s) :
    Wf (storeReg s o r a v be) := by
  unfold storeReg
  extract_lets
  exact wf_noteChange (wf_wr h)

theorem wf_discarded {s : State} {o : Origin} {a : Nat} {be : BitVec 4} (h : Wf s) : Wf (discarded s o a be) := by
  unfold discarded
  extract_lets s1
  have h1 : Wf s1 := wf_regChange h
  exact wf_ite (wf_setBit h1) h1

theorem wf_actYard {s : State} {o : Origin} {r : RegRow} {a : Nat} {v t : Word} {be : BitVec 4} (h : Wf s) :
    Wf (actYard s o r a v t be) := by
  unfold actYard
  extract_lets _ _ _ s1 s2
  have h1 : Wf s1 := wf_ite h (wf_noteChange h)
  have h2 : Wf s2 := wf_ite (wf_runWrite h1) h
  exact wf_ite (wf_ite (wf_breakBars h2) h2) (wf_ite (wf_barChanged (wf_storeReg h)) (wf_ite (wf_doorbellYard h) (wf_ite
      (wf_restartEngines h) (wf_ite (wf_ite (wf_bcastGo h) h) (wf_ite (wf_ite (wf_keyGo h) h) (wf_storeReg h))))))

theorem wf_sealEnds {s : State} {n : Nat} (h : Wf s) : Wf (sealEnds s n) := by
  unfold sealEnds
  exact wf_ite (wf_recoveryFail h) h

theorem wf_actSec {s : State} {o : Origin} {r : RegRow} {a : Nat} {v t : Word} {be : BitVec 4} (h : Wf s) :
    Wf (actSec s o r a v t be) := by
  unfold actSec
  extract_lets _ _ _ _ s1 s2
  have h1 : Wf s1 := wf_ite (wf_wr h) h
  have h2 : Wf s2 := wf_ite (wf_extStateWrite h1) h1
  exact wf_ite (wf_ite (wf_sealEnds (wf_devGo h)) h) (wf_ite (wf_ite (wf_profCheck h) h) (wf_ite (wf_ite
      (wf_pgmLoad h) h) (wf_ite (wf_setBit (wf_storeReg h)) (wf_ite (wf_noteChange h2) (wf_storeReg h)))))

theorem wf_actBox {s : State} {o : Origin} {r : RegRow} {a : Nat} {v t : Word} {be : BitVec 4} (h : Wf s) :
    Wf (actBox s o r a v t be) := by
  unfold actBox
  extract_lets s1
  have h1 : Wf s1 := wf_storeReg h
  exact wf_ite (wf_ite (wf_snapLatch h) h) (wf_ite (wf_ite (wf_holdLock (wf_noteChange h)) h) (wf_ite (wf_ite
      (wf_mbxLock (wf_noteChange h)) h) (wf_ite (wf_ite (wf_tmpLock (wf_noteChange h)) h) (wf_ite (wf_ite
      (wf_nvcGo h1) h1) (wf_ite (wf_clkCtlWrite h) (wf_ite (wf_storeReg h) (wf_ite (wf_ite (wf_yardOpWrite h) h) (wf_ite
      (wf_ite (wf_sleepBegin h1) h1) (wf_ite (wf_withLcs h) (wf_storeReg h))))))))))

theorem wf_actUnit {s : State} {o : Origin} {c : Fin 2} {r : RegRow} {a : Nat} {v t : Word} {be : BitVec 4} (h : Wf s) :
    Wf (actUnit s o c r a v t be) := by
  unfold actUnit
  extract_lets _ s1
  have h1 : Wf s1 := wf_storeReg h
  exact wf_ite (wf_exmSubmit h) (wf_ite (wf_exmAbort h) (wf_ite (wf_ite (wf_exmEndWrite h) h) (wf_ite (wf_sigSubmit h)
      (wf_ite (wf_ite (wf_sigAbortMine h) h) (wf_ite (wf_foldl (fun _ _ k2 => wf_dropWith k2) _ h) (wf_ite (wf_ite
      (wf_mregGo h1) h1) (wf_storeReg h)))))))

theorem wf_actInst {s : State} {o : Origin} {r : RegRow} {a : Nat} {v t : Word} {be : BitVec 4} (h : Wf s) :
    Wf (actInst s o r a v t be) := by
  unfold actInst
  extract_lets _ _ _ _ s1 s2
  have h1 : Wf s1 := wf_ite (wf_enableWrite h) h
  have h2 : Wf s2 := wf_ite (wf_featuresWrite h1) h1
  exact wf_ite (wf_ite (wf_instReset h2) h2) (wf_ite (wf_doorbell h) (wf_ite (wf_doorbell h) (wf_ite (wf_doorbell h)
      (wf_ite (wf_doorbell h) (wf_ite (wf_dite (fun _ => wf_dirtyDb h) (fun _ => h)) (wf_ite (wf_cursorWrite h)
      (wf_storeReg h)))))))

theorem wf_actFix {s : State} {o : Origin} {r : RegRow} {a : Nat} {v : Word} {be : BitVec 4} (h : Wf s) :
    Wf (actFix s o r a v be) := by
  unfold actFix
  extract_lets s1
  have h1 : Wf s1 := wf_storeReg h
  exact wf_ite h1 (wf_wakeEngines h1)

theorem wf_acceptWrite {s : State} {p : Party} {r : RegRow} {a : Nat} {v : Word} {be : BitVec 4} (h : Wf s) :
    Wf (acceptWrite s p r a v be) := by
  unfold acceptWrite
  extract_lets _ _ s1
  have h1 : Wf s1 := wf_ite h (wf_storeReg h)
  exact wf_ite (wf_discarded h) (wf_ite h (wf_ite (wf_actYard h) (wf_ite (wf_actSec h) (wf_ite (wf_actInst h) (wf_ite
      (wf_actFix h) (wf_ite (wf_actUnit h) (wf_ite (wf_cursorWrite h) (wf_ite (wf_ite (wf_mtmGo h1) h1) (wf_actBox h)))))))))

theorem wf_viewDenied {s : State} {p : Party} {a : Nat} {v : Word} (h : Wf s) : Wf (viewDenied s p a v) := by
  unfold viewDenied
  exact wf_log (wf_inc h)

theorem wf_badOwner {s : State} {p : Party} {detail a : Nat} (h : Wf s) : Wf (badOwner s p detail a) := by
  unfold badOwner
  exact wf_badWriter (wf_inc h)

theorem wf_ownedWrite {s t : State} {p : Party} {r : RegRow} {a : Nat} {v : Word} {be : BitVec 4} (h : Wf s)
    (ht : ownedWrite s p r a v be = some t) : Wf t := by
  unfold ownedWrite at ht
  dsimp only at ht
  split at ht
  · split at ht
    · exact Option.some.inj ht ▸ wf_mbxDataWrite h
    split at ht
    · exact Option.some.inj ht ▸ wf_mbxCtlWrite h
    split at ht
    · exact Option.some.inj ht ▸ wf_ite (wf_badChannel h) (wf_ite (wf_mbxDone h) h)
    · exact absurd ht nofun
  split at ht
  · refine Option.some.inj ht ▸ ?_
    split
    · exact wf_ite (wf_ite (wf_ite (wf_agentReset h) h) (wf_storeReg h)) (wf_badOwner h)
    · exact wf_badOwner h
  split at ht
  · exact Option.some.inj ht ▸ wf_ite (wf_cursorWrite h) (wf_badOwner h)
  split at ht
  · split at ht
    · exact absurd ht nofun
    · exact Option.some.inj ht ▸ wf_badOwner h
  · exact absurd ht nofun

theorem wf_writeWord {s : State} {p : Party} {a : Nat} {v : Word} {be : BitVec 4} (h : Wf s) :
    Wf (writeWord s p a v be) := by
  unfold writeWord
  split
  · exact wf_ite h (wf_viewDenied h)
  split
  next t ht => exact wf_ownedWrite h ht
  · refine wf_ite ?_ (wf_viewDenied h)
    split
    · exact wf_ite (wf_noteChange (wf_setCore h)) (wf_acceptWrite h)
    · exact wf_ite h (wf_acceptWrite h)

theorem wf_setHeldLow {s : State} {p : Party} {v : Option (Nat × Word)} (h : Wf s) : Wf (setHeldLow s p v) := by
  unfold setHeldLow
  extract_lets
  exact wf_withHeldLow h

theorem wf_regWriteAt {s : State} {p : Party} {a : Nat} {v : Word} {be : BitVec 4} (h : Wf s) :
    Wf (regWrite.regWriteAt s p a v be) := by
  unfold regWrite.regWriteAt
  refine wf_ite (wf_viewDenied h) (wf_ite (wf_setHeldLow h) ?_)
  split
  · exact wf_writeWord (wf_writeWord (wf_setHeldLow h))
  · exact wf_writeWord h

theorem wf_regWrite {s : State} {p : Party} {a : Nat} {v : Word} {be : BitVec 4} (h : Wf s) : Wf (regWrite s p a v be) := by
  unfold regWrite
  extract_lets u
  have hu : Wf u := wf_touched h
  refine wf_ite hu (wf_ite hu ?_)
  split
  · exact wf_ite (wf_setBit hu) (wf_regWriteAt hu)
  · exact wf_ite hu (wf_regWriteAt hu)
  · exact wf_regWriteAt hu

theorem wf_regWrite64 {s : State} {p : Party} {a : Nat} {lo hi : Word} (h : Wf s) : Wf (regWrite64 s p a lo hi) := by
  unfold regWrite64
  extract_lets s1
  have h1 : Wf s1 := wf_touched h
  exact wf_ite (wf_ite h1 (wf_writeWord (wf_writeWord h1))) (wf_regWrite (wf_regWrite h))

end Sys2Proof.Machine
end

section
/-! O5: what keeps the canonical form: memory access and the Wemon instructions. -/

namespace Sys2Proof.Machine

/-! ### MemAccess -/

theorem wf_regLoad {s : State} {p : Party} {a n : Nat} (h : Wf s) : Wf (regLoad s p a n).2 := by
  unfold regLoad
  extract_lets s1 s2
  have h1 : Wf s1.2 := wf_readReg64 h
  have h2 : Wf s2.2 := wf_readReg h
  split
  · dsimp only
    exact h1
  · dsimp only
    exact h2

theorem wf_regStore {s : State} {p : Party} {a n v : Nat} (h : Wf s) : Wf (regStore s p a n v) := by
  unfold regStore
  exact wf_ite (wf_regWrite64 h) (wf_regWrite h)

theorem wf_scratchWrite {s : State} {l o : Nat} {bs : List Byte} (h : Wf s) : Wf (scratchWrite s l o bs) := by
  unfold scratchWrite
  extract_lets
  exact wf_setBank h

theorem wf_loadMem {s : State} {p : Proc} {a n : Nat} (h : Wf s) : Wf (loadMem s p a n).2 := by
  unfold loadMem
  split
  · extract_lets s1
    have h1 : Wf s1.2 := wf_regLoad h
    split
    · dsimp only
      exact h1
    · dsimp only
      exact h
  · extract_lets s2
    have h2 : Wf s2.2 := wf_regLoad h
    split
    · dsimp only
      exact h2
    · dsimp only
      exact h
  · dsimp only
    exact h

theorem wf_storeMem {s : State} {p : Proc} {a n : Nat} {v : Dword} (h : Wf s) : Wf (storeMem s p a n v) := by
  unfold storeMem
  split
  · exact wf_ite (wf_regStore h) (wf_wrMemN h)
  · exact wf_ite (wf_regStore h) (wf_wrMemN h)
  · exact wf_scratchWrite h

/-! ### Operands -/

theorem wf_setGreg {s : State} {p : Proc} {r : RegNo} {v : Dword} (h : Wf s) : Wf (setGreg s p r v) := by
  unfold setGreg
  split
  · extract_lets
    exact wf_setCore h
  · extract_lets
    exact wf_setEngine h
  · extract_lets
    split
    · exact wf_setLine h
    · exact h

theorem wf_setPc {s : State} {p : Proc} {a : Dword} (h : Wf s) : Wf (setPc s p a) := by
  unfold setPc
  split
  · extract_lets
    exact wf_setCore h
  · extract_lets
    exact wf_setEngine h
  · extract_lets
    split
    · exact wf_setLine h
    · exact h

theorem wf_advance {s : State} {p : Proc} (h : Wf s) : Wf (advance s p) := by
  unfold advance
  exact wf_setPc h

theorem wf_stateReg {s : State} {p : Proc} {num : Nat} {r : Dword × State} (h : Wf s) (hr : stateReg s p num = some r) :
    Wf r.2 := by
  unfold stateReg at hr
  split at hr
  · dsimp only at hr
    split at hr
    case h_10 => exact Option.some.inj hr ▸ wf_setCore (wf_free h)
    case h_11 => exact absurd hr nofun
    all_goals exact Option.some.inj hr ▸ h
  · dsimp only at hr
    split at hr
    · exact Option.some.inj hr ▸ wf_setEngine (wf_free h)
    · exact absurd hr nofun
  · exact absurd hr nofun

/-! ### Wemon -/

theorem wf_doubleTrap {s : State} {c : Fin 2} {cause : Nat} (h : Wf s) : Wf (doubleTrap s c cause) := by
  unfold doubleTrap
  extract_lets _ s1 s2
  have h1 : Wf s1 := wf_log h
  have h2 : Wf s2.2 := wf_free h1
  exact wf_settle (wf_unpark (wf_lockstepMismatch h2))

theorem wf_coreException {s : State} {c : Fin 2} {cause : Nat} {tval : Dword} (h : Wf s) :
    Wf (coreException s c cause tval) := by
  unfold coreException
  exact wf_ite (wf_doubleTrap h) (wf_setCore h)

theorem wf_raiseExc {s : State} {p : Proc} {cause : Nat} {val : Dword} (h : Wf s) : Wf (raiseExc s p cause val) := by
  unfold raiseExc
  split
  · exact wf_coreException h
  · exact wf_engineFault h
  · exact wf_routeException h

theorem wf_illegal {s : State} {p : Proc} {i : Wop} (h : Wf s) : Wf (illegal s p i) := by
  unfold illegal
  exact wf_raiseExc h

theorem wf_awake {s : State} {p : Proc} (h : Wf s) : Wf (awake s p) := by
  unfold awake
  split
  · extract_lets
    exact wf_ite (wf_setCore h) h
  · exact h

theorem wf_countStep {s : State} {p : Proc} (h : Wf s) : Wf (countStep s p) := by
  unfold countStep
  split
  · extract_lets
    split
    · extract_lets s1
      have h1 : Wf s1 := wf_setLine h
      exact wf_ite (wf_routeException h1) h1
    · exact h
  · exact h

theorem wf_execWop {p : Proc} {i : Wop} {body : State → State} {s : State} (hbody : ∀ y0, Wf y0 → Wf (body y0)) (hs : Wf s) :
    Wf (execWop p i body s) := by
  unfold execWop
  split
  · exact wf_raiseExc hs
  · exact wf_ite (wf_countStep (hbody _ hs)) (wf_illegal hs)

theorem wf_runWop {p : Proc} {i : Wop} {body : State → State} {s : State} (hbody : ∀ y0, Wf y0 → Wf (body y0)) (hs : Wf s) :
    Wf (runWop p i body s) := by
  unfold runWop
  exact wf_ite (wf_execWop hbody (wf_awake hs)) hs

theorem wf_result {s : State} {p : Proc} {rd : RegNo} {v : Dword} (h : Wf s) : Wf (result s p rd v) := by
  unfold result
  exact wf_advance (wf_setGreg h)

theorem wf_opRR {f : Dword → Dword → Dword} {p : Proc} {rd ra rb : RegNo} {s : State} (h : Wf s) :
    Wf (opRR f p rd ra rb s) := by
  unfold opRR
  exact wf_result h

theorem wf_opRI {f : Dword → Dword → Dword} {ext : BitVec 16 → Dword} {p : Proc} {rd ra : RegNo} {imm : BitVec 16}
    {s : State} (h : Wf s) :
    Wf (opRI f ext p rd ra imm s) := by
  unfold opRI
  exact wf_result h

theorem wf_opRN {f : Dword → Dword → Dword} {p : Proc} {rd ra : RegNo} {n : BitVec 6} {s : State} (h : Wf s) :
    Wf (opRN f p rd ra n s) := by
  unfold opRN
  exact wf_result h

theorem wf_opSeth {p : Proc} {rd : RegNo} {hw : BitVec 2} {imm : BitVec 16} {s : State} (h : Wf s) :
    Wf (opSeth p rd hw imm s) := by
  unfold opSeth
  exact wf_result h

theorem wf_opInsh {p : Proc} {rd : RegNo} {hw : BitVec 2} {imm : BitVec 16} {s : State} (h : Wf s) :
    Wf (opInsh p rd hw imm s) := by
  unfold opInsh
  exact wf_result h

theorem wf_opExtr {p : Proc} {rd ra : RegNo} {pos lenM1 : BitVec 6} {s : State} (h : Wf s) :
    Wf (opExtr p rd ra pos lenM1 s) := by
  unfold opExtr
  exact wf_result h

theorem wf_opLoad {n : Nat} {p : Proc} {rd ra : RegNo} {imm : BitVec 16} {s : State} (h : Wf s) :
    Wf (opLoad n p rd ra imm s) := by
  unfold opLoad
  extract_lets _ s1
  have h1 : Wf s1.2 := wf_loadMem (wf_advance h)
  split
  · exact wf_raiseExc h
  · exact wf_ite h (wf_setGreg h1)

theorem wf_opStore {n : Nat} {p : Proc} {rs ra : RegNo} {imm : BitVec 16} {s : State} (h : Wf s) :
    Wf (opStore n p rs ra imm s) := by
  unfold opStore
  extract_lets
  split
  · exact wf_raiseExc h
  · exact wf_storeMem (wf_advance h)

theorem wf_opAtomic {f : Dword → Option Dword} {p : Proc} {rd ra : RegNo} {s : State} (h : Wf s) :
    Wf (opAtomic f p rd ra s) := by
  unfold opAtomic
  extract_lets _ s1 s2
  have h1 : Wf s1.2 := wf_loadMem (wf_advance h)
  have h2 : Wf s2 := wf_setGreg h1
  split
  · exact wf_raiseExc h
  · refine wf_ite h ?_
    split
    · exact wf_storeMem h2
    · exact h2

theorem wf_opAmoadd {p : Proc} {rd ra rb : RegNo} {s : State} (h : Wf s) : Wf (opAmoadd p rd ra rb s) := by
  unfold opAmoadd
  exact wf_opAtomic h

theorem wf_opAmoswap {p : Proc} {rd ra rb : RegNo} {s : State} (h : Wf s) : Wf (opAmoswap p rd ra rb s) := by
  unfold opAmoswap
  exact wf_opAtomic h

theorem wf_opCas {p : Proc} {rd ra rb : RegNo} {s : State} (h : Wf s) : Wf (opCas p rd ra rb s) := by
  unfold opCas
  exact wf_opAtomic h

theorem wf_opFence {p : Proc} {s : State} (h : Wf s) : Wf (opFence p s) := by
  unfold opFence
  exact wf_advance h

theorem wf_opBranch {f : Dword → Dword → Bool} {p : Proc} {ra rb : RegNo} {off : BitVec 16} {s : State} (h : Wf s) :
    Wf (opBranch f p ra rb off s) := by
  unfold opBranch
  exact wf_ite (wf_setPc h) (wf_advance h)

theorem wf_opJmp {p : Proc} {off : BitVec 26} {s : State} (h : Wf s) : Wf (opJmp p off s) := by
  unfold opJmp
  exact wf_setPc h

theorem wf_opCall {p : Proc} {off : BitVec 26} {s : State} (h : Wf s) : Wf (opCall p off s) := by
  unfold opCall
  extract_lets
  exact wf_setPc (wf_setGreg h)

theorem wf_opJr {p : Proc} {rd ra : RegNo} {imm : BitVec 16} {s : State} (h : Wf s) : Wf (opJr p rd ra imm s) := by
  unfold opJr
  extract_lets
  exact wf_setPc (wf_setGreg h)

theorem wf_opMfs {p : Proc} {rd : RegNo} {num : BitVec 12} {s : State} (h : Wf s) : Wf (opMfs p rd num s) := by
  unfold opMfs
  split
  next r hr => exact wf_result (wf_stateReg h hr)
  · exact wf_illegal h

theorem wf_opMts {p : Proc} {rs : RegNo} {num : BitVec 12} {s : State} (h : Wf s) : Wf (opMts p rs num s) := by
  unfold opMts
  split
  · split
    · exact wf_advance (wf_setCore h)
    · exact wf_illegal h
  · exact wf_illegal h

theorem wf_opIdent {p : Proc} {rd : RegNo} {sel : BitVec 4} {s : State} (h : Wf s) : Wf (opIdent p rd sel s) := by
  unfold opIdent
  split
  · exact wf_result h
  · exact wf_illegal h

theorem wf_opTrap {p : Proc} {code : BitVec 5} {s : State} (h : Wf s) : Wf (opTrap p code s) := by
  unfold opTrap
  split <;> exact wf_raiseExc h

theorem wf_opEret {p : Proc} {s : State} (h : Wf s) : Wf (opEret p s) := by
  unfold opEret
  split
  · exact wf_ite (wf_setCore h) (wf_illegal h)
  · exact wf_illegal h

theorem wf_opPark {p : Proc} {s : State} (h : Wf s) : Wf (opPark p s) := by
  unfold opPark
  extract_lets
  split
  · extract_lets
    exact wf_ite (wf_advance h) (wf_setCore (wf_advance h))
  · extract_lets
    exact wf_ite (wf_advance h) (wf_setEngine (wf_advance h))
  · exact h

theorem wf_takeInterrupt {s : State} {c : Fin 2} (h : Wf s) : Wf (takeInterrupt s c) := by
  unfold takeInterrupt
  extract_lets s1
  have h1 : Wf s1.2 := wf_free h
  split
  · exact h
  · exact wf_setCore h1

theorem wf_opFrame {f : FrameView → Nat} {p : Proc} {rd : RegNo} {s : State} (h : Wf s) : Wf (opFrame f p rd s) := by
  unfold opFrame
  split
  · exact wf_result h
  · exact h

theorem wf_opFdata {p : Proc} {rd ra : RegNo} {s : State} (h : Wf s) : Wf (opFdata p rd ra s) := by
  unfold opFdata
  split
  · exact wf_result h
  · exact h

theorem wf_opRlook {p : Proc} {rd ra : RegNo} {s : State} (h : Wf s) : Wf (opRlook p rd ra s) := by
  unfold opRlook
  split
  · exact wf_result h
  · exact h

theorem wf_opCnt {p : Proc} {k : RegNo} {s : State} (h : Wf s) : Wf (opCnt p k s) := by
  unfold opCnt
  split
  · exact wf_advance (wf_inc h)
  · exact h

theorem wf_opVerdict {v : Nat} {p : Proc} {ra : RegNo} {reason : BitVec 8} {s : State} (h : Wf s) :
    Wf (opVerdict v p ra reason s) := by
  unfold opVerdict
  split
  · exact wf_routeVerdict h
  · exact h

theorem wf_sectionBody {p : Proc} {x1 : Wop} {s : State} (h : Wf s) : Wf (sectionBody p x1 s) := by
  unfold sectionBody
  split
  · exact wf_opRR h
  · exact wf_opRR h
  · exact wf_opRR h
  · exact wf_opRR h
  · exact wf_opRR h
  · exact wf_opRR h
  · exact wf_opRR h
  · exact wf_opRR h
  · exact wf_opRI h
  · exact wf_opRI h
  · exact wf_opRI h
  · exact wf_opRI h
  · exact wf_opRN h
  · exact wf_opRN h
  · exact wf_opRI h
  · exact wf_opSeth h
  · exact wf_opInsh h
  · exact wf_opExtr h
  · exact wf_opLoad h
  · exact wf_opLoad h
  · exact wf_opLoad h
  · exact wf_opLoad h
  · exact wf_opStore h
  · exact wf_opStore h
  · exact wf_opStore h
  · exact wf_opStore h
  · exact wf_opBranch h
  · exact wf_opBranch h
  · exact wf_opBranch h
  · exact wf_opBranch h
  · exact wf_opJmp h
  · exact wf_opIdent h
  · exact wf_opVerdict h
  · exact wf_opVerdict h
  · exact wf_opVerdict h
  · exact wf_opVerdict h
  · exact wf_opVerdict h
  · exact wf_opFrame h
  · exact wf_opFrame h
  · exact wf_opFrame h
  · exact wf_opFrame h
  · exact wf_opFdata h
  · exact wf_opRlook h
  · exact wf_opCnt h
  · exact wf_illegal h

theorem wf_routeStep {s : State} {n : Fin 32} (h : Wf s) : Wf (routeStep s n) := by
  unfold routeStep
  extract_lets
  split
  · exact wf_runWop (fun _ k1 => wf_sectionBody k1) h
  · exact wf_ite (wf_routeException h) h

theorem wf_runRoute {k : Nat} {s : State} {n : Fin 32} (h : Wf s) : Wf (runRoute k s n) := by
  induction k generalizing s with
  | zero =>
    rw [runRoute]
    exact h
  | succ k ih =>
    rw [runRoute]
    exact wf_ite (ih (wf_routeStep h)) h

theorem wf_finishRoute {s : State} {n : Fin 32} (h : Wf s) : Wf (finishRoute s n) := by
  unfold finishRoute
  exact wf_runRoute h

/-! ### Arith -/

theorem wf_execAdd {p : Proc} {rd ra rb : RegNo} {s : State} (h : Wf s) : WfOut (execAdd p rd ra rb s) := by
  unfold execAdd
  exact wf_act h (fun _ k1 => wf_runWop (fun _ k2 => wf_opRR k2) k1)

theorem wf_execSub {p : Proc} {rd ra rb : RegNo} {s : State} (h : Wf s) : WfOut (execSub p rd ra rb s) := by
  unfold execSub
  exact wf_act h (fun _ k1 => wf_runWop (fun _ k2 => wf_opRR k2) k1)

theorem wf_execAnd {p : Proc} {rd ra rb : RegNo} {s : State} (h : Wf s) : WfOut (execAnd p rd ra rb s) := by
  unfold execAnd
  exact wf_act h (fun _ k1 => wf_runWop (fun _ k2 => wf_opRR k2) k1)

theorem wf_execOr {p : Proc} {rd ra rb : RegNo} {s : State} (h : Wf s) : WfOut (execOr p rd ra rb s) := by
  unfold execOr
  exact wf_act h (fun _ k1 => wf_runWop (fun _ k2 => wf_opRR k2) k1)

theorem wf_execXor {p : Proc} {rd ra rb : RegNo} {s : State} (h : Wf s) : WfOut (execXor p rd ra rb s) := by
  unfold execXor
  exact wf_act h (fun _ k1 => wf_runWop (fun _ k2 => wf_opRR k2) k1)

theorem wf_execShl {p : Proc} {rd ra rb : RegNo} {s : State} (h : Wf s) : WfOut (execShl p rd ra rb s) := by
  unfold execShl
  exact wf_act h (fun _ k1 => wf_runWop (fun _ k2 => wf_opRR k2) k1)

theorem wf_execShr {p : Proc} {rd ra rb : RegNo} {s : State} (h : Wf s) : WfOut (execShr p rd ra rb s) := by
  unfold execShr
  exact wf_act h (fun _ k1 => wf_runWop (fun _ k2 => wf_opRR k2) k1)

theorem wf_execSar {p : Proc} {rd ra rb : RegNo} {s : State} (h : Wf s) : WfOut (execSar p rd ra rb s) := by
  unfold execSar
  exact wf_act h (fun _ k1 => wf_runWop (fun _ k2 => wf_opRR k2) k1)

theorem wf_execSlt {p : Proc} {rd ra rb : RegNo} {s : State} (h : Wf s) : WfOut (execSlt p rd ra rb s) := by
  unfold execSlt
  exact wf_act h (fun _ k1 => wf_runWop (fun _ k2 => wf_opRR k2) k1)

theorem wf_execSltu {p : Proc} {rd ra rb : RegNo} {s : State} (h : Wf s) : WfOut (execSltu p rd ra rb s) := by
  unfold execSltu
  exact wf_act h (fun _ k1 => wf_runWop (fun _ k2 => wf_opRR k2) k1)

theorem wf_execMul {p : Proc} {rd ra rb : RegNo} {s : State} (h : Wf s) : WfOut (execMul p rd ra rb s) := by
  unfold execMul
  exact wf_act h (fun _ k1 => wf_runWop (fun _ k2 => wf_opRR k2) k1)

theorem wf_execMulhu {p : Proc} {rd ra rb : RegNo} {s : State} (h : Wf s) : WfOut (execMulhu p rd ra rb s) := by
  unfold execMulhu
  exact wf_act h (fun _ k1 => wf_runWop (fun _ k2 => wf_opRR k2) k1)

theorem wf_execDivu {p : Proc} {rd ra rb : RegNo} {s : State} (h : Wf s) : WfOut (execDivu p rd ra rb s) := by
  unfold execDivu
  exact wf_act h (fun _ k1 => wf_runWop (fun _ k2 => wf_opRR k2) k1)

theorem wf_execRemu {p : Proc} {rd ra rb : RegNo} {s : State} (h : Wf s) : WfOut (execRemu p rd ra rb s) := by
  unfold execRemu
  exact wf_act h (fun _ k1 => wf_runWop (fun _ k2 => wf_opRR k2) k1)

theorem wf_execAddi {p : Proc} {rd ra : RegNo} {imm : BitVec 16} {s : State} (h : Wf s) :
    WfOut (execAddi p rd ra imm s) := by
  unfold execAddi
  exact wf_act h (fun _ k1 => wf_runWop (fun _ k2 => wf_opRI k2) k1)

theorem wf_execAndi {p : Proc} {rd ra : RegNo} {imm : BitVec 16} {s : State} (h : Wf s) :
    WfOut (execAndi p rd ra imm s) := by
  unfold execAndi
  exact wf_act h (fun _ k1 => wf_runWop (fun _ k2 => wf_opRI k2) k1)

theorem wf_execOri {p : Proc} {rd ra : RegNo} {imm : BitVec 16} {s : State} (h : Wf s) : WfOut (execOri p rd ra imm s) := by
  unfold execOri
  exact wf_act h (fun _ k1 => wf_runWop (fun _ k2 => wf_opRI k2) k1)

theorem wf_execXori {p : Proc} {rd ra : RegNo} {imm : BitVec 16} {s : State} (h : Wf s) :
    WfOut (execXori p rd ra imm s) := by
  unfold execXori
  exact wf_act h (fun _ k1 => wf_runWop (fun _ k2 => wf_opRI k2) k1)

theorem wf_execShli {p : Proc} {rd ra : RegNo} {n : BitVec 6} {s : State} (h : Wf s) : WfOut (execShli p rd ra n s) := by
  unfold execShli
  exact wf_act h (fun _ k1 => wf_runWop (fun _ k2 => wf_opRN k2) k1)

theorem wf_execShri {p : Proc} {rd ra : RegNo} {n : BitVec 6} {s : State} (h : Wf s) : WfOut (execShri p rd ra n s) := by
  unfold execShri
  exact wf_act h (fun _ k1 => wf_runWop (fun _ k2 => wf_opRN k2) k1)

theorem wf_execSari {p : Proc} {rd ra : RegNo} {n : BitVec 6} {s : State} (h : Wf s) : WfOut (execSari p rd ra n s) := by
  unfold execSari
  exact wf_act h (fun _ k1 => wf_runWop (fun _ k2 => wf_opRN k2) k1)

theorem wf_execSlti {p : Proc} {rd ra : RegNo} {imm : BitVec 16} {s : State} (h : Wf s) :
    WfOut (execSlti p rd ra imm s) := by
  unfold execSlti
  exact wf_act h (fun _ k1 => wf_runWop (fun _ k2 => wf_opRI k2) k1)

theorem wf_execSltui {p : Proc} {rd ra : RegNo} {imm : BitVec 16} {s : State} (h : Wf s) :
    WfOut (execSltui p rd ra imm s) := by
  unfold execSltui
  exact wf_act h (fun _ k1 => wf_runWop (fun _ k2 => wf_opRI k2) k1)

theorem wf_execSeth {p : Proc} {rd : RegNo} {hw : BitVec 2} {imm : BitVec 16} {s : State} (h : Wf s) :
    WfOut (execSeth p rd hw imm s) := by
  unfold execSeth
  exact wf_act h (fun _ k1 => wf_runWop (fun _ k2 => wf_opSeth k2) k1)

theorem wf_execInsh {p : Proc} {rd : RegNo} {hw : BitVec 2} {imm : BitVec 16} {s : State} (h : Wf s) :
    WfOut (execInsh p rd hw imm s) := by
  unfold execInsh
  exact wf_act h (fun _ k1 => wf_runWop (fun _ k2 => wf_opInsh k2) k1)

theorem wf_execExtr {p : Proc} {rd ra : RegNo} {pos lenM1 : BitVec 6} {s : State} (h : Wf s) :
    WfOut (execExtr p rd ra pos lenM1 s) := by
  unfold execExtr
  exact wf_act h (fun _ k1 => wf_runWop (fun _ k2 => wf_opExtr k2) k1)

/-! ### FwOps -/

theorem wf_logRequest {s : State} {q : Sender} {code : Nat} (h : Wf s) : Wf (logRequest s q code) := by
  unfold logRequest
  extract_lets
  exact wf_ite (wf_log h) h

theorem wf_refuseRequest {s : State} {q : Sender} (h : Wf s) : Wf (refuseRequest s q) := by
  unfold refuseRequest
  split
  · extract_lets
    exact wf_badWriter h
  · exact h

theorem wf_request {c : Request} {code : Nat} {q : Sender} {s : State} {f : State → State}
    (hs : Wf s) (hf : ∀ y0, Wf y0 → Wf (f y0)) :
    WfOut (request c code q s f) := by
  unfold request
  exact wf_actSettle hs (fun _ k1 => wf_ite (wf_onBehalf (wf_logRequest k1) hf) (wf_ite (wf_refuseRequest k1) (wf_ite
      (wf_withMbx k1) k1)))

theorem wf_takeDelayed {s : State} {d : Delayed} (h : Wf s) : Wf (takeDelayed s d) := by
  unfold takeDelayed
  extract_lets _ _ s1
  have h1 : Wf s1 := wf_withMbx h
  exact wf_ite (wf_fwLog (wf_inc h1)) h1

theorem wf_readFailed {s : State} {q : Sender} {w0 addr kind : Nat} (h : Wf s) : Wf (readFailed s q w0 addr kind) := by
  unfold readFailed
  exact wf_answer (wf_dmaErrorEvent h)

theorem wf_confirmTrial {s : State} {c : Nat} (h : Wf s) : Wf (confirmTrial s c).1 := by
  unfold confirmTrial
  extract_lets
  exact wf_fwCommit h

theorem wf_confirmReady {s : State} (h : Wf s) : Wf (confirmReady s) := by
  unfold confirmReady
  exact wf_foldl (fun _ _ k1 => wf_ite (wf_confirmTrial k1) k1) _ h

theorem wf_revertTrial {s : State} {c : Nat} (h : Wf s) : Wf (revertTrial s c) := by
  unfold revertTrial
  extract_lets
  split
  · exact h
  · extract_lets
    exact wf_ite (wf_fwCommit h) h

theorem wf_recoveryBegin {s : State} {c source x : Nat} (h : Wf s) : Wf (recoveryBegin s c source x).1 := by
  unfold recoveryBegin
  extract_lets _ s1 s2 s3
  have h1 : Wf s1.1 := wf_fwCommit h
  have h2 : Wf s2 := wf_fwL h1
  have h3 : Wf s3 := wf_compChanges (wf_setCompState (wf_wr h2))
  split
  · dsimp only
    exact wf_fwLog h3
  · exact h1

theorem wf_slotFail {s : State} {c k x cause : Nat} (h : Wf s) : Wf (slotFail s c k x cause) := by
  unfold slotFail
  extract_lets s1 s2
  have h1 : Wf s1 := wf_setF h
  have h2 : Wf s2 := wf_fwLog h1
  exact wf_ite h (wf_withUpd h2)

theorem wf_putCheck {s : State} {k : Check} (h : Wf s) : Wf (putCheck s k) := by
  unfold putCheck
  exact wf_mapFw h

theorem wf_dropCheck {s : State} {c : Nat} (h : Wf s) : Wf (dropCheck s c) := by
  unfold dropCheck
  exact wf_mapFw h

theorem wf_freeStandby {s : State} {e : CompEntry} (h : Wf s) : Wf (freeStandby s e) := by
  unfold freeStandby
  exact wf_foldl (fun _ _ k1 => wf_freeBank k1) _ h

theorem wf_verifyFail {s : State} {e : CompEntry} {k x cause : Nat} (h : Wf s) : Wf (verifyFail s e k x cause) := by
  unfold verifyFail
  extract_lets _ s1 s2 s3
  have h1 : Wf s1 := wf_mapFw h
  have h2 : Wf s2 := wf_freeStandby h1
  have h3 : Wf s3 := wf_slotFail h2
  refine wf_ite (wf_recoveryFail (wf_freeStandby h1)) ?_
  split
  · exact wf_ite (wf_dropCheck (wf_mapFw h2)) (wf_ite (wf_heldNoSlot (wf_dropCheck h3)) (wf_putCheck h3))
  · exact wf_ite (wf_mapFw h2) (wf_slotFail h2)

theorem wf_imageMismatch {s : State} {n : Nat} (h : Wf s) : Wf (imageMismatch s n) := by
  unfold imageMismatch
  split
  · exact wf_verifyFail h
  · exact h

theorem wf_imageMatched {s : State} {n : Nat} (h : Wf s) : Wf (imageMatched s n) := by
  unfold imageMatched
  extract_lets s1
  have h1 : Wf s1 := wf_mapFw h
  split
  · exact h
  · split
    · exact wf_putCheck h1
    · exact h1

theorem wf_identFail {s : State} {n kind : Nat} {bytes : List Byte} (h : Wf s) : Wf (identFail s n kind bytes) := by
  unfold identFail
  extract_lets _ s1 s2
  have h1 : Wf s1 := wf_setLine h
  have h2 : Wf s2 := wf_secLog (wf_setBit h1)
  exact wf_foldl (fun _ _ k3 => wf_ite (wf_verifyFail k3) (wf_ite k3 (wf_heldNoSlot (wf_dropCheck (wf_foldl
      (fun _ _ k4 => wf_slotFail k4) _ k3))))) _ h2

theorem wf_identRead {s : State} {n op : Nat} {bytes : List Byte} (h : Wf s) : Wf (identRead s n op bytes) := by
  unfold identRead
  extract_lets
  exact wf_ite h (wf_ite (wf_setLine h) (wf_identFail h))

theorem wf_identSfdp {s : State} {n : Nat} {bytes : List Byte} (h : Wf s) : Wf (identSfdp s n bytes) := by
  unfold identSfdp
  extract_lets
  exact wf_ite (wf_ite (wf_mapFw (wf_setBit h)) h) (wf_identFail h)

theorem wf_unlockTry {s : State} (h : Wf s) : Wf (unlockTry s) := by
  unfold unlockTry
  extract_lets
  split
  · exact h
  · extract_lets s1 s2
    have h1 : Wf s1.1 := wf_fwCommit (wf_withTmp h)
    have h2 : Wf s2 := by
      unfold s2
      split
      · exact wf_useTicket h1
      · exact h1
    exact wf_ite h (wf_answer h2)

/-! ### AttRows -/

theorem wf_attRow {t : Fin 6} {s : State} {f : State → State} (hs : Wf s) (hf : ∀ y0, Wf y0 → Wf (f y0)) :
    WfOut (attRow t s f) := by
  unfold attRow
  exact wf_actSettle hs (fun _ k1 => wf_ite (hf _ k1) k1)

theorem wf_execSetEndpointId {t : Fin 6} {src eid : Byte} {s : State} (h : Wf s) :
    WfOut (execSetEndpointId t src eid s) := by
  unfold execSetEndpointId
  exact wf_attRow h (fun _ k1 => wf_setEid k1)

theorem wf_mctpControl {t : Fin 6} {src cmd : Nat} {s : State} {data : State → List Byte} (h : Wf s) :
    WfOut (mctpControl t src cmd s data) := by
  unfold mctpControl
  exact wf_attRow h (fun _ k1 => wf_ite k1 (wf_mctpAnswer k1))

theorem wf_execGetEndpointId {t : Fin 6} {src : Byte} {s : State} (h : Wf s) : WfOut (execGetEndpointId t src s) := by
  unfold execGetEndpointId
  exact wf_mctpControl h

theorem wf_execGetMctpVersionSupport {t : Fin 6} {src type : Byte} {s : State} (h : Wf s) :
    WfOut (execGetMctpVersionSupport t src type s) := by
  unfold execGetMctpVersionSupport
  exact wf_mctpControl h

theorem wf_execGetMessageTypeSupport {t : Fin 6} {src : Byte} {s : State} (h : Wf s) :
    WfOut (execGetMessageTypeSupport t src s) := by
  unfold execGetMessageTypeSupport
  exact wf_mctpControl h

theorem wf_execMctpPacket {t : Fin 6} {src : Byte} {tag : BitVec 3} {seq : BitVec 2} {sof eof : Bool} {bytes : List Byte}
    {s : State} (h : Wf s) :
    WfOut (execMctpPacket t src tag seq sof eof bytes s) := by
  unfold execMctpPacket
  exact wf_attRow h (fun _ k1 => wf_mctpPacket k1)

theorem wf_execGetVersion {t : Fin 6} {eid : Byte} {msg : List Byte} {us : Word} {s : State} (h : Wf s) :
    WfOut (execGetVersion t eid msg us s) := by
  unfold execGetVersion
  exact wf_attRow h (fun _ k1 => wf_getVersion k1)

theorem wf_execGetCapabilities {t : Fin 6} {eid : Byte} {ses : Option Word} {msg : List Byte} {us : Word} {s : State}
    (h : Wf s) :
    WfOut (execGetCapabilities t eid ses msg us s) := by
  unfold execGetCapabilities
  exact wf_attRow h (fun _ k1 => wf_getCapabilities k1)

theorem wf_execNegotiateAlgorithms {t : Fin 6} {eid : Byte} {ses : Option Word} {msg : List Byte} {supported : Bool}
    {us : Word} {s : State} (h : Wf s) :
    WfOut (execNegotiateAlgorithms t eid ses msg supported us s) := by
  unfold execNegotiateAlgorithms
  exact wf_attRow h (fun _ k1 => wf_negotiateAlgorithms k1)

theorem wf_execGetDigests {t : Fin 6} {eid : Byte} {ses : Option Word} {msg : List Byte} {us : Word} {s : State} (h : Wf s) :
    WfOut (execGetDigests t eid ses msg us s) := by
  unfold execGetDigests
  exact wf_attRow h (fun _ k1 => wf_getDigests k1)

theorem wf_execGetCertificate {t : Fin 6} {eid : Byte} {ses : Option Word} {msg : List Byte} {us : Word} {s : State}
    (h : Wf s) :
    WfOut (execGetCertificate t eid ses msg us s) := by
  unfold execGetCertificate
  exact wf_attRow h (fun _ k1 => wf_getCertificate k1)

theorem wf_execChallenge {t : Fin 6} {eid : Byte} {ses : Option Word} {msg : List Byte} {us : Word} {s : State} (h : Wf s) :
    WfOut (execChallenge t eid ses msg us s) := by
  unfold execChallenge
  exact wf_attRow h (fun _ k1 => wf_challenge k1)

theorem wf_execGetMeasurements {t : Fin 6} {eid : Byte} {ses : Option Word} {msg : List Byte} {us : Word} {s : State}
    (h : Wf s) :
    WfOut (execGetMeasurements t eid ses msg us s) := by
  unfold execGetMeasurements
  exact wf_attRow h (fun _ k1 => wf_getMeasurements k1)

theorem wf_execKeyExchange {t : Fin 6} {eid : Byte} {ses : Option Word} {msg : List Byte} {us : Word} {s : State}
    (h : Wf s) :
    WfOut (execKeyExchange t eid ses msg us s) := by
  unfold execKeyExchange
  exact wf_attRow h (fun _ k1 => wf_keyExchange k1)

theorem wf_execFinish {t : Fin 6} {eid : Byte} {ses : Option Word} {msg : List Byte} {us : Word} {s : State} (h : Wf s) :
    WfOut (execFinish t eid ses msg us s) := by
  unfold execFinish
  exact wf_attRow h (fun _ k1 => wf_finish k1)

theorem wf_execHeartbeat {t : Fin 6} {eid : Byte} {ses : Option Word} {msg : List Byte} {us : Word} {s : State} (h : Wf s) :
    WfOut (execHeartbeat t eid ses msg us s) := by
  unfold execHeartbeat
  exact wf_attRow h (fun _ k1 => wf_heartbeat k1)

theorem wf_execEndSession {t : Fin 6} {eid : Byte} {ses : Option Word} {msg : List Byte} {us : Word} {s : State} (h : Wf s) :
    WfOut (execEndSession t eid ses msg us s) := by
  unfold execEndSession
  exact wf_attRow h (fun _ k1 => wf_endSessionReq k1)

theorem wf_importCommit {s : State} (h : Wf s) : Wf (importCommit s) := by
  unfold importCommit
  extract_lets
  split
  · exact h
  · split
    · exact wf_withAtt h
    · extract_lets s1 s2 _ s3
      have h1 : Wf s1.1 := wf_fwCommit h
      have h2 : Wf s2 := h1
      have h3 : Wf s3 := wf_attLog (wf_withAtt h2)
      exact wf_ite (wf_importFinish (wf_ldgLog h1)) (wf_ite h1 (wf_vendorReady h3))

theorem wf_execRespondIfReady {t : Fin 6} {eid : Byte} {ses : Option Word} {msg : List Byte} {us : Word} {s : State}
    (h : Wf s) :
    WfOut (execRespondIfReady t eid ses msg us s) := by
  unfold execRespondIfReady
  exact wf_attRow h (fun _ k1 => wf_respondIfReady (wf_importCommit k1))

theorem wf_execSessionTimeout {id : Word} {s : State} (h : Wf s) : WfOut (execSessionTimeout id s) := by
  unfold execSessionTimeout
  exact wf_actSettle h (fun _ k1 => wf_endSession k1)

theorem wf_execSecuredMessage {t : Fin 6} {eid : Byte} {id : Word} {declared : Nat} {cipher : List Byte} {s : State}
    (h : Wf s) :
    WfOut (execSecuredMessage t eid id declared cipher s) := by
  unfold execSecuredMessage
  exact wf_attRow h (fun _ k1 => wf_securedMessage k1)

theorem wf_execPreparedResponseExpiry {t : Fin 6} {eid : Byte} {s : State} (h : Wf s) :
    WfOut (execPreparedResponseExpiry t eid s) := by
  unfold execPreparedResponseExpiry
  exact wf_actSettle h (fun _ k1 => wf_mapCtx k1)

theorem wf_execGetPqcChain {t : Fin 6} {eid : Byte} {ses : Option Word} {msg : List Byte} {us : Word} {s : State}
    (h : Wf s) :
    WfOut (execGetPqcChain t eid ses msg us s) := by
  unfold execGetPqcChain
  exact wf_attRow h (fun _ k1 => wf_getPqcChain k1)

theorem wf_execPqcAttest {t : Fin 6} {eid : Byte} {ses : Option Word} {msg : List Byte} {us : Word} {s : State} (h : Wf s) :
    WfOut (execPqcAttest t eid ses msg us s) := by
  unfold execPqcAttest
  exact wf_attRow h (fun _ k1 => wf_pqcAttest k1)

theorem wf_execGetReport {t : Fin 6} {eid : Byte} {ses : Option Word} {msg : List Byte} {us : Word} {s : State} (h : Wf s) :
    WfOut (execGetReport t eid ses msg us s) := by
  unfold execGetReport
  exact wf_attRow h (fun _ k1 => wf_getReport k1)

theorem wf_execCustodyExport {t : Fin 6} {eid : Byte} {ses : Option Word} {msg : List Byte} {us : Word} {s : State}
    (h : Wf s) :
    WfOut (execCustodyExport t eid ses msg us s) := by
  unfold execCustodyExport
  exact wf_attRow h (fun _ k1 => wf_custodyExport k1)

theorem wf_execPutObject {t : Fin 6} {eid : Byte} {ses : Option Word} {msg : List Byte} {us : Word} {s : State} (h : Wf s) :
    WfOut (execPutObject t eid ses msg us s) := by
  unfold execPutObject
  exact wf_attRow h (fun _ k1 => wf_putObjectReq k1)

theorem wf_execCustodyImport {t : Fin 6} {eid : Byte} {ses : Option Word} {msg : List Byte} {us : Word} {s : State}
    (h : Wf s) :
    WfOut (execCustodyImport t eid ses msg us s) := by
  unfold execCustodyImport
  exact wf_attRow h (fun _ k1 => wf_importCommit (wf_custodyImport k1))

theorem wf_execGetObject {t : Fin 6} {eid : Byte} {ses : Option Word} {msg : List Byte} {us : Word} {s : State} (h : Wf s) :
    WfOut (execGetObject t eid ses msg us s) := by
  unfold execGetObject
  exact wf_attRow h (fun _ k1 => wf_getObject k1)

theorem wf_execReleaseObject {t : Fin 6} {eid : Byte} {ses : Option Word} {msg : List Byte} {us : Word} {s : State}
    (h : Wf s) :
    WfOut (execReleaseObject t eid ses msg us s) := by
  unfold execReleaseObject
  exact wf_attRow h (fun _ k1 => wf_releaseObject k1)

theorem wf_execObjectBufferTimeout {handle : BitVec 16} {s : State} (h : Wf s) :
    WfOut (execObjectBufferTimeout handle s) := by
  unfold execObjectBufferTimeout
  exact wf_actSettle h (fun _ k1 => wf_freeObject k1)

theorem wf_dsPut {s : State} {d : Nat} {b : List Byte} (h : Wf s) : Wf (dsPut s d b) := by
  unfold dsPut
  extract_lets s1 _ s2
  have h1 : Wf s1 := wf_dropRefresh (wf_refreshAnswer h)
  have h2 : Wf s2 := wf_withAtt h1
  exact wf_wr (wf_setDsVal h2)

theorem wf_execDsSet {q : Sender} {tag : Byte} {d : BitVec 16} {addr : Dword} {entry : HostRead} {kind : Fin 4}
    {s : State} (h : Wf s) :
    WfOut (execDsSet q tag d addr entry kind s) := by
  unfold execDsSet
  extract_lets
  refine wf_request h (fun _ k1 => wf_ite (wf_answer k1) (wf_ite (wf_answer k1) ?_))
  split
  · exact wf_readFailed k1
  · exact wf_ite (wf_answer (wf_dsPut k1)) (wf_answer k1)

theorem wf_execDsRefresh {q : Option Sender} {tag : Byte} {d : BitVec 16} {s : State} (h : Wf s) :
    WfOut (execDsRefresh q tag d s) := by
  unfold execDsRefresh
  extract_lets
  split
  · exact wf_actSettle h (fun _ k1 => wf_ite (wf_refreshBegin k1) k1)
  · exact wf_request h (fun _ k2 => wf_ite (wf_answer k2) (wf_ite (wf_answer k2) (wf_ite (wf_answer k2) (wf_ite
        (wf_answer k2) (wf_refreshBegin (wf_answer k2))))))

theorem wf_peerFails {s : State} {d step err : Nat} (h : Wf s) : Wf (peerFails s d step err) := by
  unfold peerFails
  extract_lets s1
  have h1 : Wf s1 := wf_refreshFail h
  split
  · exact wf_fwCommit h1
  · exact h1

theorem wf_peerStep {s : State} {d k : Nat} {chain vca : List Byte} (h : Wf s) : Wf (peerStep s d k chain vca) := by
  unfold peerStep
  extract_lets
  exact wf_dsSend (wf_withAtt h)

theorem wf_peerAnswer {s : State} {d : Nat} {r : Refresh} {en msg : List Byte} (h : Wf s) :
    Wf (peerAnswer s d r en msg) := by
  unfold peerAnswer
  extract_lets
  refine wf_ite (wf_peerFails h) (wf_ite (wf_ite (wf_peerStep h) (wf_peerFails h)) (wf_ite (wf_ite (wf_peerStep h)
      (wf_peerFails h)) (wf_ite (wf_peerFails h) ?_)))
  split
  · exact wf_peerFails h
  · exact wf_ite (wf_refreshOk h) (wf_peerFails h)

theorem wf_execDownstreamResponse {d : Fin 16} {msg : List Byte} {s : State} (h : Wf s) :
    WfOut (execDownstreamResponse d msg s) := by
  unfold execDownstreamResponse
  refine wf_actSettle h (fun _ k1 => ?_)
  split
  · exact wf_ite (wf_peerAnswer k1) k1
  · exact k1

theorem wf_execDownstreamResponseTimeout {d : Fin 16} {s : State} (h : Wf s) :
    WfOut (execDownstreamResponseTimeout d s) := by
  unfold execDownstreamResponseTimeout
  extract_lets
  refine wf_actSettle h (fun _ k1 => ?_)
  extract_lets
  split
  · exact k1
  · exact wf_ite k1 (wf_ite (wf_dsSend (wf_withAtt k1)) (wf_peerFails k1))

theorem wf_execMregExtended {s : State} (h : Wf s) : WfOut (execMregExtended s) := by
  unfold execMregExtended
  exact wf_actSettle h (fun _ k1 => wf_mregDone k1)

end Sys2Proof.Machine
end

section
/-! O5: what keeps the canonical form: the instructions of engines and cores, and debugging -/

namespace Sys2Proof.Machine

/-! ### EngOps -/

theorem wf_localWrite {s : State} {e a : Nat} {bs : List Byte} (h : Wf s) : Wf (localWrite s e a bs) := by
  unfold localWrite
  exact wf_wrMemN h

theorem wf_onEngine {p : Proc} {i : Wop} {f : Fin 512 → State → State} {s : State}
    (hf : ∀ y0 y1, Wf y1 → Wf (f y0 y1)) (hs : Wf s) :
    Wf (onEngine p i f s) := by
  unfold onEngine
  split
  · exact hf _ _ hs
  · exact wf_illegal hs

theorem wf_digestMisuse {s : State} {e : Fin 512} {i : Wop} (h : Wf s) : Wf (digestMisuse s e i) := by
  unfold digestMisuse
  exact wf_raiseExc h

theorem wf_streamFault {s : State} {e : Fin 512} {i : Wop} (h : Wf s) : Wf (streamFault s e i) := by
  unfold streamFault
  exact wf_raiseExc h

theorem wf_engBus {s : State} {e : Fin 512} {a : Nat} (h : Wf s) : Wf (engBus s e a) := by
  unfold engBus
  exact wf_raiseExc h

theorem wf_setLive {s : State} {e : Nat} {x : Option (Nat × DigestCtx)} (h : Wf s) : Wf (setLive s e x) := by
  unfold setLive
  extract_lets
  exact wf_setEngine h

theorem wf_opDinit {p : Proc} {dc : BitVec 2} {ra : RegNo} {s : State} (h : Wf s) : Wf (opDinit p dc ra s) := by
  unfold opDinit
  exact wf_onEngine (fun _ _ k1 => wf_ite (wf_digestMisuse k1) (wf_advance (wf_setLive k1))) h

theorem wf_opDfeed {p : Proc} {dc : BitVec 2} {ra rb : RegNo} {s : State} (h : Wf s) : Wf (opDfeed p dc ra rb s) := by
  unfold opDfeed
  refine wf_onEngine (fun _ _ k1 => ?_) h
  extract_lets
  split
  · exact wf_ite (wf_digestMisuse k1) (wf_ite (wf_engBus k1) (wf_advance (wf_setLive k1)))
  · exact wf_digestMisuse k1

theorem wf_publish {s : State} {e alg dc st : Nat} {digest : List Byte} (h : Wf s) : Wf (publish s e alg dc st digest) := by
  unfold publish
  extract_lets _ _ _ s1
  have h1 : Wf s1 := wf_wrBytes h
  exact wf_wr h1

theorem wf_opDfin {p : Proc} {dc : BitVec 2} {ra : RegNo} {s : State} (h : Wf s) : Wf (opDfin p dc ra s) := by
  unfold opDfin
  refine wf_onEngine (fun _ _ k1 => ?_) h
  extract_lets
  split
  · extract_lets s2 _ s3
    have h2 : Wf s2 := wf_setLive k1
    have h3 : Wf s3 := wf_setLive k1
    exact wf_ite (wf_digestMisuse k1) (wf_ite (wf_advance (wf_publish h2)) (wf_ite (wf_engBus k1) (wf_advance
        (wf_publish (wf_localWrite h3)))))
  · exact wf_digestMisuse k1

theorem wf_opDcmp {p : Proc} {rd ra rb : RegNo} {dc : BitVec 2} {s : State} (h : Wf s) : Wf (opDcmp p rd ra rb dc s) := by
  unfold opDcmp
  refine wf_onEngine (fun _ _ k1 => ?_) h
  extract_lets
  split
  · extract_lets
    exact wf_ite (wf_engBus k1) (wf_ite (wf_engBus k1) (wf_result k1))
  · exact wf_digestMisuse k1

theorem wf_opDsave {p : Proc} {dc : BitVec 2} {s : State} (h : Wf s) : Wf (opDsave p dc s) := by
  unfold opDsave
  refine wf_onEngine (fun _ _ k1 => ?_) h
  extract_lets
  split
  · extract_lets
    exact wf_ite (wf_digestMisuse k1) (wf_advance (wf_setEngine k1))
  · exact wf_digestMisuse k1

theorem wf_opDload {p : Proc} {dc : BitVec 2} {s : State} (h : Wf s) : Wf (opDload p dc s) := by
  unfold opDload
  refine wf_onEngine (fun _ _ k1 => ?_) h
  extract_lets
  split
  · exact wf_advance (wf_setEngine k1)
  · exact wf_digestMisuse k1

theorem wf_openTag {s : State} {p : Proc} {e : Nat} {rd : RegNo} {t : Nat → Tag} (h : Wf s) : Wf (openTag s p e rd t) := by
  unfold openTag
  extract_lets _ _ _ s1 s2 _ s3
  have h1 : Wf s1.2 := wf_freeBytes h
  have h2 : Wf s2 := wf_ite h (wf_localWrite h1)
  have h3 : Wf s3 := wf_setEngine h2
  exact wf_result h3

theorem wf_countBytes {s : State} {n : Nat} (h : Wf s) : Wf (countBytes s n) := by
  unfold countBytes
  exact wf_wr64 h

theorem wf_itemReadError {s : State} {e : Nat} (h : Wf s) : Wf (itemReadError s e) := by
  unfold itemReadError
  extract_lets _ s1
  have h1 : Wf s1 := wf_setEngine h
  split
  · exact h
  · exact wf_wakeFreed (wf_syncFix (wf_ite h1 (wf_fixComplete h1)))

theorem wf_opSread {p : Proc} {rd ra rb : RegNo} {s : State} (h : Wf s) : Wf (opSread p rd ra rb s) := by
  unfold opSread
  refine wf_onEngine (fun _ _ k1 => ?_) h
  extract_lets
  split
  · exact wf_streamFault k1
  · extract_lets _ _ _ _ s2 s3
    have h2 : Wf s2 := wf_setEngine k1
    have h3 : Wf s3 := wf_openTag h2
    exact wf_ite (wf_streamFault k1) (wf_ite (wf_engBus k1) (wf_ite k1 (wf_ite k1 (wf_ite (wf_itemReadError
        (wf_dmaErrorEvent h3)) h3))))

theorem wf_dmaStart {s : State} {e : Nat} {i : WorkItem} {d : DmaDesc} (h : Wf s) : Wf (dmaStart s e i d).1 := by
  unfold dmaStart
  extract_lets
  split
  · dsimp only
    exact h
  · split
    · split
      · dsimp only
        exact wf_instWrite h
      · dsimp only
        exact wf_wrMemN h
    · split
      · dsimp only
        exact h
      · dsimp only
        exact h

theorem wf_opDma {p : Proc} {rd ra : RegNo} {s : State} (h : Wf s) : Wf (opDma p rd ra s) := by
  unfold opDma
  refine wf_onEngine (fun _ _ k1 => ?_) h
  extract_lets
  split
  · exact wf_streamFault k1
  · extract_lets _ _ s2
    have h2 : Wf s2.1 := by
      unfold s2
      split
      · dsimp only
        exact wf_dmaErrorEvent k1
      · exact wf_dmaStart k1
    exact wf_ite (wf_engBus k1) (wf_ite (wf_engBus k1) (wf_ite k1 (wf_openTag h2)))

theorem wf_opSwait {p : Proc} {rd ra : RegNo} {s : State} (h : Wf s) : Wf (opSwait p rd ra s) := by
  unfold opSwait
  refine wf_onEngine (fun _ _ k1 => ?_) h
  extract_lets
  split
  · exact wf_streamFault k1
  · extract_lets s2 _ s3
    have h2 : Wf s2 := wf_ite k1 (wf_localWrite k1)
    have h3 : Wf s3 := wf_setEngine h2
    exact wf_ite k1 (wf_ite (wf_engBus k1) (wf_result h3))

theorem wf_transferDone {s : State} {e k kind : Nat} {data : HostRead} (h : Wf s) : Wf (transferDone s e k data kind) := by
  unfold transferDone
  extract_lets
  split
  · exact h
  · extract_lets _ _ _ s1 s2
    have h1 : Wf s1 := wf_setEngine h
    have h2 : Wf s2 := wf_dmaErrorEvent h1
    exact wf_ite h (wf_ite h1 (wf_ite (wf_ite (wf_itemReadError h2) h2) (wf_ite (wf_countBytes h1) h1)))

theorem wf_opWbtake {p : Proc} {rd ra : RegNo} {s : State} (h : Wf s) : Wf (opWbtake p rd ra s) := by
  unfold opWbtake
  refine wf_onEngine (fun _ _ k1 => wf_ite (wf_engBus k1) ?_) h
  extract_lets _ s2
  have h2 : Wf s2 := wf_setEngine k1
  split
  · exact wf_result h2
  · extract_lets s3 _ s4
    have h3 : Wf s3 := wf_localWrite (wf_dispatched h2)
    have h4 : Wf s4 := wf_setEngine h3
    exact wf_result (wf_syncFix h4)

theorem wf_opWbdone {p : Proc} {ra : RegNo} {s : State} (h : Wf s) : Wf (opWbdone p ra s) := by
  unfold opWbdone
  refine wf_onEngine (fun _ _ k1 => ?_) h
  extract_lets _ _ _ s2
  have h2 : Wf s2 := wf_setEngine k1
  split
  · exact wf_streamFault k1
  · exact wf_ite (wf_engBus k1) (wf_advance (wf_wakeFreed (wf_syncFix (wf_fixDone h2))))

theorem wf_opBarY {p : Proc} {rd : RegNo} {s : State} (h : Wf s) : Wf (opBarY p rd s) := by
  unfold opBarY
  exact wf_onEngine (fun _ _ k1 => wf_barrierY (wf_advance k1)) h

theorem wf_opBarG {p : Proc} {rd : RegNo} {s : State} (h : Wf s) : Wf (opBarG p rd s) := by
  unfold opBarG
  exact wf_onEngine (fun _ _ k1 => wf_barrierG (wf_advance k1)) h

/-! ### TxOps -/

theorem wf_onCore {p : Proc} {i : Wop} {f : Fin 2 → State → State} {s : State}
    (hf : ∀ y0 y1, Wf y1 → Wf (f y0 y1)) (hs : Wf s) :
    Wf (onCore p i f s) := by
  unfold onCore
  split
  · exact hf _ _ hs
  · exact wf_illegal hs

theorem wf_badHandle {s : State} {c : Fin 2} {v : Dword} (h : Wf s) : Wf (badHandle s c v) := by
  unfold badHandle
  exact wf_log h

theorem wf_opTopen {p : Proc} {rd : RegNo} {s : State} (h : Wf s) : Wf (opTopen p rd s) := by
  unfold opTopen
  refine wf_onCore (fun _ _ k1 => ?_) h
  split
  · extract_lets
    exact wf_result (wf_setHandle k1)
  · exact wf_result k1

theorem wf_putRecord {s : State} {c : Fin 2} {h a : Nat} (hs : Wf s) : Wf (putRecord s c h a) := by
  unfold putRecord
  extract_lets
  exact wf_ite hs (wf_ite (wf_setHandle hs) (wf_ite (wf_setHandle hs) (wf_setHandle hs)))

theorem wf_opTput {p : Proc} {ra rb : RegNo} {s : State} (h : Wf s) : Wf (opTput p ra rb s) := by
  unfold opTput
  refine wf_onCore (fun _ _ k1 => ?_) h
  extract_lets
  split
  · exact wf_advance (wf_putRecord k1)
  · exact wf_advance (wf_badHandle k1)

theorem wf_stallIn {s : State} {c : Fin 2} {rd : RegNo} {h : Nat} (hs : Wf s) : Wf (stallIn s c rd h) := by
  unfold stallIn
  extract_lets
  exact wf_setCore hs

theorem wf_serveNow {s : State} {h : Nat} (hs : Wf s) : Wf (serveNow s h) := by
  unfold serveNow
  extract_lets s1
  have h1 : Wf s1 := wf_enterService hs
  exact wf_ite (wf_serveFront h1) h1

theorem wf_resolvePair {s : State} {h m : Nat} (hs : Wf s) : Wf (resolvePair s h m) := by
  unfold resolvePair
  extract_lets _ s1 _ s2
  have h1 : Wf s1 := wf_setHandle hs
  have h2 : Wf s2 := wf_setHandle h1
  split
  · exact wf_voteFailed hs
  · exact wf_serveNow (wf_syncArm h2)

theorem wf_waitVote {s : State} {p : Proc} {rd : RegNo} {h : Nat} {mirror : Bool} (hs : Wf s) :
    Wf (waitVote s p rd h mirror) := by
  unfold waitVote
  extract_lets _ s1
  have h1 : Wf s1 := wf_setHandle hs
  exact wf_result (wf_syncArm h1)

theorem wf_commitOpen {s : State} {p : Proc} {c : Fin 2} {rd : RegNo} {h : Nat} (hs : Wf s) :
    Wf (commitOpen s p c rd h) := by
  unfold commitOpen
  extract_lets _ _ s1
  have h1 : Wf s1 := wf_stallIn hs
  split
  · exact wf_abortTx (wf_stallIn hs)
  · refine wf_ite (wf_abortTx (wf_stallIn hs)) ?_
    split
    · exact wf_abortTx (wf_stallIn hs)
    · refine wf_ite (wf_abortTx (wf_stallIn hs)) (wf_ite (wf_result hs) (wf_ite (wf_serveNow (wf_stallIn hs)) ?_))
      split
      · exact wf_waitVote hs
      · exact wf_ite (wf_resolvePair h1) (wf_resolvePair h1)

theorem wf_opTcommit {p : Proc} {rd ra : RegNo} {s : State} (h : Wf s) : Wf (opTcommit p rd ra s) := by
  unfold opTcommit
  refine wf_onCore (fun _ _ k1 => wf_ite k1 ?_) h
  split
  · exact wf_commitOpen k1
  · exact wf_result k1

theorem wf_opTdrop {p : Proc} {ra : RegNo} {s : State} (h : Wf s) : Wf (opTdrop p ra s) := by
  unfold opTdrop
  refine wf_onCore (fun _ _ k1 => ?_) h
  extract_lets
  split
  · exact wf_advance (wf_badHandle k1)
  · split
    · exact wf_advance (wf_dropHandle k1)
    · exact wf_advance (wf_dropWith k1)
    · exact wf_advance (wf_dropWith k1)
    · exact wf_advance (wf_badHandle k1)

theorem wf_opPvote {on : Bool} {i : Wop} {p : Proc} {ra rb : RegNo} {s : State} (h : Wf s) :
    Wf (opPvote on i p ra rb s) := by
  unfold opPvote
  exact wf_onCore (fun _ _ k1 => wf_fwVote (wf_advance k1)) h

/-! ### DebugRows -/

theorem wf_procBody {p : Proc} {x1 : Wop} {s : State} (h : Wf s) : Wf (procBody p x1 s) := by
  unfold procBody
  split
  · exact wf_opRR h
  · exact wf_opRR h
  · exact wf_opRR h
  · exact wf_opRR h
  · exact wf_opRR h
  · exact wf_opRR h
  · exact wf_opRR h
  · exact wf_opRR h
  · exact wf_opRR h
  · exact wf_opRR h
  · exact wf_opRR h
  · exact wf_opRR h
  · exact wf_opRR h
  · exact wf_opRR h
  · exact wf_opAmoadd h
  · exact wf_opAmoswap h
  · exact wf_opCas h
  · exact wf_opRI h
  · exact wf_opRI h
  · exact wf_opRI h
  · exact wf_opRI h
  · exact wf_opRI h
  · exact wf_opRI h
  · exact wf_opJr h
  · exact wf_opRN h
  · exact wf_opRN h
  · exact wf_opRN h
  · exact wf_opSeth h
  · exact wf_opInsh h
  · exact wf_opExtr h
  · exact wf_opLoad h
  · exact wf_opLoad h
  · exact wf_opLoad h
  · exact wf_opLoad h
  · exact wf_opStore h
  · exact wf_opStore h
  · exact wf_opStore h
  · exact wf_opStore h
  · exact wf_opFence h
  · exact wf_opBranch h
  · exact wf_opBranch h
  · exact wf_opBranch h
  · exact wf_opBranch h
  · exact wf_opBranch h
  · exact wf_opBranch h
  · exact wf_opJmp h
  · exact wf_opCall h
  · exact wf_opMfs h
  · exact wf_opMts h
  · exact wf_opIdent h
  · exact wf_opTrap h
  · exact wf_opEret h
  · exact wf_opPark h
  · exact wf_opTopen h
  · exact wf_opTput h
  · exact wf_opTcommit h
  · exact wf_opTdrop h
  · exact wf_opPvote h
  · exact wf_opPvote h
  · exact wf_opDinit h
  · exact wf_opDfeed h
  · exact wf_opDfin h
  · exact wf_opDcmp h
  · exact wf_opDsave h
  · exact wf_opDload h
  · exact wf_opSread h
  · exact wf_opDma h
  · exact wf_opSwait h
  · exact wf_opWbtake h
  · exact wf_opWbdone h
  · exact wf_opBarY h
  · exact wf_opBarG h
  · exact wf_opVerdict h
  · exact wf_opVerdict h
  · exact wf_opVerdict h
  · exact wf_opVerdict h
  · exact wf_opVerdict h
  · exact wf_opFrame h
  · exact wf_opFrame h
  · exact wf_opFrame h
  · exact wf_opFrame h
  · exact wf_opFdata h
  · exact wf_opRlook h
  · exact wf_opCnt h

theorem wf_setHalt {s : State} {p : Proc} {on : Bool} (h : Wf s) : Wf (setHalt s p on) := by
  unfold setHalt
  split
  · extract_lets
    exact wf_setCore h
  · extract_lets
    exact wf_setEngine h
  · extract_lets
    exact wf_setLine h

theorem wf_debugAct {s : State} {i : TapInstr} {f : State → State} (hs : Wf s) (hf : ∀ y0, Wf y0 → Wf (f y0)) :
    WfOut (debugAct s i f) := by
  unfold debugAct
  exact wf_actSettle hs (fun _ k1 => wf_ite (hf _ (wf_withTap k1)) (wf_withTap k1))

theorem wf_execDebugHalt {p : Proc} {s : State} (h : Wf s) : WfOut (execDebugHalt p s) := by
  unfold execDebugHalt
  exact wf_debugAct h (fun _ k1 => wf_setHalt k1)

theorem wf_debugRun {s : State} {p : Proc} {i : Wop} (h : Wf s) : Wf (debugRun s p i) := by
  unfold debugRun
  split
  · exact wf_routeStep h
  · exact wf_runWop (fun _ k1 => wf_procBody k1) h

theorem wf_execDebugStep {p : Proc} {w : Wop} {s : State} (h : Wf s) : WfOut (execDebugStep p w s) := by
  unfold execDebugStep
  exact wf_debugAct h (fun _ k1 => wf_ite (wf_setHalt (wf_debugRun (wf_setHalt k1))) k1)

theorem wf_execDebugResume {p : Proc} {s : State} (h : Wf s) : WfOut (execDebugResume p s) := by
  unfold execDebugResume
  exact wf_debugAct h (fun _ k1 => wf_setHalt k1)

/-! ### EngIsa -/

theorem wf_execDinit {p : Proc} {dc : BitVec 2} {ra : RegNo} {s : State} (h : Wf s) : WfOut (execDinit p dc ra s) := by
  unfold execDinit
  exact wf_act h (fun _ k1 => wf_runWop (fun _ k2 => wf_opDinit k2) k1)

theorem wf_execDfeed {p : Proc} {dc : BitVec 2} {ra rb : RegNo} {s : State} (h : Wf s) : WfOut (execDfeed p dc ra rb s) := by
  unfold execDfeed
  exact wf_act h (fun _ k1 => wf_runWop (fun _ k2 => wf_opDfeed k2) k1)

theorem wf_execDfin {p : Proc} {dc : BitVec 2} {ra : RegNo} {s : State} (h : Wf s) : WfOut (execDfin p dc ra s) := by
  unfold execDfin
  exact wf_act h (fun _ k1 => wf_runWop (fun _ k2 => wf_opDfin k2) k1)

theorem wf_execDcmp {p : Proc} {rd ra rb : RegNo} {dc : BitVec 2} {s : State} (h : Wf s) :
    WfOut (execDcmp p rd ra rb dc s) := by
  unfold execDcmp
  exact wf_act h (fun _ k1 => wf_runWop (fun _ k2 => wf_opDcmp k2) k1)

theorem wf_execDsave {p : Proc} {dc : BitVec 2} {s : State} (h : Wf s) : WfOut (execDsave p dc s) := by
  unfold execDsave
  exact wf_act h (fun _ k1 => wf_runWop (fun _ k2 => wf_opDsave k2) k1)

theorem wf_execDload {p : Proc} {dc : BitVec 2} {s : State} (h : Wf s) : WfOut (execDload p dc s) := by
  unfold execDload
  exact wf_act h (fun _ k1 => wf_runWop (fun _ k2 => wf_opDload k2) k1)

theorem wf_execSread {p : Proc} {rd ra rb : RegNo} {s : State} (h : Wf s) : WfOut (execSread p rd ra rb s) := by
  unfold execSread
  exact wf_act h (fun _ k1 => wf_runWop (fun _ k2 => wf_opSread k2) k1)

theorem wf_execDma {p : Proc} {rd ra : RegNo} {s : State} (h : Wf s) : WfOut (execDma p rd ra s) := by
  unfold execDma
  exact wf_act h (fun _ k1 => wf_runWop (fun _ k2 => wf_opDma k2) k1)

theorem wf_execSwait {p : Proc} {rd ra : RegNo} {s : State} (h : Wf s) : WfOut (execSwait p rd ra s) := by
  unfold execSwait
  exact wf_act h (fun _ k1 => wf_runWop (fun _ k2 => wf_opSwait k2) k1)

theorem wf_execWbtake {p : Proc} {rd ra : RegNo} {s : State} (h : Wf s) : WfOut (execWbtake p rd ra s) := by
  unfold execWbtake
  exact wf_act h (fun _ k1 => wf_runWop (fun _ k2 => wf_opWbtake k2) k1)

theorem wf_execWbdone {p : Proc} {ra : RegNo} {s : State} (h : Wf s) : WfOut (execWbdone p ra s) := by
  unfold execWbdone
  exact wf_act h (fun _ k1 => wf_runWop (fun _ k2 => wf_opWbdone k2) k1)

theorem wf_execBarY {p : Proc} {rd : RegNo} {s : State} (h : Wf s) : WfOut (execBarY p rd s) := by
  unfold execBarY
  exact wf_act h (fun _ k1 => wf_runWop (fun _ k2 => wf_opBarY k2) k1)

theorem wf_execBarG {p : Proc} {rd : RegNo} {s : State} (h : Wf s) : WfOut (execBarG p rd s) := by
  unfold execBarG
  exact wf_act h (fun _ k1 => wf_runWop (fun _ k2 => wf_opBarG k2) k1)

/-! ### EvrRows -/

theorem wf_execEvrWriteAged {s : State} (h : Wf s) : WfOut (execEvrWriteAged s) := by
  unfold execEvrWriteAged
  exact wf_actSettle h (fun _ k1 => wf_ite k1 (wf_writeAged k1))

theorem wf_execEvrFlushDone {fails : Nat} {s : State} (h : Wf s) : WfOut (execEvrFlushDone fails s) := by
  unfold execEvrFlushDone
  exact wf_actSettle h (fun _ k1 => wf_ite (wf_evrFlush k1) k1)

theorem wf_execEvrReclaim {s : State} (h : Wf s) : WfOut (execEvrReclaim s) := by
  unfold execEvrReclaim
  exact wf_actSettle h (fun _ k1 => wf_evrReclaim k1)

theorem wf_nvmRetry {s : State} {ok : Bool} (h : Wf s) : Wf (nvmRetry s ok) := by
  unfold nvmRetry
  extract_lets
  refine wf_ite h (wf_ite (wf_evrFlush (wf_withEvr h)) ?_)
  split
  · exact wf_withEvr h
  · exact h

theorem wf_execNvmFaultRetry {ok : Bool} {s : State} (h : Wf s) : WfOut (execNvmFaultRetry ok s) := by
  unfold execNvmFaultRetry
  exact wf_actSettle h (fun _ k1 => wf_nvmRetry k1)

theorem wf_execCorrelate {q : Sender} {tag format : Byte} {host : Dword} {label : List Byte} {s : State} (h : Wf s) :
    WfOut (execCorrelate q tag host format label s) := by
  unfold execCorrelate
  exact wf_request h (fun _ k1 => wf_correlate k1)

theorem wf_execPfwNFall {s : State} (h : Wf s) : WfOut (execPfwNFall s) := by
  unfold execPfwNFall
  exact wf_actSettle h (fun _ k1 => wf_powerFail k1)

theorem wf_execPfFlush {us : Word} {s : State} (h : Wf s) : WfOut (execPfFlush us s) := by
  unfold execPfFlush
  exact wf_actSettle h (fun _ k1 => wf_powerFailed k1)

theorem wf_pfwWake {s : State} {start : Bool} (h : Wf s) : Wf (pfwWake s start) := by
  unfold pfwWake
  extract_lets s1
  have h1 : Wf s1 := wf_wake h
  exact wf_ite (wf_domainRun h1) h1

theorem wf_pfwRise {s : State} {us : Nat} (h : Wf s) : Wf (pfwRise s us) := by
  unfold pfwRise
  extract_lets s1 _ s2 s3 _ s4
  have h1 : Wf s1 := wf_ite h (wf_powerFailed h)
  have h2 : Wf s2 := wf_evrResume (wf_setBit h1)
  have h3 : Wf s3 := wf_ite (wf_setDomState (wf_setBit h2)) h2
  have h4 : Wf s4 := wf_pfwWake (wf_withPwr h3)
  exact wf_ite h (wf_ite (wf_platformStart h4) h4)

theorem wf_execPfwNRise {us : Word} {s : State} (h : Wf s) : WfOut (execPfwNRise us s) := by
  unfold execPfwNRise
  exact wf_actSettle h (fun _ k1 => wf_pfwRise k1)

theorem wf_execSnapshot {q : Sender} {tag : Byte} {us : Word} {s : State} (h : Wf s) : WfOut (execSnapshot q tag us s) := by
  unfold execSnapshot
  extract_lets
  exact wf_request h (fun _ k1 => wf_ite (wf_answer k1) (wf_answer (wf_ite k1 (wf_snapLatch k1))))

/-! ### FixRows -/

theorem wf_ledgerOpen {s : State} {q : Sender} {w0 leaf tree pages kind : Nat} {nodes : Option (List (List Byte))}
    (h : Wf s) :
    Wf (ledgerOpen s q w0 leaf tree pages nodes kind) := by
  unfold ledgerOpen
  extract_lets
  refine wf_ite (wf_answer h) ?_
  split
  · exact wf_readFailed h
  · extract_lets s1 s2
    have h1 : Wf s1 := wf_setLdgState (wf_ledgerVote (wf_loadCache (wf_setBases h)))
    have h2 : Wf s2 := wf_ldgLog (wf_syncLedger h1)
    exact wf_ite (wf_answer h) (wf_advancePasses (wf_answer h2))

theorem wf_execLedgerOpen {q : Sender} {tag : Byte} {leaf tree : Dword} {pages : Word}
    {nodes : Option (List (List Byte))} {kind : Fin 4} {s : State} (h : Wf s) :
    WfOut (execLedgerOpen q tag leaf tree pages nodes kind s) := by
  unfold execLedgerOpen
  exact wf_request h (fun _ k1 => wf_ledgerOpen k1)

theorem wf_ledgerRebuild {s : State} {q : Sender} {w0 leaf tree pages kind : Nat}
    {leaves : Option (List (Nat × List Byte))} (h : Wf s) :
    Wf (ledgerRebuild s q w0 leaf tree pages leaves kind) := by
  unfold ledgerRebuild
  extract_lets
  refine wf_ite (wf_answer h) ?_
  split
  · exact wf_readFailed h
  · extract_lets s1 _ s2
    have h1 : Wf s1 := wf_rebuildTree (wf_setLdgState (wf_ledgerVote (wf_setBases h)))
    have h2 : Wf s2 := wf_withLedger h1
    exact wf_answer (wf_epochBegin h2)

theorem wf_execLedgerRebuild {q : Sender} {tag : Byte} {leaf tree : Dword} {pages : Word}
    {leaves : Option (List (Nat × List Byte))} {kind : Fin 4} {s : State} (h : Wf s) :
    WfOut (execLedgerRebuild q tag leaf tree pages leaves kind s) := by
  unfold execLedgerRebuild
  exact wf_request h (fun _ k1 => wf_ledgerRebuild k1)

theorem wf_commitFor {s : State} {q : Sender} {w0 : Nat} {after : AfterCommit} {done : State → State}
    (hs : Wf s) (hdone : ∀ y0, Wf y0 → Wf (done y0)) :
    Wf (commitFor s q w0 after done) := by
  unfold commitFor
  exact wf_ite (wf_answer (wf_epochBegin hs)) (hdone _ hs)

theorem wf_execLedgerCommit {q : Sender} {tag : Byte} {s : State} (h : Wf s) : WfOut (execLedgerCommit q tag s) := by
  unfold execLedgerCommit
  extract_lets
  exact wf_request h (fun _ k1 => wf_ite (wf_answer k1) (wf_ite (wf_answer k1) (wf_commitFor k1 (fun _ k2 => wf_answer k2))))

theorem wf_execLedgerResume {q : Sender} {tag : Byte} {s : State} (h : Wf s) : WfOut (execLedgerResume q tag s) := by
  unfold execLedgerResume
  extract_lets
  exact wf_request h (fun _ k1 => wf_ite (wf_answer k1) (wf_ite (wf_answer k1) (wf_advancePasses (wf_wakeFreed
      (wf_answer (wf_syncLedger (wf_applyLate (wf_setLdgState k1))))))))

theorem wf_execLedgerClose {q : Sender} {tag : Byte} {s : State} (h : Wf s) : WfOut (execLedgerClose q tag s) := by
  unfold execLedgerClose
  extract_lets
  exact wf_request h (fun _ k1 => wf_ite (wf_answer k1) (wf_ite (wf_answer k1) (wf_commitFor k1 (fun _ k2 => wf_answer
      (wf_ledgerLost k2)))))

theorem wf_recordRequest {s : State} {q : Sender} {w0 idx : Nat} {retire : Bool} (h : Wf s) :
    Wf (recordRequest s q w0 idx retire) := by
  unfold recordRequest
  extract_lets
  refine wf_ite (wf_answer h) (wf_ite (wf_answer h) (wf_ite (wf_answer h) ?_))
  split
  · exact wf_ite (wf_answer (wf_recordUpdate h)) (wf_answer h)
  · exact wf_answer (wf_syncFix (wf_withLedger h))

theorem wf_execRecordRetire {q : Sender} {tag : Byte} {idx : Dword} {s : State} (h : Wf s) :
    WfOut (execRecordRetire q tag idx s) := by
  unfold execRecordRetire
  exact wf_request h (fun _ k1 => wf_recordRequest k1)

theorem wf_execRecordRead {q : Sender} {tag : Byte} {idx : Dword} {s : State} (h : Wf s) :
    WfOut (execRecordRead q tag idx s) := by
  unfold execRecordRead
  exact wf_request h (fun _ k1 => wf_recordRequest k1)

theorem wf_syncTt {s : State} (h : Wf s) : Wf (syncTt s) := by
  unfold syncTt
  exact wf_foldl (fun _ _ k1 => wf_setBit k1) _ h

theorem wf_ttDrop {s : State} {k : Nat} (h : Wf s) : Wf (ttDrop s k) := by
  unfold ttDrop
  extract_lets
  exact wf_syncFix (wf_setF (wf_withFix h))

theorem wf_ttPut {s : State} {k : Nat} {e : TtEntry} (h : Wf s) : Wf (ttPut s k e) := by
  unfold ttPut
  extract_lets s1 _ s2 s3
  have h1 : Wf s1 := wf_ttDrop h
  have h2 : Wf s2 := wf_withFix h1
  have h3 : Wf s3 := wf_wr (wf_setBit h2)
  exact wf_syncTt (wf_wr (wf_wr64 h3))

theorem wf_execTtSet {q : Sender} {tag : Byte} {k : BitVec 16} {addr : Dword} {entry : HostRead} {kind : Fin 4}
    {s : State} (h : Wf s) :
    WfOut (execTtSet q tag k addr entry kind s) := by
  unfold execTtSet
  extract_lets
  refine wf_request h (fun _ k1 => wf_ite (wf_answer k1) (wf_ite (wf_answer k1) ?_))
  split
  · exact wf_readFailed k1
  · exact wf_ite (wf_answer (wf_ttPut k1)) (wf_answer k1)

theorem wf_execTtClear {q : Sender} {tag : Byte} {k : BitVec 16} {s : State} (h : Wf s) : WfOut (execTtClear q tag k s) := by
  unfold execTtClear
  extract_lets
  exact wf_request h (fun _ k1 => wf_ite (wf_answer k1) (wf_ite (wf_answer k1) (wf_answer (wf_ttDrop k1))))

theorem wf_execAuditRange {q : Sender} {tag : Byte} {first count table : Dword} {feeds : List (Nat × Feed)} {s : State}
    (h : Wf s) :
    WfOut (execAuditRange q tag first count table feeds s) := by
  unfold execAuditRange
  extract_lets
  exact wf_request h (fun _ k1 => wf_ite (wf_answer k1) (wf_ite (wf_answer k1) (wf_ite (wf_answer k1) (wf_ite
      (wf_answer k1) (wf_advancePasses (wf_startPass (wf_answer k1)))))))

theorem wf_reportOut {s : State} {q : Option Sender} {w0 addr : Nat} {k : PassKey} (h : Wf s) :
    Wf (reportOut s q w0 k addr) := by
  unfold reportOut
  split
  · exact wf_reply h
  · extract_lets s1
    have h1 : Wf s1.2 := wf_signObject h
    split
    · exact wf_reply (wf_instWrite h1)
    · exact wf_reply h1

theorem wf_execReport {q : Sender} {tag : Byte} {arg : BitVec 16} {addr : Dword} {s : State} (h : Wf s) :
    WfOut (execReport q tag arg addr s) := by
  unfold execReport
  extract_lets
  exact wf_request h (fun _ k1 => wf_ite (wf_answer k1) (wf_ite (wf_answer k1) (wf_ite (wf_answer k1) (wf_commitFor k1
      (fun _ k2 => wf_reportOut k2)))))

theorem wf_afterEpoch {s : State} {a : AfterCommit} (h : Wf s) : Wf (afterEpoch s a) := by
  unfold afterEpoch
  split
  · exact wf_reply h
  · exact wf_ite (wf_epochBegin h) (wf_reply (wf_ledgerLost h))
  · exact wf_reply h
  · exact wf_finishPass h
  · exact wf_reportOut h
  · exact wf_exportFinish h
  · exact wf_platformOffRest h

theorem wf_afterRefusal {s : State} {a : AfterCommit} (h : Wf s) : Wf (afterRefusal s a) := by
  unfold afterRefusal
  split
  · exact wf_reply h
  · exact wf_reply h
  · exact wf_reply (wf_closeLedger h)
  · exact wf_mapPass h
  · exact wf_reply h
  · exact wf_exportRefused h
  · exact wf_platformOffRest h

theorem wf_refuseFollowers {s : State} (h : Wf s) : Wf (refuseFollowers s) := by
  unfold refuseFollowers
  extract_lets
  exact wf_ite h (wf_foldl (fun _ _ k1 => wf_afterRefusal k1) _ (wf_withLedger h))

theorem wf_execLedgerPageAuth {page : Word} {data : HostRead} {path : List (List Byte)} {kind : Fin 4} {s : State}
    (h : Wf s) :
    WfOut (execLedgerPageAuth page data path kind s) := by
  unfold execLedgerPageAuth
  extract_lets
  refine wf_actSettle h (fun _ k1 => wf_ite k1 ?_)
  split
  · exact wf_wakeFreed (wf_refuseFollowers (wf_pageAuth k1))
  · exact wf_pageReadError (wf_dmaErrorEvent k1)

theorem wf_execLedgerWriteback {page : Word} {s : State} (h : Wf s) : WfOut (execLedgerWriteback page s) := by
  unfold execLedgerWriteback
  exact wf_actSettle h (fun _ k1 => wf_ite (wf_advancePasses (wf_syncFix (wf_writeBack k1))) k1)

theorem wf_execEpochTimer {s : State} (h : Wf s) : WfOut (execEpochTimer s) := by
  unfold execEpochTimer
  exact wf_actSettle h (fun _ k1 => wf_ite (wf_epochBegin k1) k1)

theorem wf_epochQueued {s : State} {q : List AfterCommit} (h : Wf s) : Wf (epochQueued s q) := by
  unfold epochQueued
  exact wf_ite h (wf_ite (wf_epochBegin h) (wf_foldl (fun _ _ k1 => wf_afterEpoch k1) _ h))

theorem wf_epochCommit {s : State} (h : Wf s) : Wf (epochCommit s) := by
  unfold epochCommit
  extract_lets s1 _ _ _ s2
  have h1 : Wf s1.1 := wf_fwCommit h
  have h2 : Wf s2 := wf_epochEnded (wf_withLedger h1)
  exact wf_ite h (wf_ite (wf_advancePasses (wf_wakeFreed (wf_epochQueued (wf_foldl
      (fun _ _ k3 => wf_afterEpoch k3) _ h2)))) (wf_ite h1 (wf_advancePasses (wf_foldl
      (fun _ _ k4 => wf_afterRefusal k4) _ (wf_epochRefused (wf_withLedger h1))))))

theorem wf_execEpochCommitted {s : State} (h : Wf s) : WfOut (execEpochCommitted s) := by
  unfold execEpochCommitted
  exact wf_actSettle h (fun _ k1 => wf_epochCommit k1)

theorem wf_execTtPassStart {k : Fin 64} {feeds : List (Nat × Feed)} {s : State} (h : Wf s) :
    WfOut (execTtPassStart k feeds s) := by
  unfold execTtPassStart
  refine wf_actSettle h (fun _ k1 => wf_ite (wf_advancePasses (wf_mapPass k1)) ?_)
  extract_lets _ _ s2 s3
  have h2 : Wf s2 := wf_setBit (wf_setBit k1)
  have h3 : Wf s3 := wf_wr (wf_wr h2)
  split
  · exact k1
  · extract_lets _ _ s4
    have h4 : Wf s4 := wf_syncTt (wf_wr64 h3)
    exact wf_ite k1 (wf_advancePasses (wf_startPass h4))

theorem wf_ttSave {s : State} (h : Wf s) : Wf (ttSave s) := by
  unfold ttSave
  extract_lets
  exact wf_withFix h

theorem wf_execPassDone {who : Option Sender} {k : Fin 64} {s : State} (h : Wf s) : WfOut (execPassDone who k s) := by
  unfold execPassDone
  extract_lets
  refine wf_actSettle h (fun _ k1 => ?_)
  split
  · exact k1
  · exact wf_ite k1 (wf_ite (wf_ttSave (wf_epochBegin (wf_mapPass k1))) (wf_ttSave (wf_finishPass k1)))

theorem wf_execPassOverdue {k : Fin 64} {s : State} (h : Wf s) : WfOut (execPassOverdue k s) := by
  unfold execPassOverdue
  refine wf_actSettle h (fun _ k1 => ?_)
  extract_lets
  split
  · exact k1
  · exact wf_ite k1 (wf_fwLog (wf_setBit k1))

theorem wf_execTtProgressSave {s : State} (h : Wf s) : WfOut (execTtProgressSave s) := by
  unfold execTtProgressSave
  exact wf_actSettle h (fun _ k1 => wf_ttSave k1)

theorem wf_execFixRateWindow {s : State} (h : Wf s) : WfOut (execFixRateWindow s) := by
  unfold execFixRateWindow
  exact wf_actSettle h (fun _ k1 => wf_withFix (wf_wr k1))

end Sys2Proof.Machine
end

section
/-! O5: what keeps the canonical form: the commands of the host link, the Interlocking, registers, tamper and the life cycle. -/

namespace Sys2Proof.Machine

/-! ### HostRows -/

theorem wf_hostDown {s : State} {cause : Nat} (h : Wf s) : Wf (hostDown s cause) := by
  unfold hostDown
  extract_lets _ s1 s2
  have h1 : Wf s1 := wf_ite (wf_hostVote (wf_setBit (wf_withHost h))) h
  have h2 : Wf s2 := wf_ite (wf_linkDown h1) h1
  exact wf_pf0Reset h2

theorem wf_execPf0Reset {cause : Fin 3} {s : State} (h : Wf s) : WfOut (execPf0Reset cause s) := by
  unfold execPf0Reset
  exact wf_actSettle h (fun _ k1 => wf_hostDown k1)

theorem wf_execPf0Flr {s : State} (h : Wf s) : WfOut (execPf0Flr s) := by
  unfold execPf0Flr
  exact wf_actSettle h (fun _ k1 => wf_ite (wf_pf0Reset k1) k1)

theorem wf_vfFlr {s : State} {n : Nat} (h : Wf s) : Wf (vfFlr s n) := by
  unfold vfFlr
  extract_lets
  exact wf_ite h (wf_instReset (wf_withHost h))

theorem wf_execVfFlr {vf : Fin 256} {s : State} (h : Wf s) : WfOut (execVfFlr vf s) := by
  unfold execVfFlr
  exact wf_actSettle h (fun _ k1 => wf_ite (wf_vfFlr k1) k1)

theorem wf_toD0 {s : State} {fn : Nat} (h : Wf s) : Wf (toD0 s fn) := by
  unfold toD0
  extract_lets _ s1
  have h1 : Wf s1 := wf_withHost h
  exact wf_ite (wf_ite (wf_pf0Reset h1) (wf_vfFlr h1)) h

theorem wf_execD3hotToD0 {fn : Fin 256} {s : State} (h : Wf s) : WfOut (execD3hotToD0 fn s) := by
  unfold execD3hotToD0
  exact wf_actSettle h (fun _ k1 => wf_ite (wf_toD0 k1) k1)

theorem wf_execLinkUp {rate : Fin 7} {width : Fin 17} {flit : Bool} {s : State} (h : Wf s) :
    WfOut (execLinkUp rate width flit s) := by
  unfold execLinkUp
  exact wf_actSettle h (fun _ k1 => wf_ite k1 (wf_stateInt (wf_log (wf_setF k1))))

theorem wf_execLinkDown {cause : Fin 4} {s : State} (h : Wf s) : WfOut (execLinkDown cause s) := by
  unfold execLinkDown
  exact wf_actSettle h (fun _ k1 => wf_ite (wf_hostDown k1) k1)

theorem wf_execPerstNRelease {s : State} (h : Wf s) : WfOut (execPerstNRelease s) := by
  unfold execPerstNRelease
  exact wf_actSettle h (fun _ k1 => wf_hostVote (wf_setBit k1))

theorem wf_execInstanceResetDone {n : Fin 1025} {us : Word} {s : State} (h : Wf s) :
    WfOut (execInstanceResetDone n us s) := by
  unfold execInstanceResetDone
  exact wf_actSettle h (fun _ k1 => wf_ite k1 (wf_resetDone k1))

theorem wf_execFeatureEvalDone {n : Fin 1025} {s : State} (h : Wf s) : WfOut (execFeatureEvalDone n s) := by
  unfold execFeatureEvalDone
  exact wf_actSettle h (fun _ k1 => wf_featureEval k1)

theorem wf_execSqFetch {n : Fin 1025} {entry list block : HostRead} {kind : Fin 4} {s : State} (h : Wf s) :
    WfOut (execSqFetch n entry list block kind s) := by
  unfold execSqFetch
  exact wf_actSettle h (fun _ k1 => wf_sqFetch k1)

theorem wf_execCmdFetch {n : Fin 1025} {entry : HostRead} {kind : Fin 4} {s : State} (h : Wf s) :
    WfOut (execCmdFetch n entry kind s) := by
  unfold execCmdFetch
  exact wf_actSettle h (fun _ k1 => wf_cmdFetch k1)

theorem wf_execCqPost {n : Fin 1025} {s : State} (h : Wf s) : WfOut (execCqPost n s) := by
  unfold execCqPost
  exact wf_actSettle h (fun _ k1 => wf_cqPost k1)

theorem wf_execDmaError {n : Fin 1025} {ring : Fin 5} {e : Option (Fin 512)} {addr : Dword} {kind : Fin 4} {s : State}
    (h : Wf s) :
    WfOut (execDmaError n ring e addr kind s) := by
  unfold execDmaError
  refine wf_actSettle h (fun _ k1 => ?_)
  split
  · exact wf_ringFails k1
  · split
    · exact k1
    · exact wf_itemReadError (wf_dmaErrorEvent k1)

theorem wf_execIntCoalTimeout {n : Fin 1025} {src : Fin 4} {s : State} (h : Wf s) : WfOut (execIntCoalTimeout n src s) := by
  unfold execIntCoalTimeout
  exact wf_actSettle h (fun _ k1 => wf_ite k1 (wf_intNow (wf_setInst k1)))

theorem wf_cfgVfs {s : State} {enable : Bool} {num : Nat} (h : Wf s) : Wf (cfgVfs s enable num) := by
  unfold cfgVfs
  extract_lets _ _ s1
  have h1 : Wf s1 := wf_withHost h
  exact wf_ite (wf_foldl (fun _ _ k2 => wf_instDestroy k2) _ h1) h1

theorem wf_msixPending {s : State} {fn : Nat} (h : Wf s) : Wf (msixPending s fn) := by
  unfold msixPending
  exact wf_foldl (fun _ _ k1 => wf_toHost (wf_setMsix k1)) _ h

theorem wf_cfgBme {s : State} {fn : Nat} {on : Bool} (h : Wf s) : Wf (cfgBme s fn on) := by
  unfold cfgBme
  extract_lets _ _ s1
  have h1 : Wf s1 := wf_withHost h
  exact wf_ite (wf_foldl (fun _ _ k2 => wf_ite (wf_itemReadError k2) k2) _ h1) (wf_ite (wf_dirtyDrain
      (wf_msixPending h1)) h1)

theorem wf_cfgMsix {s : State} {fn entry addr data : Nat} {masked : Bool} (h : Wf s) :
    Wf (cfgMsix s fn entry addr data masked) := by
  unfold cfgMsix
  extract_lets _ _ s1
  have h1 : Wf s1 := wf_setMsix h
  exact wf_ite h (wf_ite (wf_toHost h1) h1)

theorem wf_execConfigurationRequest {r : CfgReq} {s : State} (h : Wf s) : WfOut (execConfigurationRequest r s) := by
  unfold execConfigurationRequest
  refine wf_actSettle h (fun _ k1 => wf_ite k1 ?_)
  extract_lets
  split
  · exact wf_cfgVfs k1
  · exact wf_ite (wf_cfgBme k1) k1
  · exact wf_withHost k1
  · exact wf_ite k1 (wf_ite (wf_withHost k1) (wf_toD0 k1))
  · exact wf_ite (wf_cfgMsix k1) k1
  · exact wf_ite k1 (wf_attDrop (wf_withHost k1))

theorem wf_createRefuse {s : State} {q : Sender} {w0 n st : Nat} (h : Wf s) : Wf (createRefuse s q w0 n st) := by
  unfold createRefuse
  exact wf_answer (wf_vinLog h)

theorem wf_execInstCreate {q : Sender} {tag : Byte} {n : BitVec 16} {addr : Dword} {block : HostRead} {kind : Fin 4}
    {s : State} (h : Wf s) :
    WfOut (execInstCreate q tag n addr block kind s) := by
  unfold execInstCreate
  extract_lets
  refine wf_request h (fun _ k1 => wf_ite (wf_createRefuse k1) (wf_ite (wf_createRefuse k1) ?_))
  extract_lets
  split
  · exact wf_readFailed k1
  · exact wf_ite (wf_ite (wf_createRefuse k1) (wf_answer (wf_setInst k1))) (wf_tryCreate k1)

theorem wf_execInstDestroy {q : Sender} {tag : Byte} {n : BitVec 16} {s : State} (h : Wf s) :
    WfOut (execInstDestroy q tag n s) := by
  unfold execInstDestroy
  extract_lets
  exact wf_request h (fun _ k1 => wf_ite (wf_answer k1) (wf_ite (wf_answer k1) (wf_instDestroy (wf_answer k1))))

theorem wf_execInstReset {q : Sender} {tag : Byte} {n : BitVec 16} {s : State} (h : Wf s) :
    WfOut (execInstReset q tag n s) := by
  unfold execInstReset
  extract_lets
  exact wf_request h (fun _ k1 => wf_ite (wf_answer k1) (wf_ite (wf_answer k1) (wf_instReset (wf_answer k1))))

theorem wf_execInstQuiesce {q : Sender} {tag : Byte} {n : BitVec 16} {s : State} (h : Wf s) :
    WfOut (execInstQuiesce q tag n s) := by
  unfold execInstQuiesce
  extract_lets
  exact wf_request h (fun _ k1 => wf_ite (wf_answer k1) (wf_ite (wf_answer k1) (wf_ite (wf_answer (wf_setVinState k1))
      (wf_setInst (wf_answer (wf_setVinState k1))))))

theorem wf_execInstResume {q : Sender} {tag : Byte} {n : BitVec 16} {s : State} (h : Wf s) :
    WfOut (execInstResume q tag n s) := by
  unfold execInstResume
  extract_lets
  exact wf_request h (fun _ k1 => wf_ite (wf_answer k1) (wf_ite (wf_answer k1) (wf_answer (wf_setVinState k1))))

theorem wf_execInstQuery {q : Sender} {tag : Byte} {n : BitVec 16} {s : State} (h : Wf s) :
    WfOut (execInstQuery q tag n s) := by
  unfold execInstQuery
  extract_lets
  exact wf_request h (fun _ k1 => wf_ite (wf_answer k1) (wf_ite (wf_answer k1) (wf_answer k1)))

theorem wf_execDirtyStart {q : Sender} {tag depth : Byte} {n : BitVec 16} {base : Dword} {s : State} (h : Wf s) :
    WfOut (execDirtyStart q tag n base depth s) := by
  unfold execDirtyStart
  extract_lets
  exact wf_request h (fun _ k1 => wf_ite (wf_answer k1) (wf_setInst (wf_answer (wf_setWindows (wf_wr (wf_wr64 k1))))))

theorem wf_execDirtyStop {q : Sender} {tag : Byte} {n : BitVec 16} {s : State} (h : Wf s) :
    WfOut (execDirtyStop q tag n s) := by
  unfold execDirtyStop
  extract_lets
  exact wf_request h (fun _ k1 => wf_ite (wf_answer k1) (wf_ite (wf_answer k1) (wf_ite (wf_dirtyEnd (wf_setInst k1))
      (wf_answer (wf_setInst k1)))))

theorem wf_execPoolQuery {q : Sender} {tag : Byte} {s : State} (h : Wf s) : WfOut (execPoolQuery q tag s) := by
  unfold execPoolQuery
  extract_lets
  exact wf_request h (fun _ k1 => wf_ite (wf_answer k1) (wf_answer k1))

/-! ### IlkRows -/

theorem wf_execIllegalWord {p : Proc} {word : Word} {s : State} (h : Wf s) : WfOut (execIllegalWord p word s) := by
  unfold execIllegalWord
  refine wf_act h (fun _ k1 => wf_ite k1 ?_)
  extract_lets s2
  have h2 : Wf s2 := wf_awake k1
  split <;> exact wf_raiseExc h2

theorem wf_execInterruptTaken {c : Fin 2} {s : State} (h : Wf s) : WfOut (execInterruptTaken c s) := by
  unfold execInterruptTaken
  exact wf_act h (fun _ k1 => wf_ite (wf_takeInterrupt (wf_awake k1)) k1)

theorem wf_execStepLimit {n : Fin 32} {s : State} (h : Wf s) : WfOut (execStepLimit n s) := by
  unfold execStepLimit
  refine wf_act h (fun _ k1 => ?_)
  extract_lets
  split
  · exact wf_routeException (wf_setLine k1)
  · exact k1

theorem wf_execCsTimecmpReached {c : Fin 2} {s : State} (h : Wf s) : WfOut (execCsTimecmpReached c s) := by
  unfold execCsTimecmpReached
  exact wf_actSettle h (fun _ k1 => wf_setCore k1)

theorem wf_execStreamTransferDone {e : Fin 512} {k : Nat} {data : HostRead} {kind : Fin 4} {s : State} (h : Wf s) :
    WfOut (execStreamTransferDone e k data kind s) := by
  unfold execStreamTransferDone
  exact wf_actSettle h (fun _ k1 => wf_transferDone k1)

theorem wf_execVoteMissing {h : Fin 4} {s : State} (hs : Wf s) : WfOut (execVoteMissing h s) := by
  unfold execVoteMissing
  refine wf_actSettle hs (fun _ k1 => wf_ite k1 ?_)
  split
  · exact wf_voteFailed k1
  · exact wf_voteFailed k1
  · exact k1

theorem wf_execCommitServed {s : State} (h : Wf s) : WfOut (execCommitServed s) := by
  unfold execCommitServed
  exact wf_clockedSettle h (fun _ k1 => wf_serveFront k1)

theorem wf_execJournalRecordComplete {ok : Bool} {s : State} (h : Wf s) : WfOut (execJournalRecordComplete ok s) := by
  unfold execJournalRecordComplete
  exact wf_actSettle h (fun _ k1 => wf_journalEnd k1)

theorem wf_execJournalApplied {s : State} (h : Wf s) : WfOut (execJournalApplied s) := by
  unfold execJournalApplied
  exact wf_actSettle h (fun _ k1 => wf_journalApplied k1)

theorem wf_execJournalSectorErase {k : Fin 32} {s : State} (h : Wf s) : WfOut (execJournalSectorErase k s) := by
  unfold execJournalSectorErase
  exact wf_act h (fun _ k1 => wf_ite (wf_eraseSector k1) k1)

theorem wf_execSignalBoxReset {badRecs : BitVec 64} {badMin : Bool} {s : State} (h : Wf s) :
    WfOut (execSignalBoxReset badRecs badMin s) := by
  unfold execSignalBoxReset
  exact wf_actSettle h (fun _ k1 => wf_signalBoxReset k1)

theorem wf_execLockstepMismatch {c : Fin 2} {us : Word} {s : State} (h : Wf s) : WfOut (execLockstepMismatch c us s) := by
  unfold execLockstepMismatch
  exact wf_actSettle h (fun _ k1 => wf_lockstepMismatch k1)

theorem wf_execCoreRejoined {s : State} (h : Wf s) : WfOut (execCoreRejoined s) := by
  unfold execCoreRejoined
  exact wf_actSettle h (fun _ k1 => wf_unlockTry (wf_coreRejoined k1))

theorem wf_execStage2Ready {svn build : Word} {s : State} (h : Wf s) : WfOut (execStage2Ready svn build s) := by
  unfold execStage2Ready
  exact wf_actSettle h (fun _ k1 => wf_stage2Ready k1)

theorem wf_execPowerOnReset {pfwHigh badMin badLock canaryLost : Bool} {v33 : BitVec 5} {badRecs : BitVec 64}
    {corruptLog : List Nat} {s : State} (h : Wf s) :
    WfOut (execPowerOnReset pfwHigh v33 badRecs badMin badLock canaryLost corruptLog s) := by
  unfold execPowerOnReset
  exact wf_next (wf_settle (wf_powerOnReset h))

theorem wf_execVinStbyLoss {cell : Bool} {s : State} (h : Wf s) : WfOut (execVinStbyLoss cell s) := by
  unfold execVinStbyLoss
  exact wf_act h (fun _ k1 => wf_vinStbyLoss k1)

theorem wf_execTrstNAssert {s : State} (h : Wf s) : WfOut (execTrstNAssert s) := by
  unfold execTrstNAssert
  exact wf_act h (fun _ k1 => wf_withTap k1)

/-! ### RegRows -/

theorem wf_writeRow {p : Party} {a : Nat} {v : Word} {be : BitVec 4} {s : State} (h : Wf s) :
    WfOut (writeRow p a v be s) := by
  unfold writeRow
  exact wf_actSettle h (fun _ k1 => wf_ite (wf_regWrite k1) k1)

theorem wf_execRegisterWrite {p : Party} {a v : Word} {be : BitVec 4} {hi : Option Word} {s : State} (h : Wf s) :
    WfOut (execRegisterWrite p a v be hi s) := by
  unfold execRegisterWrite
  refine wf_actSettle h (fun _ k1 => wf_ite ?_ k1)
  split
  · exact wf_regWrite k1
  · exact wf_ite (wf_regWrite64 k1) k1

theorem wf_execLowWordRead {p : Party} {a : Word} {s : State} (h : Wf s) : WfOut (execLowWordRead p a s) := by
  unfold execLowWordRead
  exact wf_act h (fun _ k1 => wf_ite (wf_readReg k1) k1)

theorem wf_execYardRunWrite {p : Party} {y : Fin 16} {run : Bool} {s : State} (h : Wf s) :
    WfOut (execYardRunWrite p y run s) := by
  unfold execYardRunWrite
  exact wf_writeRow h

theorem wf_execBarBreak {p : Party} {y : Fin 16} {s : State} (h : Wf s) : WfOut (execBarBreak p y s) := by
  unfold execBarBreak
  exact wf_writeRow h

theorem wf_execDoorbell {p : Party} {y : Fin 16} {m : Word} {s : State} (h : Wf s) : WfOut (execDoorbell p y m s) := by
  unfold execDoorbell
  exact wf_writeRow h

theorem wf_execFaultMapRestart {p : Party} {y : Fin 16} {m : Word} {s : State} (h : Wf s) :
    WfOut (execFaultMapRestart p y m s) := by
  unfold execFaultMapRestart
  exact wf_writeRow h

theorem wf_execBcastGo {p : Party} {s : State} (h : Wf s) : WfOut (execBcastGo p s) := by
  unfold execBcastGo
  exact wf_writeRow h

theorem wf_execBcastDone {s : State} (h : Wf s) : WfOut (execBcastDone s) := by
  unfold execBcastDone
  exact wf_actSettle h (fun _ k1 => wf_bcastDone k1)

theorem wf_execYrdKeyGo {p : Party} {s : State} (h : Wf s) : WfOut (execYrdKeyGo p s) := by
  unfold execYrdKeyGo
  exact wf_writeRow h

theorem wf_execKeyLoadDone {s : State} (h : Wf s) : WfOut (execKeyLoadDone s) := by
  unfold execKeyLoadDone
  exact wf_actSettle h (fun _ k1 => wf_keyDone k1)

theorem wf_execBarrierRelease {y : Fin 16} {s : State} (h : Wf s) : WfOut (execBarrierRelease y s) := by
  unfold execBarrierRelease
  exact wf_act h (fun _ k1 => wf_settleBars k1)

theorem wf_execDevGo {p : Party} {n : Fin 34} {s : State} (h : Wf s) : WfOut (execDevGo p n s) := by
  unfold execDevGo
  exact wf_writeRow h

theorem wf_execProfCheck {p : Party} {n : Fin 34} {s : State} (h : Wf s) : WfOut (execProfCheck p n s) := by
  unfold execProfCheck
  exact wf_writeRow h

theorem wf_execProfileWrite {p : Party} {n : Fin 34} {k : Option (Fin 128)} {v : Word} {be : BitVec 4} {s : State}
    (h : Wf s) :
    WfOut (execProfileWrite p n k v be s) := by
  unfold execProfileWrite
  exact wf_writeRow h

theorem wf_execPolicyWrite {p : Party} {n : Fin 34} {k : Fin 8} {v : Word} {be : BitVec 4} {s : State} (h : Wf s) :
    WfOut (execPolicyWrite p n k v be s) := by
  unfold execPolicyWrite
  exact wf_writeRow h

theorem wf_execPgmLoad {p : Party} {n : Fin 32} {s : State} (h : Wf s) : WfOut (execPgmLoad p n s) := by
  unfold execPgmLoad
  exact wf_writeRow h

theorem wf_execExtentStateWrite {p : Party} {x : Fin 256} {v : Word} {be : BitVec 4} {s : State} (h : Wf s) :
    WfOut (execExtentStateWrite p x v be s) := by
  unfold execExtentStateWrite
  exact wf_writeRow h

theorem wf_execHoldPendWrite {p : Party} {high : Bool} {m : Word} {s : State} (h : Wf s) :
    WfOut (execHoldPendWrite p high m s) := by
  unfold execHoldPendWrite
  exact wf_writeRow h

theorem wf_execHoldCfgWrite {p : Party} {l : Option (Fin 96)} {v : Word} {be : BitVec 4} {s : State} (h : Wf s) :
    WfOut (execHoldCfgWrite p l v be s) := by
  unfold execHoldCfgWrite
  exact wf_writeRow h

theorem wf_execHoldLockWrite {p : Party} {s : State} (h : Wf s) : WfOut (execHoldLockWrite p s) := by
  unfold execHoldLockWrite
  exact wf_writeRow h

theorem wf_execIlkArmWrite {p : Party} {m : Word} {s : State} (h : Wf s) : WfOut (execIlkArmWrite p m s) := by
  unfold execIlkArmWrite
  exact wf_writeRow h

theorem wf_execExmSubmit {p : Party} {l : Fin 34} {desc : Word} {s : State} (h : Wf s) :
    WfOut (execExmSubmit p l desc s) := by
  unfold execExmSubmit
  exact wf_writeRow h

theorem wf_execExmAbortHolder {p : Party} {l : Fin 34} {s : State} (h : Wf s) : WfOut (execExmAbortHolder p l s) := by
  unfold execExmAbortHolder
  exact wf_writeRow h

theorem wf_execExmAbortMine {p : Party} {l : Fin 34} {s : State} (h : Wf s) : WfOut (execExmAbortMine p l s) := by
  unfold execExmAbortMine
  exact wf_writeRow h

theorem wf_execExmEnd {p : Party} {l : Fin 34} {s : State} (h : Wf s) : WfOut (execExmEnd p l s) := by
  unfold execExmEnd
  exact wf_writeRow h

theorem wf_execSigAbort {p : Party} {s : State} (h : Wf s) : WfOut (execSigAbort p s) := by
  unfold execSigAbort
  exact wf_writeRow h

theorem wf_execMregExtendGo {p : Party} {v : Word} {s : State} (h : Wf s) : WfOut (execMregExtendGo p v s) := by
  unfold execMregExtendGo
  exact wf_writeRow h

theorem wf_execInstanceResetWrite {p : Party} {n : Fin 1025} {s : State} (h : Wf s) :
    WfOut (execInstanceResetWrite p n s) := by
  unfold execInstanceResetWrite
  exact wf_writeRow h

theorem wf_execEnableWrite {p : Party} {n : Fin 1025} {s : State} (h : Wf s) : WfOut (execEnableWrite p n s) := by
  unfold execEnableWrite
  exact wf_writeRow h

theorem wf_execFeaturesOkWrite {p : Party} {n : Fin 1025} {s : State} (h : Wf s) : WfOut (execFeaturesOkWrite p n s) := by
  unfold execFeaturesOkWrite
  exact wf_writeRow h

theorem wf_execSqTailDoorbell {p : Party} {n : Fin 1025} {v : Word} {s : State} (h : Wf s) :
    WfOut (execSqTailDoorbell p n v s) := by
  unfold execSqTailDoorbell
  exact wf_writeRow h

theorem wf_execCmdTailDoorbell {p : Party} {n : Fin 1025} {v : Word} {s : State} (h : Wf s) :
    WfOut (execCmdTailDoorbell p n v s) := by
  unfold execCmdTailDoorbell
  exact wf_writeRow h

theorem wf_execCqHeadDoorbell {p : Party} {n : Fin 1025} {v : Word} {s : State} (h : Wf s) :
    WfOut (execCqHeadDoorbell p n v s) := by
  unfold execCqHeadDoorbell
  exact wf_writeRow h

theorem wf_execRspHeadDoorbell {p : Party} {n : Fin 1025} {v : Word} {s : State} (h : Wf s) :
    WfOut (execRspHeadDoorbell p n v s) := by
  unfold execRspHeadDoorbell
  exact wf_writeRow h

theorem wf_execDirtyDb {p : Party} {v : Word} {s : State} (h : Wf s) : WfOut (execDirtyDb p v s) := by
  unfold execDirtyDb
  exact wf_writeRow h

theorem wf_execMbxDataWrite {p : Party} {n : Fin 64} {k : Fin 16} {v : Word} {be : BitVec 4} {s : State} (h : Wf s) :
    WfOut (execMbxDataWrite p n k v be s) := by
  unfold execMbxDataWrite
  exact wf_writeRow h

theorem wf_execMbxGo {p : Party} {n : Fin 64} {len : BitVec 5} {s : State} (h : Wf s) : WfOut (execMbxGo p n len s) := by
  unfold execMbxGo
  exact wf_writeRow h

theorem wf_execMbxTake {p : Party} {n : Fin 64} {s : State} (h : Wf s) : WfOut (execMbxTake p n s) := by
  unfold execMbxTake
  exact wf_actSettle h (fun _ k1 => wf_ite (wf_readReg k1) k1)

theorem wf_execMbxDone {p : Party} {n : Fin 64} {s : State} (h : Wf s) : WfOut (execMbxDone p n s) := by
  unfold execMbxDone
  exact wf_writeRow h

theorem wf_execMbxAgtReset {p : Party} {a : Fin 4} {s : State} (h : Wf s) : WfOut (execMbxAgtReset p a s) := by
  unfold execMbxAgtReset
  exact wf_writeRow h

theorem wf_execTmpLockWrite {p : Party} {s : State} (h : Wf s) : WfOut (execTmpLockWrite p s) := by
  unfold execTmpLockWrite
  exact wf_writeRow h

theorem wf_execEvrCursorWrite {p : Party} {k : Fin 6} {v : Word} {s : State} (h : Wf s) :
    WfOut (execEvrCursorWrite p k v s) := by
  unfold execEvrCursorWrite
  exact wf_writeRow h

theorem wf_execSleepRetry {p : Party} {d : Fin 25} {s : State} (h : Wf s) : WfOut (execSleepRetry p d s) := by
  unfold execSleepRetry
  exact wfOut_ite (wf_act h (fun _ k1 => k1)) (wf_writeRow h)

theorem wf_execYardOpWrite {p : Party} {y : Fin 16} {v : Word} {be : BitVec 4} {s : State} (h : Wf s) :
    WfOut (execYardOpWrite p y v be s) := by
  unfold execYardOpWrite
  exact wf_writeRow h

theorem wf_execClkCtlWrite {p : Party} {v : Word} {be : BitVec 4} {s : State} (h : Wf s) :
    WfOut (execClkCtlWrite p v be s) := by
  unfold execClkCtlWrite
  exact wf_writeRow h

theorem wf_execSbxSnap {p : Party} {s : State} (h : Wf s) : WfOut (execSbxSnap p s) := by
  unfold execSbxSnap
  exact wf_writeRow h

theorem wf_execNvcProgram {p : Party} {s : State} (h : Wf s) : WfOut (execNvcProgram p s) := by
  unfold execNvcProgram
  exact wf_writeRow h

theorem wf_execNvcErase {p : Party} {s : State} (h : Wf s) : WfOut (execNvcErase p s) := by
  unfold execNvcErase
  exact wf_writeRow h

theorem wf_execNvcDone {bad : Bool} {s : State} (h : Wf s) : WfOut (execNvcDone bad s) := by
  unfold execNvcDone
  exact wf_actSettle h (fun _ k1 => wf_nvcDone k1)

/-! ### TmpRows -/

theorem wf_execDetectorEvent {x : Fin 15} {det : Fin 2} {stamp : BitVec 48} {lasting : Bool} {extra : List Byte}
    {s : State} (h : Wf s) :
    WfOut (execDetectorEvent x det stamp lasting extra s) := by
  unfold execDetectorEvent
  extract_lets
  exact wf_actSettle h (fun _ k1 => wf_ite (wf_wake (wf_detectorEvent (wf_setActive k1))) (wf_setActive k1))

theorem wf_execLockdownRecordJournaled {s : State} (h : Wf s) : WfOut (execLockdownRecordJournaled s) := by
  unfold execLockdownRecordJournaled
  refine wf_actSettle h (fun _ k1 => ?_)
  extract_lets
  split
  · exact wf_advanceEvidence (wf_withTmp k1)
  · exact k1

theorem wf_execBackupSample {quiet : Nat} {seen : BitVec 30} {s : State} (h : Wf s) :
    WfOut (execBackupSample quiet seen s) := by
  unfold execBackupSample
  extract_lets
  exact wf_next (wf_ite (wf_backupSources (wf_tickTo h)) h)

theorem wf_execCellWindowTimeout {cell : Bool} {s : State} (h : Wf s) : WfOut (execCellWindowTimeout cell s) := by
  unfold execCellWindowTimeout
  exact wf_actSettle h (fun _ k1 => wf_ite (wf_cellClose k1) k1)

theorem wf_withTicket {s : State} {q : Sender} {w0 scope : Nat} {t : Word} {f : Nat → State}
    (hs : Wf s) (hf : ∀ y0, Wf (f y0)) :
    Wf (withTicket s q w0 t scope f) := by
  unfold withTicket
  refine wf_ite (wf_answer hs) ?_
  split
  · exact wf_answer hs
  · exact hf _

theorem wf_execUnlock {q : Sender} {tag : Byte} {ticket : Word} {s : State} (h : Wf s) :
    WfOut (execUnlock q tag ticket s) := by
  unfold execUnlock
  extract_lets
  exact wf_request h (fun _ k1 => wf_withTicket k1 (fun _ => wf_ite (wf_answer (wf_useTicket k1)) (wf_ite (wf_answer
      (wf_useTicket k1)) (wf_unlockTry (wf_withTmp (wf_answer k1))))))

theorem wf_execCellServiceOpen {q : Sender} {tag : Byte} {ticket : Word} {s : State} (h : Wf s) :
    WfOut (execCellServiceOpen q tag ticket s) := by
  unfold execCellServiceOpen
  extract_lets
  exact wf_request h (fun _ k1 => wf_withTicket k1 (fun _ => wf_ite (wf_answer (wf_useTicket k1)) (wf_answer (wf_log
      (wf_setBit (wf_useTicket k1))))))

theorem wf_execCellServiceClose {q : Sender} {tag : Byte} {cell : Bool} {s : State} (h : Wf s) :
    WfOut (execCellServiceClose q tag cell s) := by
  unfold execCellServiceClose
  extract_lets
  exact wf_request h (fun _ k1 => wf_ite (wf_answer k1) (wf_ite (wf_answer k1) (wf_answer (wf_cellClose k1))))

theorem wf_execFuseSource {q : Sender} {tag : Byte} {src : BitVec 16} {ticket : Word} {s : State} (h : Wf s) :
    WfOut (execFuseSource q tag src ticket s) := by
  unfold execFuseSource
  extract_lets
  exact wf_request h (fun _ k1 => wf_withTicket k1 (fun _ => wf_ite (wf_answer (wf_useTicket k1)) (wf_ite (wf_answer k1)
      (wf_ite (wf_answer (wf_useTicket k1)) (wf_ite (wf_answer (wf_useTicket k1)) (wf_answer (wf_blowFuse (wf_answer
      (wf_useTicket k1)))))))))

theorem wf_execTamperStatus {q : Sender} {tag : Byte} {s : State} (h : Wf s) : WfOut (execTamperStatus q tag s) := by
  unfold execTamperStatus
  extract_lets
  exact wf_request h (fun _ k1 => wf_ite (wf_answer k1) (wf_answer k1))

/-! ### LcsRows -/

theorem wf_lcsRequest {c : Request} {code w0 : Nat} {q : Sender} {s : State} {f : State → State}
    (hs : Wf s) (hf : ∀ y0, Wf y0 → Wf (f y0)) :
    WfOut (lcsRequest c code q w0 s f) := by
  unfold lcsRequest
  exact wf_request hs (fun _ k1 => wf_ite (hf _ k1) (wf_answer k1))

theorem wf_execStaffNonce {q : Sender} {tag : Byte} {s : State} (h : Wf s) : WfOut (execStaffNonce q tag s) := by
  unfold execStaffNonce
  extract_lets
  exact wf_lcsRequest h (fun _ k1 => wf_ite (wf_answer k1) (wf_answer (wf_setBit (wf_withLcs (wf_drawRandom k1)))))

theorem wf_execLcsData {q : Sender} {tag : Byte} {off : Word} {data : List Byte} {s : State} (h : Wf s) :
    WfOut (execLcsData q tag off data s) := by
  unfold execLcsData
  extract_lets
  exact wf_lcsRequest h (fun _ k1 => wf_ite (wf_answer k1) (wf_answer (wf_withLcs k1)))

theorem wf_execStaffSubmit {q : Sender} {tag : Byte} {len : Word} {s : State} (h : Wf s) :
    WfOut (execStaffSubmit q tag len s) := by
  unfold execStaffSubmit
  extract_lets
  refine wf_lcsRequest h (fun _ k1 => ?_)
  extract_lets s2
  have h2 : Wf s2 := wf_acceptStaff k1
  split
  · exact wf_answer (wf_fwLog k1)
  · exact wf_answer h2

theorem wf_lcTransit {s : State} {q : Sender} {w0 st : Nat} {ticket : Word} {t : Ticket} (h : Wf s) :
    Wf (lcTransit s q w0 st ticket t) := by
  unfold lcTransit
  extract_lets s1
  have h1 : Wf s1 := wf_fwCommit h
  exact wf_ite (wf_answer h) (wf_answer (wf_transitBegin h1))

theorem wf_execLcTransit {q : Sender} {tag : Byte} {target : BitVec 16} {ticket : Word} {s : State} (h : Wf s) :
    WfOut (execLcTransit q tag target ticket s) := by
  unfold execLcTransit
  extract_lets
  refine wf_request h (fun _ k1 => wf_withTicket k1 (fun _ => ?_))
  extract_lets s2
  have h2 : Wf s2 := wf_useTicket k1
  split
  · exact wf_answer k1
  · exact wf_ite (wf_answer k1) (wf_ite (wf_answer h2) (wf_lcTransit h2))

theorem wf_execEraseUserSecrets {q : Sender} {tag : Byte} {ticket : Word} {s : State} (h : Wf s) :
    WfOut (execEraseUserSecrets q tag ticket s) := by
  unfold execEraseUserSecrets
  extract_lets
  refine wf_request h (fun _ k1 => wf_withTicket k1 (fun _ => ?_))
  extract_lets s2
  have h2 : Wf s2 := wf_useTicket k1
  split
  · exact wf_answer k1
  · exact wf_ite (wf_answer k1) (wf_ite (wf_answer h2) (wf_lcTransit h2))

theorem wf_execDebugArm {q : Sender} {tag : Byte} {ticket : Word} {s : State} (h : Wf s) :
    WfOut (execDebugArm q tag ticket s) := by
  unfold execDebugArm
  extract_lets
  exact wf_request h (fun _ k1 => wf_withTicket k1 (fun _ => wf_ite (wf_answer (wf_useTicket k1)) (wf_answer (wf_withLcs
      (wf_useTicket k1)))))

theorem wf_execOwnerKeySet {q : Sender} {tag : Byte} {slot : BitVec 16} {cosign : Word} {hash : List Byte} {s : State}
    (h : Wf s) :
    WfOut (execOwnerKeySet q tag slot cosign hash s) := by
  unfold execOwnerKeySet
  extract_lets
  exact wf_lcsRequest h (fun _ k1 => wf_ite (wf_answer k1) (wf_ite (wf_answer k1) (wf_ite (wf_answer k1) (wf_answer
      (wf_fwLog (wf_ite (wf_setBit (wf_setBit (wf_wrBytes k1))) (wf_setBit (wf_wrBytes k1))))))))

theorem wf_execLcStatus {q : Sender} {tag : Byte} {s : State} (h : Wf s) : WfOut (execLcStatus q tag s) := by
  unfold execLcStatus
  extract_lets
  exact wf_request h (fun _ k1 => wf_ite (wf_answer k1) (wf_answer k1))

theorem wf_execKeystoreLoad {q : Sender} {tag : Byte} {len : Word} {s : State} (h : Wf s) :
    WfOut (execKeystoreLoad q tag len s) := by
  unfold execKeystoreLoad
  extract_lets
  exact wf_lcsRequest h (fun _ k1 => wf_ite (wf_answer k1) (wf_ite (wf_answer k1) (wf_answer (wf_withLcs k1))))

theorem wf_mtmWrite {p : Party} {test target : Nat} {s : State} (h : Wf s) : WfOut (mtmWrite p test target s) := by
  unfold mtmWrite
  exact wf_writeRow h

theorem wf_execMtmMarch {p : Party} {target : Byte} {s : State} (h : Wf s) : WfOut (execMtmMarch p target s) := by
  unfold execMtmMarch
  exact wf_mtmWrite h

theorem wf_execMtmCheckerboard {p : Party} {target : Byte} {s : State} (h : Wf s) :
    WfOut (execMtmCheckerboard p target s) := by
  unfold execMtmCheckerboard
  exact wf_mtmWrite h

theorem wf_execMtmRetention {p : Party} {target : Byte} {s : State} (h : Wf s) : WfOut (execMtmRetention p target s) := by
  unfold execMtmRetention
  exact wf_mtmWrite h

theorem wf_execMtmNvmMargin0 {p : Party} {target : Byte} {s : State} (h : Wf s) : WfOut (execMtmNvmMargin0 p target s) := by
  unfold execMtmNvmMargin0
  exact wf_mtmWrite h

theorem wf_execMtmNvmMargin1 {p : Party} {target : Byte} {s : State} (h : Wf s) : WfOut (execMtmNvmMargin1 p target s) := by
  unfold execMtmNvmMargin1
  exact wf_mtmWrite h

theorem wf_execLcAdvance {p : Party} {s : State} (h : Wf s) : WfOut (execLcAdvance p s) := by
  unfold execLcAdvance
  exact wf_mtmWrite h

theorem wf_execLcEol {p : Party} {s : State} (h : Wf s) : WfOut (execLcEol p s) := by
  unfold execLcEol
  exact wf_mtmWrite h

theorem wf_execMtmDone {fail : Option Word} {s : State} (h : Wf s) : WfOut (execMtmDone fail s) := by
  unfold execMtmDone
  exact wf_actSettle h (fun _ k1 => wf_mtmEnd k1)

theorem wf_tapSelect {s : State} {level : Nat} {i : TapInstr} (h : Wf s) : Wf (tapSelect s level i) := by
  unfold tapSelect
  exact wf_withTap h

theorem wf_execIdcode {s : State} (h : Wf s) : WfOut (execIdcode s) := by
  unfold execIdcode
  exact wf_act h (fun _ k1 => wf_tapSelect k1)

theorem wf_execBypass {s : State} (h : Wf s) : WfOut (execBypass s) := by
  unfold execBypass
  exact wf_act h (fun _ k1 => wf_tapSelect k1)

theorem wf_execExtest {s : State} (h : Wf s) : WfOut (execExtest s) := by
  unfold execExtest
  exact wf_act h (fun _ k1 => wf_tapSelect k1)

theorem wf_execSamplePreload {s : State} (h : Wf s) : WfOut (execSamplePreload s) := by
  unfold execSamplePreload
  exact wf_act h (fun _ k1 => wf_tapSelect k1)

theorem wf_execIntest {s : State} (h : Wf s) : WfOut (execIntest s) := by
  unfold execIntest
  exact wf_act h (fun _ k1 => wf_tapSelect k1)

/-! ### MbxRows -/

theorem wf_execI3cTargetReset {a : Fin 2} {s : State} (h : Wf s) : WfOut (execI3cTargetReset a s) := by
  unfold execI3cTargetReset
  exact wf_actSettle h (fun _ k1 => wf_agentReset k1)

theorem wf_execChannelShutdownDone {id : BitVec 6} {s : State} (h : Wf s) : WfOut (execChannelShutdownDone id s) := by
  unfold execChannelShutdownDone
  exact wf_actSettle h (fun _ k1 => wf_ite (wf_mbxShutdownDone k1) k1)

theorem wf_execMbxStall {n : Fin 64} {s : State} (h : Wf s) : WfOut (execMbxStall n s) := by
  unfold execMbxStall
  exact wf_actSettle h (fun _ k1 => wf_mbxStall k1)

theorem wf_execAgentReturn {a : Fin 4} {s : State} (h : Wf s) : WfOut (execAgentReturn a s) := by
  unfold execAgentReturn
  exact wf_actSettle h (fun _ k1 => wf_agentReturn k1)

theorem wf_execKnock {ticks : Nat} {s : State} (h : Wf s) : WfOut (execKnock ticks s) := by
  unfold execKnock
  exact wf_actSettle h (fun _ k1 => wf_ite k1 (wf_ite (wf_wake (wf_pwrLog (wf_knockCounts k1))) (wf_knockCounts k1)))

/-! ### MemFlow -/

theorem wf_execLdb {p : Proc} {rd ra : RegNo} {imm : BitVec 16} {s : State} (h : Wf s) : WfOut (execLdb p rd ra imm s) := by
  unfold execLdb
  exact wf_act h (fun _ k1 => wf_runWop (fun _ k2 => wf_opLoad k2) k1)

theorem wf_execLdh {p : Proc} {rd ra : RegNo} {imm : BitVec 16} {s : State} (h : Wf s) : WfOut (execLdh p rd ra imm s) := by
  unfold execLdh
  exact wf_act h (fun _ k1 => wf_runWop (fun _ k2 => wf_opLoad k2) k1)

theorem wf_execLdw {p : Proc} {rd ra : RegNo} {imm : BitVec 16} {s : State} (h : Wf s) : WfOut (execLdw p rd ra imm s) := by
  unfold execLdw
  exact wf_act h (fun _ k1 => wf_runWop (fun _ k2 => wf_opLoad k2) k1)

theorem wf_execLdd {p : Proc} {rd ra : RegNo} {imm : BitVec 16} {s : State} (h : Wf s) : WfOut (execLdd p rd ra imm s) := by
  unfold execLdd
  exact wf_act h (fun _ k1 => wf_runWop (fun _ k2 => wf_opLoad k2) k1)

theorem wf_execStb {p : Proc} {rs ra : RegNo} {imm : BitVec 16} {s : State} (h : Wf s) : WfOut (execStb p rs ra imm s) := by
  unfold execStb
  exact wf_actSettle h (fun _ k1 => wf_runWop (fun _ k2 => wf_opStore k2) k1)

theorem wf_execSth {p : Proc} {rs ra : RegNo} {imm : BitVec 16} {s : State} (h : Wf s) : WfOut (execSth p rs ra imm s) := by
  unfold execSth
  exact wf_actSettle h (fun _ k1 => wf_runWop (fun _ k2 => wf_opStore k2) k1)

theorem wf_execStw {p : Proc} {rs ra : RegNo} {imm : BitVec 16} {s : State} (h : Wf s) : WfOut (execStw p rs ra imm s) := by
  unfold execStw
  exact wf_actSettle h (fun _ k1 => wf_runWop (fun _ k2 => wf_opStore k2) k1)

theorem wf_execStd {p : Proc} {rs ra : RegNo} {imm : BitVec 16} {s : State} (h : Wf s) : WfOut (execStd p rs ra imm s) := by
  unfold execStd
  exact wf_actSettle h (fun _ k1 => wf_runWop (fun _ k2 => wf_opStore k2) k1)

theorem wf_execAmoadd {p : Proc} {rd ra rb : RegNo} {s : State} (h : Wf s) : WfOut (execAmoadd p rd ra rb s) := by
  unfold execAmoadd
  exact wf_actSettle h (fun _ k1 => wf_runWop (fun _ k2 => wf_opAmoadd k2) k1)

theorem wf_execAmoswap {p : Proc} {rd ra rb : RegNo} {s : State} (h : Wf s) : WfOut (execAmoswap p rd ra rb s) := by
  unfold execAmoswap
  exact wf_actSettle h (fun _ k1 => wf_runWop (fun _ k2 => wf_opAmoswap k2) k1)

theorem wf_execCas {p : Proc} {rd ra rb : RegNo} {s : State} (h : Wf s) : WfOut (execCas p rd ra rb s) := by
  unfold execCas
  exact wf_actSettle h (fun _ k1 => wf_runWop (fun _ k2 => wf_opCas k2) k1)

theorem wf_execFence {p : Proc} {kinds : BitVec 3} {s : State} (h : Wf s) : WfOut (execFence p kinds s) := by
  unfold execFence
  exact wf_act h (fun _ k1 => wf_runWop (fun _ k2 => wf_opFence k2) k1)

theorem wf_execBeq {p : Proc} {ra rb : RegNo} {off : BitVec 16} {s : State} (h : Wf s) : WfOut (execBeq p ra rb off s) := by
  unfold execBeq
  exact wf_act h (fun _ k1 => wf_runWop (fun _ k2 => wf_opBranch k2) k1)

theorem wf_execBne {p : Proc} {ra rb : RegNo} {off : BitVec 16} {s : State} (h : Wf s) : WfOut (execBne p ra rb off s) := by
  unfold execBne
  exact wf_act h (fun _ k1 => wf_runWop (fun _ k2 => wf_opBranch k2) k1)

theorem wf_execBlt {p : Proc} {ra rb : RegNo} {off : BitVec 16} {s : State} (h : Wf s) : WfOut (execBlt p ra rb off s) := by
  unfold execBlt
  exact wf_act h (fun _ k1 => wf_runWop (fun _ k2 => wf_opBranch k2) k1)

theorem wf_execBge {p : Proc} {ra rb : RegNo} {off : BitVec 16} {s : State} (h : Wf s) : WfOut (execBge p ra rb off s) := by
  unfold execBge
  exact wf_act h (fun _ k1 => wf_runWop (fun _ k2 => wf_opBranch k2) k1)

theorem wf_execBltu {p : Proc} {ra rb : RegNo} {off : BitVec 16} {s : State} (h : Wf s) :
    WfOut (execBltu p ra rb off s) := by
  unfold execBltu
  exact wf_act h (fun _ k1 => wf_runWop (fun _ k2 => wf_opBranch k2) k1)

theorem wf_execBgeu {p : Proc} {ra rb : RegNo} {off : BitVec 16} {s : State} (h : Wf s) :
    WfOut (execBgeu p ra rb off s) := by
  unfold execBgeu
  exact wf_act h (fun _ k1 => wf_runWop (fun _ k2 => wf_opBranch k2) k1)

theorem wf_execJmp {p : Proc} {off : BitVec 26} {s : State} (h : Wf s) : WfOut (execJmp p off s) := by
  unfold execJmp
  exact wf_act h (fun _ k1 => wf_runWop (fun _ k2 => wf_opJmp k2) k1)

theorem wf_execCall {p : Proc} {off : BitVec 26} {s : State} (h : Wf s) : WfOut (execCall p off s) := by
  unfold execCall
  exact wf_act h (fun _ k1 => wf_runWop (fun _ k2 => wf_opCall k2) k1)

theorem wf_execJr {p : Proc} {rd ra : RegNo} {imm : BitVec 16} {s : State} (h : Wf s) : WfOut (execJr p rd ra imm s) := by
  unfold execJr
  exact wf_act h (fun _ k1 => wf_runWop (fun _ k2 => wf_opJr k2) k1)

/-! ### PwrRows -/

theorem wf_execPlatformOff {q : Sender} {tag : Byte} {s : State} (h : Wf s) : WfOut (execPlatformOff q tag s) := by
  unfold execPlatformOff
  extract_lets
  exact wf_request h (fun _ k1 => wf_ite (wf_answer k1) (wf_ite (wf_answer k1) (wf_ite (wf_answer k1) (wf_platformOff k1))))

theorem wf_execPlatformOn {q : Sender} {tag : Byte} {s : State} (h : Wf s) : WfOut (execPlatformOn q tag s) := by
  unfold execPlatformOn
  extract_lets
  exact wf_request h (fun _ k1 => wf_ite (wf_answer k1) (wf_ite (wf_answer k1) (wf_ite (wf_answer k1) (wf_answer
      (wf_platformStart k1)))))

theorem wf_execPowerStatus {q : Sender} {tag : Byte} {s : State} (h : Wf s) : WfOut (execPowerStatus q tag s) := by
  unfold execPowerStatus
  extract_lets
  exact wf_request h (fun _ k1 => wf_ite (wf_answer k1) (wf_answer k1))

theorem wf_execSleepPrepareDone {d : Fin 25} {slow : Option Byte} {s : State} (h : Wf s) :
    WfOut (execSleepPrepareDone d slow s) := by
  unfold execSleepPrepareDone
  exact wf_actSettle h (fun _ k1 => wf_ite k1 (wf_sleepPrepared k1))

theorem wf_execSleepCommitDone {d : Fin 25} {s : State} (h : Wf s) : WfOut (execSleepCommitDone d s) := by
  unfold execSleepCommitDone
  exact wf_actSettle h (fun _ k1 => wf_ite k1 (wf_sleepCommitted k1))

theorem wf_execWake {src : Fin 7} {s : State} (h : Wf s) : WfOut (execWake src s) := by
  unfold execWake
  exact wf_actSettle h (fun _ k1 => wf_wake k1)

theorem wf_execDomainRun {d : Fin 25} {s : State} (h : Wf s) : WfOut (execDomainRun d s) := by
  unfold execDomainRun
  exact wf_actSettle h (fun _ k1 => wf_ite k1 (wf_domainRun k1))

theorem wf_retentionDone {s : State} {kind bank : Nat} {upset : Bool} (h : Wf s) : Wf (retentionDone s kind bank upset) := by
  unfold retentionDone
  extract_lets _ s1
  have h1 : Wf s1 := wf_retentionChecked h
  exact wf_ite (wf_signalBoxReset h1) h1

theorem wf_execRetentionCheckDone {kind : Fin 3} {bank : Fin 16} {upset : Bool} {s : State} (h : Wf s) :
    WfOut (execRetentionCheckDone kind bank upset s) := by
  unfold execRetentionCheckDone
  exact wf_actSettle h (fun _ k1 => wf_retentionDone k1)

theorem wf_execVoltGood {y : Fin 16} {s : State} (h : Wf s) : WfOut (execVoltGood y s) := by
  unfold execVoltGood
  exact wf_actSettle h (fun _ k1 => wf_setBit k1)

theorem wf_execPllLock {p : Fin 3} {s : State} (h : Wf s) : WfOut (execPllLock p s) := by
  unfold execPllLock
  exact wf_actSettle h (fun _ k1 => wf_ite (wf_setBit (wf_setBit k1)) k1)

theorem wf_lockLost {s : State} {p : Nat} {refclk : Bool} (h : Wf s) : Wf (lockLost s p refclk) := by
  unfold lockLost
  extract_lets s1 s2
  have h1 : Wf s1 := wf_setBit (wf_setBit h)
  have h2 : Wf s2 := wf_ite (wf_setL h1) h1
  exact wf_ite h (wf_wake (wf_ite h2 (wf_detectorEvent h2)))

theorem wf_execPllLockLoss {p : Fin 3} {refclk : Bool} {s : State} (h : Wf s) : WfOut (execPllLockLoss p refclk s) := by
  unfold execPllLockLoss
  exact wf_actSettle h (fun _ k1 => wf_lockLost k1)

theorem wf_execCrystalStart {s : State} (h : Wf s) : WfOut (execCrystalStart s) := by
  unfold execCrystalStart
  exact wf_actSettle h (fun _ k1 => wf_setBit k1)

theorem wf_execMainRailsFail {us : Word} {s : State} (h : Wf s) : WfOut (execMainRailsFail us s) := by
  unfold execMainRailsFail
  exact wf_actSettle h (fun _ k1 => wf_railsFail (wf_ite k1 (wf_powerFailed k1)))

theorem wf_execI3cDynamicAddress {t : Fin 2} {addr : Option (BitVec 7)} {i2c ibi : Bool} {s : State} (h : Wf s) :
    WfOut (execI3cDynamicAddress t addr i2c ibi s) := by
  unfold execI3cDynamicAddress
  exact wf_actSettle h (fun _ k1 => wf_ite (wf_wr k1) k1)

end Sys2Proof.Machine
end

section
/-! O5: what keeps the canonical form: the commands of the sections, the signature unit and updates. -/

namespace Sys2Proof.Machine

/-! ### SecIsa -/

theorem wf_execPass {p : Proc} {ra : RegNo} {reason : BitVec 8} {s : State} (h : Wf s) : WfOut (execPass p ra reason s) := by
  unfold execPass
  exact wf_act h (fun _ k1 => wf_runWop (fun _ k2 => wf_opVerdict k2) k1)

theorem wf_execDeny {p : Proc} {ra : RegNo} {reason : BitVec 8} {s : State} (h : Wf s) : WfOut (execDeny p ra reason s) := by
  unfold execDeny
  exact wf_act h (fun _ k1 => wf_runWop (fun _ k2 => wf_opVerdict k2) k1)

theorem wf_execStage {p : Proc} {ra : RegNo} {reason : BitVec 8} {s : State} (h : Wf s) :
    WfOut (execStage p ra reason s) := by
  unfold execStage
  exact wf_act h (fun _ k1 => wf_runWop (fun _ k2 => wf_opVerdict k2) k1)

theorem wf_execServe {p : Proc} {ra : RegNo} {reason : BitVec 8} {s : State} (h : Wf s) :
    WfOut (execServe p ra reason s) := by
  unfold execServe
  exact wf_act h (fun _ k1 => wf_runWop (fun _ k2 => wf_opVerdict k2) k1)

theorem wf_execCheck {p : Proc} {ra : RegNo} {reason : BitVec 8} {s : State} (h : Wf s) :
    WfOut (execCheck p ra reason s) := by
  unfold execCheck
  exact wf_act h (fun _ k1 => wf_runWop (fun _ k2 => wf_opVerdict k2) k1)

theorem wf_execFop {p : Proc} {rd : RegNo} {s : State} (h : Wf s) : WfOut (execFop p rd s) := by
  unfold execFop
  exact wf_act h (fun _ k1 => wf_runWop (fun _ k2 => wf_opFrame k2) k1)

theorem wf_execFaddr {p : Proc} {rd : RegNo} {s : State} (h : Wf s) : WfOut (execFaddr p rd s) := by
  unfold execFaddr
  exact wf_act h (fun _ k1 => wf_runWop (fun _ k2 => wf_opFrame k2) k1)

theorem wf_execFlen {p : Proc} {rd : RegNo} {s : State} (h : Wf s) : WfOut (execFlen p rd s) := by
  unfold execFlen
  exact wf_act h (fun _ k1 => wf_runWop (fun _ k2 => wf_opFrame k2) k1)

theorem wf_execFmode {p : Proc} {rd : RegNo} {s : State} (h : Wf s) : WfOut (execFmode p rd s) := by
  unfold execFmode
  exact wf_act h (fun _ k1 => wf_runWop (fun _ k2 => wf_opFrame k2) k1)

theorem wf_execFdata {p : Proc} {rd ra : RegNo} {s : State} (h : Wf s) : WfOut (execFdata p rd ra s) := by
  unfold execFdata
  exact wf_act h (fun _ k1 => wf_runWop (fun _ k2 => wf_opFdata k2) k1)

theorem wf_execRlook {p : Proc} {rd ra : RegNo} {s : State} (h : Wf s) : WfOut (execRlook p rd ra s) := by
  unfold execRlook
  exact wf_act h (fun _ k1 => wf_runWop (fun _ k2 => wf_opRlook k2) k1)

theorem wf_execCnt {p : Proc} {k : RegNo} {s : State} (h : Wf s) : WfOut (execCnt p k s) := by
  unfold execCnt
  exact wf_act h (fun _ k1 => wf_runWop (fun _ k2 => wf_opCnt k2) k1)

/-! ### SecRows -/

theorem wf_execSelectFall {n : Fin 32} {s : State} (h : Wf s) : WfOut (execSelectFall n s) := by
  unfold execSelectFall
  refine wf_clocked h (fun _ k1 => wf_ite k1 ?_)
  extract_lets _ s2 s3
  have h2 : Wf s2 := wf_setLine k1
  have h3 : Wf s3 := wf_recordFrame (wf_inc h2)
  split
  · exact wf_setFrame (wf_setBit h2)
  · exact wf_secLog h3
  · exact wf_recordFrame (wf_inc h2)

theorem wf_execCommandRoute {n : Fin 32} {opcode ext : Byte} {addr : Word} {run : RouteRun} {s : State} (h : Wf s) :
    WfOut (execCommandRoute n opcode ext addr run s) := by
  unfold execCommandRoute
  refine wf_clocked h (fun _ k1 => ?_)
  extract_lets s2 _ _ _ s3 s4
  have h2 : Wf s2 := wf_finishRoute k1
  have h3 : Wf s3 := wf_setFrame (wf_setLine h2)
  have h4 : Wf s4 := wf_ite (wf_secLog (wf_inc h3)) h3
  split
  · exact k1
  · exact wf_ite k1 (wf_ite (wf_refuseRoute h4) (wf_ite (wf_refuseRoute h4) (wf_runRoute (wf_setLine h4))))

theorem wf_execLateVerdict {n : Fin 32} {period : Word} {s : State} (h : Wf s) : WfOut (execLateVerdict n period s) := by
  unfold execLateVerdict
  refine wf_clocked h (fun _ k1 => ?_)
  split
  · exact k1
  · extract_lets s2
    have h2 : Wf s2 := wf_setFrame (wf_inc k1)
    exact wf_ite (wf_secLog h2) k1

theorem wf_stageFrame {s : State} {n : Fin 32} {f : Frame} {data : List Byte} {steps : Nat} (h : Wf s) :
    Wf (stageFrame s n f data steps) := by
  unfold stageFrame
  extract_lets s1 s2
  have h1 : Wf s1 := wf_recordConverted h
  have h2 : Wf s2 := wf_recordVerdict h1
  split
  · exact h
  · exact wf_ite h (wf_denialResponse h)
  · extract_lets _ s3 s4 s5
    have h3 : Wf s3 := wf_ite (wf_trackAddr h) h
    have h4 : Wf s4 := wf_queueEmulation h3
    have h5 : Wf s5 := wf_setQueue h4
    refine wf_ite (wf_denialResponse (wf_recordDeny h)) (wf_ite (wf_denialResponse (wf_recordDeny h2)) (wf_ite ?_
        (wf_runRoute (wf_setLine h5))))
    split
    · exact wf_setIface h5
    · exact h5

theorem wf_endReadFrame {s : State} {n edges : Nat} {f : Frame} (h : Wf s) : Wf (endReadFrame s n f edges) := by
  unfold endReadFrame
  extract_lets s1
  have h1 : Wf s1 := wf_sentRead h
  exact wf_ite (wf_endFrame h) (wf_ite (wf_endFrame (wf_inc h)) (wf_ite (wf_endFrame (wf_inc h1)) (wf_endFrame (wf_inc h1))))

theorem wf_endWriteFrame {s : State} {n : Fin 32} {f : Frame} {edges steps : Nat} {data : List Byte} (h : Wf s) :
    Wf (endWriteFrame s n f edges data steps) := by
  unfold endWriteFrame
  exact wf_ite (wf_ite (wf_stageFrame (wf_endFrame (wf_inc h))) (wf_secLog (wf_endFrame (wf_inc h)))) (wf_ite
      (wf_stageFrame (wf_endFrame (wf_inc h))) (wf_endFrame (wf_inc h)))

theorem wf_execSelectRise {n : Fin 32} {early : Bool} {edges steps : Nat} {data : List Byte} {s : State} (h : Wf s) :
    WfOut (execSelectRise n early edges data steps s) := by
  unfold execSelectRise
  refine wf_clocked h (fun _ k1 => ?_)
  extract_lets _ s2 s3
  have h2 : Wf s2 := wf_setLine k1
  have h3 : Wf s3 := wf_finishRoute h2
  split
  · exact h2
  · refine wf_ite (wf_endFrame (wf_inc (wf_dropRoute h2))) ?_
    split
    · exact h3
    · exact wf_ite (wf_endFrame h3) (wf_ite (wf_endReadFrame h3) (wf_endWriteFrame h3))

theorem wf_staleExtents {s : State} {n : Nat} {e : Entry} (h : Wf s) : Wf (staleExtents s n e) := by
  unfold staleExtents
  exact wf_ite (wf_foldl (fun _ _ k1 => wf_secLog (wf_moveExt k1)) _ h) h

theorem wf_setHead {s : State} {n : Nat} {p : Progress} (h : Wf s) : Wf (setHead s n p) := by
  unfold setHead
  split
  · exact h
  · exact wf_setQueue h

theorem wf_fenceDiscard {s : State} {n f : Nat} {e : Entry} (h : Wf s) : Wf (fenceDiscard s n e f) := by
  unfold fenceDiscard
  extract_lets s1
  have h1 : Wf s1 := wf_denyEntry h
  exact wf_secLog (wf_inc h1)

theorem wf_execReplayStart {n : Fin 32} {s : State} (h : Wf s) : WfOut (execReplayStart n s) := by
  unfold execReplayStart
  refine wf_clocked h (fun _ k1 => ?_)
  split
  · exact k1
  · extract_lets s2 s3
    have h2 : Wf s2 := wf_drive (wf_preemptGanger k1)
    have h3 : Wf s3 := wf_setBit (wf_inc h2)
    refine wf_ite k1 ?_
    split
    · exact wf_fenceDiscard k1
    · exact wf_setHead (wf_staleExtents h3)

theorem wf_storeShadows {s : State} {n : Nat} {reads : List (Byte × Byte)} (h : Wf s) : Wf (storeShadows s n reads) := by
  unfold storeShadows
  extract_lets
  exact wf_syncStage (wf_setLine h)

theorem wf_refresh {s : State} {n cs : Nat} {polled : Option Nat} {answers : List (Byte × Byte)} (h : Wf s) :
    Wf (refresh s n cs polled answers) := by
  unfold refresh
  exact wf_storeShadows (wf_driveStatus h)

theorem wf_completeHead {s : State} {n : Nat} (h : Wf s) : Wf (completeHead s n) := by
  unfold completeHead
  split
  · exact h
  · extract_lets s1
    have h1 : Wf s1 := wf_ite h (wf_setBit h)
    exact wf_setQueue h1

theorem wf_flashFault {s : State} {n : Nat} {pfail efail : Bool} (h : Wf s) : Wf (flashFault s n pfail efail) := by
  unfold flashFault
  extract_lets s1 s2 s3
  have h1 : Wf s1 := wf_inc h
  have h2 : Wf s2 := wf_ite (wf_setBit h1) h1
  have h3 : Wf s3 := wf_ite (wf_setBit h2) h2
  exact wf_syncStage (wf_failHold h3)

theorem wf_refreshFaults {n : Nat} {e : Entry} {reads : List (Byte × Byte)} {es : List (Nat × Nat)} {s : State} (h : Wf s) :
    Wf (refreshFaults s n e reads es) := by
  induction es generalizing s with
  | nil =>
    rw [refreshFaults]
    exact h
  | cons x es ih =>
    rw [refreshFaults]
    split
    · exact ih h
    · exact ih (wf_ite (wf_secLog (wf_flashFault h)) h)

theorem wf_refreshEntry {s : State} {n : Nat} {e : Entry} {polled : Option Nat} {answers : List (Byte × Byte)} (h : Wf s) :
    Wf (refreshEntry s n e polled answers) := by
  unfold refreshEntry
  extract_lets
  exact wf_refreshFaults (wf_refresh h)

theorem wf_execReplayEnd {n : Fin 32} {reads : List (Byte × Byte)} {s : State} (h : Wf s) :
    WfOut (execReplayEnd n reads s) := by
  unfold execReplayEnd
  refine wf_clocked h (fun _ k1 => ?_)
  extract_lets s2
  have h2 : Wf s2 := wf_setBit k1
  split
  · exact k1
  · extract_lets s3 s4 s5
    have h3 : Wf s3 := by
      unfold s3
      split
      · exact wf_setIface h2
      · exact h2
    have h4 : Wf s4 := wf_ite (wf_resetAddrState (wf_setIface (wf_setIface h3))) h3
    have h5 : Wf s5 := wf_completeHead h4
    refine wf_ite k1 (wf_ite (wf_ite (wf_discardEntry h2) (wf_setQueue h2)) (wf_ite (wf_ite h5 (wf_refreshEntry h5))
        (wf_ite ?_ (wf_setHead h4))))
    split
    · exact wf_discardEntry h4
    · exact h4

theorem wf_execBusyPoll {n : Fin 32} {value : Byte} {s : State} (h : Wf s) : WfOut (execBusyPoll n value s) := by
  unfold execBusyPoll
  refine wf_clocked h (fun _ k1 => ?_)
  extract_lets
  split
  · exact k1
  · extract_lets s2 s3 s4
    have h2 : Wf s2 := wf_driveStatus k1
    have h3 : Wf s3 := wf_storeShadows h2
    have h4 : Wf s4 := wf_setBit h3
    exact wf_ite k1 (wf_ite (wf_ite (wf_setHead h4) h4) h3)

theorem wf_execStageEntryComplete {n : Fin 32} {reads : List (Byte × Byte)} {s : State} (h : Wf s) :
    WfOut (execStageEntryComplete n reads s) := by
  unfold execStageEntryComplete
  refine wf_clocked h (fun _ k1 => ?_)
  extract_lets
  split
  · exact wf_ite (wf_refresh (wf_setLine k1)) k1
  · exact wf_ite k1 (wf_completeHead (wf_refreshEntry k1))

theorem wf_execFlashTimeout {n : Fin 32} {elapsed : Word} {reads : List (Byte × Byte)} {s : State} (h : Wf s) :
    WfOut (execFlashTimeout n elapsed reads s) := by
  unfold execFlashTimeout
  refine wf_clocked h (fun _ k1 => ?_)
  extract_lets
  split
  · exact k1
  · extract_lets s2 s3 s4
    have h2 : Wf s2 := wf_ite k1 (wf_refreshEntry k1)
    have h3 : Wf s3 := wf_flashFault h2
    have h4 : Wf s4 := wf_secLog h3
    exact wf_ite k1 (wf_setBit (wf_completeHead h4))

theorem wf_execSenseTimeout {n : Fin 32} {s : State} (h : Wf s) : WfOut (execSenseTimeout n s) := by
  unfold execSenseTimeout
  refine wf_clocked h (fun _ k1 => wf_ite k1 ?_)
  extract_lets s2
  have h2 : Wf s2 := wf_ite (wf_endDev k1) k1
  split
  · exact h2
  · exact wf_ite (wf_secLog (wf_failEntry h2)) h2

theorem wf_conflictEnd {s : State} {n kind : Nat} (h : Wf s) : Wf (conflictEnd s n kind) := by
  unfold conflictEnd
  split
  · split
    · exact wf_endFrame (wf_inc (wf_sentRead h))
    · exact h
  · exact wf_stopGanger h
  · split
    · exact wf_failEntry (wf_setBit h)
    · exact h
  · exact wf_ite (wf_endDev h) h

theorem wf_execMasterConflict {n : Fin 32} {s : State} (h : Wf s) : WfOut (execMasterConflict n s) := by
  unfold execMasterConflict
  refine wf_clocked h (fun _ k1 => wf_ite k1 ?_)
  split
  · exact k1
  · extract_lets s2 _ s3
    have h2 : Wf s2 := wf_inc (wf_conflictEnd k1)
    have h3 : Wf s3 := wf_setLine h2
    exact wf_secLog (wf_setBit h3)

theorem wf_execFSenseNChange {n : Fin 32} {low : Bool} {s : State} (h : Wf s) : WfOut (execFSenseNChange n low s) := by
  unfold execFSenseNChange
  exact wf_act h (fun _ k1 => wf_ite (wf_setBit k1) (wf_setLine (wf_setBit k1)))

theorem wf_execCRstLow {n : Fin 32} {s : State} (h : Wf s) : WfOut (execCRstLow n s) := by
  unfold execCRstLow
  exact wf_act h (fun _ k1 => wf_ite (wf_resetAddrState (wf_setIface (wf_setIface (wf_setLine k1)))) k1)

theorem wf_respondMismatch {s : State} {n x a src : Nat} (h : Wf s) : Wf (respondMismatch s n x a src) := by
  unfold respondMismatch
  extract_lets s1
  have h1 : Wf s1 := wf_tagMismatch h
  exact wf_ite (wf_lockResponse h1) h1

theorem wf_execTagResult {n : Fin 32} {addr : Word} {page : List Byte} {s : State} (h : Wf s) :
    WfOut (execTagResult n addr page s) := by
  unfold execTagResult
  extract_lets
  refine wf_clockedSettle h (fun _ k1 => ?_)
  extract_lets s2 s3
  have h2 : Wf s2 := wf_setLine k1
  have h3 : Wf s3 := wf_inc h2
  split
  · extract_lets s4
    have h4 : Wf s4 := wf_secLog h3
    exact wf_ite k1 (wf_ite (wf_inc h2) (wf_respondMismatch h4))
  · exact k1

theorem wf_execGangerFrame {n : Fin 32} {clocks : Nat} {s : State} (h : Wf s) : WfOut (execGangerFrame n clocks s) := by
  unfold execGangerFrame
  refine wf_clocked h (fun _ k1 => wf_ite k1 ?_)
  split
  · exact k1
  · extract_lets s2
    have h2 : Wf s2 := wf_drive (wf_setBit k1)
    split
    · exact k1
    · exact wf_setLine h2

theorem wf_gangerAdvance {s : State} {n a : Nat} (h : Wf s) : Wf (gangerAdvance s n a) := by
  unfold gangerAdvance
  extract_lets
  refine wf_ite (wf_setF (wf_setLine h)) ?_
  split
  · exact wf_wr h
  · exact wf_wr (wf_inc h)

theorem wf_gangerCompare {s : State} {n : Nat} {eq : Bool} {fault : Option Bool} (h : Wf s) :
    Wf (gangerCompare s n eq fault).1 := by
  unfold gangerCompare
  extract_lets
  dsimp only
  exact wf_ite (wf_logicFlagEvent (wf_flagFault h)) h

theorem wf_execGangerPageDone {n : Fin 32} {page : List Byte} {fault : Option Bool} {s : State} (h : Wf s) :
    WfOut (execGangerPageDone n page fault s) := by
  unfold execGangerPageDone
  extract_lets
  refine wf_clockedSettle h (fun _ k1 => ?_)
  split
  · exact k1
  · extract_lets _ _ s2 _ s3
    have h2 : Wf s2 := wf_dropGanger k1
    have h3 : Wf s3 := by
      refine wf_ite (wf_ite (wf_inc h2) (wf_secLog (wf_inc h2))) ?_
      split
      · exact h2
      · extract_lets s4 s5 s6
        have h4 : Wf s4.1 := wf_gangerCompare h2
        have h5 : Wf s5 := h4
        have h6 : Wf s6 := wf_secLog (wf_inc h5)
        exact wf_ite (wf_inc h5) (wf_respondMismatch h6)
    exact wf_gangerAdvance h3

theorem wf_gangerWindow {s : State} {n : Nat} (h : Wf s) : Wf (gangerWindow s n) := by
  unfold gangerWindow
  extract_lets s1
  have h1 : Wf s1 := wf_wr h
  split
  · exact h1
  · extract_lets s2
    have h2 : Wf s2.2 := wf_gangerSpent h1
    exact wf_setLine h2

theorem wf_execGangerWindow {s : State} (h : Wf s) : WfOut (execGangerWindow s) := by
  unfold execGangerWindow
  exact wf_act h (fun _ k1 => wf_foldl (fun _ _ k2 => wf_gangerWindow k2) _ k1)

theorem wf_captureResponse {s : State} {n entry addr : Nat} {data : List Byte} (h : Wf s) :
    Wf (captureResponse s n entry addr data) := by
  unfold captureResponse
  extract_lets
  exact wf_ite (wf_setLine h) h

theorem wf_execDevBurstDone {n : Fin 34} {data : List Byte} {s : State} (h : Wf s) : WfOut (execDevBurstDone n data s) := by
  unfold execDevBurstDone
  refine wf_clocked h (fun _ k1 => ?_)
  split
  · exact k1
  · extract_lets _ _ s2 _ s3 s4
    have h2 : Wf s2 := wf_drive k1
    have h3 : Wf s3 := wf_setLine h2
    have h4 : Wf s4 := wf_captureResponse h3
    exact wf_ite k1 (wf_feedLane (wf_fillBurst h4))

theorem wf_execDevFrameDone {n : Fin 34} {data : List Byte} {s : State} (h : Wf s) : WfOut (execDevFrameDone n data s) := by
  unfold execDevFrameDone
  refine wf_clocked h (fun _ k1 => ?_)
  split
  · exact k1
  · extract_lets _ s2 s3 _ s4 _ s5 s6 s7
    have h2 : Wf s2 := wf_drive k1
    have h3 : Wf s3 := wf_endDev (wf_captureResponse (wf_wrMemN h2))
    have h4 : Wf s4 := wf_drive k1
    have h5 : Wf s5 := wf_setLine h4
    have h6 : Wf s6 := wf_ite (wf_trackAddr h5) h5
    have h7 : Wf s7 := wf_ite (wf_inc h6) h6
    refine wf_ite k1 ?_
    split
    · exact wf_ite (wf_endDev k1) k1
    · exact wf_identRead h3
    · exact wf_endDev h7

theorem wf_execProgLoaded {n : Fin 32} {s : State} (h : Wf s) : WfOut (execProgLoaded n s) := by
  unfold execProgLoaded
  exact wf_act h (fun _ k1 => wf_progLoaded k1)

/-! ### SigRows -/

theorem wf_sigOp {s : State} {p op : Nat} {f : State → SigJob → SigEnd × State}
    (hs : Wf s) (hf : ∀ y0 y1, Wf y0 → Wf (f y0 y1).2) :
    WfOut (sigOp s p op f) := by
  unfold sigOp
  exact wf_actSettle hs (fun _ k1 => wf_ite (wf_sigRun k1 hf) k1)

theorem wf_execEcdsaVerify {v : Fin 2} {s : State} (h : Wf s) : WfOut (execEcdsaVerify v s) := by
  unfold execEcdsaVerify
  exact wf_sigOp h (fun _ _ k1 => wf_opEcdsaVerify k1)

theorem wf_execEcdsaSign {s : State} (h : Wf s) : WfOut (execEcdsaSign s) := by
  unfold execEcdsaSign
  exact wf_sigOp h (fun _ _ k1 => wf_opEcdsaSign k1)

theorem wf_execMldsaVerify {v : Fin 2} {s : State} (h : Wf s) : WfOut (execMldsaVerify v s) := by
  unfold execMldsaVerify
  exact wf_sigOp h (fun _ _ k1 => wf_opMldsaVerify k1)

theorem wf_execMldsaSign {v : Fin 1} {s : State} (h : Wf s) : WfOut (execMldsaSign v s) := by
  unfold execMldsaSign
  exact wf_sigOp h (fun _ _ k1 => wf_opMldsaSign k1)

theorem wf_execLmsVerify {v : Fin 2} {s : State} (h : Wf s) : WfOut (execLmsVerify v s) := by
  unfold execLmsVerify
  exact wf_sigOp h (fun _ _ k1 => wf_opLmsVerify k1)

theorem wf_execEcEphemeral {s : State} (h : Wf s) : WfOut (execEcEphemeral s) := by
  unfold execEcEphemeral
  exact wf_sigOp h (fun _ _ k1 => wf_opEcEphemeral k1)

theorem wf_execEcdh {s : State} (h : Wf s) : WfOut (execEcdh s) := by
  unfold execEcdh
  exact wf_sigOp h (fun _ _ k1 => wf_opEcdh k1)

theorem wf_execDerive {s : State} (h : Wf s) : WfOut (execDerive s) := by
  unfold execDerive
  exact wf_sigOp h (fun _ _ k1 => wf_opDerive k1)

theorem wf_execAeadSeal {s : State} (h : Wf s) : WfOut (execAeadSeal s) := by
  unfold execAeadSeal
  exact wf_sigOp h (fun _ _ k1 => wf_opAeadSeal k1)

theorem wf_execAeadOpen {s : State} (h : Wf s) : WfOut (execAeadOpen s) := by
  unfold execAeadOpen
  exact wf_sigOp h (fun _ _ k1 => wf_opAeadOpen k1)

theorem wf_execKeygen {s : State} (h : Wf s) : WfOut (execKeygen s) := by
  unfold execKeygen
  exact wf_sigOp h (fun _ _ k1 => wf_opKeygen k1)

theorem wf_execRandom {s : State} (h : Wf s) : WfOut (execRandom s) := by
  unfold execRandom
  exact wf_sigOp h (fun _ _ k1 => wf_opRandom k1)

theorem wf_execErase {s : State} (h : Wf s) : WfOut (execErase s) := by
  unfold execErase
  exact wf_sigOp h (fun _ _ k1 => wf_opErase k1)

theorem wf_execSigJobDone {p : Fin 3} {s : State} (h : Wf s) : WfOut (execSigJobDone p s) := by
  unfold execSigJobDone
  exact wf_actSettle h (fun _ k1 => wf_ite (wf_sigEnd k1) k1)

theorem wf_execRbgFault {test : Byte} {s : State} (h : Wf s) : WfOut (execRbgFault test s) := by
  unfold execRbgFault
  exact wf_actSettle h (fun _ k1 => wf_rbgFail k1)

theorem wf_execRbgOk {s : State} (h : Wf s) : WfOut (execRbgOk s) := by
  unfold execRbgOk
  exact wf_actSettle h (fun _ k1 => wf_ite (wf_drawTagKey (wf_rbgPass k1)) (wf_rbgPass k1))

theorem wf_exmFollow {s : State} {l : Nat} {faulted compared : Bool} {sfdp : Option (List Byte)} (h : Wf s) :
    Wf (exmFollow s l faulted compared sfdp) := by
  unfold exmFollow
  extract_lets _ s1
  have h1 : Wf s1 := wf_ite (wf_logicFlagEvent h) h
  split
  · exact wf_ite (wf_identSfdp h1) h1
  · exact wf_ite h1 (wf_ite (wf_imageMatched h1) (wf_imageMismatch h1))

theorem wf_execExmJobDone {l : Fin 34} {err : Bool} {fault : Option Bool} {s : State} (h : Wf s) :
    WfOut (execExmJobDone l err fault s) := by
  unfold execExmJobDone
  exact wf_actSettle h (fun _ k1 => wf_ite k1 (wf_exmFollow (wf_exmDone k1)))

/-! ### SysTx -/

theorem wf_execMfs {p : Proc} {rd : RegNo} {num : BitVec 12} {s : State} (h : Wf s) : WfOut (execMfs p rd num s) := by
  unfold execMfs
  exact wf_act h (fun _ k1 => wf_runWop (fun _ k2 => wf_opMfs k2) k1)

theorem wf_execMts {p : Proc} {rs : RegNo} {num : BitVec 12} {s : State} (h : Wf s) : WfOut (execMts p rs num s) := by
  unfold execMts
  exact wf_act h (fun _ k1 => wf_runWop (fun _ k2 => wf_opMts k2) k1)

theorem wf_execIdent {p : Proc} {rd : RegNo} {sel : BitVec 4} {s : State} (h : Wf s) : WfOut (execIdent p rd sel s) := by
  unfold execIdent
  exact wf_act h (fun _ k1 => wf_runWop (fun _ k2 => wf_opIdent k2) k1)

theorem wf_execTrap {p : Proc} {code : BitVec 5} {s : State} (h : Wf s) : WfOut (execTrap p code s) := by
  unfold execTrap
  exact wf_act h (fun _ k1 => wf_runWop (fun _ k2 => wf_opTrap k2) k1)

theorem wf_execEret {p : Proc} {s : State} (h : Wf s) : WfOut (execEret p s) := by
  unfold execEret
  exact wf_act h (fun _ k1 => wf_runWop (fun _ k2 => wf_opEret k2) k1)

theorem wf_execPark {p : Proc} {s : State} (h : Wf s) : WfOut (execPark p s) := by
  unfold execPark
  exact wf_act h (fun _ k1 => wf_runWop (fun _ k2 => wf_opPark k2) k1)

theorem wf_execTopen {p : Proc} {rd : RegNo} {s : State} (h : Wf s) : WfOut (execTopen p rd s) := by
  unfold execTopen
  exact wf_act h (fun _ k1 => wf_runWop (fun _ k2 => wf_opTopen k2) k1)

theorem wf_execTput {p : Proc} {ra rb : RegNo} {s : State} (h : Wf s) : WfOut (execTput p ra rb s) := by
  unfold execTput
  exact wf_act h (fun _ k1 => wf_runWop (fun _ k2 => wf_opTput k2) k1)

theorem wf_execTcommit {p : Proc} {rd ra : RegNo} {s : State} (h : Wf s) : WfOut (execTcommit p rd ra s) := by
  unfold execTcommit
  exact wf_actSettle h (fun _ k1 => wf_runWop (fun _ k2 => wf_opTcommit k2) k1)

theorem wf_execTdrop {p : Proc} {ra : RegNo} {s : State} (h : Wf s) : WfOut (execTdrop p ra s) := by
  unfold execTdrop
  exact wf_actSettle h (fun _ k1 => wf_runWop (fun _ k2 => wf_opTdrop k2) k1)

theorem wf_execPvset {p : Proc} {ra rb : RegNo} {s : State} (h : Wf s) : WfOut (execPvset p ra rb s) := by
  unfold execPvset
  exact wf_actSettle h (fun _ k1 => wf_runWop (fun _ k2 => wf_opPvote k2) k1)

theorem wf_execPvclr {p : Proc} {ra rb : RegNo} {s : State} (h : Wf s) : WfOut (execPvclr p ra rb s) := by
  unfold execPvclr
  exact wf_actSettle h (fun _ k1 => wf_runWop (fun _ k2 => wf_opPvote k2) k1)

/-! ### UpdRows -/

theorem wf_execReportChange {l : Fin 96} {ready : Bool} {samples : Nat} {s : State} (h : Wf s) :
    WfOut (execReportChange l ready samples s) := by
  unfold execReportChange
  exact wf_actSettle h (fun _ k1 => wf_confirmReady (wf_compChanges (wf_reportChange k1)))

theorem wf_execReportTimeout {c : Fin 64} {waited : Nat} {s : State} (h : Wf s) : WfOut (execReportTimeout c waited s) := by
  unfold execReportTimeout
  exact wf_actSettle h (fun _ k1 => wf_reportTimeout k1)

theorem wf_execTrialDeadline {c : Fin 64} {s : State} (h : Wf s) : WfOut (execTrialDeadline c s) := by
  unfold execTrialDeadline
  exact wf_actSettle h (fun _ k1 => wf_revertTrial k1)

theorem wf_updRefuse {s : State} {q : Sender} {w0 c st : Nat} (h : Wf s) : Wf (updRefuse s q w0 c st) := by
  unfold updRefuse
  exact wf_answer (wf_fwLog h)

theorem wf_updateBegin {s : State} {q : Sender} {w0 c : Nat} (h : Wf s) : Wf (updateBegin s q w0 c) := by
  unfold updateBegin
  extract_lets _ _ _ s1 s2
  have h1 : Wf s1.1 := wf_fwCommit h
  have h2 : Wf s2 := wf_fwL h1
  exact wf_ite (wf_updRefuse h) (wf_ite (wf_updRefuse h1) (wf_answer (wf_fwLog h2)))

theorem wf_execUpdateBegin {q : Sender} {tag comp : Byte} {s : State} (h : Wf s) : WfOut (execUpdateBegin q tag comp s) := by
  unfold execUpdateBegin
  exact wf_request h (fun _ k1 => wf_updateBegin k1)

theorem wf_updateCommit {s : State} {q : Sender} {w0 c opts : Nat} (h : Wf s) : Wf (updateCommit s q w0 c opts) := by
  unfold updateCommit
  refine wf_ite (wf_updRefuse h) ?_
  split
  · exact wf_updRefuse h
  · extract_lets s1 s2 s3 _ s4
    have h1 : Wf s1.1 := wf_fwCommit h
    have h2 : Wf s2 := wf_compChanges (wf_setCompState (wf_fwL h1))
    have h3 : Wf s3 := wf_mapFw h2
    have h4 : Wf s4 := wf_withUpd h3
    exact wf_ite (wf_updRefuse h) (wf_ite (wf_updRefuse h1) (wf_answer h4))

theorem wf_execUpdateCommit {q : Sender} {tag comp : Byte} {opts : Word} {s : State} (h : Wf s) :
    WfOut (execUpdateCommit q tag comp opts s) := by
  unfold execUpdateCommit
  exact wf_request h (fun _ k1 => wf_updateCommit k1)

theorem wf_trialConfirm {s : State} {q : Sender} {w0 c : Nat} (h : Wf s) : Wf (trialConfirm s q w0 c) := by
  unfold trialConfirm
  extract_lets _ s1
  have h1 : Wf s1.1 := wf_confirmTrial h
  exact wf_ite (wf_answer h) (wf_ite (wf_answer h) (wf_answer h1))

theorem wf_execTrialConfirm {q : Sender} {tag comp : Byte} {s : State} (h : Wf s) :
    WfOut (execTrialConfirm q tag comp s) := by
  unfold execTrialConfirm
  exact wf_request h (fun _ k1 => wf_trialConfirm k1)

theorem wf_execUpdateAbort {q : Sender} {tag comp : Byte} {s : State} (h : Wf s) : WfOut (execUpdateAbort q tag comp s) := by
  unfold execUpdateAbort
  extract_lets
  exact wf_request h (fun _ k1 => wf_ite (wf_answer k1) (wf_ite (wf_answer (wf_updClose k1)) (wf_answer k1)))

theorem wf_recoverTaken {s : State} {q : Sender} {w0 c mask source x : Nat} (h : Wf s) :
    Wf (recoverTaken s q w0 c mask source x) := by
  unfold recoverTaken
  extract_lets _ s1
  have h1 : Wf s1.1 := wf_recoveryBegin h
  exact wf_ite (wf_answer (wf_withUpd (wf_compChanges (wf_setCompState h)))) (wf_ite (wf_answer (wf_withUpd
      (wf_compChanges (wf_mapFw (wf_setCompState h))))) (wf_ite (wf_answer (wf_withUpd h1)) (wf_answer h1)))

theorem wf_recover {s : State} {q : Sender} {w0 c mask : Nat} (h : Wf s) : Wf (recover s q w0 c mask) := by
  unfold recover
  extract_lets
  refine wf_ite (wf_answer h) ?_
  split
  · extract_lets s1
    have h1 : Wf s1.1 := wf_fwCommit h
    refine wf_ite (wf_answer h) (wf_ite (wf_answer h) ?_)
    split
    · exact wf_answer h
    · exact wf_ite (wf_recoverTaken h) (wf_ite (wf_recoverTaken h1) (wf_answer h1))
  · exact wf_answer h

theorem wf_execRecover {q : Sender} {tag comp : Byte} {mask : Word} {s : State} (h : Wf s) :
    WfOut (execRecover q tag comp mask s) := by
  unfold execRecover
  exact wf_request h (fun _ k1 => wf_recover k1)

theorem wf_pushRefuse {s : State} {q : Sender} {w0 c st off : Nat} (h : Wf s) : Wf (pushRefuse s q w0 c st off) := by
  unfold pushRefuse
  exact wf_answer (wf_fwLog h)

theorem wf_pushOpen {s : State} {q : Sender} {w0 c img total slot : Nat} (h : Wf s) :
    Wf (pushOpen s q w0 c img total slot) := by
  unfold pushOpen
  extract_lets _ _ _ _ s1
  have h1 : Wf s1.1 := wf_recoveryBegin h
  exact wf_ite (wf_pushRefuse h) (wf_ite (wf_answer (wf_withUpd (wf_mapFw h))) (wf_ite (wf_answer (wf_withUpd
      (wf_mapFw h))) (wf_ite (wf_answer (wf_withUpd (wf_mapFw h1))) (wf_pushRefuse h1))))

theorem wf_execPushOpen {q : Sender} {tag comp img slot : Byte} {total : Word} {s : State} (h : Wf s) :
    WfOut (execPushOpen q tag comp img total slot s) := by
  unfold execPushOpen
  exact wf_request h (fun _ k1 => wf_pushOpen k1)

theorem wf_pushData {s : State} {q : Sender} {w0 c img off addr kind : Nat} {data : HostRead} (h : Wf s) :
    Wf (pushData s q w0 c img off addr data kind) := by
  unfold pushData
  extract_lets
  split
  · exact wf_ite (wf_answer h) (wf_ite (wf_pushRefuse h) (wf_ite (wf_pushRefuse h) (wf_answer (wf_withUpd h))))
  · exact wf_ite (wf_pushRefuse h) (wf_answer h)
  · exact wf_readFailed h

theorem wf_execPushData {q : Sender} {tag comp img : Byte} {off : Word} {addr : Dword} {data : HostRead} {kind : Fin 4}
    {s : State} (h : Wf s) :
    WfOut (execPushData q tag comp img off addr data kind s) := by
  unfold execPushData
  exact wf_request h (fun _ k1 => wf_pushData k1)

theorem wf_pushClose {s : State} {q : Sender} {w0 c img : Nat} (h : Wf s) : Wf (pushClose s q w0 c img) := by
  unfold pushClose
  extract_lets
  refine wf_ite (wf_answer h) ?_
  split
  · exact wf_pushRefuse h
  · extract_lets s1
    have h1 : Wf s1 := wf_withUpd h
    exact wf_ite (wf_pushRefuse h) (wf_ite (wf_pushRefuse h) (wf_ite (wf_answer (wf_withUpd h1)) (wf_answer h1)))

theorem wf_execPushClose {q : Sender} {tag comp img : Byte} {s : State} (h : Wf s) :
    WfOut (execPushClose q tag comp img s) := by
  unfold execPushClose
  exact wf_request h (fun _ k1 => wf_pushClose k1)

theorem wf_execStatus {q : Sender} {tag comp : Byte} {s : State} (h : Wf s) : WfOut (execStatus q tag comp s) := by
  unfold execStatus
  extract_lets
  exact wf_request h (fun _ k1 => wf_ite (wf_answer k1) (wf_ite (wf_answer k1) (wf_answer k1)))

/-! ### Dispatch -/

theorem wf_exec {i : Instr} {s : State} (h : Wf s) : WfOut (exec i s) := by
  unfold exec
  split
  · exact wf_execAdd h
  · exact wf_execSub h
  · exact wf_execAnd h
  · exact wf_execOr h
  · exact wf_execXor h
  · exact wf_execShl h
  · exact wf_execShr h
  · exact wf_execSar h
  · exact wf_execSlt h
  · exact wf_execSltu h
  · exact wf_execMul h
  · exact wf_execMulhu h
  · exact wf_execDivu h
  · exact wf_execRemu h
  · exact wf_execAddi h
  · exact wf_execAndi h
  · exact wf_execOri h
  · exact wf_execXori h
  · exact wf_execShli h
  · exact wf_execShri h
  · exact wf_execSari h
  · exact wf_execSlti h
  · exact wf_execSltui h
  · exact wf_execSeth h
  · exact wf_execInsh h
  · exact wf_execExtr h
  · exact wf_execLdb h
  · exact wf_execLdh h
  · exact wf_execLdw h
  · exact wf_execLdd h
  · exact wf_execStb h
  · exact wf_execSth h
  · exact wf_execStw h
  · exact wf_execStd h
  · exact wf_execAmoadd h
  · exact wf_execAmoswap h
  · exact wf_execCas h
  · exact wf_execFence h
  · exact wf_execBeq h
  · exact wf_execBne h
  · exact wf_execBlt h
  · exact wf_execBge h
  · exact wf_execBltu h
  · exact wf_execBgeu h
  · exact wf_execJmp h
  · exact wf_execCall h
  · exact wf_execJr h
  · exact wf_execMfs h
  · exact wf_execMts h
  · exact wf_execIdent h
  · exact wf_execTrap h
  · exact wf_execEret h
  · exact wf_execPark h
  · exact wf_execTopen h
  · exact wf_execTput h
  · exact wf_execTcommit h
  · exact wf_execTdrop h
  · exact wf_execPvset h
  · exact wf_execPvclr h
  · exact wf_execDinit h
  · exact wf_execDfeed h
  · exact wf_execDfin h
  · exact wf_execDcmp h
  · exact wf_execDsave h
  · exact wf_execDload h
  · exact wf_execSread h
  · exact wf_execDma h
  · exact wf_execSwait h
  · exact wf_execWbtake h
  · exact wf_execWbdone h
  · exact wf_execBarY h
  · exact wf_execBarG h
  · exact wf_execBarrierRelease h
  · exact wf_execPass h
  · exact wf_execDeny h
  · exact wf_execStage h
  · exact wf_execServe h
  · exact wf_execCheck h
  · exact wf_execFop h
  · exact wf_execFaddr h
  · exact wf_execFlen h
  · exact wf_execFmode h
  · exact wf_execFdata h
  · exact wf_execRlook h
  · exact wf_execCnt h
  · exact wf_execInterruptTaken h
  · exact wf_execStepLimit h
  · exact wf_execYardRunWrite h
  · exact wf_execBarBreak h
  · exact wf_execDoorbell h
  · exact wf_execFaultMapRestart h
  · exact wf_execBcastGo h
  · exact wf_execBcastDone h
  · exact wf_execYrdKeyGo h
  · exact wf_execKeyLoadDone h
  · exact wf_execVoteMissing h
  · exact wf_execIlkArmWrite h
  · exact wf_execCommitServed h
  · exact wf_execJournalRecordComplete h
  · exact wf_execJournalApplied h
  · exact wf_execJournalSectorErase h
  · exact wf_execSignalBoxReset h
  · exact wf_execLockstepMismatch h
  · exact wf_execCoreRejoined h
  · exact wf_execStage2Ready h
  · exact wf_execPowerOnReset h
  · exact wf_execVinStbyLoss h
  · exact wf_execTrstNAssert h
  · exact wf_execSelectFall h
  · exact wf_execCommandRoute h
  · exact wf_execLateVerdict h
  · exact wf_execSelectRise h
  · exact wf_execReplayStart h
  · exact wf_execReplayEnd h
  · exact wf_execBusyPoll h
  · exact wf_execStageEntryComplete h
  · exact wf_execFlashTimeout h
  · exact wf_execSenseTimeout h
  · exact wf_execMasterConflict h
  · exact wf_execCRstLow h
  · exact wf_execTagResult h
  · exact wf_execGangerFrame h
  · exact wf_execGangerPageDone h
  · exact wf_execGangerWindow h
  · exact wf_execDevGo h
  · exact wf_execDevBurstDone h
  · exact wf_execDevFrameDone h
  · exact wf_execProfCheck h
  · exact wf_execProfileWrite h
  · exact wf_execPolicyWrite h
  · exact wf_execPgmLoad h
  · exact wf_execProgLoaded h
  · exact wf_execExtentStateWrite h
  · exact wf_execHoldPendWrite h
  · exact wf_execReportChange h
  · exact wf_execHoldCfgWrite h
  · exact wf_execHoldLockWrite h
  · exact wf_execReportTimeout h
  · exact wf_execTrialDeadline h
  · exact wf_execUpdateBegin h
  · exact wf_execUpdateCommit h
  · exact wf_execTrialConfirm h
  · exact wf_execUpdateAbort h
  · exact wf_execRecover h
  · exact wf_execPushOpen h
  · exact wf_execPushData h
  · exact wf_execPushClose h
  · exact wf_execStatus h
  · exact wf_execLedgerOpen h
  · exact wf_execLedgerCommit h
  · exact wf_execLedgerResume h
  · exact wf_execLedgerRebuild h
  · exact wf_execLedgerClose h
  · exact wf_execRecordRetire h
  · exact wf_execRecordRead h
  · exact wf_execTtSet h
  · exact wf_execTtClear h
  · exact wf_execAuditRange h
  · exact wf_execReport h
  · exact wf_execLedgerPageAuth h
  · exact wf_execLedgerWriteback h
  · exact wf_execEpochTimer h
  · exact wf_execEpochCommitted h
  · exact wf_execTtPassStart h
  · exact wf_execPassDone h
  · exact wf_execPassOverdue h
  · exact wf_execTtProgressSave h
  · exact wf_execFixRateWindow h
  · exact wf_execPf0Reset h
  · exact wf_execPf0Flr h
  · exact wf_execVfFlr h
  · exact wf_execD3hotToD0 h
  · exact wf_execLinkUp h
  · exact wf_execLinkDown h
  · exact wf_execInstanceResetWrite h
  · exact wf_execInstanceResetDone h
  · exact wf_execEnableWrite h
  · exact wf_execFeaturesOkWrite h
  · exact wf_execFeatureEvalDone h
  · exact wf_execSqTailDoorbell h
  · exact wf_execCmdTailDoorbell h
  · exact wf_execCqHeadDoorbell h
  · exact wf_execRspHeadDoorbell h
  · exact wf_execDirtyDb h
  · exact wf_execSqFetch h
  · exact wf_execCmdFetch h
  · exact wf_execCqPost h
  · exact wf_execDmaError h
  · exact wf_execIntCoalTimeout h
  · exact wf_execInstCreate h
  · exact wf_execInstDestroy h
  · exact wf_execInstReset h
  · exact wf_execInstQuiesce h
  · exact wf_execInstResume h
  · exact wf_execInstQuery h
  · exact wf_execDirtyStart h
  · exact wf_execDirtyStop h
  · exact wf_execPoolQuery h
  · exact wf_execSetEndpointId h
  · exact wf_execGetEndpointId h
  · exact wf_execGetMctpVersionSupport h
  · exact wf_execGetMessageTypeSupport h
  · exact wf_execGetVersion h
  · exact wf_execGetCapabilities h
  · exact wf_execNegotiateAlgorithms h
  · exact wf_execGetDigests h
  · exact wf_execGetCertificate h
  · exact wf_execChallenge h
  · exact wf_execGetMeasurements h
  · exact wf_execKeyExchange h
  · exact wf_execFinish h
  · exact wf_execHeartbeat h
  · exact wf_execEndSession h
  · exact wf_execRespondIfReady h
  · exact wf_execSessionTimeout h
  · exact wf_execSecuredMessage h
  · exact wf_execPreparedResponseExpiry h
  · exact wf_execGetPqcChain h
  · exact wf_execPqcAttest h
  · exact wf_execGetReport h
  · exact wf_execCustodyExport h
  · exact wf_execPutObject h
  · exact wf_execCustodyImport h
  · exact wf_execGetObject h
  · exact wf_execReleaseObject h
  · exact wf_execObjectBufferTimeout h
  · exact wf_execDsSet h
  · exact wf_execDsRefresh h
  · exact wf_execMregExtendGo h
  · exact wf_execMregExtended h
  · exact wf_execEcdsaVerify h
  · exact wf_execEcdsaSign h
  · exact wf_execMldsaVerify h
  · exact wf_execMldsaSign h
  · exact wf_execLmsVerify h
  · exact wf_execEcEphemeral h
  · exact wf_execEcdh h
  · exact wf_execDerive h
  · exact wf_execAeadSeal h
  · exact wf_execAeadOpen h
  · exact wf_execKeygen h
  · exact wf_execRandom h
  · exact wf_execErase h
  · exact wf_execSigJobDone h
  · exact wf_execSigAbort h
  · exact wf_execRbgFault h
  · exact wf_execExmSubmit h
  · exact wf_execExmJobDone h
  · exact wf_execExmAbortHolder h
  · exact wf_execExmAbortMine h
  · exact wf_execExmEnd h
  · exact wf_execMbxDataWrite h
  · exact wf_execMbxGo h
  · exact wf_execMbxTake h
  · exact wf_execMbxDone h
  · exact wf_execMbxAgtReset h
  · exact wf_execI3cTargetReset h
  · exact wf_execChannelShutdownDone h
  · exact wf_execMbxStall h
  · exact wf_execAgentReturn h
  · exact wf_execKnock h
  · exact wf_execDetectorEvent h
  · exact wf_execLockdownRecordJournaled h
  · exact wf_execBackupSample h
  · exact wf_execCellWindowTimeout h
  · exact wf_execTmpLockWrite h
  · exact wf_execUnlock h
  · exact wf_execCellServiceOpen h
  · exact wf_execCellServiceClose h
  · exact wf_execFuseSource h
  · exact wf_execTamperStatus h
  · exact wf_execEvrWriteAged h
  · exact wf_execEvrFlushDone h
  · exact wf_execEvrReclaim h
  · exact wf_execNvmFaultRetry h
  · exact wf_execEvrCursorWrite h
  · exact wf_execCorrelate h
  · exact wf_execPfwNFall h
  · exact wf_execPfFlush h
  · exact wf_execPfwNRise h
  · exact wf_execStaffNonce h
  · exact wf_execLcsData h
  · exact wf_execStaffSubmit h
  · exact wf_execLcTransit h
  · exact wf_execEraseUserSecrets h
  · exact wf_execDebugArm h
  · exact wf_execOwnerKeySet h
  · exact wf_execLcStatus h
  · exact wf_execKeystoreLoad h
  · exact wf_execMtmMarch h
  · exact wf_execMtmCheckerboard h
  · exact wf_execMtmRetention h
  · exact wf_execMtmNvmMargin0 h
  · exact wf_execMtmNvmMargin1 h
  · exact wf_execLcAdvance h
  · exact wf_execLcEol h
  · exact wf_execMtmDone h
  · exact wf_execIdcode h
  · exact wf_execBypass h
  · exact wf_execExtest h
  · exact wf_execSamplePreload h
  · exact wf_execIntest h
  · exact wf_execDebugHalt h
  · exact wf_execDebugStep h
  · exact wf_execDebugResume h
  · exact wf_execPlatformOff h
  · exact wf_execPlatformOn h
  · exact wf_execPowerStatus h
  · exact wf_execSleepPrepareDone h
  · exact wf_execSleepCommitDone h
  · exact wf_execSleepRetry h
  · exact wf_execWake h
  · exact wf_execDomainRun h
  · exact wf_execRetentionCheckDone h
  · exact wf_execYardOpWrite h
  · exact wf_execVoltGood h
  · exact wf_execClkCtlWrite h
  · exact wf_execPllLock h
  · exact wf_execPllLockLoss h
  · exact wf_execSbxSnap h
  · exact wf_execSnapshot h
  · exact wf_execNvcProgram h
  · exact wf_execNvcErase h
  · exact wf_execNvcDone h
  · exact wf_execRegisterWrite h
  · exact wf_execIllegalWord h
  · exact wf_execCsTimecmpReached h
  · exact wf_execStreamTransferDone h
  · exact wf_execFSenseNChange h
  · exact wf_execMainRailsFail h
  · exact wf_execPerstNRelease h
  · exact wf_execConfigurationRequest h
  · exact wf_execMctpPacket h
  · exact wf_execDownstreamResponse h
  · exact wf_execDownstreamResponseTimeout h
  · exact wf_execRbgOk h
  · exact wf_execLowWordRead h
  · exact wf_execCrystalStart h
  · exact wf_execI3cDynamicAddress h

end Sys2Proof.Machine
end

section
/-! O5: what keeps the canonical form: firmware and the tick. -/

namespace Sys2Proof.Machine

/-! ### Firmware -/

theorem wf_fwTry {s : State} {rs : List ActRec} (h : Wf s) : Wf (fwTry s rs).1 := by
  unfold fwTry
  extract_lets s1
  have h1 : Wf s1.1 := wf_fwCommit h
  split
  · dsimp only
    exact h
  · dsimp only
    exact h1

theorem wf_fwReg {s : State} {a v : Nat} (h : Wf s) : Wf (fwReg s a v) := by
  unfold fwReg
  exact wf_writeWord h

theorem wf_fwFrame {s : State} {n entry cs dest addr len buf : Nat} (h : Wf s) :
    Wf (fwFrame s n entry cs dest addr len buf) := by
  unfold fwFrame
  extract_lets s1 s2
  have h1 : Wf s1 := wf_fwReg h
  have h2 : Wf s2 := wf_fwReg (wf_fwReg (wf_fwReg h1))
  exact wf_fwReg h2

theorem wf_startRead {s : State} {n cs a : Nat} (h : Wf s) : Wf (startRead s n cs a) := by
  unfold startRead
  split
  · exact wf_ite (wf_mapFw (wf_fwFrame h)) h
  · exact h

theorem wf_want {s : State} {n cs a len : Nat} (h : Wf s) : Wf (want s n cs a len) := by
  unfold want
  split
  · exact wf_startRead h
  · exact h

theorem wf_collect {s : State} (h : Wf s) : Wf (collect s) := by
  unfold collect
  exact wf_foldl (fun _ _ k1 => wf_ite k1 (wf_ite (wf_mapFw (wf_mapFw k1)) (wf_mapFw k1))) _ h

theorem wf_forget {s : State} {ns : List Nat} (h : Wf s) : Wf (forget s ns) := by
  unfold forget
  exact wf_mapFw h

theorem wf_fwJob {s : State} {l alg len : Nat} {expected : Option (List Byte)} (h : Wf s) :
    Wf (fwJob s l alg len expected) := by
  unfold fwJob
  extract_lets
  exact wf_fwReg (wf_wrMemN (wf_wrMemN h))

theorem wf_assertHolds {s : State} {e : CompEntry} (h : Wf s) : Wf (assertHolds s e).1 := by
  unfold assertHolds
  split
  · dsimp only
    exact h
  · exact wf_fwTry h

theorem wf_noteResponse {s : State} {c : Nat} (h : Wf s) : Wf (noteResponse s c) := by
  unfold noteResponse
  extract_lets
  exact wf_withUpd h

theorem wf_answerFlashFail {s : State} {n : Nat} (h : Wf s) : Wf (answerFlashFail s n) := by
  unfold answerFlashFail
  extract_lets s1
  have h1 : Wf s1.1 := by
    unfold s1
    refine wf_foldl_fst (fun _ _ k2 => ?_) _ ?_
    · exact wf_ite (wf_noteResponse (wf_assertHolds k2)) (wf_assertHolds k2)
    · exact h
  exact wf_ite h (wf_ite (wf_setLine h1) h1)

theorem wf_answerHoldPend {s : State} {c : Nat} (h : Wf s) : Wf (answerHoldPend s c) := by
  unfold answerHoldPend
  extract_lets s1
  have h1 : Wf s1.1 := by
    unfold s1
    split
    · exact wf_assertHolds h
    · dsimp only
      exact h
  exact wf_ite h (wf_ite (wf_fwReg (wf_noteResponse h1)) h1)

theorem wf_answerResponses {s : State} (h : Wf s) : Wf (answerResponses s) := by
  unfold answerResponses
  exact wf_foldl (fun _ _ k1 => wf_answerHoldPend k1) _ (wf_foldl (fun _ _ k2 => wf_answerFlashFail k2) _ h)

theorem wf_installProfile {s : State} {n : Nat} {p : List Byte} (h : Wf s) : Wf (installProfile s n p) := by
  unfold installProfile
  extract_lets s1
  have h1 : Wf s1 := wf_foldl (fun _ _ k2 => wf_fwReg k2) _ h
  exact wf_fwReg h1

theorem wf_putNote {s : State} {k : Nat} (h : Wf s) : Wf (putNote s k) := by
  unfold putNote
  exact wf_mapFw h

theorem wf_noteStageFails {s : State} {n : Nat} (h : Wf s) : Wf (noteStageFails s n) := by
  unfold noteStageFails
  refine wf_ite h (wf_putNote (wf_foldl (fun _ _ k1 => ?_) _ h))
  split
  · exact wf_fwLog k1
  · exact k1

theorem wf_refreshShadow {s : State} {m image : List Byte} (h : Wf s) : Wf (refreshShadow s m image) := by
  unfold refreshShadow
  exact wf_ite h (wf_wrMemN h)

theorem wf_stageTry {s : State} {n : Nat} {t : StageSource} (h : Wf s) : Wf (stageTry s n t) := by
  unfold stageTry
  extract_lets _ _ _ _ s1 s2 _ s3 s4
  have h1 : Wf s1 := wf_foldl (fun _ _ k5 => wf_wrMemN k5) _ h
  have h2 : Wf s2 := wf_fwLog h1
  have h3 : Wf s3 := wf_keepStage h1
  have h4 : Wf s4.1 := wf_fwTry h3
  split
  · exact wf_want h
  · exact wf_ite (wf_withUpd h2) (wf_ite (wf_forget (wf_ite (wf_refreshShadow h4) h4)) h4)

theorem wf_bootStage {s : State} {n : Nat} (h : Wf s) : Wf (bootStage s n) := by
  unfold bootStage
  extract_lets s1
  have h1 : Wf s1 := wf_noteStageFails h
  split
  · exact wf_want h
  · split
    · exact wf_ite h1 (wf_putNote (wf_noStage h1))
    · exact wf_ite h1 (wf_stageTry h1)

theorem wf_wantConsist {s : State} {x : Nat} (h : Wf s) : Wf (wantConsist s x) := by
  unfold wantConsist
  exact wf_ite (wf_want h) (wf_want h)

theorem wf_noteConsistFails {s : State} (h : Wf s) : Wf (noteConsistFails s) := by
  unfold noteConsistFails
  refine wf_ite h (wf_putNote (wf_foldl (fun _ _ k1 => ?_) _ h))
  split
  · exact wf_fwLog k1
  · exact k1

theorem wf_copyConsist {s : State} {r : Reader} (h : Wf s) : Wf (copyConsist s r) := by
  unfold copyConsist
  exact wf_wrMemN h

theorem wf_verifyAll {s : State} (h : Wf s) : Wf (verifyAll s) := by
  unfold verifyAll
  exact wf_foldl (fun _ _ k1 => wf_ite k1 (wf_setCompState k1)) _ h

theorem wf_selectConsist {s : State} (h : Wf s) : Wf (selectConsist s) := by
  unfold selectConsist
  extract_lets s1
  have h1 : Wf s1 := wf_noteConsistFails h
  split
  · exact wf_wantConsist h
  · split
    · exact h1
    · exact wf_forget (wf_consistAccepted (wf_verifyAll (wf_ite h1 (wf_copyConsist h1))))

theorem wf_configureHolds {s : State} (h : Wf s) : Wf (configureHolds s) := by
  unfold configureHolds
  extract_lets s1
  have h1 : Wf s1 := wf_foldl (fun _ _ k2 => wf_ite (wf_fwReg k2) k2) _ h
  exact wf_ite h (wf_fwReg h1)

theorem wf_configureSection {s : State} {n : Nat} (h : Wf s) : Wf (configureSection s n) := by
  unfold configureSection
  extract_lets
  split
  · exact h
  · extract_lets _ s1 s2 s3 s4 s5 s6
    have h1 : Wf s1 := wf_fwReg h
    have h2 : Wf s2 := wf_fwReg h1
    have h3 : Wf s3 := wf_fwReg h2
    have h4 : Wf s4 := wf_fwReg h3
    have h5 : Wf s5 := wf_fwReg h4
    have h6 : Wf s6 := wf_foldl (fun _ _ k7 => wf_fwReg k7) _ h5
    split
    · exact h
    · exact wf_mapFw (wf_installProfile h6)

theorem wf_startVerification {s : State} (h : Wf s) : Wf (startVerification s) := by
  unfold startVerification
  extract_lets _ s1
  have h1 : Wf s1 := wf_foldl (fun _ _ k2 => wf_configureSection k2) _ h
  exact wf_ite h (wf_ite h1 (wf_fwTry h1))

theorem wf_bootStep {s : State} (h : Wf s) : Wf (bootStep s) := by
  unfold bootStep
  extract_lets s1 s2
  have h1 : Wf s1 := wf_ite h (wf_installProfile h)
  have h2 : Wf s2 := wf_configureHolds h
  exact wf_ite h (wf_ite (wf_bootStage h1) (wf_ite (wf_bootStage h) (wf_ite (wf_selectConsist h) (wf_ite
      (wf_startVerification h2) h2))))

/-! ### Verifier -/

theorem wf_readManifests {s : State} {e : CompEntry} {xs : List Nat} (h : Wf s) : Wf (readManifests s e xs).1 := by
  unfold readManifests
  extract_lets
  dsimp only
  exact wf_foldl (fun _ _ k1 => wf_want k1) _ h

theorem wf_failSlot {s : State} {e : CompEntry} {x : Nat} {why : Nat × Nat} (h : Wf s) : Wf (failSlot s e x why) := by
  unfold failSlot
  extract_lets s1
  have h1 : Wf s1 := by
    unfold s1
    split
    · exact wf_ite h (wf_secLog h)
    · exact h
  exact wf_verifyFail h1

theorem wf_identStep {s : State} {n : Nat} (h : Wf s) : Wf (identStep s n) := by
  unfold identStep
  extract_lets
  refine wf_ite h (wf_ite ?_ (wf_ite ?_ (wf_ite h ?_)))
  · split
    · exact wf_fwFrame h
    · exact h
  · split
    · exact wf_fwFrame h
    · exact h
  · split
    · exact wf_fwFrame (wf_fwJob h)
    · exact h

theorem wf_captureStep {s : State} {e : CompEntry} (h : Wf s) : Wf (captureStep s e) := by
  unfold captureStep
  refine wf_foldl (fun _ _ k1 => ?_) _ h
  split
  · exact wf_ite (wf_fwFrame k1) k1
  · exact k1

theorem wf_armRegion {s : State} {n b : Nat} {g : Region} (h : Wf s) : Wf (armRegion s n b g) := by
  unfold armRegion
  split
  · extract_lets s1
    have h1 : Wf s1 := wf_fwReg (wf_fwReg (wf_fwReg h))
    exact wf_fwReg h1
  · exact h

theorem wf_armExtents {s : State} {e : CompEntry} {q : Check} {x : Nat} (h : Wf s) : Wf (armExtents s e q x) := by
  unfold armExtents
  extract_lets s1 _ s2
  have h1 : Wf s1 := wf_foldl (fun _ _ k5 => wf_freeBank k5) _ h
  have h2 : Wf s2 := wf_ite (wf_fwL (wf_foldl (fun _ _ k4 => wf_freeBank k4) _ h1)) h1
  exact wf_foldl (fun _ _ k3 => wf_armRegion k3) _ h2

theorem wf_loadBank {s : State} {k : SectionRec} {x : Nat} (h : Wf s) : Wf (loadBank s k x) := by
  unfold loadBank
  extract_lets _ _ s1 s2 s3
  have h1 : Wf s1 := wf_wrMemN (wf_wrMemN h)
  have h2 : Wf s2 := wf_fwReg (wf_fwReg h1)
  have h3 : Wf s3 := wf_fwReg (wf_fwReg h2)
  exact wf_ite h (wf_fwReg h3)

theorem wf_startImage {s : State} {e : CompEntry} {x k : Nat} {i : Image} (h : Wf s) : Wf (startImage s e x k i) := by
  unfold startImage
  extract_lets _ _ s1
  have h1 : Wf s1 := wf_ite (wf_fwReg (wf_fwReg (wf_fwReg h))) h
  refine wf_ite h ?_
  split
  · exact h
  · extract_lets s2
    have h2 : Wf s2 := wf_fwFrame (wf_fwJob h1)
    exact wf_mapFw h2

theorem wf_dropStale {s : State} (h : Wf s) : Wf (dropStale s) := by
  unfold dropStale
  refine wf_foldl (fun _ _ k1 => wf_ite k1 ?_) _ h
  split
  · exact wf_ite (wf_mapFw (wf_exmAbort k1)) k1
  · exact wf_mapFw k1

theorem wf_beginCheck {s : State} {e : CompEntry} {why : Nat} {slots : List Nat} {pick : Option Nat} (h : Wf s) :
    Wf (beginCheck s e why slots pick) := by
  unfold beginCheck
  extract_lets _ s1 s2 s3
  have h1 : Wf s1 := wf_forget h
  have h2 : Wf s2 := wf_foldl (fun _ _ k4 => wf_setLine k4) _ h1
  have h3 : Wf s3 := wf_mapFw h2
  exact wf_putCheck h3

theorem wf_holdComp {s : State} {e : CompEntry} (h : Wf s) : Wf (holdComp s e) := by
  unfold holdComp
  exact wf_heldNoSlot (wf_dropCheck h)

theorem wf_noSlot {s : State} {e : CompEntry} {q : Check} (h : Wf s) : Wf (noSlot s e q) := by
  unfold noSlot
  extract_lets _ s1
  have h1 : Wf s1.1 := wf_recoveryBegin h
  exact wf_ite (wf_putCheck h) (wf_ite (wf_holdComp h) (wf_ite (wf_ite h (wf_ite (wf_dropCheck h1) h1)) (wf_ite
      (wf_putCheck h) (wf_holdComp h))))

theorem wf_chooseSlot {s : State} {e : CompEntry} {q : Check} (h : Wf s) : Wf (chooseSlot s e q) := by
  unfold chooseSlot
  extract_lets _ s1 s2
  have h1 : Wf s1.1 := wf_readManifests h
  have h2 : Wf s2 := by
    refine wf_foldl (fun _ _ k3 => ?_) _ h1
    split
    · exact wf_failSlot k3
    · exact k3
  refine wf_ite h1 ?_
  split
  · exact h2
  · exact wf_noSlot h2
  · exact wf_noSlot h2
  · exact wf_putCheck h2
  · exact wf_putCheck h2

theorem wf_readSlot {s : State} {e : CompEntry} {q : Check} {x : Nat} (h : Wf s) : Wf (readSlot s e q x) := by
  unfold readSlot
  extract_lets _ s1 s2
  have h1 : Wf s1 := wf_ite (wf_fwL h) h
  have h2 : Wf s2.1 := wf_readManifests h1
  refine wf_ite (wf_putCheck (wf_armExtents h)) ?_
  split
  · exact wf_ite (wf_loadBank h) (wf_ite (wf_holdComp h) (wf_verifyFail h))
  · refine wf_ite h2 ?_
    split
    · exact wf_failSlot h1
    · exact wf_foldl (fun _ _ k3 => wf_ite k3 (wf_startImage k3)) _ h1

theorem wf_checkStep {s : State} {q : Check} (h : Wf s) : Wf (checkStep s q) := by
  unfold checkStep
  split
  · exact wf_dropCheck h
  · extract_lets s1
    have h1 : Wf s1 := wf_captureStep h
    refine wf_ite h (wf_ite h ?_)
    split
    · exact wf_identStep h
    · split
      · exact wf_chooseSlot h1
      · exact wf_readSlot h1

theorem wf_beginChecks {s : State} (h : Wf s) : Wf (beginChecks s) := by
  unfold beginChecks
  exact wf_foldl (fun _ _ k1 => wf_beginCheck k1) _ h

theorem wf_acceptStep {s : State} (h : Wf s) : Wf (acceptStep s) := by
  unfold acceptStep
  extract_lets _ _ _ _ _ s1
  have h1 : Wf s1 := wf_mapFw h
  exact wf_ite h (wf_fwTry h1)

theorem wf_releaseStep {s : State} (h : Wf s) : Wf (releaseStep s) := by
  unfold releaseStep
  extract_lets _ _ s1
  have h1 : Wf s1 := wf_foldl (fun _ _ k2 => wf_setCompState k2) _ h
  split
  · exact h1
  · exact wf_fwTry h1

/-! ### Renewal -/

theorem wf_switchUpdate {s : State} {e : CompEntry} {x : Nat} (h : Wf s) : Wf (switchUpdate s e x) := by
  unfold switchUpdate
  extract_lets s1
  have h1 : Wf s1 := wf_mapFw h
  exact wf_ite h (wf_fwTry h1)

theorem wf_failUpdate {s : State} {e : CompEntry} {x : Nat} (h : Wf s) : Wf (failUpdate s e x) := by
  unfold failUpdate
  extract_lets
  exact wf_fwTry h

theorem wf_abandonUpdate {s : State} {c cause : Nat} (h : Wf s) : Wf (abandonUpdate s c cause) := by
  unfold abandonUpdate
  extract_lets s1 s2
  have h1 : Wf s1 := wf_fwLog h
  have h2 : Wf s2 := wf_updAnswer (wf_updClose h1)
  exact wf_mapFw h2

theorem wf_updateStep {s : State} (h : Wf s) : Wf (updateStep s) := by
  unfold updateStep
  refine wf_ite h ?_
  split
  · exact h
  · extract_lets
    split
    · exact wf_ite (wf_failUpdate h) (wf_ite h (wf_abandonUpdate (wf_dropCheck h)))
    · exact wf_ite (wf_abandonUpdate h) (wf_ite (wf_beginCheck h) (wf_failUpdate h))
    · exact wf_ite (wf_switchUpdate h) h
    · exact wf_beginCheck (wf_fwL h)

theorem wf_trialStep {s : State} (h : Wf s) : Wf (trialStep s) := by
  unfold trialStep
  extract_lets s1
  have h1 : Wf s1 := by
    refine wf_foldl (fun _ _ k3 => ?_) _ h
    split
    · exact wf_ite (wf_dropCheck (wf_setCompState k3)) k3
    · exact k3
  exact wf_ite h1 (wf_foldl (fun _ _ k2 => wf_ite (wf_revertTrial k2) k2) _ (wf_confirmReady h1))

theorem wf_restoreWant {s : State} {r : Restore} {o n : Nat} (h : Wf s) : Wf (restoreWant s r o n) := by
  unfold restoreWant
  refine wf_ite h ?_
  split
  · extract_lets
    exact wf_want h
  · exact h

theorem wf_putRestore {s : State} {r : Restore} (h : Wf s) : Wf (putRestore s r) := by
  unfold putRestore
  exact wf_mapFw h

theorem wf_restoreDone {s : State} {r : Restore} (h : Wf s) : Wf (restoreDone s r) := by
  unfold restoreDone
  extract_lets s1 _ s2 _ _ s3
  have h1 : Wf s1 := wf_mapFw h
  have h2 : Wf s2 := wf_withUpd h1
  have h3 : Wf s3 := wf_ite (wf_mapFw (wf_mapFw (wf_forget h2))) (wf_mapFw (wf_forget h2))
  refine wf_ite ?_ (wf_ite (wf_signalBoxReset (wf_mapFw (wf_forget h2))) (wf_ite (wf_withUpd h3) (wf_ite (wf_mapFw
      (wf_forget h2)) (wf_fwL (wf_forget h2)))))
  split
  · exact wf_beginCheck h2
  · exact h2

theorem wf_restoreNext {s : State} {r : Restore} {n size : Nat} (h : Wf s) : Wf (restoreNext s r n size) := by
  unfold restoreNext
  extract_lets
  refine wf_ite (wf_putRestore h) ?_
  split
  · exact wf_putRestore h
  · exact wf_ite (wf_restoreDone h) (wf_putRestore h)

theorem wf_restoreFrame {s : State} {r : Restore} {n cs base : Nat} (h : Wf s) : Wf (restoreFrame s r n cs base) := by
  unfold restoreFrame
  extract_lets
  refine wf_ite ?_ ?_
  · split
    · exact wf_putRestore (wf_fwFrame h)
    · exact h
  · split
    · exact wf_putRestore (wf_fwFrame (wf_wrMemN h))
    · exact h

theorem wf_restoreStep {s : State} (h : Wf s) : Wf (restoreStep s) := by
  unfold restoreStep
  split
  · exact h
  · extract_lets
    split
    · exact h
    · extract_lets
      refine wf_ite h ?_
      split
      · split
        · exact wf_want h
        · exact wf_ite (wf_putRestore (wf_fwFrame h)) (wf_restoreWant h)
        · exact h
      · exact wf_ite (wf_restoreFrame h) (wf_putRestore h)
      · split
        · exact wf_restoreNext h
        · extract_lets
          exact wf_ite (wf_putRestore h) (wf_ite (wf_restoreNext h) (wf_putRestore (wf_fwFrame h)))

theorem wf_restoreStart {s : State} (h : Wf s) : Wf (restoreStart s) := by
  unfold restoreStart
  extract_lets
  refine wf_ite h ?_
  split
  · extract_lets s1
    have h1 : Wf s1 := wf_ite (wf_fwL h) h
    exact wf_ite (wf_putRestore h1) h
  · exact wf_ite (wf_putRestore h) h

theorem wf_recoverStep {s : State} (h : Wf s) : Wf (recoverStep s) := by
  unfold recoverStep
  extract_lets
  split
  · exact h
  · split
    · exact h
    · extract_lets _ s1
      have h1 : Wf s1.1 := wf_readManifests h
      refine wf_ite (wf_ite (wf_mapFw h) (wf_updAnswer (wf_mapFw h))) (wf_ite h1 ?_)
      split
      · exact wf_ite (wf_mapFw h) (wf_updAnswer (wf_mapFw h))
      · exact wf_ite (wf_mapFw h) (wf_updAnswer (wf_mapFw h))
      · extract_lets s2
        have h2 : Wf s2.1 := wf_recoveryBegin h
        exact wf_ite h (wf_ite (wf_mapFw h2) h2)

theorem wf_refuseHandover {s : State} {cause : Nat} (h : Wf s) : Wf (refuseHandover s cause) := by
  unfold refuseHandover
  extract_lets _ s1
  have h1 : Wf s1 := wf_mapFw (wf_fwL h)
  exact wf_fwLog h1

theorem wf_handoverVerify {s : State} (h : Wf s) : Wf (handoverVerify s) := by
  unfold handoverVerify
  refine wf_ite (wf_want h) (wf_ite (wf_wantConsist h) ?_)
  generalize (handoverSlot s).2.2 + 16384 = a
  generalize slotManifest s (handoverSlot s) = m
  cases hf : handoverFault s m with
  | some c =>
    simp only [hf]
    exact wf_refuseHandover h
  | none =>
    simp only [hf]
    have h1 (l : List (Fin 2)) (image : List Byte) : Wf (l.foldl (fun s c => s.wrMemN (areaQ s c) image) s) :=
      wf_foldl (fun _ _ k => wf_wrMemN k) l h
    refine wf_ite (wf_want h) (wf_ite (wf_refuseHandover (h1 _ _)) (wf_ite (wf_fwTry ?_) (h1 _ _)))
    split
    · exact wf_mapFw (wf_copyConsist (wf_keepStage (wf_fwL (h1 _ _))))
    · exact wf_keepStage (wf_fwL (h1 _ _))

theorem wf_handoverStep {s : State} (h : Wf s) : Wf (handoverStep s) := by
  unfold handoverStep
  split
  · exact wf_handoverVerify h
  · split
    · exact wf_loadBank h
    · exact wf_ite h (wf_fwL (wf_restartCore h))
  · exact wf_ite (wf_fwL h) h
  · exact wf_fwL h
  · exact wf_fwTry h
  · exact h

theorem wf_serviceStep {s : State} (h : Wf s) : Wf (serviceStep s) := by
  unfold serviceStep
  extract_lets s1 s2 s3
  have h1 : Wf s1 := wf_beginChecks (wf_dropStale h)
  have h2 : Wf s2 := by
    refine wf_foldl (fun _ _ k4 => ?_) _ h1
    split
    · exact wf_checkStep k4
    · exact k4
  have h3 : Wf s3 := wf_releaseStep (wf_acceptStep (wf_updateStep h2))
  exact wf_handoverStep (wf_recoverStep (wf_restoreStep (wf_restoreStart (wf_trialStep h3))))

theorem wf_firmware {s : State} (h : Wf s) : Wf (firmware s) := by
  unfold firmware
  extract_lets s1 s2
  have h1 : Wf s1 := wf_setBit h
  have h2 : Wf s2 := wf_bootStep (wf_answerResponses (wf_collect h1))
  exact wf_ite h1 (wf_ite (wf_serviceStep h2) (wf_restoreStep (wf_restoreStart h2)))

/-! ### Tick -/

theorem wf_ageEntries {s : State} (h : Wf s) : Wf (ageEntries s) := by
  unfold ageEntries
  exact wf_foldl (fun _ _ k1 => wf_ite (wf_inc k1) k1) _ h

theorem wf_tick {s : State} (h : Wf s) : Wf (tick s) := by
  unfold tick
  extract_lets _ s1 s2 s3
  have h1 : Wf s1 := wf_withOtLcs h
  have h2 : Wf s2 := wf_wr64 h1
  have h3 : Wf s3 := wf_ite (wf_syncTt (wf_ageEntries h2)) h2
  exact wf_ite h (wf_settle (wf_unpark (wf_firmware h3)))

/-! ### Idle -/

theorem wf_runRequest {r : Request} {s : State} (h : Wf s) : WfOut (runRequest r s) := by
  unfold runRequest
  split
  · exact wf_execUpdateBegin h
  · exact wf_execUpdateCommit h
  · exact wf_execTrialConfirm h
  · exact wf_execUpdateAbort h
  · exact wf_execRecover h
  · exact wf_execPushOpen h
  · exact wf_execPushData h
  · exact wf_execPushClose h
  · exact wf_execStatus h
  · exact wf_execLedgerOpen h
  · exact wf_execLedgerCommit h
  · exact wf_execLedgerResume h
  · exact wf_execLedgerRebuild h
  · exact wf_execLedgerClose h
  · exact wf_execRecordRetire h
  · exact wf_execRecordRead h
  · exact wf_execTtSet h
  · exact wf_execTtClear h
  · exact wf_execAuditRange h
  · exact wf_execReport h
  · exact wf_execInstCreate h
  · exact wf_execInstDestroy h
  · exact wf_execInstReset h
  · exact wf_execInstQuiesce h
  · exact wf_execInstResume h
  · exact wf_execInstQuery h
  · exact wf_execDirtyStart h
  · exact wf_execDirtyStop h
  · exact wf_execPoolQuery h
  · exact wf_execDsSet h
  · exact wf_execDsRefresh h
  · exact wf_execUnlock h
  · exact wf_execCellServiceOpen h
  · exact wf_execCellServiceClose h
  · exact wf_execFuseSource h
  · exact wf_execTamperStatus h
  · exact wf_execCorrelate h
  · exact wf_execStaffNonce h
  · exact wf_execLcsData h
  · exact wf_execStaffSubmit h
  · exact wf_execLcTransit h
  · exact wf_execEraseUserSecrets h
  · exact wf_execDebugArm h
  · exact wf_execOwnerKeySet h
  · exact wf_execLcStatus h
  · exact wf_execKeystoreLoad h
  · exact wf_execPlatformOff h
  · exact wf_execPlatformOn h
  · exact wf_execPowerStatus h
  · exact wf_execSnapshot h

theorem wf_idle {s : State} (h : Wf s) : WfOut (idle s) := by
  unfold idle
  split
  · exact wf_runRequest (wf_takeDelayed h)
  · exact wf_next (wf_tick h)

/-! ### Step -/

theorem wf_step {s : State} (h : Wf s) : WfOut (step s) := by
  unfold step
  split
  · exact wf_idle h
  · exact wf_exec (wf_withPending h)

end Sys2Proof.Machine
end

section
/-! O5: every step keeps the canonical form. -/

namespace Sys2Proof.Machine

/-- Settles O5: each command keeps the form (`wf_exec`), and so do a delayed request and a tick (`wf_idle`). -/
theorem stepKeepsForm : Obligations.StepKeepsForm := fun _ t h ht => wf_step h t ht

end Sys2Proof.Machine
end

end
